-- ==== Sys2Proof/Word.lean ====
section
/-! DEFINITION. The word types of the hub (R5, R9): a register word, a byte, and the plainest bounds of a sample. -/

namespace Sys2Proof

/-- A register word (R5): 32 bits on every transport. -/
abbrev Word := BitVec 32

/-- One byte of the shared SRAM or of a transport. -/
abbrev Byte := BitVec 8

/-- An internal audio sample (R9), as the integer its 32-bit two's complement word stands for. -/
abbrev Sample := Int

end Sys2Proof
end

