-- ==== Sys2Proof/Syntax.lean ====
section
/-! DEFINITION. The commands of the hub: one constructor per row of spec/opcode_table.json, with the operands that its rule names or
that the outside world brings (a written word, a received frame, a measured value, an elapsed time). -/

namespace Sys2Proof

/-- One received or sent IEC 60958 subframe (R247). -/
structure SpdSub where
  data : Nat
  parityErr : Bool
  codeErr : Bool
  v : Bool
  u : Bool
  c : Bool
deriving DecidableEq, Repr
/-- One received S/PDIF frame: its two subframes, and whether its first preamble is B, which starts a block of 192 frames (R246, R247). -/
structure SpdFrame where
  a : SpdSub
  b : SpdSub
  block : Bool
deriving DecidableEq, Repr
/-- What the SRAM word that the Skimmer visits holds, in banks whose layout the spec does not give (R31): nothing in use, a
delay-line or converter sample of a lane; a ring sample: of a serial port's receiver or transmitter, a USB OUT or IN interface, the
S/PDIF receiver or transmitter (`b` its subframe B), a PDM microphone; a coefficient word, a crosspoint, a guard model. -/
inductive SramItem
  | unused
  | delay (lane k : Nat)
  | buffer (lane k : Nat)
  | ring (port frame slot : Nat)
  | sapTx (port slot k : Nat)
  | usbOut (interface frame channel : Nat)
  | usbIn (interface channel k : Nat)
  | spdRx (frame : Nat) (b : Bool)
  | spdTx (b : Bool) (k : Nat)
  | mic (m : Nat)
  | coef (active : Bool) (lane word : Nat)
  | xp (active : Bool) (i : Nat)
  | guard (n : Nat)
deriving DecidableEq, Repr
/-- The Bellows registers that the floor check guards (R403). -/
inductive BlwReg
  | allot
  | base
  | thermCfg
  | op
  | opCost
  | zone (z : Fin 6)
  | taskCfg (t : Fin 64)
  | taskCost (t : Fin 64)
deriving DecidableEq, Repr

/-- A command: a register write by an initiator, a transfer on a bus, an event at a ball, a converter or a clock, a timed end. An
initiator is coded as in R69: 0 SMBus, 1 USB, 2 image loader, 3 JTAG, 4 internal. -/
inductive Instr
  /-- POWER_ON_RESET (R51): The AON or core power-on reset ends 1 ms after the last watched rail crosses its rising threshold, and this starts a cold start. Operands: the AON power-on reset (else the core one). -/
  | powerOnReset (aon : Bool)
  /-- RESET_N_PULSE (R42): A filtered low pulse on RESET_N resets the hub from any state; its end starts a cold boot. -/
  | resetNPulse
  /-- REQUIRED_RAIL_LOSS (R52): A required rail falls below its falling threshold; the hub mutes every output through the hold path and enters reset. -/
  | requiredRailLoss
  /-- AONVDD_LOSS (R52): AONVDD falls below 1.55 V; AON state is lost and the next power-up is a cold boot. -/
  | aonvddLoss
  /-- OPTIONAL_RAIL_GOOD (R51): HPVDD, USBVDD or PVDD becomes good, and the blocks that depend on that rail may power up. Operands: 0 HPVDD, 1 USBVDD, 2 PVDD. -/
  | optionalRailGood (rail : Fin 3)
  /-- COLD_START (R480): The cold start runs strap sensing, the OTP load, the crystal and FLL start, the full wipe, PLL A lock and the BOOT_SEL action. Operands: strap levels; IOVDD at 3.3 V; the OTP read verified; levels of FREEZE and MIC_PRIVACY_N; rails good; PGOOD. -/
  | coldStart (addr : Fin 4) (boot : Fin 4) (io3 : Bool) (otpOk : Bool) (freeze : Bool) (privacy : Bool) (hpvdd : Bool) (usbvdd : Bool) (pvdd : Bool) (pgood : Bool)
  /-- VHOLD_READY (R53): VHOLD exceeds 3.8 V, so outputs that are waiting may leave mute. -/
  | vholdReady
  /-- WAKE_N_LOW (R373): A filtered low level on WAKE_N wakes the hub, or starts a cold boot when the hub is in OFF. Operand: whether the ball stays low; while it is low a further command with false says that it has gone high. -/
  | wakeNLow (held : Bool)
  /-- MIC_PRIVACY_ASSERT (R95): MIC_PRIVACY_N is asserted; microphone data are zeroed at the converters and the listening history is wiped. -/
  | micPrivacyAssert
  /-- MIC_PRIVACY_RELEASE (R95): MIC_PRIVACY_N is released; microphone data return and ramp up over 5 ms. -/
  | micPrivacyRelease
  /-- FREEZE_BALL_HIGH (R43): FREEZE goes high and requests freeze, subject to the life-cycle permissions. Operands: the ball has been low for 1 µs since reset ended. -/
  | freezeBallHigh (rearmed : Bool)
  /-- MAINS_SYNC_EDGE (R283): A filtered MAINS_SYNC edge feeds the mains frequency tracker and can trigger the sense sequence. Operands: the edge's polarity; the period since the last edge of that polarity, in 1/24 MHz. -/
  | mainsSyncEdge (falling : Bool) (period : Nat)
  /-- MAINS_INVALID_TIMEOUT (R283): With no accepted mains period for 100 ms, VALID clears and INVALIDS increments. -/
  | mainsInvalidTimeout
  /-- PGOOD_FALL (R381): PGOOD falls outside a voltage request; the engine divider drops to OP0 at once. Operands: the STATUS_WORD read then. -/
  | pgoodFall (status : Nat)
  /-- ENGINE_FRAME (R17): An engine frame delivers inputs, runs the INBOUND lanes, the Churn, the OUTBOUND lanes and the sinks, in that order. Operands: raw samples of analogue, PDM and sense sources by source ID, in 24-bit LSB, in order (0x100 and 0x101 the shadowing spare ADC slice of a group, 0x120 to 0x12F and 0x130, 0x131 the newest modulator samples of the inputs' slices and of those spares, 0x110 to 0x117 and 0x118 to 0x11B the current-limit comparator of an output and of a speaker); residue errors of the frame: MAC unit, lane, whether the spare shows it. -/
  | engineFrame (inputs : List (Nat × Int)) (residues : List (Nat × Nat × Bool))
  /-- TRACKER_EDGE (R279): A tracked domain's frame edge arrives and is timestamped and judged by its tracker. Operands: tracker t; the frame period in 5.09 ns ticks. -/
  | trackerEdge (t : Fin 10) (period : Nat)
  /-- TRACKER_WINDOW_END (R279): An averaging window of 16 frames or 2 ms ends, and the tracker updates its rate. Operands: tracker t. -/
  | trackerWindowEnd (t : Fin 10)
  /-- TRACKER_STOP (R22): No edge arrives within the stop period; the tracker enters HOLDOVER and the lanes ramp to zero. Operands: tracker t. -/
  | trackerStop (t : Fin 10)
  /-- TRACKER_RATE_CHANGE (R281): The rate-change count reaches 8, or a third consecutive glitch occurs; the lanes ramp to zero and the tracker reacquires. Operands: tracker t. -/
  | trackerRateChange (t : Fin 10)
  /-- ACQUISITION_TIMEOUT (R23): Acquisition does not reach LOCKED within 40 ms; the tracker enters UNLOCKED and raises its unlock interrupt. Operands: tracker t. -/
  | acquisitionTimeout (t : Fin 10)
  /-- TRACKER_ENDPOINT_OFF (R278): The tracker's endpoint leaves tracked operation; the tracker goes to UNLOCKED and its lanes get the stop response. Operands: tracker t. -/
  | trackerEndpointOff (t : Fin 10)
  /-- USB_SOF (R282): A USB SOF, recovered or predicted, is the USB tracker's edge and times the feedback count. Operands: the SOF is missing and a predicted one stands for it; ticks of 5.09 ns since the last SOF. -/
  | usbSof (missing : Bool) (period : Nat)
  /-- BELLOWS_TICK (R27): The 1 ms budget tick latches inputs, updates the reservoir and zones, predicts the ceilings, admits tasks and issues its outputs. Operands: die temperatures in 1/16 °C; the level of PGOOD. -/
  | bellowsTick (d0 : Int) (d1 : Int) (d2 : Int) (d3 : Int) (pgood : Bool)
  /-- OP_LOWER (R400): After LOWER_HOLD ticks below OP_NOW, Bellows lowers the engine clock and then requests the lower voltage. -/
  | opLower
  /-- THERMAL_TRIP_END (R396): Every valid sensor has read below T_LIM minus 5 °C for 1,000 ticks, and the trip ends. -/
  | thermalTripEnd
  /-- OVERBUDGET_FAULT (R399): After 100 consecutive overbudget ticks, Bellows sets FAULT 0x02. -/
  | overbudgetFault
  /-- COLD_PERIOD_END (R395): COLD_TIME seconds after a cold start, COLD clears and COLD_END is raised. -/
  | coldPeriodEnd
  /-- PVDD_WARN (R390): The 32nd consecutive drone-0 result below WARN enters sag, and the allotment drops to P_SAG at the next tick. -/
  | pvddWarn
  /-- PVDD_WARN_END (R390): After 50 consecutive good ticks, the allotment is restored and SAG clears. -/
  | pvddWarnEnd
  /-- PVDD_CRIT (R120): PVDD crosses below CRIT; the hold path mutes every output within 200 µs on VHOLD energy. -/
  | pvddCrit
  /-- COLLAPSE_RESTART (R120): After 50 ms of PVDD above CRIT with VHOLD above 3.8 V, the outputs ramp back up over 5 ms. -/
  | collapseRestart
  /-- REG_WRITE (R70): A write to a register that has no row of its own is checked word by word and performed. Operands: initiator; the address as received; the words. -/
  | regWrite (ini : Fin 5) (addr : BitVec 24) (words : List Word)
  /-- PG_ERR_CLR (R60): PG_CTRL.ERR_CLR clears the page's violation record, and its fault code if the fault has ended. Operands: initiator; page; the word for its PG_CTRL, ERR_CLR set. -/
  | pgErrClr (ini : Fin 5) (page : Fin 96) (w : Word)
  /-- DBG_VIOL_CLEAR (R74): DBG_VIOL_CTRL.CLEAR clears the five violation log registers. Operands: initiator; the word for DBG_VIOL_CTRL, CLEAR set. -/
  | dbgViolClear (ini : Fin 5) (w : Word)
  /-- AIN_MODE_WRITE (R89): A MODE write starts, reconfigures or stops an input. Operands: initiator; input n; the word for AINn_CTRL. -/
  | ainModeWrite (ini : Fin 5) (n : Fin 16) (w : Word)
  /-- AIN_FMT_WRITE (R89): A RATE or FILTER write reconfigures a running input with a mute ramp and a refill. Operands: initiator; input n; the word for AINn_FMT. -/
  | ainFmtWrite (ini : Fin 5) (n : Fin 16) (w : Word)
  /-- AIN_PAIR_ENABLE_WRITE (R88): Setting or clearing an AIN pair page ENABLE starts or stops its inputs. Operands: initiator; pair k; the word for PG_CTRL of AINPk. -/
  | ainPairEnableWrite (ini : Fin 5) (k : Fin 8) (w : Word)
  /-- AIN_START (R88): An input runs its start sequence of power-up, VREFA, calibration, decimator fill and unmute ramp. Operands: input n: its front end and slice have settled. -/
  | ainStart (n : Fin 16)
  /-- AIN_RUNNING (R88): The unmute ramp ends; the input is RUNNING and raises READY. Operands: input n. -/
  | ainRunning (n : Fin 16)
  /-- AIN_MUTE_WRITE (R90): A MUTE write ramps the decimated output to or from zero over 1 ms. Operands: initiator; input n; the word for AINn_CTRL. -/
  | ainMuteWrite (ini : Fin 5) (n : Fin 16) (w : Word)
  /-- AIN_CAL_NOW (R91): CAL_NOW on a running input runs a 4 ms offset calibration. Operands: initiator; input n; the word for AINn_CTRL, CAL_NOW set. -/
  | ainCalNow (ini : Fin 5) (n : Fin 16) (w : Word)
  /-- AIN_CAL_DONE (R91): The 2 ms offset measurement ends; OFFSET is written, or CAL_FAIL is set. Operands: input n; the measured offset in 24-bit LSB. -/
  | ainCalDone (n : Fin 16) (offset : Int)
  /-- AIN_PGA_WRITE (R78): A GAIN write retargets the PGA stepping. Operands: initiator; input n; the word for AINn_PGA. -/
  | ainPgaWrite (ini : Fin 5) (n : Fin 16) (w : Word)
  /-- AIN_PGA_STEP (R78): The PGA applies one 0.5 dB step at a zero crossing, at the 2 ms fallback, or every 32 samples. Operands: input n. -/
  | ainPgaStep (n : Fin 16)
  /-- AIN_DC_HPF_WRITE (R87): A DC_HPF write changes the corner at the next output sample. Operands: initiator; input n; the word for AINn_FMT. -/
  | ainDcHpfWrite (ini : Fin 5) (n : Fin 16) (w : Word)
  /-- AIN_CLR_COUNT (R103): CLR_COUNT clears the input's clip event count. Operands: initiator; input n; the word for AINn_CLIP, CLR_COUNT set. -/
  | ainClrCount (ini : Fin 5) (n : Fin 16) (w : Word)
  /-- AIN_OVERLOAD_RESET (R92): After 4 consecutive overloaded modulator samples, the modulator is reset. Operands: input n; the comparator's polarity. -/
  | ainOverloadReset (n : Fin 16) (negative : Bool)
  /-- AIN_OVERLOAD_END (R93): The input returns within its full scale; OVL_NOW clears and RECOVERING sets. Operands: input n. -/
  | ainOverloadEnd (n : Fin 16)
  /-- AIN_RECOVERY_END (R93): The overload recovery time ends and RECOVERING clears. Operands: input n. -/
  | ainRecoveryEnd (n : Fin 16)
  /-- MICBIAS_CTRL_WRITE (R79): A write of EN or LEVEL ramps a mic bias on, off or between levels. Operands: initiator; the word for AUX_MICBIAS_CTRL. -/
  | micbiasCtrlWrite (ini : Fin 5) (w : Word)
  /-- MICBIAS_READY (R79): A bias ramp ends and READY sets. Operands: bias m. -/
  | micbiasReady (m : Fin 4)
  /-- MICBIAS_OVERCURRENT (R79): After 10 ms in current limit, a bias turns off and AUX FAULT is set to 0x01. Operands: bias m. -/
  | micbiasOvercurrent (m : Fin 4)
  /-- BEEP_CTRL_WRITE (R81): An AUX_BEEP_CTRL write starts, stops, mutes or reconfigures BEEP. Operands: initiator; the word for AUX_BEEP_CTRL. -/
  | beepCtrlWrite (ini : Fin 5) (w : Word)
  /-- VREFA_READY (R88): VREFA soft-start completes and VREFA_READY sets. -/
  | vrefaReady
  /-- VREFA_NOT_READY (R106): VREFA is not ready 20 ms after soft-start began; AUX FAULT is set to 0x02. -/
  | vrefaNotReady
  /-- SLICE_STUCK_BIT (R98): A quantizer bit has not toggled for 65,536 samples; a fault substitution is posted. Operands: the slice that serves input n. -/
  | sliceStuckBit (n : Fin 16)
  /-- AUX_SUBST_START (R99): AUX_SUBST_REQ.START posts an ADC slice substitution job for INPUT. Operands: initiator; the word for AUX_SUBST_REQ, START set. -/
  | auxSubstStart (ini : Fin 5) (w : Word)
  /-- AUX_SUBST_ABORT (R102): AUX_SUBST_REQ.ABORT aborts a substitution in shadow; it is ignored during the crossfade. Operands: initiator; the word for AUX_SUBST_REQ, ABORT set. -/
  | auxSubstAbort (ini : Fin 5) (w : Word)
  /-- ADC_SHADOW_WINDOW_END (R101): A 256-sample shadow window ends; it passes, repeats or aborts the job. Operands: group g; signal RMS and residual in 0.1 dB below full scale, gain trim in 0.001 dB, offset difference in 24-bit LSB. -/
  | adcShadowWindowEnd (g : Fin 2) (level : Nat) (gain : Int) (offset : Int) (resid : Nat)
  /-- ADC_SUBST_DONE (R100): The crossfade ends; the new slice is in service and the released slice goes to TEST. Operands: group g. -/
  | adcSubstDone (g : Fin 2)
  /-- AOUT_EN_WRITE (R114): An EN or pair ENABLE write starts or stops a DAC channel. Operands: initiator; channel c; the word for AOUTc_CTRL, or for PG_CTRL of its pair. -/
  | aoutEnWrite (ini : Fin 5) (c : Fin 8) (pair : Bool) (w : Word)
  /-- AOUT_START (R114): A DAC channel runs its start sequence up to the 5 ms gain ramp. Operands: channel c. -/
  | aoutStart (c : Fin 8)
  /-- AOUT_RUNNING (R114): The start ramp ends; the channel is RUNNING or MUTED and raises READY. Operands: channel c. -/
  | aoutRunning (c : Fin 8)
  /-- AOUT_FMT_WRITE (R115): A RATE or FILTER write reconfigures a running channel. Operands: initiator; channel c; the word for AOUTc_FMT. -/
  | aoutFmtWrite (ini : Fin 5) (c : Fin 8) (w : Word)
  /-- AOP_HP_MODE_WRITE (R110): An HP_MODE write selects STEREO or BRIDGED and reconfigures both channels. Operands: initiator; pair k; the word for AOPk_PAIR. -/
  | aopHpModeWrite (ini : Fin 5) (k : Fin 4) (w : Word)
  /-- AOUT_MUTE_WRITE (R116): A MUTE write ramps the pop-control gain over MRAMP. Operands: initiator; channel c; the word for AOUTc_CTRL. -/
  | aoutMuteWrite (ini : Fin 5) (c : Fin 8) (w : Word)
  /-- AOUT_VOL_WRITE (R116): A VOL write moves the volume linearly in dB over VRAMP. Operands: initiator; channel c; the word for AOUTc_VOL. -/
  | aoutVolWrite (ini : Fin 5) (c : Fin 8) (w : Word)
  /-- CP_STOP_TIMEOUT (R117): 10 ms after the last headphone channel reaches OFF with FORCE_ON = 0, the charge pump stops. -/
  | cpStopTimeout
  /-- JCK_CP_FORCE_ON_WRITE (R117): FORCE_ON starts the charge pump or keeps it running. Operands: initiator; the word for JCK_CP_CTRL. -/
  | jckCpForceOnWrite (ini : Fin 5) (w : Word)
  /-- JCK_CP_RETRY (R137): RETRY restarts the charge pump after a fault. Operands: initiator; the word for JCK_CP_CTRL, RETRY set. -/
  | jckCpRetry (ini : Fin 5) (w : Word)
  /-- AOUT_ILIM_FAULT (R123): After 10 ms in current limit, the channel goes to FAULT behind its clamp. Operands: channel c. -/
  | aoutIlimFault (c : Fin 8)
  /-- DAC_ELEMENT_ERROR (R123): An element current is outside ±2 %; a fault DAC substitution is posted. Operands: the slice that serves channel c. -/
  | dacElementError (c : Fin 8)
  /-- CP_OVERCURRENT (R123): A pump rail carries above 450 mA for 50 µs; the headphones ramp down and the pump stops. -/
  | cpOvercurrent
  /-- CP_UNDERVOLTAGE (R123): A pump rail is below threshold for 100 µs while READY; the fault response runs. -/
  | cpUndervoltage
  /-- VREFB_READY (R114): VREFB soft-start completes and waiting channels continue. -/
  | vrefbReady
  /-- VREFB_NOT_READY (R123): VREFB is not ready 20 ms after soft-start began; JCK FAULT is set to 0x04. -/
  | vrefbNotReady
  /-- JCK_SUBST_START (R124): JCK_SUBST_REQ.START posts a DAC slice substitution job for CHANNEL. Operands: initiator; the word for JCK_SUBST_REQ, START set. -/
  | jckSubstStart (ini : Fin 5) (w : Word)
  /-- JCK_SUBST_ABORT (R125): JCK_SUBST_REQ.ABORT aborts a DAC substitution in shadow. Operands: initiator; the word for JCK_SUBST_REQ, ABORT set. -/
  | jckSubstAbort (ini : Fin 5) (w : Word)
  /-- DAC_SHADOW_WINDOW_END (R124): A DAC shadow window ends; it passes, repeats or aborts the job. Operands: as ADC_SHADOW_WINDOW_END. -/
  | dacShadowWindowEnd (g : Fin 2) (level : Nat) (gain : Int) (offset : Int) (resid : Nat)
  /-- DAC_SUBST_DONE (R124): The DAC crossfade ends; the new slice is in service and the old one goes to TEST. Operands: group g. -/
  | dacSubstDone (g : Fin 2)
  /-- JACK_EDGE (R127): A filtered HPn_DET level change moves the jack state machine. Operands: jack n; the filtered level. -/
  | jackEdge (n : Fin 2) (high : Bool)
  /-- JACK_DEBOUNCE_EXPIRE (R127): The debounce time ends; the jack goes to IDENTIFY, MEASURE or EMPTY. Operands: jack n. -/
  | jackDebounceExpire (n : Fin 2)
  /-- JACK_ID_MEASURE (R128): A timed identification measurement of the mic-contact ratio decides the TYPE or tries the other position. Operands: jack n; mic-contact voltage over bias level, in 1/65,536. -/
  | jackIdMeasure (n : Fin 2) (ratio : Nat)
  /-- JACK_IMPEDANCE_DONE (R134): An impedance measurement ends, results are written and the channels return. Operands: jack n; loads at tip and ring 1 in 0.5 ohm. -/
  | jackImpedanceDone (n : Fin 2) (zl : Nat) (zr : Nat)
  /-- JCK_IMP_MEASURE (R134): JCKn_IMP_CTRL.MEASURE starts an impedance measurement in INSERTED. Operands: initiator; jack n; the word for JCKn_IMP_CTRL, MEASURE set. -/
  | jckImpMeasure (ini : Fin 5) (n : Fin 2) (w : Word)
  /-- JACK_BUTTON_CHANGE (R133): A new button value holds for 20 ms, so BTN updates and BUTTON is raised. Operands: jack n; the ratio held for 20 ms, in 1/65,536. -/
  | jackButtonChange (n : Fin 2) (ratio : Nat)
  /-- JACK_BIAS_OVERCURRENT (R123): The jack bias is above 3.0 mA for 10 ms; the bias turns off and the jack goes to FAULT. Operands: jack n. -/
  | jackBiasOvercurrent (n : Fin 2)
  /-- JCK_BIAS_WRITE (R127): A JCKn_BIAS write sets the bias; EN_FORCE written 0 then 1 leaves FAULT. Operands: initiator; jack n; the word for JCKn_BIAS. -/
  | jckBiasWrite (ini : Fin 5) (n : Fin 2) (w : Word)
  /-- JCK_CLR_COUNT (R137): JCKn_EVENT.CLR_COUNT clears the insertion and removal counts. Operands: initiator; jack n; the word for JCKn_EVENT, CLR_COUNT set. -/
  | jckClrCount (ini : Fin 5) (n : Fin 2) (w : Word)
  /-- SPK_EN_WRITE (R154): An EN or ENABLE write starts a speaker channel, or stops it by R155. Operands: initiator; channel n; the word for SPKn_CTRL, or for PG_CTRL of its page. -/
  | spkEnWrite (ini : Fin 5) (n : Fin 4) (page : Bool) (w : Word)
  /-- SPK_START (R154): A speaker channel runs its start sequence up to the pop_gain ramp. Operands: channel n. -/
  | spkStart (n : Fin 4)
  /-- SPK_RUNNING (R154): The start ramp ends; the channel is RUNNING or MUTED and raises READY. Operands: channel n. -/
  | spkRunning (n : Fin 4)
  /-- SPK_FMT_WRITE (R141): An FS, RATE or FILTER write reconfigures a running speaker channel. Operands: initiator; channel n; the word for SPKn_FMT. -/
  | spkFmtWrite (ini : Fin 5) (n : Fin 4) (w : Word)
  /-- SPK_MUTE_WRITE (R155): A MUTE write ramps pop_gain over MRAMP. Operands: initiator; channel n; the word for SPKn_CTRL. -/
  | spkMuteWrite (ini : Fin 5) (n : Fin 4) (w : Word)
  /-- SPK_VOL_WRITE (R139): A VOL write ramps the speaker volume like AOUTc_VOL. Operands: initiator; channel n; the word for SPKn_VOL. -/
  | spkVolWrite (ini : Fin 5) (n : Fin 4) (w : Word)
  /-- SPK_PWM_WRITE (R143): A SPREAD or PHASE write takes effect at DIV = 512 or at the next start. Operands: initiator; channel n; the word for SPKn_PWM. -/
  | spkPwmWrite (ini : Fin 5) (n : Fin 4) (w : Word)
  /-- SPK_CEIL_RATED_WRITE (R145): A RATED write changes the host cap and the effective ceiling. Operands: initiator; channel n; the word for SPKn_CEIL. -/
  | spkCeilRatedWrite (ini : Fin 5) (n : Fin 4) (w : Word)
  /-- SPK_GUARD_CTRL_WRITE (R147): A GUARD_CTRL write enables the guard or its parts; EN from 0 to 1 seeds the models. Operands: initiator; channel n; the word for SPKn_GUARD_CTRL. -/
  | spkGuardCtrlWrite (ini : Fin 5) (n : Fin 4) (w : Word)
  /-- SPK_GUARD_RESEED (R150): RESEED reseeds the guard's models. Operands: initiator; channel n; the word for SPKn_GUARD_CTRL, RESEED set. -/
  | spkGuardReseed (ini : Fin 5) (n : Fin 4) (w : Word)
  /-- SPK_GUARD_UPDATE (R148): Every 1 ms the guard integrates its thermal model and updates g_th. Operands: channel n; PVDD at the stage in 10 mV, stage temperature in 1/16 degC. -/
  | spkGuardUpdate (n : Fin 4) (pvdd : Nat) (temp : Int)
  /-- SPK_RESISTANCE_BLOCK (R149): A 100 ms block ends; a valid block sets T_c, SEEDED and possibly OPEN_WARN. Operands: channel n. -/
  | spkResistanceBlock (n : Fin 4)
  /-- SPK_OVERCURRENT (R159): Switch current exceeds the overcurrent threshold; the stage goes to high impedance and FAULT. Operands: channel n; ms since the first overcurrent of the present 10 s window. -/
  | spkOvercurrent (n : Fin 4) (since : Nat)
  /-- SPK_OC_RETRY (R159): With OC_AUTO, the channel restarts 1 s after an overcurrent unless latched. Operands: channel n. -/
  | spkOcRetry (n : Fin 4)
  /-- SPK_CBC_FAULT (R159): The cycle-by-cycle limit is active in 50 % of periods over 100 ms; the channel stops. Operands: channel n. -/
  | spkCbcFault (n : Fin 4)
  /-- SPK_DC_FAULT (R159): The mean differential output is beyond ±2.0 V over 200 ms; the stage goes to high impedance. Operands: channel n. -/
  | spkDcFault (n : Fin 4)
  /-- SPK_OT_WARN (R159): The stage sensor crosses 125 °C or 120 °C and OT_WARN changes. Operands: channel n; stage temperature in 1/16 degC. -/
  | spkOtWarn (n : Fin 4) (temp : Int)
  /-- SPK_OT_FAULT (R159): The stage sensor exceeds the overtemperature threshold; the channel stops. Operands: channel n. -/
  | spkOtFault (n : Fin 4)
  /-- SPK_OT_RECOVER (R159): The stage sensor falls below 130 °C and the channel restarts. Operands: channel n. -/
  | spkOtRecover (n : Fin 4)
  /-- SPK_PVDD_UV (R159): PVDD is below 4.2 V for 10 µs; pop_gain ramps down and the stage goes to high impedance. Operands: channel n. -/
  | spkPvddUv (n : Fin 4)
  /-- SPK_UV_RECOVER (R159): After 50 ms above 4.4 V, the channel restarts. Operands: channel n. -/
  | spkUvRecover (n : Fin 4)
  /-- SPK_PVDD_OV (R159): PVDD is above the overvoltage threshold for 1 µs; the stage goes to high impedance. Operands: channel n. -/
  | spkPvddOv (n : Fin 4)
  /-- SPK_OV_RECOVER (R159): After 50 ms below 24.5 V, the channel restarts. Operands: channel n. -/
  | spkOvRecover (n : Fin 4)
  /-- SPK_SENSE_FAULT (R159): Sense disagrees with the commanded output by over 20 % for 10 ms; the guard applies g_seed only. Operands: channel n. -/
  | spkSenseFault (n : Fin 4)
  /-- SPK_SENSE_RECOVER (R159): After 1 s of agreement the sense fault clears and the guard reseeds. Operands: channel n. -/
  | spkSenseRecover (n : Fin 4)
  /-- LANE_ENABLE_WRITE (R163): Setting a lane's ENABLE starts it; clearing it ramps the lane to zero and stops it. Operands: initiator; lane n; the word for PG_CTRL of its page. -/
  | laneEnableWrite (ini : Fin 5) (n : Fin 48) (w : Word)
  /-- LANE_START (R174): A lane allocates and zeros its buffers, waits for its source, fills and ramps up. Operands: lane n. -/
  | laneStart (n : Fin 48)
  /-- LANE_RUNNING (R174): The 5 ms start ramp ends; the lane is RUNNING or MUTED and raises READY. Operands: lane n. -/
  | laneRunning (n : Fin 48)
  /-- LANE_CAP_ADMIT (R193): A start or change waiting for capacity proceeds once the operating point or stops make it fit. Operands: lane n. -/
  | laneCapAdmit (n : Fin 48)
  /-- LANE_SRC_WRITE (R169): A SOURCE or DIR change on a running lane restarts it on the new source. Operands: initiator; lane n; the word for LANEn_SRC. -/
  | laneSrcWrite (ini : Fin 5) (n : Fin 48) (w : Word)
  /-- LANE_OUT_WRITE (R168): A LANEn_OUT write sets an OUTBOUND lane's output domain and rate. Operands: initiator; lane n; the word for LANEn_OUT. -/
  | laneOutWrite (ini : Fin 5) (n : Fin 48) (w : Word)
  /-- LANE_MARGIN_WRITE (R172): A MARGIN write is applied at the next relock, start or source change. Operands: initiator; lane n; the word for LANEn_RC. -/
  | laneMarginWrite (ini : Fin 5) (n : Fin 48) (w : Word)
  /-- LANE_TRIM_WRITE (R177): A TRIM GAIN write ramps the trim gain linearly in dB. Operands: initiator; lane n; the word for LANEn_TRIM. -/
  | laneTrimWrite (ini : Fin 5) (n : Fin 48) (w : Word)
  /-- LANE_INVERT_WRITE (R177): An INVERT change ramps the trim to zero, flips the polarity and ramps back. Operands: initiator; lane n; the word for LANEn_CTRL. -/
  | laneInvertWrite (ini : Fin 5) (n : Fin 48) (w : Word)
  /-- LANE_MUTE_WRITE (R188): A MUTE write ramps the lane's mute gain over MRAMP. Operands: initiator; lane n; the word for LANEn_CTRL. -/
  | laneMuteWrite (ini : Fin 5) (n : Fin 48) (w : Word)
  /-- LANE_DCB_WRITE (R178): An HPF write changes the DC block corner at the next frame. Operands: initiator; lane n; the word for LANEn_DCB. -/
  | laneDcbWrite (ini : Fin 5) (n : Fin 48) (w : Word)
  /-- LANE_HUM_WRITE (R179): A HARM, WIDTH or FREQ_SRC change crossfades the notch settings over 10 ms. Operands: initiator; lane n; the word for LANEn_HUM. -/
  | laneHumWrite (ini : Fin 5) (n : Fin 48) (w : Word)
  /-- LANE_COEF_COMMIT (R182): COMMIT checks the pending coefficient set and copies it at the next frame boundary, or refuses it. Operands: initiator; lane n; the word for LANEn_COEF_CTRL, COMMIT set. -/
  | laneCoefCommit (ini : Fin 5) (n : Fin 48) (w : Word)
  /-- LANE_COMMIT_DONE (R182): The copy and any 10 ms crossfade end; COMMITS increments and COMMIT_DONE is raised. Operands: lane n. -/
  | laneCommitDone (n : Fin 48)
  /-- LANE_DYN_WRITE (R185): A dynamics field write takes effect at the next frame. Operands: initiator; lane n; the dynamics register, LANEn_DYN_CTRL first, and its word. -/
  | laneDynWrite (ini : Fin 5) (n : Fin 48) (r : Fin 5) (w : Word)
  /-- LANE_DELAY_WRITE (R186): A FRAMES write allocates pool blocks and crossfades to the new tap over 10 ms. Operands: initiator; lane n; the word for LANEn_DELAY. -/
  | laneDelayWrite (ini : Fin 5) (n : Fin 48) (w : Word)
  /-- LANE_DELAY_XFADE_END (R186): The last delay crossfade ends; FRAMES_NOW updates and unneeded blocks are released. Operands: lane n. -/
  | laneDelayXfadeEnd (n : Fin 48)
  /-- LANE_METER_WINDOW_END (R187): A meter window ends and PEAK and RMS are reported. Operands: lane n. -/
  | laneMeterWindowEnd (n : Fin 48)
  /-- LANE_METER_WIN_WRITE (R187): A WIN write takes effect from the next window. Operands: initiator; lane n; the word for LANEn_METER_CTRL. -/
  | laneMeterWinWrite (ini : Fin 5) (n : Fin 48) (w : Word)
  /-- LANE_CLR_HOLD (R187): CLR_HOLD resets LANEn_METER_HOLD. Operands: initiator; lane n; the word for LANEn_METER_CTRL, CLR_HOLD set. -/
  | laneClrHold (ini : Fin 5) (n : Fin 48) (w : Word)
  /-- LANE_CNT_CLR (R194): CLR clears LANEn_COUNT and LANEn_COUNT2. Operands: initiator; lane n; the word for LANEn_CNT_CLR, CLR set. -/
  | laneCntClr (ini : Fin 5) (n : Fin 48) (w : Word)
  /-- CHN_COMMIT (R200): COMMIT requests that the pending crosspoints, sinks and taps be copied at the next frame boundary. Operands: initiator; the word for CHN_CTRL, COMMIT set. -/
  | chnCommit (ini : Fin 5) (w : Word)
  /-- CHN_COMMIT_COPY (R200): The pending tables are copied into the active set; ramps start, COMMITS increments and COMMIT_DONE is raised. -/
  | chnCommitCopy
  /-- CHN_REVERT (R203): REVERT copies the active tables into the pending copies. Operands: initiator; the word for CHN_CTRL, REVERT set. -/
  | chnRevert (ini : Fin 5) (w : Word)
  /-- CHN_CLR_COUNTS (R221): CLR_COUNTS clears CHN_SAT_COUNT and CHN_POISON.COUNT. Operands: initiator; the word for CHN_CTRL, CLR_COUNTS set. -/
  | chnClrCounts (ini : Fin 5) (w : Word)
  /-- FIF_COMMIT (R216): FIF_CTRL.COMMIT makes the pending Fife gains the targets within 1 µs. Operands: initiator; the word for FIF_CTRL, COMMIT set. -/
  | fifCommit (ini : Fin 5) (w : Word)
  /-- FIF_GAIN_STEP (R216): At each STEP interval, every moving Fife gain moves 1 dB towards its target. -/
  | fifGainStep
  /-- SAP_ENABLE_WRITE (R237): Setting or clearing a SAP's ENABLE starts or stops the port. Operands: initiator; port p; the word for PG_CTRL of its page. -/
  | sapEnableWrite (ini : Fin 5) (p : Fin 8) (w : Word)
  /-- SAP_RECONFIG_WRITE (R237): A write that changes a format field or MASTER reconfigures a running port. Operands: initiator; port p; the word for SAPp_CTRL or SAPp_FMT. -/
  | sapReconfigWrite (ini : Fin 5) (p : Fin 8) (ctrl : Bool) (w : Word)
  /-- SAP_FRAME_EDGE (R231): A SAP frame edge hands a receive frame to the ring and sends the next transmit frame. Operands: port p; bit clocks in the frame that ends; the bits sampled on DIN in its periods and in the first of the next. -/
  | sapFrameEdge (p : Fin 8) (bclks : Nat) (line : List Bool)
  /-- SAP_MASK_WRITE (R233): A slot mask write is shadowed until a frame start, with MASK_PENDING set. Operands: initiator; port p; the word for SAPp_SLOT_MASK_RX or SAPp_SLOT_MASK_TX. -/
  | sapMaskWrite (ini : Fin 5) (p : Fin 8) (rx : Bool) (w : Word)
  /-- SAP_MASK_APPLY (R233): A pending slot mask takes effect at its frame start and MASK_APPLIED is raised. Operands: port p. -/
  | sapMaskApply (p : Fin 8)
  /-- SAP_IDLE_HIZ_WRITE (R234): An IDLE_HIZ write takes effect at the next frame start. Operands: initiator; port p; the word for SAPp_CTRL. -/
  | sapIdleHizWrite (ini : Fin 5) (p : Fin 8) (w : Word)
  /-- SAP_QUIESCE_TIMEOUT (R238): A slave frame not ended 150 µs after S1 is abandoned and the port acknowledges. Operands: port p. -/
  | sapQuiesceTimeout (p : Fin 8)
  /-- SAP_MCLK_WRITE (R239): An SRC or DIV write changes an MCLK output without runt pulses. Operands: initiator; output p; the word for SAPp_MCLK. -/
  | sapMclkWrite (ini : Fin 5) (p : Fin 4) (w : Word)
  /-- SAP_CNT_CLR (R255): CLR clears SAPp_COUNT and SAPp_COUNT2. Operands: initiator; port p; the word for SAPp_CNT_CLR, CLR set. -/
  | sapCntClr (ini : Fin 5) (p : Fin 8) (w : Word)
  /-- PDM_GROUP_CHANGE (R243): A write of clock frequency, rate, filter or CLKSEL runs the clock group change sequence. Operands: initiator; PDM_CLK_CTRL, PDM_LINE or PDM_FMT, and its word. -/
  | pdmGroupChange (ini : Fin 5) (r : Fin 3) (w : Word)
  /-- PDM_GROUP_READY (R243): The group's ramp up ends; it is RUNNING and raises READY. Operands: clock group g. -/
  | pdmGroupReady (g : Fin 2)
  /-- PDM_MIC_EN_WRITE (R243): A PDM_MIC_EN write enables microphones, which join a running group at their own fill. Operands: initiator; the word for PDM_MIC_EN. -/
  | pdmMicEnWrite (ini : Fin 5) (w : Word)
  /-- PDM_MIC_ABSENT (R244): Constant data for 1,024 latch edges marks a microphone absent. Operands: microphone m. -/
  | pdmMicAbsent (m : Fin 16)
  /-- PDM_MIC_PRESENT (R244): Data toggling on 64 consecutive edges clears ABSENT, and the microphone ramps up. Operands: microphone m. -/
  | pdmMicPresent (m : Fin 16)
  /-- PDM_ENABLE_WRITE (R258): The PDM page ENABLE turns both clocks on or off. Operands: initiator; the word for PG_CTRL of the PDM page. -/
  | pdmEnableWrite (ini : Fin 5) (w : Word)
  /-- SPDIF_RX_FRAME (R247): A received S/PDIF frame is checked and its subframes are delivered. Operands: the received frame. -/
  | spdifRxFrame (f : SpdFrame)
  /-- SPDIF_SYNC_HOLD_END (R249): No second sync frame comes within 4,096 frames; the hold ends and the sources ramp up. -/
  | spdifSyncHoldEnd
  /-- SPDIF_PCM_RETURN (R249): With CS bit 1 clear and no sync frame for 4,096 frames, NONPCM clears and the sources ramp up. -/
  | spdifPcmReturn
  /-- SPD_RX_CTRL_WRITE (R246): An SPD_RX_CTRL write enables the receiver or changes its detection settings. Operands: initiator; the word for SPD_RX_CTRL. -/
  | spdRxCtrlWrite (ini : Fin 5) (w : Word)
  /-- SPD_TX_EN_WRITE (R250): A write of EN starts or stops the S/PDIF transmitter. Operands: initiator; the word for SPD_TX_CTRL. -/
  | spdTxEnWrite (ini : Fin 5) (w : Word)
  /-- SPD_TX_RATE_WRITE (R251): A RATE write while sending reconfigures the transmitter. Operands: initiator; the word for SPD_TX_CTRL. -/
  | spdTxRateWrite (ini : Fin 5) (w : Word)
  /-- SPD_PASS_WRITE (R253): A PASS write enters or leaves passthrough at the next frame. Operands: initiator; the word for SPD_TX_CTRL. -/
  | spdPassWrite (ini : Fin 5) (w : Word)
  /-- SPD_CNT_CLR (R259): CLR clears SPD_RX_COUNT. Operands: initiator; the word for SPD_CNT_CLR, CLR set. -/
  | spdCntClr (ini : Fin 5) (w : Word)
  /-- XTAL_FAIL (R262): The crystal fails; the PLLs are treated as unlocked and management moves to the RC oscillator. -/
  | xtalFail
  /-- XTAL_RETURN (R262): The crystal has been good for 2 ms; management returns to it and the PLLs relock. -/
  | xtalReturn
  /-- PLL_LOCK (R263): A PLL locks, and the consumers waiting for it continue or restart. Operands: PLL x (0 A, 1 B, 2 C); microseconds since it was started. -/
  | pllLock (x : Fin 3) (us : Nat)
  /-- PLL_UNLOCK (R272): A family PLL unlocks; its consumers stop and the engine stops if it runs on that family. Operands: PLL x. -/
  | pllUnlock (x : Fin 3)
  /-- PLL_RELOCK_FAIL (R272): A PLL fails to lock within 2 ms; it goes to FAULT and a takeover is posted or FAULT 0x02 is set. Operands: PLL x. -/
  | pllRelockFail (x : Fin 3)
  /-- PLL_RELOCK_RETRY (R272): Every 100 ms the hub retries the relock of a family that stays down. Operands: PLL x. -/
  | pllRelockRetry (x : Fin 3)
  /-- PLL_STOP_TIMEOUT (R265): 10 ms after the last need of a family ends, its PLL stops. Operands: PLL x. -/
  | pllStopTimeout (x : Fin 3)
  /-- FLL_LOCK (R267): The listening FLL locks, and the PDM groups of codes 1 to 4 may run. -/
  | fllLock
  /-- CLK_ENGINE_FE_WRITE (R271): An FE write changes the engine rate by the ramp, stop and restart sequence. Operands: initiator; the word for CLK_ENGINE. -/
  | clkEngineFeWrite (ini : Fin 5) (w : Word)
  /-- FE_CHANGE_STOP (R271): The mute ramp ends; the engine stops, applies Fe, re-evaluates and restarts. -/
  | feChangeStop
  /-- CLK_TAKEOVER_START (R273): CLK_TAKEOVER.START posts a PLL takeover job for FAMILY. Operands: initiator; the word for CLK_TAKEOVER, START set. -/
  | clkTakeoverStart (ini : Fin 5) (w : Word)
  /-- CLK_TAKEOVER_ABORT (R276): CLK_TAKEOVER.ABORT aborts a takeover before SWITCH or WINDOW. Operands: initiator; the word for CLK_TAKEOVER, ABORT set. -/
  | clkTakeoverAbort (ini : Fin 5) (w : Word)
  /-- TAKEOVER_SPARE_LOCKED (R274): The spare PLL locks in SHADOW and the takeover continues to alignment or the muted window. Operands: microseconds since the spare was started. -/
  | takeoverSpareLocked (us : Nat)
  /-- TAKEOVER_ALIGNED (R274): The spare has been aligned within ±0.2 ns for 1 ms, so the speakers ramp down and the islands switch. -/
  | takeoverAligned
  /-- TAKEOVER_ALIGN_TIMEOUT (R276): Alignment is not reached within 5 ms; the job aborts with cause 2. -/
  | takeoverAlignTimeout
  /-- TAKEOVER_SWITCH_DONE (R274): Every island has switched; the role map updates and TAKEOVER_DONE is raised. Operands: the last island that has switched, in the order of R274 step 4; 7 is PD_PORTS, with which every island has switched. -/
  | takeoverSwitchDone (last : Fin 8)
  /-- TAKEOVER_WINDOW_DONE (R275): The muted window ends; the role map updates and the consumers restart. -/
  | takeoverWindowDone
  /-- PLL_HEALTH_TEST_DONE (R277): A 100 ms PLL health test ends; the PLL becomes SPARE or RETIRED. Operands: PLL x; its phase wander stayed within the bound. -/
  | pllHealthTestDone (x : Fin 3) (steady : Bool)
  /-- CLK_TRK_CLR (R284): CLK_TRK_CLR clears the selected tracker and mains counters. Operands: initiator; the word for CLK_TRK_CLR. -/
  | clkTrkClr (ini : Fin 5) (w : Word)
  /-- USB_VBUS_VALID (R286): USB_VBUS_DET has been valid for 5 ms, and the pull-up connects when the other conditions hold. -/
  | usbVbusValid
  /-- USB_DISCONNECT (R286): A connection condition fails; the pull-up goes off and the hub proceeds as on a bus reset. Operands: what is lost, 0 VBUS, 1 the PHY PLL, 2 USBVDD. -/
  | usbDisconnect (cause : Fin 3)
  /-- USB_ENABLE_WRITE (R286): The USB page ENABLE gates connection. Operands: initiator; the word for PG_CTRL of the USB page. -/
  | usbEnableWrite (ini : Fin 5) (w : Word)
  /-- USB_CFG_WRITE (R287): A write of UAC or SYNC while connected forces a 100 ms reconnect. Operands: initiator; the word for USB_CFG. -/
  | usbCfgWrite (ini : Fin 5) (w : Word)
  /-- USB_BUS_RESET (R290): A bus reset returns the interfaces to alternate 0 and clears the address, remote wake, the HID queue and vendor transfers. Operands: the handshake gave high speed. -/
  | usbBusReset (hs : Bool)
  /-- USB_GET_DESCRIPTOR (R288): The host reads descriptors built from the descriptor registers. Operands: as in the request. -/
  | usbGetDescriptor (type : Nat) (index : Nat) (length : Nat)
  /-- USB_SET_INTERFACE (R292): SET_INTERFACE selects an alternate setting, or is STALLed for bandwidth. Operands: streaming interface i + 1. -/
  | usbSetInterface (stream : Fin 4) (alt : Nat)
  /-- USB_SET_SAMPLING_FREQ (R293): A sampling-frequency SET_CUR changes the USB rate or is STALLed. Operands: frequency in Hz. -/
  | usbSetSamplingFreq (hz : Nat)
  /-- USB_FU_SET_CUR (R289): A feature unit SET_CUR sets mute or volume, applied when APPLYi = 1. Operands: the feature unit of interface i + 1; mute, or volume in 1/256 dB. -/
  | usbFuSetCur (stream : Fin 4) (isMute : Bool) (value : Int)
  /-- USB_SET_FEATURE_RWAKE (R307): SET_FEATURE enables remote wake. -/
  | usbSetFeatureRwake
  /-- USB_SET_REPORT (R300): An HID output report updates the LED field and raises HID_LED. Operands: report ID and its byte 1. -/
  | usbSetReport (id : Nat) (value : Nat)
  /-- USB_OUT_PACKET (R297): An isochronous OUT packet is unpacked; a stream start, a partial frame or an overlong packet is handled. Operands: interface j + 1 and the packet's bytes. -/
  | usbOutPacket (j : Fin 2) (data : List Nat)
  /-- USB_PACKET_MISSING (R297): No packet arrives in an interval with SOF present; the function fills in samples. Operands: interface j + 1. -/
  | usbPacketMissing (j : Fin 2)
  /-- USB_STREAM_STOP (R297): No packet for 2 intervals stops the interface's lanes. Operands: interface j + 1. -/
  | usbStreamStop (j : Fin 2)
  /-- USB_IN_PACKET (R296): An isochronous IN packet is sent with the previous interval's samples. Operands: interface j + 3. -/
  | usbInPacket (j : Fin 2)
  /-- USB_FEEDBACK_IN (R295): The feedback endpoint reports the measured sample count. Operands: interface j + 1. -/
  | usbFeedbackIn (j : Fin 2)
  /-- USB_HID_POLL (R300): A poll of endpoint 0x85 sends the oldest queued HID report. -/
  | usbHidPoll
  /-- VREQ_REG_READ (R301): Vendor request REG_READ reads 1 to 63 words. Operands: wValue, wIndex, wLength. -/
  | vreqRegRead (value : BitVec 16) (index : BitVec 16) (length : BitVec 16)
  /-- VREQ_REG_WRITE (R301): Vendor request REG_WRITE writes 1 to 63 words. Operands: wValue, wIndex, the data stage. -/
  | vreqRegWrite (value : BitVec 16) (index : BitVec 16) (data : List Nat)
  /-- VREQ_REG_RMW (R301): Vendor request REG_RMW performs one atomic read-modify-write. Operands: wValue, wIndex, the data stage. -/
  | vreqRegRmw (value : BitVec 16) (index : BitVec 16) (data : List Nat)
  /-- VREQ_STATUS (R301): Vendor request STATUS returns the last status code and the number of words performed. -/
  | vreqStatus
  /-- VREQ_IMAGE_BEGIN (R302): IMAGE_BEGIN announces an image to be sent on endpoint 0x07. Operands: the data stage. -/
  | vreqImageBegin (data : List Nat)
  /-- VREQ_IMAGE_STATUS (R301): IMAGE_STATUS returns the loader result word and offset. -/
  | vreqImageStatus
  /-- VREQ_SNAP_READ (R303): SNAP_READ queues a snapshot-window read delivered on endpoint 0x87. Operands: the data stage. -/
  | vreqSnapRead (data : List Nat)
  /-- VREQ_HIST_START (R304): HIST_START starts the history stream, or is refused before a wake. -/
  | vreqHistStart
  /-- VREQ_HIST_STOP (R305): HIST_STOP ends the history stream at the end of the current record. -/
  | vreqHistStop
  /-- VREQ_UNKNOWN (R301): An unknown bRequest is STALLed without a violation record. Operands: bRequest. -/
  | vreqUnknown (request : Nat)
  /-- USB_IMAGE_BULK (R302): Bulk OUT data on endpoint 0x07 is staged as image bytes. Operands: the packet's bytes. -/
  | usbImageBulk (bytes : List Nat)
  /-- USB_IMAGE_TIMEOUT (R492): No bulk data for 1 s before LENGTH bytes fails the load with ERROR 10. -/
  | usbImageTimeout
  /-- USB_SNAPSHOT_IN (R303): Endpoint 0x87 delivers the next packet of a snapshot read. -/
  | usbSnapshotIn
  /-- USB_HISTORY_IN (R304): Endpoint 0x88 delivers the next history or live records. -/
  | usbHistoryIn
  /-- USB_HIST_START_WRITE (R304): USB_HIST_CTRL.START starts the history stream, or is refused before a wake. Operands: initiator; the word for USB_HIST_CTRL, START set. -/
  | usbHistStartWrite (ini : Fin 5) (w : Word)
  /-- USB_HIST_STOP_WRITE (R305): USB_HIST_CTRL.STOP ends the history stream. Operands: initiator; the word for USB_HIST_CTRL, STOP set. -/
  | usbHistStopWrite (ini : Fin 5) (w : Word)
  /-- USB_SUSPEND (R306): 3 ms of bus idle suspends the function to L2 and stops the streams. -/
  | usbSuspend
  /-- USB_RESUME (R306): Host resume signalling ends L2 and may be a hub wake source. -/
  | usbResume
  /-- USB_L1_TOKEN (R306): An LPM L1 token is ACKed or NYETed. Operands: the token's BESL and remote-wake bit. -/
  | usbL1Token (besl : Fin 16) (rwake : Bool)
  /-- USB_L1_EXIT (R306): The host resumes the link from L1 within 50 µs. -/
  | usbL1Exit
  /-- USB_REMOTE_WAKE (R307): An enabled wake source sends a K state if remote wake is permitted, or sets WAKE_BLOCKED. -/
  | usbRemoteWake
  /-- USB_WAKE_NOW (R307): USB_WAKE.NOW requests a remote wake. Operands: initiator; the word for USB_WAKE, NOW set. -/
  | usbWakeNow (ini : Fin 5) (w : Word)
  /-- USB_CNT_CLR (R309): CLR clears USB_COUNT, USB_ASi_COUNT and OVERRUNS. Operands: initiator; the word for USB_CNT_CLR, CLR set. -/
  | usbCntClr (ini : Fin 5) (w : Word)
  /-- LST_ENABLE_WRITE (R316): Setting the LST page ENABLE starts listening; clearing it disarms and stops. Operands: initiator; the word for PG_CTRL of the LST page. -/
  | lstEnableWrite (ini : Fin 5) (w : Word)
  /-- LST_START (R316): Listening starts the FLL and clock, settles and fills, and enters LISTENING with SUPPRESSED set. -/
  | lstStart
  /-- LST_SUPPRESS_END (R319): 300 ms after the start, a resume or a privacy release, SUPPRESSED clears. -/
  | lstSuppressEnd
  /-- LST_SAMPLE (R317): Each 16 kHz period writes one sample to the history and increments the counter. Operands: microphone numbers and their decimated 16 kHz samples in 24-bit LSB. -/
  | lstSample (mics : List (Nat × Int))
  /-- LST_FRAME (R318): A 10 ms frame computes E and F and updates the voice-activity state. -/
  | lstFrame
  /-- VAD_ONSET (R318): E is at least F plus THR for ONSET frames; VOICE sets and VOICE_ON is raised. -/
  | vadOnset
  /-- VAD_HANG_EXPIRE (R318): E stays below F plus THR for HANG; VOICE clears and pending changes run. -/
  | vadHangExpire
  /-- SPOT_DETECTION (R322): A keyword scores DET_THR for DET_HOLD frames and a detection occurs. -/
  | spotDetection
  /-- LST_DEFER_TIMEOUT (R315): 2.0 s after the first deferred request, the pending change runs. -/
  | lstDeferTimeout
  /-- LST_STOP_CHANGE (R314): A stop change across Piccolo mode runs the clock change and records a gap. -/
  | lstStopChange
  /-- LST_DISARM (R331): LST_CTRL.DISARM ends the stream, wipes the history and raises DISARM. Operands: initiator; the word for LST_CTRL, DISARM set. -/
  | lstDisarm (ini : Fin 5) (w : Word)
  /-- LST_ARM_TIMEOUT (R331): ARM_TIMEOUT passes with no stream running and the history disarms. -/
  | lstArmTimeout
  /-- LST_CLR_COUNTS (R336): CLR_COUNTS clears the listening counters. Operands: initiator; the word for LST_CTRL, CLR_COUNTS set. -/
  | lstClrCounts (ini : Fin 5) (w : Word)
  /-- LST_MODEL_BEGIN (R324): BEGIN stops the spotter and starts a model load. Operands: initiator; the word for LST_MODEL_CTRL, BEGIN set. -/
  | lstModelBegin (ini : Fin 5) (w : Word)
  /-- LST_MODEL_WIN_WRITE (R324): A window word write stores a weight word; WIN31 advances PTR by 32. Operands: initiator; window word k and its value. -/
  | lstModelWinWrite (ini : Fin 5) (k : Fin 32) (w : Word)
  /-- LST_MODEL_END (R324): END closes a partial block and starts the image check. Operands: initiator; the word for LST_MODEL_CTRL, END set. -/
  | lstModelEnd (ini : Fin 5) (w : Word)
  /-- LST_MODEL_CHECK_DONE (R324): The model check ends with VALID or NONE and raises MODEL_DONE or MODEL_ERR. -/
  | lstModelCheckDone
  /-- SNS_RUN_WRITE (R346): A RUN write enables the sequence, or ends it after the running entry. Operands: initiator; the word for SNS_SEQ_CTRL. -/
  | snsRunWrite (ini : Fin 5) (w : Word)
  /-- SNS_HW_TRIGGER (R347): A counted MAINS_SYNC edge or mains period triggers a run, queues it, or loses it. -/
  | snsHwTrigger
  /-- SNS_SW_TRIG (R347): SW_TRIG triggers a sequence run. Operands: initiator; the word for SNS_SEQ_CTRL, SW_TRIG set. -/
  | snsSwTrig (ini : Fin 5) (w : Word)
  /-- SNS_ABORT (R346): ABORT discards the running entry and ends the run. Operands: initiator; the word for SNS_SEQ_CTRL, ABORT set. -/
  | snsAbort (ini : Fin 5) (w : Word)
  /-- SNS_REED_CONV_DONE (R349): A reed conversion ends, its result is delivered and the next conversion is chosen. Operands: the code before clamping; of drone 0, the crystal periods since its last code. -/
  | snsReedConvDone (code : Int) (ticks : Nat)
  /-- SNS_INT_ENTRY_DONE (R341): An integrator entry's windows end and its 20-bit result is delivered. Sent at the end of each window. Operand: what the window has integrated, in 2^-19 of the span times a clock period. -/
  | snsIntEntryDone (q : Int)
  /-- SNS_RUN_DONE (R346): The last entry completes; SEQ_DONE increments and a queued run starts. -/
  | snsRunDone
  /-- SNS_URGENT_START (R350): SNS_URGENT.START queues one urgent reed conversion. Operands: initiator; the word for SNS_URGENT, START set. -/
  | snsUrgentStart (ini : Fin 5) (w : Word)
  /-- SNS_RESULT_READ (R352): A register-path read of SNS_RESULT returns it and clears READY. Operands: initiator. -/
  | snsResultRead (ini : Fin 5)
  /-- SNS_DRONE_WRITE (R351): A drone configuration write takes effect at that drone's next slot. Operands: initiator; drone k; the word for SNS_DRONEk_CFG. -/
  | snsDroneWrite (ini : Fin 5) (k : Fin 4) (w : Word)
  /-- SNS_PP_WRITE (R356): A pitch-pipe write sets its code and route, or is stored while the pipe is held. Operands: initiator; the word for SNS_PP_CTRL. -/
  | snsPpWrite (ini : Fin 5) (w : Word)
  /-- SNS_DIAG_START (R357): SNS_DIAG_CTRL.START posts a diagnosis procedure job. Operands: initiator; the word for SNS_DIAG_CTRL, START set. -/
  | snsDiagStart (ini : Fin 5) (w : Word)
  /-- SNS_DIAG_DONE (R357): A diagnosis procedure ends with DONE, PASS or CAUSE and a result. Operands: PROC 0: worst reed and integrator errors in LSB; PROC 1 and 2: V0 and V1 in 1/16 code; false where only V0 of PROC 1 or 2 is in and its injection begins. -/
  | snsDiagDone (a : Int) (b : Int) (last : Bool)
  /-- ADC_SLICE_TEST_DONE (R358): An ADC slice test ends and the slice becomes SPARE or RETIRED. Operands: slice; its five levels in 24-bit LSB; a bit did not toggle. -/
  | adcSliceTestDone (a : Fin 18) (l0 : Int) (l1 : Int) (l2 : Int) (l3 : Int) (l4 : Int) (stuck : Bool)
  /-- DAC_SLICE_TEST_DONE (R359): A DAC slice test ends and the slice becomes SPARE or RETIRED. Operands: slice; its five levels in 24-bit LSB; an element was out of range. -/
  | dacSliceTestDone (d : Fin 10) (l0 : Int) (l1 : Int) (l2 : Int) (l3 : Int) (l4 : Int) (elem : Bool)
  /-- SNS_CNT_CLR (R360): CLR clears SNS_COUNT and SNS_COUNT2. Operands: initiator; the word for SNS_CNT_CLR, CLR set. -/
  | snsCntClr (ini : Fin 5) (w : Word)
  /-- PWR_GO (R364): PWR_CTRL.GO requests a state change, starting an entry or a wake, or is ignored. Operands: initiator; the word for PWR_CTRL, GO set. -/
  | pwrGo (ini : Fin 5) (w : Word)
  /-- PWR_QUIESCE_TIMEOUT (R366): 200 µs after S1 the answers are judged; the entry aborts at AP1 or proceeds through S2 to S4. Operands: mask of participants that did not answer (bits of R366); time of S1 in µs; words in error that the retention capture reads (bank, word, syndrome). -/
  | pwrQuiesceTimeout (silent : Nat) (us : Nat) (found : List (Nat × Nat × Nat))
  /-- PWR_CANCEL (R367): PWR_CTRL.CANCEL aborts the running entry at its next abort point. Operands: initiator; the word for PWR_CTRL, CANCEL set. -/
  | pwrCancel (ini : Fin 5) (w : Word)
  /-- PWR_ENTRY_COMPLETE (R365): After the S5 acknowledgement, S6 opens the power switches and the hub is in the target state. Operands: the SMBus transaction in progress: its command and the bytes after it. -/
  | pwrEntryComplete (cut : Option (Nat × List Nat))
  /-- PWR_WAKE_SOURCE (R373): An enabled wake source starts a wake from IDLE, SLEEP or DEEP. Operands: source code of R373. -/
  | pwrWakeSource (code : Nat)
  /-- PWR_WAKE_TIMER_EXPIRE (R373): The wake timer reaches its count and wakes the hub. -/
  | pwrWakeTimerExpire
  /-- PWR_WAKE_COMPLETE (R374): W4 releases the clamps and ungates clocks; the state is RUN and the blocks restart. Operands: latency in µs; time away from RUN in ms; mask of PLLs that locked; what the retention sweep found and the mask of banks it lost; the level of PGOOD, which when low holds a wake from SLEEP or DEEP. -/
  | pwrWakeComplete (us : Nat) (ms : Nat) (plls : Nat) (found : List (Nat × Nat × Nat)) (lost : Nat) (pgood : Bool)
  /-- PWR_ACCT_CLR (R382): PWR_ACCT_CLR.CLR clears the refusal accounting and PWR_COUNT. Operands: initiator; the word for PWR_ACCT_CLR, CLR set. -/
  | pwrAcctClr (ini : Fin 5) (w : Word)
  /-- PMB_LINK_START (R375): With EN = 1 the hub sends CLEAR_FAULTS, reads VOUT_MODE and reads READ_VOUT. Operands: how an exchange failed, 0 not at all, 1 a NACK, 2 a PEC mismatch, 3 clock stretching; the VOUT_MODE byte and the READ_VOUT word the regulator answers. -/
  | pmbLinkStart (why : Nat) (mode : Nat) (vout : Nat)
  /-- PMB_VOUT_REQUEST (R379): The hub sends VOUT_COMMAND for a voltage request. -/
  | pmbVoutRequest
  /-- PMB_SETTLE_EXPIRE (R379): SETTLE after the request, the hub reads READ_VOUT and polls every 100 µs. Operands: the READ_VOUT word. -/
  | pmbSettleExpire (vout : Nat)
  /-- PMB_REQUEST_ACK (R379): READ_VOUT is within ±1.5 % with PGOOD high; OP_ACK is set. Operands: the READ_VOUT word. -/
  | pmbRequestAck (vout : Nat)
  /-- PMB_REQUEST_FAIL (R380): A request times out or fails; it is repeated once, then FAIL is set and the case outcome applies. Operands: the STATUS_WORD read then; why, 0 a timeout or clock stretching, 1 a NACK, 2 a PEC mismatch. -/
  | pmbRequestFail (status : Nat) (why : Nat)
  /-- PMB_BACKOFF_END (R380): 100 ms after a failed raise, BACKOFF clears. -/
  | pmbBackoffEnd
  /-- PMB_CMD_READ_NOW (R384): READ_NOW reads READ_VOUT and STATUS_WORD when no exchange runs. Operands: initiator; how its exchange fails, 0 not at all, 1 a NACK, 2 a PEC mismatch, 3 clock stretching; the answers to READ_VOUT and STATUS_WORD; the word for PMB_CMD, READ_NOW set. -/
  | pmbCmdReadNow (ini : Fin 5) (why : Fin 4) (vout : BitVec 16) (status : BitVec 16) (w : Word)
  /-- PMB_CMD_CLEAR_FAULTS (R384): CLEAR_FAULTS is sent to the regulator when no exchange runs. Operands: initiator; how its exchange fails, as PMB_LINK_START's; the word for PMB_CMD, CLEAR_FAULTS set. -/
  | pmbCmdClearFaults (ini : Fin 5) (why : Fin 4) (w : Word)
  /-- PMB_CNT_CLR (R384): CLR clears PMB_COUNT. Operands: initiator; the word for PMB_CNT_CLR, CLR set. -/
  | pmbCntClr (ini : Fin 5) (w : Word)
  /-- BLW_CONFIG_WRITE (R403): A write to a checked Bellows register is refused when it would break the floor check. Operands: initiator; the register that the floor check guards, and its word. -/
  | blwConfigWrite (ini : Fin 5) (r : BlwReg) (w : Word)
  /-- BLW_COLD (R395): BLW_CTRL.COLD runs a cold start of the thermal model and reservoir. Operands: initiator; the word for BLW_CTRL, COLD set. -/
  | blwCold (ini : Fin 5) (w : Word)
  /-- BLW_CLR_COUNTS (R405): CLR_COUNTS clears BLW_COUNT and WARNS. Operands: initiator; the word for BLW_CTRL, CLR_COUNTS set. -/
  | blwClrCounts (ini : Fin 5) (w : Word)
  /-- MEM_SKIM_VISIT (R416): At every N-th idle cycle the Skimmer reads the next word of a bank. Operands: bank; the syndrome that its next word shows; what the word holds. -/
  | memSkimVisit (k : Fin 32) (syn : Nat) (item : SramItem)
  /-- MEM_HARD_FAULT (R412): A tracked address reaches REPEAT_THR; the word is declared hard and a remap or migration is posted. -/
  | memHardFault
  /-- MEM_BANK_LAP_END (R417): A bank's Skimmer lap ends; LAP_MS updates and the tracker entries age. Operands: bank; the lap's time in ms. -/
  | memBankLapEnd (k : Fin 32) (ms : Nat)
  /-- MEM_OVERALL_LAP_END (R417): Every bank of the overall lap has lapped; MEM_SKIM_LAP updates and LAP_DONE is raised. Operands: the lap's time in ms. -/
  | memOverallLapEnd (ms : Nat)
  /-- ROW_REMAP_DONE (R413): A row copy ends, the row map switches and REMAP_DONE is raised. Operands: bank; words whose read met an error (word, syndrome, content). -/
  | rowRemapDone (k : Fin 34) (found : List (Nat × Nat × SramItem))
  /-- MIGRATE_DONE (R414): A bank copy ends, the bank map switches and MIGRATE_DONE is raised. Operands: bank; words whose read met an error (word, syndrome, content). -/
  | migrateDone (k : Fin 32) (found : List (Nat × Nat × SramItem))
  /-- MEM_WIPE_REQ (R418): MEM_WIPE_REQ starts a wipe of the named banks of MB26 to MB31. Operands: initiator; the word for MEM_WIPE_REQ. -/
  | memWipeReq (ini : Fin 5) (w : Word)
  /-- WIPE_DONE (R419): A wipe ends and WIPE_DONE is raised; stalled internal accesses proceed. -/
  | wipeDone
  /-- MEM_CLR_TRACK (R425): CLR_TRACK frees every repeat tracker entry. Operands: initiator; the word for MEM_CTRL, CLR_TRACK set. -/
  | memClrTrack (ini : Fin 5) (w : Word)
  /-- MEM_CLR_COUNTS (R425): CLR_COUNTS clears the ECC counters and EVICTIONS. Operands: initiator; the word for MEM_CTRL, CLR_COUNTS set. -/
  | memClrCounts (ini : Fin 5) (w : Word)
  /-- SMB_WRITE_BLOCK (R430): SMBus command 0x20 writes 1 to 63 words. Operands: the bytes after the command byte. -/
  | smbWriteBlock (bytes : List Nat)
  /-- SMB_READ_BLOCK (R430): SMBus command 0x21 reads 1 to 63 words with a status byte. Operands: the bytes after the command byte, up to Sr. -/
  | smbReadBlock (bytes : List Nat)
  /-- SMB_STATUS (R436): SMBus command 0x22 returns the last status. -/
  | smbStatus
  /-- SMB_RMW (R432): SMBus command 0x23 performs one atomic read-modify-write. Operands: the bytes after the command byte. -/
  | smbRmw (bytes : List Nat)
  /-- SMB_WAKE (R433): SMBus command 0x24 is a wake source outside RUN. -/
  | smbWake
  /-- SMB_BAD_COMMAND (R434): An unknown command code is NACKed and BAD_CMD is set. Operands: the command byte. -/
  | smbBadCommand (cmd : Nat)
  /-- SMB_OTHER_ADDRESS (R427): A transaction to another address is NACKed. Operands: the address byte. -/
  | smbOtherAddress (a : Nat)
  /-- SMB_DEEP_MATCH (R439): In DEEP the AON matcher ACKs the address, NACKs the command and posts wake source 3. Operands: the command byte. -/
  | smbDeepMatch (cmd : Nat)
  /-- SMB_SCL_TIMEOUT (R437): SCL low for over 25 ms abandons the transaction and releases both lines. Operands: the unfinished transaction addressed to the target: its command and the bytes after it. -/
  | smbSclTimeout (cut : Option (Nat × List Nat))
  /-- SMB_SDA_RELEASE (R438): SDA driven low with SCL high for 50 µs to 100 µs is released. Operands: the unfinished transaction: its command and the bytes after it. -/
  | smbSdaRelease (cut : Option (Nat × List Nat))
  /-- HOST_NOTIFY_EVAL (R441): Every 1 ms and at each holdoff end, W is compared with S and a Host Notify is started if due. Operands: ms since the last Host Notify ended. -/
  | hostNotifyEval (idle : Nat)
  /-- HOST_NOTIFY_DONE (R442): A Host Notify transaction completes and SENT increments. -/
  | hostNotifyDone
  /-- HN_ARB_LOSS (R443): Host Notify loses arbitration and releases the bus to retry later. -/
  | hnArbLoss
  /-- HN_NACK (R444): The host NACKs a Host Notify; a try is used and HN_FAIL follows after TRIES. -/
  | hnNack
  /-- HN_RETRY_EXPIRE (R444): RETRY ms after a NACK, the next Host Notify try starts. -/
  | hnRetryExpire
  /-- BUS_STUCK_DETECT (R446): SCL high and SDA low for 100 µs starts bus recovery. Operands: 0 the SMBus port, 1 the regulator port; SCL low (else SDA). -/
  | busStuckDetect (port : Fin 2) (scl : Bool)
  /-- BUS_RECOVERY_TRY (R446): A recovery try ends, with the bus freed, another try after 10 ms, or STUCK. Operands: the port; pulses given; SDA was read high. -/
  | busRecoveryTry (port : Fin 2) (clocks : Fin 10) (freed : Bool)
  /-- SMB_REC_RETRY (R449): SMB_REC_CTRL runs one recovery try on the selected port. Operands: initiator; port 0 SMBus, 1 regulator; the word for SMB_REC_CTRL, the port's bit set. -/
  | smbRecRetry (ini : Fin 5) (port : Fin 2) (w : Word)
  /-- SMB_CNT_CLR (R449): CLR clears the SMBus counters. Operands: initiator; the word for SMB_CNT_CLR, CLR set. -/
  | smbCntClr (ini : Fin 5) (w : Word)
  /-- AGEING_MEASURE (R454): Every PERIOD seconds in RUN, the ageing monitors are counted and WARN may set. Operands: the slowdowns in 0.01 %, island 0 first. -/
  | ageingMeasure (slow : List Int)
  /-- ROTATION_STEP (R455): Every ROTATE_H hours, the manager posts the next rotation step. -/
  | rotationStep
  /-- MNT_POST_START (R456): MNT_POST.START posts a test job of TYPE for TARGET. Operands: initiator; the word for MNT_POST, START set. -/
  | mntPostStart (ini : Fin 5) (w : Word)
  /-- JOB_END (R459): A job ends with a result, frees its resources, and the arbiter starts deferred jobs. -/
  | jobEnd
  /-- MAC_SUBST_SWITCH (R460): After its shadow frames, the spare MAC unit takes the replaced unit's place. -/
  | macSubstSwitch
  /-- SPARE_BANK_TEST_DONE (R461): A spare bank test ends; the bank stays free or is RETIRED. Operands: spare bank MBSb; whether any error was found. -/
  | spareBankTestDone (b : Fin 2) (error : Bool)
  /-- MNT_CNT_CLR (R478): CLR clears MNT_COUNT, MNT_COUNT2 and RESIDUE_ERRS. Operands: initiator; the word for MNT_CNT_CLR, CLR set. -/
  | mntCntClr (ini : Fin 5) (w : Word)
  /-- DBG_FREEZE_REQ (R462): DBG_FREEZE.REQ requests freeze, subject to the life cycle. Operands: initiator; the word for DBG_FREEZE, REQ set. -/
  | dbgFreezeReq (ini : Fin 5) (w : Word)
  /-- FREEZE_TAKE_HOLD (R462): Freeze mutes the outputs, stops the islands and reaches FROZEN. -/
  | freezeTakeHold
  /-- DBG_FREEZE_RESUME (R468): DBG_FREEZE.RESUME resumes from freeze, or is refused while FREEZE is high. Operands: initiator; the level of FREEZE, the microseconds since FROZEN; the word for DBG_FREEZE, RESUME set. -/
  | dbgFreezeResume (ini : Fin 5) (level : Bool) (us : Nat) (w : Word)
  /-- DBG_CNT_CLR (R476): CLR clears DBG_FREEZE_COUNT. Operands: initiator; the word for DBG_CNT_CLR, CLR set. -/
  | dbgCntClr (ini : Fin 5) (w : Word)
  /-- JTAG_REG_ACCESS (R467): Update-DR under REG_ACCESS starts a register-path access. Operands: the shifted-in word. -/
  | jtagRegAccess (dr : BitVec 56)
  /-- JTAG_SNAPSHOT (R467): Update-DR under SNAPSHOT reads through the scan paths in freeze. Operands: the shifted-in word. -/
  | jtagSnapshot (dr : BitVec 56)
  /-- JTAG_FREEZE_CTL (R466): Update-DR under FREEZE_CTL requests freeze or resume. Operands: the shifted-in bits; the level of FREEZE, the microseconds since FROZEN. -/
  | jtagFreezeCtl (dr : BitVec 8) (level : Bool) (us : Nat)
  /-- JTAG_EXTEST (R466): The EXTEST instruction drives the boundary scan register. Operands: the balls' levels at Capture-DR; the register at Update-DR. -/
  | jtagExtest (captured : List Bool) (driven : List Bool)
  /-- JTAG_SAMPLE_PRELOAD (R466): The SAMPLE/PRELOAD instruction samples or preloads the boundary scan register. Operands: the balls' levels at Capture-DR; the register at Update-DR. -/
  | jtagSamplePreload (captured : List Bool) (driven : List Bool)
  /-- JTAG_TEST_LOGIC_RESET (R466): Test-Logic-Reset selects BYPASS. -/
  | jtagTestLogicReset
  /-- LCY_CHECK_TOKEN (R472): LCY_CHECK.TOKEN checks the debug token against DBG_DIGEST. Operands: initiator; the word for LCY_CHECK, TOKEN set. -/
  | lcyCheckToken (ini : Fin 5) (w : Word)
  /-- LCY_CHECK_UNLOCK (R472): LCY_CHECK.UNLOCK checks the unlock code against RET_DIGEST. Operands: initiator; the word for LCY_CHECK, UNLOCK set. -/
  | lcyCheckUnlock (ini : Fin 5) (w : Word)
  /-- LCY_CHECK_DONE (R472): A 10 ms code check ends with a match, a mismatch or lockout. -/
  | lcyCheckDone
  /-- LCY_TRANSITION (R473): LCY_CTRL.GO with the key blows the next life-cycle fuse and resets, or is refused. Operands: initiator; the word for LCY_CTRL, GO set. -/
  | lcyTransition (ini : Fin 5) (w : Word)
  /-- LCY_OTP_PROG (R474): LCY_OTP_CTRL.PROG programs one OTP word, or refuses. Operands: initiator; the word for LCY_OTP_CTRL, PROG set. -/
  | lcyOtpProg (ini : Fin 5) (w : Word)
  /-- LCY_OTP_READ (R477): LCY_OTP_CTRL.READ reads one OTP word into DATA. Operands: initiator; the word for LCY_OTP_CTRL, READ set. -/
  | lcyOtpRead (ini : Fin 5) (w : Word)
  /-- OTP_ACCESS_DONE (R474): An OTP program or read completes and OTP_DONE is raised. Operands: whether a programmed word passed its verification. -/
  | otpAccessDone (verified : Bool)
  /-- SYS_SW_RESET (R475): SYS_SW_RESET with the key acts as RESET_N. Operands: initiator; the word for SYS_SW_RESET, RESET set. -/
  | sysSwReset (ini : Fin 5) (w : Word)
  /-- FLASH_BOOT (R484): The loader reads the image from flash under BOOT_SEL levels 1 to 3. Operands: the words the flash holds at slot A and at slot B. -/
  | flashBoot (a : List Word) (b : List Word)
  /-- IMAGE_CHECK (R489): A staged image is checked for magic, version, length, CRC and format before any record runs. -/
  | imageCheck
  /-- IMG_WRITE (R487): A WRITE record writes n words as one transfer. -/
  | imgWrite
  /-- IMG_RMW (R487): An RMW record performs one atomic read-modify-write. -/
  | imgRmw
  /-- IMG_WAIT (R487): A WAIT record starts polling ADDR every 10 µs. -/
  | imgWait
  /-- IMG_WAIT_POLL (R487): A WAIT poll ends the record when matched, or fails it after TIMEOUT. -/
  | imgWaitPoll
  /-- IMG_DELAY (R487): A DELAY record starts a wait of DURATION. -/
  | imgDelay
  /-- IMG_DELAY_EXPIRE (R487): The DELAY duration ends and the next record runs. -/
  | imgDelayExpire
  /-- IMG_COMMIT (R487): A COMMIT record commits the Churn, Fife or lane coefficients and waits for completion. -/
  | imgCommit
  /-- IMG_COMMIT_COMPLETE (R487): The commit's completion condition is met, or its 100 ms bound fails the record. Operands: the 100 ms of the wait are over. -/
  | imgCommitComplete (timeout : Bool)
  /-- IMG_END (R487): An END record ends the load and writes the result word. -/
  | imgEnd
  /-- FLL_UNLOCK (R267): The listening FLL loses lock; PDM clocks of codes 1 to 4 are held low and their groups and listening wait in WAIT_CLK. -/
  | fllUnlock
  /-- USB_SET_CONFIGURATION (R309): The host sets configuration 1; CONFIGURED changes, its interrupt is raised and HID reports may be queued. Operands: configuration value. -/
  | usbSetConfiguration (c : Nat)
  /-- USB_SET_ADDRESS (R309): The host assigns the device address shown in USB_STATE.ADDR. Operands: the address. -/
  | usbSetAddress (a : Fin 128)
  /-- JACK_BIAS_READY (R132): The jack bias ramp ends, BIAS_READY sets and the held jack microphone input and button decoding may be released. Operands: jack n. -/
  | jackBiasReady (n : Fin 2)
  /-- AIN_STOP_DONE (R90): The 1 ms mute ramp of a stopping input ends and its front end and slice power down with STATE = OFF. Operands: input n. -/
  | ainStopDone (n : Fin 16)
  /-- AOUT_STOP_DONE (R116): After the 1 ms gain ramp a stopping DAC channel isolates its stage and enters OFF, starting the charge-pump stop timer. Operands: channel c. -/
  | aoutStopDone (c : Fin 8)
  /-- SPK_STOP_DONE (R155): After the pop_gain ramp and 2 ms duty ramp the pull-downs engage, the stage powers down and STATE = OFF or FAULT. Operands: channel n. -/
  | spkStopDone (n : Fin 4)
  /-- BUS_STUCK_CLEAR (R447): A STUCK port whose lines have both been high for 50 µs leaves STUCK and its fault code clears. Operands: the port. -/
  | busStuckClear (port : Fin 2)
  /-- USB_FORCED_RECONNECT (R287): 100 ms after a forced disconnect the pull-up is switched on again with the new settings. -/
  | usbForcedReconnect
  /-- USB_RWAKE_IDLE_WAIT_END (R307): The bus has been idle 5 ms and a held remote-wake request is sent as a 2 ms K state. -/
  | usbRwakeIdleWaitEnd
  /-- SPDIF_TX_FRAME (R250): The S/PDIF transmitter sends its next frame from sinks 44 and 45, opening a new block and taking new channel status at block starts. -/
  | spdifTxFrame
  /-- LCY_FUSE_DONE (R473): The next life-cycle fuse has been programmed and verified, leading to the internal reset, or to RESULT 6 with outputs restarted. Operands: the fuse was programmed and verified. -/
  | lcyFuseDone (verified : Bool)
  /-- USB_PHY_PLL_LOCK (R286): The USB PHY PLL locks, so the pull-up connects when the other conditions hold. -/
  | usbPhyPllLock
  /-- USB_PHY_PLL_LOCK_TIMEOUT (R310): The PHY PLL has not locked within 1 ms and USB FAULT 0x02 is set. -/
  | usbPhyPllLockTimeout
deriving DecidableEq, Repr

end Sys2Proof
end

