-- ==== Sys2Proof/Config.lean ====
section
/-! DEFINITION. The free values: what the spec leaves open, as constants with no body, so that no proof can see a value of
them. Each is applied to the operands it depends on or to the model's counter (State.free). -/

namespace Sys2Proof.Config

/-- Last bit of a gain or level to which the spec gives no number format (ramps, levels, models): the value lies between
the exact one rounded down and its upper neighbour. Taken at the model's counter, a unit and a use. -/
opaque lsb : Nat → Nat → Nat → Bool

/-- Output of the polyphase rate converter (R170, R171), whose taps the spec does not give: from the stop, the ratio in
Q6.26, the read position and the buffered samples, newest first. -/
opaque convert : Nat → Nat → Nat → List Int → Int

/-- Coefficients b0, b1, b2, a1, a2 of one hum notch (R179), Q2.30, whose values the spec does not give: from the centre
in 0.001 Hz, WIDTH and the engine rate code. -/
opaque notch : Nat → Nat → Nat → Int × Int × Int × Int × Int

/-- Content of an owner's SRAM word whose place in the bank the spec does not give (a snapshot of MB0 to MB11 and MB22
to MB25): by bank, word and the model's counter. -/
opaque ownerWord : Nat → Nat → Nat → Word

/-- Which word of a serial port's memory ring a word of MB8 to MB11 is: by bank and word, the port, whether the transmit ring, and
the word's place in it from the oldest sample on. The spec gives no layout of these banks. -/
opaque ringPlace : Nat → Nat → Option (Nat × Bool × Nat)

/-- Coefficients b, a1, a2 (Q2.30) of the guard's excursion model (R147), whose discrete form the spec does not give: from
FRES, QTS and the channel's rate code. x[t] = b·u[t] − a1·x[t−1] − a2·x[t−2]. -/
opaque excursion : Nat → Nat → Nat → Int × Int × Int

/-- Impedance in mΩ of the load on a speaker channel at the pilot's frequency, from which its level follows (R149): by channel and
the model's counter. -/
opaque pilotOhm : Nat → Nat → Nat

/-- The band filter of the resistance measurement (R149), whose form the spec does not give: from FRES, the rate code, the filter's
memory and a sense sample, its next memory and the sample of the band below FRES / 4. -/
opaque inBand : Nat → Nat → Int → Int → Int × Int

/-- Output of an interpolation filter (R112), whose taps the spec does not give: from FILTER, the rate code and the samples it
holds, newest first. -/
opaque interpolate : Nat → Nat → List Int → Int

/-- Error of an applied Fife gain in 0.001 dB (R213 bounds it by ±10): by route, gain code and the model's counter. -/
opaque fifeError : Nat → Nat → Nat → Int

/-- Level in 1/65,536 dB of one of the spotter's 40 mel bands (R320), whose filters the spec does not give: from the powers of the
transform's bins 0 to 256, and the band. -/
opaque mel : List Nat → Nat → Int

/-- Does the 400-sample Hann window (R320) end a sample before its second zero? The spec does not say. -/
opaque hannPeriodic : Bool

/-- A descriptor whose bytes the spec does not give: from the descriptor type and index and the descriptor registers as they stood
at the connect. -/
opaque descriptor : Nat → Nat → List Word → List Nat

/-- Bytes of class-specific descriptor fields that the spec leaves open (the function category, the channels' places, lock delays), by
entity or interface and place (R289). -/
opaque descByte : Nat → Nat → Nat

/-- Lock time of a PLL in µs where no event brings it (R263 bounds it by 800): by PLL and the model's counter. -/
opaque lockTime : Nat → Nat → Nat

/-- The 90 Hz to 130 Hz band-pass of the PVDD drone channel (R283), whose form the spec does not give: from the filter's memory, the
crystal periods since the last sample and the sample's code, its next memory and the ripple in µV. -/
opaque rippleBand : Int → Nat → Int → Int × Int

/-- NTC temperature word where the formula of R354 has no value or one outside 16 bits: at the model's counter. -/
opaque ntcTemp : Nat → Nat

/-- Words a PMB_CMD read takes from the regulator where the command brings none: READ_VOUT and STATUS_WORD, at the model's
counter. -/
opaque regulator : Nat → Nat × Nat

/-- How a PMB_CMD exchange fails where the command does not say (R377): 0 not at all, 1 a NACK, 2 a PEC mismatch, 3 clock stretching;
at the model's free counter. -/
opaque regulatorFail : Nat → Nat

/-- The 64-bit unique ID of the part (SYS_UIDk), low word first. -/
opaque uid : Nat → Word

/-- A word of the OTP's factory region (trims, ageing baselines, unique ID), by byte address / 4: each part has its own. -/
opaque factoryWord : Nat → Word

/-- The identity words of OTP bytes 0x0400 to 0x043F as the cold start loads them (R480): USB_ID and the low byte of PMB_CFG.
The spec does not give their places in the region. -/
opaque identity : List Word → Word × Nat

/-- DC-servo correction of a powered DAC channel in 10 µV (AOUTc_OFFSET.SERVO), which follows its offset: by channel and the
model's counter. -/
opaque servo : Nat → Nat → Int

/-- Time in µs that a freeze lasted, where the resume came as a register write: at the model's counter. -/
opaque frozenUs : Nat → Nat

end Sys2Proof.Config
end

