-- ==== Sys2Proof/Machine/Num.lean ====
section
/-! DEFINITION. The arithmetic the spec's rules use: rounding to nearest with ties to even (R509), saturation (R165),
fixed-point values of the real formulas (exponential, cosine, logarithm, square root), CRC-32 (R423) and CRC-8 (R435). -/

namespace Sys2Proof.Machine

/-- `a / b` rounded to the nearest integer, an exact tie to the even neighbour (R509). -/
def divRne (a : Int) (b : Nat) : Int :=
  let q := a.fdiv b
  let r := a.fmod b
  if 2 * r < b then q else if 2 * r > b then q + 1 else if q % 2 = 0 then q else q + 1

/-- Positive full scale of a sample (R9). -/
def fsPos : Int := 0x7FFFFFFF

/-- Negative full scale of a sample (R9). -/
def fsNeg : Int := -0x80000000

/-- Saturation of a stage's result to the sample range (R165). -/
def sat32 (x : Int) : Int := if x > fsPos then fsPos else if x < fsNeg then fsNeg else x

/-- Does a result lie outside the sample range, so that it saturates (R165)? -/
def over32 (x : Int) : Bool := decide (x > fsPos) || decide (x < fsNeg)

/-- The register word of a sample. -/
def sampleWord (x : Int) : Word := BitVec.ofInt 32 x

/-- The sample a register word stands for (R9). -/
def wordSample (w : Word) : Int := w.toInt

/-- Two's complement reading of the low `w` bits of a number. -/
def signed (w : Nat) (x : Nat) : Int := if x % 2 ^ w < 2 ^ (w - 1) then (x % 2 ^ w : Int) else (x % 2 ^ w : Int) - 2 ^ w

/-- The low `w` bits of the two's complement of an integer. -/
def unsigned (w : Nat) (x : Int) : Nat := (x % (2 ^ w : Int)).toNat

/-- A counter that saturates at its field's largest value. -/
def satInc (w : Nat) (x : Nat) : Nat := if x + 1 < 2 ^ w then x + 1 else 2 ^ w - 1

/-- A value clamped to what `w` bits hold. -/
def satTo (w : Nat) (x : Nat) : Nat := if x < 2 ^ w then x else 2 ^ w - 1

/-- A signed value clamped to what `w` bits of two's complement hold. -/
def satSigned (w : Nat) (x : Int) : Int :=
  if x > 2 ^ (w - 1) - 1 then 2 ^ (w - 1) - 1 else if x < -(2 ^ (w - 1)) then -(2 ^ (w - 1)) else x

/-- The least `n` whose product with `b` is at least `a` (0 when `b` is 0). -/
def ceilDiv (a b : Nat) : Nat := (a + b - 1) / b

/-! Fixed point with 60 fractional bits, for the spec's real formulas. -/

/-- One in fixed point. -/
def q60 : Nat := 2 ^ 60

/-- π in fixed point, rounded to nearest. -/
def piQ : Int := 3622009729038561421

/-- ln 2 in fixed point, rounded to nearest. -/
def ln2Q : Int := 799144290325165979

/-- ln 10 in fixed point, rounded to nearest. -/
def ln10Q : Int := 2654699869899991814

/-- Product of two fixed-point numbers. -/
def mulQ (a b : Int) : Int := (a * b).fdiv q60

/-- Taylor sum of the exponential, `n` more terms, from the term of index `k`. -/
def expTail (x : Int) : Nat → Nat → Int → Int
  | 0, _, t => t
  | n + 1, k, t => t + expTail x n (k + 1) (mulQ t x / (k + 1 : Int))

/-- The exponential of a fixed-point number, as a numerator over 2^60. -/
def expQ (x : Int) : Int :=
  let k := x.fdiv ln2Q
  let m := expTail (x - k * ln2Q) 24 0 q60
  if k ≥ 0 then m * 2 ^ k.toNat else m / 2 ^ (-k).toNat

/-- 10^(num / (20 · den)) in fixed point: the linear gain of num/den dB. -/
def dbLin (num : Int) (den : Nat) : Int := expQ ((ln10Q * num).fdiv (20 * den : Int))

/-- 10^(num / (10 · den)) in fixed point: the power ratio of num/den dB. -/
def dbPow (num : Int) (den : Nat) : Int := expQ ((ln10Q * num).fdiv (10 * den : Int))

/-- Taylor sum of the cosine. -/
def cosTail (x2 : Int) : Nat → Nat → Int → Int
  | 0, _, t => t
  | n + 1, k, t => t + cosTail x2 n (k + 2) (-(mulQ t x2) / ((k + 1) * (k + 2) : Int))

/-- The cosine of a fixed-point angle between 0 and π. -/
def cosQ (x : Int) : Int := cosTail (mulQ x x) 20 0 q60

/-- The sine of num/den of a turn in fixed point. -/
def sineQ (num den : Nat) : Int :=
  let q := (4 * num + 3 * den) % (4 * den)
  let h := if 2 * den < q then 4 * den - q else q
  cosQ ((piQ * h).fdiv (2 * den))

/-- Raised-cosine amplitude (1 − cos πp)/2 at p = num/den, with 30 fractional bits, rounded down. -/
def raisedCosine (num den : Nat) : Nat :=
  if num = 0 then 0 else if num ≥ den then 2 ^ 30
  else ((q60 - cosQ ((piQ * num).fdiv den)) / 2 ^ 31).toNat

/-- The bits of log2 of `m / 2^60` (a number from 1 to 2), most significant first. -/
def log2Bits : Nat → Nat → Nat
  | 0, _ => 0
  | n + 1, m =>
    let y := m * m / q60
    if y ≥ 2 * q60 then 2 ^ n + log2Bits n (y / 2) else log2Bits n y

/-- log2 of a positive number a/b, with 40 fractional bits, rounded down. -/
def log2Q (a b : Nat) : Int :=
  let k : Int := (a.log2 : Int) - b.log2
  let m : Nat := if k ≥ 0 then a * q60 / (b * 2 ^ k.toNat) else a * 2 ^ (-k).toNat * q60 / b
  if m ≥ q60 then k * 2 ^ 40 + log2Bits 40 m else (k - 1) * 2 ^ 40 + log2Bits 40 (2 * m)

/-- Level `mult · log10(a/b)` in units of 1/`unit` dB, rounded down (`mult` is 10 for a power, 20 for an amplitude). -/
def levelDb (mult unit : Nat) (a b : Nat) : Int := (log2Q a b * (mult * unit : Int) * ln2Q).fdiv (2 ^ 40 * ln10Q)

/-- The largest number whose square is at most `x`, by bisection. -/
def isqrtAux (x : Nat) : Nat → Nat → Nat
  | 0, r => r
  | n + 1, r => if (r + 2 ^ n) * (r + 2 ^ n) ≤ x then isqrtAux x n (r + 2 ^ n) else isqrtAux x n r

/-- Integer square root. -/
def isqrt (x : Nat) : Nat := isqrtAux x (x.log2 / 2 + 1) 0

/-! Gain codes (R11). -/

/-- The gain of a code in sixteenths of a dB (R11); none for code 0, which mutes. -/
def gainDb16 (code : Nat) : Option Int :=
  if code = 0 then none else if code ≤ 3456 then some ((code : Int) - 3072) else some 384

/-- Linear gain of num/den dB in unsigned Q5.27, rounded to nearest (R199). -/
def gLinOf (num : Int) (den : Nat) : Nat := (divRne (dbLin num den) (2 ^ 33)).toNat

/-- Linear gain of a gain code in unsigned Q5.27: round(2^27 × 10^(G/20)) (R11, R199). -/
def gLin (code : Nat) : Nat :=
  match gainDb16 code with
  | none => 0
  | some d => gLinOf d 16

/-! Checks over bytes. -/

/-- Eight shifts of the reflected CRC-32 register. -/
def crc32Byte : Nat → Nat → Nat
  | 0, c => c
  | n + 1, c => crc32Byte n (if c % 2 = 1 then (c / 2) ^^^ 0xEDB88320 else c / 2)

/-- CRC-32 over a list of bytes, as R423 states it. -/
def crc32 (bs : List Nat) : Nat :=
  (bs.foldl (fun c b => crc32Byte 8 (c ^^^ b)) 0xFFFFFFFF) ^^^ 0xFFFFFFFF

/-- Eight shifts of the CRC-8 register, polynomial 0x07. -/
def crc8Byte : Nat → Nat → Nat
  | 0, c => c
  | n + 1, c => crc8Byte n (if c ≥ 128 then (2 * c % 256) ^^^ 7 else 2 * c)

/-- CRC-8 over a list of bytes: the PEC of R435. -/
def crc8 (bs : List Nat) : Nat := bs.foldl (fun c b => crc8Byte 8 (c ^^^ b)) 0

/-- The four bytes of a word, least significant first (R5). -/
def wordBytes (w : Nat) : List Nat := [w % 256, w / 256 % 256, w / 65536 % 256, w / 16777216 % 256]

end Sys2Proof.Machine
end

