-- ==== Sys2Proof/Machine/RegMap.lean ====
section
/-! DEFINITION. The shape of the register map: access types (R6), fields, registers and the page table of R56. -/

namespace Sys2Proof.Machine

/-- Field access types of R6. -/
inductive Access
  | rw | ro | w1c | w1s | wo
deriving DecidableEq, Repr

/-- One field of a register: its least bit, its width, its access (R6), and the codes the spec reserves (R7), as
inclusive ranges. -/
structure FieldDef where
  lo : Nat
  w : Nat
  acc : Access
  reserved : List (Nat × Nat)
deriving DecidableEq, Repr

/-- One register of a page type: `count` words from `off`, `stride` bytes apart, on the `pn` pages of the type from
its page number `p0`; the reset word (index by index where `resets` is not empty). `silent` marks a word whose bits are
all reserved on these pages: it reads 0 and ignores writes without a violation. -/
structure RegDef where
  off : Nat
  count : Nat
  stride : Nat
  p0 : Nat
  pn : Nat
  reset : Nat
  resets : List Nat
  silent : Bool
  fields : List FieldDef
deriving DecidableEq, Repr

/-- A named field at a byte address. -/
structure Fld where
  addr : Nat
  lo : Nat
  w : Nat
deriving DecidableEq, Repr

/-- The page types of R56. -/
inductive PageType
  | sys | pwr | blw | clk | mem | dbg | mnt | lcy | smb | pmb | usb | sns | lst | jck | fif | chn | ainp | aux | aop
  | spk | sap | pdm | spd | lane
deriving DecidableEq, Repr

/-- One row of the page table of R56: first page, number of pages, PG_ID type code, register count, whether
PG_CTRL.ENABLE is writable, and its reset value. -/
structure PageRow where
  ty : PageType
  first : Nat
  n : Nat
  code : Nat
  regs : Nat
  enRw : Bool
  en : Nat
deriving DecidableEq, Repr

/-- The page table of R56. -/
def pageTable : List PageRow := [
  .mk .sys 0x00 1 0x01 112 false 1, .mk .pwr 0x01 1 0x02 128 false 1, .mk .blw 0x02 1 0x03 176 false 1,
  .mk .clk 0x03 1 0x04 144 false 1, .mk .mem 0x04 1 0x05 128 false 1, .mk .dbg 0x05 1 0x06 96 false 1,
  .mk .mnt 0x06 1 0x07 112 true 1, .mk .lcy 0x07 1 0x08 64 false 1, .mk .smb 0x08 1 0x09 64 false 1,
  .mk .pmb 0x09 1 0x0A 64 false 1, .mk .usb 0x0A 1 0x0B 208 true 0, .mk .sns 0x0B 1 0x0C 176 true 1] ++ [
  .mk .lst 0x0C 1 0x0D 160 true 0, .mk .jck 0x0D 1 0x0E 128 true 0, .mk .fif 0x0E 1 0x0F 160 true 0,
  .mk .chn 0x0F 1 0x10 224 false 1, .mk .ainp 0x10 8 0x11 96 true 0, .mk .aux 0x18 1 0x12 48 true 0,
  .mk .aop 0x19 4 0x13 96 true 0, .mk .spk 0x1D 4 0x14 112 true 0, .mk .sap 0x21 8 0x15 96 true 0,
  .mk .pdm 0x29 1 0x16 96 true 0, .mk .spd 0x2A 1 0x17 96 true 0, .mk .lane 0x30 48 0x18 64 true 0]

/-- The row of an implemented page (R56). -/
def pageRow (page : Nat) : Option PageRow :=
  pageTable.find? (fun r => decide (r.first ≤ page) && decide (page < r.first + r.n))

/-- Bits of a word from `lo`, `w` wide, as a number. -/
def bits (x : Word) (lo w : Nat) : Nat := x.toNat / 2 ^ lo % 2 ^ w

/-- The word `x` with the `w` bits from `lo` replaced by `v`. -/
def setBits (x : Word) (lo w v : Nat) : Word :=
  BitVec.ofNat 32 (x.toNat / 2 ^ (lo + w) * 2 ^ (lo + w) + v % 2 ^ w * 2 ^ lo + x.toNat % 2 ^ lo)

end Sys2Proof.Machine
end

