-- ==== Sys2Proof/Machine/Fields.lean ====
section
/-! DEFINITION. Byte addresses (A) and fields (F) of the registers, one name per register and field, from the same tables of the spec as RegTable.lean. -/

namespace Sys2Proof.Machine

namespace A
def SYS_STRAP : Nat := 0x00044
def SYS_ID : Nat := 0x00040
def SYS_IRQ_GROUP : Nat := 0x00048
def SYS_IRQ_GROUP_EN : Nat := 0x0004C
def SYS_IRQ_PAGES0 : Nat := 0x00050
def SYS_IRQ_PAGES1 : Nat := 0x00054
def SYS_IRQ_LANES0 : Nat := 0x00058
def SYS_IRQ_LANES1 : Nat := 0x0005C
def SYS_RESET_CAUSE : Nat := 0x00060
def SYS_SW_RESET : Nat := 0x00064
def SYS_UID (k : Nat) : Nat := 0x00068 + 0x04 * k
def SYS_SCRATCH : Nat := 0x00070
def PWR_CTRL : Nat := 0x00440
def PWR_STATE : Nat := 0x00444
def PWR_RET_MASK : Nat := 0x00448
def PWR_WAKE_EN : Nat := 0x0044C
def PWR_WAKE_TIMER : Nat := 0x00450
def PWR_WAKE_STATUS : Nat := 0x00454
def PWR_SOURCES_SEEN : Nat := 0x00458
def PWR_REFUSE_FIRST : Nat := 0x0045C
def PWR_REFUSE_LAST : Nat := 0x00460
def PWR_REFUSE_MAP : Nat := 0x00464
def PWR_SILENT_MAP : Nat := 0x00468
def PWR_COUNT : Nat := 0x0046C
def PWR_COUNT2 : Nat := 0x00470
def PWR_ABORT_INFO : Nat := 0x00474
def PWR_ACCT_CLR : Nat := 0x00478
def PWR_DOMAIN : Nat := 0x0047C
def PWR_BANK_ON : Nat := 0x00480
def PWR_SPARE_ON : Nat := 0x00484
def PWR_QUIESCE_TIME : Nat := 0x00488
def PWR_RET_CRC_BANKS : Nat := 0x0048C
def BLW_CTRL : Nat := 0x00840
def BLW_ALLOT : Nat := 0x00844
def BLW_RES_CFG : Nat := 0x00848
def BLW_RES : Nat := 0x0084C
def BLW_DRAW : Nat := 0x00850
def BLW_PVDD : Nat := 0x00854
def BLW_BASE : Nat := 0x00858
def BLW_SAG : Nat := 0x0085C
def BLW_SAG_STATUS : Nat := 0x00860
def BLW_THERM_CFG : Nat := 0x00864
def BLW_TAU : Nat := 0x00868
def BLW_OP : Nat := 0x0086C
def BLW_OP_COST : Nat := 0x00870
def BLW_STATUS : Nat := 0x00874
def BLW_REJECT : Nat := 0x00878
def BLW_TICK : Nat := 0x0087C
def BLW_COUNT : Nat := 0x00880
def BLW_MNT : Nat := 0x00884
def BLW_GRANT0 : Nat := 0x00888
def BLW_GRANT1 : Nat := 0x0088C
def BLW_ZONE_CFG (k : Nat) : Nat := 0x00890 + 0x04 * k
def BLW_ZONE_STATUS (k : Nat) : Nat := 0x008A8 + 0x04 * k
def BLW_TASK_CFG (k : Nat) : Nat := 0x008C0 + 0x08 * k
def BLW_TASK_COST (k : Nat) : Nat := 0x008C4 + 0x08 * k
def CLK_XTAL_STATUS : Nat := 0x00C40
def CLK_PLL_CTRL : Nat := 0x00C44
def CLK_ROLE : Nat := 0x00C48
def CLK_PLL_STATUS (k : Nat) : Nat := 0x00C4C + 0x04 * k
def CLK_PLL_CFG (k : Nat) : Nat := 0x00C58 + 0x04 * k
def CLK_PLL_COUNT (k : Nat) : Nat := 0x00C64 + 0x04 * k
def CLK_ENGINE : Nat := 0x00C70
def CLK_ENGINE_FREQ : Nat := 0x00C74
def CLK_TAKEOVER : Nat := 0x00C78
def CLK_TAKEOVER_STATUS : Nat := 0x00C7C
def CLK_FLL_STATUS : Nat := 0x00C80
def CLK_MAINS_CTRL : Nat := 0x00C84
def CLK_MAINS_STATUS : Nat := 0x00C88
def CLK_MAINS_PERIOD : Nat := 0x00C8C
def CLK_MAINS_COUNT : Nat := 0x00C90
def CLK_TRK_STATUS (k : Nat) : Nat := 0x00CC0 + 0x10 * k
def CLK_TRK_RATE (k : Nat) : Nat := 0x00CC4 + 0x10 * k
def CLK_TRK_COUNT (k : Nat) : Nat := 0x00CC8 + 0x10 * k
def CLK_TRK_COUNT2 (k : Nat) : Nat := 0x00CCC + 0x10 * k
def CLK_TRK_CLR : Nat := 0x00D60
def CLK_FDIV (k : Nat) : Nat := 0x00D80 + 0x04 * k
def CLK_FDIV_STEER : Nat := 0x00DA4
def MEM_CTRL : Nat := 0x01040
def MEM_ECC_CFG : Nat := 0x01044
def MEM_WIPE_STATUS : Nat := 0x01048
def MEM_WIPE_BANKS : Nat := 0x0104C
def MEM_WIPE_REQ : Nat := 0x01050
def MEM_CORR_COUNT : Nat := 0x01054
def MEM_UNCORR_COUNT : Nat := 0x01058
def MEM_LAST_CORR : Nat := 0x0105C
def MEM_LAST_UNCORR : Nat := 0x01060
def MEM_TRACK_STATUS : Nat := 0x01064
def MEM_TRACK_SEL : Nat := 0x01068
def MEM_TRACK_ENTRY : Nat := 0x0106C
def MEM_SPARE_STATUS : Nat := 0x01070
def MEM_JOB : Nat := 0x01074
def MEM_RET_LOST : Nat := 0x01078
def MEM_RET_STATUS : Nat := 0x0107C
def MEM_SKIM_LAP : Nat := 0x01080
def MEM_SKIM_POS : Nat := 0x01084
def MEM_BANK_STATUS (k : Nat) : Nat := 0x01088 + 0x04 * k
def MEM_RET_CRC (k : Nat) : Nat := 0x01110 + 0x04 * k
def DBG_VIOL_FIRST_ADDR : Nat := 0x01440
def DBG_VIOL_FIRST_INFO : Nat := 0x01444
def DBG_VIOL_LAST_ADDR : Nat := 0x01448
def DBG_VIOL_LAST_INFO : Nat := 0x0144C
def DBG_VIOL_COUNT : Nat := 0x01450
def DBG_VIOL_CTRL : Nat := 0x01454
def DBG_FREEZE : Nat := 0x01458
def DBG_FREEZE_STATUS : Nat := 0x0145C
def DBG_FREEZE_COUNT : Nat := 0x01460
def DBG_FREEZE_FRAME : Nat := 0x01464
def DBG_FREEZE_TIME : Nat := 0x01468
def DBG_SNAP_SEL : Nat := 0x0146C
def DBG_CNT_CLR : Nat := 0x01470
def MNT_SCHED : Nat := 0x01840
def MNT_SCHED_STATUS : Nat := 0x01844
def MNT_INV : Nat := 0x01848
def MNT_LOG : Nat := 0x0184C
def MNT_POST : Nat := 0x01850
def MNT_JOB_SEL : Nat := 0x01854
def MNT_JOB : Nat := 0x01858
def MNT_JOB2 : Nat := 0x0185C
def MNT_COUNT : Nat := 0x01860
def MNT_COUNT2 : Nat := 0x01864
def MNT_AGE_CFG : Nat := 0x01868
def MNT_AGE (k : Nat) : Nat := 0x0186C + 0x04 * k
def MNT_MAC : Nat := 0x018A4
def MNT_CNT_CLR : Nat := 0x018A8
def LCY_STATE : Nat := 0x01C40
def LCY_CTRL : Nat := 0x01C44
def LCY_CODE (k : Nat) : Nat := 0x01C48 + 0x04 * k
def LCY_CHECK : Nat := 0x01C58
def LCY_STATUS : Nat := 0x01C5C
def LCY_OTP_ADDR : Nat := 0x01C60
def LCY_OTP_DATA : Nat := 0x01C64
def LCY_OTP_CTRL : Nat := 0x01C68
def LCY_OTP_STATUS : Nat := 0x01C6C
def SMB_CFG : Nat := 0x02040
def SMB_STATE : Nat := 0x02044
def SMB_LAST : Nat := 0x02048
def SMB_FLAGS : Nat := 0x0204C
def SMB_COUNT : Nat := 0x02050
def SMB_COUNT2 : Nat := 0x02054
def SMB_HN_CFG : Nat := 0x02058
def SMB_HN_STATUS : Nat := 0x0205C
def SMB_HN_COUNT : Nat := 0x02060
def SMB_HN_COUNT2 : Nat := 0x02064
def SMB_REC_SMB : Nat := 0x02068
def SMB_REC_PMB : Nat := 0x0206C
def SMB_REC_CTRL : Nat := 0x02070
def SMB_CNT_CLR : Nat := 0x02074
def PMB_CFG : Nat := 0x02440
def PMB_TIMING : Nat := 0x02444
def PMB_VOUT : Nat := 0x02448
def PMB_MODE : Nat := 0x0244C
def PMB_READ : Nat := 0x02450
def PMB_STATUS_WORD : Nat := 0x02454
def PMB_STATUS : Nat := 0x02458
def PMB_COUNT : Nat := 0x0245C
def PMB_CMD : Nat := 0x02460
def PMB_CNT_CLR : Nat := 0x02464
def USB_CFG : Nat := 0x02840
def USB_ID : Nat := 0x02844
def USB_DEV : Nat := 0x02848
def USB_RATES : Nat := 0x0284C
def USB_AS_CFG (k : Nat) : Nat := 0x02850 + 0x04 * k
def USB_STATE : Nat := 0x02860
def USB_ALT : Nat := 0x02864
def USB_CLOCK : Nat := 0x02868
def USB_FB (k : Nat) : Nat := 0x0286C + 0x04 * k
def USB_AS_STATUS (k : Nat) : Nat := 0x02874 + 0x04 * k
def USB_AS_COUNT (k : Nat) : Nat := 0x02884 + 0x04 * k
def USB_FU_CTRL : Nat := 0x02894
def USB_FU (k : Nat) : Nat := 0x02898 + 0x04 * k
def USB_HID_MAP : Nat := 0x028A8
def USB_HID_INJECT : Nat := 0x028AC
def USB_HID_STATUS : Nat := 0x028B0
def USB_WAKE : Nat := 0x028B4
def USB_HIST_CTRL : Nat := 0x028B8
def USB_HIST_STATUS : Nat := 0x028BC
def USB_HIST_COUNTER : Nat := 0x028C0
def USB_VREQ_STATUS : Nat := 0x028C4
def USB_FLAGS : Nat := 0x028C8
def USB_COUNT : Nat := 0x028CC
def USB_CNT_CLR : Nat := 0x028D0
def USB_LPM : Nat := 0x028D4
def USB_STR_MFR (k : Nat) : Nat := 0x02900 + 0x04 * k
def USB_STR_PROD (k : Nat) : Nat := 0x02940 + 0x04 * k
def USB_STR_SER (k : Nat) : Nat := 0x02980 + 0x04 * k
def SNS_CFG : Nat := 0x02C40
def SNS_SEQ_CTRL : Nat := 0x02C44
def SNS_SEQ_STATUS : Nat := 0x02C48
def SNS_RESULT : Nat := 0x02C4C
def SNS_STATUS : Nat := 0x02C50
def SNS_COUNT : Nat := 0x02C54
def SNS_COUNT2 : Nat := 0x02C58
def SNS_CNT_CLR : Nat := 0x02C5C
def SNS_URGENT : Nat := 0x02C60
def SNS_ENTRY_OVR : Nat := 0x02C64
def SNS_SHUNT : Nat := 0x02C68
def SNS_INT_STATUS : Nat := 0x02C6C
def SNS_DRONE_CFG (k : Nat) : Nat := 0x02C70 + 0x04 * k
def SNS_DRONE_AVG (k : Nat) : Nat := 0x02C80 + 0x04 * k
def SNS_NTC_CFG (k : Nat) : Nat := 0x02C90 + 0x04 * k
def SNS_NTC_TEMP : Nat := 0x02C98
def SNS_PP_CTRL : Nat := 0x02C9C
def SNS_DIAG_CTRL : Nat := 0x02CA0
def SNS_DIAG_STATUS : Nat := 0x02CA4
def SNS_DIAG_RESULT : Nat := 0x02CA8
def SNS_SLICE_TEST : Nat := 0x02CAC
def SNS_SEQ (k : Nat) : Nat := 0x02CC0 + 0x04 * k
def LST_CTRL : Nat := 0x03040
def LST_CFG : Nat := 0x03044
def LST_SRC : Nat := 0x03048
def LST_VAD : Nat := 0x0304C
def LST_LEVEL : Nat := 0x03050
def LST_SPOT : Nat := 0x03054
def LST_STATUS : Nat := 0x03058
def LST_COUNTER : Nat := 0x0305C
def LST_WAKE_COUNTER : Nat := 0x03060
def LST_WAKE_INFO : Nat := 0x03064
def LST_RESUME_COUNTER : Nat := 0x03068
def LST_HIST_OLDEST : Nat := 0x0306C
def LST_HIST_SPANS : Nat := 0x03070
def LST_GAP_START : Nat := 0x03074
def LST_GAP : Nat := 0x03078
def LST_COUNT : Nat := 0x0307C
def LST_COUNT2 : Nat := 0x03080
def LST_MODEL_CTRL : Nat := 0x03084
def LST_MODEL_STATUS : Nat := 0x03088
def LST_MODEL_INFO : Nat := 0x0308C
def LST_MODEL_MACS : Nat := 0x03090
def LST_MODEL_WIN (k : Nat) : Nat := 0x03100 + 0x04 * k
def JCK_CP_CTRL : Nat := 0x03440
def JCK_CP_STATUS : Nat := 0x03444
def JCK_DSL_MAP0 : Nat := 0x03448
def JCK_DSL_MAP1 : Nat := 0x0344C
def JCK_DSL_STATE : Nat := 0x03450
def JCK_SUBST_REQ : Nat := 0x03454
def JCK_SUBST_STATUS : Nat := 0x03458
def JCK_SUBST_MATCH : Nat := 0x0345C
def JCK_VREFB_STATUS : Nat := 0x03460
def JCK_HOLD_STATUS : Nat := 0x03464
def JCK_CTRL (k : Nat) : Nat := 0x03480 + 0x40 * k
def JCK_STATUS (k : Nat) : Nat := 0x03484 + 0x40 * k
def JCK_BIAS (k : Nat) : Nat := 0x03488 + 0x40 * k
def JCK_BTN_THR (k : Nat) : Nat := 0x0348C + 0x40 * k
def JCK_IMP_CTRL (k : Nat) : Nat := 0x03490 + 0x40 * k
def JCK_IMP_L (k : Nat) : Nat := 0x03494 + 0x40 * k
def JCK_IMP_R (k : Nat) : Nat := 0x03498 + 0x40 * k
def JCK_COUNT (k : Nat) : Nat := 0x0349C + 0x40 * k
def JCK_EVENT (k : Nat) : Nat := 0x034A0 + 0x40 * k
def FIF_CTRL : Nat := 0x03840
def FIF_STATUS : Nat := 0x03844
def FIF_SRC_LIVE : Nat := 0x03848
def FIF_GAIN (k : Nat) : Nat := 0x03880 + 0x04 * k
def FIF_GAIN_NOW (k : Nat) : Nat := 0x03900 + 0x04 * k
def CHN_CTRL : Nat := 0x03C40
def CHN_STATUS : Nat := 0x03C44
def CHN_FRAME_NOW : Nat := 0x03C48
def CHN_COMMIT_FRAME : Nat := 0x03C4C
def CHN_LOAD : Nat := 0x03C50
def CHN_BUS_SAT0 : Nat := 0x03C54
def CHN_BUS_SAT1 : Nat := 0x03C58
def CHN_SAT_COUNT : Nat := 0x03C5C
def CHN_POISON : Nat := 0x03C60
def CHN_TAP (k : Nat) : Nat := 0x03C64 + 0x04 * k
def CHN_TAP_MISMATCH : Nat := 0x03C74
def CHN_SINK_MISMATCH (k : Nat) : Nat := 0x03C78 + 0x04 * k
def CHN_SINK_SEL : Nat := 0x03C90
def CHN_SINK_ACTIVE : Nat := 0x03C94
def CHN_TAP_ACTIVE (k : Nat) : Nat := 0x03C98 + 0x04 * k
def CHN_SINK (k : Nat) : Nat := 0x03CC8 + 0x04 * k
def AIN_CTRL (n : Nat) : Nat := 0x04000 + 0x400 * (n / 2) + 0x040 + 0x80 * (n % 2)
def AIN_PGA (n : Nat) : Nat := 0x04000 + 0x400 * (n / 2) + 0x044 + 0x80 * (n % 2)
def AIN_FMT (n : Nat) : Nat := 0x04000 + 0x400 * (n / 2) + 0x048 + 0x80 * (n % 2)
def AIN_CAL (n : Nat) : Nat := 0x04000 + 0x400 * (n / 2) + 0x04C + 0x80 * (n % 2)
def AIN_ELASTIC (n : Nat) : Nat := 0x04000 + 0x400 * (n / 2) + 0x050 + 0x80 * (n % 2)
def AIN_STATUS (n : Nat) : Nat := 0x04000 + 0x400 * (n / 2) + 0x054 + 0x80 * (n % 2)
def AIN_CLIP (n : Nat) : Nat := 0x04000 + 0x400 * (n / 2) + 0x058 + 0x80 * (n % 2)
def AIN_SLICE (n : Nat) : Nat := 0x04000 + 0x400 * (n / 2) + 0x05C + 0x80 * (n % 2)
def AUX_BEEP_CTRL : Nat := 0x06040
def AUX_BEEP_STATUS : Nat := 0x06044
def AUX_MICBIAS_CTRL : Nat := 0x06048
def AUX_MICBIAS_STATUS : Nat := 0x0604C
def AUX_SLICE_MAP (k : Nat) : Nat := 0x06050 + 0x04 * k
def AUX_SLICE_STATE0 : Nat := 0x06060
def AUX_SLICE_STATE1 : Nat := 0x06064
def AUX_SUBST_REQ : Nat := 0x06068
def AUX_SUBST_STATUS : Nat := 0x0606C
def AUX_SUBST_MATCH : Nat := 0x06070
def AUX_VREF_STATUS : Nat := 0x06074
def AUX_PRIVACY : Nat := 0x06078
def AOUT_CTRL (n : Nat) : Nat := 0x06400 + 0x400 * (n / 2) + 0x040 + 0x80 * (n % 2)
def AOUT_FMT (n : Nat) : Nat := 0x06400 + 0x400 * (n / 2) + 0x044 + 0x80 * (n % 2)
def AOUT_VOL (n : Nat) : Nat := 0x06400 + 0x400 * (n / 2) + 0x048 + 0x80 * (n % 2)
def AOUT_ELASTIC (n : Nat) : Nat := 0x06400 + 0x400 * (n / 2) + 0x04C + 0x80 * (n % 2)
def AOUT_STATUS (n : Nat) : Nat := 0x06400 + 0x400 * (n / 2) + 0x050 + 0x80 * (n % 2)
def AOUT_FLAGS (n : Nat) : Nat := 0x06400 + 0x400 * (n / 2) + 0x054 + 0x80 * (n % 2)
def AOUT_SLICE (n : Nat) : Nat := 0x06400 + 0x400 * (n / 2) + 0x058 + 0x80 * (n % 2)
def AOUT_OFFSET (n : Nat) : Nat := 0x06400 + 0x400 * (n / 2) + 0x05C + 0x80 * (n % 2)
def AOP_PAIR (n : Nat) : Nat := 0x06400 + 0x400 * n + 0x140
def SPK_CTRL (n : Nat) : Nat := 0x07400 + 0x400 * n + 0x040
def SPK_FMT (n : Nat) : Nat := 0x07400 + 0x400 * n + 0x044
def SPK_VOL (n : Nat) : Nat := 0x07400 + 0x400 * n + 0x048
def SPK_PWM (n : Nat) : Nat := 0x07400 + 0x400 * n + 0x04C
def SPK_LOAD (n : Nat) : Nat := 0x07400 + 0x400 * n + 0x050
def SPK_CEIL (n : Nat) : Nat := 0x07400 + 0x400 * n + 0x054
def SPK_PROT (n : Nat) : Nat := 0x07400 + 0x400 * n + 0x058
def SPK_STATUS (n : Nat) : Nat := 0x07400 + 0x400 * n + 0x05C
def SPK_FLAGS (n : Nat) : Nat := 0x07400 + 0x400 * n + 0x060
def SPK_FAULT_CNT (n : Nat) : Nat := 0x07400 + 0x400 * n + 0x064
def SPK_MEAS_P (n : Nat) : Nat := 0x07400 + 0x400 * n + 0x068
def SPK_MEAS_Z (n : Nat) : Nat := 0x07400 + 0x400 * n + 0x06C
def SPK_STAGE_T (n : Nat) : Nat := 0x07400 + 0x400 * n + 0x070
def SPK_GUARD_CTRL (n : Nat) : Nat := 0x07400 + 0x400 * n + 0x074
def SPK_GUARD_RE (n : Nat) : Nat := 0x07400 + 0x400 * n + 0x078
def SPK_GUARD_XM (n : Nat) : Nat := 0x07400 + 0x400 * n + 0x07C
def SPK_GUARD_XL (n : Nat) : Nat := 0x07400 + 0x400 * n + 0x080
def SPK_GUARD_TC (n : Nat) : Nat := 0x07400 + 0x400 * n + 0x084
def SPK_GUARD_TM (n : Nat) : Nat := 0x07400 + 0x400 * n + 0x088
def SPK_GUARD_TL (n : Nat) : Nat := 0x07400 + 0x400 * n + 0x08C
def SPK_GUARD_STATUS (n : Nat) : Nat := 0x07400 + 0x400 * n + 0x090
def SPK_GUARD_TEMP (n : Nat) : Nat := 0x07400 + 0x400 * n + 0x094
def SAP_CTRL (n : Nat) : Nat := 0x08400 + 0x400 * n + 0x040
def SAP_FMT (n : Nat) : Nat := 0x08400 + 0x400 * n + 0x044
def SAP_SLOT_MASK_TX (n : Nat) : Nat := 0x08400 + 0x400 * n + 0x048
def SAP_SLOT_MASK_RX (n : Nat) : Nat := 0x08400 + 0x400 * n + 0x04C
def SAP_STATUS (n : Nat) : Nat := 0x08400 + 0x400 * n + 0x050
def SAP_MEAS (n : Nat) : Nat := 0x08400 + 0x400 * n + 0x054
def SAP_BCLK (n : Nat) : Nat := 0x08400 + 0x400 * n + 0x058
def SAP_FLAGS (n : Nat) : Nat := 0x08400 + 0x400 * n + 0x05C
def SAP_COUNT (n : Nat) : Nat := 0x08400 + 0x400 * n + 0x060
def SAP_COUNT2 (n : Nat) : Nat := 0x08400 + 0x400 * n + 0x064
def SAP_CNT_CLR (n : Nat) : Nat := 0x08400 + 0x400 * n + 0x068
def SAP_MCLK (n : Nat) : Nat := 0x08400 + 0x400 * n + 0x06C
def PDM_CLK_CTRL : Nat := 0x0A440
def PDM_LINE : Nat := 0x0A444
def PDM_MIC_EN : Nat := 0x0A448
def PDM_FMT : Nat := 0x0A44C
def PDM_STATUS : Nat := 0x0A450
def PDM_MIC_STATUS : Nat := 0x0A454
def PDM_CLIP : Nat := 0x0A458
def PDM_FLAGS : Nat := 0x0A45C
def SPD_RX_CTRL : Nat := 0x0A840
def SPD_RX_STATUS : Nat := 0x0A844
def SPD_RX_FLAGS : Nat := 0x0A848
def SPD_RX_COUNT : Nat := 0x0A84C
def SPD_RX_CS (k : Nat) : Nat := 0x0A850 + 0x04 * k
def SPD_TX_CTRL : Nat := 0x0A868
def SPD_TX_STATUS : Nat := 0x0A86C
def SPD_TX_CS (k : Nat) : Nat := 0x0A870 + 0x04 * k
def SPD_CNT_CLR : Nat := 0x0A888
def LANE_SRC (n : Nat) : Nat := 0x0C000 + 0x400 * n + 0x040
def LANE_OUT (n : Nat) : Nat := 0x0C000 + 0x400 * n + 0x044
def LANE_CTRL (n : Nat) : Nat := 0x0C000 + 0x400 * n + 0x048
def LANE_RC (n : Nat) : Nat := 0x0C000 + 0x400 * n + 0x04C
def LANE_TRIM (n : Nat) : Nat := 0x0C000 + 0x400 * n + 0x050
def LANE_DCB (n : Nat) : Nat := 0x0C000 + 0x400 * n + 0x054
def LANE_HUM (n : Nat) : Nat := 0x0C000 + 0x400 * n + 0x058
def LANE_HUM_STATUS (n : Nat) : Nat := 0x0C000 + 0x400 * n + 0x05C
def LANE_COEF_CTRL (n : Nat) : Nat := 0x0C000 + 0x400 * n + 0x060
def LANE_COEF_STATUS (n : Nat) : Nat := 0x0C000 + 0x400 * n + 0x064
def LANE_DYN_CTRL (n : Nat) : Nat := 0x0C000 + 0x400 * n + 0x068
def LANE_DYN_COMP (n : Nat) : Nat := 0x0C000 + 0x400 * n + 0x06C
def LANE_DYN_TIME (n : Nat) : Nat := 0x0C000 + 0x400 * n + 0x070
def LANE_DYN_LIM (n : Nat) : Nat := 0x0C000 + 0x400 * n + 0x074
def LANE_DYN_GATE (n : Nat) : Nat := 0x0C000 + 0x400 * n + 0x078
def LANE_DYN_STATUS (n : Nat) : Nat := 0x0C000 + 0x400 * n + 0x07C
def LANE_DELAY (n : Nat) : Nat := 0x0C000 + 0x400 * n + 0x080
def LANE_DELAY_STATUS (n : Nat) : Nat := 0x0C000 + 0x400 * n + 0x084
def LANE_POOL (n : Nat) : Nat := 0x0C000 + 0x400 * n + 0x088
def LANE_METER_CTRL (n : Nat) : Nat := 0x0C000 + 0x400 * n + 0x08C
def LANE_METER_IN (n : Nat) : Nat := 0x0C000 + 0x400 * n + 0x090
def LANE_METER_OUT (n : Nat) : Nat := 0x0C000 + 0x400 * n + 0x094
def LANE_METER_HOLD (n : Nat) : Nat := 0x0C000 + 0x400 * n + 0x098
def LANE_STATUS (n : Nat) : Nat := 0x0C000 + 0x400 * n + 0x09C
def LANE_RATIO (n : Nat) : Nat := 0x0C000 + 0x400 * n + 0x0A0
def LANE_RATE_MEAS (n : Nat) : Nat := 0x0C000 + 0x400 * n + 0x0A4
def LANE_FLAGS (n : Nat) : Nat := 0x0C000 + 0x400 * n + 0x0A8
def LANE_COUNT (n : Nat) : Nat := 0x0C000 + 0x400 * n + 0x0AC
def LANE_COUNT2 (n : Nat) : Nat := 0x0C000 + 0x400 * n + 0x0B0
def LANE_CNT_CLR (n : Nat) : Nat := 0x0C000 + 0x400 * n + 0x0B4
def LANE_COST (n : Nat) : Nat := 0x0C000 + 0x400 * n + 0x0B8
end A

namespace F
def SYS_STRAP_IOVDD_3V3 : Fld := .mk (A.SYS_STRAP) 4 1
def SYS_STRAP_BOOT_LVL : Fld := .mk (A.SYS_STRAP) 2 2
def SYS_STRAP_ADDR_LVL : Fld := .mk (A.SYS_STRAP) 0 2
def SYS_ID_ID : Fld := .mk (A.SYS_ID) 0 32
def SYS_IRQ_GROUP_PENDING : Fld := .mk (A.SYS_IRQ_GROUP) 0 16
def SYS_IRQ_GROUP_EN_EN : Fld := .mk (A.SYS_IRQ_GROUP_EN) 0 16
def SYS_IRQ_PAGES0_PEND : Fld := .mk (A.SYS_IRQ_PAGES0) 0 32
def SYS_IRQ_PAGES1_PEND : Fld := .mk (A.SYS_IRQ_PAGES1) 0 11
def SYS_IRQ_LANES0_PEND : Fld := .mk (A.SYS_IRQ_LANES0) 0 32
def SYS_IRQ_LANES1_PEND : Fld := .mk (A.SYS_IRQ_LANES1) 0 16
def SYS_RESET_CAUSE_SW : Fld := .mk (A.SYS_RESET_CAUSE) 4 1
def SYS_RESET_CAUSE_LCY : Fld := .mk (A.SYS_RESET_CAUSE) 3 1
def SYS_RESET_CAUSE_COLD_OFF : Fld := .mk (A.SYS_RESET_CAUSE) 2 1
def SYS_RESET_CAUSE_PIN : Fld := .mk (A.SYS_RESET_CAUSE) 1 1
def SYS_RESET_CAUSE_POR : Fld := .mk (A.SYS_RESET_CAUSE) 0 1
def SYS_SW_RESET_KEY : Fld := .mk (A.SYS_SW_RESET) 16 16
def SYS_SW_RESET_RESET : Fld := .mk (A.SYS_SW_RESET) 0 1
def SYS_UID_UID (k : Nat) : Fld := .mk (A.SYS_UID k) 0 32
def SYS_SCRATCH_DATA : Fld := .mk (A.SYS_SCRATCH) 0 32
def PWR_CTRL_CANCEL : Fld := .mk (A.PWR_CTRL) 5 1
def PWR_CTRL_GO : Fld := .mk (A.PWR_CTRL) 4 1
def PWR_CTRL_TARGET : Fld := .mk (A.PWR_CTRL) 0 3
def PWR_STATE_REQ_IGNORED : Fld := .mk (A.PWR_STATE) 12 1
def PWR_STATE_BUSY : Fld := .mk (A.PWR_STATE) 11 1
def PWR_STATE_TARGET_NOW : Fld := .mk (A.PWR_STATE) 8 3
def PWR_STATE_STEP : Fld := .mk (A.PWR_STATE) 4 3
def PWR_STATE_STATE : Fld := .mk (A.PWR_STATE) 0 3
def PWR_RET_MASK_MASK : Fld := .mk (A.PWR_RET_MASK) 0 32
def PWR_WAKE_EN_IRQ : Fld := .mk (A.PWR_WAKE_EN) 4 1
def PWR_WAKE_EN_LISTEN : Fld := .mk (A.PWR_WAKE_EN) 3 1
def PWR_WAKE_EN_VBUS : Fld := .mk (A.PWR_WAKE_EN) 2 1
def PWR_WAKE_EN_SMB_ADDR : Fld := .mk (A.PWR_WAKE_EN) 1 1
def PWR_WAKE_TIMER_MS : Fld := .mk (A.PWR_WAKE_TIMER) 0 32
def PWR_WAKE_STATUS_LATENCY : Fld := .mk (A.PWR_WAKE_STATUS) 16 16
def PWR_WAKE_STATUS_DEGRADED : Fld := .mk (A.PWR_WAKE_STATUS) 15 1
def PWR_WAKE_STATUS_FROM : Fld := .mk (A.PWR_WAKE_STATUS) 12 3
def PWR_WAKE_STATUS_LATE : Fld := .mk (A.PWR_WAKE_STATUS) 5 1
def PWR_WAKE_STATUS_SOURCE : Fld := .mk (A.PWR_WAKE_STATUS) 0 5
def PWR_SOURCES_SEEN_SEEN : Fld := .mk (A.PWR_SOURCES_SEEN) 1 11
def PWR_REFUSE_FIRST_BLOCK : Fld := .mk (A.PWR_REFUSE_FIRST) 16 8
def PWR_REFUSE_FIRST_CAUSE : Fld := .mk (A.PWR_REFUSE_FIRST) 10 2
def PWR_REFUSE_FIRST_TARGET : Fld := .mk (A.PWR_REFUSE_FIRST) 4 3
def PWR_REFUSE_FIRST_VALID : Fld := .mk (A.PWR_REFUSE_FIRST) 0 1
def PWR_REFUSE_LAST_BLOCK : Fld := .mk (A.PWR_REFUSE_LAST) 16 8
def PWR_REFUSE_LAST_CAUSE : Fld := .mk (A.PWR_REFUSE_LAST) 10 2
def PWR_REFUSE_LAST_TARGET : Fld := .mk (A.PWR_REFUSE_LAST) 4 3
def PWR_REFUSE_LAST_VALID : Fld := .mk (A.PWR_REFUSE_LAST) 0 1
def PWR_REFUSE_MAP_MAP : Fld := .mk (A.PWR_REFUSE_MAP) 0 30
def PWR_SILENT_MAP_MAP : Fld := .mk (A.PWR_SILENT_MAP) 0 30
def PWR_COUNT_ABORTS : Fld := .mk (A.PWR_COUNT) 16 16
def PWR_COUNT_REFUSALS : Fld := .mk (A.PWR_COUNT) 0 16
def PWR_COUNT2_ENTRIES : Fld := .mk (A.PWR_COUNT2) 16 16
def PWR_COUNT2_WAKES : Fld := .mk (A.PWR_COUNT2) 0 16
def PWR_ABORT_INFO_TARGET : Fld := .mk (A.PWR_ABORT_INFO) 8 3
def PWR_ABORT_INFO_CAUSE : Fld := .mk (A.PWR_ABORT_INFO) 4 4
def PWR_ABORT_INFO_AP : Fld := .mk (A.PWR_ABORT_INFO) 0 3
def PWR_ACCT_CLR_CLR : Fld := .mk (A.PWR_ACCT_CLR) 0 1
def PWR_DOMAIN_ON : Fld := .mk (A.PWR_DOMAIN) 0 13
def PWR_BANK_ON_ON : Fld := .mk (A.PWR_BANK_ON) 0 32
def PWR_SPARE_ON_ON : Fld := .mk (A.PWR_SPARE_ON) 0 2
def PWR_QUIESCE_TIME_MAX_US : Fld := .mk (A.PWR_QUIESCE_TIME) 16 16
def PWR_QUIESCE_TIME_LAST_US : Fld := .mk (A.PWR_QUIESCE_TIME) 0 16
def PWR_RET_CRC_BANKS_CAPTURED : Fld := .mk (A.PWR_RET_CRC_BANKS) 0 32
def BLW_CTRL_CLR_COUNTS : Fld := .mk (A.BLW_CTRL) 1 1
def BLW_CTRL_COLD : Fld := .mk (A.BLW_CTRL) 0 1
def BLW_ALLOT_P_SAG : Fld := .mk (A.BLW_ALLOT) 16 16
def BLW_ALLOT_P_ALLOT : Fld := .mk (A.BLW_ALLOT) 0 16
def BLW_RES_CFG_P_PEAK : Fld := .mk (A.BLW_RES_CFG) 16 16
def BLW_RES_CFG_E_MAX : Fld := .mk (A.BLW_RES_CFG) 0 16
def BLW_RES_E : Fld := .mk (A.BLW_RES) 0 32
def BLW_DRAW_P_DRAW : Fld := .mk (A.BLW_DRAW) 16 16
def BLW_DRAW_P_SPEND : Fld := .mk (A.BLW_DRAW) 0 16
def BLW_PVDD_V : Fld := .mk (A.BLW_PVDD) 16 16
def BLW_PVDD_P : Fld := .mk (A.BLW_PVDD) 0 16
def BLW_BASE_LOSS : Fld := .mk (A.BLW_BASE) 16 8
def BLW_BASE_BASE : Fld := .mk (A.BLW_BASE) 0 16
def BLW_SAG_CRIT : Fld := .mk (A.BLW_SAG) 16 16
def BLW_SAG_WARN : Fld := .mk (A.BLW_SAG) 0 16
def BLW_SAG_STATUS_WARNS : Fld := .mk (A.BLW_SAG_STATUS) 16 16
def BLW_SAG_STATUS_CRIT_NOW : Fld := .mk (A.BLW_SAG_STATUS) 3 1
def BLW_SAG_STATUS_WARN_NOW : Fld := .mk (A.BLW_SAG_STATUS) 2 1
def BLW_SAG_STATUS_CRIT : Fld := .mk (A.BLW_SAG_STATUS) 1 1
def BLW_SAG_STATUS_WARN : Fld := .mk (A.BLW_SAG_STATUS) 0 1
def BLW_THERM_CFG_COLD_TIME : Fld := .mk (A.BLW_THERM_CFG) 24 8
def BLW_THERM_CFG_COLD_MARGIN : Fld := .mk (A.BLW_THERM_CFG) 16 8
def BLW_THERM_CFG_T_AMB_MAX : Fld := .mk (A.BLW_THERM_CFG) 8 8
def BLW_THERM_CFG_HORIZON : Fld := .mk (A.BLW_THERM_CFG) 0 8
def BLW_TAU_TAU3 : Fld := .mk (A.BLW_TAU) 16 16
def BLW_TAU_TAU2 : Fld := .mk (A.BLW_TAU) 8 8
def BLW_TAU_TAU1 : Fld := .mk (A.BLW_TAU) 0 8
def BLW_OP_LOWER_HOLD : Fld := .mk (A.BLW_OP) 24 8
def BLW_OP_OP_NEED : Fld := .mk (A.BLW_OP) 12 2
def BLW_OP_OP_TARGET : Fld := .mk (A.BLW_OP) 10 2
def BLW_OP_OP_NOW : Fld := .mk (A.BLW_OP) 8 2
def BLW_OP_OP_MAX : Fld := .mk (A.BLW_OP) 0 2
def BLW_OP_COST_COST (i : Nat) : Fld := .mk (A.BLW_OP_COST) (8 * i + 0) 8
def BLW_STATUS_THERM_TRIP : Fld := .mk (A.BLW_STATUS) 11 1
def BLW_STATUS_OVERBUDGET : Fld := .mk (A.BLW_STATUS) 10 1
def BLW_STATUS_CFG_REJ : Fld := .mk (A.BLW_STATUS) 9 1
def BLW_STATUS_PVDD_I_MISSING : Fld := .mk (A.BLW_STATUS) 8 1
def BLW_STATUS_ZONE_LIMIT : Fld := .mk (A.BLW_STATUS) 7 1
def BLW_STATUS_RAISE_WAIT : Fld := .mk (A.BLW_STATUS) 6 1
def BLW_STATUS_TRIP_NOW : Fld := .mk (A.BLW_STATUS) 5 1
def BLW_STATUS_HELD : Fld := .mk (A.BLW_STATUS) 4 1
def BLW_STATUS_SAG : Fld := .mk (A.BLW_STATUS) 3 1
def BLW_STATUS_COLD : Fld := .mk (A.BLW_STATUS) 2 1
def BLW_STATUS_RES_EMPTY : Fld := .mk (A.BLW_STATUS) 1 1
def BLW_STATUS_RUNNING : Fld := .mk (A.BLW_STATUS) 0 1
def BLW_REJECT_REASON : Fld := .mk (A.BLW_REJECT) 12 4
def BLW_REJECT_ZONE : Fld := .mk (A.BLW_REJECT) 8 3
def BLW_REJECT_TASK : Fld := .mk (A.BLW_REJECT) 0 6
def BLW_TICK_COUNT : Fld := .mk (A.BLW_TICK) 0 32
def BLW_COUNT_OP_CHANGES : Fld := .mk (A.BLW_COUNT) 16 16
def BLW_COUNT_OVER_TICKS : Fld := .mk (A.BLW_COUNT) 0 16
def BLW_MNT_LAST_JOB : Fld := .mk (A.BLW_MNT) 24 8
def BLW_MNT_HEAD_JOB : Fld := .mk (A.BLW_MNT) 16 8
def BLW_MNT_QUEUED : Fld := .mk (A.BLW_MNT) 8 8
def BLW_MNT_MARGIN : Fld := .mk (A.BLW_MNT) 4 4
def BLW_MNT_WAIT_HEADROOM : Fld := .mk (A.BLW_MNT) 0 1
def BLW_GRANT0_STOP (i : Nat) : Fld := .mk (A.BLW_GRANT0) (2 * i + 0) 2
def BLW_GRANT1_STOP (i : Nat) : Fld := .mk (A.BLW_GRANT1) (2 * i + 0) 2
def BLW_ZONE_CFG_T_LIM (k : Nat) : Fld := .mk (A.BLW_ZONE_CFG k) 24 8
def BLW_ZONE_CFG_R3 (k : Nat) : Fld := .mk (A.BLW_ZONE_CFG k) 16 8
def BLW_ZONE_CFG_R2 (k : Nat) : Fld := .mk (A.BLW_ZONE_CFG k) 8 8
def BLW_ZONE_CFG_R1 (k : Nat) : Fld := .mk (A.BLW_ZONE_CFG k) 0 8
def BLW_ZONE_STATUS_TEMP (k : Nat) : Fld := .mk (A.BLW_ZONE_STATUS k) 16 16
def BLW_ZONE_STATUS_SENSOR_VALID (k : Nat) : Fld := .mk (A.BLW_ZONE_STATUS k) 15 1
def BLW_ZONE_STATUS_P_MAX (k : Nat) : Fld := .mk (A.BLW_ZONE_STATUS k) 0 15
def BLW_TASK_CFG_EN (k : Nat) : Fld := .mk (A.BLW_TASK_CFG k) 31 1
def BLW_TASK_CFG_CLASS (k : Nat) : Fld := .mk (A.BLW_TASK_CFG k) 29 2
def BLW_TASK_CFG_PRIO (k : Nat) : Fld := .mk (A.BLW_TASK_CFG k) 25 4
def BLW_TASK_CFG_SCALE (k : Nat) : Fld := .mk (A.BLW_TASK_CFG k) 24 1
def BLW_TASK_CFG_W (k : Nat) (i : Nat) : Fld := .mk (A.BLW_TASK_CFG k) (4 * i + 0) 4
def BLW_TASK_COST_COST (k : Nat) (i : Nat) : Fld := .mk (A.BLW_TASK_COST k) (8 * i + 0) 8
def BLW_TASK_COST_SHARE (k : Nat) : Fld := .mk (A.BLW_TASK_COST k) 0 4
def CLK_XTAL_STATUS_FAILS : Fld := .mk (A.CLK_XTAL_STATUS) 16 16
def CLK_XTAL_STATUS_ON_RC : Fld := .mk (A.CLK_XTAL_STATUS) 2 1
def CLK_XTAL_STATUS_FAIL : Fld := .mk (A.CLK_XTAL_STATUS) 1 1
def CLK_XTAL_STATUS_OK : Fld := .mk (A.CLK_XTAL_STATUS) 0 1
def CLK_PLL_CTRL_AUTO_TAKEOVER : Fld := .mk (A.CLK_PLL_CTRL) 3 1
def CLK_PLL_CTRL_FORCE_B : Fld := .mk (A.CLK_PLL_CTRL) 1 1
def CLK_PLL_CTRL_FORCE_A : Fld := .mk (A.CLK_PLL_CTRL) 0 1
def CLK_ROLE_FAM_B_PLL : Fld := .mk (A.CLK_ROLE) 20 2
def CLK_ROLE_FAM_A_PLL : Fld := .mk (A.CLK_ROLE) 16 2
def CLK_ROLE_ROLE_C : Fld := .mk (A.CLK_ROLE) 8 3
def CLK_ROLE_ROLE_B : Fld := .mk (A.CLK_ROLE) 4 3
def CLK_ROLE_ROLE_A : Fld := .mk (A.CLK_ROLE) 0 3
def CLK_PLL_STATUS_LOCK_TIME (k : Nat) : Fld := .mk (A.CLK_PLL_STATUS k) 16 16
def CLK_PLL_STATUS_UNLOCK (k : Nat) : Fld := .mk (A.CLK_PLL_STATUS k) 2 1
def CLK_PLL_STATUS_STATE (k : Nat) : Fld := .mk (A.CLK_PLL_STATUS k) 0 2
def CLK_PLL_CFG_DEN (k : Nat) : Fld := .mk (A.CLK_PLL_CFG k) 20 10
def CLK_PLL_CFG_NUM (k : Nat) : Fld := .mk (A.CLK_PLL_CFG k) 10 10
def CLK_PLL_CFG_INT (k : Nat) : Fld := .mk (A.CLK_PLL_CFG k) 0 4
def CLK_PLL_COUNT_UNLOCKS (k : Nat) : Fld := .mk (A.CLK_PLL_COUNT k) 16 16
def CLK_PLL_COUNT_RETRIES (k : Nat) : Fld := .mk (A.CLK_PLL_COUNT k) 0 16
def CLK_ENGINE_FE_PENDING : Fld := .mk (A.CLK_ENGINE) 18 1
def CLK_ENGINE_OP_NOW : Fld := .mk (A.CLK_ENGINE) 16 2
def CLK_ENGINE_FE_NOW : Fld := .mk (A.CLK_ENGINE) 8 3
def CLK_ENGINE_FE : Fld := .mk (A.CLK_ENGINE) 0 3
def CLK_ENGINE_FREQ_KHZ : Fld := .mk (A.CLK_ENGINE_FREQ) 0 32
def CLK_TAKEOVER_ABORT : Fld := .mk (A.CLK_TAKEOVER) 9 1
def CLK_TAKEOVER_START : Fld := .mk (A.CLK_TAKEOVER) 8 1
def CLK_TAKEOVER_FAMILY : Fld := .mk (A.CLK_TAKEOVER) 0 1
def CLK_TAKEOVER_STATUS_ABORT_CAUSE : Fld := .mk (A.CLK_TAKEOVER_STATUS) 16 4
def CLK_TAKEOVER_STATUS_ABORTED : Fld := .mk (A.CLK_TAKEOVER_STATUS) 15 1
def CLK_TAKEOVER_STATUS_PHASE : Fld := .mk (A.CLK_TAKEOVER_STATUS) 12 3
def CLK_TAKEOVER_STATUS_SPARE_PLL : Fld := .mk (A.CLK_TAKEOVER_STATUS) 8 2
def CLK_TAKEOVER_STATUS_REPLACED_PLL : Fld := .mk (A.CLK_TAKEOVER_STATUS) 6 2
def CLK_TAKEOVER_STATUS_MODE : Fld := .mk (A.CLK_TAKEOVER_STATUS) 3 1
def CLK_TAKEOVER_STATUS_FAULT_JOB : Fld := .mk (A.CLK_TAKEOVER_STATUS) 2 1
def CLK_TAKEOVER_STATUS_FAMILY : Fld := .mk (A.CLK_TAKEOVER_STATUS) 0 1
def CLK_FLL_STATUS_UNLOCK : Fld := .mk (A.CLK_FLL_STATUS) 1 1
def CLK_FLL_STATUS_LOCKED : Fld := .mk (A.CLK_FLL_STATUS) 0 1
def CLK_MAINS_CTRL_FB_P : Fld := .mk (A.CLK_MAINS_CTRL) 3 3
def CLK_MAINS_CTRL_EDGE : Fld := .mk (A.CLK_MAINS_CTRL) 2 1
def CLK_MAINS_CTRL_SRC : Fld := .mk (A.CLK_MAINS_CTRL) 0 2
def CLK_MAINS_STATUS_SRC_NOW : Fld := .mk (A.CLK_MAINS_STATUS) 17 2
def CLK_MAINS_STATUS_VALID : Fld := .mk (A.CLK_MAINS_STATUS) 16 1
def CLK_MAINS_STATUS_FREQ : Fld := .mk (A.CLK_MAINS_STATUS) 0 16
def CLK_MAINS_PERIOD_PERIOD : Fld := .mk (A.CLK_MAINS_PERIOD) 0 20
def CLK_MAINS_COUNT_REJECTS : Fld := .mk (A.CLK_MAINS_COUNT) 16 16
def CLK_MAINS_COUNT_INVALIDS : Fld := .mk (A.CLK_MAINS_COUNT) 0 16
def CLK_TRK_STATUS_ACQ_FAIL (k : Nat) : Fld := .mk (A.CLK_TRK_STATUS k) 11 1
def CLK_TRK_STATUS_RATE_CHG (k : Nat) : Fld := .mk (A.CLK_TRK_STATUS k) 10 1
def CLK_TRK_STATUS_GLITCH (k : Nat) : Fld := .mk (A.CLK_TRK_STATUS k) 9 1
def CLK_TRK_STATUS_STOP (k : Nat) : Fld := .mk (A.CLK_TRK_STATUS k) 8 1
def CLK_TRK_STATUS_NOMINAL (k : Nat) : Fld := .mk (A.CLK_TRK_STATUS k) 4 4
def CLK_TRK_STATUS_NONSTD (k : Nat) : Fld := .mk (A.CLK_TRK_STATUS k) 3 1
def CLK_TRK_STATUS_EDGES (k : Nat) : Fld := .mk (A.CLK_TRK_STATUS k) 2 1
def CLK_TRK_STATUS_STATE (k : Nat) : Fld := .mk (A.CLK_TRK_STATUS k) 0 2
def CLK_TRK_RATE_RATE (k : Nat) : Fld := .mk (A.CLK_TRK_RATE k) 0 32
def CLK_TRK_COUNT_STOPS (k : Nat) : Fld := .mk (A.CLK_TRK_COUNT k) 16 16
def CLK_TRK_COUNT_GLITCHES (k : Nat) : Fld := .mk (A.CLK_TRK_COUNT k) 0 16
def CLK_TRK_COUNT2_RELOCKS (k : Nat) : Fld := .mk (A.CLK_TRK_COUNT2 k) 16 16
def CLK_TRK_COUNT2_ACQ_FAILS (k : Nat) : Fld := .mk (A.CLK_TRK_COUNT2 k) 0 16
def CLK_TRK_CLR_MAINS : Fld := .mk (A.CLK_TRK_CLR) 10 1
def CLK_TRK_CLR_TRK : Fld := .mk (A.CLK_TRK_CLR) 0 10
def CLK_FDIV_RUNNING (k : Nat) : Fld := .mk (A.CLK_FDIV k) 31 1
def CLK_FDIV_STEERED (k : Nat) : Fld := .mk (A.CLK_FDIV k) 30 1
def CLK_FDIV_FAMILY (k : Nat) : Fld := .mk (A.CLK_FDIV k) 29 1
def CLK_FDIV_STEP (k : Nat) : Fld := .mk (A.CLK_FDIV k) 16 11
def CLK_FDIV_K (k : Nat) : Fld := .mk (A.CLK_FDIV k) 0 15
def CLK_FDIV_STEER_OFFSET : Fld := .mk (A.CLK_FDIV_STEER) 0 32
def MEM_CTRL_CLR_TRACK : Fld := .mk (A.MEM_CTRL) 2 1
def MEM_CTRL_CLR_COUNTS : Fld := .mk (A.MEM_CTRL) 1 1
def MEM_CTRL_SKIM_EN : Fld := .mk (A.MEM_CTRL) 0 1
def MEM_ECC_CFG_REPEAT_THR : Fld := .mk (A.MEM_ECC_CFG) 16 4
def MEM_ECC_CFG_SKIM_N : Fld := .mk (A.MEM_ECC_CFG) 0 16
def MEM_WIPE_STATUS_WIPES : Fld := .mk (A.MEM_WIPE_STATUS) 16 16
def MEM_WIPE_STATUS_MBS1 : Fld := .mk (A.MEM_WIPE_STATUS) 5 1
def MEM_WIPE_STATUS_MBS0 : Fld := .mk (A.MEM_WIPE_STATUS) 4 1
def MEM_WIPE_STATUS_WIPE_CAUSE : Fld := .mk (A.MEM_WIPE_STATUS) 1 3
def MEM_WIPE_STATUS_ALL : Fld := .mk (A.MEM_WIPE_STATUS) 0 1
def MEM_WIPE_BANKS_BUSY : Fld := .mk (A.MEM_WIPE_BANKS) 0 32
def MEM_WIPE_REQ_WIPE : Fld := .mk (A.MEM_WIPE_REQ) 26 6
def MEM_CORR_COUNT_HARD : Fld := .mk (A.MEM_CORR_COUNT) 16 16
def MEM_CORR_COUNT_CORRECTED : Fld := .mk (A.MEM_CORR_COUNT) 0 16
def MEM_UNCORR_COUNT_POISON_READS : Fld := .mk (A.MEM_UNCORR_COUNT) 16 16
def MEM_UNCORR_COUNT_UNCORRECTABLE : Fld := .mk (A.MEM_UNCORR_COUNT) 0 16
def MEM_LAST_CORR_VALID : Fld := .mk (A.MEM_LAST_CORR) 31 1
def MEM_LAST_CORR_SOURCE : Fld := .mk (A.MEM_LAST_CORR) 28 3
def MEM_LAST_CORR_SYNDROME : Fld := .mk (A.MEM_LAST_CORR) 20 7
def MEM_LAST_CORR_ADDR : Fld := .mk (A.MEM_LAST_CORR) 0 20
def MEM_LAST_UNCORR_VALID : Fld := .mk (A.MEM_LAST_UNCORR) 31 1
def MEM_LAST_UNCORR_SOURCE : Fld := .mk (A.MEM_LAST_UNCORR) 28 3
def MEM_LAST_UNCORR_SYNDROME : Fld := .mk (A.MEM_LAST_UNCORR) 20 7
def MEM_LAST_UNCORR_ADDR : Fld := .mk (A.MEM_LAST_UNCORR) 0 20
def MEM_TRACK_STATUS_EVICTIONS : Fld := .mk (A.MEM_TRACK_STATUS) 16 16
def MEM_TRACK_STATUS_USED : Fld := .mk (A.MEM_TRACK_STATUS) 0 6
def MEM_TRACK_SEL_INDEX : Fld := .mk (A.MEM_TRACK_SEL) 0 5
def MEM_TRACK_ENTRY_VALID : Fld := .mk (A.MEM_TRACK_ENTRY) 31 1
def MEM_TRACK_ENTRY_COUNT : Fld := .mk (A.MEM_TRACK_ENTRY) 27 4
def MEM_TRACK_ENTRY_LAPS : Fld := .mk (A.MEM_TRACK_ENTRY) 24 3
def MEM_TRACK_ENTRY_ADDR : Fld := .mk (A.MEM_TRACK_ENTRY) 0 20
def MEM_SPARE_STATUS_MBS1_USED : Fld := .mk (A.MEM_SPARE_STATUS) 14 1
def MEM_SPARE_STATUS_MBS1_FOR : Fld := .mk (A.MEM_SPARE_STATUS) 8 6
def MEM_SPARE_STATUS_MBS0_USED : Fld := .mk (A.MEM_SPARE_STATUS) 6 1
def MEM_SPARE_STATUS_MBS0_FOR : Fld := .mk (A.MEM_SPARE_STATUS) 0 6
def MEM_JOB_WORD : Fld := .mk (A.MEM_JOB) 18 14
def MEM_JOB_KIND : Fld := .mk (A.MEM_JOB) 16 2
def MEM_JOB_DEST : Fld := .mk (A.MEM_JOB) 8 6
def MEM_JOB_BANK : Fld := .mk (A.MEM_JOB) 0 6
def MEM_RET_LOST_LOST : Fld := .mk (A.MEM_RET_LOST) 0 32
def MEM_RET_STATUS_LOSSES : Fld := .mk (A.MEM_RET_STATUS) 16 16
def MEM_RET_STATUS_SWEEP_CORR : Fld := .mk (A.MEM_RET_STATUS) 0 16
def MEM_SKIM_LAP_MS : Fld := .mk (A.MEM_SKIM_LAP) 0 32
def MEM_SKIM_POS_WORD : Fld := .mk (A.MEM_SKIM_POS) 0 14
def MEM_BANK_STATUS_LAP_MS (k : Nat) : Fld := .mk (A.MEM_BANK_STATUS k) 12 20
def MEM_BANK_STATUS_ROWS_USED (k : Nat) : Fld := .mk (A.MEM_BANK_STATUS k) 8 4
def MEM_BANK_STATUS_LAP_VALID (k : Nat) : Fld := .mk (A.MEM_BANK_STATUS k) 5 1
def MEM_BANK_STATUS_REPLACED (k : Nat) : Fld := .mk (A.MEM_BANK_STATUS k) 4 1
def MEM_BANK_STATUS_MIGRATING (k : Nat) : Fld := .mk (A.MEM_BANK_STATUS k) 3 1
def MEM_BANK_STATUS_REMAP_PENDING (k : Nat) : Fld := .mk (A.MEM_BANK_STATUS k) 2 1
def MEM_BANK_STATUS_RETIRED (k : Nat) : Fld := .mk (A.MEM_BANK_STATUS k) 1 1
def MEM_BANK_STATUS_VISITABLE (k : Nat) : Fld := .mk (A.MEM_BANK_STATUS k) 0 1
def MEM_RET_CRC_CRC (k : Nat) : Fld := .mk (A.MEM_RET_CRC k) 0 32
def DBG_VIOL_FIRST_ADDR_ADDR : Fld := .mk (A.DBG_VIOL_FIRST_ADDR) 0 18
def DBG_VIOL_FIRST_INFO_TICK : Fld := .mk (A.DBG_VIOL_FIRST_INFO) 16 16
def DBG_VIOL_FIRST_INFO_VALID : Fld := .mk (A.DBG_VIOL_FIRST_INFO) 9 1
def DBG_VIOL_FIRST_INFO_ADDR_VALID : Fld := .mk (A.DBG_VIOL_FIRST_INFO) 8 1
def DBG_VIOL_FIRST_INFO_DIR : Fld := .mk (A.DBG_VIOL_FIRST_INFO) 7 1
def DBG_VIOL_FIRST_INFO_INITIATOR : Fld := .mk (A.DBG_VIOL_FIRST_INFO) 4 3
def DBG_VIOL_FIRST_INFO_TYPE : Fld := .mk (A.DBG_VIOL_FIRST_INFO) 0 4
def DBG_VIOL_LAST_ADDR_ADDR : Fld := .mk (A.DBG_VIOL_LAST_ADDR) 0 18
def DBG_VIOL_LAST_INFO_TICK : Fld := .mk (A.DBG_VIOL_LAST_INFO) 16 16
def DBG_VIOL_LAST_INFO_VALID : Fld := .mk (A.DBG_VIOL_LAST_INFO) 9 1
def DBG_VIOL_LAST_INFO_ADDR_VALID : Fld := .mk (A.DBG_VIOL_LAST_INFO) 8 1
def DBG_VIOL_LAST_INFO_DIR : Fld := .mk (A.DBG_VIOL_LAST_INFO) 7 1
def DBG_VIOL_LAST_INFO_INITIATOR : Fld := .mk (A.DBG_VIOL_LAST_INFO) 4 3
def DBG_VIOL_LAST_INFO_TYPE : Fld := .mk (A.DBG_VIOL_LAST_INFO) 0 4
def DBG_VIOL_COUNT_COUNT : Fld := .mk (A.DBG_VIOL_COUNT) 0 16
def DBG_VIOL_CTRL_CLEAR : Fld := .mk (A.DBG_VIOL_CTRL) 0 1
def DBG_FREEZE_KEEP_USB : Fld := .mk (A.DBG_FREEZE) 4 1
def DBG_FREEZE_KEEP_MGMT : Fld := .mk (A.DBG_FREEZE) 3 1
def DBG_FREEZE_RESUME : Fld := .mk (A.DBG_FREEZE) 1 1
def DBG_FREEZE_REQ : Fld := .mk (A.DBG_FREEZE) 0 1
def DBG_FREEZE_STATUS_DISCONT : Fld := .mk (A.DBG_FREEZE_STATUS) 7 1
def DBG_FREEZE_STATUS_RESUME_BLOCKED : Fld := .mk (A.DBG_FREEZE_STATUS) 6 1
def DBG_FREEZE_STATUS_SOURCE : Fld := .mk (A.DBG_FREEZE_STATUS) 4 2
def DBG_FREEZE_STATUS_PRIV_LATCHED : Fld := .mk (A.DBG_FREEZE_STATUS) 3 1
def DBG_FREEZE_STATUS_STATE : Fld := .mk (A.DBG_FREEZE_STATUS) 0 3
def DBG_FREEZE_COUNT_FREEZES : Fld := .mk (A.DBG_FREEZE_COUNT) 16 16
def DBG_FREEZE_COUNT_IGNORED : Fld := .mk (A.DBG_FREEZE_COUNT) 0 16
def DBG_FREEZE_FRAME_FRAME : Fld := .mk (A.DBG_FREEZE_FRAME) 0 32
def DBG_FREEZE_TIME_US : Fld := .mk (A.DBG_FREEZE_TIME) 0 32
def DBG_SNAP_SEL_HALF : Fld := .mk (A.DBG_SNAP_SEL) 8 1
def DBG_SNAP_SEL_BANK : Fld := .mk (A.DBG_SNAP_SEL) 0 6
def DBG_CNT_CLR_CLR : Fld := .mk (A.DBG_CNT_CLR) 0 1
def MNT_SCHED_ROTATE_H : Fld := .mk (A.MNT_SCHED) 16 16
def MNT_SCHED_PLL_TEST : Fld := .mk (A.MNT_SCHED) 2 1
def MNT_SCHED_BOOT_TEST : Fld := .mk (A.MNT_SCHED) 1 1
def MNT_SCHED_ROTATE_EN : Fld := .mk (A.MNT_SCHED) 0 1
def MNT_SCHED_STATUS_HOURS_LEFT : Fld := .mk (A.MNT_SCHED_STATUS) 16 16
def MNT_SCHED_STATUS_POSITION : Fld := .mk (A.MNT_SCHED_STATUS) 0 6
def MNT_INV_ADC_G0 : Fld := .mk (A.MNT_INV) 28 4
def MNT_INV_ADC_G1 : Fld := .mk (A.MNT_INV) 24 4
def MNT_INV_DAC_G0 : Fld := .mk (A.MNT_INV) 20 4
def MNT_INV_DAC_G1 : Fld := .mk (A.MNT_INV) 16 4
def MNT_INV_PLL_SPARE : Fld := .mk (A.MNT_INV) 14 2
def MNT_INV_MAC_FREE : Fld := .mk (A.MNT_INV) 13 1
def MNT_INV_MAC_USED : Fld := .mk (A.MNT_INV) 12 1
def MNT_INV_BANKS_FREE : Fld := .mk (A.MNT_INV) 10 2
def MNT_INV_ROWS_FREE : Fld := .mk (A.MNT_INV) 0 9
def MNT_LOG_USED : Fld := .mk (A.MNT_LOG) 16 9
def MNT_LOG_BAD : Fld := .mk (A.MNT_LOG) 8 8
def MNT_LOG_FULL : Fld := .mk (A.MNT_LOG) 0 1
def MNT_POST_START : Fld := .mk (A.MNT_POST) 14 1
def MNT_POST_TARGET : Fld := .mk (A.MNT_POST) 8 6
def MNT_POST_TYPE : Fld := .mk (A.MNT_POST) 4 4
def MNT_JOB_SEL_SLOT : Fld := .mk (A.MNT_JOB_SEL) 0 4
def MNT_JOB_ID : Fld := .mk (A.MNT_JOB) 24 8
def MNT_JOB_TYPE : Fld := .mk (A.MNT_JOB) 20 4
def MNT_JOB_TARGET : Fld := .mk (A.MNT_JOB) 14 6
def MNT_JOB_STATE : Fld := .mk (A.MNT_JOB) 11 3
def MNT_JOB_FAULT_JOB : Fld := .mk (A.MNT_JOB) 10 1
def MNT_JOB_BLOCKER : Fld := .mk (A.MNT_JOB) 0 8
def MNT_JOB2_MS : Fld := .mk (A.MNT_JOB2) 16 16
def MNT_JOB2_RES : Fld := .mk (A.MNT_JOB2) 4 12
def MNT_JOB2_RESULT : Fld := .mk (A.MNT_JOB2) 0 4
def MNT_COUNT_DONE : Fld := .mk (A.MNT_COUNT) 16 16
def MNT_COUNT_ABORTED : Fld := .mk (A.MNT_COUNT) 0 16
def MNT_COUNT2_DEFERRALS : Fld := .mk (A.MNT_COUNT2) 16 16
def MNT_COUNT2_DROPPED : Fld := .mk (A.MNT_COUNT2) 0 16
def MNT_AGE_CFG_WARN : Fld := .mk (A.MNT_AGE_CFG) 8 8
def MNT_AGE_CFG_PERIOD : Fld := .mk (A.MNT_AGE_CFG) 0 8
def MNT_AGE_WARN (k : Nat) : Fld := .mk (A.MNT_AGE k) 16 1
def MNT_AGE_SLOW (k : Nat) : Fld := .mk (A.MNT_AGE k) 0 16
def MNT_MAC_RESIDUE_ERRS : Fld := .mk (A.MNT_MAC) 16 16
def MNT_MAC_SPARE : Fld := .mk (A.MNT_MAC) 4 2
def MNT_MAC_UNIT : Fld := .mk (A.MNT_MAC) 0 4
def MNT_CNT_CLR_CLR : Fld := .mk (A.MNT_CNT_CLR) 0 1
def LCY_STATE_FUSES : Fld := .mk (A.LCY_STATE) 8 3
def LCY_STATE_REFURB : Fld := .mk (A.LCY_STATE) 3 1
def LCY_STATE_DBG_EN : Fld := .mk (A.LCY_STATE) 2 1
def LCY_STATE_STATE : Fld := .mk (A.LCY_STATE) 0 2
def LCY_CTRL_KEY : Fld := .mk (A.LCY_CTRL) 16 16
def LCY_CTRL_TARGET : Fld := .mk (A.LCY_CTRL) 2 2
def LCY_CTRL_GO : Fld := .mk (A.LCY_CTRL) 0 1
def LCY_CODE_CODE (k : Nat) : Fld := .mk (A.LCY_CODE k) 0 32
def LCY_CHECK_UNLOCK : Fld := .mk (A.LCY_CHECK) 1 1
def LCY_CHECK_TOKEN : Fld := .mk (A.LCY_CHECK) 0 1
def LCY_STATUS_RESULT : Fld := .mk (A.LCY_STATUS) 20 4
def LCY_STATUS_CHECK : Fld := .mk (A.LCY_STATUS) 16 4
def LCY_STATUS_FAILS : Fld := .mk (A.LCY_STATUS) 8 8
def LCY_STATUS_LOCKOUT : Fld := .mk (A.LCY_STATUS) 2 1
def LCY_STATUS_UNLOCKED : Fld := .mk (A.LCY_STATUS) 1 1
def LCY_STATUS_BUSY : Fld := .mk (A.LCY_STATUS) 0 1
def LCY_OTP_ADDR_WORD : Fld := .mk (A.LCY_OTP_ADDR) 2 11
def LCY_OTP_DATA_DATA : Fld := .mk (A.LCY_OTP_DATA) 0 32
def LCY_OTP_CTRL_PROG : Fld := .mk (A.LCY_OTP_CTRL) 1 1
def LCY_OTP_CTRL_READ : Fld := .mk (A.LCY_OTP_CTRL) 0 1
def LCY_OTP_STATUS_RESULT : Fld := .mk (A.LCY_OTP_STATUS) 4 4
def LCY_OTP_STATUS_BUSY : Fld := .mk (A.LCY_OTP_STATUS) 0 1
def SMB_CFG_PEC_EN : Fld := .mk (A.SMB_CFG) 0 1
def SMB_STATE_BUSY : Fld := .mk (A.SMB_STATE) 8 1
def SMB_STATE_ADDR : Fld := .mk (A.SMB_STATE) 0 7
def SMB_LAST_CMD : Fld := .mk (A.SMB_LAST) 16 8
def SMB_LAST_WORDS : Fld := .mk (A.SMB_LAST) 8 6
def SMB_LAST_STATUS : Fld := .mk (A.SMB_LAST) 0 8
def SMB_FLAGS_HN_FAIL : Fld := .mk (A.SMB_FLAGS) 9 1
def SMB_FLAGS_ARB_LOST : Fld := .mk (A.SMB_FLAGS) 8 1
def SMB_FLAGS_DEEP_NACK : Fld := .mk (A.SMB_FLAGS) 7 1
def SMB_FLAGS_CUT : Fld := .mk (A.SMB_FLAGS) 6 1
def SMB_FLAGS_SDA_RELEASE : Fld := .mk (A.SMB_FLAGS) 5 1
def SMB_FLAGS_TIMEOUT : Fld := .mk (A.SMB_FLAGS) 4 1
def SMB_FLAGS_BAD_CMD : Fld := .mk (A.SMB_FLAGS) 3 1
def SMB_FLAGS_BAD_COUNT : Fld := .mk (A.SMB_FLAGS) 2 1
def SMB_FLAGS_PEC_ERR : Fld := .mk (A.SMB_FLAGS) 1 1
def SMB_FLAGS_ERROR : Fld := .mk (A.SMB_FLAGS) 0 1
def SMB_COUNT_TRANSACTIONS : Fld := .mk (A.SMB_COUNT) 16 16
def SMB_COUNT_ERRORS : Fld := .mk (A.SMB_COUNT) 0 16
def SMB_COUNT2_TIMEOUTS : Fld := .mk (A.SMB_COUNT2) 16 16
def SMB_COUNT2_DEEP_NACKS : Fld := .mk (A.SMB_COUNT2) 0 16
def SMB_HN_CFG_TRIES : Fld := .mk (A.SMB_HN_CFG) 24 4
def SMB_HN_CFG_RETRY : Fld := .mk (A.SMB_HN_CFG) 16 8
def SMB_HN_CFG_HOLDOFF : Fld := .mk (A.SMB_HN_CFG) 8 8
def SMB_HN_CFG_RECOVER : Fld := .mk (A.SMB_HN_CFG) 4 1
def SMB_HN_CFG_SPEED : Fld := .mk (A.SMB_HN_CFG) 2 2
def SMB_HN_CFG_EN : Fld := .mk (A.SMB_HN_CFG) 0 1
def SMB_HN_STATUS_LAST_SENT : Fld := .mk (A.SMB_HN_STATUS) 16 16
def SMB_HN_STATUS_TRY : Fld := .mk (A.SMB_HN_STATUS) 4 4
def SMB_HN_STATUS_PENDING : Fld := .mk (A.SMB_HN_STATUS) 1 1
def SMB_HN_STATUS_SENDING : Fld := .mk (A.SMB_HN_STATUS) 0 1
def SMB_HN_COUNT_ARB_LOSSES : Fld := .mk (A.SMB_HN_COUNT) 16 16
def SMB_HN_COUNT_SENT : Fld := .mk (A.SMB_HN_COUNT) 0 16
def SMB_HN_COUNT2_NACKS : Fld := .mk (A.SMB_HN_COUNT2) 16 16
def SMB_HN_COUNT2_FAILS : Fld := .mk (A.SMB_HN_COUNT2) 0 16
def SMB_REC_SMB_RECOVERIES : Fld := .mk (A.SMB_REC_SMB) 16 16
def SMB_REC_SMB_CLOCKS : Fld := .mk (A.SMB_REC_SMB) 8 4
def SMB_REC_SMB_TRIES : Fld := .mk (A.SMB_REC_SMB) 2 2
def SMB_REC_SMB_STUCK : Fld := .mk (A.SMB_REC_SMB) 1 1
def SMB_REC_SMB_RECOVERING : Fld := .mk (A.SMB_REC_SMB) 0 1
def SMB_REC_PMB_RECOVERIES : Fld := .mk (A.SMB_REC_PMB) 16 16
def SMB_REC_PMB_CLOCKS : Fld := .mk (A.SMB_REC_PMB) 8 4
def SMB_REC_PMB_TRIES : Fld := .mk (A.SMB_REC_PMB) 2 2
def SMB_REC_PMB_STUCK : Fld := .mk (A.SMB_REC_PMB) 1 1
def SMB_REC_PMB_RECOVERING : Fld := .mk (A.SMB_REC_PMB) 0 1
def SMB_REC_CTRL_PMB_RETRY : Fld := .mk (A.SMB_REC_CTRL) 1 1
def SMB_REC_CTRL_SMB_RETRY : Fld := .mk (A.SMB_REC_CTRL) 0 1
def SMB_CNT_CLR_CLR : Fld := .mk (A.SMB_CNT_CLR) 0 1
def PMB_CFG_FIXED_OP : Fld := .mk (A.PMB_CFG) 12 3
def PMB_CFG_OFF_CMD : Fld := .mk (A.PMB_CFG) 11 1
def PMB_CFG_PEC : Fld := .mk (A.PMB_CFG) 10 1
def PMB_CFG_SPEED : Fld := .mk (A.PMB_CFG) 8 2
def PMB_CFG_EN : Fld := .mk (A.PMB_CFG) 7 1
def PMB_CFG_ADDR : Fld := .mk (A.PMB_CFG) 0 7
def PMB_TIMING_TIMEOUT : Fld := .mk (A.PMB_TIMING) 16 16
def PMB_TIMING_SETTLE : Fld := .mk (A.PMB_TIMING) 0 16
def PMB_VOUT_REQUESTED : Fld := .mk (A.PMB_VOUT) 16 16
def PMB_VOUT_ACKED : Fld := .mk (A.PMB_VOUT) 0 16
def PMB_MODE_MODE_ERR : Fld := .mk (A.PMB_MODE) 9 1
def PMB_MODE_VALID : Fld := .mk (A.PMB_MODE) 8 1
def PMB_MODE_VOUT_MODE : Fld := .mk (A.PMB_MODE) 0 8
def PMB_READ_READ_VOUT : Fld := .mk (A.PMB_READ) 0 16
def PMB_STATUS_WORD_STATUS_WORD : Fld := .mk (A.PMB_STATUS_WORD) 0 16
def PMB_STATUS_OP_ACK : Fld := .mk (A.PMB_STATUS) 8 3
def PMB_STATUS_PEC_ERR : Fld := .mk (A.PMB_STATUS) 6 1
def PMB_STATUS_PGOOD_LOSS : Fld := .mk (A.PMB_STATUS) 5 1
def PMB_STATUS_PGOOD_NOW : Fld := .mk (A.PMB_STATUS) 4 1
def PMB_STATUS_NACK : Fld := .mk (A.PMB_STATUS) 3 1
def PMB_STATUS_FAIL : Fld := .mk (A.PMB_STATUS) 2 1
def PMB_STATUS_BACKOFF : Fld := .mk (A.PMB_STATUS) 1 1
def PMB_STATUS_BUSY : Fld := .mk (A.PMB_STATUS) 0 1
def PMB_COUNT_FAILURES : Fld := .mk (A.PMB_COUNT) 16 16
def PMB_COUNT_REQUESTS : Fld := .mk (A.PMB_COUNT) 0 16
def PMB_CMD_READ_NOW : Fld := .mk (A.PMB_CMD) 1 1
def PMB_CMD_CLEAR_FAULTS : Fld := .mk (A.PMB_CMD) 0 1
def PMB_CNT_CLR_CLR : Fld := .mk (A.PMB_CNT_CLR) 0 1
def USB_CFG_VENDOR_EN : Fld := .mk (A.USB_CFG) 6 1
def USB_CFG_HID_EN : Fld := .mk (A.USB_CFG) 5 1
def USB_CFG_RWAKE_CAP : Fld := .mk (A.USB_CFG) 4 1
def USB_CFG_FS_ONLY : Fld := .mk (A.USB_CFG) 3 1
def USB_CFG_SYNC : Fld := .mk (A.USB_CFG) 1 1
def USB_CFG_UAC : Fld := .mk (A.USB_CFG) 0 1
def USB_ID_PID : Fld := .mk (A.USB_ID) 16 16
def USB_ID_VID : Fld := .mk (A.USB_ID) 0 16
def USB_DEV_BCD : Fld := .mk (A.USB_DEV) 0 16
def USB_RATES_EN : Fld := .mk (A.USB_RATES) 0 11
def USB_AS_CFG_TERM (k : Nat) : Fld := .mk (A.USB_AS_CFG k) 16 16
def USB_AS_CFG_CH (k : Nat) : Fld := .mk (A.USB_AS_CFG k) 0 5
def USB_STATE_ADDR : Fld := .mk (A.USB_STATE) 16 7
def USB_STATE_VBUS : Fld := .mk (A.USB_STATE) 8 1
def USB_STATE_PROVISIONED : Fld := .mk (A.USB_STATE) 7 1
def USB_STATE_L1 : Fld := .mk (A.USB_STATE) 6 1
def USB_STATE_SUSPENDED : Fld := .mk (A.USB_STATE) 5 1
def USB_STATE_CONFIGURED : Fld := .mk (A.USB_STATE) 4 1
def USB_STATE_HS : Fld := .mk (A.USB_STATE) 3 1
def USB_STATE_CONNECTED : Fld := .mk (A.USB_STATE) 2 1
def USB_STATE_RWAKE_EN : Fld := .mk (A.USB_STATE) 1 1
def USB_ALT_ALT (i : Nat) : Fld := .mk (A.USB_ALT) (8 * i + 0) 2
def USB_CLOCK_HOST_SET : Fld := .mk (A.USB_CLOCK) 16 16
def USB_CLOCK_VALID : Fld := .mk (A.USB_CLOCK) 4 1
def USB_CLOCK_RATE : Fld := .mk (A.USB_CLOCK) 0 4
def USB_FB_VALUE (k : Nat) : Fld := .mk (A.USB_FB k) 0 32
def USB_AS_STATUS_STOPPED (k : Nat) : Fld := .mk (A.USB_AS_STATUS k) 2 1
def USB_AS_STATUS_SUBSLOT3 (k : Nat) : Fld := .mk (A.USB_AS_STATUS k) 1 1
def USB_AS_STATUS_ACTIVE (k : Nat) : Fld := .mk (A.USB_AS_STATUS k) 0 1
def USB_AS_COUNT_MISSED (k : Nat) : Fld := .mk (A.USB_AS_COUNT k) 16 16
def USB_AS_COUNT_PARTIAL (k : Nat) : Fld := .mk (A.USB_AS_COUNT k) 0 16
def USB_FU_CTRL_APPLY (i : Nat) : Fld := .mk (A.USB_FU_CTRL) (1 * i + 0) 1
def USB_FU_MUTE (k : Nat) : Fld := .mk (A.USB_FU k) 16 1
def USB_FU_VOL (k : Nat) : Fld := .mk (A.USB_FU k) 0 16
def USB_HID_MAP_BTN (i : Nat) : Fld := .mk (A.USB_HID_MAP) (4 * i + 0) 4
def USB_HID_INJECT_USAGE : Fld := .mk (A.USB_HID_INJECT) 0 9
def USB_HID_STATUS_HID_OVF : Fld := .mk (A.USB_HID_STATUS) 19 1
def USB_HID_STATUS_LED : Fld := .mk (A.USB_HID_STATUS) 16 3
def USB_HID_STATUS_NOW : Fld := .mk (A.USB_HID_STATUS) 0 9
def USB_WAKE_WAKE_BLOCKED : Fld := .mk (A.USB_WAKE) 6 1
def USB_WAKE_NOW : Fld := .mk (A.USB_WAKE) 5 1
def USB_WAKE_ON_RESUME : Fld := .mk (A.USB_WAKE) 4 1
def USB_WAKE_JACK : Fld := .mk (A.USB_WAKE) 3 1
def USB_WAKE_HID : Fld := .mk (A.USB_WAKE) 2 1
def USB_WAKE_LISTEN : Fld := .mk (A.USB_WAKE) 1 1
def USB_HIST_CTRL_LIVE_ARRAY : Fld := .mk (A.USB_HIST_CTRL) 3 1
def USB_HIST_CTRL_PACK : Fld := .mk (A.USB_HIST_CTRL) 2 1
def USB_HIST_CTRL_STOP : Fld := .mk (A.USB_HIST_CTRL) 1 1
def USB_HIST_CTRL_START : Fld := .mk (A.USB_HIST_CTRL) 0 1
def USB_HIST_STATUS_OVERRUNS : Fld := .mk (A.USB_HIST_STATUS) 16 16
def USB_HIST_STATUS_LIVE : Fld := .mk (A.USB_HIST_STATUS) 2 1
def USB_HIST_STATUS_STREAMING : Fld := .mk (A.USB_HIST_STATUS) 1 1
def USB_HIST_STATUS_ARMED : Fld := .mk (A.USB_HIST_STATUS) 0 1
def USB_HIST_COUNTER_NEXT : Fld := .mk (A.USB_HIST_COUNTER) 0 32
def USB_VREQ_STATUS_CODE : Fld := .mk (A.USB_VREQ_STATUS) 16 8
def USB_VREQ_STATUS_WORDS : Fld := .mk (A.USB_VREQ_STATUS) 0 16
def USB_FLAGS_BW_REFUSED : Fld := .mk (A.USB_FLAGS) 3 1
def USB_FLAGS_VBUS_LOST : Fld := .mk (A.USB_FLAGS) 2 1
def USB_FLAGS_RESUMED : Fld := .mk (A.USB_FLAGS) 1 1
def USB_FLAGS_BUS_RESET : Fld := .mk (A.USB_FLAGS) 0 1
def USB_COUNT_BUS_RESETS : Fld := .mk (A.USB_COUNT) 16 16
def USB_COUNT_SUSPENDS : Fld := .mk (A.USB_COUNT) 0 16
def USB_CNT_CLR_CLR : Fld := .mk (A.USB_CNT_CLR) 0 1
def USB_LPM_BESL : Fld := .mk (A.USB_LPM) 16 4
def USB_LPM_L1_ENTRIES : Fld := .mk (A.USB_LPM) 0 16
def USB_STR_MFR_CHAR (k : Nat) (i : Nat) : Fld := .mk (A.USB_STR_MFR k) (8 * i + 0) 8
def USB_STR_PROD_CHAR (k : Nat) (i : Nat) : Fld := .mk (A.USB_STR_PROD k) (8 * i + 0) 8
def USB_STR_SER_CHAR (k : Nat) (i : Nat) : Fld := .mk (A.USB_STR_SER k) (8 * i + 0) 8
def SNS_CFG_NOM_HZ : Fld := .mk (A.SNS_CFG) 2 1
def SNS_CFG_INT_AUTO_PD : Fld := .mk (A.SNS_CFG) 1 1
def SNS_SEQ_CTRL_LAST : Fld := .mk (A.SNS_SEQ_CTRL) 12 4
def SNS_SEQ_CTRL_TRIG_DIV : Fld := .mk (A.SNS_SEQ_CTRL) 8 4
def SNS_SEQ_CTRL_POLICY : Fld := .mk (A.SNS_SEQ_CTRL) 7 1
def SNS_SEQ_CTRL_TRIG_EDGE : Fld := .mk (A.SNS_SEQ_CTRL) 6 1
def SNS_SEQ_CTRL_TRIG_SRC : Fld := .mk (A.SNS_SEQ_CTRL) 4 2
def SNS_SEQ_CTRL_ABORT : Fld := .mk (A.SNS_SEQ_CTRL) 2 1
def SNS_SEQ_CTRL_SW_TRIG : Fld := .mk (A.SNS_SEQ_CTRL) 1 1
def SNS_SEQ_CTRL_RUN : Fld := .mk (A.SNS_SEQ_CTRL) 0 1
def SNS_SEQ_STATUS_DIV_COUNT : Fld := .mk (A.SNS_SEQ_STATUS) 8 4
def SNS_SEQ_STATUS_ENTRY_NOW : Fld := .mk (A.SNS_SEQ_STATUS) 4 4
def SNS_SEQ_STATUS_PENDING : Fld := .mk (A.SNS_SEQ_STATUS) 3 1
def SNS_SEQ_STATUS_STATE : Fld := .mk (A.SNS_SEQ_STATUS) 0 3
def SNS_RESULT_READY : Fld := .mk (A.SNS_RESULT) 31 1
def SNS_RESULT_OVR : Fld := .mk (A.SNS_RESULT) 30 1
def SNS_RESULT_ORNG : Fld := .mk (A.SNS_RESULT) 29 1
def SNS_RESULT_CONV : Fld := .mk (A.SNS_RESULT) 28 1
def SNS_RESULT_URG : Fld := .mk (A.SNS_RESULT) 27 1
def SNS_RESULT_DIAG : Fld := .mk (A.SNS_RESULT) 26 1
def SNS_RESULT_ENTRY : Fld := .mk (A.SNS_RESULT) 20 4
def SNS_RESULT_VALUE : Fld := .mk (A.SNS_RESULT) 0 20
def SNS_STATUS_SAR_ON : Fld := .mk (A.SNS_STATUS) 17 1
def SNS_STATUS_INT_ON : Fld := .mk (A.SNS_STATUS) 16 1
def SNS_STATUS_NTC_FAULT : Fld := .mk (A.SNS_STATUS) 6 1
def SNS_STATUS_INT_ABANDONED : Fld := .mk (A.SNS_STATUS) 5 1
def SNS_STATUS_SEQ_ERR : Fld := .mk (A.SNS_STATUS) 4 1
def SNS_STATUS_ORNG : Fld := .mk (A.SNS_STATUS) 3 1
def SNS_STATUS_URG_BUSY : Fld := .mk (A.SNS_STATUS) 2 1
def SNS_STATUS_TRIG_OVR : Fld := .mk (A.SNS_STATUS) 1 1
def SNS_STATUS_OVR : Fld := .mk (A.SNS_STATUS) 0 1
def SNS_COUNT_TRIG_LOST : Fld := .mk (A.SNS_COUNT) 16 16
def SNS_COUNT_SEQ_DONE : Fld := .mk (A.SNS_COUNT) 0 16
def SNS_COUNT2_OVERRUNS : Fld := .mk (A.SNS_COUNT2) 16 16
def SNS_COUNT2_ABANDONED : Fld := .mk (A.SNS_COUNT2) 0 16
def SNS_CNT_CLR_CLR : Fld := .mk (A.SNS_CNT_CLR) 0 1
def SNS_URGENT_START : Fld := .mk (A.SNS_URGENT) 24 1
def SNS_URGENT_TIME : Fld := .mk (A.SNS_URGENT) 12 8
def SNS_URGENT_GAIN : Fld := .mk (A.SNS_URGENT) 8 3
def SNS_URGENT_CHANNEL : Fld := .mk (A.SNS_URGENT) 0 6
def SNS_ENTRY_OVR_OVR : Fld := .mk (A.SNS_ENTRY_OVR) 0 16
def SNS_SHUNT_UOHM : Fld := .mk (A.SNS_SHUNT) 0 20
def SNS_INT_STATUS_NOMINAL : Fld := .mk (A.SNS_INT_STATUS) 17 1
def SNS_INT_STATUS_N_LAST : Fld := .mk (A.SNS_INT_STATUS) 0 17
def SNS_DRONE_CFG_EN (k : Nat) : Fld := .mk (A.SNS_DRONE_CFG k) 31 1
def SNS_DRONE_CFG_TIME (k : Nat) : Fld := .mk (A.SNS_DRONE_CFG k) 12 8
def SNS_DRONE_CFG_GAIN (k : Nat) : Fld := .mk (A.SNS_DRONE_CFG k) 8 3
def SNS_DRONE_CFG_CHANNEL (k : Nat) : Fld := .mk (A.SNS_DRONE_CFG k) 0 6
def SNS_DRONE_AVG_VALID (k : Nat) : Fld := .mk (A.SNS_DRONE_AVG k) 16 1
def SNS_DRONE_AVG_AVG (k : Nat) : Fld := .mk (A.SNS_DRONE_AVG k) 0 16
def SNS_NTC_CFG_B (k : Nat) : Fld := .mk (A.SNS_NTC_CFG k) 16 16
def SNS_NTC_CFG_R25 (k : Nat) : Fld := .mk (A.SNS_NTC_CFG k) 0 16
def SNS_NTC_TEMP_TEMP1 : Fld := .mk (A.SNS_NTC_TEMP) 16 16
def SNS_NTC_TEMP_TEMP0 : Fld := .mk (A.SNS_NTC_TEMP) 0 16
def SNS_PP_CTRL_BUSY : Fld := .mk (A.SNS_PP_CTRL) 24 1
def SNS_PP_CTRL_INJ : Fld := .mk (A.SNS_PP_CTRL) 16 3
def SNS_PP_CTRL_ROUTE : Fld := .mk (A.SNS_PP_CTRL) 12 2
def SNS_PP_CTRL_CODE : Fld := .mk (A.SNS_PP_CTRL) 0 10
def SNS_DIAG_CTRL_INPUT : Fld := .mk (A.SNS_DIAG_CTRL) 8 4
def SNS_DIAG_CTRL_PROC : Fld := .mk (A.SNS_DIAG_CTRL) 1 2
def SNS_DIAG_CTRL_START : Fld := .mk (A.SNS_DIAG_CTRL) 0 1
def SNS_DIAG_STATUS_CAUSE : Fld := .mk (A.SNS_DIAG_STATUS) 4 4
def SNS_DIAG_STATUS_DONE : Fld := .mk (A.SNS_DIAG_STATUS) 2 1
def SNS_DIAG_STATUS_PASS : Fld := .mk (A.SNS_DIAG_STATUS) 1 1
def SNS_DIAG_STATUS_BUSY : Fld := .mk (A.SNS_DIAG_STATUS) 0 1
def SNS_DIAG_RESULT_RESULT : Fld := .mk (A.SNS_DIAG_RESULT) 0 32
def SNS_SLICE_TEST_CAUSE : Fld := .mk (A.SNS_SLICE_TEST) 8 4
def SNS_SLICE_TEST_PASS : Fld := .mk (A.SNS_SLICE_TEST) 6 1
def SNS_SLICE_TEST_DAC : Fld := .mk (A.SNS_SLICE_TEST) 5 1
def SNS_SLICE_TEST_SLICE : Fld := .mk (A.SNS_SLICE_TEST) 0 5
def SNS_SEQ_HOST (k : Nat) : Fld := .mk (A.SNS_SEQ k) 21 1
def SNS_SEQ_CONV (k : Nat) : Fld := .mk (A.SNS_SEQ k) 20 1
def SNS_SEQ_TIME (k : Nat) : Fld := .mk (A.SNS_SEQ k) 12 8
def SNS_SEQ_GAIN (k : Nat) : Fld := .mk (A.SNS_SEQ k) 8 3
def SNS_SEQ_CHANNEL (k : Nat) : Fld := .mk (A.SNS_SEQ k) 0 6
def LST_CTRL_CLR_COUNTS : Fld := .mk (A.LST_CTRL) 2 1
def LST_CTRL_DISARM : Fld := .mk (A.LST_CTRL) 1 1
def LST_CFG_ARM_TIMEOUT : Fld := .mk (A.LST_CFG) 8 8
def LST_CFG_SLEEP_STOP : Fld := .mk (A.LST_CFG) 6 2
def LST_CFG_FORCE_STOP : Fld := .mk (A.LST_CFG) 4 2
def LST_CFG_WAKE_ON : Fld := .mk (A.LST_CFG) 2 2
def LST_CFG_SPOT_CH : Fld := .mk (A.LST_CFG) 1 1
def LST_CFG_GROUP : Fld := .mk (A.LST_CFG) 0 1
def LST_SRC_ARRAY_MASK : Fld := .mk (A.LST_SRC) 16 16
def LST_SRC_RAW_COUNT : Fld := .mk (A.LST_SRC) 12 2
def LST_SRC_RAW1 : Fld := .mk (A.LST_SRC) 8 4
def LST_SRC_RAW0 : Fld := .mk (A.LST_SRC) 0 4
def LST_VAD_FLOOR_RISE : Fld := .mk (A.LST_VAD) 24 4
def LST_VAD_HANG : Fld := .mk (A.LST_VAD) 16 8
def LST_VAD_ONSET : Fld := .mk (A.LST_VAD) 8 4
def LST_VAD_THR : Fld := .mk (A.LST_VAD) 0 8
def LST_LEVEL_LEVEL : Fld := .mk (A.LST_LEVEL) 16 16
def LST_LEVEL_FLOOR : Fld := .mk (A.LST_LEVEL) 0 16
def LST_SPOT_EN : Fld := .mk (A.LST_SPOT) 24 1
def LST_SPOT_DET_HOLD : Fld := .mk (A.LST_SPOT) 16 4
def LST_SPOT_PHRASE_THR : Fld := .mk (A.LST_SPOT) 8 8
def LST_SPOT_DET_THR : Fld := .mk (A.LST_SPOT) 0 8
def LST_STATUS_MODEL_VALID : Fld := .mk (A.LST_STATUS) 15 1
def LST_STATUS_PRIVACY : Fld := .mk (A.LST_STATUS) 14 1
def LST_STATUS_DEFER_PENDING : Fld := .mk (A.LST_STATUS) 13 1
def LST_STATUS_ARMED : Fld := .mk (A.LST_STATUS) 12 1
def LST_STATUS_SUPPRESSED : Fld := .mk (A.LST_STATUS) 11 1
def LST_STATUS_IN_PHRASE : Fld := .mk (A.LST_STATUS) 10 1
def LST_STATUS_VOICE : Fld := .mk (A.LST_STATUS) 9 1
def LST_STATUS_PICCOLO : Fld := .mk (A.LST_STATUS) 8 1
def LST_STATUS_STOP_NOW : Fld := .mk (A.LST_STATUS) 4 2
def LST_STATUS_STATE : Fld := .mk (A.LST_STATUS) 0 3
def LST_COUNTER_NOW : Fld := .mk (A.LST_COUNTER) 0 32
def LST_WAKE_COUNTER_COUNTER : Fld := .mk (A.LST_WAKE_COUNTER) 0 32
def LST_WAKE_INFO_SCORE : Fld := .mk (A.LST_WAKE_INFO) 8 8
def LST_WAKE_INFO_SOURCE : Fld := .mk (A.LST_WAKE_INFO) 4 2
def LST_WAKE_INFO_CLASS : Fld := .mk (A.LST_WAKE_INFO) 0 4
def LST_RESUME_COUNTER_COUNTER : Fld := .mk (A.LST_RESUME_COUNTER) 0 32
def LST_HIST_OLDEST_COUNTER : Fld := .mk (A.LST_HIST_OLDEST) 0 32
def LST_HIST_SPANS_SPANS : Fld := .mk (A.LST_HIST_SPANS) 0 8
def LST_GAP_START_COUNTER : Fld := .mk (A.LST_GAP_START) 0 32
def LST_GAP_GAPS : Fld := .mk (A.LST_GAP) 16 16
def LST_GAP_LEN : Fld := .mk (A.LST_GAP) 0 16
def LST_COUNT_VOICE_ONSETS : Fld := .mk (A.LST_COUNT) 16 16
def LST_COUNT_WAKES : Fld := .mk (A.LST_COUNT) 0 16
def LST_COUNT2_DEFER_TIMEOUTS : Fld := .mk (A.LST_COUNT2) 16 16
def LST_COUNT2_REFUSALS : Fld := .mk (A.LST_COUNT2) 0 16
def LST_MODEL_CTRL_END : Fld := .mk (A.LST_MODEL_CTRL) 1 1
def LST_MODEL_CTRL_BEGIN : Fld := .mk (A.LST_MODEL_CTRL) 0 1
def LST_MODEL_STATUS_STATE : Fld := .mk (A.LST_MODEL_STATUS) 20 2
def LST_MODEL_STATUS_LOAD_ERR : Fld := .mk (A.LST_MODEL_STATUS) 16 4
def LST_MODEL_STATUS_PTR : Fld := .mk (A.LST_MODEL_STATUS) 0 16
def LST_MODEL_INFO_CONTEXT : Fld := .mk (A.LST_MODEL_INFO) 16 8
def LST_MODEL_INFO_CLASSES : Fld := .mk (A.LST_MODEL_INFO) 8 8
def LST_MODEL_INFO_LAYERS : Fld := .mk (A.LST_MODEL_INFO) 0 8
def LST_MODEL_MACS_MACS : Fld := .mk (A.LST_MODEL_MACS) 0 32
def LST_MODEL_WIN_WORD (k : Nat) : Fld := .mk (A.LST_MODEL_WIN k) 0 32
def JCK_CP_CTRL_RETRY : Fld := .mk (A.JCK_CP_CTRL) 1 1
def JCK_CP_CTRL_FORCE_ON : Fld := .mk (A.JCK_CP_CTRL) 0 1
def JCK_CP_STATUS_UV : Fld := .mk (A.JCK_CP_STATUS) 2 1
def JCK_CP_STATUS_OC : Fld := .mk (A.JCK_CP_STATUS) 1 1
def JCK_CP_STATUS_READY : Fld := .mk (A.JCK_CP_STATUS) 0 1
def JCK_DSL_MAP0_CH (i : Nat) : Fld := .mk (A.JCK_DSL_MAP0) (8 * i + 0) 4
def JCK_DSL_MAP1_CH (i : Nat) : Fld := .mk (A.JCK_DSL_MAP1) (8 * i + 0) 4
def JCK_DSL_STATE_DSL (i : Nat) : Fld := .mk (A.JCK_DSL_STATE) (3 * i + 0) 3
def JCK_SUBST_REQ_ABORT : Fld := .mk (A.JCK_SUBST_REQ) 9 1
def JCK_SUBST_REQ_START : Fld := .mk (A.JCK_SUBST_REQ) 8 1
def JCK_SUBST_REQ_CHANNEL : Fld := .mk (A.JCK_SUBST_REQ) 0 3
def JCK_SUBST_STATUS_RESTARTS : Fld := .mk (A.JCK_SUBST_STATUS) 16 8
def JCK_SUBST_STATUS_ABORT_CAUSE : Fld := .mk (A.JCK_SUBST_STATUS) 12 4
def JCK_SUBST_STATUS_ABORTED : Fld := .mk (A.JCK_SUBST_STATUS) 11 1
def JCK_SUBST_STATUS_PHASE : Fld := .mk (A.JCK_SUBST_STATUS) 9 2
def JCK_SUBST_STATUS_SPARE : Fld := .mk (A.JCK_SUBST_STATUS) 4 5
def JCK_SUBST_STATUS_INPUT : Fld := .mk (A.JCK_SUBST_STATUS) 0 4
def JCK_SUBST_MATCH_RESID : Fld := .mk (A.JCK_SUBST_MATCH) 16 16
def JCK_SUBST_MATCH_GAIN_TRIM : Fld := .mk (A.JCK_SUBST_MATCH) 0 16
def JCK_VREFB_STATUS_READY : Fld := .mk (A.JCK_VREFB_STATUS) 0 1
def JCK_HOLD_STATUS_COLLAPSES : Fld := .mk (A.JCK_HOLD_STATUS) 16 16
def JCK_HOLD_STATUS_VHOLD_OK : Fld := .mk (A.JCK_HOLD_STATUS) 1 1
def JCK_HOLD_STATUS_MUTED : Fld := .mk (A.JCK_HOLD_STATUS) 0 1
def JCK_CTRL_WAKE_EN (k : Nat) : Fld := .mk (A.JCK_CTRL k) 10 1
def JCK_CTRL_SWAP_FORCE (k : Nat) : Fld := .mk (A.JCK_CTRL k) 9 1
def JCK_CTRL_SWAP_FORCE_EN (k : Nat) : Fld := .mk (A.JCK_CTRL k) 8 1
def JCK_CTRL_BTN_EN (k : Nat) : Fld := .mk (A.JCK_CTRL k) 7 1
def JCK_CTRL_IMP_AUTO (k : Nat) : Fld := .mk (A.JCK_CTRL k) 6 1
def JCK_CTRL_AUTO_ID (k : Nat) : Fld := .mk (A.JCK_CTRL k) 5 1
def JCK_CTRL_AUTO_MUTE (k : Nat) : Fld := .mk (A.JCK_CTRL k) 4 1
def JCK_CTRL_DEBOUNCE (k : Nat) : Fld := .mk (A.JCK_CTRL k) 2 2
def JCK_CTRL_DET_MODE (k : Nat) : Fld := .mk (A.JCK_CTRL k) 0 2
def JCK_STATUS_SHORT_FOUND (k : Nat) : Fld := .mk (A.JCK_STATUS k) 14 1
def JCK_STATUS_SWAP (k : Nat) : Fld := .mk (A.JCK_STATUS k) 13 1
def JCK_STATUS_MIC_MUTED (k : Nat) : Fld := .mk (A.JCK_STATUS k) 12 1
def JCK_STATUS_BIAS_READY (k : Nat) : Fld := .mk (A.JCK_STATUS k) 11 1
def JCK_STATUS_BTN (k : Nat) : Fld := .mk (A.JCK_STATUS k) 8 3
def JCK_STATUS_INSERTED (k : Nat) : Fld := .mk (A.JCK_STATUS k) 7 1
def JCK_STATUS_TYPE (k : Nat) : Fld := .mk (A.JCK_STATUS k) 4 3
def JCK_STATUS_STATE (k : Nat) : Fld := .mk (A.JCK_STATUS k) 0 3
def JCK_BIAS_EN_FORCE (k : Nat) : Fld := .mk (A.JCK_BIAS k) 3 1
def JCK_BIAS_AUTO (k : Nat) : Fld := .mk (A.JCK_BIAS k) 2 1
def JCK_BIAS_LEVEL (k : Nat) : Fld := .mk (A.JCK_BIAS k) 0 2
def JCK_BTN_THR_THR_D (k : Nat) : Fld := .mk (A.JCK_BTN_THR k) 24 8
def JCK_BTN_THR_THR_C (k : Nat) : Fld := .mk (A.JCK_BTN_THR k) 16 8
def JCK_BTN_THR_THR_B (k : Nat) : Fld := .mk (A.JCK_BTN_THR k) 8 8
def JCK_BTN_THR_THR_A (k : Nat) : Fld := .mk (A.JCK_BTN_THR k) 0 8
def JCK_IMP_CTRL_BUSY (k : Nat) : Fld := .mk (A.JCK_IMP_CTRL k) 1 1
def JCK_IMP_CTRL_MEASURE (k : Nat) : Fld := .mk (A.JCK_IMP_CTRL k) 0 1
def JCK_IMP_L_VALID (k : Nat) : Fld := .mk (A.JCK_IMP_L k) 18 1
def JCK_IMP_L_CLASS (k : Nat) : Fld := .mk (A.JCK_IMP_L k) 16 2
def JCK_IMP_L_Z (k : Nat) : Fld := .mk (A.JCK_IMP_L k) 0 16
def JCK_IMP_R_VALID (k : Nat) : Fld := .mk (A.JCK_IMP_R k) 18 1
def JCK_IMP_R_CLASS (k : Nat) : Fld := .mk (A.JCK_IMP_R k) 16 2
def JCK_IMP_R_Z (k : Nat) : Fld := .mk (A.JCK_IMP_R k) 0 16
def JCK_COUNT_REMOVALS (k : Nat) : Fld := .mk (A.JCK_COUNT k) 16 16
def JCK_COUNT_INSERTIONS (k : Nat) : Fld := .mk (A.JCK_COUNT k) 0 16
def JCK_EVENT_CLR_COUNT (k : Nat) : Fld := .mk (A.JCK_EVENT k) 0 1
def FIF_CTRL_STEP : Fld := .mk (A.FIF_CTRL) 4 2
def FIF_CTRL_COMMIT : Fld := .mk (A.FIF_CTRL) 0 1
def FIF_STATUS_NALIGN : Fld := .mk (A.FIF_STATUS) 24 8
def FIF_STATUS_FAM_MISMATCH : Fld := .mk (A.FIF_STATUS) 16 8
def FIF_STATUS_ACTIVE : Fld := .mk (A.FIF_STATUS) 8 8
def FIF_STATUS_RAMPING : Fld := .mk (A.FIF_STATUS) 0 1
def FIF_SRC_LIVE_LIVE : Fld := .mk (A.FIF_SRC_LIVE) 0 16
def FIF_GAIN_G (k : Nat) (i : Nat) : Fld := .mk (A.FIF_GAIN k) (8 * i + 0) 6
def FIF_GAIN_NOW_G (k : Nat) (i : Nat) : Fld := .mk (A.FIF_GAIN_NOW k) (8 * i + 0) 6
def CHN_CTRL_CLR_COUNTS : Fld := .mk (A.CHN_CTRL) 2 1
def CHN_CTRL_REVERT : Fld := .mk (A.CHN_CTRL) 1 1
def CHN_CTRL_COMMIT : Fld := .mk (A.CHN_CTRL) 0 1
def CHN_STATUS_COMMITS : Fld := .mk (A.CHN_STATUS) 16 16
def CHN_STATUS_CAP_WAIT : Fld := .mk (A.CHN_STATUS) 5 1
def CHN_STATUS_SINK_XFADE : Fld := .mk (A.CHN_STATUS) 4 1
def CHN_STATUS_RAMPING : Fld := .mk (A.CHN_STATUS) 3 1
def CHN_STATUS_HELD : Fld := .mk (A.CHN_STATUS) 2 1
def CHN_STATUS_BUSY : Fld := .mk (A.CHN_STATUS) 0 1
def CHN_FRAME_NOW_FRAME : Fld := .mk (A.CHN_FRAME_NOW) 0 32
def CHN_COMMIT_FRAME_FRAME : Fld := .mk (A.CHN_COMMIT_FRAME) 0 32
def CHN_LOAD_CAP : Fld := .mk (A.CHN_LOAD) 16 16
def CHN_LOAD_COST : Fld := .mk (A.CHN_LOAD) 0 16
def CHN_BUS_SAT0_SAT : Fld := .mk (A.CHN_BUS_SAT0) 0 32
def CHN_BUS_SAT1_SAT : Fld := .mk (A.CHN_BUS_SAT1) 0 16
def CHN_SAT_COUNT_COUNT : Fld := .mk (A.CHN_SAT_COUNT) 0 16
def CHN_POISON_COUNT : Fld := .mk (A.CHN_POISON) 16 16
def CHN_POISON_LAST_ENTRY : Fld := .mk (A.CHN_POISON) 0 12
def CHN_TAP_TAP (k : Nat) (i : Nat) : Fld := .mk (A.CHN_TAP k) (8 * i + 0) 8
def CHN_TAP_MISMATCH_MISMATCH : Fld := .mk (A.CHN_TAP_MISMATCH) 0 16
def CHN_SINK_MISMATCH_MISMATCH (k : Nat) : Fld := .mk (A.CHN_SINK_MISMATCH k) 0 32
def CHN_SINK_SEL_INDEX : Fld := .mk (A.CHN_SINK_SEL) 0 8
def CHN_SINK_ACTIVE_WORD : Fld := .mk (A.CHN_SINK_ACTIVE) 0 32
def CHN_TAP_ACTIVE_TAP (k : Nat) (i : Nat) : Fld := .mk (A.CHN_TAP_ACTIVE k) (8 * i + 0) 8
def CHN_SINK_SW (k : Nat) : Fld := .mk (A.CHN_SINK k) 12 2
def CHN_SINK_KIND (k : Nat) : Fld := .mk (A.CHN_SINK k) 8 2
def CHN_SINK_INDEX (k : Nat) : Fld := .mk (A.CHN_SINK k) 0 6
def AIN_CTRL_MUTE (n : Nat) : Fld := .mk (A.AIN_CTRL n) 7 1
def AIN_CTRL_CAL_NOW (n : Nat) : Fld := .mk (A.AIN_CTRL n) 6 1
def AIN_CTRL_CAL_AUTO (n : Nat) : Fld := .mk (A.AIN_CTRL n) 5 1
def AIN_CTRL_ZC_EN (n : Nat) : Fld := .mk (A.AIN_CTRL n) 4 1
def AIN_CTRL_ELASTIC (n : Nat) : Fld := .mk (A.AIN_CTRL n) 3 1
def AIN_CTRL_SRC_SEL (n : Nat) : Fld := .mk (A.AIN_CTRL n) 2 1
def AIN_CTRL_MODE (n : Nat) : Fld := .mk (A.AIN_CTRL n) 0 2
def AIN_PGA_GAIN_NOW (n : Nat) : Fld := .mk (A.AIN_PGA n) 8 7
def AIN_PGA_GAIN (n : Nat) : Fld := .mk (A.AIN_PGA n) 0 7
def AIN_FMT_DC_HPF (n : Nat) : Fld := .mk (A.AIN_FMT n) 6 2
def AIN_FMT_FILTER (n : Nat) : Fld := .mk (A.AIN_FMT n) 4 2
def AIN_FMT_RATE (n : Nat) : Fld := .mk (A.AIN_FMT n) 0 4
def AIN_CAL_CAL_FAIL (n : Nat) : Fld := .mk (A.AIN_CAL n) 25 1
def AIN_CAL_VALID (n : Nat) : Fld := .mk (A.AIN_CAL n) 24 1
def AIN_CAL_OFFSET (n : Nat) : Fld := .mk (A.AIN_CAL n) 0 24
def AIN_ELASTIC_STOP_NOW (n : Nat) : Fld := .mk (A.AIN_ELASTIC n) 8 2
def AIN_ELASTIC_MAX_STOP (n : Nat) : Fld := .mk (A.AIN_ELASTIC n) 0 2
def AIN_STATUS_DOMAIN (n : Nat) : Fld := .mk (A.AIN_STATUS n) 10 1
def AIN_STATUS_MODE_NOW (n : Nat) : Fld := .mk (A.AIN_STATUS n) 8 2
def AIN_STATUS_SRC_JACK (n : Nat) : Fld := .mk (A.AIN_STATUS n) 7 1
def AIN_STATUS_FMT_PENDING (n : Nat) : Fld := .mk (A.AIN_STATUS n) 6 1
def AIN_STATUS_PRIVACY (n : Nat) : Fld := .mk (A.AIN_STATUS n) 5 1
def AIN_STATUS_RECOVERING (n : Nat) : Fld := .mk (A.AIN_STATUS n) 4 1
def AIN_STATUS_OVL_NOW (n : Nat) : Fld := .mk (A.AIN_STATUS n) 3 1
def AIN_STATUS_STATE (n : Nat) : Fld := .mk (A.AIN_STATUS n) 0 3
def AIN_CLIP_CLR_COUNT (n : Nat) : Fld := .mk (A.AIN_CLIP n) 17 1
def AIN_CLIP_CLIP (n : Nat) : Fld := .mk (A.AIN_CLIP n) 16 1
def AIN_CLIP_COUNT (n : Nat) : Fld := .mk (A.AIN_CLIP n) 0 16
def AIN_SLICE_SUBST (n : Nat) : Fld := .mk (A.AIN_SLICE n) 16 2
def AIN_SLICE_SHADOW (n : Nat) : Fld := .mk (A.AIN_SLICE n) 8 5
def AIN_SLICE_SLICE (n : Nat) : Fld := .mk (A.AIN_SLICE n) 0 5
def AUX_BEEP_CTRL_MUTE : Fld := .mk (A.AUX_BEEP_CTRL) 10 1
def AUX_BEEP_CTRL_FILTER : Fld := .mk (A.AUX_BEEP_CTRL) 8 2
def AUX_BEEP_CTRL_RATE : Fld := .mk (A.AUX_BEEP_CTRL) 4 4
def AUX_BEEP_CTRL_GAIN : Fld := .mk (A.AUX_BEEP_CTRL) 1 3
def AUX_BEEP_CTRL_EN : Fld := .mk (A.AUX_BEEP_CTRL) 0 1
def AUX_BEEP_STATUS_CLIP : Fld := .mk (A.AUX_BEEP_STATUS) 2 1
def AUX_BEEP_STATUS_ACTIVE : Fld := .mk (A.AUX_BEEP_STATUS) 1 1
def AUX_BEEP_STATUS_RUNNING : Fld := .mk (A.AUX_BEEP_STATUS) 0 1
def AUX_MICBIAS_CTRL_LEVEL (i : Nat) : Fld := .mk (A.AUX_MICBIAS_CTRL) (4 * i + 1) 2
def AUX_MICBIAS_CTRL_EN (i : Nat) : Fld := .mk (A.AUX_MICBIAS_CTRL) (4 * i + 0) 1
def AUX_MICBIAS_STATUS_OVERCURRENT (i : Nat) : Fld := .mk (A.AUX_MICBIAS_STATUS) (1 * i + 4) 1
def AUX_MICBIAS_STATUS_READY (i : Nat) : Fld := .mk (A.AUX_MICBIAS_STATUS) (1 * i + 0) 1
def AUX_SLICE_MAP_INPUT (k : Nat) (i : Nat) : Fld := .mk (A.AUX_SLICE_MAP k) (8 * i + 0) 5
def AUX_SLICE_STATE0_ASL (i : Nat) : Fld := .mk (A.AUX_SLICE_STATE0) (3 * i + 0) 3
def AUX_SLICE_STATE1_ASL (i : Nat) : Fld := .mk (A.AUX_SLICE_STATE1) (3 * i + 0) 3
def AUX_SUBST_REQ_ABORT : Fld := .mk (A.AUX_SUBST_REQ) 9 1
def AUX_SUBST_REQ_START : Fld := .mk (A.AUX_SUBST_REQ) 8 1
def AUX_SUBST_REQ_INPUT : Fld := .mk (A.AUX_SUBST_REQ) 0 4
def AUX_SUBST_STATUS_RESTARTS : Fld := .mk (A.AUX_SUBST_STATUS) 16 8
def AUX_SUBST_STATUS_ABORT_CAUSE : Fld := .mk (A.AUX_SUBST_STATUS) 12 4
def AUX_SUBST_STATUS_ABORTED : Fld := .mk (A.AUX_SUBST_STATUS) 11 1
def AUX_SUBST_STATUS_PHASE : Fld := .mk (A.AUX_SUBST_STATUS) 9 2
def AUX_SUBST_STATUS_SPARE : Fld := .mk (A.AUX_SUBST_STATUS) 4 5
def AUX_SUBST_STATUS_INPUT : Fld := .mk (A.AUX_SUBST_STATUS) 0 4
def AUX_SUBST_MATCH_RESID : Fld := .mk (A.AUX_SUBST_MATCH) 16 16
def AUX_SUBST_MATCH_GAIN_TRIM : Fld := .mk (A.AUX_SUBST_MATCH) 0 16
def AUX_VREF_STATUS_VREFA_READY : Fld := .mk (A.AUX_VREF_STATUS) 0 1
def AUX_PRIVACY_COUNT : Fld := .mk (A.AUX_PRIVACY) 16 16
def AUX_PRIVACY_ASSERTED : Fld := .mk (A.AUX_PRIVACY) 0 1
def AOUT_CTRL_MRAMP (n : Nat) : Fld := .mk (A.AOUT_CTRL n) 4 2
def AOUT_CTRL_ELASTIC (n : Nat) : Fld := .mk (A.AOUT_CTRL n) 3 1
def AOUT_CTRL_MUTE (n : Nat) : Fld := .mk (A.AOUT_CTRL n) 2 1
def AOUT_CTRL_EN (n : Nat) : Fld := .mk (A.AOUT_CTRL n) 0 1
def AOUT_FMT_FILTER (n : Nat) : Fld := .mk (A.AOUT_FMT n) 4 2
def AOUT_FMT_RATE (n : Nat) : Fld := .mk (A.AOUT_FMT n) 0 4
def AOUT_VOL_GAIN_NOW (n : Nat) : Fld := .mk (A.AOUT_VOL n) 16 12
def AOUT_VOL_VRAMP (n : Nat) : Fld := .mk (A.AOUT_VOL n) 12 2
def AOUT_VOL_GAIN (n : Nat) : Fld := .mk (A.AOUT_VOL n) 0 12
def AOUT_ELASTIC_STOP_NOW (n : Nat) : Fld := .mk (A.AOUT_ELASTIC n) 8 2
def AOUT_ELASTIC_MAX_STOP (n : Nat) : Fld := .mk (A.AOUT_ELASTIC n) 0 2
def AOUT_STATUS_FMT_PENDING (n : Nat) : Fld := .mk (A.AOUT_STATUS n) 8 1
def AOUT_STATUS_ILIM_NOW (n : Nat) : Fld := .mk (A.AOUT_STATUS n) 7 1
def AOUT_STATUS_FIFE_ACTIVE (n : Nat) : Fld := .mk (A.AOUT_STATUS n) 6 1
def AOUT_STATUS_JACK_MUTE (n : Nat) : Fld := .mk (A.AOUT_STATUS n) 5 1
def AOUT_STATUS_HOLD_MUTE (n : Nat) : Fld := .mk (A.AOUT_STATUS n) 4 1
def AOUT_STATUS_DOMAIN (n : Nat) : Fld := .mk (A.AOUT_STATUS n) 3 1
def AOUT_STATUS_STATE (n : Nat) : Fld := .mk (A.AOUT_STATUS n) 0 3
def AOUT_FLAGS_ILIM (n : Nat) : Fld := .mk (A.AOUT_FLAGS n) 1 1
def AOUT_FLAGS_SAT (n : Nat) : Fld := .mk (A.AOUT_FLAGS n) 0 1
def AOUT_SLICE_SUBST (n : Nat) : Fld := .mk (A.AOUT_SLICE n) 16 2
def AOUT_SLICE_SHADOW (n : Nat) : Fld := .mk (A.AOUT_SLICE n) 8 4
def AOUT_SLICE_SLICE (n : Nat) : Fld := .mk (A.AOUT_SLICE n) 0 4
def AOUT_OFFSET_SERVO (n : Nat) : Fld := .mk (A.AOUT_OFFSET n) 0 16
def AOP_PAIR_HP_MODE (n : Nat) : Fld := .mk (A.AOP_PAIR n) 0 2
def SPK_CTRL_OC_AUTO (n : Nat) : Fld := .mk (A.SPK_CTRL n) 6 1
def SPK_CTRL_MRAMP (n : Nat) : Fld := .mk (A.SPK_CTRL n) 4 2
def SPK_CTRL_MUTE (n : Nat) : Fld := .mk (A.SPK_CTRL n) 2 1
def SPK_CTRL_EN (n : Nat) : Fld := .mk (A.SPK_CTRL n) 0 1
def SPK_FMT_FS (n : Nat) : Fld := .mk (A.SPK_FMT n) 8 3
def SPK_FMT_FILTER (n : Nat) : Fld := .mk (A.SPK_FMT n) 4 2
def SPK_FMT_RATE (n : Nat) : Fld := .mk (A.SPK_FMT n) 0 4
def SPK_VOL_GAIN_NOW (n : Nat) : Fld := .mk (A.SPK_VOL n) 16 12
def SPK_VOL_VRAMP (n : Nat) : Fld := .mk (A.SPK_VOL n) 12 2
def SPK_VOL_GAIN (n : Nat) : Fld := .mk (A.SPK_VOL n) 0 12
def SPK_PWM_PHASE (n : Nat) : Fld := .mk (A.SPK_PWM n) 4 2
def SPK_PWM_SPREAD (n : Nat) : Fld := .mk (A.SPK_PWM n) 0 2
def SPK_LOAD_RNOM (n : Nat) : Fld := .mk (A.SPK_LOAD n) 0 16
def SPK_CEIL_EFFECTIVE (n : Nat) : Fld := .mk (A.SPK_CEIL n) 16 8
def SPK_CEIL_RATED (n : Nat) : Fld := .mk (A.SPK_CEIL n) 8 8
def SPK_CEIL_BELLOWS (n : Nat) : Fld := .mk (A.SPK_CEIL n) 0 8
def SPK_PROT_GUARD_EQ (n : Nat) : Fld := .mk (A.SPK_PROT n) 16 8
def SPK_PROT_SEED_CAP (n : Nat) : Fld := .mk (A.SPK_PROT n) 11 1
def SPK_PROT_T_ACT (n : Nat) : Fld := .mk (A.SPK_PROT n) 10 1
def SPK_PROT_X_ACT (n : Nat) : Fld := .mk (A.SPK_PROT n) 9 1
def SPK_PROT_CEIL_ACT (n : Nat) : Fld := .mk (A.SPK_PROT n) 8 1
def SPK_PROT_GR (n : Nat) : Fld := .mk (A.SPK_PROT n) 0 8
def SPK_STATUS_CBC_NOW (n : Nat) : Fld := .mk (A.SPK_STATUS n) 7 1
def SPK_STATUS_OT_WARN_NOW (n : Nat) : Fld := .mk (A.SPK_STATUS n) 6 1
def SPK_STATUS_HIZ (n : Nat) : Fld := .mk (A.SPK_STATUS n) 5 1
def SPK_STATUS_HOLD_MUTE (n : Nat) : Fld := .mk (A.SPK_STATUS n) 4 1
def SPK_STATUS_DOMAIN (n : Nat) : Fld := .mk (A.SPK_STATUS n) 3 1
def SPK_STATUS_STATE (n : Nat) : Fld := .mk (A.SPK_STATUS n) 0 3
def SPK_FLAGS_OPEN_WARN (n : Nat) : Fld := .mk (A.SPK_FLAGS n) 9 1
def SPK_FLAGS_CLK (n : Nat) : Fld := .mk (A.SPK_FLAGS n) 8 1
def SPK_FLAGS_SENSE (n : Nat) : Fld := .mk (A.SPK_FLAGS n) 7 1
def SPK_FLAGS_OV (n : Nat) : Fld := .mk (A.SPK_FLAGS n) 6 1
def SPK_FLAGS_UV (n : Nat) : Fld := .mk (A.SPK_FLAGS n) 5 1
def SPK_FLAGS_OT (n : Nat) : Fld := .mk (A.SPK_FLAGS n) 4 1
def SPK_FLAGS_DC (n : Nat) : Fld := .mk (A.SPK_FLAGS n) 3 1
def SPK_FLAGS_OC (n : Nat) : Fld := .mk (A.SPK_FLAGS n) 2 1
def SPK_FLAGS_CBC (n : Nat) : Fld := .mk (A.SPK_FLAGS n) 1 1
def SPK_FLAGS_CLIP (n : Nat) : Fld := .mk (A.SPK_FLAGS n) 0 1
def SPK_FAULT_CNT_FAULTS (n : Nat) : Fld := .mk (A.SPK_FAULT_CNT n) 16 16
def SPK_FAULT_CNT_OC_RETRIES (n : Nat) : Fld := .mk (A.SPK_FAULT_CNT n) 0 2
def SPK_MEAS_P_PVDD (n : Nat) : Fld := .mk (A.SPK_MEAS_P n) 16 16
def SPK_MEAS_P_P (n : Nat) : Fld := .mk (A.SPK_MEAS_P n) 0 16
def SPK_MEAS_Z_VALID (n : Nat) : Fld := .mk (A.SPK_MEAS_Z n) 16 1
def SPK_MEAS_Z_RE (n : Nat) : Fld := .mk (A.SPK_MEAS_Z n) 0 16
def SPK_STAGE_T_TEMP (n : Nat) : Fld := .mk (A.SPK_STAGE_T n) 0 16
def SPK_GUARD_CTRL_REL (n : Nat) : Fld := .mk (A.SPK_GUARD_CTRL n) 12 2
def SPK_GUARD_CTRL_ZONE (n : Nat) : Fld := .mk (A.SPK_GUARD_CTRL n) 8 3
def SPK_GUARD_CTRL_RESEED (n : Nat) : Fld := .mk (A.SPK_GUARD_CTRL n) 4 1
def SPK_GUARD_CTRL_PILOT_EN (n : Nat) : Fld := .mk (A.SPK_GUARD_CTRL n) 3 1
def SPK_GUARD_CTRL_T_EN (n : Nat) : Fld := .mk (A.SPK_GUARD_CTRL n) 2 1
def SPK_GUARD_CTRL_X_EN (n : Nat) : Fld := .mk (A.SPK_GUARD_CTRL n) 1 1
def SPK_GUARD_CTRL_EN (n : Nat) : Fld := .mk (A.SPK_GUARD_CTRL n) 0 1
def SPK_GUARD_RE_ALPHA (n : Nat) : Fld := .mk (A.SPK_GUARD_RE n) 16 16
def SPK_GUARD_RE_RE25 (n : Nat) : Fld := .mk (A.SPK_GUARD_RE n) 0 16
def SPK_GUARD_XM_QTS (n : Nat) : Fld := .mk (A.SPK_GUARD_XM n) 16 16
def SPK_GUARD_XM_FRES (n : Nat) : Fld := .mk (A.SPK_GUARD_XM n) 0 16
def SPK_GUARD_XL_XLIM (n : Nat) : Fld := .mk (A.SPK_GUARD_XL n) 16 16
def SPK_GUARD_XL_XSENS (n : Nat) : Fld := .mk (A.SPK_GUARD_XL n) 0 16
def SPK_GUARD_TC_TAU (n : Nat) : Fld := .mk (A.SPK_GUARD_TC n) 16 16
def SPK_GUARD_TC_RTH (n : Nat) : Fld := .mk (A.SPK_GUARD_TC n) 0 16
def SPK_GUARD_TM_TAU (n : Nat) : Fld := .mk (A.SPK_GUARD_TM n) 16 16
def SPK_GUARD_TM_RTH (n : Nat) : Fld := .mk (A.SPK_GUARD_TM n) 0 16
def SPK_GUARD_TL_SEED_LIMIT (n : Nat) : Fld := .mk (A.SPK_GUARD_TL n) 16 8
def SPK_GUARD_TL_SEED_MARGIN (n : Nat) : Fld := .mk (A.SPK_GUARD_TL n) 8 8
def SPK_GUARD_TL_TLIM (n : Nat) : Fld := .mk (A.SPK_GUARD_TL n) 0 8
def SPK_GUARD_STATUS_X_PEAK (n : Nat) : Fld := .mk (A.SPK_GUARD_STATUS n) 16 16
def SPK_GUARD_STATUS_PILOT_ON (n : Nat) : Fld := .mk (A.SPK_GUARD_STATUS n) 3 1
def SPK_GUARD_STATUS_MODEL_FAULT (n : Nat) : Fld := .mk (A.SPK_GUARD_STATUS n) 2 1
def SPK_GUARD_STATUS_CFG_ERR (n : Nat) : Fld := .mk (A.SPK_GUARD_STATUS n) 1 1
def SPK_GUARD_STATUS_SEEDED (n : Nat) : Fld := .mk (A.SPK_GUARD_STATUS n) 0 1
def SPK_GUARD_TEMP_T_MAG (n : Nat) : Fld := .mk (A.SPK_GUARD_TEMP n) 16 16
def SPK_GUARD_TEMP_T_COIL (n : Nat) : Fld := .mk (A.SPK_GUARD_TEMP n) 0 16
def SAP_CTRL_PACK (n : Nat) : Fld := .mk (A.SAP_CTRL n) 4 1
def SAP_CTRL_IDLE_HIZ (n : Nat) : Fld := .mk (A.SAP_CTRL n) 3 1
def SAP_CTRL_TX_EN (n : Nat) : Fld := .mk (A.SAP_CTRL n) 2 1
def SAP_CTRL_RX_EN (n : Nat) : Fld := .mk (A.SAP_CTRL n) 1 1
def SAP_CTRL_MASTER (n : Nat) : Fld := .mk (A.SAP_CTRL n) 0 1
def SAP_FMT_RATE (n : Nat) : Fld := .mk (A.SAP_FMT n) 16 4
def SAP_FMT_SLOTS (n : Nat) : Fld := .mk (A.SAP_FMT n) 12 4
def SAP_FMT_WIDTH (n : Nat) : Fld := .mk (A.SAP_FMT n) 8 2
def SAP_FMT_BCLK_INV (n : Nat) : Fld := .mk (A.SAP_FMT n) 5 1
def SAP_FMT_FS_INV (n : Nat) : Fld := .mk (A.SAP_FMT n) 4 1
def SAP_FMT_FS_WIDTH (n : Nat) : Fld := .mk (A.SAP_FMT n) 3 1
def SAP_FMT_OFFSET (n : Nat) : Fld := .mk (A.SAP_FMT n) 2 1
def SAP_FMT_FORMAT (n : Nat) : Fld := .mk (A.SAP_FMT n) 0 2
def SAP_SLOT_MASK_TX_MASK (n : Nat) : Fld := .mk (A.SAP_SLOT_MASK_TX n) 0 16
def SAP_SLOT_MASK_RX_MASK (n : Nat) : Fld := .mk (A.SAP_SLOT_MASK_RX n) 0 16
def SAP_STATUS_RATE_NOW (n : Nat) : Fld := .mk (A.SAP_STATUS n) 16 4
def SAP_STATUS_DOMAIN (n : Nat) : Fld := .mk (A.SAP_STATUS n) 12 4
def SAP_STATUS_TRK_STATE (n : Nat) : Fld := .mk (A.SAP_STATUS n) 8 2
def SAP_STATUS_MASK_PENDING (n : Nat) : Fld := .mk (A.SAP_STATUS n) 3 1
def SAP_STATUS_STATE (n : Nat) : Fld := .mk (A.SAP_STATUS n) 0 3
def SAP_MEAS_BCLK_COUNT (n : Nat) : Fld := .mk (A.SAP_MEAS n) 0 16
def SAP_BCLK_HZ (n : Nat) : Fld := .mk (A.SAP_BCLK n) 0 32
def SAP_FLAGS_CFG_ERR (n : Nat) : Fld := .mk (A.SAP_FLAGS n) 3 1
def SAP_FLAGS_RX_OVER (n : Nat) : Fld := .mk (A.SAP_FLAGS n) 2 1
def SAP_FLAGS_TX_UNDER (n : Nat) : Fld := .mk (A.SAP_FLAGS n) 1 1
def SAP_FLAGS_FRAME_ERR (n : Nat) : Fld := .mk (A.SAP_FLAGS n) 0 1
def SAP_COUNT_FRAME_ERRS (n : Nat) : Fld := .mk (A.SAP_COUNT n) 16 16
def SAP_COUNT_UNDERRUNS (n : Nat) : Fld := .mk (A.SAP_COUNT n) 0 16
def SAP_COUNT2_OVERRUNS (n : Nat) : Fld := .mk (A.SAP_COUNT2 n) 0 16
def SAP_CNT_CLR_CLR (n : Nat) : Fld := .mk (A.SAP_CNT_CLR n) 0 1
def SAP_MCLK_RUNNING (n : Nat) : Fld := .mk (A.SAP_MCLK n) 16 1
def SAP_MCLK_DIV (n : Nat) : Fld := .mk (A.SAP_MCLK n) 8 8
def SAP_MCLK_SRC (n : Nat) : Fld := .mk (A.SAP_MCLK n) 0 2
def PDM_CLK_CTRL_SETTLE1 : Fld := .mk (A.PDM_CLK_CTRL) 16 8
def PDM_CLK_CTRL_SETTLE0 : Fld := .mk (A.PDM_CLK_CTRL) 8 8
def PDM_CLK_CTRL_FREQ1 : Fld := .mk (A.PDM_CLK_CTRL) 4 3
def PDM_CLK_CTRL_FREQ0 : Fld := .mk (A.PDM_CLK_CTRL) 0 3
def PDM_LINE_CLKSEL : Fld := .mk (A.PDM_LINE) 0 8
def PDM_MIC_EN_EN : Fld := .mk (A.PDM_MIC_EN) 0 16
def PDM_FMT_DC_HPF : Fld := .mk (A.PDM_FMT) 16 2
def PDM_FMT_FILTER1 : Fld := .mk (A.PDM_FMT) 12 2
def PDM_FMT_RATE1 : Fld := .mk (A.PDM_FMT) 8 4
def PDM_FMT_FILTER0 : Fld := .mk (A.PDM_FMT) 4 2
def PDM_FMT_RATE0 : Fld := .mk (A.PDM_FMT) 0 4
def PDM_STATUS_LISTEN1 : Fld := .mk (A.PDM_STATUS) 10 1
def PDM_STATUS_LISTEN0 : Fld := .mk (A.PDM_STATUS) 9 1
def PDM_STATUS_PRIVACY : Fld := .mk (A.PDM_STATUS) 8 1
def PDM_STATUS_STATE1 : Fld := .mk (A.PDM_STATUS) 4 3
def PDM_STATUS_STATE0 : Fld := .mk (A.PDM_STATUS) 0 3
def PDM_MIC_STATUS_RUNNING : Fld := .mk (A.PDM_MIC_STATUS) 16 16
def PDM_MIC_STATUS_ABSENT : Fld := .mk (A.PDM_MIC_STATUS) 0 16
def PDM_CLIP_CLIP : Fld := .mk (A.PDM_CLIP) 0 16
def PDM_FLAGS_CFG_ERR : Fld := .mk (A.PDM_FLAGS) 0 1
def SPD_RX_CTRL_NONPCM_DET : Fld := .mk (A.SPD_RX_CTRL) 2 1
def SPD_RX_CTRL_VALID_MUTE : Fld := .mk (A.SPD_RX_CTRL) 1 1
def SPD_RX_CTRL_EN : Fld := .mk (A.SPD_RX_CTRL) 0 1
def SPD_RX_STATUS_BURST_TYPE : Fld := .mk (A.SPD_RX_STATUS) 16 5
def SPD_RX_STATUS_SYNC_HOLD : Fld := .mk (A.SPD_RX_STATUS) 12 1
def SPD_RX_STATUS_CS_FS : Fld := .mk (A.SPD_RX_STATUS) 8 4
def SPD_RX_STATUS_RATE : Fld := .mk (A.SPD_RX_STATUS) 4 4
def SPD_RX_STATUS_CS_VALID : Fld := .mk (A.SPD_RX_STATUS) 3 1
def SPD_RX_STATUS_NONPCM : Fld := .mk (A.SPD_RX_STATUS) 2 1
def SPD_RX_STATUS_TRK_STATE : Fld := .mk (A.SPD_RX_STATUS) 0 2
def SPD_RX_FLAGS_NONPCM_CHG : Fld := .mk (A.SPD_RX_FLAGS) 4 1
def SPD_RX_FLAGS_CS_CHANGE : Fld := .mk (A.SPD_RX_FLAGS) 3 1
def SPD_RX_FLAGS_CODE_ERR : Fld := .mk (A.SPD_RX_FLAGS) 2 1
def SPD_RX_FLAGS_VALIDITY : Fld := .mk (A.SPD_RX_FLAGS) 1 1
def SPD_RX_FLAGS_PARITY : Fld := .mk (A.SPD_RX_FLAGS) 0 1
def SPD_RX_COUNT_PARITY_ERRS : Fld := .mk (A.SPD_RX_COUNT) 16 16
def SPD_RX_COUNT_V_FRAMES : Fld := .mk (A.SPD_RX_COUNT) 0 16
def SPD_RX_CS_BYTE (k : Nat) (i : Nat) : Fld := .mk (A.SPD_RX_CS k) (8 * i + 0) 8
def SPD_TX_CTRL_RATE : Fld := .mk (A.SPD_TX_CTRL) 4 4
def SPD_TX_CTRL_AUTO_CS : Fld := .mk (A.SPD_TX_CTRL) 3 1
def SPD_TX_CTRL_PASS : Fld := .mk (A.SPD_TX_CTRL) 1 2
def SPD_TX_CTRL_EN : Fld := .mk (A.SPD_TX_CTRL) 0 1
def SPD_TX_STATUS_HOLD : Fld := .mk (A.SPD_TX_STATUS) 8 1
def SPD_TX_STATUS_DOMAIN : Fld := .mk (A.SPD_TX_STATUS) 4 4
def SPD_TX_STATUS_STATE : Fld := .mk (A.SPD_TX_STATUS) 0 3
def SPD_TX_CS_BYTE (k : Nat) (i : Nat) : Fld := .mk (A.SPD_TX_CS k) (8 * i + 0) 8
def SPD_CNT_CLR_CLR : Fld := .mk (A.SPD_CNT_CLR) 0 1
def LANE_SRC_DIR (n : Nat) : Fld := .mk (A.LANE_SRC n) 8 1
def LANE_SRC_SOURCE (n : Nat) : Fld := .mk (A.LANE_SRC n) 0 8
def LANE_OUT_DOMAIN (n : Nat) : Fld := .mk (A.LANE_OUT n) 4 4
def LANE_OUT_RATE (n : Nat) : Fld := .mk (A.LANE_OUT n) 0 4
def LANE_CTRL_MAX_STOP (n : Nat) : Fld := .mk (A.LANE_CTRL n) 8 2
def LANE_CTRL_ELASTIC (n : Nat) : Fld := .mk (A.LANE_CTRL n) 7 1
def LANE_CTRL_MRAMP (n : Nat) : Fld := .mk (A.LANE_CTRL n) 4 2
def LANE_CTRL_INVERT (n : Nat) : Fld := .mk (A.LANE_CTRL n) 3 1
def LANE_CTRL_MUTE (n : Nat) : Fld := .mk (A.LANE_CTRL n) 2 1
def LANE_RC_MARGIN (n : Nat) : Fld := .mk (A.LANE_RC n) 0 5
def LANE_TRIM_GAIN_NOW (n : Nat) : Fld := .mk (A.LANE_TRIM n) 16 12
def LANE_TRIM_RAMP (n : Nat) : Fld := .mk (A.LANE_TRIM n) 12 2
def LANE_TRIM_GAIN (n : Nat) : Fld := .mk (A.LANE_TRIM n) 0 12
def LANE_DCB_HPF (n : Nat) : Fld := .mk (A.LANE_DCB n) 0 2
def LANE_HUM_WIDTH (n : Nat) : Fld := .mk (A.LANE_HUM n) 10 2
def LANE_HUM_FREQ_SRC (n : Nat) : Fld := .mk (A.LANE_HUM n) 8 2
def LANE_HUM_HARM (n : Nat) : Fld := .mk (A.LANE_HUM n) 0 3
def LANE_HUM_STATUS_NOMINAL (n : Nat) : Fld := .mk (A.LANE_HUM_STATUS n) 16 1
def LANE_HUM_STATUS_FREQ (n : Nat) : Fld := .mk (A.LANE_HUM_STATUS n) 0 16
def LANE_COEF_CTRL_XFADE (n : Nat) : Fld := .mk (A.LANE_COEF_CTRL n) 2 1
def LANE_COEF_CTRL_COMMIT (n : Nat) : Fld := .mk (A.LANE_COEF_CTRL n) 0 1
def LANE_COEF_STATUS_COMMITS (n : Nat) : Fld := .mk (A.LANE_COEF_STATUS n) 16 16
def LANE_COEF_STATUS_ERR_STAGE (n : Nat) : Fld := .mk (A.LANE_COEF_STATUS n) 12 4
def LANE_COEF_STATUS_ERR_CAUSE (n : Nat) : Fld := .mk (A.LANE_COEF_STATUS n) 8 4
def LANE_COEF_STATUS_LOST (n : Nat) : Fld := .mk (A.LANE_COEF_STATUS n) 3 1
def LANE_COEF_STATUS_POISON (n : Nat) : Fld := .mk (A.LANE_COEF_STATUS n) 2 1
def LANE_COEF_STATUS_BUSY (n : Nat) : Fld := .mk (A.LANE_COEF_STATUS n) 1 1
def LANE_COEF_STATUS_ERR (n : Nat) : Fld := .mk (A.LANE_COEF_STATUS n) 0 1
def LANE_DYN_CTRL_LINK_LANE (n : Nat) : Fld := .mk (A.LANE_DYN_CTRL n) 8 6
def LANE_DYN_CTRL_LINK_EN (n : Nat) : Fld := .mk (A.LANE_DYN_CTRL n) 4 1
def LANE_DYN_CTRL_DET (n : Nat) : Fld := .mk (A.LANE_DYN_CTRL n) 3 1
def LANE_DYN_CTRL_LIM_EN (n : Nat) : Fld := .mk (A.LANE_DYN_CTRL n) 2 1
def LANE_DYN_CTRL_COMP_EN (n : Nat) : Fld := .mk (A.LANE_DYN_CTRL n) 1 1
def LANE_DYN_CTRL_GATE_EN (n : Nat) : Fld := .mk (A.LANE_DYN_CTRL n) 0 1
def LANE_DYN_COMP_MAKEUP (n : Nat) : Fld := .mk (A.LANE_DYN_COMP n) 24 8
def LANE_DYN_COMP_KNEE (n : Nat) : Fld := .mk (A.LANE_DYN_COMP n) 22 2
def LANE_DYN_COMP_RATIO (n : Nat) : Fld := .mk (A.LANE_DYN_COMP n) 16 4
def LANE_DYN_COMP_THR (n : Nat) : Fld := .mk (A.LANE_DYN_COMP n) 0 8
def LANE_DYN_TIME_REL (n : Nat) : Fld := .mk (A.LANE_DYN_TIME n) 16 8
def LANE_DYN_TIME_ATT (n : Nat) : Fld := .mk (A.LANE_DYN_TIME n) 0 6
def LANE_DYN_LIM_LIM_REL (n : Nat) : Fld := .mk (A.LANE_DYN_LIM n) 8 8
def LANE_DYN_LIM_LIM_THR (n : Nat) : Fld := .mk (A.LANE_DYN_LIM n) 0 6
def LANE_DYN_GATE_HOLD (n : Nat) : Fld := .mk (A.LANE_DYN_GATE n) 24 8
def LANE_DYN_GATE_RANGE (n : Nat) : Fld := .mk (A.LANE_DYN_GATE n) 20 4
def LANE_DYN_GATE_REL (n : Nat) : Fld := .mk (A.LANE_DYN_GATE n) 8 8
def LANE_DYN_GATE_THR (n : Nat) : Fld := .mk (A.LANE_DYN_GATE n) 0 8
def LANE_DYN_STATUS_LINKED (n : Nat) : Fld := .mk (A.LANE_DYN_STATUS n) 11 1
def LANE_DYN_STATUS_COMP_ACT (n : Nat) : Fld := .mk (A.LANE_DYN_STATUS n) 10 1
def LANE_DYN_STATUS_LIM_ACT (n : Nat) : Fld := .mk (A.LANE_DYN_STATUS n) 9 1
def LANE_DYN_STATUS_GATE_OPEN (n : Nat) : Fld := .mk (A.LANE_DYN_STATUS n) 8 1
def LANE_DYN_STATUS_GR (n : Nat) : Fld := .mk (A.LANE_DYN_STATUS n) 0 8
def LANE_DELAY_EXT_BLOCKS (n : Nat) : Fld := .mk (A.LANE_DELAY n) 24 8
def LANE_DELAY_FRAMES (n : Nat) : Fld := .mk (A.LANE_DELAY n) 0 16
def LANE_DELAY_STATUS_XFADE_NOW (n : Nat) : Fld := .mk (A.LANE_DELAY_STATUS n) 16 1
def LANE_DELAY_STATUS_FRAMES_NOW (n : Nat) : Fld := .mk (A.LANE_DELAY_STATUS n) 0 16
def LANE_POOL_RC_BLOCKS (n : Nat) : Fld := .mk (A.LANE_POOL n) 16 8
def LANE_POOL_FREE (n : Nat) : Fld := .mk (A.LANE_POOL n) 0 8
def LANE_METER_CTRL_CLR_HOLD (n : Nat) : Fld := .mk (A.LANE_METER_CTRL n) 2 1
def LANE_METER_CTRL_WIN (n : Nat) : Fld := .mk (A.LANE_METER_CTRL n) 0 2
def LANE_METER_IN_PEAK (n : Nat) : Fld := .mk (A.LANE_METER_IN n) 16 16
def LANE_METER_IN_RMS (n : Nat) : Fld := .mk (A.LANE_METER_IN n) 0 16
def LANE_METER_OUT_PEAK (n : Nat) : Fld := .mk (A.LANE_METER_OUT n) 16 16
def LANE_METER_OUT_RMS (n : Nat) : Fld := .mk (A.LANE_METER_OUT n) 0 16
def LANE_METER_HOLD_PEAK_OUT (n : Nat) : Fld := .mk (A.LANE_METER_HOLD n) 16 16
def LANE_METER_HOLD_PEAK_IN (n : Nat) : Fld := .mk (A.LANE_METER_HOLD n) 0 16
def LANE_STATUS_DOMAIN (n : Nat) : Fld := .mk (A.LANE_STATUS n) 24 4
def LANE_STATUS_RATE (n : Nat) : Fld := .mk (A.LANE_STATUS n) 20 4
def LANE_STATUS_STOP_NOW (n : Nat) : Fld := .mk (A.LANE_STATUS n) 18 2
def LANE_STATUS_BYPASS (n : Nat) : Fld := .mk (A.LANE_STATUS n) 17 1
def LANE_STATUS_CHG_WAIT (n : Nat) : Fld := .mk (A.LANE_STATUS n) 16 1
def LANE_STATUS_RC_STATE (n : Nat) : Fld := .mk (A.LANE_STATUS n) 14 2
def LANE_STATUS_EVENT_RAMP (n : Nat) : Fld := .mk (A.LANE_STATUS n) 13 1
def LANE_STATUS_RC_MARGIN_NOW (n : Nat) : Fld := .mk (A.LANE_STATUS n) 8 5
def LANE_STATUS_STATE (n : Nat) : Fld := .mk (A.LANE_STATUS n) 0 3
def LANE_RATIO_RATIO (n : Nat) : Fld := .mk (A.LANE_RATIO n) 0 32
def LANE_RATE_MEAS_RATE (n : Nat) : Fld := .mk (A.LANE_RATE_MEAS n) 0 32
def LANE_FLAGS_POISON (n : Nat) : Fld := .mk (A.LANE_FLAGS n) 9 1
def LANE_FLAGS_RATIO_ERR (n : Nat) : Fld := .mk (A.LANE_FLAGS n) 8 1
def LANE_FLAGS_SRC_ERR (n : Nat) : Fld := .mk (A.LANE_FLAGS n) 7 1
def LANE_FLAGS_CAP_ERR (n : Nat) : Fld := .mk (A.LANE_FLAGS n) 6 1
def LANE_FLAGS_POOL_ERR (n : Nat) : Fld := .mk (A.LANE_FLAGS n) 5 1
def LANE_FLAGS_RELOCK (n : Nat) : Fld := .mk (A.LANE_FLAGS n) 4 1
def LANE_FLAGS_STOPPED (n : Nat) : Fld := .mk (A.LANE_FLAGS n) 3 1
def LANE_FLAGS_GLITCH (n : Nat) : Fld := .mk (A.LANE_FLAGS n) 2 1
def LANE_FLAGS_SLIP (n : Nat) : Fld := .mk (A.LANE_FLAGS n) 1 1
def LANE_FLAGS_OVER (n : Nat) : Fld := .mk (A.LANE_FLAGS n) 0 1
def LANE_COUNT_SLIPS (n : Nat) : Fld := .mk (A.LANE_COUNT n) 16 16
def LANE_COUNT_GLITCHES (n : Nat) : Fld := .mk (A.LANE_COUNT n) 0 16
def LANE_COUNT2_POISON_SAMPLES (n : Nat) : Fld := .mk (A.LANE_COUNT2 n) 16 16
def LANE_COUNT2_RELOCKS (n : Nat) : Fld := .mk (A.LANE_COUNT2 n) 0 16
def LANE_CNT_CLR_CLR (n : Nat) : Fld := .mk (A.LANE_CNT_CLR n) 0 1
def LANE_COST_STOP0 (n : Nat) : Fld := .mk (A.LANE_COST n) 16 16
def LANE_COST_NOW (n : Nat) : Fld := .mk (A.LANE_COST n) 0 16
end F

end Sys2Proof.Machine
end

