-- ==== Sys2Proof/Machine/RegTable.lean ====
section
/-! DEFINITION. The register tables of every page type, row by row as the block chapters of the spec give them (R47, R67, R74, R103 and on); the lookup over them is in RegLookup.lean. -/

namespace Sys2Proof.Machine

/-- Registers of a SYS page, in the order of the spec's table (R47, R67, R475). -/
def regsSYS : List RegDef := [
  -- SYS_STRAP
  .mk 0x044 1 4 0 64 0x0 [] false [
      .mk 4 1 .ro [],
      .mk 2 2 .ro [],
      .mk 0 2 .ro []],
  -- SYS_ID
  .mk 0x040 1 4 0 64 0xF4848A0 [] false [
      .mk 0 32 .ro []],
  -- SYS_IRQ_GROUP
  .mk 0x048 1 4 0 64 0x0 [] false [
      .mk 0 16 .ro []],
  -- SYS_IRQ_GROUP_EN
  .mk 0x04C 1 4 0 64 0x0 [] false [
      .mk 0 16 .rw []],
  -- SYS_IRQ_PAGES0
  .mk 0x050 1 4 0 64 0x0 [] false [
      .mk 0 32 .ro []],
  -- SYS_IRQ_PAGES1
  .mk 0x054 1 4 0 64 0x0 [] false [
      .mk 0 11 .ro []],
  -- SYS_IRQ_LANES0
  .mk 0x058 1 4 0 64 0x0 [] false [
      .mk 0 32 .ro []],
  -- SYS_IRQ_LANES1
  .mk 0x05C 1 4 0 64 0x0 [] false [
      .mk 0 16 .ro []],
  -- SYS_RESET_CAUSE
  .mk 0x060 1 4 0 64 0x0 [] false [
      .mk 4 1 .w1c [],
      .mk 3 1 .w1c [],
      .mk 2 1 .w1c [],
      .mk 1 1 .w1c [],
      .mk 0 1 .w1c []],
  -- SYS_SW_RESET
  .mk 0x064 1 4 0 64 0x0 [] false [
      .mk 16 16 .wo [],
      .mk 0 1 .w1s []],
  -- SYS_UIDk
  .mk 0x068 2 4 0 64 0x0 [] false [
      .mk 0 32 .ro []],
  -- SYS_SCRATCH
  .mk 0x070 1 4 0 64 0x0 [] false [
      .mk 0 32 .rw []]]

/-- Registers of a PWR page, in the order of the spec's table (R382). -/
def regsPWR : List RegDef := [
  -- PWR_CTRL
  .mk 0x040 1 4 0 64 0x0 [] false [
      .mk 5 1 .w1s [],
      .mk 4 1 .w1s [],
      .mk 0 3 .rw [(6, 7)]],
  -- PWR_STATE
  .mk 0x044 1 4 0 64 0x0 [] false [
      .mk 12 1 .w1c [],
      .mk 11 1 .ro [],
      .mk 8 3 .ro [],
      .mk 4 3 .ro [],
      .mk 0 3 .ro []],
  -- PWR_RET_MASK
  .mk 0x048 1 4 0 64 0xFFFFFFFF [] false [
      .mk 0 32 .rw []],
  -- PWR_WAKE_EN
  .mk 0x04C 1 4 0 64 0x1A [] false [
      .mk 4 1 .rw [],
      .mk 3 1 .rw [],
      .mk 2 1 .rw [],
      .mk 1 1 .rw []],
  -- PWR_WAKE_TIMER
  .mk 0x050 1 4 0 64 0x0 [] false [
      .mk 0 32 .rw []],
  -- PWR_WAKE_STATUS
  .mk 0x054 1 4 0 64 0x0 [] false [
      .mk 16 16 .ro [],
      .mk 15 1 .w1c [],
      .mk 12 3 .ro [],
      .mk 5 1 .ro [],
      .mk 0 5 .ro []],
  -- PWR_SOURCES_SEEN
  .mk 0x058 1 4 0 64 0x0 [] false [
      .mk 1 11 .w1c []],
  -- PWR_REFUSE_FIRST
  .mk 0x05C 1 4 0 64 0x0 [] false [
      .mk 16 8 .ro [],
      .mk 10 2 .ro [],
      .mk 4 3 .ro [],
      .mk 0 1 .ro []],
  -- PWR_REFUSE_LAST
  .mk 0x060 1 4 0 64 0x0 [] false [
      .mk 16 8 .ro [],
      .mk 10 2 .ro [],
      .mk 4 3 .ro [],
      .mk 0 1 .ro []],
  -- PWR_REFUSE_MAP
  .mk 0x064 1 4 0 64 0x0 [] false [
      .mk 0 30 .ro []],
  -- PWR_SILENT_MAP
  .mk 0x068 1 4 0 64 0x0 [] false [
      .mk 0 30 .ro []],
  -- PWR_COUNT
  .mk 0x06C 1 4 0 64 0x0 [] false [
      .mk 16 16 .ro [],
      .mk 0 16 .ro []],
  -- PWR_COUNT2
  .mk 0x070 1 4 0 64 0x0 [] false [
      .mk 16 16 .ro [],
      .mk 0 16 .ro []],
  -- PWR_ABORT_INFO
  .mk 0x074 1 4 0 64 0x0 [] false [
      .mk 8 3 .ro [],
      .mk 4 4 .ro [],
      .mk 0 3 .ro []],
  -- PWR_ACCT_CLR
  .mk 0x078 1 4 0 64 0x0 [] false [
      .mk 0 1 .w1s []],
  -- PWR_DOMAIN
  .mk 0x07C 1 4 0 64 0x0 [] false [
      .mk 0 13 .ro []],
  -- PWR_BANK_ON
  .mk 0x080 1 4 0 64 0xFFFFFFFF [] false [
      .mk 0 32 .ro []],
  -- PWR_SPARE_ON
  .mk 0x084 1 4 0 64 0x0 [] false [
      .mk 0 2 .ro []],
  -- PWR_QUIESCE_TIME
  .mk 0x088 1 4 0 64 0x0 [] false [
      .mk 16 16 .ro [],
      .mk 0 16 .ro []],
  -- PWR_RET_CRC_BANKS
  .mk 0x08C 1 4 0 64 0x0 [] false [
      .mk 0 32 .ro []]]

/-- Registers of a BLW page, in the order of the spec's table (R405, R406), part 1. -/
def regsBLW0 : List RegDef := [
  -- BLW_CTRL
  .mk 0x040 1 4 0 64 0x0 [] false [
      .mk 1 1 .w1s [],
      .mk 0 1 .w1s []],
  -- BLW_ALLOT
  .mk 0x044 1 4 0 64 0x9601F4 [] false [
      .mk 16 16 .rw [],
      .mk 0 16 .rw []],
  -- BLW_RES_CFG
  .mk 0x048 1 4 0 64 0x1F40000 [] false [
      .mk 16 16 .rw [],
      .mk 0 16 .rw []],
  -- BLW_RES
  .mk 0x04C 1 4 0 64 0x0 [] false [
      .mk 0 32 .ro []],
  -- BLW_DRAW
  .mk 0x050 1 4 0 64 0x0 [] false [
      .mk 16 16 .ro [],
      .mk 0 16 .ro []],
  -- BLW_PVDD
  .mk 0x054 1 4 0 64 0x0 [] false [
      .mk 16 16 .ro [],
      .mk 0 16 .ro []],
  -- BLW_BASE
  .mk 0x058 1 4 0 64 0x140050 [] false [
      .mk 16 8 .rw [(0, 0), (101, 255)],
      .mk 0 16 .rw []],
  -- BLW_SAG
  .mk 0x05C 1 4 0 64 0x1AE01D6 [] false [
      .mk 16 16 .rw [],
      .mk 0 16 .rw []],
  -- BLW_SAG_STATUS
  .mk 0x060 1 4 0 64 0x0 [] false [
      .mk 16 16 .ro [],
      .mk 3 1 .ro [],
      .mk 2 1 .ro [],
      .mk 1 1 .w1c [],
      .mk 0 1 .w1c []],
  -- BLW_THERM_CFG
  .mk 0x064 1 4 0 64 0x1E0A460A [] false [
      .mk 24 8 .rw [(0, 0)],
      .mk 16 8 .rw [(31, 255)],
      .mk 8 8 .rw [(86, 255)],
      .mk 0 8 .rw [(0, 0), (101, 255)]],
  -- BLW_TAU
  .mk 0x068 1 4 0 64 0x781414 [] false [
      .mk 16 16 .rw [(0, 0)],
      .mk 8 8 .rw [(0, 0)],
      .mk 0 8 .rw [(0, 0)]],
  -- BLW_OP
  .mk 0x06C 1 4 0 64 0x32000003 [] false [
      .mk 24 8 .rw [(0, 0)],
      .mk 12 2 .ro [],
      .mk 10 2 .ro [],
      .mk 8 2 .ro [],
      .mk 0 2 .rw []],
  -- BLW_OP_COST
  .mk 0x070 1 4 0 64 0x46291408 [] false [
      .mk 0 8 .rw [],
      .mk 8 8 .rw [],
      .mk 16 8 .rw [],
      .mk 24 8 .rw []],
  -- BLW_STATUS
  .mk 0x074 1 4 0 64 0x6 [] false [
      .mk 11 1 .w1c [],
      .mk 10 1 .w1c [],
      .mk 9 1 .w1c [],
      .mk 8 1 .ro [],
      .mk 7 1 .ro [],
      .mk 6 1 .ro [],
      .mk 5 1 .ro [],
      .mk 4 1 .ro [],
      .mk 3 1 .ro [],
      .mk 2 1 .ro [],
      .mk 1 1 .ro [],
      .mk 0 1 .ro []],
  -- BLW_REJECT
  .mk 0x078 1 4 0 64 0x0 [] false [
      .mk 12 4 .ro [],
      .mk 8 3 .ro [],
      .mk 0 6 .ro []],
  -- BLW_TICK
  .mk 0x07C 1 4 0 64 0x0 [] false [
      .mk 0 32 .ro []],
  -- BLW_COUNT
  .mk 0x080 1 4 0 64 0x0 [] false [
      .mk 16 16 .ro [],
      .mk 0 16 .ro []],
  -- BLW_MNT
  .mk 0x084 1 4 0 64 0x30 [] false [
      .mk 24 8 .ro [],
      .mk 16 8 .ro [],
      .mk 8 8 .ro [],
      .mk 4 4 .rw [],
      .mk 0 1 .ro []],
  -- BLW_GRANT0
  .mk 0x088 1 4 0 64 0x0 [] false [
      .mk 0 2 .ro [],
      .mk 2 2 .ro [],
      .mk 4 2 .ro [],
      .mk 6 2 .ro [],
      .mk 8 2 .ro [],
      .mk 10 2 .ro [],
      .mk 12 2 .ro [],
      .mk 14 2 .ro [],
      .mk 16 2 .ro [],
      .mk 18 2 .ro [],
      .mk 20 2 .ro [],
      .mk 22 2 .ro [],
      .mk 24 2 .ro [],
      .mk 26 2 .ro [],
      .mk 28 2 .ro [],
      .mk 30 2 .ro []],
  -- BLW_GRANT1
  .mk 0x08C 1 4 0 64 0x0 [] false [
      .mk 0 2 .ro [],
      .mk 2 2 .ro [],
      .mk 4 2 .ro [],
      .mk 6 2 .ro [],
      .mk 8 2 .ro [],
      .mk 10 2 .ro [],
      .mk 12 2 .ro [],
      .mk 14 2 .ro [],
      .mk 16 2 .ro [],
      .mk 18 2 .ro [],
      .mk 20 2 .ro [],
      .mk 22 2 .ro [],
      .mk 24 2 .ro [],
      .mk 26 2 .ro [],
      .mk 28 2 .ro [],
      .mk 30 2 .ro []]]

/-- Registers of a BLW page, in the order of the spec's table (R405, R406), part 2. -/
def regsBLW1 : List RegDef := [
  -- BLW_ZONEz_CFG
  .mk 0x090 6 4 0 64 0x0 [0x73643C14, 0x73643C14, 0x73643C14, 0x73643C14, 0x55501400, 0x55501400] false [
      .mk 24 8 .rw [(0, 39), (126, 255)],
      .mk 16 8 .rw [],
      .mk 8 8 .rw [],
      .mk 0 8 .rw []],
  -- BLW_ZONEz_STATUS
  .mk 0x0A8 6 4 0 64 0x0 [] false [
      .mk 16 16 .ro [],
      .mk 15 1 .ro [],
      .mk 0 15 .ro []],
  -- BLW_TASKt_CFG
  .mk 0x0C0 1 8 0 64 0x5100FFFF [] false [
      .mk 31 1 .ro [],
      .mk 29 2 .rw [(1, 1), (3, 3)],
      .mk 25 4 .rw [],
      .mk 24 1 .ro [],
      .mk 0 4 .rw [],
      .mk 4 4 .rw [],
      .mk 8 4 .rw [],
      .mk 12 4 .rw [],
      .mk 16 4 .rw [],
      .mk 20 4 .rw []],
  -- BLW_TASKt_CFG
  .mk 0x0C8 1 8 0 64 0x3000FFFF [] false [
      .mk 31 1 .ro [],
      .mk 29 2 .ro [],
      .mk 25 4 .rw [],
      .mk 24 1 .ro [],
      .mk 0 4 .rw [],
      .mk 4 4 .rw [],
      .mk 8 4 .rw [],
      .mk 12 4 .rw [],
      .mk 16 4 .rw [],
      .mk 20 4 .rw []],
  -- BLW_TASKt_CFG
  .mk 0x0D0 12 8 0 64 0x5000FFFF [] false [
      .mk 31 1 .ro [],
      .mk 29 2 .rw [(1, 1), (3, 3)],
      .mk 25 4 .rw [],
      .mk 24 1 .ro [],
      .mk 0 4 .rw [],
      .mk 4 4 .rw [],
      .mk 8 4 .rw [],
      .mk 12 4 .rw [],
      .mk 16 4 .rw [],
      .mk 20 4 .rw []],
  -- BLW_TASKt_CFG
  .mk 0x130 5 8 0 64 0x5000FFFF [0x5000FFFF, 0x5000FFFF, 0x5000FFFF, 0x5000FFFF, 0x7000FFFF] false [
      .mk 31 1 .ro [],
      .mk 29 2 .ro [],
      .mk 25 4 .rw [],
      .mk 24 1 .ro [],
      .mk 0 4 .rw [],
      .mk 4 4 .rw [],
      .mk 8 4 .rw [],
      .mk 12 4 .rw [],
      .mk 16 4 .rw [],
      .mk 20 4 .rw []],
  -- BLW_TASKt_CFG
  .mk 0x1C0 32 8 0 64 0x5000FFFF [] false [
      .mk 31 1 .rw [],
      .mk 29 2 .rw [(1, 1), (3, 3)],
      .mk 25 4 .rw [],
      .mk 24 1 .rw [],
      .mk 0 4 .rw [],
      .mk 4 4 .rw [],
      .mk 8 4 .rw [],
      .mk 12 4 .rw [],
      .mk 16 4 .rw [],
      .mk 20 4 .rw []],
  -- BLW_TASKt_COST
  .mk 0x0C4 14 8 0 64 0x0 [] false [
      .mk 0 8 .ro [],
      .mk 8 8 .ro [],
      .mk 16 8 .ro [],
      .mk 24 8 .ro []],
  -- BLW_TASKt_COST
  .mk 0x154 1 8 0 64 0x0 [] false [
      .mk 0 8 .ro [],
      .mk 8 8 .ro [],
      .mk 16 8 .ro [],
      .mk 24 8 .ro []],
  -- BLW_TASKt_COST
  .mk 0x1C4 32 8 0 64 0x0 [] false [
      .mk 0 8 .rw [],
      .mk 8 8 .rw [],
      .mk 16 8 .rw [],
      .mk 24 8 .rw []],
  -- BLW_TASKt_COST
  .mk 0x134 4 8 0 64 0x4 [] false [
      .mk 0 4 .rw [(0, 0)]]]

/-- Every register of a BLW page. -/
def regsBLW : List RegDef := regsBLW0 ++ regsBLW1

/-- Registers of a CLK page, in the order of the spec's table (R284), part 1. -/
def regsCLK0 : List RegDef := [
  -- CLK_XTAL_STATUS
  .mk 0x040 1 4 0 64 0x1 [] false [
      .mk 16 16 .ro [],
      .mk 2 1 .ro [],
      .mk 1 1 .w1c [],
      .mk 0 1 .ro []],
  -- CLK_PLL_CTRL
  .mk 0x044 1 4 0 64 0x8 [] false [
      .mk 3 1 .rw [],
      .mk 1 1 .rw [],
      .mk 0 1 .rw []],
  -- CLK_ROLE
  .mk 0x048 1 4 0 64 0x100210 [] false [
      .mk 20 2 .ro [],
      .mk 16 2 .ro [],
      .mk 8 3 .ro [],
      .mk 4 3 .ro [],
      .mk 0 3 .ro []],
  -- CLK_PLLx_STATUS
  .mk 0x04C 3 4 0 64 0x0 [] false [
      .mk 16 16 .ro [],
      .mk 2 1 .w1c [],
      .mk 0 2 .ro []],
  -- CLK_PLLx_CFG
  .mk 0x058 3 4 0 64 0x0 [] false [
      .mk 20 10 .ro [],
      .mk 10 10 .ro [],
      .mk 0 4 .ro []],
  -- CLK_PLLx_COUNT
  .mk 0x064 3 4 0 64 0x0 [] false [
      .mk 16 16 .ro [],
      .mk 0 16 .ro []],
  -- CLK_ENGINE
  .mk 0x070 1 4 0 64 0x0 [] false [
      .mk 18 1 .ro [],
      .mk 16 2 .ro [],
      .mk 8 3 .ro [],
      .mk 0 3 .rw [(6, 7)]],
  -- CLK_ENGINE_FREQ
  .mk 0x074 1 4 0 64 0xC000 [] false [
      .mk 0 32 .ro []],
  -- CLK_TAKEOVER
  .mk 0x078 1 4 0 64 0x0 [] false [
      .mk 9 1 .w1s [],
      .mk 8 1 .w1s [],
      .mk 0 1 .rw []],
  -- CLK_TAKEOVER_STATUS
  .mk 0x07C 1 4 0 64 0x0 [] false [
      .mk 16 4 .ro [],
      .mk 15 1 .w1c [],
      .mk 12 3 .ro [],
      .mk 8 2 .ro [],
      .mk 6 2 .ro [],
      .mk 3 1 .ro [],
      .mk 2 1 .ro [],
      .mk 0 1 .ro []],
  -- CLK_FLL_STATUS
  .mk 0x080 1 4 0 64 0x0 [] false [
      .mk 1 1 .w1c [],
      .mk 0 1 .ro []],
  -- CLK_MAINS_CTRL
  .mk 0x084 1 4 0 64 0x1B [] false [
      .mk 3 3 .rw [(0, 2)],
      .mk 2 1 .rw [],
      .mk 0 2 .rw []],
  -- CLK_MAINS_STATUS
  .mk 0x088 1 4 0 64 0x0 [] false [
      .mk 17 2 .ro [],
      .mk 16 1 .ro [],
      .mk 0 16 .ro []],
  -- CLK_MAINS_PERIOD
  .mk 0x08C 1 4 0 64 0x0 [] false [
      .mk 0 20 .ro []],
  -- CLK_MAINS_COUNT
  .mk 0x090 1 4 0 64 0x0 [] false [
      .mk 16 16 .ro [],
      .mk 0 16 .ro []],
  -- CLK_TRKt_STATUS
  .mk 0x0C0 10 16 0 64 0x0 [] false [
      .mk 11 1 .w1c [],
      .mk 10 1 .w1c [],
      .mk 9 1 .w1c [],
      .mk 8 1 .w1c [],
      .mk 4 4 .ro [],
      .mk 3 1 .ro [],
      .mk 2 1 .ro [],
      .mk 0 2 .ro []],
  -- CLK_TRKt_RATE
  .mk 0x0C4 10 16 0 64 0x0 [] false [
      .mk 0 32 .ro []],
  -- CLK_TRKt_COUNT
  .mk 0x0C8 10 16 0 64 0x0 [] false [
      .mk 16 16 .ro [],
      .mk 0 16 .ro []],
  -- CLK_TRKt_COUNT2
  .mk 0x0CC 10 16 0 64 0x0 [] false [
      .mk 16 16 .ro [],
      .mk 0 16 .ro []],
  -- CLK_TRK_CLR
  .mk 0x160 1 4 0 64 0x0 [] false [
      .mk 10 1 .w1s [],
      .mk 0 10 .w1s []]]

/-- Registers of a CLK page, in the order of the spec's table (R284), part 2. -/
def regsCLK1 : List RegDef := [
  -- CLK_FDIVd
  .mk 0x180 9 4 0 64 0x0 [] false [
      .mk 31 1 .ro [],
      .mk 30 1 .ro [],
      .mk 29 1 .ro [],
      .mk 16 11 .ro [],
      .mk 0 15 .ro []],
  -- CLK_FDIV_STEER
  .mk 0x1A4 1 4 0 64 0x0 [] false [
      .mk 0 32 .ro []]]

/-- Every register of a CLK page. -/
def regsCLK : List RegDef := regsCLK0 ++ regsCLK1

/-- Registers of a MEM page, in the order of the spec's table (R425). -/
def regsMEM : List RegDef := [
  -- MEM_CTRL
  .mk 0x040 1 4 0 64 0x1 [] false [
      .mk 2 1 .w1s [],
      .mk 1 1 .w1s [],
      .mk 0 1 .rw []],
  -- MEM_ECC_CFG
  .mk 0x044 1 4 0 64 0x3FFFF [] false [
      .mk 16 4 .rw [(0, 0), (1, 1)],
      .mk 0 16 .rw [(0, 14)]],
  -- MEM_WIPE_STATUS
  .mk 0x048 1 4 0 64 0x2 [] false [
      .mk 16 16 .ro [],
      .mk 5 1 .ro [],
      .mk 4 1 .ro [],
      .mk 1 3 .ro [],
      .mk 0 1 .ro []],
  -- MEM_WIPE_BANKS
  .mk 0x04C 1 4 0 64 0x0 [] false [
      .mk 0 32 .ro []],
  -- MEM_WIPE_REQ
  .mk 0x050 1 4 0 64 0x0 [] false [
      .mk 26 6 .w1s []],
  -- MEM_CORR_COUNT
  .mk 0x054 1 4 0 64 0x0 [] false [
      .mk 16 16 .ro [],
      .mk 0 16 .ro []],
  -- MEM_UNCORR_COUNT
  .mk 0x058 1 4 0 64 0x0 [] false [
      .mk 16 16 .ro [],
      .mk 0 16 .ro []],
  -- MEM_LAST_CORR
  .mk 0x05C 1 4 0 64 0x0 [] false [
      .mk 31 1 .ro [],
      .mk 28 3 .ro [],
      .mk 20 7 .ro [],
      .mk 0 20 .ro []],
  -- MEM_LAST_UNCORR
  .mk 0x060 1 4 0 64 0x0 [] false [
      .mk 31 1 .ro [],
      .mk 28 3 .ro [],
      .mk 20 7 .ro [],
      .mk 0 20 .ro []],
  -- MEM_TRACK_STATUS
  .mk 0x064 1 4 0 64 0x0 [] false [
      .mk 16 16 .ro [],
      .mk 0 6 .ro []],
  -- MEM_TRACK_SEL
  .mk 0x068 1 4 0 64 0x0 [] false [
      .mk 0 5 .rw []],
  -- MEM_TRACK_ENTRY
  .mk 0x06C 1 4 0 64 0x0 [] false [
      .mk 31 1 .ro [],
      .mk 27 4 .ro [],
      .mk 24 3 .ro [],
      .mk 0 20 .ro []],
  -- MEM_SPARE_STATUS
  .mk 0x070 1 4 0 64 0x0 [] false [
      .mk 14 1 .ro [],
      .mk 8 6 .ro [],
      .mk 6 1 .ro [],
      .mk 0 6 .ro []],
  -- MEM_JOB
  .mk 0x074 1 4 0 64 0x0 [] false [
      .mk 18 14 .ro [],
      .mk 16 2 .ro [],
      .mk 8 6 .ro [],
      .mk 0 6 .ro []],
  -- MEM_RET_LOST
  .mk 0x078 1 4 0 64 0x0 [] false [
      .mk 0 32 .w1c []],
  -- MEM_RET_STATUS
  .mk 0x07C 1 4 0 64 0x0 [] false [
      .mk 16 16 .ro [],
      .mk 0 16 .ro []],
  -- MEM_SKIM_LAP
  .mk 0x080 1 4 0 64 0x0 [] false [
      .mk 0 32 .ro []],
  -- MEM_SKIM_POS
  .mk 0x084 1 4 0 64 0x0 [] false [
      .mk 0 14 .ro []],
  -- MEM_BANKk_STATUS
  .mk 0x088 34 4 0 64 0x0 [] false [
      .mk 12 20 .ro [],
      .mk 8 4 .ro [],
      .mk 5 1 .ro [],
      .mk 4 1 .ro [],
      .mk 3 1 .ro [],
      .mk 2 1 .ro [],
      .mk 1 1 .ro [],
      .mk 0 1 .ro []],
  -- MEM_RET_CRCk
  .mk 0x110 32 4 0 64 0x0 [] false [
      .mk 0 32 .ro []]]

/-- Registers of a DBG page, in the order of the spec's table (R74, R476). -/
def regsDBG : List RegDef := [
  -- DBG_VIOL_FIRST_ADDR
  .mk 0x040 1 4 0 64 0x0 [] false [
      .mk 0 18 .ro []],
  -- DBG_VIOL_FIRST_INFO
  .mk 0x044 1 4 0 64 0x0 [] false [
      .mk 16 16 .ro [],
      .mk 9 1 .ro [],
      .mk 8 1 .ro [],
      .mk 7 1 .ro [],
      .mk 4 3 .ro [],
      .mk 0 4 .ro []],
  -- DBG_VIOL_LAST_ADDR
  .mk 0x048 1 4 0 64 0x0 [] false [
      .mk 0 18 .ro []],
  -- DBG_VIOL_LAST_INFO
  .mk 0x04C 1 4 0 64 0x0 [] false [
      .mk 16 16 .ro [],
      .mk 9 1 .ro [],
      .mk 8 1 .ro [],
      .mk 7 1 .ro [],
      .mk 4 3 .ro [],
      .mk 0 4 .ro []],
  -- DBG_VIOL_COUNT
  .mk 0x050 1 4 0 64 0x0 [] false [
      .mk 0 16 .ro []],
  -- DBG_VIOL_CTRL
  .mk 0x054 1 4 0 64 0x0 [] false [
      .mk 0 1 .w1s []],
  -- DBG_FREEZE
  .mk 0x058 1 4 0 64 0x0 [] false [
      .mk 4 1 .rw [],
      .mk 3 1 .rw [],
      .mk 1 1 .w1s [],
      .mk 0 1 .w1s []],
  -- DBG_FREEZE_STATUS
  .mk 0x05C 1 4 0 64 0x0 [] false [
      .mk 7 1 .w1c [],
      .mk 6 1 .w1c [],
      .mk 4 2 .ro [],
      .mk 3 1 .ro [],
      .mk 0 3 .ro []],
  -- DBG_FREEZE_COUNT
  .mk 0x060 1 4 0 64 0x0 [] false [
      .mk 16 16 .ro [],
      .mk 0 16 .ro []],
  -- DBG_FREEZE_FRAME
  .mk 0x064 1 4 0 64 0x0 [] false [
      .mk 0 32 .ro []],
  -- DBG_FREEZE_TIME
  .mk 0x068 1 4 0 64 0x0 [] false [
      .mk 0 32 .ro []],
  -- DBG_SNAP_SEL
  .mk 0x06C 1 4 0 64 0x0 [] false [
      .mk 8 1 .rw [],
      .mk 0 6 .rw [(34, 63)]],
  -- DBG_CNT_CLR
  .mk 0x070 1 4 0 64 0x0 [] false [
      .mk 0 1 .w1s []]]

/-- Registers of a MNT page, in the order of the spec's table (R478). -/
def regsMNT : List RegDef := [
  -- MNT_SCHED
  .mk 0x040 1 4 0 64 0xA80006 [] false [
      .mk 16 16 .rw [(0, 0)],
      .mk 2 1 .rw [],
      .mk 1 1 .rw [],
      .mk 0 1 .rw []],
  -- MNT_SCHED_STATUS
  .mk 0x044 1 4 0 64 0x0 [] false [
      .mk 16 16 .ro [],
      .mk 0 6 .ro []],
  -- MNT_INV
  .mk 0x048 1 4 0 64 0x0 [] false [
      .mk 28 4 .ro [],
      .mk 24 4 .ro [],
      .mk 20 4 .ro [],
      .mk 16 4 .ro [],
      .mk 14 2 .ro [],
      .mk 13 1 .ro [],
      .mk 12 1 .ro [],
      .mk 10 2 .ro [],
      .mk 0 9 .ro []],
  -- MNT_LOG
  .mk 0x04C 1 4 0 64 0x0 [] false [
      .mk 16 9 .ro [],
      .mk 8 8 .ro [],
      .mk 0 1 .ro []],
  -- MNT_POST
  .mk 0x050 1 4 0 64 0x20 [] false [
      .mk 14 1 .w1s [],
      .mk 8 6 .rw [],
      .mk 4 4 .rw [(0, 1), (4, 4), (6, 8), (10, 10), (12, 15)]],
  -- MNT_JOB_SEL
  .mk 0x054 1 4 0 64 0x0 [] false [
      .mk 0 4 .rw []],
  -- MNT_JOB
  .mk 0x058 1 4 0 64 0x0 [] false [
      .mk 24 8 .ro [],
      .mk 20 4 .ro [],
      .mk 14 6 .ro [],
      .mk 11 3 .ro [],
      .mk 10 1 .ro [],
      .mk 0 8 .ro []],
  -- MNT_JOB2
  .mk 0x05C 1 4 0 64 0x0 [] false [
      .mk 16 16 .ro [],
      .mk 4 12 .ro [],
      .mk 0 4 .ro []],
  -- MNT_COUNT
  .mk 0x060 1 4 0 64 0x0 [] false [
      .mk 16 16 .ro [],
      .mk 0 16 .ro []],
  -- MNT_COUNT2
  .mk 0x064 1 4 0 64 0x0 [] false [
      .mk 16 16 .ro [],
      .mk 0 16 .ro []],
  -- MNT_AGE_CFG
  .mk 0x068 1 4 0 64 0x1E3C [] false [
      .mk 8 8 .rw [(0, 0)],
      .mk 0 8 .rw [(0, 0)]],
  -- MNT_AGEi
  .mk 0x06C 14 4 0 64 0x0 [] false [
      .mk 16 1 .ro [],
      .mk 0 16 .ro []],
  -- MNT_MAC
  .mk 0x0A4 1 4 0 64 0x0 [] false [
      .mk 16 16 .ro [],
      .mk 4 2 .ro [],
      .mk 0 4 .ro []],
  -- MNT_CNT_CLR
  .mk 0x0A8 1 4 0 64 0x0 [] false [
      .mk 0 1 .w1s []]]

/-- Registers of a LCY page, in the order of the spec's table (R477). -/
def regsLCY : List RegDef := [
  -- LCY_STATE
  .mk 0x040 1 4 0 64 0x0 [] false [
      .mk 8 3 .ro [],
      .mk 3 1 .ro [],
      .mk 2 1 .ro [],
      .mk 0 2 .ro []],
  -- LCY_CTRL
  .mk 0x044 1 4 0 64 0x0 [] false [
      .mk 16 16 .wo [],
      .mk 2 2 .rw [],
      .mk 0 1 .w1s []],
  -- LCY_CODEk
  .mk 0x048 4 4 0 64 0x0 [] false [
      .mk 0 32 .wo []],
  -- LCY_CHECK
  .mk 0x058 1 4 0 64 0x0 [] false [
      .mk 1 1 .w1s [],
      .mk 0 1 .w1s []],
  -- LCY_STATUS
  .mk 0x05C 1 4 0 64 0x0 [] false [
      .mk 20 4 .ro [],
      .mk 16 4 .ro [],
      .mk 8 8 .ro [],
      .mk 2 1 .ro [],
      .mk 1 1 .ro [],
      .mk 0 1 .ro []],
  -- LCY_OTP_ADDR
  .mk 0x060 1 4 0 64 0x0 [] false [
      .mk 2 11 .rw []],
  -- LCY_OTP_DATA
  .mk 0x064 1 4 0 64 0x0 [] false [
      .mk 0 32 .rw []],
  -- LCY_OTP_CTRL
  .mk 0x068 1 4 0 64 0x0 [] false [
      .mk 1 1 .w1s [],
      .mk 0 1 .w1s []],
  -- LCY_OTP_STATUS
  .mk 0x06C 1 4 0 64 0x0 [] false [
      .mk 4 4 .ro [],
      .mk 0 1 .ro []]]

/-- Registers of a SMB page, in the order of the spec's table (R449). -/
def regsSMB : List RegDef := [
  -- SMB_CFG
  .mk 0x040 1 4 0 64 0x0 [] false [
      .mk 0 1 .rw []],
  -- SMB_STATE
  .mk 0x044 1 4 0 64 0x0 [] false [
      .mk 8 1 .ro [],
      .mk 0 7 .ro []],
  -- SMB_LAST
  .mk 0x048 1 4 0 64 0x0 [] false [
      .mk 16 8 .ro [],
      .mk 8 6 .ro [],
      .mk 0 8 .ro []],
  -- SMB_FLAGS
  .mk 0x04C 1 4 0 64 0x0 [] false [
      .mk 9 1 .w1c [],
      .mk 8 1 .w1c [],
      .mk 7 1 .w1c [],
      .mk 6 1 .w1c [],
      .mk 5 1 .w1c [],
      .mk 4 1 .w1c [],
      .mk 3 1 .w1c [],
      .mk 2 1 .w1c [],
      .mk 1 1 .w1c [],
      .mk 0 1 .w1c []],
  -- SMB_COUNT
  .mk 0x050 1 4 0 64 0x0 [] false [
      .mk 16 16 .ro [],
      .mk 0 16 .ro []],
  -- SMB_COUNT2
  .mk 0x054 1 4 0 64 0x0 [] false [
      .mk 16 16 .ro [],
      .mk 0 16 .ro []],
  -- SMB_HN_CFG
  .mk 0x058 1 4 0 64 0x3050A14 [] false [
      .mk 24 4 .rw [(0, 0)],
      .mk 16 8 .rw [(0, 0)],
      .mk 8 8 .rw [],
      .mk 4 1 .rw [],
      .mk 2 2 .rw [(3, 3)],
      .mk 0 1 .rw []],
  -- SMB_HN_STATUS
  .mk 0x05C 1 4 0 64 0x0 [] false [
      .mk 16 16 .ro [],
      .mk 4 4 .ro [],
      .mk 1 1 .ro [],
      .mk 0 1 .ro []],
  -- SMB_HN_COUNT
  .mk 0x060 1 4 0 64 0x0 [] false [
      .mk 16 16 .ro [],
      .mk 0 16 .ro []],
  -- SMB_HN_COUNT2
  .mk 0x064 1 4 0 64 0x0 [] false [
      .mk 16 16 .ro [],
      .mk 0 16 .ro []],
  -- SMB_REC_SMB
  .mk 0x068 1 4 0 64 0x0 [] false [
      .mk 16 16 .ro [],
      .mk 8 4 .ro [],
      .mk 2 2 .ro [],
      .mk 1 1 .ro [],
      .mk 0 1 .ro []],
  -- SMB_REC_PMB
  .mk 0x06C 1 4 0 64 0x0 [] false [
      .mk 16 16 .ro [],
      .mk 8 4 .ro [],
      .mk 2 2 .ro [],
      .mk 1 1 .ro [],
      .mk 0 1 .ro []],
  -- SMB_REC_CTRL
  .mk 0x070 1 4 0 64 0x0 [] false [
      .mk 1 1 .w1s [],
      .mk 0 1 .w1s []],
  -- SMB_CNT_CLR
  .mk 0x074 1 4 0 64 0x0 [] false [
      .mk 0 1 .w1s []]]

/-- Registers of a PMB page, in the order of the spec's table (R384). -/
def regsPMB : List RegDef := [
  -- PMB_CFG
  .mk 0x040 1 4 0 64 0x100 [] false [
      .mk 12 3 .rw [(4, 7)],
      .mk 11 1 .rw [],
      .mk 10 1 .rw [],
      .mk 8 2 .rw [(3, 3)],
      .mk 7 1 .rw [],
      .mk 0 7 .rw []],
  -- PMB_TIMING
  .mk 0x044 1 4 0 64 0x7D000C8 [] false [
      .mk 16 16 .rw [(0, 499), (20001, 65535)],
      .mk 0 16 .rw []],
  -- PMB_VOUT
  .mk 0x048 1 4 0 64 0x0 [] false [
      .mk 16 16 .ro [],
      .mk 0 16 .ro []],
  -- PMB_MODE
  .mk 0x04C 1 4 0 64 0x0 [] false [
      .mk 9 1 .ro [],
      .mk 8 1 .ro [],
      .mk 0 8 .ro []],
  -- PMB_READ
  .mk 0x050 1 4 0 64 0x0 [] false [
      .mk 0 16 .ro []],
  -- PMB_STATUS_WORD
  .mk 0x054 1 4 0 64 0x0 [] false [
      .mk 0 16 .ro []],
  -- PMB_STATUS
  .mk 0x058 1 4 0 64 0x0 [] false [
      .mk 8 3 .ro [],
      .mk 6 1 .w1c [],
      .mk 5 1 .w1c [],
      .mk 4 1 .ro [],
      .mk 3 1 .w1c [],
      .mk 2 1 .w1c [],
      .mk 1 1 .ro [],
      .mk 0 1 .ro []],
  -- PMB_COUNT
  .mk 0x05C 1 4 0 64 0x0 [] false [
      .mk 16 16 .ro [],
      .mk 0 16 .ro []],
  -- PMB_CMD
  .mk 0x060 1 4 0 64 0x0 [] false [
      .mk 1 1 .w1s [],
      .mk 0 1 .w1s []],
  -- PMB_CNT_CLR
  .mk 0x064 1 4 0 64 0x0 [] false [
      .mk 0 1 .w1s []]]

/-- Registers of a USB page, in the order of the spec's table (R309), part 1. -/
def regsUSB0 : List RegDef := [
  -- USB_CFG
  .mk 0x040 1 4 0 64 0x70 [] false [
      .mk 6 1 .rw [],
      .mk 5 1 .rw [],
      .mk 4 1 .rw [],
      .mk 3 1 .rw [],
      .mk 1 1 .rw [],
      .mk 0 1 .rw []],
  -- USB_ID
  .mk 0x044 1 4 0 64 0x0 [] false [
      .mk 16 16 .rw [],
      .mk 0 16 .rw []],
  -- USB_DEV
  .mk 0x048 1 4 0 64 0xA0 [] false [
      .mk 0 16 .rw []],
  -- USB_RATES
  .mk 0x04C 1 4 0 64 0x560 [] false [
      .mk 0 11 .rw []],
  -- USB_ASi_CFG
  .mk 0x050 4 4 0 64 0x2 [0x3010002, 0x3010002, 0x2010002, 0x2010002] false [
      .mk 16 16 .rw [],
      .mk 0 5 .rw [(0, 0), (17, 31)]],
  -- USB_STATE
  .mk 0x060 1 4 0 64 0x0 [] false [
      .mk 16 7 .ro [],
      .mk 8 1 .ro [],
      .mk 7 1 .ro [],
      .mk 6 1 .ro [],
      .mk 5 1 .ro [],
      .mk 4 1 .ro [],
      .mk 3 1 .ro [],
      .mk 2 1 .ro [],
      .mk 1 1 .ro []],
  -- USB_ALT
  .mk 0x064 1 4 0 64 0x0 [] false [
      .mk 0 2 .ro [],
      .mk 8 2 .ro [],
      .mk 16 2 .ro [],
      .mk 24 2 .ro []],
  -- USB_CLOCK
  .mk 0x068 1 4 0 64 0x6 [] false [
      .mk 16 16 .ro [],
      .mk 4 1 .ro [],
      .mk 0 4 .ro []],
  -- USB_FBj
  .mk 0x06C 2 4 0 64 0x0 [] false [
      .mk 0 32 .ro []],
  -- USB_ASi_STATUS
  .mk 0x074 4 4 0 64 0x0 [] false [
      .mk 2 1 .w1c [],
      .mk 1 1 .ro [],
      .mk 0 1 .ro []],
  -- USB_ASi_COUNT
  .mk 0x084 4 4 0 64 0x0 [] false [
      .mk 16 16 .ro [],
      .mk 0 16 .ro []],
  -- USB_FU_CTRL
  .mk 0x094 1 4 0 64 0xF [] false [
      .mk 0 1 .rw [],
      .mk 1 1 .rw [],
      .mk 2 1 .rw [],
      .mk 3 1 .rw []],
  -- USB_FUi
  .mk 0x098 4 4 0 64 0x0 [] false [
      .mk 16 1 .ro [],
      .mk 0 16 .ro []],
  -- USB_HID_MAP
  .mk 0x0A8 1 4 0 64 0x3251 [] false [
      .mk 0 4 .rw [(9, 15)],
      .mk 4 4 .rw [(9, 15)],
      .mk 8 4 .rw [(9, 15)],
      .mk 12 4 .rw [(9, 15)]],
  -- USB_HID_INJECT
  .mk 0x0AC 1 4 0 64 0x0 [] false [
      .mk 0 9 .rw []],
  -- USB_HID_STATUS
  .mk 0x0B0 1 4 0 64 0x0 [] false [
      .mk 19 1 .w1c [],
      .mk 16 3 .ro [],
      .mk 0 9 .ro []],
  -- USB_WAKE
  .mk 0x0B4 1 4 0 64 0x16 [] false [
      .mk 6 1 .w1c [],
      .mk 5 1 .w1s [],
      .mk 4 1 .rw [],
      .mk 3 1 .rw [],
      .mk 2 1 .rw [],
      .mk 1 1 .rw []],
  -- USB_HIST_CTRL
  .mk 0x0B8 1 4 0 64 0x4 [] false [
      .mk 3 1 .rw [],
      .mk 2 1 .rw [],
      .mk 1 1 .w1s [],
      .mk 0 1 .w1s []],
  -- USB_HIST_STATUS
  .mk 0x0BC 1 4 0 64 0x0 [] false [
      .mk 16 16 .ro [],
      .mk 2 1 .ro [],
      .mk 1 1 .ro [],
      .mk 0 1 .ro []],
  -- USB_HIST_COUNTER
  .mk 0x0C0 1 4 0 64 0x0 [] false [
      .mk 0 32 .ro []]]

/-- Registers of a USB page, in the order of the spec's table (R309), part 2. -/
def regsUSB1 : List RegDef := [
  -- USB_VREQ_STATUS
  .mk 0x0C4 1 4 0 64 0x0 [] false [
      .mk 16 8 .ro [],
      .mk 0 16 .ro []],
  -- USB_FLAGS
  .mk 0x0C8 1 4 0 64 0x0 [] false [
      .mk 3 1 .w1c [],
      .mk 2 1 .w1c [],
      .mk 1 1 .w1c [],
      .mk 0 1 .w1c []],
  -- USB_COUNT
  .mk 0x0CC 1 4 0 64 0x0 [] false [
      .mk 16 16 .ro [],
      .mk 0 16 .ro []],
  -- USB_CNT_CLR
  .mk 0x0D0 1 4 0 64 0x0 [] false [
      .mk 0 1 .w1s []],
  -- USB_LPM
  .mk 0x0D4 1 4 0 64 0x0 [] false [
      .mk 16 4 .ro [],
      .mk 0 16 .ro []],
  -- USB_STR_MFRk
  .mk 0x100 16 4 0 64 0x0 [] false [
      .mk 0 8 .rw [],
      .mk 8 8 .rw [],
      .mk 16 8 .rw [],
      .mk 24 8 .rw []],
  -- USB_STR_PRODk
  .mk 0x140 16 4 0 64 0x0 [] false [
      .mk 0 8 .rw [],
      .mk 8 8 .rw [],
      .mk 16 8 .rw [],
      .mk 24 8 .rw []],
  -- USB_STR_SERk
  .mk 0x180 8 4 0 64 0x0 [] false [
      .mk 0 8 .rw [],
      .mk 8 8 .rw [],
      .mk 16 8 .rw [],
      .mk 24 8 .rw []]]

/-- Every register of a USB page. -/
def regsUSB : List RegDef := regsUSB0 ++ regsUSB1

/-- Registers of a SNS page, in the order of the spec's table (R360), part 1. -/
def regsSNS0 : List RegDef := [
  -- SNS_CFG
  .mk 0x040 1 4 0 64 0x2 [] false [
      .mk 2 1 .rw [],
      .mk 1 1 .rw []],
  -- SNS_SEQ_CTRL
  .mk 0x044 1 4 0 64 0x0 [] false [
      .mk 12 4 .rw [],
      .mk 8 4 .rw [],
      .mk 7 1 .rw [],
      .mk 6 1 .rw [],
      .mk 4 2 .rw [(3, 3)],
      .mk 2 1 .w1s [],
      .mk 1 1 .w1s [],
      .mk 0 1 .rw []],
  -- SNS_SEQ_STATUS
  .mk 0x048 1 4 0 64 0x0 [] false [
      .mk 8 4 .ro [],
      .mk 4 4 .ro [],
      .mk 3 1 .ro [],
      .mk 0 3 .ro []],
  -- SNS_RESULT
  .mk 0x04C 1 4 0 64 0x0 [] false [
      .mk 31 1 .ro [],
      .mk 30 1 .ro [],
      .mk 29 1 .ro [],
      .mk 28 1 .ro [],
      .mk 27 1 .ro [],
      .mk 26 1 .ro [],
      .mk 20 4 .ro [],
      .mk 0 20 .ro []],
  -- SNS_STATUS
  .mk 0x050 1 4 0 64 0x0 [] false [
      .mk 17 1 .ro [],
      .mk 16 1 .ro [],
      .mk 6 1 .w1c [],
      .mk 5 1 .w1c [],
      .mk 4 1 .w1c [],
      .mk 3 1 .w1c [],
      .mk 2 1 .w1c [],
      .mk 1 1 .w1c [],
      .mk 0 1 .w1c []],
  -- SNS_COUNT
  .mk 0x054 1 4 0 64 0x0 [] false [
      .mk 16 16 .ro [],
      .mk 0 16 .ro []],
  -- SNS_COUNT2
  .mk 0x058 1 4 0 64 0x0 [] false [
      .mk 16 16 .ro [],
      .mk 0 16 .ro []],
  -- SNS_CNT_CLR
  .mk 0x05C 1 4 0 64 0x0 [] false [
      .mk 0 1 .w1s []],
  -- SNS_URGENT
  .mk 0x060 1 4 0 64 0x1000 [] false [
      .mk 24 1 .w1s [],
      .mk 12 8 .rw [(0, 0)],
      .mk 8 3 .rw [(5, 7)],
      .mk 0 6 .rw [(12, 15), (40, 63)]],
  -- SNS_ENTRY_OVR
  .mk 0x064 1 4 0 64 0x0 [] false [
      .mk 0 16 .w1c []],
  -- SNS_SHUNT
  .mk 0x068 1 4 0 64 0x1388 [] false [
      .mk 0 20 .rw [(0, 499), (100001, 1048575)]],
  -- SNS_INT_STATUS
  .mk 0x06C 1 4 0 64 0x0 [] false [
      .mk 17 1 .ro [],
      .mk 0 17 .ro []],
  -- SNS_DRONEk_CFG
  .mk 0x070 1 4 0 64 0x80001000 [] false [
      .mk 31 1 .ro [],
      .mk 12 8 .ro [],
      .mk 8 3 .ro [],
      .mk 0 6 .ro []],
  -- SNS_DRONEk_CFG
  .mk 0x074 3 4 0 64 0x1000 [0x80001301, 0x1000, 0x1000] false [
      .mk 31 1 .rw [],
      .mk 12 8 .rw [(0, 0)],
      .mk 8 3 .rw [(5, 7)],
      .mk 0 6 .rw [(12, 15), (40, 63)]],
  -- SNS_DRONEk_AVG
  .mk 0x080 4 4 0 64 0x0 [] false [
      .mk 16 1 .ro [],
      .mk 0 16 .ro []],
  -- SNS_NTCk_CFG
  .mk 0x090 2 4 0 64 0xD6B2710 [] false [
      .mk 16 16 .rw [(0, 0)],
      .mk 0 16 .rw [(0, 0)]],
  -- SNS_NTC_TEMP
  .mk 0x098 1 4 0 64 0x80008000 [] false [
      .mk 16 16 .ro [],
      .mk 0 16 .ro []],
  -- SNS_PP_CTRL
  .mk 0x09C 1 4 0 64 0x0 [] false [
      .mk 24 1 .ro [],
      .mk 16 3 .rw [],
      .mk 12 2 .rw [(3, 3)],
      .mk 0 10 .rw []],
  -- SNS_DIAG_CTRL
  .mk 0x0A0 1 4 0 64 0x0 [] false [
      .mk 8 4 .rw [],
      .mk 1 2 .rw [(3, 3)],
      .mk 0 1 .w1s []],
  -- SNS_DIAG_STATUS
  .mk 0x0A4 1 4 0 64 0x0 [] false [
      .mk 4 4 .ro [],
      .mk 2 1 .w1c [],
      .mk 1 1 .ro [],
      .mk 0 1 .ro []]]

/-- Registers of a SNS page, in the order of the spec's table (R360), part 2. -/
def regsSNS1 : List RegDef := [
  -- SNS_DIAG_RESULT
  .mk 0x0A8 1 4 0 64 0x0 [] false [
      .mk 0 32 .ro []],
  -- SNS_SLICE_TEST
  .mk 0x0AC 1 4 0 64 0x0 [] false [
      .mk 8 4 .ro [],
      .mk 6 1 .ro [],
      .mk 5 1 .ro [],
      .mk 0 5 .ro []],
  -- SNS_SEQk
  .mk 0x0C0 16 4 0 64 0x1000 [] false [
      .mk 21 1 .rw [],
      .mk 20 1 .rw [],
      .mk 12 8 .rw [(0, 0)],
      .mk 8 3 .rw [(5, 7)],
      .mk 0 6 .rw [(12, 15), (40, 63)]]]

/-- Every register of a SNS page. -/
def regsSNS : List RegDef := regsSNS0 ++ regsSNS1

/-- Registers of a LST page, in the order of the spec's table (R336), part 1. -/
def regsLST0 : List RegDef := [
  -- LST_CTRL
  .mk 0x040 1 4 0 64 0x0 [] false [
      .mk 2 1 .w1s [],
      .mk 1 1 .w1s []],
  -- LST_CFG
  .mk 0x044 1 4 0 64 0xAC0 [] false [
      .mk 8 8 .rw [],
      .mk 6 2 .rw [],
      .mk 4 2 .rw [],
      .mk 2 2 .rw [(3, 3)],
      .mk 1 1 .rw [],
      .mk 0 1 .rw []],
  -- LST_SRC
  .mk 0x048 1 4 0 64 0x1100 [] false [
      .mk 16 16 .rw [],
      .mk 12 2 .rw [(0, 0), (3, 3)],
      .mk 8 4 .rw [],
      .mk 0 4 .rw []],
  -- LST_VAD
  .mk 0x04C 1 4 0 64 0x51E0312 [] false [
      .mk 24 4 .rw [(0, 0)],
      .mk 16 8 .rw [(0, 0)],
      .mk 8 4 .rw [(0, 0)],
      .mk 0 8 .rw [(0, 0), (81, 255)]],
  -- LST_LEVEL
  .mk 0x050 1 4 0 64 0xC568E890 [] false [
      .mk 16 16 .ro [],
      .mk 0 16 .ro []],
  -- LST_SPOT
  .mk 0x054 1 4 0 64 0x1031040 [] false [
      .mk 24 1 .rw [],
      .mk 16 4 .rw [(0, 0)],
      .mk 8 8 .rw [],
      .mk 0 8 .rw []],
  -- LST_STATUS
  .mk 0x058 1 4 0 64 0x0 [] false [
      .mk 15 1 .ro [],
      .mk 14 1 .ro [],
      .mk 13 1 .ro [],
      .mk 12 1 .ro [],
      .mk 11 1 .ro [],
      .mk 10 1 .ro [],
      .mk 9 1 .ro [],
      .mk 8 1 .ro [],
      .mk 4 2 .ro [],
      .mk 0 3 .ro []],
  -- LST_COUNTER
  .mk 0x05C 1 4 0 64 0x0 [] false [
      .mk 0 32 .ro []],
  -- LST_WAKE_COUNTER
  .mk 0x060 1 4 0 64 0x0 [] false [
      .mk 0 32 .ro []],
  -- LST_WAKE_INFO
  .mk 0x064 1 4 0 64 0x0 [] false [
      .mk 8 8 .ro [],
      .mk 4 2 .ro [],
      .mk 0 4 .ro []],
  -- LST_RESUME_COUNTER
  .mk 0x068 1 4 0 64 0x0 [] false [
      .mk 0 32 .ro []],
  -- LST_HIST_OLDEST
  .mk 0x06C 1 4 0 64 0x0 [] false [
      .mk 0 32 .ro []],
  -- LST_HIST_SPANS
  .mk 0x070 1 4 0 64 0x0 [] false [
      .mk 0 8 .ro []],
  -- LST_GAP_START
  .mk 0x074 1 4 0 64 0x0 [] false [
      .mk 0 32 .ro []],
  -- LST_GAP
  .mk 0x078 1 4 0 64 0x0 [] false [
      .mk 16 16 .ro [],
      .mk 0 16 .ro []],
  -- LST_COUNT
  .mk 0x07C 1 4 0 64 0x0 [] false [
      .mk 16 16 .ro [],
      .mk 0 16 .ro []],
  -- LST_COUNT2
  .mk 0x080 1 4 0 64 0x0 [] false [
      .mk 16 16 .ro [],
      .mk 0 16 .ro []],
  -- LST_MODEL_CTRL
  .mk 0x084 1 4 0 64 0x0 [] false [
      .mk 1 1 .w1s [],
      .mk 0 1 .w1s []],
  -- LST_MODEL_STATUS
  .mk 0x088 1 4 0 64 0x0 [] false [
      .mk 20 2 .ro [],
      .mk 16 4 .ro [],
      .mk 0 16 .ro []],
  -- LST_MODEL_INFO
  .mk 0x08C 1 4 0 64 0x0 [] false [
      .mk 16 8 .ro [],
      .mk 8 8 .ro [],
      .mk 0 8 .ro []]]

/-- Registers of a LST page, in the order of the spec's table (R336), part 2. -/
def regsLST1 : List RegDef := [
  -- LST_MODEL_MACS
  .mk 0x090 1 4 0 64 0x0 [] false [
      .mk 0 32 .ro []],
  -- LST_MODEL_WINk
  .mk 0x100 32 4 0 64 0x0 [] false [
      .mk 0 32 .wo []]]

/-- Every register of a LST page. -/
def regsLST : List RegDef := regsLST0 ++ regsLST1

/-- Registers of a JCK page, in the order of the spec's table (R137). -/
def regsJCK : List RegDef := [
  -- JCK_CP_CTRL
  .mk 0x040 1 4 0 64 0x0 [] false [
      .mk 1 1 .w1s [],
      .mk 0 1 .rw []],
  -- JCK_CP_STATUS
  .mk 0x044 1 4 0 64 0x0 [] false [
      .mk 2 1 .w1c [],
      .mk 1 1 .w1c [],
      .mk 0 1 .ro []],
  -- JCK_DSL_MAP0
  .mk 0x048 1 4 0 64 0x3020100 [] false [
      .mk 0 4 .ro [],
      .mk 8 4 .ro [],
      .mk 16 4 .ro [],
      .mk 24 4 .ro []],
  -- JCK_DSL_MAP1
  .mk 0x04C 1 4 0 64 0x7060504 [] false [
      .mk 0 4 .ro [],
      .mk 8 4 .ro [],
      .mk 16 4 .ro [],
      .mk 24 4 .ro []],
  -- JCK_DSL_STATE
  .mk 0x050 1 4 0 64 0x249249 [] false [
      .mk 0 3 .ro [],
      .mk 3 3 .ro [],
      .mk 6 3 .ro [],
      .mk 9 3 .ro [],
      .mk 12 3 .ro [],
      .mk 15 3 .ro [],
      .mk 18 3 .ro [],
      .mk 21 3 .ro [],
      .mk 24 3 .ro [],
      .mk 27 3 .ro []],
  -- JCK_SUBST_REQ
  .mk 0x054 1 4 0 64 0x0 [] false [
      .mk 9 1 .w1s [],
      .mk 8 1 .w1s [],
      .mk 0 3 .rw []],
  -- JCK_SUBST_STATUS
  .mk 0x058 1 4 0 64 0x0 [] false [
      .mk 16 8 .ro [],
      .mk 12 4 .ro [],
      .mk 11 1 .w1c [],
      .mk 9 2 .ro [],
      .mk 4 5 .ro [],
      .mk 0 4 .ro []],
  -- JCK_SUBST_MATCH
  .mk 0x05C 1 4 0 64 0x0 [] false [
      .mk 16 16 .ro [],
      .mk 0 16 .ro []],
  -- JCK_VREFB_STATUS
  .mk 0x060 1 4 0 64 0x0 [] false [
      .mk 0 1 .ro []],
  -- JCK_HOLD_STATUS
  .mk 0x064 1 4 0 64 0x0 [] false [
      .mk 16 16 .ro [],
      .mk 1 1 .ro [],
      .mk 0 1 .ro []],
  -- JCKn_CTRL
  .mk 0x080 2 64 0 64 0xF9 [] false [
      .mk 10 1 .rw [],
      .mk 9 1 .rw [],
      .mk 8 1 .rw [],
      .mk 7 1 .rw [],
      .mk 6 1 .rw [],
      .mk 5 1 .rw [],
      .mk 4 1 .rw [],
      .mk 2 2 .rw [],
      .mk 0 2 .rw []],
  -- JCKn_STATUS
  .mk 0x084 2 64 0 64 0x1000 [] false [
      .mk 14 1 .ro [],
      .mk 13 1 .ro [],
      .mk 12 1 .ro [],
      .mk 11 1 .ro [],
      .mk 8 3 .ro [],
      .mk 7 1 .ro [],
      .mk 4 3 .ro [],
      .mk 0 3 .ro []],
  -- JCKn_BIAS
  .mk 0x088 2 64 0 64 0x7 [] false [
      .mk 3 1 .rw [],
      .mk 2 1 .rw [],
      .mk 0 2 .rw []],
  -- JCKn_BTN_THR
  .mk 0x08C 2 64 0 64 0x40231408 [] false [
      .mk 24 8 .rw [],
      .mk 16 8 .rw [],
      .mk 8 8 .rw [],
      .mk 0 8 .rw []],
  -- JCKn_IMP_CTRL
  .mk 0x090 2 64 0 64 0x0 [] false [
      .mk 1 1 .ro [],
      .mk 0 1 .w1s []],
  -- JCKn_IMP_L
  .mk 0x094 2 64 0 64 0x0 [] false [
      .mk 18 1 .ro [],
      .mk 16 2 .ro [],
      .mk 0 16 .ro []],
  -- JCKn_IMP_R
  .mk 0x098 2 64 0 64 0x0 [] false [
      .mk 18 1 .ro [],
      .mk 16 2 .ro [],
      .mk 0 16 .ro []],
  -- JCKn_COUNT
  .mk 0x09C 2 64 0 64 0x0 [] false [
      .mk 16 16 .ro [],
      .mk 0 16 .ro []],
  -- JCKn_EVENT
  .mk 0x0A0 2 64 0 64 0x0 [] false [
      .mk 0 1 .w1s []]]

/-- Registers of a FIF page, in the order of the spec's table (R223). -/
def regsFIF : List RegDef := [
  -- FIF_CTRL
  .mk 0x040 1 4 0 64 0x10 [] false [
      .mk 4 2 .rw [(3, 3)],
      .mk 0 1 .w1s []],
  -- FIF_STATUS
  .mk 0x044 1 4 0 64 0x0 [] false [
      .mk 24 8 .ro [],
      .mk 16 8 .ro [],
      .mk 8 8 .ro [],
      .mk 0 1 .ro []],
  -- FIF_SRC_LIVE
  .mk 0x048 1 4 0 64 0x0 [] false [
      .mk 0 16 .ro []],
  -- FIF_GAINw
  .mk 0x080 32 4 0 64 0x3F3F3F3F [] false [
      .mk 0 6 .rw [],
      .mk 8 6 .rw [],
      .mk 16 6 .rw [],
      .mk 24 6 .rw []],
  -- FIF_GAIN_NOWw
  .mk 0x100 32 4 0 64 0x3F3F3F3F [] false [
      .mk 0 6 .ro [],
      .mk 8 6 .ro [],
      .mk 16 6 .ro [],
      .mk 24 6 .ro []]]

/-- Registers of a CHN page, in the order of the spec's table (R221). -/
def regsCHN : List RegDef := [
  -- CHN_CTRL
  .mk 0x040 1 4 0 64 0x0 [] false [
      .mk 2 1 .w1s [],
      .mk 1 1 .w1s [],
      .mk 0 1 .w1s []],
  -- CHN_STATUS
  .mk 0x044 1 4 0 64 0x0 [] false [
      .mk 16 16 .ro [],
      .mk 5 1 .ro [],
      .mk 4 1 .ro [],
      .mk 3 1 .ro [],
      .mk 2 1 .ro [],
      .mk 0 1 .ro []],
  -- CHN_FRAME_NOW
  .mk 0x048 1 4 0 64 0x0 [] false [
      .mk 0 32 .ro []],
  -- CHN_COMMIT_FRAME
  .mk 0x04C 1 4 0 64 0x0 [] false [
      .mk 0 32 .ro []],
  -- CHN_LOAD
  .mk 0x050 1 4 0 64 0x100 [] false [
      .mk 16 16 .ro [],
      .mk 0 16 .ro []],
  -- CHN_BUS_SAT0
  .mk 0x054 1 4 0 64 0x0 [] false [
      .mk 0 32 .w1c []],
  -- CHN_BUS_SAT1
  .mk 0x058 1 4 0 64 0x0 [] false [
      .mk 0 16 .w1c []],
  -- CHN_SAT_COUNT
  .mk 0x05C 1 4 0 64 0x0 [] false [
      .mk 0 16 .ro []],
  -- CHN_POISON
  .mk 0x060 1 4 0 64 0x0 [] false [
      .mk 16 16 .ro [],
      .mk 0 12 .ro []],
  -- CHN_TAPk
  .mk 0x064 4 4 0 64 0x0 [] false [
      .mk 0 8 .rw [(252, 255)],
      .mk 8 8 .rw [(252, 255)],
      .mk 16 8 .rw [(252, 255)],
      .mk 24 8 .rw [(252, 255)]],
  -- CHN_TAP_MISMATCH
  .mk 0x074 1 4 0 64 0x0 [] false [
      .mk 0 16 .ro []],
  -- CHN_SINK_MISMATCHj
  .mk 0x078 6 4 0 64 0x0 [] false [
      .mk 0 32 .ro []],
  -- CHN_SINK_SEL
  .mk 0x090 1 4 0 64 0x0 [] false [
      .mk 0 8 .rw [(174, 255)]],
  -- CHN_SINK_ACTIVE
  .mk 0x094 1 4 0 64 0x0 [] false [
      .mk 0 32 .ro []],
  -- CHN_TAP_ACTIVEk
  .mk 0x098 4 4 0 64 0x0 [] false [
      .mk 0 8 .ro [],
      .mk 8 8 .ro [],
      .mk 16 8 .ro [],
      .mk 24 8 .ro []],
  -- CHN_SINKi
  .mk 0x0C8 174 4 0 64 0x1000 [] false [
      .mk 12 2 .rw [(3, 3)],
      .mk 8 2 .rw [(3, 3)],
      .mk 0 6 .rw [(48, 63)]]]

/-- Registers of a AINP page, in the order of the spec's table (R103). -/
def regsAINP : List RegDef := [
  -- AINn_CTRL
  .mk 0x040 2 128 0 7 0x30 [] false [
      .mk 7 1 .rw [],
      .mk 6 1 .w1s [],
      .mk 5 1 .rw [],
      .mk 4 1 .rw [],
      .mk 3 1 .rw [],
      .mk 0 2 .rw []],
  -- AINn_CTRL
  .mk 0x040 2 128 7 1 0x30 [] false [
      .mk 7 1 .rw [],
      .mk 6 1 .w1s [],
      .mk 5 1 .rw [],
      .mk 4 1 .rw [],
      .mk 3 1 .rw [],
      .mk 2 1 .rw [],
      .mk 0 2 .rw []],
  -- AINn_PGA
  .mk 0x044 2 128 0 64 0x0 [] false [
      .mk 8 7 .ro [],
      .mk 0 7 .rw [(97, 127)]],
  -- AINn_FMT
  .mk 0x048 2 128 0 64 0x46 [] false [
      .mk 6 2 .rw [],
      .mk 4 2 .rw [(3, 3)],
      .mk 0 4 .rw [(12, 15)]],
  -- AINn_CAL
  .mk 0x04C 2 128 0 64 0x0 [] false [
      .mk 25 1 .ro [],
      .mk 24 1 .ro [],
      .mk 0 24 .ro []],
  -- AINn_ELASTIC
  .mk 0x050 2 128 0 64 0x3 [] false [
      .mk 8 2 .ro [],
      .mk 0 2 .rw []],
  -- AINn_STATUS
  .mk 0x054 2 128 0 64 0x0 [] false [
      .mk 10 1 .ro [],
      .mk 8 2 .ro [],
      .mk 7 1 .ro [],
      .mk 6 1 .ro [],
      .mk 5 1 .ro [],
      .mk 4 1 .ro [],
      .mk 3 1 .ro [],
      .mk 0 3 .ro []],
  -- AINn_CLIP
  .mk 0x058 2 128 0 64 0x0 [] false [
      .mk 17 1 .w1s [],
      .mk 16 1 .w1c [],
      .mk 0 16 .ro []],
  -- AINn_SLICE
  .mk 0x05C 2 128 0 64 0x0 [0x0, 0x1, 0x2, 0x3, 0x4, 0x5, 0x6, 0x7, 0x8, 0x9, 0xA, 0xB, 0xC, 0xD, 0xE, 0xF] false [
      .mk 16 2 .ro [],
      .mk 8 5 .ro [],
      .mk 0 5 .ro []]]

/-- Registers of a AUX page, in the order of the spec's table (R105). -/
def regsAUX : List RegDef := [
  -- AUX_BEEP_CTRL
  .mk 0x040 1 4 0 64 0x60 [] false [
      .mk 10 1 .rw [],
      .mk 8 2 .rw [(2, 3)],
      .mk 4 4 .rw [(11, 15)],
      .mk 1 3 .rw [],
      .mk 0 1 .rw []],
  -- AUX_BEEP_STATUS
  .mk 0x044 1 4 0 64 0x0 [] false [
      .mk 2 1 .w1c [],
      .mk 1 1 .ro [],
      .mk 0 1 .ro []],
  -- AUX_MICBIAS_CTRL
  .mk 0x048 1 4 0 64 0x0 [] false [
      .mk 1 2 .rw [],
      .mk 5 2 .rw [],
      .mk 9 2 .rw [],
      .mk 13 2 .rw [],
      .mk 0 1 .rw [],
      .mk 4 1 .rw [],
      .mk 8 1 .rw [],
      .mk 12 1 .rw []],
  -- AUX_MICBIAS_STATUS
  .mk 0x04C 1 4 0 64 0x0 [] false [
      .mk 4 1 .w1c [],
      .mk 5 1 .w1c [],
      .mk 6 1 .w1c [],
      .mk 7 1 .w1c [],
      .mk 0 1 .ro [],
      .mk 1 1 .ro [],
      .mk 2 1 .ro [],
      .mk 3 1 .ro []],
  -- AUX_SLICE_MAPi
  .mk 0x050 4 4 0 64 0x0 [0x3020100, 0x7060504, 0xB0A0908, 0xF0E0D0C] false [
      .mk 0 5 .ro [],
      .mk 8 5 .ro [],
      .mk 16 5 .ro [],
      .mk 24 5 .ro []],
  -- AUX_SLICE_STATE0
  .mk 0x060 1 4 0 64 0x9249249 [] false [
      .mk 0 3 .ro [],
      .mk 3 3 .ro [],
      .mk 6 3 .ro [],
      .mk 9 3 .ro [],
      .mk 12 3 .ro [],
      .mk 15 3 .ro [],
      .mk 18 3 .ro [],
      .mk 21 3 .ro [],
      .mk 24 3 .ro [],
      .mk 27 3 .ro []],
  -- AUX_SLICE_STATE1
  .mk 0x064 1 4 0 64 0xB49249 [] false [
      .mk 0 3 .ro [],
      .mk 3 3 .ro [],
      .mk 6 3 .ro [],
      .mk 9 3 .ro [],
      .mk 12 3 .ro [],
      .mk 15 3 .ro [],
      .mk 18 3 .ro [],
      .mk 21 3 .ro []],
  -- AUX_SUBST_REQ
  .mk 0x068 1 4 0 64 0x0 [] false [
      .mk 9 1 .w1s [],
      .mk 8 1 .w1s [],
      .mk 0 4 .rw []],
  -- AUX_SUBST_STATUS
  .mk 0x06C 1 4 0 64 0x0 [] false [
      .mk 16 8 .ro [],
      .mk 12 4 .ro [],
      .mk 11 1 .w1c [],
      .mk 9 2 .ro [],
      .mk 4 5 .ro [],
      .mk 0 4 .ro []],
  -- AUX_SUBST_MATCH
  .mk 0x070 1 4 0 64 0x0 [] false [
      .mk 16 16 .ro [],
      .mk 0 16 .ro []],
  -- AUX_VREF_STATUS
  .mk 0x074 1 4 0 64 0x0 [] false [
      .mk 0 1 .ro []],
  -- AUX_PRIVACY
  .mk 0x078 1 4 0 64 0x0 [] false [
      .mk 16 16 .ro [],
      .mk 0 1 .ro []]]

/-- Registers of a AOP page, in the order of the spec's table (R135). -/
def regsAOP : List RegDef := [
  -- AOUTc_CTRL
  .mk 0x040 2 128 0 64 0x14 [] false [
      .mk 4 2 .rw [(3, 3)],
      .mk 3 1 .rw [],
      .mk 2 1 .rw [],
      .mk 0 1 .rw []],
  -- AOUTc_FMT
  .mk 0x044 2 128 0 64 0x6 [] false [
      .mk 4 2 .rw [(3, 3)],
      .mk 0 4 .rw [(12, 15)]],
  -- AOUTc_VOL
  .mk 0x048 2 128 0 64 0xC001C00 [] false [
      .mk 16 12 .ro [],
      .mk 12 2 .rw [],
      .mk 0 12 .rw []],
  -- AOUTc_ELASTIC
  .mk 0x04C 2 128 0 64 0x3 [] false [
      .mk 8 2 .ro [],
      .mk 0 2 .rw []],
  -- AOUTc_STATUS
  .mk 0x050 2 128 0 64 0x0 [] false [
      .mk 8 1 .ro [],
      .mk 7 1 .ro [],
      .mk 6 1 .ro [],
      .mk 5 1 .ro [],
      .mk 4 1 .ro [],
      .mk 3 1 .ro [],
      .mk 0 3 .ro []],
  -- AOUTc_FLAGS
  .mk 0x054 2 128 0 64 0x0 [] false [
      .mk 1 1 .w1c [],
      .mk 0 1 .w1c []],
  -- AOUTc_SLICE
  .mk 0x058 2 128 0 64 0x0 [0x0, 0x1, 0x2, 0x3, 0x4, 0x5, 0x6, 0x7] false [
      .mk 16 2 .ro [],
      .mk 8 4 .ro [],
      .mk 0 4 .ro []],
  -- AOUTc_OFFSET
  .mk 0x05C 2 128 0 64 0x0 [] false [
      .mk 0 16 .ro []],
  -- AOPk_PAIR
  .mk 0x140 1 4 0 2 0x0 [] false [
      .mk 0 2 .rw [(2, 3)]],
  -- AOPk_PAIR
  .mk 0x140 1 4 2 2 0x0 [] true [
      ]]

/-- Registers of a SPK page, in the order of the spec's table (R161), part 1. -/
def regsSPK0 : List RegDef := [
  -- SPKn_CTRL
  .mk 0x040 1 4 0 64 0x54 [] false [
      .mk 6 1 .rw [],
      .mk 4 2 .rw [(3, 3)],
      .mk 2 1 .rw [],
      .mk 0 1 .rw []],
  -- SPKn_FMT
  .mk 0x044 1 4 0 64 0x206 [] false [
      .mk 8 3 .rw [(5, 7)],
      .mk 4 2 .rw [(3, 3)],
      .mk 0 4 .rw [(11, 15)]],
  -- SPKn_VOL
  .mk 0x048 1 4 0 64 0xC001C00 [] false [
      .mk 16 12 .ro [],
      .mk 12 2 .rw [],
      .mk 0 12 .rw []],
  -- SPKn_PWM
  .mk 0x04C 1 4 0 64 0x1 [0x1, 0x11, 0x21, 0x31] false [
      .mk 4 2 .rw [],
      .mk 0 2 .rw [(3, 3)]],
  -- SPKn_LOAD
  .mk 0x050 1 4 0 64 0x1F40 [] false [
      .mk 0 16 .rw []],
  -- SPKn_CEIL
  .mk 0x054 1 4 0 64 0xFF00FF [] false [
      .mk 16 8 .ro [],
      .mk 8 8 .rw [(241, 254)],
      .mk 0 8 .ro []],
  -- SPKn_PROT
  .mk 0x058 1 4 0 64 0x0 [] false [
      .mk 16 8 .ro [],
      .mk 11 1 .ro [],
      .mk 10 1 .ro [],
      .mk 9 1 .ro [],
      .mk 8 1 .ro [],
      .mk 0 8 .ro []],
  -- SPKn_STATUS
  .mk 0x05C 1 4 0 64 0x20 [] false [
      .mk 7 1 .ro [],
      .mk 6 1 .ro [],
      .mk 5 1 .ro [],
      .mk 4 1 .ro [],
      .mk 3 1 .ro [],
      .mk 0 3 .ro []],
  -- SPKn_FLAGS
  .mk 0x060 1 4 0 64 0x0 [] false [
      .mk 9 1 .w1c [],
      .mk 8 1 .w1c [],
      .mk 7 1 .w1c [],
      .mk 6 1 .w1c [],
      .mk 5 1 .w1c [],
      .mk 4 1 .w1c [],
      .mk 3 1 .w1c [],
      .mk 2 1 .w1c [],
      .mk 1 1 .w1c [],
      .mk 0 1 .w1c []],
  -- SPKn_FAULT_CNT
  .mk 0x064 1 4 0 64 0x0 [] false [
      .mk 16 16 .ro [],
      .mk 0 2 .ro []],
  -- SPKn_MEAS_P
  .mk 0x068 1 4 0 64 0x0 [] false [
      .mk 16 16 .ro [],
      .mk 0 16 .ro []],
  -- SPKn_MEAS_Z
  .mk 0x06C 1 4 0 64 0x0 [] false [
      .mk 16 1 .ro [],
      .mk 0 16 .ro []],
  -- SPKn_STAGE_T
  .mk 0x070 1 4 0 64 0x0 [] false [
      .mk 0 16 .ro []],
  -- SPKn_GUARD_CTRL
  .mk 0x074 1 4 0 64 0x140E [] false [
      .mk 12 2 .rw [],
      .mk 8 3 .rw [(6, 7)],
      .mk 4 1 .w1s [],
      .mk 3 1 .rw [],
      .mk 2 1 .rw [],
      .mk 1 1 .rw [],
      .mk 0 1 .rw []],
  -- SPKn_GUARD_RE
  .mk 0x078 1 4 0 64 0xF5A0000 [] false [
      .mk 16 16 .rw [],
      .mk 0 16 .rw []],
  -- SPKn_GUARD_XM
  .mk 0x07C 1 4 0 64 0x0 [] false [
      .mk 16 16 .rw [],
      .mk 0 16 .rw []],
  -- SPKn_GUARD_XL
  .mk 0x080 1 4 0 64 0x0 [] false [
      .mk 16 16 .rw [],
      .mk 0 16 .rw []],
  -- SPKn_GUARD_TC
  .mk 0x084 1 4 0 64 0x0 [] false [
      .mk 16 16 .rw [],
      .mk 0 16 .rw []],
  -- SPKn_GUARD_TM
  .mk 0x088 1 4 0 64 0x0 [] false [
      .mk 16 16 .rw [],
      .mk 0 16 .rw []],
  -- SPKn_GUARD_TL
  .mk 0x08C 1 4 0 64 0x180A64 [] false [
      .mk 16 8 .rw [],
      .mk 8 8 .rw [],
      .mk 0 8 .rw []]]

/-- Registers of a SPK page, in the order of the spec's table (R161), part 2. -/
def regsSPK1 : List RegDef := [
  -- SPKn_GUARD_STATUS
  .mk 0x090 1 4 0 64 0x0 [] false [
      .mk 16 16 .ro [],
      .mk 3 1 .ro [],
      .mk 2 1 .ro [],
      .mk 1 1 .ro [],
      .mk 0 1 .ro []],
  -- SPKn_GUARD_TEMP
  .mk 0x094 1 4 0 64 0x0 [] false [
      .mk 16 16 .ro [],
      .mk 0 16 .ro []]]

/-- Every register of a SPK page. -/
def regsSPK : List RegDef := regsSPK0 ++ regsSPK1

/-- Registers of a SAP page, in the order of the spec's table (R255). -/
def regsSAP : List RegDef := [
  -- SAPp_CTRL
  .mk 0x040 1 4 0 64 0x0 [] false [
      .mk 4 1 .rw [],
      .mk 3 1 .rw [],
      .mk 2 1 .rw [],
      .mk 1 1 .rw [],
      .mk 0 1 .rw []],
  -- SAPp_FMT
  .mk 0x044 1 4 0 64 0x61204 [] false [
      .mk 16 4 .rw [(11, 15)],
      .mk 12 4 .rw [(0, 0)],
      .mk 8 2 .rw [(3, 3)],
      .mk 5 1 .rw [],
      .mk 4 1 .rw [],
      .mk 3 1 .rw [],
      .mk 2 1 .rw [],
      .mk 0 2 .rw [(3, 3)]],
  -- SAPp_SLOT_MASK_TX
  .mk 0x048 1 4 0 64 0x3 [] false [
      .mk 0 16 .rw []],
  -- SAPp_SLOT_MASK_RX
  .mk 0x04C 1 4 0 64 0x3 [] false [
      .mk 0 16 .rw []],
  -- SAPp_STATUS
  .mk 0x050 1 4 0 64 0x60000 [] false [
      .mk 16 4 .ro [],
      .mk 12 4 .ro [],
      .mk 8 2 .ro [],
      .mk 3 1 .ro [],
      .mk 0 3 .ro []],
  -- SAPp_MEAS
  .mk 0x054 1 4 0 64 0x0 [] false [
      .mk 0 16 .ro []],
  -- SAPp_BCLK
  .mk 0x058 1 4 0 64 0x0 [] false [
      .mk 0 32 .ro []],
  -- SAPp_FLAGS
  .mk 0x05C 1 4 0 64 0x0 [] false [
      .mk 3 1 .w1c [],
      .mk 2 1 .w1c [],
      .mk 1 1 .w1c [],
      .mk 0 1 .w1c []],
  -- SAPp_COUNT
  .mk 0x060 1 4 0 64 0x0 [] false [
      .mk 16 16 .ro [],
      .mk 0 16 .ro []],
  -- SAPp_COUNT2
  .mk 0x064 1 4 0 64 0x0 [] false [
      .mk 0 16 .ro []],
  -- SAPp_CNT_CLR
  .mk 0x068 1 4 0 64 0x0 [] false [
      .mk 0 1 .w1s []],
  -- SAPp_MCLK
  .mk 0x06C 1 4 0 4 0x1000 [] false [
      .mk 16 1 .ro [],
      .mk 8 8 .rw [],
      .mk 0 2 .rw []]]

/-- Registers of a PDM page, in the order of the spec's table (R257). -/
def regsPDM : List RegDef := [
  -- PDM_CLK_CTRL
  .mk 0x040 1 4 0 64 0x141400 [] false [
      .mk 16 8 .rw [(51, 255)],
      .mk 8 8 .rw [(51, 255)],
      .mk 4 3 .rw [(7, 7)],
      .mk 0 3 .rw [(7, 7)]],
  -- PDM_LINE
  .mk 0x044 1 4 0 64 0x0 [] false [
      .mk 0 8 .rw []],
  -- PDM_MIC_EN
  .mk 0x048 1 4 0 64 0x0 [] false [
      .mk 0 16 .rw []],
  -- PDM_FMT
  .mk 0x04C 1 4 0 64 0x10606 [] false [
      .mk 16 2 .rw [],
      .mk 12 2 .rw [(3, 3)],
      .mk 8 4 .rw [(11, 15)],
      .mk 4 2 .rw [(3, 3)],
      .mk 0 4 .rw [(11, 15)]],
  -- PDM_STATUS
  .mk 0x050 1 4 0 64 0x0 [] false [
      .mk 10 1 .ro [],
      .mk 9 1 .ro [],
      .mk 8 1 .ro [],
      .mk 4 3 .ro [],
      .mk 0 3 .ro []],
  -- PDM_MIC_STATUS
  .mk 0x054 1 4 0 64 0x0 [] false [
      .mk 16 16 .ro [],
      .mk 0 16 .ro []],
  -- PDM_CLIP
  .mk 0x058 1 4 0 64 0x0 [] false [
      .mk 0 16 .w1c []],
  -- PDM_FLAGS
  .mk 0x05C 1 4 0 64 0x0 [] false [
      .mk 0 1 .w1c []]]

/-- Registers of a SPD page, in the order of the spec's table (R259). -/
def regsSPD : List RegDef := [
  -- SPD_RX_CTRL
  .mk 0x040 1 4 0 64 0x4 [] false [
      .mk 2 1 .rw [],
      .mk 1 1 .rw [],
      .mk 0 1 .rw []],
  -- SPD_RX_STATUS
  .mk 0x044 1 4 0 64 0x0 [] false [
      .mk 16 5 .ro [],
      .mk 12 1 .ro [],
      .mk 8 4 .ro [],
      .mk 4 4 .ro [],
      .mk 3 1 .ro [],
      .mk 2 1 .ro [],
      .mk 0 2 .ro []],
  -- SPD_RX_FLAGS
  .mk 0x048 1 4 0 64 0x0 [] false [
      .mk 4 1 .w1c [],
      .mk 3 1 .w1c [],
      .mk 2 1 .w1c [],
      .mk 1 1 .w1c [],
      .mk 0 1 .w1c []],
  -- SPD_RX_COUNT
  .mk 0x04C 1 4 0 64 0x0 [] false [
      .mk 16 16 .ro [],
      .mk 0 16 .ro []],
  -- SPD_RX_CSi
  .mk 0x050 6 4 0 64 0x0 [] false [
      .mk 0 8 .ro [],
      .mk 8 8 .ro [],
      .mk 16 8 .ro [],
      .mk 24 8 .ro []],
  -- SPD_TX_CTRL
  .mk 0x068 1 4 0 64 0x68 [] false [
      .mk 4 4 .rw [(0, 3), (11, 15)],
      .mk 3 1 .rw [],
      .mk 1 2 .rw [(3, 3)],
      .mk 0 1 .rw []],
  -- SPD_TX_STATUS
  .mk 0x06C 1 4 0 64 0x0 [] false [
      .mk 8 1 .ro [],
      .mk 4 4 .ro [],
      .mk 0 3 .ro []],
  -- SPD_TX_CSi
  .mk 0x070 6 4 0 64 0x0 [] false [
      .mk 0 8 .rw [],
      .mk 8 8 .rw [],
      .mk 16 8 .rw [],
      .mk 24 8 .rw []],
  -- SPD_CNT_CLR
  .mk 0x088 1 4 0 64 0x0 [] false [
      .mk 0 1 .w1s []]]

/-- Registers of a LANE page, in the order of the spec's table (R194), part 1. -/
def regsLANE0 : List RegDef := [
  -- LANEn_SRC
  .mk 0x040 1 4 0 64 0x0 [] false [
      .mk 8 1 .rw [],
      .mk 0 8 .rw [(252, 255)]],
  -- LANEn_OUT
  .mk 0x044 1 4 0 64 0x6 [] false [
      .mk 4 4 .rw [(12, 15)],
      .mk 0 4 .rw [(12, 15)]],
  -- LANEn_CTRL
  .mk 0x048 1 4 0 64 0x310 [] false [
      .mk 8 2 .rw [],
      .mk 7 1 .rw [],
      .mk 4 2 .rw [(3, 3)],
      .mk 3 1 .rw [],
      .mk 2 1 .rw []],
  -- LANEn_RC
  .mk 0x04C 1 4 0 64 0x4 [] false [
      .mk 0 5 .rw [(0, 1), (17, 31)]],
  -- LANEn_TRIM
  .mk 0x050 1 4 0 64 0xC001C00 [] false [
      .mk 16 12 .ro [],
      .mk 12 2 .rw [],
      .mk 0 12 .rw []],
  -- LANEn_DCB
  .mk 0x054 1 4 0 64 0x0 [] false [
      .mk 0 2 .rw []],
  -- LANEn_HUM
  .mk 0x058 1 4 0 64 0x400 [] false [
      .mk 10 2 .rw [],
      .mk 8 2 .rw [(3, 3)],
      .mk 0 3 .rw [(5, 7)]],
  -- LANEn_HUM_STATUS
  .mk 0x05C 1 4 0 64 0x0 [] false [
      .mk 16 1 .ro [],
      .mk 0 16 .ro []],
  -- LANEn_COEF_CTRL
  .mk 0x060 1 4 0 64 0x0 [] false [
      .mk 2 1 .rw [],
      .mk 0 1 .w1s []],
  -- LANEn_COEF_STATUS
  .mk 0x064 1 4 0 64 0x0 [] false [
      .mk 16 16 .ro [],
      .mk 12 4 .ro [],
      .mk 8 4 .ro [],
      .mk 3 1 .ro [],
      .mk 2 1 .ro [],
      .mk 1 1 .ro [],
      .mk 0 1 .w1c []],
  -- LANEn_DYN_CTRL
  .mk 0x068 1 4 0 64 0x0 [] false [
      .mk 8 6 .rw [(48, 63)],
      .mk 4 1 .rw [],
      .mk 3 1 .rw [],
      .mk 2 1 .rw [],
      .mk 1 1 .rw [],
      .mk 0 1 .rw []],
  -- LANEn_DYN_COMP
  .mk 0x06C 1 4 0 64 0x30018 [] false [
      .mk 24 8 .rw [(49, 255)],
      .mk 22 2 .rw [(3, 3)],
      .mk 16 4 .rw [(8, 15)],
      .mk 0 8 .rw [(121, 255)]],
  -- LANEn_DYN_TIME
  .mk 0x070 1 4 0 64 0x130009 [] false [
      .mk 16 8 .rw [],
      .mk 0 6 .rw []],
  -- LANEn_DYN_LIM
  .mk 0x074 1 4 0 64 0x902 [] false [
      .mk 8 8 .rw [],
      .mk 0 6 .rw [(61, 63)]],
  -- LANEn_DYN_GATE
  .mk 0x078 1 4 0 64 0xA40093C [] false [
      .mk 24 8 .rw [],
      .mk 20 4 .rw [],
      .mk 8 8 .rw [],
      .mk 0 8 .rw [(181, 255)]],
  -- LANEn_DYN_STATUS
  .mk 0x07C 1 4 0 64 0x0 [] false [
      .mk 11 1 .ro [],
      .mk 10 1 .ro [],
      .mk 9 1 .ro [],
      .mk 8 1 .ro [],
      .mk 0 8 .ro []],
  -- LANEn_DELAY
  .mk 0x080 1 4 0 64 0x0 [] false [
      .mk 24 8 .ro [],
      .mk 0 16 .rw [(34304, 65535)]],
  -- LANEn_DELAY_STATUS
  .mk 0x084 1 4 0 64 0x0 [] false [
      .mk 16 1 .ro [],
      .mk 0 16 .ro []],
  -- LANEn_POOL
  .mk 0x088 1 4 0 64 0x80 [] false [
      .mk 16 8 .ro [],
      .mk 0 8 .ro []],
  -- LANEn_METER_CTRL
  .mk 0x08C 1 4 0 64 0x2 [] false [
      .mk 2 1 .w1s [],
      .mk 0 2 .rw []]]

/-- Registers of a LANE page, in the order of the spec's table (R194), part 2. -/
def regsLANE1 : List RegDef := [
  -- LANEn_METER_IN
  .mk 0x090 1 4 0 64 0xC568C568 [] false [
      .mk 16 16 .ro [],
      .mk 0 16 .ro []],
  -- LANEn_METER_OUT
  .mk 0x094 1 4 0 64 0xC568C568 [] false [
      .mk 16 16 .ro [],
      .mk 0 16 .ro []],
  -- LANEn_METER_HOLD
  .mk 0x098 1 4 0 64 0xC568C568 [] false [
      .mk 16 16 .ro [],
      .mk 0 16 .ro []],
  -- LANEn_STATUS
  .mk 0x09C 1 4 0 64 0x400 [] false [
      .mk 24 4 .ro [],
      .mk 20 4 .ro [],
      .mk 18 2 .ro [],
      .mk 17 1 .ro [],
      .mk 16 1 .ro [],
      .mk 14 2 .ro [],
      .mk 13 1 .ro [],
      .mk 8 5 .ro [],
      .mk 0 3 .ro []],
  -- LANEn_RATIO
  .mk 0x0A0 1 4 0 64 0x0 [] false [
      .mk 0 32 .ro []],
  -- LANEn_RATE_MEAS
  .mk 0x0A4 1 4 0 64 0x0 [] false [
      .mk 0 32 .ro []],
  -- LANEn_FLAGS
  .mk 0x0A8 1 4 0 64 0x0 [] false [
      .mk 9 1 .w1c [],
      .mk 8 1 .w1c [],
      .mk 7 1 .w1c [],
      .mk 6 1 .w1c [],
      .mk 5 1 .w1c [],
      .mk 4 1 .w1c [],
      .mk 3 1 .w1c [],
      .mk 2 1 .w1c [],
      .mk 1 1 .w1c [],
      .mk 0 1 .w1c []],
  -- LANEn_COUNT
  .mk 0x0AC 1 4 0 64 0x0 [] false [
      .mk 16 16 .ro [],
      .mk 0 16 .ro []],
  -- LANEn_COUNT2
  .mk 0x0B0 1 4 0 64 0x0 [] false [
      .mk 16 16 .ro [],
      .mk 0 16 .ro []],
  -- LANEn_CNT_CLR
  .mk 0x0B4 1 4 0 64 0x0 [] false [
      .mk 0 1 .w1s []],
  -- LANEn_COST
  .mk 0x0B8 1 4 0 64 0x0 [] false [
      .mk 16 16 .ro [],
      .mk 0 16 .ro []]]

/-- Every register of a LANE page. -/
def regsLANE : List RegDef := regsLANE0 ++ regsLANE1

end Sys2Proof.Machine
end

