-- ==== Sys2Proof/Machine/RegLookup.lean ====
section
/-! DEFINITION. Finding a register in the map (R56, R58): its page row, its definition, its reset word. -/

namespace Sys2Proof.Machine

/-- The registers of a page type, common header excluded. -/
def regsOf : PageType → List RegDef
  | .sys => regsSYS | .pwr => regsPWR | .blw => regsBLW | .clk => regsCLK | .mem => regsMEM | .dbg => regsDBG
  | .mnt => regsMNT | .lcy => regsLCY | .smb => regsSMB | .pmb => regsPMB | .usb => regsUSB | .sns => regsSNS
  | .lst => regsLST | .jck => regsJCK | .fif => regsFIF | .chn => regsCHN | .ainp => regsAINP | .aux => regsAUX
  | .aop => regsAOP | .spk => regsSPK | .sap => regsSAP | .pdm => regsPDM | .spd => regsSPD | .lane => regsLANE

/-- How many low bits of PG_IRQ_RAW each page type defines, common sources included (R64 and the block chapters); the
bits above read 0. -/
def irqBits : PageType → Nat
  | .sys => 2 | .pwr => 6 | .blw => 10 | .clk => 11 | .mem => 11 | .dbg => 6 | .mnt => 7 | .lcy => 6 | .smb => 8
  | .pmb => 5 | .usb => 13 | .sns => 9 | .lst => 12 | .jck => 11 | .fif => 4 | .chn => 8 | .ainp => 10 | .aux => 6
  | .aop => 8 | .spk => 8 | .sap => 6 | .pdm => 7 | .spd => 7 | .lane => 10

/-- The header registers of R58 that hold state, for a page of this row; the others are computed from the block. -/
def headerRegs (r : PageRow) : List RegDef :=
  [.mk 0x000 1 4 0 64 0 [] false [.mk 0 32 .ro []],
   .mk 0x004 1 4 0 64 r.en [] false [.mk 2 1 .w1s [], .mk 0 1 (if r.enRw then .rw else .ro) []],
   .mk 0x008 1 4 0 64 0 [] false [.mk 0 32 .ro []],
   .mk 0x00C 1 4 0 64 0 [] false [.mk 0 (irqBits r.ty) .w1c []],
   .mk 0x010 1 4 0 64 0 [] false [.mk 0 (irqBits r.ty) .rw []],
   .mk 0x014 1 4 0 64 0 [] false [.mk 0 32 .ro []]] ++
  [.mk 0x018 1 4 0 64 0 [] false [.mk 0 32 .ro []],
   .mk 0x01C 1 4 0 64 0 [] false [.mk 0 32 .ro []],
   .mk 0x020 1 4 0 64 1 [] false [.mk 0 1 .rw []],
   .mk 0x024 1 4 0 64 0 [] false [.mk 0 32 .ro []],
   .mk 0x028 1 4 0 64 0 [] false [.mk 0 32 .ro []],
   .mk 0x02C 1 4 0 64 0 [] false [.mk 0 32 .ro []]]

/-- Does the definition serve this offset on this page of its type? -/
def RegDef.serves (d : RegDef) (inst off : Nat) : Bool :=
  decide (d.p0 ≤ inst) && decide (inst < d.p0 + d.pn) && decide (d.off ≤ off) &&
    decide ((off - d.off) % d.stride = 0) && decide ((off - d.off) / d.stride < d.count)

/-- The definition of the register at a byte address, on an implemented page: none for a reserved word (R56, R58). -/
def regDefAt (a : Nat) : Option RegDef :=
  match pageRow (a / 0x400) with
  | none => none
  | some r =>
    if a % 0x400 < 0x40 then (headerRegs r).find? (fun d => d.serves 0 (a % 0x400))
    else (regsOf r.ty).find? (fun d => d.serves (a / 0x400 - r.first) (a % 0x400))

/-- The reset word of a register (the tables' Reset column). -/
def regReset (a : Nat) : Word :=
  match pageRow (a / 0x400), regDefAt a with
  | some r, some d =>
    let i := (a / 0x400 - r.first) * d.count + (a % 0x400 - d.off) / d.stride
    BitVec.ofNat 32 (d.resets.getD i d.reset)
  | _, _ => 0

end Sys2Proof.Machine
end

