-- ==== Sys2Proof/Machine/Sparse.lean ====
section
/-! DEFINITION. Sparse data by key, in one canonical form: keys strictly rising, no entry equal to what an unlisted key
reads as. The register file and the shared SRAM are kept this way. -/

namespace Sys2Proof.Machine

/-- The value at key `k`: the listed one, or `d`. -/
def lookup {α : Type} (l : List (Nat × α)) (k : Nat) (d : α) : α :=
  match l with
  | [] => d
  | (k', v) :: t => if k' = k then v else lookup t k d

/-- Put an entry before the first larger key. -/
def insertAt {α : Type} (l : List (Nat × α)) (k : Nat) (v : α) : List (Nat × α) :=
  match l with
  | [] => [(k, v)]
  | (k', v') :: t => if k < k' then (k, v) :: (k', v') :: t else (k', v') :: insertAt t k v

/-- The list without key `k`. -/
def erase {α : Type} (l : List (Nat × α)) (k : Nat) : List (Nat × α) := l.filter (fun e => decide (e.1 ≠ k))

/-- Write `v` at `k`; an entry equal to the default `d` of that key is removed, not listed. -/
def store {α : Type} [DecidableEq α] (l : List (Nat × α)) (k : Nat) (v d : α) : List (Nat × α) :=
  if v = d then erase l k else insertAt (erase l k) k v

/-- The canonical form: keys strictly rising, no entry equal to its default. -/
def canonical {α : Type} [DecidableEq α] (d : Nat → α) : List (Nat × α) → Bool
  | [] => true
  | [(k, v)] => decide (v ≠ d k)
  | (k, v) :: (k', v') :: t => decide (v ≠ d k) && decide (k < k') && canonical d ((k', v') :: t)

/-- Update the element at an index (nothing outside the bounds). -/
def vmod {α : Type} {n : Nat} (v : Vector α n) (k : Nat) (f : α → α) : Vector α n :=
  match v[k]? with
  | some x => v.setIfInBounds k (f x)
  | none => v

/-- The element at an index, `d` outside the bounds. -/
def vget {α : Type} {n : Nat} (v : Vector α n) (k : Nat) (d : α) : α := v[k]?.getD d

end Sys2Proof.Machine
end

