-- ==== Sys2Proof/Machine/State.lean ====
section
/-! DEFINITION. The state of the hub as plain data: everything the spec gives the machine, and the queue of commands. The
register file holds every register-visible field; the records below hold the state the rules give each block beside its
registers. Each field's docstring names its rule and its value after reset. -/

namespace Sys2Proof.Machine

/-! ## Ramps and shared records -/

/-- A gain ramp of raised-cosine shape (R166): the position `num/den` between gain 0 and gain 1, and its direction. -/
structure Fade where
  num : Nat
  den : Nat
  up : Bool
deriving DecidableEq, Repr

/-- A gain that moves linearly in dB from `start` to `goal` (units of 1/65,536 dB) in `len` samples, `pos` of which
have passed (R116, R177, R201). `muteEnd` marks a ramp whose target is mute: it runs to its floor and then steps to
zero. `muted` holds while the gain is zero. -/
structure DbRamp where
  start : Int
  goal : Int
  len : Nat
  pos : Nat
  muteEnd : Bool
  muted : Bool
deriving DecidableEq, Repr

/-- A linear crossfade (R22, R186, R208): `pos` of `len` samples have passed. -/
structure XFade where
  pos : Nat
  len : Nat
deriving DecidableEq, Repr

/-- States of a maintenance job (MNT_JOB.STATE, R478). -/
inductive JobState
  | free | queued | deferred | running | ended
deriving DecidableEq, Repr

/-- One of the sixteen job slots (R456): the record MNT_JOB and MNT_JOB2 show, and its place in the queue.
Width: MNT_JOB and MNT_JOB2; reset: free, all zero. -/
structure Job where
  id : Nat
  type : Nat
  target : Nat
  st : JobState
  fault : Bool
  blocker : Nat
  res : Nat
  result : Nat
  ms : Nat
  order : Nat
  ending : Nat
deriving DecidableEq, Repr

/-- A level-driven ball and its effects that no register shows are kept here; IRQ_N is low when `irqLow`. -/
structure Pins where
  /-- IRQ_N driven low (R67, R448); reset false -/
  irqLow : Bool
  /-- FREEZE level (R43); reset false -/
  freeze : Bool
  /-- MIC_PRIVACY_N asserted, after its filter (R41, R44); reset false -/
  privacy : Bool
  /-- HPVDD good (R51); reset true -/
  hpvdd : Bool
  /-- USBVDD good (R51); reset true -/
  usbvdd : Bool
  /-- PVDD good (R51); reset true -/
  pvdd : Bool
  /-- PVDD below CRIT (R30, R391); reset false -/
  crit : Bool
  /-- WAKE_N low, after its filter (R41, R42); reset false -/
  wakeLow : Bool
  /-- AONVDD above its threshold for 1 ms (R51); reset true -/
  aon : Bool
  /-- AVDD, IOVDD and DVDD above their thresholds for 1 ms (R51); reset true -/
  core : Bool
deriving DecidableEq, Repr


/-! ## Crossfades and SRAM items -/

/-- A linear crossfade (R22, R175, R186, R206, R209): `old` values with weights over `den`, giving way to `new`; `pos` of
`len` steps have passed. With `len` 0 only `new` sounds. A crossfade begun during another keeps its old parts at their
present weights. -/
structure Blend (α : Type) where
  old : List (α × Nat)
  den : Nat
  new : α
  pos : Nat
  len : Nat
deriving DecidableEq, Repr

/-- What an SRAM word holds, where the spec gives the word an owner's item (R31, R32). -/
inductive ItemKind
  | unowned | laneSample | ringSample | history | weight | guard | coefPend | coefAct | xpPend | xpAct | pool
deriving DecidableEq, Repr

/-- An owner's item: its kind and its index (lane, word or entry number). -/
structure Item where
  kind : ItemKind
  idx : Nat
deriving DecidableEq, Repr



/-! ## Analogue inputs (chapter 04) -/

/-- Where an input or BEEP stands in its start, change or stop sequence (R88 to R91). -/
inductive AinPhase
  | off | powerUp | waitVref | waitClk | calibrating | filling | unmuting | running
  | muteToReconf | reconf | muteToOff | calMute | calMeasure | calUnmute
deriving DecidableEq, Repr

/-- One analogue input's state beside its registers. -/
structure Ain where
  /-- step of the running sequence (R88 to R91); reset off -/
  phase : AinPhase
  /-- start and stop gain (R88, R90), raised-cosine over 1 ms; reset 0 -/
  fade : Fade
  /-- AINn_CTRL.MUTE gain (R90), 1 ms; reset 1 -/
  muteFade : Fade
  /-- gain after a privacy release (R95), 5 ms; reset 1 -/
  privFade : Fade
  /-- output samples the decimator still has to fill (R88 step 5); reset 0 -/
  fill : Nat
  /-- MODE code, rate and filter in effect (R89), the rate and filter codes of AINn_FMT; reset 0, 6, 0 -/
  mode : Nat
  rate : Nat
  filter : Nat
  /-- the reconfiguration changed MODE (R89 steps 3 and 4); reset false -/
  modeChanged : Bool
  /-- the running sequence is R89's, not R88's; reset false -/
  reconf : Bool
  /-- gain of the jack block's hold (R131), 1 ms, or 0.5 ms after a removal (R129); reset 1 -/
  jackFade : Fade
  /-- polarity of the overload, from the front-end comparator (R92); reset false -/
  ovlNeg : Bool
  /-- the stuck-bit detector of the serving slice has tripped (R98); reset false -/
  stuck : Bool
  /-- state of the DC high-pass (R87): last input and last output; reset 0 -/
  hpX : Int
  hpY : Int
  /-- a clip event is open (R92); reset false -/
  clipOpen : Bool
deriving DecidableEq, Repr

/-- One mic-bias regulator (R79); reset off. -/
inductive BiasPhase
  | off | rampUp | on | rampLevel | rampDown | latched
deriving DecidableEq, Repr

/-- A running slice substitution of one group (R100, R124): the unit it serves, the spare brought in, the spare's state
before, whether a fault posted it, whether the crossfade is under way, its failed windows, the samples of the crossfade that
have passed (0 to 64), the newest decimated sample of an ADC spare and its newest sample ahead of decimation, in 24-bit LSB, and
the windows restarted or repeated. -/
structure Subst where
  unit : Nat
  spare : Nat
  prev : Nat
  fault : Bool
  crossfade : Bool
  failed : Nat
  pos : Nat
  raw : Int
  tap : Int
  restarts : Nat
deriving DecidableEq, Repr

/-- BEEP's state beside its registers (R81). -/
structure Beep where
  phase : AinPhase
  fade : Fade
  muteFade : Fade
  fill : Nat
  rate : Nat
  filter : Nat
  /-- engine frames for which ACTIVE still holds (10 ms after the last sample above −40 dBFS); reset 0 -/
  activeLeft : Nat
deriving DecidableEq, Repr

/-! ## Outputs and jacks (chapter 05) -/

/-- Where a DAC channel stands in its start, change or stop sequence (R114 to R116, R119). -/
inductive AoutPhase
  | off | starting | waitPump | waitVref | waitClk | waitVhold | unmuting | running
  | recMute | recFill | recRamp | stopping | quiesced | fault
deriving DecidableEq, Repr

/-- One DAC channel's state beside its registers. -/
structure Aout where
  /-- step of the running sequence; reset off -/
  phase : AoutPhase
  /-- pop-control gain (R108); reset 0 -/
  pop : Fade
  /-- length of the ramp under way, in µs; reset 5000 -/
  popUs : Nat
  /-- volume (R116); reset 0 dB, settled -/
  vol : DbRamp
  /-- rate and filter in effect, codes of AOUTc_FMT; reset 6, 0 -/
  rate : Nat
  filter : Nat
  /-- the pair's HP_MODE in effect is BRIDGED (R110, R115); reset false -/
  bridge : Bool
  /-- what the interpolator still fills (R115), in samples times Fe; reset 0 -/
  fill : Nat
  /-- sink samples in the interpolator, newest first, at most 34 (R112); reset empty -/
  win : List Int
  /-- RUNNING, or MUTED, when QUIESCE stopped it (R119); reset false -/
  wasOn : Bool
  /-- the element monitor has found an element outside its limits (R123); reset false -/
  element : Bool
  /-- modulator input m of the last engine frame (R108); reset 0 -/
  out : Int
deriving DecidableEq, Repr

/-- One jack's state beside its registers (R126 to R134). -/
structure Jack where
  /-- HPn_DET level, filtered; reset high -/
  detHigh : Bool
  /-- an insertion latched while PD_AOUT is off (R130); reset false -/
  latched : Bool
  /-- the jack bias; reset off -/
  bias : BiasPhase
deriving DecidableEq, Repr

/-! ## Speaker channels (chapter 06) -/

/-- Where a speaker channel stands in its sequences (R154 to R158). -/
inductive SpkPhase
  | off | waiting | unmuting | running | recMute | recFill | recRamp | stopping | faultStop | uvRamp | quiesced | fault
deriving DecidableEq, Repr

/-- Guard parameters as they are in effect (R150): the registers of the model as the last 1 ms update found them. -/
structure SpkModel where
  re25 : Nat
  alpha : Nat
  fres : Nat
  qts : Nat
  xsens : Nat
  xlim : Nat
  rthC : Nat
  tauC : Nat
  rthM : Nat
  tauM : Nat
deriving DecidableEq, Repr

/-- The carrier of a speaker stage (R142, R143): its spread and phase in effect, the divider and the direction of its sweep, and the
time since the last carrier period began, in 1/Fe of a 196.608 MHz clock. -/
structure Carrier where
  spread : Nat
  phase : Nat
  div : Nat
  up : Bool
  time : Nat
deriving DecidableEq, Repr

/-- What a speaker's sense converters have given (R144, R148, R149): the newest voltage; the sums of v·i and i² and the sample count of
the present millisecond; the (sum, count) of v·i of the ten milliseconds before, newest first; the mean i² of the last one in mA²; the
memory of the resistance measurement's band filters and its block's sums and count. -/
structure SpkSense where
  v : Int
  vi : Int
  ii : Nat
  count : Nat
  past : List (Int × Nat)
  i2 : Nat
  bandV : Int
  bandI : Int
  blockVI : Int
  blockII : Nat
  blockN : Nat
deriving DecidableEq, Repr

/-- One speaker channel's state beside its registers. Gains are in 1/65,536 dB, −120 dB standing for zero; temperatures in
1/65,536 °C. -/
structure Spk where
  /-- step of the running sequence; reset off -/
  phase : SpkPhase
  /-- pop_gain (R139); reset 0 -/
  pop : Fade
  /-- length of its ramp under way, in µs; reset 5000 -/
  popUs : Nat
  /-- volume (R139); reset 0 dB -/
  vol : DbRamp
  /-- rate, filter and full scale in effect (R140, R141); reset 6, 0, 2 -/
  rate : Nat
  filter : Nat
  fs : Nat
  /-- interpolator samples still to fill, times Fe; reset 0 -/
  fill : Nat
  /-- the carrier (R143); reset 512, spread 1, phase n -/
  car : Carrier
  /-- fault codes of R159 whose condition or latch still holds; reset none -/
  active : List Nat
  /-- the third overcurrent within 10 s has latched (R159); reset false -/
  latched : Bool
  /-- milliseconds of the present overcurrent window (R159); reset 0 -/
  ocMs : Nat
  /-- 10 ms average of y² (R146), in 2^-62 of full scale squared; reset 0 -/
  avg : Nat
  /-- g_ceil, g_x and g_th (R146, R147); reset zero, 0 dB, 0 dB -/
  gCeil : Int
  gX : Int
  gTh : Int
  /-- guard parameters in effect (R150); reset those of the registers -/
  par : SpkModel
  /-- T_c and T_m (R148); reset 0 -/
  tc : Int
  tm : Int
  /-- modelled excursion of the last two samples, in 1/10,240 µm (R147); reset 0 -/
  x1 : Int
  x2 : Int
  /-- peak modelled excursion of the present 100 ms, in µm; reset 0 -/
  xPeak : Nat
  /-- consecutive invalid resistance blocks (R149); reset 0 -/
  invalid : Nat
  /-- the models have been seeded since reset or loss (R150); reset false -/
  seededOnce : Bool
  /-- position of the pilot sine (R149), in 1/(80 · rate) of a period; reset 0 -/
  pilotPos : Nat
  /-- sense samples (R144); reset 0 -/
  sense : SpkSense
  /-- fraction of a channel sample that has passed while the table gives no stream, in 1/Fe; reset 0 -/
  credit : Nat
  /-- output samples the interpolator holds, newest first (R140); reset none -/
  win : List Int
  /-- newest output sample (R139), limited at the supply (R141, R142); reset 0 -/
  out : Int
  /-- what the stage drives, interpolated, in 2^-31 of FS_PK; reset 0 -/
  drive : Int
deriving DecidableEq, Repr

/-! ## Lanes (chapter 07) -/

/-- Where a lane stands (R163, R169, R174, R190). `alloc` is step 2 of R174, `poolWait` the wait for pool blocks (R176),
`srcRamp` step 1 of R169, `stopping` the ramp of a cleared ENABLE. -/
inductive LanePhase
  | off | waitCap | alloc | waitSrc | poolWait | filling | rampUp | running | srcRamp | stopping | quiescing | quiesced
deriving DecidableEq, Repr

/-- The rate-domain event a lane's event gain answers (R22, R175): ramp to zero, wait for the domain, refill, ramp up. -/
inductive EvPhase
  | none | down | wait | refill | up
deriving DecidableEq, Repr

/-- How a lane gets its input rate (R21, R173). -/
inductive SrcKind
  | zero | bypass | fixed | tracked
deriving DecidableEq, Repr

/-- Direct-form state of one second-order stage: x[t−1], x[t−2], y[t−1], y[t−2]. -/
structure Biq where
  x1 : Int
  x2 : Int
  y1 : Int
  y2 : Int
deriving DecidableEq, Repr

/-- One biquad chain: its 51 words (sparse, zero unlisted; R180) and the state of its ten stages. -/
structure Chain where
  words : List (Nat × Word)
  regs : Vector Biq 10
deriving DecidableEq, Repr

/-- One notch setting of R179 (the fields of LANEn_HUM) and the state of its up to four notches. -/
structure Notch where
  harm : Nat
  width : Nat
  src : Nat
  regs : Vector Biq 4
deriving DecidableEq, Repr

/-- Where a commit of a lane stands (R182, R183). -/
inductive CommitPhase
  | idle | atFrame | waitCap | xfade
deriving DecidableEq, Repr

/-- State of the dynamics stage (R184); gains in 1/65,536 dB. -/
structure Dyn where
  /-- samples of the last 10 ms, newest first, for DET = 1; reset empty -/
  win : List Int
  /-- gate gain and whether the gate is open; reset 0, open -/
  gate : Int
  gateOpen : Bool
  /-- frames the level has stayed 3 dB below the gate's threshold; reset 0 -/
  below : Nat
  /-- smoothed gain and limiter gain; reset 0, 0 -/
  gain : Int
  lim : Int
deriving DecidableEq, Repr

/-- One meter (R187): the running window's peak, sum of squares and sample count. -/
structure Meter where
  peak : Nat
  sum : Nat
  n : Nat
deriving DecidableEq, Repr

/-- Words of the registers a capacity wait holds back, as they are in effect (R193). -/
structure LaneEff where
  src : Word
  out : Word
  dcb : Word
  hum : Word
  coef : Word
  dyn : Word
  delay : Word
  ctl : Word
deriving DecidableEq, Repr

/-- Where a poisoned sample stands that a lane has still to read (R189): in its delay line, in its converter buffer, in the
ring it reads. -/
inductive BadSample
  | delay (k : Nat) | buffer (k : Nat) | ring
deriving DecidableEq, Repr

/-- One lane's state beside its registers. -/
structure Lane where
  /-- step of the running sequence; reset off -/
  phase : LanePhase
  /-- source ID and direction applied (R167, R169); reset 0, false -/
  sid : Nat
  dir : Bool
  /-- how the lane gets its rate, the domain, the rate in Hz, the engine rate not included; reset zero, 0, 0 -/
  kind : SrcKind
  dom : Nat
  hz : Nat
  /-- register words in effect (R193); reset the registers' -/
  eff : LaneEff
  /-- a tracked source's ratio is out of range (R170); the last start was refused for capacity (R193); reset false -/
  ratioBad : Bool
  refused : Bool
  /-- the ratio loop's rate in 2^-32 of 0.01 Hz (R173), and whether a glitched frame period keeps it still (R175); reset 0, false -/
  loop : Int
  loopSkip : Bool
  /-- frames still to fill (R174 step 4, R175); reset 0 -/
  fill : Nat
  /-- mute gain and its ramp time in µs (R163, R169, R188, R190); reset 1, 5,000 -/
  mute : Fade
  muteUs : Nat
  /-- event gain (R22, R174); reset 0 -/
  event : Fade
  ev : EvPhase
  /-- fault gain (R189); reset 1 -/
  fault : Fade
  /-- trim gain, polarity in effect and the step of a polarity change: 0 none, 1 down, 2 up (R177); reset 0 dB, false, 0 -/
  trim : DbRamp
  inv : Bool
  flip : Nat
  /-- converter buffer, newest first; samples between the read point and the newest one in
  1/(100·Fe) of a sample (1/(100·Fs_out) for an OUTBOUND lane); its slip crossfade, whose
  values are sample offsets (R172, R175); reset empty, 0, none -/
  buf : List Int
  ahead : Int
  slip : Blend Int
  /-- last 64 outputs of the converter, newest first, and the steps of the backwards-and-forwards reading (R175) -/
  tail : List Int
  pingpong : Nat
  /-- DC block state (R178); reset 0 -/
  dcX : Int
  dcY : Int
  /-- hum notches and their crossfade (R179); reset off -/
  notch : Blend Notch
  /-- active coefficient chain and its crossfade (R182); reset zero -/
  chain : Blend Chain
  /-- the running commit, and a held one (R183); reset idle, false -/
  commit : CommitPhase
  held : Bool
  /-- dynamics stage (R184) -/
  dyn : Dyn
  /-- delay line, newest first, and its tap crossfade (R186); reset empty, tap 0 -/
  line : List Int
  tap : Blend Nat
  /-- meters and the window in effect (R187); reset empty, 2 -/
  meterIn : Meter
  meterOut : Meter
  win : Nat
  /-- the sequence shows RESTART (R169); reset false -/
  restart : Bool
  /-- the sample that enters the dynamics stage in the running frame -/
  mid : Int
  /-- the output of the last frame (R164); for an OUTBOUND lane the samples it converted in that frame; reset 0, empty -/
  out : Int
  outs : List Int
  /-- poisoned samples the lane has still to read (R189, R411): their place, counted as `line` and `buf` are; reset empty -/
  bad : List BadSample
deriving DecidableEq, Repr


/-! ## The Churn and the Fife path (chapter 08) -/

/-- A crosspoint whose gain moves (R201): its ramp, the polarity in effect, and a pending flip: the polarity and the ramp
class that follow the 1 ms ramp to zero. -/
structure Xp where
  gain : DbRamp
  inv : Bool
  flip : Option (Bool × Nat)
deriving DecidableEq, Repr


/-! ## Ports (chapter 09) -/

/-- Where a SAP stands (R237, R238). -/
inductive SapPhase
  | off | waitClk | starting | running | rampReconf | reconf | rampStop | lowStop | quiescing | quiesced | fault
deriving DecidableEq, Repr

/-- What a port drives in one bit-clock period (R226): the FS level, none where the partner drives it, and DOUT, none while the
ball is released (R234). -/
structure SapBit where
  fs : Option Bool
  dout : Option Bool
deriving DecidableEq, Repr

/-- One serial audio port's state beside its registers. -/
structure Sap where
  /-- step of the running sequence; reset off -/
  phase : SapPhase
  /-- port gain (R237); reset 1 -/
  fade : Fade
  /-- MASTER, SAPp_FMT and PACK in effect; reset slave, the register's reset word, 0 -/
  master : Bool
  fmt : Word
  pack : Nat
  /-- slot masks and IDLE_HIZ in effect (R233, R234); reset 3, 3, false -/
  maskTx : Nat
  maskRx : Nat
  idleHiz : Bool
  /-- receive mask of the frame under way (R233); reset 3 -/
  maskFrame : Nat
  /-- receive frames not yet read by the engine, oldest first (R235); reset empty -/
  rx : List (List Int)
  /-- transmit samples by slot, oldest first, not yet sent; reset empty -/
  tx : Vector (List Int) 16
  /-- transmit slots whose sink takes zeros by rule (R208), a bit for each; reset all -/
  txZero : Nat
  /-- the last frame sent on DOUT: a slot word, none where the ball is released (R234); reset empty -/
  dout : List (Option Nat)
  /-- the frame on the wire, period by period from its frame edge (R226); empty while FS and DOUT are low or released -/
  wire : List SapBit
  /-- the bit that falls in period 0 of the next frame: the last slot's LSB in I2S and with OFFSET = 1 (R226); reset low -/
  carry : Option Bool
  /-- frames left of the low stop (R237); reset 0 -/
  low : Nat
  /-- ran when QUIESCE came (R238); reset false -/
  ran : Bool
deriving DecidableEq, Repr

/-- Where a PDM clock group stands (R243). -/
inductive PdmPhase
  | off | waitClk | changing | settling | filling | rampUp | running | quiesced
deriving DecidableEq, Repr

/-- One PDM clock group. -/
structure PdmGrp where
  phase : PdmPhase
  /-- clock code, rate and filter in effect (R240, R242); reset 0, 6, 0 -/
  freq : Nat
  rate : Nat
  filter : Nat
  /-- samples still to pass in the settle or fill step (R243); reset 0 -/
  left : Nat
  /-- group gain, raised-cosine over 1 ms (R243); reset 0 -/
  fade : Fade
  /-- the held change takes the group (R34, R243); reset false -/
  held : Bool
  /-- the data lines on the group's clock, a bit for each: CLKSEL in effect (R241, R243); reset all on group 0 -/
  lines : Nat
deriving DecidableEq, Repr

/-- One PDM microphone. -/
structure Mic where
  /-- its newest ring word is poisoned: the next sample reads as zero (R32); reset false -/
  bad : Bool
  /-- samples its decimator still fills (R243); reset 0 -/
  fill : Nat
  /-- its own gain: 1 ms when it joins, 5 ms after an absence (R243, R244), and that of privacy (R245); reset 1, 1 -/
  fade : Fade
  fadeUs : Nat
  privFade : Fade
  /-- high-pass state (R242); reset 0 -/
  hpX : Int
  hpY : Int
deriving DecidableEq, Repr

/-- The S/PDIF receiver beside its registers. -/
structure SpdRx where
  /-- last sample delivered for each subframe (R247); reset 0 -/
  lastA : Int
  lastB : Int
  /-- channel status bits of the block in progress, latest first, and the last whole block (R248); reset empty -/
  cs : List Bool
  csPrev : List Bool
  /-- a block has been latched (R248); reset false -/
  latched : Bool
  /-- frames since the last sync frame (R249), none before one; reset none -/
  sync : Option Nat
  /-- the next frame's subframe A carries Pc of a burst (R249); reset false -/
  pc : Bool
  /-- source gain (R249), 5 ms; reset 1 -/
  fade : Fade
  /-- samples not yet read by the engine, oldest first; reset empty -/
  rx : List (Int × Int)
  /-- the received frame not yet resent (R252); reset none -/
  pass : Option SpdFrame
deriving DecidableEq, Repr

/-- Where the S/PDIF transmitter stands (R250 to R254). -/
inductive SpdTxPhase
  | off | waitClk | pcm | rampReconf | enter | passthrough | exit | quiesced
deriving DecidableEq, Repr

/-- The S/PDIF transmitter beside its registers. -/
structure SpdTx where
  phase : SpdTxPhase
  /-- rate in effect; reset 6 -/
  rate : Nat
  /-- frame number in the block (0 to 191) and the channel status of the block (R250); reset 0, empty -/
  pos : Nat
  cs : List Nat
  /-- sink gain and its ramp time in µs (R251, R253); reset 1, 1,000 -/
  fade : Fade
  fadeUs : Nat
  /-- samples of sinks 44 and 45, oldest first, and which of them take zeros by rule; reset empty, both -/
  txA : List Int
  txB : List Int
  zero : Nat
  /-- zero frames left of a switch (R253); reset 0 -/
  left : Nat
  /-- the last frame sent; reset none -/
  sent : Option SpdFrame
deriving DecidableEq, Repr


/-! ## Clocks (chapter 10) -/

/-- A rate tracker beside its registers (R278 to R282). -/
structure Trk where
  /-- nominal rate in Hz (R280); reset 48,000 -/
  nomHz : Nat
  /-- locked measured rate, in 0.01 Hz, against which a rate change is judged; reset 0 -/
  lockRate : Nat
  /-- rate of the attempt's last completed window, 0 before one; reset 0 -/
  winRate : Nat
  /-- consecutive glitches and rate-change frames (R281); reset 0 -/
  glitches : Nat
  changes : Nat
  /-- it has locked since its endpoint entered tracked operation; reset false -/
  locked : Bool
  /-- the first period after a resume is not judged (R281); reset false -/
  skip : Bool
  /-- timing-counter ticks and frames of the running window (R279); reset 0, 0 -/
  sum : Nat
  frames : Nat
deriving DecidableEq, Repr

/-- The PVDD ripple (R283): the band filter's memory and last output in µV; crystal periods, sum of squares and samples since the last
zero crossing that counted; 0 before the first crossing, 1 after one that counted, 2 after the one between. -/
structure Ripple where
  mem : Int
  y : Int
  ticks : Nat
  sq : Nat
  n : Nat
  half : Nat
deriving DecidableEq, Repr

/-- The mains frequency tracker (R283) and the centre of tracked notches (R179). -/
structure Mains where
  /-- last accepted periods in 1/24 MHz, newest first, at most 8; reset empty -/
  periods : List Nat
  /-- consecutive accepted periods up to 4, accepted periods up to 4 in all; reset 0, 0 -/
  run : Nat
  seen : Nat
  /-- ripple periods since the last accepted MAINS_SYNC period (automatic source); reset 0 -/
  quiet : Nat
  /-- a valid frequency has been reported since reset; reset false -/
  ever : Bool
  /-- the PVDD ripple; reset 0 -/
  rip : Ripple
  /-- notch centre in 0.001 Hz: where it started, where it goes, frames passed and frames of the interpolation; 50 Hz -/
  start : Nat
  goal : Nat
  pos : Nat
  len : Nat
deriving DecidableEq, Repr

/-- A running takeover beside its registers (R273 to R276): engine frames left of its RAMP; it only swaps roles, as fixed at
dispatch; the replaced PLL has unlocked, so that the muted window follows without a RAMP; islands that have switched, in the order of
R274 step 4. -/
structure Tko where
  left : Nat
  swap : Bool
  lost : Bool
  done : Nat
deriving DecidableEq, Repr

/-- An engine-rate change (R271): none, the mute ramp of step 2, waiting for the new family's PLL, and whether one is held
by a takeover. -/
inductive FePhase
  | none | ramp | waitPll | held
deriving DecidableEq, Repr


/-! ## Listening (chapter 12) -/

/-- Where the listening block stands (R314, R316): starting, the steps of a clock change, quiesced. -/
inductive LstPhase
  | off | waitClk | starting | listening | rampDown | gapClock | gapSettle | gapFill | rampUp | quiesced | fault
deriving DecidableEq, Repr

/-- A listening microphone's own decimator (R311, R314). -/
structure LstMic where
  /-- samples its decimator still fills; reset 0 -/
  fill : Nat
  /-- its own gain: it joins and leaves over 1 ms; reset 0 -/
  fade : Fade
deriving DecidableEq, Repr

/-- The history stream to the host (R304, R305, R332). -/
structure Hist where
  /-- a stream runs; reset false -/
  on : Bool
  /-- a start has been accepted since arming; reset false -/
  started : Bool
  /-- span (counter / 256) of the next record, and the first span that is live; reset 0, 0 -/
  next : Nat
  live : Nat
  /-- the raw record of the next span is sent, its curd record follows; reset false -/
  half : Bool
  /-- flags of the next record: DISCONT, PRIVACY; reset false -/
  disc : Bool
  priv : Bool
  /-- array samples of completed live spans, oldest first: span, and one list of 16 values a sample (R332); reset empty -/
  array : List (Nat × List (List Int))
  /-- bytes of the record on endpoint 0x88 that are still to be sent (R304); reset empty -/
  out : List Nat
  /-- the stream has been stopped and ends with the record (R305); the short or zero-length packet that ends it is due; reset false -/
  ending : Bool
  last : Bool
deriving DecidableEq, Repr

/-- The listening block beside its registers. -/
structure Lst where
  phase : LstPhase
  /-- samples left of the running step (R314); reset 0 -/
  left : Nat
  /-- gain of a clock change (R314) and after a privacy release (R245); reset 1, 1 -/
  fade : Fade
  priv : Fade
  /-- samples written since reset: LST_COUNTER is its low 32 bits (R317); reset 0 -/
  total : Nat
  /-- spans that begin at or after this count are valid (R328); reset 0 -/
  validFrom : Nat
  /-- a clock change waits for its start (R314); reset false -/
  due : Bool
  /-- zero samples of the running gap (R314); reset 0 -/
  gap : Nat
  /-- SLEEP_STOP applies (R312); reset false -/
  sleep : Bool
  /-- high-pass state of the detector (R318); reset 0 -/
  hpX : Int
  hpY : Int
  /-- filtered samples of the running frame, oldest first; reset empty -/
  acc : List Int
  /-- floor F in 0.00001 dB (R318); reset −60 dBFS -/
  floor : Int
  /-- onset frames and quiet frames counted (R318); reset 0 -/
  onset : Nat
  quiet : Nat
  /-- consecutive frames at or above DET_THR by class, the last scores, a detection in this phrase (R322); reset empty, empty, false -/
  runs : List Nat
  scores : List Int
  detected : Bool
  /-- counter of the last sample of the last frame (R329); reset 0 -/
  frameEnd : Nat
  /-- newest samples of the spotter's window, newest first, at most 400, and feature frames, newest first (R320); reset empty -/
  win : List Int
  feats : List (List Int)
  /-- samples of the span being filled, newest first: 16 values each, one for each microphone (R326); reset empty -/
  span : List (List Int)
  /-- step index of each curd channel (R327); reset 0 -/
  step : Vector Nat 16
  mics : Vector LstMic 16
  /-- words written in the running load and the highest window index of the open block (R324); reset 0, none -/
  ptr : Nat
  top : Option Nat
  /-- END has been written and the check runs (R324); reset false -/
  ended : Bool
  hist : Hist
  /-- the clock group in effect while a change of LST_CFG.GROUP is held or waits (R315, R335); reset none -/
  heldGroup : Option Nat
deriving DecidableEq, Repr


/-! ## USB function (chapter 11) -/

/-- One OUT interface's stream (R296, R297). -/
structure UsbOut where
  /-- packets have come since the alternate setting was selected; reset false -/
  started : Bool
  /-- frames of this bus interval, of the one before, and those lanes may take, oldest first (R296); reset empty -/
  hold : List (List Int)
  mid : List (List Int)
  ready : List (List Int)
  /-- received frames, newest first, at most 256, and the next of them a backward reading takes (R297); reset empty, 0 -/
  last : List (List Int)
  back : Nat
  /-- samples left of the crossfade at the join into a backward reading, and of that at the join out of it, 16 at their start; reset 0 -/
  lead : Nat
  join : Nat
deriving DecidableEq, Repr

/-- One IN interface's stream (R296). -/
structure UsbIn where
  /-- channel samples from the sinks, oldest first; reset empty -/
  fifo : Vector (List Int) 16
  /-- frames of this bus interval and of the one before; reset empty -/
  now : List (List Int)
  prev : List (List Int)
  /-- the last packet sent, as bytes; reset empty -/
  sent : List Nat
deriving DecidableEq, Repr

/-- The USB function beside its registers. -/
structure Usb where
  /-- PHY PLL locked (R286); reset false -/
  phy : Bool
  /-- a forced reconnect holds the pull-up off (R287); reset false -/
  reconnect : Bool
  /-- the descriptor registers as they stood at the connect (R287), from USB_CFG on in register order; reset empty -/
  desc : List Word
  /-- what the host got last: a STALL (or NYET), and the data bytes of an IN stage; reset false, empty -/
  stall : Bool
  reply : List Nat
  /-- input reports waiting, oldest first (R300); reset empty -/
  hid : List (List Nat)
  /-- an enabled remote-wake source fired; it is held for the 5 ms of idle; the 5 ms are over; L1 permits it; K states sent
  (R307); reset false, false, false, false, 0 -/
  wakeReq : Bool
  wakeHeld : Bool
  idle5 : Bool
  l1Wake : Bool
  kSent : Nat
  /-- a clock-source interrupt waits on endpoint 0x86 (R294); reset false -/
  clockInt : Bool
  /-- sample-clock phase against the engine frame (R20, R296), in 0.01 Hz; reset 0 -/
  phase : Nat
  /-- consecutive bus intervals without a SOF (R282); reset 0 -/
  sofMiss : Nat
  /-- the running feedback measurement (R282): timing-counter ticks and bus intervals; the last result, 16.16, none before one; reset
  0, 0, none -/
  fbSum : Nat
  fbN : Nat
  fbCount : Option Nat
  /-- streaming interfaces, a bit for each, that a suspend stopped and the host has not selected again (R306); reset none -/
  held : Nat
  outs : Vector UsbOut 2
  ins : Vector UsbIn 2
  /-- feature-unit gains (R289); reset 0 dB -/
  fu : Vector DbRamp 4
  /-- snapshot read in progress: next window offset and bytes left, and whether a word has violated (R303); reset none -/
  snap : Option (Nat × Nat × Bool)
  /-- the status of the last vendor request: its code and the words performed (R301); reset 0 -/
  vCode : Nat
  vWords : Nat
  /-- an image comes over endpoint 0x07 (R302); reset false -/
  imgRx : Bool
deriving DecidableEq, Repr


/-! ## Power states (chapter 14) -/

/-- The power-state sequencer beside its registers (R362 to R374). -/
structure Pwr where
  /-- state the running entry started from (R364); reset RUN -/
  start : Nat
  /-- participants that refused in this attempt, as a bit map (R366); reset none -/
  refused : Nat
  /-- wake sources that fired since S1 began (R367); reset none -/
  wakes : List Nat
  /-- CANCEL was written since S1 began (R367); reset false -/
  cancel : Bool
  /-- operating point before S2 and acknowledged point before S5 (R365, R367); reset OP0 -/
  op : Nat
  ack : Nat
  /-- the voltage request of S5 was made (R367); reset false -/
  s5 : Bool
  /-- cause and abort point of the running unwind; reset 0 -/
  cause : Nat
  ap : Nat
  /-- freeze took hold during S1 to S5 (R370); reset false -/
  frozen : Bool
  /-- source of the wake that runs, or of the late wake that waits for the end of S6 (R369, R374); reset none -/
  waking : Option Nat
  late : Bool
  /-- MIC_PRIVACY_N was asserted while the listening island was retained (R373); reset false -/
  privacy : Bool
  /-- first-access NACKs the AON matcher has given since S6 (R439); reset 0 -/
  nacks : Nat
  /-- blocks have been through the isolation of S4 and have not restarted since (R365, R367); reset false -/
  iso : Bool
  /-- the unwind's voltage request has ended in freeze (R370): whether it was acknowledged; reset none -/
  unwound : Option Bool
deriving DecidableEq, Repr


/-! ## Sense converters (chapter 13) -/

/-- The reed conversion in progress (R349): none, a drone's, a sequence entry's, the urgent one, with its latched word. -/
inductive Conv
  | none | drone (k : Nat) (w : Word) | seq (k : Nat) (w : Word) | urgent (w : Word)
deriving DecidableEq, Repr

/-- The sense island beside its registers (R338 to R359). -/
structure Sns where
  /-- LAST of the running run (R346); reset 0 -/
  last : Nat
  /-- the running entry and its latched word; it waits for the reed converter (R349); reset none, false -/
  entry : Option (Nat × Word)
  waiting : Bool
  /-- RUN was cleared during the run; the last entry has completed; reset false -/
  endRun : Bool
  ended : Bool
  /-- reed conversion in progress; the one before it was a sequence entry's; next drone of the round; reset none -/
  conv : Conv
  prevSeq : Bool
  rr : Nat
  /-- latched word of the pending urgent request (R350); reset 0 -/
  urg : Word
  /-- the running integrator entry (R341): N of its window; windows ended, their clock periods, and what they have integrated, in
  2^-19 of the span times a clock period; the supply power over the ticks of its windows (R389); reset 0 -/
  n : Nat
  wins : Nat
  periods : Nat
  acc : Int
  pSum : Int
  pCnt : Nat
  /-- sum and count of each drone's codes in this tick (R351); reset 0 -/
  sums : Vector (Nat × Nat) 4
  /-- the posted procedure (PROC, INPUT), and whether it runs (R357); reset none, false -/
  diag : Option (Nat × Nat)
  diagRun : Bool
  /-- V0 of PROC 1 or 2 in 1/16 code, once its injection runs (R357); reset none -/
  inject : Option Int
  /-- slice under test (R358, R359); reset none -/
  adcTest : Option Nat
  dacTest : Option Nat
  /-- NTC channels that owe a valid result before fault 0x01 ends (R361); reset 0 -/
  ntcBad : Nat
deriving DecidableEq, Repr


/-! ## Regulator link and Bellows (chapters 14 and 15) -/

/-- Why a voltage is requested (R378). -/
inductive PmbKind
  | raise | lower | s5 | unwind | off
deriving DecidableEq, Repr

/-- Progress of a request (R379): none, waiting to be sent, settling, polling. -/
inductive PmbPhase
  | idle | send | settle | poll
deriving DecidableEq, Repr

/-- The regulator link beside its registers. -/
structure Pmb where
  phase : PmbPhase
  /-- kind and operating point of the request, and whether it is the repeat (R380); reset raise, 0, false -/
  kind : PmbKind
  op : Nat
  again : Bool
  /-- the start of R375 is due; reset false -/
  linkDue : Bool
  /-- PMB_CMD carried out when the exchange ends (R384): the values a read will give and how its exchange fails (R377), 0 not at
  all; how that of a CLEAR_FAULTS fails; reset none -/
  cmdRead : Option (Nat × Nat × Nat)
  cmdClear : Option Nat
deriving DecidableEq, Repr

/-- A start of the thermal model that waits for the next tick (R395). -/
inductive BlwStart
  | none | cold | warm (ms : Nat)
deriving DecidableEq, Repr

/-- Bellows beside its registers (R386 to R403). Energies in nJ, temperatures in 2^-40 K. -/
structure Blw where
  start : BlwStart
  e : Int
  base : Vector Int 6
  poles : Vector (Vector Int 3) 6
  /-- the zone has had a valid value since the last cold start; reset false -/
  seen : Vector Bool 6
  /-- consecutive ticks: above WARN + 0.20 V (R390), below every trip end (R396), overbudget (R399), below OP_NOW (R400), with
  PGOOD high (R381); reset 0, the last 10 -/
  good : Nat
  cool : Nat
  overs : Nat
  low : Nat
  pgood : Nat
  /-- corrections of the reservoir from the integrator's results since the last tick, oldest first (R27, R389); reset none -/
  fix : List Int
deriving DecidableEq, Repr


/-! ## Memory (chapter 16) -/

/-- One repeat-tracker entry (R412). -/
structure TrackEntry where
  addr : Nat
  count : Nat
  laps : Nat
deriving DecidableEq, Repr

/-- An internal access that a wipe stalls (R73): the words left of a write, with the violation its transfer has met (R70); a read; a
read-modify-write. -/
inductive Stall
  | write (a : Nat) (words : List Word) (code : Nat)
  | read (a k : Nat)
  | rmw (a : Nat) (mask value : Word)
deriving DecidableEq, Repr

/-- The memory block beside its registers. -/
structure Mem where
  /-- Skimmer position of each bank (R416); reset 0 -/
  pos : Vector Nat 32
  /-- repeat tracker (R412); reset free -/
  track : Vector (Option TrackEntry) 32
  /-- hard words that await their job, oldest first (R412); reset none -/
  hard : List Nat
  /-- rows that spare rows serve: bank · 128 + row, and the spare row (R413); reset none -/
  rows : List (Nat × Nat)
  /-- the running copy: false row remap, true migration; bank; row or spare bank (R413, R414); reset none -/
  copy : Option (Bool × Nat × Nat)
  /-- an overall lap runs; banks that have not lapped (R417); reset false, none -/
  lapOn : Bool
  lapLeft : List Nat
deriving DecidableEq, Repr


/-! ## Management bus (chapter 17) -/

/-- The management bus beside its registers. -/
structure Smb where
  /-- bytes the target drove in the last read transaction (R430); reset none -/
  reply : List Nat
  /-- the final written byte of the last transaction was ACKed (R429); reset false -/
  ack : Bool
  /-- word of the Host Notify on the bus (R441); reset 0 -/
  word : Nat
  /-- a NACK's RETRY delay runs (R444); reset false -/
  retry : Bool
  /-- word whose tries were exhausted (R444); reset none -/
  failed : Option Nat
  /-- a recovery try that SMB_REC_CTRL started runs on the SMBus port, on the regulator port (R446); reset false -/
  single0 : Bool
  single1 : Bool
deriving DecidableEq, Repr


/-! ## Spare capacity, OTP, life cycle and debug (chapter 18) -/

/-- A running MAC substitution or check (R460): unit, frames still to compare, whether it is a check, and (for a
substitution) whether its shadow frames are over, so that the switch is due. -/
structure MacJob where
  unit : Nat
  left : Nat
  check : Bool
deriving DecidableEq, Repr

/-- An OTP access that runs (R474): a program (or a read), its word number, the data to program. -/
structure OtpOp where
  prog : Bool
  word : Nat
  data : Word
deriving DecidableEq, Repr

/-- The life-cycle block beside its registers. -/
structure Lcy where
  /-- the running code check: unlock (or token), and whether the digest matches (R472); reset none -/
  check : Option (Bool × Bool)
  /-- a transition runs (R473); reset false -/
  trans : Bool
  /-- the running OTP access (R474); reset none -/
  op : Option OtpOp
  /-- the OTP failed its own verification at the load: the capabilities of FIELD hold (R481); reset false -/
  unverified : Bool
deriving DecidableEq, Repr

/-- The test access port (R466, R467): the instruction register (reset BYPASS), the access register's last result, the
boundary-scan register as captured and as updated. -/
structure Jtag where
  ir : Nat
  result : Nat
  captured : List Bool
  driven : List Bool
deriving DecidableEq, Repr

/-- Where the hub stands between reset and the loader (R51, R480): running, in reset until a power-on reset ends, or at
t = 0 of a cold start with the given cause (the bit of SYS_RESET_CAUSE). -/
inductive Boot
  | up
  | held
  | start (cause : Nat)
deriving DecidableEq, Repr


/-! ## The image loader (chapter 19) -/

/-- What the loader does: nothing; waits for the flash; receives an image over USB; holds one to check; performs records;
polls a WAIT; waits out a DELAY; waits for a COMMIT. -/
inductive LoadState
  | idle | flash | receive | staged | run | poll | delay | commit
deriving DecidableEq, Repr

/-- The loader (R483 to R492). -/
structure Loader where
  /-- what it does; reset idle -/
  st : LoadState
  /-- source: 1 flash slot A, 2 slot B, 3 USB; reset 0 -/
  source : Nat
  /-- length announced by IMAGE_BEGIN, and bytes received (R302, R489); reset 0 -/
  length : Nat
  got : Nat
  /-- images read from flash: slot and words (R483); reset none -/
  slots : List (Nat × List Word)
  /-- byte offset of the record in force; reset 0 -/
  pos : Nat
  /-- microseconds of the running WAIT (R487); reset 0 -/
  waited : Nat
  /-- lanes of the running COMMIT still to finish, the first one running (R487); reset none -/
  lanes : List Nat
  /-- result word and offset of IMAGE_STATUS (R491); reset 0 -/
  result : Word
  offset : Nat
deriving DecidableEq, Repr


/-! ## Values after reset -/

/-- A settled fade: gain 1 (`up`) or gain 0. -/
def Fade.at1 : Fade := ⟨1, 1, true⟩

/-- A settled fade at gain 0. -/
def Fade.at0 : Fade := ⟨0, 1, false⟩

/-- A free job slot. -/
def Job.empty : Job := ⟨0, 0, 0, .free, false, 0, 0, 0, 0, 0, 0⟩

/-- The queue after the cold start (R453): tests of the spare ADC slices ASL16 and ASL17, which are UNCAL. -/
def Job.boots : Vector Job 16 :=
  (Vector.replicate 16 Job.empty).set 0 ⟨1, 2, 16, .queued, false, 0, 17, 0, 0, 0, 0⟩ |>.set 1 ⟨2, 2, 17, .queued, false, 0, 18, 0, 0, 1, 0⟩

/-- An analogue input after reset: off, every ramp settled, the reset format. -/
def Ain.init : Ain := ⟨.off, .at0, .at1, .at1, 0, 0, 6, 0, false, false, .at1, false, false, 0, 0, false⟩

/-- BEEP after reset. -/
def Beep.init : Beep := ⟨.off, .at0, .at1, 0, 6, 0, 0⟩

/-- A DAC channel after reset. -/
def Aout.init : Aout := ⟨.off, .at0, 5000, ⟨0, 0, 0, 0, false, false⟩, 6, 0, false, 0, [], false, false, 0⟩

/-- A jack after reset: the contact of HPn_DET open (log 4), so that it is empty in DET_MODE 1. -/
def Jack.init : Jack := ⟨true, false, .off⟩

/-- A speaker channel after reset. -/
def Spk.init (n : Nat) : Spk :=
  { phase := .off, pop := .at0, popUs := 5000, vol := ⟨0, 0, 0, 0, false, false⟩, rate := 6, filter := 0, fs := 2, fill := 0
    car := ⟨1, n, 512, true, 0⟩, active := [], latched := false, ocMs := 0, avg := 0, gCeil := -7864320, gX := 0, gTh := 0
    par := ⟨0, 3930, 0, 0, 0, 0, 0, 0, 0, 0⟩, tc := 0, tm := 0, x1 := 0, x2 := 0, xPeak := 0, invalid := 0, seededOnce := false
    pilotPos := 0, sense := ⟨0, 0, 0, 0, [], 0, 0, 0, 0, 0, 0⟩, credit := 0, win := [], out := 0, drive := 0 }

/-- The four speaker channels after reset. -/
def Spk.inits : Vector Spk 4 := #v[Spk.init 0, Spk.init 1, Spk.init 2, Spk.init 3]

/-- A biquad stage at rest. -/
def Biq.zero : Biq := ⟨0, 0, 0, 0⟩

/-- A settled blend. -/
def Blend.at {α : Type} (x : α) : Blend α := ⟨[], 1, x, 0, 0⟩

/-- A coefficient chain of zeros (R190). -/
def Chain.zero : Chain := ⟨[], Vector.replicate 10 Biq.zero⟩

/-- Notches off. -/
def Notch.off : Notch := ⟨0, 1, 0, Vector.replicate 4 Biq.zero⟩

/-- Dynamics at start (R184): detector at −150 dBFS, gain 0 dB. -/
def Dyn.init : Dyn := ⟨[], 0, true, 0, 0, 0⟩

/-- A lane after reset (R190). -/
def Lane.init : Lane where
  phase := .off
  sid := 0
  dir := false
  kind := .zero
  dom := 0
  hz := 0
  ratioBad := false
  refused := false
  loop := 0
  loopSkip := false
  eff := ⟨0, 6#32, 0, 0x400#32, 0, 0, 0, 0x300#32⟩
  fill := 0
  mute := .at1
  muteUs := 5000
  event := .at0
  ev := .none
  fault := .at1
  trim := ⟨0, 0, 0, 0, false, false⟩
  inv := false
  flip := 0
  buf := []
  ahead := 0
  slip := .at 0
  tail := []
  pingpong := 0
  dcX := 0
  dcY := 0
  notch := .at .off
  chain := .at .zero
  commit := .idle
  held := false
  dyn := .init
  line := []
  tap := .at 0
  meterIn := ⟨0, 0, 0⟩
  meterOut := ⟨0, 0, 0⟩
  win := 2
  restart := false
  mid := 0
  bad := []
  out := 0
  outs := []

/-- A SAP after reset. -/
def Sap.init : Sap := ⟨.off, .at1, false, 0x00061204#32, 0, 3, 3, false, 3, [], Vector.replicate 16 [], 0xFFFF, [], [], some false, 0, false⟩

/-- The listening block after reset. -/
def Lst.init : Lst where
  phase := .off
  left := 0
  fade := .at1
  priv := .at1
  total := 0
  validFrom := 0
  due := false
  gap := 0
  sleep := false
  hpX := 0
  hpY := 0
  acc := []
  floor := -6000000
  onset := 0
  quiet := 0
  runs := []
  scores := []
  detected := false
  frameEnd := 0
  win := []
  feats := []
  span := []
  step := Vector.replicate 16 0
  mics := Vector.replicate 16 ⟨0, .at0⟩
  ptr := 0
  top := none
  ended := false
  hist := ⟨false, false, 0, 0, false, false, false, [], [], false, false⟩
  heldGroup := none

/-- The USB function after reset. -/
def Usb.init : Usb where
  phy := false
  reconnect := false
  desc := []
  stall := false
  reply := []
  hid := []
  wakeReq := false
  wakeHeld := false
  idle5 := false
  l1Wake := false
  kSent := 0
  clockInt := false
  phase := 0
  sofMiss := 0
  fbSum := 0
  fbN := 0
  fbCount := none
  held := 0
  outs := Vector.replicate 2 ⟨false, [], [], [], [], 0, 0, 0⟩
  ins := Vector.replicate 2 ⟨Vector.replicate 16 [], [], [], []⟩
  fu := Vector.replicate 4 ⟨0, 0, 0, 0, false, false⟩
  snap := none
  vCode := 0
  vWords := 0
  imgRx := false

/-- The sense island after reset: drone 0 converting. -/
def Sns.init : Sns where
  last := 0
  entry := none
  waiting := false
  endRun := false
  ended := false
  conv := .drone 0 0x80001000#32
  prevSeq := false
  rr := 1
  urg := 0#32
  n := 0
  wins := 0
  periods := 0
  acc := 0
  pSum := 0
  pCnt := 0
  sums := Vector.replicate 4 (0, 0)
  diag := none
  diagRun := false
  inject := none
  adcTest := none
  dacTest := none
  ntcBad := 0

/-- Reasons a command stops the model. No command of this hub stops: the spec gives each an effect. -/
inductive Fault
  /-- raised by no meaning; kept so that the type of outcomes has a name for a stop (safe) -/
  | stuck
deriving DecidableEq, Repr

/-- Reasons the model refuses a command. -/
inductive Refusal
  /-- the dispatcher, for a command that has no meaning yet (safe) -/
  | notModelled (mnemonic : String)
deriving DecidableEq, Repr

/-- The state of the hub (one line per field: what it is and the rule that gives it). -/
structure State where
  /-- the register file by byte address, canonical: a register not listed holds its reset value (R55, R56) -/
  regs : List (Nat × Word)
  /-- the sixteen job slots (R456) -/
  jobs : Vector Job 16
  /-- posting order of the next job; the queue runs in this order (R402, R456) -/
  jobSeq : Nat
  /-- the job ID last given (R456) -/
  lastJobId : Nat
  /-- the MODEL's own counter: free values of Config are taken at it, and the step that takes one advances it (DESIGN CHOICE, log 3) -/
  free : Nat
  /-- levels at the balls and the rails' comparators (R38, R41, R51, R53); the rails good, every input at rest -/
  pins : Pins
  /-- stop granted to each Bellows task (R397, R399) -/
  grants : Vector Nat 64
  /-- the power state whose column of R363 the domains stand in; RUN -/
  domState : Nat
  /-- the clocks of the blocks are gated (R365 S2) until W4 or an unwind; reset false -/
  gated : Bool
  /-- participants (bits of R366) that acknowledged QUIESCE, latest first (R367) -/
  quiet : List Nat
  /-- poisoned SRAM words (R411): the SRAM address of R409 and the item the word holds -/
  poison : List (Nat × Item)
  /-- words of the shared SRAM whose layout the spec gives, by SRAM address (R409), canonical: history MB12 to MB18, weights MB19 to MB21, general pool MB26 to MB31; an unlisted word reads zero, as the full wipe leaves it (R418, R420) -/
  sram : List (Nat × Word)
  /-- the sixteen analogue inputs (R75 to R103) -/
  ain : Vector Ain 16
  /-- MICBIAS0 to MICBIAS3 (R79) -/
  bias : Vector BiasPhase 4
  /-- the BEEP input (R81) -/
  beep : Beep
  /-- gain trim (0.001 dB) and offset trim (24-bit LSB) of each ADC slice (R82, R101); zero stands for the manufacturing trims -/
  aslTrim : Vector (Int × Int) 18
  /-- the running ADC slice substitution of each group (R100) -/
  adcSubst : Vector (Option Subst) 2
  /-- VREFA soft-start has begun (R88, R480 step B2) -/
  vrefaStarted : Bool
  /-- the eight DAC channels (R107 to R125) -/
  aout : Vector Aout 8
  /-- the two jacks (R126 to R134) -/
  jack : Vector Jack 2
  /-- gain and offset trim of each DAC slice (R124) -/
  dslTrim : Vector (Int × Int) 10
  /-- the running DAC slice substitution of each group (R124) -/
  dacSubst : Vector (Option Subst) 2
  /-- VREFB soft-start has begun (R114, R480 step B2) -/
  vrefbStarted : Bool
  /-- the charge pump is off after a fault, until RETRY (R123) -/
  cpFault : Bool
  /-- the 10 ms charge-pump stop time runs (R117) -/
  cpStop : Bool
  /-- the four speaker channels (R139 to R162) -/
  spk : Vector Spk 4
  /-- the 48 lanes (R163 to R193) -/
  lanes : Vector Lane 48
  /-- pending coefficient words by 64·lane + word, zero unlisted (R180); the wipe zeroes them -/
  coefPend : List (Nat × Word)
  /-- free blocks of the extended pool (R176, R186) -/
  poolFree : Nat
  /-- pending crosspoint table, zero unlisted (R197) -/
  xpPend : List (Nat × Word)
  /-- active crosspoint table, zero unlisted (R197) -/
  xpAct : List (Nat × Word)
  /-- crosspoints that are ramping or flipping, by entry (R201) -/
  xpRamp : List (Nat × Xp)
  /-- active sink table, zero unlisted (R207) -/
  sinkAct : List (Nat × Word)
  /-- sinks that crossfade, by sink; the values are table entries (R209) -/
  sinkFade : List (Nat × Blend Word)
  /-- taps that crossfade, by tap; the values are source IDs (R206) -/
  tapFade : List (Nat × Blend Nat)
  /-- the bus values of the last frame (R17, R196) -/
  bus : Vector Int 48
  /-- target codes of the Fife routes (c, n) at 16c + n (R216); mute -/
  fifTarget : Vector Nat 128
  /-- last tap value of each input for the Fife sum (R213) -/
  ainTap : Vector Int 16
  /-- SAP0 to SAP7 (R225 to R238) -/
  sap : Vector Sap 8
  /-- the PDM clock groups (R240 to R243) -/
  pdm : Vector PdmGrp 2
  /-- the PDM microphones (R241 to R245) -/
  mics : Vector Mic 16
  /-- the S/PDIF receiver (R246 to R249) -/
  spdRx : SpdRx
  /-- the S/PDIF transmitter (R250 to R254) -/
  spdTx : SpdTx
  /-- rate trackers: USB, SPDIF, SAP0 to SAP7 (R278) -/
  trk : Vector Trk 10
  /-- the mains frequency tracker (R283) -/
  mains : Mains
  /-- the running engine-rate change (R271) -/
  feChange : FePhase
  /-- the engine is stopped: its PLL is lost, a crystal failure, or a takeover window (R262, R272, R275) -/
  engStop : Bool
  /-- operating point that waits for a takeover to end (R276) -/
  opHeld : Option Nat
  /-- a takeover job runs (R273); its phase, mode, family and PLLs stand in CLK_TAKEOVER_STATUS -/
  tkoOn : Bool
  /-- the running takeover (R273 to R276) -/
  tko : Tko
  /-- PLL under health test, and whether it has failed already: it locked late or unlocked (R277) -/
  pllTest : Option (Nat × Bool)
  /-- families that are down (R272 step 4, R285): the 48 kHz, the 44.1 kHz family -/
  famOut : Vector Bool 2
  /-- what the islands saw when freeze took hold (R26): the two families' PLLs locked, the FLL locked -/
  seen : Vector Bool 3
  /-- the listening block (R311 to R335) -/
  lst : Lst
  /-- the USB function (R286 to R308) -/
  usb : Usb
  /-- the power-state sequencer (R362 to R374) -/
  pwr : Pwr
  /-- the sense converters (R338 to R359) -/
  sns : Sns
  /-- the regulator link (R375 to R381) -/
  pmb : Pmb
  /-- operating point the divider takes at the next frame boundary (R270) -/
  opNext : Option Nat
  /-- Bellows (R386 to R403) -/
  blw : Blw
  /-- the memory block (R408 to R424) -/
  mem : Mem
  /-- internal accesses that a wipe stalls, in the order issued (R73) -/
  stalled : List Stall
  /-- words that internal reads have returned: those of the last read, or of each read that a wipe stalled, in order (R73) -/
  answers : List (List Word)
  /-- the management bus (R429 to R447) -/
  smb : Smb
  /-- OTP words from byte 0x0400 on, by byte address / 4, zero unlisted: a blank part (R474) -/
  otp : List (Nat × Word)
  /-- the running MAC substitution or check (R460) -/
  mac : Option MacJob
  /-- the spare bank, 0 or 1, under test (R461) -/
  bankTest : Option Nat
  /-- milliseconds of the present hour of the rotation schedule (R455) -/
  rotMs : Nat
  /-- a rotation step fell due outside RUN (R455) -/
  rotDue : Bool
  /-- the life-cycle block (R470 to R474) -/
  lcy : Lcy
  /-- the test access port (R466) -/
  jtag : Jtag
  /-- FREEZE has been low since reset ended, so that a rise acts (R43) -/
  freezeArmed : Bool
  /-- reset and cold start (R51, R480) -/
  boot : Boot
  /-- the management island keeps its clock in the present freeze: KEEP_MGMT at F3 (R462) -/
  keptMgmt : Bool
  /-- the USB island keeps its clock in the present freeze: KEEP_USB and KEEP_MGMT at F3 (R462) -/
  keptUsb : Bool
  /-- the image loader (R483 to R492) -/
  ldr : Loader
  /-- commands waiting, first in, first out -/
  pending : List Instr
deriving DecidableEq, Repr

/-- The hub right after reset: the default state of R482, reached at the end of the cold start (R480) with the straps at
level 0, blank OTP and no spare log; no command waits. -/
def State.reset : State where
  regs := [(0x60, 0x1), (0x884, 0x10230), (0xC4C, 0x2), (0xC80, 0x1), (0x100C, 0x100), (0x1048, 0x10002), (0x2044, 0x5A), (0x2458, 0x10), (0x2C48, 0x1), (0x2C50, 0x20000)]
  jobs := Job.boots
  jobSeq := 2
  lastJobId := 2
  free := 0
  pins := ⟨false, false, false, true, true, true, false, false, true, true⟩
  grants := Vector.replicate 64 0
  domState := 0
  gated := false
  quiet := []
  poison := []
  sram := []
  ain := Vector.replicate 16 Ain.init
  bias := Vector.replicate 4 .off
  beep := Beep.init
  aslTrim := Vector.replicate 18 (0, 0)
  adcSubst := Vector.replicate 2 none
  vrefaStarted := true
  aout := Vector.replicate 8 Aout.init
  jack := Vector.replicate 2 Jack.init
  dslTrim := Vector.replicate 10 (0, 0)
  dacSubst := Vector.replicate 2 none
  vrefbStarted := true
  cpFault := false
  cpStop := false
  spk := Spk.inits
  lanes := Vector.replicate 48 Lane.init
  coefPend := []
  poolFree := 128
  xpPend := []
  xpAct := []
  xpRamp := []
  sinkAct := []
  sinkFade := []
  tapFade := []
  bus := Vector.replicate 48 0
  fifTarget := Vector.replicate 128 63
  ainTap := Vector.replicate 16 0
  sap := Vector.replicate 8 Sap.init
  pdm := #v[⟨.off, 0, 6, 0, 0, .at0, false, 255⟩, ⟨.off, 0, 6, 0, 0, .at0, false, 0⟩]
  mics := Vector.replicate 16 ⟨false, 0, .at1, 1000, .at1, 0, 0⟩
  spdRx := ⟨0, 0, [], [], false, none, false, .at1, [], none⟩
  spdTx := ⟨.off, 6, 0, [], .at1, 1000, [], [], 3, 0, none⟩
  trk := Vector.replicate 10 ⟨48000, 0, 0, 0, 0, false, false, 0, 0⟩
  mains := ⟨[], 0, 0, 0, false, ⟨0, 0, 0, 0, 0, 0⟩, 50000, 50000, 0, 0⟩
  feChange := .none
  engStop := false
  opHeld := none
  tkoOn := false
  tko := ⟨0, false, false, 0⟩
  pllTest := none
  famOut := Vector.replicate 2 false
  seen := Vector.replicate 3 true
  lst := Lst.init
  usb := Usb.init
  pwr := ⟨0, 0, [], false, 0, 0, false, 0, 0, false, none, false, false, 0, false, none⟩
  sns := Sns.init
  pmb := ⟨.idle, .raise, 0, false, false, none, none⟩
  opNext := none
  blw := ⟨.cold, 0, Vector.replicate 6 0, Vector.replicate 6 (Vector.replicate 3 0), Vector.replicate 6 false, 0, 0, 0, 0, 10, []⟩
  mem := ⟨Vector.replicate 32 0, Vector.replicate 32 none, [], [], none, false, []⟩
  stalled := []
  answers := []
  smb := ⟨[], false, 0, false, none, false, false⟩
  otp := []
  mac := none
  bankTest := none
  rotMs := 0
  rotDue := false
  lcy := ⟨none, false, none, false⟩
  jtag := ⟨15, 0, [], []⟩
  freezeArmed := true
  boot := .up
  keptMgmt := false
  keptUsb := false
  ldr := ⟨.idle, 0, 0, 0, [], 0, 0, [], 0, 0⟩
  pending := []

end Sys2Proof.Machine
end

