-- ==== Sys2Proof/Machine/Ops.lean ====
section
/-! DEFINITION. The named operations over the state: register words and fields, interrupts, block faults, counters, gain
ramps. -/

namespace Sys2Proof.Machine

/-- A register word as it is held (R56); computed registers are read through Views.lean. -/
def State.reg (s : State) (a : Nat) : Word := lookup s.regs a (regReset a)

/-- Hold a register word. -/
def State.setReg (s : State) (a : Nat) (w : Word) : State := { s with regs := store s.regs a w (regReset a) }

/-- A field's value. -/
def State.get (s : State) (f : Fld) : Nat := bits (s.reg f.addr) f.lo f.w

/-- Hold a value in a field (its low bits). -/
def State.set (s : State) (f : Fld) (v : Nat) : State := s.setReg f.addr (setBits (s.reg f.addr) f.lo f.w v)

/-- Is a one-bit field (or any field) nonzero? -/
def State.on (s : State) (f : Fld) : Bool := decide (s.get f ≠ 0)

/-- Hold a flag. -/
def State.setB (s : State) (f : Fld) (b : Bool) : State := s.set f (if b then 1 else 0)

/-- Hold a signed value in a field's two's complement. -/
def State.setS (s : State) (f : Fld) (v : Int) : State := s.set f (unsigned f.w (satSigned f.w v))

/-- Count an event in a counter field that saturates. -/
def State.inc (s : State) (f : Fld) : State := s.set f (satInc f.w (s.get f))

/-- Apply an update when a condition holds. -/
def State.when (s : State) (c : Bool) (f : State → State) : State := if c then f s else s

/-- Fold an update over 0 … n − 1. -/
def State.forAll (s : State) (n : Nat) (f : State → Nat → State) : State := (List.range n).foldl f s

/-! The common page header (R58 to R64). -/

/-- PG_CTRL.ENABLE of a page (R60). -/
def F.PG_ENABLE (page : Nat) : Fld := .mk (page * 0x400 + 0x004) 0 1
/-- One source bit of PG_IRQ_RAW (R64). -/
def F.PG_IRQ (page i : Nat) : Fld := .mk (page * 0x400 + 0x00C) i 1
/-- PG_IRQ_RAW whole. -/
def F.PG_IRQ_RAW (page : Nat) : Fld := .mk (page * 0x400 + 0x00C) 0 32
/-- PG_IRQ_EN whole. -/
def F.PG_IRQ_EN (page : Nat) : Fld := .mk (page * 0x400 + 0x010) 0 32
/-- PG_ERR_CODE.VIOL_COUNT (R62). -/
def F.PG_VIOL_COUNT (page : Nat) : Fld := .mk (page * 0x400 + 0x018) 16 8
/-- PG_ERR_CODE.FAULT (R62). -/
def F.PG_FAULT (page : Nat) : Fld := .mk (page * 0x400 + 0x018) 8 8
/-- PG_ERR_CODE.LAST_VIOL (R62). -/
def F.PG_LAST_VIOL (page : Nat) : Fld := .mk (page * 0x400 + 0x018) 0 4
/-- PG_ERR_ADDR whole (R62). -/
def F.PG_ERR_ADDR (page : Nat) : Fld := .mk (page * 0x400 + 0x01C) 0 32
/-- PG_CLK.GATE_EN (R63). -/
def F.PG_GATE_EN (page : Nat) : Fld := .mk (page * 0x400 + 0x020) 0 1
/-- PG_SPARE.AGEING_WARN as held (R63, R454). -/
def F.PG_AGEING (page : Nat) : Fld := .mk (page * 0x400 + 0x02C) 2 1

/-- A source event: its RAW bit sets, whatever the enable (R65). -/
def State.irq (s : State) (page i : Nat) : State := s.set (F.PG_IRQ page i) 1

/-- A block fault (R62): FAULT takes the code; a change from 0x00 raises the FAULT source (R64). -/
def State.fault (s : State) (page code : Nat) : State :=
  (s.when (decide (s.get (F.PG_FAULT page) = 0)) (·.irq page 1)).set (F.PG_FAULT page) code

/-- The condition of a fault code ends: FAULT returns to 0x00 if it shows that code. -/
def State.unfault (s : State) (page code : Nat) : State :=
  s.when (decide (s.get (F.PG_FAULT page) = code)) (·.set (F.PG_FAULT page) 0)

/-- A free bit, either neighbour of a value whose format the spec leaves open. -/
def State.lsb (s : State) (unit use : Nat) : Nat := if Config.lsb s.free unit use then 1 else 0

/-! Page numbers of the blocks (R56). -/

/-- Page of an AIN pair (R103). -/
def pgAIN (n : Nat) : Nat := 0x10 + n / 2
/-- Page of an AOUT pair (R135). -/
def pgAOP (c : Nat) : Nat := 0x19 + c / 2
/-- Page of a speaker channel (R161). -/
def pgSPK (n : Nat) : Nat := 0x1D + n
/-- Page of a serial port (R255). -/
def pgSAP (p : Nat) : Nat := 0x21 + p
/-- Page of a lane (R194). -/
def pgLANE (n : Nat) : Nat := 0x30 + n

/-! Rates: the codes of AINn_FMT.RATE. -/

/-- Sample rate of a rate code, in Hz (R103); 0 for a reserved code. -/
def rateHz : Nat → Nat
  | 0 => 8000 | 1 => 11025 | 2 => 16000 | 3 => 22050 | 4 => 32000 | 5 => 44100 | 6 => 48000 | 7 => 88200
  | 8 => 96000 | 9 => 176400 | 10 => 192000 | 11 => 384000 | _ => 0

/-- Rate family of a rate code (R18): 0 INT_A (48 kHz family), 1 INT_B (44.1 kHz family). -/
def rateFamily (code : Nat) : Nat := if code = 1 ∨ code = 3 ∨ code = 5 ∨ code = 7 ∨ code = 9 then 1 else 0

/-- Samples in `us` microseconds at `hz`, rounded up, at least 1. -/
def samplesIn (us hz : Nat) : Nat := max 1 (ceilDiv (us * hz) 1000000)

/-! Gain ramps (R166). -/

/-- Has the fade reached its end? -/
def Fade.done (f : Fade) : Bool := if f.up then decide (f.den ≤ f.num) else decide (f.num = 0)

/-- Is the gain exactly 1? -/
def Fade.full (f : Fade) : Bool := decide (f.den ≤ f.num)

/-- Is the gain exactly 0? -/
def Fade.zero (f : Fade) : Bool := decide (f.num = 0)

/-- One sample of a ramp of `len` samples from gain 0 to 1 or back, at the present position. -/
def Fade.step (f : Fade) (len : Nat) : Fade :=
  if f.done then f
  else
    let n := f.num * len
    let n' := if f.up then n + f.den else n - f.den
    let d := f.den * len
    if n' = 0 then ⟨0, 1, f.up⟩ else if d ≤ n' then ⟨1, 1, f.up⟩
    else let g := Nat.gcd n' d; ⟨n' / g, d / g, f.up⟩

/-- Turn a ramp to its other end from the present gain. -/
def Fade.turn (f : Fade) (up : Bool) : Fade := { f with up := up }

/-- The amplitude of a fade in 2^-30 (R166): exact at the ends, either neighbour between. -/
def Fade.gain (f : Fade) (bit : Nat) : Nat :=
  if f.zero then 0 else if f.full then 2 ^ 30 else min (2 ^ 30) (raisedCosine f.num f.den + bit)

/-- A sample under a fade, rounded to nearest (R165, R509). -/
def fadeSample (f : Fade) (bit : Nat) (x : Int) : Int :=
  if f.full then x else if f.zero then 0 else divRne (x * (f.gain bit : Int)) (2 ^ 30)

/-- Units of 1/65,536 dB in one gain-code step of 1/16 dB. -/
def dbUnit : Int := 4096

/-- The gain of a code in units of 1/65,536 dB; the floor of a ramp to mute (−120 dB, R177) for code 0. -/
def codeDb (code : Nat) : Int := match gainDb16 code with
  | none => -120 * 65536
  | some d => d * dbUnit

/-- A settled dB ramp at a gain code. -/
def DbRamp.at (code : Nat) : DbRamp := ⟨codeDb code, codeDb code, 0, 0, decide (code = 0), decide (code = 0)⟩

/-- The gain a dB ramp applies now, in units of 1/65,536 dB. -/
def DbRamp.now (r : DbRamp) : Int :=
  if r.len ≤ r.pos then r.goal else r.start + ((r.goal - r.start) * (r.pos : Int)).fdiv r.len

/-- Start a move to a gain code over `len` samples from the present gain (R116, R177); 0 samples steps at once. A ramp
from mute starts at the floor, and one from mute to mute runs not at all. -/
def DbRamp.to (r : DbRamp) (code len : Nat) : DbRamp :=
  if len = 0 ∨ (r.muted ∧ code = 0) then DbRamp.at code
  else ⟨if r.muted then -120 * 65536 else r.now, codeDb code, len, 0, decide (code = 0), r.muted⟩

/-- One sample of a dB ramp; a ramp to mute ends at zero. -/
def DbRamp.step (r : DbRamp) : DbRamp :=
  if r.len ≤ r.pos then r
  else if r.len ≤ r.pos + 1 then { r with pos := r.len, muted := r.muteEnd } else { r with pos := r.pos + 1, muted := false }

/-- Is the ramp at its end? -/
def DbRamp.done (r : DbRamp) : Bool := decide (r.len ≤ r.pos)

/-- Linear gain of the ramp in unsigned Q5.27 (R199); either neighbour while it moves. -/
def DbRamp.lin (r : DbRamp) (bit : Nat) : Nat :=
  if r.muted then 0 else gLinOf r.now 65536 + (if r.done then 0 else bit)

/-- The gain code nearest to the ramp's present gain (rounded to the code's 1/16 dB, R11). -/
def DbRamp.code (r : DbRamp) : Nat :=
  if r.muted then 0 else (min 3456 (max 1 (divRne r.now 4096 + 3072))).toNat

/-- A sample under a linear gain in Q5.27, rounded to nearest, not yet saturated. -/
def mulGain (x : Int) (g : Nat) : Int := divRne (x * (g : Int)) (2 ^ 27)

end Sys2Proof.Machine
end

