-- ==== Sys2Proof/Machine/Jobs.lean ====
section
/-! DEFINITION. Maintenance jobs (R456 to R459): the slots, posting, the resource sets of the catalogue (R457), the
arbiter (R458), and marking a job's end. Starting a job's block sequence is in Mnt.lean. -/

namespace Sys2Proof.Machine

/-! ## OTP and the spare log (R452, R474) -/

/-- A word of the OTP: the factory region (trims, baselines, unique ID) is fixed at manufacture. -/
def State.otpWord (s : State) (w : Nat) : Word := if w < 256 then Config.factoryWord w else lookup s.otp w 0

/-- Program an OTP word: a blown bit stays blown. -/
def State.otpProgram (s : State) (w : Nat) (x : Word) : State :=
  { s with otp := store s.otp w (lookup s.otp w 0 ||| x) 0 }

/-- A spare-log record (R452): KIND, A, B, C and the CRC-8 of bits [31:8], most significant byte first. -/
def logRecord (kind a b c : Nat) : Nat :=
  let body := kind % 16 * 2 ^ 20 + a % 64 * 2 ^ 14 + b % 64 * 2 ^ 8 + c % 256
  body * 256 + crc8 [body / 65536, body / 256 % 256, body % 256]

/-- Append one record (R452). The 256th record fills the log: FULL, fault 0x01, LOG_FULL; later changes are not recorded. -/
def State.spareLog (s : State) (kind a b c : Nat) : State :=
  let used := s.get F.MNT_LOG_USED
  if 256 ≤ used then s
  else
    let s := (s.otpProgram (512 + used) (BitVec.ofNat 32 (logRecord kind a b c))).set F.MNT_LOG_USED (used + 1)
    s.when (decide (used = 255)) (fun s => ((s.set F.MNT_LOG_FULL 1).fault 6 1).irq 6 5)

/-- Append a record for a value that changes. -/
def State.spareLogIf (s : State) (changed : Bool) (kind a b c : Nat) : State := s.when changed (·.spareLog kind a b c)

/-- Update one job slot. -/
def State.modJob (s : State) (k : Nat) (f : Job → Job) : State := { s with jobs := vmod s.jobs k f }

/-- The DAC slice group of a DAC channel (R107): the headphone channels are group 0, the line channels group 1. -/
def dacGroup (c : Nat) : Nat := c / 4

/-- The DAC slice group of a DAC slice (R107): DSL0 to DSL3 and DSL8 are group 0. -/
def dslGroup (d : Nat) : Nat := if d < 4 ∨ d = 8 then 0 else 1

/-- The ADC slice group of a slice (R82): ASL0 to ASL7 and ASL16 are group 0. -/
def aslGroup (a : Nat) : Nat := if a < 8 ∨ a = 16 then 0 else 1

/-- The resource set of a job (R457): bits 0 to 10 are ADC_G0, ADC_G1, DAC_G0, DAC_G1, PITCH, LOOPBACK, FAM0, FAM1,
PLL_SPARE, MAC_SPARE, MEM_COPY (MNT_JOB2.RES from bit 4), bits 11 and 12 SPARE_BANK0 and SPARE_BANK1. `bank` is the
spare bank a migration takes. -/
def jobRes (type target bank : Nat) : Nat :=
  match type with
  | 0x0 => if target < 8 then 1 else 2
  | 0x1 => (if dacGroup target = 0 then 4 else 8) + 32
  | 0x2 => (if aslGroup target = 0 then 1 else 2) + 16
  | 0x3 => (if dslGroup target = 0 then 4 else 8) + 32
  | 0x4 => 256 + (if target = 0 then 64 else 128)
  | 0x5 => 256
  | 0x6 => 1024
  | 0x7 => 1024 + (if bank = 0 then 2048 else 4096)
  | 0x8 => 512
  | 0x9 => 512
  | 0xA => 16
  | 0xB => if target = 32 then 2048 else 4096
  | _ => 0

/-- A job's cost in mW (R457). -/
def jobCost : Nat → Nat
  | 0x0 => 10 | 0x1 => 8 | 0x2 => 12 | 0x3 => 10 | 0x4 => 15 | 0x5 => 15 | 0x6 => 2 | 0x7 => 6 | 0x8 => 6 | 0x9 => 6
  | 0xA => 3 | 0xB => 4 | _ => 0

/-- Does the slot hold a job that has not ended? -/
def Job.live (j : Job) : Bool := decide (j.st = .queued) || decide (j.st = .deferred) || decide (j.st = .running)

/-- The next job ID: 1 to 255, wrapping, skipping 0 and IDs in use (R456). -/
def nextIdAux (used : List Nat) : Nat → Nat → Nat
  | 0, i => i
  | n + 1, i => if i = 0 ∨ i > 255 then nextIdAux used n 1 else if used.contains i then nextIdAux used n (i + 1) else i

/-- The ID the next posted job takes. -/
def State.nextJobId (s : State) : Nat :=
  nextIdAux ((s.jobs.toList.filter Job.live).map Job.id) 20 (s.lastJobId + 1)

/-- The newest queued job that is not a fault job (R456). -/
def State.newestPlain (s : State) : Option Nat :=
  (((List.range 16).filter (fun k => match s.jobs[k]? with
    | some j => decide (j.st = .queued) && !j.fault
    | none => false)).foldl (fun (b : Option Nat) k =>
      match b, s.jobs[k]? with
      | none, _ => some k
      | some k', some j => if (match s.jobs[k']? with | some j' => decide (j'.order < j.order) | none => true)
          then some k else some k'
      | b, none => b) none)

/-- A free slot: the lowest that holds no live job. -/
def State.freeSlot (s : State) : Option Nat :=
  (List.range 16).find? (fun k => match s.jobs[k]? with | some j => !j.live | none => false)

/-- One post dropped (R456): DROPPED counts it and is raised. -/
def State.dropPost (s : State) : State := (s.inc F.MNT_COUNT2_DROPPED).irq 6 6

/-- Put a job in a slot, QUEUED. -/
def State.placeJob (s : State) (k type target bank : Nat) (fault : Bool) : State :=
  let id := s.nextJobId
  { s.modJob k (fun _ => ⟨id, type, target, .queued, fault, 0, jobRes type target bank, 0, 0, s.jobSeq, 0⟩) with
    jobSeq := s.jobSeq + 1, lastJobId := id }

/-- Post a job (R456). A fault job that meets sixteen used slots displaces the newest queued plain job, which ends with
RESULT 5 (R459); any other post to a full queue is dropped. -/
def State.postJob (s : State) (type target : Nat) (fault : Bool) (bank : Nat := 0) : State :=
  match s.freeSlot with
  | some k => s.placeJob k type target bank fault
  | none =>
    if fault then
      match s.newestPlain with
      | some k =>
        let s := ((s.modJob k (fun j => { j with st := .ended, result := 5 })).inc F.MNT_COUNT_ABORTED).irq 6 3
        s.dropPost.placeJob k type target bank fault
      | none => s.dropPost
    else s.dropPost

/-- Is a job of this type and target in the queue, deferred or running? -/
def State.jobLive (s : State) (type target : Nat) : Bool :=
  s.jobs.toList.any (fun j => j.live && decide (j.type = type) && decide (j.target = target))

/-- Is a fault job of this type and target in the queue, deferred or running? -/
def State.faultJobLive (s : State) (type target : Nat) : Bool :=
  s.jobs.toList.any (fun j => j.live && j.fault && decide (j.type = type) && decide (j.target = target))

/-- The slot of the running job of a type and target. -/
def State.jobSlot (s : State) (type target : Nat) : Option Nat :=
  (List.range 16).find? (fun k => match s.jobs[k]? with
    | some j => decide (j.st = .running) && decide (j.type = type) && decide (j.target = target)
    | none => false)

/-- A block's sequence has ended with a result code of R459; the JOB_END step ends the job. -/
def State.finishJob (s : State) (type target result : Nat) : State :=
  match s.jobSlot type target with
  | some k => s.modJob k (fun j => { j with ending := result })
  | none => s

/-- Resource bits of every running job. -/
def State.resBusy (s : State) : Nat :=
  s.jobs.toList.foldl (fun m j => if j.st = .running then m ||| j.res else m) 0

/-- The lowest job ID among the running jobs whose sets meet `res` (R458). -/
def State.blockerOf (s : State) (res : Nat) : Nat :=
  s.jobs.toList.foldl (fun b j => if j.st = .running ∧ j.res &&& res ≠ 0 ∧ (b = 0 ∨ j.id < b) then j.id else b) 0

end Sys2Proof.Machine
end

