-- ==== Sys2Proof/Machine/Query.lean ====
section
/-! DEFINITION. Conditions that more than one block asks: islands powered and clocked (R363, R26), the family PLLs (R264,
R265), the engine rate (R15), privacy (R95) and freeze (R462). -/

namespace Sys2Proof.Machine

/-- Islands, numbered as PWR_DOMAIN.ON numbers them (R382). -/
inductive Island
  | aon | mgmt | listen | engine | usb | ain | aout | spk (n : Nat) | sense | ports
deriving DecidableEq, Repr

/-- Has freeze stopped the islands (R462)? -/
def State.frozen (s : State) : Bool := decide (s.get F.DBG_FREEZE_STATUS_STATE = 2)

/-- Is the management island running: freeze without KEEP_MGMT at F3 stops it (R462). -/
def State.mgmtRuns (s : State) : Bool := !s.frozen || s.keptMgmt

/-- Is listening enabled (R313)? -/
def State.lstEnabled (s : State) : Bool := s.on (F.PG_ENABLE 0x0C)

/-- Is the island powered: on or gated in R363. A domain "on when used" is read as on in RUN and IDLE. -/
def State.islandOn (s : State) (i : Island) : Bool :=
  match i with
  | .aon => true
  | .mgmt => decide (s.domState ≤ 2)
  | .listen => decide (s.domState ≤ 1) || (decide (s.domState = 2) && s.lstEnabled)
  | _ => decide (s.domState ≤ 1)

/-- Is the island's clock running: not gated (R363, R365) and not stopped by freeze (R26, R462). -/
def State.clocked (s : State) (i : Island) : Bool :=
  match i with
  | .aon => true
  | .mgmt => decide (s.domState ≤ 2) && s.mgmtRuns
  | .listen => s.islandOn .listen && !s.frozen
  | .usb => decide (s.domState ≤ 1) && (!s.frozen || s.keptUsb)
  | _ => decide (s.domState = 0) && !s.gated && !s.frozen

/-- The PLL serving a family: 0 the 48 kHz family, 1 the 44.1 kHz family (R264). -/
def State.famPll (s : State) (fam : Nat) : Nat :=
  s.get (if fam = 0 then F.CLK_ROLE_FAM_A_PLL else F.CLK_ROLE_FAM_B_PLL)

/-- Is a PLL locked (CLK_PLLx_STATUS.STATE, R263)? -/
def State.pllLocked (s : State) (x : Nat) : Bool := decide (s.get (F.CLK_PLL_STATUS_STATE x) = 2)

/-- Does the family's PLL run locked (R265)? -/
def State.famUp (s : State) (fam : Nat) : Bool := s.pllLocked (s.famPll fam)

/-- The family's clock as the islands see it: in freeze as it was when freeze took hold (R26). -/
def State.famSeen (s : State) (fam : Nat) : Bool := if s.frozen then vget s.seen fam true else s.famUp fam

/-- The engine rate code (CLK_ENGINE.FE_NOW): 0 = 48, 1 = 96, 2 = 192, 3 = 44.1, 4 = 88.2, 5 = 176.4 kHz. -/
def State.fe (s : State) : Nat := s.get F.CLK_ENGINE_FE_NOW

/-- The engine rate in Hz (R15). -/
def feHz : Nat → Nat
  | 0 => 48000 | 1 => 96000 | 2 => 192000 | 3 => 44100 | 4 => 88200 | _ => 176400

/-- The family of an engine rate code. -/
def feFamily (code : Nat) : Nat := if code < 3 then 0 else 1

/-- The rate code (AINn_FMT.RATE) of an engine rate. -/
def feRate : Nat → Nat
  | 0 => 6 | 1 => 8 | 2 => 10 | 3 => 5 | 4 => 7 | _ => 9

/-- Does a takeover hold every output at zero gain: the muted RAMP and WINDOW (R275), or a stopped engine (R272)? -/
def State.outHold (s : State) : Bool :=
  s.engStop || decide (s.get F.CLK_TAKEOVER_STATUS_PHASE = 5) ||
    (decide (s.get F.CLK_TAKEOVER_STATUS_PHASE = 3) && s.on F.CLK_TAKEOVER_STATUS_MODE)

/-- Does a takeover hold the speakers at zero gain: also the hitless RAMP and SWITCH (R274)? -/
def State.spkHold (s : State) : Bool :=
  s.outHold || decide (s.get F.CLK_TAKEOVER_STATUS_PHASE = 3) || decide (s.get F.CLK_TAKEOVER_STATUS_PHASE = 4)

/-- Is MIC_PRIVACY_N asserted as the microphone inputs see it (R95)? -/
def State.privacy (s : State) : Bool := s.on F.AUX_PRIVACY_ASSERTED

/-- Decimation filters' fill counts in output samples (R88): LIN 40, MIN 16, ULL 8. -/
def fillCount : Nat → Nat
  | 0 => 40 | 1 => 16 | _ => 8

/-- Update that takes place only while the island is clocked: an event of a stopped block cannot occur. -/
def State.event (s : State) (i : Island) (c : Bool) (f : State → State) : State := s.when (s.clocked i && c) f

/-- Is the power-state sequencer busy (R364)? -/
def State.pwrBusy (s : State) : Bool := s.on F.PWR_STATE_BUSY

/-- Has the block acknowledged QUIESCE (R365)? -/
def State.isQuiet (s : State) (bit : Nat) : Bool := s.quiet.contains bit

end Sys2Proof.Machine
end

