-- ==== Sys2Proof/Machine/Endpoint.lean ====
section
/-! DEFINITION. The endpoints' numbers and formats: source IDs (R13), sink indices (R14), the domain and rate each endpoint
stands in (R18). -/

namespace Sys2Proof.Machine

/-- A port's record. -/
def State.sapAt (s : State) (p : Nat) : Sap := vget s.sap p Sap.init

/-- A tracker's record. -/
def State.trkAt (s : State) (t : Nat) : Trk := vget s.trk t ⟨48000, 0, 0, 0, 0, false, false, 0, 0⟩

/-- RATE of a SAPp_FMT word. -/
def fmtRate (w : Word) : Nat := bits w 16 4

/-- Is a PDM clock code of the 44.1 kHz family (R240)? -/
def pdmFam (freq : Nat) : Nat := if freq = 5 ∨ freq = 6 then 1 else 0

/-- A clock group's record. -/
def State.pdmAt (s : State) (g : Nat) : PdmGrp := vget s.pdm g ⟨.off, 0, 6, 0, 0, .at0, false, 0⟩

/-- The clock group of a data line: CLKSEL in effect (R241, R243). -/
def State.pdmGroup (s : State) (line : Nat) : Nat := (s.pdmAt 1).lines / 2 ^ line % 2

/-- Domain and rate in Hz of a SAP (R229, R230). -/
def State.sapFmt (s : State) (p : Nat) : Nat × Nat :=
  let a := s.sapAt p
  if a.master then (rateFamily (fmtRate a.fmt), rateHz (fmtRate a.fmt)) else (4 + p, (s.trkAt (2 + p)).nomHz)

/-- Domain and rate of an endpoint with a rate code in the clock-locked domains. -/
def lockedFmt (code : Nat) : Nat × Nat := (rateFamily code, rateHz code)

/-- Domain and rate of a source ID that is an endpoint's (R13, R18); rate 0 for silence and reserved IDs. -/
def State.srcFmt (s : State) (sid : Nat) : Nat × Nat :=
  if sid = 0 then (0, 0)
  else if sid ≤ 0x10 then lockedFmt (vget s.ain (sid - 1) Ain.init).rate
  else if sid = 0x11 then lockedFmt s.beep.rate
  else if sid ≤ 0x21 then
    let g := s.pdmAt (s.pdmGroup ((sid - 0x12) / 2))
    (pdmFam g.freq, rateHz g.rate)
  else if sid ≤ 0x23 then (3, (s.trkAt 1).nomHz)
  else if sid ≤ 0x2B then lockedFmt (vget s.spk ((sid - 0x24) / 2) (Spk.init 0)).rate
  else if sid ≤ 0x4B then (2, rateHz (s.get F.USB_CLOCK_RATE))
  else if sid ≤ 0xCB then s.sapFmt ((sid - 0x4C) / 16)
  else (0, 0)

/-- Is a source ID a bus (R13)? -/
def isBus (sid : Nat) : Bool := decide (0xCC ≤ sid) && decide (sid ≤ 0xFB)

/-- Domain and rate of a sink (R14, R208). -/
def State.sinkFmt (s : State) (i : Nat) : Nat × Nat :=
  if i < 8 then lockedFmt (vget s.aout i Aout.init).rate
  else if i < 12 then lockedFmt (vget s.spk (i - 8) (Spk.init 0)).rate
  else if i < 44 then (2, rateHz (s.get F.USB_CLOCK_RATE))
  else if i < 46 then lockedFmt s.spdTx.rate
  else s.sapFmt ((i - 46) / 16)

/-- Tracker state of a tracked domain (R18, CLK_TRKt_STATUS.STATE). -/
def State.trkState (s : State) (dom : Nat) : Nat := s.get (F.CLK_TRK_STATUS_STATE (dom - 2))

/-- Is the USB function in adaptive mode (R20)? -/
def State.usbAdaptive (s : State) : Bool := s.on F.USB_CFG_SYNC

/-! ## What the USB function declares (R287, R290) -/

/-- The descriptor registers in their order: USB_CFG, USB_ID, USB_DEV, USB_RATES, USB_AS0_CFG to USB_AS3_CFG, the strings. -/
def descRegs : List Nat :=
  [A.USB_CFG, A.USB_ID, A.USB_DEV, A.USB_RATES] ++ (List.range 4).map A.USB_AS_CFG ++ (List.range 16).map A.USB_STR_MFR
    ++ (List.range 16).map A.USB_STR_PROD ++ (List.range 8).map A.USB_STR_SER

/-- A descriptor word in force: as it stood at the connect (R287). -/
def State.descWord (s : State) (i : Nat) : Word := s.usb.desc.getD i (s.reg (descRegs.getD i A.USB_CFG))

/-- Channels Ci of an interface (R290). -/
def State.usbCh (s : State) (i : Nat) : Nat := bits (s.descWord (4 + i)) 0 5

/-- Alternate setting in force. -/
def State.usbAlt (s : State) (i : Nat) : Nat := s.get (F.USB_ALT_ALT i)

/-- Is a domain tracked (R18)? USB in asynchronous mode is clock-locked. -/
def State.tracked (s : State) (dom : Nat) : Bool := decide (3 ≤ dom) || (decide (dom = 2) && s.usbAdaptive)

/-- Measured rate of a tracked domain in 0.01 Hz. -/
def State.measRate (s : State) (dom : Nat) : Nat := s.get (F.CLK_TRK_RATE_RATE (dom - 2))

/-- The rate code whose rate in Hz is nearest, among the endpoint rates (R280). -/
def nearestRate (hz : Nat) : Nat :=
  (List.range 12).foldl (fun b c =>
    let d (c : Nat) := if rateHz c ≤ hz then hz - rateHz c else rateHz c - hz
    if d c < d b then c else b) 0

/-- The code of a rate in Hz, 0 when no code has it. -/
def rateCode (hz : Nat) : Nat := ((List.range 12).find? (fun c => decide (rateHz c = hz))).getD 0

/-- The engine's clock in its own unit: the ratio to the 48 kHz family's OP0 (R270). -/
def State.opNow (s : State) : Nat := s.get F.CLK_ENGINE_OP_NOW

/-- Fe over its family's lowest rate: 1, 2 or 4. -/
def feMul (code : Nat) : Nat := 2 ^ (code % 3)

/-- Do engine frames run: the island is clocked, nothing has stopped the engine, and its PLL is locked? -/
def State.engRuns (s : State) : Bool := s.clocked .engine && !s.engStop && s.famUp (feFamily s.fe)

/-- Frames in `us` microseconds at Fe. -/
def State.frames (s : State) (us : Nat) : Nat := samplesIn us (feHz s.fe)

end Sys2Proof.Machine
end

