-- ==== Sys2Proof/Machine/Settle.lean ====
section
/-! DEFINITION. What follows from any change at once: a family PLL starts when a need arises (R265), and IRQ_N follows the
enabled pending groups (R66, R67). Every command ends with `settle`. -/

namespace Sys2Proof.Machine

/-- PG_IRQ_OUT of a page (R64). -/
def State.irqOut (s : State) (page : Nat) : Nat := s.get (F.PG_IRQ_RAW page) &&& s.get (F.PG_IRQ_EN page)

/-- Is the page pending (R66)? -/
def State.pagePending (s : State) (page : Nat) : Bool := decide (s.irqOut page ≠ 0)

/-- The pages of each interrupt group (R66). -/
def groupPages : List (List Nat) :=
  [[0x00, 0x07], [0x01, 0x09], [0x02], [0x03], [0x04], [0x05, 0x06], [0x08], [0x0A],
   [0x0B], [0x0C], [0x0D], [0x0E, 0x0F], [0x10, 0x11, 0x12, 0x13, 0x14, 0x15, 0x16, 0x17, 0x18],
   [0x19, 0x1A, 0x1B, 0x1C, 0x1D, 0x1E, 0x1F, 0x20],
   [0x21, 0x22, 0x23, 0x24, 0x25, 0x26, 0x27, 0x28, 0x29, 0x2A],
   (List.range 48).map (· + 0x30)]

/-- A word with bit g set for each true element. -/
def bitsOf : List Bool → Nat
  | [] => 0
  | b :: t => (if b then 1 else 0) + 2 * bitsOf t

/-- SYS_IRQ_GROUP (R67): bit g = group g pending. -/
def State.irqGroups (s : State) : Nat := bitsOf (groupPages.map (fun ps => ps.any s.pagePending))

/-- The Host Notify data word W (R67): SYS_IRQ_GROUP AND SYS_IRQ_GROUP_EN. -/
def State.notifyWord (s : State) : Nat := s.irqGroups &&& s.get F.SYS_IRQ_GROUP_EN_EN

/-- Drive IRQ_N (R67): low while the notify word is nonzero; a frozen or unpowered management island holds its level (R463, R448). -/
def State.driveIrq (s : State) : State :=
  s.when (s.mgmtRuns && decide (s.domState ≤ 2)) (fun s => { s with pins := { s.pins with irqLow := decide (s.notifyWord ≠ 0) } })

/-- Is a rate code of this family? -/
def rateIsFam (fam code : Nat) : Bool := decide (rateFamily code = fam)

/-- Is the S/PDIF receiver on (R246, R260)? -/
def State.rxOn (s : State) : Bool := s.on (F.PG_ENABLE 0x2A) && s.on F.SPD_RX_CTRL_EN

/-- Is passthrough wanted (R252)? -/
def State.wantPass (s : State) : Bool :=
  match s.get F.SPD_TX_CTRL_PASS with
  | 1 => s.rxOn && s.on F.SPD_RX_STATUS_NONPCM
  | 2 => s.rxOn
  | _ => false

/-- The family of the S/PDIF receiver's nominal rate (R269, R280). -/
def State.passFam (s : State) : Nat := rateFamily (nearestRate (s.trkAt 1).nomHz)

/-- Does a consumer use the family (R265, R273): the engine, an enabled endpoint of domain 0 or 1, an MCLK output, a PDM
clock of code 5 or 6, a speaker channel, the sense island, or an engine rate that waits to be applied? -/
def State.famUsed (s : State) (fam : Nat) : Bool :=
  decide (feFamily s.fe = fam) || (decide (s.feChange ≠ .none) && decide (feFamily (s.get F.CLK_ENGINE_FE) = fam)) ||
  (List.range 16).any (fun n => s.on (F.PG_ENABLE (pgAIN n)) && s.on (F.AIN_CTRL_MODE n)
    && rateIsFam fam (s.get (F.AIN_FMT_RATE n))) ||
  (s.on (F.PG_ENABLE 0x18) && s.on F.AUX_BEEP_CTRL_EN && rateIsFam fam (s.get F.AUX_BEEP_CTRL_RATE)) ||
  (List.range 8).any (fun c => s.on (F.PG_ENABLE (pgAOP c)) && s.on (F.AOUT_CTRL_EN c)
    && rateIsFam fam (s.get (F.AOUT_FMT_RATE c))) ||
  (List.range 8).any (fun p => s.on (F.PG_ENABLE (pgSAP p)) && s.on (F.SAP_CTRL_MASTER p)
    && rateIsFam fam (s.get (F.SAP_FMT_RATE p))) ||
  (List.range 4).any (fun m => decide (s.get (F.SAP_MCLK_SRC m) = 1 + fam)) ||
  (decide (fam = 1) && s.on (F.PG_ENABLE 0x29) && (decide (5 ≤ s.get F.PDM_CLK_CTRL_FREQ0)
    || decide (5 ≤ s.get F.PDM_CLK_CTRL_FREQ1))) ||
  (s.on (F.PG_ENABLE 0x2A) && s.on F.SPD_TX_CTRL_EN
    && (if s.wantPass then decide (s.passFam = fam) else rateIsFam fam (s.get F.SPD_TX_CTRL_RATE))) ||
  (List.range 4).any (fun n => s.on (F.PG_ENABLE (pgSPK n)) && s.on (F.SPK_CTRL_EN n) && rateIsFam fam (s.get (F.SPK_FMT_RATE n))) ||
  decide (fam = 0)

/-- Does anything need the family's PLL (R265): a consumer or the FORCE bits? -/
def State.famNeeded (s : State) (fam : Nat) : Bool :=
  s.famUsed fam || s.on (if fam = 0 then F.CLK_PLL_CTRL_FORCE_A else F.CLK_PLL_CTRL_FORCE_B)

/-- Start the family's PLL when it is needed and off (R265), in RUN or IDLE with the crystal good. -/
def State.startPll (s : State) (fam : Nat) : State :=
  s.when (decide (s.domState ≤ 1) && !s.frozen && s.on F.CLK_XTAL_STATUS_OK
      && decide (s.get (F.CLK_PLL_STATUS_STATE (s.famPll fam)) = 0) && s.famNeeded fam)
    (·.set (F.CLK_PLL_STATUS_STATE (s.famPll fam)) 1)

/-- The result word of the loader (R491). -/
def resultWord (state source error detail : Nat) : Word :=
  BitVec.ofNat 32 (state * 2 ^ 28 + source * 2 ^ 24 + error * 2 ^ 16 + detail * 256)

/-- Report a result word: SYS_SCRATCH and IMAGE_STATUS (R491). -/
def State.ldrReport (s : State) (w : Word) (offset : Nat) : State :=
  { s.setReg A.SYS_SCRATCH w with ldr := { s.ldr with result := w, offset := offset } }

/-- A USB image whose transfer has ended before its check is over fails with ERROR 10 (R492). -/
def State.ldrUsbLost (s : State) : State :=
  s.when (decide (s.ldr.source = 3) && (decide (s.ldr.st = .receive) || decide (s.ldr.st = .staged)) && !s.usb.imgRx) (fun s =>
    { s with ldr := { s.ldr with st := .idle } }.ldrReport (resultWord 3 3 10 0) 0)

/-- What follows at once from any change: needed PLLs start, a USB image that lost its link fails, then IRQ_N follows the pending
interrupts. -/
def settle (s : State) : State := ((s.startPll 0).startPll 1).ldrUsbLost.driveIrq

end Sys2Proof.Machine
end

