-- ==== Sys2Proof/Machine/Ain.lean ====
section
/-! DEFINITION. Analogue inputs, mic biases, BEEP and the ADC slice pool (chapter 04, R75 to R106): what each event and each
register write does to them, and what one delivered sample becomes. -/

namespace Sys2Proof.Machine

/-! ## Inputs -/

/-- One input's record. -/
def State.ainAt (s : State) (n : Nat) : Ain := vget s.ain n Ain.init

/-- Update one input's record. -/
def State.modAin (s : State) (n : Nat) (f : Ain → Ain) : State := { s with ain := vmod s.ain n f }

/-- Is the front end on the jack microphone (R80)? -/
def State.ainJack (s : State) (n : Nat) : Bool := decide (14 ≤ n) && s.on (F.AIN_CTRL_SRC_SEL n)

/-- The effective mode of an input: codes 2 and 3 act as mic on the jack microphone (R80). -/
def State.ainMode (s : State) (n : Nat) : Nat :=
  let m := (s.ainAt n).mode
  if s.ainJack n && decide (m ≠ 0) then 1 else m

/-- May the input run: its pair page enabled, its MODE not 0, its island on? -/
def State.ainAble (s : State) (n : Nat) : Bool :=
  s.on (F.PG_ENABLE (pgAIN n)) && s.on (F.AIN_CTRL_MODE n) && s.islandOn .ain

/-- Is it a microphone input (R94): mic mode in effect, or the jack microphone on AIN14 and AIN15? -/
def State.ainMic (s : State) (n : Nat) : Bool := decide (s.ainMode n = 1) || s.ainJack n

/-- Is the input delivering samples (R88 step 6 on)? -/
def AinPhase.delivers : AinPhase → Bool
  | .unmuting | .running | .muteToReconf | .muteToOff | .calMute | .calUnmute => true
  | _ => false

/-- Does the slice convert the front end's signal, so that the Fife tap carries it (R84)? -/
def AinPhase.taps : AinPhase → Bool
  | .filling => true
  | p => p.delivers

/-- AINn_STATUS.STATE of a phase (R103). -/
def ainState (p : AinPhase) (reconf muted : Bool) : Nat :=
  match p with
  | .off => 0
  | .waitClk => 1
  | .powerUp | .waitVref => if reconf then 6 else 2
  | .calibrating => if reconf then 6 else 3
  | .filling | .unmuting => if reconf then 6 else 2
  | .reconf => 6
  | .calMeasure => 3
  | .running | .muteToReconf | .muteToOff | .calMute | .calUnmute => if muted then 5 else 4

/-- Write an input's status fields from its record (R103). DOMAIN of an input that is OFF shows the family of the rate last in effect:
an input that is off is in no domain, and RATE takes effect at the start (DESIGN CHOICE, log 178). -/
def State.ainSync (s : State) (n : Nat) : State :=
  let a := s.ainAt n
  let on := decide (a.phase ≠ .off)
  ((((s.set (F.AIN_STATUS_STATE n) (ainState a.phase a.reconf (s.on (F.AIN_CTRL_MUTE n)))).set
    (F.AIN_STATUS_MODE_NOW n) (if on then s.ainMode n else 0)).setB
    (F.AIN_STATUS_SRC_JACK n) (on && s.ainJack n)).set
    (F.AIN_STATUS_DOMAIN n) (rateFamily a.rate)).setB
    (F.AIN_STATUS_PRIVACY n) (on && s.privacy && s.ainMic n)

/-- Move an input to a phase. -/
def State.ainPhase (s : State) (n : Nat) (p : AinPhase) : State :=
  (s.modAin n (fun a => { a with phase := p })).ainSync n

/-- Take the settings of the registers into effect (R88, R89 step 2). -/
def State.ainApply (s : State) (n : Nat) : State :=
  s.modAin n (fun a => { a with mode := s.get (F.AIN_CTRL_MODE n), rate := s.get (F.AIN_FMT_RATE n), filter := s.get (F.AIN_FMT_FILTER n) })

/-- Does a gain still move to the end that a hold asks for? -/
def Fade.moving (f : Fade) (up : Bool) : Bool := if up then !f.full else !f.zero

/-- The gain of a hold that acts while no sample is delivered stands at its end. -/
def Fade.settled (up : Bool) : Fade := if up then .at1 else .at0

/-- Is the jack block holding the input muted (R131)? -/
def State.ainHeld (s : State) (n : Nat) : Bool := s.ainJack n && s.on (F.JCK_STATUS_MIC_MUTED (n - 14))

/-- Samples begin to be delivered again: the start gain rises from 0 (R88 step 6), MUTE, the jack's hold and
privacy stand at their ends. -/
def State.ainUnmute (s : State) (n : Nat) (p : AinPhase) : State :=
  (s.modAin n (fun a => { a with
    fade := ⟨0, 1, true⟩, muteFade := .settled (!s.on (F.AIN_CTRL_MUTE n)), jackFade := .settled (!s.ainHeld n)
    privFade := .settled (!(s.privacy && s.ainMic n)) })).ainPhase n p

/-- Step 5 of R88: fill the decimator, its high-pass state at rest. -/
def State.ainFill (s : State) (n : Nat) : State :=
  (s.modAin n (fun a => { a with fill := fillCount a.filter, fade := .at0, hpX := 0, hpY := 0 })).ainPhase n .filling

/-- The start sequence from the step after power-up (R85, R88 steps 3 to 5; R89 steps 4 and 5). -/
def State.ainAfterPower (s : State) (n : Nat) : State :=
  let a := s.ainAt n
  if !s.famUp (rateFamily a.rate) then s.ainPhase n .waitClk
  else if !s.on F.AUX_VREF_STATUS_VREFA_READY then s.ainPhase n .waitVref
  else if s.on (F.AIN_CTRL_CAL_AUTO n) && (!a.reconf || a.modeChanged) then s.ainPhase n .calibrating
  else s.ainFill n

/-- Steps 1 and 2 of R88: the input starts. -/
def State.ainBegin (s : State) (n : Nat) : State :=
  (((s.ainApply n).modAin n (fun a => { a with fade := .at0, reconf := false, modeChanged := false })).setB
    (F.AIN_STATUS_FMT_PENDING n) false).ainPhase n .powerUp

/-- The input starts if it is able to run and off (R88). -/
def State.ainTryStart (s : State) (n : Nat) : State :=
  s.when (s.ainAble n && decide ((s.ainAt n).phase = .off)) (·.ainBegin n)

/-- Have the applied Fife gains of an input's routes reached mute, so that its front end may power down (R217)? -/
def State.fifSilent (s : State) (n : Nat) : Bool :=
  (List.range 8).all (fun c => decide (s.get (F.FIF_GAIN_NOW_G (4 * c + n / 4) (n % 4)) = 63))

/-- The modulator no longer runs: no sequence of the input goes on, nor an overload (R92). -/
def State.ainIdle (s : State) (n : Nat) : State :=
  ((s.modAin n (fun a => { a with fade := .at0, reconf := false, modeChanged := false, clipOpen := false })).set
    (F.AIN_STATUS_OVL_NOW n) 0).set (F.AIN_STATUS_RECOVERING n) 0

/-- R90: stop an input. One that delivers samples ramps down first; no other powers down before its Fife gains are mute (R217). -/
def State.ainStop (s : State) (n : Nat) : State :=
  let a := s.ainAt n
  if a.phase = .off then s
  else if a.phase.delivers || decide (a.phase = .calMeasure) then
    (s.modAin n (fun a => { a with fade := a.fade.turn false })).ainPhase n .muteToOff
  else (s.ainIdle n).ainPhase n (if s.fifSilent n then .off else .muteToOff)

/-- The front end and slice have powered down (R90): STATE = OFF; an input that may run again starts. -/
def State.ainOff (s : State) (n : Nat) : State := ((s.ainIdle n).ainPhase n .off).ainTryStart n

/-- R89 step 2: the new settings apply; the front end settles when MODE changed, else the decimator refills. -/
def State.ainReconfigure (s : State) (n : Nat) : State :=
  let ch := (s.ainAt n).modeChanged
  let s := (s.ainApply n).modAin n (fun a => { a with fade := .at0, reconf := true })
  if ch then s.ainPhase n .reconf
  else if !s.famUp (rateFamily (s.ainAt n).rate) then s.ainPhase n .waitClk
  else s.ainFill n

/-- R89: a changed MODE, RATE or FILTER on an input that runs or starts. An input in steps 1 to 5 of R88 begins the sequence anew; one
in the unmute ramp of either sequence mutes again and takes the sequence of R89, with the settling and calibration of a MODE change
that is still due (DESIGN CHOICE, log 130). One that is stopping takes the settings at its next start. -/
def State.ainChange (s : State) (n : Nat) (mode : Bool) : State :=
  let s := s.modAin n (fun a => { a with modeChanged := a.modeChanged || mode })
  let a := s.ainAt n
  match a.phase with
  | .off => s
  | .running | .unmuting | .calMute | .calUnmute =>
    (s.modAin n (fun a => { a with fade := a.fade.turn false })).ainPhase n .muteToReconf
  | .muteToReconf | .muteToOff => s
  | _ => if a.reconf then s.ainReconfigure n else if a.phase = .calMeasure then s.ainReconfigure n else s.ainBegin n

/-- A MODE, RATE or FILTER write takes effect: R90 for MODE 0, R88 for an input that is off, else R89. `mode` says that MODE
has changed. -/
def State.ainTake (s : State) (n : Nat) (mode : Bool) : State :=
  if s.get (F.AIN_CTRL_MODE n) = 0 then s.ainStop n
  else if (s.ainAt n).phase = .off then s.ainTryStart n
  else s.ainChange n mode

/-! ## ADC slice substitution (R99 to R102) -/

/-- The running substitution of a group. -/
def State.adcSub (s : State) (g : Nat) : Option Subst := vget s.adcSubst g none

/-- Set the running substitution of a group. -/
def State.setAdcSub (s : State) (g : Nat) (x : Option Subst) : State := { s with adcSubst := vmod s.adcSubst g (fun _ => x) }

/-- The group of an input (R82). -/
def ainGroup (n : Nat) : Nat := n / 8

/-- State of an ADC slice, codes of R105. -/
def State.asl (s : State) (a : Nat) : Nat :=
  if a < 10 then s.get (F.AUX_SLICE_STATE0_ASL a) else s.get (F.AUX_SLICE_STATE1_ASL (a - 10))

/-- Set the state of an ADC slice. -/
def State.setAsl (s : State) (a v : Nat) : State :=
  let s := s.spareLogIf (decide (s.asl a ≠ v)) 3 a 0 v
  if a < 10 then s.set (F.AUX_SLICE_STATE0_ASL a) v else s.set (F.AUX_SLICE_STATE1_ASL (a - 10)) v

/-- The slice that serves an input. -/
def State.ainSlice (s : State) (n : Nat) : Nat := s.get (F.AUX_SLICE_MAP_INPUT (n / 4) (n % 4))

/-- Put a slice in service for an input: both copies of the map. -/
def State.setAinSlice (s : State) (n a : Nat) : State :=
  let s := s.spareLogIf (decide (s.ainSlice n ≠ a)) 1 n a 0
  (s.set (F.AUX_SLICE_MAP_INPUT (n / 4) (n % 4)) a).set (F.AIN_SLICE_SLICE n) a

/-- The slice a substitution takes (R99): the group's SPARE one; a fault substitution also an UNCAL one. -/
def State.adcSpare (s : State) (g : Nat) (fault : Bool) : Option Nat :=
  let mine := (List.range 18).filter (fun a => decide (aslGroup a = g))
  match mine.find? (fun a => decide (s.asl a = 0)) with
  | some a => some a
  | none => if fault then mine.find? (fun a => decide (s.asl a = 5)) else none

/-- An aborted ADC substitution (R102): ABORTED, its cause and SUBST_ABORTED; the job ends with `result`. -/
def State.adcAborted (s : State) (n cause result : Nat) : State :=
  ((((s.set F.AUX_SUBST_STATUS_ABORT_CAUSE cause).set F.AUX_SUBST_STATUS_ABORTED 1).set F.AUX_SUBST_STATUS_PHASE 0).irq 0x18 4
    ).finishJob 0 n result

/-- A write that a crossfade held takes effect (R102). -/
def State.adcHeld (s : State) (n : Nat) : State :=
  s.when (s.on (F.AIN_STATUS_FMT_PENDING n)) (fun s =>
    (s.set (F.AIN_STATUS_FMT_PENDING n) 0).ainTake n (decide (s.get (F.AIN_CTRL_MODE n) ≠ (s.ainAt n).mode)))

/-- Abort the group's running substitution: the spare goes back to its previous state, or to TEST after three failed
windows (R101, R102). -/
def State.adcAbort (s : State) (g cause : Nat) : State :=
  match s.adcSub g with
  | none => s
  | some u =>
    let s := (s.setAsl u.spare (if cause = 2 then 3 else u.prev)).setAdcSub g none
    let s := s.when (decide (cause = 2)) (·.postJob 2 u.spare false)
    (((s.set (F.AIN_SLICE_SUBST u.unit) 0).set (F.AIN_SLICE_SHADOW u.unit) 0).adcAborted u.unit cause 2).adcHeld u.unit

/-- Abort the group's substitution while it shadows. -/
def State.adcAbortShadow (s : State) (g cause : Nat) : State :=
  match s.adcSub g with
  | some u => if u.crossfade then s else s.adcAbort g cause
  | none => s

/-- The new slice is in service (R100 step 6): maps, states, SUBST_DONE, and the released slice's test (R459). -/
def State.adcSwap (s : State) (n spare : Nat) : State :=
  let old := s.ainSlice n
  ((((((s.setAinSlice n spare).setAsl spare 1).setAsl old 3).modAin n (fun a => { a with stuck := false })).irq
    (pgAIN n) (8 + n % 2)).finishJob 0 n 1).postJob 2 old false

/-- A dispatched ADC substitution starts (R100 step 1). An input that is off exchanges its map entry at once (R455); one
in the midst of a sequence is not ready (R459). While jobs of both groups run, the status and match registers show the job that wrote
them last (DESIGN CHOICE, log 131). -/
def State.adcSubstStart (s : State) (n : Nat) (fault : Bool) : State :=
  let g := ainGroup n
  let s := ((s.set F.AUX_SUBST_STATUS_INPUT n).set F.AUX_SUBST_STATUS_RESTARTS 0).set F.AUX_SUBST_STATUS_ABORT_CAUSE 0
  match s.adcSpare g fault with
  | none => s.adcAborted n 4 4
  | some a =>
    let s := s.set F.AUX_SUBST_STATUS_SPARE a
    match (s.ainAt n).phase with
    | .off => (s.adcSwap n a).set F.AUX_SUBST_STATUS_PHASE 3
    | .running | .calMute | .calMeasure | .calUnmute =>
      ((((s.setAdcSub g (some ⟨n, a, s.asl a, fault, false, 0, 0, 0, 0, 0⟩)).setAsl a 2).set (F.AIN_SLICE_SUBST n) 1).set
        (F.AIN_SLICE_SHADOW n) a).set F.AUX_SUBST_STATUS_PHASE 1
    | _ => (s.set F.AUX_SUBST_STATUS_PHASE 0).finishJob 0 n 3

/-- One more failed or restarted window of the group's job, with the status (R105). -/
def State.adcRestart (s : State) (g : Nat) : State :=
  match s.adcSub g with
  | some u => (s.setAdcSub g (some { u with restarts := u.restarts + 1 })).set F.AUX_SUBST_STATUS_RESTARTS (min 255 (u.restarts + 1))
  | none => s

/-- A shadow window ends (R101): it passes when both trims and the residual meet their limits (always for a fault
substitution), else it is repeated; the third failure aborts. `level` is the window's signal RMS in 0.1 dB below full
scale, `gain` the gain trim in 0.001 dB, `offset` in 24-bit LSB, `resid` the residual in 0.1 dB below full scale. -/
def State.adcWindowEnd (s : State) (g : Nat) (level : Nat) (gain offset : Int) (resid : Nat) : State :=
  match s.adcSub g with
  | none => s
  | some u =>
    let measured := decide (level < 600) && !(s.privacy && s.ainMic u.unit)
    let trim := if measured then gain else 0
    let ok := decide (-500 ≤ trim) && decide (trim ≤ 500) && decide (-41943 ≤ offset) && decide (offset ≤ 41943)
      && decide (900 < resid)
    if u.crossfade then s else
    let s := ((s.set F.AUX_SUBST_MATCH_RESID resid).setS F.AUX_SUBST_MATCH_GAIN_TRIM (if u.fault then 0 else trim))
    if u.fault || ok then
      let s := s.when (!u.fault) (fun s => { s with aslTrim := vmod s.aslTrim u.spare (fun _ => (trim, offset)) })
      ((s.setAdcSub g (some { u with crossfade := true, pos := 0 })).set (F.AIN_SLICE_SUBST u.unit) 2).set F.AUX_SUBST_STATUS_PHASE 2
    else if u.failed ≥ 2 then s.adcAbort g 2
    else (s.setAdcSub g (some { u with failed := u.failed + 1 })).adcRestart g

/-- The crossfade ends (R100 step 6); a format write it held takes effect by R89 (R102). -/
def State.adcDone (s : State) (g : Nat) : State :=
  match s.adcSub g with
  | some u =>
    if u.crossfade then
      let s := (((s.setAdcSub g none).adcSwap u.unit u.spare).set (F.AIN_SLICE_SUBST u.unit) 0).set (F.AIN_SLICE_SHADOW u.unit) 0
      (s.set F.AUX_SUBST_STATUS_PHASE 3).adcHeld u.unit
    else s
  | none => s

/-- A MODE, RATE or FILTER write that changes a setting in effect (R89, R102). -/
def State.ainFormat (s : State) (n : Nat) (mode : Bool) : State :=
  match s.adcSub (ainGroup n) with
  | some u =>
    if u.unit = n then
      if u.crossfade then s.when (decide ((s.ainAt n).phase ≠ .off)) (·.set (F.AIN_STATUS_FMT_PENDING n) 1)
      else (s.adcAbort (ainGroup n) 1).ainTake n mode
    else s.ainTake n mode
  | none => s.ainTake n mode

/-! ## Register writes of the AIN pages -/

/-- CAL_NOW (R91): on a RUNNING input it starts the mute ramp of a calibration. -/
def State.ainCalNow (s : State) (n : Nat) : State :=
  s.when (decide ((s.ainAt n).phase = .running) && decide (s.get (F.AIN_STATUS_STATE n) = 4))
    (fun s => (s.modAin n (fun a => { a with fade := a.fade.turn false })).ainPhase n .calMute)

/-- The stop an input runs at (R96): the lower of its pair's grant and its MAX_STOP when elastic, else 0. -/
def State.ainStopSync (s : State) (n : Nat) : State :=
  s.set (F.AIN_ELASTIC_STOP_NOW n)
    (if s.on (F.AIN_CTRL_ELASTIC n) then min (vget s.grants (2 + n / 2) 0) (s.get (F.AIN_ELASTIC_MAX_STOP n)) else 0)

/-- Effects of a write to AINn_CTRL; `old` is the word before it. -/
def State.ainCtrlWritten (s : State) (n : Nat) (old : Word) (cal : Bool) : State :=
  let s := s.when (decide (s.get (F.AIN_CTRL_MODE n) ≠ bits old 0 2)) (·.ainFormat n true)
  let s := s.when cal (·.ainCalNow n)
  (s.ainStopSync n).ainSync n

/-- Effects of a write to AINn_FMT (R89): a changed RATE or FILTER reconfigures. -/
def State.ainFmtWritten (s : State) (n : Nat) (old : Word) : State :=
  if s.get (F.AIN_FMT_RATE n) = bits old 0 4 ∧ s.get (F.AIN_FMT_FILTER n) = bits old 4 2 then s else s.ainFormat n false

/-- Setting or clearing a pair page's ENABLE (R88, R90). -/
def State.ainPairWritten (s : State) (k : Nat) : State :=
  s.forAll 2 (fun s i => if s.on (F.PG_ENABLE (0x10 + k)) then s.ainTryStart (2 * k + i) else s.ainStop (2 * k + i))

/-! ## Events of an input -/

/-- The front end has settled (R88 step 2, R89 step 3). -/
def State.ainStarted (s : State) (n : Nat) : State :=
  s.event .ain (decide ((s.ainAt n).phase = .powerUp) || decide ((s.ainAt n).phase = .reconf)) (·.ainAfterPower n)

/-- The unmute ramp ends (R88 step 7, R89 step 6), with READY in both sequences (log 134). -/
def State.ainRunning (s : State) (n : Nat) : State :=
  s.event .ain (decide ((s.ainAt n).phase = .unmuting) || decide ((s.ainAt n).phase = .filling)) (fun s =>
    let s := s.when (decide ((s.ainAt n).phase = .filling)) (·.ainUnmute n .unmuting)
    ((s.modAin n (fun a => { a with fade := .at1, fill := 0, reconf := false, modeChanged := false })).ainPhase n .running).irq
      (pgAIN n) (4 + n % 2))

/-- The mute ramp of a stopping input ends (R90). -/
def State.ainStopDone (s : State) (n : Nat) : State :=
  s.event .ain (decide ((s.ainAt n).phase = .muteToOff) && s.fifSilent n) (·.ainOff n)

/-- The offset measurement ends (R91) with `offset` in 24-bit LSB. -/
def State.ainCalDone (s : State) (n : Nat) (offset : Int) : State :=
  let p := (s.ainAt n).phase
  s.event .ain (decide (p = .calibrating) || decide (p = .calMeasure)) (fun s =>
    let s := if decide (-41943 ≤ offset) && decide (offset ≤ 41943) then
        ((s.setS (F.AIN_CAL_OFFSET n) offset).set (F.AIN_CAL_VALID n) 1).set (F.AIN_CAL_CAL_FAIL n) 0
      else
        ((((s.when (!s.on (F.AIN_CAL_VALID n)) (·.set (F.AIN_CAL_OFFSET n) 0)).set (F.AIN_CAL_CAL_FAIL n) 1).fault
          (pgAIN n) 1).irq (pgAIN n) (6 + n % 2))
    if p = .calMeasure then
      s.ainUnmute n .calUnmute
    else s.ainFill n)

/-- One PGA step of 0.5 dB towards the target (R78), in mic mode only. -/
def State.ainPgaStep (s : State) (n : Nat) : State :=
  let now := s.get (F.AIN_PGA_GAIN_NOW n)
  let goal := s.get (F.AIN_PGA_GAIN n)
  s.event .ain (decide ((s.ainAt n).phase ≠ .off) && decide (s.ainMode n = 1)) (fun s =>
    s.set (F.AIN_PGA_GAIN_NOW n) (if now < goal then now + 1 else if goal < now then now - 1 else now))

/-- A modulator reset after four overloaded samples (R92); a shadow window restarts at the overload, and the eighth
restart aborts (R102). The job's count is compared, which counts repeated windows too (log 131). -/
def State.ainOverload (s : State) (n : Nat) (neg : Bool) : State :=
  s.event .ain (decide ((s.ainAt n).phase ≠ .off)) (fun s =>
    let first := !s.on (F.AIN_STATUS_OVL_NOW n)
    let s := ((s.modAin n (fun a => { a with ovlNeg := neg })).set (F.AIN_STATUS_OVL_NOW n) 1).set (F.AIN_STATUS_RECOVERING n) 0
    match s.adcSub (ainGroup n) with
    | some u =>
      if u.unit = n && !u.crossfade && first then
        let s := s.adcRestart (ainGroup n)
        if 8 ≤ u.restarts + 1 then s.adcAbort (ainGroup n) 7 else s
      else s
    | none => s)

/-- The input is back within its full scale (R93 step 4). -/
def State.ainOverloadEnd (s : State) (n : Nat) : State :=
  s.event .ain (s.on (F.AIN_STATUS_OVL_NOW n)) (fun s => (s.set (F.AIN_STATUS_OVL_NOW n) 0).set (F.AIN_STATUS_RECOVERING n) 1)

/-- The recovery time ends (R93 step 6): the input meets specification again. -/
def State.ainRecovered (s : State) (n : Nat) : State :=
  s.event .ain (s.on (F.AIN_STATUS_RECOVERING n)) (fun s =>
    (s.set (F.AIN_STATUS_RECOVERING n) 0).modAin n (fun a => { a with clipOpen := false }))

/-- The stuck-bit detector trips (R98): FAULT 0x02 and a fault substitution. While a fault job of the input is live, a further trip
posts no second one, as R460 says of the MAC units (DESIGN CHOICE, log 179). -/
def State.ainStuckBit (s : State) (n : Nat) : State :=
  s.event .ain (decide ((s.ainAt n).phase ≠ .off) && !s.on (F.AIN_STATUS_OVL_NOW n)) (fun s =>
    let s := (s.fault (pgAIN n) 2).modAin n (fun a => { a with stuck := true })
    s.when (!s.faultJobLive 0 n) (·.postJob 0 n true))

/-- A family PLL runs locked again: inputs that wait for it go on (R85). -/
def State.ainClockUp (s : State) (fam : Nat) : State :=
  s.forAll 16 (fun s n => s.when (decide ((s.ainAt n).phase = .waitClk) && decide (rateFamily (s.ainAt n).rate = fam)
    && s.islandOn .ain) (·.ainAfterPower n))

/-- A family PLL is lost under an input: it delivers zeros in WAIT_CLK (R85, R272). Its mute ramp is over: a stopping input is
off once its Fife gains are mute (R217), a changed one takes its new settings (R89 step 2). A front end that settles goes on. -/
def State.ainUnclocked (s : State) (n : Nat) : State :=
  match (s.ainAt n).phase with
  | .off | .powerUp | .reconf => s
  | .muteToOff => if s.fifSilent n then s.ainOff n else s.ainIdle n
  | .muteToReconf => s.ainReconfigure n
  | _ => (s.ainIdle n).ainPhase n .waitClk

/-- A family PLL is lost: its inputs wait for it. -/
def State.ainClockLost (s : State) (fam : Nat) : State :=
  s.forAll 16 (fun s n => s.when (decide (rateFamily (s.ainAt n).rate = fam)) (·.ainUnclocked n))

/-! ## Microphone privacy (R95) -/

/-- MIC_PRIVACY_N as the converters see it: AUX_PRIVACY, its count and interrupt, and each input's status. -/
def State.ainPrivacy (s : State) (on : Bool) : State :=
  let s := s.when (s.privacy != on) (fun s => (s.setB F.AUX_PRIVACY_ASSERTED on).irq 0x18 5)
  let s := s.when on (·.inc F.AUX_PRIVACY_COUNT)
  s.forAll 16 (fun s n => (s.when (on && s.ainMic n) (·.modAin n (fun a => { a with privFade := .at0 }))).ainSync n)

/-! ## Samples (R84 to R93) -/

/-- Corner of the DC high-pass in Hz (R87, R178); 0 is off. -/
def dcCorner : Nat → Nat
  | 1 => 1 | 2 => 5 | 3 => 20 | _ => 0

/-- The pole p = exp(−2π·fc/Fs) as a Q2.30 coefficient, rounded to nearest (R178). -/
def dcPole (fc hz : Nat) : Int := divRne (expQ (-(2 * piQ * fc) / (hz : Int))) (2 ^ 30)

/-- The exact value of y[t] = x[t] − x[t−1] + p·y[t−1], rounded to nearest (R165, R178), not yet saturated. -/
def dcStep (p x x1 y1 : Int) : Int := divRne ((x - x1) * 2 ^ 30 + p * y1) (2 ^ 30)

/-- A 24-bit resolution output (R86): the nearest 24-bit value, in range, with a low byte of 0. -/
def to24 (x : Int) : Int := max (-0x800000) (min 0x7FFFFF (divRne x 256)) * 256

/-- The code of an overloaded output sample (R92). -/
def ovlCode (neg : Bool) : Int := if neg then -0x80000000 else 0x7FFFFF00

/-- One clipped sample (R92): CLIP, its interrupt and the count at the start of a clip event. -/
def State.ainClip (s : State) (n : Nat) : State :=
  if (s.ainAt n).clipOpen then s
  else ((((s.modAin n (fun a => { a with clipOpen := true })).set (F.AIN_CLIP_CLIP n) 1).irq (pgAIN n) (2 + n % 2)).inc
    (F.AIN_CLIP_COUNT n))

/-- Gain ramps of an input, one output sample on (R88, R90, R91, R95, R131). -/
def State.ainRamps (s : State) (n : Nat) : State :=
  let hz := rateHz (s.ainAt n).rate
  let ms := samplesIn 1000 hz
  let priv := s.privacy && s.ainMic n
  let jackLen := if s.get (F.JCK_STATUS_STATE (n - 14)) = 0 then samplesIn 500 hz else ms
  s.modAin n (fun a => { a with
    fade := a.fade.step ms
    muteFade := (a.muteFade.turn (!s.on (F.AIN_CTRL_MUTE n))).step ms
    privFade := if priv then .at0 else if !s.ainMic n then .at1 else (a.privFade.turn true).step (samplesIn 5000 hz)
    jackFade := (a.jackFade.turn (!s.ainHeld n)).step jackLen })

/-- What follows when the start gain has reached its end: R89 step 2, R91's measurement and its end. -/
def State.ainRampEnd (s : State) (n : Nat) : State :=
  let a := s.ainAt n
  if a.fade.done then
    match a.phase with
    | .muteToReconf => if a.modeChanged && !s.fifSilent n then s else s.ainReconfigure n
    | .calMute => s.ainPhase n .calMeasure
    | .calUnmute => s.ainPhase n .running
    | _ => s
  else s

/-- A slice's sample under its trims (R82, R101). -/
def State.sliceSample (s : State) (slice : Nat) (raw : Int) : Int :=
  let t := vget s.aslTrim slice (0, 0)
  if t.1 = 0 then raw - t.2 else divRne ((raw - t.2) * dbLin t.1 1000) q60

/-- The newest sample ahead of decimation of the spare slice that shadows in a group. -/
def State.spareTap (s : State) (g : Nat) (raw : Int) : State :=
  match s.adcSub g with
  | some u => s.setAdcSub g (some { u with tap := raw })
  | none => s

/-- The newest decimated sample of the spare slice that shadows in a group. -/
def State.spareSample (s : State) (g : Nat) (raw : Int) : State :=
  match s.adcSub g with
  | some u => s.setAdcSub g (some { u with raw := raw })
  | none => s

/-- One sample of the crossfade of the input's substitution passes (R100 step 5). -/
def State.adcFadeStep (s : State) (n : Nat) : State :=
  match s.adcSub (ainGroup n) with
  | some u => s.when (decide (u.unit = n) && u.crossfade && decide (u.pos < 64)) (·.setAdcSub (ainGroup n) (some { u with pos := u.pos + 1 }))
  | none => s

/-- What the slices behind an input give (R84, R95, R100 step 5): zero under privacy, the complementary linear crossfade of the
slice in service and its substitute, else the slice in service. `raw` is the sample of the slice in service and `spare` picks that of
its substitute, in 24-bit LSB. -/
def State.ainSlices (s : State) (n : Nat) (raw : Int) (spare : Subst → Int) : Int :=
  if s.privacy && s.ainMic n then 0
  else
    let x := s.sliceSample (s.ainSlice n) raw
    match s.adcSub (ainGroup n) with
    | some u =>
      if u.unit = n ∧ u.crossfade then divRne (x * (64 - u.pos : Int) + s.sliceSample u.spare (spare u) * (u.pos : Int)) 64 else x
    | none => x

/-- Is the input overloaded as its data show it: not under the zeros of privacy (R92, R95)? -/
def State.ainOvl (s : State) (n : Nat) : Bool := s.on (F.AIN_STATUS_OVL_NOW n) && !(s.privacy && s.ainMic n)

/-- The Fife tap's value for a slice sample (R84, R217): the end code of the polarity while the modulator is reset, else the
sample within the modulator's range. -/
def State.ainTapOf (s : State) (n : Nat) (x : Int) : Int :=
  if s.ainOvl n then ovlCode (s.ainAt n).ovlNeg else max (-0x800000) (min 0x7FFFFF x) * 256

/-- Offset correction and DC removal (R87, R91) of a decimated sample `x` in 24-bit LSB, and the overload codes of R92: the sample
before the gains, and whether it is saturated. While DC_HPF is 0 both states of the filter follow its input (log 132). -/
def State.ainCorrect (s : State) (n : Nat) (x : Int) : State × Int × Bool :=
  let a := s.ainAt n
  let ovl := s.ainOvl n
  let x1 := (x - signed 24 (s.get (F.AIN_CAL_OFFSET n))) * 256
  let sat := ovl || decide (x > 0x7FFFFF) || decide (x < -0x800000) || over32 x1
  let code := ovlCode (if ovl then a.ovlNeg else decide (x < 0))
  let x2 := if sat then code else x1
  let fc := dcCorner (s.get (F.AIN_FMT_DC_HPF n))
  let y := if fc = 0 then x2 else dcStep (dcPole fc (rateHz a.rate)) x2 a.hpX a.hpY
  let s := s.modAin n (fun a => { a with hpX := x2, hpY := sat32 y })
  (s, if sat then code else if over32 y then ovlCode (decide (y < 0)) else y, sat || over32 y)

/-- One decimated sample `raw` (24-bit LSB, before clamping) of the slice in service of an input: the output sample and the input
after it (R84 to R95). -/
def State.ainSample (s : State) (n : Nat) (raw : Int) : State × Int :=
  let a := s.ainAt n
  if !s.clocked .ain || !a.phase.taps then (s, 0)
  else
    let s := s.adcFadeStep n
    let x := s.ainSlices n raw Subst.raw
    if a.phase = .filling then
      ((s.modAin n (fun a => { a with fill := a.fill - 1 })).when (decide (a.fill ≤ 1)) (·.ainUnmute n .unmuting), 0)
    else
      let (s, z, sat) := s.ainCorrect n x
      let s := if sat then s.ainClip n
        else s.when (!s.on (F.AIN_STATUS_RECOVERING n)) (·.modAin n (fun a => { a with clipOpen := false }))
      let s := s.ainRamps n
      let a := s.ainAt n
      let z := fadeSample a.fade (s.lsb 0 n) z
      let z := fadeSample a.muteFade (s.lsb 1 n) z
      let z := fadeSample a.privFade (s.lsb 2 n) z
      let z := fadeSample a.jackFade (s.lsb 3 n) z
      (s.ainRampEnd n, to24 z)

/-- The newest modulator sample of the slice in service of an input (24-bit LSB, ahead of decimation): the tap takes it with the trims
and the crossfade of its slices (R84, R100). -/
def State.ainTapTake (s : State) (n : Nat) (raw : Int) : State :=
  s.when (s.clocked .ain && (s.ainAt n).phase.taps) (fun s =>
    { s with ainTap := vmod s.ainTap n (fun _ => s.ainTapOf n (s.ainSlices n raw Subst.tap)) })

/-- The Fife tap of an input (R84, R217): zero where no slice converts its signal and, from the assertion on, under privacy. -/
def State.tapOf (s : State) (n : Nat) : Int :=
  if (s.ainAt n).phase.taps && !(s.privacy && s.ainMic n) then vget s.ainTap n 0 else 0

/-! ## Mic biases (R79) -/

/-- Set a bias regulator's phase and its READY. -/
def State.biasPhase (s : State) (m : Nat) (p : BiasPhase) : State :=
  ({ s with bias := vmod s.bias m (fun _ => p) }).setB (F.AUX_MICBIAS_STATUS_READY m) (decide (p = BiasPhase.on))

/-- The phase of a bias. -/
def State.biasAt (s : State) (m : Nat) : BiasPhase := vget s.bias m .off

/-- Drive one bias from EN, LEVEL and the page's ENABLE (R79, R105): `level` says that LEVEL changed. -/
def State.biasDrive (s : State) (m : Nat) (level : Bool) : State :=
  let en := s.on (F.AUX_MICBIAS_CTRL_EN m)
  match s.biasAt m with
  | .latched => if en then s else s.biasPhase m .off
  | .off | .rampDown => if en && s.on (F.PG_ENABLE 0x18) then s.biasPhase m .rampUp else s
  | .rampUp | .on | .rampLevel =>
    if en && s.on (F.PG_ENABLE 0x18) then (if level then s.biasPhase m .rampLevel else s) else s.biasPhase m .rampDown

/-- Effects of a write to AUX_MICBIAS_CTRL. -/
def State.biasWritten (s : State) (old : Word) : State :=
  s.forAll 4 (fun s m => s.biasDrive m (decide (bits old (4 * m + 1) 2 ≠ s.get (F.AUX_MICBIAS_CTRL_LEVEL m))))

/-- A bias ramp ends (R79). -/
def State.biasReady (s : State) (m : Nat) : State :=
  s.event .ain true (fun s => match s.biasAt m with
    | .rampUp | .rampLevel => s.biasPhase m .on
    | .rampDown => s.biasPhase m .off
    | _ => s)

/-- A bias has been in current limit for 10 ms (R79). -/
def State.biasOvercurrent (s : State) (m : Nat) : State :=
  s.event .ain (decide (s.biasAt m ≠ .off) && decide (s.biasAt m ≠ .latched)) (fun s =>
    (((s.biasPhase m .latched).set (F.AUX_MICBIAS_STATUS_OVERCURRENT m) 1).fault 0x18 1).irq 0x18 3)

/-! ## BEEP (R81) -/

/-- Move BEEP to a phase. -/
def State.beepPhase (s : State) (p : AinPhase) : State :=
  ({ s with beep := { s.beep with phase := p } }).setB F.AUX_BEEP_STATUS_RUNNING p.delivers

/-- May BEEP run? -/
def State.beepAble (s : State) : Bool := s.on (F.PG_ENABLE 0x18) && s.on F.AUX_BEEP_CTRL_EN && s.islandOn .ain

/-- BEEP's settings take effect. -/
def State.beepApply (s : State) : State :=
  { s with beep := { s.beep with rate := s.get F.AUX_BEEP_CTRL_RATE, filter := s.get F.AUX_BEEP_CTRL_FILTER } }

/-- BEEP fills its decimator, or waits for its PLL or VREFA (R85, R88). -/
def State.beepAfterPower (s : State) : State :=
  if !s.famUp (rateFamily s.beep.rate) then s.beepPhase .waitClk
  else if !s.on F.AUX_VREF_STATUS_VREFA_READY then s.beepPhase .waitVref
  else ({ s with beep := { s.beep with fill := fillCount s.beep.filter, fade := .at0 } }).beepPhase .filling

/-- BEEP starts by R88 without calibration; its front end settles within the step (log 18). -/
def State.beepBegin (s : State) : State := s.beepApply.beepAfterPower

/-- Effects of a write to AUX_BEEP_CTRL or to the page's ENABLE (R81, R105). -/
def State.beepWritten (s : State) : State :=
  if s.beepAble then
    match s.beep.phase with
    | .off => s.beepBegin
    | .muteToOff => ({ s with beep := { s.beep with fade := s.beep.fade.turn false } }).beepPhase .muteToReconf
    | p =>
      if s.get F.AUX_BEEP_CTRL_RATE = s.beep.rate ∧ s.get F.AUX_BEEP_CTRL_FILTER = s.beep.filter then s
      else if p.delivers then ({ s with beep := { s.beep with fade := s.beep.fade.turn false } }).beepPhase .muteToReconf
      else s.beepBegin
  else if s.beep.phase.delivers then ({ s with beep := { s.beep with fade := s.beep.fade.turn false } }).beepPhase .muteToOff
  else s.beepPhase .off

/-- A write of the AUX page's ENABLE gates BEEP and the biases (R105). -/
def State.auxEnableWritten (s : State) : State := (s.forAll 4 (fun s m => s.biasDrive m false)).beepWritten

/-- Sets ACTIVE and its interrupt at a sample above −40 dBFS (R81), judged ahead of GAIN, MUTE and the ramps (log 133). -/
def State.beepHeard (s : State) (x : Int) : State :=
  s.when (decide (x * x * 10000 > (2 ^ 31) * (2 ^ 31))) (fun s =>
    let s := (s.when (!s.on F.AUX_BEEP_STATUS_ACTIVE) (·.irq 0x18 2)).set F.AUX_BEEP_STATUS_ACTIVE 1
    { s with beep := { s.beep with activeLeft := samplesIn 10000 (feHz s.fe) } })

/-- One engine frame of the 10 ms after which ACTIVE clears (R81). -/
def State.beepTick (s : State) : State :=
  let left := s.beep.activeLeft - 1
  s.when (s.on F.AUX_BEEP_STATUS_ACTIVE) (fun s => ({ s with beep := { s.beep with activeLeft := left } }).setB F.AUX_BEEP_STATUS_ACTIVE (decide (0 < left)))

/-- One decimated sample of BEEP (24-bit LSB): attenuation, saturation, its ramps (R81). -/
def State.beepSample (s : State) (raw : Int) : State × Int :=
  let b := s.beep
  if !s.clocked .ain then (s, 0)
  else if b.phase = .filling then
    let s := { s with beep := { b with fill := b.fill - 1 } }
    (s.when (decide (b.fill ≤ 1)) (fun s =>
      ({ s with beep := { s.beep with fade := ⟨0, 1, true⟩, muteFade := .settled (!s.on F.AUX_BEEP_CTRL_MUTE) } }).beepPhase .unmuting), 0)
  else if !b.phase.delivers then (s, 0)
  else
    let hz := rateHz b.rate
    let clip := decide (raw > 0x7FFFFF) || decide (raw < -0x800000)
    let x := if clip then ovlCode (decide (raw < 0)) else raw * 256
    let s := (s.when clip (·.set F.AUX_BEEP_STATUS_CLIP 1)).beepHeard x
    let ms := samplesIn 1000 hz
    let fade := b.fade.step ms
    let mute := (b.muteFade.turn (!s.on F.AUX_BEEP_CTRL_MUTE)).step ms
    let s := { s with beep := { s.beep with fade := fade, muteFade := mute } }
    let y := if s.get F.AUX_BEEP_CTRL_GAIN = 0 then x
      else divRne (x * dbLin (-6 * (s.get F.AUX_BEEP_CTRL_GAIN : Int)) 1) q60
    let y := fadeSample fade (s.lsb 0 16) y
    let y := fadeSample mute (s.lsb 1 16) y
    let s := if fade.done then
        match b.phase with
        | .unmuting => s.beepPhase .running
        | .muteToOff => s.beepPhase .off
        | .muteToReconf => s.beepBegin
        | _ => s
      else s
    (s, to24 y)

/-- A family PLL runs locked again: BEEP goes on. -/
def State.beepClockUp (s : State) (fam : Nat) : State :=
  s.when (decide (s.beep.phase = .waitClk) && decide (rateFamily s.beep.rate = fam)) (·.beepAfterPower)

/-- A family PLL is lost: BEEP waits; a ramp to off or to new settings is over. -/
def State.beepClockLost (s : State) (fam : Nat) : State :=
  s.when (decide (rateFamily s.beep.rate = fam)) (fun s => match s.beep.phase with
    | .off => s
    | .muteToOff => s.beepPhase .off
    | .muteToReconf => s.beepBegin
    | _ => ({ s with beep := { s.beep with fade := .at0 } }).beepPhase .waitClk)

/-! ## Isolation and return (R88, R368) -/

/-- The clamps of PD_AIN are applied (R365 S4, R368): inputs, BEEP and biases are off. -/
def State.ainIsolate (s : State) : State :=
  let s := s.forAll 16 (fun s n => s.when (decide ((s.ainAt n).phase ≠ .off)) (fun s => (s.ainIdle n).ainPhase n .off))
  let s := (s.beepPhase .off).setB F.AUX_BEEP_STATUS_ACTIVE false
  s.forAll 4 (fun s m => s.when (decide (s.biasAt m ≠ .latched)) (·.biasPhase m .off))

/-- PD_AIN returns to on: each input that is able to run starts, and so do BEEP and the biases (R79, R88). -/
def State.ainRestart (s : State) : State :=
  let s := s.forAll 16 (fun s n => s.when (s.ainAble n) (·.ainBegin n))
  (s.when s.beepAble (·.beepBegin)).forAll 4 (fun s m => s.biasDrive m false)

/-! ## VREFA (R88, R106) -/

/-- VREFA is charged (R88 step 3): inputs that wait for it go on. -/
def State.vrefaReady (s : State) : State :=
  s.when (s.vrefaStarted && !s.on F.AUX_VREF_STATUS_VREFA_READY) (fun s =>
    let s := s.set F.AUX_VREF_STATUS_VREFA_READY 1
    let s := s.forAll 16 (fun s n => s.when (decide ((s.ainAt n).phase = .waitVref)) (·.ainAfterPower n))
    s.when (decide (s.beep.phase = .waitVref)) (·.beepAfterPower))

/-- VREFA is not ready 20 ms after its soft-start began (R106). -/
def State.vrefaLate (s : State) : State :=
  s.when (s.vrefaStarted && !s.on F.AUX_VREF_STATUS_VREFA_READY) (·.fault 0x18 2)

/-! ## AUX_SUBST_REQ (R99, R102) -/

/-- START posts a substitution job for INPUT. -/
def State.auxSubstStart (s : State) : State := s.postJob 0 (s.get F.AUX_SUBST_REQ_INPUT) false

/-- ABORT aborts a substitution in shadow; a crossfade completes. With one running in each group it aborts both (DESIGN CHOICE,
log 131): the register names no group. -/
def State.auxSubstAbort (s : State) : State := (s.adcAbortShadow 0 6).adcAbortShadow 1 6

/-- The conditions of the AIN pair pages' and the AUX page's fault codes that still hold (R60, R104, R106). -/
def State.ainFaultHolds (s : State) (page code : Nat) : Bool :=
  if page = 0x18 then
    if code = 1 then (List.range 4).any (fun m => decide (s.biasAt m = .latched)) else !s.on F.AUX_VREF_STATUS_VREFA_READY
  else
    let n := 2 * (page - 0x10)
    if code = 1 then s.on (F.AIN_CAL_CAL_FAIL n) || s.on (F.AIN_CAL_CAL_FAIL (n + 1))
    else (s.ainAt n).stuck || (s.ainAt (n + 1)).stuck

/-! ## Meanings of the events -/

/-- AIN_START (R88, R89): the front end and slice are powered and settled. -/
def execAinStart (n : Fin 16) (s : State) : Host.Outcome State Fault Refusal := .next (settle (s.ainStarted n))
/-- AIN_RUNNING (R88 step 7, R89 step 6). -/
def execAinRunning (n : Fin 16) (s : State) : Host.Outcome State Fault Refusal := .next (settle (s.ainRunning n))
/-- AIN_STOP_DONE (R90). -/
def execAinStopDone (n : Fin 16) (s : State) : Host.Outcome State Fault Refusal := .next (settle (s.ainStopDone n))
/-- AIN_CAL_DONE (R91). -/
def execAinCalDone (n : Fin 16) (offset : Int) (s : State) : Host.Outcome State Fault Refusal :=
  .next (settle (s.ainCalDone n offset))
/-- AIN_PGA_STEP (R78). -/
def execAinPgaStep (n : Fin 16) (s : State) : Host.Outcome State Fault Refusal := .next (settle (s.ainPgaStep n))
/-- AIN_OVERLOAD_RESET (R92). -/
def execAinOverloadReset (n : Fin 16) (negative : Bool) (s : State) : Host.Outcome State Fault Refusal :=
  .next (settle (s.ainOverload n negative))
/-- AIN_OVERLOAD_END (R93). -/
def execAinOverloadEnd (n : Fin 16) (s : State) : Host.Outcome State Fault Refusal := .next (settle (s.ainOverloadEnd n))
/-- AIN_RECOVERY_END (R93). -/
def execAinRecoveryEnd (n : Fin 16) (s : State) : Host.Outcome State Fault Refusal := .next (settle (s.ainRecovered n))
/-- MICBIAS_READY (R79). -/
def execMicbiasReady (m : Fin 4) (s : State) : Host.Outcome State Fault Refusal := .next (settle (s.biasReady m))
/-- MICBIAS_OVERCURRENT (R79). -/
def execMicbiasOvercurrent (m : Fin 4) (s : State) : Host.Outcome State Fault Refusal :=
  .next (settle (s.biasOvercurrent m))
/-- VREFA_READY (R88). -/
def execVrefaReady (s : State) : Host.Outcome State Fault Refusal := .next (settle s.vrefaReady)
/-- VREFA_NOT_READY (R106). -/
def execVrefaNotReady (s : State) : Host.Outcome State Fault Refusal := .next (settle s.vrefaLate)
/-- SLICE_STUCK_BIT (R98), on the slice that serves input `n`. -/
def execSliceStuckBit (n : Fin 16) (s : State) : Host.Outcome State Fault Refusal := .next (settle (s.ainStuckBit n))
/-- ADC_SHADOW_WINDOW_END (R101) of the running substitution of group `g`. -/
def execAdcShadowWindowEnd (g : Fin 2) (level : Nat) (gain offset : Int) (resid : Nat) (s : State) :
    Host.Outcome State Fault Refusal := .next (settle (s.event .ain true (·.adcWindowEnd g level gain offset resid)))
/-- ADC_SUBST_DONE (R100 step 6) of group `g`. -/
def execAdcSubstDone (g : Fin 2) (s : State) : Host.Outcome State Fault Refusal :=
  .next (settle (s.event .ain true (·.adcDone g)))

end Sys2Proof.Machine
end

