-- ==== Sys2Proof/Machine/Aout.lean ====
section
/-! DEFINITION. DAC channels, the charge pump, VREFB, the collapse hold and the DAC slice pool (chapter 05, R107 to R125,
R135 to R138): what each event and each register write does to them, and what one sink sample becomes. -/

namespace Sys2Proof.Machine

/-- One channel's record. -/
def State.aoutAt (s : State) (c : Nat) : Aout := vget s.aout c Aout.init

/-- Update one channel's record. -/
def State.modAout (s : State) (c : Nat) (f : Aout → Aout) : State := { s with aout := vmod s.aout c f }

/-- Is it a headphone channel (R107)? Channels 0 to 3 are HP0L, HP0R, HP1L, HP1R. -/
def isHp (c : Nat) : Bool := decide (c < 4)

/-- Is jack auto-mute in effect for jack n's channels (R126, R127, R134)? -/
def State.jackHold (s : State) (n : Nat) : Bool :=
  s.on (F.JCK_CTRL_DET_MODE n) &&
    ((s.on (F.JCK_CTRL_AUTO_MUTE n) && decide (s.get (F.JCK_STATUS_STATE n) ≠ 4)) || s.on (F.JCK_STATUS_SHORT_FOUND n))

/-- Is the channel held by jack auto-mute? -/
def State.aoutJackHold (s : State) (c : Nat) : Bool := isHp c && s.jackHold (c / 2)

/-- Is the channel held muted by MUTE or by its jack (R114)? -/
def State.aoutHeld (s : State) (c : Nat) : Bool := s.on (F.AOUT_CTRL_MUTE c) || s.aoutJackHold c

/-- Is headphone channel c in BRIDGED mode: HP_MODE as it is in effect (R110, R115)? -/
def State.bridged (s : State) (c : Nat) : Bool := isHp c && (s.aoutAt c).bridge

/-- Is the channel the second one of a BRIDGED pair (R110)? -/
def State.bridgedOdd (s : State) (c : Nat) : Bool := decide (c % 2 = 1) && s.bridged c

/-- Does the collapse mute hold the outputs (R120)? -/
def State.collapsed (s : State) : Bool := s.pins.crit || s.on F.JCK_HOLD_STATUS_MUTED

/-- Does the pop-control gain stand at, or move to, 1 (R108)? -/
def State.aoutOpen (s : State) (c : Nat) : Bool :=
  (match (s.aoutAt c).phase with | .unmuting | .running | .recRamp => true | _ => false) &&
    !s.aoutHeld c && !s.outHold && !s.collapsed && !(isHp c && s.cpFault) &&
    !(isHp c && s.on (F.JCK_IMP_CTRL_BUSY (c / 2)))

/-- AOUTc_STATUS.STATE of a phase (R114 to R119, R135); the stop ramp shows the state it leaves (log 138). -/
def aoutState (p : AoutPhase) (held : Bool) : Nat :=
  match p with
  | .off => 0
  | .waitClk => 1
  | .starting | .waitPump | .waitVref | .waitVhold | .unmuting => 2
  | .running | .stopping => if held then 4 else 3
  | .recMute | .recFill | .recRamp => 5
  | .quiesced => 6
  | .fault => 7

/-- Write a channel's status fields, and turn its pop-control gain where its cause has changed, over `us`. -/
def State.aoutSync (s : State) (c us : Nat) : State :=
  let up := s.aoutOpen c
  let s := s.modAout c (fun a => if a.pop.up = up then a else { a with pop := a.pop.turn up, popUs := us })
  let a := s.aoutAt c
  ((((s.set (F.AOUT_STATUS_STATE c) (aoutState a.phase (s.aoutHeld c))).setB (F.AOUT_STATUS_JACK_MUTE c) (s.aoutJackHold c)).setB
    (F.AOUT_STATUS_HOLD_MUTE c) s.collapsed).set (F.AOUT_STATUS_DOMAIN c) (rateFamily a.rate))

/-- A cause ramps the pop-control gain down over `us` from its present value: with another ramp under way the faster goes on. -/
def State.aoutPress (s : State) (c us : Nat) : State :=
  s.modAout c (fun a => if a.pop.up then a else { a with popUs := min a.popUs us })

/-- Move a channel to a phase; a ramp that follows takes `us`. -/
def State.aoutPhase (s : State) (c : Nat) (p : AoutPhase) (us : Nat) : State :=
  (s.modAout c (fun a => { a with phase := p })).aoutSync c us

/-- Ramp time of MRAMP in µs (R116). -/
def mrampUs : Nat → Nat
  | 0 => 1000 | 1 => 5000 | _ => 20000

/-- Fill count of the interpolator in samples (R112). -/
def intFill : Nat → Nat
  | 0 => 34 | 1 => 10 | _ => 4

/-! ## Start and stop -/

/-- May the channel run? -/
def State.aoutAble (s : State) (c : Nat) : Bool :=
  s.on (F.PG_ENABLE (pgAOP c)) && s.on (F.AOUT_CTRL_EN c) && s.islandOn .aout

/-- The settings of the registers take effect. -/
def State.aoutApply (s : State) (c : Nat) : State :=
  s.modAout c (fun a => { a with
    rate := s.get (F.AOUT_FMT_RATE c), filter := s.get (F.AOUT_FMT_FILTER c)
    bridge := isHp c && decide (s.get (F.AOP_PAIR_HP_MODE (c / 2)) = 1) })

/-- Step 1 of R114. -/
def State.aoutBegin (s : State) (c : Nat) : State :=
  (((s.aoutApply c).modAout c (fun a => { a with pop := .at0, wasOn := false, win := [] })).set (F.AOUT_STATUS_FMT_PENDING c) 0).aoutPhase
    c .starting 5000

/-- Start a channel that is able to run and off (R114). -/
def State.aoutTryStart (s : State) (c : Nat) : State :=
  s.when (s.aoutAble c && decide ((s.aoutAt c).phase = .off)) (·.aoutBegin c)

/-- The pump supplies the headphones: HPVDD good and no fault pending (R51, R123). -/
def State.pumpUp (s : State) : State :=
  s.when (s.pins.hpvdd && !s.cpFault) (fun s => { s.set F.JCK_CP_STATUS_READY 1 with cpStop := false })

/-- The pump runs where FORCE_ON asks for it, whatever the channels do (R117). -/
def State.pumpForced (s : State) : State := s.when (s.on F.JCK_CP_CTRL_FORCE_ON && s.islandOn .aout) State.pumpUp

/-- Is every headphone channel off, so that nothing but FORCE_ON keeps the pump (R117)? -/
def State.hpAllOff (s : State) : Bool := (List.range 4).all (fun h => decide ((s.aoutAt h).phase = .off))

/-- The pump's 10 ms begin when nothing keeps it (R117). -/
def State.pumpIdle (s : State) : State :=
  s.when (!s.on F.JCK_CP_CTRL_FORCE_ON && s.on F.JCK_CP_STATUS_READY && s.hpAllOff) (fun s => { s with cpStop := true })

/-- Steps 2 to 7 of R114, as far as pump, VREFB, PLL and VHOLD allow. A channel whose pair is quiesced keeps its gain at zero and goes on
after an unwind (R119, log 137). -/
def State.aoutGo (s : State) (c : Nat) : State :=
  if s.isQuiet (10 + c / 2) then s.aoutPhase c .starting 5000
  else
  let s := s.when (isHp c) (·.pumpUp)
  if isHp c && !s.on F.JCK_CP_STATUS_READY then s.aoutPhase c .waitPump 5000
  else if !s.on F.JCK_VREFB_STATUS_READY then s.aoutPhase c .waitVref 5000
  else if !s.famUp (rateFamily (s.aoutAt c).rate) then s.aoutPhase c .waitClk 5000
  else if !s.on F.JCK_HOLD_STATUS_VHOLD_OK then s.aoutPhase c .waitVhold 5000
  else if s.aoutHeld c then (s.aoutPhase c .running 5000).irq (pgAOP c) (2 + c % 2)
  else s.aoutPhase c .unmuting 5000

/-- Isolation of a channel's own stage (R116, R119): OFF, with the settings as they are written (R110), and the pump's stop time when it
was the last headphone. -/
def State.aoutOff (s : State) (c : Nat) : State :=
  let s := (((s.aoutApply c).modAout c (fun a => { a with pop := .at0, wasOn := false })).set (F.AOUT_STATUS_ILIM_NOW c) 0).aoutPhase
    c .off 1000
  s.when (isHp c) State.pumpIdle

/-- EN or ENABLE cleared (R116): the gain ramps down over 1 ms; a channel with its gain at zero isolates at once. A substitution that
runs for the channel goes on to its end, as it does when the family's PLL is lost: R102 and R125 name neither event (DESIGN CHOICE,
log 180). -/
def State.aoutStop (s : State) (c : Nat) : State :=
  let a := s.aoutAt c
  match a.phase with
  | .off => s
  | .running | .unmuting | .recMute | .recRamp | .stopping =>
    (s.modAout c (fun a => { a with popUs := 1000 })).aoutPhase c .stopping 1000
  | _ => s.aoutOff c

/-- Drive a channel from its EN and its page's ENABLE. -/
def State.aoutDrive (s : State) (c : Nat) : State :=
  if s.on (F.PG_ENABLE (pgAOP c)) && s.on (F.AOUT_CTRL_EN c) then s.aoutTryStart c else s.aoutStop c

/-! ## DAC slice substitution (R124, R125) -/

/-- The running substitution of a group. -/
def State.dacSub (s : State) (g : Nat) : Option Subst := vget s.dacSubst g none

/-- Set the running substitution of a group. -/
def State.setDacSub (s : State) (g : Nat) (x : Option Subst) : State := { s with dacSubst := vmod s.dacSubst g (fun _ => x) }

/-- State of a DAC slice, codes of R105. -/
def State.dsl (s : State) (d : Nat) : Nat := s.get (F.JCK_DSL_STATE_DSL d)

/-- Set the state of a DAC slice. -/
def State.setDsl (s : State) (d v : Nat) : State :=
  (s.spareLogIf (decide (s.dsl d ≠ v)) 3 d 1 v).set (F.JCK_DSL_STATE_DSL d) v

/-- The slice that serves a channel. -/
def State.aoutSlice (s : State) (c : Nat) : Nat :=
  if c < 4 then s.get (F.JCK_DSL_MAP0_CH c) else s.get (F.JCK_DSL_MAP1_CH (c - 4))

/-- Put a slice in service for a channel: both copies of the map. -/
def State.setAoutSlice (s : State) (c d : Nat) : State :=
  let s := s.spareLogIf (decide (s.aoutSlice c ≠ d)) 2 c d 0
  (if c < 4 then s.set (F.JCK_DSL_MAP0_CH c) d else s.set (F.JCK_DSL_MAP1_CH (c - 4)) d).set (F.AOUT_SLICE_SLICE c) d

/-- The slice a DAC substitution takes: the group's SPARE one; a fault substitution also an UNCAL one. -/
def State.dacSpare (s : State) (g : Nat) (fault : Bool) : Option Nat :=
  let mine := (List.range 10).filter (fun d => decide (dslGroup d = g))
  match mine.find? (fun d => decide (s.dsl d = 0)) with
  | some d => some d
  | none => if fault then mine.find? (fun d => decide (s.dsl d = 5)) else none

/-- An aborted DAC substitution: ABORTED, its cause and SUBST_ABORTED; the job ends with `result`. -/
def State.dacAborted (s : State) (c cause result : Nat) : State :=
  ((((s.set F.JCK_SUBST_STATUS_ABORT_CAUSE cause).set F.JCK_SUBST_STATUS_ABORTED 1).set F.JCK_SUBST_STATUS_PHASE 0).irq 0x0D 10
    ).finishJob 1 c result

/-! ## Reconfiguration (R115) -/

/-- Step 2 of R115: the new settings apply and the interpolator refills, or the channel waits for its PLL (R111). -/
def State.aoutRefill (s : State) (c : Nat) : State :=
  let s := (s.aoutApply c).modAout c (fun a => { a with pop := .at0, win := [] })
  if !s.famUp (rateFamily (s.aoutAt c).rate) then s.aoutPhase c .waitClk 5000
  else (s.modAout c (fun a => { a with fill := intFill a.filter * feHz s.fe })).aoutPhase c .recFill 1000

/-- A RATE, FILTER or HP_MODE change (R115). A channel that delivers nothing takes it at once. R115 speaks of a running channel: one in
steps 1 to 6 of R114 takes the settings and begins the start anew, one in its ramp of step 7 goes through R115 to RUNNING with no READY
(DESIGN CHOICE, log 130). -/
def State.aoutChange (s : State) (c : Nat) : State :=
  match (s.aoutAt c).phase with
  | .running | .unmuting | .recRamp => s.aoutPhase c .recMute 1000
  | .recFill => s.aoutRefill c
  | .starting | .waitPump | .waitVref | .waitClk | .waitVhold => (s.aoutApply c).aoutPhase c .starting 5000
  | .off | .fault | .quiesced => (s.aoutApply c).aoutSync c 5000
  | .recMute | .stopping => s

/-- A write that a crossfade held takes effect (R102, R125). -/
def State.dacHeld (s : State) (c : Nat) : State :=
  s.when (s.on (F.AOUT_STATUS_FMT_PENDING c)) (fun s => (s.set (F.AOUT_STATUS_FMT_PENDING c) 0).aoutChange c)

/-! ## The running substitution (R124, R125) -/

/-- Abort the group's running DAC substitution. -/
def State.dacAbort (s : State) (g cause : Nat) : State :=
  match s.dacSub g with
  | none => s
  | some u =>
    let s := (s.setDsl u.spare (if cause = 2 then 3 else u.prev)).setDacSub g none
    let s := s.when (decide (cause = 2)) (·.postJob 3 u.spare false)
    (((s.set (F.AOUT_SLICE_SUBST u.unit) 0).set (F.AOUT_SLICE_SHADOW u.unit) 0).dacAborted u.unit cause 2).dacHeld u.unit

/-- Abort the group's DAC substitution while it shadows. -/
def State.dacAbortShadow (s : State) (g cause : Nat) : State :=
  match s.dacSub g with
  | some u => if u.crossfade then s else s.dacAbort g cause
  | none => s

/-- Abort the shadow of one channel. -/
def State.dacAbortOf (s : State) (c cause : Nat) : State :=
  match s.dacSub (dacGroup c) with
  | some u => if u.unit = c then s.dacAbortShadow (dacGroup c) cause else s
  | none => s

/-- The new slice is in service (R124 step 6). -/
def State.dacSwap (s : State) (c spare : Nat) : State :=
  let old := s.aoutSlice c
  ((((((s.setAoutSlice c spare).setDsl spare 1).setDsl old 3).modAout c (fun a => { a with element := false })).irq
    (pgAOP c) (6 + c % 2)).finishJob 1 c 1).postJob 3 old false

/-- A dispatched DAC substitution starts (R124 step 1). -/
def State.dacSubstStart (s : State) (c : Nat) (fault : Bool) : State :=
  let g := dacGroup c
  let s := ((s.set F.JCK_SUBST_STATUS_INPUT c).set F.JCK_SUBST_STATUS_RESTARTS 0).set F.JCK_SUBST_STATUS_ABORT_CAUSE 0
  match s.dacSpare g fault with
  | none => s.dacAborted c 4 4
  | some d =>
    let s := s.set F.JCK_SUBST_STATUS_SPARE d
    match (s.aoutAt c).phase with
    | .off => (s.dacSwap c d).set F.JCK_SUBST_STATUS_PHASE 3
    | .running =>
      ((((s.setDacSub g (some ⟨c, d, s.dsl d, fault, false, 0, 0, 0, 0, 0⟩)).setDsl d 2).set (F.AOUT_SLICE_SUBST c) 1).set
        (F.AOUT_SLICE_SHADOW c) d).set F.JCK_SUBST_STATUS_PHASE 1
    | _ => (s.set F.JCK_SUBST_STATUS_PHASE 0).finishJob 1 c 3

/-- The shadow window of a running job restarts (R102, R125). The eighth restart is counted for each job; RESTARTS shows the job that
restarted last (log 131). -/
def State.dacRestart (s : State) (g : Nat) : State :=
  match s.dacSub g with
  | some u => (s.setDacSub g (some { u with restarts := u.restarts + 1 })).set F.JCK_SUBST_STATUS_RESTARTS (min 255 (u.restarts + 1))
  | none => s

/-- A DAC shadow window ends; the conditions are R101's (R124). -/
def State.dacWindowEnd (s : State) (g : Nat) (level : Nat) (gain offset : Int) (resid : Nat) : State :=
  match s.dacSub g with
  | none => s
  | some u =>
    let trim := if level < 600 then gain else 0
    let ok := decide (-500 ≤ trim) && decide (trim ≤ 500) && decide (-41943 ≤ offset) && decide (offset ≤ 41943)
      && decide (900 < resid)
    if u.crossfade then s else
    let s := ((s.set F.JCK_SUBST_MATCH_RESID resid).setS F.JCK_SUBST_MATCH_GAIN_TRIM (if u.fault then 0 else trim))
    if u.fault || ok then
      let s := s.when (!u.fault) (fun s => { s with dslTrim := vmod s.dslTrim u.spare (fun _ => (trim, offset)) })
      ((s.setDacSub g (some { u with crossfade := true })).set (F.AOUT_SLICE_SUBST u.unit) 2).set F.JCK_SUBST_STATUS_PHASE 2
    else if u.failed ≥ 2 then s.dacAbort g 2
    else (s.setDacSub g (some { u with failed := u.failed + 1 })).dacRestart g

/-- A format write, resolved against a running substitution (R102, R125). -/
def State.aoutFormat (s : State) (c : Nat) : State :=
  match s.dacSub (dacGroup c) with
  | some u =>
    if u.unit = c then
      if u.crossfade then s.set (F.AOUT_STATUS_FMT_PENDING c) 1 else (s.dacAbort (dacGroup c) 1).aoutChange c
    else s.aoutChange c
  | none => s.aoutChange c

/-- The DAC crossfade ends (R124 step 6); a format write it held takes effect. -/
def State.dacDone (s : State) (g : Nat) : State :=
  match s.dacSub g with
  | some u =>
    if u.crossfade then
      let s := (((s.setDacSub g none).dacSwap u.unit u.spare).set (F.AOUT_SLICE_SUBST u.unit) 0).set (F.AOUT_SLICE_SHADOW u.unit) 0
      (s.set F.JCK_SUBST_STATUS_PHASE 3).dacHeld u.unit
    else s
  | none => s

/-! ## Register writes -/

/-- The stop a channel runs at (R118). -/
def State.aoutStopSync (s : State) (c : Nat) : State :=
  s.set (F.AOUT_ELASTIC_STOP_NOW c)
    (if s.on (F.AOUT_CTRL_ELASTIC c) then min (vget s.grants (10 + c / 2) 0) (s.get (F.AOUT_ELASTIC_MAX_STOP c)) else 0)

/-- Effects of a write to AOUTc_CTRL: EN starts, stops or leaves FAULT (R114, R116, R123), MUTE ramps over MRAMP. -/
def State.aoutCtrlWritten (s : State) (c : Nat) : State :=
  let s := if (s.aoutAt c).phase = .fault && s.on (F.AOUT_CTRL_EN c) then s else s.aoutDrive c
  (s.aoutSync c (mrampUs (s.get (F.AOUT_CTRL_MRAMP c)))).aoutStopSync c

/-- Effects of a write to AOUTc_FMT (R115): a changed RATE or FILTER reconfigures. -/
def State.aoutFmtWritten (s : State) (c : Nat) (old : Word) : State :=
  if s.get (F.AOUT_FMT_RATE c) = bits old 0 4 ∧ s.get (F.AOUT_FMT_FILTER c) = bits old 4 2 then s else s.aoutFormat c

/-- Effects of a write to AOPk_PAIR (R110): a changed HP_MODE reconfigures both channels of a headphone pair. -/
def State.aopPairWritten (s : State) (k : Nat) (old : Word) : State :=
  if 2 ≤ k ∨ s.get (F.AOP_PAIR_HP_MODE k) = bits old 0 2 then s else (s.aoutFormat (2 * k)).aoutFormat (2 * k + 1)

/-- Effects of a write to AOUTc_VOL (R116): the volume retargets over VRAMP. -/
def State.aoutVolWritten (s : State) (c : Nat) : State :=
  let ms := match s.get (F.AOUT_VOL_VRAMP c) with | 0 => 0 | 1 => 1 | 2 => 10 | _ => 100
  let len := if ms = 0 then 0 else samplesIn (ms * 1000) (feHz s.fe)
  let s := s.modAout c (fun a => { a with vol := a.vol.to (s.get (F.AOUT_VOL_GAIN c)) len })
  s.when (decide (len = 0)) (fun s => s.set (F.AOUT_VOL_GAIN_NOW c) (s.aoutAt c).vol.code)

/-- Setting or clearing a pair page's ENABLE (R114, R116). -/
def State.aopEnableWritten (s : State) (k : Nat) : State := (s.aoutDrive (2 * k)).aoutDrive (2 * k + 1)

/-- FORCE_ON starts the charge pump, or lets it stop 10 ms after the last headphone (R117). -/
def State.cpForceWritten (s : State) : State :=
  if s.on F.JCK_CP_CTRL_FORCE_ON then s.pumpForced else s.pumpIdle

/-- RETRY restarts the charge pump after a fault (R123): waiting channels go on, held ones ramp up. -/
def State.cpRetry (s : State) : State :=
  s.when s.cpFault (fun s =>
    let s := { s with cpFault := false }.pumpUp
    s.forAll 4 (fun s c => if (s.aoutAt c).phase = .waitPump then s.aoutGo c else s.aoutSync c 5000))

/-- JCK_SUBST_REQ.START posts a substitution job for CHANNEL. -/
def State.jckSubstStart (s : State) : State := s.postJob 1 (s.get F.JCK_SUBST_REQ_CHANNEL) false

/-- JCK_SUBST_REQ.ABORT aborts a substitution in shadow. -/
def State.jckSubstAbort (s : State) : State := (s.dacAbortShadow 0 6).dacAbortShadow 1 6

/-! ## Events -/

/-- A channel's stage is powered and its interpolator filled (R114 steps 2 to 6). -/
def State.aoutStarted (s : State) (c : Nat) : State :=
  s.event .aout (decide ((s.aoutAt c).phase = .starting)) (·.aoutGo c)

/-- The start ramp ends (R114 step 8). -/
def State.aoutRunning (s : State) (c : Nat) : State :=
  s.event .aout (decide ((s.aoutAt c).phase = .unmuting)) (fun s =>
    ((s.modAout c (fun a => { a with pop := if s.aoutOpen c then .at1 else a.pop })).aoutPhase c .running 5000).irq
      (pgAOP c) (2 + c % 2))

/-- A stopping channel is isolated (R116, R119). -/
def State.aoutStopDone (s : State) (c : Nat) : State :=
  s.event .aout (decide ((s.aoutAt c).phase = .stopping)) (fun s => (s.aoutOff c).aoutTryStart c)

/-- The charge pump's stop time ends (R117). -/
def State.cpStopTimeout (s : State) : State :=
  s.when s.cpStop (fun s =>
    let s := { s with cpStop := false }
    s.when (!s.on F.JCK_CP_CTRL_FORCE_ON && s.hpAllOff)
      (·.set F.JCK_CP_STATUS_READY 0))

/-- Output current limit for 10 ms (R123): the channel goes to FAULT behind its clamp; a shadow of it aborts (R125). -/
def State.aoutIlim (s : State) (c : Nat) : State :=
  s.event .aout (decide ((s.aoutAt c).phase ≠ .off) && decide ((s.aoutAt c).phase ≠ .fault)) (fun s =>
    let s := (s.dacAbortOf c 3).modAout c (fun a => { a with pop := .at0 })
    (((s.aoutPhase c .fault 1000).set (F.AOUT_FLAGS_ILIM c) 1).set (F.AOUT_STATUS_ILIM_NOW c) 0).fault (pgAOP c) 1)

/-- An element current outside ±2 % (R123): FAULT 0x02 and a fault substitution; the channel plays on. -/
def State.dacElement (s : State) (c : Nat) : State :=
  s.event .aout (decide ((s.aoutAt c).phase ≠ .off)) (fun s =>
    let s := (s.fault (pgAOP c) 2).modAout c (fun a => { a with element := true })
    s.when (!s.faultJobLive 1 c) (·.postJob 1 c true))

/-- The output current limit of a driving stage, as its comparator shows it (R123, R135). -/
def State.aoutIlimNow (s : State) (c : Nat) (on : Bool) : State :=
  s.when (decide ((s.aoutAt c).phase ≠ .off) && decide ((s.aoutAt c).phase ≠ .fault)) (·.setB (F.AOUT_STATUS_ILIM_NOW c) on)

/-- The pump fails (R123): every headphone channel ramps to zero over 150 µs, the pump is off until RETRY. -/
def State.cpFail (s : State) (code : Nat) : State :=
  let s := { s.set F.JCK_CP_STATUS_READY 0 with cpFault := true, cpStop := false }
  (s.forAll 4 (fun s c => (s.aoutSync c 150).aoutPress c 150)).fault 0x0D code

/-- Charge-pump overcurrent (R123). -/
def State.cpOvercurrent (s : State) : State :=
  s.event .aout (s.on F.JCK_CP_STATUS_READY) (fun s => (s.set F.JCK_CP_STATUS_OC 1).cpFail 1)

/-- Charge-pump undervoltage while READY (R123). -/
def State.cpUndervoltage (s : State) : State :=
  s.event .aout (s.on F.JCK_CP_STATUS_READY) (fun s => (s.set F.JCK_CP_STATUS_UV 1).cpFail 2)

/-- Channels waiting in phase `p` go on. -/
def State.aoutWake (s : State) (p : AoutPhase) : State :=
  s.forAll 8 (fun s c => s.when (decide ((s.aoutAt c).phase = p)) (·.aoutGo c))

/-- VREFB is charged (R114, R123). -/
def State.vrefbReady (s : State) : State :=
  s.when (s.vrefbStarted && !s.on F.JCK_VREFB_STATUS_READY) (fun s =>
    ((s.set F.JCK_VREFB_STATUS_READY 1).unfault 0x0D 4).aoutWake .waitVref)

/-- VREFB is not ready 20 ms after its soft-start began (R123): channels stay in STARTING. -/
def State.vrefbLate (s : State) : State :=
  s.when (s.vrefbStarted && !s.on F.JCK_VREFB_STATUS_READY) (·.fault 0x0D 4)

/-- A family PLL runs locked: channels that wait for it go on (R111). -/
def State.aoutClockUp (s : State) (fam : Nat) : State :=
  s.forAll 8 (fun s c => s.when (decide ((s.aoutAt c).phase = .waitClk) && decide (rateFamily (s.aoutAt c).rate = fam)
    && s.islandOn .aout) (·.aoutGo c))

/-- A family PLL is lost (R111, R272): its channels hold WAIT_CLK with their gain at zero. -/
def State.aoutClockLost (s : State) (fam : Nat) : State :=
  s.forAll 8 (fun s c => s.when (decide (rateFamily (s.aoutAt c).rate = fam)) (fun s =>
    match (s.aoutAt c).phase with
    | .unmuting | .running | .recFill | .recRamp | .waitVhold =>
      (s.modAout c (fun a => { a with pop := .at0 })).aoutPhase c .waitClk 1000
    | .recMute => s.aoutRefill c
    | .stopping => s.aoutOff c
    | _ => s))

/-- Step 1 of R120: every channel's gain ramps to zero over 150 µs; shadows abort (R125). -/
def State.aoutCollapse (s : State) : State :=
  let s := (s.dacAbortShadow 0 3).dacAbortShadow 1 3
  s.forAll 8 (fun s c => (s.aoutSync c 150).aoutPress c 150)

/-- Step 3 of R120, once every output is muted: MUTED, COLLAPSE and the count. -/
def State.aoutMuted (s : State) : State :=
  ((s.set F.JCK_HOLD_STATUS_MUTED 1).inc F.JCK_HOLD_STATUS_COLLAPSES).irq 0x0D 9

/-- The collapse restart (R120 steps 4 and 5): MUTED clears and the gain ramps up over 5 ms. -/
def State.aoutCollapseEnd (s : State) : State :=
  (s.set F.JCK_HOLD_STATUS_MUTED 0).forAll 8 (fun s c => s.aoutSync c 5000)

/-- Analogue mute at freeze, with no ramp (R122). -/
def State.aoutFreeze (s : State) : State := s.forAll 8 (fun s c => s.modAout c (fun a => { a with pop := .at0 }))

/-- On resume each channel that was running ramps up over 5 ms (R122). -/
def State.aoutResume (s : State) : State := s.forAll 8 (fun s c => s.aoutSync c 5000)

/-- QUIESCE reaches a channel (R119 Q1 and Q2): its gain ramps to zero over 150 µs, STATE = QUIESCED. A channel in the ramps of a
start or a reconfiguration does the same, and a reconfiguration has then taken its new settings (log 137). -/
def State.aoutHush (s : State) (c : Nat) : State :=
  match (s.aoutAt c).phase with
  | .running | .unmuting | .recRamp => ((s.modAout c (fun a => { a with wasOn := true })).aoutPhase c .quiesced 150).aoutPress c 150
  | .recMute | .recFill => (((s.aoutApply c).modAout c (fun a => { a with wasOn := true })).aoutPhase c .quiesced 150).aoutPress c 150
  | _ => s

/-- QUIESCE reaches pair k (R119); a shadow for one of its channels aborts (R125). -/
def State.aoutQuiesce (s : State) (k : Nat) : State :=
  let mine (s : State) (g : Nat) : Bool := match s.dacSub g with | some u => decide (u.unit / 2 = k) | none => false
  let s := s.forAll 2 (fun s g => s.when (mine s g) (·.dacAbortShadow g 3))
  (s.aoutHush (2 * k)).aoutHush (2 * k + 1)

/-- The modulators stop at the zero code (R119 Q3). -/
def State.aoutGate (s : State) : State :=
  s.forAll 8 (fun s c => s.when (decide ((s.aoutAt c).phase = .quiesced)) (·.modAout c (fun a => { a with pop := .at0, out := 0 })))

/-- Isolation at S4 (R119 Q4): the stages are behind their clamps, the pump stops. -/
def State.aoutIsolate (s : State) : State :=
  s.forAll 8 (fun s c => s.modAout c (fun a => { a with pop := .at0, out := 0 })) |> fun s =>
    { s.set F.JCK_CP_STATUS_READY 0 with cpStop := false }

/-- Unwind of a channel before Q4 (R119): its modulator restarts and the gain ramps up over 5 ms, MUTED staying muted; without its
PLL it waits (R111). -/
def State.aoutUnwind (s : State) (c : Nat) : State :=
  s.when (decide ((s.aoutAt c).phase = .quiesced)) (fun s =>
    let s := s.modAout c (fun a => { a with wasOn := false })
    if s.famUp (rateFamily (s.aoutAt c).rate) then s.aoutPhase c .running 5000
    else (s.modAout c (fun a => { a with pop := .at0 })).aoutPhase c .waitClk 5000)

/-- A channel whose stage was behind its clamps starts if it may run (R114, R119); one in FAULT stays there. -/
def State.aoutReturn (s : State) (c : Nat) : State :=
  if (s.aoutAt c).phase = .fault then s
  else if s.aoutAble c then s.aoutBegin c
  else (s.aoutApply c).aoutPhase c .off 1000

/-- PD_AOUT returns to on (R114, R119 Q5), and the pump with it where FORCE_ON asks for it. -/
def State.aoutRestart (s : State) : State := (s.forAll 8 (fun s c => s.aoutReturn c)).pumpForced

/-! ## Samples (R108, R110, R116) -/

/-- A clamped modulator sample (R108): SAT and its interrupt; a shadow window restarts, and the eighth restart aborts it (R125,
log 131). -/
def State.aoutSat (s : State) (c : Nat) : State :=
  let s := (s.set (F.AOUT_FLAGS_SAT c) 1).irq (pgAOP c) (4 + c % 2)
  match s.dacSub (dacGroup c) with
  | some u =>
    if u.unit = c && !u.crossfade then
      let s := s.dacRestart (dacGroup c)
      if 8 ≤ u.restarts + 1 then s.dacAbort (dacGroup c) 7 else s
    else s
  | none => s

/-- What follows when the pop-control gain has reached its end, or the interpolator is full (R115). -/
def State.aoutRampEnd (s : State) (c : Nat) : State :=
  let a := s.aoutAt c
  match a.phase with
  | .recMute => if a.pop.done then s.aoutRefill c else s
  | .recFill =>
    if a.fill = 0 then s.aoutPhase c .recRamp 1000 else s
  | .recRamp => if a.pop.done then s.aoutPhase c .running 1000 else s
  | _ => s

/-- What a frame brings to a channel's time: volume and pop-control gain one frame on (log 19), GAIN_NOW, the fill of R115. -/
def State.aoutTick (s : State) (c : Nat) : State :=
  let s := s.modAout c (fun a => { a with
    vol := a.vol.step, pop := a.pop.step (samplesIn a.popUs (feHz s.fe)), fill := a.fill - rateHz a.rate })
  s.set (F.AOUT_VOL_GAIN_NOW c) (s.aoutAt c).vol.code

/-- Does the channel's modulator carry a signal, so that its gain matters? -/
def Aout.live (a : Aout) : Bool :=
  match a.phase with
  | .unmuting | .running | .recMute | .recRamp | .stopping => true
  | .quiesced => !a.pop.zero
  | _ => false

/-- One modulator input (R108): m = pop × clamp(vol × interpolated + fife), of the samples the interpolator holds. -/
def State.aoutForm (s : State) (c : Nat) (fife : Int) : State :=
  let a := s.aoutAt c
  let sum := mulGain (Config.interpolate a.filter a.rate a.win) (a.vol.lin (s.lsb 4 c)) + fife
  let m := fadeSample a.pop (s.lsb 5 c) (sat32 sum)
  (s.when (over32 sum) (·.aoutSat c)).modAout c (fun a => { a with out := m })

/-- One frame of a channel: `xs` the samples its sink took, oldest first, `fife` the Fife sum, `live` whether a route reaches it.
The modulator input is formed at each sample, at least once a frame. -/
def State.aoutFrame (s : State) (c : Nat) (xs : List Int) (fife : Int) (live : Bool) : State :=
  let s := s.aoutTick c
  let push (s : State) (x : Int) : State := s.modAout c (fun a => { a with win := (x :: a.win).take 34 })
  let s := if s.bridgedOdd c then s
    else if (s.aoutAt c).live then (match xs with
      | [] => s.aoutForm c fife
      | xs => xs.foldl (fun s x => (push s x).aoutForm c fife) s)
    else (xs.foldl push s).modAout c (fun a => { a with out := 0 })
  (s.setB (F.AOUT_STATUS_FIFE_ACTIVE c) live).aoutRampEnd c

/-- The second channel of a BRIDGED pair drives the inverse of the first's modulator input while its stage drives (R110). -/
def State.aoutBridge (s : State) (k : Nat) : State :=
  s.when (s.bridgedOdd (2 * k + 1)) (fun s => s.modAout (2 * k + 1) (fun a => { a with
    out := if a.live then sat32 (-(s.aoutAt (2 * k)).out) else 0 }))

/-- The conditions of the AOUT pair pages' and of the pump's and VREFB's fault codes that still hold (R123, R136, R138). -/
def State.aoutFaultHolds (s : State) (page code : Nat) : Bool :=
  if page = 0x0D then
    match code with
    | 1 => s.cpFault
    | 2 => s.cpFault
    | 3 => decide (s.get (F.JCK_STATUS_STATE 0) = 5) || decide (s.get (F.JCK_STATUS_STATE 1) = 5)
    | _ => !s.on F.JCK_VREFB_STATUS_READY
  else
    let c := 2 * (page - 0x19)
    if code = 1 then decide ((s.aoutAt c).phase = .fault) || decide ((s.aoutAt (c + 1)).phase = .fault)
    else (s.aoutAt c).element || (s.aoutAt (c + 1)).element

/-! ## Meanings of the events -/

/-- AOUT_START (R114): the channel's stage is powered and its interpolator filled, as far as its waits allow. -/
def execAoutStart (c : Fin 8) (s : State) : Host.Outcome State Fault Refusal := .next (settle (s.aoutStarted c))
/-- AOUT_RUNNING (R114 step 8). -/
def execAoutRunning (c : Fin 8) (s : State) : Host.Outcome State Fault Refusal := .next (settle (s.aoutRunning c))
/-- AOUT_STOP_DONE (R116). -/
def execAoutStopDone (c : Fin 8) (s : State) : Host.Outcome State Fault Refusal := .next (settle (s.aoutStopDone c))
/-- CP_STOP_TIMEOUT (R117). -/
def execCpStopTimeout (s : State) : Host.Outcome State Fault Refusal := .next (settle s.cpStopTimeout)
/-- AOUT_ILIM_FAULT (R123). -/
def execAoutIlimFault (c : Fin 8) (s : State) : Host.Outcome State Fault Refusal := .next (settle (s.aoutIlim c))
/-- DAC_ELEMENT_ERROR (R123), on the slice that serves channel `c`. -/
def execDacElementError (c : Fin 8) (s : State) : Host.Outcome State Fault Refusal := .next (settle (s.dacElement c))
/-- CP_OVERCURRENT (R123). -/
def execCpOvercurrent (s : State) : Host.Outcome State Fault Refusal := .next (settle s.cpOvercurrent)
/-- CP_UNDERVOLTAGE (R123). -/
def execCpUndervoltage (s : State) : Host.Outcome State Fault Refusal := .next (settle s.cpUndervoltage)
/-- VREFB_READY (R114). -/
def execVrefbReady (s : State) : Host.Outcome State Fault Refusal := .next (settle s.vrefbReady)
/-- VREFB_NOT_READY (R123). -/
def execVrefbNotReady (s : State) : Host.Outcome State Fault Refusal := .next (settle s.vrefbLate)
/-- DAC_SHADOW_WINDOW_END (R124) of the running substitution of group `g`. -/
def execDacShadowWindowEnd (g : Fin 2) (level : Nat) (gain offset : Int) (resid : Nat) (s : State) :
    Host.Outcome State Fault Refusal := .next (settle (s.event .aout true (·.dacWindowEnd g level gain offset resid)))
/-- DAC_SUBST_DONE (R124 step 6) of group `g`. -/
def execDacSubstDone (g : Fin 2) (s : State) : Host.Outcome State Fault Refusal :=
  .next (settle (s.event .aout true (·.dacDone g)))

end Sys2Proof.Machine
end

