-- ==== Sys2Proof/Machine/Blend.lean ====
section
/-! DEFINITION. Linear crossfades (R22, R175, R186, R201, R206, R209) and second-order stages (R181). -/

namespace Sys2Proof.Machine

/-- Is a crossfade running? -/
def Blend.busy {α : Type} (b : Blend α) : Bool := decide (0 < b.len)

/-- Start a crossfade of `len` steps to `x` from the present mix; 0 steps switches at once. -/
def Blend.to {α : Type} (b : Blend α) (x : α) (len : Nat) : Blend α :=
  if len = 0 then Blend.at x
  else if b.len = 0 then ⟨[(b.new, 1)], 1, x, 0, len⟩
  else ⟨(b.new, b.den * b.pos) :: b.old.map (fun e => (e.1, e.2 * (b.len - b.pos))), b.den * b.len, x, 0, len⟩

/-- One step of a crossfade. -/
def Blend.step {α : Type} (b : Blend α) : Blend α :=
  if b.len ≤ b.pos + 1 then Blend.at b.new else { b with pos := b.pos + 1 }

/-- The mixed value, rounded to nearest, when `f` gives each side's. -/
def Blend.mix {α : Type} (b : Blend α) (f : α → Int) : Int :=
  if b.len = 0 then f b.new
  else divRne ((b.old.foldl (fun t e => t + f e.1 * (e.2 : Int)) 0) * ((b.len - b.pos : Nat) : Int)
    + f b.new * ((b.den * b.pos : Nat) : Int)) (b.den * b.len)

/-- Every side of a crossfade, the new one last. -/
def Blend.sides {α : Type} (b : Blend α) : List α := b.old.map (·.1) ++ [b.new]

/-- Change every side. -/
def Blend.map {α : Type} (b : Blend α) (f : α → α) : Blend α :=
  { b with old := b.old.map (fun e => (f e.1, e.2)), new := f b.new }

/-- One output of a direct form I stage with Q2.30 coefficients (R181): rounded to nearest, saturated (R165). -/
def Biq.step (q : Biq) (b0 b1 b2 a1 a2 : Int) (x : Int) : Biq × Int × Bool :=
  let y := divRne (b0 * x + b1 * q.x1 + b2 * q.x2 - a1 * q.y1 - a2 * q.y2) (2 ^ 30)
  (⟨x, q.x1, sat32 y, q.y1⟩, sat32 y, over32 y)

end Sys2Proof.Machine
end

