-- ==== Sys2Proof/Machine/Lane.lean ====
section
/-! DEFINITION. Lanes (chapter 07, R163 to R195): start, restart and stop, source and ratio, capacity and pool, commits, the
events of their rate domains. What one frame does to the samples is in LaneDsp.lean. -/

namespace Sys2Proof.Machine

/-- One lane's record. -/
def State.laneAt (s : State) (n : Nat) : Lane := vget s.lanes n Lane.init

/-- Update one lane's record. -/
def State.modLane (s : State) (n : Nat) (f : Lane → Lane) : State := { s with lanes := vmod s.lanes n f }

/-- Is the lane running in the sense of R163: from its admission to its stop? -/
def LanePhase.live : LanePhase → Bool
  | .off | .waitCap | .quiesced => false
  | _ => true

/-- LANEn_SRC.SOURCE of a word. -/
def srcId (w : Word) : Nat := bits w 0 8
/-- LANEn_SRC.DIR of a word. -/
def srcOut (w : Word) : Bool := decide (bits w 8 1 = 1)

/-! ## Source, domain and ratio (R16, R21, R167 to R173) -/

/-- Domain and rate in Hz an OUTBOUND lane delivers (R168). -/
def State.laneOutFmt (s : State) (n : Nat) : Nat × Nat :=
  let w := (s.laneAt n).eff.out
  let dom := bits w 4 4
  if dom ≤ 1 then (dom, rateHz (bits w 0 4))
  else if dom = 2 then (2, rateHz (s.get F.USB_CLOCK_RATE))
  else (dom, (s.trkAt (dom - 2)).nomHz)

/-- How a lane with this source and direction converts, its external domain and rate (R21, R167, R168). -/
def State.laneMode (s : State) (n sid : Nat) (dir : Bool) : SrcKind × Nat × Nat :=
  let hz := feHz s.fe
  let fam := feFamily s.fe
  let kindOf (dom fs : Nat) : SrcKind := if dom = fam && fs = hz then .bypass else if s.tracked dom then .tracked else .fixed
  if dir then
    let (dom, fs) := s.laneOutFmt n
    if !isBus sid || (decide (dom ≤ 1) && decide (rateFamily (bits (s.laneAt n).eff.out 0 4) ≠ dom)) then (.zero, dom, hz)
    else (kindOf dom fs, dom, fs)
  else if isBus sid then (.bypass, fam, hz)
  else
    let (dom, fs) := s.srcFmt sid
    if sid = 0 || fs = 0 then (.zero, fam, hz) else (kindOf dom fs, dom, fs)

/-- The external rate in 0.01 Hz (R173): measured for a tracked domain, exact from the codes else. -/
def State.laneRate (s : State) (kind : SrcKind) (dom hz : Nat) : Nat :=
  if kind = .tracked then s.measRate dom else 100 * hz

/-- The rate the lane's converter runs at, in 2^-32 of 0.01 Hz (R173): the ratio loop's for a tracked domain, exact else. -/
def Lane.convRate (l : Lane) : Int := if l.kind = .tracked then l.loop else 100 * l.hz * 2 ^ 32

/-- r in Q6.26, rounded to nearest (R173), of a rate in 2^-32 of 0.01 Hz. -/
def State.ratioOf (s : State) (rate : Int) : Nat := (divRne (rate * 2 ^ 26) (100 * feHz s.fe * 2 ^ 32)).toNat

/-- The ratio loop starts from the tracker's measured rate (R175). -/
def State.loopSeed (s : State) (n : Nat) : State :=
  s.modLane n (fun l => { l with loop := s.measRate l.dom * 2 ^ 32, loopSkip := false })

/-- Is r within 1/32 to 32 (R170)? -/
def State.ratioOk (s : State) (rate : Nat) : Bool :=
  decide (100 * feHz s.fe ≤ 32 * rate) && decide (rate ≤ 3200 * feHz s.fe)

/-- The ratio of a lane is out of range (R170): RATIO_ERR and FAULT 0x04. -/
def State.laneRatioErr (s : State) (n : Nat) : State :=
  ((s.modLane n (fun l => { l with ratioBad := true })).set (F.LANE_FLAGS_RATIO_ERR n) 1).fault (pgLANE n) 4

/-- The ratio is back in range, or no longer a matter. -/
def State.laneRatioOk (s : State) (n : Nat) : State := (s.modLane n (fun l => { l with ratioBad := false })).unfault (pgLANE n) 4

/-- LANEn_STATUS.RC_STATE (R170, R176, R194): the tracker's state of a tracked lane; LOCKED in bypass and at a fixed ratio
(R21), HOLDOVER while the family's PLL is stopped. -/
def State.laneRc (s : State) (n : Nat) : Nat :=
  let l := s.laneAt n
  match l.phase with
  | .off | .waitCap | .alloc | .poolWait | .quiesced => 0
  | _ =>
    if l.ratioBad then 0
    else match l.kind with
    | .tracked => s.trkState l.dom
    | .fixed => if (l.dom ≤ 1 && !s.famUp l.dom) || (l.dom = 2 && l.ev ≠ .none && s.trkState 2 = 3) then 3 else 2
    | _ => 2

/-- Is the lane's source ready (R174 step 3)? -/
def State.laneReady (s : State) (n : Nat) : Bool :=
  let l := s.laneAt n
  match l.kind with
  | .tracked => decide (s.trkState l.dom = 2) && s.ratioOk (s.measRate l.dom)
  | .fixed => !decide (l.dom ≤ 1) || s.famUp l.dom
  | _ => true

/-- Frames of L_src at Fe, rounded up (R171): 32 / min(Fs, Fe) + M / Fs. -/
def State.lsrcFrames (s : State) (hz m : Nat) : Nat :=
  let fe := feHz s.fe
  if hz = 0 then 0 else ceilDiv ((32 * hz + m * min hz fe) * fe) (min hz fe * hz)

/-! ## Cost and capacity (R191 to R193) -/

/-- MAX_STOP of a lane that is elastic, as its words in effect say (R191). -/
def LaneEff.most (e : LaneEff) : Nat := if bits e.ctl 7 1 = 1 then bits e.ctl 8 2 else 0

/-- The stop of a lane with the given words in effect (R191). -/
def State.effStop (s : State) (e : LaneEff) : Nat := min (vget s.grants 0 0) e.most

/-- The stop a lane runs at (R191). -/
def State.laneStop (s : State) (n : Nat) : Nat := s.effStop (s.laneAt n).eff

/-- The highest stop Bellows may lower a lane to. -/
def State.laneMost (s : State) (n : Nat) : Nat := (s.laneAt n).eff.most

/-- Converter span of a stop (R171). -/
def spanOf : Nat → Nat
  | 0 => 64 | 1 => 48 | 2 => 32 | _ => 16

/-- BQ_EN of a chain (R180). -/
def Chain.en (c : Chain) : Nat := bits (lookup c.words 50 0) 0 10

/-- Number of ones in the low `k` bits. -/
def ones : Nat → Nat → Nat
  | 0, _ => 0
  | k + 1, x => x % 2 + ones k (x / 2)

/-- A lane's cost at a stop (R192) with the given words in effect, stages enabled, and converter. -/
def costOf (e : LaneEff) (stages : Nat) (bypass : Bool) (ratioCeil stop : Nat) : Nat :=
  12 + (if bypass then 0 else spanOf stop * ratioCeil) + (if bits e.dcb 0 2 = 0 then 0 else 3) + 5 * bits e.hum 0 3 +
  (if bits e.coef 2 1 = 1 then 10 else 5) * stages + (if bits e.dyn 0 3 = 0 then 0 else 50) +
  (if bits e.delay 0 16 = 0 then 0 else 1)

/-- ⌈max(1, r)⌉ of an external rate in 0.01 Hz (R176, R192). -/
def State.ratioCeil (s : State) (rate : Nat) : Nat := max 1 (ceilDiv rate (100 * feHz s.fe))

/-- Cost of lane n at a stop, with other words or another number of stages. -/
def State.laneCost (s : State) (n : Nat) (e : LaneEff) (stages stop : Nat) : Nat :=
  let m := s.laneMode n (srcId e.src) (srcOut e.src)
  costOf e stages (decide (m.1 = .zero) || decide (m.1 = .bypass)) (s.ratioCeil (s.laneRate m.1 m.2.1 m.2.2)) stop

/-- Stages the active set enables. -/
def Lane.stages (l : Lane) : Nat := ones 10 l.chain.new.en

/-- Cost of a lane as it runs, at a stop. -/
def State.laneCostNow (s : State) (n stop : Nat) : Nat := s.laneCost n (s.laneAt n).eff (s.laneAt n).stages stop

/-- Sum of the running lanes' costs at the stops in effect (R193). -/
def State.laneLoad (s : State) : Nat :=
  (List.range 48).foldl (fun t n => if (s.laneAt n).phase.live then t + s.laneCostNow n (s.laneStop n) else t) 0

/-- The same at every elastic lane's MAX_STOP. -/
def State.laneLoadMin (s : State) : Nat :=
  (List.range 48).foldl (fun t n => if (s.laneAt n).phase.live then
    t + s.laneCostNow n (s.laneMost n) else t) 0

/-- U at an operating point (R193). -/
def State.laneCap (s : State) (op : Nat) : Nat := 98304 * (op + 1) / (10 * feMul s.fe)

/-- The capacity of the acknowledged operating point, or of a lower one that waits for its frame boundary (R193). -/
def State.laneRoom (s : State) : Nat := s.laneCap (min s.opNow (s.opNext.getD 3))

/-- Does an increase fit at the acknowledged operating point? -/
def State.laneFits (s : State) (more : Nat) : Bool := decide (s.laneLoad + more ≤ s.laneRoom)

/-- Would it fit at OP3 with every elastic lane at its MAX_STOP? -/
def State.laneCould (s : State) (more : Nat) : Bool := decide (s.laneLoadMin + more ≤ s.laneCap 3)

/-- A refusal for capacity (R193): CAP_ERR and its interrupt. -/
def State.capErr (s : State) (n : Nat) : State := (s.set (F.LANE_FLAGS_CAP_ERR n) 1).irq (pgLANE n) 8

/-! ## The status fields (R194) -/

/-- The registers' words, as a capacity wait may hold them back. -/
def State.laneWords (s : State) (n : Nat) : LaneEff :=
  ⟨s.reg (A.LANE_SRC n), s.reg (A.LANE_OUT n), s.reg (A.LANE_DCB n), s.reg (A.LANE_HUM n),
   s.reg (A.LANE_COEF_CTRL n) &&& 4#32, s.reg (A.LANE_DYN_CTRL n), s.reg (A.LANE_DELAY n) &&& 0xFFFF#32,
   s.reg (A.LANE_CTRL n) &&& 0x380#32⟩

/-- LANEn_STATUS.STATE (R194). -/
def State.laneState (s : State) (n : Nat) : Nat :=
  let l := s.laneAt n
  match l.phase with
  | .off => 0
  | .waitCap => 1
  | .quiesced => 6
  | p =>
    if s.on (F.LANE_COEF_STATUS_POISON n) || s.on (F.LANE_COEF_STATUS_LOST n) then 7
    else match p with
      | .running | .stopping | .quiescing => if s.on (F.LANE_CTRL_MUTE n) then 4 else 3
      | .srcRamp => 5
      | _ => if l.restart then 5 else 2

/-- Write a lane's status registers from its record (R173, R194). -/
def State.laneSync (s : State) (n : Nat) : State :=
  let l := s.laneAt n
  let live := l.phase.live
  let byp := decide (l.kind = .bypass) || decide (l.kind = .zero)
  let rate := if !live then 0 else if byp then 100 * feHz s.fe else s.laneRate l.kind l.dom l.hz
  let s := s.set (F.LANE_STATUS_STATE n) (s.laneState n)
  let s := s.set (F.LANE_STATUS_DOMAIN n) (if live then l.dom else 0)
  let s := s.set (F.LANE_STATUS_RATE n) (if live then rateCode l.hz else 0)
  let s := s.set (F.LANE_STATUS_STOP_NOW n) (if live then s.laneStop n else 0)
  let s := s.setB (F.LANE_STATUS_BYPASS n) (live && byp)
  let s := s.setB (F.LANE_STATUS_CHG_WAIT n) ((live && decide (l.eff ≠ s.laneWords n)) || decide (l.commit = .waitCap))
  let s := s.set (F.LANE_STATUS_RC_STATE n) (s.laneRc n)
  let s := s.setB (F.LANE_STATUS_EVENT_RAMP n) (live && decide (l.ev ≠ .none))
  let s := s.set (A.LANE_RATIO n |> (Fld.mk · 0 32)) (if !live then 0 else if byp then 2 ^ 26 else s.ratioOf l.convRate)
  let s := s.set (F.LANE_RATE_MEAS_RATE n) rate
  let s := s.setB (F.LANE_COEF_STATUS_BUSY n) (decide (l.commit ≠ .idle))
  let s := s.set (F.LANE_COST_STOP0 n) (if live then s.laneCostNow n 0 else 0)
  s.set (F.LANE_COST_NOW n) (if live then s.laneCostNow n (s.laneStop n) else 0)

/-- Move a lane to a phase. -/
def State.lanePhase (s : State) (n : Nat) (p : LanePhase) : State :=
  (s.modLane n (fun l => { l with phase := p })).laneSync n

/-! ## Extended pool (R176, R186) -/

/-- Pool blocks for an excess of words. -/
def poolBlocks (words : Nat) : Nat := ceilDiv words 256

/-- Pool blocks of a delay (R186). -/
def delayBlocks (frames : Nat) : Nat := poolBlocks (frames - 1535)

/-- Pool blocks a lane's converter needs (R176). -/
def State.rcBlocks (s : State) (kind : SrcKind) (rate m : Nat) : Nat :=
  match kind with
  | .zero | .bypass => 0
  | _ => poolBlocks (64 * s.ratioCeil rate + 2 * m - 512)

/-- Set the converter's blocks; none when the pool cannot supply them. -/
def State.takeRc (s : State) (n want : Nat) : Option State :=
  let have_ := s.get (F.LANE_POOL_RC_BLOCKS n)
  if want ≤ have_ + s.poolFree then
    some (({ s with poolFree := s.poolFree + have_ - want }).set (F.LANE_POOL_RC_BLOCKS n) want)
  else none

/-- Set the delay's blocks; none when the pool cannot supply them. -/
def State.takeDelay (s : State) (n want : Nat) : Option State :=
  let have_ := s.get (F.LANE_DELAY_EXT_BLOCKS n)
  if want ≤ have_ + s.poolFree then
    some (({ s with poolFree := s.poolFree + have_ - want }).set (F.LANE_DELAY_EXT_BLOCKS n) want)
  else none

/-- The pool cannot supply a lane's blocks (R176): zero output, POOL_ERR, FAULT 0x03. -/
def State.lanePoolErr (s : State) (n : Nat) : State :=
  ((s.modLane n (fun l => { l with event := .at0 })).set (F.LANE_FLAGS_POOL_ERR n) 1).fault (pgLANE n) 3

/-! ## Start, restart, stop (R163, R169, R174, R190) -/

/-- A domain event's ramp to zero (R22, R23 rules 4 and 6). -/
def State.laneDown (s : State) (n : Nat) : State :=
  let l := s.laneAt n
  match l.phase with
  | .running | .rampUp | .stopping | .quiescing | .srcRamp =>
    (s.modLane n (fun l => { l with event := l.event.turn false, ev := .down, slip := .at 0, pingpong := 0 })).laneSync n
  | .filling => s.lanePhase n .waitSrc
  | _ => s

/-- Frames of a fill (R174 step 4). -/
def State.laneFillFrames (s : State) (l : Lane) (m : Nat) : Nat :=
  match l.kind with
  | .zero | .bypass => 0
  | _ => s.lsrcFrames l.hz m

/-- Steps 3 and 4 of R174: once the source is ready, take the margin and the converter's blocks and fill. -/
def State.laneFill (s : State) (n : Nat) : State :=
  let l := s.laneAt n
  if !s.laneReady n then
    (s.when (decide (l.kind = .tracked) && decide (s.trkState l.dom = 2)) (·.laneRatioErr n)).lanePhase n .waitSrc
  else
    let m := s.get (F.LANE_RC_MARGIN n)
    let s := s.set (F.LANE_STATUS_RC_MARGIN_NOW n) m
    match s.takeRc n (s.rcBlocks l.kind (s.laneRate l.kind l.dom l.hz) m) with
    | none => (s.lanePoolErr n).lanePhase n .poolWait
    | some s =>
      let s := (((s.unfault (pgLANE n) 3).laneRatioOk n).loopSeed n)
      (s.modLane n (fun l => { l with fill := s.laneFillFrames l m, ahead := 0 })).lanePhase n .filling

/-- Step 2 of R174: the extended-pool blocks; a tracked source's converter takes its own at lock (R176). -/
def State.laneAlloc (s : State) (n : Nat) : State :=
  let l := s.laneAt n
  let rc := if l.kind = .tracked then 0 else s.rcBlocks l.kind (s.laneRate l.kind l.dom l.hz) (s.get (F.LANE_RC_MARGIN n))
  match (s.takeDelay n (delayBlocks (bits l.eff.delay 0 16))).bind (fun s => s.takeRc n rc) with
  | none => (s.lanePoolErr n).lanePhase n .poolWait
  | some s => (s.unfault (pgLANE n) 3).laneFill n

/-- Step 2 of R174 begins: buffers, delay line and filters at zero, the mute gain at its setting (R190). -/
def State.laneRestart (s : State) (n : Nat) (shown : Bool) : State :=
  let w := s.laneWords n
  let l := s.laneAt n
  let e := if l.phase.live || decide (l.phase = .quiesced) then l.eff else w
  let mode := (s.modLane n (fun l => { l with eff := e })).laneMode n (srcId e.src) (srcOut e.src)
  let mute := s.on (F.LANE_CTRL_MUTE n)
  let notch : Notch := ⟨bits e.hum 0 3, bits e.hum 10 2, bits e.hum 8 2, Vector.replicate 4 Biq.zero⟩
  let s := s.modLane n (fun l => { l with
    sid := srcId e.src
    dir := srcOut e.src
    kind := mode.1
    dom := mode.2.1
    hz := mode.2.2
    eff := e
    fill := 0
    mute := if mute then .at0 else .at1
    muteUs := 5000
    event := .at0
    ev := .none
    ratioBad := false
    loop := 0
    buf := []
    ahead := 0
    slip := .at 0
    tail := []
    pingpong := 0
    dcX := 0
    dcY := 0
    notch := .at notch
    chain := (Blend.at { l.chain.new with regs := Vector.replicate 10 Biq.zero })
    dyn := .init
    line := []
    tap := .at (bits e.delay 0 16)
    meterIn := ⟨0, 0, 0⟩
    meterOut := ⟨0, 0, 0⟩
    restart := shown
    mid := 0
    out := 0
    outs := []
    bad := [] })
  let s := s.when (mode.1 = .zero && srcOut e.src) (·.set (F.LANE_FLAGS_SRC_ERR n) 1)
  let s := (s.unfault (pgLANE n) 3).unfault (pgLANE n) 4
  let s := (s.set (F.LANE_DELAY_STATUS_XFADE_NOW n) 0).set (F.LANE_DELAY_STATUS_FRAMES_NOW n) (bits e.delay 0 16)
  s.lanePhase n .alloc

/-- A lane starts, or starts again after a quiesce or a freeze (R174): its meters hold nothing (R187). -/
def State.laneStart (s : State) (n : Nat) : State :=
  (s.set (Fld.mk (A.LANE_METER_HOLD n) 0 32) 0xC568C568).laneRestart n false

/-- Step 1 of R174 and the capacity rule of R193: a lane that is off starts, waits or is refused. -/
def State.laneAdmit (s : State) (n : Nat) : State :=
  let e := s.laneWords n
  let s := s.modLane n (fun l => { l with eff := e, inv := s.on (F.LANE_CTRL_INVERT n), flip := 0, refused := false })
  let l := s.laneAt n
  let cost := s.laneCost n e l.stages
  if s.laneFits (cost (s.laneStop n)) then
    let s := s.modLane n (fun l => { l with trim := DbRamp.at (s.get (F.LANE_TRIM_GAIN n)) })
    (s.set (F.LANE_TRIM_GAIN_NOW n) (s.get (F.LANE_TRIM_GAIN n))).laneStart n
  else if s.laneCould (cost e.most) then s.lanePhase n .waitCap
  else ((s.capErr n).modLane n (fun l => { l with refused := true })).lanePhase n .off

/-- A coefficient word of the pending set (R180). -/
def State.coefWord (s : State) (n k : Nat) : Word := lookup s.coefPend (64 * n + k) 0

/-- Is the item poisoned? -/
def State.poisoned (s : State) (k : ItemKind) (i : Nat) : Bool := s.poison.any (fun e => decide (e.2 = ⟨k, i⟩))

/-- A write of an item clears its poison (R408). -/
def State.cleanse (s : State) (k : ItemKind) (i : Nat) : State :=
  { s with poison := s.poison.filter (fun e => decide (e.2 ≠ ⟨k, i⟩)) }

/-- Does stage k of a set of words meet |a2| < 1 and |a1| < 1 + a2 (R182)? -/
def stageStable (a1 a2 : Int) : Bool :=
  let a := if a1 < 0 then -a1 else a1
  decide (-(2 ^ 30) < a2) && decide (a2 < 2 ^ 30) && decide (a < 2 ^ 30 + a2)

/-- The lowest enabled stage of the pending set that fails the check. -/
def State.unstableStage (s : State) (n : Nat) : Option Nat :=
  (List.range 10).find? (fun k => decide (bits (s.coefWord n 50) k 1 = 1)
    && !stageStable (s.coefWord n (5 * k + 3)).toInt (s.coefWord n (5 * k + 4)).toInt)

/-- A commit is refused (R182, R183). -/
def State.commitRefused (s : State) (n cause stage : Nat) : State :=
  let s := ((s.set (F.LANE_COEF_STATUS_ERR n) 1).set (F.LANE_COEF_STATUS_ERR_CAUSE n) cause).set
    (F.LANE_COEF_STATUS_ERR_STAGE n) stage
  let held := (s.laneAt n).held
  let s := (s.irq (pgLANE n) 7).when (decide (cause = 3)) (·.capErr n)
  (s.modLane n (fun l => { l with commit := if held then .atFrame else .idle, held := false })).laneSync n

/-- A commit is complete (R182): COMMITS, COMMIT_DONE; a held one goes on (R183). -/
def State.commitDone (s : State) (n : Nat) : State :=
  let held := (s.laneAt n).held
  ((((s.modLane n (fun l => { l with
      chain := .at l.chain.new, commit := if held then .atFrame else .idle, held := false })).inc
    (F.LANE_COEF_STATUS_COMMITS n)).irq (pgLANE n) 6)).laneSync n

/-- The recovery of a faulted lane at a successful commit (R189). -/
def State.coefRecover (s : State) (n : Nat) : State :=
  ((((s.set (F.LANE_COEF_STATUS_POISON n) 0).set (F.LANE_COEF_STATUS_LOST n) 0).unfault (pgLANE n) 1).unfault (pgLANE n) 2)

/-- The words of a lane's pending set, sparse, by word. -/
def State.pendingSet (s : State) (n : Nat) : List (Nat × Word) :=
  (s.coefPend.filter (fun e => decide (64 * n ≤ e.1) && decide (e.1 < 64 * n + 51))).map (fun e => (e.1 - 64 * n, e.2))

/-- The copy of a commit (R182): the checks, then the new set takes over with or without a crossfade. -/
def State.commitCopy (s : State) (n : Nat) : State :=
  if (List.range 51).any (fun k => s.poisoned .coefPend (64 * n + k)) then s.commitRefused n 2 0
  else match s.unstableStage n with
  | some k => s.commitRefused n 1 k
  | none =>
    let l := s.laneAt n
    let live := l.phase.live
    let stages := ones 10 (s.coefWord n 50).toNat
    let cost (st stop : Nat) := s.laneCost n l.eff st stop
    let most := s.laneMost n
    let more := cost stages (s.laneStop n) - cost l.stages (s.laneStop n)
    if live && decide (0 < more) && !s.laneFits more && s.laneCould (cost stages most - cost l.stages most) then
      (s.modLane n (fun l => { l with commit := .waitCap })).laneSync n
    else if live && decide (0 < more) && !s.laneFits more then s.commitRefused n 3 0
    else
      let c : Chain := ⟨s.pendingSet n, l.chain.new.regs⟩
      let fade := live && decide (bits l.eff.coef 2 1 = 1)
      let s := (List.range 51).foldl (fun s k => s.cleanse .coefAct (64 * n + k)) s
      let s := (s.modLane n (fun l => { l with
        chain := if fade then l.chain.to c (s.frames 10000) else .at c
        commit := if fade then .xfade else l.commit })).coefRecover n
      if fade then s.laneSync n else s.commitDone n

/-- A lane stops (R163): blocks released, STATE = OFF, a waiting commit copied at once (R182). -/
def State.laneOff (s : State) (n : Nat) : State :=
  let s := { s with poolFree := s.poolFree + s.get (F.LANE_POOL_RC_BLOCKS n) + s.get (F.LANE_DELAY_EXT_BLOCKS n) }
  let s := (s.set (F.LANE_POOL_RC_BLOCKS n) 0).set (F.LANE_DELAY_EXT_BLOCKS n) 0
  let s := ((s.unfault (pgLANE n) 3).unfault (pgLANE n) 4).set (F.LANE_DELAY_STATUS_XFADE_NOW n) 0
  let s := s.modLane n (fun l => { l with
    phase := .off, event := .at0, ev := .none, restart := false, ratioBad := false, out := 0, outs := [], line := [], buf := [], bad := [] })
  let c := (s.laneAt n).commit
  let s := if c = .atFrame ∨ c = .waitCap then s.commitCopy n else if c = .xfade then s.commitDone n else s
  let s := if (s.laneAt n).commit = .atFrame then s.commitCopy n else s
  (s.modLane n (fun l => { l with eff := s.laneWords n })).laneSync n

/-- Where blocks have been released since `before`, a lane that waits for some tries again (R176). -/
def State.poolRetry (s before : State) : State :=
  s.when (decide (before.poolFree < s.poolFree)) (·.forAll 48 (fun s n =>
    s.when (decide ((s.laneAt n).phase = .poolWait) && decide (0 < s.poolFree)) (·.laneAlloc n)))

/-- A running lane whose costs have risen beyond the capacity leaves it, as after an Fe change (R193, log 142). -/
def State.laneSqueeze (s : State) (n : Nat) : State :=
  s.when ((s.laneAt n).phase.live && decide (s.laneRoom < s.laneLoad)) (fun s => (s.laneOff n).lanePhase n .waitCap)

/-- Setting or clearing a lane's ENABLE (R163). -/
def State.laneEnableWritten (s : State) (n : Nat) : State :=
  let l := s.laneAt n
  if s.on (F.PG_ENABLE (pgLANE n)) then
    s.when (decide (l.phase = .off) && s.islandOn .engine) (·.laneAdmit n)
  else match l.phase with
  | .off => s
  | .running | .rampUp | .srcRamp | .stopping =>
    if s.engRuns then
      (s.modLane n (fun l => { l with mute := l.mute.turn false, muteUs := 1000 })).lanePhase n .stopping
    else (s.laneOff n).poolRetry s
  | .quiescing => if s.engRuns then s else (s.laneOff n).poolRetry s
  | _ => (s.laneOff n).poolRetry s

/-- The buffers are allocated (R174 step 2 ends). -/
def State.laneStarted (s : State) (n : Nat) : State :=
  s.event .engine (decide ((s.laneAt n).phase = .alloc)) (fun s =>
    ((s.laneAlloc n).laneSqueeze n).poolRetry s)

/-- The start ramp ends (R174 step 6). -/
def State.laneRunning (s : State) (n : Nat) : State :=
  s.event .engine (decide ((s.laneAt n).phase = .rampUp) && decide ((s.laneAt n).ev = .none)) (fun s =>
    ((s.modLane n (fun l => { l with event := .at1, restart := false })).lanePhase n .running).irq (pgLANE n) 2)

/-! ## Register writes -/

/-- The value of a write is in effect: its own effect. -/
def State.laneTake (s : State) (n : Nat) (e : LaneEff) : State :=
  let l := s.laneAt n
  let s := s.modLane n (fun l => { l with eff := e })
  let s := if e.hum ≠ l.eff.hum then
      let x : Notch := ⟨bits e.hum 0 3, bits e.hum 10 2, bits e.hum 8 2, l.notch.new.regs⟩
      s.modLane n (fun l => { l with notch := l.notch.to x (s.frames 10000) })
    else s
  let s := if e.delay ≠ l.eff.delay then
      let s := s.modLane n (fun l => { l with tap := l.tap.to (bits e.delay 0 16) (s.frames 10000) })
      s.set (F.LANE_DELAY_STATUS_XFADE_NOW n) 1
    else s
  let s := if e.src ≠ l.eff.src then
      match l.phase with
      | .alloc => s.laneRestart n l.restart
      | .stopping | .quiescing => s
      | _ => (s.modLane n (fun l => { l with mute := l.mute.turn false, muteUs := 1000 })).lanePhase n .srcRamp
    else s
  s.laneSync n

/-- A word of a register under the capacity rule was written (R193): `e` is the wanted set of words, `undo` gives that
register its old word. -/
def State.laneGuard (s : State) (n : Nat) (e : LaneEff) (undo : State → State) : State :=
  let l := s.laneAt n
  if !l.phase.live then
    let s := s.modLane n (fun l => { l with eff := e })
    s.laneSync n
  else
    let cost (e : LaneEff) (stop : Nat) := (s.modLane n (fun l => { l with eff := e })).laneCost n e l.stages stop
    let more := cost e (s.effStop e) - cost l.eff (s.effStop l.eff)
    if more = 0 ∨ s.laneFits more then s.laneTake n e
    else if s.laneCould (cost e e.most - cost l.eff l.eff.most) then s.laneSync n
    else ((undo s).capErr n).laneSync n

/-- A waiting lane or change proceeds once it fits (R193). -/
def State.laneCapAdmit (s : State) (n : Nat) : State :=
  let l := s.laneAt n
  if l.phase = .waitCap then
    s.when (s.on (F.PG_ENABLE (pgLANE n)) && s.laneFits (s.laneCost n (s.laneWords n) l.stages (s.laneStop n))) (·.laneAdmit n)
  else
    let s := s.when (l.phase.live && decide (l.eff ≠ s.laneWords n)) (fun s => s.laneGuard n (s.laneWords n) id)
    s.when (decide ((s.laneAt n).commit = .waitCap)) (·.commitCopy n)

/-- Effects of a write to LANEn_SRC (R167, R169). -/
def State.laneSrcWritten (s : State) (n : Nat) : State :=
  s.laneGuard n { (s.laneAt n).eff with src := s.reg (A.LANE_SRC n) } (fun s => s.setReg (A.LANE_SRC n) (s.laneAt n).eff.src)

/-- Effects of a write to LANEn_OUT (R168). -/
def State.laneOutWritten (s : State) (n : Nat) : State :=
  s.laneGuard n { (s.laneAt n).eff with out := s.reg (A.LANE_OUT n) } (fun s => s.setReg (A.LANE_OUT n) (s.laneAt n).eff.out)

/-- Effects of a write to LANEn_DCB (R178). -/
def State.laneDcbWritten (s : State) (n : Nat) : State :=
  s.laneGuard n { (s.laneAt n).eff with dcb := s.reg (A.LANE_DCB n) } (fun s => s.setReg (A.LANE_DCB n) (s.laneAt n).eff.dcb)

/-- Effects of a write to LANEn_HUM (R179). -/
def State.laneHumWritten (s : State) (n : Nat) : State :=
  s.laneGuard n { (s.laneAt n).eff with hum := s.reg (A.LANE_HUM n) } (fun s => s.setReg (A.LANE_HUM n) (s.laneAt n).eff.hum)

/-- Effects of a write to LANEn_DYN_CTRL (R184, R185); the other dynamics registers act as they stand. -/
def State.laneDynWritten (s : State) (n : Nat) : State :=
  s.laneGuard n { (s.laneAt n).eff with dyn := s.reg (A.LANE_DYN_CTRL n) }
    (fun s => s.setReg (A.LANE_DYN_CTRL n) (s.laneAt n).eff.dyn)

/-- COMMIT (R182, R183). A running lane copies at the next frame boundary, also while its engine stands still. -/
def State.laneCommit (s : State) (n : Nat) : State :=
  let l := s.laneAt n
  if l.commit ≠ .idle then s.modLane n (fun l => { l with held := true })
  else
    let s := s.modLane n (fun l => { l with commit := .atFrame })
    if l.phase.live then s.laneSync n else s.commitCopy n

/-- Effects of a write to LANEn_COEF_CTRL (R182, R183, R193): XFADE, then COMMIT. -/
def State.laneCoefWritten (s : State) (n : Nat) (commit : Bool) : State :=
  let e := { (s.laneAt n).eff with coef := s.reg (A.LANE_COEF_CTRL n) &&& 4#32 }
  let s := s.laneGuard n e (fun s => s.set (F.LANE_COEF_CTRL_XFADE n) (bits (s.laneAt n).eff.coef 2 1))
  s.when commit (·.laneCommit n)

/-- Effects of a write to LANEn_DELAY (R186); `old` is the word before it. The taps that play keep their blocks; those of a written
value that has not taken effect go back. -/
def State.laneDelayWritten (s : State) (n : Nat) (old : Word) : State :=
  let frames := s.get (F.LANE_DELAY_FRAMES n)
  let l := s.laneAt n
  let e := { l.eff with delay := BitVec.ofNat 32 frames }
  let have_ := s.get (F.LANE_DELAY_EXT_BLOCKS n)
  let refuse (s : State) : State := (s.set (F.LANE_DELAY_FRAMES n) (bits old 0 16)).set (F.LANE_FLAGS_POOL_ERR n) 1
  if !l.phase.live then
    if delayBlocks frames ≤ have_ + s.poolFree then
      (s.laneGuard n e id).set (F.LANE_DELAY_STATUS_FRAMES_NOW n) frames
    else refuse s
  else
    let used := if l.phase = .alloc ∨ l.phase = .poolWait then 0 else (l.tap.sides.map delayBlocks).foldl max 0
    match s.takeDelay n (max (delayBlocks frames) used) with
    | none => refuse s
    | some t => (t.poolRetry s).laneGuard n e (fun s =>
      -- refused for capacity: FRAMES and the blocks as before
      let s := s.set (F.LANE_DELAY_FRAMES n) (bits (s.laneAt n).eff.delay 0 16)
      (s.takeDelay n have_).getD s)

/-- The last delay crossfade ends (R186). -/
def State.laneDelayEnd (s : State) (n : Nat) : State :=
  let l := s.laneAt n
  let s := s.modLane n (fun l => { l with tap := .at l.tap.new })
  let s := (s.set (F.LANE_DELAY_STATUS_XFADE_NOW n) 0).set (F.LANE_DELAY_STATUS_FRAMES_NOW n) l.tap.new
  match s.takeDelay n (max (delayBlocks l.tap.new) (delayBlocks (s.get (F.LANE_DELAY_FRAMES n)))) with
  | some t => t.poolRetry s
  | none => s

/-- Ramp time of a TRIM or crosspoint ramp class in µs (R177, R198). -/
def rampClassUs : Nat → Nat
  | 0 => 0 | 1 => 1000 | 2 => 10000 | _ => 100000

/-- Effects of a write to LANEn_TRIM (R177). -/
def State.laneTrimWritten (s : State) (n : Nat) (old : Word) : State :=
  let code := s.get (F.LANE_TRIM_GAIN n)
  let l := s.laneAt n
  if code = bits old 0 12 ∨ l.flip = 1 then s
  else if !l.phase.live then
    (s.modLane n (fun l => { l with trim := DbRamp.at code })).set (F.LANE_TRIM_GAIN_NOW n) code
  else
    let us := rampClassUs (s.get (F.LANE_TRIM_RAMP n))
    s.modLane n (fun l => { l with trim := l.trim.to code (if us = 0 then 1 else s.frames us), flip := 0 })

/-- Mute ramp time in µs (R188). -/
def laneMuteUs : Nat → Nat
  | 0 => 1000 | 1 => 5000 | _ => 20000

/-- Effects of a write to LANEn_CTRL: polarity (R177), mute (R188), stops under the capacity rule (R191, R193). -/
def State.laneCtrlWritten (s : State) (n : Nat) (old : Word) : State :=
  let l := s.laneAt n
  let inv := s.on (F.LANE_CTRL_INVERT n)
  let s := if inv = decide (bits old 3 1 = 1) then s
    else if !l.phase.live then s.modLane n (fun l => { l with inv := inv, flip := 0 })
    else if inv = l.inv then
      s.modLane n (fun l => { l with trim := l.trim.to (s.get (F.LANE_TRIM_GAIN n)) (s.frames 1000), flip := 2 })
    else s.modLane n (fun l => { l with trim := l.trim.to 0 (s.frames 1000), flip := 1 })
  let mute := s.on (F.LANE_CTRL_MUTE n)
  let s := if mute = decide (bits old 2 1 = 1) then s
    else match l.phase with
    | .srcRamp | .stopping | .quiescing => s
    | _ => s.modLane n (fun l => { l with mute := l.mute.turn (!mute), muteUs := laneMuteUs (s.get (F.LANE_CTRL_MRAMP n)) })
  s.laneGuard n { (s.laneAt n).eff with ctl := s.reg (A.LANE_CTRL n) &&& 0x380#32 } (fun s =>
    let c := (s.laneAt n).eff.ctl
    (s.set (F.LANE_CTRL_ELASTIC n) (bits c 7 1)).set (F.LANE_CTRL_MAX_STOP n) (bits c 8 2))

/-! ## Events of the lanes' rate domains (R22, R23, R175) -/

/-- Does a lane take part in the events of a tracker's domain? A USB lane does in both modes (R20, R173). -/
def Lane.inTracked (l : Lane) (dom : Nat) : Bool :=
  l.phase.live && (decide (l.kind = .tracked) || decide (dom = 2)) && decide (l.dom = dom)

/-- A stop of a domain, or the end of its tracked operation: its lanes ramp to zero (R22, R175, R278). -/
def State.lanesStop (s : State) (dom : Nat) : State :=
  s.forAll 48 (fun s n => s.when ((s.laneAt n).inTracked dom) (fun s =>
    ((s.set (F.LANE_FLAGS_STOPPED n) 1).irq (pgLANE n) 3).laneDown n))

/-- A rate change of a domain: its lanes ramp to zero without a stop (R22). -/
def State.lanesRateChange (s : State) (dom : Nat) : State :=
  s.forAll 48 (fun s n => s.when ((s.laneAt n).inTracked dom) (·.laneDown n))

/-- One slip of a lane by one sample: `drop` moves the read point one sample on (R22, R172). -/
def Lane.slipped (l : Lane) (unit : Nat) (drop : Bool) : Lane :=
  if drop then { l with ahead := l.ahead - unit, slip := (l.slip.map (· + 1)).to 0 16 }
  else { l with ahead := l.ahead + unit, slip := (l.slip.map (· - 1)).to 0 16 }

/-- One input sample in the units of Lane.ahead. -/
def State.laneUnit (s : State) (l : Lane) : Nat := if l.dir then s.laneRate l.kind l.dom l.hz else 100 * feHz s.fe

/-- A glitch of a domain: each of its lanes slips one sample and counts it (R22, R175). -/
def State.lanesGlitch (s : State) (dom : Nat) : State :=
  s.forAll 48 (fun s n => s.when ((s.laneAt n).inTracked dom) (fun s =>
    let u := s.laneUnit (s.laneAt n)
    let drop := decide ((s.laneAt n).ahead > ((s.get (F.LANE_STATUS_RC_MARGIN_NOW n)) * u : Int))
    ((s.modLane n (fun l => { l.slipped u drop with loopSkip := true })).inc (F.LANE_COUNT_GLITCHES n)).set (F.LANE_FLAGS_GLITCH n) 1))

/-- A lane whose domain is back relocks (R175) and ramps up: at once when it collected input, else after a refill. -/
def State.laneRelock (s : State) (n : Nat) (refill : Bool) : State :=
  let l := s.laneAt n
  let rate := s.laneRate l.kind l.dom l.hz
  let s := ((s.set (F.LANE_FLAGS_RELOCK n) 1).inc (F.LANE_COUNT2_RELOCKS n)).irq (pgLANE n) 4
  if !s.ratioOk rate then (s.laneRatioErr n).laneSync n
  else
    let m := s.get (F.LANE_RC_MARGIN n)
    let s := s.set (F.LANE_STATUS_RC_MARGIN_NOW n) m
    match s.takeRc n (s.rcBlocks l.kind rate m) with
    | none => ((s.lanePoolErr n).modLane n (fun l => { l with ev := .none })).lanePhase n .poolWait
    | some s =>
      let s := ((s.unfault (pgLANE n) 3).laneRatioOk n).loopSeed n
      let u := s.laneUnit (s.laneAt n)
      (s.modLane n (fun l => { l with
        ev := if refill then .refill else .up
        event := if refill then l.event else l.event.turn true
        fill := if refill then s.lsrcFrames l.hz m else 0
        pingpong := 0
        ahead := (m * u : Int) })).laneSync n

/-- A tracker has locked (R22, R174, R175): waiting starts fill, lanes at zero ramp up. -/
def State.lanesLocked (s : State) (dom : Nat) : State :=
  s.forAll 48 (fun s n =>
    let l := s.laneAt n
    if !l.inTracked dom then s
    else match l.phase with
    | .waitSrc => ((s.laneFill n).laneSqueeze n).poolRetry s
    | .poolWait => ((s.laneAlloc n).laneSqueeze n).poolRetry s
    | .running | .rampUp | .stopping | .srcRamp =>
      if l.ev = .down ∨ l.ev = .wait then (((s.laneRelock n false).laneSqueeze n).poolRetry s) else s
    | _ => s)

/-- A tracker's acquisition has failed (R23 rule 3): UNLOCK of its lanes. -/
def State.lanesUnlock (s : State) (dom : Nat) : State :=
  s.forAll 48 (fun s n => s.when ((s.laneAt n).inTracked dom) (fun s => (s.irq (pgLANE n) 5).laneSync n))

/-- A tracker has a new measured rate: the lanes' ratios follow; one that leaves the range holds zero (R170, R173). -/
def State.lanesRate (s : State) (dom : Nat) : State :=
  s.forAll 48 (fun s n => s.when ((s.laneAt n).inTracked dom) (fun s =>
    if s.trkState dom = 2 ∧ !s.ratioOk (s.measRate dom) then ((s.laneRatioErr n).laneDown n).laneSync n
    else ((s.laneSync n).laneSqueeze n).poolRetry s))

/-- A family's PLL has stopped: its fixed-ratio lanes act as on a stop (R175). -/
def State.lanesPllLost (s : State) (fam : Nat) : State :=
  s.forAll 48 (fun s n =>
    let l := s.laneAt n
    s.when (l.phase.live && decide (l.kind = .fixed) && decide (l.dom = fam)) (fun s =>
      ((s.set (F.LANE_FLAGS_STOPPED n) 1).irq (pgLANE n) 3).laneDown n))

/-- A family's PLL has locked again: its fixed-ratio lanes refill and ramp up (R175); waiting starts fill. -/
def State.lanesPllUp (s : State) (fam : Nat) : State :=
  s.forAll 48 (fun s n =>
    let l := s.laneAt n
    if l.phase.live && decide (l.kind = .fixed) && decide (l.dom = fam) then
      if l.phase = .waitSrc then (s.laneFill n).poolRetry s
      else if l.phase = .poolWait then (s.laneAlloc n).poolRetry s
      else if l.ev = .down ∨ l.ev = .wait then (s.laneRelock n true).poolRetry s
      else s
    else s)

/-- Every running lane restarts from step 2 (R190, R271, R272); one whose ENABLE was set while the engine was off starts. -/
def State.lanesRestart (s : State) : State :=
  (s.forAll 48 (fun s n =>
    let l := s.laneAt n
    let on := s.on (F.PG_ENABLE (pgLANE n))
    if l.phase = .stopping then (s.laneOff n).when (on && s.islandOn .engine) (·.laneAdmit n)
    else if (l.phase.live || decide (l.phase = .quiesced)) && !on then s.laneOff n
    else if l.phase.live ∨ l.phase = .quiesced then s.laneStart n
    else s.when (decide (l.phase = .off) && on && s.islandOn .engine && !l.refused)
      (·.laneAdmit n))).poolRetry s

/-- The mute ramp before an engine stop: every running lane to zero over `us` (R190, R271, R275). -/
def State.lanesMute (s : State) (us : Nat) (quiesce : Bool) : State :=
  s.forAll 48 (fun s n =>
    let l := s.laneAt n
    if !l.phase.live then s
    else
      let s := s.modLane n (fun l => { l with mute := l.mute.turn false, muteUs := us })
      if quiesce && decide (l.phase ≠ .stopping) then s.lanePhase n .quiescing else s)

/-- The engine's clock is gated: every lane that runs is QUIESCED (R190). -/
def State.lanesQuiesced (s : State) : State :=
  s.forAll 48 (fun s n =>
    let l := s.laneAt n
    if l.phase = .stopping ∨ (l.phase.live ∧ !s.on (F.PG_ENABLE (pgLANE n))) then s.laneOff n
    else if l.phase.live then
      let s := if l.commit = .atFrame then s.commitCopy n else s
      s.lanePhase n .quiesced
    else s)

/-- Lanes over capacity after an Fe change wait, from the highest index down (R193). -/
def State.lanesOverCap (s : State) : State :=
  ((List.range 48).reverse.foldl (fun s n =>
    if s.laneCap 3 < s.laneLoadMin ∧ (s.laneAt n).phase.live then (s.laneOff n).lanePhase n .waitCap else s) s).poolRetry s

/-! ## Coefficient poison and bank loss (R189) -/

/-- A lane's fault gain ramps to zero over 1 ms, with the code's flag. -/
def State.coefFault (s : State) (n code : Nat) : State :=
  ((s.set (if code = 1 then F.LANE_COEF_STATUS_POISON n else F.LANE_COEF_STATUS_LOST n) 1).fault (pgLANE n) code).laneSync n

/-- Does the lane use word k of its active set (R189)? -/
def Lane.uses (l : Lane) (k : Nat) : Bool := decide (k = 50) || decide (bits (lookup l.chain.new.words 50 0) (k / 5) 1 = 1)

/-- A running lane that meets a poisoned word it uses faults. -/
def State.laneMeetsPoison (s : State) (n : Nat) : State :=
  let l := s.laneAt n
  s.when (l.phase.live && !s.on (F.LANE_COEF_STATUS_POISON n) && !s.on (F.LANE_COEF_STATUS_LOST n)
      && s.poison.any (fun e => decide (e.2.kind = .coefAct) && decide (e.2.idx / 64 = n) && l.uses (e.2.idx % 64)))
    (·.coefFault n 1)

/-- Bank 24 or 25 is lost: both sets read zero; lanes with enabled stages fault (R189). -/
def State.coefLost (s : State) : State :=
  let s := { s with coefPend := [] }
  s.forAll 48 (fun s n =>
    let used := decide ((s.laneAt n).chain.new.en ≠ 0)
    (s.modLane n (fun l => { l with chain := .at .zero })).when used (·.coefFault n 2))

/-- A bank of MB0 to MB7 is lost: the lanes whose storage lies in it restart with zeroed lines (R189). Lane n's own words lie
in MB(n / 8) (R31); the extended pool in MB6 and MB7. -/
def State.laneBankLost (s : State) (bank : Nat) : State :=
  s.forAll 48 (fun s n =>
    let own := decide (n / 8 = bank) || (decide (6 ≤ bank) && (s.on (F.LANE_POOL_RC_BLOCKS n) || s.on (F.LANE_DELAY_EXT_BLOCKS n)))
    s.when (own && (s.laneAt n).phase.live) (·.laneRestart n false))

/-- The conditions of the lane page's fault codes that still hold (R195). -/
def State.laneFaultHolds (s : State) (n code : Nat) : Bool :=
  match code with
  | 1 => s.on (F.LANE_COEF_STATUS_POISON n)
  | 2 => s.on (F.LANE_COEF_STATUS_LOST n)
  | 3 => decide ((s.laneAt n).phase = .poolWait)
  | _ => (s.laneAt n).ratioBad

/-! ## Meanings of the events -/

/-- LANE_START (R174 step 2). -/
def execLaneStart (n : Fin 48) (s : State) : Host.Outcome State Fault Refusal := .next (settle (s.laneStarted n))
/-- LANE_RUNNING (R174 step 6). -/
def execLaneRunning (n : Fin 48) (s : State) : Host.Outcome State Fault Refusal := .next (settle (s.laneRunning n))
/-- LANE_CAP_ADMIT (R193). -/
def execLaneCapAdmit (n : Fin 48) (s : State) : Host.Outcome State Fault Refusal :=
  .next (settle (s.event .engine true (·.laneCapAdmit n)))
/-- LANE_COMMIT_DONE (R182): the copy and any crossfade end. -/
def execLaneCommitDone (n : Fin 48) (s : State) : Host.Outcome State Fault Refusal :=
  .next (settle (s.event .engine true (fun s =>
    let s := if (s.laneAt n).commit = .atFrame then s.commitCopy n else s
    if (s.laneAt n).commit = .xfade then s.commitDone n else s)))
/-- LANE_DELAY_XFADE_END (R186). -/
def execLaneDelayXfadeEnd (n : Fin 48) (s : State) : Host.Outcome State Fault Refusal :=
  .next (settle (s.event .engine (s.on (F.LANE_DELAY_STATUS_XFADE_NOW n)) (·.laneDelayEnd n)))

end Sys2Proof.Machine
end

