-- ==== Sys2Proof/Machine/Track.lean ====
section
/-! DEFINITION. Rate trackers (R22, R23, R278 to R282) and the mains frequency tracker (R283) with the tracked notches'
centre (R179). What a port adds to a tracker's event is in Spdif.lean. -/

namespace Sys2Proof.Machine

/-- Timing-counter ticks in a second: 5.09 ns each (R278). -/
def trkTicks : Nat := 196608000

/-- Update a tracker's record. -/
def State.modTrk (s : State) (t : Nat) (f : Trk → Trk) : State := { s with trk := vmod s.trk t f }

/-- Is the tracker's endpoint in tracked operation (R278)? -/
def State.trkRuns (s : State) (t : Nat) : Bool :=
  decide (s.domState ≤ 1) &&
  (if t = 0 then s.on F.USB_STATE_CONNECTED
   else if t = 1 then s.on (F.PG_ENABLE 0x2A) && s.on F.SPD_RX_CTRL_EN
   else s.on (F.PG_ENABLE (pgSAP (t - 2))) && !(s.sapAt (t - 2)).master)

/-- An event of a tracker: none while frozen (R281) or while the endpoint is not tracked. -/
def State.trkEvent (s : State) (t : Nat) (c : Bool) (f : State → State) : State :=
  s.when (s.trkRuns t && !s.frozen && s.clocked .mgmt && c) f

/-- The status fields that mirror a tracker: those of the S/PDIF receiver and of a slave port (R246, R255). -/
def State.trkMirror (s : State) (t : Nat) : State :=
  let st := s.get (F.CLK_TRK_STATUS_STATE t)
  if t = 1 then
    let was := s.get F.SPD_RX_STATUS_TRK_STATE
    let s := s.when (decide (was ≠ st) && (decide (was = 2) || decide (st = 2))) (·.irq 0x2A 2)
    (s.set F.SPD_RX_STATUS_TRK_STATE st).set F.SPD_RX_STATUS_RATE (if st = 2 then nearestRate (s.trkAt t).nomHz else 0)
  else if 2 ≤ t then
    s.when (!(s.sapAt (t - 2)).master) (fun s =>
      (s.set (F.SAP_STATUS_TRK_STATE (t - 2)) st).when (decide (st = 2))
        (·.set (F.SAP_STATUS_RATE_NOW (t - 2)) (nearestRate (s.trkAt t).nomHz)))
  else s

/-- Move a tracker to a state; an entry to or an exit from LOCKED raises TRK_LOCK (R281). -/
def State.setTrk (s : State) (t st : Nat) : State :=
  let was := s.get (F.CLK_TRK_STATUS_STATE t)
  let s := s.when (decide (was ≠ st) && (decide (was = 2) || decide (st = 2))) (·.irq 0x03 6)
  (s.set (F.CLK_TRK_STATUS_STATE t) st).trkMirror t

/-- An edge in UNLOCKED or HOLDOVER, or a rate change: acquisition starts (R23, R279). -/
def State.trkAcquire (s : State) (t : Nat) : State :=
  ((s.modTrk t (fun k => { k with winRate := 0, glitches := 0, changes := 0, sum := 0, frames := 0 })).set
    (F.CLK_TRK_STATUS_EDGES t) 1).setTrk t 1

/-- A frame period joins the running window (R279). -/
def Trk.average (k : Trk) (period : Nat) : Trk := { k with sum := k.sum + period, frames := k.frames + 1 }

/-- Is the window complete: 16 frames and 2 ms (R279)? -/
def Trk.windowDone (k : Trk) : Bool := decide (16 ≤ k.frames) && decide (2 * trkTicks ≤ 1000 * k.sum)

/-- How a tracker's frame period stands to its rate (R20, R282): the USB tracker's edges are bus intervals, `bus` of them a
second, in each of which `fs / bus` samples pass; every other tracker has one sample a frame. -/
def State.trkScale (s : State) (t : Nat) : Nat × Nat :=
  if t = 0 then (if s.on F.USB_STATE_HS then 8000 else 1000, rateHz (s.get F.USB_CLOCK_RATE)) else (1, 1)

/-- Is the frame period off by more than 12.5 % of that of a rate in 0.01 Hz (R22)? -/
def glitched (period rate : Nat) (sc : Nat × Nat) : Bool :=
  decide (900 * (trkTicks * sc.2) < 8 * (period * sc.1 * rate)) || decide (8 * (period * sc.1 * rate) < 700 * (trkTicks * sc.2))

/-- Is the frame's rate off the locked rate (0.01 Hz) by more than 0.2 % (R22)? -/
def rateOff (period rate : Nat) (sc : Nat × Nat) : Bool :=
  decide (501 * (period * sc.1 * rate) < 500 * (100 * trkTicks * sc.2)) ||
    decide (500 * (100 * trkTicks * sc.2) < 499 * (period * sc.1 * rate))

/-- One glitch counted (R22, R281). -/
def State.trkGlitch (s : State) (t : Nat) : State :=
  (s.set (F.CLK_TRK_STATUS_GLITCH t) 1).inc (F.CLK_TRK_COUNT_GLITCHES t)

/-- Does an edge leave the S/PDIF tracker UNLOCKED: a stream it never locks to is still present (R246)? -/
def State.trkRefused (s : State) (t period : Nat) : Bool :=
  decide (t = 1) && decide (s.get (F.PG_FAULT 0x2A) = 1) &&
    (decide (trkTicks < 28000 * period) || decide (216000 * period < trkTicks))

/-- A frame edge (R278 to R281) after `period` ticks of the timing counter. DESIGN CHOICE (log 170): the first period after a resume,
which holds frozen time, joins no window. -/
def State.trkEdge (s : State) (t period : Nat) : State :=
  let k := s.trkAt t
  let sc := s.trkScale t
  match s.get (F.CLK_TRK_STATUS_STATE t) with
  | 0 => if s.trkRefused t period then s.set (F.CLK_TRK_STATUS_EDGES t) 1 else s.trkAcquire t
  | 3 => s.trkAcquire t
  | 1 =>
    if k.skip then s.modTrk t (fun k => { k with skip := false })
    else (s.modTrk t (·.average period)).when (decide (0 < k.winRate) && glitched period k.winRate sc) (·.trkGlitch t)
  | _ =>
    if k.skip then s.modTrk t (fun k => { k with skip := false })
    else if glitched period (100 * if t = 0 then sc.1 else k.nomHz) (1, 1) then
      let s := s.modTrk t (fun k => { k.average period with glitches := k.glitches + 1, changes := 0 })
      s.when (decide (k.glitches < 2)) (fun s => (s.trkGlitch t).lanesGlitch (t + 2))
    else
      let off := rateOff period k.lockRate sc
      s.modTrk t (fun k => { k.average period with glitches := 0, changes := if off then k.changes + 1 else 0 })

/-- Is a measured rate (0.01 Hz) one the domain may lock to (R170, R246)? -/
def trkInRange (t rate : Nat) : Bool :=
  if t = 1 then decide (2800000 ≤ rate) && decide (rate ≤ 21600000) else decide (0 < rate)

/-- The tracker locks at a rate (R280): its nominal rate, its lanes (R22). -/
def State.trkLock (s : State) (t rate : Nat) : State :=
  let code := nearestRate ((rate + 50) / 100)
  let near := 100 * rateHz code
  let std := decide (50 * rate ≤ 51 * near) && decide (49 * near ≤ 50 * rate)
  let hz := if std then rateHz code else (divRne rate 100).toNat
  let old := s.trkAt t
  let s := s.when (decide (hz ≠ old.nomHz)) (·.irq 0x03 8)
  let s := s.when old.locked (·.inc (F.CLK_TRK_COUNT2_RELOCKS t))
  let s := s.modTrk t (fun k => { k with nomHz := hz, lockRate := rate, glitches := 0, changes := 0, locked := true })
  let s := (s.setB (F.CLK_TRK_STATUS_NONSTD t) (!std)).set (F.CLK_TRK_STATUS_NOMINAL t) (if std then code else 0)
  ((s.set (F.CLK_TRK_RATE_RATE t) rate).setTrk t 2).lanesLocked (t + 2)

/-- A window has given a mean rate in 0.01 Hz (R279). -/
def State.trkMeasured (s : State) (t rate : Nat) : State :=
  let k := s.trkAt t
  match s.get (F.CLK_TRK_STATUS_STATE t) with
  | 1 =>
    let d := if rate ≤ k.winRate then k.winRate - rate else rate - k.winRate
    if 0 < k.winRate ∧ 10000 * d ≤ k.winRate then
      if trkInRange t rate then s.trkLock t rate
      else
        let s := s.fault 0x2A 1
        s.setTrk t 0
    else s.modTrk t (fun k => { k with winRate := rate })
  | 2 => ((s.modTrk t (fun k => { k with lockRate := rate })).set (F.CLK_TRK_RATE_RATE t) rate).lanesRate (t + 2)
  | _ => s

/-- Mean rate of the running window in 0.01 Hz (R279), for USB Fs_nom × T_bus / T_sof (R282): rounded to the register's LSB. -/
def State.trkMean (s : State) (t : Nat) : Nat :=
  let k := s.trkAt t
  let sc := s.trkScale t
  (divRne (100 * trkTicks * sc.2 * k.frames : Nat) (sc.1 * max 1 k.sum)).toNat

/-- A window ends (R279): its mean rate. -/
def State.trkWindow (s : State) (t : Nat) : State :=
  s.when (s.trkAt t).windowDone (fun s => (s.modTrk t (fun k => { k with sum := 0, frames := 0 })).trkMeasured t (s.trkMean t))

/-- No edge within the stop period (R22, R23 rule 2, R281). -/
def State.trkStop (s : State) (t : Nat) : State :=
  match s.get (F.CLK_TRK_STATUS_STATE t) with
  | 1 | 2 =>
    ((((s.set (F.CLK_TRK_STATUS_STOP t) 1).inc (F.CLK_TRK_COUNT_STOPS t)).set (F.CLK_TRK_STATUS_EDGES t) 0).setTrk t 3).lanesStop
      (t + 2)
  | _ => s.set (F.CLK_TRK_STATUS_EDGES t) 0

/-- Has a rate change been found (R22, R281)? -/
def Trk.changed (k : Trk) : Bool := decide (3 ≤ k.glitches) || decide (8 ≤ k.changes)

/-- A rate change (R22): the lanes ramp to zero and the tracker reacquires. -/
def State.trkRateChange (s : State) (t : Nat) : State :=
  ((s.set (F.CLK_TRK_STATUS_RATE_CHG t) 1).trkAcquire t).lanesRateChange (t + 2)

/-- The acquisition has not reached LOCKED in 40 ms (R23 rule 3). -/
def State.trkFail (s : State) (t : Nat) : State :=
  ((((s.set (F.CLK_TRK_STATUS_ACQ_FAIL t) 1).inc (F.CLK_TRK_COUNT2_ACQ_FAILS t)).irq 0x03 7).setTrk t 0).lanesUnlock (t + 2)

/-- The endpoint of a running tracker leaves tracked operation (R278): UNLOCKED without counting or a tracker's interrupt; its lanes
get the stop response. -/
def State.trkOff (s : State) (t : Nat) : State :=
  let s := (s.set (F.CLK_TRK_STATUS_EDGES t) 0).set (F.CLK_TRK_STATUS_STATE t) 0
  ((s.modTrk t (fun k => { k with locked := false, glitches := 0, changes := 0, sum := 0, frames := 0 })).trkMirror t).lanesStop
    (t + 2)

/-- Trackers after a resume from freeze (R281). -/
def State.trkResume (s : State) : State := s.forAll 10 (fun s t => s.modTrk t (fun k => { k with skip := true }))

/-- Trackers go off in SLEEP and deeper and start anew (R278). -/
def State.trkAllOff (s : State) : State :=
  s.forAll 10 (fun s t =>
    let s := s.modTrk t (fun k => { k with winRate := 0, glitches := 0, changes := 0, locked := false, sum := 0, frames := 0 })
    (s.set (F.CLK_TRK_STATUS_EDGES t) 0).setTrk t 0)

/-- Effects of a write to CLK_TRK_CLR (R284): `trk` the tracker bits, `mains` the mains bit. -/
def State.trkClear (s : State) (trk : Nat) (mains : Bool) : State :=
  let s := s.forAll 10 (fun s t => s.when (decide (bits (BitVec.ofNat 32 trk) t 1 = 1))
    (fun s => (s.setReg (A.CLK_TRK_COUNT t) 0).setReg (A.CLK_TRK_COUNT2 t) 0))
  s.when mains (·.setReg A.CLK_MAINS_COUNT 0)

/-! ## Mains (R283) -/

/-- Update the mains tracker. -/
def State.modMains (s : State) (f : Mains → Mains) : State := { s with mains := f s.mains }

/-- Is a period acceptable: 45 Hz to 65 Hz, and within ±2 % of the mean once 4 have been accepted? -/
def Mains.takes (m : Mains) (p : Nat) : Bool :=
  let sum := m.periods.foldl (· + ·) 0
  let n := m.periods.length
  let d := if p * n ≤ sum then sum - p * n else p * n - sum
  decide (24000000 ≤ 65 * p) && decide (45 * p ≤ 24000000) && (decide (m.seen < 4) || decide (50 * d ≤ sum))

/-- The centre of tracked notches moves to the newest frequency over the following cycle (R179). -/
def State.humUpdate (s : State) (sum n : Nat) : State :=
  s.modMains (fun m => { m with
    start := if m.len ≤ m.pos then m.goal else ((m.start : Int) + (((m.goal : Int) - m.start) * m.pos).fdiv m.len).toNat
    goal := s.get F.CLK_MAINS_STATUS_FREQ
    pos := 0
    len := ceilDiv (feHz s.fe * sum) (24000000 * n)
    ever := true })

/-- A mains period, in 1/24 MHz, from its source: 1 MAINS_SYNC, 2 ripple. -/
def State.mainsPeriod (s : State) (src p : Nat) : State :=
  if s.mains.takes p then
    let s := s.modMains (fun m => { m with
      periods := (p :: m.periods).take 8, run := min 4 (m.run + 1), seen := min 4 (m.seen + 1)
      quiet := if src = 1 then 0 else m.quiet })
    let sum := s.mains.periods.foldl (· + ·) 0
    let n := s.mains.periods.length
    let s := s.set F.CLK_MAINS_STATUS_FREQ (divRne (24000000000 * n) sum).toNat
    let s := (s.set F.CLK_MAINS_PERIOD_PERIOD (divRne sum n).toNat).set F.CLK_MAINS_STATUS_SRC_NOW src
    let s := s.when (decide (s.mains.run = 4) && !s.on F.CLK_MAINS_STATUS_VALID)
      (fun s => (s.set F.CLK_MAINS_STATUS_VALID 1).irq 0x03 9)
    s.when (s.on F.CLK_MAINS_STATUS_VALID) (·.humUpdate sum n)
  else (s.modMains (fun m => { m with run := 0 })).inc F.CLK_MAINS_COUNT_REJECTS

/-- Does the tracker take ripple cycles: SRC selects them, in automatic mode while MAINS_SYNC gives no valid periods (R283)? -/
def State.mainsOnRipple (s : State) : Bool :=
  let src := s.get F.CLK_MAINS_CTRL_SRC
  decide (src = 2) || (decide (src = 3) && (decide (s.get F.CLK_MAINS_STATUS_SRC_NOW ≠ 1) || decide (2 < s.mains.quiet)))

/-- A PVDD drone code joins the ripple, `ticks` crystal periods after the one before (R283): each second zero crossing of positive slope
ends a cycle, which counts when its band-passed ripple exceeded 2 mVrms. Answers the cycle that counts. -/
def Ripple.sample (r : Ripple) (ticks : Nat) (code : Int) : Ripple × Option Nat :=
  let f := Config.rippleBand r.mem ticks code
  let r' : Ripple := { r with mem := f.1, y := f.2, ticks := r.ticks + ticks, sq := r.sq + f.2.natAbs ^ 2, n := r.n + 1 }
  if r.y < 0 ∧ 0 ≤ f.2 then
    if r.half = 1 then ({ r' with half := 2 }, none)
    else ({ r' with ticks := 0, sq := 0, n := 0, half := 1 },
      if r.half = 2 ∧ 2000 ^ 2 * r'.n < r'.sq then some r'.ticks else none)
  else (r', none)

/-- VALID clears (R283): FREQ and PERIOD hold; the history of accepted periods starts anew. -/
def State.mainsInvalid (s : State) : State :=
  let s := s.when (s.on F.CLK_MAINS_STATUS_VALID) (fun s =>
    ((s.set F.CLK_MAINS_STATUS_VALID 0).inc F.CLK_MAINS_COUNT_INVALIDS).irq 0x03 9)
  (s.modMains (fun m => { m with periods := [], run := 0, seen := 0 })).set F.CLK_MAINS_STATUS_SRC_NOW 0

/-- Effects of a write to CLK_MAINS_CTRL (R283): SRC = 0 is off. -/
def State.mainsCtrlWritten (s : State) : State := s.when (decide (s.get F.CLK_MAINS_CTRL_SRC = 0)) (·.mainsInvalid)

end Sys2Proof.Machine
end

