-- ==== Sys2Proof/Machine/Sap.lean ====
section
/-! DEFINITION. Serial audio ports and MCLK outputs (chapter 09, R225 to R239, R255). -/

namespace Sys2Proof.Machine

/-- Update a port's record. -/
def State.modSap (s : State) (p : Nat) (f : Sap → Sap) : State := { s with sap := vmod s.sap p f }

/-! ## Formats (R225 to R229) -/

/-- Slots of a frame (R225): two in I2S and left-justified formats. -/
def fmtSlots (w : Word) : Nat := if bits w 0 2 = 2 then bits w 12 4 + 1 else 2

/-- Slot width in bits. -/
def fmtWidth (w : Word) : Nat := match bits w 8 2 with | 0 => 16 | 1 => 24 | _ => 32

/-- Bit-clock frequency of a master in Hz (R228). -/
def fmtBclk (w : Word) : Nat := rateHz (fmtRate w) * fmtSlots w * fmtWidth w

/-- A sample as the bits of a slot (R227). -/
def txBits (width : Nat) (x : Int) : Nat :=
  match width with
  | 16 => unsigned 16 (satSigned 16 (divRne x 65536))
  | 24 => unsigned 24 (x.fdiv 256)
  | _ => unsigned 24 (x.fdiv 256) * 256

/-- Received slot bits as a sample (R227). -/
def rxSample (width v : Nat) : Int :=
  match width with
  | 16 => signed 16 v * 65536
  | 24 => signed 24 v * 256
  | _ => signed 24 (v / 256) * 256

/-- Bit periods by which a slot's MSB follows the slot's start (R226): one in I2S and in TDM with OFFSET = 1. -/
def fmtShift (w : Word) : Nat := match bits w 0 2 with | 0 => 1 | 1 => 0 | _ => bits w 2 1

/-- An edge of BCLK. -/
inductive ClockEdge
  | falling | rising
deriving DecidableEq, Repr

/-- The edge that begins a bit period, on which a transmitter launches DOUT and FS; BCLK_INV swaps the two (R226). -/
def launchEdge (w : Word) : ClockEdge := if bits w 5 1 = 0 then .falling else .rising
/-- The edge on which a receiver samples (R226). -/
def sampleEdge (w : Word) : ClockEdge := if bits w 5 1 = 0 then .rising else .falling

/-- FS in bit period k of a frame (R226): the frame's second half high in I2S, its first half high when left-justified, a pulse of
one period or one slot in TDM; FS_INV inverts it. -/
def fsLevel (w : Word) (k : Nat) : Bool :=
  let width := fmtWidth w
  let fs := match bits w 0 2 with
    | 0 => decide (width ≤ k)
    | 1 => decide (k < width)
    | _ => if bits w 3 1 = 0 then decide (k = 0) else decide (k < width)
  fs != decide (bits w 4 1 = 1)

/-- A slot word's bits in the order sent, MSB first (R226). -/
def slotBits (width v : Nat) : List Bool := (List.range width).map (fun i => decide (v / 2 ^ (width - 1 - i) % 2 = 1))

/-- DOUT period by period from a frame edge (R226, R234): `carry` the bit left from the frame before; with it the bit that is left
for the next. A released slot has no bits. -/
def doutBits (fmt : Word) (carry : Option Bool) (dout : List (Option Nat)) : List (Option Bool) × Option Bool :=
  let width := fmtWidth fmt
  let line := dout.flatMap (fun d => match d with | some v => (slotBits width v).map some | none => List.replicate width none)
  if fmtShift fmt = 0 then (line, some false) else (carry :: line.dropLast, line.getLastD (some false))

/-- A frame on the wire (R226): FS as a master drives it (R229), and DOUT. -/
def frameWire (fmt : Word) (master : Bool) (bits_ : List (Option Bool)) : List SapBit :=
  bits_.zipIdx.map (fun e => ⟨if master then some (fsLevel fmt e.2) else none, e.1⟩)

/-- The word of slot k in the bits sampled on DIN from a frame edge on (R226, R231); a bit that was not sampled counts as 0. -/
def slotIn (fmt : Word) (line : List Bool) (k : Nat) : Nat :=
  (List.range (fmtWidth fmt)).foldl (fun v i =>
    2 * v + (if line.getD (k * fmtWidth fmt + fmtShift fmt + i) false then 1 else 0)) 0

/-- The accumulator of a fractional divider over `n` PLL edges (R268): its value, and the edges at which it toggled the clock, latest
first. The edges count from the frame edge, 1 the first. -/
def fdivRun (k step : Nat) : Nat → Nat × List Nat
  | 0 => (0, [])
  | n + 1 =>
    let (acc, edges) := fdivRun k step n
    if k ≤ acc + step then (acc + step - k, (n + 1) :: edges) else (acc + step, edges)

/-- PLL frequency of a family in Hz (R263). -/
def pllHz (fam : Nat) : Nat := if fam = 0 then 196608000 else 180633600

/-! ## Status -/

/-- SAPp_STATUS.STATE (R255). -/
def sapState : SapPhase → Nat
  | .off => 0 | .waitClk => 1 | .starting => 2 | .running | .rampReconf | .rampStop | .lowStop | .quiescing => 3
  | .reconf => 4 | .quiesced => 5 | .fault => 6

/-- Does the port's clock run? -/
def SapPhase.frames : SapPhase → Bool
  | .running | .rampReconf | .rampStop | .quiescing => true
  | _ => false

/-- Write a port's status registers and its divider's from its record (R255, R268, R284). -/
def State.sapSync (s : State) (p : Nat) : State :=
  let a := s.sapAt p
  let rate := fmtRate a.fmt
  let runs := a.phase.frames || decide (a.phase = .starting)
  let clk := a.master && runs
  let s := (s.set (F.SAP_STATUS_STATE p) (sapState a.phase)).set (F.SAP_STATUS_DOMAIN p)
    (if a.master then rateFamily rate else if a.phase = .off then 0 else 4 + p)
  let s := if a.master then (s.set (F.SAP_STATUS_RATE_NOW p) rate).set (F.SAP_STATUS_TRK_STATE p) (if a.phase.frames then 2 else 0)
    else s.trkMirror (2 + p)
  let s := s.set (F.SAP_BCLK_HZ p) (if a.master then fmtBclk a.fmt else 0)
  let d (lo w : Nat) : Fld := .mk (A.CLK_FDIV p) lo w
  let s := (s.setB (d 31 1) clk).set (d 29 1) (if clk then rateFamily rate else 0)
  (s.set (d 16 11) (if clk then 2 * fmtSlots a.fmt * fmtWidth a.fmt else 0)).set (d 0 15)
    (if clk then pllHz (rateFamily rate) / rateHz rate else 0)

/-- FS and DOUT stand low, or are released in OFF (R237, R238): nothing is on the wire. -/
def State.sapHush (s : State) (p : Nat) : State := s.modSap p (fun a => { a with dout := [], wire := [], carry := some false })

/-- Move a port to a phase. -/
def State.sapPhase (s : State) (p : Nat) (x : SapPhase) : State := (s.modSap p (fun a => { a with phase := x })).sapSync p

/-! ## Start, change, stop (R237, R238) -/

/-- Start step 1 with the registers' settings (R228, R237): rings at zero; `up` the port gain's start. -/
def State.sapStart (s : State) (p : Nat) (gain : Fade) : State :=
  let master := s.on (F.SAP_CTRL_MASTER p)
  let fmt := s.reg (A.SAP_FMT p)
  let s := s.modSap p (fun a => { a with
    master := master, fmt := fmt, pack := s.get (F.SAP_CTRL_PACK p), fade := gain
    rx := [], tx := Vector.replicate 16 [], low := 0, ran := false }) |>.sapHush p
  let s := s.when (!master) (·.modTrk (2 + p) (fun k => { k with nomHz := if k.locked then k.nomHz else rateHz (fmtRate fmt) }))
  let s := s.when (!master && decide ((s.trkAt (2 + p)).locked = false)) (·.set (F.SAP_STATUS_RATE_NOW p) (fmtRate fmt))
  if master && decide (49152000 < fmtBclk fmt) then
    (((s.set (F.SAP_FLAGS_CFG_ERR p) 1).fault (pgSAP p) 1).irq (pgSAP p) 5).sapPhase p .fault
  else
    let s := s.unfault (pgSAP p) 1
    if master && !s.famUp (rateFamily (fmtRate fmt)) then s.sapPhase p .waitClk else s.sapPhase p .starting

/-- A port enters OFF (R237): its balls return to the reset state; a pending mask waits for frames to resume (R233); it
starts again if ENABLE has been set. -/
def State.sapOff (s : State) (p : Nat) : State :=
  let s := s.modSap p (fun a => { a with rx := [], tx := Vector.replicate 16 [], fade := .at1, ran := false })
  let s := (s.sapHush p).sapPhase p .off
  s.when (s.on (F.PG_ENABLE (pgSAP p)) && s.islandOn .ports) (·.sapStart p .at1)

/-- Do frames run: a master's clock, or a slave with edges (R237)? A slave in its stop ramp had them, and its tracker is off. -/
def State.sapFrames (s : State) (p : Nat) : Bool :=
  (s.sapAt p).phase.frames
    && ((s.sapAt p).master || s.on (F.CLK_TRK_STATUS_EDGES (2 + p)) || decide ((s.sapAt p).phase = .rampStop))

/-- Reconfiguration step 2 (R237): STATE = RECONFIG, BCLK, FS and DOUT low, the rings zeroed. -/
def State.sapReconf (s : State) (p : Nat) : State :=
  let s := s.modSap p (fun a => { a with rx := [], tx := Vector.replicate 16 [] })
  (s.sapHush p).sapPhase p .reconf

/-- The end of reconfiguration step 2 (R237): the new settings apply, and the port starts with them; leaving slave operation ends the tracker's (R278). -/
def State.sapApply (s : State) (p : Nat) : State :=
  let was := (s.sapAt p).master
  let s := s.sapStart p .at0
  s.when (!was && (s.sapAt p).master) (·.trkOff (2 + p))

/-- A format or MASTER write while the port is OFF: the settings are in use at once (R229, R230). -/
def State.sapSettings (s : State) (p : Nat) : State :=
  let fmt := s.reg (A.SAP_FMT p)
  let master := s.on (F.SAP_CTRL_MASTER p)
  let s := s.modSap p (fun a => { a with master := master, fmt := fmt })
  let s := s.when (!master) (·.modTrk (2 + p) (fun k => { k with nomHz := if k.locked then k.nomHz else rateHz (fmtRate fmt) }))
  (s.sapSync p).set (F.SAP_STATUS_RATE_NOW p) (fmtRate fmt)

/-- Does a MASTER write make a slave port a master beyond the limit (R228)? -/
def State.sapIllegal (s : State) (p : Nat) : Bool :=
  !(s.sapAt p).master && s.on (F.SAP_CTRL_MASTER p) && decide (49152000 < fmtBclk (s.reg (A.SAP_FMT p)))

/-- A write that changes a format field or MASTER (R237); `old`, `oldCtrl` the words before it. A slave made master is
checked at that write (R228). -/
def State.sapReconfig (s : State) (p : Nat) (oldCtrl oldFmt : Word) : State :=
  let same := decide (bits oldCtrl 0 1 = s.get (F.SAP_CTRL_MASTER p)) && decide (oldFmt = s.reg (A.SAP_FMT p))
  if same then s
  else match (s.sapAt p).phase with
  | .off => s.sapSettings p
  | .rampStop | .lowStop | .quiesced | .quiescing => s
  | .reconf => s.when (s.sapIllegal p) (·.sapApply p)
  | .rampReconf => if s.sapIllegal p then s.sapApply p else s
  | .running =>
    if s.sapFrames p && !s.sapIllegal p then (s.modSap p (fun a => { a with fade := a.fade.turn false })).sapPhase p .rampReconf
    else s.sapApply p
  | _ => s.sapApply p

/-- Setting or clearing a port's ENABLE (R237, R278). -/
def State.sapEnableWritten (s : State) (p : Nat) : State :=
  if s.on (F.PG_ENABLE (pgSAP p)) then
    s.when (decide ((s.sapAt p).phase = .off) && s.islandOn .ports) (·.sapStart p .at1)
  else
    let frames := s.sapFrames p
    let was := !(s.sapAt p).master && (match (s.sapAt p).phase with | .off | .rampStop | .lowStop => false | _ => true)
    let s := s.when was (·.trkOff (2 + p))
    match (s.sapAt p).phase with
    | .off => s
    | .running | .rampReconf | .rampStop =>
      if frames then
        (s.modSap p (fun a => { a with fade := a.fade.turn false })).sapPhase p .rampStop
      else s.sapOff p
    | .lowStop | .quiescing => s
    | _ => s.sapOff p

/-! ## One frame -/

/-- The received samples of a frame (R227, R231, R232), under the port gain, with their low byte 0x00 (R10): `line` the bits sampled
on DIN from its frame edge to the first period of the next frame. -/
def State.sapRx (s : State) (p bclks : Nat) (line : List Bool) : List Int :=
  let a := s.sapAt p
  let n := fmtSlots a.fmt
  let w := fmtWidth a.fmt
  (List.range 16).map (fun k =>
    if s.on (F.SAP_CTRL_RX_EN p) ∧ bits (BitVec.ofNat 32 a.maskFrame) k 1 = 1 ∧ k < n ∧ (k + 1) * w ≤ bclks then
      to24 (fadeSample a.fade (s.lsb (2100 + p) k) (rxSample w (slotIn a.fmt line k)))
    else 0)

/-- Is transmit slot k enabled (R232)? -/
def State.sapSends (s : State) (p k : Nat) : Bool :=
  let a := s.sapAt p
  s.on (F.SAP_CTRL_TX_EN p) && decide (bits (BitVec.ofNat 32 a.maskTx) k 1 = 1) && decide (k < fmtSlots a.fmt)

/-- The next transmit frame (R227, R234, R235): one sample of each enabled slot, zero and an underrun where it is missing. -/
def State.sapTx (s : State) (p : Nat) : State :=
  let a := s.sapAt p
  let run := s.engRuns
  let dout := (List.range (fmtSlots a.fmt)).map (fun k =>
    if s.sapSends p k then
      let x := if run && !decide (bits (BitVec.ofNat 32 a.txZero) k 1 = 1) then ((vget a.tx k []).headD 0) else 0
      some (txBits (fmtWidth a.fmt) (fadeSample a.fade (s.lsb (2200 + p) k) x))
    else if a.idleHiz then none else some 0)
  let miss := (List.range 16).filter (fun k => run && s.sapSends p k
    && !decide (bits (BitVec.ofNat 32 a.txZero) k 1 = 1) && decide (vget a.tx k [] = []))
  let s := miss.foldl (fun s _ => (s.inc (F.SAP_COUNT_UNDERRUNS p)).set (F.SAP_FLAGS_TX_UNDER p) 1) s
  let line := doutBits a.fmt a.carry dout
  s.modSap p (fun a => { a with
    dout := dout, wire := frameWire a.fmt a.master line.1, carry := line.2, tx := a.tx.map (fun q => q.tail) })

/-- Hand a receive frame to the ring (R235). -/
def State.sapPush (s : State) (p : Nat) (frame : List Int) : State :=
  let full := decide (16 ≤ (s.sapAt p).rx.length)
  if !s.engRuns then s.modSap p (fun a => { a with rx := [] })
  else
    let s := s.when full (fun s => (s.inc (F.SAP_COUNT2_OVERRUNS p)).set (F.SAP_FLAGS_RX_OVER p) 1)
    s.modSap p (fun a => { a with rx := (if full then a.rx.tail else a.rx) ++ [frame] })

/-- The count of bit clocks of a frame (R231). -/
def State.sapMeasure (s : State) (p bclks : Nat) : State :=
  let want := fmtSlots (s.sapAt p).fmt * fmtWidth (s.sapAt p).fmt
  let s := s.set (F.SAP_MEAS_BCLK_COUNT p) bclks
  if bclks = want then s
  else (s.when (!s.on (F.SAP_FLAGS_FRAME_ERR p)) (·.irq (pgSAP p) 3)).inc (F.SAP_COUNT_FRAME_ERRS p)
    |>.set (F.SAP_FLAGS_FRAME_ERR p) 1

/-- The written slot masks take effect (R233). -/
def State.sapTakeMasks (s : State) (p : Nat) : State :=
  ((s.modSap p (fun a => { a with
    maskTx := s.get (F.SAP_SLOT_MASK_TX_MASK p), maskRx := s.get (F.SAP_SLOT_MASK_RX_MASK p) })).set
    (F.SAP_STATUS_MASK_PENDING p) 0).irq (pgSAP p) 4

/-- What the end of the port's ramp does (R237). -/
def State.sapRampEnd (s : State) (p : Nat) : State :=
  let a := s.sapAt p
  if !a.fade.zero then s
  else match a.phase with
  | .rampReconf => s.sapReconf p
  | .rampStop => if a.master then ((s.modSap p (fun a => { a with low := 2 })).sapHush p).sapPhase p .lowStop else s.sapOff p
  | _ => s

/-- The first frame edge of a start (R237 step 2): frames run, under a mask that waited for them (R233). -/
def State.sapFirst (s : State) (p : Nat) : State :=
  let s := s.when (s.on (F.SAP_STATUS_MASK_PENDING p)) (·.sapTakeMasks p)
  let s := s.modSap p (fun a => { a with fade := a.fade.turn true, maskFrame := a.maskRx })
  ((s.sapPhase p .running).irq (pgSAP p) 2).sapTx p

/-- A frame edge (R231, R235, R237): the frame it ends is received, the next one sent. A mask that takes effect at the
new frame's start (R233) leaves the frame that ends under its own. A slave's first edge ends no frame: `bclks` is 0 there. -/
def State.sapFrameEdge (s : State) (p bclks : Nat) (line : List Bool) : State :=
  let a := s.sapAt p
  let s := s.modSap p (fun a => { a with idleHiz := s.on (F.SAP_CTRL_IDLE_HIZ p) })
  let n := if a.master then fmtSlots a.fmt * fmtWidth a.fmt else bclks
  match a.phase with
  | .starting =>
    let s := s.when (!a.master && decide (0 < n)) (·.sapMeasure p n)
    s.when (a.master || decide (s.trkState (4 + p) = 2)) (·.sapFirst p)
  | .running | .rampReconf | .rampStop =>
    let s := (s.when (!a.master) (·.sapMeasure p n)).sapPush p (s.sapRx p n line)
    let s := s.modSap p (fun a => { a with fade := a.fade.step (samplesIn 1000 (s.sapFmt p).2), maskFrame := a.maskRx })
    (s.sapTx p).sapRampEnd p
  | .quiescing => ((s.when (!a.master) (·.sapMeasure p n)).sapHush p).sapPhase p .quiesced
  | .reconf => s.sapApply p
  | .lowStop =>
    if a.low ≤ 1 then s.sapOff p else s.modSap p (fun a => { a with low := a.low - 1 })
  | _ => s

/-! ## Masks, MCLK, power, clocks -/

/-- A slot mask was written (R233): shadowed, or applied at once in OFF. -/
def State.sapMaskWritten (s : State) (p : Nat) : State :=
  if (s.sapAt p).phase = .off then s.sapTakeMasks p
  else s.set (F.SAP_STATUS_MASK_PENDING p) 1

/-- The frame start of a pending mask (R233). -/
def State.sapMaskApply (s : State) (p : Nat) : State :=
  s.event .ports (s.on (F.SAP_STATUS_MASK_PENDING p) && (s.sapAt p).phase.frames) (·.sapTakeMasks p)

/-- Does MCLKp's output run (R239): RUNNING of SAPp_MCLK, which freeze holds? -/
def State.mclkRuns (s : State) (p : Nat) : Bool :=
  decide (s.domState = 0) && !s.gated && (match s.get (F.SAP_MCLK_SRC p) with
    | 1 => s.famSeen 0 | 2 => s.famSeen 1 | 3 => s.frozen || s.on F.CLK_XTAL_STATUS_OK | _ => false)

/-- A port's slave clocks have stopped (R237): a step that waits for a frame end is taken at once. -/
def State.sapStopped (s : State) (p : Nat) : State :=
  match (s.sapAt p).phase with
  | .rampReconf | .reconf => s.sapApply p
  | .rampStop => s.sapOff p
  | .quiescing => (s.sapHush p).sapPhase p .quiesced
  | _ => s

/-- A family's PLL is lost: its masters stop their clocks low and wait (R272). -/
def State.sapClockLost (s : State) (fam : Nat) : State :=
  s.forAll 8 (fun s p =>
    let a := s.sapAt p
    s.when (a.master && decide (rateFamily (fmtRate a.fmt) = fam)) (fun s =>
      match a.phase with
      | .running | .starting => (s.sapHush p).sapPhase p .waitClk
      | .rampReconf | .reconf => s.sapApply p
      | .rampStop | .lowStop => s.sapOff p
      | .quiescing => (s.sapHush p).sapPhase p .quiesced
      | _ => s))

/-- A family's PLL runs: its waiting masters start (R237). -/
def State.sapClockUp (s : State) (fam : Nat) : State :=
  s.forAll 8 (fun s p =>
    let a := s.sapAt p
    s.when (a.master && decide (a.phase = .waitClk) && decide (rateFamily (fmtRate a.fmt) = fam)) (·.sapPhase p .starting))

/-- QUIESCE reaches a port (R238): with frames it completes its frame first. -/
def State.sapQuiesce (s : State) (p : Nat) : State :=
  let a := s.sapAt p
  match a.phase with
  | .off | .fault => s
  | .lowStop => s.sapOff p
  | _ =>
    let go := a.phase.frames && s.sapFrames p
    (s.modSap p (fun a => { a with ran := true })).when (!go) (·.sapHush p) |>.sapPhase p (if go then .quiescing else .quiesced)

/-- The 150 µs bound of a slave's frame (R238). -/
def State.sapQuiesceTimeout (s : State) (p : Nat) : State :=
  s.event .ports (decide ((s.sapAt p).phase = .quiescing)) (fun s => (s.sapHush p).sapPhase p .quiesced)

/-- Have all ports acknowledged QUIESCE? -/
def State.sapQuiet (s : State) : Bool := (List.range 8).all (fun p => decide ((s.sapAt p).phase ≠ .quiescing))

/-- After a wake or an abort, a port that was running restarts without the port ramps (R238). -/
def State.sapRestart (s : State) (p : Nat) : State :=
  let a := s.sapAt p
  if a.phase = .quiescing ∨ a.phase = .quiesced then
    if a.ran && s.on (F.PG_ENABLE (pgSAP p)) then s.sapStart p .at1 else s.sapOff p
  else s.when (decide (a.phase = .off) && s.on (F.PG_ENABLE (pgSAP p))) (·.sapStart p .at1)

/-- Rings are zeroed at an Fe change and in a takeover window (R271, R275). -/
def State.sapRingsZero (s : State) : State :=
  s.forAll 8 (fun s p => s.modSap p (fun a => { a with rx := [], tx := Vector.replicate 16 [] }))

/-- The condition of the SAP page's fault code (R256). -/
def State.sapFaultHolds (s : State) (p : Nat) : Bool := decide ((s.sapAt p).phase = .fault)

/-! ## Meanings of the events -/

/-- SAP_FRAME_EDGE (R231): `bclks` bit clocks in the frame that ends, `line` the bits sampled on DIN in its periods and in the first
of the next. -/
def execSapFrameEdge (p : Fin 8) (bclks : Nat) (line : List Bool) (s : State) : Host.Outcome State Fault Refusal :=
  .next (settle (s.event .ports true (·.sapFrameEdge p bclks line)))
/-- SAP_MASK_APPLY (R233). -/
def execSapMaskApply (p : Fin 8) (s : State) : Host.Outcome State Fault Refusal := .next (settle (s.sapMaskApply p))

end Sys2Proof.Machine
end

