-- ==== Sys2Proof/Machine/Churn.lean ====
section
/-! DEFINITION. The Churn (chapter 08, R196 to R212, R221): crosspoint, sink and tap tables, commits and ramps, poison,
capacity, and the buses, taps and sinks of one frame. -/

namespace Sys2Proof.Machine

/-! ## Tables -/

/-- EN of a crosspoint word (R198). -/
def xpEn (w : Word) : Bool := decide (bits w 31 1 = 1)
/-- INV of a crosspoint word. -/
def xpInv (w : Word) : Bool := decide (bits w 30 1 = 1)
/-- RAMP of a crosspoint word. -/
def xpClass (w : Word) : Nat := bits w 28 2
/-- The gain code a word asks for: a disabled entry counts as code 0 (R201). -/
def xpCode (w : Word) : Nat := if xpEn w then bits w 0 12 else 0

/-- Active sink entry after reset (R221): none. -/
def sinkReset : Word := 0#32

/-- The pending word of a crosspoint (R197). -/
def State.xpPendAt (s : State) (i : Nat) : Word := lookup s.xpPend i 0
/-- The active word of a crosspoint. -/
def State.xpActAt (s : State) (i : Nat) : Word := lookup s.xpAct i 0
/-- The active entry of a sink (R207). -/
def State.sinkAt (s : State) (i : Nat) : Word := lookup s.sinkAct i sinkReset

/-- The gain and polarity a crosspoint applies now. -/
def State.xpNow (s : State) (i : Nat) : Xp :=
  lookup s.xpRamp i ⟨DbRamp.at (xpCode (s.xpActAt i)), xpInv (s.xpActAt i), none⟩

/-- Is a crosspoint at rest? -/
def Xp.rest (x : Xp) : Bool := x.gain.done && decide (x.flip = none)

/-- Hold a crosspoint's moving gain; one at rest needs no record. -/
def State.setXp (s : State) (i : Nat) (x : Xp) : State :=
  { s with xpRamp := if x.rest then erase s.xpRamp i else insertAt (erase s.xpRamp i) i x }

/-- Crosspoints the Churn evaluates (R205): enabled or ramping. -/
def State.xpLive (s : State) : List Nat :=
  (s.xpAct.filter (fun e => xpEn e.2)).map (·.1) ++
    (s.xpRamp.map (·.1)).filter (fun i => !xpEn (s.xpActAt i))

/-- The Churn's present cost (R205). -/
def State.chnCost (s : State) : Nat := s.xpLive.length + 256

/-- Cost of a waiting commit: entries enabled in the old or the new table, or ramping; a poisoned pending word disables (R204). -/
def State.chnCostNew (s : State) : Nat :=
  s.chnCost + (s.xpPend.filter (fun e => xpEn e.2 && !s.poisoned .xpPend e.1 && !s.xpLive.contains e.1)).length

/-- The Churn's capacity per frame at an operating point (R205). -/
def State.chnCap (s : State) (op : Nat) : Nat := 4096 * (op + 1) / feMul s.fe

/-- CHN_STATUS.RAMPING and CHN_LOAD from the state. -/
def State.chnSync (s : State) : State :=
  ((s.setB F.CHN_STATUS_RAMPING (decide (s.xpRamp ≠ []))).set F.CHN_LOAD_COST s.chnCost).set F.CHN_LOAD_CAP (s.chnCap s.opNow)

/-- CHN_STATUS.SINK_XFADE from the state. -/
def State.chnFadeSync (s : State) : State :=
  s.setB F.CHN_STATUS_SINK_XFADE (s.sinkFade.any (fun e => e.2.busy) || s.tapFade.any (fun e => e.2.busy))

/-! ## Ramps and poison (R201, R204) -/

/-- What a changed active word does to its crosspoint (R201): `now` moves every target at once. -/
def State.xpRetarget (s : State) (i : Nat) (w : Word) (cls : Nat) (now : Bool) : State :=
  let x := s.xpNow i
  let len := s.frames (rampClassUs cls)
  let s := { s with xpAct := store s.xpAct i w 0 }
  if now || decide (cls = 0) then s.setXp i ⟨DbRamp.at (xpCode w), xpInv w, none⟩
  else if xpInv w = x.inv then s.setXp i ⟨x.gain.to (xpCode w) len, x.inv, none⟩
  else if x.gain.muted then s.setXp i ⟨x.gain.to (xpCode w) len, xpInv w, none⟩
  else s.setXp i ⟨x.gain.to 0 (s.frames 1000), x.inv, some (xpInv w, cls)⟩

/-- One frame of a crosspoint's movement (R201). -/
def State.xpStep (s : State) (i : Nat) : State :=
  let x := s.xpNow i
  let g := x.gain.step
  match x.flip with
  | some (inv, cls) =>
    if g.done then s.setXp i ⟨g.to (xpCode (s.xpActAt i)) (s.frames (rampClassUs cls)), inv, none⟩
    else s.setXp i { x with gain := g }
  | none => s.setXp i { x with gain := g }

/-- The Churn meets a poisoned active word (R204): counted, recorded, raised; an entry that is enabled or ramping ramps to
zero over 1 ms and reads as disabled. -/
def State.xpPoison (s : State) (i : Nat) : State :=
  let s := (((s.inc F.CHN_POISON_COUNT).set F.CHN_POISON_LAST_ENTRY i).fault 0x0F 1).irq 0x0F 6
  if xpEn (s.xpActAt i) || s.xpRamp.any (fun e => decide (e.1 = i)) then
    let x := s.xpNow i
    ({ s with xpAct := store s.xpAct i 0 0 }).setXp i ⟨x.gain.to 0 (s.frames 1000), x.inv, none⟩
  else { s with xpAct := store s.xpAct i 0 0 }

/-- Poisoned active words the Churn evaluates in a frame. -/
def State.xpMeets (s : State) : State :=
  (s.poison.filter (fun e => decide (e.2.kind = .xpAct))).foldl
    (fun s e => if s.xpLive.contains e.2.idx && xpEn (s.xpActAt e.2.idx) then s.xpPoison e.2.idx else s) s

/-- Bank 24 or 25 is lost or wiped (R204): both copies read as disabled at once. -/
def State.chnLost (s : State) : State := (({ s with xpPend := [], xpAct := [], xpRamp := [] }).fault 0x0F 2).chnSync

/-! ## Commit and revert (R200 to R203) -/

/-- Keys of two sparse tables, each once. -/
def keysOf {α β : Type} (a : List (Nat × α)) (b : List (Nat × β)) : List Nat :=
  a.map (·.1) ++ (b.map (·.1)).filter (fun k => !(a.map (·.1)).contains k)

/-- Copy one crosspoint (R201, R204). -/
def State.copyXp (s : State) (now : Bool) (i : Nat) : State :=
  if s.poisoned .xpPend i then
    let s := (((s.inc F.CHN_POISON_COUNT).set F.CHN_POISON_LAST_ENTRY i).fault 0x0F 1).irq 0x0F 6
    s.xpRetarget i 0 1 now
  else if s.xpPendAt i = s.xpActAt i then s
  else s.xpRetarget i (s.xpPendAt i) (xpClass (s.xpPendAt i)) now

/-- Crossfade frames of a sink switch (R207, R209). -/
def State.swFrames (s : State) (w : Word) : Nat :=
  match bits w 12 2 with | 0 => 0 | 1 => s.frames 1000 | _ => s.frames 10000

/-- A sink's blend: the running crossfade or its active entry. -/
def State.sinkBlend (s : State) (i : Nat) : Blend Word := lookup s.sinkFade i (.at (s.sinkAt i))

/-- Copy one sink entry (R209). -/
def State.copySink (s : State) (now : Bool) (i : Nat) : State :=
  let w := s.reg (A.CHN_SINK i)
  if w = s.sinkAt i then s
  else
    let b := (s.sinkBlend i).to w (if now then 0 else s.swFrames w)
    { s with sinkAct := store s.sinkAct i w sinkReset, sinkFade := if b.busy then insertAt (erase s.sinkFade i) i b else erase s.sinkFade i }

/-- The active source ID of a tap (R206). -/
def State.tapAt (s : State) (t : Nat) : Nat := s.get (F.CHN_TAP_ACTIVE_TAP (t / 4) (t % 4))

/-- A tap's blend: the running crossfade or its active source. -/
def State.tapBlend (s : State) (t : Nat) : Blend Nat := lookup s.tapFade t (.at (s.tapAt t))

/-- Hold a tap's blend; one at rest on its active source needs no record. -/
def State.setTap (s : State) (t : Nat) (b : Blend Nat) : State :=
  { s with tapFade := if !b.busy && decide (b.new = s.tapAt t) then erase s.tapFade t else insertAt (erase s.tapFade t) t b }

/-- Copy one tap selection (R206). -/
def State.copyTap (s : State) (now : Bool) (t : Nat) : State :=
  let id := s.get (F.CHN_TAP_TAP (t / 4) (t % 4))
  if id = s.tapAt t then s
  else
    let b := (s.tapBlend t).to id (if now then 0 else s.frames 1000)
    (s.set (F.CHN_TAP_ACTIVE_TAP (t / 4) (t % 4)) id).setTap t b

/-- The copy of a commit (R200): tables, sinks and taps; `now` when no frames run (R202). -/
def State.chnCopy (s : State) (now : Bool) : State :=
  let s := s.set (F.PG_FAULT 0x0F) 0
  let keys := keysOf s.xpPend s.xpAct ++
    (s.poison.filter (fun e => decide (e.2.kind = .xpPend)
      && !(keysOf s.xpPend s.xpAct).contains e.2.idx)).map (·.2.idx)
  let s := keys.foldl (fun s i => s.copyXp now i) s
  let keep := s.poison.filter (fun e => decide (e.2.kind ≠ .xpAct))
  let s := { s with poison := keep }
  let s := s.forAll 174 (fun s i => s.copySink now i)
  let s := s.forAll 16 (fun s t => s.copyTap now t)
  let s := ((s.set F.CHN_STATUS_BUSY 0).set F.CHN_STATUS_HELD 0).set F.CHN_STATUS_CAP_WAIT 0
  let s := ((s.inc F.CHN_STATUS_COMMITS).set F.CHN_COMMIT_FRAME_FRAME (s.get F.CHN_FRAME_NOW_FRAME)).irq 0x0F 2
  s.chnSync.chnFadeSync

/-- CAP_WAIT follows the capacity while a commit waits (R205). -/
def State.chnCapacity (s : State) : State :=
  let wait := s.on F.CHN_STATUS_BUSY && s.engRuns && decide (s.chnCap s.opNow < s.chnCostNew)
  (s.when (wait && !s.on F.CHN_STATUS_CAP_WAIT) (·.irq 0x0F 7)).setB F.CHN_STATUS_CAP_WAIT wait

/-- COMMIT (R200, R202): it waits for its boundary, or for the copy of a stopped engine. -/
def State.chnCommit (s : State) : State :=
  ((s.set F.CHN_STATUS_BUSY 1).setB F.CHN_STATUS_HELD (!s.engRuns)).chnCapacity

/-- The boundary of a waiting commit has come (R200): it is copied if it fits (R205); freeze holds it (R202). -/
def State.chnBoundary (s : State) : State :=
  s.when (s.on F.CHN_STATUS_BUSY && !s.frozen && s.islandOn .engine) (fun s =>
    let s := s.chnCapacity
    s.when (!s.on F.CHN_STATUS_CAP_WAIT) (·.chnCopy (!s.engRuns)))

/-- REVERT (R203): the active tables are copied into the pending ones; poisoned active words as zero. -/
def State.chnRevert (s : State) : State :=
  s.when (!s.on F.CHN_STATUS_BUSY) (fun s =>
    let bad := (s.poison.filter (fun e => decide (e.2.kind = .xpAct))).map (·.2.idx)
    let s := bad.foldl State.xpPoison s
    let keep := s.poison.filter (fun e => decide (e.2.kind ≠ .xpPend))
    let s := { s with xpPend := s.xpAct.filter (fun e => !bad.contains e.1), poison := keep }
    let s := s.forAll 174 (fun s i => s.setReg (A.CHN_SINK i) (s.sinkAt i))
    (s.forAll 4 (fun s k => s.setReg (A.CHN_TAP k) (s.reg (A.CHN_TAP_ACTIVE k)))).chnSync)

/-- CLR_COUNTS (R221). -/
def State.chnClrCounts (s : State) : State := (s.set F.CHN_SAT_COUNT_COUNT 0).set F.CHN_POISON_COUNT 0

/-- Effects of a write to CHN_CTRL (R200, R203, R221); COMMIT in the same word overrides REVERT. -/
def State.chnCtrlWritten (s : State) (commit revert clr : Bool) : State :=
  let s := s.when clr (·.chnClrCounts)
  if commit then s.chnCommit else s.when revert (·.chnRevert)

/-- The engine stops for a cause other than freeze (R202): a waiting commit is copied, every ramp takes its target. -/
def State.chnStops (s : State) : State :=
  let s := { s with xpRamp := [] }
  (s.when (s.on F.CHN_STATUS_BUSY) (·.chnCopy true)).chnSync

/-- Resume from freeze (R202): ramps take their targets; a waiting commit stays. -/
def State.chnResume (s : State) : State := ({ s with xpRamp := [] }).chnSync

/-- Every tap crossfades to zero over 1 ms (R271, R275). -/
def State.tapsDown (s : State) : State := s.forAll 16 (fun s t => s.setTap t ((s.tapBlend t).to 0 (s.frames 1000)))

/-- Every tap is at zero, its crossfade over. -/
def State.tapsZero (s : State) : State := s.forAll 16 (fun s t => s.setTap t (.at 0))

/-- Every tap returns with a 1 ms crossfade (R271). -/
def State.tapsUp (s : State) : State := s.forAll 16 (fun s t => s.setTap t ((s.tapBlend t).to (s.tapAt t) (s.frames 1000)))

/-! ## One frame -/

/-- Does the endpoint of a source ID run (R206)? USB sources run while their OUT interface streams. -/
def State.srcRuns (s : State) (sid : Nat) : Bool :=
  let ain (x : AinPhase) : Bool := match x with | .off | .powerUp | .waitVref | .waitClk => false | _ => true
  if sid ≤ 0x10 then ain (vget s.ain (sid - 1) Ain.init).phase
  else if sid = 0x11 then ain s.beep.phase
  else if sid ≤ 0x21 then
    match (s.pdmAt (s.pdmGroup ((sid - 0x12) / 2))).phase with | .off | .waitClk | .quiesced => false | _ => true
  else if sid ≤ 0x23 then decide (s.trkState 3 = 2)
  else if sid ≤ 0x2B then
    match (vget s.spk ((sid - 0x24) / 2) (Spk.init 0)).phase with | .off | .waiting | .quiesced | .fault => false | _ => true
  else if sid ≤ 0x3B then decide (s.get (F.USB_ALT_ALT 0) ≠ 0)
  else if sid ≤ 0x4B then decide (s.get (F.USB_ALT_ALT 1) ≠ 0)
  else match (s.sapAt ((sid - 0x4C) / 16)).phase with | .running | .rampReconf | .rampStop | .quiescing => true | _ => false

/-- The value of a source ID at a tap (R15, R206) and whether it mismatches; `latest` is the frame's newest sample. -/
def State.tapValue (s : State) (sid : Nat) (latest : Nat → Int) : Int × Bool :=
  if sid = 0 then (0, false)
  else if isBus sid then (0, true)
  else if !s.srcRuns sid then (0, false)
  else if s.srcFmt sid = (feFamily s.fe, feHz s.fe) then (latest sid, false)
  else (0, true)

/-- All taps of a frame: the Churn inputs 48 to 63 and the mismatch bits (R206). -/
def State.tapsFrame (s : State) (latest : Nat → Int) : State × List Int :=
  let s := s.forAll 16 (fun s t => s.when (decide (s.tapFade.any (fun e => decide (e.1 = t)))) (fun s => s.setTap t (s.tapBlend t).step))
  let xs := (List.range 16).map (fun t => (s.tapBlend t).mix (fun id => (s.tapValue id latest).1))
  let bad := bitsOf ((List.range 16).map (fun t => (s.tapValue (s.tapAt t) latest).2))
  let old := s.get F.CHN_TAP_MISMATCH_MISMATCH
  ((s.when (decide (bad &&& old ≠ bad)) (·.irq 0x0F 4)).set F.CHN_TAP_MISMATCH_MISMATCH bad, xs)

/-- One crosspoint's contribution (R199). -/
def State.xpTerm (s : State) (i : Nat) (x : Int) : Int :=
  let p := s.xpNow i
  let y := mulGain x (p.gain.lin (s.lsb 2000 i))
  if p.inv then -y else y

/-- A bus saturated (R199, R222). -/
def State.busSat (s : State) (b : Nat) : State :=
  let f : Fld := if b < 32 then .mk A.CHN_BUS_SAT0 b 1 else .mk A.CHN_BUS_SAT1 (b - 32) 1
  ((s.when (!s.on f) (·.irq 0x0F 3)).set f 1).inc F.CHN_SAT_COUNT_COUNT

/-- Step 3 of R17: the 48 buses from the 64 inputs. -/
def State.busFrame (s : State) (inputs : List Int) : State :=
  let s := (s.xpRamp.map (·.1)).foldl State.xpStep s
  let s := s.xpMeets
  let live := s.xpLive
  let s := s.forAll 48 (fun s b =>
    let sum := (live.filter (fun i => decide (i / 64 = b))).foldl (fun t i => t + s.xpTerm i (inputs.getD (i % 64) 0)) 0
    (s.when (over32 sum) (·.busSat b)) |> fun s => { s with bus := vmod s.bus b (fun _ => sat32 sum) })
  s.chnSync

/-- Does sink i ignore its entry: the second channel of a BRIDGED pair (R110), S/PDIF out in passthrough (R252), a transmit slot
that is not sent (R232), or a USB IN channel that no packet carries, at or above Ci or at alternate setting 0 (R290, R297)? -/
def State.sinkIgnored (s : State) (i : Nat) : Bool :=
  (decide (i < 8) && s.bridgedOdd i)
  || ((decide (i = 44) || decide (i = 45)) && decide (s.spdTx.phase = .passthrough))
  || (decide (46 ≤ i) && !s.sapSends ((i - 46) / 16) ((i - 46) % 16))
  || (decide (12 ≤ i) && decide (i < 44)
    && (decide (s.usbAlt (2 + (i - 12) / 16) = 0) || decide (s.usbCh (2 + (i - 12) / 16) ≤ (i - 12) % 16)))

/-- What a sink entry names for sink i in this frame (R208): its samples, or none where it takes zeros; and a mismatch. -/
def State.sinkNamed (s : State) (i : Nat) (w : Word) : Option (List Int) × Bool :=
  let k := bits w 0 6
  match bits w 8 2 with
  | 1 => if s.sinkFmt i = (feFamily s.fe, feHz s.fe) then (some [vget s.bus k 0], false) else (none, true)
  | 2 =>
    let l := s.laneAt k
    if !l.phase.live then (none, false)
    else if l.dir then (if s.laneOutFmt k = s.sinkFmt i then (some l.outs, false) else (none, true))
    else if s.sinkFmt i = (feFamily s.fe, feHz s.fe) then (some [l.out], false) else (none, true)
  | _ => (none, false)

/-- The samples a sink takes in a frame (R17 step 5, R209); none where it takes zeros by rule. -/
def State.sinkFeed (s : State) (i : Nat) : Option (List Int) :=
  let b := s.sinkBlend i
  if !b.busy then (s.sinkNamed i b.new).1
  else
    let len := (b.sides.map (fun w => ((s.sinkNamed i w).1.getD []).length)).foldl max 1
    some ((List.range len).map (fun k => b.mix (fun w => ((s.sinkNamed i w).1.getD []).getD k 0)))

/-- What a sink takes while engine frames stop: the converter of the OUTBOUND lane it names goes on in its own domain (R175); no other
source gives anything. -/
def State.sinkHeld (s : State) (i : Nat) : Option (List Int) :=
  let w := s.sinkAt i
  let l := s.laneAt (bits w 0 6)
  let conv := match l.kind with | .fixed | .tracked => true | _ => false
  if decide (bits w 8 2 = 2) && l.dir && conv then (s.sinkNamed i w).1 else none

/-- Step 5 of R17, its status: crossfades one frame on, mismatch bits (R208). -/
def State.sinksFrame (s : State) : State :=
  let fades := (s.sinkFade.map (fun e => (e.1, e.2.step))).filter (fun e => e.2.busy)
  let s := { s with sinkFade := fades }
  let s := s.forAll 6 (fun s j =>
    let bad := bitsOf ((List.range 32).map (fun t =>
      let i := 32 * j + t
      decide (i < 174) && !s.sinkIgnored i && (s.sinkNamed i (s.sinkAt i)).2))
    let old := s.get (F.CHN_SINK_MISMATCH_MISMATCH j)
    (s.when (decide (bad &&& old ≠ bad)) (·.irq 0x0F 5)).set (F.CHN_SINK_MISMATCH_MISMATCH j) bad)
  s.chnFadeSync

/-- CHN_COMMIT_COPY (R200). -/
def execChnCommitCopy (s : State) : Host.Outcome State Fault Refusal := .next (settle s.chnBoundary)

end Sys2Proof.Machine
end

