-- ==== Sys2Proof/Machine/Fife.lean ====
section
/-! DEFINITION. The Fife path (chapter 08, R213 to R218, R223): its gain table, its routes, the sum of a channel. -/

namespace Sys2Proof.Machine

/-- Applied code of route (c, n) (R215). -/
def State.fifNow (s : State) (c n : Nat) : Nat := s.get (F.FIF_GAIN_NOW_G (4 * c + n / 4) (n % 4))

/-- Target code of route (c, n). -/
def State.fifGoal (s : State) (c n : Nat) : Nat := vget s.fifTarget (16 * c + n) 63

/-- Do input and channel run in the same f_mod family (R217)? -/
def State.fifFamily (s : State) (c n : Nat) : Bool :=
  decide (rateFamily (s.ainAt n).rate = rateFamily (vget s.aout c Aout.init).rate)

/-- May a channel take Fife contributions: RUNNING or MUTED, and not the second one of a BRIDGED pair (R108, R110, R217)? -/
def State.fifTakes (s : State) (c : Nat) : Bool := decide ((vget s.aout c Aout.init).phase = .running) && !s.bridgedOdd c

/-- Do the conditions of R217 hold for a route? -/
def State.fifMay (s : State) (c n : Nat) : Bool :=
  s.on (F.PG_ENABLE 0x0E) && (match (s.ainAt n).phase with | .running | .calMute | .calUnmute => true | _ => false)
    && s.fifTakes c && s.fifFamily c n

/-- The code a route's gain moves to now. -/
def State.fifWant (s : State) (c n : Nat) : Nat := if s.fifMay c n then s.fifGoal c n else 63

/-- Does a route contribute above mute? -/
def State.fifLive (s : State) (c n : Nat) : Bool :=
  decide (s.fifNow c n ≠ 63) && s.fifFamily c n && s.fifTakes c

/-- FIF_STATUS and FIF_SRC_LIVE from the routes, with their interrupts (R217, R224). -/
def State.fifSync (s : State) : State :=
  let cs := List.range 8
  let ns := List.range 16
  let mis := bitsOf (cs.map (fun c => ns.any (fun n => decide (s.fifGoal c n ≠ 63) && !s.fifFamily c n)))
  let ramping := cs.any (fun c => ns.any (fun n => decide (s.fifNow c n ≠ s.fifWant c n)))
  let s := s.when (s.on F.FIF_STATUS_RAMPING && !ramping) (·.irq 0x0E 2)
  let s := s.when (decide (mis &&& s.get F.FIF_STATUS_FAM_MISMATCH ≠ mis)) (·.irq 0x0E 3)
  let s := (s.setB F.FIF_STATUS_RAMPING ramping).set F.FIF_STATUS_FAM_MISMATCH mis
  let s := s.set F.FIF_STATUS_ACTIVE (bitsOf (cs.map (fun c => ns.any (fun n => s.fifLive c n))))
  s.set F.FIF_SRC_LIVE_LIVE (bitsOf (ns.map (fun n => cs.any (fun c => s.fifLive c n))))

/-- COMMIT (R216): the pending gains become the targets. -/
def State.fifCommit (s : State) : State :=
  ({ s with fifTarget := Vector.ofFn (fun i : Fin 128 =>
      s.get (F.FIF_GAIN_G (4 * (i.val / 16) + i.val % 16 / 4) (i.val % 4))) }).fifSync

/-- One STEP interval (R216): every moving gain moves 1 dB towards its target; the code counts dB, and 63 mutes. -/
def State.fifStep (s : State) : State :=
  let s := s.fifSync.forAll 8 (fun s c => s.forAll 16 (fun s n =>
    let now := s.fifNow c n
    let want := s.fifWant c n
    let f := F.FIF_GAIN_NOW_G (4 * c + n / 4) (n % 4)
    if now < want then s.set f (now + 1) else if want < now then s.set f (now - 1) else s))
  s.fifSync

/-- A write of the FIF page's ENABLE, or another change of the routes' conditions (R217). -/
def State.fifEnableWritten (s : State) : State := s.fifSync

/-- The Fife sum of a channel (R213), in sample LSB with 24-bit precision. -/
def State.fifSum (s : State) (c : Nat) : Int :=
  (List.range 16).foldl (fun t n =>
    if s.fifLive c n then
      let k := s.fifNow c n
      let err := max (-10) (min 10 (Config.fifeError (16 * c + n) k s.free))
      t + divRne (s.tapOf n * dbLin (err - 1000 * (k : Int)) 1000) (q60 * 256) * 256
    else t) 0

/-- The channel whose Fife sum a channel's output carries: the first one of a BRIDGED pair (R110, R217). -/
def State.fifTo (s : State) (c : Nat) : Nat := if s.bridgedOdd c then c - 1 else c

/-- Does a Fife contribution reach the channel (AOUTc_STATUS.FIFE_ACTIVE)? -/
def State.fifReaches (s : State) (c : Nat) : Bool := (List.range 16).any (fun n => s.fifLive c n)

/-- FIF_GAIN_STEP (R216). -/
def execFifGainStep (s : State) : Host.Outcome State Fault Refusal :=
  .next (settle (s.event .aout true (·.fifStep)))

end Sys2Proof.Machine
end

