-- ==== Sys2Proof/Machine/LaneDsp.lean ====
section
/-! DEFINITION. What one engine frame does in a lane (R164 to R190): the gains' ramps, the rate converter, trim and polarity,
DC block, hum notch, biquads, dynamics, delay and meters. -/

namespace Sys2Proof.Machine

/-- A stage of lane n saturated (R165). -/
def State.laneOver (s : State) (n : Nat) (o : Bool) : State :=
  s.when o (fun s => (s.irq (pgLANE n) 9).set (F.LANE_FLAGS_OVER n) 1)

/-! ## Gains and sequences -/

/-- The lane's external domain and rate as its source or its output setting has them now (R167, R168). -/
def State.laneAdopt (s : State) (n : Nat) : State :=
  let l := s.laneAt n
  let m := s.laneMode n l.sid l.dir
  (s.modLane n (fun l => { l with kind := m.1, dom := m.2.1, hz := m.2.2 })).when (decide (m.1 = .zero) && l.dir)
    (·.set (F.LANE_FLAGS_SRC_ERR n) 1)

/-- The converter goes on at a new fixed ratio, from the first sample at the new rate (R169): its blocks follow the ratio (R176). -/
def State.laneRatioNew (s : State) (n : Nat) : State :=
  let l := s.laneAt n
  let k := s.get (F.LANE_STATUS_RC_MARGIN_NOW n)
  match s.takeRc n (s.rcBlocks l.kind (s.laneRate l.kind l.dom l.hz) k) with
  | none => ((s.lanePoolErr n).modLane n (fun l => { l with ev := .none })).lanePhase n .poolWait
  | some t =>
    let u := t.laneUnit l
    let t := t.modLane n (fun l => { l with
      ahead := if l.kind = .tracked then l.ahead else (k * u : Int)
      fill := if l.phase = .filling ∨ l.ev = .refill then t.laneFillFrames l k else l.fill })
    ((t.laneSync n).laneSqueeze n).poolRetry s

/-- A change at the source's endpoint or of LANEn_OUT (R168, R169). Between a clock-locked and a tracked domain it acts as a stop of
the old domain; within the clock-locked domains the lane follows at once. -/
def State.laneFollow (s : State) (n : Nat) : State :=
  let l := s.laneAt n
  let m := s.laneMode n l.sid l.dir
  if m = (l.kind, l.dom, l.hz) then s
  else
    let cross := (decide (m.1 = .tracked) || decide (l.kind = .tracked)) && (decide (m.1 ≠ l.kind) || decide (m.2.1 ≠ l.dom))
    match l.phase with
    | .alloc | .waitSrc | .poolWait => (s.laneAdopt n).laneSync n
    | .filling => if cross then (s.laneAdopt n).lanePhase n .waitSrc else (s.laneAdopt n).laneRatioNew n
    | .rampUp | .running | .srcRamp | .stopping | .quiescing =>
      match l.ev with
      | .down => s
      | .wait => (s.laneAdopt n).laneSync n
      | .refill =>
        if cross then ((s.laneAdopt n).modLane n (fun l => { l with ev := .wait, fill := 0 })).laneSync n
        else (s.laneAdopt n).laneRatioNew n
      | .none | .up =>
        if cross then ((s.set (F.LANE_FLAGS_STOPPED n) 1).irq (pgLANE n) 3).laneDown n else (s.laneAdopt n).laneRatioNew n
    | _ => s

/-- A lane's domain event at a frame: what its event gain does next (R22, R169, R175). -/
def State.laneEvent (s : State) (n : Nat) (input : Bool) : State :=
  let s := s.laneFollow n
  let l := s.laneAt n
  match l.ev with
  | .down => if l.event.zero then (s.modLane n (fun l => { l with ev := .wait })).laneSync n else s
  | .wait =>
    if s.laneReady n && (input || l.dir) && !(decide (l.dom = 2) && decide (s.trkState 2 ≠ 2)) then
      (s.laneRelock n (decide (l.kind ≠ .tracked) || decide (0 < l.pingpong))).poolRetry s
    else s
  | .refill =>
    if l.fill ≤ 1 then
      (s.modLane n (fun l => { l with fill := 0, ev := .up, event := l.event.turn true })).laneSync n
    else s.modLane n (fun l => { l with fill := l.fill - 1 })
  | .up => if l.event.full then (s.modLane n (fun l => { l with ev := .none })).laneSync n else s
  | .none => s

/-- The first-order ratio loop (R173): 0.5 Hz, one step a frame while the tracker is LOCKED; a glitched frame period is left out
(R175). -/
def State.laneLoop (s : State) (n : Nat) : State :=
  let l := s.laneAt n
  if l.kind ≠ .tracked ∨ s.trkState l.dom ≠ 2 then s
  else if l.loopSkip then s.modLane n (fun l => { l with loopSkip := false })
  else
    let k := 2 ^ 30 - divRne (expQ (-piQ / (feHz s.fe : Int))) (2 ^ 30)
    let goal : Int := s.measRate l.dom * 2 ^ 32
    (s.modLane n (fun l => { l with loop := l.loop + divRne ((goal - l.loop) * k) (2 ^ 30) })).laneSync n

/-- Polarity change (R177): at the foot of the ramp the polarity flips and the trim returns. -/
def State.laneFlip (s : State) (n : Nat) : State :=
  let l := s.laneAt n
  if l.flip = 0 ∨ !l.trim.done then s
  else if l.flip = 1 then
    s.modLane n (fun l => { l with inv := s.on (F.LANE_CTRL_INVERT n), flip := 2,
                                   trim := l.trim.to (s.get (F.LANE_TRIM_GAIN n)) (s.frames 1000) })
  else s.modLane n (fun l => { l with flip := 0 })

/-- Is the lane's coefficient set faulted (R189)? -/
def State.laneFaulted (s : State) (n : Nat) : Bool := s.on (F.LANE_COEF_STATUS_POISON n) || s.on (F.LANE_COEF_STATUS_LOST n)

/-- The gains one frame on (R166). -/
def State.laneRamps (s : State) (n : Nat) : State :=
  let bad := s.laneFaulted n
  let s := s.modLane n (fun l => { l with
    mute := l.mute.step (s.frames l.muteUs)
    event := l.event.step (s.frames (if l.event.up then 5000 else 1000))
    fault := (l.fault.turn (!bad)).step (s.frames (if bad then 1000 else 5000))
    trim := l.trim.step })
  s.set (F.LANE_TRIM_GAIN_NOW n) (s.laneAt n).trim.code

/-- The sequence of a lane at a frame boundary: ends of ramps and fills, a waiting commit. -/
def State.laneControl (s : State) (n : Nat) (input : Bool) : State :=
  let l := s.laneAt n
  let s := if l.phase = .stopping ∧ l.mute.zero then
      let s := (s.laneOff n).poolRetry s
      s.when (s.on (F.PG_ENABLE (pgLANE n))) (·.laneAdmit n)
    else if l.phase = .srcRamp ∧ l.mute.zero then s.laneRestart n true
    else if l.phase = .waitSrc ∧ s.laneReady n then ((s.laneFill n).laneSqueeze n).poolRetry s
    else if l.phase = .filling then
      if l.fill ≤ 1 then
        let u := s.laneUnit l
        let k := s.get (F.LANE_STATUS_RC_MARGIN_NOW n)
        (s.modLane n (fun l => { l with fill := 0, ahead := (k * u : Int), event := l.event.turn true })).lanePhase n .rampUp
      else s.modLane n (fun l => { l with fill := l.fill - 1 })
    else s
  let s := if (s.laneAt n).commit = .atFrame then s.commitCopy n else s
  let s := s.laneMeetsPoison n
  (((s.laneEvent n input).laneLoop n).laneFlip n).laneRamps n

/-! ## Poisoned samples (R189) -/

/-- The lane reads k poisoned samples: each reads as zero, flagged and counted (R189, R411). -/
def State.badRead (s : State) (n : Nat) (k : Nat) : State :=
  s.forAll k (fun s _ =>
    let s := (s.set (F.LANE_FLAGS_POISON n) 1).inc (F.LANE_COUNT2_POISON_SAMPLES n)
    s.inc F.MEM_UNCORR_COUNT_POISON_READS)

/-- The poisoned samples of the ring or of the converter buffer, met when the lane next reads there. -/
def State.badMeets (s : State) (n : Nat) (ring : Bool) : State :=
  let hit (b : BadSample) : Bool := match b with | .ring => ring | .buffer _ => !ring | .delay _ => false
  let l := s.laneAt n
  if l.bad.any hit then
    (s.badRead n (l.bad.filter hit).length).modLane n (fun l => { l with bad := l.bad.filter (fun b => !hit b) })
  else s

/-- The poisoned samples of the delay line, one frame on: met where a tap stands at one, gone behind the longest tap. -/
def State.badDelay (s : State) (n : Nat) (taps : List Nat) (most : Nat) : State :=
  let l := s.laneAt n
  if l.bad = [] then s
  else
    let on := l.bad.map (fun b => match b with | .delay k => BadSample.delay (k + 1) | b => b)
    let hit (b : BadSample) : Bool := match b with | .delay k => taps.contains k | _ => false
    let keep (b : BadSample) : Bool := match b with | .delay k => !taps.contains k && decide (k ≤ most) | _ => true
    (s.badRead n (on.filter hit).length).modLane n (fun l => { l with bad := on.filter keep })

/-! ## The rate converter (R170 to R175) -/

/-- Words a converter buffer holds (R176). -/
def State.bufLen (s : State) (l : Lane) (m : Nat) : Nat := 64 * s.ratioCeil (s.laneRate l.kind l.dom l.hz) + 2 * m

/-- Take input samples into the buffer, latest last. -/
def State.lanePush (s : State) (n : Nat) (xs : List Int) : State :=
  let l := s.laneAt n
  let m := s.get (F.LANE_STATUS_RC_MARGIN_NOW n)
  let u := s.laneUnit l
  s.modLane n (fun l => { l with
    buf := (xs.reverse ++ l.buf).take (s.bufLen l m)
    ahead := if l.phase = .filling then l.ahead else l.ahead + (u * xs.length : Int) })

/-- The fill slip of R172, taken while LOCKED and no crossfade runs, by a converter that delivers. -/
def State.laneFillSlip (s : State) (n : Nat) : State :=
  let l := s.laneAt n
  let m := s.get (F.LANE_STATUS_RC_MARGIN_NOW n)
  let u := s.laneUnit l
  let high := decide (l.ahead > ((2 * m - 1) * u : Int))
  let low := decide (l.ahead < (u : Int))
  if s.laneRc n = 2 ∧ !l.slip.busy ∧ l.ev ≠ .wait ∧ l.ev ≠ .refill ∧ (high || low) then
    ((s.modLane n (·.slipped u high)).inc (F.LANE_COUNT_SLIPS n)).set (F.LANE_FLAGS_SLIP n) 1
  else s

/-- Converter output at the read point, the slip crossfade mixed (R22, R171), and whether it saturates (R165). -/
def State.laneConvert (s : State) (n : Nat) : Int × Bool :=
  let l := s.laneAt n
  let u := s.laneUnit l
  let at_ (off : Int) : Int := Config.convert (s.laneStop n) (s.ratioOf l.convRate) (((l.ahead + off * u) * 2 ^ 26).fdiv u).toNat l.buf
  (l.slip.mix (fun off => sat32 (at_ off)), l.slip.sides.any (fun off => over32 (at_ off)))

/-- The k-th sample of the backwards-and-forwards reading of the last outputs (R175). -/
def pingpongAt (t : List Int) (k : Nat) : Int :=
  let n := t.length
  if n = 0 then 0 else let p := k % (2 * n); t.getD (if p < n then p else 2 * n - 1 - p) 0

/-- One output of the converter: its input advances by `used` units; without input it reads its last outputs (R175). One whose event gain
is at zero has delivered nothing yet, so it does not stop. -/
def State.laneRead (s : State) (n : Nat) (used : Nat) : State × Int :=
  let l := s.laneAt n
  if l.ahead ≤ 0 then
    let y := pingpongAt l.tail l.pingpong
    let s := s.modLane n (fun l => { l with pingpong := l.pingpong + 1 })
    (s.when ((decide (l.ev = .none) || decide (l.ev = .up)) && !l.event.zero) (fun s =>
      ((s.set (F.LANE_FLAGS_STOPPED n) 1).irq (pgLANE n) 3).modLane n (fun l => { l with event := l.event.turn false, ev := .down })), y)
  else
    let s := s.badMeets n false
    let (y, sat) := s.laneConvert n
    ((s.laneOver n sat).modLane n (fun l => { l with ahead := l.ahead - used, slip := l.slip.step, tail := (y :: l.tail).take 64 }), y)

/-- Units of Lane.ahead that one output of the converter uses: the external rate of an INBOUND lane, 100·Fe of an OUTBOUND one. -/
def State.laneUsed (s : State) (n : Nat) : Nat :=
  let l := s.laneAt n
  if l.dir then 100 * feHz s.fe else (divRne l.convRate (2 ^ 32)).toNat

/-- The first two stages of an INBOUND lane (R164): fetch and converter, under the event gain. -/
def State.laneFetch (s : State) (n : Nat) (xs : List Int) : State × Int :=
  let s := s.when (decide (xs ≠ [])) (·.badMeets n true)
  let l := s.laneAt n
  match l.phase with
  | .filling | .waitSrc => (s.lanePush n xs, 0)
  | .rampUp | .running | .stopping | .srcRamp | .quiescing =>
    let (s, y) := match l.kind with
      | .zero => (s, 0)
      | .bypass => (s, xs.getLastD 0)
      | _ =>
        let s := (s.lanePush n xs).laneFillSlip n
        s.laneRead n (s.laneUsed n)
    let l := s.laneAt n
    (s, if l.ratioBad then 0 else fadeSample l.event (s.lsb (1000 + n) 0) y)
  | _ => (s, 0)

/-- Outputs an OUTBOUND converter delivers in one frame: while more than M samples are ahead. -/
def State.laneDrain (s : State) (n used m : Nat) : Nat → State × List Int
  | 0 => (s, [])
  | k + 1 =>
    if (s.laneAt n).ahead > ((m * s.laneUnit (s.laneAt n)) : Int) then
      let (s, y) := s.laneRead n used
      let (s, ys) := s.laneDrain n used m k
      (s, y :: ys)
    else (s, [])

/-! ## Processing stages -/

/-- Trim and polarity (R177). -/
def State.laneTrim (s : State) (n : Nat) (x : Int) : State × Int :=
  let l := s.laneAt n
  let y := mulGain (if l.inv then -x else x) (l.trim.lin (s.lsb (1000 + n) 1))
  (s.laneOver n (over32 y), sat32 y)

/-- DC block (R178). -/
def State.laneDcb (s : State) (n : Nat) (x : Int) : State × Int :=
  let l := s.laneAt n
  let fc := dcCorner (bits l.eff.dcb 0 2)
  let y := if fc = 0 then x else dcStep (dcPole fc (feHz s.fe)) x l.dcX l.dcY
  ((s.laneOver n (over32 y)).modLane n (fun l => { l with dcX := x, dcY := sat32 y }), sat32 y)

/-- Fundamental of a notch setting in 0.001 Hz (R179). -/
def State.notchFreq (s : State) (src : Nat) : Nat :=
  match src with
  | 1 => 50000
  | 2 => 60000
  | _ =>
    let m := s.mains
    if m.len ≤ m.pos then m.goal else ((m.start : Int) + (((m.goal : Int) - m.start) * m.pos).fdiv m.len).toNat

/-- The notches of one setting in turn (R179): state, output, saturation. -/
def notchRun (fe f width : Nat) : Nat → Vector Biq 4 → Int → Vector Biq 4 × Int × Bool
  | 0, v, x => (v, x, false)
  | h + 1, v, x =>
    let (v, x, o) := notchRun fe f width h v x
    let (b0, b1, b2, a1, a2) := Config.notch ((h + 1) * f) width fe
    let (q, y, o') := (vget v h Biq.zero).step b0 b1 b2 a1 a2 x
    (vmod v h (fun _ => q), y, o || o')

/-- Hum notch with its crossfade of settings (R179). -/
def State.laneNotch (s : State) (n : Nat) (x : Int) : State × Int :=
  let l := s.laneAt n
  let run (c : Notch) := notchRun s.fe (s.notchFreq c.src) c.width c.harm c.regs x
  let b := l.notch.step
  let y := b.mix (fun c => (run c).2.1)
  let o := b.sides.any (fun c => (run c).2.2)
  let c := b.new
  let nominal := decide (0 < c.harm) && decide (c.src = 0) && !s.mains.ever
  let s := (s.set (F.LANE_HUM_STATUS_FREQ n) (if c.harm = 0 then 0 else s.notchFreq c.src)).setB
    (F.LANE_HUM_STATUS_NOMINAL n) nominal
  ((s.laneOver n o).modLane n (fun l => { l with notch := b.map (fun c => { c with regs := (run c).1 }) }), y)

/-- The enabled stages of a chain in index order (R181): state, output, saturation. -/
def chainRun (c : Chain) : Nat → Int → Vector Biq 10 × Int × Bool
  | 0, x => (c.regs, x, false)
  | k + 1, x =>
    let (v, x, o) := chainRun c k x
    if bits (lookup c.words 50 0) k 1 = 1 then
      let w (i : Nat) := (lookup c.words (5 * k + i) (0 : Word)).toInt
      let (q, y, o') := (vget v k Biq.zero).step (w 0) (w 1) (w 2) (w 3) (w 4) x
      (vmod v k (fun _ => q), y, o || o')
    else (v, x, o)

/-- Biquads with the crossfade of a commit (R181, R182). -/
def State.laneChain (s : State) (n : Nat) (x : Int) : State × Int :=
  let l := s.laneAt n
  let b : Blend Chain := if l.chain.pos + 1 < l.chain.len then { l.chain with pos := l.chain.pos + 1 } else { l.chain with pos := l.chain.len }
  let y := if b.len = 0 then (chainRun b.new 10 x).2.1 else b.mix (fun c => (chainRun c 10 x).2.1)
  let o := b.sides.any (fun c => (chainRun c 10 x).2.2)
  ((s.laneOver n o).modLane n (fun l => { l with chain := b.map (fun c => { c with regs := (chainRun c 10 x).1 }) }), y)

/-! ## Dynamics (R184, R185); levels and gains in 1/65,536 dB -/

/-- One dB. -/
def dB : Int := 65536

/-- The detector's floor (R184). -/
def lvlFloor : Int := -150 * dB

/-- Level of an amplitude against full scale. -/
def ampDb (x : Nat) : Int := if x = 0 then lvlFloor else max lvlFloor (levelDb 20 65536 x (2 ^ 31))

/-- RMS level of samples, a full-scale sine at 0 dBFS (R184, R187). -/
def rmsDb (sum n : Nat) : Int := if sum = 0 ∨ n = 0 then lvlFloor else max lvlFloor (levelDb 10 65536 (2 * sum) (n * 2 ^ 62))

/-- The part 1 − 1/ρ of a RATIO code, as a fraction (R185). -/
def ratioSlope : Nat → Int × Int
  | 0 => (1, 3) | 1 => (1, 2) | 2 => (2, 3) | 3 => (3, 4) | 4 => (5, 6) | 5 => (7, 8) | 6 => (9, 10) | _ => (19, 20)

/-- The compressor's gain at a level (R184). -/
def compGain (thr knee ratio : Nat) (lvl : Int) : Int :=
  let t : Int := -(thr : Int) * (dB / 2)
  let w : Int := 6 * (knee : Int) * dB
  let (a, b) := ratioSlope ratio
  let d := lvl - t
  if 2 * d ≤ -w then 0
  else if 0 < w ∧ 2 * d ≤ w then -((a * (2 * d + w) * (2 * d + w)).fdiv (b * 8 * w))
  else -((a * d).fdiv b)

/-- One step of a one-pole smoother with time constant `us` µs. -/
def smoothTo (g goal : Int) (us hz : Nat) : Int :=
  let k : Int := q60 - expQ (-(q60 * 1000000 : Int) / ((us * hz : Nat) : Int))
  g + ((goal - g) * k).fdiv q60

/-- Is any part of the dynamics stage on? -/
def Lane.dynOn (l : Lane) : Bool := decide (bits l.eff.dyn 0 3 ≠ 0)

/-- The level a lane's detector reads (R184): the sample, or the 10 ms moving RMS. -/
def State.laneLevel (s : State) (n : Nat) (x : Int) : State × Int :=
  let l := s.laneAt n
  let len := s.frames 10000
  let win := (x :: l.dyn.win).take len
  let s := s.modLane n (fun l => { l with dyn := { l.dyn with win := win } })
  if bits l.eff.dyn 3 1 = 0 then (s, ampDb x.natAbs + s.lsb (1000 + n) 2)
  else (s, rmsDb (win.foldl (fun t y => t + y.natAbs * y.natAbs) 0) len + s.lsb (1000 + n) 2)

/-- The gate one frame on (R184). -/
def State.laneGate (s : State) (n : Nat) (d : Dyn) (lvl : Int) : Dyn :=
  let thr : Int := -(30 * dB + (s.get (F.LANE_DYN_GATE_THR n) : Int) * (dB / 2))
  let range := s.get (F.LANE_DYN_GATE_RANGE n)
  let floor : Int := if range = 0 then -120 * dB else -6 * (range : Int) * dB
  let hold := s.frames (10000 * s.get (F.LANE_DYN_GATE_HOLD n))
  let below := if lvl < thr - 3 * dB then d.below + 1 else 0
  let open_ := if lvl > thr then true
    else if decide (lvl < thr - 3 * dB) && (decide (s.get (F.LANE_DYN_GATE_HOLD n) = 0) || decide (hold ≤ below)) then false
    else d.gateOpen
  let up := (-floor).fdiv (s.frames 1000) + 1
  let down := (-floor).fdiv (s.frames (10000 * (s.get (F.LANE_DYN_GATE_REL n) + 1))) + 1
  { d with gateOpen := open_, below := below, gate := if open_ then min 0 (d.gate + up) else max floor (d.gate - down) }

/-- The detector, gate, compressor and smoother of a lane (R184). -/
def State.laneDetect (s : State) (n : Nat) (x : Int) : State :=
  let l := s.laneAt n
  if !l.dynOn then s
  else
    let (s, lvl) := s.laneLevel n x
    let d := if bits l.eff.dyn 0 1 = 1 then s.laneGate n (s.laneAt n).dyn lvl else { (s.laneAt n).dyn with gate := 0, gateOpen := true }
    let c := if bits l.eff.dyn 1 1 = 1 then
        compGain (s.get (F.LANE_DYN_COMP_THR n)) (s.get (F.LANE_DYN_COMP_KNEE n)) (s.get (F.LANE_DYN_COMP_RATIO n)) lvl
          + (s.get (F.LANE_DYN_COMP_MAKEUP n) : Int) * (dB / 2)
      else 0
    let goal := d.gate + c
    let us := if goal < d.gain then 500 * (s.get (F.LANE_DYN_TIME_ATT n) + 1) else 10000 * (s.get (F.LANE_DYN_TIME_REL n) + 1)
    let g := smoothTo d.gain goal us (feHz s.fe) + s.lsb (1000 + n) 3
    s.modLane n (fun l => { l with dyn := { d with gain := g } })

/-- Is lane n's link in effect (R184)? -/
def State.laneLinked (s : State) (n : Nat) : Bool :=
  let l := s.laneAt n
  let p := bits l.eff.dyn 8 6
  decide (bits l.eff.dyn 4 1 = 1) && decide (p ≠ n) && decide (s.get (F.LANE_STATUS_STATE p) = 3)

/-- A sample under a gain in 1/65,536 dB. -/
def dbSample (x g : Int) : Int := divRne (x * dbLin g 65536) q60

/-- The gains of the dynamics stage applied, the linked gain the lower (R184); `own` and the partner's are of this frame. -/
def State.laneDynamics (s : State) (n : Nat) (x : Int) : State × Int :=
  let l := s.laneAt n
  if !l.dynOn then
    ((s.set (Fld.mk (A.LANE_DYN_STATUS n) 0 12) 0), x)
  else
    let linked := s.laneLinked n
    let p := bits l.eff.dyn 8 6
    let g := if linked then min l.dyn.gain (s.laneAt p).dyn.gain else l.dyn.gain
    let closed := decide (s.get (F.LANE_DYN_GATE_RANGE n) = 0) && decide (l.dyn.gate ≤ -120 * dB)
    let y := if closed then 0 else dbSample x g
    let s := s.laneOver n (over32 y)
    let y := sat32 y
    let limOn := decide (bits l.eff.dyn 2 1 = 1)
    let thr : Int := -(s.get (F.LANE_DYN_LIM_LIM_THR n) : Int) * (dB / 2)
    let rel := smoothTo l.dyn.lim 0 (10000 * (s.get (F.LANE_DYN_LIM_LIM_REL n) + 1)) (feHz s.fe)
    let lim := if !limOn then 0 else min 0 (min rel (thr - ampDb y.natAbs))
    let top : Int := (dbLin thr 65536 * 2 ^ 31).fdiv q60
    let z := if !limOn then y else max (-top) (min top (dbSample y lim))
    let makeup : Int := if bits l.eff.dyn 1 1 = 1 then (s.get (F.LANE_DYN_COMP_MAKEUP n) : Int) * (dB / 2) else 0
    let gr := min 255 ((makeup - g - lim).toNat * 4 / 65536)
    let s := s.modLane n (fun l => { l with dyn := { l.dyn with lim := lim } })
    let s := ((s.set (F.LANE_DYN_STATUS_GR n) gr).setB (F.LANE_DYN_STATUS_GATE_OPEN n)
      (decide (bits l.eff.dyn 0 1 = 1) && l.dyn.gateOpen)).setB (F.LANE_DYN_STATUS_LIM_ACT n) (decide (lim < 0))
    ((s.setB (F.LANE_DYN_STATUS_COMP_ACT n) (decide (bits l.eff.dyn 1 1 = 1) && decide (g < makeup + l.dyn.gate))).setB
      (F.LANE_DYN_STATUS_LINKED n) linked, z)

/-! ## Delay and meters -/

/-- The delay line with its tap crossfade (R186). -/
def State.laneDelay (s : State) (n : Nat) (x : Int) : State × Int :=
  let l := s.laneAt n
  let b : Blend Nat := if l.tap.pos + 1 < l.tap.len then { l.tap with pos := l.tap.pos + 1 } else { l.tap with pos := l.tap.len }
  let most := b.sides.foldl max 0
  let line := (x :: l.line).take (most + 1)
  let s := s.badDelay n b.sides most
  let y := if b.len = 0 then line.getD b.new 0 else b.mix (fun d => line.getD d 0)
  (s.modLane n (fun l => { l with line := line, tap := b }), y)

/-- A meter takes a sample (R187). -/
def Meter.add (m : Meter) (x : Int) : Meter := ⟨max m.peak x.natAbs, m.sum + x.natAbs * x.natAbs, m.n + 1⟩

/-- A meter's PEAK in 0.01 dB (R187). -/
def Meter.peakDb (m : Meter) : Int := if m.peak = 0 then -15000 else max (-15000) (levelDb 20 100 m.peak (2 ^ 31))

/-- A meter's RMS in 0.01 dB (R187). -/
def Meter.rmsDb (m : Meter) : Int :=
  if m.sum = 0 then -15000 else max (-15000) (levelDb 10 100 (2 * m.sum) (m.n * 2 ^ 62))

/-- A window ends (R187): both meters report, and the written window length takes effect. -/
def State.laneMeterEnd (s : State) (n : Nat) : State :=
  let l := s.laneAt n
  let up (bit : Nat) (x : Int) : Int := if x = -15000 then x else x + s.lsb (1000 + n) bit
  let pin := up 4 l.meterIn.peakDb
  let pout := up 5 l.meterOut.peakDb
  let s := (s.setS (F.LANE_METER_IN_PEAK n) pin).setS (F.LANE_METER_IN_RMS n) (up 6 l.meterIn.rmsDb)
  let s := (s.setS (F.LANE_METER_OUT_PEAK n) pout).setS (F.LANE_METER_OUT_RMS n) (up 7 l.meterOut.rmsDb)
  let s := s.when (decide (signed 16 (s.get (F.LANE_METER_HOLD_PEAK_IN n)) < pin)) (·.setS (F.LANE_METER_HOLD_PEAK_IN n) pin)
  let s := s.when (decide (signed 16 (s.get (F.LANE_METER_HOLD_PEAK_OUT n)) < pout)) (·.setS (F.LANE_METER_HOLD_PEAK_OUT n) pout)
  let s := s.modLane n (fun l => { l with meterIn := ⟨0, 0, 0⟩, meterOut := ⟨0, 0, 0⟩, win := s.get (F.LANE_METER_CTRL_WIN n) })
  { s with free := s.free + 1 }

/-! ## One frame -/

/-- Stages 3 to 7 of an INBOUND lane, 2 to 6 of an OUTBOUND one (R164), and the detector. -/
def State.laneShape (s : State) (n : Nat) (x : Int) : State :=
  let s := s.modLane n (fun l => { l with meterIn := l.meterIn.add x })
  let (s, x) := s.laneTrim n x
  let (s, x) := s.laneDcb n x
  let (s, x) := s.laneNotch n x
  let (s, x) := s.laneChain n x
  (s.laneDetect n x).modLane n (fun l => { l with mid := x })

/-- Dynamics, delay, mute and fault gains, output meter (R164). -/
def State.laneFinish (s : State) (n : Nat) : State × Int :=
  let (s, x) := s.laneDynamics n (s.laneAt n).mid
  let (s, x) := s.laneDelay n x
  let l := s.laneAt n
  let x := fadeSample l.mute (s.lsb (1000 + n) 8) x
  let x := fadeSample l.fault (s.lsb (1000 + n) 9) x
  (s.modLane n (fun l => { l with meterOut := l.meterOut.add x }), x)

/-- Does the lane deliver audio in this frame? -/
def LanePhase.sounds : LanePhase → Bool
  | .filling | .rampUp | .running | .srcRamp | .stopping | .quiescing => true
  | _ => false

/-- Step 2 of R17 for one lane, up to the detector: `xs` the input samples of the frame. -/
def State.laneInPre (s : State) (n : Nat) (xs : List Int) : State :=
  if !(s.laneAt n).phase.live then s
  else
    let s := s.laneControl n (decide (xs ≠ []))
    if (s.laneAt n).dir then s
    else
      let (s, x) := s.laneFetch n xs
      if (s.laneAt n).phase.sounds then s.laneShape n x else s

/-- Step 2 of R17 for one lane, its end: the Churn input (zero for an OUTBOUND lane, R16). -/
def State.laneInPost (s : State) (n : Nat) : State :=
  let l := s.laneAt n
  if l.dir then s.modLane n (fun l => { l with out := 0 })
  else if l.phase.sounds then
    let (s, x) := s.laneFinish n
    s.modLane n (fun l => { l with out := x })
  else s.modLane n (fun l => { l with out := 0 })

/-- Step 4 of R17: an OUTBOUND lane takes this frame's bus value and delivers its converted samples. -/
def State.laneOutPre (s : State) (n : Nat) : State :=
  let l := s.laneAt n
  if l.dir && l.phase.sounds then
    s.laneShape n (if isBus l.sid && decide (l.kind ≠ .zero) then vget s.bus (l.sid - 0xCC) 0 else 0)
  else s

/-- The end of step 4: finish the stages, convert, apply the event gain (R164, R175). -/
def State.laneOutPost (s : State) (n : Nat) : State :=
  let l := s.laneAt n
  if !l.dir then s
  else if !l.phase.sounds then s.modLane n (fun l => { l with outs := [] })
  else
    let (s, x) := s.laneFinish n
    let m := s.get (F.LANE_STATUS_RC_MARGIN_NOW n)
    let (s, ys) : State × List Int := match l.kind with
      | .zero => (s, [0])
      | .bypass => (s, [x])
      | _ =>
        let s := s.lanePush n [x]
        if l.phase = LanePhase.filling then (s, []) else (s.laneFillSlip n).laneDrain n (s.laneUsed n) m 40
    let l := s.laneAt n
    s.modLane n (fun l' => { l' with
      outs := if l.ratioBad then ys.map (fun _ => 0) else ys.map (fadeSample l.event (s.lsb (1000 + n) 10)) })

/-- Engine frames have stopped: a converter of an OUTBOUND lane whose output domain goes on reads its last outputs back and forth
while its event gain falls (R175). `k` samples of its domain pass. -/
def State.laneStarve (s : State) (n : Nat) : Nat → State × List Int
  | 0 => (s, [])
  | k + 1 =>
    let l := s.laneAt n
    let y := fadeSample l.event (s.lsb (1000 + n) 10) (pingpongAt l.tail l.pingpong)
    let (s, ys) := (s.modLane n (fun l => { l with pingpong := l.pingpong + 1 })).laneStarve n k
    (s, y :: ys)

/-- One time of 1/Fe without an engine frame, as an OUTBOUND lane's converter sees it (R175). -/
def State.laneOutStopped (s : State) (n : Nat) : State :=
  let l := s.laneAt n
  let conv := match l.kind with | .fixed | .tracked => true | _ => false
  if l.dir && conv && l.phase.sounds && decide (l.phase ≠ .filling) && decide (s.laneRc n = 2) then
    let s := s.when ((decide (l.ev = .none) || decide (l.ev = .up)) && !l.event.zero) (fun s =>
      ((s.set (F.LANE_FLAGS_STOPPED n) 1).irq (pgLANE n) 3).modLane n (fun l => { l with event := l.event.turn false, ev := .down }))
    let s := s.modLane n (fun l => { l with
      event := l.event.step (s.frames 1000), ahead := l.ahead + (divRne l.convRate (2 ^ 32)) })
    let u := 100 * feHz s.fe
    let (s, ys) := s.laneStarve n ((s.laneAt n).ahead / (u : Int)).toNat
    s.modLane n (fun l => { l with ahead := l.ahead % (u : Int), outs := ys })
  else s.modLane n (fun l => { l with outs := [] })

/-- LANE_METER_WINDOW_END (R187). -/
def execLaneMeterWindowEnd (n : Fin 48) (s : State) : Host.Outcome State Fault Refusal :=
  .next (settle (s.event .engine (s.laneAt n).phase.live (·.laneMeterEnd n)))

end Sys2Proof.Machine
end

