-- ==== Sys2Proof/Machine/Jack.lean ====
section
/-! DEFINITION. The two headset jacks (R126 to R134): detection, identification, impedance measurement, bias and buttons. -/

namespace Sys2Proof.Machine

/-- One jack's record. -/
def State.jackAt (s : State) (n : Nat) : Jack := vget s.jack n Jack.init

/-- Update one jack's record. -/
def State.modJack (s : State) (n : Nat) (f : Jack → Jack) : State := { s with jack := vmod s.jack n f }

/-- Is HPn_DET at the inserted level (R126)? -/
def State.detInserted (s : State) (n : Nat) : Bool :=
  match s.get (F.JCK_CTRL_DET_MODE n) with
  | 0 => false
  | 1 => !(s.jackAt n).detHigh
  | 2 => (s.jackAt n).detHigh
  | _ => true

/-- Is the jack's bias wanted (R132)? -/
def State.jackBiasWanted (s : State) (n : Nat) : Bool :=
  let t := s.get (F.JCK_STATUS_TYPE n)
  decide (s.get (F.JCK_STATUS_STATE n) = 4) &&
    (s.on (F.JCK_BIAS_EN_FORCE n) || (s.on (F.JCK_BIAS_AUTO n) && (decide (t = 2) || decide (t = 3))))

/-- Does the jack block hold the jack's microphone muted (R131)? A microphone that only EN_FORCE declares waits for BIAS_READY. -/
def State.jackMicHeld (s : State) (n : Nat) : Bool :=
  let t := s.get (F.JCK_STATUS_TYPE n)
  decide (s.get (F.JCK_STATUS_STATE n) ≠ 4) || s.on (F.JCK_STATUS_BTN n) ||
    (!(decide (t = 2) || decide (t = 3)) && !(s.on (F.JCK_BIAS_EN_FORCE n) && s.on (F.JCK_STATUS_BIAS_READY n)))

/-- Write a jack's derived status: INSERTED, MIC_MUTED, and its channels' auto-mute, ramping over `us`. -/
def State.jackSync (s : State) (n us : Nat) : State :=
  let s := (s.setB (F.JCK_STATUS_INSERTED n) (s.detInserted n)).setB (F.JCK_STATUS_MIC_MUTED n) (s.jackMicHeld n)
  (s.aoutSync (2 * n) us).aoutSync (2 * n + 1) us

/-- Move the jack's bias. -/
def State.jackBiasTo (s : State) (n : Nat) (p : BiasPhase) : State :=
  (s.modJack n (fun j => { j with bias := p })).setB (F.JCK_STATUS_BIAS_READY n) (decide (p = BiasPhase.on))

/-- Bring the bias to what the state asks for (R132). -/
def State.jackBiasDrive (s : State) (n : Nat) : State :=
  if s.jackBiasWanted n then
    match (s.jackAt n).bias with
    | .off | .rampDown | .latched => s.jackBiasTo n .rampUp
    | _ => s
  else
    match (s.jackAt n).bias with
    | .off => s
    | _ => s.jackBiasTo n .rampDown

/-- INSERTED (R127): INSERT, bias per TYPE, auto-mute released over 5 ms unless a short was found. -/
def State.jackInsert (s : State) (n : Nat) : State :=
  (((s.set (F.JCK_STATUS_STATE n) 4).irq 0x0D (2 + 3 * n)).jackBiasDrive n).jackSync n 5000

/-- An impedance measurement begins (R134 step 1): the channels ramp to zero over 1 ms, the pump supplies stages that were off. -/
def State.jackProbe (s : State) (n : Nat) : State := (s.pumpUp.set (F.JCK_IMP_CTRL_BUSY n) 1).jackSync n 1000

/-- MEASURE (R127, R134): an impedance measurement when IMP_AUTO = 1, else INSERTED at once. -/
def State.jackMeasure (s : State) (n : Nat) : State :=
  let s := s.set (F.JCK_STATUS_STATE n) 3
  if s.on (F.JCK_CTRL_IMP_AUTO n) then s.jackProbe n else s.jackInsert n

/-- The jack goes to EMPTY: bias off, button decoding and measurements stopped, channels ramped over 0.5 ms (R129). -/
def State.jackEmpty (s : State) (n : Nat) : State :=
  let s := ((s.set (F.JCK_STATUS_STATE n) 0).set (F.JCK_STATUS_TYPE n) 0).set (F.JCK_STATUS_BTN n) 0
  let s := (s.set (F.JCK_STATUS_SHORT_FOUND n) 0).set (F.JCK_IMP_CTRL_BUSY n) 0
  ((s.jackBiasTo n .off).jackSync n 500).pumpIdle

/-- Removal (R129). -/
def State.jackRemove (s : State) (n : Nat) : State :=
  ((s.jackEmpty n).inc (F.JCK_COUNT_REMOVALS n)).irq 0x0D (3 + 3 * n)

/-- DEBOUNCE begins (R127): nothing of an earlier insertion goes on, its results are dropped. -/
def State.jackDebounce (s : State) (n : Nat) : State :=
  let s := ((s.set (F.JCK_STATUS_STATE n) 1).set (F.JCK_STATUS_TYPE n) 0).set (F.JCK_STATUS_BTN n) 0
  let s := (((s.set (F.JCK_IMP_CTRL_BUSY n) 0).set (F.JCK_IMP_L_VALID n) 0).set (F.JCK_IMP_R_VALID n) 0).jackBiasTo n .off
  s.jackSync n 5000

/-- An insertion from EMPTY (R127): DEBOUNCE, INSERTIONS counted. -/
def State.jackInsertion (s : State) (n : Nat) : State := (s.inc (F.JCK_COUNT_INSERTIONS n)).jackDebounce n

/-- The swap switch takes the position of SWAP_FORCE (R127). -/
def State.jackSwapForce (s : State) (n : Nat) : State := s.set (F.JCK_STATUS_SWAP n) (s.get (F.JCK_CTRL_SWAP_FORCE n))

/-- Forced detection (R126, R127): INSERTED with TYPE 4, the swap switch at SWAP_FORCE, from whatever state; INSERT is raised
where the state was another. -/
def State.jackForce (s : State) (n : Nat) : State :=
  let s := ((s.set (F.JCK_STATUS_TYPE n) 4).set (F.JCK_IMP_CTRL_BUSY n) 0).jackSwapForce n
  if s.get (F.JCK_STATUS_STATE n) = 4 then (s.jackBiasDrive n).jackSync n 5000
  else (s.unfault 0x0D 3).jackInsert n

/-- Evaluate the present level against the state (R127, R130). -/
def State.jackEvaluate (s : State) (n : Nat) : State :=
  if !s.on (F.PG_ENABLE 0x0D) then s.jackSync n 5000
  else
    let ins := s.detInserted n
    match s.get (F.JCK_STATUS_STATE n) with
    | 0 => if !ins then s.jackSync n 5000
      else if s.get (F.JCK_CTRL_DET_MODE n) = 3 then s.jackForce n else s.jackInsertion n
    | 1 => s.jackSync n 5000
    | _ => if ins then s.jackSync n 5000 else s.jackRemove n

/-- A jack edge (R126): the level changes; while PD_AOUT is off, or its clock stopped, it is latched (R130). -/
def State.jackEdge (s : State) (n : Nat) (high : Bool) : State :=
  let s := s.modJack n (fun j => { j with detHigh := high })
  if s.clocked .aout then s.jackEvaluate n
  else if s.domState < 5 ∧ s.on (F.PG_ENABLE 0x0D) then
    let ins := s.detInserted n
    if ins && decide (s.get (F.JCK_STATUS_STATE n) = 0) then
      { (s.inc (F.JCK_COUNT_INSERTIONS n)) with jack := vmod s.jack n (fun j => { j with latched := true }) }
    else if !ins && (s.jackAt n).latched then
      { (s.inc (F.JCK_COUNT_REMOVALS n)) with jack := vmod s.jack n (fun j => { j with latched := false }) }
    else s
  else s

/-- PD_AOUT is behind its clamps (R368): the jack's bias and any measurement stop. -/
def State.jackIsolate (s : State) (n : Nat) : State :=
  ((s.set (F.JCK_IMP_CTRL_BUSY n) 0).jackBiasTo n .off).jackSync n 5000

/-- PD_AOUT goes on (R130) after its clock stopped, or after it was `off`: the present level is evaluated. After an off state an
inserted level starts from DEBOUNCE, a not-inserted one is a removal. An insertion already counted is not counted again. FAULT outlasts a
gated clock (R127). -/
def State.jackReturn (s : State) (n : Nat) (off : Bool) : State :=
  let latched := (s.jackAt n).latched
  let s := s.modJack n (fun j => { j with latched := false })
  if !s.on (F.PG_ENABLE 0x0D) then s.jackSync n 5000
  else if s.get (F.JCK_CTRL_DET_MODE n) = 3 then
    if !off && decide (s.get (F.JCK_STATUS_STATE n) = 5) then s.jackSync n 5000 else s.jackForce n
  else
    let st := s.get (F.JCK_STATUS_STATE n)
    if s.detInserted n then
      if latched ∨ (off ∧ st ≠ 0) then s.jackDebounce n else s.jackEvaluate n
    else if off ∧ st ≠ 0 then s.jackRemove n else s.jackEvaluate n

/-- Step 1 of identification (R128): position A, or the forced one, and the bias rises. -/
def State.jackIdBegin (s : State) (n : Nat) : State :=
  ((s.set (F.JCK_STATUS_STATE n) 2).set (F.JCK_STATUS_SWAP n)
    (if s.on (F.JCK_CTRL_SWAP_FORCE_EN n) then s.get (F.JCK_CTRL_SWAP_FORCE n) else 0)).jackBiasTo n .rampUp

/-- The clamps of S4 are released by an abort (R367): the level is evaluated, and what the isolation stopped begins anew:
identification, a measurement, the bias (R132, R134). -/
def State.jackRestore (s : State) (n : Nat) : State :=
  let s := s.jackReturn n false
  match s.get (F.JCK_STATUS_STATE n) with
  | 2 => s.jackIdBegin n
  | 3 => s.jackMeasure n
  | 4 => s.jackBiasDrive n
  | _ => s

/-- The debounce time ends (R127). -/
def State.jackDebounced (s : State) (n : Nat) : State :=
  s.event .aout (decide (s.get (F.JCK_STATUS_STATE n) = 1)) (fun s =>
    if !s.detInserted n then (s.jackEmpty n).inc (F.JCK_COUNT_REMOVALS n)
    else if s.on (F.JCK_CTRL_AUTO_ID n) && !s.bridged (2 * n) then s.jackIdBegin n
    else
      ((s.set (F.JCK_STATUS_TYPE n) 1).jackSwapForce n).jackMeasure n)

/-- A mic-contact measurement of identification (R128), made with the bias up: `ratio` is contact to bias in 1/65,536. After a
first measurement that finds none, the bias ramps down for position B. -/
def State.jackIdentify (s : State) (n ratio : Nat) : State :=
  s.event .aout (decide (s.get (F.JCK_STATUS_STATE n) = 2) && decide ((s.jackAt n).bias ≠ .rampDown)) (fun s =>
    let s := s.jackBiasTo n .on
    let mic := decide (3 * 65536 ≤ 10 * ratio) && decide (10 * ratio ≤ 9 * 65536)
    if mic then (s.set (F.JCK_STATUS_TYPE n) (2 + s.get (F.JCK_STATUS_SWAP n))).jackMeasure n
    else if !s.on (F.JCK_STATUS_SWAP n) && !s.on (F.JCK_CTRL_SWAP_FORCE_EN n) then s.jackBiasTo n .rampDown
    else ((s.set (F.JCK_STATUS_TYPE n) 1).jackBiasTo n .rampDown).jackMeasure n)

/-- Class of a measured load in 0.5 Ω (R134). -/
def impClass (z : Nat) : Nat := if z < 8 then 0 else if z < 1200 then 1 else if z < 64000 then 2 else 3

/-- Z as reported (R134): 0xFFFF for OPEN. -/
def impZ (z : Nat) : Nat := if z < 64000 then z else 0xFFFF

/-- An impedance measurement ends (R134): `zl` and `zr` are the loads at tip and ring 1 in 0.5 Ω. -/
def State.jackImpedance (s : State) (n zl zr : Nat) : State :=
  s.event .aout (s.on (F.JCK_IMP_CTRL_BUSY n)) (fun s =>
    let s := ((s.set (F.JCK_IMP_L_Z n) (impZ zl)).set (F.JCK_IMP_L_CLASS n) (impClass zl)).set (F.JCK_IMP_L_VALID n) 1
    let s := ((s.set (F.JCK_IMP_R_Z n) (impZ zr)).set (F.JCK_IMP_R_CLASS n) (impClass zr)).set (F.JCK_IMP_R_VALID n) 1
    let s := (s.setB (F.JCK_STATUS_SHORT_FOUND n) (decide (impClass zl = 0) || decide (impClass zr = 0))).irq 0x0D 8
    let s := s.set (F.JCK_IMP_CTRL_BUSY n) 0
    (if s.get (F.JCK_STATUS_STATE n) = 3 then s.jackInsert n else s.jackSync n 5000).pumpIdle)

/-- JCKn_IMP_CTRL.MEASURE in INSERTED (R134); elsewhere it is ignored. -/
def State.jackMeasureNow (s : State) (n : Nat) : State :=
  s.when (decide (s.get (F.JCK_STATUS_STATE n) = 4)) (·.jackProbe n)

/-- The button of a contact ratio in 1/65,536 of the bias: the first of A to D whose threshold exceeds 256·r (R133). -/
def State.jackButtonOf (s : State) (n ratio : Nat) : Nat :=
  if ratio < 256 * s.get (F.JCK_BTN_THR_THR_A n) then 1
  else if ratio < 256 * s.get (F.JCK_BTN_THR_THR_B n) then 2
  else if ratio < 256 * s.get (F.JCK_BTN_THR_THR_C n) then 3
  else if ratio < 256 * s.get (F.JCK_BTN_THR_THR_D n) then 4
  else 0

/-- A new button value has held for 20 ms (R133): BTN and BUTTON, and the microphone's hold (R131). BTN keeps its value while
nothing is decoded (log 140). -/
def State.jackButton (s : State) (n ratio : Nat) : State :=
  let b := s.jackButtonOf n ratio
  s.event .aout (s.on (F.JCK_STATUS_BIAS_READY n) && s.on (F.JCK_CTRL_BTN_EN n) && decide (b ≠ s.get (F.JCK_STATUS_BTN n)))
    (fun s => ((s.set (F.JCK_STATUS_BTN n) b).irq 0x0D (4 + 3 * n)).jackSync n 1000)

/-- A bias ramp of the jack ends (R132); in identification the bias then rises for position B (R128 step 3). -/
def State.jackBiasReady (s : State) (n : Nat) : State :=
  s.event .aout true (fun s => match (s.jackAt n).bias with
    | .rampUp | .rampLevel => (s.jackBiasTo n .on).jackSync n 1000
    | .rampDown =>
      if s.get (F.JCK_STATUS_STATE n) = 2 then (s.set (F.JCK_STATUS_SWAP n) 1).jackBiasTo n .rampUp else s.jackBiasTo n .off
    | _ => s)

/-- The jack's bias is above 3.0 mA for 10 ms (R123): bias off, FAULT. Auto-mute ramps the headphones over 1 ms on the way into FAULT
and out of it by EN_FORCE; no rule gives that time (DESIGN CHOICE, log 139). -/
def State.jackBiasOc (s : State) (n : Nat) : State :=
  s.event .aout (decide ((s.jackAt n).bias ≠ .off) && decide ((s.jackAt n).bias ≠ .rampDown)) (fun s =>
    (((s.set (F.JCK_STATUS_STATE n) 5).set (F.JCK_STATUS_BTN n) 0).jackBiasTo n .off |>.fault 0x0D 3).jackSync n 1000)

/-- Effects of a write to JCKn_BIAS (R127, R132); EN_FORCE written 0 then 1 leaves FAULT. -/
def State.jackBiasWritten (s : State) (n : Nat) (old : Word) : State :=
  let rise := decide (bits old 3 1 = 0) && s.on (F.JCK_BIAS_EN_FORCE n)
  let s := if rise && decide (s.get (F.JCK_STATUS_STATE n) = 5) then (s.set (F.JCK_STATUS_STATE n) 4).unfault 0x0D 3 else s
  let s := if bits old 0 2 ≠ s.get (F.JCK_BIAS_LEVEL n) ∧ (s.jackAt n).bias = .on then s.jackBiasTo n .rampLevel else s
  (s.jackBiasDrive n).jackSync n 1000

/-- Does the swap switch follow SWAP_FORCE: past DEBOUNCE without identification (R127)? -/
def State.jackSwapForced (s : State) (n : Nat) : Bool :=
  decide (3 ≤ s.get (F.JCK_STATUS_STATE n)) && (decide (s.get (F.JCK_CTRL_DET_MODE n) = 3) ||
    (decide (s.get (F.JCK_STATUS_TYPE n) = 1) && (!s.on (F.JCK_CTRL_AUTO_ID n) || s.bridged (2 * n))))

/-- Effects of a write to JCKn_CTRL; `old` is the word before it: detection, swap switch and auto-mute follow the new settings
(R126, R127). Where DET_MODE goes from 3 to 1 or 2 at the inserted level, INSERTED and TYPE 4 stay, with no identification (DESIGN
CHOICE, log 139). -/
def State.jackCtrlWritten (s : State) (n : Nat) (old : Word) : State :=
  let s := s.when (s.jackSwapForced n) (·.jackSwapForce n)
  let mode := s.get (F.JCK_CTRL_DET_MODE n)
  if mode = 0 ∧ s.get (F.JCK_STATUS_STATE n) ≠ 0 then s.jackEmpty n
  else if mode = 3 ∧ bits old 0 2 ≠ 3 ∧ s.on (F.PG_ENABLE 0x0D) ∧ s.clocked .aout then s.jackForce n
  else s.when (s.clocked .aout) (·.jackEvaluate n)

/-- The JCK page's ENABLE (R138): cleared, each jack is EMPTY with its bias off. -/
def State.jckEnableWritten (s : State) : State :=
  s.forAll 2 (fun s n => if s.on (F.PG_ENABLE 0x0D) then s.jackEvaluate n else s.jackEmpty n)

/-! ## Meanings of the events -/

/-- JACK_DEBOUNCE_EXPIRE (R127). -/
def execJackDebounceExpire (n : Fin 2) (s : State) : Host.Outcome State Fault Refusal := .next (settle (s.jackDebounced n))
/-- JACK_ID_MEASURE (R128). -/
def execJackIdMeasure (n : Fin 2) (ratio : Nat) (s : State) : Host.Outcome State Fault Refusal :=
  .next (settle (s.jackIdentify n ratio))
/-- JACK_IMPEDANCE_DONE (R134). -/
def execJackImpedanceDone (n : Fin 2) (zl zr : Nat) (s : State) : Host.Outcome State Fault Refusal :=
  .next (settle (s.jackImpedance n zl zr))
/-- JACK_BIAS_READY (R132). -/
def execJackBiasReady (n : Fin 2) (s : State) : Host.Outcome State Fault Refusal := .next (settle (s.jackBiasReady n))

end Sys2Proof.Machine
end

