-- ==== Sys2Proof/Machine/Sns.lean ====
section
/-! DEFINITION. The sense converters (chapter 13, R338 to R361): the sequence, the shared reed converter, the drones, the
result register, NTC temperatures, the diagnosis procedures and the slice tests. -/

namespace Sys2Proof.Machine

/-- Update the sense island. -/
def State.modSns (s : State) (f : Sns → Sns) : State := { s with sns := f s.sns }

/-- SNS_SEQ_STATUS.STATE (R360): 0 OFF, 1 WAIT_TRIG, 2 RUNNING, 3 WAIT_CLK, 4 QUIESCED. -/
def State.snsState (s : State) : Nat := s.get F.SNS_SEQ_STATUS_STATE

/-- Do the converters run? -/
def State.snsRuns (s : State) : Bool := decide (s.snsState = 1) || decide (s.snsState = 2)

/-- Channel, gain and conversion fields of an entry, drone or urgent word (R345). -/
def snsCh (w : Word) : Nat := bits w 0 6
/-- GAIN as a factor. -/
def snsGain (w : Word) : Nat := 2 ^ bits w 8 3
/-- TIME (window count on the integrator). -/
def snsTime (w : Word) : Nat := bits w 12 8
/-- CONV = 1: integrator. -/
def snsIsInt (w : Word) : Bool := decide (bits w 20 1 = 1)

/-- Is a stored entry invalid (R345): an integrator entry with TIME above 16, on LOOPBACK or AIN_PROBE; a reed entry on
PVDD_P? -/
def snsInvalid (w : Word) : Bool :=
  if snsIsInt w then decide (16 < snsTime w) || decide (snsCh w = 38) || decide (snsCh w = 39) else decide (snsCh w = 37)

/-- SEQ_ERR (R345, R350, R351). -/
def State.seqErr (s : State) : State := s.set F.SNS_STATUS_SEQ_ERR 1

/-! ## Results (R352 to R354) -/

/-- Does the channel carry pitch-pipe injection (R352, R356, R357)? -/
def State.snsInjected (s : State) (ch : Nat) : Bool :=
  if s.on F.SNS_PP_CTRL_BUSY then
    match s.sns.diag with
    | some (1, i) => s.sns.inject.isSome && decide (ch = 2 + i)
    | some (2, _) => s.sns.inject.isSome && decide (ch = 39)
    | _ => false
  else s.on (F.PG_ENABLE 0x0B) && decide (s.get F.SNS_PP_CTRL_ROUTE = 2) && decide (ch = 2 + s.get F.SNS_PP_CTRL_INJ)

/-- Write SNS_RESULT (R352, R353): over an unread word OVR is set, counted and raised; READY's rising edge is raised. -/
def State.snsResult (s : State) (orng isInt urg diag : Bool) (entry value : Nat) : State :=
  let old := s.on F.SNS_RESULT_READY
  let s := s.when old (fun s => ((s.set F.SNS_STATUS_OVR 1).inc F.SNS_COUNT2_OVERRUNS).irq 0x0B 4)
  let s := (((s.setReg A.SNS_RESULT 0).setB F.SNS_RESULT_OVR old).setB F.SNS_RESULT_ORNG orng).setB F.SNS_RESULT_CONV isInt
  let s := ((s.setB F.SNS_RESULT_URG urg).setB F.SNS_RESULT_DIAG diag).set F.SNS_RESULT_ENTRY entry
  let s := (s.set F.SNS_RESULT_VALUE value).set F.SNS_RESULT_READY 1
  s.when (!old) (·.irq 0x0B 2)

/-- An overrange (R343): sticky, raised when it was clear. -/
def State.snsOrng (s : State) : State := (s.when (!s.on F.SNS_STATUS_ORNG) (·.irq 0x0B 6)).set F.SNS_STATUS_ORNG 1

/-- Temperature in 1/16 °C of a resistance num/den Ω (R354); where the formula has no value of 16 bits, a free one. -/
def ntcTemp (num den r25 b free : Nat) : Nat :=
  let x : Int := (100 * q60 / 29815 : Nat) + (log2Q num (den * r25) * ln2Q).fdiv (2 ^ 40 * (b : Int))
  if x ≤ 0 then Config.ntcTemp free % 65536
  else
    let t := divRne (160 * (q60 : Int) - 43704 * x) (10 * x).toNat
    if t < -32767 ∨ 32767 < t then Config.ntcTemp free % 65536 else unsigned 16 t

/-- An NTC result (R354, R361), as a resistance num/den Ω. -/
def State.ntcResult (s : State) (i : Nat) (orng : Bool) (num : Int) (den : Nat) : State :=
  let f := if i = 0 then F.SNS_NTC_TEMP_TEMP0 else F.SNS_NTC_TEMP_TEMP1
  if orng ∨ num < 100 * (den : Int) ∨ 35000 * (den : Int) < num then
    ((((s.set f 0x8000).set F.SNS_STATUS_NTC_FAULT 1).fault 0x0B 1).irq 0x0B 8).modSns (fun x => { x with ntcBad := 3 })
  else
    let s := s.set f (ntcTemp num.toNat den (s.get (F.SNS_NTC_CFG_R25 i)) (s.get (F.SNS_NTC_CFG_B i)) s.free)
    let bad := if i = 0 then s.sns.ntcBad / 2 * 2 else s.sns.ntcBad % 2
    let s := { s with free := s.free + 1, sns := { s.sns with ntcBad := bad } }
    s.when (decide (bad = 0)) (·.unfault 0x0B 1)

/-! ## The reed converter (R343, R349) -/

/-- Is a drone enabled (R351, R361)? Drone 0 always is; one that names PVDD_P is not. -/
def State.droneOn (s : State) (k : Nat) : Bool :=
  decide (k = 0) || (s.on (F.PG_ENABLE 0x0B) && s.on (F.SNS_DRONE_CFG_EN k)
    && !decide (s.get (F.SNS_DRONE_CFG_CHANNEL k) = 37))

/-- The next enabled drone from `k` on, in round-robin order. -/
def State.nextDrone (s : State) (k : Nat) : Nat :=
  (((List.range 4).map (fun i => (k + i) % 4)).find? s.droneOn).getD 0

/-- Choose the next reed conversion (R349). -/
def State.snsChoose (s : State) : State :=
  if s.on (.mk A.SNS_URGENT 25 1) then s.modSns (fun x => { x with conv := .urgent x.urg })
  else
    match s.sns.entry with
    | some (k, w) =>
      if s.sns.waiting ∧ ¬ s.sns.prevSeq then s.modSns (fun x => { x with conv := .seq k w, waiting := false })
      else
        let d := s.nextDrone s.sns.rr
        let w := s.reg (A.SNS_DRONE_CFG d)
        s.modSns (fun x => { x with conv := .drone d w, rr := (d + 1) % 4 })
    | none =>
      let d := s.nextDrone s.sns.rr
      let w := s.reg (A.SNS_DRONE_CFG d)
      s.modSns (fun x => { x with conv := .drone d w, rr := (d + 1) % 4 })

/-! ## The sequence (R345 to R348) -/

/-- N of a window that starts now (R341). -/
def State.intPeriods (s : State) : Nat :=
  if s.on F.CLK_MAINS_STATUS_VALID then (divRne (s.get F.CLK_MAINS_PERIOD_PERIOD * 64 : Nat) 375).toNat
  else if s.on F.SNS_CFG_NOM_HZ then 68267 else 81920

/-- A window starts (R341): N and its source are latched. -/
def State.intWindow (s : State) : State :=
  let n := s.intPeriods
  ((s.setB F.SNS_INT_STATUS_NOMINAL (!s.on F.CLK_MAINS_STATUS_VALID)).set F.SNS_INT_STATUS_N_LAST n).modSns (fun x => { x with n := n })

/-- An integrator entry starts (R341): the integrator is on, its first window follows. -/
def State.intStart (s : State) : State :=
  ((s.set F.SNS_STATUS_INT_ON 1).modSns (fun x => { x with wins := 0, periods := 0, acc := 0, pSum := 0, pCnt := 0 })).intWindow

/-- Does an integrator entry follow entry `k` in the running run (R344)? -/
def State.intAhead (s : State) (k : Nat) : Bool :=
  (List.range 16).any (fun j => decide (k < j) && decide (j ≤ s.sns.last) && snsIsInt (s.reg (A.SNS_SEQ j)) && !snsInvalid (s.reg (A.SNS_SEQ j)))

/-- Go on with entry `k` (R345, R346): invalid entries are skipped with SEQ_ERR; past LAST the run has ended. -/
def State.snsEnter (s : State) (k : Nat) : Nat → State
  | 0 => s.modSns (fun x => { x with entry := none, waiting := false, ended := true })
  | fuel + 1 =>
    if s.sns.last < k then s.modSns (fun x => { x with entry := none, waiting := false, ended := true })
    else
      let w := s.reg (A.SNS_SEQ k)
      if snsInvalid w then s.seqErr.snsEnter (k + 1) fuel
      else
        let s := (s.set F.SNS_SEQ_STATUS_ENTRY_NOW k).modSns (fun x => { x with entry := some (k, w), waiting := !snsIsInt w })
        s.when (snsIsInt w) State.intStart

/-- A run starts (R346). -/
def State.snsStart (s : State) : State :=
  let last := s.get F.SNS_SEQ_CTRL_LAST
  let s := (s.set F.SNS_SEQ_STATUS_STATE 2).modSns (fun x => { x with last := last, endRun := false, ended := false })
  s.snsEnter 0 17

/-- The integrator powers down under INT_AUTO_PD (R344, R346). -/
def State.intRest (s : State) : State := s.setB F.SNS_STATUS_INT_ON (!s.on F.SNS_CFG_INT_AUTO_PD)

/-- The run is over without completion (RUN = 0, ABORT): the queued trigger is dropped. -/
def State.snsRunOver (s : State) : State :=
  ((s.set F.SNS_SEQ_STATUS_STATE 1).set F.SNS_SEQ_STATUS_PENDING 0).intRest.modSns (fun x =>
    { x with entry := none, waiting := false, endRun := false, ended := false })

/-- The running entry `k` completes (R346): the integrator rests after an entry of its own that no other follows (R344). -/
def State.entryDone (s : State) (k : Nat) : State :=
  let int := match s.sns.entry with | some (_, w) => snsIsInt w | none => false
  let s := s.when (int && !s.intAhead k) State.intRest
  if s.sns.endRun ∧ k < s.sns.last then s.snsRunOver else s.snsEnter (k + 1) 17

/-- The end of a run (R346): counted and raised; a queued run starts. -/
def State.snsRunDone (s : State) : State :=
  let s := (s.inc F.SNS_COUNT_SEQ_DONE).irq 0x0B 3
  let s := s.intRest.modSns (fun x => { x with ended := false })
  if s.on F.SNS_SEQ_STATUS_PENDING ∧ s.on F.SNS_SEQ_CTRL_RUN then (s.set F.SNS_SEQ_STATUS_PENDING 0).snsStart
  else s.snsRunOver

/-- Are triggers heard (R347, R361)? -/
def State.snsHears (s : State) : Bool :=
  s.clocked .sense && s.snsRuns && s.on F.SNS_SEQ_CTRL_RUN && s.on (F.PG_ENABLE 0x0B)

/-- A trigger (R346, R348). -/
def State.snsTrigger (s : State) : State :=
  s.when s.snsHears (fun s =>
    if s.snsState = 1 then s.snsStart
    else if s.on F.SNS_SEQ_CTRL_POLICY then s.inc F.SNS_COUNT_TRIG_LOST
    else if s.on F.SNS_SEQ_STATUS_PENDING then
      ((s.set F.SNS_STATUS_TRIG_OVR 1).irq 0x0B 5).inc F.SNS_COUNT_TRIG_LOST
    else s.set F.SNS_SEQ_STATUS_PENDING 1)

/-- A hardware edge or period (R347): every (TRIG_DIV + 1)-th is a trigger. -/
def State.snsHwTrigger (s : State) : State :=
  let src := s.get F.SNS_SEQ_CTRL_TRIG_SRC
  s.when (s.snsHears && (decide (src = 1) || decide (src = 2))) (fun s =>
    let c := s.get F.SNS_SEQ_STATUS_DIV_COUNT
    if s.get F.SNS_SEQ_CTRL_TRIG_DIV ≤ c then (s.set F.SNS_SEQ_STATUS_DIV_COUNT 0).snsTrigger
    else s.set F.SNS_SEQ_STATUS_DIV_COUNT (c + 1))

/-- A filtered MAINS_SYNC edge (R283, R347): the mains tracker takes its period where EDGE is its polarity; then it is an edge of the
sequence where TRIG_SRC is 1 and TRIG_EDGE is its polarity, and an accepted period is one where TRIG_SRC is 2. -/
def State.mainsEdge (s : State) (falling : Bool) (period : Nat) : State :=
  let src := s.get F.CLK_MAINS_CTRL_SRC
  let read := s.clocked .sense && decide (s.on F.CLK_MAINS_CTRL_EDGE = falling) && (decide (src = 1) || decide (src = 3))
  let taken := read && s.mains.takes period
  let edge := decide (s.get F.SNS_SEQ_CTRL_TRIG_SRC = 1) && decide (s.on F.SNS_SEQ_CTRL_TRIG_EDGE = falling)
  (s.when read (·.mainsPeriod 1 period)).when (edge || (taken && decide (s.get F.SNS_SEQ_CTRL_TRIG_SRC = 2))) State.snsHwTrigger

/-- A ripple cycle (R283, R347): an accepted one is a period of the sequence where TRIG_SRC is 2. -/
def State.rippleCycle (s : State) (p : Nat) : State :=
  let s := s.when (decide (s.get F.CLK_MAINS_CTRL_SRC = 3)) (·.modMains (fun m => { m with quiet := m.quiet + 1 }))
  let read := s.clocked .sense && s.mainsOnRipple
  let taken := read && s.mains.takes p
  (s.when read (·.mainsPeriod 2 p)).when (taken && decide (s.get F.SNS_SEQ_CTRL_TRIG_SRC = 2)) State.snsHwTrigger

/-- A PVDD_V drone code, `ticks` crystal periods after the one before (R283). -/
def State.droneRipple (s : State) (ticks : Nat) (code : Int) : State :=
  let r := s.mains.rip.sample ticks code
  let s := s.modMains (fun m => { m with rip := r.1 })
  match r.2 with
  | some p => s.rippleCycle p
  | none => s

/-- An integrator window is discarded (R355). -/
def State.intAbandon (s : State) : State :=
  match s.sns.entry with
  | some (_, w) =>
    s.when (snsIsInt w) (fun s => (s.set F.SNS_STATUS_INT_ABANDONED 1).inc F.SNS_COUNT2_ABANDONED)
  | none => s

/-- ABORT (R346): the running entry is discarded and a queued trigger dropped. -/
def State.snsAbort (s : State) : State :=
  let s := s.set F.SNS_SEQ_STATUS_PENDING 0
  s.when (decide (s.snsState = 2)) (fun s =>
    let s := s.intAbandon.snsRunOver
    match s.sns.conv with
    | .seq _ _ => s.snsChoose
    | _ => s)

/-- Effects of a write to SNS_SEQ_CTRL (R346). -/
def State.snsSeqWritten (s : State) (abort sw : Bool) : State :=
  let s := s.when (decide (s.snsState = 2) && !s.on F.SNS_SEQ_CTRL_RUN) (·.modSns (fun x => { x with endRun := true }))
  let s := s.when abort State.snsAbort
  s.when sw State.snsTrigger

/-- Effects of a write to SNS_CFG (R344): the integrator's rest follows INT_AUTO_PD, but in a run that has still need of it. -/
def State.snsCfgWritten (s : State) : State :=
  let used := match s.sns.entry with | some (k, w) => snsIsInt w || s.intAhead k | none => false
  s.when (s.snsRuns && (!used || !s.on F.SNS_CFG_INT_AUTO_PD)) State.intRest

/-- The reed conversion ends with a code, before its range is applied (R343, R349, R352). -/
def State.snsReedDone (s : State) (code : Int) : State :=
  let v := if code < 0 then 0 else if 0xFFF < code then 0xFFF else code.toNat
  let orng := decide (code < 0) || decide (0xFFF < code)
  let s := s.when orng State.snsOrng
  let ntc (s : State) (w : Word) : State := s.when (decide (snsCh w = 10) || decide (snsCh w = 11))
    (·.ntcResult (snsCh w - 10) orng (36000 * v : Nat) (4096 * snsGain w))
  let s := match s.sns.conv with
    | .none => s
    | .drone k w =>
      let s := s.modSns (fun x => { x with sums := vmod x.sums k (fun e => (e.1 + v, e.2 + 1)), prevSeq := false })
      ntc s w
    | .seq k w =>
      let s := s.when orng (·.set (.mk A.SNS_ENTRY_OVR k 1) 1)
      let s := s.when (decide (bits w 21 1 = 1)) (·.snsResult orng false false (s.snsInjected (snsCh w)) k v)
      let s := (ntc s w).modSns (fun x => { x with prevSeq := true })
      s.when (decide (s.sns.entry = some (k, w))) (·.entryDone k)
    | .urgent w =>
      let s := (s.snsResult orng false true (s.snsInjected (snsCh w)) 0 v).set (.mk A.SNS_URGENT 25 1) 0
      (ntc s w).modSns (fun x => { x with prevSeq := false })
  if s.snsRuns then s.snsChoose else s.modSns (fun x => { x with conv := .none })

/-- A window of the running integrator entry ends, having integrated `q` (in 2^-19 of the span times a clock period); the next one starts
back to back, or the entry ends with the mean over its windows (R341, R342). Answers also what the reservoir takes from a PVDD_P result:
value, gain, and the windows' clock periods. -/
def State.snsIntDone (s : State) (q : Int) : State × Option (Int × Nat × Nat) :=
  match s.sns.entry with
  | some (k, w) =>
    let s := s.modSns (fun x => { x with wins := x.wins + 1, periods := x.periods + x.n, acc := x.acc + q })
    if snsIsInt w ∧ s.sns.wins < snsTime w then (s.intWindow, none)
    else if snsIsInt w then
      let x := divRne s.sns.acc (max 1 s.sns.periods)
      let orng := decide (x < -0x7FFFF) || decide (0x7FFFF < x)
      let v := if x < -0x7FFFF then -0x7FFFF else if 0x7FFFF < x then 0x7FFFF else x
      let s := s.when orng (fun s => s.snsOrng.set (.mk A.SNS_ENTRY_OVR k 1) 1)
      let s := s.when (decide (bits w 21 1 = 1)) (·.snsResult orng true false (s.snsInjected (snsCh w)) k (unsigned 20 v))
      let s := s.when (decide (snsCh w = 10) || decide (snsCh w = 11))
        (·.ntcResult (snsCh w - 10) orng (36000 * v) (2 ^ 19 * snsGain w))
      let out := if snsCh w = 37 then some (v, snsGain w, s.sns.periods) else none
      (s.entryDone k, out)
    else (s, none)
  | none => (s, none)

/-! ## Urgent requests and drones (R350, R351) -/

/-- START of an urgent request (R350, R361). -/
def State.snsUrgent (s : State) : State :=
  s.when (s.on (F.PG_ENABLE 0x0B)) (fun s =>
    if s.on (.mk A.SNS_URGENT 25 1) then s.set F.SNS_STATUS_URG_BUSY 1
    else
      let ch := s.get F.SNS_URGENT_CHANNEL
      let probe : Bool := match s.sns.diag with | some (2, _) => s.sns.diagRun | _ => false
      if ch = 37 ∨ ch = 38 ∨ (ch = 39 ∧ ¬ probe) then s.seqErr
      else
        let w := s.reg A.SNS_URGENT
        (s.set (.mk A.SNS_URGENT 25 1) 1).modSns (fun x => { x with urg := w }))

/-- Effects of a write to a drone's configuration (R351): one that names PVDD_P is disabled with SEQ_ERR. -/
def State.droneWritten (s : State) (k : Nat) : State :=
  s.when (decide (s.get (F.SNS_DRONE_CFG_CHANNEL k) = 37)) State.seqErr

/-- The drones' means at the budget tick (R351), in 1/16 code. -/
def State.dronesTick (s : State) : State :=
  let s := s.forAll 4 (fun s k =>
    let e := vget s.sns.sums k (0, 0)
    let s := s.setB (F.SNS_DRONE_AVG_VALID k) (decide (e.2 ≠ 0))
    s.when (decide (e.2 ≠ 0)) (·.set (F.SNS_DRONE_AVG_AVG k) (divRne (16 * e.1 : Nat) e.2).toNat))
  s.modSns (fun x => { x with sums := Vector.replicate 4 (0, 0) })

/-- The supply power of a tick, in µW, joins the mean over the running integrator entry's windows (R389). -/
def State.snsPower (s : State) (p : Int) : State := s.modSns (fun x => { x with pSum := x.pSum + p, pCnt := x.pCnt + 1 })

/-! ## Procedures (R356, R357) -/

/-- The pitch pipe's holder (R356). -/
def State.ppSync (s : State) : State := s.setB F.SNS_PP_CTRL_BUSY (s.sns.diagRun || s.sns.adcTest.isSome)

/-- A procedure ends (R357): DONE, PASS or CAUSE, DIAG_DONE. -/
def State.diagEnd (s : State) (cause : Nat) : State :=
  let s := s.modSns (fun x => { x with diag := none, diagRun := false, inject := none })
  ((((s.set F.SNS_DIAG_STATUS_BUSY 0).set F.SNS_DIAG_STATUS_DONE 1).setB F.SNS_DIAG_STATUS_PASS (decide (cause = 0))).set
    F.SNS_DIAG_STATUS_CAUSE cause).ppSync.irq 0x0B 7

/-- START (R357, R360): an INPUT outside the procedure's range ends it at once; else a job is posted. -/
def State.diagStart (s : State) : State :=
  s.when (s.on (F.PG_ENABLE 0x0B) && !s.on F.SNS_DIAG_STATUS_BUSY) (fun s =>
    let proc := s.get F.SNS_DIAG_CTRL_PROC
    let input := s.get F.SNS_DIAG_CTRL_INPUT
    if proc = 1 ∧ 7 < input then s.diagEnd 7
    else
      ((s.set F.SNS_DIAG_STATUS_BUSY 1).modSns (fun x => { x with diag := some (proc, input) })).postJob 0xA proc false)

/-- The dispatched procedure begins (R357): the audio input path needs MODE = 0. -/
def State.diagBegin (s : State) (proc : Nat) : State :=
  match s.sns.diag with
  | some (p, i) =>
    if p ≠ proc then s.finishJob 0xA proc 3
    else if p = 2 ∧ s.on (F.AIN_CTRL_MODE i) then (s.finishJob 0xA proc 3).diagEnd 6
    else (s.modSns (fun x => { x with diagRun := true, inject := none })).ppSync
  | none => s.finishJob 0xA proc 3

/-- The injection code of PROC 1 and 2 (R357): nearest to V0 ± 0.5 V, V0 in 1/16 code. -/
def injCode (v0 : Int) : Int :=
  divRne (if 655360 < 18 * v0 then 9 * v0 - 163840 else 9 * v0 + 163840) 576

/-- V0 of PROC 1 or 2 is in (R357), in 1/16 code: the injection begins. -/
def State.diagInject (s : State) (v0 : Int) : State :=
  match s.sns.diag with
  | some (proc, _) => s.when (s.sns.diagRun && decide (proc ≠ 0) && s.sns.inject.isNone) (·.modSns (fun x => { x with inject := some v0 }))
  | none => s

/-- A procedure's measurements are in (R357). For PROC 0 `a` is the worst reed error and `b` the worst integrator error, in
LSB; for PROC 1 and 2 they are V0, where the injection has not shown it, and V1 in 1/16 code. -/
def State.diagDone (s : State) (a b : Int) : State :=
  match s.sns.diag with
  | some (proc, _) =>
    s.when s.sns.diagRun (fun s =>
      if proc = 0 then
        let s := s.set F.SNS_DIAG_RESULT_RESULT (unsigned 16 (satSigned 16 a) + 65536 * unsigned 16 (satSigned 16 b))
        let cause := if a < -4 ∨ 4 < a then 1 else if b < -524 ∨ 524 < b then 2 else 0
        let s := (s.finishJob 0xA proc (if cause = 0 then 1 else 6)).diagEnd cause
        s.when (decide (cause ≠ 0)) (·.fault 0x0B 2)
      else
        let a := s.sns.inject.getD a
        let up : Int := if 655360 < 18 * a then -1 else 1
        let num := up * (b - a)
        let den := up * (64 * injCode a - b)
        let cause := if num ≤ 16 then 4 else if den ≤ 0 then 3 else if 1000000 * den < 100000 * num then 3 else 0
        let r := if num ≤ 0 then 0 else if den ≤ 0 then 0xFFFFFFFF else satTo 32 (divRne (100000 * num) den.toNat).toNat
        ((s.set F.SNS_DIAG_RESULT_RESULT r).finishJob 0xA proc (if cause = 0 then 1 else 6)).diagEnd cause)
  | none => s

/-! ## Slice tests (R358, R359) -/

/-- The input an ADC slice serves. -/
def State.aslInput (s : State) (a : Nat) : Option Nat := (List.range 16).find? (fun n => decide (s.ainSlice n = a))

/-- The channel a DAC slice serves. -/
def State.dslChannel (s : State) (d : Nat) : Option Nat := (List.range 8).find? (fun c => decide (s.aoutSlice c = d))

/-- A dispatched ADC slice test begins: on a slice that is in TEST, UNCAL or SPARE, or serves an input that is off (R455). -/
def State.adcTestBegin (s : State) (a : Nat) : State :=
  let idle : Bool := match s.aslInput a with | some n => decide ((s.ainAt n).phase = .off) | none => false
  if s.asl a = 3 ∨ s.asl a = 5 ∨ s.asl a = 0 ∨ (s.asl a = 1 ∧ idle) then
    (s.modSns (fun x => { x with adcTest := some a })).ppSync
  else s.finishJob 2 a 3

/-- A dispatched DAC slice test begins. -/
def State.dacTestBegin (s : State) (d : Nat) : State :=
  let idle : Bool := match s.dslChannel d with | some c => decide ((s.aoutAt c).phase = .off) | none => false
  if s.dsl d = 3 ∨ s.dsl d = 5 ∨ s.dsl d = 0 ∨ (s.dsl d = 1 ∧ idle) then s.modSns (fun x => { x with dacTest := some d })
  else s.finishJob 3 d 3

/-- Cause of a slice test's levels (R358), in 24-bit LSB for codes 128, 320, 512, 704, 896: 0 pass, 1 offset, 2 gain,
3 linearity. -/
def sliceCause (l0 l1 l2 l3 l4 : Int) : Nat :=
  let off (i : Int) (l : Int) : Bool :=
    let e := 4 * l - 4 * l0 - i * (l4 - l0)
    decide (1000 * e ≤ 2 ^ 25) && decide (-(2 ^ 25) ≤ 1000 * e)
  let g := (l4 - l0) * q60
  if 200 * l2 < -(2 ^ 23) ∨ 2 ^ 23 < 200 * l2 then 1
  else if g < dbLin (-5) 10 * 12582912 ∨ dbLin 5 10 * 12582912 < g then 2
  else if off 1 l1 ∧ off 2 l2 ∧ off 3 l3 then 0 else 3

/-- Record a slice test (R359). -/
def State.sliceRecord (s : State) (dac : Bool) (slice cause : Nat) : State :=
  (((s.set F.SNS_SLICE_TEST_CAUSE cause).setB F.SNS_SLICE_TEST_PASS (decide (cause = 0))).setB F.SNS_SLICE_TEST_DAC dac).set
    F.SNS_SLICE_TEST_SLICE slice

/-- An ADC slice test ends (R358, R359, R453, R455). -/
def State.adcTestDone (s : State) (a : Nat) (l0 l1 l2 l3 l4 : Int) (stuck : Bool) : State :=
  s.when (decide (s.sns.adcTest = some a)) (fun s =>
    let c := sliceCause l0 l1 l2 l3 l4
    let cause := if c ≠ 0 then c else if stuck then 4 else 0
    let s := (s.sliceRecord false a cause).modSns (fun x => { x with adcTest := none })
    let placed := decide (s.asl a = 1)
    let s := (s.finishJob 2 a (if cause = 0 then 1 else 6)).ppSync
    if cause = 0 then
      if placed then s
      else { s.setAsl a 0 with aslTrim := vmod s.aslTrim a (fun _ => (levelDb 20 1000 12582912 (l4 - l0).toNat, l2)) }
    else
      let s := s.setAsl a 4
      match placed, s.aslInput a with
      | true, some n => s.postJob 0 n true
      | _, _ => s)

/-- A DAC slice test ends (R359, R455); `elem` says that an element's current was outside ±2 %. -/
def State.dacTestDone (s : State) (d : Nat) (l0 l1 l2 l3 l4 : Int) (elem : Bool) : State :=
  s.when (decide (s.sns.dacTest = some d)) (fun s =>
    let c := sliceCause l0 l1 l2 l3 l4
    let cause := if c ≠ 0 then c else if elem then 5 else 0
    let s := (s.sliceRecord true d cause).modSns (fun x => { x with dacTest := none })
    let placed := decide (s.dsl d = 1)
    let s := s.finishJob 3 d (if cause = 0 then 1 else 6)
    if cause = 0 then (if placed then s else s.setDsl d 0)
    else
      let s := s.setDsl d 4
      match placed, s.dslChannel d with
      | true, some c => s.postJob 1 c true
      | _, _ => s)

/-- QUIESCE, freeze or PLL loss stops the procedures and tests (R357, R359): a stopped slice test is posted again. -/
def State.snsJobsStop (s : State) : State :=
  let s := match s.sns.diag with
    | some (p, _) => s.when s.sns.diagRun (fun s => (s.finishJob 0xA p 2).diagEnd 5)
    | none => s
  let s := match s.sns.adcTest with
    | some a => (((s.modSns (fun x => { x with adcTest := none })).sliceRecord false a 6).finishJob 2 a 2).postJob 2 a false
    | none => s
  let s := match s.sns.dacTest with
    | some d => (((s.modSns (fun x => { x with dacTest := none })).sliceRecord true d 6).finishJob 3 d 2).postJob 3 d false
    | none => s
  s.ppSync

/-! ## Clock and power events (R338, R355) -/

/-- The island starts, wakes, resumes or gets its clock back (R344, R355): drones from drone 0; a queued run starts. -/
def State.snsRestart (s : State) : State :=
  let s := (s.modSns (fun x => { x with conv := .none, prevSeq := false, rr := 0, entry := none, waiting := false }))
  if s.famUp 0 then
    let s := ((s.set F.SNS_SEQ_STATUS_STATE 1).set F.SNS_STATUS_SAR_ON 1).intRest.snsChoose
    s.when (s.on F.SNS_SEQ_STATUS_PENDING && s.on F.SNS_SEQ_CTRL_RUN)
      (fun s => (s.set F.SNS_SEQ_STATUS_PENDING 0).snsStart)
  else s.set F.SNS_SEQ_STATUS_STATE 3

/-- The 48 kHz family PLL is lost, a muted takeover window opens, or freeze takes hold (R355). -/
def State.snsClockLost (s : State) : State :=
  s.when s.snsRuns (fun s =>
    let s := s.intAbandon.snsJobsStop.intRest.set F.SNS_SEQ_STATUS_STATE 3
    s.modSns (fun x => { x with conv := .none, entry := none, waiting := false, endRun := false, ended := false }))

/-- The channel of a reed conversion. -/
def Conv.channel : Conv → Option Nat
  | .none => Option.none
  | .drone _ w => some (snsCh w)
  | .seq _ w => some (snsCh w)
  | .urgent w => some (snsCh w)

/-- Is the 50 µA bias of NTC channel `i` on (R344): the running entry or the reed conversion names the channel? -/
def State.ntcBias (s : State) (i : Nat) : Bool :=
  decide (s.sns.entry.map (fun e => snsCh e.2) = some (10 + i)) || decide (s.sns.conv.channel = some (10 + i))

/-- The clock is back (R355). -/
def State.snsClockUp (s : State) : State := s.when (decide (s.snsState = 3) && s.clocked .sense) State.snsRestart

/-- QUIESCE (R355): the running reed conversion finishes, the rest ends. -/
def State.snsQuiesce (s : State) : State :=
  let s := (s.when (decide (s.snsState = 2)) (fun s => s.intAbandon.snsRunOver)).snsJobsStop
  (s.set F.SNS_SEQ_STATUS_PENDING 0).set F.SNS_SEQ_STATUS_STATE 4

/-- Does the condition of an SNS fault code still hold (R60, R361)? -/
def State.snsFaultHolds (s : State) (code : Nat) : Bool := decide (code = 1) && decide (s.sns.ntcBad ≠ 0)

/-! ## Meanings of the events -/

/-- SNS_HW_TRIGGER (R347, R348). -/
def execSnsHwTrigger (s : State) : Host.Outcome State Fault Refusal := .next (settle s.snsHwTrigger)
/-- Does drone 0 convert PVDD_V now? -/
def State.onDrone0 (s : State) : Bool := match s.sns.conv with | .drone 0 _ => true | _ => false

/-- SNS_REED_CONV_DONE (R343, R349): the code before clamping; of drone 0, also the crystal periods since its last code, for the PVDD
ripple (R283). -/
def execSnsReedConvDone (code : Int) (ticks : Nat) (s : State) : Host.Outcome State Fault Refusal :=
  .next (settle (s.event .sense (decide (s.sns.conv ≠ .none)) (fun s =>
    (s.snsReedDone code).when s.onDrone0 (·.droneRipple ticks (max 0 (min 0xFFF code))))))
/-- SNS_RUN_DONE (R346). -/
def execSnsRunDone (s : State) : Host.Outcome State Fault Refusal :=
  .next (settle (s.event .sense (s.sns.ended && decide (s.snsState = 2)) State.snsRunDone))
/-- SNS_DIAG_DONE (R357): the procedure's measurements; of PROC 1 and 2 first V0 alone (`last` false), at which the injection begins.
Nothing is measured while the converters stand still (R338). -/
def execSnsDiagDone (a b : Int) (last : Bool) (s : State) : Host.Outcome State Fault Refusal :=
  .next (settle (s.event .sense s.snsRuns (fun s => if last then s.diagDone a b else s.diagInject a)))
/-- ADC_SLICE_TEST_DONE (R358). -/
def execAdcSliceTestDone (a : Fin 18) (l0 l1 l2 l3 l4 : Int) (stuck : Bool) (s : State) : Host.Outcome State Fault Refusal :=
  .next (settle (s.event .sense s.snsRuns (·.adcTestDone a l0 l1 l2 l3 l4 stuck)))
/-- DAC_SLICE_TEST_DONE (R359). -/
def execDacSliceTestDone (d : Fin 10) (l0 l1 l2 l3 l4 : Int) (elem : Bool) (s : State) : Host.Outcome State Fault Refusal :=
  .next (settle (s.event .sense s.snsRuns (·.dacTestDone d l0 l1 l2 l3 l4 elem)))

end Sys2Proof.Machine
end

