-- ==== Sys2Proof/Machine/Spdif.lean ====
section
/-! DEFINITION. S/PDIF receiver and transmitter (chapter 09, R246 to R254, R259). -/

namespace Sys2Proof.Machine

/-- Update the receiver. -/
def State.modRx (s : State) (f : SpdRx → SpdRx) : State := { s with spdRx := f s.spdRx }

/-- Update the transmitter. -/
def State.modTx (s : State) (f : SpdTx → SpdTx) : State := { s with spdTx := f s.spdTx }

/-! ## Receiver -/

/-- NONPCM changes (R249): the flag and its interrupt. -/
def State.setNonpcm (s : State) (b : Bool) : State :=
  if s.on F.SPD_RX_STATUS_NONPCM = b then s
  else ((s.setB F.SPD_RX_STATUS_NONPCM b).set F.SPD_RX_FLAGS_NONPCM_CHG 1).irq 0x2A 3

/-- The stream is marked non-PCM (R249): the hold gives way to it. -/
def State.markNonpcm (s : State) : State := (s.setNonpcm true).set F.SPD_RX_STATUS_SYNC_HOLD 0

/-- The latched channel status bit 1 (R249). -/
def State.csData (s : State) : Bool := s.on F.SPD_RX_STATUS_CS_VALID && decide (bits (s.reg (A.SPD_RX_CS 0)) 1 1 = 1)

/-- One subframe's checks (R247): the sample it delivers. -/
def State.subframe (s : State) (x : SpdSub) (last : Int) : State × Int :=
  let s := s.when x.parityErr (fun s =>
    ((s.when (!s.on F.SPD_RX_FLAGS_PARITY) (·.irq 0x2A 5)).set F.SPD_RX_FLAGS_PARITY 1).inc F.SPD_RX_COUNT_PARITY_ERRS)
  let s := s.when x.codeErr (·.set F.SPD_RX_FLAGS_CODE_ERR 1)
  let s := s.when x.v (fun s => (s.set F.SPD_RX_FLAGS_VALIDITY 1).inc F.SPD_RX_COUNT_V_FRAMES)
  let v := if x.parityErr || x.codeErr then last
    else if x.v && s.on F.SPD_RX_CTRL_VALID_MUTE then 0 else signed 24 x.data * 256
  (s, v)

/-- Four channel status bytes of a block as a register word (R248), from byte 4i. -/
def csWord (cs : List Bool) (i : Nat) : Word := BitVec.ofNat 32 (bitsOf ((cs.drop (32 * i)).take 32))

/-- A block ends (R248): two in succession that agree are latched; one that differs from the last latched block raises CS_CHANGE. -/
def State.csBlock (s : State) : State :=
  let block := s.spdRx.cs.reverse
  if block.length ≠ 192 then s.modRx (fun r => { r with cs := [], csPrev := [] })
  else
    let agree := decide (block = s.spdRx.csPrev)
    let s := s.modRx (fun r => { r with cs := [], csPrev := block })
    if !agree then s
    else
      let differs := (List.range 6).any (fun i => decide (s.reg (A.SPD_RX_CS i) ≠ csWord block i))
      let s := s.when (s.spdRx.latched && differs) (fun s => (s.set F.SPD_RX_FLAGS_CS_CHANGE 1).irq 0x2A 4)
      let s := s.modRx (fun r => { r with latched := true })
      let s := s.forAll 6 (fun s i => s.setReg (A.SPD_RX_CS i) (csWord block i))
      let s := (s.set F.SPD_RX_STATUS_CS_VALID 1).set F.SPD_RX_STATUS_CS_FS (bitsOf ((block.drop 24).take 4))
      s.when s.csData (·.markNonpcm)

/-- The sync-word check (R249). -/
def State.syncCheck (s : State) (f : SpdFrame) : State :=
  let sync := decide (f.a.data / 256 % 65536 = 0xF872) && decide (f.b.data / 256 % 65536 = 0x4E1F)
  let r := s.spdRx
  let s := s.when r.pc (·.set F.SPD_RX_STATUS_BURST_TYPE (f.a.data / 256 % 32))
  if sync then
    let second := match r.sync with | some k => decide (k < 4096) | none => false
    let s := s.modRx (fun r => { r with sync := some 0, pc := true })
    let s := s.when (!s.on F.SPD_RX_STATUS_NONPCM) (·.set F.SPD_RX_STATUS_SYNC_HOLD 1)
    s.when (s.on F.SPD_RX_CTRL_NONPCM_DET || second) (·.markNonpcm)
  else s.modRx (fun r => { r with sync := r.sync.map (· + 1), pc := false })

/-- Are the sources held at zero (R249)? -/
def State.rxHeld (s : State) : Bool := s.on F.SPD_RX_STATUS_NONPCM || s.on F.SPD_RX_STATUS_SYNC_HOLD

/-- A subframe as passthrough resends it (R252): data, V, U and C unchanged, parity and coding its own. -/
def resentSub (x : SpdSub) : SpdSub := { x with parityErr := false, codeErr := false }

/-- A frame as passthrough resends it. -/
def resentFrame (f : SpdFrame) : SpdFrame := { f with a := resentSub f.a, b := resentSub f.b }

/-- A received frame (R247 to R249, R252, R269). -/
def State.spdRxFrame (s : State) (f : SpdFrame) : State :=
  let s := s.when f.block (·.csBlock)
  let s := s.modRx (fun r => { r with cs := f.a.c :: r.cs })
  let s := s.syncCheck f
  let (s, a) := s.subframe f.a s.spdRx.lastA
  let (s, b) := s.subframe f.b s.spdRx.lastB
  let s := s.modRx (fun r => { r with lastA := a, lastB := b, fade := r.fade.step (samplesIn 5000 (s.trkAt 1).nomHz) })
  let g (x : Int) : Int := if s.rxHeld then 0 else fadeSample s.spdRx.fade (s.lsb 2400 0) x
  let s := s.modRx (fun r => { r with
    rx := if s.engRuns then (if 16 ≤ r.rx.length then r.rx.tail else r.rx) ++ [(to24 (g a), to24 (g b))] else []
    pass := some (resentFrame f) })
  s.when (decide (s.spdTx.phase = .passthrough)) (fun s =>
    let nom := 100 * (s.trkAt 1).nomHz
    s.set (.mk A.CLK_FDIV_STEER 0 32) (unsigned 32 ((s.measRate 3 * 1000000000 : Int) / nom - 1000000000)))

/-- No second sync frame within 4,096 frames (R249): the hold ends. -/
def State.syncHoldEnd (s : State) : State :=
  let old := match s.spdRx.sync with | some k => decide (4096 ≤ k) | none => true
  s.event .ports (s.on F.SPD_RX_STATUS_SYNC_HOLD && !s.on F.SPD_RX_STATUS_NONPCM && old && !s.csData) (fun s =>
    (s.set F.SPD_RX_STATUS_SYNC_HOLD 0).modRx (fun r => { r with fade := ⟨0, 1, true⟩ }))

/-- The stream is PCM again (R249). -/
def State.pcmReturn (s : State) : State :=
  let old := match s.spdRx.sync with | some k => decide (4096 ≤ k) | none => true
  s.event .ports (s.on F.SPD_RX_STATUS_NONPCM && old && !s.csData) (fun s =>
    (s.setNonpcm false).modRx (fun r => { r with fade := ⟨0, 1, true⟩ }))

/-! ## Transmitter -/

/-- SPD_TX_STATUS.STATE (R259). -/
def spdState : SpdTxPhase → Nat
  | .off => 0 | .waitClk => 1 | .pcm | .rampReconf => 2 | .passthrough => 3 | .enter | .exit => 4 | .quiesced => 5

/-- The family whose PLL clocks the transmitter (R250, R269): in passthrough that of the received nominal rate. DESIGN CHOICE (log 171):
for a nominal that is no endpoint rate, the family of the nearest one. -/
def State.txFamily (s : State) : Nat := if s.spdTx.phase = .passthrough then s.passFam else rateFamily s.spdTx.rate

/-- Write the transmitter's status and its divider's (R259, R269, R284): K is f_PLL over the rate, to the nearest integer. -/
def State.txSync (s : State) : State :=
  let t := s.spdTx
  let st := spdState t.phase
  let pass := decide (t.phase = .passthrough)
  let hz := if pass then (s.trkAt 1).nomHz else rateHz t.rate
  let fam := s.txFamily
  let clk := decide (2 ≤ st) && decide (st ≤ 4)
  let s := s.when (decide (s.get F.SPD_TX_STATUS_STATE ≠ st)) (·.irq 0x2A 6)
  let s := (s.set F.SPD_TX_STATUS_STATE st).set F.SPD_TX_STATUS_DOMAIN (if t.phase = .off then 0 else if pass then 3 else rateFamily t.rate)
  let s := s.setB F.SPD_TX_STATUS_HOLD (pass && decide (s.trkState 3 ≠ 2))
  let d (lo w : Nat) : Fld := .mk (A.CLK_FDIV 8) lo w
  let s := ((s.setB (d 31 1) clk).setB (d 30 1) pass).set (d 29 1) (if clk then fam else 0)
  (s.set (d 16 11) (if clk then 256 else 0)).set (d 0 15) (if clk then (divRne (pllHz fam) (max 1 hz)).toNat else 0)

/-- Move the transmitter to a phase. -/
def State.txPhase (s : State) (p : SpdTxPhase) : State := (s.modTx (fun t => { t with phase := p })).txSync

/-- May the transmitter send? -/
def State.txAble (s : State) : Bool := s.on (F.PG_ENABLE 0x2A) && s.on F.SPD_TX_CTRL_EN && s.islandOn .ports

/-- Send the sinks on its own clock, from a new block (R250). -/
def State.txPcm (s : State) (fade : Fade) (us : Nat) : State :=
  let s := s.modTx (fun t => { t with rate := s.get F.SPD_TX_CTRL_RATE, pos := 0, fade := fade, fadeUs := us })
  s.txPhase (if s.famUp (rateFamily s.spdTx.rate) then .pcm else .waitClk)

/-- The transmitter starts (R250, R252). -/
def State.txStart (s : State) : State :=
  let s := s.modTx (fun t => { t with txA := [], txB := [], sent := none, rate := s.get F.SPD_TX_CTRL_RATE })
  if s.wantPass then
    (if s.famUp s.passFam then (s.modTx (fun t => { t with left := 2 })).txPhase .enter
     else (s.modTx (fun t => { t with fade := .at1, fadeUs := 1000 })).txPhase .waitClk)
  else s.txPcm .at1 1000

/-- Effects of a write to SPD_TX_CTRL or to the page's ENABLE (R250, R251). -/
def State.txWritten (s : State) : State :=
  if !s.txAble then s.when (decide (s.spdTx.phase ≠ .off)) (fun s => (s.modTx (fun t => { t with sent := none })).txPhase .off)
  else match s.spdTx.phase with
  | .off => s.txStart
  | .pcm =>
    if s.get F.SPD_TX_CTRL_RATE = s.spdTx.rate then s
    else (s.modTx (fun t => { t with fade := t.fade.turn false, fadeUs := 1000 })).txPhase .rampReconf
  | .waitClk => s.txStart
  | _ => s

/-- Channel status byte k of the stream (R250, R251). -/
def State.txCsByte (s : State) (k : Nat) : Nat :=
  let v := if k < 24 then bits (s.reg (A.SPD_TX_CS (k / 4))) (8 * (k % 4)) 8 else 0
  if !s.on F.SPD_TX_CTRL_AUTO_CS then v
  else match k with
  | 0 => v / 4 * 4 + v % 2
  | 3 => v / 16 * 16 + (match s.spdTx.rate with
      | 4 => 3 | 5 => 0 | 6 => 2 | 7 => 8 | 8 => 10 | 9 => 12 | _ => 14)
  | 4 => v / 16 * 16 + 11
  | _ => v

/-- A subframe of zeros with V = 1 (R253). -/
def zeroSub (c : Bool) : SpdSub := ⟨0, false, false, true, false, c⟩

/-- The channel status bit at the present frame. -/
def SpdTx.csBit (t : SpdTx) : Bool := decide (t.cs.getD (t.pos / 8) 0 / 2 ^ (t.pos % 8) % 2 = 1)

/-- A sample of a sink, the oldest waiting, zero where its rule or a stopped engine makes it so. -/
def State.txTake (s : State) (q : List Int) (bit : Nat) : Int :=
  if !s.engRuns || decide (s.spdTx.zero / 2 ^ bit % 2 = 1) then 0 else q.headD 0

/-- One frame of the sinks (R250, R251). -/
def State.txPcmFrame (s : State) : State :=
  let s := s.when (decide (s.spdTx.pos = 0)) (fun s => s.modTx (fun t => { t with cs := (List.range 24).map s.txCsByte }))
  let t := s.spdTx
  let sub (x : Int) : SpdSub :=
    ⟨unsigned 24 ((fadeSample t.fade (s.lsb 2401 0) x).fdiv 256), false, false, false, false, t.csBit⟩
  let f : SpdFrame := ⟨sub (s.txTake t.txA 0), sub (s.txTake t.txB 1), decide (t.pos = 0)⟩
  s.modTx (fun t => { t with
    sent := some f, txA := t.txA.tail, txB := t.txB.tail, pos := (t.pos + 1) % 192
    fade := t.fade.step (samplesIn t.fadeUs (rateHz t.rate)) })

/-- A frame of zeros with V = 1 while the transmitter switches, `left` of them to come (R253). -/
def State.txZeros (s : State) (left : Nat) : State :=
  s.modTx (fun t => { t with left := left, sent := some ⟨zeroSub false, zeroSub false, false⟩ })

/-- The transmitter's clock has stopped low: it waits, and goes on at full gain (R272). -/
def State.txWait (s : State) : State := (s.modTx (fun t => { t with sent := none, fade := .at1, fadeUs := 1000 })).txPhase .waitClk

/-- A switch to passthrough begins (R253): `left` frames of zeros to come; no sink sample stays queued. -/
def State.txEnter (s : State) (left : Nat) : State :=
  ((s.txZeros left).modTx (fun t => { t with pos := 0, txA := [], txB := [] })).txPhase .enter

/-- A switch from passthrough begins (R253). -/
def State.txExit (s : State) : State := (s.txZeros 1).txPhase .exit

/-- One transmitted frame (R250 to R253). -/
def State.spdTxFrame (s : State) : State :=
  match s.spdTx.phase with
  | .pcm => if s.wantPass then s.txEnter 1 else s.txPcmFrame
  | .waitClk => s.when (s.wantPass && s.famUp s.passFam) (·.txEnter 1)
  | .rampReconf =>
    if s.wantPass then s.txEnter 1
    else
      let s := s.txPcmFrame
      if s.spdTx.fade.zero then s.txPcm ⟨0, 1, true⟩ 1000 else s
  | .enter =>
    if !s.wantPass then s.txExit
    else
      let s := s.txZeros (s.spdTx.left - 1)
      if s.spdTx.left = 0 then (if s.famUp s.passFam then s.txPhase .passthrough else s.txWait) else s
  | .exit =>
    if s.wantPass then s.txEnter 1
    else
      let s := s.txZeros (s.spdTx.left - 1)
      if s.spdTx.left = 0 then s.txPcm ⟨0, 1, true⟩ 5000 else s
  | .passthrough =>
    if !s.wantPass then s.txExit
    else if s.trkState 3 ≠ 2 then
      ((s.modRx (fun r => { r with pass := none })).modTx (fun t => { t with
        sent := some ⟨zeroSub t.csBit, zeroSub t.csBit, decide (t.pos = 0)⟩, pos := (t.pos + 1) % 192 })).txSync
    else match s.spdRx.pass with
    | some f =>
      let s := s.modRx (fun r => { r with pass := none })
      s.modTx (fun t => { t with
        sent := some f, pos := if f.block then 1 else (t.pos + 1) % 192
        cs := if f.block then (List.range 24).map (fun k => bits (csWord s.spdRx.csPrev (k / 4)) (8 * (k % 4)) 8) else t.cs })
    | none => s.modTx (fun t => { t with sent := some ⟨zeroSub t.csBit, zeroSub t.csBit, false⟩ })
  | _ => s

/-- Effects of a write to SPD_RX_CTRL or to the page's ENABLE (R246, R278); `was`, the receiver was on. -/
def State.rxWritten (s : State) (was : Bool) : State :=
  if s.rxOn then s
  else ((s.when was (·.trkOff 1)).modRx (fun r => { r with cs := [], csPrev := [], rx := [], pass := none, sync := none, pc := false })).set
    F.SPD_RX_STATUS_CS_VALID 0 |>.unfault 0x2A 1

/-- The receiver's stream has stopped (R248, R260). -/
def State.rxStopped (s : State) : State :=
  (((s.set F.SPD_RX_STATUS_CS_VALID 0).unfault 0x2A 1).modRx (fun r => { r with cs := [], csPrev := [] })).txSync

/-- A family's PLL is lost: the transmitter of that family waits (R272). -/
def State.spdClockLost (s : State) (fam : Nat) : State :=
  s.when (decide (s.txFamily = fam) && (match s.spdTx.phase with | .off | .waitClk | .quiesced => false | _ => true)) State.txWait

/-- A family's PLL runs: a waiting transmitter starts a new block, with the ramp its change left to it (R251, R253), or passthrough. -/
def State.spdClockUp (s : State) (fam : Nat) : State :=
  s.when (decide (s.spdTx.phase = .waitClk)) (fun s =>
    if s.wantPass then s.when (decide (s.passFam = fam)) State.txStart
    else s.when (decide (rateFamily s.spdTx.rate = fam)) (fun s => s.txPcm s.spdTx.fade s.spdTx.fadeUs))

/-- QUIESCE (R254): the frame in progress is completed, SPDIF_OUT driven low. -/
def State.spdQuiesce (s : State) : State :=
  s.when (decide (s.spdTx.phase ≠ .off)) (fun s => (s.modTx (fun t => { t with sent := none })).txPhase .quiesced)

/-- After a wake or an abort the transmitter starts a new block (R254). -/
def State.spdRestart (s : State) : State :=
  if s.spdTx.phase = .quiesced then (if s.txAble then s.txStart else s.txPhase .off)
  else s.when (decide (s.spdTx.phase = .off) && s.txAble) (·.txStart)

/-- Rings are zeroed at an Fe change and in a takeover window (R271, R275). -/
def State.spdRingsZero (s : State) : State := (s.modRx (fun r => { r with rx := [] })).modTx (fun t => { t with txA := [], txB := [] })

/-! ## Meanings of the events -/

/-- SPDIF_RX_FRAME (R247). -/
def execSpdifRxFrame (f : SpdFrame) (s : State) : Host.Outcome State Fault Refusal :=
  .next (settle (s.event .ports s.rxOn (·.spdRxFrame f)))
/-- SPDIF_SYNC_HOLD_END (R249). -/
def execSpdifSyncHoldEnd (s : State) : Host.Outcome State Fault Refusal := .next (settle s.syncHoldEnd)
/-- SPDIF_PCM_RETURN (R249). -/
def execSpdifPcmReturn (s : State) : Host.Outcome State Fault Refusal := .next (settle s.pcmReturn)
/-- SPDIF_TX_FRAME (R250). -/
def execSpdifTxFrame (s : State) : Host.Outcome State Fault Refusal :=
  .next (settle (s.event .ports true (·.spdTxFrame)))

/-! ## What ports add to the trackers' events (R237, R253) -/

/-- TRACKER_EDGE (R279) after `period` ticks of the timing counter (5.09 ns). -/
def execTrackerEdge (t : Fin 10) (period : Nat) (s : State) : Host.Outcome State Fault Refusal :=
  .next (settle (s.trkEvent t true (·.trkEdge t period)))
/-- TRACKER_WINDOW_END (R279): ignored while the window lacks its frames or its time. -/
def execTrackerWindowEnd (t : Fin 10) (s : State) : Host.Outcome State Fault Refusal :=
  .next (settle (s.trkEvent t true (fun s =>
    let s := s.trkWindow t
    s.when (decide (t.val = 1)) (fun s => (s.when (decide (s.trkState 3 = 2)) (·.unfault 0x2A 1)).txSync))))
/-- TRACKER_STOP (R22, R23). A port in its stop ramp is no longer tracked; the stop of its clocks still ends its wait (R237). -/
def execTrackerStop (t : Fin 10) (s : State) : Host.Outcome State Fault Refusal :=
  .next (settle (if s.trkRuns t then
      s.trkEvent t true (fun s =>
        let s := s.trkStop t
        if t.val = 1 then s.rxStopped else if t.val = 0 then s else s.sapStopped (t.val - 2))
    else s.event .ports (decide (2 ≤ t.val) && decide ((s.sapAt (t.val - 2)).phase = .rampStop)) (·.sapStopped (t.val - 2))))
/-- TRACKER_RATE_CHANGE (R22, R281): the edges counted so far declare it. -/
def execTrackerRateChange (t : Fin 10) (s : State) : Host.Outcome State Fault Refusal :=
  .next (settle (s.trkEvent t (decide (s.get (F.CLK_TRK_STATUS_STATE t.val) = 2) && (s.trkAt t.val).changed) (fun s =>
    (s.trkRateChange t).when (decide (t.val = 1)) (·.txSync))))
/-- ACQUISITION_TIMEOUT (R23 rule 3). -/
def execAcquisitionTimeout (t : Fin 10) (s : State) : Host.Outcome State Fault Refusal :=
  .next (settle (s.trkEvent t (decide (s.get (F.CLK_TRK_STATUS_STATE t.val) = 1)) (·.trkFail t)))
/-- TRACKER_ENDPOINT_OFF (R278). -/
def execTrackerEndpointOff (t : Fin 10) (s : State) : Host.Outcome State Fault Refusal :=
  .next (settle (s.when (!s.trkRuns t && !s.frozen && (s.on (F.CLK_TRK_STATUS_STATE t.val) || s.on (F.CLK_TRK_STATUS_EDGES t.val)))
    (·.trkOff t)))

end Sys2Proof.Machine
end

