-- ==== Sys2Proof/Machine/Spk.lean ====
section
/-! DEFINITION. Speaker channels and the speaker guard (chapter 06, R139 to R162): sequences, faults, the power ceiling, the
guard's models and one frame of output. -/

namespace Sys2Proof.Machine

/-- One channel's record. -/
def State.spkAt (s : State) (n : Nat) : Spk := vget s.spk n (Spk.init n)

/-- Update one channel's record. -/
def State.modSpk (s : State) (n : Nat) (f : Spk → Spk) : State := { s with spk := vmod s.spk n f }

/-- The gain that stands for zero: −120 dB in 1/65,536 dB. -/
def gFloor : Int := -120 * 65536

/-- Are the PLLs of the channel running (R140): the 48 kHz family's for the stage, the other for a 44.1 kHz rate? -/
def State.spkClocks (s : State) (n : Nat) : Bool := s.famUp 0 && (decide (rateFamily (s.spkAt n).rate = 0) || s.famUp 1)

/-- Does the channel hold a fault cause of R159 that stops it (all but the sense fault)? -/
def State.spkStopped (s : State) (n : Nat) : Bool := (s.spkAt n).active.any (fun c => decide (c < 7))

/-- Does pop_gain stand at, or move to, 1 (R139)? -/
def State.spkOpen (s : State) (n : Nat) : Bool :=
  (match (s.spkAt n).phase with | .unmuting | .running | .recRamp => true | _ => false) &&
    !s.on (F.SPK_CTRL_MUTE n) && !s.spkHold && !s.collapsed && !s.on (F.SPK_STATUS_HOLD_MUTE n)

/-- SPKn_STATUS.STATE of a phase (R154 to R159, R161). -/
def State.spkState (s : State) (n : Nat) : Nat :=
  match (s.spkAt n).phase with
  | .off => 0
  | .waiting => if s.spkClocks n then 2 else 1
  | .unmuting => 2
  | .running | .stopping | .faultStop | .uvRamp => if s.on (F.SPK_CTRL_MUTE n) then 4 else 3
  | .recMute | .recFill | .recRamp => 5
  | .quiesced => 6
  | .fault => 7

/-- Write the status fields, and turn pop_gain where its cause has changed, over `us`. -/
def State.spkSync (s : State) (n us : Nat) : State :=
  let up := s.spkOpen n
  let s := s.modSpk n (fun a => if a.pop.up = up then a else { a with pop := a.pop.turn up, popUs := us })
  (s.set (F.SPK_STATUS_STATE n) (s.spkState n)).set (F.SPK_STATUS_DOMAIN n) (rateFamily (s.spkAt n).rate)

/-- Move a channel to a phase; a ramp that follows takes `us`. -/
def State.spkPhase (s : State) (n : Nat) (p : SpkPhase) (us : Nat) : State :=
  let s := s.when (decide (p = .fault) && decide ((s.spkAt n).phase ≠ .fault)) (·.inc (F.SPK_FAULT_CNT_FAULTS n))
  (s.modSpk n (fun a => { a with phase := p })).spkSync n us

/-- A cause ramps pop_gain down over `us` from its present value: with another ramp under way the faster goes on, so that pop_gain
is the lowest of the ramps (R160). -/
def State.spkPress (s : State) (n us : Nat) : State :=
  s.modSpk n (fun a => if a.pop.up then a else { a with popUs := min a.popUs us })

/-- Move a channel to a phase in which pop_gain ramps to zero over `us`. -/
def State.spkDown (s : State) (n : Nat) (p : SpkPhase) (us : Nat) : State := (s.spkPhase n p us).spkPress n us

/-- The stage at high impedance, its gain at zero. -/
def State.spkHiz (s : State) (n : Nat) : State :=
  (s.modSpk n (fun a => { a with pop := .at0, out := 0, drive := 0, win := [] })).set (F.SPK_STATUS_HIZ n) 1

/-! ## The guard (R147 to R152) -/

/-- Zone temperature T_a of the guard, in 1/65,536 °C (R148). -/
def State.spkTa (s : State) (n : Nat) : Int :=
  signed 16 (s.get (F.BLW_ZONE_STATUS_TEMP (s.get (F.SPK_GUARD_CTRL_ZONE n)))) * 4096

/-- A temperature field in 1/16 °C of a value in 1/65,536 °C. -/
def temp16 (t : Int) : Int := divRne t 4096

/-- Write T_COIL and T_MAG. -/
def State.spkTemps (s : State) (n : Nat) : State :=
  (s.setS (F.SPK_GUARD_TEMP_T_COIL n) (temp16 (s.spkAt n).tc)).setS (F.SPK_GUARD_TEMP_T_MAG n) (temp16 (s.spkAt n).tm)

/-- Seed the models (R150): T_c = T_m = T_a + SEED_MARGIN, the excursion state clear, SEEDED down. -/
def State.spkSeed (s : State) (n : Nat) : State :=
  let t := s.spkTa n + (s.get (F.SPK_GUARD_TL_SEED_MARGIN n) : Int) * 65536
  ((s.modSpk n (fun a => { a with tc := t, tm := t, x1 := 0, x2 := 0, seededOnce := true, invalid := 0 })).set
    (F.SPK_GUARD_STATUS_SEEDED n) 0).spkTemps n

/-- The model registers take effect (R150): at a 1 ms update, and when the guard is switched on. -/
def State.spkLatch (s : State) (n : Nat) : State :=
  s.modSpk n (fun a => { a with par := {
    re25 := s.get (F.SPK_GUARD_RE_RE25 n), alpha := s.get (F.SPK_GUARD_RE_ALPHA n)
    fres := s.get (F.SPK_GUARD_XM_FRES n), qts := s.get (F.SPK_GUARD_XM_QTS n)
    xsens := s.get (F.SPK_GUARD_XL_XSENS n), xlim := s.get (F.SPK_GUARD_XL_XLIM n)
    rthC := s.get (F.SPK_GUARD_TC_RTH n), tauC := s.get (F.SPK_GUARD_TC_TAU n)
    rthM := s.get (F.SPK_GUARD_TM_RTH n), tauM := s.get (F.SPK_GUARD_TM_TAU n) } })

/-- Are the parameters of the excursion model nonzero (R150)? -/
def SpkModel.xOk (m : SpkModel) : Bool := [m.fres, m.qts, m.xsens, m.xlim].all (decide <| 0 < ·)

/-- Are the parameters of the thermal network nonzero (R150)? -/
def SpkModel.netOk (m : SpkModel) : Bool := [m.rthC, m.tauC, m.rthM, m.tauM].all (decide <| 0 < ·)

/-- Are those of the coil's resistance? -/
def SpkModel.coilOk (m : SpkModel) : Bool := decide (0 < m.re25) && decide (0 < m.alpha)

/-- Is a model parameter the guard needs zero (R150)? RE25 and ALPHA count whatever X_EN and T_EN say: the two conditions in R150's list
follow XLIM and TAU_M, and both models rest on the resistance (DESIGN CHOICE, log 181). -/
def State.spkCfgErr (s : State) (n : Nat) : Bool :=
  let m := (s.spkAt n).par
  !m.coilOk || (s.on (F.SPK_GUARD_CTRL_X_EN n) && !m.xOk) || (s.on (F.SPK_GUARD_CTRL_T_EN n) && !m.netOk)

/-- Show CFG_ERR while the guard is on (R150). -/
def State.spkCfgSync (s : State) (n : Nat) : State :=
  s.setB (F.SPK_GUARD_STATUS_CFG_ERR n) (s.on (F.SPK_GUARD_CTRL_EN n) && s.spkCfgErr n)

/-- RTH_C · P in 1/65,536 K (R148), with R_e(T_c) = RE25 · (1 + ALPHA · (T_c − 25 °C)) and the coil current squared `i2` in mA². -/
def State.spkCoilRise (s : State) (n : Nat) (i2 : Nat) (tc : Int) : Int :=
  let m := (s.spkAt n).par
  ((m.rthC : Int) * i2 * m.re25 * (65536 * 1000000 + (m.alpha : Int) * (tc - 25 * 65536))).fdiv (100 * 1000000000 * 1000000)

/-- One 1 ms step of the thermal model (R148) at a coil power that gives the rise `rp`; forward Euler in 1/65,536 °C. -/
def State.spkThermal (s : State) (n : Nat) (rp : Int) (t : Int × Int) : Int × Int :=
  let (tc, tm) := t
  let m := (s.spkAt n).par
  let rc : Int := m.rthC
  let rm : Int := m.rthM
  let ta := s.spkTa n
  (tc + divRne (rp - (tc - tm)) m.tauC,
   tm + divRne (rm * (tc - tm) - rc * (tm - ta)) (m.rthC * (100 * m.tauM)))

/-- `k` milliseconds of the thermal model with P = 0; it rests once a step changes nothing. -/
def State.spkThermalRun (s : State) (n : Nat) : Nat → Int × Int → Int × Int
  | 0, t => t
  | k + 1, t => if s.spkThermal n 0 t = t then t else s.spkThermalRun n k (s.spkThermal n 0 t)

/-- The highest coil temperature of the next `k` milliseconds at a constant coil power. -/
def State.spkThermalPeak (s : State) (n : Nat) (rp : Int) : Nat → Int × Int → Int
  | 0, t => t.1
  | k + 1, t => max t.1 (s.spkThermalPeak n rp k (s.spkThermal n rp t))

/-- Release step of REL in 1/65,536 dB per 1 ms (R147). -/
def guardRel : Nat → Int
  | 0 => 655 | 1 => 1311 | 2 => 3277 | _ => 6554

/-- g_th after one update (R147): lowered at once when T_coil would exceed TLIM within 1 s at the present coil power,
else raised at REL. -/
def State.spkThermalGain (s : State) (n : Nat) : Int :=
  let a := s.spkAt n
  let lim := (s.get (F.SPK_GUARD_TL_TLIM n) : Int) * 65536
  let t1 := s.spkThermalPeak n (s.spkCoilRise n a.sense.i2 a.tc) 1000 (a.tc, a.tm)
  let t0 := s.spkThermalPeak n 0 1000 (a.tc, a.tm)
  if t1 > lim then
    if t0 ≥ lim then gFloor
    else max gFloor (a.gTh + levelDb 10 65536 (lim - t0).toNat (t1 - t0).toNat)
  else min 0 (a.gTh + guardRel (s.get (F.SPK_GUARD_CTRL_REL n)))

/-- Does the guard apply g_seed only: a required parameter is zero, or the sense converters disagree (R150, R159)? -/
def State.spkSeedOnly (s : State) (n : Nat) : Bool :=
  s.on (F.SPK_GUARD_STATUS_CFG_ERR n) || (s.spkAt n).active.contains 7

/-- g_seed (R150): −0.25 × SEED_LIMIT dB until SEEDED; 0 dB with EN = 0. -/
def State.spkSeedGain (s : State) (n : Nat) : Int :=
  if !s.on (F.SPK_GUARD_CTRL_EN n) || s.on (F.SPK_GUARD_STATUS_SEEDED n) then 0
  else -(s.get (F.SPK_GUARD_TL_SEED_LIMIT n) : Int) * 16384

/-- g_x in force (R147): 0 dB with EN or X_EN at 0, or where g_seed alone applies. -/
def State.spkGx (s : State) (n : Nat) : Int :=
  if s.on (F.SPK_GUARD_CTRL_EN n) && s.on (F.SPK_GUARD_CTRL_X_EN n) && !s.spkSeedOnly n then (s.spkAt n).gX else 0

/-- g_th in force (R147). -/
def State.spkGth (s : State) (n : Nat) : Int :=
  if s.on (F.SPK_GUARD_CTRL_EN n) && s.on (F.SPK_GUARD_CTRL_T_EN n) && !s.spkSeedOnly n then (s.spkAt n).gTh else 0

/-- g_guard (R147): the lowest of the three. -/
def State.spkGuardGain (s : State) (n : Nat) : Int := min (min (s.spkGx n) (s.spkGth n)) (s.spkSeedGain n)

/-- P_pred = m × FS_PK² / RNOM as numerator and denominator in watts (R146). -/
def fsPk : Nat → Nat
  | 0 => 5 | 1 => 8 | 2 => 12 | 3 => 16 | _ => 20

/-- RNOM, at least 2 Ω (R146), in mΩ. -/
def State.spkRnom (s : State) (n : Nat) : Nat := max 2000 (s.get (F.SPK_LOAD_RNOM n))

/-- 20 W × k-code power over P_pred in 1/65,536 dB, before the code's own −0.25 dB a step. -/
def State.spkHeadroom (s : State) (n : Nat) : Int :=
  let a := s.spkAt n
  levelDb 10 65536 (20 * s.spkRnom n * 2 ^ 62) (a.avg * fsPk a.fs * fsPk a.fs * 1000)

/-- PROT fields (R152): GR, the flags of the lowest gain, and GUARD_EQ, the code of P_pred × g_guard²; LIMIT when GR leaves 0. -/
def State.spkProt (s : State) (n : Nat) : State :=
  let a := s.spkAt n
  let gg := s.spkGuardGain n
  let low := min a.gCeil gg
  let gr := (min 255 (divRne (-low) 16384)).toNat
  let least (g : Int) : Bool := decide (g < 0) && decide (g ≤ low)
  let x := least (s.spkGx n)
  let t := least (s.spkGth n)
  let seed := least (s.spkSeedGain n)
  let eq := if gg = 0 ∨ a.avg = 0 then 0 else (max 0 (min 240 (divRne (s.spkHeadroom n - gg) 16384))).toNat
  let s := s.when (decide (s.get (F.SPK_PROT_GR n) = 0) && decide (gr ≠ 0)) (·.irq (pgSPK n) 4)
  let s := ((s.set (F.SPK_PROT_GR n) gr).setB (F.SPK_PROT_CEIL_ACT n) (least a.gCeil)).setB (F.SPK_PROT_SEED_CAP n) seed
  ((s.setB (F.SPK_PROT_X_ACT n) x).setB (F.SPK_PROT_T_ACT n) t).set (F.SPK_PROT_GUARD_EQ n) eq

/-! ## Sense converters (R144, R148, R149) -/

/-- A sense sample of the voltage (`current` false) or the current, full scale 28.0 V and 6.0 A. -/
def SpkSense.take (q : SpkSense) (fres rate : Nat) (current : Bool) (x : Int) : SpkSense :=
  let b := Config.inBand fres rate (if current then q.bandI else q.bandV) x
  if current then
    { q with vi := q.vi + q.v * x, ii := q.ii + (x * x).toNat, count := q.count + 1
             bandI := b.1, blockVI := q.blockVI + q.v * b.2, blockII := q.blockII + (b.2 * b.2).toNat, blockN := q.blockN + 1 }
  else { q with v := x, bandV := b.1 }

/-- A millisecond ends: its sum joins those of the last 10 ms, and its mean i² holds in mA². -/
def SpkSense.ms (q : SpkSense) : SpkSense :=
  { q with past := ((q.vi, q.count) :: q.past).take 10, vi := 0, ii := 0, count := 0
           i2 := if q.count = 0 then 0 else (divRne (q.ii * 36000000) (q.count * 2 ^ 62)).toNat }

/-- The average of v × i over the last 10 ms in mW (R144); not below 0. -/
def SpkSense.power (q : SpkSense) : Nat :=
  let n := (q.past.map (·.2)).foldl (· + ·) 0
  if n = 0 then 0 else (divRne ((q.past.map (·.1)).foldl (· + ·) 0 * 168000) (n * 2 ^ 62)).toNat

/-- Is the block valid: an in-band current above 10 mA rms (R149)? -/
def SpkSense.valid (q : SpkSense) : Bool := decide (q.blockN * 2 ^ 62 < q.blockII * 360000)

/-- R_meas = Σ v·i / Σ i² in mΩ (R149). -/
def SpkSense.ohm (q : SpkSense) : Nat := (divRne (q.blockVI * 14000) (3 * q.blockII)).toNat

/-- A sense sample is delivered (R144). -/
def State.spkMeasure (s : State) (n : Nat) (current : Bool) (x : Int) : State :=
  s.modSpk n (fun a => { a with sense := a.sense.take a.par.fres a.rate current x })

/-- One millisecond of the overcurrent window (R159): OC_RETRIES returns to 0 when its 10 s are over. -/
def State.spkOcTime (s : State) (n : Nat) : State :=
  let s := s.modSpk n (fun a => { a with ocMs := a.ocMs + 1 })
  s.when (decide (10000 ≤ (s.spkAt n).ocMs)) (·.set (F.SPK_FAULT_CNT_OC_RETRIES n) 0)

/-- The thermal model's 1 ms step and g_th (R147, R148), while the network's parameters give the equations a meaning. -/
def State.spkHeat (s : State) (n : Nat) : State :=
  let a := s.spkAt n
  if a.par.netOk then
    let t := s.spkThermal n (s.spkCoilRise n a.sense.i2 a.tc) (a.tc, a.tm)
    let s := (s.modSpk n (fun a => { a with tc := t.1, tm := t.2 })).spkTemps n
    let g := s.spkThermalGain n
    s.modSpk n (fun a => { a with gTh := g })
  else s

/-- The 1 ms update (R144, R147, R148, R150): `pvdd` is the stage's PVDD in 10 mV, `temp` its temperature in 1/16 °C. -/
def State.spkGuardUpdate (s : State) (n pvdd : Nat) (temp : Int) : State :=
  s.event (.spk n) true (fun s =>
    let s := ((s.modSpk n (fun a => { a with sense := a.sense.ms })).spkOcTime n).spkLatch n
    let s := (s.set (F.SPK_MEAS_P_P n) (satTo 16 (s.spkAt n).sense.power)).set (F.SPK_MEAS_P_PVDD n) (satTo 16 pvdd)
    let s := s.setS (F.SPK_STAGE_T_TEMP n) temp
    let s := s.when (s.on (F.SPK_GUARD_CTRL_EN n)) (fun s =>
      ((s.spkCfgSync n).spkHeat n).modSpk n (fun a =>
        { a with gX := min 0 (a.gX + guardRel (s.get (F.SPK_GUARD_CTRL_REL n))) }))
    s.spkProt n)

/-- A valid resistance block of `r` mΩ (R149): RE, T_c, SEEDED, and OPEN_WARN above 64 Ω; a pilot ends. -/
def State.spkResistance (s : State) (n r : Nat) : State :=
  let m := (s.spkAt n).par
  let s := ((s.set (F.SPK_MEAS_Z_RE n) (satTo 16 r)).set (F.SPK_MEAS_Z_VALID n) 1).set (F.SPK_GUARD_STATUS_PILOT_ON n) 0
  let s := s.when m.coilOk (fun s =>
    let t := 25 * 65536 + divRne (((r : Int) - m.re25) * 65536 * 1000000) (m.re25 * m.alpha)
    (s.modSpk n (fun a => { a with tc := t })).spkTemps n)
  let s := s.modSpk n (fun a => { a with invalid := 0 })
  let s := s.when (!s.on (F.SPK_GUARD_STATUS_SEEDED n)) (fun s =>
    ((s.set (F.SPK_GUARD_STATUS_SEEDED n) 1).set (F.SPK_GUARD_STATUS_MODEL_FAULT n) 0).irq (pgSPK n) 5)
  (s.when (decide (64000 < r)) (fun s => (s.set (F.SPK_FLAGS_OPEN_WARN n) 1).irq (pgSPK n) 6)).spkProt n

/-- An invalid block (R149): the third in a row starts the pilot where PILOT_EN allows it. -/
def State.spkInvalid (s : State) (n : Nat) : State :=
  let s := s.modSpk n (fun a => { a with invalid := a.invalid + 1 })
  s.when (decide (3 ≤ (s.spkAt n).invalid) && s.on (F.SPK_GUARD_CTRL_PILOT_EN n) && !s.on (F.SPK_GUARD_STATUS_PILOT_ON n))
    (fun s => (s.set (F.SPK_GUARD_STATUS_PILOT_ON n) 1).modSpk n (fun a => { a with pilotPos := 0 }))

/-- A 100 ms resistance block ends (R149), and the excursion peak of its time shows. -/
def State.spkBlock (s : State) (n : Nat) : State :=
  s.event (.spk n) true (fun s =>
    let q := (s.spkAt n).sense
    let s := s.modSpk n (fun a => { a with sense := { a.sense with blockVI := 0, blockII := 0, blockN := 0 } })
    s.when (s.on (F.SPK_GUARD_CTRL_EN n)) (fun s =>
      let s := (s.set (F.SPK_GUARD_STATUS_X_PEAK n) (satTo 16 (s.spkAt n).xPeak)).modSpk n (fun a => { a with xPeak := 0 })
      if q.valid then s.spkResistance n q.ohm else s.spkInvalid n))

/-- A poisoned guard word or a lost guard bank (R150): the guard reseeds, at once or when its island returns. -/
def State.spkModelLost (s : State) (n : Nat) : State :=
  let s := s.modSpk n (fun a => { a with seededOnce := false })
  s.when (s.on (F.SPK_GUARD_CTRL_EN n)) (fun s =>
    let s := (s.set (F.SPK_GUARD_STATUS_MODEL_FAULT n) 1).set (F.SPK_GUARD_STATUS_SEEDED n) 0
    s.when (s.clocked (.spk n)) (·.spkSeed n))

/-- The model over a time with P = 0, after a wake or a resume (R151): the temperatures rise to at least T_a. A guard whose banks
were lost seeds instead (R150). -/
def State.spkElapsed (s : State) (n ms : Nat) : State :=
  s.when (s.on (F.SPK_GUARD_CTRL_EN n)) (fun s =>
    let a := s.spkAt n
    if !a.seededOnce then s.spkSeed n
    else
      let t := if a.par.netOk then s.spkThermalRun n ms (a.tc, a.tm) else (a.tc, a.tm)
      (s.modSpk n (fun a => { a with tc := max t.1 (s.spkTa n), tm := max t.2 (s.spkTa n) })).spkTemps n)

/-! ## Start, stop, reconfiguration -/

/-- May the channel run? -/
def State.spkAble (s : State) (n : Nat) : Bool :=
  s.on (F.PG_ENABLE (pgSPK n)) && s.on (F.SPK_CTRL_EN n) && s.islandOn (.spk n)

/-- The settings of the registers take effect. -/
def State.spkApply (s : State) (n : Nat) : State :=
  s.modSpk n (fun a => { a with rate := s.get (F.SPK_FMT_RATE n), filter := s.get (F.SPK_FMT_FILTER n), fs := s.get (F.SPK_FMT_FS n) })

/-- Step 1 of R154; the carrier's sweep begins at DIV = 512, going up (log 28). -/
def State.spkBegin (s : State) (n : Nat) : State :=
  let s := (s.spkApply n).modSpk n (fun a => { a with
    pop := .at0, car := ⟨s.get (F.SPK_PWM_SPREAD n), s.get (F.SPK_PWM_PHASE n), 512, true, 0⟩ })
  s.spkPhase n .waiting 5000

/-- May a start begin: able to run, and no cause above EN = 0 holds (R160)? -/
def State.spkMay (s : State) (n : Nat) : Bool :=
  s.spkAble n && decide ((s.spkAt n).phase = .off) && !s.spkStopped n && !s.collapsed

/-- Start a channel that may (R154). While QUIESCE holds it waits for the end of the quiesce. -/
def State.spkTryStart (s : State) (n : Nat) : State := s.when (s.spkMay n && !s.isQuiet (14 + n)) (·.spkBegin n)

/-- The stage is off (R155): pull-downs engaged; FAULT when a fault stopped it. -/
def State.spkOff (s : State) (n : Nat) : State :=
  (s.spkHiz n).spkPhase n (if s.spkStopped n && s.spkAble n then .fault else .off) 1000

/-- EN or ENABLE cleared (R155). A fault's stop and QUIESCE stand above it (R160). -/
def State.spkStop (s : State) (n : Nat) : State :=
  match (s.spkAt n).phase with
  | .off | .quiesced => s
  | .running | .unmuting | .recMute | .recRamp | .recFill | .stopping | .faultStop => s.spkDown n .stopping 1000
  | .uvRamp => s
  | .waiting | .fault => (s.spkHiz n).spkPhase n .off 1000

/-- EN written 0: latches that only firmware clears are released (R159). -/
def State.spkRelease (s : State) (n : Nat) : State :=
  s.modSpk n (fun a => { a with active := a.active.filter (fun c => decide (4 ≤ c)), latched := false })

/-- Drive a channel from its EN and its page's ENABLE. -/
def State.spkDrive (s : State) (n : Nat) : State :=
  if s.on (F.PG_ENABLE (pgSPK n)) && s.on (F.SPK_CTRL_EN n) then s.spkTryStart n else s.spkStop n

/-- Does step 2 of R154 go on: the PLLs run, PVDD lies between 4.4 V and 24.5 V (power-good alone before a first measurement), VHOLD is
above 3.8 V? -/
def State.spkSupplied (s : State) (n : Nat) : Bool :=
  let v := s.get (F.SPK_MEAS_P_PVDD n)
  s.spkClocks n && s.pins.pvdd && (decide (v = 0) || (decide (440 ≤ v) && decide (v ≤ 2450))) && s.on F.JCK_HOLD_STATUS_VHOLD_OK && !s.collapsed

/-- READY, and FAULT back at 0x00 but for a sense fault that still holds (R154 step 7, R162). -/
def State.spkReady (s : State) (n : Nat) : State :=
  (s.set (F.PG_FAULT (pgSPK n)) (if (s.spkAt n).active.contains 7 then 7 else 0)).irq (pgSPK n) 2

/-- Steps 2 to 6 of R154 done, where step 2's conditions hold. -/
def State.spkGo (s : State) (n : Nat) : State :=
  if s.spkSupplied n then
    let s := s.set (F.SPK_STATUS_HIZ n) 0
    let s := s.when (s.on (F.SPK_GUARD_CTRL_EN n) && !(s.spkAt n).seededOnce) (·.spkSeed n)
    if s.on (F.SPK_CTRL_MUTE n) then (s.spkPhase n .running 5000).spkReady n else s.spkPhase n .unmuting 5000
  else s.spkSync n 5000

/-- Step 2 of R115 for a speaker (R141). -/
def State.spkRefill (s : State) (n : Nat) : State :=
  let s := (s.spkApply n).modSpk n (fun a => { a with
    pop := .at0, win := [], fill := intFill (s.get (F.SPK_FMT_FILTER n)) * feHz s.fe })
  if s.spkClocks n then s.spkPhase n .recFill 1000 else (s.spkHiz n).spkPhase n .waiting 5000

/-- Effects of a write to SPKn_FMT (R141). The rule speaks of a running channel: one that waits in a start takes the settings at once,
one in the ramp of step 6 goes through R115 to RUNNING with no READY (DESIGN CHOICE, log 130). -/
def State.spkFmtWritten (s : State) (n : Nat) (old : Word) : State :=
  if s.get (F.SPK_FMT_RATE n) = bits old 0 4 ∧ s.get (F.SPK_FMT_FILTER n) = bits old 4 2 ∧ s.get (F.SPK_FMT_FS n) = bits old 8 3 then s
  else match (s.spkAt n).phase with
    | .running | .unmuting | .recRamp => s.spkDown n .recMute 1000
    | .recFill => s.spkRefill n
    | .waiting | .off | .fault | .quiesced => (s.spkApply n).spkSync n 5000
    | .recMute | .stopping | .faultStop | .uvRamp => s

/-- Effects of a write to SPKn_CTRL (R154, R155, R159). -/
def State.spkCtrlWritten (s : State) (n : Nat) : State :=
  let s := s.when (!s.on (F.SPK_CTRL_EN n)) (·.spkRelease n)
  (s.spkDrive n).spkSync n (mrampUs (s.get (F.SPK_CTRL_MRAMP n)))

/-- Effects of a write to SPKn_VOL (R139): as AOUTc_VOL. -/
def State.spkVolWritten (s : State) (n : Nat) : State :=
  let ms := match s.get (F.SPK_VOL_VRAMP n) with | 0 => 0 | 1 => 1 | 2 => 10 | _ => 100
  let len := if ms = 0 then 0 else samplesIn (ms * 1000) (feHz s.fe)
  let s := s.modSpk n (fun a => { a with vol := a.vol.to (s.get (F.SPK_VOL_GAIN n)) len })
  s.when (decide (len = 0)) (fun s => s.set (F.SPK_VOL_GAIN_NOW n) (s.spkAt n).vol.code)

/-- Effects of a write to SPKn_PWM (R143): with the channel OFF both take effect; else SPREAD at the sweep's next pass of
DIV = 512 and PHASE at the next start. -/
def State.spkPwmWritten (s : State) (n : Nat) : State :=
  s.when (decide ((s.spkAt n).phase = .off)) (·.modSpk n (fun a => { a with
    car := { a.car with spread := s.get (F.SPK_PWM_SPREAD n), phase := s.get (F.SPK_PWM_PHASE n) } }))

/-- The ceiling in force (R145): the larger code of BELLOWS and RATED. -/
def State.spkCeilSync (s : State) (n : Nat) : State :=
  s.set (F.SPK_CEIL_EFFECTIVE n) (max (s.get (F.SPK_CEIL_BELLOWS n)) (s.get (F.SPK_CEIL_RATED n)))

/-- Effects of a write to SPKn_GUARD_CTRL (R147, R149, R150): EN from 0 to 1 and RESEED seed the models; without EN or PILOT_EN no
pilot runs. -/
def State.spkGuardWritten (s : State) (n : Nat) (old : Word) (reseed : Bool) : State :=
  let on := s.on (F.SPK_GUARD_CTRL_EN n) && decide (bits old 0 1 = 0)
  let s := s.when on (·.spkLatch n)
  let s := s.when (on || reseed) (·.spkSeed n)
  let s := s.when (!s.on (F.SPK_GUARD_CTRL_EN n) || !s.on (F.SPK_GUARD_CTRL_PILOT_EN n)) (·.set (F.SPK_GUARD_STATUS_PILOT_ON n) 0)
  (s.spkCfgSync n).spkProt n

/-! ## Events -/

/-- SPK_START: the stage is powered and its interpolator filled. -/
def State.spkStarted (s : State) (n : Nat) : State :=
  s.event (.spk n) (decide ((s.spkAt n).phase = .waiting)) (·.spkGo n)

/-- The start ramp ends (R154 step 7). -/
def State.spkRunning (s : State) (n : Nat) : State :=
  s.event (.spk n) (decide ((s.spkAt n).phase = .unmuting)) (fun s =>
    ((s.modSpk n (fun a => { a with pop := if s.spkOpen n then .at1 else a.pop })).spkPhase n .running 5000).spkReady n)

/-- A stop sequence ends (R155, R157, R159): OFF or FAULT. The CRIT hold keeps the stage at zero differential above EN = 0,
overtemperature and the current limit (R157, R160), so theirs waits for its end. -/
def State.spkStopDone (s : State) (n : Nat) : State :=
  s.event (.spk n) (match (s.spkAt n).phase with | .stopping | .faultStop => !s.collapsed | .uvRamp => true | _ => false) (fun s =>
    (s.spkOff n).spkTryStart n)

/-- A fault of R159 holds: it joins the active causes and its code shows. -/
def State.spkFault (s : State) (n code : Nat) : State :=
  (s.modSpk n (fun a => { a with active := if a.active.contains code then a.active else code :: a.active })).fault (pgSPK n) code

/-- A fault whose response is high impedance at once, STATE = FAULT (R159). -/
def State.spkHizFault (s : State) (n code : Nat) : State := ((s.spkFault n code).spkHiz n).spkPhase n .fault 1000

/-- Is the channel's stage in use, so that its detectors act? -/
def State.spkLive (s : State) (n : Nat) : Bool :=
  match (s.spkAt n).phase with | .off | .fault => false | _ => true

/-- Overcurrent (R159): `since` is the time since the first overcurrent of the present window, in ms. -/
def State.spkOc (s : State) (n since : Nat) : State :=
  s.event (.spk n) (s.spkLive n) (fun s =>
    let first := decide (s.get (F.SPK_FAULT_CNT_OC_RETRIES n) = 0) || decide (10000 < since)
    let k := if first then 1 else satInc 2 (s.get (F.SPK_FAULT_CNT_OC_RETRIES n))
    let s := (s.set (F.SPK_FAULT_CNT_OC_RETRIES n) k).set (F.SPK_FLAGS_OC n) 1
    let s := s.modSpk n (fun a => { a with latched := decide (3 ≤ k), ocMs := if first then 0 else a.ocMs })
    s.spkHizFault n 1)

/-- A recovery of R159: the cause ends; a channel with no cause left starts by R154, also one whose EN was set while the
cause held the start off (R160). -/
def State.spkRecover (s : State) (n code : Nat) : State :=
  s.event (.spk n) ((s.spkAt n).active.contains code) (fun s =>
    let s := s.modSpk n (fun a => { a with active := a.active.filter (fun c => decide (c ≠ code)) })
    if s.spkStopped n then s
    else match (s.spkAt n).phase with
      | .fault => (s.spkPhase n .off 1000).spkTryStart n
      | .off => s.spkTryStart n
      | _ => s)

/-- The overcurrent retry (R159): 1 s after, with OC_AUTO = 1 and no latch. -/
def State.spkOcRetry (s : State) (n : Nat) : State :=
  s.when (s.on (F.SPK_CTRL_OC_AUTO n) && !(s.spkAt n).latched) (·.spkRecover n 1)

/-- A fault whose response is a ramp and the stop sequence (R159): over `us`, then FAULT. A stage that drives nothing is there at
once; one that is off or in FAULT keeps its state, and the cause holds off its start; one that an undervoltage ramps down goes to high
impedance as that asks (R160). -/
def State.spkRampFault (s : State) (n code : Nat) (p : SpkPhase) (us : Nat) : State :=
  let s := s.spkFault n code
  match (s.spkAt n).phase with
  | .off | .fault => s
  | .waiting => (s.spkHiz n).spkPhase n .fault 1000
  | .uvRamp => s.spkPress n us
  | _ => s.spkDown n p us

/-- Sustained current limit (R159). -/
def State.spkCbc (s : State) (n : Nat) : State :=
  s.event (.spk n) (s.spkLive n) (fun s => (s.set (F.SPK_FLAGS_CBC n) 1).spkRampFault n 2 .faultStop 1000)

/-- DC at the output (R159). -/
def State.spkDc (s : State) (n : Nat) : State :=
  s.event (.spk n) (s.spkLive n) (fun s => (s.set (F.SPK_FLAGS_DC n) 1).spkHizFault n 3)

/-- The stage sensor's warning (R159): above 125 °C it sets, below 120 °C it clears; `temp` in 1/16 °C. -/
def State.spkOtWarn (s : State) (n : Nat) (temp : Int) : State :=
  s.event (.spk n) true (fun s =>
    let s := s.setS (F.SPK_STAGE_T_TEMP n) temp
    if temp > 2000 then
      (s.when (!s.on (F.SPK_STATUS_OT_WARN_NOW n)) (·.irq (pgSPK n) 7)).set (F.SPK_STATUS_OT_WARN_NOW n) 1
    else if temp < 1920 then s.set (F.SPK_STATUS_OT_WARN_NOW n) 0
    else s)

/-- Stage overtemperature (R159), also of a stage that is off. -/
def State.spkOt (s : State) (n : Nat) : State :=
  s.event (.spk n) true (fun s => (s.set (F.SPK_FLAGS_OT n) 1).spkRampFault n 4 .faultStop 1000)

/-- PVDD undervoltage (R157, R159): pop_gain ramps to zero over 150 µs, then high impedance; at once where it is zero. -/
def State.spkUv (s : State) (n : Nat) : State :=
  s.event (.spk n) true (fun s =>
    let s := (s.set (F.SPK_FLAGS_UV n) 1).spkRampFault n 5 .uvRamp 150
    s.when (decide ((s.spkAt n).phase = .uvRamp) && (s.spkAt n).pop.zero) (·.spkOff n))

/-- PVDD overvoltage (R159). -/
def State.spkOv (s : State) (n : Nat) : State :=
  s.event (.spk n) true (fun s =>
    let s := s.set (F.SPK_FLAGS_OV n) 1
    if s.spkLive n then s.spkHizFault n 6 else s.spkFault n 6)

/-- Sense fault (R159): the guard applies g_seed only; the channel plays on. -/
def State.spkSense (s : State) (n : Nat) : State :=
  s.event (.spk n) (s.spkLive n) (fun s => ((s.set (F.SPK_FLAGS_SENSE n) 1).spkFault n 7).spkProt n)

/-- One second of agreement (R159): the sense fault ends and the guard reseeds. -/
def State.spkSenseOk (s : State) (n : Nat) : State :=
  s.event (.spk n) ((s.spkAt n).active.contains 7) (fun s =>
    let s := (s.modSpk n (fun a => { a with active := a.active.filter (fun c => decide (c ≠ 7)) })).unfault (pgSPK n) 7
    (s.when (s.on (F.SPK_GUARD_CTRL_EN n)) (·.spkSeed n)).spkProt n)

/-- A family PLL is lost (R140, R159, R272): the 48 kHz one stops the stage with CLK; either makes the channel wait. -/
def State.spkClockLost (s : State) (fam : Nat) : State :=
  s.forAll 4 (fun s n =>
    let cut (s : State) : State := s.when (decide (fam = 0)) (fun s => ((s.set (F.SPK_FLAGS_CLK n) 1).fault (pgSPK n) 8).spkHiz n)
    match (s.spkAt n).phase with
    | .off | .fault => s
    | .quiesced => cut s
    | .waiting => (cut s).spkSync n 5000
    | .stopping | .faultStop | .uvRamp => if fam = 0 ∨ rateFamily (s.spkAt n).rate = 1 then (cut s).spkOff n else s
    | _ => if fam = 0 ∨ rateFamily (s.spkAt n).rate = 1 then ((cut s).spkHiz n).spkBegin n else s)

/-- A family PLL runs locked: waiting channels show STARTING (R154 step 2). -/
def State.spkClockUp (s : State) : State :=
  s.forAll 4 (fun s n => s.when (decide ((s.spkAt n).phase = .waiting)) (·.spkSync n 5000))

/-- The CRIT hold (R157 step 1): pop_gain ramps to zero over 150 µs. -/
def State.spkCollapse (s : State) : State := s.forAll 4 (fun s n => (s.spkSync n 150).spkPress n 150)

/-- Step 2 of R157: a channel the hold has brought to zero shows HOLD_MUTE. -/
def State.spkHeld (s : State) : State :=
  s.forAll 4 (fun s n => s.when (s.collapsed && (s.spkAt n).pop.zero) (·.set (F.SPK_STATUS_HOLD_MUTE n) 1))

/-- The collapse restart (R157 step 4); a channel the hold kept from starting starts (R160). -/
def State.spkCollapseEnd (s : State) : State :=
  s.forAll 4 (fun s n => ((s.set (F.SPK_STATUS_HOLD_MUTE n) 0).spkSync n 5000).spkTryStart n)

/-- Is every output at zero gain? -/
def State.outsSilent (s : State) : Bool :=
  (List.range 8).all (fun c => !(s.aoutAt c).live || (s.aoutAt c).pop.zero) && (List.range 4).all (fun n => (s.spkAt n).pop.zero)

/-- A collapse whose ramps have ended: HOLD_MUTE (R157), and MUTED when every output is at zero (R120 step 3). -/
def State.collapseSeen (s : State) : State :=
  (s.when (s.pins.crit && !s.on F.JCK_HOLD_STATUS_MUTED && s.outsSilent) (·.aoutMuted)).spkHeld

/-- Freeze (R158): every stage at high impedance. -/
def State.spkFreeze (s : State) : State := s.forAll 4 (fun s n => s.spkHiz n)

/-- Resume in RUN (R158): each channel that was running starts from step 2. -/
def State.spkResume (s : State) : State :=
  s.forAll 4 (fun s n =>
    match (s.spkAt n).phase with
    | .off | .fault | .waiting | .quiesced => s
    | .stopping | .faultStop | .uvRamp => s.spkOff n
    | _ => s.spkBegin n)

/-- QUIESCE (R156 Q1, Q2): pop_gain ramps to zero over 150 µs, STATE = QUIESCED, a pilot ends; a reconfiguration has then taken its
new settings, a start has ended where it stood (log 137). It stands above EN = 0 and below the faults (R160). -/
def State.spkQuiesce (s : State) (n : Nat) : State :=
  let s := s.set (F.SPK_GUARD_STATUS_PILOT_ON n) 0
  match (s.spkAt n).phase with
  | .running | .unmuting | .recRamp | .stopping | .waiting => s.spkDown n .quiesced 150
  | .recMute | .recFill => (s.spkApply n).spkDown n .quiesced 150
  | .faultStop | .uvRamp => s.spkPress n 150
  | .off | .quiesced | .fault => s

/-- Clock gating at S2: the stage stands at zero differential; a fault's stop is over. -/
def State.spkGate (s : State) : State :=
  s.forAll 4 (fun s n => match (s.spkAt n).phase with
    | .quiesced => s.modSpk n (fun a => { a with pop := .at0, out := 0, drive := 0 })
    | .faultStop | .uvRamp => s.spkOff n
    | _ => s)

/-- Isolation at S4 (R156 Q3). -/
def State.spkIsolate (s : State) : State := s.forAll 4 (fun s n => s.spkHiz n)

/-- Unwind before Q3 (R156): pop_gain ramps up over 5 ms. What another cause did meanwhile stands: EN = 0 stops the channel, a lost
clock makes it start from step 2, and one whose EN was set starts. -/
def State.spkUnwind (s : State) (n : Nat) : State :=
  match (s.spkAt n).phase with
  | .quiesced =>
    if !s.spkAble n then s.spkDown n .stopping 1000
    else if s.on (F.SPK_STATUS_HIZ n) || !s.spkClocks n then (s.spkHiz n).spkBegin n
    else s.spkPhase n .running 5000
  | _ => s.when (s.spkMay n) (·.spkBegin n)

/-- PD_SPKn returns to on, or wakes (R154, R156 Q4): the channel starts if no cause holds it (R160). -/
def State.spkReturn (s : State) (n : Nat) : State :=
  if (s.spkAt n).phase = .fault then s
  else
    let s := s.spkPhase n .off 1000
    if s.spkMay n then s.spkBegin n else s.spkHiz n

/-- Every channel at the return of its domain. -/
def State.spkRestart (s : State) : State := s.forAll 4 (fun s n => s.spkReturn n)

/-! ## One frame (R139, R146, R147) -/

/-- What follows when pop_gain has reached its end, or the interpolator is full (R115, R141, R157). -/
def State.spkRampEnd (s : State) (n : Nat) : State :=
  let a := s.spkAt n
  match a.phase with
  | .recMute => if a.pop.done then s.spkRefill n else s
  | .recFill => if a.fill = 0 then s.spkPhase n .recRamp 1000 else s
  | .recRamp => if a.pop.done then s.spkPhase n .running 1000 else s
  | .uvRamp => if a.pop.done then s.spkOff n else s
  | _ => s

/-- A gain in 1/65,536 dB applied to a sample, rounded to nearest; zero at the floor. -/
def gainBy (g x : Int) : Int := if g ≤ gFloor then 0 else if g ≥ 0 then x else divRne (x * dbLin g 65536) q60

/-- One carrier period (R143): the sweep takes a new SPREAD at DIV = 512, and DIV moves one count. -/
def Carrier.period (c : Carrier) (spread : Nat) : Carrier :=
  let c := if c.div = 512 then { c with spread := spread } else c
  let r := 15 * c.spread
  if r = 0 then c
  else if c.up then (if 512 + r ≤ c.div then { c with up := false, div := c.div - 1 } else { c with div := c.div + 1 })
  else if c.div ≤ 512 - r then { c with up := true, div := c.div + 1 } else { c with div := c.div - 1 }

/-- The carrier periods that fit the time held, at most `k`. -/
def Carrier.run (c : Carrier) (spread fe : Nat) : Nat → Carrier
  | 0 => c
  | k + 1 => if c.time < c.div * fe then c else ({ c with time := c.time - c.div * fe }.period spread).run spread fe k

/-- The ceiling limiter's next g_ceil (R146), at the channel's rate. -/
def State.spkCeilNext (s : State) (n : Nat) : Int :=
  let a := s.spkAt n
  let k := s.get (F.SPK_CEIL_EFFECTIVE n)
  let ms := samplesIn 1000 (rateHz a.rate)
  if k = 255 then max gFloor (a.gCeil - ceilDiv (120 * 65536) ms)
  else
    let t := if a.avg = 0 then 0 else min 0 (s.spkHeadroom n - (k : Int) * 16384)
    if t ≤ a.gCeil then max gFloor t else min t (max gFloor a.gCeil + ((16384 / ms : Nat) : Int))

/-- The limiter after a sample (R146): the 10 ms average of y², and g_ceil of the next sample. -/
def State.spkLimit (s : State) (n : Nat) (y : Int) : State :=
  let a := s.spkAt n
  let k := 2 ^ 30 - divRne (expQ (-(100 * (q60 : Int)) / (rateHz a.rate : Int))) (2 ^ 30)
  let m := (a.avg : Int) + divRne ((y * y - (a.avg : Int)) * k) (2 ^ 30)
  let s := s.modSpk n (fun a => { a with avg := m.toNat })
  let g := s.spkCeilNext n
  s.modSpk n (fun a => { a with gCeil := g })

/-- Excursion of the next sample in 1/10,240 µm, from an output sample (R147). -/
def State.spkExcursion (s : State) (n : Nat) (v : Int) : Int :=
  let a := s.spkAt n
  let c := Config.excursion a.par.fres a.par.qts a.rate
  let u := (v * (fsPk a.fs : Int) * (a.par.xsens : Int) * 1024).fdiv (2 ^ 31)
  divRne (c.1 * u - c.2.1 * a.x1 - c.2.2 * a.x2) (2 ^ 30)

/-- Clip level of the stage in mV (R142), from RNOM and the measured PVDD. -/
def State.spkClipMv (s : State) (n : Nat) : Nat :=
  82 * s.get (F.SPK_MEAS_P_PVDD n) * 10 * s.spkRnom n / (100 * (s.spkRnom n + 465))

/-- The largest sample the supply lets out (R141, R142); none before PVDD was measured. -/
def State.spkClip (s : State) (n : Nat) : Option Int :=
  if s.on (F.SPK_MEAS_P_PVDD n) then some ((s.spkClipMv n * 2 ^ 31 / (fsPk (s.spkAt n).fs * 1000) : Nat) : Int) else none

/-- A sample as the stage lets it out: full scale (R139), then the supply (R141). -/
def State.spkBound (s : State) (n : Nat) (x : Int) : Int :=
  match s.spkClip n with
  | some m => max (-m) (min m (sat32 x))
  | none => sat32 x

/-- The pilot's next sample (R149): FRES / 8, at least 4 Hz, at the level that gives 20 mA rms in the load. -/
def State.spkPilot (s : State) (n : Nat) : Int :=
  let a := s.spkAt n
  if s.on (F.SPK_GUARD_STATUS_PILOT_ON n) then
    let peak : Nat := 28284271 * Config.pilotOhm n s.free * 2 ^ 31 / (1000000000000 * fsPk a.fs)
    divRne ((peak : Int) * sineQ a.pilotPos (80 * rateHz a.rate)) q60
  else 0

/-- The pilot moves on by one sample. -/
def State.spkPilotStep (s : State) (n : Nat) : State :=
  s.when (s.on (F.SPK_GUARD_STATUS_PILOT_ON n)) (·.modSpk n (fun a => { a with
    pilotPos := (a.pilotPos + max a.par.fres 320) % (80 * rateHz a.rate) }))

/-- The sum of R139 ahead of its clamp, at the protection gain `g`. -/
def State.spkSum (s : State) (n : Nat) (y pilot g : Int) : Int := fadeSample (s.spkAt n).pop (s.lsb 5 (16 + n)) (gainBy g y + pilot)

/-- Back off from a gain until `fits` holds. -/
def backOff (fits : Int → Bool) : Nat → Int → Int → Int
  | 0, _, _ => gFloor
  | k + 1, d, g => if fits g then g else backOff fits k (2 * d) (g - d)

/-- Lower g_x before a sample whose excursion would exceed XLIM at the gain in force (R147): by the ratio of what the limit leaves to
what the sample adds, and further where rounding still leaves it above. -/
def State.spkGuardX (s : State) (n : Nat) (y pilot : Int) : State :=
  let lim := ((s.spkAt n).par.xlim : Int) * 10240
  let exc (g : Int) : Int := s.spkExcursion n (s.spkBound n (s.spkSum n y pilot g))
  let fits (g : Int) : Bool := decide ((exc g).natAbs ≤ lim.natAbs)
  let now := min (s.spkAt n).gCeil (s.spkGuardGain n)
  s.when (s.on (F.SPK_GUARD_CTRL_EN n) && s.on (F.SPK_GUARD_CTRL_X_EN n) && !s.spkSeedOnly n && !fits now) (fun s =>
    let x := exc now
    let free := exc gFloor
    let goal := if x > 0 then lim else -lim
    let left := if x > free then goal - free else free - goal
    let step := if x > free then x - free else free - x
    let g := if left ≤ 0 ∨ step = 0 then gFloor else max gFloor (now + levelDb 20 65536 left.toNat step.toNat)
    s.modSpk n (fun a => { a with gX := backOff fits 16 1 g }))

/-- Does the stage drive a signal? -/
def Spk.live (a : Spk) : Bool :=
  match a.phase with
  | .unmuting | .running | .recMute | .recRamp | .stopping | .faultStop | .uvRamp => true
  | .quiesced => !a.pop.zero
  | _ => false

/-- A clamped or clipped sample (R139, R141). -/
def State.spkClipped (s : State) (n : Nat) : State :=
  (s.when (!s.on (F.SPK_FLAGS_CLIP n)) (·.irq (pgSPK n) 3)).set (F.SPK_FLAGS_CLIP n) 1

/-- One channel sample (R139, R146, R147): `x` is the sink stream. -/
def State.spkSample (s : State) (n : Nat) (x : Int) : State :=
  let y := mulGain x ((s.spkAt n).vol.lin (s.lsb 4 (16 + n)))
  let s := if (s.spkAt n).live then
      let pilot := s.spkPilot n
      let s := s.spkGuardX n y pilot
      let pre := s.spkSum n y pilot (min (s.spkAt n).gCeil (s.spkGuardGain n))
      let out := s.spkBound n pre
      (s.when (decide (out ≠ pre)) (·.spkClipped n)).modSpk n (fun a => { a with out := out, win := (out :: a.win).take 34 })
    else s.modSpk n (fun a => { a with out := 0 })
  -- the excursion model runs on the output
  let s := s.when (s.on (F.SPK_GUARD_CTRL_EN n)) (fun s =>
    let xn := s.spkExcursion n (s.spkAt n).out
    s.modSpk n (fun a => { a with x2 := a.x1, x1 := xn, xPeak := max a.xPeak (xn.natAbs / 10240) }))
  (s.spkPilotStep n).spkLimit n y

/-- What a frame brings to a channel's time: volume and pop_gain one frame on (log 19), GAIN_NOW, the fill, and the carrier of a
switching stage. -/
def State.spkTick (s : State) (n : Nat) : State :=
  let fe := feHz s.fe
  let spread := s.get (F.SPK_PWM_SPREAD n)
  let s := s.modSpk n (fun a => { a with
    vol := a.vol.step, pop := a.pop.step (samplesIn a.popUs fe), fill := a.fill - rateHz a.rate })
  let s := s.when (!s.on (F.SPK_STATUS_HIZ n)) (·.modSpk n (fun a =>
    { a with car := { a.car with time := a.car.time + 196608000 }.run spread fe 16 }))
  s.set (F.SPK_VOL_GAIN_NOW n) (s.spkAt n).vol.code

/-- The channel samples of a frame: those the sink took, or zeros at the channel's rate. -/
def State.spkTakes (s : State) (n : Nat) (feed : Option (List Int)) : State × List Int :=
  match feed with
  | some xs => (s.modSpk n (fun a => { a with credit := 0 }), xs)
  | none =>
    let c := (s.spkAt n).credit + rateHz (s.spkAt n).rate
    (s.modSpk n (fun a => { a with credit := c % feHz s.fe }), List.replicate (c / feHz s.fe) 0)

/-- One frame of a channel (R139): `feed` the samples its sink took, oldest first; none where the table gives no stream. -/
def State.spkFrame (s : State) (n : Nat) (feed : Option (List Int)) : State :=
  s.when (s.clocked (.spk n)) (fun s =>
    let (s, xs) := (s.spkTick n).spkTakes n feed
    let s := xs.foldl (fun s x => s.spkSample n x) s
    let drive := s.spkBound n (Config.interpolate (s.spkAt n).filter (s.spkAt n).rate (s.spkAt n).win)
    let s := s.modSpk n (fun a => { a with drive := if a.live then drive else 0 })
    (s.spkProt n).spkRampEnd n)

/-- The cycle-by-cycle limit in the last carrier period (R142, R161), as its comparator shows it. -/
def State.spkCbcNow (s : State) (n : Nat) (on : Bool) : State :=
  s.when (!s.on (F.SPK_STATUS_HIZ n)) (·.setB (F.SPK_STATUS_CBC_NOW n) on)

/-- Do the sense sources of the channel deliver (R144)? -/
def State.spkSenses (s : State) (n : Nat) : Bool :=
  match (s.spkAt n).phase with
  | .waiting => s.spkClocks n
  | .unmuting | .running | .recMute | .recFill | .recRamp | .stopping | .faultStop | .uvRamp => true
  | _ => false

/-- Does the condition of a SPK page's fault code still hold (R162)? -/
def State.spkFaultHolds (s : State) (n code : Nat) : Bool :=
  if code = 8 then !s.famUp 0 else (s.spkAt n).active.contains code

/-! ## Meanings of the events -/

/-- SPK_START (R154 steps 2 to 6). -/
def execSpkStart (n : Fin 4) (s : State) : Host.Outcome State Fault Refusal := .next (settle (s.spkStarted n))
/-- SPK_RUNNING (R154 step 7). -/
def execSpkRunning (n : Fin 4) (s : State) : Host.Outcome State Fault Refusal := .next (settle (s.spkRunning n))
/-- SPK_STOP_DONE (R155, R159). -/
def execSpkStopDone (n : Fin 4) (s : State) : Host.Outcome State Fault Refusal := .next (settle (s.spkStopDone n))
/-- SPK_GUARD_UPDATE (R147, R148). -/
def execSpkGuardUpdate (n : Fin 4) (pvdd : Nat) (temp : Int) (s : State) : Host.Outcome State Fault Refusal :=
  .next (settle (s.spkGuardUpdate n pvdd temp))
/-- SPK_RESISTANCE_BLOCK (R149). -/
def execSpkResistanceBlock (n : Fin 4) (s : State) : Host.Outcome State Fault Refusal := .next (settle (s.spkBlock n))
/-- SPK_OVERCURRENT (R159). -/
def execSpkOvercurrent (n : Fin 4) (since : Nat) (s : State) : Host.Outcome State Fault Refusal :=
  .next (settle (s.spkOc n since))
/-- SPK_OC_RETRY (R159). -/
def execSpkOcRetry (n : Fin 4) (s : State) : Host.Outcome State Fault Refusal := .next (settle (s.spkOcRetry n))
/-- SPK_CBC_FAULT (R159). -/
def execSpkCbcFault (n : Fin 4) (s : State) : Host.Outcome State Fault Refusal := .next (settle (s.spkCbc n))
/-- SPK_DC_FAULT (R159). -/
def execSpkDcFault (n : Fin 4) (s : State) : Host.Outcome State Fault Refusal := .next (settle (s.spkDc n))
/-- SPK_OT_WARN (R159). -/
def execSpkOtWarn (n : Fin 4) (temp : Int) (s : State) : Host.Outcome State Fault Refusal := .next (settle (s.spkOtWarn n temp))
/-- SPK_OT_FAULT (R159). -/
def execSpkOtFault (n : Fin 4) (s : State) : Host.Outcome State Fault Refusal := .next (settle (s.spkOt n))
/-- SPK_OT_RECOVER (R159). -/
def execSpkOtRecover (n : Fin 4) (s : State) : Host.Outcome State Fault Refusal := .next (settle (s.spkRecover n 4))
/-- SPK_PVDD_UV (R159). -/
def execSpkPvddUv (n : Fin 4) (s : State) : Host.Outcome State Fault Refusal := .next (settle (s.spkUv n))
/-- SPK_UV_RECOVER (R159). -/
def execSpkUvRecover (n : Fin 4) (s : State) : Host.Outcome State Fault Refusal := .next (settle (s.spkRecover n 5))
/-- SPK_PVDD_OV (R159). -/
def execSpkPvddOv (n : Fin 4) (s : State) : Host.Outcome State Fault Refusal := .next (settle (s.spkOv n))
/-- SPK_OV_RECOVER (R159). -/
def execSpkOvRecover (n : Fin 4) (s : State) : Host.Outcome State Fault Refusal := .next (settle (s.spkRecover n 6))
/-- SPK_SENSE_FAULT (R159). -/
def execSpkSenseFault (n : Fin 4) (s : State) : Host.Outcome State Fault Refusal := .next (settle (s.spkSense n))
/-- SPK_SENSE_RECOVER (R159). -/
def execSpkSenseRecover (n : Fin 4) (s : State) : Host.Outcome State Fault Refusal := .next (settle (s.spkSenseOk n))

end Sys2Proof.Machine
end

