-- ==== Sys2Proof/Machine/Pdm.lean ====
section
/-! DEFINITION. PDM microphones (chapter 09, R240 to R245, R257): clock groups, microphones, their samples. -/

namespace Sys2Proof.Machine

/-- Update a clock group. -/
def State.modPdm (s : State) (g : Nat) (f : PdmGrp → PdmGrp) : State := { s with pdm := vmod s.pdm g f }

/-- A microphone's record. -/
def State.micAt (s : State) (m : Nat) : Mic := vget s.mics m ⟨false, 0, .at1, 1000, .at1, 0, 0⟩

/-- Update a microphone. -/
def State.modMic (s : State) (m : Nat) (f : Mic → Mic) : State := { s with mics := vmod s.mics m f }

/-- Time unit of the PDM sequences: every engine rate and the listening rate divide it; ticks in a second. -/
def tickHz : Nat := 28224000

/-- FREQg of PDM_CLK_CTRL. -/
def F.PDM_FREQ (g : Nat) : Fld := if g = 0 then F.PDM_CLK_CTRL_FREQ0 else F.PDM_CLK_CTRL_FREQ1
/-- SETTLEg of PDM_CLK_CTRL. -/
def F.PDM_SETTLE (g : Nat) : Fld := if g = 0 then F.PDM_CLK_CTRL_SETTLE0 else F.PDM_CLK_CTRL_SETTLE1
/-- RATEg of PDM_FMT. -/
def F.PDM_RATE (g : Nat) : Fld := if g = 0 then F.PDM_FMT_RATE0 else F.PDM_FMT_RATE1
/-- FILTERg of PDM_FMT. -/
def F.PDM_FILTER (g : Nat) : Fld := if g = 0 then F.PDM_FMT_FILTER0 else F.PDM_FMT_FILTER1
/-- STATEg of PDM_STATUS. -/
def F.PDM_STATE (g : Nat) : Fld := if g = 0 then F.PDM_STATUS_STATE0 else F.PDM_STATUS_STATE1
/-- LISTENg of PDM_STATUS. -/
def F.PDM_LISTEN (g : Nat) : Fld := if g = 0 then F.PDM_STATUS_LISTEN0 else F.PDM_STATUS_LISTEN1
/-- Bit m of PDM_MIC_EN. -/
def F.PDM_MIC (m : Nat) : Fld := .mk A.PDM_MIC_EN m 1
/-- Bit m of PDM_MIC_STATUS.ABSENT. -/
def F.PDM_ABSENT (m : Nat) : Fld := .mk A.PDM_MIC_STATUS m 1

/-- Clock frequency of a code in Hz (R240). -/
def pdmHz : Nat → Nat
  | 1 => 768000 | 2 => 1536000 | 3 => 3072000 | 4 => 6144000 | 5 => 2822400 | 6 => 5644800 | _ => 0

/-- Is a rate valid for a clock code (R242): an integer division of at least 48 in the same family? -/
def pdmValid (freq rate : Nat) : Bool :=
  decide (pdmFam freq = rateFamily rate) && decide (0 < rateHz rate) && decide (pdmHz freq % max 1 (rateHz rate) = 0)
    && decide (48 * rateHz rate ≤ pdmHz freq)

/-- The clock group of a microphone (R241). -/
def State.micGroup (s : State) (m : Nat) : Nat := s.pdmGroup (m / 2)

/-- Is a microphone delivering samples (PDM_MIC_STATUS.RUNNING)? -/
def State.micRuns (s : State) (m : Nat) : Bool :=
  s.on (F.PDM_MIC m) && !s.on (F.PDM_ABSENT m) && decide ((s.micAt m).fill = 0)
    && pdmValid (s.pdmAt (s.micGroup m)).freq (s.pdmAt (s.micGroup m)).rate
    && (match (s.pdmAt (s.micGroup m)).phase with | .running | .rampUp | .changing => true | _ => false)

/-- Codes of PDM_STATUS.STATEg. -/
def pdmState : PdmPhase → Nat
  | .off => 0 | .waitClk => 1 | .settling => 2 | .filling => 3 | .rampUp | .running => 4 | .changing => 5 | .quiesced => 6

/-- Write the PDM status registers (R257). -/
def State.pdmSync (s : State) : State :=
  let s := s.forAll 2 (fun s g => s.set (F.PDM_STATE g) (pdmState (s.pdmAt g).phase))
  let s := s.set F.PDM_MIC_STATUS_RUNNING (bitsOf ((List.range 16).map s.micRuns))
  s.setB F.PDM_STATUS_PRIVACY s.privacy

/-- The clock code a group runs at: FREQg, or the listening block's own code while it uses the group (R312, R313). -/
def State.pdmCode (s : State) (g : Nat) : Nat :=
  if s.on (F.PDM_LISTEN g) then (if 2 ≤ s.get F.LST_STATUS_STOP_NOW then 1 else 3) else s.get (F.PDM_FREQ g)

/-- Does the group's clock source run (R240, R267)? -/
def State.pdmSource (s : State) (freq : Nat) : Bool :=
  if pdmFam freq = 1 then s.famUp 1 && s.clocked .listen else s.on F.CLK_FLL_STATUS_LOCKED && s.islandOn .listen

/-- Ticks of a group's decimator fill (R242). -/
def PdmGrp.fillTicks (g : PdmGrp) : Nat := fillCount g.filter * tickHz / max 1 (rateHz g.rate)

/-- Settle, when the clock runs (R243 step 3). -/
def State.pdmSettle (s : State) (g : Nat) : State :=
  if s.pdmSource (s.pdmAt g).freq then
    s.modPdm g (fun p => { p with phase := .settling, left := s.get (F.PDM_SETTLE g) * tickHz / 1000, fade := .at0 })
  else s.modPdm g (fun p => { p with phase := .waitClk, fade := .at0 })

/-- Is a deferred change waiting? -/
def State.pdmHeld (s : State) : Bool := (s.pdmAt 0).held || (s.pdmAt 1).held

/-- CLKSEL takes effect (R243 step 2) once no group still ramps down or holds its change (R34): the microphones that change groups
start anew. -/
def State.pdmAdopt (s : State) : State :=
  let sel := s.get F.PDM_LINE_CLKSEL
  let was := (s.pdmAt 1).lines
  let wait := decide ((s.pdmAt 0).phase = .changing) || decide ((s.pdmAt 1).phase = .changing) || s.pdmHeld
  s.when (!wait && decide (sel ≠ was)) (fun s =>
    let s := (s.modPdm 1 (fun p => { p with lines := sel })).modPdm 0 (fun p => { p with lines := 255 - sel })
    s.forAll 16 (fun s m => s.when (decide (sel / 2 ^ (m / 2) % 2 ≠ was / 2 ^ (m / 2) % 2))
      (·.modMic m (fun k => { k with fill := 0, fade := .at1, hpX := 0, hpY := 0 }))))

/-- R243 step 2: the clock stops and restarts with the registers' settings; an invalid rate is reported (R242). -/
def State.pdmApply (s : State) (g : Nat) : State :=
  let freq := s.pdmCode g
  let rate := s.get (F.PDM_RATE g)
  let s := s.modPdm g (fun p => { p with freq := freq, rate := rate, filter := s.get (F.PDM_FILTER g), held := false, phase := .waitClk, fade := .at0 }) |>.pdmAdopt
  let s := s.forAll 16 (fun s m => s.when (decide (s.micGroup m = g)) (·.modMic m (fun k => { k with fill := 0, fade := .at1, hpX := 0, hpY := 0 })))
  if freq = 0 ∨ !s.on (F.PG_ENABLE 0x29) then (s.modPdm g (fun p => { p with phase := .off, fade := .at0 })).pdmSync
  else
    let s := s.when (!pdmValid freq rate && !(s.on (F.PDM_LISTEN g) && decide (freq = 1))) (fun s => ((s.set F.PDM_FLAGS_CFG_ERR 1).fault 0x29 1).irq 0x29 6)
    (s.pdmSettle g).pdmSync

/-- The change sequence of a group (R243): a group that delivers ramps down first. -/
def State.pdmChange (s : State) (g : Nat) : State :=
  match (s.pdmAt g).phase with
  | .running | .rampUp => (s.modPdm g (fun p => { p with phase := .changing, fade := p.fade.turn false })).pdmSync
  | .quiesced => s
  | _ => s.when (s.islandOn .listen) (·.pdmApply g)

/-- A host change of a group the listening block uses is held while voice is present (R34, R243, R315). -/
def State.pdmRequest (s : State) (g : Nat) : State :=
  if s.on (F.PDM_LISTEN g) && s.on F.LST_STATUS_VOICE then
    (s.modPdm g (fun p => { p with held := true })).set F.LST_STATUS_DEFER_PENDING 1
  else s.pdmChange g

/-- The deferred changes run. -/
def State.pdmRunHeld (s : State) : State :=
  s.forAll 2 (fun s g => s.when (s.pdmAt g).held (fun s => (s.modPdm g (fun p => { p with held := false })).pdmChange g))

/-- Effects of a write to PDM_CLK_CTRL, PDM_LINE or PDM_FMT (R243); the words before it. A change of CLKSEL takes both groups: with
one of them held for listening (R34), neither moves. -/
def State.pdmWritten (s : State) (clk line fmt : Word) : State :=
  let hold := s.on F.LST_STATUS_VOICE && (s.on (F.PDM_LISTEN 0) || s.on (F.PDM_LISTEN 1))
  if !s.on (F.PG_ENABLE 0x29) then s.pdmAdopt
  else if hold && decide (bits line 0 8 ≠ s.get F.PDM_LINE_CLKSEL) then
    (s.forAll 2 (fun s g => s.modPdm g (fun p => { p with held := true }))).set F.LST_STATUS_DEFER_PENDING 1
  else
    s.forAll 2 (fun s g =>
      let freq := decide (bits clk (4 * g) 3 ≠ s.get (F.PDM_FREQ g))
      let rate := decide (bits fmt (8 * g) 4 ≠ s.get (F.PDM_RATE g)) || decide (bits fmt (8 * g + 4) 2 ≠ s.get (F.PDM_FILTER g))
      let sel := decide (bits line 0 8 ≠ s.get F.PDM_LINE_CLKSEL)
      s.when ((freq && !s.on (F.PDM_LISTEN g)) || rate || sel) (·.pdmRequest g))

/-- Setting or clearing the page's ENABLE (R258). -/
def State.pdmEnableWritten (s : State) : State :=
  if s.on (F.PG_ENABLE 0x29) then
    s.when (s.islandOn .listen) (·.forAll 2 (fun s g => s.when (decide ((s.pdmAt g).phase = .off)) (·.pdmApply g)))
  else
    (s.forAll 2 (fun s g => s.modPdm g (fun p => { p with phase := .off, fade := .at0, held := false }))).pdmAdopt.pdmSync

/-- Effects of a write to PDM_MIC_EN (R243): a microphone joins a running group at its own fill. -/
def State.micsWritten (s : State) (old : Word) : State :=
  (s.forAll 16 (fun s m =>
    let g := s.pdmAt (s.micGroup m)
    if s.on (F.PDM_MIC m) && decide (bits old m 1 = 0) && (decide (g.phase = .running) || decide (g.phase = .rampUp)) then
      s.modMic m (fun k => { k with fill := fillCount g.filter, fade := ⟨0, 1, true⟩, fadeUs := 1000, hpX := 0, hpY := 0 })
    else s)).pdmSync

/-- Time passes for the groups: settle, fill and the end of a ramp down (R243); `frames` is a millisecond in steps. -/
def State.pdmTick (s : State) (ticks frames : Nat) : State :=
  (s.forAll 2 (fun s g =>
    let p := s.pdmAt g
    match p.phase with
    | .changing =>
      let f := p.fade.step frames
      let s := s.modPdm g (fun p => { p with fade := f })
      s.when f.zero (·.pdmApply g)
    | .settling =>
      s.modPdm g (fun p => if p.left ≤ ticks then { p with phase := .filling, left := p.fillTicks } else { p with left := p.left - ticks })
    | .filling =>
      s.modPdm g (fun p => if p.left ≤ ticks then { p with phase := .rampUp, left := 0, fade := ⟨0, 1, true⟩ }
        else { p with left := p.left - ticks })
    | .rampUp => s.modPdm g (fun p => { p with fade := p.fade.step frames })
    | _ => s)).pdmSync

/-- The group's ramp up ends (R243 step 5). -/
def State.pdmReady (s : State) (g : Nat) : State :=
  let p := (s.pdmAt g).phase
  s.event .listen (decide (p = .rampUp) || decide (p = .filling)) (fun s =>
    ((s.modPdm g (fun p => { p with phase := .running, fade := .at1, left := 0 })).pdmSync).irq 0x29 (2 + g))

/-- A microphone is absent (R244). -/
def State.micAbsent (s : State) (m : Nat) : State :=
  s.event .listen (s.on (F.PDM_MIC m) && !s.privacy && !s.on (F.PDM_ABSENT m)) (fun s =>
    ((s.set (F.PDM_ABSENT m) 1).irq 0x29 4).pdmSync)

/-- A microphone is back (R244): it ramps up from zero over 5 ms. -/
def State.micPresent (s : State) (m : Nat) : State :=
  s.event .listen (s.on (F.PDM_ABSENT m)) (fun s =>
    (((s.set (F.PDM_ABSENT m) 0).modMic m (fun k => { k with fade := ⟨0, 1, true⟩, fadeUs := 5000 })).irq 0x29 4).pdmSync)

/-- One decimated sample of a microphone, `raw` in 24-bit LSB before saturation (R242 to R245). A poisoned ring word reads as zero
(R32). -/
def State.micSample (s : State) (m : Nat) (raw : Int) : State × Int :=
  let k := s.micAt m
  let g := s.pdmAt (s.micGroup m)
  let hz := rateHz g.rate
  if !s.clocked .listen || !s.on (F.PDM_MIC m) then (s, 0)
  else if 0 < k.fill then (s.modMic m (fun k => { k with fill := k.fill - 1 }), 0)
  else if !s.micRuns m then (s, 0)
  else
    let x := if s.privacy then 0 else raw
    let clip := decide (x > 0x7FFFFF) || decide (x < -0x800000)
    let f : Fld := .mk A.PDM_CLIP m 1
    let s := s.when (clip && !s.on f) (·.irq 0x29 5)
    let s := s.when clip (·.set f 1)
    let x := sat32 ((max (-0x800000) (min 0x7FFFFF x)) * 256)
    let fc := dcCorner (s.get F.PDM_FMT_DC_HPF)
    let y := if fc = 0 then x else sat32 (dcStep (dcPole fc hz) x k.hpX k.hpY)
    let s := s.modMic m (fun k => { k with
      bad := false, hpX := x, hpY := y, fade := k.fade.step (samplesIn k.fadeUs hz)
      privFade := if s.privacy then .at0 else (k.privFade.turn true).step (samplesIn 5000 hz) })
    let bad := k.bad
    let k := s.micAt m
    let y := fadeSample g.fade (s.lsb (2300 + m) 0) y
    let y := fadeSample k.fade (s.lsb (2300 + m) 1) y
    (s, if bad then 0 else to24 (fadeSample k.privFade (s.lsb (2300 + m) 2) y))

/-- The clock source of a family of codes has stopped: its groups wait (R240, R267). -/
def State.pdmClockLost (s : State) (fam : Nat) : State :=
  (s.forAll 2 (fun s g =>
    let p := s.pdmAt g
    s.when (decide (pdmFam p.freq = fam) && decide (0 < p.freq) && decide (p.phase ≠ .off) && decide (p.phase ≠ .quiesced))
      (·.modPdm g (fun p => { p with phase := .waitClk, fade := .at0 })))).pdmSync

/-- The clock source runs again: waiting groups start. -/
def State.pdmClockUp (s : State) (fam : Nat) : State :=
  (s.forAll 2 (fun s g =>
    let p := s.pdmAt g
    s.when (decide (pdmFam p.freq = fam) && decide (p.phase = .waitClk)) (·.pdmSettle g))).pdmSync

/-- QUIESCE (R243): unless the listening block keeps PD_LISTEN on, the clocks stop low. -/
def State.pdmQuiesce (s : State) (keep : Bool) : State :=
  s.when (!keep) (fun s => (s.forAll 2 (fun s g =>
    s.when (decide ((s.pdmAt g).phase ≠ .off)) (·.modPdm g (fun p => { p with phase := .quiesced, fade := .at0 })))).pdmSync)

/-- After a wake or an abort the groups start again (R243). -/
def State.pdmRestart (s : State) : State :=
  s.forAll 2 (fun s g => s.when (decide ((s.pdmAt g).phase = .quiesced)) (·.pdmApply g))

/-- MIC_PRIVACY_N as the microphones see it (R245). -/
def State.pdmPrivacy (s : State) : State := s.pdmSync

/-- The condition of the PDM page's fault code (R258). -/
def State.pdmFaultHolds (s : State) : Bool :=
  (List.range 2).any (fun g => decide (0 < (s.pdmAt g).freq) && decide ((s.pdmAt g).phase ≠ .off)
    && !(s.on (F.PDM_LISTEN g) && decide ((s.pdmAt g).freq = 1)) && !pdmValid (s.pdmAt g).freq (s.pdmAt g).rate)

/-! ## Meanings of the events -/

/-- PDM_GROUP_READY (R243). -/
def execPdmGroupReady (g : Fin 2) (s : State) : Host.Outcome State Fault Refusal := .next (settle (s.pdmReady g))
/-- PDM_MIC_ABSENT (R244). -/
def execPdmMicAbsent (m : Fin 16) (s : State) : Host.Outcome State Fault Refusal := .next (settle (s.micAbsent m))
/-- PDM_MIC_PRESENT (R244). -/
def execPdmMicPresent (m : Fin 16) (s : State) : Host.Outcome State Fault Refusal := .next (settle (s.micPresent m))

end Sys2Proof.Machine
end

