-- ==== Sys2Proof/Machine/Sram.lean ====
section
/-! DEFINITION. The shared SRAM's words by SRAM address (R408, R409, R411), bytes within them, and the wipe engine's start and
end (R418, R419). -/

namespace Sys2Proof.Machine

/-- SRAM address of word `w` of the region that begins at bank `b` (R409). -/
def sramAddr (b w : Nat) : Nat := b * 16384 + w

/-- The canonical form of the shared SRAM: addresses strictly rising, no listed word equal to what an unlisted address reads as. -/
def Memory.wf (l : List (Nat × Word)) : Bool := canonical (fun _ => 0#32) l

/-- Is the word at an SRAM address poisoned (R411)? -/
def State.wordPoisoned (s : State) (a : Nat) : Bool := s.poison.any (fun e => decide (e.1 = a))

/-- A word's data: zero when poisoned (R32, R411). -/
def State.sramWord (s : State) (a : Nat) : Word := if s.wordPoisoned a then 0 else lookup s.sram a 0

/-- Write a word; the write clears poison (R408). -/
def State.sramWrite (s : State) (a : Nat) (w : Word) : State :=
  let keep := s.poison.filter (fun e => decide (e.1 ≠ a))
  { s with sram := store s.sram a w 0, poison := keep }

/-- A byte of a region, `b` its first bank and `o` the byte offset; least significant byte first (R5). -/
def State.sramByte (s : State) (b o : Nat) : Nat := bits (s.sramWord (sramAddr b (o / 4))) (8 * (o % 4)) 8

/-- Write a byte of a region: the client writes the whole word (R408). -/
def State.sramPutByte (s : State) (b o v : Nat) : State :=
  let a := sramAddr b (o / 4)
  s.sramWrite a (setBits (s.sramWord a) (8 * (o % 4)) 8 v)

/-- Write bytes from an offset on. -/
def State.sramPutBytes (s : State) (b : Nat) : Nat → List Nat → State
  | _, [] => s
  | o, v :: t => (s.sramPutByte b o v).sramPutBytes b (o + 1) t

/-- Zero every word of the banks of a mask and their poison (R418). -/
def State.sramZero (s : State) (mask : Nat) : State :=
  let inside := fun (a : Nat) => decide (mask / 2 ^ (a / 16384) % 2 = 1)
  let words := s.sram.filter (fun e => !inside e.1)
  let keep := s.poison.filter (fun e => !inside e.1)
  { s with sram := words, poison := keep }

/-- Does a wipe run? -/
def State.wiping (s : State) : Bool := s.on F.MEM_WIPE_STATUS_ALL || s.on F.MEM_WIPE_BANKS_BUSY

/-- The banks of a mask show as being wiped, and with them the spare banks that serve one of them (R418). -/
def State.wipeShow (s : State) (mask : Nat) : State :=
  let s := s.set F.MEM_WIPE_BANKS_BUSY (s.get F.MEM_WIPE_BANKS_BUSY ||| mask)
  let covers (used of_ : Fld) := s.on used && decide (mask / 2 ^ s.get of_ % 2 = 1)
  let s := s.when (covers F.MEM_SPARE_STATUS_MBS0_USED F.MEM_SPARE_STATUS_MBS0_FOR) (·.set F.MEM_WIPE_STATUS_MBS0 1)
  s.when (covers F.MEM_SPARE_STATUS_MBS1_USED F.MEM_SPARE_STATUS_MBS1_FOR) (·.set F.MEM_WIPE_STATUS_MBS1 1)

/-- Start a bank wipe, or join the running one (R418, R419): the words read zero; the accesses wait for WIPE_DONE. -/
def State.wipeBanks (s : State) (mask cause : Nat) : State :=
  let s := ((s.when (!s.wiping) (·.inc F.MEM_WIPE_STATUS_WIPES)).sramZero mask).wipeShow mask
  s.when (!s.on F.MEM_WIPE_STATUS_ALL) (·.set F.MEM_WIPE_STATUS_WIPE_CAUSE cause)

end Sys2Proof.Machine
end

