-- ==== Sys2Proof/Machine/Spotter.lean ====
section
/-! DEFINITION. The keyword spotter's network (R320 to R323): the model image in the weight words of MB19 to MB21, its check,
and one inference. -/

namespace Sys2Proof.Machine

/-- Words the weight banks hold (R324). -/
def weightWords : Nat := 49152

/-- Weight word k of the image (R324). -/
def State.modelWord (s : State) (k : Nat) : Word := s.sramWord (sramAddr 19 k)

/-- A layer descriptor (R323). -/
structure Layer where
  type : Nat
  relu : Bool
  shift : Nat
  kernel : Nat
  stride : Nat
  inCh : Nat
  outCh : Nat
  mult : Nat
  wOff : Nat
  bOff : Nat
deriving DecidableEq, Repr

/-- Descriptor i of the image (R323). -/
def State.layerAt (s : State) (i : Nat) : Layer :=
  let a := s.modelWord (8 + 4 * i)
  let b := s.modelWord (9 + 4 * i)
  let d := s.modelWord (11 + 4 * i)
  ⟨bits a 0 8, decide (bits a 8 1 = 1), bits a 12 4, bits a 16 8, bits a 24 8, bits b 0 16, bits b 16 16,
    (s.modelWord (10 + 4 * i)).toNat, bits d 0 16, bits d 16 16⟩

/-- Time steps a layer gives for `t` (R323). -/
def Layer.steps (l : Layer) (t : Nat) : Nat :=
  match l.type with
  | 2 | 3 => (t - l.kernel) / l.stride + 1
  | _ => 1

/-- Weights of a layer for `t` time steps, in bytes. -/
def Layer.weights (l : Layer) (t : Nat) : Nat :=
  match l.type with
  | 1 => l.outCh * (t * l.inCh)
  | 2 => l.outCh * l.kernel * l.inCh
  | 3 => l.kernel * l.inCh
  | _ => 0

/-- Multiply-accumulates of a layer (R323). -/
def Layer.macs (l : Layer) (t : Nat) : Nat :=
  match l.type with
  | 1 => l.outCh * (t * l.inCh)
  | 2 => l.steps t * (l.outCh * l.kernel * l.inCh)
  | 3 => l.steps t * (l.kernel * l.inCh)
  | _ => 0

/-- Is a layer's shape good for `t` time steps of `ch` channels, its words inside an image of `len` words? -/
def Layer.good (l : Layer) (t ch len : Nat) : Bool :=
  decide (1 ≤ l.type) && decide (l.type ≤ 4) && decide (l.inCh = ch) && decide (1 ≤ l.outCh) && decide (1 ≤ l.mult)
    && decide (l.mult < 2 ^ 31)
    && (decide (l.type ≠ 2 ∧ l.type ≠ 3) ||
      (decide (1 ≤ l.kernel) && decide (l.kernel ≤ 32) && decide (1 ≤ l.stride) && decide (l.stride ≤ 8) && decide (l.kernel ≤ t)))
    && (decide (l.type < 3) || decide (l.outCh = l.inCh))
    && (decide (l.type = 4) || (decide (l.wOff + ceilDiv (l.weights t) 4 < len) && decide (l.bOff + l.outCh < len)))

/-- The check of the layers from index i: `t` and `ch` are the shape so far; the number of multiply-accumulates, or none
where a layer is wrong or the last does not give `classes` outputs. -/
def State.layersCheck (s : State) (len classes : Nat) : Nat → Nat → Nat → Nat → Option Nat
  | 0, _, t, ch => if t * ch = classes then some 0 else none
  | n + 1, i, t, ch =>
    let l := s.layerAt i
    if l.good t ch len then (s.layersCheck len classes n (i + 1) (l.steps t) l.outCh).map (· + l.macs t) else none

/-- The image check (R324): LOAD_ERR, 0 where the image is good. `written` counts the words written. -/
def State.modelCheck (s : State) (written : Nat) : Nat :=
  let w := s.modelWord
  let len := (w 2).toNat
  if weightWords < written then 6
  else if w 0 ≠ 0x544F5053#32 ∨ w 1 ≠ 1#32 then 1
  else if len < 16 ∨ weightWords < len ∨ len ≠ written then 2
  else if s.poison.any (fun e => decide (sramAddr 19 0 ≤ e.1) && decide (e.1 < sramAddr 19 len)) then 7
  else if crc32 ((List.range (len - 1)).flatMap (fun k => wordBytes (w k).toNat)) ≠ (w (len - 1)).toNat then 3
  else
    let layers := bits (w 3) 0 8
    let classes := bits (w 3) 8 8
    let context := bits (w 3) 16 8
    if layers = 0 ∨ 32 < layers ∨ classes < 2 ∨ 16 < classes ∨ context = 0 ∨ 100 < context ∨ len < 9 + 4 * layers then 4
    else
      match s.layersCheck len classes layers 0 context 40 with
      | none => 4
      | some macs => if 393216 < macs ∨ (w 4).toNat ≠ macs then 5 else 0

/-- One int8 weight: byte `i` after word offset `off`. -/
def State.weightAt (s : State) (off i : Nat) : Int := signed 8 (bits (s.modelWord (off + i / 4)) (8 * (i % 4)) 8)

/-- Requantisation of a layer's result (R321). -/
def Layer.requant (l : Layer) (y : Int) : Int :=
  let y := signed 32 (unsigned 32 y)
  let y := if l.relu then max 0 y else y
  max (-128) (min 127 (divRne (y * (l.mult : Int)) (2 ^ (31 + l.shift))))

/-- Element (time, channel) of a tensor. -/
def tensorAt (x : List (List Int)) (t c : Nat) : Int := (x.getD t []).getD c 0

/-- The bias of an output channel. -/
def State.biasWord (s : State) (l : Layer) (o : Nat) : Int := (s.modelWord (l.bOff + o)).toInt

/-- A sum of products over indices below n. -/
def dotSum (n : Nat) (f : Nat → Int) : Int := (List.range n).foldl (fun a i => a + f i) 0

/-- One layer of the network (R321, R323) on [time][channel] features. -/
def State.runLayer (s : State) (l : Layer) (x : List (List Int)) : List (List Int) :=
  let t := x.length
  match l.type with
  | 1 =>
    let n := t * l.inCh
    [(List.range l.outCh).map (fun o => l.requant (s.biasWord l o +
      dotSum n (fun i => s.weightAt l.wOff (o * n + i) * tensorAt x (i / max 1 l.inCh) (i % max 1 l.inCh))))]
  | 2 =>
    (List.range (l.steps t)).map (fun u => (List.range l.outCh).map (fun o => l.requant (s.biasWord l o +
      dotSum (l.kernel * l.inCh) (fun i => s.weightAt l.wOff (o * (l.kernel * l.inCh) + i) *
        tensorAt x (u * l.stride + i / max 1 l.inCh) (i % max 1 l.inCh)))))
  | 3 =>
    (List.range (l.steps t)).map (fun u => (List.range l.outCh).map (fun c => l.requant (s.biasWord l c +
      dotSum l.kernel (fun k => s.weightAt l.wOff (k * l.inCh + c) * tensorAt x (u * l.stride + k) c))))
  | _ => [(List.range l.outCh).map (fun c => l.requant (dotSum t (fun u => tensorAt x u c)))]

/-- The layers in execution order. -/
def State.runLayers (s : State) : Nat → Nat → List (List Int) → List (List Int)
  | 0, _, x => x
  | n + 1, i, x => s.runLayers n (i + 1) (s.runLayer (s.layerAt i) x)

/-- The class scores of one inference (R321), from the newest CONTEXT frames, oldest first. -/
def State.inference (s : State) (frames : List (List Int)) : List Int :=
  (s.runLayers (s.get F.LST_MODEL_INFO_LAYERS) 0 frames).flatten

/-- The Hann window of 400 samples (R320), with 30 fractional bits. -/
def hann (n : Nat) : Nat :=
  let d := if Config.hannPeriodic then 400 else 399
  raisedCosine (2 * min n (d - n)) d

/-- Cosines of j/512 of a turn, with 30 fractional bits. -/
def turnCos : Array Int := ((List.range 512).map (fun j => (sineQ (j + 128) 512).fdiv (2 ^ 30))).toArray

/-- The windowed samples, the place of each beside it. -/
def hannWindow (win : List Int) : List (Nat × Int) := win.zipIdx.map (fun e => (e.2, (e.1 * (hann e.2 : Int)).fdiv (2 ^ 30)))

/-- Powers of bins 0 to 256 of the 512-point transform of a window of 400 samples (R320), in squared LSB. -/
def spotPowers (win : List Int) : List Nat :=
  let xs := hannWindow win
  (List.range 257).map (fun k =>
    let sum (q : Nat) : Int := xs.foldl (fun a e => a + e.2 * turnCos.getD ((k * e.1 + q) % 512) 0) 0
    ((sum 0).natAbs ^ 2 + (sum 384).natAbs ^ 2) / 2 ^ 60)

/-- The int8 feature of a band level in 1/65,536 dB (R320). -/
def melFeature (l : Int) : Int := max (-128) (min 127 (divRne (2 * (l + 90 * 65536)) 65536 - 128))

/-! IMA ADPCM (R327). -/

/-- Step sizes of IMA ADPCM. -/
def imaSteps : List Nat := [7, 8, 9, 10, 11, 12, 13, 14, 16, 17, 19, 21, 23, 25, 28, 31, 34, 37, 41, 45, 50, 55, 60, 66, 73, 80,
  88, 97, 107, 118, 130, 143, 157, 173, 190, 209, 230, 253, 279, 307, 337, 371, 408, 449, 494, 544, 598, 658, 724, 796, 876,
  963, 1060, 1166, 1282, 1411, 1552, 1707, 1878, 2066, 2272, 2499, 2749, 3024, 3327, 3660, 4026, 4428, 4871, 5358, 5894, 6484,
  7132, 7845, 8630, 9493, 10442, 11487, 12635, 13899, 15289, 16818, 18500, 20350, 22385, 24623, 27086, 29794, 32767]

/-- Movement of the step index by the magnitude bits of a nibble. -/
def imaMove : Nat → Int
  | 4 => 2 | 5 => 4 | 6 => 6 | 7 => 8 | _ => -1

/-- One sample: predictor and step index before, the nibble and both after. -/
def imaStep (pred : Int) (idx : Nat) (x : Int) : Nat × Int × Nat :=
  let step := imaSteps.getD idx 7
  let d := x - pred
  let sign := decide (d < 0)
  let m := d.natAbs
  let b2 := decide (step ≤ m)
  let m := if b2 then m - step else m
  let b1 := decide (step / 2 ≤ m)
  let m := if b1 then m - step / 2 else m
  let b0 := decide (step / 4 ≤ m)
  let mag := (if b2 then 4 else 0) + (if b1 then 2 else 0) + (if b0 then 1 else 0)
  let diff := step / 8 + (if b2 then step else 0) + (if b1 then step / 2 else 0) + (if b0 then step / 4 else 0)
  let p := max (-32768) (min 32767 (if sign then pred - diff else pred + diff))
  ((if sign then 8 else 0) + mag, p, (max 0 (min 88 ((idx : Int) + imaMove mag))).toNat)

/-- The nibbles of samples after the first, and the step index at the end. -/
def imaRun : Int → Nat → List Int → List Nat × Nat
  | _, idx, [] => ([], idx)
  | p, idx, x :: t =>
    let (n, p, idx) := imaStep p idx x
    let (ns, e) := imaRun p idx t
    (n :: ns, e)

/-- Nibbles to bytes, the first in the low half; the last high nibble is 0. -/
def packNibbles : List Nat → List Nat
  | [] => []
  | [a] => [a]
  | a :: b :: t => (a + 16 * b) :: packNibbles t

/-- A curd block (R327) of a span's samples at 16 bits: header bytes, payload bytes, step index after. -/
def curdBlock (idx : Nat) (xs : List Int) : List Nat × List Nat × Nat :=
  let x0 := xs.headD 0
  let (ns, e) := imaRun x0 idx xs.tail
  ([unsigned 16 x0 % 256, unsigned 16 x0 / 256, idx, 0], packNibbles ns, e)

end Sys2Proof.Machine
end

