-- ==== Sys2Proof/Machine/Lst.lean ====
section
/-! DEFINITION. The listening block (chapter 12, R311 to R337): its clock group and stops, its samples and history, the
voice-activity detector and the spotter, arming and the stream. What a wake does outside the block is in Wake.lean. -/

namespace Sys2Proof.Machine

/-- Update the listening block. -/
def State.modLst (s : State) (f : Lst → Lst) : State := { s with lst := f s.lst }

/-- Update the history stream. -/
def State.modHist (s : State) (f : Hist → Hist) : State := s.modLst (fun l => { l with hist := f l.hist })

/-- Task number of listening in the Bellows table (R397). -/
def taskLST : Nat := 1

/-- The clock group of listening (R311): a change of GROUP that is held has not taken effect (R335). -/
def State.lstGroup (s : State) : Nat := s.lst.heldGroup.getD (s.get F.LST_CFG_GROUP)

/-- The stop asked for (R312). -/
def State.lstWant (s : State) : Nat :=
  max (s.get F.LST_CFG_FORCE_STOP) (if s.lst.sleep then s.get F.LST_CFG_SLEEP_STOP else vget s.grants taskLST 0)

/-- The stop in effect. -/
def State.lstStop (s : State) : Nat := s.get F.LST_STATUS_STOP_NOW

/-- Is raw channel 1 used (R311)? -/
def State.lstTwo (s : State) : Bool := decide (s.get F.LST_SRC_RAW_COUNT = 2)

/-- Does microphone m belong to listening (R311)? -/
def State.lstOwns (s : State) (m : Nat) : Bool :=
  decide (s.get F.LST_SRC_RAW0 = m) || (s.lstTwo && decide (s.get F.LST_SRC_RAW1 = m)) ||
    decide (s.get F.LST_SRC_ARRAY_MASK / 2 ^ m % 2 = 1)

/-- Does microphone m run at the stop in effect (R312)? -/
def State.lstWants (s : State) (m : Nat) : Bool :=
  decide (s.get F.LST_SRC_RAW0 = m) || (s.lstTwo && decide (s.lstStop ≤ 2) && decide (s.get F.LST_SRC_RAW1 = m)) ||
    (decide (s.lstStop = 0) && decide (s.get F.LST_SRC_ARRAY_MASK / 2 ^ m % 2 = 1))

/-- The group that PDM_LINE.CLKSEL gives a microphone (R241, R311): the register's, unless its change is held (R34). -/
def State.lstMicGroup (s : State) (m : Nat) : Nat := if s.pdmHeld then s.micGroup m else s.get F.PDM_LINE_CLKSEL / 2 ^ (m / 2) % 2

/-- A listening microphone outside the group, or a group on a 44.1 kHz-family code (R311, R337)? A FREQ written while listening owns
the group has no effect (R313). -/
def State.lstBad (s : State) : Bool :=
  (List.range 16).any (fun m => s.lstOwns m && decide (s.lstMicGroup m ≠ s.lstGroup)) ||
    (!s.on (F.PDM_LISTEN s.lstGroup) && decide (5 ≤ s.get (F.PDM_FREQ s.lstGroup)))

/-- Listening needs the PDM page and a locked FLL (R311). -/
def State.lstClock (s : State) : Bool := s.on (F.PG_ENABLE 0x29) && s.on F.CLK_FLL_STATUS_LOCKED

/-- LST_STATUS.STATE (R336). -/
def lstState : LstPhase → Nat
  | .off => 0 | .waitClk => 1 | .starting => 2 | .listening => 3 | .quiesced => 5 | .fault => 6 | _ => 4

/-- Does the block write samples (R317): LISTENING or CHANGING? -/
def LstPhase.writes : LstPhase → Bool
  | .listening | .rampDown | .gapClock | .gapSettle | .gapFill | .rampUp => true
  | _ => false

/-- The valid complete spans (R328): how many, at most 124. -/
def State.histSpans (s : State) : Nat := min 124 (s.lst.total / 256 - ceilDiv s.lst.validFrom 256)

/-- Status registers that follow the block (R328, R336, R309). -/
def State.lstSync (s : State) : State :=
  let s := s.set F.LST_STATUS_STATE (lstState s.lst.phase)
  let s := s.set F.LST_COUNTER_NOW s.lst.total
  let n := s.histSpans
  let s := (s.set F.LST_HIST_SPANS_SPANS n).set F.LST_HIST_OLDEST_COUNTER (if n = 0 then 0 else 256 * (s.lst.total / 256 - n))
  let h := s.lst.hist
  let s := s.setB F.USB_HIST_STATUS_ARMED (s.on F.LST_STATUS_ARMED)
  let s := (s.setB F.USB_HIST_STATUS_STREAMING h.on).setB F.USB_HIST_STATUS_LIVE (h.on && decide (h.live ≤ h.next))
  s.set F.USB_HIST_COUNTER_NEXT (256 * h.next)

/-- Move the block to a phase. -/
def State.lstPhase (s : State) (p : LstPhase) : State := (s.modLst (fun l => { l with phase := p })).lstSync

/-- Does listening own a clock group (PDM_STATUS.LISTENg)? Show it, and give a group up or take it (R313). -/
def State.lstOwn (s : State) (own : Bool) : State :=
  s.forAll 2 (fun s g =>
    let now := own && decide (s.lstGroup = g)
    if s.on (F.PDM_LISTEN g) = now then s
    else
      let s := s.setB (F.PDM_LISTEN g) now
      s.when (s.on (F.PG_ENABLE 0x29)) (·.pdmChange g))

/-- End the phrase and voice (R333, R335). -/
def State.lstHush (s : State) : State :=
  ((s.set F.LST_STATUS_VOICE 0).set F.LST_STATUS_IN_PHRASE 0).modLst (fun l => { l with
    onset := 0, quiet := 0, runs := [], detected := false })

/-! ## The history stream (R304, R305, R332) -/

/-- The stream is over (R305): HIST_DONE. -/
def State.histEnd (s : State) : State :=
  ((s.modHist (fun h => { h with on := false, half := false, array := [], out := [], ending := false })).irq 0x0A 12).lstSync

/-- A stop of a running stream (R305): it ends with the current record. -/
def State.histStop (s : State) : State :=
  s.when s.lst.hist.on (fun s =>
    if s.lst.hist.out = [] then s.histEnd.modHist (fun h => { h with last := true }) else s.modHist (fun h => { h with ending := true }))

/-- A suspend, a bus reset or a disconnect ends the stream (R305). The record in progress has no bus left to end on, so the model ends
the stream at once (DEDUCED, log 183). -/
def State.histCut (s : State) : State := s.when s.lst.hist.on State.histEnd

/-- An accepted start (R304, R332): history from the oldest valid span, or live audio after an earlier start. -/
def State.histStart (s : State) : State :=
  s.when (!s.lst.hist.on) (fun s =>
    let live := ceilDiv s.lst.total 256
    let next := if s.lst.hist.started then live else s.lst.total / 256 - s.histSpans
    (s.modHist (fun h => { h with
      on := true, started := true, next := next, live := live, half := false, disc := false, priv := false, array := [], last := false })).lstSync)

/-- Wipe the history (R331, R333): the banks, and every span's validity (R328). -/
def State.histWipe (s : State) : State :=
  (s.wipeBanks (127 * 2 ^ 12) 5).modLst (fun l => { l with
    validFrom := l.total, span := l.span.map (fun xs => xs.map (fun _ => 0)) })

/-- A disarm (R331). -/
def State.lstDisarm (s : State) : State :=
  let s := (s.set F.LST_STATUS_ARMED 0).histStop
  let s := s.modHist (fun h => { h with started := false })
  (s.histWipe.irq 0x0C 5).lstSync

/-! ## Start, stop and clock changes -/

/-- Take the stop asked for (R312). -/
def State.lstTake (s : State) : State := (s.set F.LST_STATUS_STOP_NOW s.lstWant).modLst (fun l => { l with due := false })

/-- LST_STATUS.PICCOLO (R312, R336): the listening group's clock is at 768 kHz. -/
def State.lstPiccolo (s : State) : Bool :=
  s.on (F.PDM_LISTEN s.lstGroup) && decide ((s.pdmAt s.lstGroup).freq = 1) &&
    (match (s.pdmAt s.lstGroup).phase with | .off | .waitClk | .quiesced => false | _ => true)

/-- Listening leaves its samples: the phrase ends, and nothing is held any more (R315). -/
def State.lstDrop (s : State) : State :=
  ((s.lstHush.modLst (fun l => { l with due := false, heldGroup := none })).set F.LST_STATUS_DEFER_PENDING 0).pdmRunHeld

/-- The group's clock runs at the frequency of the stop in effect (R313). -/
def State.lstClockSet (s : State) : State :=
  s.when (decide ((s.pdmAt s.lstGroup).freq ≠ s.pdmCode s.lstGroup)) (·.pdmChange s.lstGroup)

/-- R316 step 1, as far as the block may go. -/
def State.lstBegin (s : State) : State :=
  let s := s.lstDrop
  if s.lstBad then ((s.fault 0x0C 3).lstOwn false).lstPhase .fault
  else
    let s := s.unfault 0x0C 3
    if !s.lstClock then s.lstPhase .waitClk
    else
      ((s.lstTake.lstOwn true).lstClockSet).lstPhase .starting

/-- What the present settings ask of a block that waits, runs or stands in FAULT (R311, R316). -/
def State.lstEval (s : State) : State :=
  if !s.lstEnabled ∨ s.lst.phase = .off ∨ s.lst.phase = .quiesced then s
  else if s.lstBad then s.when (decide (s.lst.phase ≠ .fault)) State.lstBegin
  else if !s.lstClock then
    if s.lst.phase = .waitClk then s else s.lstDrop.lstPhase .waitClk
  else if s.lst.phase = .waitClk ∨ s.lst.phase = .fault then s.lstBegin
  else s

/-- Setting or clearing ENABLE (R316). In SLEEP, PD_LISTEN is on only while listening is enabled (R363), and the FLL with it (R267). -/
def State.lstEnableWritten (s : State) : State :=
  if s.lstEnabled then s.when (decide (s.lst.phase = .off) && s.islandOn .listen) (·.lstBegin)
  else if s.lst.phase = .off then s
  else
    let s := ((s.lstHush.modLst (fun l => { l with due := false, heldGroup := none })).set F.LST_STATUS_DEFER_PENDING 0).set F.LST_STATUS_SUPPRESSED 0
    let s := ((s.lstOwn false).unfault 0x0C 3).pdmRunHeld
    let s := (s.lstPhase .off).lstDisarm
    s.when (decide (s.domState = 2)) (fun s => ((s.set F.CLK_FLL_STATUS_LOCKED 0).pdmClockLost 0).pdmClockLost 1)

/-- Restart by R316 from step 1: a resume, an abort, the return of PD_LISTEN or of the FLL. -/
def State.lstRestart (s : State) : State :=
  s.when (s.lstEnabled && s.islandOn .listen) (·.lstBegin)

/-- Settle and fill are over (R316 steps 2 to 4): LISTENING, suppressed. -/
def State.lstStarted (s : State) : State :=
  s.event .listen (decide (s.lst.phase = .starting) && s.lstClock) (fun s =>
    let s := s.modLst (fun l => { l with
      left := 0, fade := .at1, due := false, hpX := 0, hpY := 0, acc := [], floor := -6000000, win := [], feats := [], step := Vector.replicate 16 0 })
    let s := s.forAll 16 (fun s m => s.modLst (fun l => { l with
      mics := vmod l.mics m (fun _ => ⟨0, if s.lstWants m then .at1 else .at0⟩) }))
    let s := (s.set F.LST_LEVEL_FLOOR 0xE890).set F.LST_STATUS_SUPPRESSED 1
    (s.set F.LST_RESUME_COUNTER_COUNTER s.lst.total).lstPhase .listening)

/-- Start the sequence of R314: the listening samples ramp down; the group's own sequence runs beside it (R243). -/
def State.lstChange (s : State) : State :=
  let s := (s.lstTake.modLst (fun l => { l with left := 16, fade := l.fade.turn false })).lstPhase .rampDown
  s.pdmChange s.lstGroup

/-- A change between stops on one side of Piccolo mode (R314): microphones join and leave on their own. -/
def State.lstMove (s : State) : State :=
  let was := (List.range 16).map s.lstWants
  let s := s.lstTake
  s.forAll 16 (fun s m =>
    if s.lstWants m = was.getD m false then s
    else if s.lstWants m then s.modLst (fun l => { l with mics := vmod l.mics m (fun _ => ⟨16, ⟨0, 1, true⟩⟩) })
    else s.modLst (fun l => { l with mics := vmod l.mics m (fun k => { k with fade := k.fade.turn false }) }))

/-- A change of the clock group takes effect (R335): it runs with the gap of R314 on the new group. -/
def State.lstRegroup (s : State) : State :=
  let s := (s.forAll 2 (fun s g => s.modPdm g (fun p => { p with held := false }))).modLst (fun l => { l with heldGroup := none })
  let s := s.set F.LST_STATUS_DEFER_PENDING 0
  if s.lstBad then s.lstBegin
  else
    let s := (s.lstTake.modLst (fun l => { l with left := 16, fade := l.fade.turn false })).lstPhase .rampDown
    (s.lstOwn true).lstClockSet

/-- Does listening ask for another stop or another group than is in effect? -/
def State.lstAsks (s : State) : Bool := decide (s.lstWant ≠ s.lstStop) || s.lst.heldGroup.isSome

/-- Would the change cross Piccolo mode? -/
def State.lstCrosses (s : State) : Bool := decide ((2 ≤ s.lstStop) ≠ (2 ≤ s.lstWant))

/-- Run the pending changes now (R315): the stop, the group and the group's held settings. During a clock change a new stop or group
follows it. -/
def State.lstRunPending (s : State) : State :=
  let held := (s.pdmAt s.lstGroup).held
  let s := s.set F.LST_STATUS_DEFER_PENDING 0
  if s.lst.phase ≠ .listening then (s.modLst (fun l => { l with due := l.phase.writes && s.lstAsks })).pdmRunHeld
  else if s.lst.heldGroup.isSome then s.lstRegroup
  else if s.lstWant ≠ s.lstStop ∧ s.lstCrosses then
    (s.forAll 2 (fun s g => s.modPdm g (fun p => { p with held := false }))).lstChange
  else
    let s := s.when (decide (s.lstWant ≠ s.lstStop)) (·.lstMove)
    if held then (s.modPdm s.lstGroup (fun p => { p with held := false })).lstChange.pdmRunHeld else s.pdmRunHeld

/-- The stop or the group asked for may have changed (R312, R315, R335): held while voice is present; a change across Piccolo mode is
due (LST_STOP_CHANGE runs it), as is one that meets a clock change; any other runs at once. -/
def State.lstRequest (s : State) : State :=
  match s.lst.phase with
  | .off | .waitClk | .fault | .quiesced => s.when s.lstEnabled (·.lstTake)
  | .starting => s.lstTake.lstClockSet
  | .listening =>
    if !s.lstAsks then (s.setB F.LST_STATUS_DEFER_PENDING s.pdmHeld).modLst (fun l => { l with due := false })
    else if s.on F.LST_STATUS_VOICE then s.set F.LST_STATUS_DEFER_PENDING 1
    else if s.lst.heldGroup.isSome then s.lstRegroup
    else if s.lstCrosses then s.modLst (fun l => { l with due := true })
    else s.lstMove
  | _ =>
    if s.on F.LST_STATUS_VOICE then
      (s.setB F.LST_STATUS_DEFER_PENDING (s.lstAsks || s.pdmHeld)).modLst (fun l => { l with due := false })
    else s.modLst (fun l => { l with due := s.lstAsks })

/-- A clock change of listening has ended (R314): a change that came in meanwhile follows, also during voice where its bound has
passed (R315). -/
def State.lstChanged (s : State) : State :=
  let s := (s.modLst (fun l => { l with left := 0, fade := .at1 })).lstPhase .listening
  if s.lst.due && s.on F.LST_STATUS_VOICE then (s.modLst (fun l => { l with due := false })).lstRunPending else s.lstRequest

/-- LST_STOP_CHANGE (R314): a change that is due and not held starts its sequence. -/
def State.lstStopChange (s : State) : State :=
  s.event .listen (decide (s.lst.phase = .listening) && s.lst.due && !s.on F.LST_STATUS_VOICE) (·.lstChange)

/-- The PDM page was written; `was` are the groups before it. Where a host change of the listening group ran (R335), listening records
its gap; one that meets a gap begins it anew. -/
def State.lstGroupWritten (s : State) (was : Vector PdmGrp 2) : State :=
  let s := s.lstEval
  let g := s.lstGroup
  let p := s.pdmAt g
  let ran := s.on (F.PDM_LISTEN g) && decide (p.phase ≠ .running) && !p.held && decide (some p ≠ was[g]?)
  s.when ran (fun s =>
    match s.lst.phase with
    | .listening | .rampUp => (s.modLst (fun l => { l with left := 16, fade := l.fade.turn false })).lstPhase .rampDown
    | .gapSettle | .gapFill => (s.modLst (fun l => { l with left := 1 })).lstPhase .gapClock
    | _ => s)

/-- SUPPRESSED ends (R319). -/
def State.lstSuppressEnd (s : State) : State := s.event .listen true (·.set F.LST_STATUS_SUPPRESSED 0)

/-- DEFER_TIMEOUT (R315): the held change runs although voice is present. -/
def State.lstDeferTimeout (s : State) : State :=
  s.event .listen (s.on F.LST_STATUS_DEFER_PENDING) (fun s =>
    ((s.inc F.LST_COUNT2_DEFER_TIMEOUTS).irq 0x0C 7).lstRunPending)

/-! ## Samples (R314, R317, R326, R327) -/

/-- One 16 kHz sample of microphone m, `raw` in 24-bit LSB. -/
def State.lstMic (s : State) (m : Nat) (raw : Int) : State × Int :=
  let k := vget s.lst.mics m ⟨0, .at0⟩
  if !s.lstOwns m then (s, 0)
  else if 0 < k.fill then (s.modLst (fun l => { l with mics := vmod l.mics m (fun k => { k with fill := k.fill - 1 }) }), 0)
  else
    let s := s.modLst (fun l => { l with mics := vmod l.mics m (fun k => { k with fade := k.fade.step 16 }) })
    let k := vget s.lst.mics m ⟨0, .at0⟩
    if s.privacy || s.on (F.PDM_ABSENT m) then (s, 0)
    else
      let x := (max (-0x800000) (min 0x7FFFFF raw)) * 256
      let x := fadeSample k.fade (s.lsb (2400 + m) 0) x
      let x := fadeSample s.lst.fade (s.lsb (2400 + m) 1) x
      (s, to24 (fadeSample s.lst.priv (s.lsb (2400 + m) 2) x))

/-- Slot of the span a count lies in (R326), by its 32-bit counter. -/
def spanSlot (count : Nat) : Nat := count % 2 ^ 32 / 256 % 125

/-- Three bytes of a sample (R10). -/
def bytes24 (x : Int) : List Nat :=
  let w := unsigned 32 x
  [w / 256 % 256, w / 65536 % 256, w / 16777216 % 256]

/-- Write one sample of both raw channels to the ring (R326). -/
def State.histWrite (s : State) (c0 c1 : Int) : State :=
  let n := s.lst.total
  s.sramPutBytes 12 (1536 * spanSlot n + 6 * (n % 256)) (bytes24 c0 ++ bytes24 c1)

/-- The curd blocks of a completed span (R326, R327). -/
def State.curdWrite (s : State) : State :=
  let slot := spanSlot s.lst.total
  let rows := s.lst.span.reverse
  s.forAll 16 (fun s c =>
    let live := decide (s.lstStop = 0) && decide (s.get F.LST_SRC_ARRAY_MASK / 2 ^ c % 2 = 1)
    let xs := rows.map (fun r => max (-32768) (min 32767 (divRne (r.getD c 0) 65536)))
    let (hd, pay, e) := if live then curdBlock (vget s.lst.step c 0) xs else ([0, 0, 0, 0], List.replicate 128 0, vget s.lst.step c 0)
    let s := s.modLst (fun l => { l with step := vmod l.step c (fun _ => e) })
    (s.sramPutBytes 12 (0x6D600 + 64 * slot + 4 * c) hd).sramPutBytes 12 (0x2EE00 + 2048 * slot + 128 * c) pay)

/-- A span is complete: curd blocks, and the array samples of a live stream. -/
def State.spanDone (s : State) : State :=
  let s := s.curdWrite
  let k := s.lst.total / 256
  let keep := s.lst.hist.on && s.on F.USB_HIST_CTRL_LIVE_ARRAY && decide (s.lst.hist.live ≤ k)
  let rows := s.lst.span.reverse
  let s := s.when keep (·.modHist (fun h => { h with array := h.array ++ [(k, rows)] }))
  s.modLst (fun l => { l with span := [] })

/-- The ring overwrites the oldest span not yet delivered (R305): OVERRUNS, and the next record is discontinuous. -/
def State.histOverrun (s : State) : State :=
  let h := s.lst.hist
  s.when (h.on && decide (256 * (h.next + 125) < s.lst.total)) (fun s =>
    (s.inc F.USB_HIST_STATUS_OVERRUNS).modHist (fun h => { h with
      next := h.next + 1, half := false, disc := true, array := h.array.filter (fun e => decide (h.next < e.1)) }))

/-- The step of a clock change after a sample (R314). -/
def State.lstStep (s : State) : State :=
  let l := s.lst
  if l.phase = .listening then s
  else if 1 < l.left then s.modLst (fun l => { l with left := l.left - 1 })
  else
    let settle := 16 * s.get (F.PDM_SETTLE s.lstGroup)
    match l.phase with
    | .rampDown =>
      ((s.modLst (fun l => { l with left := 1, gap := 0, fade := .at0 })).set F.LST_GAP_START_COUNTER l.total).lstPhase .gapClock
    | .gapClock =>
      if 0 < settle then (s.modLst (fun l => { l with left := settle })).lstPhase .gapSettle
      else (s.modLst (fun l => { l with left := 16 })).lstPhase .gapFill
    | .gapSettle => (s.modLst (fun l => { l with left := 16 })).lstPhase .gapFill
    | .gapFill =>
      let s := ((s.set F.LST_GAP_LEN l.gap).inc F.LST_GAP_GAPS).irq 0x0C 6
      let s := s.forAll 16 (fun s m => s.modLst (fun l => { l with
        mics := vmod l.mics m (fun _ => ⟨0, if s.lstWants m then .at1 else .at0⟩) }))
      (s.modLst (fun l => { l with left := 16, fade := ⟨0, 1, true⟩ })).lstPhase .rampUp
    | .rampUp => s.lstChanged
    | _ => s

/-- One 16 kHz period (R317): `raws` gives each microphone's decimated value. -/
def State.lstSample (s : State) (raws : Nat → Int) : State :=
  s.event .listen (s.lst.phase.writes && s.lstClock) (fun s =>
    let inGap := match s.lst.phase with | .gapClock | .gapSettle | .gapFill => true | _ => false
    let s := s.modLst (fun l => { l with
      fade := l.fade.step 16, priv := if s.privacy then .at0 else (l.priv.turn true).step 80, gap := if inGap then l.gap + 1 else l.gap })
    let (s, xs) := (List.range 16).foldl (fun (p : State × List Int) m =>
      let (s, x) := p.1.lstMic m (raws m)
      (s, p.2 ++ [if inGap then 0 else x])) (s, [])
    let c0 := xs.getD (s.get F.LST_SRC_RAW0) 0
    let c1 := if s.lstTwo && !(decide (s.lstStop = 3) && decide (s.get F.LST_SRC_RAW0 = s.get F.LST_SRC_RAW1)) then
      xs.getD (s.get F.LST_SRC_RAW1) 0 else 0
    let arr := (List.range 16).map (fun m => if decide (s.get F.LST_SRC_ARRAY_MASK / 2 ^ m % 2 = 1) then xs.getD m 0 else 0)
    let s := s.histWrite c0 c1
    let x := if s.on F.LST_CFG_SPOT_CH then c1 else c0
    let y := dcStep (dcPole 100 16000) x s.lst.hpX s.lst.hpY
    let s := s.modLst (fun l => { l with hpX := x, hpY := y, acc := l.acc ++ [y], win := (x :: l.win).take 400, span := arr :: l.span })
    let s := s.when (decide (s.lst.total % 256 = 255)) (·.spanDone)
    let s := s.modLst (fun l => { l with total := l.total + 1 })
    (s.lstStep.histOverrun).lstSync)

/-! ## Voice activity and the spotter (R318 to R322) -/

/-- E of a frame in 0.00001 dB (R318); −150 dBFS for silence. -/
def frameLevel (xs : List Int) : Int :=
  let sum := xs.foldl (fun a x => a + x.natAbs * x.natAbs) 0
  if sum = 0 then -15000000 else max (-15000000) (levelDb 10 100000 (2 * sum) (160 * 2 ^ 62))

/-- THR in 0.00001 dB. -/
def State.vadThr (s : State) : Int := 50000 * s.get F.LST_VAD_THR

/-- The detector's part of a frame (R318, R319). -/
def State.vadFrame (s : State) (e : Int) : State :=
  let f := s.lst.floor
  let voice := s.on F.LST_STATUS_VOICE
  let rise : Int := 100 * s.get F.LST_VAD_FLOOR_RISE
  let f := if voice then f else if e < f then max e (-10000000) else min e (f + rise)
  let loud := decide (f + s.vadThr ≤ e)
  let s := s.modLst (fun l => { l with
    floor := f
    onset := if voice || s.on F.LST_STATUS_SUPPRESSED then 0 else if loud then l.onset + 1 else 0
    quiet := if voice && !loud then l.quiet + 1 else 0 })
  (s.setS F.LST_LEVEL_LEVEL (divRne e 1000)).setS F.LST_LEVEL_FLOOR (divRne f 1000)

/-- Is a spotter result allowed: a VALID model, EN, VOICE (R321)? -/
def State.spotRuns (s : State) : Bool :=
  decide (s.get F.LST_MODEL_STATUS_STATE = 2) && s.on F.LST_SPOT_EN && s.on F.LST_STATUS_VOICE

/-- Spotter weights are lost or poisoned (R325). -/
def State.modelFault (s : State) (code : Nat) : State :=
  let s := ((s.set F.LST_MODEL_STATUS_STATE 3).set F.LST_STATUS_MODEL_VALID 0).fault 0x0C code
  s.modLst (fun l => { l with runs := [], scores := [] })

/-- One inference (R321, R322): scores, IN_PHRASE, the classes' runs. A poisoned weight word stops it (R325). -/
def State.spotFrame (s : State) : State :=
  if !s.spotRuns then s.modLst (fun l => { l with runs := [] })
  else if s.poison.any (fun e => decide (e.2.kind = .weight)) then (s.inc F.MEM_UNCORR_COUNT_POISON_READS).modelFault 1
  else
    let sc := s.inference ((s.lst.feats.take (s.get F.LST_MODEL_INFO_CONTEXT)).reverse)
    let key := sc.tail
    let s := s.when (key.any (fun x => decide (signed 8 (s.get F.LST_SPOT_PHRASE_THR) ≤ x))) (·.set F.LST_STATUS_IN_PHRASE 1)
    let thr := signed 8 (s.get F.LST_SPOT_DET_THR)
    s.modLst (fun l => { l with
      scores := sc
      runs := (List.range sc.length).map (fun k => if thr ≤ sc.getD k 0 then l.runs.getD k 0 + 1 else 0) })

/-- A 10 ms frame (R318, R320, R321), when its 160 samples are there. -/
def State.lstFrame (s : State) : State :=
  s.event .listen (decide (160 ≤ s.lst.acc.length) && s.lst.phase.writes) (fun s =>
    let e := frameLevel (s.lst.acc.take 160)
    let bins := spotPowers s.lst.win
    let feat := (List.range 40).map (fun b => melFeature (Config.mel bins b))
    let s := s.modLst (fun l => { l with
      acc := l.acc.drop 160, feats := (feat :: l.feats).take 100, frameEnd := l.total - 1 })
    (s.vadFrame e).spotFrame)

/-- Has voice begun (R318)? -/
def State.vadDue (s : State) : Bool :=
  decide (s.get F.LST_VAD_ONSET ≤ s.lst.onset) && decide (0 < s.lst.onset) && !s.on F.LST_STATUS_VOICE && !s.on F.LST_STATUS_SUPPRESSED

/-- VOICE sets (R318); a change that was due is held from now on (R315). -/
def State.vadOnset (s : State) : State :=
  let s := ((s.set F.LST_STATUS_VOICE 1).inc F.LST_COUNT_VOICE_ONSETS).irq 0x0C 3
  (s.when s.lst.due (·.set F.LST_STATUS_DEFER_PENDING 1)).modLst (fun l => { l with onset := 0, quiet := 0, due := false })

/-- VOICE clears after HANG (R318); the pending changes run (R315). -/
def State.vadHang (s : State) : State :=
  s.event .listen (s.on F.LST_STATUS_VOICE && decide (s.get F.LST_VAD_HANG ≤ s.lst.quiet) && decide (0 < s.lst.quiet)) (fun s =>
    (s.lstHush.irq 0x0C 4).lstRunPending)

/-- The class of a detection (R322): the first keyword held DET_HOLD frames, one in each phrase. -/
def State.spotClass (s : State) : Option Nat :=
  if s.lst.detected || s.on F.LST_STATUS_SUPPRESSED || !s.spotRuns then none
  else (List.range s.lst.runs.length).find? (fun k => decide (0 < k) && decide (s.get F.LST_SPOT_DET_HOLD ≤ s.lst.runs.getD k 0)
    && decide (0 < s.lst.runs.getD k 0))

/-- A wake inside the block (R329): source 1 the spotter, 2 a voice onset. -/
def State.lstWake (s : State) (source cls score : Nat) : State :=
  let s := (s.set F.LST_STATUS_ARMED 1).set F.LST_WAKE_COUNTER_COUNTER s.lst.frameEnd
  let s := ((s.set F.LST_WAKE_INFO_SOURCE source).set F.LST_WAKE_INFO_CLASS cls).set F.LST_WAKE_INFO_SCORE score
  ((s.inc F.LST_COUNT_WAKES).irq 0x0C 2).lstSync

/-- Does this source wake (R329)? -/
def State.wakesOn (s : State) (source : Nat) : Bool :=
  decide (s.get F.LST_CFG_WAKE_ON = 2) || decide (s.get F.LST_CFG_WAKE_ON + 1 = source)

/-- The arm timeout ends (R331). -/
def State.lstArmTimeout (s : State) : State :=
  s.event .listen (s.on F.LST_STATUS_ARMED && !s.lst.hist.on && decide (0 < s.get F.LST_CFG_ARM_TIMEOUT)) (·.lstDisarm)

/-! ## Model load (R324) -/

/-- BEGIN. -/
def State.modelBegin (s : State) : State :=
  let s := ((s.set F.LST_MODEL_STATUS_STATE 1).set F.LST_MODEL_STATUS_PTR 0).set F.LST_STATUS_IN_PHRASE 0
  (s.set F.LST_STATUS_MODEL_VALID 0).modLst (fun l => { l with ptr := 0, top := none, ended := false, runs := [] })

/-- A window word is written: word PTR + k; WIN31 closes the block. After END the load takes no more words. -/
def State.modelWin (s : State) (k : Nat) (w : Word) : State :=
  s.when (decide (s.get F.LST_MODEL_STATUS_STATE = 1) && !s.lst.ended) (fun s =>
    let a := s.lst.ptr + k
    let s := s.when (decide (a < weightWords)) (·.sramWrite (sramAddr 19 a) w)
    if k = 31 then (s.modLst (fun l => { l with ptr := l.ptr + 32, top := none })).set F.LST_MODEL_STATUS_PTR (min 65535 (s.lst.ptr + 32))
    else s.modLst (fun l => { l with top := some (max k (l.top.getD 0)) }))

/-- END: an open block closes. -/
def State.modelEnd (s : State) : State :=
  s.when (decide (s.get F.LST_MODEL_STATUS_STATE = 1)) (fun s =>
    let p := match s.lst.top with | some k => s.lst.ptr + k + 1 | none => s.lst.ptr
    (s.modLst (fun l => { l with ptr := p, top := none, ended := true })).set F.LST_MODEL_STATUS_PTR (min 65535 p))

/-- The image check ends (R324). -/
def State.modelChecked (s : State) : State :=
  s.event .listen (decide (s.get F.LST_MODEL_STATUS_STATE = 1) && s.lst.ended) (fun s =>
    let e := s.modelCheck s.lst.ptr
    let s := (s.modLst (fun l => { l with ended := false })).set F.LST_MODEL_STATUS_LOAD_ERR e
    let s := s.when (decide (e = 7)) (·.inc F.MEM_UNCORR_COUNT_POISON_READS)
    if e = 0 then
      let w := s.modelWord 3
      let s := ((s.set F.LST_MODEL_INFO_LAYERS (bits w 0 8)).set F.LST_MODEL_INFO_CLASSES (bits w 8 8)).set F.LST_MODEL_INFO_CONTEXT
        (bits w 16 8)
      let s := (s.set F.LST_MODEL_MACS_MACS (s.modelWord 4).toNat).set F.LST_MODEL_STATUS_STATE 2
      (((s.set F.LST_STATUS_MODEL_VALID 1).unfault 0x0C 1).unfault 0x0C 2).irq 0x0C 8
    else ((s.set F.LST_MODEL_STATUS_STATE 0).set F.LST_STATUS_MODEL_VALID 0).irq 0x0C 9)

/-! ## Privacy, power, registers -/

/-- MIC_PRIVACY_N asserted (R333). -/
def State.lstPrivacy (s : State) : State :=
  let s := (s.histWipe.set F.LST_STATUS_PRIVACY 1).irq 0x0C 11
  let s := s.when s.lst.hist.on (·.modHist (fun h => { h with
    next := s.lst.total / 256, live := s.lst.total / 256, half := false, disc := true, priv := true, array := []
    out := if h.half || decide (h.next ≤ h.live) then [] else h.out }))
  let s := s.lstHush
  (s.when (s.on F.LST_STATUS_DEFER_PENDING) (·.lstRunPending)).lstSync

/-- MIC_PRIVACY_N released (R333). -/
def State.lstPrivacyEnd (s : State) : State :=
  let s := s.set F.LST_STATUS_PRIVACY 0
  s.when s.lst.phase.writes (fun s =>
    ((s.modLst (fun l => { l with floor := -6000000, priv := .at0, onset := 0 })).set F.LST_LEVEL_FLOOR 0xE890).set F.LST_STATUS_SUPPRESSED 1)

/-- The answer to QUIESCE for a target state (R34, R334): true where it refuses. States: 1 IDLE, 2 SLEEP, 3 and 4 DEEP, 5 OFF. -/
def State.lstRefuses (s : State) (target : Nat) : Bool :=
  (s.on F.LST_STATUS_VOICE || s.on F.LST_STATUS_IN_PHRASE) && decide (3 ≤ target)

/-- A refusal counted (R334). -/
def State.lstRefused (s : State) : State := (s.inc F.LST_COUNT2_REFUSALS).irq 0x0C 10

/-- S2 of an entry to DEEP or OFF (R334): capture stops. -/
def State.lstQuiesce (s : State) : State :=
  s.when (decide (s.lst.phase ≠ .off)) (fun s => s.lstDrop.lstPhase .quiesced)

/-- Retained or lost banks of listening (R33, R325): history discarded, weights lost. -/
def State.lstBankLost (s : State) (bank : Nat) : State :=
  if 12 ≤ bank ∧ bank ≤ 18 then
    (s.modLst (fun l => { l with validFrom := l.total, span := l.span.map (fun xs => xs.map (fun _ => 0)) })).lstSync
  else if 19 ≤ bank ∧ bank ≤ 21 then s.modelFault 2
  else s

/-- CLR_COUNTS (R336). -/
def State.lstClrCounts (s : State) : State :=
  (((s.setReg A.LST_COUNT 0).setReg A.LST_COUNT2 0).set F.LST_GAP_GAPS 0)

/-- Effects of a write to LST_CTRL (R331, R336). -/
def State.lstCtrlWritten (s : State) (disarm clr : Bool) : State :=
  (s.when disarm (·.lstDisarm)).when clr (·.lstClrCounts)

/-- Effects of a write to LST_CFG or LST_SRC (R311, R312, R335): the stop, the microphones, the group, whose change is held while voice
is present. -/
def State.lstCfgWritten (s : State) (oldCfg oldSrc : Word) : State :=
  let now := s.get F.LST_CFG_GROUP
  if !s.lstEnabled ∨ s.lst.phase = .off ∨ s.lst.phase = .quiesced then s
  else if bits oldCfg 0 1 ≠ now then
    if s.lst.phase.writes then
      (s.modLst (fun l => { l with heldGroup := if l.heldGroup.isSome then none else some (bits oldCfg 0 1) })).lstRequest
    else s.lstBegin
  else
    let s := s.lstEval
    if s.lst.phase.writes ∧ oldSrc ≠ s.reg A.LST_SRC then
      (s.forAll 16 (fun s m =>
        let k := vget s.lst.mics m ⟨0, .at0⟩
        if s.lstWants m && k.fade.zero && decide (k.fill = 0) then
          s.modLst (fun l => { l with mics := vmod l.mics m (fun _ => ⟨16, ⟨0, 1, true⟩⟩) })
        else if !s.lstWants m then s.modLst (fun l => { l with mics := vmod l.mics m (fun k => { k with fade := k.fade.turn false }) })
        else s)).lstRequest
    else s.lstRequest

/-- The condition of the LST page's fault codes that still hold (R337): 0x01 and 0x02 end at a successful load. -/
def State.lstFaultHolds (s : State) (code : Nat) : Bool :=
  if code = 3 then decide (s.lst.phase = .fault) else decide (code = 1) || decide (code = 2)

/-! ## Records of the stream (R304, R332) -/

/-- Raw sample of channel c at a count from the ring (R326, R327). -/
def State.histSample (s : State) (count c : Nat) : Int :=
  let o := 1536 * spanSlot count + 6 * (count % 256) + 3 * c
  let bad := s.wordPoisoned (sramAddr 12 (o / 4)) || s.wordPoisoned (sramAddr 12 ((o + 2) / 4))
  if bad then 0
  else signed 32 (256 * (s.sramByte 12 o + 256 * s.sramByte 12 (o + 1) + 65536 * s.sramByte 12 (o + 2)))

/-- Four bytes to a word, least significant first. -/
def wordsOf : List Nat → List Word
  | a :: b :: c :: d :: t => BitVec.ofNat 32 (a + 256 * b + 65536 * c + 16777216 * d) :: wordsOf t
  | _ => []

/-- The four header words of a record (R304). -/
def recordHead (type ch pack : Nat) (last disc priv : Bool) (count : Nat) : List Word :=
  let f := (if last then 2 ^ 24 else 0) + (if disc then 2 ^ 25 else 0) + (if priv then 2 ^ 26 else 0)
  [BitVec.ofNat 32 (type + 256 * ch + 65536 * pack + f), BitVec.ofNat 32 count, 256, 0]

/-- Samples packed for a record or a ring (R10); bytes beyond the last sample are 0. -/
def packSamples (pack : Nat) (xs : List Int) : List Word :=
  if pack = 1 then wordsOf (xs.flatMap bytes24 ++ List.replicate (xs.length % 4) 0) else xs.map (fun x => sampleWord (x.fdiv 256 * 256))

/-- The next record of the stream, when its span is complete: its words and the stream after it. -/
def State.histRecord (s : State) : Option (List Word × Hist) :=
  let h := s.lst.hist
  let k := h.next
  if !h.on || decide (s.lst.total < 256 * (k + 1)) then none
  else
    let pack := s.get F.USB_HIST_CTRL_PACK
    let ch := if s.lstTwo then 2 else 1
    let rows := List.range 256
    let raw := fun (i : Nat) => (List.range ch).map (fun c => s.histSample (256 * k + i) c)
    if h.live ≤ k then
      let arr := (h.array.find? (fun e => decide (e.1 = k))).map (·.2)
      let wide := s.on F.USB_HIST_CTRL_LIVE_ARRAY
      let xs := rows.flatMap (fun i => raw i ++ (if wide then (List.range 16).map (fun m => ((arr.getD []).getD i []).getD m 0) else []))
      some (recordHead 3 (if wide then ch + 16 else ch) pack false h.disc h.priv (256 * k) ++ packSamples pack xs,
        { h with next := k + 1, half := false, disc := false, priv := false, array := h.array.filter (fun e => decide (k < e.1)) })
    else
      let last := decide (k + 1 = h.live)
      if h.half then
        let slot := spanSlot (256 * k)
        let body := (List.range 16).flatMap (fun c =>
          s.sramWord (sramAddr 12 ((0x6D600 + 64 * slot + 4 * c) / 4)) ::
            (List.range 32).map (fun i => s.sramWord (sramAddr 12 ((0x2EE00 + 2048 * slot + 128 * c) / 4 + i))))
        some (recordHead 2 16 0 last false false (256 * k) ++ body, { h with next := k + 1, half := false, disc := false })
      else
        some (recordHead 1 ch pack false h.disc false (256 * k) ++ packSamples pack (rows.flatMap raw), { h with half := true, disc := false })

/-- First byte and length of each run of history memory that the next record reads (R326, R328). -/
def State.histReads (s : State) : List (Nat × Nat) :=
  let h := s.lst.hist
  let slot := spanSlot (256 * h.next)
  if decide (h.next < h.live) && h.half then [(0x2EE00 + 2048 * slot, 2048), (0x6D600 + 64 * slot, 64)] else [(1536 * slot, 1536)]

/-- The next record joins the bytes to be sent (R304); the poisoned words it reads count (R411). -/
def State.histIn (s : State) : State :=
  match s.histRecord with
  | some (ws, h) =>
    let met := s.poison.filter (fun e => s.histReads.any (fun r =>
      decide (sramAddr 12 (r.1 / 4) ≤ e.1) && decide (e.1 < sramAddr 12 ((r.1 + r.2) / 4))))
    ((met.foldl (fun s _ => s.inc F.MEM_UNCORR_COUNT_POISON_READS) s).modHist (fun _ =>
      { h with out := s.lst.hist.out ++ ws.flatMap (fun w => wordBytes w.toNat) })).lstSync
  | none => s

/-- Largest packet of a bulk endpoint (R303). -/
def State.bulkSize (s : State) : Nat := if s.on F.USB_STATE_HS then 512 else 64

/-- One packet on endpoint 0x88 (R304, R305): records follow one another in full packets; a stopped stream ends with a short or
zero-length one. Where less than a packet is at hand and no record is complete, nothing is sent. -/
def State.histPacket (s : State) (send : State → List Nat → State) : State :=
  let n := s.bulkSize
  let s := s.when (decide (s.lst.hist.out.length < n) && !s.lst.hist.ending) State.histIn
  let h := s.lst.hist
  if n ≤ h.out.length then send (s.modHist (fun h => { h with out := h.out.drop n })) (h.out.take n)
  else if h.ending then send s.histEnd h.out
  else if h.last then send (s.modHist (fun h => { h with last := false })) []
  else s

/-! ## Meanings of the events -/

/-- LST_START (R316). -/
def execLstStart (s : State) : Host.Outcome State Fault Refusal := .next (settle s.lstStarted)
/-- LST_SUPPRESS_END (R319). -/
def execLstSuppressEnd (s : State) : Host.Outcome State Fault Refusal := .next (settle s.lstSuppressEnd)
/-- LST_SAMPLE (R317): the values are those of the microphones listed; the last listed wins, an unlisted one is zero. While
no engine frames come, the PDM groups' sequences advance with the listening clock. -/
def execLstSample (mics : List (Nat × Int)) (s : State) : Host.Outcome State Fault Refusal :=
  let s := s.when (s.clocked .listen && !s.clocked .engine) (fun s => (s.pdmTick 1764 16).lstEval)
  .next (settle { (s.lstSample (fun m => (mics.reverse.find? (fun e => decide (e.1 = m))).elim 0 (·.2))) with free := s.free + 1 })
/-- LST_FRAME (R318, R320, R321). -/
def execLstFrame (s : State) : Host.Outcome State Fault Refusal := .next (settle s.lstFrame)
/-- VAD_HANG_EXPIRE (R315, R318). -/
def execVadHangExpire (s : State) : Host.Outcome State Fault Refusal := .next (settle s.vadHang)
/-- LST_DEFER_TIMEOUT (R315). -/
def execLstDeferTimeout (s : State) : Host.Outcome State Fault Refusal := .next (settle s.lstDeferTimeout)
/-- LST_STOP_CHANGE (R314). -/
def execLstStopChange (s : State) : Host.Outcome State Fault Refusal := .next (settle s.lstStopChange)
/-- LST_ARM_TIMEOUT (R331). -/
def execLstArmTimeout (s : State) : Host.Outcome State Fault Refusal := .next (settle s.lstArmTimeout)
/-- LST_MODEL_CHECK_DONE (R324). -/
def execLstModelCheckDone (s : State) : Host.Outcome State Fault Refusal := .next (settle s.modelChecked)

end Sys2Proof.Machine
end

