-- ==== Sys2Proof/Machine/UsbDesc.lean ====
section
/-! DEFINITION. The class-specific descriptors of the USB function: the audio topology of R289 in either class version, and the HID
reports of R298. The spec gives their content; the layouts are those of the class documents (PRESUMED, log 44). A field that neither
gives is a free byte. -/

namespace Sys2Proof.Machine

/-- A 16-bit number in two bytes. -/
def bytes16 (x : Nat) : List Nat := [x % 256, x / 256 % 256]

/-- Free bytes of a descriptor field, by entity or interface and place. -/
def freeBytes (unit place n : Nat) : List Nat := (List.range n).map (fun k => Config.descByte unit (place + k) % 256)

/-- Kinds of audio entity (R289): a terminal with its type. -/
inductive UsbEntityKind
  | clock
  | input (type : Nat)
  | output (type : Nat)
  | feature
deriving DecidableEq, Repr

/-- An entity of the topology: its ID, kind, the entity that feeds it (0 none) and the streaming interface, less one, whose channels it
carries. -/
structure UsbEntity where
  id : Nat
  kind : UsbEntityKind
  source : Nat
  iface : Nat
deriving DecidableEq, Repr

/-- Terminal type of a USB streaming terminal. -/
def usbStreaming : Nat := 0x0101

/-- The topology of R289; `term i` is USB_ASi_CFG.TERM. -/
def usbTopology (term : Nat → Nat) : List UsbEntity :=
  [⟨0x10, .clock, 0, 0⟩, ⟨0x01, .input usbStreaming, 0, 0⟩, ⟨0x02, .input usbStreaming, 0, 1⟩,
   ⟨0x05, .feature, 0x01, 0⟩, ⟨0x06, .feature, 0x02, 1⟩, ⟨0x03, .output (term 0), 0x05, 0⟩, ⟨0x04, .output (term 1), 0x06, 1⟩,
   ⟨0x07, .input (term 2), 0, 2⟩, ⟨0x08, .input (term 3), 0, 3⟩, ⟨0x09, .feature, 0x07, 2⟩, ⟨0x0A, .feature, 0x08, 3⟩,
   ⟨0x0B, .output usbStreaming, 0x09, 2⟩, ⟨0x0C, .output usbStreaming, 0x0A, 3⟩]

/-- Controls of the clock source (R289): sampling frequency read-write, validity read. -/
def clockControls : Nat := 0x07

/-- Controls of a feature unit's master channel (R289): mute and volume read-write. -/
def masterControls : Nat := 0x0F

/-- Attributes of the clock source: programmable; in adaptive mode it follows SOF (R293). -/
def clockAttributes (adaptive : Bool) : Nat := if adaptive then 0x07 else 0x03

/-- An entity's descriptor in UAC 2.0 with `ch` channels. -/
def entityDesc2 (adaptive : Bool) (ch : Nat) (e : UsbEntity) : List Nat :=
  match e.kind with
  | .clock => [8, 0x24, 0x0A, e.id, clockAttributes adaptive, clockControls, 0, 0]
  | .input t => [17, 0x24, 0x02, e.id] ++ bytes16 t ++ [0, 0x10, ch] ++ freeBytes e.id 0 4 ++ [0, 0, 0, 0]
  | .output t => [12, 0x24, 0x03, e.id] ++ bytes16 t ++ [0, e.source, 0x10, 0, 0, 0]
  | .feature => [6 + 4 * (ch + 1), 0x24, 0x06, e.id, e.source, masterControls, 0, 0, 0] ++ List.replicate (4 * ch) 0 ++ [0]

/-- An entity's descriptor in UAC 3.0; its cluster descriptor has the ID of its streaming interface. -/
def entityDesc3 (adaptive : Bool) (ch : Nat) (e : UsbEntity) : List Nat :=
  match e.kind with
  | .clock => [12, 0x24, 0x0B, e.id, clockAttributes adaptive, clockControls, 0, 0, 0, 0, 0, 0]
  | .input t => [20, 0x24, 0x02, e.id] ++ bytes16 t ++ [0, 0x10, 0, 0, 0, 0] ++ bytes16 (e.iface + 1) ++ [0, 0, 0, 0, 0, 0]
  | .output t => [19, 0x24, 0x03, e.id] ++ bytes16 t ++ [0, e.source, 0x10, 0, 0, 0, 0, 0, 0, 0, 0, 0, 0]
  | .feature => [7 + 4 * (ch + 1), 0x24, 0x07, e.id, e.source, masterControls, 0, 0, 0] ++ List.replicate (4 * ch) 0 ++ [0, 0]

/-- The class-specific descriptors of the audio control interface (R289); `ch i` is Ci. -/
def controlDesc (uac3 adaptive : Bool) (ch term : Nat → Nat) : List Nat :=
  let body := (usbTopology term).flatMap (fun e => (if uac3 then entityDesc3 else entityDesc2) adaptive (ch e.iface) e)
  let category := freeBytes 0 0 1
  if uac3 then [10, 0x24, 0x01] ++ category ++ bytes16 (10 + body.length) ++ [0, 0, 0, 0] ++ body
  else [9, 0x24, 0x01, 0x00, 0x02] ++ category ++ bytes16 (9 + body.length) ++ [0] ++ body

/-- The streaming terminal an interface's data passes (R289). -/
def streamTerminal (i : Nat) : Nat := match i with | 0 => 0x01 | 1 => 0x02 | 2 => 0x0B | _ => 0x0C

/-- The class-specific descriptors of streaming interface i + 1 at a nonzero alternate setting (R289, R291): `sub` bytes a subslot, 24
bits, PCM. -/
def streamDesc (uac3 : Bool) (i ch sub : Nat) : List Nat :=
  if uac3 then [23, 0x24, 0x01, streamTerminal i, 0, 0, 0, 0] ++ bytes16 (i + 1) ++ [1, 0, 0, 0, 0, 0, 0, 0, sub, 24, 0, 0, 0]
  else [16, 0x24, 0x01, streamTerminal i, 0, 1, 1, 0, 0, 0, ch] ++ freeBytes (0x40 + i) 0 4 ++ [0] ++ [6, 0x24, 0x02, 1, sub, 24]

/-- The class-specific descriptor of a streaming interface's data endpoint. -/
def streamEndDesc (uac3 : Bool) (i : Nat) : List Nat :=
  if uac3 then [10, 0x25, 0x01, 0, 0, 0, 0] ++ freeBytes (0x40 + i) 4 3
  else [8, 0x25, 0x01, 0, 0] ++ freeBytes (0x40 + i) 4 3

/-- The cluster descriptor of streaming interface i + 1 in UAC 3.0 (R289): one block for each channel. -/
def clusterDesc (i ch : Nat) : List Nat :=
  let body := (List.range ch).flatMap (fun c => [6, 0, 0x20] ++ freeBytes (0x60 + i) (3 * c) 3 ++ [3, 0, 0xFF])
  bytes16 (7 + body.length) ++ [0x26, 0] ++ bytes16 (i + 1) ++ [ch] ++ body

/-- The HID report descriptor (R298): two input reports and one output report of on/off controls, each padded to a byte. -/
def hidReportDesc : List Nat :=
  [0x05, 0x0C, 0x09, 0x01, 0xA1, 0x01, 0x85, 0x01, 0x15, 0x00, 0x25, 0x01, 0x75, 0x01, 0x95, 0x05,
   0x09, 0xCD, 0x09, 0xE9, 0x09, 0xEA, 0x09, 0xE2, 0x09, 0xCF, 0x81, 0x02, 0x95, 0x03, 0x81, 0x03, 0xC0] ++
  [0x05, 0x0B, 0x09, 0x05, 0xA1, 0x01, 0x85, 0x02, 0x15, 0x00, 0x25, 0x01, 0x75, 0x01, 0x95, 0x03,
   0x09, 0x20, 0x09, 0x2F, 0x09, 0x21, 0x81, 0x02, 0x95, 0x05, 0x81, 0x03] ++
  [0x85, 0x03, 0x05, 0x08, 0x95, 0x03, 0x09, 0x17, 0x09, 0x09, 0x09, 0x18, 0x91, 0x02, 0x95, 0x05, 0x91, 0x03, 0xC0]

/-- The HID descriptor (R298): HID 1.11, one report descriptor. -/
def hidDesc : List Nat := [9, 0x21, 0x11, 0x01, 0, 1, 0x22] ++ bytes16 hidReportDesc.length

end Sys2Proof.Machine
end

