-- ==== Sys2Proof/Machine/Usb.lean ====
section
/-! DEFINITION. The USB function (chapter 11, R286 to R308): connection, descriptors, streams, the sample clock, HID, link
power and remote wake. Vendor register requests and the history start are in UsbTx.lean. -/

namespace Sys2Proof.Machine

/-- Update the function. -/
def State.modUsb (s : State) (f : Usb → Usb) : State := { s with usb := f s.usb }

/-- An OUT interface's stream. -/
def State.usbOut (s : State) (j : Nat) : UsbOut := vget s.usb.outs j ⟨false, [], [], [], [], 0, 0, 0⟩

/-- Update an OUT interface's stream. -/
def State.modOut (s : State) (j : Nat) (f : UsbOut → UsbOut) : State := s.modUsb (fun u => { u with outs := vmod u.outs j f })

/-- Update an IN interface's stream. -/
def State.modIn (s : State) (j : Nat) (f : UsbIn → UsbIn) : State := s.modUsb (fun u => { u with ins := vmod u.ins j f })

/-- The host got a STALL (or NYET), with no data. -/
def State.usbStall (s : State) : State := s.modUsb (fun u => { u with stall := true, reply := [] })

/-- The host got these bytes. -/
def State.usbReply (s : State) (bs : List Nat) : State := s.modUsb (fun u => { u with stall := false, reply := bs })

/-- Is the interface optional feature declared (HID_EN bit 5, VENDOR_EN bit 6, RWAKE_CAP bit 4)? -/
def State.usbCfg (s : State) (b : Nat) : Bool := decide (bits (s.descWord 0) b 1 = 1)

/-- Bus intervals in a second. -/
def State.busHz (s : State) : Nat := if s.on F.USB_STATE_HS then 8000 else 1000

/-- Current sampling frequency. -/
def State.usbHz (s : State) : Nat := rateHz (s.get F.USB_CLOCK_RATE)

/-- Is the function connected and its link neither in L2 nor reset away? -/
def State.usbLive (s : State) : Bool := s.on F.USB_STATE_CONNECTED && !s.on F.USB_STATE_SUSPENDED && s.clocked .usb

/-- Do the bulk endpoints of the vendor interface answer: is interface 6 declared (R290)? The vendor requests are addressed to the
device (R301) and need no interface. -/
def State.usbBulk (s : State) : Bool := s.usbLive && s.usbCfg 6

/-- Does a vendor transfer run (R306, R308)? -/
def State.vendorBusy (s : State) : Bool := s.usb.snap.isSome || s.lst.hist.on || s.usb.imgRx

/-- Set CONFIGURED; a change is raised. -/
def State.usbConfigured (s : State) (b : Bool) : State :=
  (s.when (decide (s.on F.USB_STATE_CONFIGURED ≠ b)) (·.irq 0x0A 6)).setB F.USB_STATE_CONFIGURED b

/-! ## Streams' stops (R290, R297) -/

/-- The lanes fed by an OUT interface ramp to zero (R22, R297). -/
def State.ifaceLanesStop (s : State) (j : Nat) : State :=
  s.forAll 48 (fun s n =>
    let l := s.laneAt n
    s.when (l.phase.live && !l.dir && decide (0x2C + 16 * j ≤ l.sid) && decide (l.sid < 0x3C + 16 * j)) (fun s =>
      ((s.set (F.LANE_FLAGS_STOPPED n) 1).irq (pgLANE n) 3).laneDown n))

/-- An OUT interface's stream stops (R297). -/
def State.outStop (s : State) (j : Nat) : State :=
  s.when (s.usbOut j).started (fun s =>
    let s := s.modOut j (fun _ => ⟨false, [], [], [], [], 0, 0, 0⟩)
    ((s.set (F.USB_AS_STATUS_ACTIVE j) 0).set (F.USB_AS_STATUS_STOPPED j) 1).ifaceLanesStop j)

/-- An IN interface ends transmission (R297). DEDUCED: one whose packets were flowing shows STOPPED, as R294 has it for every active
interface. -/
def State.inStop (s : State) (j : Nat) : State :=
  let s := s.when (s.on (F.USB_AS_STATUS_ACTIVE (2 + j))) (·.set (F.USB_AS_STATUS_STOPPED (2 + j)) 1)
  (s.set (F.USB_AS_STATUS_ACTIVE (2 + j)) 0).modIn j (fun d => { d with now := [], prev := [] })

/-- Every stream stops. -/
def State.streamsStop (s : State) : State := (((s.outStop 0).outStop 1).inStop 0).inStop 1

/-- The rings between the USB function and the lanes are zeroed (R31, R271, R275): frames that wait for lanes and samples that wait for
a packet become zeros, so that no stream loses its place. -/
def State.usbRingsZero (s : State) : State :=
  let quiet := fun (q : List (List Int)) => q.map (fun f => f.map (fun _ => (0 : Int)))
  s.modUsb (fun u => { u with
    outs := u.outs.map (fun o => { o with hold := quiet o.hold, mid := quiet o.mid, ready := quiet o.ready, last := quiet o.last })
    ins := u.ins.map (fun d => { d with fifo := d.fifo.map (fun _ => []), now := quiet d.now, prev := quiet d.prev }) })

/-- Set an alternate setting; a change is raised (R291). -/
def State.setAlt (s : State) (i alt : Nat) : State :=
  let s := s.when (decide (s.usbAlt i ≠ alt)) (·.irq 0x0A 7)
  (s.set (F.USB_ALT_ALT i) alt).setB (F.USB_AS_STATUS_SUBSLOT3 i) (decide (alt = 2))

/-- What a bus reset, a VBUS loss or a disconnect does (R290, R305). -/
def State.usbClear (s : State) : State :=
  let s := s.streamsStop.histCut
  let s := s.forAll 4 (fun s i => s.setAlt i 0)
  let s := (((s.set F.USB_STATE_ADDR 0).set F.USB_STATE_RWAKE_EN 0).set F.USB_STATE_SUSPENDED 0).set F.USB_STATE_L1 0
  (s.usbConfigured false).modUsb (fun u => { u with
    hid := [], snap := none, imgRx := false, wakeReq := false, wakeHeld := false, clockInt := false, held := 0, fbSum := 0, fbN := 0, fbCount := none
    sofMiss := 0 })

/-! ## Connection (R286, R287) -/

/-- Is a rate offered (R293): enabled, and of the engine's family in asynchronous mode? -/
def State.usbOffers (s : State) (code : Nat) : Bool :=
  decide (code ≤ 10) && decide (bits (s.descWord 3) code 1 = 1) &&
    (s.usbAdaptive || decide (rateFamily code = feFamily s.fe))

/-- Do the connection conditions hold (R286)? -/
def State.usbMay (s : State) : Bool :=
  s.on (F.PG_ENABLE 0x0A) && s.pins.usbvdd && s.on F.USB_STATE_VBUS && s.usb.phy && decide (s.get F.USB_ID_VID ≠ 0)
    && !s.usb.reconnect && s.islandOn .usb

/-- Status that follows the ball and the rail (R309, R310). -/
def State.usbSync (s : State) : State :=
  let s := s.setB F.USB_STATE_PROVISIONED (decide (s.get F.USB_ID_VID ≠ 0))
  if s.on F.USB_STATE_VBUS && !s.pins.usbvdd then s.fault 0x0A 1 else s.unfault 0x0A 1

/-- Switch the pull-up off (R286). -/
def State.usbOff (s : State) : State :=
  s.when (s.on F.USB_STATE_CONNECTED) (fun s =>
    let s := s.usbClear
    ((s.set F.USB_STATE_CONNECTED 0).set F.USB_STATE_HS 0).irq 0x0A 2 |>.trkOff 0)

/-- Follow the connection conditions: connect with descriptors of this moment, or switch the pull-up off. -/
def State.usbTry (s : State) : State :=
  let s := s.usbSync
  if s.usbMay then
    if s.on F.USB_STATE_CONNECTED then s
    else
      let words := descRegs.map s.reg
      let s := ((s.modUsb (fun u => { u with desc := words })).set F.USB_STATE_CONNECTED 1).irq 0x0A 2
      s.setB F.USB_CLOCK_VALID (s.usbOffers (s.get F.USB_CLOCK_RATE))
  else s.usbOff

/-- Is the PHY PLL wanted: ENABLE, USBVDD and VBUS? -/
def State.phyWanted (s : State) : Bool :=
  s.on (F.PG_ENABLE 0x0A) && s.pins.usbvdd && s.on F.USB_STATE_VBUS && s.islandOn .usb

/-- The PHY PLL is off while it is not wanted, and its fault is over then (R310). -/
def State.usbPower (s : State) : State :=
  (s.when (!s.phyWanted) (fun s => (s.modUsb (fun u => { u with phy := false })).unfault 0x0A 2)).usbTry

/-- Effects of a write to USB_CFG (R287): UAC or SYNC changed while connected forces a reconnect. -/
def State.usbCfgWritten (s : State) (old : Word) : State :=
  s.when (s.on F.USB_STATE_CONNECTED && decide (bits old 0 2 ≠ bits (s.reg A.USB_CFG) 0 2)) (fun s =>
    (s.modUsb (fun u => { u with reconnect := true })).usbTry)

/-- VBUS has been valid for 5 ms (R286). -/
def State.vbusValid (s : State) : State := s.when (!s.on F.USB_STATE_VBUS) (fun s => (s.set F.USB_STATE_VBUS 1).usbPower)

/-- VBUS is lost (R286). -/
def State.vbusLost (s : State) : State :=
  ((s.when (s.on F.USB_STATE_CONNECTED) (·.set F.USB_FLAGS_VBUS_LOST 1)).set F.USB_STATE_VBUS 0).usbPower

/-- The PHY PLL is lost (R286). -/
def State.phyLost (s : State) : State := (s.modUsb (fun u => { u with phy := false })).usbTry

/-- USBVDD falls below its power-good level (R286, R51). -/
def State.usbvddLost (s : State) : State :=
  ({ s with pins := { s.pins with usbvdd := false } }).when (decide (s.domState ≤ 1)) State.usbPower

/-- A bus reset (R290), with the speed the handshake gave (R288). -/
def State.usbReset (s : State) (hs : Bool) : State :=
  s.event .usb (s.on F.USB_STATE_CONNECTED) (fun s =>
    let s := s.usbClear
    let s := ((s.set F.USB_FLAGS_BUS_RESET 1).inc F.USB_COUNT_BUS_RESETS).irq 0x0A 3
    s.setB F.USB_STATE_HS (hs && !s.usbCfg 3))

/-! ## Requests of the host (R288 to R294) -/

/-- Characters of a string register group up to the first zero byte (R288). -/
def State.descString (s : State) (first n : Nat) : List Nat :=
  ((List.range n).flatMap (fun k => wordBytes (s.descWord (first + k)).toNat)).takeWhile (fun c => decide (c ≠ 0))

/-- Sixteen hexadecimal digits of the OTP unique ID, most significant first. -/
def uidDigits : List Nat :=
  let v := (Config.uid 1).toNat * 2 ^ 32 + (Config.uid 0).toNat
  (List.range 16).map (fun i =>
    let d := v / 16 ^ (15 - i) % 16
    if d < 10 then 48 + d else 55 + d)

/-- The serial string (R288). -/
def State.serialString (s : State) : List Nat :=
  let c := s.descString 40 8
  if c.isEmpty then uidDigits else c

/-- A string descriptor in UTF-16LE. -/
def stringDesc (cs : List Nat) : List Nat := [2 + 2 * cs.length, 3] ++ cs.flatMap (fun c => [c, 0])

/-- The device descriptor (R287, R288): USB 2.1 for the BOS, the class in the interfaces, strings 1 to 3. -/
def State.deviceDesc (s : State) : List Nat :=
  let id := s.descWord 1
  [18, 1, 0x10, 0x02, 0xEF, 2, 1, 64] ++ bytes16 (bits id 0 16) ++ bytes16 (bits id 16 16) ++ bytes16 (bits (s.descWord 2) 0 16)
    ++ [if (s.descString 8 16).isEmpty then 0 else 1, if (s.descString 24 16).isEmpty then 0 else 2, 3, 1]

/-- The BOS descriptor (R288): the USB 2.0 extension with LPM, BESL and a baseline BESL of 4. -/
def bosDesc : List Nat := [5, 15, 12, 0, 1, 7, 16, 2, 0x0E, 0x04, 0, 0]

/-- The highest rate USB_RATES enables, in Hz (R291). -/
def State.usbMaxHz (s : State) : Nat :=
  (List.range 11).foldl (fun m c => if bits (s.descWord 3) c 1 = 1 then max m (rateHz c) else m) 0

/-- Largest packet of an interface (R291): C × S × (⌈F × T⌉ + 1). -/
def packetBytes (ch sub hz bus : Nat) : Nat := ch * sub * (ceilDiv hz bus + 1)

/-- Bytes of a subslot of an alternate setting (R291). -/
def subslot (alt : Nat) : Nat := if alt = 1 then 4 else 3

/-- wMaxPacketSize for a packet of `b` bytes (R291): above 1,024 bytes at high speed it goes as two or three equal transactions,
whose number less one stands from bit 11 on. -/
def maxPacketField (hs : Bool) (b : Nat) : Nat :=
  if hs && decide (1024 < b) then
    let n := ceilDiv b 1024
    (n - 1) * 2048 + ceilDiv b n
  else b

/-- wMaxPacketSize of interface i + 1 at an alternate setting (R291). -/
def State.wMaxPacket (s : State) (i alt : Nat) : Nat :=
  maxPacketField (s.on F.USB_STATE_HS) (packetBytes (s.usbCh i) (subslot alt) s.usbMaxHz s.busHz)

/-- An endpoint as the configuration declares it (R290): address, attributes, largest packet, interval. -/
structure UsbEnd where
  addr : Nat
  attrs : Nat
  size : Nat
  interval : Nat
  deriving DecidableEq, Repr

/-- An endpoint descriptor. PRESUMED: the standard descriptors' layouts are USB 2.0's (log 44). -/
def UsbEnd.desc (e : UsbEnd) : List Nat := [7, 5, e.addr, e.attrs] ++ bytes16 e.size ++ [e.interval]

/-- The endpoints of interface n at an alternate setting (R290, R291, R295): interrupt ends every 1 ms, isochronous ends in every bus
interval, feedback every FB_P + 1. -/
def State.usbEnds (s : State) (n alt : Nat) : List UsbEnd :=
  let hs := s.on F.USB_STATE_HS
  let ms := if hs then 4 else 1
  let sync := if s.usbAdaptive then 0x09 else 0x05
  let bulk := if hs then 512 else 64
  match n with
  | 0 => [⟨0x86, 3, 6, ms⟩]
  | 1 | 2 =>
    if alt = 0 then []
    else ⟨n, sync, s.wMaxPacket (n - 1) alt, 1⟩ ::
      (if s.usbAdaptive then [] else [⟨0x80 + n, 0x11, if hs then 4 else 3, s.get F.CLK_MAINS_CTRL_FB_P + 1⟩])
  | 3 | 4 => if alt = 0 then [] else [⟨0x80 + n, sync, s.wMaxPacket (n - 1) alt, 1⟩]
  | 5 => [⟨0x85, 3, 8, ms⟩]
  | _ => [⟨0x07, 2, bulk, 0⟩, ⟨0x87, 2, bulk, 0⟩, ⟨0x88, 2, bulk, 0⟩]

/-- The interfaces the configuration declares, each with its alternate settings (R290, R291). -/
def State.usbIfaces (s : State) : List (Nat × Nat) :=
  [(0, 0)] ++ ([1, 2, 3, 4] : List Nat).flatMap (fun n => [(n, 0), (n, 1), (n, 2)])
    ++ (if s.usbCfg 5 then [(5, 0)] else []) ++ (if s.usbCfg 6 then [(6, 0)] else [])

/-- Class, subclass and protocol of an interface: audio control, audio streaming, HID, vendor (R289, R290). -/
def State.usbClass (s : State) (n : Nat) : List Nat :=
  let proto := if bits (s.descWord 0) 0 1 = 1 then 0x30 else 0x20
  if n = 0 then [1, 1, proto] else if n ≤ 4 then [1, 2, proto] else if n = 5 then [3, 0, 0] else [0xFF, 0, 0]

/-- Does USB_CFG.UAC select UAC 3.0 (R289)? -/
def State.usbUac3 (s : State) : Bool := s.usbCfg 0

/-- USB_ASi_CFG.TERM as it stood at the connect (R289). -/
def State.usbTerm (s : State) (i : Nat) : Nat := bits (s.descWord (4 + i)) 16 16

/-- An interface's descriptors: its own, the class-specific ones, its endpoints'; that of a data endpoint follows it. -/
def State.ifaceDesc (s : State) (n alt : Nat) : List Nat :=
  let ends := s.usbEnds n alt
  let stream := decide (1 ≤ n) && decide (n ≤ 4) && decide (alt ≠ 0)
  [9, 4, n, alt, ends.length] ++ s.usbClass n ++ [0]
    ++ (if n = 0 then controlDesc s.usbUac3 s.usbAdaptive s.usbCh s.usbTerm
        else if stream then streamDesc s.usbUac3 (n - 1) (s.usbCh (n - 1)) (subslot alt)
        else if n = 5 then hidDesc else [])
    ++ (ends.take 1).flatMap UsbEnd.desc ++ (if stream then streamEndDesc s.usbUac3 (n - 1) else [])
    ++ (ends.drop 1).flatMap UsbEnd.desc

/-- The configuration descriptor (R288, R290): one configuration, self-powered, bMaxPower 0, remote wake where declared. -/
def State.configDesc (s : State) : List Nat :=
  let body := s.usbIfaces.flatMap (fun e => s.ifaceDesc e.1 e.2)
  let n := 5 + (if s.usbCfg 5 then 1 else 0) + (if s.usbCfg 6 then 1 else 0)
  [9, 2] ++ bytes16 (9 + body.length) ++ [n, 1, 0, if s.usbCfg 4 then 0xE0 else 0xC0, 0] ++ body

/-- A GET_DESCRIPTOR (R288), the high-capability request for a cluster descriptor too (R289): type, index, and the length asked for. -/
def State.getDescriptor (s : State) (type index length : Nat) : State :=
  s.event .usb (s.on F.USB_STATE_CONNECTED) (fun s =>
    if type = 1 then s.usbReply (s.deviceDesc.take length)
    else if type = 3 then
      match index with
      | 0 => s.usbReply ([4, 3, 9, 4].take length)
      | 1 => s.usbReply ((stringDesc (s.descString 8 16)).take length)
      | 2 => s.usbReply ((stringDesc (s.descString 24 16)).take length)
      | 3 => s.usbReply ((stringDesc s.serialString).take length)
      | _ => s.usbStall
    else if type = 15 then s.usbReply (bosDesc.take length)
    else if type = 2 then (if index = 0 then s.usbReply (s.configDesc.take length) else s.usbStall)
    else if type = 0x21 ∧ s.usbCfg 5 then s.usbReply (hidDesc.take length)
    else if type = 0x22 ∧ s.usbCfg 5 then s.usbReply (hidReportDesc.take length)
    else if type = 0x26 ∧ s.usbUac3 then
      (if 1 ≤ index ∧ index ≤ 4 then s.usbReply ((clusterDesc (index - 1) (s.usbCh (index - 1))).take length) else s.usbStall)
    else s.usbReply ((Config.descriptor type index s.usb.desc).take length))

/-- SET_ADDRESS (R309). -/
def State.setAddress (s : State) (a : Nat) : State :=
  s.event .usb (s.on F.USB_STATE_CONNECTED) (fun s => (s.set F.USB_STATE_ADDR a).usbReply [])

/-- SET_CONFIGURATION (R309): 1 is the one configuration; 0 leaves it. -/
def State.setConfiguration (s : State) (c : Nat) : State :=
  s.event .usb (s.on F.USB_STATE_CONNECTED) (fun s =>
    if c = 1 then (s.usbConfigured true).usbReply []
    else if c = 0 then ((s.streamsStop.forAll 4 (fun s i => s.setAlt i 0)).usbConfigured false).usbReply []
    else s.usbStall)

/-- Do the limits of R292 hold for these alternate settings at a rate? -/
def State.usbFits (s : State) (alt : Nat → Nat) (hz : Nat) : Bool :=
  let load := fun (i : Nat) => if alt i = 0 then 0 else s.usbCh i * hz * (if alt i = 1 then 2 else 1)
  let size := fun (i : Nat) => if alt i = 0 then 0 else packetBytes (s.usbCh i) (subslot (alt i)) hz 1000
  decide (load 0 + load 1 ≤ 6144000) && decide (load 2 + load 3 ≤ 6144000) &&
    (s.on F.USB_STATE_HS || ((List.range 4).all (fun i => decide (size i ≤ 1023)) && decide (size 0 + size 1 + size 2 + size 3 ≤ 1152)))

/-- A refusal for bandwidth (R292). -/
def State.bwRefused (s : State) : State := ((s.set F.USB_FLAGS_BW_REFUSED 1).irq 0x0A 11).usbStall

/-- SET_INTERFACE (R290 to R292, R297) of streaming interface i + 1. -/
def State.setInterface (s : State) (i alt : Nat) : State :=
  s.event .usb (s.on F.USB_STATE_CONNECTED && s.on F.USB_STATE_CONFIGURED) (fun s =>
    if 2 < alt then s.usbStall
    else if !s.usbFits (fun k => if k = i then alt else s.usbAlt k) s.usbHz then s.bwRefused
    else
      let s := if i < 2 then s.outStop i else s.inStop (i - 2)
      ((s.setAlt i alt).modUsb (fun u => { u with held := bitsOf ((List.range 4).map (fun k => decide (k ≠ i) && u.held.testBit k)) })).usbReply [])

/-- A sampling-frequency SET_CUR (R293). -/
def State.setFreq (s : State) (hz : Nat) : State :=
  s.event .usb (s.on F.USB_STATE_CONNECTED && s.on F.USB_STATE_CONFIGURED) (fun s =>
    let code := rateCode hz
    if rateHz code ≠ hz ∨ !s.usbOffers code then s.usbStall
    else if !s.usbFits s.usbAlt hz then s.bwRefused
    else
      let changed := decide (code ≠ s.get F.USB_CLOCK_RATE)
      let s := (((s.set F.USB_CLOCK_RATE code).set F.USB_CLOCK_VALID 1).irq 0x0A 8).usbReply []
      s.when changed (fun s => (s.inc F.USB_CLOCK_HOST_SET).when (decide (1 ≤ s.trkState 2) && decide (s.trkState 2 ≤ 2))
        (·.trkRateChange 0)))

/-- Move a gain to `goal` (1/65,536 dB) linearly in dB over `len` samples. -/
def DbRamp.toDb (r : DbRamp) (goal : Int) (mute : Bool) (len : Nat) : DbRamp :=
  ⟨if r.muted then -120 * 65536 else r.now, if mute then -120 * 65536 else goal, if r.muted && mute then 0 else len, 0, mute, r.muted⟩

/-- A feature unit follows its values and APPLYi (R289). -/
def State.fuSync (s : State) (i : Nat) : State :=
  let apply := s.on (F.USB_FU_CTRL_APPLY i)
  let goal : Int := if apply then signed 16 (s.get (F.USB_FU_VOL i)) * 256 else 0
  s.modUsb (fun u => { u with fu := vmod u.fu i (fun r => r.toDb goal (apply && s.on (F.USB_FU_MUTE i)) (samplesIn 1000 s.usbHz)) })

/-- A feature unit's SET_CUR (R289): mute, or a volume in 1/256 dB clamped to its range. -/
def State.fuSet (s : State) (i : Nat) (isMute : Bool) (v : Int) : State :=
  s.event .usb (s.on F.USB_STATE_CONNECTED && s.on F.USB_STATE_CONFIGURED) (fun s =>
    let old := s.reg (A.USB_FU i)
    let s := if isMute then s.setB (F.USB_FU_MUTE i) (decide (v ≠ 0)) else s.setS (F.USB_FU_VOL i) (max (-24576) (min 0 v))
    let s := s.when (decide (s.reg (A.USB_FU i) ≠ old)) (fun s => (s.irq 0x0A 9).fuSync i)
    s.usbReply [])

/-- SET_FEATURE of remote wake (R307), where the device declares it (R288). -/
def State.setRwake (s : State) : State :=
  s.event .usb (s.on F.USB_STATE_CONNECTED) (fun s => if s.usbCfg 4 then (s.set F.USB_STATE_RWAKE_EN 1).usbReply [] else s.usbStall)

/-- The engine's family has changed (R294). -/
def State.usbFeChanged (s : State) : State :=
  s.when (!s.usbAdaptive && s.on F.USB_CLOCK_VALID && s.on F.USB_STATE_CONNECTED && !s.usbOffers (s.get F.USB_CLOCK_RATE)) (fun s =>
    ((s.set F.USB_CLOCK_VALID 0).modUsb (fun u => { u with clockInt := true })).streamsStop)

/-! ## Packets (R291, R296, R297) -/

/-- A sample from the bytes of a subslot (R10). -/
def subslotSample (bs : List Nat) : Int :=
  match bs with
  | [a, b, c] => signed 32 (256 * (a + 256 * b + 65536 * c))
  | [_, a, b, c] => signed 32 (256 * (a + 256 * b + 65536 * c))
  | _ => 0

/-- Bytes of a sample in a subslot (R10). -/
def subslotBytes (sub : Nat) (x : Int) : List Nat := if sub = 4 then 0 :: bytes24 x else bytes24 x

/-- Cut a list into pieces of `n`; a short last piece is dropped. The first number bounds the pieces. -/
def pieces {α : Type} (n : Nat) : Nat → List α → List (List α)
  | 0, _ => []
  | f + 1, l => if l.length < n ∨ n = 0 then [] else l.take n :: pieces n f (l.drop n)

/-- The next frame of a backward reading of the last received frames. -/
def UsbOut.backFrame (o : UsbOut) : UsbOut × List Int :=
  (if o.last.isEmpty then o else { o with back := (o.back + 1) % o.last.length }, o.last.getD o.back [])

/-- A frame that gives way to another in a crossfade over 16 frames, `left` of them to come. -/
def crossFrame (old new : List Int) (left : Nat) : List Int :=
  (List.range (max old.length new.length)).map (fun i =>
    divRne (new.getD i 0 * ((17 - left : Nat) : Int) + old.getD i 0 * (left : Int)) 17)

/-- Supply `n` frames by reading backwards (R297). DESIGN CHOICE (log 168): at the join into the reading, where no further received
frame is at hand, the last one stands for the side that fades out. -/
def UsbOut.fill (o : UsbOut) : Nat → UsbOut
  | 0 => o
  | n + 1 =>
    let o := if o.join = 0 then { o with lead := 16 } else o
    let old := o.last.headD []
    let lead := o.lead
    let (o, x) := o.backFrame
    ({ o with hold := o.hold ++ [if lead = 0 then x else crossFrame old x lead], lead := lead - 1, join := 16 }).fill n

/-- Received frames kept for a backward reading: the longest bus interval has 192 (R291). -/
def usbKept : Nat := 256

/-- A received frame, crossfaded with the backward reading it follows (R297). -/
def UsbOut.take (o : UsbOut) (x : List Int) : UsbOut :=
  if o.join = 0 then { o with hold := o.hold ++ [x], last := (x :: o.last).take usbKept, back := 0 }
  else
    let (o', y) := o.backFrame
    { o' with
      hold := o.hold ++ [crossFrame y x o.join], join := o.join - 1, lead := 0
      last := if o.join = 1 then (x :: o.last).take usbKept else o.last, back := if o.join = 1 then 0 else o'.back }

/-- Nominal samples of a bus interval. -/
def State.nominal (s : State) : Nat := (divRne s.usbHz s.busHz).toNat

/-- An OUT packet (R297). -/
def State.outPacket (s : State) (j : Nat) (data : List Nat) : State :=
  let alt := s.usbAlt j
  s.event .usb (s.usbLive && decide (alt ≠ 0) && s.on F.USB_CLOCK_VALID && !s.usb.held.testBit j) (fun s =>
    let ch := s.usbCh j
    let sub := subslot alt
    let frames := (pieces (ch * sub) data.length data).map (fun f => (pieces sub ch f).map subslotSample)
    let cap := ceilDiv s.usbHz s.busHz + 1
    let odd := decide (data.length % max 1 (ch * sub) ≠ 0)
    let s := s.when (odd || decide (cap < frames.length)) (·.inc (F.USB_AS_COUNT_PARTIAL j))
    let s := s.modOut j (fun o => ((frames.take cap).foldl UsbOut.take { o with started := true }).fill (if odd && decide (frames.length < cap) then 1 else 0))
    s.set (F.USB_AS_STATUS_ACTIVE j) 1)

/-- No packet in an interval with SOF present (R297). -/
def State.outMissing (s : State) (j : Nat) : State :=
  s.event .usb (s.usbLive && (s.usbOut j).started) (fun s =>
    (s.inc (F.USB_AS_COUNT_MISSED j)).modOut j (·.fill s.nominal))

/-- An IN packet of interface j + 3 (R296). -/
def State.inPacket (s : State) (j : Nat) : State :=
  let alt := s.usbAlt (2 + j)
  s.event .usb (s.usbLive && decide (alt ≠ 0) && s.on F.USB_CLOCK_VALID && !s.usb.held.testBit (2 + j)) (fun s =>
    let ch := s.usbCh (2 + j)
    (s.modIn j (fun d => { d with
      sent := d.prev.flatMap (fun f => (List.range ch).flatMap (fun c => subslotBytes (subslot alt) (f.getD c 0))), prev := [] })).set
      (F.USB_AS_STATUS_ACTIVE (2 + j)) 1)

/-- The tracker counts sample-clock periods against the SOFs (R282): after 2^FB_P bus intervals it hands over the mean of an interval
in 16.16. Both sides stand against the crystal (R278), so the count follows from the intervals' ticks. -/
def State.fbMeasure (s : State) (period : Nat) : State :=
  let sum := s.usb.fbSum + period
  let n := s.usb.fbN + 1
  if n < 2 ^ s.get F.CLK_MAINS_CTRL_FB_P then s.modUsb (fun u => { u with fbSum := sum, fbN := n })
  else s.modUsb (fun u => { u with fbSum := 0, fbN := 0, fbCount := some (divRne (sum * s.usbHz * 65536) (trkTicks * n)).toNat })

/-- A start of frame (R20, R282, R296), `missing` where the function has to predict it, else `period` ticks after the last: an edge of
the USB tracker, and a bus interval ends. A predicted one stands for one that is missing, at the nominal interval; the second missing
one in a row is a stop. -/
def State.usbSof (s : State) (missing : Bool) (period : Nat) : State :=
  s.event .usb s.usbLive (fun s =>
    let lost := missing && decide (1 ≤ s.usb.sofMiss)
    let p := if missing then trkTicks / s.busHz else period
    let s := s.modUsb (fun u => { u with sofMiss := if missing then u.sofMiss + 1 else 0 })
    let s := s.trkEvent 0 true (fun s => if lost then s.trkStop 0 else s.trkEdge 0 p)
    let s := if s.usbAdaptive ∨ s.trkState 2 ≠ 2 ∨ lost then s.modUsb (fun u => { u with fbSum := 0, fbN := 0 }) else s.fbMeasure p
    let s := s.forAll 2 (fun s j => s.modOut j (fun o => { o with hold := [], mid := o.hold, ready := (o.ready ++ o.mid).reverse.take 1024 |>.reverse }))
    s.forAll 2 (fun s j => s.modIn j (fun d => { d with now := [], prev := d.now })))

/-- A feedback report (R24, R295): the measured value (R282), the nominal one before the first measurement (log 169), in steps of at
most 0.1 % of nominal a bus interval; out of LOCKED the last report again. -/
def State.feedback (s : State) (j : Nat) : State :=
  s.event .usb (s.usbLive && !s.usbAdaptive && decide (s.usbAlt j ≠ 0)) (fun s =>
    let n := 2 ^ s.get F.CLK_MAINS_CTRL_FB_P
    let last := s.get (F.USB_FB_VALUE j)
    let nominal := (divRne (s.usbHz * 65536) s.busHz).toNat
    let lim := nominal * n / 1000
    let m := s.usb.fbCount.getD nominal
    let v := if s.trkState 2 ≠ 2 then last
      else if last = 0 then m else max (last - lim) (min (last + lim) m)
    let s := s.set (F.USB_FB_VALUE j) v
    s.usbReply (if s.on F.USB_STATE_HS then wordBytes v else (wordBytes (divRne v 4).toNat).take 3))

/-! ## The sample clock (R20, R296) -/

/-- The rate of the USB sample clock in 0.01 Hz. -/
def State.usbRate (s : State) : Nat := if s.usbAdaptive then s.measRate 2 else 100 * s.usbHz

/-- A unit's gain applied to a sample; a 0 dB unit passes it unchanged (R289). -/
def fuSample (r : DbRamp) (bit : Nat) (x : Int) : Int := if r.done ∧ r.goal = 0 ∧ !r.muteEnd then x else sat32 (mulGain x (r.lin bit))

/-- One instant of the sample clock: each OUT interface gives up a frame, whose channels at or above Ci read zero (R290); each IN
interface takes one, for a packet while an alternate setting is selected and the bus is not suspended. -/
def State.usbInstant (s : State) (got : List (Nat × Int)) : State × List (Nat × Int) :=
  let s := s.modUsb (fun u => { u with fu := u.fu.map DbRamp.step })
  let (s, got) := (List.range 2).foldl (fun (p : State × List (Nat × Int)) j =>
    match (p.1.usbOut j).ready with
    | [] => p
    | x :: t =>
      let r := vget p.1.usb.fu j ⟨0, 0, 0, 0, false, false⟩
      (p.1.modOut j (fun o => { o with ready := t }),
        p.2 ++ (List.range 16).map (fun c =>
          (0x2C + 16 * j + c, if c < p.1.usbCh j then fuSample r (p.1.lsb (2500 + j) c) (x.getD c 0) else 0)))) (s, got)
  let s := s.forAll 2 (fun s j =>
    let r := vget s.usb.fu (2 + j) ⟨0, 0, 0, 0, false, false⟩
    s.modIn j (fun d =>
      let x := (List.range 16).map (fun c => fuSample r (s.lsb (2502 + j) c) ((vget d.fifo c []).headD 0))
      { d with fifo := d.fifo.map List.tail, now := if s.usbAlt (2 + j) = 0 ∨ s.on F.USB_STATE_SUSPENDED ∨ s.usb.held.testBit (2 + j) then [] else d.now ++ [x] }))
  (s, got)

/-- The instants of one engine frame, at most `n` of them. -/
def State.usbInstants (s : State) : Nat → List (Nat × Int) → State × List (Nat × Int)
  | 0, got => (s, got)
  | n + 1, got =>
    if s.usb.phase < 100 * feHz s.fe then (s, got)
    else
      let (s, got) := (s.modUsb (fun u => { u with phase := u.phase - 100 * feHz s.fe })).usbInstant got
      s.usbInstants n got

/-- The samples USB delivers to the lanes in an engine frame, by source ID. -/
def State.usbFrame (s : State) : State × List (Nat × Int) :=
  if !s.on F.USB_STATE_CONNECTED then (s, [])
  else (s.modUsb (fun u => { u with phase := u.phase + s.usbRate })).usbInstants 8 []

/-- A sink hands its samples to an IN channel (sink 12 + k). -/
def State.usbSink (s : State) (k : Nat) (xs : List Int) : State :=
  s.modIn (k / 16) (fun d => { d with fifo := vmod d.fifo (k % 16) (fun q => (q ++ xs).take 1024) })

/-! ## HID (R298 to R300) -/

/-- Post a remote-wake request of an enabled source (R307). DEDUCED: a bus that is neither in L2 nor in L1 has nothing to wake, and
the request is void (log 46). -/
def State.wakeHost (s : State) (enabled : Bool) : State :=
  s.when (enabled && s.on F.USB_STATE_CONNECTED && (s.on F.USB_STATE_SUSPENDED || s.on F.USB_STATE_L1))
    (·.modUsb (fun u => { u with wakeReq := true }))

/-- Queue an input report (R300). -/
def State.hidQueue (s : State) (r : List Nat) : State :=
  if s.usb.hid.length < 8 then s.modUsb (fun u => { u with hid := u.hid ++ [r] })
  else (s.modUsb (fun u => { u with hid := u.hid.tail ++ [r] })).set F.USB_HID_STATUS_HID_OVF 1

/-- The usages held now (R299). -/
def State.hidNow (s : State) : Nat :=
  (List.range 2).foldl (fun m n =>
    let b := s.get (F.JCK_STATUS_BTN n)
    let u := if b = 0 then 0 else s.get (F.USB_HID_MAP_BTN (b - 1))
    if u = 0 ∨ 8 < u then m else m ||| 2 ^ (u - 1)) (s.get F.USB_HID_INJECT_USAGE)

/-- The content of the input reports follows the buttons (R299, R300). -/
def State.hidSync (s : State) : State :=
  let old := s.get F.USB_HID_STATUS_NOW
  let new := s.hidNow
  if old = new then s
  else
    let s := s.set F.USB_HID_STATUS_NOW new
    let queue := s.on F.USB_STATE_CONFIGURED && s.usbCfg 5
    let s := s.when (queue && decide (old % 32 ≠ new % 32)) (·.hidQueue [1, new % 32])
    let s := s.when (queue && decide (old / 32 % 8 ≠ new / 32 % 8)) (·.hidQueue [2, new / 32 % 8])
    s.wakeHost (s.on F.USB_WAKE_HID && decide (old % 256 ≠ new % 256))

/-- A poll of endpoint 0x85 (R300). -/
def State.hidPoll (s : State) : State :=
  s.event .usb (s.usbLive && s.on F.USB_STATE_CONFIGURED && s.usbCfg 5) (fun s =>
    match s.usb.hid with
    | r :: t => (s.modUsb (fun u => { u with hid := t })).usbReply r
    | [] => s.usbReply [])

/-- An output report (R300). -/
def State.setReport (s : State) (id value : Nat) : State :=
  s.event .usb (s.usbLive && s.on F.USB_STATE_CONFIGURED) (fun s =>
    if id = 3 ∧ s.usbCfg 5 then ((s.set F.USB_HID_STATUS_LED (value % 8)).irq 0x0A 10).usbReply [] else s.usbStall)

/-! ## Link power (R306 to R308) -/

/-- Suspend (R306): L2, streams stopped until the host selects them again, the history stream ended (R305). -/
def State.usbSuspend (s : State) : State :=
  s.event .usb (s.on F.USB_STATE_CONNECTED && !s.on F.USB_STATE_SUSPENDED) (fun s =>
    let on := bitsOf ((List.range 4).map (fun i => decide (s.usbAlt i ≠ 0)))
    let s := (s.streamsStop.histCut).modUsb (fun u => { u with idle5 := false, snap := none, imgRx := false, held := u.held ||| on })
    (((s.set F.USB_STATE_L1 0).set F.USB_STATE_SUSPENDED 1).inc F.USB_COUNT_SUSPENDS).irq 0x0A 4)

/-- Resume from L2 (R306). -/
def State.usbResume (s : State) : State :=
  s.when (s.on F.USB_STATE_SUSPENDED) (fun s =>
    let s := (s.modUsb (fun u => { u with idle5 := false, wakeReq := false, wakeHeld := false })).set F.USB_STATE_SUSPENDED 0
    (s.set F.USB_FLAGS_RESUMED 1).irq 0x0A 5)

/-- An L1 token (R306): ACK, or NYET. -/
def State.l1Token (s : State) (besl : Nat) (rwake : Bool) : State :=
  s.event .usb s.usbLive (fun s =>
    let s := s.set F.USB_LPM_BESL besl
    if (List.range 4).any (fun i => decide (s.usbAlt i ≠ 0)) || s.vendorBusy then s.usbStall
    else
      let s := (s.set F.USB_STATE_L1 1).inc F.USB_LPM_L1_ENTRIES
      (s.modUsb (fun u => { u with l1Wake := rwake })).usbReply [])

/-- The host resumes the link from L1 (R306). -/
def State.l1Exit (s : State) : State :=
  s.event .usb (s.on F.USB_STATE_L1) (fun s => (s.modUsb (fun u => { u with wakeReq := false })).set F.USB_STATE_L1 0)

/-- A remote-wake request is served (R307): a K state, a wait for the 5 ms of idle, or WAKE_BLOCKED. -/
def State.remoteWake (s : State) : State :=
  s.when (s.usb.wakeReq && s.on F.USB_STATE_CONNECTED) (fun s =>
    let s := s.modUsb (fun u => { u with wakeReq := false })
    if s.on F.USB_STATE_SUSPENDED then
      if !s.on F.USB_STATE_RWAKE_EN then s.set F.USB_WAKE_WAKE_BLOCKED 1
      else if s.usb.idle5 then s.modUsb (fun u => { u with kSent := u.kSent + 1 })
      else s.modUsb (fun u => { u with wakeHeld := true })
    else if s.on F.USB_STATE_L1 then
      if s.usb.l1Wake then s.modUsb (fun u => { u with kSent := u.kSent + 1 }) else s.set F.USB_WAKE_WAKE_BLOCKED 1
    else s)

/-- The bus has been idle for 5 ms (R307): a held request is sent. -/
def State.rwakeIdle (s : State) : State :=
  s.when (s.on F.USB_STATE_SUSPENDED) (fun s =>
    s.modUsb (fun u => { u with idle5 := true, wakeHeld := false, kSent := if u.wakeHeld then u.kSent + 1 else u.kSent }))

/-- Does the function refuse QUIESCE for a target state (R308)? -/
def State.usbRefuses (s : State) (target : Nat) : Bool :=
  ((List.range 4).any (fun i => decide (s.usbAlt i ≠ 0)) && !s.on F.USB_STATE_SUSPENDED) ||
    (decide (2 ≤ target) && s.on F.USB_STATE_CONNECTED && !s.on F.USB_STATE_SUSPENDED) || s.vendorBusy

/-- CLR (R309). -/
def State.usbCntClr (s : State) : State :=
  (((s.setReg A.USB_COUNT 0).set F.USB_HIST_STATUS_OVERRUNS 0)).forAll 4 (fun s i => s.setReg (A.USB_AS_COUNT i) 0)

/-- Does the condition of a fault code of the page still hold (R310)? -/
def State.usbFaultHolds (s : State) (code : Nat) : Bool :=
  if code = 1 then s.on F.USB_STATE_VBUS && !s.pins.usbvdd else s.phyWanted && !s.usb.phy

/-! ## Meanings of the events -/

/-- An IN endpoint's turn: in freeze with KEEP_USB it sends a zero-length packet (R463). -/
def State.usbInEnd (s : State) (f : State → State) : State := if s.frozen then s.when s.usbLive (·.usbReply []) else f s

/-- USB_SOF (R282): recovered `period` ticks of the timing counter after the last, or predicted for a missing one. -/
def execUsbSof (missing : Bool) (period : Nat) (s : State) : Host.Outcome State Fault Refusal := .next (settle (s.usbSof missing period))
/-- USB_GET_DESCRIPTOR (R288). -/
def execUsbGetDescriptor (type index length : Nat) (s : State) : Host.Outcome State Fault Refusal :=
  .next (settle (s.getDescriptor type index length))
/-- USB_SET_INTERFACE (R292). -/
def execUsbSetInterface (i : Fin 4) (alt : Nat) (s : State) : Host.Outcome State Fault Refusal :=
  .next (settle (s.setInterface i alt))
/-- USB_SET_SAMPLING_FREQ (R293). -/
def execUsbSetSamplingFreq (hz : Nat) (s : State) : Host.Outcome State Fault Refusal := .next (settle (s.setFreq hz))
/-- USB_FU_SET_CUR (R289). -/
def execUsbFuSetCur (i : Fin 4) (isMute : Bool) (value : Int) (s : State) : Host.Outcome State Fault Refusal :=
  .next (settle (s.fuSet i isMute value))
/-- USB_SET_FEATURE_RWAKE (R307). -/
def execUsbSetFeatureRwake (s : State) : Host.Outcome State Fault Refusal := .next (settle s.setRwake)
/-- USB_SET_REPORT (R300). -/
def execUsbSetReport (id value : Nat) (s : State) : Host.Outcome State Fault Refusal := .next (settle (s.setReport id value))
/-- USB_OUT_PACKET (R297); discarded in freeze (R463). -/
def execUsbOutPacket (j : Fin 2) (data : List Nat) (s : State) : Host.Outcome State Fault Refusal :=
  .next (settle (s.when (!s.frozen) (·.outPacket j data)))
/-- USB_PACKET_MISSING (R297). -/
def execUsbPacketMissing (j : Fin 2) (s : State) : Host.Outcome State Fault Refusal :=
  .next (settle (s.when (!s.frozen) (·.outMissing j)))
/-- USB_STREAM_STOP (R297). -/
def execUsbStreamStop (j : Fin 2) (s : State) : Host.Outcome State Fault Refusal :=
  .next (settle (s.event .usb (!s.frozen) (·.outStop j)))
/-- USB_IN_PACKET (R296). -/
def execUsbInPacket (j : Fin 2) (s : State) : Host.Outcome State Fault Refusal :=
  .next (settle (s.usbInEnd (·.inPacket j)))
/-- USB_FEEDBACK_IN (R295). -/
def execUsbFeedbackIn (j : Fin 2) (s : State) : Host.Outcome State Fault Refusal :=
  .next (settle (s.usbInEnd (·.feedback j)))
/-- USB_HID_POLL (R300). -/
def execUsbHidPoll (s : State) : Host.Outcome State Fault Refusal := .next (settle (s.usbInEnd State.hidPoll))
/-- USB_HISTORY_IN (R304). -/
def execUsbHistoryIn (s : State) : Host.Outcome State Fault Refusal :=
  .next (settle (s.usbInEnd (fun s => s.event .usb s.usbBulk (·.histPacket State.usbReply))))
/-- USB_L1_TOKEN (R306). -/
def execUsbL1Token (besl : Fin 16) (rwake : Bool) (s : State) : Host.Outcome State Fault Refusal :=
  .next (settle (s.l1Token besl rwake))
/-- USB_L1_EXIT (R306). -/
def execUsbL1Exit (s : State) : Host.Outcome State Fault Refusal := .next (settle s.l1Exit)
/-- USB_REMOTE_WAKE (R307). -/
def execUsbRemoteWake (s : State) : Host.Outcome State Fault Refusal := .next (settle s.remoteWake)
/-- USB_RWAKE_IDLE_WAIT_END (R307). -/
def execUsbRwakeIdleWaitEnd (s : State) : Host.Outcome State Fault Refusal := .next (settle s.rwakeIdle)
/-- USB_SET_ADDRESS (R309). -/
def execUsbSetAddress (a : Fin 128) (s : State) : Host.Outcome State Fault Refusal := .next (settle (s.setAddress a))
/-- USB_SET_CONFIGURATION (R309). -/
def execUsbSetConfiguration (c : Nat) (s : State) : Host.Outcome State Fault Refusal := .next (settle (s.setConfiguration c))
/-- USB_FORCED_RECONNECT (R287). -/
def execUsbForcedReconnect (s : State) : Host.Outcome State Fault Refusal :=
  .next (settle (s.modUsb (fun u => { u with reconnect := false })).usbTry)
/-- USB_PHY_PLL_LOCK (R286). -/
def execUsbPhyPllLock (s : State) : Host.Outcome State Fault Refusal :=
  .next (settle (s.when s.phyWanted (fun s => ((s.modUsb (fun u => { u with phy := true })).unfault 0x0A 2).usbTry)))
/-- USB_PHY_PLL_LOCK_TIMEOUT (R310). -/
def execUsbPhyPllLockTimeout (s : State) : Host.Outcome State Fault Refusal :=
  .next (settle (s.when (s.phyWanted && !s.usb.phy) (·.fault 0x0A 2)))

end Sys2Proof.Machine
end

