-- ==== Sys2Proof/Machine/Clk.lean ====
section
/-! DEFINITION. Clocks and rate domains (chapter 10): the crystal, the family PLLs, the FLL, the engine rate and operating
point, takeovers and PLL tests (R261 to R277), and the mains edge rows (R283). -/

namespace Sys2Proof.Machine

/-! ## Consumers -/

/-- Every output's pop-control gain follows its causes, over `us`. -/
def State.outsSync (s : State) (us : Nat) : State :=
  (s.forAll 8 (fun s c => s.aoutSync c us)).forAll 4 (fun s n => s.spkSync n us)

/-- The engine stops (R262, R272): Churn ramps take their targets, taps at zero, every running output ramps to zero. -/
def State.engineStops (s : State) : State :=
  s.when (!s.engStop) (fun s => ({ s with engStop := true }.chnStops.tapsZero).outsSync 150)

/-- The engine restarts (R271, R272, R275): rings zeroed, lanes restart, taps and outputs return. -/
def State.engineRestart (s : State) : State :=
  let s := { s with engStop := false }
  let s := s.sapRingsZero.spdRingsZero.usbRingsZero
  let s := s.when (s.clocked .engine) (·.lanesRestart)
  (s.tapsUp.fifSync).outsSync 5000

/-- Consumers of a family act on its clock's loss (R272 steps 1 and 2); islands that freeze has stopped do so at resume (R26). -/
def State.famLost (s : State) (fam : Nat) : State :=
  s.when (!s.frozen) (fun s =>
    let s := ((s.ainClockLost fam).beepClockLost fam).aoutClockLost fam
    let s := ((s.spkClockLost fam).lanesPllLost fam).sapClockLost fam
    let s := (s.spdClockLost fam).when (decide (fam = 1)) (·.pdmClockLost 1)
    let s := s.when (decide (fam = 0)) (·.snsClockLost)
    (s.when (decide (feFamily s.fe = fam)) (·.engineStops)).fifSync)

/-- Consumers of a family go on with its clock (R265, R272 step 3); those of stopped islands at resume. -/
def State.famBack (s : State) (fam : Nat) : State :=
  s.when (decide (s.domState ≤ 1) && !s.frozen) (fun s =>
    let s := if feFamily s.fe = fam ∧ s.engStop ∧ s.get F.CLK_TAKEOVER_STATUS_PHASE ≠ 5 then s.engineRestart
      else s.lanesPllUp fam
    let s := ((s.ainClockUp fam).beepClockUp fam).aoutClockUp fam
    let s := (s.spkClockUp.sapClockUp fam).spdClockUp fam
    let s := s.when (decide (fam = 1)) (·.pdmClockUp 1)
    (s.when (decide (fam = 0)) (·.snsClockUp)).fifSync)

/-! ## Roles (R264) -/

/-- The role field of a PLL. -/
def F.CLK_ROLE_OF (x : Nat) : Fld := .mk A.CLK_ROLE (4 * x) 3

/-- A PLL's role: 0 and 1 a family, 2 SPARE, 3 TEST, 4 RETIRED, 5 SHADOW. -/
def State.pllRole (s : State) (x : Nat) : Nat := s.get (F.CLK_ROLE_OF x)

/-- Set a PLL's role; a family role also names it in the family's field. -/
def State.setRole (s : State) (x r : Nat) : State :=
  let s := s.spareLogIf (decide (r ≤ 1) && decide (s.famPll r ≠ x)) 4 r x 0
  let s := s.spareLogIf (decide (s.pllRole x ≠ r)) 5 x 0 r
  let s := s.set (F.CLK_ROLE_OF x) r
  if r = 0 then s.set F.CLK_ROLE_FAM_A_PLL x else if r = 1 then s.set F.CLK_ROLE_FAM_B_PLL x else s

/-- Set a PLL's STATE: 0 OFF, 1 LOCKING, 2 LOCKED, 3 FAULT. -/
def State.pllState (s : State) (x v : Nat) : State := s.set (F.CLK_PLL_STATUS_STATE x) v

/-- The lowest PLL that is SPARE. -/
def State.sparePll (s : State) : Option Nat := (List.range 3).find? (fun x => decide (s.pllRole x = 2))

/-- A family stays down (R272 step 4, R285), also while its relock is tried again. -/
def State.famDown (s : State) (fam : Nat) : State :=
  s.when (decide (s.get (F.CLK_PLL_STATUS_STATE (s.famPll fam)) = 3)) (fun s =>
    { s with famOut := vmod s.famOut fam (fun _ => true) }.fault 0x03 2)

/-- A family is down no more once its PLL is locked or off; FAULT 0x02 ends with the last one. -/
def State.famFaultSync (s : State) : State :=
  let out := Vector.ofFn (fun f : Fin 2 =>
    vget s.famOut f.val false && !s.famUp f.val && decide (s.get (F.CLK_PLL_STATUS_STATE (s.famPll f.val)) ≠ 0))
  let s := { s with famOut := out }
  s.when (out.toList.all (fun b => !b)) (·.unfault 0x03 2)

/-! ## Operating point and engine rate (R270, R271) -/

/-- The engine clock in kHz (R270). -/
def engineKhz (fe op : Nat) : Nat :=
  if feFamily fe = 0 then 49152 * (op + 1) else (divRne (451584 * (op + 1) : Nat) 10).toNat

/-- The divider takes an operating point. -/
def State.divider (s : State) (op : Nat) : State :=
  ((s.set F.CLK_ENGINE_OP_NOW op).set F.CLK_ENGINE_FREQ_KHZ (engineKhz s.fe op)).chnSync.chnCapacity

/-- Apply an operating point (R270); during a takeover it is held (R276). -/
def State.applyOp (s : State) (op : Nat) : State := if s.tkoOn then { s with opHeld := some op } else s.divider op

/-- The change's step 1 or 2 (R271). -/
def State.feStart (s : State) : State :=
  if s.famUp (feFamily (s.get F.CLK_ENGINE_FE)) then
    { (s.lanesMute 1000 false).tapsDown with feChange := .ramp }
  else { s with feChange := .waitPll }

/-- Effects of a write of CLK_ENGINE.FE (R271, R276): a new or pending rate starts the sequence. -/
def State.feWritten (s : State) : State :=
  if s.get F.CLK_ENGINE_FE = s.fe ∧ s.feChange = .none then s
  else
    let s := s.set F.CLK_ENGINE_FE_PENDING 1
    if s.tkoOn then { s with feChange := .held } else s.feStart

/-- Steps 3 and 4 of R271: Fe applied, everything re-evaluated, the engine restarts. -/
def State.feApply (s : State) : State :=
  let s := s.chnStops
  let s := (s.set F.CLK_ENGINE_FE_NOW (s.get F.CLK_ENGINE_FE)).set F.CLK_ENGINE_FE_PENDING 0
  let s := { s.set F.CLK_ENGINE_FREQ_KHZ (engineKhz s.fe s.opNow) with feChange := .none }
  let s := s.engineRestart.lanesOverCap.chnSync
  s.usbFeChanged.irq 0x03 10

/-- The mute ramp has ended (R271 step 3). An engine that is gated or stopped has no frame to wait for; a new family whose PLL has
been lost meanwhile is waited for. -/
def State.feStop (s : State) : State :=
  s.when (decide (s.feChange = .ramp) && s.islandOn .engine && !s.frozen) (fun s =>
    if s.famUp (feFamily (s.get F.CLK_ENGINE_FE)) then s.feApply else { s with feChange := .waitPll })

/-! ## Takeover (R273 to R276) -/

/-- Phase of the takeover. -/
def State.tkoPhase (s : State) : Nat := s.get F.CLK_TAKEOVER_STATUS_PHASE
/-- Family of the takeover. -/
def State.tkoFam (s : State) : Nat := s.get F.CLK_TAKEOVER_STATUS_FAMILY
/-- The PLL replaced. -/
def State.tkoOld (s : State) : Nat := s.get F.CLK_TAKEOVER_STATUS_REPLACED_PLL
/-- The PLL brought in. -/
def State.tkoNew (s : State) : Nat := s.get F.CLK_TAKEOVER_STATUS_SPARE_PLL

/-- What waits for the takeover's end runs (R276). -/
def State.tkoReleased (s : State) : State :=
  let s := match s.opHeld with
    | some op => { s.divider op with opHeld := none }
    | none => s
  s.when (decide (s.feChange = .held)) (·.feStart)

/-- N_align of the channels of the family switched (R218, R274). -/
def State.tkoAlign (s : State) (on : Bool) : State :=
  s.set F.FIF_STATUS_NALIGN (bitsOf ((List.range 8).map (fun c =>
    on && decide (rateFamily (vget s.aout c Aout.init).rate = s.tkoFam))))

/-- The job ends without a takeover (R276): the replaced PLL keeps its role; for cause 1 the spare goes to TEST. -/
def State.tkoAbort (s : State) (cause : Nat) : State :=
  let x := s.tkoNew
  let fam := s.tkoFam
  let muted := decide (s.tkoPhase = 3) && s.on F.CLK_TAKEOVER_STATUS_MODE
  let s := ((s.setRole x (if cause = 1 then 3 else 2)).pllState x 0).tkoAlign false
  let s := ((s.set F.CLK_TAKEOVER_STATUS_ABORT_CAUSE cause).set F.CLK_TAKEOVER_STATUS_ABORTED 1).set F.CLK_TAKEOVER_STATUS_PHASE 0
  let s := { (s.irq 0x03 5).finishJob 4 fam 2 with tkoOn := false, tko := ⟨0, false, false, 0⟩ }
  let s := s.when (decide (cause = 1)) (·.postJob 5 x false)
  let s := s.when muted (fun s => (s.forAll 48 (fun s n => s.when ((s.laneAt n).phase.live)
    (·.modLane n (fun l => { l with mute := l.mute.turn (!s.on (F.LANE_CTRL_MUTE n)), muteUs := 5000 })))).tapsUp)
  (((s.outsSync 5000).famDown fam).tkoReleased)

/-- The takeover ends (R274 step 5, R275 step 4): the role map updates, the replaced PLL goes to TEST. -/
def State.tkoDone (s : State) : State :=
  let x := s.tkoNew
  let old := s.tkoOld
  let fam := s.tkoFam
  let window := decide (s.tkoPhase = 5)
  let s := (((s.setRole x fam).setRole old 3).pllState old 0).tkoAlign false
  let s := { (s.set F.CLK_TAKEOVER_STATUS_PHASE 6).irq 0x03 4 with tkoOn := false, tko := ⟨0, false, false, 0⟩ }
  let s := ((s.finishJob 4 fam 1).postJob 5 old false).famFaultSync
  let s := s.when (window && s.famUp (feFamily s.fe)) (·.engineRestart)
  ((s.famBack fam).outsSync 5000).tkoReleased

/-- The muted window opens (R275 step 3). -/
def State.tkoWindow (s : State) : State :=
  let s := { s.set F.CLK_TAKEOVER_STATUS_PHASE 5 with tko := ⟨0, false, false, 0⟩ }
  s.engineStops.when (decide (s.tkoFam = 0)) (·.snsClockLost)

/-- The islands begin to switch (R274 step 4). -/
def State.tkoSwitch (s : State) : State := { s.set F.CLK_TAKEOVER_STATUS_PHASE 4 with tko := ⟨0, false, false, 0⟩ }

/-- A dispatched takeover begins (R273): its mode is fixed here. -/
def State.tkoBegin (s : State) (fam : Nat) (fault : Bool) : State :=
  let s := ((s.set F.CLK_TAKEOVER_STATUS_FAMILY fam).setB F.CLK_TAKEOVER_STATUS_FAULT_JOB fault).set
    F.CLK_TAKEOVER_STATUS_REPLACED_PLL (s.famPll fam)
  match s.sparePll with
  | none =>
    let s := ((s.set F.CLK_TAKEOVER_STATUS_ABORT_CAUSE 4).set F.CLK_TAKEOVER_STATUS_ABORTED 1).set F.CLK_TAKEOVER_STATUS_PHASE 0
    ((s.irq 0x03 5).finishJob 4 fam 4).famDown fam
  | some x =>
    let hitless := s.famUp fam && decide (feFamily s.fe ≠ fam)
    let s := ((s.setRole x 5).pllState x 1).set F.CLK_TAKEOVER_STATUS_SPARE_PLL x
    let s := (s.setB F.CLK_TAKEOVER_STATUS_MODE (!hitless)).set F.CLK_TAKEOVER_STATUS_ABORT_CAUSE 0
    { s.set F.CLK_TAKEOVER_STATUS_PHASE 1 with tkoOn := true, tko := ⟨0, !s.famUsed fam, false, 0⟩ }

/-- The spare has locked (R273 to R275): a planned muted job mutes first. A job in freeze stands still (R276). -/
def State.tkoLocked (s : State) (us : Nat) : State :=
  s.when (s.tkoOn && decide (s.tkoPhase = 1) && s.on F.CLK_XTAL_STATUS_OK && !s.frozen) (fun s =>
    let x := s.tkoNew
    let s := (s.pllState x 2).set (F.CLK_PLL_STATUS_LOCK_TIME x) (satTo 16 us)
    if s.tko.swap then s.tkoDone
    else if !s.on F.CLK_TAKEOVER_STATUS_MODE then s.set F.CLK_TAKEOVER_STATUS_PHASE 2
    else if !s.on F.CLK_TAKEOVER_STATUS_FAULT_JOB && !s.tko.lost then
      let s := { s.set F.CLK_TAKEOVER_STATUS_PHASE 3 with tko := { s.tko with left := s.frames 1000 } }
      ((s.lanesMute 1000 false).tapsDown).outsSync 1000
    else s.tkoWindow)

/-- The spare is aligned (R274 steps 2 and 3): the 48 kHz family ramps its speakers down first. -/
def State.tkoAligned (s : State) : State :=
  s.when (s.tkoOn && decide (s.tkoPhase = 2) && !s.frozen) (fun s =>
    if s.tkoFam = 0 then
      ({ s.set F.CLK_TAKEOVER_STATUS_PHASE 3 with tko := { s.tko with left := s.frames 1000 } }).outsSync 1000
    else s.tkoSwitch)

/-- One engine frame of the RAMP phase. -/
def State.tkoFrame (s : State) : State :=
  s.when (s.tkoOn && decide (s.tkoPhase = 3)) (fun s =>
    if s.tko.left ≤ 1 then (if s.on F.CLK_TAKEOVER_STATUS_MODE then s.tkoWindow else s.tkoSwitch)
    else { s with tko := { s.tko with left := s.tko.left - 1 } })

/-- The islands of the family up to the one numbered `last` have switched, in the order of R274 step 4: PD_AIN, PD_AOUT, PD_SPK0 to
PD_SPK3, PD_SENSE, PD_PORTS. Between PD_AIN and PD_AOUT the Fife routes run with N_align = 1; the last one ends the job (step 5). -/
def State.tkoSwitched (s : State) (last : Nat) : State :=
  s.when (s.tkoOn && !s.on F.CLK_TAKEOVER_STATUS_MODE && (decide (s.tkoPhase = 3) || decide (s.tkoPhase = 4)) && !s.frozen) (fun s =>
    let s := s.when (decide (s.tkoPhase = 3)) State.tkoSwitch
    let s := { s with tko := { s.tko with done := max s.tko.done (last + 1) } }
    if 8 ≤ s.tko.done then s.tkoDone else s.tkoAlign (decide (s.tko.done = 1)))

/-- The muted window ends (R275 step 4). -/
def State.tkoWindowDone (s : State) : State :=
  s.when (s.tkoOn && s.on F.CLK_TAKEOVER_STATUS_MODE && (decide (s.tkoPhase = 3) || decide (s.tkoPhase = 5)) && !s.frozen) (fun s =>
    (s.when (decide (s.tkoPhase = 3)) State.tkoWindow).tkoDone)

/-- The place of an island in the order of R274 step 4; 8 for an island that does not switch. -/
def tkoPlace : Island → Nat
  | .ain => 0 | .aout => 1 | .spk n => 2 + n | .sense => 6 | .ports => 7 | _ => 8

/-- The PLL whose clock an island takes for a family: in SWITCH the spare for the islands that have switched (R274). -/
def State.islandPll (s : State) (i : Island) (fam : Nat) : Nat :=
  if s.tkoOn && decide (s.tkoPhase = 4) && !s.on F.CLK_TAKEOVER_STATUS_MODE && decide (s.tkoFam = fam) && decide (tkoPlace i < s.tko.done)
  then s.tkoNew else s.famPll fam

/-- Is the takeover in LOCK, ALIGN or RAMP? -/
def State.tkoEarly (s : State) : Bool := s.tkoOn && decide (s.tkoPhase ≤ 3)

/-- Effects of a write to CLK_TAKEOVER (R273, R276). -/
def State.takeoverStart (s : State) : State :=
  s.when (!s.tkoOn) (·.postJob 4 (s.get F.CLK_TAKEOVER_FAMILY) false)

/-- ABORT (R276). -/
def State.takeoverAbort (s : State) : State := s.when s.tkoEarly (·.tkoAbort 5)

/-- Does the clock block refuse QUIESCE (R276, R366)? -/
def State.clkRefuses (s : State) : Bool := s.tkoOn && decide (4 ≤ s.tkoPhase)

/-- QUIESCE (R276). -/
def State.clkQuiesce (s : State) : State := s.when s.tkoEarly (·.tkoAbort 3)

/-- The spare unlocks in SWITCH or WINDOW (R276): as the loss of the family's PLL; the replaced one, when still locked, takes its place
and the muted mode runs from step 1. -/
def State.tkoSpareLost (s : State) : State :=
  let x := s.tkoNew
  let old := s.tkoOld
  let fam := s.tkoFam
  if s.pllLocked old then
    let s := (((s.pllState x 1).irq 0x03 3).inc (F.CLK_PLL_COUNT_RETRIES x)).setRole x fam |>.setRole old 5
    let s := (s.set F.CLK_TAKEOVER_STATUS_SPARE_PLL old).set F.CLK_TAKEOVER_STATUS_REPLACED_PLL x
    let s := ((s.set F.CLK_TAKEOVER_STATUS_MODE 1).set F.CLK_TAKEOVER_STATUS_PHASE 1).tkoAlign false
    { s with tko := { s.tko with lost := true } }.famLost fam
  else s.tkoAbort 1

/-- What the clocks and the supply did in freeze reaches the islands at resume (R26, R468): a family or the FLL that was lost, or came
back, a collapse that ended. -/
def State.clkMet (s : State) : State :=
  let was (k : Nat) : Bool := vget s.seen k true
  let fll := s.on F.CLK_FLL_STATUS_LOCKED
  let s := s.forAll 2 (fun s f => s.when (was f && !s.famUp f) (·.famLost f))
  let s := s.when (was 2 && !fll) (·.pdmClockLost 0)
  let s := s.forAll 2 (fun s f => s.when (!was f && s.famUp f) (·.famBack f))
  let s := (s.when (!was 2 && fll) (·.pdmClockUp 0)).lstEval
  let s := s.when (s.on F.JCK_HOLD_STATUS_MUTED && !s.pins.crit) (fun s => s.aoutCollapseEnd.spkCollapseEnd)
  s.when (decide (s.feChange = .waitPll) && s.famUp (feFamily (s.get F.CLK_ENGINE_FE))) State.feStart

/-- Resume from freeze (R276): an early takeover aborts, a late one completes; then the islands meet their clocks as they are. -/
def State.clkResume (s : State) : State :=
  let s := if s.tkoEarly then s.tkoAbort 6
    else s.when s.tkoOn (fun s => if s.pllLocked s.tkoNew then s.tkoDone else s.tkoSpareLost)
  s.clkMet

/-! ## Crystal (R262) -/

/-- Does the crystal oscillator run (R261): while PD_MGMT or PD_LISTEN is on? -/
def State.xtalRuns (s : State) : Bool := s.islandOn .mgmt || s.islandOn .listen

/-- The FLL is unlocked (R262, R267): its PDM groups wait, listening is judged anew; in freeze that waits for resume (R26). -/
def State.fllLose (s : State) : State := (s.set F.CLK_FLL_STATUS_LOCKED 0).when (!s.frozen) (fun s => (s.pdmClockLost 0).lstEval)

/-- The crystal fails: every PLL that ran, one in FAULT too, waits for the crystal in LOCKING. A crystal that is stopped cannot
fail. -/
def State.xtalFail (s : State) : State :=
  s.when (s.on F.CLK_XTAL_STATUS_OK && s.xtalRuns) (fun s =>
    let s := ((s.set F.CLK_XTAL_STATUS_OK 0).set F.CLK_XTAL_STATUS_FAIL 1).set F.CLK_XTAL_STATUS_ON_RC 1
    let s := ((s.inc F.CLK_XTAL_STATUS_FAILS).fault 0x03 1).irq 0x03 2
    let s := s.forAll 3 (fun s x => s.when (decide (2 ≤ s.get (F.CLK_PLL_STATUS_STATE x))) (·.pllState x 1))
    let s := s.when (s.tkoOn && !s.frozen) (·.tkoAbort 1)
    (((s.famLost 0).famLost 1).when (!s.frozen) State.engineStops).fllLose)

/-- The crystal has been good for 2 ms: the PLLs and the FLL relock. -/
def State.xtalReturn (s : State) : State :=
  s.when (!s.on F.CLK_XTAL_STATUS_OK && s.xtalRuns) (fun s =>
    ((s.set F.CLK_XTAL_STATUS_OK 1).set F.CLK_XTAL_STATUS_ON_RC 0).unfault 0x03 1)

/-! ## PLLs (R263, R272, R277) -/

/-- The lock time of a PLL that locks within a wake or a cold start, whose command does not bring it (R263: at most 800 µs). -/
def State.lockUs (s : State) (x : Nat) : Nat := min 800 (Config.lockTime x s.free)

/-- A PLL under health test misses a bound of it (R277). -/
def State.pllTestFails (s : State) (x : Nat) : State :=
  { s with pllTest := s.pllTest.map (fun e => if e.1 = x then (x, true) else e) }

/-- A PLL locks (R263, R265, R271, R272); one under health test within 0.8 ms (R277). -/
def State.pllLock (s : State) (x us : Nat) : State :=
  s.when (decide (s.get (F.CLK_PLL_STATUS_STATE x) = 1) && s.on F.CLK_XTAL_STATUS_OK && decide (s.pllRole x ≠ 5)) (fun s =>
    let s := (s.pllState x 2).set (F.CLK_PLL_STATUS_LOCK_TIME x) (satTo 16 us)
    let s := s.when (decide (800 < us)) (·.pllTestFails x)
    let fam := s.pllRole x
    s.when (decide (fam ≤ 1)) (fun s =>
      let s := s.famFaultSync.famBack fam
      s.when (decide (s.feChange = .waitPll) && decide (feFamily (s.get F.CLK_ENGINE_FE) = fam) && !s.frozen) (·.feStart)))

/-- A PLL unlocks (R272, R276). -/
def State.pllUnlock (s : State) (x : Nat) : State :=
  s.when (s.pllLocked x) (fun s =>
    let role := s.pllRole x
    let s := (s.inc (F.CLK_PLL_COUNT_UNLOCKS x)).set (F.CLK_PLL_STATUS_UNLOCK x) 1
    if role ≤ 1 then
      let s := ((s.pllState x 1).irq 0x03 3).inc (F.CLK_PLL_COUNT_RETRIES x)
      let s := s.famLost role
      if s.tkoOn ∧ s.tkoOld = x ∧ !s.frozen then
        if 4 ≤ s.tkoPhase then s.tkoDone
        else
          let early := decide (s.tkoPhase = 1)
          let s := { s.set F.CLK_TAKEOVER_STATUS_MODE 1 with tko := { s.tko with lost := true } }
          if early then s else s.tkoWindow
      else s
    else if role = 5 ∧ !s.frozen then (if s.tkoEarly then s.tkoAbort 1 else s.tkoSpareLost)
    else (s.pllState x 1).pllTestFails x)

/-- A PLL has not locked within 2 ms (R272 step 4, R276). -/
def State.pllRelockFail (s : State) (x : Nat) : State :=
  s.when (decide (s.get (F.CLK_PLL_STATUS_STATE x) = 1) && s.on F.CLK_XTAL_STATUS_OK && s.mgmtRuns) (fun s =>
    let fam := s.pllRole x
    if fam ≤ 1 then
      let s := s.pllState x 3
      if s.jobLive 4 fam then s
      else if s.sparePll.isSome && s.on F.CLK_PLL_CTRL_AUTO_TAKEOVER then s.postJob 4 fam true
      else s.famDown fam
    else if fam = 5 ∧ s.tkoEarly ∧ !s.frozen then s.tkoAbort 1
    else s)

/-- The relock is tried again every 100 ms while the family stays down (R272 step 4). -/
def State.pllRetry (s : State) (x : Nat) : State :=
  let fam := s.pllRole x
  s.when (decide (fam ≤ 1) && decide (s.get (F.CLK_PLL_STATUS_STATE x) = 3) && s.on F.CLK_XTAL_STATUS_OK && !s.jobLive 4 fam && s.mgmtRuns)
    (fun s => (s.pllState x 1).inc (F.CLK_PLL_COUNT_RETRIES x))

/-- 10 ms after the last need (R265) a family's PLL stops. -/
def State.pllStop (s : State) (x : Nat) : State :=
  let fam := s.pllRole x
  s.when (decide (fam ≤ 1) && !s.famNeeded fam && !s.tkoOn) (fun s => (s.pllState x 0).famFaultSync)

/-- A dispatched PLL health test begins (R277, R455): on a PLL in TEST or SPARE. -/
def State.pllTestBegin (s : State) (x : Nat) : State :=
  if s.pllRole x = 3 ∨ s.pllRole x = 2 then { (s.setRole x 3).pllState x 1 with pllTest := some (x, false) }
  else s.finishJob 5 x 3

/-- The health test ends (R277): it compares with a running family's PLL, so it cannot end while none runs (DESIGN CHOICE, log 172).
`steady`, the phase wander stayed within ±0.2 ns; the PLL passes when it also locked in time and did not unlock. -/
def State.pllTestDone (s : State) (x : Nat) (steady : Bool) : State :=
  s.when (decide (s.pllTest.map Prod.fst = some x) && (s.famUp 0 || s.famUp 1) && s.mgmtRuns) (fun s =>
    let pass := steady && s.pllLocked x && decide (s.pllTest = some (x, false))
    let s := { s.pllState x 0 with pllTest := none }
    if pass then (s.setRole x 2).finishJob 5 x 1
    else ((s.setRole x 4).finishJob 5 x 6).fault 0x03 3)

/-- The FLL locks (R267). -/
def State.fllLock (s : State) : State :=
  s.when (s.on F.CLK_XTAL_STATUS_OK && s.islandOn .listen && !s.on F.CLK_FLL_STATUS_LOCKED) (fun s =>
    (s.set F.CLK_FLL_STATUS_LOCKED 1).when (!s.frozen) (fun s => (s.pdmClockUp 0).lstEval))

/-- The FLL loses lock (R267). -/
def State.fllUnlock (s : State) : State :=
  s.when (s.on F.CLK_FLL_STATUS_LOCKED) (fun s =>
    (s.set F.CLK_FLL_STATUS_UNLOCK 1).fllLose)

/-- Does the condition of a CLK fault code still hold (R60, R285)? -/
def State.clkFaultHolds (s : State) (code : Nat) : Bool :=
  match code with
  | 1 => !s.on F.CLK_XTAL_STATUS_OK
  | 2 => s.famOut.toList.any id
  | _ => false

/-! ## Meanings of the events -/

/-- XTAL_FAIL (R262). -/
def execXtalFail (s : State) : Host.Outcome State Fault Refusal := .next (settle s.xtalFail)
/-- XTAL_RETURN (R262). -/
def execXtalReturn (s : State) : Host.Outcome State Fault Refusal := .next (settle s.xtalReturn)
/-- PLL_LOCK (R263) of PLL `x`, `us` after it was started. -/
def execPllLock (x : Fin 3) (us : Nat) (s : State) : Host.Outcome State Fault Refusal := .next (settle (s.pllLock x us))
/-- PLL_UNLOCK (R272). -/
def execPllUnlock (x : Fin 3) (s : State) : Host.Outcome State Fault Refusal := .next (settle (s.pllUnlock x))
/-- PLL_RELOCK_FAIL (R272 step 4). -/
def execPllRelockFail (x : Fin 3) (s : State) : Host.Outcome State Fault Refusal := .next (settle (s.pllRelockFail x))
/-- PLL_RELOCK_RETRY (R272 step 4). -/
def execPllRelockRetry (x : Fin 3) (s : State) : Host.Outcome State Fault Refusal := .next (settle (s.pllRetry x))
/-- PLL_STOP_TIMEOUT (R265). -/
def execPllStopTimeout (x : Fin 3) (s : State) : Host.Outcome State Fault Refusal := .next (settle (s.pllStop x))
/-- FLL_LOCK (R267). -/
def execFllLock (s : State) : Host.Outcome State Fault Refusal := .next (settle s.fllLock)
/-- FLL_UNLOCK (R267). -/
def execFllUnlock (s : State) : Host.Outcome State Fault Refusal := .next (settle s.fllUnlock)
/-- FE_CHANGE_STOP (R271 step 3). -/
def execFeChangeStop (s : State) : Host.Outcome State Fault Refusal := .next (settle s.feStop)
/-- TAKEOVER_SPARE_LOCKED (R274, R275), `us` after the spare was started. -/
def execTakeoverSpareLocked (us : Nat) (s : State) : Host.Outcome State Fault Refusal := .next (settle (s.tkoLocked us))
/-- TAKEOVER_ALIGNED (R274 step 3). -/
def execTakeoverAligned (s : State) : Host.Outcome State Fault Refusal := .next (settle s.tkoAligned)
/-- TAKEOVER_ALIGN_TIMEOUT (R276). -/
def execTakeoverAlignTimeout (s : State) : Host.Outcome State Fault Refusal :=
  .next (settle (s.when (s.tkoOn && decide (s.tkoPhase = 2) && !s.frozen) (·.tkoAbort 2)))
/-- TAKEOVER_SWITCH_DONE (R274 steps 4 and 5): the islands up to `last` have switched, with 7 every island. -/
def execTakeoverSwitchDone (last : Fin 8) (s : State) : Host.Outcome State Fault Refusal := .next (settle (s.tkoSwitched last))
/-- TAKEOVER_WINDOW_DONE (R275 step 4). -/
def execTakeoverWindowDone (s : State) : Host.Outcome State Fault Refusal := .next (settle s.tkoWindowDone)
/-- PLL_HEALTH_TEST_DONE (R277). -/
def execPllHealthTestDone (x : Fin 3) (steady : Bool) (s : State) : Host.Outcome State Fault Refusal :=
  .next (settle (s.pllTestDone x steady))
/-- MAINS_SYNC_EDGE (R283, R347): a filtered edge of a polarity, and the period since the last of that polarity in 1/24 MHz. -/
def execMainsSyncEdge (falling : Bool) (period : Nat) (s : State) : Host.Outcome State Fault Refusal :=
  .next (settle (s.mainsEdge falling period))
/-- MAINS_INVALID_TIMEOUT (R283). -/
def execMainsInvalidTimeout (s : State) : Host.Outcome State Fault Refusal :=
  .next (settle (s.event .sense (s.on F.CLK_MAINS_STATUS_VALID) State.mainsInvalid))

end Sys2Proof.Machine
end

