-- ==== Sys2Proof/Machine/Pmb.lean ====
section
/-! DEFINITION. The regulator link (chapter 14, R375 to R381): its start, voltage requests, failures and PMB_CMD. What a
request's end means to Bellows or the sequencer is in Blw.lean and Pwr.lean. -/

namespace Sys2Proof.Machine

/-- Update the link. -/
def State.modPmb (s : State) (f : Pmb → Pmb) : State := { s with pmb := f s.pmb }

/-- Does the link carry requests (R375): EN = 1 and no mode error? -/
def State.linkOn (s : State) : Bool := s.on F.PMB_CFG_EN && !s.on F.PMB_MODE_MODE_ERR

/-- Core voltage of an operating point in 10 mV (R376). -/
def opCv (op : Nat) : Nat := 60 + 10 * op

/-- The link's exponent e (R375): bits [4:0] of VOUT_MODE, signed. -/
def State.voutExp (s : State) : Int := signed 5 (s.get F.PMB_MODE_VOUT_MODE)

/-- Mantissa of an operating point's voltage (R376): round(V × 2^−e), in 16 bits. -/
def voutMantissa (e : Int) (op : Nat) : Nat :=
  let m := if e ≤ 0 then divRne (opCv op * 2 ^ (-e).toNat : Nat) 100 else divRne (opCv op : Nat) (100 * 2 ^ e.toNat)
  satTo 16 m.toNat

/-- Does a mantissa lie within ±1.5 % of an operating point's voltage (R379)? -/
def voutClose (e : Int) (op m : Nat) : Bool :=
  let want : Int := if e ≤ 0 then (opCv op * 2 ^ (-e).toNat : Nat) else (opCv op : Nat)
  let have_ : Int := if e ≤ 0 then (100 * m : Nat) else (100 * m * 2 ^ e.toNat : Nat)
  decide (200 * (have_ - want) ≤ 3 * want) && decide (200 * (want - have_) ≤ 3 * want)

/-- The divider takes a point, and a change of OP_NOW is raised (R400). -/
def State.opTake (s : State) (op : Nat) : State :=
  let old := s.opNow
  let s := s.applyOp op
  s.when (decide (s.opNow ≠ old)) (·.irq 0x02 6)

/-- The divider takes a point at the next frame boundary, at once while no frames run (R270). -/
def State.opSoon (s : State) (op : Nat) : State := if s.engRuns then { s with opNext := some op } else s.opTake op

/-- A point that waits for its boundary is taken: at the boundary, or as soon as no frames run. -/
def State.opFlush (s : State) (boundary : Bool) : State :=
  match s.opNext with
  | some op => s.when (boundary || !s.engRuns) (fun s => { s with opNext := none }.opTake op)
  | none => s

/-- A voltage request is issued (R378, R379). -/
def State.pmbIssue (s : State) (kind : PmbKind) (op : Nat) : State :=
  (s.set F.PMB_STATUS_BUSY 1).modPmb (fun p => { p with phase := .send, kind := kind, op := op, again := false })

/-- Does an exchange fail (R377): `why` is 1 for a NACK, 2 for a PEC mismatch, which needs PEC = 1 and a read, 3 for clock
stretching beyond 25 ms. -/
def State.pmbBad (s : State) (why : Nat) (read : Bool) : Bool :=
  decide (why = 1) || decide (why = 3) || (decide (why = 2) && read && s.on F.PMB_CFG_PEC)

/-- The sticky flags of a failed exchange (R377, R384). -/
def State.pmbFlags (s : State) (why : Nat) : State :=
  (s.when (decide (why = 1)) (·.set F.PMB_STATUS_NACK 1)).when (decide (why = 2)) (·.set F.PMB_STATUS_PEC_ERR 1)

/-- READ_NOW's exchange (R384): its values, or a failure that leaves them. -/
def State.pmbRead (s : State) (v : Nat × Nat × Nat) : State :=
  if s.pmbBad v.2.2 true then s.pmbFlags v.2.2
  else (s.set F.PMB_READ_READ_VOUT v.1).set F.PMB_STATUS_WORD_STATUS_WORD v.2.1

/-- CLEAR_FAULTS' exchange (R384): a Send Byte, of which the hub keeps nothing but a failure. -/
def State.pmbClear (s : State) (why : Nat) : State := s.when (s.pmbBad why false) (·.pmbFlags why)

/-- The exchange ends; a PMB_CMD that waited is carried out. -/
def State.pmbEnd (s : State) : State :=
  let s := (s.set F.PMB_STATUS_BUSY 0).modPmb (fun p => { p with phase := .idle })
  let s := match s.pmb.cmdClear with
    | some why => (s.pmbClear why).modPmb (fun p => { p with cmdClear := none })
    | none => s
  match s.pmb.cmdRead with
  | some v => (s.pmbRead v).modPmb (fun p => { p with cmdRead := none })
  | none => s

/-- PMB_CMD.READ_NOW (R384); `vals` are READ_VOUT and STATUS_WORD as the regulator answers, and how the exchange fails. -/
def State.pmbReadNow (s : State) (vals : Nat × Nat × Nat) : State :=
  s.when s.linkOn (fun s =>
    if s.on F.PMB_STATUS_BUSY then s.modPmb (fun p => { p with cmdRead := some vals }) else s.pmbRead vals)

/-- PMB_CMD.CLEAR_FAULTS (R384). -/
def State.pmbClearNow (s : State) (why : Nat) : State :=
  s.when s.linkOn (fun s =>
    if s.on F.PMB_STATUS_BUSY then s.modPmb (fun p => { p with cmdClear := some why }) else s.pmbClear why)

/-- Effects of a write to PMB_CFG (R375): EN from 0 to 1 starts the link. -/
def State.pmbCfgWritten (s : State) (old : Word) : State :=
  let en := s.on F.PMB_CFG_EN
  s.modPmb (fun p => { p with linkDue := en && (p.linkDue || decide (bits old 7 1 = 0)) })

/-- The link starts (R375): CLEAR_FAULTS, VOUT_MODE, READ_VOUT. A start whose exchange fails takes nothing and stays due (DESIGN
CHOICE, log 177). -/
def State.pmbStart (s : State) (why mode vout : Nat) : State :=
  s.when (s.mgmtRuns && decide (s.domState ≤ 2) && s.on F.PMB_CFG_EN && s.pmb.linkDue) (fun s =>
    if s.pmbBad why true then s.pmbFlags why
    else
    let s := ((s.set F.PMB_MODE_VOUT_MODE mode).set F.PMB_MODE_VALID 1).modPmb (fun p => { p with linkDue := false })
    if bits mode 5 3 = 0 then ((s.set F.PMB_MODE_MODE_ERR 0).unfault 0x09 3).set F.PMB_READ_READ_VOUT vout
    else (s.set F.PMB_MODE_MODE_ERR 1).fault 0x09 3)

/-- VOUT_COMMAND is sent (R379 step 1); a lower waits until the divider has changed (R29). On an entry to OFF it is OPERATION = 0x00
(R365), which is no voltage request. -/
def State.pmbSend (s : State) : State :=
  let s := s.opFlush false
  s.when (s.mgmtRuns && decide (s.pmb.phase = .send) && s.linkOn && (s.on F.PMB_MODE_VALID || decide (s.pmb.kind = .off))
      && (decide (s.pmb.kind ≠ .lower) || decide (s.opNow ≤ s.pmb.op))) (fun s =>
    let s := s.when (decide (s.pmb.kind ≠ .off)) (fun s =>
      (s.set F.PMB_VOUT_REQUESTED (voutMantissa s.voutExp s.pmb.op)).when (!s.pmb.again) (·.inc F.PMB_COUNT_REQUESTS))
    s.modPmb (fun p => { p with phase := .settle }))

/-- READ_VOUT after SETTLE, and every 100 µs (R379 step 3). -/
def State.pmbPoll (s : State) (vout : Nat) : State :=
  s.when (s.mgmtRuns && (decide (s.pmb.phase = .settle) || decide (s.pmb.phase = .poll)) && decide (s.pmb.kind ≠ .off)) (fun s =>
    (s.set F.PMB_READ_READ_VOUT vout).modPmb (fun p => { p with phase := .poll }))

/-- Does a voltage request run, so that PGOOD is ignored (R379 step 2)? -/
def State.pmbAsks (s : State) : Bool :=
  decide (s.pmb.kind ≠ .off) && (decide (s.pmb.phase = .settle) || decide (s.pmb.phase = .poll) || (decide (s.pmb.phase = .send) && s.pmb.again))

/-- May the request be acknowledged with this reading (R379)? OPERATION = 0x00 is acknowledged as its transaction ends, with no
reading. -/
def State.pmbAcks (s : State) (vout : Nat) : Bool :=
  s.mgmtRuns && (decide (s.pmb.phase = .settle) || decide (s.pmb.phase = .poll))
    && (decide (s.pmb.kind = .off) || voutClose s.voutExp s.pmb.op (bits vout 0 16))

/-- The request is acknowledged (R379 step 4). -/
def State.pmbAck (s : State) (vout : Nat) : State :=
  if s.pmb.kind = .off then s.pmbEnd
  else
  let s := (s.set F.PMB_READ_READ_VOUT vout).set F.PMB_STATUS_PGOOD_NOW 1
  let s := (s.set F.PMB_STATUS_OP_ACK s.pmb.op).set F.PMB_VOUT_ACKED (s.get F.PMB_VOUT_REQUESTED)
  ((((s.unfault 0x09 1).unfault 0x09 2).irq 0x09 2).pmbEnd)

/-- The request times out or meets a failed exchange (R380): `why` is 1 for a NACK, 2 for a PEC mismatch. The first failure
repeats it; the second ends it. Answers whether it has ended. With PEC = 0 no mismatch is seen (R377), nor one by OPERATION, a
write. -/
def State.pmbFail (s : State) (status why : Nat) : State × Bool :=
  if !s.mgmtRuns ∨ s.pmb.phase = .idle ∨ s.pmb.phase = .send ∨ (why = 2 ∧ !s.pmbBad 2 (decide (s.pmb.kind ≠ .off))) then (s, false)
  else
    let s := s.pmbFlags why
    let s := s.set F.PMB_STATUS_WORD_STATUS_WORD status
    if !s.pmb.again then (s.modPmb (fun p => { p with phase := .send, again := true }), false)
    else ((((s.set F.PMB_STATUS_FAIL 1).inc F.PMB_COUNT_FAILURES).fault 0x09 1).irq 0x09 3 |>.pmbEnd, true)

/-- The rest of a failed request by case (R380): a raise or an unwind backs off; a failed raise sends the acknowledged
voltage once. -/
def State.pmbFailed (s : State) : State :=
  match s.pmb.kind with
  | .raise =>
    ((s.set F.PMB_VOUT_REQUESTED (voutMantissa s.voutExp (s.get F.PMB_STATUS_OP_ACK))).set F.PMB_STATUS_BACKOFF 1).set
      F.BLW_STATUS_RAISE_WAIT 0
  | .unwind => s.set F.PMB_STATUS_BACKOFF 1
  | _ => s

/-- Does the condition of a PMB fault code still hold (R60, R385)? Codes 0x01 and 0x02 hold until a request is acknowledged. -/
def State.pmbFaultHolds (s : State) (code : Nat) : Bool :=
  if code = 3 then s.on F.PMB_MODE_MODE_ERR else true

/-- PMB_LINK_START (R375, R377): how an exchange failed, 0 not at all; the VOUT_MODE byte and the READ_VOUT word answered. -/
def execPmbLinkStart (why mode vout : Nat) (s : State) : Host.Outcome State Fault Refusal := .next (settle (s.pmbStart why mode vout))
/-- PMB_VOUT_REQUEST (R379 step 1). -/
def execPmbVoutRequest (s : State) : Host.Outcome State Fault Refusal := .next (settle s.pmbSend)
/-- PMB_SETTLE_EXPIRE (R379 step 3): the READ_VOUT word. -/
def execPmbSettleExpire (vout : Nat) (s : State) : Host.Outcome State Fault Refusal := .next (settle (s.pmbPoll vout))
/-- PMB_BACKOFF_END (R380). -/
def execPmbBackoffEnd (s : State) : Host.Outcome State Fault Refusal := .next (settle (s.set F.PMB_STATUS_BACKOFF 0))

end Sys2Proof.Machine
end

