-- ==== Sys2Proof/Machine/Blw.lean ====
section
/-! DEFINITION. Bellows (chapter 15, R386 to R407): the budget tick, the reservoir, the thermal zones, admission, the operating
point, the speaker ceilings, and the check of its configuration. Powers are in µW, energies in nJ, temperatures in 2^-40 K. -/

namespace Sys2Proof.Machine

/-- Update Bellows. -/
def State.modBlw (s : State) (f : Blw → Blw) : State := { s with blw := f s.blw }

/-- A register reading of num/den in its unit: exact, or either neighbour where the spec gives no rounding. -/
def State.reading (s : State) (use : Nat) (num : Int) (den : Nat) : Int :=
  num.fdiv den + (if num.fmod den = 0 then 0 else (s.lsb 3000 use : Int))

/-- Does the tick run (R386)? -/
def State.blwRuns (s : State) : Bool := decide (s.domState = 0) && !s.gated && !s.frozen

/-! ## Tasks (R397, R398, R406) -/

/-- Is a task enabled (R397)? -/
def State.taskOn (s : State) (t : Nat) : Bool :=
  if t = 0 then true
  else if t = 1 then s.lstEnabled
  else if t ≤ 13 then true
  else if t ≤ 17 then s.on (F.SPK_CTRL_EN (t - 14))
  else if t = 18 then true
  else if t ≤ 31 then false
  else s.on (F.BLW_TASK_CFG_EN t)

/-- CLASS of a task: 0 critical, 1 listening, 2 elastic, 3 maintenance. -/
def State.taskClass (s : State) (t : Nat) : Nat := s.get (F.BLW_TASK_CFG_CLASS t)

/-- Weight of a task in a zone. -/
def State.taskW (s : State) (t z : Nat) : Nat := s.get (F.BLW_TASK_CFG_W t z)

/-- Power of one input at a stop (R96), in 0.1 mW. -/
def ainPower : Nat → Nat
  | 0 => 90 | 1 => 60 | 2 => 36 | _ => 19

/-- Power of one DAC channel at a stop (R118), in 0.1 mW. -/
def aoutPower : Nat → Nat
  | 0 => 75 | 1 => 50 | 2 => 32 | _ => 18

/-- Is an input running, for its task's cost? -/
def State.ainCounts (s : State) (n : Nat) : Bool :=
  match (s.ainAt n).phase with | .running | .calMute | .calMeasure | .calUnmute => true | _ => false

/-- Cost of the dispatched jobs: running or deferred (R399, R402). -/
def State.jobsCost (s : State) : Nat :=
  1000 * s.jobs.toList.foldl (fun t j => if j.st = .running ∨ j.st = .deferred then t + jobCost j.type else t) 0

/-- The head of the dispatcher's queue (R402): fault jobs first, then posting order; only fault jobs while the page is off. -/
def State.headJob (s : State) : Option Nat :=
  let q := (List.range 16).filter (fun k => match s.jobs[k]? with
    | some j => decide (j.st = .queued) && (j.fault || s.on (F.PG_ENABLE 0x06))
    | none => false)
  q.foldl (fun (b : Option Nat) k =>
    match b with
    | none => some k
    | some k' =>
      let j := vget s.jobs k Job.empty
      let j' := vget s.jobs k' Job.empty
      if (j.fault && !j'.fault) || (decide (j.fault = j'.fault) && decide (j.order < j'.order)) then some k else some k') none

/-- Cost of the head job. -/
def State.headCost (s : State) : Nat :=
  match s.headJob with
  | some k => 1000 * jobCost (vget s.jobs k Job.empty).type
  | none => 0

/-- Cost of all lanes with every elastic lane at min(stop, MAX_STOP), waiting work included (R400). -/
def State.laneDemand (s : State) (stop : Nat) : Nat :=
  (List.range 48).foldl (fun t n =>
    let l := s.laneAt n
    if l.phase.live ∨ l.phase = .waitCap then
      let stages := if l.commit = .waitCap then ones 10 (bits (s.coefWord n 50) 0 10) else l.stages
      t + s.laneCost n (s.laneWords n) stages
        (if s.on (F.LANE_CTRL_ELASTIC n) then min stop (s.get (F.LANE_CTRL_MAX_STOP n)) else 0)
    else t) 0

/-- The highest point Bellows may ask for (R400, R404). -/
def State.opCap (s : State) : Nat :=
  let cap := if s.linkOn then s.get F.BLW_OP_OP_MAX else s.get F.PMB_CFG_FIXED_OP
  if s.on F.PMB_STATUS_BACKOFF then min cap s.opNow else cap

/-- op_need of a stop (R400). -/
def State.opNeed (s : State) (stop : Nat) : Nat :=
  let lanes := s.laneDemand stop
  let churn := if s.on F.CHN_STATUS_BUSY then s.chnCostNew else s.chnCost
  ((List.range (s.opCap + 1)).find? (fun k => decide (lanes ≤ s.laneCap k) && decide (churn ≤ s.chnCap k))).getD s.opCap

/-- Cost of a task at a stop (R398). -/
def State.taskCost (s : State) (t stop : Nat) : Int :=
  if t = 0 then 8000 * s.get (F.BLW_OP_COST_COST (s.opNeed stop))
  else if t = 1 then (match stop with | 0 => 12000 | 1 => 3000 | _ => 1000)
  else if t ≤ 9 then
    let p (n : Nat) : Nat := if s.ainCounts n then
      ainPower (if s.on (F.AIN_CTRL_ELASTIC n) then min stop (s.get (F.AIN_ELASTIC_MAX_STOP n)) else 0) else 0
    1000 * ceilDiv (p (2 * (t - 2)) + p (2 * (t - 2) + 1)) 10
  else if t ≤ 13 then
    let p (c : Nat) : Nat := if (s.aoutAt c).phase = .running then
      aoutPower (if s.on (F.AOUT_CTRL_ELASTIC c) then min stop (s.get (F.AOUT_ELASTIC_MAX_STOP c)) else 0) else 0
    1000 * ceilDiv (p (2 * (t - 10)) + p (2 * (t - 10) + 1)) 10
  else if t ≤ 17 then 0
  else if t = 18 then s.jobsCost + s.headCost
  else 1000 * (if s.on (F.BLW_TASK_CFG_SCALE t) then 8 else 1) * s.get (F.BLW_TASK_COST_COST t stop)

/-- Enabled tasks that are no speaker's. -/
def State.plainTasks (s : State) : List Nat := (List.range 64).filter (fun t => s.taskOn t && !(decide (14 ≤ t) && decide (t ≤ 17)))

/-- BASE. -/
def State.blwBase (s : State) : Int := 1000 * s.get F.BLW_BASE_BASE

/-- A speaker's power as measured. -/
def State.spkMeas (s : State) (n : Nat) : Int := 1000 * s.get (F.SPK_MEAS_P_P n)

/-! ## Zones (R392 to R396) -/

/-- A zone's R1, R2, R3 in 0.1 K/W. -/
def State.zoneR (s : State) (z k : Nat) : Nat :=
  s.get (match k with | 0 => F.BLW_ZONE_CFG_R1 z | 1 => F.BLW_ZONE_CFG_R2 z | _ => F.BLW_ZONE_CFG_R3 z)

/-- Is a zone modelled (R392)? -/
def State.zoneModelled (s : State) (z : Nat) : Bool := decide (0 < s.zoneR z 0 + s.zoneR z 1 + s.zoneR z 2)

/-- Time constant k in ms. -/
def State.tauMs (s : State) (k : Nat) : Nat :=
  match k with
  | 0 => s.get F.BLW_TAU_TAU1
  | 1 => 100 * s.get F.BLW_TAU_TAU2
  | _ => 1000 * s.get F.BLW_TAU_TAU3

/-- exp(−ms / τ) in 2^-60. -/
def decay (ms tau : Nat) : Int := expQ (-((q60 * ms / tau : Nat) : Int))

/-- A zone's sensor in 2^-40 °C: a die reading in 1/16 °C, or the NTC's; none while it is not valid (R393). -/
def State.zoneSensor (s : State) (dies : List Int) (z : Nat) : Option Int :=
  if z ≤ 3 then some (dies.getD z 0 * 2 ^ 36)
  else
    let w := if z = 4 then s.get F.SNS_NTC_TEMP_TEMP0 else s.get F.SNS_NTC_TEMP_TEMP1
    if w = 0x8000 then none else some (signed 16 w * 2 ^ 36)

/-- Base and poles of a zone. -/
def State.zoneBase (s : State) (z : Nat) : Int := vget s.blw.base z 0
/-- A pole of a zone. -/
def State.zonePole (s : State) (z k : Nat) : Int := vget (vget s.blw.poles z (Vector.replicate 3 0)) k 0
/-- Sum of a zone's poles. -/
def State.zonePoles (s : State) (z : Nat) : Int := s.zonePole z 0 + s.zonePole z 1 + s.zonePole z 2
/-- Set a zone's base. -/
def State.setBase (s : State) (z : Nat) (b : Int) : State := s.modBlw (fun x => { x with base := vmod x.base z (fun _ => b) })
/-- Set a zone's pole. -/
def State.setPole (s : State) (z k : Nat) (d : Int) : State :=
  s.modBlw (fun x => { x with poles := vmod x.poles z (fun v => vmod v k (fun _ => d)) })

/-- T_AMB_MAX. -/
def State.tAmbMax (s : State) : Int := s.get F.BLW_THERM_CFG_T_AMB_MAX * 2 ^ 40

/-- A waiting cold or warm start is taken (R395). -/
def State.blwStart (s : State) (dies : List Int) : State :=
  match s.blw.start with
  | .none => s
  | .cold =>
    let s := (s.set F.BLW_STATUS_COLD 1).modBlw (fun x => { x with
      start := .none, e := 0, poles := Vector.replicate 6 (Vector.replicate 3 0), seen := Vector.replicate 6 false })
    s.forAll 6 (fun s z => s.setBase z ((s.zoneSensor dies z).getD s.tAmbMax))
  | .warm ms =>
    let s := s.modBlw (fun x => { x with start := .none })
    s.forAll 6 (fun s z =>
      let s := s.forAll 3 (fun s k => s.setPole z k ((s.zonePole z k * decay ms (s.tauMs k)).fdiv q60))
      match s.zoneSensor dies z with
      | some t => s.setBase z (t - s.zonePoles z)
      | none => s)

/-- Fifteen times a zone's heating power (R392), at the grants in force. -/
def State.zoneHeat (s : State) (z : Nat) : Int :=
  let tasks := s.plainTasks.foldl (fun p t => p + s.taskW t z * s.taskCost t (vget s.grants t 0)) 0
  let spks := (List.range 4).foldl (fun p n => p + s.taskW (14 + n) z * (s.spkMeas n * s.get F.BLW_BASE_LOSS).fdiv 200) 0
  (if z ≤ 3 then 15 * s.blwBase else 0) + tasks + spks

/-- One tick of a zone (R392, R393): the poles advance, TEMP shows the model, the base follows a valid sensor. -/
def State.zoneTick (s : State) (dies : List Int) (z : Nat) : State :=
  let heat := s.zoneHeat z
  let s := s.forAll 3 (fun s k =>
    let d := s.zonePole z k
    let goal := (s.zoneR z k * heat * 2 ^ 40).fdiv 150000000
    s.setPole z k (d + ((goal - d) * (q60 - decay 1 (s.tauMs k))).fdiv q60))
  let sensor := s.zoneSensor dies z
  let s := match sensor with
    | some _ => s.modBlw (fun x => { x with seen := vmod x.seen z (fun _ => true) })
    | none => s.when (!vget s.blw.seen z false) (·.setBase z s.tAmbMax)
  let model := s.zoneBase z + s.zonePoles z
  let s := s.setS (F.BLW_ZONE_STATUS_TEMP z) (s.reading z model (2 ^ 36))
  let s := s.setB (F.BLW_ZONE_STATUS_SENSOR_VALID z) sensor.isSome
  match sensor with
  | some t => s.setBase z (s.zoneBase z + (t - model).fdiv 256)
  | none => s

/-- P_MAX of a zone (R394), below 0 where the limit is passed already (the display then shows 0); none for a zone that is not
modelled. -/
def State.zonePmax (s : State) (z : Nat) : Option Int :=
  if !s.zoneModelled z then none
  else
    let h := 10 * s.get F.BLW_THERM_CFG_HORIZON
    let ks := List.range 3
    let a : Int := s.zoneBase z + ks.foldl (fun (t : Int) k => t + (s.zonePole z k * decay h (s.tauMs k)).fdiv q60) 0
    let b : Int := ks.foldl (fun (t : Int) k => t + (s.zoneR z k * (q60 - decay h (s.tauMs k)) * 2 ^ 40).fdiv (10 * q60)) 0
    let lim := (s.get (F.BLW_ZONE_CFG_T_LIM z) : Int) - (if s.on F.BLW_STATUS_COLD then s.get F.BLW_THERM_CFG_COLD_MARGIN else 0)
    if b ≤ 0 then none else some (((lim * 2 ^ 40 - a) * 1000000).fdiv b)

/-- The trip and its end's count (R396). -/
def State.tripTick (s : State) (dies : List Int) : State :=
  let at_ (f : Int → Int → Bool) (z : Nat) : Bool := match s.zoneSensor dies z with
    | some t => f t (s.get (F.BLW_ZONE_CFG_T_LIM z) * 2 ^ 40)
    | none => false
  let hot := (List.range 6).any (at_ (fun t l => decide (l + 5 * 2 ^ 40 < t)))
  let warm := (List.range 6).any (at_ (fun t l => decide (l - 5 * 2 ^ 40 ≤ t)))
  let s := s.modBlw (fun x => { x with cool := if warm then 0 else x.cool + 1 })
  s.when (hot && !s.on F.BLW_STATUS_TRIP_NOW) (fun s =>
    (((s.set F.BLW_STATUS_TRIP_NOW 1).set F.BLW_STATUS_THERM_TRIP 1).fault 0x02 1).irq 0x02 4 |>.modBlw (fun x => { x with cool := 0 }))

/-! ## Supply and reservoir (R387 to R390) -/

/-- P_pvdd of the tick (R387), with BLW_PVDD and the missing-current report. -/
def State.blwSupply (s : State) : State × Int :=
  let avg := s.get (F.SNS_DRONE_AVG_AVG 0)
  let cur : Int := (s.get (F.SNS_DRONE_AVG_AVG 1) : Int) - 32768
  let ok := s.droneOn 1 && decide (s.get (F.SNS_DRONE_CFG_CHANNEL 1) = 1) && decide (s.get (F.SNS_DRONE_CFG_GAIN 1) = 3)
  let p : Int := if ok then divRne ((avg : Int) * cur * 25920000000000) (17179869184 * max 1 (s.get F.SNS_SHUNT_UOHM))
    else (List.range 4).foldl (fun t n => t + (s.spkMeas n * (200 + s.get F.BLW_BASE_LOSS)).fdiv 200) 0
  let s := s.setB F.BLW_STATUS_PVDD_I_MISSING (!ok)
  let s := if ok then s.unfault 0x02 3 else s.fault 0x02 3
  let s := s.set F.BLW_PVDD_V (satTo 16 (s.reading 10 (avg * 28800000 : Nat) (65536 * 10000)).toNat)
  ((s.set F.BLW_PVDD_P (satTo 16 (s.reading 11 (max 0 p) 10000).toNat)), p)

/-- E within 0 to E_MAX. -/
def State.clampE (s : State) (e : Int) : Int := max 0 (min e (10000000 * s.get F.BLW_RES_CFG_E_MAX))

/-- E's registers. -/
def State.showE (s : State) : State :=
  (s.setB F.BLW_STATUS_RES_EMPTY (decide (s.blw.e = 0))).set F.BLW_RES_E (satTo 32 (s.reading 12 s.blw.e 1000).toNat)

/-- The reservoir's tick (R388 to R390). Answers P_SPEND. -/
def State.blwReserve (s : State) (p : Int) : State × Int :=
  let draw := s.plainTasks.foldl (fun t k => t + s.taskCost k (vget s.grants k 0)) (p + s.blwBase)
  let good := decide ((s.get F.BLW_SAG_WARN + 20) * 10000 * 65536 < s.get (F.SNS_DRONE_AVG_AVG 0) * 28800000)
  let s := s.modBlw (fun x => { x with good := if good then x.good + 1 else 0 })
  let s := s.when (s.on F.BLW_SAG_STATUS_WARN_NOW && !s.on F.BLW_STATUS_SAG) (fun s => (s.set F.BLW_STATUS_SAG 1).irq 0x02 2)
  let sag := s.on F.BLW_STATUS_SAG
  let full : Int := 10000 * s.get F.BLW_ALLOT_P_ALLOT
  let allot := if sag then min (10000 * (s.get F.BLW_ALLOT_P_SAG : Int)) full else full
  let e := if sag then s.blw.e else s.blw.fix.foldl (fun e x => s.clampE (e + x)) (s.clampE (s.blw.e + (allot - draw)))
  let s := s.modBlw (fun x => { x with e := e, fix := [] })
  let spend := if sag then allot
    else min (max (10000 * (s.get F.BLW_RES_CFG_P_PEAK : Int)) allot)
      (allot + s.blw.e.fdiv (10 * s.get F.BLW_THERM_CFG_HORIZON : Nat))
  let s := s.set F.BLW_DRAW_P_DRAW (satTo 16 (s.reading 13 (max 0 draw) 10000).toNat)
  ((s.set F.BLW_DRAW_P_SPEND (satTo 16 (s.reading 14 (max 0 spend) 10000).toNat)).showE, spend)

/-- A PVDD_P result corrects the reservoir (R389) at the next tick, which latches it (R27): value, gain, and the windows' clock periods. -/
def State.reserveFix (s : State) (x : Int) (gain periods : Nat) : State :=
  s.when (decide (0 < s.sns.pCnt)) (fun s =>
    let p := divRne (x * 25920000000000) (2 ^ 19 * gain * max 1 (s.get F.SNS_SHUNT_UOHM))
    let mean := s.sns.pSum.fdiv s.sns.pCnt
    s.modBlw (fun x => { x with fix := x.fix ++ [((p - mean) * periods).fdiv 4096] }))

/-! ## Admission (R399) -/

/-- What is left of the budget and of fifteen times each zone's room, whether a zone has bound, and the stops granted. -/
structure Adm where
  budget : Int
  room : List (Option Int)
  bound : Bool
  grants : Vector Nat 64
deriving DecidableEq, Repr

/-- Weights of a task. -/
def State.weights (s : State) (t : Nat) : List Nat := (List.range 6).map (s.taskW t)

/-- Charge a cost `c` to the budget and `h` of heat to the zones. -/
def Adm.charge (a : Adm) (w : List Nat) (c h : Int) : Adm :=
  { a with budget := a.budget - c, room := (a.room.zip w).map (fun e => e.1.map (fun r => r - e.2 * h)) }

/-- Does a cost fit every zone? -/
def Adm.roomFor (a : Adm) (w : List Nat) (d : Int) : Bool :=
  (a.room.zip w).all (fun e => match e.1 with | some r => decide (e.2 * d ≤ r) | none => true)

/-- Grant a stop. -/
def Adm.grant (a : Adm) (t stop : Nat) : Adm := { a with grants := vmod a.grants t (fun _ => stop) }

/-- The lowest stop of an elastic task that fits (R399). -/
def State.upgrade (s : State) (a : Adm) (t : Nat) : Adm :=
  let w := s.weights t
  let now := vget a.grants t 0
  let try_ (a : Adm × Bool) (stop : Nat) : Adm × Bool :=
    if a.2 then a
    else
      let d := s.taskCost t stop - s.taskCost t now
      if d ≤ a.1.budget then
        if a.1.roomFor w d then ((a.1.charge w d d).grant t stop, true) else ({ a.1 with bound := true }, false)
      else a
  ([0, 1, 2].foldl try_ (a, false)).1

/-- Listening's stop: the lowest that fits, else 3 (R399). -/
def State.grantListening (s : State) (a : Adm) : Adm :=
  if !s.taskOn 1 then a
  else
    let w := s.weights 1
    let stop := ([0, 1, 2].find? (fun k => decide (s.taskCost 1 k ≤ a.budget) && a.roomFor w (s.taskCost 1 k))).getD 3
    let zone := ([0, 1, 2].any (fun k => decide (k < stop) && decide (s.taskCost 1 k ≤ a.budget)))
    let a := (a.charge w (s.taskCost 1 stop) (s.taskCost 1 stop)).grant 1 stop
    { a with bound := a.bound || zone }

/-- The admission before the speakers (R399). -/
def State.grantTasks (s : State) (spend : Int) : Adm :=
  let room := (List.range 6).map (fun z => (s.zonePmax z).map (fun p => 15 * p - (if z ≤ 3 then 15 * s.blwBase else 0)))
  let a : Adm := ⟨spend - s.blwBase, room, false, Vector.replicate 64 0⟩
  let a := a.charge (s.weights 18) s.jobsCost s.jobsCost
  let of_ (c : Nat) := s.plainTasks.filter (fun t => decide (s.taskClass t = c))
  let a := (of_ 0).foldl (fun a t => a.charge (s.weights t) (s.taskCost t 0) (s.taskCost t 0)) a
  let a := s.grantListening a
  let elastic := of_ 2
  let a := elastic.foldl (fun a t => (a.charge (s.weights t) (s.taskCost t 3) (s.taskCost t 3)).grant t 3) a
  if s.on F.BLW_STATUS_TRIP_NOW then a
  else (List.range 16).reverse.foldl (fun a p =>
    (elastic.filter (fun t => decide (s.get (F.BLW_TASK_CFG_PRIO t) = p))).foldl s.upgrade a) a

/-! ## Speaker ceilings (R401) -/

/-- Power of a ceiling code (R145), in µW; code 255 mutes. -/
def ceilPower (k : Nat) : Int := if k = 255 then 0 else (20000000 * dbPow (-(k : Int)) 4).fdiv q60

/-- Code of a power (R401): 0 from 20 W, 255 below code 240, else the lowest code whose power does not exceed it. -/
def ceilCode (p : Int) : Nat :=
  if 20000000 ≤ p then 0 else ((List.range 241).find? (fun k => decide (ceilPower k ≤ p))).getD 255

/-- A channel's cap (R401). -/
def State.spkCap (s : State) (n : Nat) : Int :=
  let eq := s.get (F.SPK_PROT_GUARD_EQ n)
  min (min 20000000 (ceilPower (s.get (F.SPK_CEIL_RATED n)))) (if eq = 0 then 20000000 else ceilPower eq)

/-- SHARE of a channel. -/
def State.spkShare (s : State) (n : Nat) : Int := s.get (F.BLW_TASK_COST_SHARE (14 + n))

/-- The power of a share unit (R401), and whether a zone binds it. -/
def State.shareUnit (s : State) (a : Adm) (open_ : List Nat) : Int × Bool :=
  let loss : Int := s.get F.BLW_BASE_LOSS
  let sum := open_.foldl (fun t n => t + s.spkShare n) 0
  let xp := (a.budget * 200).fdiv ((200 + loss) * max 1 sum)
  let xs := (List.range 6).filterMap (fun z =>
    let w := open_.foldl (fun t n => t + s.taskW (14 + n) z * s.spkShare n) 0
    match a.room.getD z none with
    | some r => if w = 0 ∨ loss = 0 then none else some ((r * 200).fdiv (loss * w))
    | none => none)
  (xs.foldl min xp, xs.any (fun x => decide (x < xp)))

/-- The speakers' powers: capped channels leave the share, at most four times (R401). -/
def State.shares (s : State) (a : Adm) (open_ : List Nat) (done : List (Nat × Int)) : Nat → Adm × List (Nat × Int)
  | 0 =>
    let x := s.shareUnit a open_
    ({ a with bound := a.bound || (x.2 && decide (open_ ≠ [])) }, done ++ open_.map (fun n => (n, max x.1 0 * s.spkShare n)))
  | fuel + 1 =>
    let x := s.shareUnit a open_
    let capped := open_.filter (fun n => decide (s.spkCap n ≤ x.1 * s.spkShare n))
    if capped = [] then
      ({ a with bound := a.bound || (x.2 && decide (open_ ≠ [])) }, done ++ open_.map (fun n => (n, max x.1 0 * s.spkShare n)))
    else
      let loss : Int := s.get F.BLW_BASE_LOSS
      let a := capped.foldl (fun a n =>
        a.charge (s.weights (14 + n)) ((s.spkCap n * (200 + loss)).fdiv 200) ((s.spkCap n * loss).fdiv 200)) a
      s.shares a (open_.filter (fun n => !capped.contains n)) (done ++ capped.map (fun n => (n, s.spkCap n))) fuel

/-- Issue a channel's ceiling (R28, R401, R404): reductions at once, rises of one code, none while held. -/
def State.spkIssue (s : State) (n : Nat) (p : Option Int) : State :=
  let old := s.get (F.SPK_CEIL_BELLOWS n)
  let code := match p with
    | none => 255
    | some p =>
      if s.on F.BLW_STATUS_TRIP_NOW then 255
      else
        let target := ceilCode p
        if old < target then target
        else if s.pwrBusy then old
        else max (max target (s.get (F.SPK_PROT_GUARD_EQ n))) (if old = 255 then 240 else old - 1)
  (s.set (F.SPK_CEIL_BELLOWS n) code).spkCeilSync n

/-- Does the head job fit the headroom (R402)? -/
def State.headFits (s : State) (a : Adm) (ps : List (Nat × Int)) : Bool :=
  let loss : Int := s.get F.BLW_BASE_LOSS
  let a := ps.foldl (fun a e =>
    let p := min e.2 ((s.spkMeas e.1 * dbPow (s.get F.BLW_MNT_MARGIN) 1).fdiv q60)
    a.charge (s.weights (14 + e.1)) ((p * (200 + loss)).fdiv 200) ((p * loss).fdiv 200)) a
  decide ((s.headCost : Int) ≤ a.budget) && a.roomFor (s.weights 18) s.headCost

/-! ## Outputs -/

/-- The engine's stop and the operating point (R400, R404): `want` is the stop admission chose. Answers the stop granted. -/
def State.engineAdmit (s : State) (want : Nat) : State × Nat :=
  let now := vget s.grants 0 0
  let need := s.opNeed want
  let s := s.set F.BLW_OP_OP_NEED need
  let raise := decide (s.opNow < need) && !s.on F.BLW_STATUS_TRIP_NOW
  let stop := if s.opNow < need ∧ want < now then now else want
  let go := raise && !s.pwrBusy && !s.on F.PMB_STATUS_BUSY && !s.on F.PMB_STATUS_BACKOFF && !s.tkoOn && decide (10 ≤ s.blw.pgood)
    && s.opNext.isNone
  let s := if !go then s
    else
      let s := s.set F.BLW_OP_OP_TARGET need
      if s.linkOn then s.pmbIssue .raise need else (s.opSoon need).inc F.BLW_COUNT_OP_CHANGES
  let s := s.setB F.BLW_STATUS_RAISE_WAIT (s.on F.PMB_STATUS_BUSY && decide (s.pmb.kind = .raise))
  (s, stop)

/-- New grants take effect (R27, R399): lanes, inputs, channels, listening and the host's stops follow. -/
def State.giveGrants (s : State) (g : Vector Nat 64) : State :=
  let old := s.grants
  let s := { s with grants := g }
  let s := s.forAll 16 (fun s m => (s.set (F.BLW_GRANT0_STOP m) (vget g (32 + m) 0)).set (F.BLW_GRANT1_STOP m) (vget g (48 + m) 0))
  let s := s.when ((List.range 32).any (fun m => decide (vget old (32 + m) 0 ≠ vget g (32 + m) 0))) (·.irq 0x02 7)
  let s := s.when (decide (vget old 0 0 ≠ vget g 0 0)) (fun s => s.forAll 48 (fun s n => s.when ((s.laneAt n).phase.live) (·.laneSync n)))
  let s := s.when (decide (vget old 1 0 ≠ vget g 1 0)) (·.lstRequest)
  (s.forAll 16 (fun s n => s.ainStopSync n)).forAll 8 (fun s c => s.aoutStopSync c)

/-- One budget tick up to the dispatch (R27, R386): `dies` are TZ0 to TZ3 in 1/16 °C, `pgood` the PGOOD level. Answers
whether the head job may be dispatched. -/
def State.blwTick (s : State) (dies : List Int) (pgood : Bool) : State × Bool :=
  let s := (s.set F.BLW_STATUS_RUNNING 1).set F.BLW_TICK_COUNT ((s.get F.BLW_TICK_COUNT + 1) % 2 ^ 32)
  let s := (s.opFlush false).when (pgood || !(decide (s.pmb.phase = .idle))) (·.setB F.PMB_STATUS_PGOOD_NOW pgood)
  let s := s.modBlw (fun x => { x with
    pgood := if s.on F.PMB_STATUS_PGOOD_NOW then min 10 (x.pgood + 1) else if s.pmbAsks then x.pgood else 0 })
  let s := ((s.setB F.BLW_STATUS_HELD s.pwrBusy).blwStart dies).dronesTick
  let (s, p) := s.blwSupply
  let s := s.snsPower p
  let (s, spend) := s.blwReserve p
  let s := (s.forAll 6 (fun s z => s.zoneTick dies z)).tripTick dies
  let s := s.forAll 6 (fun s z => s.set (F.BLW_ZONE_STATUS_P_MAX z) (match s.zonePmax z with
    | some p => satTo 15 (s.reading (20 + z) p 10000).toNat
    | none => 0x7FFF))
  let a := s.grantTasks spend
  let neg := decide (a.budget < 0) || a.room.any (fun r => match r with | some r => decide (r < 0) | none => false)
  let s := if neg then
      let s := (s.when (!s.on F.BLW_STATUS_OVERBUDGET) (·.irq 0x02 3)).set F.BLW_STATUS_OVERBUDGET 1
      (s.inc F.BLW_COUNT_OVER_TICKS).modBlw (fun x => { x with overs := x.overs + 1 })
    else (s.unfault 0x02 2).modBlw (fun x => { x with overs := 0 })
  let (s, stop) := s.engineAdmit (vget a.grants 0 0)
  let g := vmod a.grants 0 (fun _ => stop)
  let g : Vector Nat 64 := if s.pwrBusy then Vector.ofFn (fun i : Fin 64 =>
    if s.taskOn i.val then max (vget s.grants i.val 0) (vget g i.val 0) else 0) else g
  let s := s.giveGrants g
  let low := decide (s.opNeed (vget s.grants 0 0) < s.opNow)
  let s := s.modBlw (fun x => { x with low := if low then x.low + 1 else 0 })
  let on := (List.range 4).filter (fun n => s.taskOn (14 + n))
  let (b, ps) := s.shares a on [] 4
  let s := s.forAll 4 (fun s n => s.spkIssue n (lookup (ps.map (fun e => (e.1, some e.2))) n none))
  let s := (s.when (b.bound && !s.on F.BLW_STATUS_ZONE_LIMIT) (·.irq 0x02 9)).setB F.BLW_STATUS_ZONE_LIMIT b.bound
  let fits := s.headFits a ps
  let held := s.pwrBusy || s.on F.BLW_STATUS_TRIP_NOW
  let s := s.setB F.BLW_MNT_WAIT_HEADROOM (s.headJob.isSome && !fits)
  ({ s with free := s.free + 1 }, fits && !held)

/-- BLW_MNT's view of the queue (R402). -/
def State.blwQueueSync (s : State) : State :=
  let q := (s.jobs.toList.filter (fun j => decide (j.st = .queued))).length
  (s.set F.BLW_MNT_QUEUED q).set F.BLW_MNT_HEAD_JOB (match s.headJob with | some k => (vget s.jobs k Job.empty).id | none => 0)

/-- Ticking stops (R386, R404). -/
def State.blwStop (s : State) : State := s.set F.BLW_STATUS_RUNNING 0

/-- A return to RUN or a resume, `ms` after ticking stopped (R395); a gap that no tick has taken yet is added to. -/
def State.blwWarm (s : State) (ms : Nat) : State :=
  s.modBlw (fun x => match x.start with
    | .cold => x
    | .warm m => { x with start := .warm (m + ms) }
    | .none => { x with start := .warm ms })

/-- A cold start of the model and the reservoir, at the start of the next tick (R395, R407). -/
def State.blwCold (s : State) : State := s.modBlw (fun x => { x with start := .cold })

/-- WARN is detected (R390, R391). -/
def State.warnEnter (s : State) : State :=
  s.when (!s.on F.BLW_SAG_STATUS_WARN_NOW) (fun s =>
    ((((s.set F.BLW_SAG_STATUS_WARN_NOW 1).set F.BLW_SAG_STATUS_WARN 1).inc F.BLW_SAG_STATUS_WARNS)).modBlw
      (fun x => { x with good := 0 }))

/-- WARN ends (R390). -/
def State.warnExit (s : State) : State :=
  s.when (s.on F.BLW_SAG_STATUS_WARN_NOW && decide (50 ≤ s.blw.good)) (fun s =>
    ((s.set F.BLW_SAG_STATUS_WARN_NOW 0).set F.BLW_STATUS_SAG 0).irq 0x02 2)

/-- The point Bellows may lower to: op_need of the grant, and none below the one that covers the present costs (R193, R205, R400). -/
def State.opGoal (s : State) : Nat :=
  max (s.opNeed (vget s.grants 0 0))
    (((List.range 3).find? (fun k => decide (s.laneLoad ≤ s.laneCap k) && decide (s.chnCost ≤ s.chnCap k))).getD 3)

/-- Bellows lowers the point (R29, R400): the divider first, then the voltage. -/
def State.opLower (s : State) : State :=
  s.when (s.blwRuns && decide (s.get F.BLW_OP_LOWER_HOLD ≤ s.blw.low) && !s.pwrBusy && !s.on F.PMB_STATUS_BUSY
      && !s.on F.PMB_STATUS_BACKOFF && !s.tkoOn && s.opNext.isNone && decide (s.opGoal < s.opNow)) (fun s =>
    let op := s.opGoal
    let s := (s.set F.BLW_OP_OP_TARGET op).modBlw (fun x => { x with low := 0 })
    let s := s.opSoon op
    if s.linkOn then s.pmbIssue .lower op else s.inc F.BLW_COUNT_OP_CHANGES)

/-- A Bellows request is acknowledged (R29, R400). -/
def State.opAcked (s : State) : State :=
  let s := s.inc F.BLW_COUNT_OP_CHANGES
  match s.pmb.kind with
  | .raise => (s.set F.BLW_STATUS_RAISE_WAIT 0).opSoon s.pmb.op
  | _ => s

/-- Lanes over capacity after a PGOOD loss wait, from the highest index down (R193, R381). -/
def State.lanesOverOp (s : State) : State :=
  (List.range 48).reverse.foldl (fun s n =>
    if s.laneCap s.opNow < s.laneLoad ∧ (s.laneAt n).phase.live then (s.laneOff n).lanePhase n .waitCap else s) s |>.poolRetry s

/-- PGOOD falls (R381); during a request it is ignored (R379). In SLEEP and DEEP, PD_AON samples it. -/
def State.pgoodFall (s : State) (status : Nat) : State :=
  let s := s.set F.PMB_STATUS_PGOOD_NOW 0
  s.when (decide (s.domState ≤ 1) && s.mgmtRuns && !s.pmbAsks) (fun s =>
      let s := s.modBlw (fun x => { x with pgood := 0 })
      let old := s.opNow
      let s := { s with opNext := none, opHeld := none }.divider 0
      let s := s.when (decide (old ≠ 0)) (·.irq 0x02 6)
      let s := (((s.set F.PMB_STATUS_PGOOD_LOSS 1).fault 0x09 2).set F.PMB_STATUS_WORD_STATUS_WORD status).irq 0x09 4
      s.lanesOverOp.chnCapacity)

/-! ## Configuration check (R403) -/

/-- Stop-0 cost of a task at its largest, in mW (R403). -/
def State.floorCost (s : State) (t : Nat) : Nat :=
  if t = 0 then 8 * s.get (F.BLW_OP_COST_COST (s.get F.BLW_OP_OP_MAX))
  else if t ≤ 9 then 18
  else if t ≤ 13 then 15
  else (if s.on (F.BLW_TASK_CFG_SCALE t) then 8 else 1) * s.get (F.BLW_TASK_COST_COST t 0)

/-- The floor check (R403): none when it holds, else REASON and ZONE. -/
def State.floorCheck (s : State) : Option (Nat × Nat) :=
  let crit := s.plainTasks.filter (fun t => decide (s.taskClass t = 0))
  let base := s.get F.BLW_BASE_BASE
  let total := crit.foldl (fun c t => c + s.floorCost t) base
  if 10 * min (s.get F.BLW_ALLOT_P_SAG) (s.get F.BLW_ALLOT_P_ALLOT) < total then some (1, 0)
  else
    let bad (z : Nat) : Bool :=
      let heat := crit.foldl (fun c t => c + s.taskW t z * s.floorCost t) (if z ≤ 3 then 15 * base else 0)
      let rise : Int := (s.get (F.BLW_ZONE_CFG_T_LIM z) : Int) - s.get F.BLW_THERM_CFG_T_AMB_MAX
      s.zoneModelled z && decide (150000 * rise < (heat * (s.zoneR z 0 + s.zoneR z 1 + s.zoneR z 2) : Nat))
    ((List.range 6).find? bad).map (fun z => (2, z))

/-- Does the address hold a register that the floor check guards (R403)? -/
def blwChecked (a : Nat) : Bool :=
  decide (a = A.BLW_ALLOT) || decide (a = A.BLW_BASE) || decide (a = A.BLW_THERM_CFG) || decide (a = A.BLW_OP) ||
    decide (a = A.BLW_OP_COST) || (decide (A.BLW_ZONE_CFG 0 ≤ a) && decide (a ≤ A.BLW_ZONE_CFG 5)) ||
    (decide (A.BLW_TASK_CFG 0 ≤ a) && decide (a ≤ A.BLW_TASK_COST 63))

/-- A write of a guarded register that breaks the check is undone (R403). -/
def State.blwConfigWritten (s : State) (a : Nat) (old : Word) : State :=
  match s.floorCheck with
  | none => s
  | some (reason, zone) =>
    let task := if A.BLW_TASK_CFG 0 ≤ a then (a - A.BLW_TASK_CFG 0) / 8 else 0
    let s := (s.setReg a old).set F.BLW_STATUS_CFG_REJ 1
    ((((s.setReg A.BLW_REJECT 0).set F.BLW_REJECT_REASON reason).set F.BLW_REJECT_ZONE zone).set F.BLW_REJECT_TASK task).irq 0x02 5

/-- CLR_COUNTS (R405). -/
def State.blwClrCounts (s : State) : State := (s.setReg A.BLW_COUNT 0).set F.BLW_SAG_STATUS_WARNS 0

/-- Does the condition of a BLW fault code still hold (R60, R407)? -/
def State.blwFaultHolds (s : State) (code : Nat) : Bool :=
  match code with
  | 1 => s.on F.BLW_STATUS_TRIP_NOW
  | 2 => decide (0 < s.blw.overs)
  | 3 => s.on F.BLW_STATUS_PVDD_I_MISSING
  | _ => false

/-! ## Meanings of the events -/

/-- SNS_INT_ENTRY_DONE (R341, R342): a window ends with what it has integrated, the last one with the entry; a PVDD_P result corrects the
reservoir (R389). -/
def execSnsIntEntryDone (q : Int) (s : State) : Host.Outcome State Fault Refusal :=
  .next (settle (s.event .sense true (fun s =>
    match s.snsIntDone q with
    | (s, some (v, g, n)) => s.reserveFix v g n
    | (s, none) => s)))
/-- OP_LOWER (R400). -/
def execOpLower (s : State) : Host.Outcome State Fault Refusal := .next (settle s.opLower)
/-- THERMAL_TRIP_END (R396). -/
def execThermalTripEnd (s : State) : Host.Outcome State Fault Refusal :=
  .next (settle (s.when (s.on F.BLW_STATUS_TRIP_NOW && decide (1000 ≤ s.blw.cool)) (fun s =>
    ((s.set F.BLW_STATUS_TRIP_NOW 0).unfault 0x02 1).irq 0x02 4)))
/-- OVERBUDGET_FAULT (R399). -/
def execOverbudgetFault (s : State) : Host.Outcome State Fault Refusal :=
  .next (settle (s.when (decide (100 ≤ s.blw.overs)) (·.fault 0x02 2)))
/-- COLD_PERIOD_END (R395). -/
def execColdPeriodEnd (s : State) : Host.Outcome State Fault Refusal :=
  .next (settle (s.when (s.on F.BLW_STATUS_COLD) (fun s => (s.set F.BLW_STATUS_COLD 0).irq 0x02 8)))
/-- PVDD_WARN (R390). -/
def execPvddWarn (s : State) : Host.Outcome State Fault Refusal := .next (settle (s.event .sense true State.warnEnter))
/-- PVDD_WARN_END (R390). -/
def execPvddWarnEnd (s : State) : Host.Outcome State Fault Refusal := .next (settle s.warnExit)
/-- PGOOD_FALL (R381): the STATUS_WORD read then. -/
def execPgoodFall (status : Nat) (s : State) : Host.Outcome State Fault Refusal := .next (settle (s.pgoodFall status))

end Sys2Proof.Machine
end

