-- ==== Sys2Proof/Machine/Mem.lean ====
section
/-! DEFINITION. Memory, ECC and the Skimmer (chapter 16, R408 to R426): the code, corrections and poison, the repeat tracker, row
remap and bank migration, wipes, and the retention check. -/

namespace Sys2Proof.Machine

/-- Update the memory block. -/
def State.modMem (s : State) (f : Mem → Mem) : State := { s with mem := f s.mem }

/-! ## The code (R408) -/

/-- Columns of the data bits d0 to d31. -/
def eccCols : List Nat :=
  [0x07, 0x0B, 0x0D, 0x0E, 0x13, 0x15, 0x16, 0x19, 0x1A, 0x1C, 0x23, 0x25, 0x26, 0x29, 0x2A, 0x2C,
   0x31, 0x32, 0x34, 0x38, 0x43, 0x45, 0x46, 0x49, 0x4A, 0x4C, 0x51, 0x52, 0x54, 0x58, 0x61, 0x62]

/-- Check bits of a word: each is the parity of the data bits whose column has it. -/
def eccCheck (w : Word) : Nat :=
  ((List.range 32).zip eccCols).foldl (fun c e => if w.getLsbD e.1 then c ^^^ e.2 else c) 0

/-- What a syndrome means (R408): 0 no error, 1 a single-bit error, 2 uncorrectable. -/
def eccKind (syn : Nat) : Nat :=
  if syn = 0 then 0
  else if eccCols.contains syn || [1, 2, 4, 8, 16, 32, 64].contains syn then 1 else 2

/-- What a read of 39 stored bits finds (R408): 3 the poison marker, else by the syndrome. -/
def eccRead (w : Word) (check : Nat) : Nat :=
  if w = 0 ∧ check = 0x7F then 3 else eccKind (eccCheck w ^^^ check)

/-! ## Corrections and the tracker (R410, R412) -/

/-- The tracker's status field. -/
def State.trackSync (s : State) : State :=
  s.set F.MEM_TRACK_STATUS_USED (s.mem.track.toList.filter Option.isSome).length

/-- The entry to replace (R412): largest LAPS, then lowest COUNT, then lowest index. -/
def trackVictim (v : Vector (Option TrackEntry) 32) : Nat :=
  ((List.range 32).foldl (fun (b : Option (Nat × TrackEntry)) i =>
    match vget v i none, b with
    | some e, some (j, f) => if f.laps < e.laps ∨ (f.laps = e.laps ∧ e.count < f.count) then some (i, e) else some (j, f)
    | some e, none => some (i, e)
    | none, b => b) none |>.map (·.1)).getD 0

/-- A corrected address reaches the tracker (R412). -/
def State.trackAddr (s : State) (a : Nat) : State :=
  if s.mem.hard.contains a then s
  else
    let at_ := (List.range 32).find? (fun i => match vget s.mem.track i none with | some e => decide (e.addr = a) | none => false)
    match at_ with
    | some i => s.modMem (fun m => { m with track := vmod m.track i (fun e => e.map (fun e => { e with count := min 15 (e.count + 1) })) })
    | none =>
      let free := (List.range 32).find? (fun i => decide (vget s.mem.track i none = none))
      let i := free.getD (trackVictim s.mem.track)
      let s := s.when free.isNone (fun s => (s.inc F.MEM_TRACK_STATUS_EVICTIONS).irq 0x04 9)
      (s.modMem (fun m => { m with track := vmod m.track i (fun _ => some ⟨a, 1, 0⟩) })).trackSync

/-- A single-bit error is corrected (R410). -/
def State.eccCorrect (s : State) (a syn source : Nat) : State :=
  let s := ((s.setReg A.MEM_LAST_CORR 0).set F.MEM_LAST_CORR_VALID 1).set F.MEM_LAST_CORR_SOURCE source
  let s := (s.set F.MEM_LAST_CORR_SYNDROME syn).set F.MEM_LAST_CORR_ADDR a
  ((s.inc F.MEM_CORR_COUNT_CORRECTED).irq 0x04 2).trackAddr a

/-! ## Poison (R32, R411) -/

/-- Does an owner keep such an item in bank b (R31)? -/
def itemFits (b : Nat) : SramItem → Bool
  | .unused => true
  | .delay _ _ | .buffer _ _ => decide (b ≤ 7)
  | .ring _ _ _ | .sapTx _ _ _ | .usbOut _ _ _ | .usbIn _ _ _ | .spdRx _ _ | .spdTx _ _ | .mic _ => decide (8 ≤ b) && decide (b ≤ 11)
  | .guard _ => decide (b = 22) || decide (b = 23)
  | .coef _ _ _ | .xp _ _ => decide (b = 24) || decide (b = 25)

/-- The item a word holds: by its address where the spec gives the layout, else as the visit names it. -/
def itemOf (a : Nat) (i : SramItem) : Item :=
  let b := a / 16384
  if 12 ≤ b ∧ b ≤ 18 then ⟨.history, a - sramAddr 12 0⟩
  else if 19 ≤ b ∧ b ≤ 21 then ⟨.weight, a - sramAddr 19 0⟩
  else if 26 ≤ b then ⟨.pool, a⟩
  else if !itemFits b i then ⟨.unowned, a⟩
  else match i with
    | .unused => ⟨.unowned, a⟩
    | .delay n k => ⟨.laneSample, 65536 * n + k⟩
    | .buffer n k => ⟨.laneSample, 65536 * n + k⟩
    | .ring _ _ _ | .sapTx _ _ _ | .usbOut _ _ _ | .usbIn _ _ _ | .spdRx _ _ | .spdTx _ _ | .mic _ => ⟨.ringSample, a⟩
    | .coef act n w => ⟨if act then .coefAct else .coefPend, 64 * n + w⟩
    | .xp act k => ⟨if act then .xpAct else .xpPend, k⟩
    | .guard n => ⟨.guard, n⟩

/-- A ring sample of a source is poisoned: the lanes that read the source flag it when they read it (R189). -/
def State.ringBad (s : State) (sid : Nat) : State :=
  s.forAll 48 (fun s n => s.when (decide ((s.laneAt n).sid = sid) && !(s.laneAt n).dir)
    (·.modLane n (fun l => { l with bad := l.bad ++ [.ring] })))

/-- A poisoned sample reads as zero (R32); a lane flags it when it reads it. -/
def State.sampleMeets (s : State) (i : SramItem) : State :=
  match i with
  | .delay n k => s.modLane n (fun l => { l with line := l.line.set k 0, bad := l.bad ++ [.delay k] })
  | .buffer n k => s.modLane n (fun l => { l with buf := l.buf.set k 0, bad := l.bad ++ [.buffer k] })
  | .ring p f c => (s.modSap p (fun x => { x with rx := x.rx.modify f (fun xs => xs.set c 0) })).ringBad (0x4C + 16 * p + c)
  | .sapTx p c k => s.modSap p (fun x => { x with tx := vmod x.tx c (fun q => q.set k 0) })
  | .usbOut j f c => (s.modOut j (fun o => { o with ready := o.ready.modify f (fun xs => xs.set c 0) })).ringBad (0x2C + 16 * j + c)
  | .usbIn j c k => s.modIn j (fun d => { d with fifo := vmod d.fifo c (fun q => q.set k 0) })
  | .spdRx f b =>
    (s.modRx (fun r => { r with rx := r.rx.modify f (fun x => if b then (x.1, 0) else (0, x.2)) })).ringBad (if b then 0x23 else 0x22)
  | .spdTx b k => s.modTx (fun t => if b then { t with txB := t.txB.set k 0 } else { t with txA := t.txA.set k 0 })
  | .mic m => (s.modMic m (fun k => { k with bad := true })).ringBad (0x12 + m)
  | _ => s

/-- The owner's reaction to a word that is poisoned (R32, R411). Of a word the Skimmer or a sweep poisons it is told; one that a copy
poisons it meets when it reads the word itself. -/
def State.ownerMeets (s : State) (a source : Nat) (i : SramItem) : State :=
  let b := a / 16384
  let told := decide (source ≠ 6)
  if 19 ≤ b ∧ b ≤ 21 then s.when (told && decide (s.get F.LST_MODEL_STATUS_STATE = 2)) (·.modelFault 1)
  else if !itemFits b i then s
  else match i with
    | .coef true n _ => s.when told (·.laneMeetsPoison n)
    | .xp true k => s.when told (·.xpPoison k)
    | .guard n => s.spkModelLost n
    | i => s.sampleMeets i

/-- The word's data is gone, and it is poison. -/
def State.sramPoison (s : State) (a : Nat) (i : Item) : State :=
  { s with sram := erase s.sram a, poison := (a, i) :: s.poison }

/-- A word becomes poison (R411). -/
def State.poisonWord (s : State) (a syn source : Nat) (i : SramItem) : State :=
  let s := ((s.setReg A.MEM_LAST_UNCORR 0).set F.MEM_LAST_UNCORR_VALID 1).set F.MEM_LAST_UNCORR_SOURCE source
  let s := (s.set F.MEM_LAST_UNCORR_SYNDROME syn).set F.MEM_LAST_UNCORR_ADDR a
  ((s.inc F.MEM_UNCORR_COUNT_UNCORRECTABLE).irq 0x04 3).sramPoison a (itemOf a i)

/-- One word read by the Skimmer or a sweep finds a syndrome (R408 to R411). -/
def State.eccVisit (s : State) (a syn source : Nat) (i : SramItem) : State :=
  if s.wordPoisoned a then s.inc F.MEM_UNCORR_COUNT_POISON_READS
  else match eccKind syn with
    | 0 => s
    | 1 => s.eccCorrect a syn source
    | _ => (s.poisonWord a syn source i).ownerMeets a source i

/-! ## The Skimmer (R416, R417) -/

/-- Does the memory island have a clock (R25, R416): the engine's, while its PLL runs, or the listening clock? -/
def State.memClocked (s : State) : Bool :=
  s.on F.CLK_FLL_STATUS_LOCKED || (decide (s.domState ≤ 1) && s.famUp (feFamily s.fe))

/-- Is a bank powered (R363)? -/
def State.bankOn (s : State) (k : Nat) : Bool :=
  decide (s.domState ≤ 1) || (decide (s.domState = 2) && decide (12 ≤ k) && decide (k ≤ 21) && s.lstEnabled)

/-- May the Skimmer visit a bank now? -/
def State.visitable (s : State) (k : Nat) : Bool :=
  s.on F.MEM_CTRL_SKIM_EN && s.bankOn k && s.memClocked && !s.frozen && !s.on F.MEM_WIPE_STATUS_ALL
    && decide (s.get F.MEM_WIPE_BANKS_BUSY / 2 ^ k % 2 = 0)

/-- An overall lap starts when none runs and a bank is visitable (R417). -/
def State.lapBegin (s : State) : State :=
  let vs := (List.range 32).filter s.visitable
  if s.on F.MEM_CTRL_SKIM_EN then s.when (!s.mem.lapOn && decide (vs ≠ [])) (·.modMem (fun m => { m with lapOn := true, lapLeft := vs }))
  else s.modMem (fun m => { m with lapOn := false, lapLeft := [] })

/-- The Skimmer reads the next word of a bank. -/
def State.skimVisit (s : State) (k syn : Nat) (i : SramItem) : State :=
  s.when (s.visitable k) (fun s =>
    let s := s.lapBegin
    let w := vget s.mem.pos k 0
    let s := s.modMem (fun m => { m with pos := vmod m.pos k (fun p => (p + 1) % 16384) })
    let s := s.when (decide (k = 0)) (·.set F.MEM_SKIM_POS_WORD ((w + 1) % 16384))
    s.eccVisit (sramAddr k w) (syn % 128) 0 i)

/-- A bank's lap ends after `ms` (R412, R417): its tracker entries age. -/
def State.bankLap (s : State) (k ms : Nat) : State :=
  s.when (s.visitable k) (fun s =>
    let s := (s.set (F.MEM_BANK_STATUS_LAP_MS k) (satTo 20 ms)).set (F.MEM_BANK_STATUS_LAP_VALID k) 1
    let thr := s.get F.MEM_ECC_CFG_REPEAT_THR
    let age (e : TrackEntry) : Option TrackEntry :=
      if e.addr / 16384 ≠ k then some e else if 3 ≤ e.laps ∧ e.count < thr then none else some { e with laps := min 3 (e.laps + 1) }
    let s := s.lapBegin.modMem (fun m => { m with
      track := m.track.map (fun e => e.bind age), lapLeft := m.lapLeft.filter (fun b => decide (b ≠ k)) })
    s.trackSync)

/-- The overall lap ends after `ms` (R417). -/
def State.overallLap (s : State) (ms : Nat) : State :=
  s.when (s.mem.lapOn && decide (s.mem.lapLeft = [])) (fun s =>
    ((s.set F.MEM_SKIM_LAP_MS (satTo 32 ms)).irq 0x04 10).modMem (fun m => { m with lapOn := false }) |>.lapBegin)

/-! ## Hard faults, remap and migration (R412 to R415) -/

/-- Is spare bank b (0 or 1) free: unused, not retired, not being filled? -/
def State.spareBankFree (s : State) (b : Nat) : Bool :=
  !s.on (if b = 0 then F.MEM_SPARE_STATUS_MBS0_USED else F.MEM_SPARE_STATUS_MBS1_USED) && !s.on (F.MEM_BANK_STATUS_RETIRED (32 + b))
    && !decide (s.mem.copy.any (fun c => c.1 && decide (c.2.2 = b)))

/-- The lowest free spare bank. -/
def State.spareBank (s : State) : Option Nat := [0, 1].find? s.spareBankFree

/-- Is a remap or migration of bank k posted or running? -/
def State.remapDue (s : State) (k : Nat) : Bool :=
  s.jobs.toList.any (fun j => j.live && decide (j.ending = 0) && (decide (j.type = 6) || decide (j.type = 7)) && decide (j.target = k))

/-- REMAP_PENDING of a bank (R425). -/
def State.remapSync (s : State) (k : Nat) : State := s.setB (F.MEM_BANK_STATUS_REMAP_PENDING k) (s.remapDue k)

/-- Post the job a hard word needs (R412, R415). -/
def State.hardJob (s : State) (k : Nat) : State :=
  let s := if s.get (F.MEM_BANK_STATUS_ROWS_USED k) < 8 then s.postJob 6 k true
    else match s.spareBank with
      | some b => s.postJob 7 k true b
      | none => s.fault 0x04 1
  s.remapSync k

/-- A tracked address has reached REPEAT_THR (R412): the lowest such entry is declared hard. -/
def State.hardFault (s : State) : State :=
  let thr := s.get F.MEM_ECC_CFG_REPEAT_THR
  match (List.range 32).find? (fun i => match vget s.mem.track i none with | some e => decide (thr ≤ e.count) | none => false) with
  | none => s
  | some i =>
    match vget s.mem.track i none with
    | none => s
    | some e =>
      let s := (s.modMem (fun m => { m with track := vmod m.track i (fun _ => none), hard := m.hard ++ [e.addr] })).trackSync
      ((s.inc F.MEM_CORR_COUNT_HARD).irq 0x04 4).hardJob (e.addr / 16384)

/-- The running copy in MEM_JOB. -/
def State.copySync (s : State) : State :=
  let s := s.setReg A.MEM_JOB 0
  match s.mem.copy with
  | none => s
  | some (mig, k, x) =>
    ((s.set F.MEM_JOB_KIND (if mig then 2 else 1)).set F.MEM_JOB_BANK k).set F.MEM_JOB_DEST (if mig then 32 + x else 0)

/-- A dispatched row remap begins (R413, R424): the oldest hard word of the bank names the row; with no spare row free it becomes
a migration. -/
def State.remapBegin (s : State) (k : Nat) : State :=
  match s.mem.hard.find? (fun a => decide (a / 16384 = k)) with
  | none => (s.finishJob 6 k 3).remapSync k
  | some a =>
    if s.get (F.MEM_BANK_STATUS_ROWS_USED k) < 8 then
      (s.modMem (fun m => { m with copy := some (false, k, a % 16384 / 128) })).copySync
    else (s.finishJob 6 k 3).hardJob k

/-- Hard words awaiting a job in a row or bank are covered. -/
def State.hardCovered (s : State) (k : Nat) (row : Option Nat) : State :=
  s.modMem (fun m => { m with hard := m.hard.filter (fun a =>
    !(decide (a / 16384 = k) && (match row with | some r => decide (a % 16384 / 128 = r) | none => true))) })

/-- The words of a bank whose read by a copy or by the retention capture or sweep finds a syndrome (R408, R410, R411): the word,
the syndrome and what the word holds. A poisoned word met there counts nothing here. -/
def State.eccFound (s : State) (k source : Nat) (found : List (Nat × Nat × SramItem)) : State :=
  found.foldl (fun s e => s.when (decide (e.1 < 16384) && !s.wordPoisoned (sramAddr k e.1))
    (·.eccVisit (sramAddr k e.1) (e.2.1 % 128) source e.2.2)) s

/-- Is bank k being wiped (R424)? -/
def State.bankWiping (s : State) (k : Nat) : Bool := s.on F.MEM_WIPE_STATUS_ALL || decide (s.get F.MEM_WIPE_BANKS_BUSY / 2 ^ k % 2 = 1)

/-- The row map switches (R413): `found` are the words of the row whose read met an error. -/
def State.remapDone (s : State) (k : Nat) (found : List (Nat × Nat × SramItem)) : State :=
  match s.mem.copy with
  | some (false, k', row) =>
    s.when (decide (k' = k) && !s.bankWiping k) (fun s =>
      let s := s.eccFound k 6 (found.filter (fun e => decide (e.1 / 128 = row)))
      let used := s.get (F.MEM_BANK_STATUS_ROWS_USED k)
      let s := s.modMem (fun m => { m with
        copy := none, rows := (k * 128 + row, used) :: m.rows.filter (fun e => decide (e.1 ≠ k * 128 + row)) })
      let s := (s.set (F.MEM_BANK_STATUS_ROWS_USED k) (used + 1)).spareLog 6 k used row
      ((((s.hardCovered k (some row)).copySync).irq 0x04 5).finishJob 6 k 1).remapSync k)
  | _ => s

/-- A dispatched migration begins (R414). -/
def State.migrateBegin (s : State) (k : Nat) : State :=
  match s.spareBank with
  | none => ((s.finishJob 7 k 4).fault 0x04 1).remapSync k
  | some b =>
    ((s.modMem (fun m => { m with copy := some (true, k, b) })).set (F.MEM_BANK_STATUS_MIGRATING k) 1).copySync

/-- The spare bank b that served bank k so far is the source that a migration retires (R414 step 5). -/
def State.spareRetire (s : State) (k b : Nat) : State :=
  let used := if b = 0 then F.MEM_SPARE_STATUS_MBS0_USED else F.MEM_SPARE_STATUS_MBS1_USED
  let for_ := if b = 0 then F.MEM_SPARE_STATUS_MBS0_FOR else F.MEM_SPARE_STATUS_MBS1_FOR
  s.when (s.on used && decide (s.get for_ = k)) (fun s =>
    (((s.set used 0).set for_ 0).set (F.MEM_BANK_STATUS_REPLACED (32 + b)) 0).set (F.MEM_BANK_STATUS_RETIRED (32 + b)) 1)

/-- The map with spare bank b serving bank k: the source is retired and the spare's rows start unused (R414 steps 4 and 5). -/
def State.spareServe (s : State) (k b : Nat) : State :=
  let s := s.spareRetire k (1 - b)
  let s := (s.set (if b = 0 then F.MEM_SPARE_STATUS_MBS0_USED else F.MEM_SPARE_STATUS_MBS1_USED) 1).set
    (if b = 0 then F.MEM_SPARE_STATUS_MBS0_FOR else F.MEM_SPARE_STATUS_MBS1_FOR) k
  let s := (s.set (F.MEM_BANK_STATUS_REPLACED k) 1).set (F.MEM_BANK_STATUS_REPLACED (32 + b)) 1
  let s := (s.set (F.MEM_BANK_STATUS_RETIRED k) 1).set (F.MEM_BANK_STATUS_ROWS_USED k) 0
  s.modMem (fun m => { m with rows := m.rows.filter (fun e => decide (e.1 / 128 ≠ k)) })

/-- The bank map switches (R414 steps 4 and 5): `found` are the words whose read by the copy met an error. -/
def State.migrateDone (s : State) (k : Nat) (found : List (Nat × Nat × SramItem)) : State :=
  match s.mem.copy with
  | some (true, k', b) =>
    s.when (decide (k' = k) && !s.bankWiping k) (fun s =>
      let served := s.on (if b = 0 then F.MEM_SPARE_STATUS_MBS1_USED else F.MEM_SPARE_STATUS_MBS0_USED)
        && decide (s.get (if b = 0 then F.MEM_SPARE_STATUS_MBS1_FOR else F.MEM_SPARE_STATUS_MBS0_FOR) = k)
      let s := ((s.eccFound k 6 found).spareLog 7 k (32 + b) 0).spareLogIf served 9 (33 - b) 0 1
      let s := ((s.spareServe k b).set (F.MEM_BANK_STATUS_MIGRATING k) 0).modMem (fun m => { m with copy := none })
      ((((s.hardCovered k none).copySync).irq 0x04 6).finishJob 7 k 1).remapSync k)
  | _ => s

/-- The running copy aborts before its switch (R414, R424); `again` posts the job again. -/
def State.copyAbort (s : State) (again : Bool) : State :=
  match s.mem.copy with
  | none => s
  | some (mig, k, b) =>
    let s := ((s.modMem (fun m => { m with copy := none })).set (F.MEM_BANK_STATUS_MIGRATING k) 0).copySync
    let s := s.finishJob (if mig then 7 else 6) k 2
    (s.when again (·.postJob (if mig then 7 else 6) k true (if mig then b else 0))).remapSync k

/-! ## Wipes (R418 to R420) -/

/-- The whole SRAM zero and unpoisoned. -/
def State.sramClear (s : State) : State := { s with sram := [], poison := [] }

/-- A full wipe starts (R418): every word, every poison, the tracker and the retention records. -/
def State.wipeAll (s : State) (cause : Nat) : State :=
  let s := (s.copyAbort false).when (!s.wiping) (·.inc F.MEM_WIPE_STATUS_WIPES)
  let s := s.when (!s.on F.MEM_WIPE_STATUS_ALL) (·.set F.MEM_WIPE_STATUS_WIPE_CAUSE cause)
  let s := ((s.set F.MEM_WIPE_STATUS_ALL 1).wipeShow 0xFFFFFFFF).set F.MEM_RET_LOST_LOST 0
  let s := (s.forAll 32 (fun s k => s.setReg (A.MEM_RET_CRC k) 0)).set F.PWR_RET_CRC_BANKS_CAPTURED 0
  let s := (s.unfault 0x04 2).sramClear
  (s.modMem (fun m => { m with track := Vector.replicate 32 none, hard := [] })).trackSync

/-- Every running wipe ends (R418, R419): a copy that a wipe met is aborted and posted again (R424). -/
def State.wipeDone (s : State) : State :=
  s.when (s.wiping && !s.frozen) (fun s =>
    let hit := match s.mem.copy with
      | some (_, k, _) => decide (s.get F.MEM_WIPE_BANKS_BUSY / 2 ^ k % 2 = 1)
      | none => false
    let s := s.when hit (·.copyAbort true)
    let s := ((s.set F.MEM_WIPE_BANKS_BUSY 0).set F.MEM_WIPE_STATUS_ALL 0).set F.MEM_WIPE_STATUS_MBS0 0
    ((s.set F.MEM_WIPE_STATUS_MBS1 0).irq 0x04 8).lapBegin)

/-! ## Retention (R421, R422) -/

/-- A word of a serial port's memory ring: its samples, oldest first, packed by the PACK in effect (R10, R235). -/
def State.sapRingWord (s : State) (p : Nat) (transmit : Bool) (w : Nat) : Word :=
  let a := s.sapAt p
  let xs := if transmit then (List.range 16).flatMap (fun c => vget a.tx c []) else a.rx.flatten
  (packSamples a.pack xs).getD w 0

/-- Content of a word of a bank whose layout the spec does not give. Which words of MB8 to MB11 are a port's ring is a free fact of
the part; the rest is its owner's. -/
def State.ownerData (s : State) (k w : Nat) : Word :=
  match (if 8 ≤ k ∧ k ≤ 11 then Config.ringPlace k w else none) with
  | some (p, transmit, i) => s.sapRingWord (p % 8) transmit i
  | none => Config.ownerWord k w s.free

/-- Data of a bank's word: as held where the spec gives the layout, else as its owner lays it out. -/
def State.bankWord (s : State) (k w : Nat) : Word :=
  if s.wordPoisoned (sramAddr k w) then 0
  else if k ≤ 11 ∨ (22 ≤ k ∧ k ≤ 25) then s.ownerData k w
  else s.sramWord (sramAddr k w)

/-- Retention CRC of a bank (R423). -/
def State.bankCrc (s : State) (k : Nat) : Nat :=
  crc32 (((List.range 16384).map (fun w => wordBytes (s.bankWord k w).toNat)).flatten)

/-- Banks retained in a DEEP state (R371). -/
def State.retMask (s : State) (target : Nat) : Nat := if target = 3 then 0xFFFFFFFF else s.get F.PWR_RET_MASK_MASK

/-- The poisoned words of the banks of a mask are read: each read counts (R411). -/
def State.poisonMet (s : State) (mask : Nat) : State :=
  (s.poison.filter (fun e => decide (mask / 2 ^ (e.1 / 16384) % 2 = 1))).foldl (fun s _ => s.inc F.MEM_UNCORR_COUNT_POISON_READS) s

/-- Words named by bank that a capture or a sweep finds in error, among the banks of a mask (R421, R422). -/
def State.retErrors (s : State) (mask : Nat) (found : List (Nat × Nat × Nat)) : State :=
  let s := s.poisonMet mask
  let inside (k : Nat) : Bool := decide (k < 32) && decide (mask / 2 ^ k % 2 = 1)
  (found.filter (fun e => inside e.1 && decide (e.2.1 < 16384) && !s.wordPoisoned (sramAddr e.1 e.2.1))).foldl (fun s e =>
    match eccKind (e.2.2 % 128) with
    | 0 => s
    | 1 => s.eccCorrect (sramAddr e.1 e.2.1) (e.2.2 % 128) 5
    | _ => s.poisonWord (sramAddr e.1 e.2.1) (e.2.2 % 128) 5 .unused) s

/-- The capture at S3 (R421): `found` are the words in error; a word it poisons makes its bank lost at the wake, which stands for the
owner's reaction. -/
def State.retCapture (s : State) (target : Nat) (found : List (Nat × Nat × Nat)) : State :=
  let mask := s.retMask target
  let s := s.retErrors mask found
  let s := s.forAll 32 (fun s k => s.when (decide (mask / 2 ^ k % 2 = 1)) (·.set (F.MEM_RET_CRC_CRC k) (s.bankCrc k)))
  { s.set F.PWR_RET_CRC_BANKS_CAPTURED mask with free := s.free + 1 }

/-- Every owner of a lost or unretained bank invalidates what it held there (R33, R371). -/
def State.bankLost (s : State) (k : Nat) : State :=
  if k ≤ 7 then s.laneBankLost k
  else if 12 ≤ k ∧ k ≤ 21 then s.lstBankLost k
  else if k = 22 ∨ k = 23 then s.forAll 4 (fun s n => s.spkModelLost n)
  else if k = 24 ∨ k = 25 then s.coefLost.chnLost
  else s

/-- The sweep of the captured banks at W3 (R422): `found` are the words in error (bank, word, syndrome), `lost` the mask of captured
banks whose CRC differs; a bank with an uncorrectable or a poisoned word is lost too. -/
def State.retSweep (s : State) (found : List (Nat × Nat × Nat)) (lost : Nat) : State :=
  let cap := s.get F.PWR_RET_CRC_BANKS_CAPTURED
  let inside (k : Nat) : Bool := decide (k < 32) && decide (cap / 2 ^ k % 2 = 1)
  let fixed := found.filter (fun e => inside e.1 && decide (e.2.1 < 16384) && decide (eccKind (e.2.2 % 128) = 1)
    && !s.wordPoisoned (sramAddr e.1 e.2.1))
  let s := (s.set F.MEM_RET_STATUS_SWEEP_CORR (satTo 16 fixed.length)).retErrors cap found
  let gone := (List.range 32).filter (fun k => inside k &&
    (decide (lost / 2 ^ k % 2 = 1) || s.poison.any (fun e => decide (e.1 / 16384 = k))))
  gone.foldl (fun s k =>
    let s := (s.wipeBanks (2 ^ k) 3).set F.MEM_RET_LOST_LOST (s.get F.MEM_RET_LOST_LOST ||| 2 ^ k)
    let s := ((s.inc F.MEM_RET_STATUS_LOSSES).set F.PWR_WAKE_STATUS_DEGRADED 1).irq 0x01 5
    ((s.irq 0x04 7).fault 0x04 2).bankLost k) s

/-- The banks that DEEP-SELECT powers off drop out of the overall lap in progress (R417). -/
def State.lapDrop (s : State) : State :=
  s.modMem (fun m => { m with lapLeft := m.lapLeft.filter (fun k => decide (s.get F.PWR_RET_MASK_MASK / 2 ^ k % 2 = 1)) })

/-- Unretained banks are wiped before any owner restarts (R371). -/
def State.unretained (s : State) : State :=
  let mask := 0xFFFFFFFF - s.get F.PWR_RET_MASK_MASK
  if mask = 0 then s
  else (List.range 32).foldl (fun s k => if mask / 2 ^ k % 2 = 1 then s.bankLost k else s) (s.wipeBanks mask 4)

/-! ## Register effects -/

/-- CLR_TRACK (R425). -/
def State.clrTrack (s : State) : State := (s.modMem (fun m => { m with track := Vector.replicate 32 none })).trackSync

/-- CLR_COUNTS (R425). -/
def State.memClrCounts (s : State) : State :=
  ((s.setReg A.MEM_CORR_COUNT 0).setReg A.MEM_UNCORR_COUNT 0).set F.MEM_TRACK_STATUS_EVICTIONS 0

/-- MEM_WIPE_REQ (R418): banks MB26 to MB31. -/
def State.wipeReq (s : State) (bits_ : Nat) : State := if bits_ = 0 then s else s.wipeBanks (bits_ * 2 ^ 26) 6

/-- MEM_RET_LOST was written (R426): code 0x02 ends when it is zero. -/
def State.retLostWritten (s : State) : State := s.when (!s.on F.MEM_RET_LOST_LOST) (·.unfault 0x04 2)

/-- Does the condition of a MEM fault code still hold (R60, R426)? -/
def State.memFaultHolds (s : State) (code : Nat) : Bool :=
  match code with
  | 1 => s.spareBank.isNone
  | 2 => s.on F.MEM_RET_LOST_LOST
  | _ => false

/-! ## Meanings of the events -/

/-- MEM_SKIM_VISIT (R416): bank, the syndrome its next word shows, and what that word holds. -/
def execMemSkimVisit (k : Fin 32) (syn : Nat) (i : SramItem) (s : State) : Host.Outcome State Fault Refusal :=
  .next (settle (s.skimVisit k syn i))
/-- MEM_HARD_FAULT (R412). -/
def execMemHardFault (s : State) : Host.Outcome State Fault Refusal := .next (settle s.hardFault)
/-- MEM_BANK_LAP_END (R417). -/
def execMemBankLapEnd (k : Fin 32) (ms : Nat) (s : State) : Host.Outcome State Fault Refusal := .next (settle (s.bankLap k ms))
/-- MEM_OVERALL_LAP_END (R417). -/
def execMemOverallLapEnd (ms : Nat) (s : State) : Host.Outcome State Fault Refusal := .next (settle (s.overallLap ms))
/-- ROW_REMAP_DONE (R413): the words of the row whose read met an error, by word in the bank, syndrome and content. -/
def execRowRemapDone (k : Fin 34) (found : List (Nat × Nat × SramItem)) (s : State) : Host.Outcome State Fault Refusal :=
  .next (settle (s.remapDone k found))
/-- MIGRATE_DONE (R414): the words of the bank whose read met an error. -/
def execMigrateDone (k : Fin 32) (found : List (Nat × Nat × SramItem)) (s : State) : Host.Outcome State Fault Refusal :=
  .next (settle (s.migrateDone k found))

end Sys2Proof.Machine
end

