-- ==== Sys2Proof/Machine/Mnt.lean ====
section
/-! DEFINITION. Spare capacity and maintenance (chapter 18, R451 to R461, R478, R479): ageing, rotation, starting and ending jobs,
the arbiter, the spare MAC unit and the spare bank test. -/

namespace Sys2Proof.Machine

/-! ## Islands of the pages (R56, R454) -/

/-- The island of a page, numbered as R454 numbers the ageing monitors. -/
def pageIsland (page : Nat) : Nat :=
  if page = 0x04 then 4 else if page ≤ 0x09 then 1 else if page = 0x0A then 5 else if page = 0x0B then 12
  else if page = 0x0C ∨ page = 0x29 then 2 else if page = 0x0D ∨ page = 0x0E ∨ (0x19 ≤ page ∧ page ≤ 0x1C) then 7
  else if page = 0x0F ∨ 0x30 ≤ page then 3 else if page ≤ 0x18 then 6 else if page ≤ 0x20 then 8 + (page - 0x1D) else 13

/-- The implemented pages (R56). -/
def allPages : List Nat := (List.range 0x2B) ++ (List.range 48).map (· + 0x30)

/-! ## Ageing (R454) -/

/-- One measurement of every monitor: the slowdowns in 0.01 %, island 0 first. -/
def State.ageingMeasure (s : State) (slow : List Int) : State :=
  s.when (s.mgmtRuns && decide (s.domState = 0)) (fun s =>
    s.forAll 14 (fun s i =>
      let v := slow.getD i 0
      let warn := decide ((10 * s.get F.MNT_AGE_CFG_WARN : Int) ≤ v)
      let s := (s.setS (F.MNT_AGE_SLOW i) v).setB (F.MNT_AGE_WARN i) warn
      let s := (allPages.filter (fun p => decide (pageIsland p = i))).foldl (fun s p => s.setB (F.PG_AGEING p) warn) s
      s.when warn (·.irq 6 4)))

/-! ## Rotation (R455) -/

/-- The job of a rotation position; none where the position is skipped. -/
def State.rotationJob (s : State) (pos : Nat) : Option (Nat × Nat) :=
  if pos < 16 then some (if (s.ainAt pos).phase = .running then (0, pos) else (2, s.ainSlice pos))
  else if pos < 24 then
    some (if (s.aoutAt (pos - 16)).phase = .running then (1, pos - 16) else (3, s.aoutSlice (pos - 16)))
  else if pos = 24 then (if s.on F.MNT_SCHED_PLL_TEST then s.sparePll.map (fun x => (5, x)) else none)
  else if pos < 37 then some (9, pos - 25)
  else if s.spareBankFree (pos - 37) then some (0xB, 32 + (pos - 37)) else none

/-- The next position that is not skipped, from `pos` on. -/
def State.rotationNext (s : State) : Nat → Nat → Nat
  | 0, pos => pos
  | n + 1, pos => match s.rotationJob pos with
    | some _ => pos
    | none => s.rotationNext n ((pos + 1) % 39)

/-- Post one rotation step; a skipped position gives way to the next. -/
def State.rotationPost (s : State) : State :=
  let pos := s.rotationNext 3 (s.get F.MNT_SCHED_STATUS_POSITION)
  let s := { s.set F.MNT_SCHED_STATUS_POSITION ((pos + 1) % 39) with rotDue := false }
  match s.rotationJob pos with
  | some (ty, target) => s.postJob ty target false
  | none => s

/-- ROTATE_H hours have passed (R455): posted in RUN, else due at the next RUN. -/
def State.rotationStep (s : State) : State :=
  s.when (s.on F.MNT_SCHED_ROTATE_EN && decide (s.domState ≤ 4)) (fun s =>
    let s := { s.set F.MNT_SCHED_STATUS_HOURS_LEFT (s.get F.MNT_SCHED_ROTATE_H) with rotMs := 0 }
    if s.domState ≠ 0 ∨ s.frozen then { s with rotDue := true } else s.when (s.on (F.PG_ENABLE 6)) State.rotationPost)

/-- A step that fell due outside RUN is posted at the next RUN. -/
def State.rotationLate (s : State) : State :=
  s.when (s.rotDue && s.on F.MNT_SCHED_ROTATE_EN && s.on (F.PG_ENABLE 6) && decide (s.domState = 0)) State.rotationPost

/-- Milliseconds pass on the AON timer: HOURS_LEFT counts the hours not yet begun down. -/
def State.rotationTime (s : State) (ms : Nat) : State :=
  s.when (s.on F.MNT_SCHED_ROTATE_EN) (fun s =>
    let t := s.rotMs + ms
    let left := s.get F.MNT_SCHED_STATUS_HOURS_LEFT
    { s.set F.MNT_SCHED_STATUS_HOURS_LEFT (left - t / 3600000) with rotMs := t % 3600000 })

/-- Effects of a write to MNT_SCHED: the schedule starts or stops with ROTATE_EN. -/
def State.schedWritten (s : State) (old : Word) : State :=
  if !s.on F.MNT_SCHED_ROTATE_EN then { s.set F.MNT_SCHED_STATUS_HOURS_LEFT 0 with rotMs := 0, rotDue := false }
  else if bits old 0 1 = 0 then { s.set F.MNT_SCHED_STATUS_HOURS_LEFT (s.get F.MNT_SCHED_ROTATE_H) with rotMs := 0 }
  else s

/-! ## The spare MAC unit (R460) -/

/-- A dispatched MAC substitution or check begins: the spare must be free. -/
def State.macBegin (s : State) (unit : Nat) (check fault : Bool) : State :=
  if s.get F.MNT_MAC_SPARE ≠ 0 then s.finishJob (if check then 9 else 8) unit 4
  else { s with mac := some ⟨unit, if !check && fault then 16 else 256, check⟩ }

/-- One engine frame of the shadow. A check ends after its frames. -/
def State.macFrame (s : State) : State :=
  match s.mac with
  | none => s
  | some m =>
    let m := { m with left := m.left - 1 }
    if m.left = 0 ∧ m.check then { s with mac := none }.finishJob 9 m.unit 1 else { s with mac := some m }

/-- The switch frame: the spare takes the unit's place. -/
def State.macSwitch (s : State) : State :=
  match s.mac with
  | none => s
  | some m =>
    s.when (!m.check && decide (m.left = 0)) (fun s =>
      let s := (({ s with mac := none }.set F.MNT_MAC_SPARE 1).set F.MNT_MAC_UNIT m.unit).spareLog 8 m.unit 0 1
      s.finishJob 8 m.unit 1)

/-- A MAC job aborts before the switch (QUIESCE), or at the resume from a freeze. -/
def State.macAbort (s : State) : State :=
  match s.mac with
  | none => s
  | some m => { s with mac := none }.finishJob (if m.check then 9 else 8) m.unit 2

/-- A residue error in a frame: of unit `u` in service, or of the spare that shadows it. A check that meets it has failed. -/
def State.macResidue (s : State) (u : Nat) (spare : Bool) : State :=
  let s := s.inc F.MNT_MAC_RESIDUE_ERRS
  let checking := match s.mac with | some m => m.check && decide (m.unit = u) | none => false
  let fail (s : State) : State := s.when checking (fun s => { s with mac := none }.finishJob 9 u 6)
  if spare then
    s.when checking (fun s => (fail s |>.set F.MNT_MAC_SPARE 2).spareLog 8 0x3F 0 2)
  else
    let s := fail s
    s.when (!(s.jobs.toList.any (fun j => j.live && decide (j.type = 8)))) (·.postJob 8 u true)

/-! ## The spare bank test (R461) -/

/-- A dispatched spare bank test begins: the bank must be free. -/
def State.bankTestBegin (s : State) (target : Nat) : State :=
  if (target = 32 ∨ target = 33) ∧ s.spareBankFree (target - 32) then { s with bankTest := some (target - 32) }
  else s.finishJob 0xB target 3

/-- The test ends; any error retires the bank. -/
def State.bankTestDone (s : State) (b : Nat) (error : Bool) : State :=
  s.when (decide (s.bankTest = some b) && !s.frozen) (fun s =>
    let s := { s with bankTest := none }
    if error then ((s.set (F.MEM_BANK_STATUS_RETIRED (32 + b)) 1).spareLog 9 (32 + b) 0 1).finishJob 0xB (32 + b) 6
    else s.finishJob 0xB (32 + b) 1)

/-- A spare bank test stops with its island; the bank stays free. -/
def State.bankTestAbort (s : State) : State :=
  match s.bankTest with
  | none => s
  | some b => { s with bankTest := none }.finishJob 0xB (32 + b) 2

/-! ## Dispatch and end (R457 to R459) -/

/-- Is the target one the catalogue allows for the type? -/
def jobTarget (type target : Nat) : Bool :=
  match type with
  | 0x0 => decide (target < 16) | 0x1 => decide (target < 8) | 0x2 => decide (target < 18) | 0x3 => decide (target < 10)
  | 0x4 => decide (target < 2) | 0x5 => decide (target < 3) | 0x6 => decide (target < 34) | 0x7 => decide (target < 32)
  | 0x8 => decide (target < 12) | 0x9 => decide (target < 12) | 0xA => decide (target < 3)
  | 0xB => decide (32 ≤ target) && decide (target < 34)
  | _ => false

/-- The block's sequence of a job starts. -/
def State.beginJob (s : State) (j : Job) : State :=
  if !jobTarget j.type j.target then s.finishJob j.type j.target 3
  else match j.type with
    | 0x0 => s.adcSubstStart j.target j.fault
    | 0x1 => s.dacSubstStart j.target j.fault
    | 0x2 => s.adcTestBegin j.target
    | 0x3 => s.dacTestBegin j.target
    | 0x4 => s.tkoBegin j.target j.fault
    | 0x5 => s.pllTestBegin j.target
    | 0x6 => s.remapBegin j.target
    | 0x7 => s.migrateBegin j.target
    | 0x8 => s.macBegin j.target false j.fault
    | 0x9 => s.macBegin j.target true j.fault
    | 0xA => s.diagBegin j.target
    | _ => s.bankTestBegin j.target

/-- Slot k starts to run. -/
def State.runJob (s : State) (k : Nat) : State :=
  let s := s.modJob k (fun j => { j with st := .running, blocker := 0 })
  s.beginJob (vget s.jobs k Job.empty)

/-- The resource set of a slot as the arbiter sees it (R457, R458): a migration's spare bank is the one it would take now. -/
def State.jobFresh (s : State) (k : Nat) : State :=
  s.modJob k (fun j => if j.type = 7 then { j with res := jobRes 7 j.target (s.spareBank.getD 0) } else j)

/-- Dispatch slot k (R458 step 1): RUNNING when its resources are free, else DEFERRED. -/
def State.dispatchJob (s : State) (k : Nat) : State :=
  let s := s.jobFresh k
  let j := vget s.jobs k Job.empty
  let b := s.blockerOf j.res
  let s := { s.modJob k (fun j => { j with order := s.jobSeq }) with jobSeq := s.jobSeq + 1 }.set F.BLW_MNT_LAST_JOB j.id
  if b = 0 then s.runJob k
  else (s.modJob k (fun j => { j with st := .deferred, blocker := b })).inc F.MNT_COUNT2_DEFERRALS

/-- Insert a slot before the first whose job was dispatched later. -/
def State.insertSlot (s : State) (k : Nat) : List Nat → List Nat
  | [] => [k]
  | i :: t => if (vget s.jobs k Job.empty).order ≤ (vget s.jobs i Job.empty).order then k :: i :: t else i :: s.insertSlot k t

/-- The deferred slots in dispatch order. -/
def State.deferredSlots (s : State) : List Nat :=
  ((List.range 16).filter (fun k => decide ((vget s.jobs k Job.empty).st = .deferred))).foldr s.insertSlot []

/-- The arbiter re-examines the deferred jobs (R458 step 2). Outside RUN, where the blocks are gated or off and no PLL may start
(R265), they wait for the return. -/
def State.rearbitrate (s : State) : State :=
  s.when (s.clocked .engine) (fun s => s.deferredSlots.foldl (fun s k =>
    let s := s.jobFresh k
    let b := s.blockerOf (vget s.jobs k Job.empty).res
    if b = 0 then s.runJob k else s.modJob k (fun j => { j with blocker := b })) s)

/-- The lowest running slot whose block sequence has ended. -/
def State.endingSlot (s : State) : Option Nat :=
  (List.range 16).find? (fun k => let j := vget s.jobs k Job.empty; decide (j.st = .running) && decide (j.ending ≠ 0))

/-- A job ends (R459): its result, its resources, the counters, and the arbiter. -/
def State.jobEnd (s : State) : State :=
  s.when s.mgmtRuns (fun s => match s.endingSlot with
    | none => s
    | some k =>
      let r := (vget s.jobs k Job.empty).ending
      let s := s.modJob k (fun j => { j with st := .ended, result := r })
      let s := if r = 1 ∨ r = 6 then (s.inc F.MNT_COUNT_DONE).irq 6 2 else (s.inc F.MNT_COUNT_ABORTED).irq 6 3
      s.rearbitrate.blwQueueSync)

/-- Running times advance by one millisecond. -/
def State.jobsTick (s : State) : State :=
  { s with jobs := s.jobs.map (fun j => if j.st = .running then { j with ms := satInc 16 j.ms } else j) }

/-- MNT_POST.START (R456): test types only. -/
def State.mntPost (s : State) : State :=
  s.postJob (s.get F.MNT_POST_TYPE) (s.get F.MNT_POST_TARGET) false

/-- The jobs of R453 once PD_AIN and PD_AOUT are first on after reset: a test for each UNCAL or TEST slice. -/
def State.bootTests (s : State) : State :=
  s.when (s.on F.MNT_SCHED_BOOT_TEST && s.on (F.PG_ENABLE 6)) (fun s =>
    let s := s.forAll 18 (fun s a => s.when (decide (s.asl a = 5) || decide (s.asl a = 3)) (·.postJob 2 a false))
    (s.forAll 10 (fun s d => s.when (decide (s.dsl d = 5) || decide (s.dsl d = 3)) (·.postJob 3 d false))).blwQueueSync)

/-- QUIESCE reaches the maintenance manager (R460): a MAC job before its switch and a spare bank test abort. -/
def State.mntQuiesce (s : State) : State := s.macAbort.bankTestAbort

/-- MNT_CNT_CLR (R478). -/
def State.mntCntClr (s : State) : State := ((s.setReg A.MNT_COUNT 0).setReg A.MNT_COUNT2 0).set F.MNT_MAC_RESIDUE_ERRS 0

/-! ## Meanings of the events -/

/-- AGEING_MEASURE (R454): the slowdowns in 0.01 %, island 0 first. -/
def execAgeingMeasure (slow : List Int) (s : State) : Host.Outcome State Fault Refusal := .next (settle (s.ageingMeasure slow))
/-- ROTATION_STEP (R455). -/
def execRotationStep (s : State) : Host.Outcome State Fault Refusal := .next (settle s.rotationStep.blwQueueSync)
/-- JOB_END (R459). -/
def execJobEnd (s : State) : Host.Outcome State Fault Refusal := .next (settle s.jobEnd)
/-- MAC_SUBST_SWITCH (R460). -/
def execMacSubstSwitch (s : State) : Host.Outcome State Fault Refusal :=
  .next (settle (s.event .engine true State.macSwitch))
/-- SPARE_BANK_TEST_DONE (R461): the spare bank, and whether any error was found. -/
def execSpareBankTestDone (b : Fin 2) (error : Bool) (s : State) : Host.Outcome State Fault Refusal :=
  .next (settle (s.bankTestDone b error))

end Sys2Proof.Machine
end

