-- ==== Sys2Proof/Machine/Pwr.lean ====
section
/-! DEFINITION. The power-state sequencer (chapter 14, R362 to R374, R383): requests, entry, refusal, abort and unwind, wake. -/

namespace Sys2Proof.Machine

/-- Update the sequencer. -/
def State.modPwr (s : State) (f : Pwr → Pwr) : State := { s with pwr := f s.pwr }

/-- The running step: 1 to 6 are S1 to S6, 7 the unwind. -/
def State.pwrStep (s : State) : Nat := s.get F.PWR_STATE_STEP

/-- The target of the running entry. -/
def State.pwrTarget (s : State) : Nat := s.get F.PWR_STATE_TARGET_NOW

/-! ## Participants (R366) -/

/-- Block ID of a participant. -/
def blockId (bit : Nat) : Nat :=
  match bit with
  | 0 => 0x03 | 1 => 0x04 | 2 => 0x06 | 3 => 0x0A | 4 => 0x0B | 5 => 0x0C | 6 => 0x0D | 7 => 0x0E | 8 => 0x0F | 9 => 0x10
  | 26 => 0x29 | 27 => 0x2A | 28 => 0x30 | 29 => 0x09
  | b => if b ≤ 13 then 0x19 + (b - 10) else if b ≤ 17 then 0x1D + (b - 14) else 0x21 + (b - 18)

/-- Does a participant refuse QUIESCE for a target (R366)? Of the phases of bit 2 (R457) the switch frame of a MAC substitution lasts;
the row-map and the bank-map switch are single steps of this model. -/
def State.refuses (s : State) (bit target : Nat) : Bool :=
  let adc (g : Nat) : Bool := match s.adcSub g with | some u => u.crossfade | none => false
  let dac (k g : Nat) : Bool := match s.dacSub g with | some u => u.crossfade && decide (u.unit / 2 = k) | none => false
  match bit with
  | 0 => s.clkRefuses
  | 1 => s.wiping
  | 2 => s.mac.any (fun m => !m.check && decide (m.left = 0))
  | 3 => s.usbRefuses target
  | 5 => s.lstRefuses target
  | 9 => adc 0 || adc 1
  | 29 => s.on F.PMB_STATUS_BUSY
  | b => decide (10 ≤ b) && decide (b ≤ 13) && (dac (b - 10) 0 || dac (b - 10) 1)

/-- QUIESCE reaches a participant that acknowledges it (R365, R366). -/
def State.quiesce (s : State) (bit target : Nat) : State :=
  match bit with
  | 0 => s.clkQuiesce
  | 1 => s.copyAbort true
  | 2 => s.mntQuiesce
  | 4 => s.snsQuiesce
  | 9 => (s.adcAbortShadow 0 3).adcAbortShadow 1 3
  | 14 | 15 | 16 | 17 => s.spkQuiesce (bit - 14)
  | 18 | 19 | 20 | 21 | 22 | 23 | 24 | 25 => s.sapQuiesce (bit - 18)
  | 26 => s.pdmQuiesce (decide (target ≤ 2) && s.lstEnabled)
  | 27 => s.spdQuiesce
  | 28 => s.lanesMute 150 true
  | b => s.when (decide (10 ≤ b) && decide (b ≤ 13)) (·.aoutQuiesce (b - 10))

/-- S1: QUIESCE to every participant (from SLEEP to the listening block only, R364). Those that an entry from IDLE meets silent
already stay to be restarted. -/
def State.quiesceAll (s : State) (start target : Nat) : State :=
  let parts := if start = 2 then [5] else List.range 30
  let (s, refused) := parts.foldl (fun (e : State × Nat) b =>
    if e.1.refuses b target then ((if b = 5 then e.1.lstRefused else e.1), e.2 + 2 ^ b)
    else ({ e.1.quiesce b target with quiet := if e.1.isQuiet b then e.1.quiet else b :: e.1.quiet }, e.2))
    (s.when (decide (start = 0)) (fun s => { s with quiet := [] }), 0)
  s.modPwr (fun p => { p with refused := refused })

/-- The restart rule of a participant that had acknowledged; `isolated` after S4 (R367). -/
def State.unquiesce (s : State) (bit : Nat) (isolated : Bool) : State :=
  match bit with
  | 4 => s.snsRestart
  | 5 => s.lstRestart
  | 7 => s.fifSync
  | 9 => s.when isolated State.ainRestart
  | 6 => s.when isolated (fun s => (s.jackRestore 0).jackRestore 1)
  | 10 | 11 | 12 | 13 =>
    let c := 2 * (bit - 10)
    if isolated then ((s.aoutReturn c).aoutReturn (c + 1)).pumpForced else (s.aoutUnwind c).aoutUnwind (c + 1)
  | 14 | 15 | 16 | 17 => if isolated then s.spkReturn (bit - 14) else s.spkUnwind (bit - 14)
  | 18 | 19 | 20 | 21 | 22 | 23 | 24 | 25 => s.sapRestart (bit - 18)
  | 26 => s.pdmRestart
  | 27 => s.spdRestart
  | 28 => s.lanesRestart
  | _ => s

/-! ## Wake sources (R373) -/

/-- Does a wake source act in a state, or on an entry to it (R373)? WAKE_N acts on OFF too. -/
def wakeActs (code state : Nat) : Bool :=
  match code with
  | 3 => decide (3 ≤ state) && decide (state ≤ 4)
  | 8 => decide (1 ≤ state) && decide (state ≤ 2)
  | 10 => decide (1 ≤ state) && decide (state ≤ 2)
  | 11 => decide (1 ≤ state) && decide (state ≤ 2)
  | 1 => decide (1 ≤ state) && decide (state ≤ 5)
  | c => decide (1 ≤ c) && decide (c ≤ 9) && decide (1 ≤ state) && decide (state ≤ 4)

/-- Is a wake source's enable set (R373)? -/
def State.wakeEnabled (s : State) (code : Nat) : Bool :=
  match code with
  | 3 => s.on F.PWR_WAKE_EN_SMB_ADDR
  | 4 => s.on (F.JCK_CTRL_WAKE_EN 0)
  | 5 => s.on (F.JCK_CTRL_WAKE_EN 1)
  | 6 => s.on F.USB_WAKE_ON_RESUME
  | 7 => s.on F.PWR_WAKE_EN_VBUS
  | 8 => s.on F.PWR_WAKE_EN_LISTEN
  | 9 => s.on F.PWR_WAKE_TIMER_MS
  | 10 => s.on F.PWR_WAKE_EN_IRQ
  | _ => true

/-- SOURCES_SEEN records a source. -/
def State.wakeSeen (s : State) (code : Nat) : State :=
  s.set F.PWR_SOURCES_SEEN_SEEN (s.get F.PWR_SOURCES_SEEN_SEEN ||| 2 ^ (code - 1))

/-- A wake starts (R374). -/
def State.wakeStart (s : State) (code : Nat) : State :=
  ((s.wakeSeen code).set F.PWR_STATE_BUSY 1).modPwr (fun p => { p with waking := some code })

/-- A wake source fires (R369, R373, R374): in a state at rest it starts the wake; during S1 to S5 it counts at the next abort
point; after AP5 the wake is late; during W1 to W4 it is only recorded. -/
def State.wakeFire (s : State) (code : Nat) : State :=
  let st := if s.pwrStep = 0 then s.domState else s.pwrTarget
  s.when (s.wakeEnabled code && wakeActs code st && !(decide (s.domState = 0) && !s.pwrBusy) && decide (s.domState ≤ 4)) (fun s =>
    let s := s.wakeSeen code
    if s.pwrStep = 0 then (if s.pwrBusy then s else s.wakeStart code)
    else if s.pwrStep = 6 then s.modPwr (fun p => { p with waking := some (p.waking.getD code), late := true })
    else s.modPwr (fun p => { p with wakes := p.wakes ++ [code] }))

/-- The first active wake source at an abort point: one that fired, WAKE_N while it is low (R42), or an enabled interrupt group
that is pending. -/
def State.wakeActive (s : State) : Option Nat :=
  match s.pwr.wakes with
  | c :: _ => some c
  | [] => if s.pins.wakeLow ∧ s.pwrTarget ≤ 5 then some 1 else if s.wakeEnabled 10 ∧ wakeActs 10 s.pwrTarget ∧ s.notifyWord ≠ 0 then some 10 else none

/-! ## Abort and unwind (R367, R372) -/

/-- The refusal accounting of an attempt (R372). -/
def State.refusalRecord (s : State) (silent : Nat) : State :=
  let refused := s.pwr.refused
  let lowest (m : Nat) : Option Nat := (List.range 30).find? (fun b => decide (m / 2 ^ b % 2 = 1))
  let (bit, cause) := match lowest refused with
    | some b => (b, 1)
    | none => ((lowest silent).getD 0, 2)
  let w := BitVec.ofNat 32 (blockId bit * 65536 + cause * 1024 + s.pwrTarget * 16 + 1)
  let s := (s.set F.PWR_REFUSE_MAP_MAP (refused ||| silent)).set F.PWR_SILENT_MAP_MAP silent
  let s := s.setReg A.PWR_REFUSE_LAST w
  let s := s.when (!s.on F.PWR_REFUSE_FIRST_VALID) (·.setReg A.PWR_REFUSE_FIRST w)
  (s.inc F.PWR_COUNT_REFUSALS).irq 0x01 2

/-- The unwind ends (R367): steps undone, blocks restarted, the abort recorded. `restored` is false when the voltage could not
be restored (R380). -/
def State.unwindDone (s : State) (restored : Bool) : State :=
  let cause := s.pwr.cause
  let ap := s.pwr.ap
  let start := s.pwr.start
  let active := s.wakeActive
  let target := s.pwrTarget
  let gated := decide (2 ≤ ap)
  let s := if start = 0 then
      let s := { s with gated := false }
      let s := s.when (gated && restored) (·.opTake s.pwr.op)
      let s := s.when (gated && s.engStop && s.famUp (feFamily s.fe)) (·.engineRestart)
      (s.quiet.foldl (fun s b => s.unquiesce b s.pwr.iso) s).modPwr (fun p => { p with iso := false })
    else
      let s := s.when (gated && restored && decide (start = 1)) (·.opTake s.pwr.op)
      s.when (s.isQuiet 5) (·.unquiesce 5 false)
  let s := { s with quiet := if start = 0 then [] else s.quiet.filter (fun b => decide (b ≠ 5)) }
  let s := (((s.inc F.PWR_COUNT_ABORTS).set F.PWR_ABORT_INFO_TARGET target).set F.PWR_ABORT_INFO_CAUSE cause).set F.PWR_ABORT_INFO_AP ap
  let s := (((s.set F.PWR_STATE_BUSY 0).set F.PWR_STATE_STEP 0).set F.PWR_STATE_TARGET_NOW 0).irq 0x01 3
  let s := match active with
    | some c => s.set F.PWR_WAKE_STATUS_SOURCE c
    | none => s
  let s := s.rearbitrate.modPwr (fun p => { p with
    wakes := [], cancel := false, s5 := false, cause := 0, ap := 0, unwound := none })
  match active with
  | some c => if start ≠ 0 ∧ wakeActs c start then s.wakeStart c else s
  | none => s

/-- The unwind's voltage request has ended; a sequencer that freeze has stopped goes on at resume (R370). -/
def State.unwindEnd (s : State) (restored : Bool) : State :=
  s.when (decide (s.pwrStep = 7)) (fun s =>
    if s.frozen then s.modPwr (fun p => { p with unwound := some restored }) else s.unwindDone restored)

/-- The sequencer aborts at an abort point (R367): at AP5 the voltage acknowledged before S5 is requested first. -/
def State.pwrAbort (s : State) (cause ap : Nat) : State :=
  let s := (s.set F.PWR_STATE_STEP 7).modPwr (fun p => { p with cause := cause, ap := ap })
  if s.pwr.s5 then s.pmbIssue .unwind s.pwr.ack else s.unwindDone true

/-- The cause that aborts at an abort point other than AP1's refusal and AP5's PMBus failure (R367): wake, then cancel. -/
def State.abortCause (s : State) : Option Nat :=
  if s.wakeActive.isSome then some 3 else if s.pwr.cancel then some 4 else none

/-- Past an abort point (R367): the entry goes on, or aborts there. -/
def State.pwrPast (s : State) (ap : Nat) (go : State → State) : State :=
  match s.abortCause with
  | some c => s.pwrAbort c ap
  | none => go s

/-! ## Entry (R364, R365) -/

/-- GO (R364); during an image load it is ignored as while BUSY (R492). -/
def State.pwrGo (s : State) : State :=
  let target := s.get F.PWR_CTRL_TARGET
  if s.lcy.trans then s
  else if s.pwrBusy || decide (s.ldr.st ≠ .idle) then s.set F.PWR_STATE_REQ_IGNORED 1
  else if target = 0 then s.wakeFire 11
  else if s.domState < target ∧ s.domState ≤ 2 ∧ target ≤ 5 then
    let start := s.domState
    let s := ((s.set F.PWR_STATE_BUSY 1).set F.PWR_STATE_STEP 1).set F.PWR_STATE_TARGET_NOW target
    let s := s.modPwr (fun p => { p with
      start := start, wakes := [], cancel := false, s5 := false, op := s.opNow, ack := s.get F.PMB_STATUS_OP_ACK, frozen := false, waking := none, late := false })
    s.quiesceAll start target
  else s

/-- CANCEL (R367): the running entry aborts at its next abort point. -/
def State.pwrCancel (s : State) : State :=
  s.when (s.pwrBusy && decide (1 ≤ s.pwrStep) && decide (s.pwrStep ≤ 5)) (·.modPwr (fun p => { p with cancel := true }))

/-- S2 (R365): the clocks are gated; below IDLE the divider goes to OP0 and listening in DEEP and OFF stops (R334). -/
def State.pwrS2 (s : State) (target : Nat) : State :=
  let s := s.when (decide (s.pwr.start = 0)) (fun s => { s.engineStops.lanesQuiesced.blwStop.aoutGate.spkGate with gated := true })
  let s := s.when (decide (2 ≤ target)) (fun s => ({ s with opNext := none, opHeld := none }).opTake 0)
  s.when (decide (3 ≤ target)) (·.lstQuiesce)

/-- S6, or the end of S2 for IDLE: the hub is in the target state (R365, R369). Listening keeps running in IDLE and SLEEP (R334). -/
def State.pwrEntered (s : State) (target : Nat) : State :=
  let s := { s with domState := target }
  let s := ((s.set F.PWR_STATE_STATE target).set F.PWR_STATE_BUSY 0).set F.PWR_STATE_STEP 0
  let s := ((s.set F.PWR_STATE_TARGET_NOW 0).inc F.PWR_COUNT2_ENTRIES).unfault 0x01 1
  let s := s.modPwr (fun p => { p with wakes := [], cancel := false, s5 := false })
  let s := { s with quiet := s.quiet.filter (fun b => decide (b ≠ 5)) }
  match s.pwr.waking with
  | some c => if s.pwr.late ∧ target ≤ 4 then s.wakeStart c else s
  | none =>
    let now (c : Nat) : State := (s.modPwr (fun p => { p with late := decide (2 ≤ target) })).wakeStart c
    if s.pins.wakeLow ∧ target ≤ 4 then now 1 else if s.wakeEnabled 10 ∧ wakeActs 10 target ∧ s.notifyWord ≠ 0 then now 10 else s

/-- S5 begins (R365): the request of 0.60 V, or OPERATION = 0x00 for OFF; with nothing to do, AP5 follows at once. -/
def State.pwrS5 (s : State) (target : Nat) : State :=
  let s := s.set F.PWR_STATE_STEP 5
  let ask (k : PmbKind) : State := (s.modPwr (fun p => { p with s5 := true })).pmbIssue k 0
  if target ≤ 4 ∧ s.linkOn ∧ s.get F.PMB_STATUS_OP_ACK ≠ 0 then ask .s5
  else if target = 5 ∧ s.linkOn ∧ s.on F.PMB_CFG_OFF_CMD then ask .off
  else s.pwrPast 5 (·.set F.PWR_STATE_STEP 6)

/-- S3 and S4 (R365): retention, then the clamps. `found` are the words in error that the capture reads. -/
def State.pwrS3 (s : State) (target : Nat) (found : List (Nat × Nat × Nat)) : State :=
  let s := s.set F.PWR_STATE_STEP 3
  let s := s.when (decide (target = 3) || decide (target = 4)) (·.retCapture target found)
  s.pwrPast 3 (fun s =>
    let s := s.set F.PWR_STATE_STEP 4
    let s := s.when (decide (s.pwr.start ≠ 2)) (fun s =>
      (((s.aoutIsolate.spkIsolate).ainIsolate.jackIsolate 0).jackIsolate 1).modPwr (fun p => { p with iso := true }))
    s.pwrPast 4 (·.pwrS5 target))

/-- The 200 µs of S1 are over (R366): `silent` participants did not answer, `us` is the time S1 took, `found`
are the words in error that the retention capture of S3 reads. The hub aborts at AP1, or
goes on through S2 to S4 and begins S5. A block found silent late has been stopped by this model at S1 and restarts with the others;
the listening block, which runs on through S1, does not (DEDUCED, log 176). -/
def State.quiesceJudged (s : State) (silent us : Nat) (found : List (Nat × Nat × Nat)) : State :=
  s.when (decide (s.pwrStep = 1) && !s.pwr.frozen) (fun s =>
    let target := s.pwrTarget
    let late : Nat := bitsOf ((List.range 8).map (fun p => decide ((s.sapAt p).phase = .quiescing))) * 2 ^ 18
    let asked : Nat := if s.pwr.start = 2 then 32 else 2 ^ 30 - 1
    let silent : Nat := ((silent ||| late) &&& asked) - ((silent ||| late) &&& asked &&& s.pwr.refused)
    let acks := s.quiet.filter (fun b => decide (b ≠ 5) || decide (silent / 2 ^ b % 2 = 0))
    let us := min us 200
    let s : State := { s.set F.PWR_QUIESCE_TIME_LAST_US us with quiet := acks }
    let s := s.set F.PWR_QUIESCE_TIME_MAX_US (max us (s.get F.PWR_QUIESCE_TIME_MAX_US))
    if s.pwr.refused ≠ 0 ∨ silent ≠ 0 then (s.refusalRecord silent).pwrAbort 1 1
    else s.pwrPast 1 (fun s =>
      ((s.set F.PWR_STATE_STEP 2).pwrS2 target).pwrPast 2 (fun s => if target = 1 then s.pwrEntered 1 else s.pwrS3 target found)))

/-- The request of S5 is acknowledged: AP5, then S6 (R365, R367). -/
def State.pwrAcked (s : State) : State := s.pwrPast 5 (·.set F.PWR_STATE_STEP 6)

/-- The request of S5 has failed (R380): abort at AP5 with CAUSE 2. -/
def State.pwrPmbFailed (s : State) : State := (s.fault 0x01 1).pwrAbort 2 5

/-- The power switches open (R365 S6): PLLs and, in DEEP and OFF, the crystal stop; the AON matcher takes the management bus
(R440). `cut` is the command of a transaction that was in progress. -/
def State.pwrS6 (s : State) : State :=
  let target := s.pwrTarget
  let s := (s.forAll 3 (fun s x => s.pllState x 0)).trkAllOff
  let s : State := match s.pllTest with
    | some (x, _) => ({ s with pllTest := none }.finishJob 5 x 2).postJob 5 x false
    | none => s
  let s := s.famFaultSync.when (decide (3 ≤ target) || !s.lstEnabled) (·.set F.CLK_FLL_STATUS_LOCKED 0)
  let s := s.when (decide (target = 2)) (fun s => (s.modLst (fun l => { l with sleep := true })).lstRequest)
  let s := s.when (decide (target = 5)) (fun s => { s.usbOff with pins := { s.usbOff.pins with irqLow := false } })
  let s := s.when (decide (target = 4)) State.lapDrop
  (s.modPwr (fun p => { p with nacks := 0 })).pwrEntered target

/-! ## Wake (R374) -/

/-- W1 to W3 (R374): the crystal and the needed PLLs, and the retained banks. `plls` are the PLLs that locked, `found` and `lost`
what the sweep found (R422). -/
def State.wakeW3 (s : State) (origin plls : Nat) (found : List (Nat × Nat × Nat)) (lost : Nat) : State :=
  let s := s.when (decide (origin = 3) || decide (origin = 4)) (fun s => s.retSweep found lost)
  let s := (s.when (decide (origin = 4)) State.unretained).wipeDone
  let s := { s with domState := 0, gated := false }
  let s := s.when (decide (2 ≤ origin) && s.on F.CLK_XTAL_STATUS_OK) (·.set F.CLK_FLL_STATUS_LOCKED 1)
  let s := (s.startPll 0).startPll 1
  let s := s.forAll 3 (fun s x => s.when (decide (2 ≤ origin) && decide (plls / 2 ^ x % 2 = 1)) (fun s => s.pllLock x (s.lockUs x)))
  { s with free := s.free + 1 }

/-- MIC_PRIVACY_N takes effect at the converters and the listening block. A listening island that is off or retained wipes the
history at its return (R373). -/
def State.privacySet (s : State) (on : Bool) : State :=
  let s := (s.ainPrivacy on).pdmPrivacy
  if !on then s.when (s.islandOn .listen) State.lstPrivacyEnd
  else if s.islandOn .listen then s.lstPrivacy
  else s.modPwr (fun p => { p with privacy := true })

/-- W5 (R374): blocks restart by their own rules after `ms` away from RUN. -/
def State.wakeW5 (s : State) (origin ms : Nat) : State :=
  let s := s.when (s.engStop && s.famUp (feFamily s.fe)) State.engineRestart
  let s := if origin = 1 then s.quiet.foldl (fun s b => s.unquiesce b (s.pwr.iso || (decide (10 ≤ b) && decide (b ≤ 17)))) s
    else
      let s := s.snsRestart.fifSync.ainRestart.aoutRestart
      let s := (s.forAll 4 (fun s n => s.spkElapsed n ms)).spkRestart
      (s.forAll 8 (fun s p => s.sapRestart p)).pdmRestart.spdRestart
  let s := { s with quiet := [] }.modPwr (fun p => { p with iso := false })
  let s := s.when s.pwr.privacy (fun s =>
    let s := s.modPwr (fun p => { p with privacy := false })
    if s.privacy then s.lstPrivacy else s.privacySet true)
  let s := s.when (s.privacy && !s.pins.privacy) (·.privacySet false)
  let s := s.modLst (fun l => { l with sleep := false })
  let s := (s.when (decide (3 ≤ origin)) (fun s => s.lstRestart)).lstRequest
  let s := ((s.jackReturn 0 (decide (2 ≤ origin))).jackReturn 1 (decide (2 ≤ origin))).usbTry
  ((s.blwWarm ms).rotationLate).rearbitrate

/-- W4 (R374): the hub is in RUN, `us` after the wake began. -/
def State.wakeDone (s : State) (us ms plls : Nat) (found : List (Nat × Nat × Nat)) (lost : Nat) : State :=
  match s.pwr.waking with
  | none => s
  | some c =>
    s.when (s.pwrBusy && decide (s.pwrStep = 0) && decide (1 ≤ s.domState) && decide (s.domState ≤ 4)) (fun s =>
      let origin := s.domState
      let late := s.pwr.late
      let s := s.wakeW3 origin plls found lost
      let s := (((s.set F.PWR_STATE_STATE 0).set F.PWR_STATE_BUSY 0).set F.PWR_WAKE_STATUS_SOURCE c).set F.PWR_WAKE_STATUS_FROM origin
      let s := ((s.setB F.PWR_WAKE_STATUS_LATE late).set F.PWR_WAKE_STATUS_LATENCY (satTo 16 us)).inc F.PWR_COUNT2_WAKES
      let s := (s.irq 0x01 4).modPwr (fun p => { p with waking := none, late := false, wakes := [] })
      (s.rotationTime ms).wakeW5 origin ms)

/-! ## Freeze and registers -/

/-- Freeze takes hold during S1 to S5 (R370). -/
def State.pwrFreeze (s : State) : State :=
  s.when (s.pwrBusy && decide (1 ≤ s.pwrStep) && decide (s.pwrStep ≤ 5)) (·.modPwr (fun p => { p with frozen := true }))

/-- Resume (R370): abort at the last abort point passed, or at AP1, with CAUSE 5. A request that S5 has made is unwound, in whatever
state it is. -/
def State.pwrResume (s : State) : State :=
  let s := s.when s.pwr.frozen (fun s =>
    (s.modPwr (fun p => { p with frozen := false })).pwrAbort 5 (if s.pwrStep = 5 then 4 else 1))
  match s.pwr.unwound with
  | some restored => s.unwindEnd restored
  | none => s

/-- CLR (R382): the registers of R372 and PWR_COUNT; the longest S1 begins anew. -/
def State.acctClr (s : State) : State :=
  let s := (((s.setReg A.PWR_REFUSE_FIRST 0).setReg A.PWR_REFUSE_LAST 0).setReg A.PWR_REFUSE_MAP 0).setReg A.PWR_SILENT_MAP 0
  ((s.setReg A.PWR_COUNT 0).setReg A.PWR_WAKE_STATUS 0).set F.PWR_QUIESCE_TIME_MAX_US 0

/-- Does the condition of a PWR fault code still hold (R60, R383)? Code 0x01 ends at the next completed entry. -/
def State.pwrFaultHolds (code : Nat) : Bool := decide (code = 1)

end Sys2Proof.Machine
end

