-- ==== Sys2Proof/Machine/Lcy.lean ====
section
/-! DEFINITION. The life cycle (chapter 18, R470 to R474, R477): state, capabilities, code checks, transitions, OTP access. -/

namespace Sys2Proof.Machine

/-! ## SHA-256 of one block (R472) -/

/-- Round constants of SHA-256. -/
def shaK : List (BitVec 32) :=
  [0x428a2f98, 0x71374491, 0xb5c0fbcf, 0xe9b5dba5, 0x3956c25b, 0x59f111f1, 0x923f82a4, 0xab1c5ed5] ++
  [0xd807aa98, 0x12835b01, 0x243185be, 0x550c7dc3, 0x72be5d74, 0x80deb1fe, 0x9bdc06a7, 0xc19bf174] ++
  [0xe49b69c1, 0xefbe4786, 0x0fc19dc6, 0x240ca1cc, 0x2de92c6f, 0x4a7484aa, 0x5cb0a9dc, 0x76f988da] ++
  [0x983e5152, 0xa831c66d, 0xb00327c8, 0xbf597fc7, 0xc6e00bf3, 0xd5a79147, 0x06ca6351, 0x14292967] ++
  [0x27b70a85, 0x2e1b2138, 0x4d2c6dfc, 0x53380d13, 0x650a7354, 0x766a0abb, 0x81c2c92e, 0x92722c85] ++
  [0xa2bfe8a1, 0xa81a664b, 0xc24b8b70, 0xc76c51a3, 0xd192e819, 0xd6990624, 0xf40e3585, 0x106aa070] ++
  [0x19a4c116, 0x1e376c08, 0x2748774c, 0x34b0bcb5, 0x391c0cb3, 0x4ed8aa4a, 0x5b9cca4f, 0x682e6ff3] ++
  [0x748f82ee, 0x78a5636f, 0x84c87814, 0x8cc70208, 0x90befffa, 0xa4506ceb, 0xbef9a3f7, 0xc67178f2]

/-- Initial hash of SHA-256. -/
def shaH : List (BitVec 32) :=
  [0x6a09e667, 0xbb67ae85, 0x3c6ef372, 0xa54ff53a, 0x510e527f, 0x9b05688c, 0x1f83d9ab, 0x5be0cd19]

/-- Extend the message schedule by n words; newest first. -/
def shaSchedule : Nat → List (BitVec 32) → List (BitVec 32)
  | 0, ws => ws
  | n + 1, ws =>
    let at_ (k : Nat) : BitVec 32 := ws.getD (k - 1) 0
    let s0 := (at_ 15).rotateRight 7 ^^^ (at_ 15).rotateRight 18 ^^^ (at_ 15 >>> 3)
    let s1 := (at_ 2).rotateRight 17 ^^^ (at_ 2).rotateRight 19 ^^^ (at_ 2 >>> 10)
    shaSchedule n ((at_ 16 + s0 + at_ 7 + s1) :: ws)

/-- One round on the eight working words with the round's constant plus schedule word. -/
def shaRound (v : List (BitVec 32)) (kw : BitVec 32) : List (BitVec 32) :=
  let a := v.getD 0 0
  let b := v.getD 1 0
  let c := v.getD 2 0
  let e := v.getD 4 0
  let s1 := e.rotateRight 6 ^^^ e.rotateRight 11 ^^^ e.rotateRight 25
  let ch := (e &&& v.getD 5 0) ^^^ (~~~e &&& v.getD 6 0)
  let t1 := v.getD 7 0 + s1 + ch + kw
  let s0 := a.rotateRight 2 ^^^ a.rotateRight 13 ^^^ a.rotateRight 22
  let maj := (a &&& b) ^^^ (a &&& c) ^^^ (b &&& c)
  [t1 + s0 + maj, a, b, c, v.getD 3 0 + t1, e, v.getD 5 0, v.getD 6 0]

/-- Four bytes as a word, most significant first. -/
def beWord (b : List Nat) : BitVec 32 := BitVec.ofNat 32 (b.foldl (fun n x => n * 256 + x % 256) 0)

/-- SHA-256 of at most 55 bytes, as eight words. -/
def sha256 (m : List Nat) : List (BitVec 32) :=
  let padded := m ++ 0x80 :: List.replicate (55 - m.length) 0 ++ List.replicate 6 0 ++ [m.length * 8 / 256, m.length * 8 % 256]
  let w0 := ((List.range 16).map (fun k => beWord ((padded.drop (4 * k)).take 4))).reverse
  let ws := (shaSchedule 48 w0).reverse
  let v := (List.zipWith (· + ·) shaK ws).foldl shaRound shaH
  List.zipWith (· + ·) shaH v

/-- The first 128 bits of the digest as OTP words: byte i of the digest at byte i of the region (R5). -/
def shaOtp (m : List Nat) : List Word :=
  ((sha256 m).take 4).map (fun h => BitVec.ofNat 32 (h.toNat % 256 * 2 ^ 24 + h.toNat / 256 % 256 * 2 ^ 16 +
    h.toNat / 65536 % 256 * 256 + h.toNat / 2 ^ 24))

/-! ## State and capabilities (R470, R471) -/

/-- Number of ones of a word. -/
def popCount (w : Word) : Nat := ((List.range 32).filter (fun i => w.getLsbD i)).length

/-- Blown life-cycle fuses n (R470), at most 6. -/
def State.lcFuses (s : State) : Nat :=
  min 6 ((List.range 8).foldl (fun n k => n + popCount (s.otpWord (0x118 + k))) 0)

/-- State code of a fuse count (R470): 0 BLANK, 1 PROVISIONED, 2 FIELD, 3 RETURNED. -/
def lcCode (n : Nat) : Nat := if n = 0 then 0 else (n - 1) % 3 + 1

/-- The life-cycle state. -/
def State.lcState (s : State) : Nat := lcCode s.lcFuses

/-- Freeze, snapshot and register access over JTAG are permitted (R471, R481). -/
def State.debugOk (s : State) : Bool :=
  !s.lcy.unverified && (decide (s.lcState = 0) || decide (s.lcState = 3) || (decide (s.lcState = 1) && s.on F.LCY_STATE_DBG_EN))

/-- Is every PROG refused as 0x03 (R474, R481)? -/
def State.progLocked (s : State) : Bool := s.lcy.unverified || decide (s.lcState = 2)

/-- May an OTP word be programmed in the life-cycle state (R471, R474)? -/
def State.otpOpen (s : State) (w : Nat) : Bool :=
  (decide (0x100 ≤ w) && decide (w < 0x118) && decide (s.lcState = 0)) || (decide (0x300 ≤ w) && decide (w < 0x800))

/-- A digest of four OTP words. -/
def State.digest (s : State) (w : Nat) : List Word := (List.range 4).map (fun k => s.otpWord (w + k))

/-- Is a digest blank (R472)? -/
def blankDigest (d : List Word) : Bool := d.all (· == 0)

/-! ## Code checks (R472) -/

/-- LCY_CHECK written: the check clears the code registers; a refused check ends at once with CHECK 5, 4 or 3. A check written
while a check or a transition runs is ignored. -/
def State.lcyCheck (s : State) (unlock : Bool) : State :=
  s.when (s.lcy.check.isNone && !s.lcy.trans) (fun s =>
    let codes := (List.range (if unlock then 4 else 2)).map (fun k => s.reg (A.LCY_CODE k))
    let s := s.forAll 4 (fun s k => s.setReg (A.LCY_CODE k) 0)
    let d := s.digest (if unlock then 0x114 else 0x110)
    let right := if unlock then decide (2 ≤ s.lcState) else decide (s.lcState = 1)
    if s.on F.LCY_STATUS_LOCKOUT then (s.set F.LCY_STATUS_CHECK 5).irq 7 2
    else if !right then (s.set F.LCY_STATUS_CHECK 4).irq 7 2
    else if blankDigest d then (s.set F.LCY_STATUS_CHECK 3).irq 7 2
    else
      let found := decide (shaOtp (codes.flatMap (fun c => wordBytes c.toNat)) = d)
      let l := { s.lcy with check := some (unlock, found) }
      { s.set F.LCY_STATUS_BUSY 1 with lcy := l })

/-- The 10 ms of a check are over. -/
def State.lcyCheckDone (s : State) : State :=
  match s.lcy.check with
  | none => s
  | some (unlock, found) =>
    let l := { s.lcy with check := none }
    let s := ({ s with lcy := l }.set F.LCY_STATUS_BUSY 0).irq 7 2
    if found then (s.set F.LCY_STATUS_CHECK 1).set (if unlock then F.LCY_STATUS_UNLOCKED else F.LCY_STATE_DBG_EN) 1
    else
      let s := ((s.set F.LCY_STATUS_CHECK 2).inc F.LCY_STATUS_FAILS).irq 7 3
      s.when (decide (s.get F.LCY_STATUS_FAILS = 4)) (fun s => (s.set F.LCY_STATUS_LOCKOUT 1).irq 7 4)

/-! ## Transitions (R473) -/

/-- The RESULT code that refuses a transition, 0 when it may start: key, terminal, target, need, then RUN and busy. -/
def State.lcyRefusal (s : State) (key : Nat) : Nat :=
  let n := s.lcFuses
  if key ≠ 0x4C43 then 1
  else if 6 ≤ n then 5
  else if s.get F.LCY_CTRL_TARGET ≠ lcCode (n + 1) then 2
  else if (n = 0 ∧ blankDigest (s.digest 0x114)) ∨ ((n = 2 ∨ n = 3 ∨ n = 5) ∧ !s.on F.LCY_STATUS_UNLOCKED) then 3
  else if s.domState ≠ 0 ∨ s.pwrBusy ∨ s.lcy.trans ∨ s.lcy.check.isSome then 4
  else 0

/-- LCY_CTRL.GO: L1 and the start of L2, in which the outputs ramp to zero as at quiesce. -/
def State.lcyGo (s : State) (key : Nat) : State :=
  let r := s.lcyRefusal key
  if r ≠ 0 then s.set F.LCY_STATUS_RESULT r
  else
    let l := { s.lcy with trans := true }
    let s := { (s.set F.LCY_STATUS_RESULT 0).set F.LCY_STATUS_BUSY 1 with lcy := l }
    s.forAll 4 (fun s k => (s.aoutQuiesce k).spkQuiesce k)

/-- L3 fails: the state is kept and the outputs restart (R114, R154). -/
def State.lcyFuseFailed (s : State) : State :=
  let l := { s.lcy with trans := false }
  let s := (({ s with lcy := l }.set F.LCY_STATUS_BUSY 0).set F.LCY_STATUS_RESULT 6).fault 7 1
  s.aoutIsolate.spkIsolate.aoutRestart.spkRestart

/-! ## OTP access (R474) -/

/-- An OTP access starts: while one runs the new one is refused with RESULT 4. -/
def State.otpStart (s : State) (prog : Bool) : State :=
  if s.lcy.op.isSome then s.set F.LCY_OTP_STATUS_RESULT 4
  else
    let w := s.get F.LCY_OTP_ADDR_WORD
    if prog && !s.otpOpen w then (s.set F.LCY_OTP_STATUS_RESULT 1).irq 7 5
    else if prog && s.otpWord w != 0 then (s.set F.LCY_OTP_STATUS_RESULT 2).irq 7 5
    else
      let l := { s.lcy with op := some ⟨prog, w, s.reg A.LCY_OTP_DATA⟩ }
      { s.set F.LCY_OTP_STATUS_BUSY 1 with lcy := l }

/-- An OTP access completes; `verified` is false where a programmed word failed its verification (RESULT 3). -/
def State.otpDone (s : State) (verified : Bool) : State :=
  match s.lcy.op with
  | none => s
  | some o =>
    let l := { s.lcy with op := none }
    let s := ({ s with lcy := l }.set F.LCY_OTP_STATUS_BUSY 0).irq 7 5
    if !o.prog then (s.setReg A.LCY_OTP_DATA (s.otpWord o.word)).set F.LCY_OTP_STATUS_RESULT 0
    else (s.otpProgram o.word o.data).set F.LCY_OTP_STATUS_RESULT (if verified then 0 else 3)

/-- Does the condition of an LCY fault code still hold (R477)? Code 0x01 clears on ERR_CLR. -/
def State.lcyFaultHolds (_code : Nat) : Bool := false

/-! ## Meanings of the events -/

/-- LCY_CHECK_DONE (R472). -/
def execLcyCheckDone (s : State) : Host.Outcome State Fault Refusal := .next (settle (s.event .mgmt true State.lcyCheckDone))
/-- OTP_ACCESS_DONE (R474): whether the programmed word verified. -/
def execOtpAccessDone (verified : Bool) (s : State) : Host.Outcome State Fault Refusal :=
  .next (settle (s.event .mgmt true (·.otpDone verified)))

end Sys2Proof.Machine
end

