-- ==== Sys2Proof/Machine/Dbg.lean ====
section
/-! DEFINITION. Microphone privacy over all converters (R44, R95, R245, R333), and freeze and resume (R43, R462 to R469). -/

namespace Sys2Proof.Machine

/-! ## Microphone privacy -/

/-- Freeze is taking hold or has taken hold (R44). -/
def State.freezing (s : State) : Bool := decide (s.get F.DBG_FREEZE_STATUS_STATE = 1) || s.frozen

/-- The filtered level of MIC_PRIVACY_N changes: latched in freeze, kept in DEEP until the wake, ignored in reset and OFF. -/
def State.privacyBall (s : State) (on : Bool) : State :=
  if s.pins.privacy = on then s
  else
    let s := { s with pins := { s.pins with privacy := on } }
    if 5 ≤ s.domState then s
    else if s.freezing then s.when on (·.set F.DBG_FREEZE_STATUS_PRIV_LATCHED 1)
    else if 3 ≤ s.domState then s.when on (·.modPwr (fun p => { p with privacy := true }))
    else s.privacySet on

/-! ## Freeze (R462, R463, R469) -/

/-- A freeze request: 1 the ball, 2 the register, 3 JTAG. -/
def State.freezeRequest (s : State) (source : Nat) : State :=
  if 3 ≤ s.domState ∨ s.get F.DBG_FREEZE_STATUS_STATE ≠ 0 then s
  else if !s.debugOk || s.lcy.trans then (s.inc F.DBG_FREEZE_COUNT_IGNORED).irq 5 4
  else (s.set F.DBG_FREEZE_STATUS_STATE 1).set F.DBG_FREEZE_STATUS_SOURCE source

/-- F2 to F4: the outputs, the islands, FROZEN. -/
def State.freezeHold (s : State) : State :=
  let s := { s with seen := #v[s.famUp 0, s.famUp 1, s.on F.CLK_FLL_STATUS_LOCKED] }
  let s := (((s.aoutFreeze.spkFreeze).snsClockLost).copyAbort true).blwStop.pwrFreeze
  let s := { s with
    keptMgmt := s.on F.DBG_FREEZE_KEEP_MGMT, keptUsb := s.on F.DBG_FREEZE_KEEP_MGMT && s.on F.DBG_FREEZE_KEEP_USB }
  let s := (s.set F.DBG_FREEZE_STATUS_STATE 2).set F.DBG_FREEZE_FRAME_FRAME (s.get F.CHN_FRAME_NOW_FRAME)
  (s.inc F.DBG_FREEZE_COUNT_FREEZES).irq 5 2

/-- Freeze takes hold; during S6 it waits for its end (R370), and lapses where the hub has left SLEEP by then. -/
def State.freezeTake (s : State) : State :=
  s.when (decide (s.get F.DBG_FREEZE_STATUS_STATE = 1) && decide (s.pwrStep ≠ 6)) (fun s =>
    if 3 ≤ s.domState then s.set F.DBG_FREEZE_STATUS_STATE 0 else s.freezeHold)

/-! ## Resume (R468) -/

/-- The jobs that a freeze ends at resume (R102, R125, R276, R460). -/
def State.resumeJobs (s : State) : State :=
  ((((s.clkResume.adcAbort 0 5).adcAbort 1 5).dacAbort 0 5).dacAbort 1 5).macAbort

/-- U4: the blocks restart by their own rules, `us` after freeze took hold. -/
def State.resumeBlocks (s : State) (us : Nat) : State :=
  let s := s.trkResume
  let s := s.when (decide (s.domState ≤ 1)) (fun s => s.forAll 4 (fun s n => s.spkElapsed n (us / 1000)))
  let s := s.when (decide (s.domState = 0) && !s.gated) (fun s =>
    (s.lanesRestart.chnResume.aoutResume.spkResume.snsClockUp.jackReturn 0 false).jackReturn 1 false)
  let s := s.when (decide (s.domState = 0)) (·.blwWarm (us / 1000))
  let s := s.when (decide (s.domState ≤ 2) && s.lstEnabled) (fun s =>
    (s.when (!s.isQuiet 5) State.lstRestart).set F.LST_STATUS_SUPPRESSED 1)
  s.rearbitrate.pwrResume

/-- U1 to U4, `us` after freeze took hold: a latched assertion of MIC_PRIVACY_N wipes the history first, and the present level
of the ball holds from then on. -/
def State.resume (s : State) (us : Nat) : State :=
  let latched := s.on F.DBG_FREEZE_STATUS_PRIV_LATCHED
  let s := (s.set F.DBG_FREEZE_STATUS_PRIV_LATCHED 0).set F.DBG_FREEZE_STATUS_STATE 0
  let s := { s with keptMgmt := false, keptUsb := false }
  let s := s.when latched (·.privacySet true)
  let s := s.when (s.privacy && !s.pins.privacy) (·.privacySet false)
  let s := ((s.set F.DBG_FREEZE_STATUS_DISCONT 1).set F.DBG_FREEZE_TIME_US (satTo 32 us)).irq 5 3
  s.resumeJobs.resumeBlocks us

/-- A resume request; `level` is the present level of FREEZE, `us` the time since FROZEN. -/
def State.resumeRequest (s : State) (level : Bool) (us : Nat) : State :=
  let s := { s with pins := { s.pins with freeze := level } }
  if !s.frozen then s
  else if level then (s.set F.DBG_FREEZE_STATUS_RESUME_BLOCKED 1).irq 5 5
  else s.resume us

/-- DBG_CNT_CLR (R476). -/
def State.dbgCntClr (s : State) : State := s.setReg A.DBG_FREEZE_COUNT 0

/-! ## Meanings of the events -/

/-- FREEZE_BALL_HIGH (R43): `rearmed`, the ball has been low for 1 µs since reset ended. -/
def execFreezeBallHigh (rearmed : Bool) (s : State) : Host.Outcome State Fault Refusal :=
  let armed := s.freezeArmed || rearmed
  let s := { s with pins := { s.pins with freeze := true }, freezeArmed := armed && decide (s.domState ≤ 5) }
  .next (settle (s.when armed (·.freezeRequest 1)))
/-- FREEZE_TAKE_HOLD (R462). -/
def execFreezeTakeHold (s : State) : Host.Outcome State Fault Refusal := .next (settle s.freezeTake)
/-- MIC_PRIVACY_ASSERT (R95, R245, R333). -/
def execMicPrivacyAssert (s : State) : Host.Outcome State Fault Refusal := .next (settle (s.privacyBall true))
/-- MIC_PRIVACY_RELEASE (R95, R245, R333). -/
def execMicPrivacyRelease (s : State) : Host.Outcome State Fault Refusal := .next (settle (s.privacyBall false))

end Sys2Proof.Machine
end

