-- ==== Sys2Proof/Machine/Viol.lean ====
section
/-! DEFINITION. The violation log (R62, R74) and the initiators (R69). -/

namespace Sys2Proof.Machine

/-- Record a violation (R74): the global log, and the page when the address names an implemented one. `addr` is the address as
received, up to 24 bits. -/
def State.violation (s : State) (ini code : Nat) (dir : Bool) (addr : Option Nat) : State :=
  let a := addr.getD 0 % 2 ^ 18
  let d := if dir then 1 else 0
  let tick := s.get F.BLW_TICK_COUNT % 65536
  let info := BitVec.ofNat 32 (tick * 65536 + 512 + (if addr.isSome then 256 else 0) + d * 128 + ini * 16 + code)
  let word := BitVec.ofNat 32 a
  let s := (s.setReg A.DBG_VIOL_LAST_ADDR word).setReg A.DBG_VIOL_LAST_INFO info
  let s := s.when (!s.on F.DBG_VIOL_FIRST_INFO_VALID) (fun s => (s.setReg A.DBG_VIOL_FIRST_ADDR word).setReg A.DBG_VIOL_FIRST_INFO info)
  let s := s.inc F.DBG_VIOL_COUNT_COUNT
  match addr with
  | none => s
  | some full =>
    s.when (decide (full < 2 ^ 18) && (pageRow (full / 0x400)).isSome) (fun s =>
      let p := full / 0x400
      let s := (s.set (F.PG_LAST_VIOL p) code).inc (F.PG_VIOL_COUNT p)
      (s.set (F.PG_ERR_ADDR p) (d * 2 ^ 21 + ini * 2 ^ 18 + full)).irq p 0)

/-- DBG_VIOL_CTRL.CLEAR (R74). -/
def State.violClear (s : State) : State :=
  [A.DBG_VIOL_FIRST_ADDR, A.DBG_VIOL_FIRST_INFO, A.DBG_VIOL_LAST_ADDR, A.DBG_VIOL_LAST_INFO, A.DBG_VIOL_COUNT].foldl
    (fun s a => s.setReg a 0) s

end Sys2Proof.Machine
end

