-- ==== Sys2Proof/Machine/Bus.lean ====
section
/-! DEFINITION. The management bus without the register transactions: who answers (R439, R463), the last status (R436), abandoned
transactions (R429, R437, R438, R440), Host Notify (R441 to R444), stuck buses and recovery (R446, R447). -/

namespace Sys2Proof.Machine

/-- Update the management bus. -/
def State.modSmb (s : State) (f : Smb → Smb) : State := { s with smb := f s.smb }

/-- The management island serves the bus (R439, R440, R463). -/
def State.smbServes (s : State) : Bool :=
  decide (s.domState ≤ 2) && s.mgmtRuns && !(decide (s.pwrStep = 6) && decide (3 ≤ s.pwrTarget))

/-- The AON matcher handles the bus (R439, R440). -/
def State.smbMatches (s : State) : Bool :=
  decide (s.domState = 3) || decide (s.domState = 4) ||
    (decide (s.domState ≤ 2) && decide (s.pwrStep = 6) && (decide (s.pwrTarget = 3) || decide (s.pwrTarget = 4)))

/-- A transaction addressed to the target begins: it is counted. -/
def State.smbOpen (s : State) : State := s.inc F.SMB_COUNT_TRANSACTIONS

/-- A transaction that reached its end gives its status (R436, R449, R450). -/
def State.smbGive (s : State) (cmd status words : Nat) : State :=
  let s := ((s.set F.SMB_LAST_CMD cmd).set F.SMB_LAST_WORDS words).set F.SMB_LAST_STATUS status
  s.when (decide (status ≠ 0)) (fun s =>
    let s := (s.set F.SMB_FLAGS_ERROR 1).inc F.SMB_COUNT_ERRORS
    let s := s.when (decide (status = 8)) (·.set F.SMB_FLAGS_BAD_COUNT 1)
    (s.when (decide (status = 6)) (·.set F.SMB_FLAGS_PEC_ERR 1)).irq 8 2)

/-- The 24-bit address in the bytes after the command byte (n, a0, a1, a2, …), once received in full (R55, R430). -/
def smbAddr (bytes : List Nat) : Option Nat :=
  match bytes with
  | _ :: a0 :: a1 :: a2 :: _ => some (a0 % 256 + a1 % 256 * 256 + a2 % 256 * 65536)
  | _ => none

/-- DIR of a transaction in the log (R74, R432): an RMW whose mask is zero is a read. -/
def smbDir (cmd : Nat) (bytes : List Nat) : Bool :=
  if cmd = 0x21 then false
  else if cmd = 0x23 then decide (bytes.length < 8) || ((bytes.drop 4).take 4).any (fun b => decide (b % 256 ≠ 0))
  else true

/-- A transaction that ends before its final byte performs no word and gets status 0x08 (R429); WAKE and STATUS have nothing left. -/
def State.smbAbandon (s : State) (cut : Option (Nat × List Nat)) : State :=
  match cut with
  | none => s
  | some (cmd, bytes) =>
    let s := s.smbOpen.modSmb (fun b => { b with ack := false, reply := [] })
    if cmd = 0x20 ∨ cmd = 0x21 ∨ cmd = 0x23 then
      (s.violation 0 8 (smbDir cmd bytes) (smbAddr bytes)).smbGive cmd 8 0
    else s

/-- The command byte 0x24 (R433): wake source 2 outside RUN; the last status becomes 0x00. -/
def State.smbWake (s : State) : State := (s.smbGive 0x24 0 0).wakeFire 2

/-- A command byte the AON matcher takes (R439). -/
def State.smbDeep (s : State) (cmd : Nat) : State :=
  if cmd = 0x24 then s.smbWake.modSmb (fun b => { b with ack := true, reply := [] })
  else ((s.modPwr (fun p => { p with nacks := p.nacks + 1 })).modSmb (fun b => { b with ack := false, reply := [] })).wakeFire 3

/-- A transaction cut at S6 (R440). -/
def State.smbCut (s : State) (cut : Option (Nat × List Nat)) : State :=
  s.when cut.isSome (fun s => (s.smbAbandon cut).set F.SMB_FLAGS_CUT 1)

/-- W4 hands the matcher's NACK count over (R439). -/
def State.smbHandOver (s : State) : State :=
  let n := s.pwr.nacks
  s.when (decide (n ≠ 0)) (fun s =>
    let s := s.set F.SMB_COUNT2_DEEP_NACKS (satTo 16 (s.get F.SMB_COUNT2_DEEP_NACKS + n))
    ((s.set F.SMB_FLAGS_DEEP_NACK 1).irq 8 7).modPwr (fun p => { p with nacks := 0 }))

/-! ## Host Notify (R441 to R444) -/

/-- The present word is over: delivered, failed or withdrawn. -/
def State.hnOver (s : State) : State :=
  (((s.set F.SMB_HN_STATUS_PENDING 0).set F.SMB_HN_STATUS_SENDING 0).set F.SMB_HN_STATUS_TRY 0).modSmb (fun b => { b with retry := false })

/-- Start a Host Notify on a free bus; W is latched at its S. A STUCK or recovering port holds it. -/
def State.hnStart (s : State) : State :=
  let w := s.notifyWord
  if w = 0 then s.hnOver.set F.SMB_HN_STATUS_LAST_SENT 0
  else if s.on F.SMB_REC_SMB_STUCK ∨ s.on F.SMB_REC_SMB_RECOVERING then s
  else (s.set F.SMB_HN_STATUS_SENDING 1).modSmb (fun b => { b with word := w, retry := false })

/-- One evaluation (R441), `idle` ms after the last Host Notify ended. -/
def State.hnEval (s : State) (idle : Nat) : State :=
  if !(s.smbServes && s.on F.SMB_HN_CFG_EN) ∨ s.on F.SMB_HN_STATUS_SENDING then s
  else
    let w := s.notifyWord
    if w = 0 then s.hnOver.set F.SMB_HN_STATUS_LAST_SENT 0
    else if s.smb.retry then s
    else if s.on F.SMB_HN_STATUS_PENDING then s.hnStart
    else
      let news (old : Nat) : Bool := decide (w &&& old ≠ w)
      let barred := match s.smb.failed with | some f => !news f | none => false
      if barred then s
      else
        let s := s.modSmb (fun b => { b with failed := none })
        if !news (s.get F.SMB_HN_STATUS_LAST_SENT) ∨ idle < s.get F.SMB_HN_CFG_HOLDOFF then s
        else (s.set F.SMB_HN_STATUS_PENDING 1).hnStart

/-- Is a Host Notify on the bus? -/
def State.hnSending (s : State) : Bool := s.smbServes && s.on F.SMB_HN_STATUS_SENDING

/-- Delivered (R441, R442). -/
def State.hnDone (s : State) : State :=
  s.when s.hnSending (fun s => (s.hnOver.set F.SMB_HN_STATUS_LAST_SENT s.smb.word).inc F.SMB_HN_COUNT_SENT)

/-- Arbitration lost (R443): it starts again when the bus is free. -/
def State.hnLoss (s : State) : State :=
  s.when s.hnSending (fun s =>
    (((s.set F.SMB_HN_STATUS_SENDING 0).inc F.SMB_HN_COUNT_ARB_LOSSES).set F.SMB_FLAGS_ARB_LOST 1).irq 8 5)

/-- NACKed (R444). -/
def State.hnNack (s : State) : State :=
  s.when s.hnSending (fun s =>
    let n := s.get F.SMB_HN_STATUS_TRY + 1
    let s := ((s.set F.SMB_HN_STATUS_SENDING 0).set F.SMB_HN_STATUS_TRY n).inc F.SMB_HN_COUNT2_NACKS
    if n < s.get F.SMB_HN_CFG_TRIES then s.modSmb (fun b => { b with retry := true })
    else
      let s := (s.hnOver.modSmb (fun b => { b with failed := some b.word })).set F.SMB_FLAGS_HN_FAIL 1
      (s.inc F.SMB_HN_COUNT2_FAILS).irq 8 4)

/-- RETRY ms after a NACK. -/
def State.hnRetry (s : State) : State :=
  s.when (s.smbServes && s.smb.retry && s.on F.SMB_HN_CFG_EN) (fun s => (s.modSmb (fun b => { b with retry := false })).hnStart)

/-- Effects of a write to SMB_HN_CFG: with EN = 0 a send that is due is withdrawn. -/
def State.hnCfgWritten (s : State) : State :=
  s.when (!s.on F.SMB_HN_CFG_EN && !s.on F.SMB_HN_STATUS_SENDING) State.hnOver

/-! ## Stuck buses (R446, R447) -/

/-- Status fields of a port: 0 the SMBus port, 1 the regulator port. -/
def recStuck (p : Nat) : Fld := if p = 0 then F.SMB_REC_SMB_STUCK else F.SMB_REC_PMB_STUCK
/-- RECOVERING of a port. -/
def recRun (p : Nat) : Fld := if p = 0 then F.SMB_REC_SMB_RECOVERING else F.SMB_REC_PMB_RECOVERING
/-- TRIES of a port. -/
def recTries (p : Nat) : Fld := if p = 0 then F.SMB_REC_SMB_TRIES else F.SMB_REC_PMB_TRIES
/-- CLOCKS of a port. -/
def recClocks (p : Nat) : Fld := if p = 0 then F.SMB_REC_SMB_CLOCKS else F.SMB_REC_PMB_CLOCKS
/-- RECOVERIES of a port. -/
def recCount (p : Nat) : Fld := if p = 0 then F.SMB_REC_SMB_RECOVERIES else F.SMB_REC_PMB_RECOVERIES

/-- Both ports' logic is in the management island. -/
def State.busRuns (s : State) : Bool := decide (s.domState ≤ 2) && s.mgmtRuns

/-- A port enters STUCK. -/
def State.portStuck (s : State) (p : Nat) : State :=
  (((s.set (recRun p) 0).set (recStuck p) 1).fault 8 (p + 1)).irq 8 6

/-- A port leaves STUCK. -/
def State.portFree (s : State) (p : Nat) : State :=
  s.when (s.on (recStuck p)) (fun s => (s.set (recStuck p) 0).unfault 8 (p + 1))

/-- Does the controller begin a transaction on the port: a Host Notify that is due, an exchange of an enabled link? -/
def State.portWanted (s : State) (p : Nat) : Bool :=
  if p = 0 then s.on F.SMB_HN_STATUS_PENDING else s.on F.PMB_CFG_EN

/-- The check before a transaction finds the bus stuck: SDA low, or (`scl`) SCL low for 35 ms. -/
def State.busStuck (s : State) (p : Nat) (scl : Bool) : State :=
  s.when (s.busRuns && s.portWanted p && !s.on (recStuck p) && !s.on (recRun p)) (fun s =>
    let s := s.when (decide (p = 0)) (·.set F.SMB_HN_STATUS_SENDING 0)
    if p = 0 ∧ !s.on F.SMB_HN_CFG_RECOVER then s
    else if scl then s.portStuck p
    else ((s.set (recRun p) 1).set (recTries p) 0).set (recClocks p) 0)

/-- A recovery try ends after `clocks` pulses, with the bus free or not. -/
def State.busTry (s : State) (p clocks : Nat) (freed : Bool) : State :=
  s.when (s.busRuns && s.on (recRun p)) (fun s =>
    let single := if p = 0 then s.smb.single0 else s.smb.single1
    let n := if single then 1 else s.get (recTries p) + 1
    let s := ((s.set (recTries p) n).set (recClocks p) clocks).inc (recCount p)
    let s := s.modSmb (fun b => if p = 0 then { b with single0 := false } else { b with single1 := false })
    if freed then
      let s := (s.set (recRun p) 0).portFree p
      s.when (decide (p = 0) && s.on F.SMB_HN_STATUS_PENDING && s.on F.SMB_HN_CFG_EN && !s.smb.retry) State.hnStart
    else if single then s.set (recRun p) 0
    else s.when (decide (3 ≤ n)) (·.portStuck p))

/-- SMB_REC_CTRL: one recovery try on a port (R447, R449). -/
def State.recRetry (s : State) (p : Nat) : State :=
  s.when (!s.on (recRun p)) (fun s =>
    (((s.set (recRun p) 1).set (recTries p) 0).set (recClocks p) 0).modSmb (fun b =>
      if p = 0 then { b with single0 := true } else { b with single1 := true }))

/-- SMB_CNT_CLR (R449). -/
def State.smbCntClr (s : State) : State :=
  let s := [A.SMB_COUNT, A.SMB_COUNT2, A.SMB_HN_COUNT, A.SMB_HN_COUNT2].foldl (fun s a => s.setReg a 0) s
  (s.set (recCount 0) 0).set (recCount 1) 0

/-- Does the condition of an SMB fault code still hold (R450)? -/
def State.smbFaultHolds (s : State) (code : Nat) : Bool := s.on (recStuck (code - 1))

/-! ## Meanings of the events -/

/-- The last byte the host wrote is answered so, and the reply bytes are these (R429, R430). -/
def State.smbAnswer (s : State) (ack : Bool) (reply : List Nat) : State := s.modSmb (fun b => { b with ack := ack, reply := reply })

/-- SMB_WAKE (R433). -/
def execSmbWake (s : State) : Host.Outcome State Fault Refusal :=
  .next (settle (if s.smbServes then s.smbOpen.smbWake.smbAnswer true []
    else if s.smbMatches then s.smbDeep 0x24
    else s.smbAnswer false []))
/-- SMB_BAD_COMMAND (R434): the command byte; in DEEP the matcher NACKs it as any other (R439). -/
def execSmbBadCommand (cmd : Nat) (s : State) : Host.Outcome State Fault Refusal :=
  .next (settle (s.when (!(decide (0x20 ≤ cmd) && decide (cmd ≤ 0x24))) (fun s =>
    if s.smbServes then (s.smbOpen.set F.SMB_FLAGS_BAD_CMD 1).smbAnswer false []
    else if s.smbMatches then s.smbDeep cmd
    else s.smbAnswer false [])))
/-- SMB_OTHER_ADDRESS (R427): NACKed; nothing else happens. -/
def execSmbOtherAddress (_a : Nat) (s : State) : Host.Outcome State Fault Refusal :=
  .next (settle (s.smbAnswer false []))
/-- SMB_DEEP_MATCH (R439): the command byte. -/
def execSmbDeepMatch (cmd : Nat) (s : State) : Host.Outcome State Fault Refusal :=
  .next (settle (s.when s.smbMatches (·.smbDeep cmd)))
/-- SMB_SCL_TIMEOUT (R437): the transaction in progress, if it has not reached its end. -/
def execSmbSclTimeout (cut : Option (Nat × List Nat)) (s : State) : Host.Outcome State Fault Refusal :=
  .next (settle (s.when s.smbServes (fun s =>
    (((s.smbAbandon cut).set F.SMB_FLAGS_TIMEOUT 1).inc F.SMB_COUNT2_TIMEOUTS).irq 8 3)))
/-- SMB_SDA_RELEASE (R438). -/
def execSmbSdaRelease (cut : Option (Nat × List Nat)) (s : State) : Host.Outcome State Fault Refusal :=
  .next (settle (s.when s.smbServes (fun s => (s.smbAbandon cut).set F.SMB_FLAGS_SDA_RELEASE 1)))
/-- HOST_NOTIFY_EVAL (R441). -/
def execHostNotifyEval (idle : Nat) (s : State) : Host.Outcome State Fault Refusal := .next (settle (s.hnEval idle))
/-- HOST_NOTIFY_DONE (R442). -/
def execHostNotifyDone (s : State) : Host.Outcome State Fault Refusal := .next (settle s.hnDone)
/-- HN_ARB_LOSS (R443). -/
def execHnArbLoss (s : State) : Host.Outcome State Fault Refusal := .next (settle s.hnLoss)
/-- HN_NACK (R444). -/
def execHnNack (s : State) : Host.Outcome State Fault Refusal := .next (settle s.hnNack)
/-- HN_RETRY_EXPIRE (R444). -/
def execHnRetryExpire (s : State) : Host.Outcome State Fault Refusal := .next (settle s.hnRetry)
/-- BUS_STUCK_DETECT (R446). -/
def execBusStuckDetect (port : Fin 2) (scl : Bool) (s : State) : Host.Outcome State Fault Refusal :=
  .next (settle (s.busStuck port scl))
/-- BUS_RECOVERY_TRY (R446). -/
def execBusRecoveryTry (port : Fin 2) (clocks : Fin 10) (freed : Bool) (s : State) : Host.Outcome State Fault Refusal :=
  .next (settle (s.busTry port clocks freed))
/-- BUS_STUCK_CLEAR (R447). -/
def execBusStuckClear (port : Fin 2) (s : State) : Host.Outcome State Fault Refusal :=
  .next (settle (s.when s.busRuns (·.portFree port)))

end Sys2Proof.Machine
end

