-- ==== Sys2Proof/Machine/Img.lean ====
section
/-! DEFINITION. The image loader up to its first record (chapter 19, R483 to R492): flash and USB images, the check, the result. -/

namespace Sys2Proof.Machine

/-- Update the loader. -/
def State.modLdr (s : State) (f : Loader → Loader) : State := { s with ldr := f s.ldr }

/-! ## Format (R486 to R489) -/

/-- Words of a record, none for a record word of no defined TYPE or with an illegal COUNT or nonzero [15:8] (R487). -/
def recordWords (w : Word) : Option Nat :=
  let count := bits w 16 16
  if bits w 8 8 ≠ 0 then none
  else match bits w 0 8 with
    | 0x01 => if 1 ≤ count ∧ count ≤ 1024 then some (2 + count) else none
    | 0x02 => if count = 0 then some 4 else none
    | 0x03 => if count = 0 then some 5 else none
    | 0x04 => if count = 0 then some 2 else none
    | 0x05 => if count = 0 then some 4 else none
    | 0x0F => if count = 0 then some 1 else none
    | _ => none

/-- Are the fields of a record in their ranges (R487)? -/
def recordFields (rec : List Word) : Bool :=
  let f (k : Nat) : Nat := (rec.getD k 0).toNat
  match bits (rec.getD 0 0) 0 8 with
  | 0x03 => decide (f 1 < 2 ^ 18) && decide (10 ≤ f 4) && decide (f 4 ≤ 1000000)
  | 0x04 => decide (1 ≤ f 1) && decide (f 1 ≤ 1000000)
  | 0x05 => decide (f 1 ≤ 2) && decide (f 3 < 2 ^ 16)
  | 0x0F => true
  | _ => decide (f 1 < 2 ^ 18)

/-- Word offset of the first record that breaks the format (R489 step 5); none when END stands last and nowhere else. `rest` are
the words before the CRC word from offset `pos` on. -/
def formatError : Nat → Nat → List Word → Option Nat
  | 0, pos, _ => some pos
  | _ + 1, pos, [] => some pos
  | fuel + 1, pos, w :: t =>
    match recordWords w with
    | none => some pos
    | some n =>
      if t.length + 1 < n ∨ !recordFields ((w :: t).take n) then some pos
      else if bits w 0 8 = 0x0F then (if t = [] then none else some pos)
      else formatError fuel (pos + n) (t.drop (n - 1))

/-- Check an image (R489): the ERROR code, 0 when it passes, and the byte offset of a bad record. `begin_` is the length that
IMAGE_BEGIN announced; without one the image is from flash, where a blank first word means no image (R484). -/
def imageCheck (ws : List Word) (begin_ : Option Nat) : Nat × Nat :=
  let w (k : Nat) : Nat := (ws.getD k 0xFFFFFFFF).toNat
  let len := w 2
  let n := len / 4
  if begin_.isNone ∧ (w 0 = 0xFFFFFFFF ∨ w 0 = 0) then (1, 0)
  else if w 0 ≠ 0x4D4C4A48 then (2, 0)
  else if w 1 ≠ 1 then (3, 0)
  else if len % 4 ≠ 0 ∨ len < 24 ∨ 262144 < len ∨ begin_.getD len ≠ len then (4, 0)
  else
    let body := (ws ++ List.replicate (n - ws.length) 0xFFFFFFFF).take (n - 1)
    if crc32 (body.flatMap (fun x => wordBytes x.toNat)) ≠ w (n - 1) then (5, 0)
    else match formatError n 4 (body.drop 4) with
      | some pos => (6, 4 * pos)
      | none => (0, 0)

/-! ## Start and end of a load -/

/-- A load starts (R491). -/
def State.ldrStart (s : State) (source : Nat) : State :=
  (s.modLdr (fun l => { l with source := source, slots := [], pos := 16, waited := 0, lanes := [] })).ldrReport (resultWord 1 source 0 0) 0

/-- Level 0, and a flash boot that executed no image or failed: USB is enabled when a VID is set (R483, R485). -/
def State.hostBoot (s : State) : State :=
  s.when (decide (s.get F.USB_ID_VID ≠ 0) && !s.on (F.PG_ENABLE 0x0A)) (fun s => (s.set (F.PG_ENABLE 0x0A) 1).usbPower)

/-- A load ends: done with ERROR 0, else failed (R491). -/
def State.ldrEnd (s : State) (error detail offset : Nat) : State :=
  let src := s.ldr.source
  let s := (s.modLdr (fun l => { l with st := .idle, slots := [] })).modUsb (fun u => { u with imgRx := false })
  let s := s.ldrReport (resultWord (if error = 0 then 2 else 3) src error detail) offset
  s.when (decide (error ≠ 0) && decide (src ≤ 2)) State.hostBoot

/-- A word of the staging area (R489). -/
def State.stageWord (s : State) (k : Nat) : Word := s.sramWord (sramAddr 26 k)

/-- Put words into the staging area. -/
def State.stageWords (s : State) (ws : List Word) : State :=
  (ws.foldl (fun (e : State × Nat) w => (e.1.sramWrite (sramAddr 26 e.2) w, e.2 + 1)) (s, 0)).1

/-! ## Flash (R483, R484) -/

/-- The loader has read the flash: the words at slot A and, under level 3, at slot B. -/
def State.flashBoot (s : State) (a b : List Word) : State :=
  s.when (decide (s.ldr.st = .flash) && !s.frozen) (fun s =>
    let slots := if s.get F.SYS_STRAP_BOOT_LVL = 3 then [(1, a), (2, b)] else [(1, a)]
    let s := slots.foldl (fun s e => s.stageWords (e.2.take 65536)) s
    (s.ldrStart 1).modLdr (fun l => { l with st := .staged, slots := slots }))

/-! ## USB (R302) -/

/-- IMAGE_BEGIN: false where it is STALLed. -/
def State.imageBegin (s : State) (length : Nat) : State × Bool :=
  if s.ldr.st ≠ .idle then (s, false)
  else
    let s := (s.ldrStart 3).modLdr (fun l => { l with st := if length = 0 then .staged else .receive, length := length, got := 0 })
    (s.modUsb (fun u => { u with imgRx := true }), true)

/-- Bytes on endpoint 0x07; those beyond the announced length are discarded. -/
def State.imageBulk (s : State) (bytes : List Nat) : State :=
  s.event .usb (s.usbBulk && !s.frozen && decide (s.ldr.st = .receive)) (fun s =>
    let l := s.ldr
    let new := bytes.take (l.length - l.got)
    let s := s.sramPutBytes 26 l.got (new.take (262144 - l.got))
    s.modLdr (fun l => { l with got := l.got + new.length, st := if l.length ≤ l.got + new.length then .staged else .receive }))

/-- No bulk data for 1 s (R492). -/
def State.imageTimeout (s : State) : State :=
  s.when (decide (s.ldr.st = .receive) && !s.frozen) (·.ldrEnd 10 0 0)

/-! ## The check (R483, R489) -/

/-- The image to perform from the flash images: of the slots that pass the one with the larger SEQ, slot A when equal. -/
def chooseSlot (slots : List (Nat × List Word)) : Option (Nat × List Word) :=
  (slots.filter (fun e => decide ((imageCheck e.2 none).1 = 0))).foldl (fun b e =>
    match b with
    | none => some e
    | some c => if (c.2.getD 3 0).toNat < (e.2.getD 3 0).toNat then some e else some c) none

/-- R489: a staged image is checked; a passing one starts its records. -/
def State.imageJudge (s : State) : State :=
  s.when (decide (s.ldr.st = .staged) && !s.frozen) (fun s =>
    if s.ldr.source = 3 then
      let ws := (List.range (min s.ldr.length 262144 / 4)).map s.stageWord
      match imageCheck ws (some s.ldr.length) with
      | (0, _) => (s.modLdr (fun l => { l with st := .run })).modUsb (fun u => { u with imgRx := false })
      | (e, o) => s.ldrEnd e 0 o
    else match chooseSlot s.ldr.slots with
      | some (k, ws) =>
        let n := (ws.getD 2 0).toNat / 4
        (s.stageWords (ws.take n)).modLdr (fun l => { l with st := .run, source := k, slots := [] })
      | none =>
        let r := match s.ldr.slots with
          | e :: _ => imageCheck e.2 none
          | [] => (1, 0)
        s.ldrEnd r.1 0 r.2)

/-! ## Meanings of the events -/

/-- FLASH_BOOT (R483, R484). -/
def execFlashBoot (a b : List Word) (s : State) : Host.Outcome State Fault Refusal := .next (settle (s.flashBoot a b))
/-- IMAGE_CHECK (R489). -/
def execImageCheck (s : State) : Host.Outcome State Fault Refusal := .next (settle s.imageJudge)
/-- USB_IMAGE_BULK (R302). -/
def execUsbImageBulk (bytes : List Nat) (s : State) : Host.Outcome State Fault Refusal := .next (settle (s.imageBulk bytes))
/-- USB_IMAGE_TIMEOUT (R492). -/
def execUsbImageTimeout (s : State) : Host.Outcome State Fault Refusal := .next (settle s.imageTimeout)

end Sys2Proof.Machine
end

