-- ==== Sys2Proof/Machine/Boot.lean ====
section
/-! DEFINITION. Reset, rails and the cold start (R38, R42, R47, R51 to R53, R372, R415, R452, R453, R480 to R485). -/

namespace Sys2Proof.Machine

/-! ## Entering reset -/

/-- The accounting that the AON island keeps through a core power-on reset and OFF (R52, R372). -/
def aonRegs : List Nat :=
  [A.PWR_REFUSE_FIRST, A.PWR_REFUSE_LAST, A.PWR_REFUSE_MAP, A.PWR_SILENT_MAP, A.PWR_COUNT, A.PWR_WAKE_STATUS]

/-- A hub in reset: OTP, the balls' levels and the waiting commands remain, and the AON accounting unless `aon`. -/
def State.enterReset (s : State) (aon : Bool) (b : Boot) : State :=
  let base : State := { State.reset with
    regs := [], jobs := Vector.replicate 16 Job.empty, jobSeq := 0, lastJobId := 0, domState := 6, boot := b, otp := s.otp, free := s.free, pending := s.pending, pins := { s.pins with irqLow := false, crit := false } }
  let base := { base with jack := Vector.ofFn (fun n => { Jack.init with detHigh := (vget s.jack n.val Jack.init).detHigh }) }
  base.when (!aon) (fun r => aonRegs.foldl (fun r a => r.setReg a (s.reg a)) r)

/-- The power-on reset ends (R51): of the AON island, or of the core, which starts nothing in OFF; a cold boot that waits for the
core rails goes on with them. -/
def State.powerOn (s : State) (aon : Bool) : State :=
  if aon then { s with pins := { s.pins with aon := true } }.enterReset true (.start 0)
  else
    let s := { s with pins := { s.pins with core := true } }
    match s.boot with
    | .held => if s.pins.aon then { s with boot := .start 0 } else s
    | .start _ => s
    | .up => s.when (decide (s.domState ≠ 5)) (·.enterReset false (.start 0))

/-- RESET_N, SYS_SW_RESET or the internal reset of a transition (R42, R473, R475): a hub that a power-on reset holds stays held. -/
def State.hardReset (s : State) (cause : Nat) : State :=
  s.enterReset true (match s.boot with | .held => .held | _ => .start cause)

/-- A required rail falls (R52): AONVDD anywhere, another one outside OFF. -/
def State.railLoss (s : State) (aon : Bool) : State :=
  let s := { s with pins := { s.pins with aon := s.pins.aon && !aon, core := s.pins.core && aon } }
  s.when (aon || (decide (s.domState ≠ 5) && decide (s.boot = .up))) (·.enterReset aon .held)

/-- A cold boot out of OFF (R42, R373); it waits for the core rails (R51). -/
def State.wakeCold (s : State) : State := s.enterReset false (.start 2)

/-- WAKE_N low (R373, R42): a wake source; in OFF a cold boot. `held` says that the ball stays low, an active source until a later
command ends it; while it is low it cannot go low again. -/
def State.wakeBall (s : State) (held : Bool) : State :=
  let before := s.pins.wakeLow
  let s := { s with pins := { s.pins with wakeLow := held } }
  if before then s else if s.domState = 5 then s.wakeCold else s.wakeFire 1

/-! ## The spare log (R452, R453) -/

/-- Replay one record on the fresh maps. -/
def State.replay (s : State) (kind a b c : Nat) : State :=
  match kind with
  | 1 => s.when (decide (a < 16) && decide (b < 18)) (fun s =>
      (s.set (F.AUX_SLICE_MAP_INPUT (a / 4) (a % 4)) b).set (F.AIN_SLICE_SLICE a) b)
  | 2 => s.when (decide (a < 8) && decide (b < 10)) (fun s =>
      (if a < 4 then s.set (F.JCK_DSL_MAP0_CH a) b else s.set (F.JCK_DSL_MAP1_CH (a - 4)) b).set (F.AOUT_SLICE_SLICE a) b)
  | 3 =>
    if b = 0 then s.when (decide (a < 18)) (fun s =>
      if a < 10 then s.set (F.AUX_SLICE_STATE0_ASL a) c else s.set (F.AUX_SLICE_STATE1_ASL (a - 10)) c)
    else s.when (decide (a < 10)) (·.set (F.JCK_DSL_STATE_DSL a) c)
  | 4 => s.when (decide (b < 3)) (·.set (if a = 0 then F.CLK_ROLE_FAM_A_PLL else F.CLK_ROLE_FAM_B_PLL) b)
  | 5 => s.when (decide (a < 3)) (·.set (F.CLK_ROLE_OF a) (if c = 5 then 2 else c))
  | 6 => s.when (decide (a < 34)) (fun s =>
      let s := s.modMem (fun m => { m with rows := (a * 128 + c, b) :: m.rows.filter (fun e => decide (e.1 ≠ a * 128 + c)) })
      s.set (F.MEM_BANK_STATUS_ROWS_USED a) (max (b + 1) (s.get (F.MEM_BANK_STATUS_ROWS_USED a))))
  | 7 => s.when (decide (a < 32) && (decide (b = 32) || decide (b = 33))) (·.spareServe a (b - 32))
  | 8 => (s.set F.MNT_MAC_SPARE c).set F.MNT_MAC_UNIT (if c = 1 then a else 0)
  | _ => s.when (decide (a = 32) || decide (a = 33)) (·.set (F.MEM_BANK_STATUS_RETIRED a) c)

/-- Is a spare-log record sound: a defined KIND and a good CHECK? -/
def logSound (w : Nat) : Bool :=
  decide (1 ≤ w / 2 ^ 28) && decide (w / 2 ^ 28 ≤ 9) && decide (crc8 [w / 2 ^ 24, w / 65536 % 256, w / 256 % 256] = w % 256)

/-- Records used: up to the last word that is programmed. -/
def State.logUsed (s : State) : Nat :=
  (List.range 256).foldl (fun n k => if s.otpWord (512 + k) = 0 then n else k + 1) 0

/-- The states of slices after the replay (R453): a slice in the map is in service; another keeps RETIRED or TEST, else it is UNCAL
(ADC) or SPARE (DAC). -/
def State.sliceStates (s : State) : State :=
  let s := s.forAll 18 (fun s a =>
    let v := if (List.range 16).any (fun n => decide (s.ainSlice n = a)) then 1
      else if s.asl a = 4 ∨ s.asl a = 3 then s.asl a else 5
    if a < 10 then s.set (F.AUX_SLICE_STATE0_ASL a) v else s.set (F.AUX_SLICE_STATE1_ASL (a - 10)) v)
  s.forAll 10 (fun s d =>
    let v := if (List.range 8).any (fun c => decide (s.aoutSlice c = d)) then 1
      else if s.dsl d = 4 ∨ s.dsl d = 3 then s.dsl d else 0
    s.set (F.JCK_DSL_STATE_DSL d) v)

/-- Replay the whole log in order. -/
def State.replayLog (s : State) : State :=
  let used := s.logUsed
  let s := s.forAll used (fun s k =>
    let w := (s.otpWord (512 + k)).toNat
    if logSound w then s.replay (w / 2 ^ 28) (w / 2 ^ 22 % 64) (w / 65536 % 64) (w / 256 % 256) else s.inc F.MNT_LOG_BAD)
  let s := s.set F.MNT_LOG_USED used
  (s.when (decide (256 ≤ used)) (fun s => (s.set F.MNT_LOG_FULL 1).fault 6 1)).sliceStates

/-! ## The cold start (R480) -/

/-- B1: straps, address, cause. -/
def State.senseStraps (s : State) (addr boot : Nat) (io3 : Bool) (cause : Nat) : State :=
  let s := ((s.set F.SYS_STRAP_ADDR_LVL addr).set F.SYS_STRAP_BOOT_LVL boot).setB F.SYS_STRAP_IOVDD_3V3 io3
  (s.set F.SMB_STATE_ADDR (0x5A + addr)).setReg A.SYS_RESET_CAUSE (BitVec.ofNat 32 (2 ^ cause))

/-- B2: identity words and the spare log. A blank identity region loads zeros. -/
def State.loadOtp (s : State) (ok : Bool) : State :=
  let ids := (List.range 16).map (fun k => s.otpWord (0x100 + k))
  let (id, pmb) := if ids.all (· == 0) then ((0 : Word), 0) else Config.identity ids
  let s := (s.setReg A.USB_ID id).setReg A.PMB_CFG (setBits (s.reg A.PMB_CFG) 0 8 pmb)
  let s := { s with pmb := { s.pmb with linkDue := s.on F.PMB_CFG_EN } }
  let s := s.replayLog
  s.when (!ok) (fun s => { s.set F.LCY_OTP_STATUS_RESULT 3 with lcy := { s.lcy with unverified := true } })

/-- B3 to B5: crystal, FLL, the full wipe, the PLL of the 48 kHz family, Bellows; the sense island starts and PGOOD is read. -/
def State.startClocks (s : State) (cause : Nat) (pgood : Bool) : State :=
  let s := { s with domState := 0 }
  let s := ((s.set F.CLK_FLL_STATUS_LOCKED 1).set F.MEM_WIPE_STATUS_WIPES 1).set F.MEM_WIPE_STATUS_WIPE_CAUSE (if cause = 3 then 2 else 1)
  let x := s.famPll 0
  let s := (((s.irq 0x04 8).pllState x 2).set (F.CLK_PLL_STATUS_LOCK_TIME x) (s.lockUs x)).blwCold
  let s := { s with free := s.free + 1 }
  (s.snsRestart).setB F.PMB_STATUS_PGOOD_NOW pgood

/-- The cold start (R480), from t = 0 to the BOOT_SEL action, once the required rails are good (R51). -/
def State.coldStart (s : State) (addr boot : Nat) (io3 otpOk freeze privacy hpvdd usbvdd pvdd pgood : Bool) : State :=
  if !s.pins.aon || !s.pins.core then s
  else match s.boot with
  | .start cause =>
    let s := { s with boot := .up, freezeArmed := !freeze }
    let s := { s with
      pins := { s.pins with freeze := freeze, privacy := privacy, hpvdd := hpvdd, usbvdd := usbvdd, pvdd := pvdd } }
    let s := ((s.senseStraps addr boot io3 cause).loadOtp otpOk).startClocks cause pgood
    let s := (s.when privacy (·.privacySet true)).bootTests
    if boot = 0 ∨ !otpOk then s.hostBoot else s.modLdr (fun l => { l with st := .flash })
  | _ => s

/-! ## Rails and VHOLD -/

/-- HPVDD (0), USBVDD (1) or PVDD (2) becomes good (R51): the blocks that wait for it go on. -/
def State.optionalRail (s : State) (rail : Nat) : State :=
  match rail with
  | 0 => ({ s with pins := { s.pins with hpvdd := true } }).when (s.clocked .aout) (fun s =>
      (s.forAll 4 (fun s c => s.when (decide ((s.aoutAt c).phase = AoutPhase.waitPump)) (·.aoutGo c))).pumpForced)
  | 1 => ({ s with pins := { s.pins with usbvdd := true } }).when (decide (s.domState ≤ 1)) State.usbPower
  | _ => ({ s with pins := { s.pins with pvdd := true } }).when (decide (s.domState = 0)) (fun s => s.forAll 4 (fun s n => s.spkDrive n))

/-- VHOLD exceeds 3.8 V (R53). -/
def State.vholdReady (s : State) : State :=
  s.when (decide (s.domState ≤ 4)) (fun s =>
    let s := s.set F.JCK_HOLD_STATUS_VHOLD_OK 1
    s.when (s.clocked .aout) (fun s => (s.aoutWake .waitVhold).forAll 4 (fun s n => s.spkDrive n)))

/-! ## Meanings of the events -/

/-- POWER_ON_RESET (R51): the AON power-on reset, or the core one. -/
def execPowerOnReset (aon : Bool) (s : State) : Host.Outcome State Fault Refusal := .next (settle (s.powerOn aon))
/-- RESET_N_PULSE (R42). -/
def execResetNPulse (s : State) : Host.Outcome State Fault Refusal := .next (settle (s.hardReset 1))
/-- REQUIRED_RAIL_LOSS (R52): AVDD, IOVDD or DVDD. -/
def execRequiredRailLoss (s : State) : Host.Outcome State Fault Refusal := .next (settle (s.railLoss false))
/-- AONVDD_LOSS (R52). -/
def execAonvddLoss (s : State) : Host.Outcome State Fault Refusal := .next (settle (s.railLoss true))
/-- OPTIONAL_RAIL_GOOD (R51). -/
def execOptionalRailGood (rail : Fin 3) (s : State) : Host.Outcome State Fault Refusal := .next (settle (s.optionalRail rail))
/-- COLD_START (R480). -/
def execColdStart (addr boot : Fin 4) (io3 otpOk freeze privacy hpvdd usbvdd pvdd pgood : Bool) (s : State) :
    Host.Outcome State Fault Refusal :=
  .next (settle (s.coldStart addr boot io3 otpOk freeze privacy hpvdd usbvdd pvdd pgood))
/-- VHOLD_READY (R53). -/
def execVholdReady (s : State) : Host.Outcome State Fault Refusal := .next (settle s.vholdReady)
/-- WAKE_N_LOW (R373). -/
def execWakeNLow (held : Bool) (s : State) : Host.Outcome State Fault Refusal := .next (settle (s.wakeBall held))
/-- LCY_FUSE_DONE (R473): the fuse verified, and the internal reset follows; or it failed. -/
def execLcyFuseDone (verified : Bool) (s : State) : Host.Outcome State Fault Refusal :=
  .next (settle (s.when (s.lcy.trans && s.mgmtRuns) (fun s =>
    if verified then (s.otpProgram 0x118 (BitVec.ofNat 32 (2 ^ s.lcFuses))).hardReset 3 else s.lcyFuseFailed)))

end Sys2Proof.Machine
end

