-- ==== Sys2Proof/Machine/Frame.lean ====
section
/-! DEFINITION. ENGINE_FRAME (R17): one time of 1/Fe. Inputs are delivered, the INBOUND lanes run, then the Churn, the
OUTBOUND lanes and the sinks. -/

namespace Sys2Proof.Machine

/-! ## Step 1: endpoints deliver -/

/-- One raw sample of an analogue, PDM or sense source, in 24-bit LSB, by source ID (R13): what the source delivers for it. IDs
0x100 and 0x101 bring the sample of the spare ADC slice that shadows in group 0 and group 1 (R100), ahead of the input it serves;
IDs 0x120 to 0x12F and 0x130, 0x131 bring their newest modulator samples for the Fife taps (R84, R213), 0x12k of input k's slice in
service and 0x13g of the spare of group g, ahead of it; IDs 0x110 to 0x117 and 0x118 to 0x11B bring the state of the current-limit comparators of the outputs and the speakers (R123, R159). -/
def State.deliver (s : State) (sid : Nat) (raw : Int) : State × Option Int :=
  if sid = 0 then (s, none)
  else if sid ≤ 0x10 then
    let (s, x) := s.ainSample (sid - 1) raw
    (s, some x)
  else if sid = 0x11 then
    let (s, x) := s.beepSample raw
    (s, some x)
  else if sid ≤ 0x21 then
    let (s, x) := s.micSample (sid - 0x12) raw
    (s, some x)
  else if 0x24 ≤ sid ∧ sid ≤ 0x2B then
    let n := (sid - 0x24) / 2
    if s.clocked (.spk n) then
      let x := if s.spkSenses n then to24 (raw * 256) else 0
      (s.spkMeasure n (decide (sid % 2 = 1)) x, some x)
    else (s, none)
  else if 0x100 ≤ sid ∧ sid ≤ 0x101 then (s.spareSample (sid - 0x100) raw, none)
  else if 0x110 ≤ sid ∧ sid ≤ 0x117 then (s.aoutIlimNow (sid - 0x110) (decide (raw ≠ 0)), none)
  else if 0x120 ≤ sid ∧ sid ≤ 0x12F then (s.ainTapTake (sid - 0x120) raw, none)
  else if 0x130 ≤ sid ∧ sid ≤ 0x131 then (s.spareTap (sid - 0x130) raw, none)
  else if 0x118 ≤ sid ∧ sid ≤ 0x11B then (s.spkCbcNow (sid - 0x118) (decide (raw ≠ 0)), none)
  else (s, none)

/-- The raw samples of a frame in turn. -/
def State.deliverAll (s : State) (inputs : List (Nat × Int)) : State × List (Nat × Int) :=
  inputs.foldl (fun (p : State × List (Nat × Int)) e =>
    let (s, x) := p.1.deliver e.1 e.2
    (s, match x with | some x => p.2 ++ [(e.1, x)] | none => p.2)) (s, [])

/-- The frames in a port's receive ring, by source ID (R235). -/
def State.sapTake (s : State) (p : Nat) : State × List (Nat × Int) :=
  let xs := (s.sapAt p).rx.flatMap (fun f => (List.range 16).map (fun k => (0x4C + 16 * p + k, f.getD k 0)))
  (s.modSap p (fun a => { a with rx := [] }), xs)

/-- The samples the S/PDIF receiver has waiting (R247). -/
def State.spdTake (s : State) : State × List (Nat × Int) :=
  let xs := s.spdRx.rx.flatMap (fun f => [(0x22, f.1), (0x23, f.2)])
  (s.modRx (fun r => { r with rx := [] }), xs)

/-- Everything the serial ports and USB deliver in a frame. -/
def State.ringsTake (s : State) : State × List (Nat × Int) :=
  let (s, a) := (List.range 8).foldl (fun (q : State × List (Nat × Int)) p =>
    let (s, xs) := q.1.sapTake p
    (s, q.2 ++ xs)) (s, [])
  let (s, b) := s.spdTake
  let (s, c) := s.usbFrame
  (s, a ++ b ++ c)

/-- The samples of a source in this frame, oldest first; a bus gives its value of the previous frame (R17 step 2). -/
def State.laneInput (s : State) (got : List (Nat × Int)) (sid : Nat) : List Int :=
  if isBus sid then [vget s.bus (sid - 0xCC) 0] else (got.filter (fun e => decide (e.1 = sid))).map (·.2)

/-- The newest sample of a source in this frame. -/
def newest (got : List (Nat × Int)) (sid : Nat) : Int := ((got.filter (fun e => decide (e.1 = sid))).map (·.2)).getLastD 0

/-! ## Steps 2 to 4: lanes and Churn -/

/-- The lanes whose output of this frame a residue error spoils (R460). -/
def spoiled (residues : List (Nat × Nat × Bool)) (n : Nat) : Bool := residues.any (fun r => decide (r.2.1 = n) && !r.2.2)

/-- A spoiled lane gives its previous output again (R460). -/
def State.laneKeep (s : State) (old : Vector Lane 48) (n : Nat) : State :=
  let o := vget old n Lane.init
  s.modLane n (fun l => { l with out := o.out, outs := o.outs })

/-- Residue errors of the frame as the maintenance controller sees them (R460). -/
def State.residuesMet (s : State) (residues : List (Nat × Nat × Bool)) : State :=
  residues.foldl (fun s r => s.macResidue r.1 r.2.2) s

/-- Steps 2, 3 and 4 of R17. -/
def State.engineCompute (s : State) (got : List (Nat × Int)) (residues : List (Nat × Nat × Bool)) : State :=
  let old := s.lanes
  let s := s.forAll 48 (fun s n => s.laneInPre n (s.laneInput got (s.laneAt n).sid))
  let s := s.forAll 48 (fun s n => (s.laneInPost n).when (spoiled residues n && !(s.laneAt n).dir) (·.laneKeep old n))
  let (s, taps) := s.tapsFrame (newest got)
  let s := s.busFrame ((List.range 48).map (fun n => (s.laneAt n).out) ++ taps)
  let s := s.forAll 48 (fun s n => s.laneOutPre n)
  s.forAll 48 (fun s n => (s.laneOutPost n).when (spoiled residues n && (s.laneAt n).dir) (·.laneKeep old n))

/-! ## Step 5: sinks -/

/-- Feed a serial port's transmit rings from its sinks (R234, R235); while the port sends no frames only the newest value stays, so that
a frame carries the value its sink took last (R236). -/
def State.sapFeed (s : State) (run : Bool) (p : Nat) : State :=
  let room := if s.sapFrames p then 16 else 1
  s.forAll 16 (fun s k =>
    let i := 46 + 16 * p + k
    let feed := if run then s.sinkFeed i else s.sinkHeld i
    s.when (run || feed.isSome) (·.modSap p (fun a =>
      let m := 2 ^ k
      let z := a.txZero / m % 2 * m
      match feed with
      | none => { a with txZero := a.txZero - z + m, tx := vmod a.tx k (fun _ => []) }
      | some xs => { a with txZero := a.txZero - z, tx := vmod a.tx k (fun q => (q ++ xs).drop ((q ++ xs).length - room)) })))

/-- Feed the S/PDIF transmitter from its two sinks (R250); a transmitter that does not send them keeps the newest value, and none in
passthrough (R252, R253). -/
def State.spdFeed (s : State) (run : Bool) : State :=
  let a := if run then s.sinkFeed 44 else s.sinkHeld 44
  let b := if run then s.sinkFeed 45 else s.sinkHeld 45
  let room := match s.spdTx.phase with | .pcm | .rampReconf => 16 | .enter | .exit | .passthrough => 0 | _ => 1
  let keep (q xs : List Int) : List Int := (q ++ xs).drop ((q ++ xs).length - room)
  s.when (run || a.isSome || b.isSome) (·.modTx (fun t => { t with
    txA := keep t.txA (a.getD []), txB := keep t.txB (b.getD [])
    zero := (if a.isSome then 0 else 1) + (if b.isSome then 0 else 2) }))

/-- The samples a converter output takes in a frame, oldest first; a zero where the table gives none (R208). -/
def State.sinkNow (s : State) (run : Bool) (i : Nat) : List Int :=
  (if run then s.sinkFeed i else s.sinkHeld i).getD [0]

/-- The converter outputs one frame on: AOUT, then SPK; `run` says whether the engine gave them a value. -/
def State.outputsFrame (s : State) (run : Bool) : State :=
  let s := s.fifSync.forAll 8 (fun s c => s.when (s.clocked .aout) (fun s => s.aoutFrame c (s.sinkNow run c) (s.fifSum (s.fifTo c)) (s.fifReaches (s.fifTo c))))
  let s := s.forAll 2 (fun s k => s.when (s.clocked .aout) (·.aoutBridge k))
  (s.forAll 4 (fun s n => s.spkFrame n (if run then s.sinkFeed (8 + n) else s.sinkHeld (8 + n)))).collapseSeen

/-- Step 5 of R17. -/
def State.sinksTake (s : State) : State :=
  let s := s.sinksFrame
  let s := s.outputsFrame true
  let s := s.forAll 32 (fun s k => s.usbSink k ((s.sinkFeed (12 + k)).getD []))
  (s.forAll 8 (fun s p => s.sapFeed true p)).spdFeed true

/-- A time of 1/Fe at the sinks without an engine frame: the converters of OUTBOUND lanes alone deliver (R175). -/
def State.sinksHeld (s : State) : State :=
  let s := s.forAll 32 (fun s k => match s.sinkHeld (12 + k) with | some xs => s.usbSink k xs | none => s)
  (s.forAll 8 (fun s p => s.sapFeed false p)).spdFeed false

/-! ## The frame -/

/-- The words of rings, converter buffers and delay lines are written again as frames go on (R408). -/
def State.samplesFresh (s : State) : State :=
  let keep := s.poison.filter (fun e => !(decide (e.2.kind = .laneSample) || decide (e.2.kind = .ringSample)))
  { s with poison := keep }

/-- What follows time alone in a frame: a takeover's RAMP, mains tracking, PDM groups. -/
def State.frameTimes (s : State) : State :=
  let s := s.tkoFrame.beepTick.modMains (fun m => { m with pos := min m.len (m.pos + 1) })
  (s.pdmTick (28224000 / feHz s.fe) (s.frames 1000)).lstEval

/-- One time of 1/Fe. While the engine is stopped its sources and converter outputs still move; they take no engine value. -/
def State.engineFrame (s : State) (inputs : List (Nat × Int)) (residues : List (Nat × Nat × Bool)) : State :=
  let s := { s with free := s.free + 1 }
  let s := (s.opFlush true).frameTimes
  let (s, a) := s.deliverAll inputs
  let (s, b) := s.ringsTake
  if s.engRuns then
    let s := s.set F.CHN_FRAME_NOW_FRAME ((s.get F.CHN_FRAME_NOW_FRAME + 1) % 2 ^ 32)
    ((s.engineCompute (a ++ b) residues).sinksTake.macFrame.samplesFresh).residuesMet residues
  else ((s.forAll 48 (fun s n => s.laneOutStopped n)).outputsFrame false).sinksHeld

/-- ENGINE_FRAME (R17): `inputs` the raw samples of analogue, PDM and sense sources by source ID, in 24-bit LSB; `residues`
the residue errors of the frame: MAC unit, lane, whether the spare shows it. -/
def execEngineFrame (inputs : List (Nat × Int)) (residues : List (Nat × Nat × Bool)) (s : State) :
    Host.Outcome State Fault Refusal :=
  .next (settle (s.event .engine true (·.engineFrame inputs residues)))

end Sys2Proof.Machine
end

