-- ==== Sys2Proof/Machine/Views.lean ====
section
/-! DEFINITION. Registers that the hub computes from its blocks when they are read: the common header (R58 to R64 and each
block chapter's header rules), interrupt summaries (R67), power domains, selected entries and inventories. -/

namespace Sys2Proof.Machine

/-- A word from a number. -/
def word (n : Nat) : Word := BitVec.ofNat 32 n

/-- 1 for true. -/
def b2n (b : Bool) : Nat := if b then 1 else 0

/-- How many of a list hold. -/
def countTrue (l : List Bool) : Nat := (l.filter id).length

/-! ## Islands of the pages -/

/-- The island a page's block registers stand in (R56, R363). DESIGN CHOICE (log 143): the MEM page follows PD_MGMT, since its
registers answer in SLEEP; the spec names no domain of its own for the memory island's PG_PWR and READY. -/
def islandOf (page : Nat) : Island :=
  if page ≤ 0x09 then .mgmt else if page = 0x0A then .usb else if page = 0x0B then .sense
  else if page = 0x0C ∨ page = 0x29 then .listen else if page = 0x0D ∨ page = 0x0E ∨ (0x19 ≤ page ∧ page ≤ 0x1C) then .aout
  else if page = 0x0F ∨ 0x30 ≤ page then .engine else if page ≤ 0x18 then .ain
  else if page ≤ 0x20 then .spk (page - 0x1D) else .ports

/-- Do running consumers of an island use a family (R63)? -/
def State.islandUses (s : State) (i : Island) (fam : Nat) : Bool :=
  match i with
  | .ain =>
    (List.range 16).any (fun n => decide ((s.ainAt n).phase ≠ .off) && decide (rateFamily (s.ainAt n).rate = fam))
      || (decide (s.beep.phase ≠ .off) && decide (rateFamily s.beep.rate = fam))
  | .aout => (List.range 8).any (fun c => decide ((s.aoutAt c).phase ≠ .off) && decide (rateFamily (s.aoutAt c).rate = fam))
  | .ports =>
    (List.range 8).any (fun p => decide ((s.sapAt p).phase ≠ .off) && (s.sapAt p).master
        && decide (rateFamily (fmtRate (s.sapAt p).fmt) = fam))
      || (decide (s.spdTx.phase ≠ .off) && decide (rateFamily s.spdTx.rate = fam))
      || (List.range 4).any (fun p => s.mclkRuns p && decide (s.get (F.SAP_MCLK_SRC p) = fam + 1))
  | _ => false

/-- Does a port run on an external bit clock (R63)? -/
def State.extClock (s : State) : Bool := (List.range 8).any (fun p => decide ((s.sapAt p).phase ≠ .off) && !(s.sapAt p).master)

/-- Is an island idle, so that GATE_EN = 1 gates its clock (R63)? DESIGN CHOICE (log 144): no consumer of it is out of OFF. The
islands that run by themselves are never idle. -/
def State.islandIdle (s : State) (i : Island) : Bool :=
  match i with
  | .ain | .aout => !s.islandUses i 0 && !s.islandUses i 1
  | .ports => !s.islandUses i 0 && !s.islandUses i 1 && !s.extClock
      && !s.on (F.PG_ENABLE 0x2A)
  | .spk n => decide ((s.spkAt n).phase = .off)
  | .listen => !s.lstEnabled && decide ((s.pdmAt 0).phase = .off) && decide ((s.pdmAt 1).phase = .off)
  | _ => false

/-- PG_CLK.SOURCE of a page and whether its clock runs (R25, R63). -/
def State.clockOf (s : State) (page : Nat) : Nat × Bool :=
  let pll (fam : Nat) : Nat × Bool := (3 + s.islandPll (islandOf page) fam, s.pllLocked (s.islandPll (islandOf page) fam))
  let run (i : Island) (c : Nat × Bool) : Nat × Bool :=
    (c.1, c.2 && s.clocked i && !(s.on (F.PG_GATE_EN page) && s.islandIdle i))
  let i := islandOf page
  if page = 0x04 then
    if s.domState ≤ 1 ∧ s.famUp (feFamily s.fe) then ((pll (feFamily s.fe)).1, !s.frozen)
    else (2, s.on F.CLK_FLL_STATUS_LOCKED && decide (s.domState ≤ 2) && !s.frozen)
  else match i with
  | .mgmt => run .mgmt (if s.on F.CLK_XTAL_STATUS_OK then (1, true) else (0, true))
  | .usb => run .usb (6, s.usb.phy)
  | .listen => run .listen (2, s.on F.CLK_FLL_STATUS_LOCKED)
  | .engine => run .engine ((pll (feFamily s.fe)).1, s.famUp (feFamily s.fe) && !s.engStop)
  | .ain | .aout | .ports =>
    run i (if s.islandUses i 0 then pll 0 else if s.islandUses i 1 then pll 1
      else if decide (i = .ports) && s.extClock then (7, true) else pll 0)
  | _ => run i (pll 0)

/-! ## Spare capacity (R63, R195, R285, R426, R479) -/

/-- Does a job of this type for a target of the list run? -/
def State.jobRuns (s : State) (type : Nat) (targets : List Nat) : Bool := targets.any (fun t => (s.jobSlot type t).isSome)

/-- PG_SPARE of a page: spare units in use, a substitution in progress. -/
def State.spareOf (s : State) (page : Nat) : Nat × Bool :=
  if 0x10 ≤ page ∧ page ≤ 0x17 then
    let ns := [2 * (page - 0x10), 2 * (page - 0x10) + 1]
    (countTrue (ns.map (fun n => decide (16 ≤ s.ainSlice n))), s.jobRuns 0 ns)
  else if 0x19 ≤ page ∧ page ≤ 0x1C then
    let cs := [2 * (page - 0x19), 2 * (page - 0x19) + 1]
    (countTrue (cs.map (fun c => decide (8 ≤ s.aoutSlice c))), s.jobRuns 1 cs)
  else if page = 0x03 then (countTrue [decide (s.famPll 0 ≠ 0), decide (s.famPll 1 ≠ 1)], s.tkoOn)
  else if page = 0x04 then (countTrue [s.on F.MEM_SPARE_STATUS_MBS0_USED, s.on F.MEM_SPARE_STATUS_MBS1_USED], s.mem.copy.isSome)
  else if page = 0x06 ∨ 0x30 ≤ page then
    (b2n (decide (s.get F.MNT_MAC_SPARE = 1)), decide (0x30 ≤ page) && s.mac.any (fun m => !m.check))
  else (0, false)

/-- PG_SPARE.SUBST_ACTIVE: on the MEM page a spare row counts too (R426). -/
def State.spareActive (s : State) (page : Nat) : Bool :=
  decide (0 < (s.spareOf page).1)
    || (decide (page = 0x04) && (List.range 34).any (fun k => s.on (F.MEM_BANK_STATUS_ROWS_USED k)))

/-! ## Bellows link (R63, R96, R118, R162, R191, R222, R337, R479) -/

/-- PG_BUDGET of a page: its task, whether it is valid, the stop granted. -/
def State.budgetOf (s : State) (page : Nat) : Option (Nat × Bool × Nat) :=
  if page = 0x0F then some (0, true, 0)
  else if 0x30 ≤ page then some (0, s.on (F.PG_ENABLE page), vget s.grants 0 0)
  else if page = 0x0C then
    some (1, s.lstEnabled, if s.lst.sleep then s.get F.LST_CFG_SLEEP_STOP else vget s.grants 1 0)
  else if 0x10 ≤ page ∧ page ≤ 0x17 then some (page - 0x0E, true, vget s.grants (page - 0x0E) 0)
  else if 0x19 ≤ page ∧ page ≤ 0x1C then some (page - 0x0F, true, vget s.grants (page - 0x0F) 0)
  else if 0x1D ≤ page ∧ page ≤ 0x20 then some (page - 0x0F, s.on (F.SPK_CTRL_EN (page - 0x1D)), 0)
  else if page = 0x06 then some (18, true, 0)
  else none

/-! ## PG_STATUS (R61) -/

/-- PG_STATUS.BLOCK of a page as its chapter defines it. -/
def State.blockBits (s : State) (page : Nat) : Nat :=
  let st (f : Fld) (v : Nat) : Bool := decide (s.get f = v)
  if page = 0x01 then bitsOf [s.on F.PWR_STATE_BUSY, s.on F.PWR_WAKE_STATUS_DEGRADED]
  else if page = 0x02 then
    bitsOf [s.on F.BLW_STATUS_SAG, s.on F.BLW_STATUS_COLD, s.on F.BLW_STATUS_ZONE_LIMIT, s.on F.BLW_STATUS_RAISE_WAIT]
  else if page = 0x03 then
    bitsOf [s.famUp 0, s.famUp 1, s.sparePll.isSome, s.tkoOn, s.on F.CLK_MAINS_STATUS_VALID]
  else if page = 0x04 then bitsOf [s.wiping, s.mem.copy.isSome, s.on F.MEM_RET_LOST_LOST]
  else if page = 0x05 then bitsOf [s.frozen]
  else if page = 0x06 then
    bitsOf [s.jobs.toList.any (fun j => decide (j.st = .running)), s.jobs.toList.any (fun j => decide (j.st = .deferred)),
      (List.range 14).any (fun i => s.on (F.MNT_AGE_WARN i))]
  else if page = 0x07 then s.lcState
  else if page = 0x08 then
    bitsOf [s.on F.SMB_STATE_BUSY, s.on F.SMB_HN_STATUS_PENDING, s.on F.SMB_REC_SMB_STUCK || s.on F.SMB_REC_PMB_STUCK]
  else if page = 0x09 then bitsOf [s.on F.PMB_STATUS_BUSY, s.on F.PMB_STATUS_PGOOD_NOW, s.on F.PMB_STATUS_BACKOFF]
  else if page = 0x0A then
    bitsOf [s.on F.USB_STATE_CONNECTED, s.on F.USB_STATE_CONFIGURED, s.on F.USB_STATE_SUSPENDED, s.on F.USB_STATE_HS,
      s.on (F.USB_AS_STATUS_ACTIVE 0) || s.on (F.USB_AS_STATUS_ACTIVE 1), s.on (F.USB_AS_STATUS_ACTIVE 2) || s.on (F.USB_AS_STATUS_ACTIVE 3)]
  else if page = 0x0B then
    bitsOf [st F.SNS_SEQ_STATUS_STATE 2, s.on F.SNS_RESULT_READY, s.on F.SNS_STATUS_INT_ON, s.on F.SNS_DIAG_STATUS_BUSY]
  else if page = 0x0C then
    bitsOf [st F.LST_STATUS_STATE 3, s.on F.LST_STATUS_VOICE, s.on F.LST_STATUS_ARMED, s.lstPiccolo]
  else if page = 0x0D then bitsOf [st (F.JCK_STATUS_STATE 0) 4, st (F.JCK_STATUS_STATE 1) 4, s.on F.JCK_CP_STATUS_READY]
  else if page = 0x0E then bitsOf [s.fifSync.on F.FIF_STATUS_ACTIVE, s.fifSync.on F.FIF_STATUS_RAMPING]
  else if page = 0x0F then
    bitsOf [s.on F.CHN_STATUS_BUSY, s.on F.CHN_STATUS_RAMPING, s.on F.CHN_BUS_SAT0_SAT || s.on F.CHN_BUS_SAT1_SAT,
      s.on F.CHN_TAP_MISMATCH_MISMATCH || (List.range 6).any (fun k => s.on (F.CHN_SINK_MISMATCH_MISMATCH k))]
  else if 0x10 ≤ page ∧ page ≤ 0x17 then
    let n := 2 * (page - 0x10)
    bitsOf [st (F.AIN_STATUS_STATE n) 4, st (F.AIN_STATUS_STATE (n + 1)) 4, s.on (F.AIN_STATUS_OVL_NOW n),
      s.on (F.AIN_STATUS_OVL_NOW (n + 1))]
  else if 0x19 ≤ page ∧ page ≤ 0x1C then
    let c := 2 * (page - 0x19)
    bitsOf [st (F.AOUT_STATUS_STATE c) 3, st (F.AOUT_STATUS_STATE (c + 1)) 3]
  else if 0x1D ≤ page ∧ page ≤ 0x20 then
    let n := page - 0x1D
    bitsOf [st (F.SPK_STATUS_STATE n) 3, s.on (F.SPK_PROT_GR n), s.on (F.SPK_GUARD_STATUS_SEEDED n)]
  else if 0x21 ≤ page ∧ page ≤ 0x28 then
    let p := page - 0x21
    bitsOf [st (F.SAP_STATUS_STATE p) 3, decide ((s.sapAt p).phase ≠ .off) && (s.sapAt p).master, s.on (F.SAP_STATUS_MASK_PENDING p)]
  else if page = 0x29 then
    bitsOf [decide (pdmState (s.pdmAt 0).phase = 4), decide (pdmState (s.pdmAt 1).phase = 4), s.on F.PDM_MIC_STATUS_ABSENT]
  else if page = 0x2A then
    bitsOf [st F.SPD_RX_STATUS_TRK_STATE 2, s.on F.SPD_RX_STATUS_NONPCM, s.spdTx.sent.isSome, st F.SPD_TX_STATUS_STATE 3]
  else if 0x30 ≤ page then
    let n := page - 0x30
    bitsOf [st (F.LANE_STATUS_STATE n) 3, s.on (F.LANE_STATUS_BYPASS n), st (F.LANE_STATUS_RC_STATE n) 2, s.on (F.LANE_DYN_STATUS_GR n)]
  else 0

/-- PG_STATUS.BUSY of a page (R61): one of its sequences runs. -/
def State.pageBusy (s : State) (page : Nat) : Bool :=
  let ain (n : Nat) : Bool :=
    let a := s.ainAt n
    match a.phase with
    | .off => false
    | .running => a.muteFade.moving (!s.on (F.AIN_CTRL_MUTE n)) || a.jackFade.moving (!s.ainHeld n)
        || (!(s.privacy && s.ainMic n) && a.privFade.moving true)
    | _ => true
  let aout (c : Nat) : Bool :=
    let a := s.aoutAt c
    match a.phase with | .running => !a.pop.done || !a.vol.done | .off | .quiesced | .fault => false | _ => true
  if page = 0x01 then s.on F.PWR_STATE_BUSY
  else if page = 0x03 then s.tkoOn || decide (s.feChange ≠ .none) || (List.range 3).any (fun x => decide (s.get (F.CLK_PLL_STATUS_STATE x) = 1))
  else if page = 0x04 then s.wiping || s.mem.copy.isSome
  else if page = 0x05 then decide (s.get F.DBG_FREEZE_STATUS_STATE = 1)
  else if page = 0x06 then s.jobs.toList.any (fun j => decide (j.st = .running))
  else if page = 0x07 then s.on F.LCY_STATUS_BUSY || s.on F.LCY_OTP_STATUS_BUSY
  else if page = 0x08 then s.on F.SMB_REC_SMB_RECOVERING || s.on F.SMB_REC_PMB_RECOVERING || s.on F.SMB_HN_STATUS_SENDING
  else if page = 0x09 then s.on F.PMB_STATUS_BUSY
  else if page = 0x0A then s.usb.reconnect
  else if page = 0x0B then decide (s.get F.SNS_SEQ_STATUS_STATE = 2) || s.on F.SNS_DIAG_STATUS_BUSY || s.sns.adcTest.isSome || s.sns.dacTest.isSome
  else if page = 0x0C then decide (s.get F.LST_STATUS_STATE = 2) || decide (s.get F.LST_STATUS_STATE = 4)
  else if page = 0x0D then (vget s.dacSubst 0 none).isSome || (vget s.dacSubst 1 none).isSome ||
    [0, 1].any (fun n => decide (1 ≤ s.get (F.JCK_STATUS_STATE n)) && decide (s.get (F.JCK_STATUS_STATE n) ≤ 3)
      || s.on (F.JCK_IMP_CTRL_BUSY n) || (match (s.jackAt n).bias with | .rampUp | .rampLevel | .rampDown => true | _ => false))
  else if page = 0x0E then s.fifSync.on F.FIF_STATUS_RAMPING
  else if page = 0x0F then s.on F.CHN_STATUS_BUSY || s.on F.CHN_STATUS_RAMPING || s.on F.CHN_STATUS_SINK_XFADE
  else if 0x10 ≤ page ∧ page ≤ 0x17 then ain (2 * (page - 0x10)) || ain (2 * (page - 0x10) + 1)
  else if page = 0x18 then (vget s.adcSubst 0 none).isSome || (vget s.adcSubst 1 none).isSome ||
    (match s.beep.phase with | .off => false | .running => s.beep.muteFade.moving (!s.on F.AUX_BEEP_CTRL_MUTE) | _ => true) ||
    s.bias.toList.any (fun b => match b with | .rampUp | .rampLevel | .rampDown => true | _ => false)
  else if 0x19 ≤ page ∧ page ≤ 0x1C then aout (2 * (page - 0x19)) || aout (2 * (page - 0x19) + 1)
  else if 0x1D ≤ page ∧ page ≤ 0x20 then
    let a := s.spkAt (page - 0x1D)
    match a.phase with | .running => !a.pop.done || !a.vol.done | .off | .quiesced | .fault => false | _ => true
  else if 0x21 ≤ page ∧ page ≤ 0x28 then
    match (s.sapAt (page - 0x21)).phase with | .off | .running | .quiesced | .fault => false | _ => true
  else if page = 0x29 then
    [0, 1].any (fun g => match (s.pdmAt g).phase with | .off | .running | .quiesced => false | _ => true)
  else if page = 0x2A then match s.spdTx.phase with | .rampReconf | .enter | .exit => true | _ => false
  else if 0x30 ≤ page then
    let l := s.laneAt (page - 0x30)
    (match l.phase with | .off | .quiesced => false | .running => !l.mute.done || !l.trim.done | _ => true) || decide (l.ev ≠ .none) || decide (l.commit ≠ .idle)
  else false

/-- Is the block of a page out of service (R61): a speaker driver or port that a fault has stopped? -/
def State.outOfService (s : State) (page : Nat) : Bool :=
  if 0x1D ≤ page ∧ page ≤ 0x20 then decide ((s.spkAt (page - 0x1D)).phase = .fault)
  else decide (0x21 ≤ page) && decide (page ≤ 0x28) && decide ((s.sapAt (page - 0x21)).phase = .fault)


/-! ## Header words -/

/-- Is an island on, or gated, in a power state (R363)? -/
def State.islandIn (s : State) (i : Island) (state : Nat) : Bool :=
  match i with
  | .aon => true
  | .mgmt => decide (state ≤ 2)
  | .listen => decide (state ≤ 1) || (decide (state = 2) && s.lstEnabled)
  | _ => decide (state ≤ 1)

/-- PG_PWR.RETAINED (R63): R363 marks the domain "ret" in the state; PD_LISTEN in SLEEP is on or off, never retained. -/
def State.retained (s : State) (i : Island) : Bool :=
  !s.islandOn i && decide (s.domState ≤ 4) && !(decide (i = .listen) && decide (s.domState = 2))

/-- PG_PWR.ISOLATED (R63, R368): from the clamps of S4, until an unwind has released them, or while the domain is not on. -/
def State.isolated (s : State) (i : Island) : Bool :=
  !s.islandOn i || ((decide (s.pwrStep = 5) || decide (s.pwrStep = 6) || (decide (s.pwrStep = 7) && decide (4 ≤ s.pwr.ap)))
    && !s.islandIn i s.pwrTarget)

/-- Does the clock of a page's island run, whether or not GATE_EN gates it while idle (R61, R63)? -/
def State.pageClock (s : State) (page : Nat) : Bool :=
  match islandOf page with
  | .mgmt => s.clocked .mgmt
  | .usb => s.clocked .usb && s.usb.phy
  | .listen => s.clocked .listen && s.on F.CLK_FLL_STATUS_LOCKED
  | .engine => s.clocked .engine && !s.engStop && s.famUp (feFamily s.fe)
  | i => s.clocked i && ((s.islandUses i 0 && s.famUp 0) || (s.islandUses i 1 && s.famUp 1) || (decide (i = .ports) && s.extClock)
      || (!s.islandUses i 0 && !s.islandUses i 1 && s.famUp 0))

/-- PG_STATUS (R61). READY: powered, clocked, enabled and in service. The status lines of an isolated island read 0 (R368). -/
def State.pgStatus (s : State) (page : Nat) : Word :=
  let fault := s.on (F.PG_FAULT page)
  let out := !s.isolated (islandOf page)
  let ready := s.pageClock page && s.on (F.PG_ENABLE page) && !s.outOfService page
  word (bitsOf [out && ready, out && s.pageBusy page, fault, s.spareActive page] + (if out then 65536 * s.blockBits page else 0))

/-- A computed word of the common header (R59, R61, R63, R64); the others are held. -/
def State.headerView (s : State) (r : PageRow) (page off : Nat) : Word :=
  let a := page * 0x400 + off
  match off with
  | 0x000 => word (r.code * 2 ^ 24 + (page - r.first) * 2 ^ 16 + 0x1000 + r.regs)
  | 0x008 => s.pgStatus page
  | 0x014 => word (s.irqOut page)
  | 0x020 => let c := s.clockOf page; setBits (setBits (s.reg a) 8 4 c.1) 4 1 (b2n c.2)
  | 0x024 =>
    let i := islandOf page
    word (bitsOf [s.islandOn i, s.isolated i, s.retained i])
  | 0x028 => match s.budgetOf page with
    | some (t, v, stop) => word (stop * 256 + b2n v * 128 + t)
    | none => 0
  | 0x02C =>
    let p := s.spareOf page
    setBits (setBits (setBits (s.reg a) 8 4 p.1) 1 1 (b2n p.2)) 0 1 (b2n (s.spareActive page))
  | _ => s.reg a

/-! ## Block words -/

/-- Powered domains (R363, R382). -/
def State.domainsOn (s : State) : Nat :=
  bitsOf ([Island.aon, .mgmt, .listen, .engine, .usb, .ain, .aout, .spk 0, .spk 1, .spk 2, .spk 3, .sense, .ports].map s.islandOn)

/-- Has a spare bank taken a bank's place (R414)? Its source is powered off then. -/
def State.migrated (s : State) (k : Nat) : Bool :=
  (s.on F.MEM_SPARE_STATUS_MBS0_USED && decide (s.get F.MEM_SPARE_STATUS_MBS0_FOR = k)) ||
    (s.on F.MEM_SPARE_STATUS_MBS1_USED && decide (s.get F.MEM_SPARE_STATUS_MBS1_FOR = k))

/-- Powered spare banks: one in service as the bank it replaces (R363), one that a migration fills (R414), one under test (R461). -/
def State.sparesOn (s : State) : Nat :=
  let works (b : Nat) : Bool := s.mem.copy.any (fun c => c.1 && decide (c.2.2 = b)) || decide (s.bankTest = some b)
  bitsOf [works 0 || (s.on F.MEM_SPARE_STATUS_MBS0_USED && s.bankOn (s.get F.MEM_SPARE_STATUS_MBS0_FOR)),
    works 1 || (s.on F.MEM_SPARE_STATUS_MBS1_USED && s.bankOn (s.get F.MEM_SPARE_STATUS_MBS1_FOR))]

/-- The repeat-tracker entry selected (R425). -/
def State.trackView (s : State) : Word :=
  match vget s.mem.track (s.get F.MEM_TRACK_SEL_INDEX) none with
  | none => 0
  | some e => word (2 ^ 31 + min 15 e.count * 2 ^ 27 + min 7 e.laps * 2 ^ 24 + e.addr % 2 ^ 20)

/-- MNT_INV (R478): the spare capacity left. -/
def State.invView (s : State) : Word :=
  let asl (g : Nat) := countTrue ((List.range 18).map (fun a => decide (aslGroup a = g) && decide (s.asl a = 0)))
  let dsl (g : Nat) := countTrue ((List.range 10).map (fun d => decide (dslGroup d = g) && decide (s.dsl d = 0)))
  let plls := countTrue ((List.range 3).map (fun x => decide (s.pllRole x = 2)))
  let banks := countTrue [s.spareBankFree 0, s.spareBankFree 1]
  let rows := (List.range 34).foldl (fun t k => t + (8 - s.get (F.MEM_BANK_STATUS_ROWS_USED k))) 0
  word (asl 0 * 2 ^ 28 + asl 1 * 2 ^ 24 + dsl 0 * 2 ^ 20 + dsl 1 * 2 ^ 16 + plls * 2 ^ 14
    + b2n (decide (s.get F.MNT_MAC_SPARE = 0)) * 2 ^ 13 + b2n (decide (s.get F.MNT_MAC_SPARE = 1)) * 2 ^ 12
    + banks * 2 ^ 10 + rows % 512)

/-- MNT_JOB.STATE codes (R478). -/
def jobState : JobState → Nat
  | .free => 0 | .queued => 1 | .deferred => 2 | .running => 3 | .ended => 4

/-- MNT_JOB and MNT_JOB2 of the selected slot (R456, R478). -/
def State.jobView (s : State) (second : Bool) : Word :=
  let j := vget s.jobs (s.get F.MNT_JOB_SEL_SLOT) Job.empty
  let res := j.res % 2048 + (if 2048 ≤ j.res then 2048 else 0)
  if second then word (min 0xFFFF j.ms * 65536 + res * 16 + j.result)
  else word (j.id * 2 ^ 24 + j.type * 2 ^ 20 + j.target * 2 ^ 14 + jobState j.st * 2 ^ 11 + b2n j.fault * 2 ^ 10 + j.blocker)

/-- CLK_PLLx_CFG (R263): the fraction of its family; zero outside a family role. -/
def State.pllView (s : State) (x : Nat) : Word :=
  match s.pllRole x with
  | 0 => word (125 * 2 ^ 20 + 24 * 2 ^ 10 + 8)
  | 1 => word (625 * 2 ^ 20 + 329 * 2 ^ 10 + 7)
  | _ => 0

/-- A computed word of a block, by byte address; none where the register is held. -/
def State.blockView (s : State) (a : Nat) : Option Word :=
  if a = A.SYS_IRQ_GROUP then some (word s.irqGroups)
  else if a = A.SYS_IRQ_PAGES0 then some (word (bitsOf ((List.range 32).map s.pagePending)))
  else if a = A.SYS_IRQ_PAGES1 then some (word (bitsOf ((List.range 11).map (fun k => s.pagePending (0x20 + k)))))
  else if a = A.SYS_IRQ_LANES0 then some (word (bitsOf ((List.range 32).map (fun n => s.pagePending (0x30 + n)))))
  else if a = A.SYS_IRQ_LANES1 then some (word (bitsOf ((List.range 16).map (fun n => s.pagePending (0x50 + n)))))
  else if a = A.SYS_UID 0 then some (Config.uid 0)
  else if a = A.SYS_UID 1 then some (Config.uid 1)
  else if a = A.PWR_DOMAIN then some (word s.domainsOn)
  else if a = A.PWR_BANK_ON then some (word (bitsOf ((List.range 32).map (fun k => s.bankOn k && !s.migrated k))))
  else if a = A.PWR_SPARE_ON then some (word s.sparesOn)
  else if a = A.USB_VREQ_STATUS then
    some (setBits (setBits (s.reg a) F.USB_VREQ_STATUS_CODE.lo F.USB_VREQ_STATUS_CODE.w s.usb.vCode) F.USB_VREQ_STATUS_WORDS.lo
      F.USB_VREQ_STATUS_WORDS.w (satTo F.USB_VREQ_STATUS_WORDS.w s.usb.vWords))
  else if a = A.LST_STATUS then some (setBits (s.reg a) 8 1 (b2n s.lstPiccolo))
  else if a = A.BLW_OP then some (setBits (s.reg a) 8 2 s.opNow)
  else if A.CLK_PLL_CFG 0 ≤ a ∧ a ≤ A.CLK_PLL_CFG 2 then some (s.pllView ((a - A.CLK_PLL_CFG 0) / 4))
  else if a = A.MEM_TRACK_ENTRY then some s.trackView
  else if A.MEM_BANK_STATUS 0 ≤ a ∧ a ≤ A.MEM_BANK_STATUS 31 then
    some (setBits (s.reg a) 0 1 (b2n (s.visitable ((a - A.MEM_BANK_STATUS 0) / 4))))
  else if a = A.MEM_BANK_STATUS 32 then
    some (setBits (s.reg a) 0 1 (b2n (s.on F.MEM_SPARE_STATUS_MBS0_USED && s.visitable (s.get F.MEM_SPARE_STATUS_MBS0_FOR))))
  else if a = A.MEM_BANK_STATUS 33 then
    some (setBits (s.reg a) 0 1 (b2n (s.on F.MEM_SPARE_STATUS_MBS1_USED && s.visitable (s.get F.MEM_SPARE_STATUS_MBS1_FOR))))
  else if a = A.MNT_INV then some s.invView
  else if a = A.MNT_JOB then some (s.jobView false)
  else if a = A.MNT_JOB2 then some (s.jobView true)
  else if A.SAP_MCLK 0 ≤ a ∧ a ≤ A.SAP_MCLK 3 ∧ a % 0x400 = A.SAP_MCLK 0 % 0x400 then
    some (setBits (s.reg a) 16 1 (b2n (s.mclkRuns (a / 0x400 - 0x21))))
  else if a = A.FIF_STATUS ∨ a = A.FIF_SRC_LIVE then some (s.fifSync.reg a)
  else if a = A.LCY_STATE then
    some (setBits (setBits (setBits (s.reg a) 8 3 s.lcFuses) 3 1 (b2n (decide (4 ≤ s.lcFuses)))) 0 2 s.lcState)
  else if a = A.CHN_SINK_ACTIVE then some (s.sinkAt (s.get F.CHN_SINK_SEL_INDEX))
  else if 0x30 * 0x400 ≤ a ∧ a % 0x400 = A.LANE_POOL 0 % 0x400 then some (setBits (s.reg a) 0 8 s.poolFree)
  else if (List.range 8).any (fun c => decide (a = A.AOUT_OFFSET c)) then
    let c := 2 * (a / 0x400 - 0x19) + (a % 0x400 - 0x5C) / 0x80
    if (s.aoutAt c).phase = .off then none else some (setBits (s.reg a) 0 16 (unsigned 16 (satSigned 16 (Config.servo c s.free))))
  else if A.BLW_TASK_CFG 0 ≤ a ∧ a ≤ A.BLW_TASK_CFG 31 ∧ (a - A.BLW_TASK_CFG 0) % 8 = 0 then
    let t := (a - A.BLW_TASK_CFG 0) / 8
    some (setBits (s.reg a) 31 1 (b2n (s.taskOn t)))
  else none

/-- A register word as a read returns it (R6, R58): computed, or held; WO fields read 0. -/
def State.readReg (s : State) (a : Nat) : Word :=
  let w := match pageRow (a / 0x400) with
    | some r => if a % 0x400 < 0x40 then s.headerView r (a / 0x400) (a % 0x400) else (s.blockView a).getD (s.reg a)
    | none => 0
  match regDefAt a with
  | some d => d.fields.foldl (fun w f => if f.acc = .wo then setBits w f.lo f.w 0 else w) w
  | none => 0

end Sys2Proof.Machine
end

