-- ==== Sys2Proof/Machine/RegHook.lean ====
section
/-! DEFINITION. What the blocks do when a word of theirs is written (the effect column of every register table): one function
per page type, run after the word's fields are held. -/

namespace Sys2Proof.Machine

/-- Facts of the outside that a written word may need: the level of FREEZE and the microseconds since FROZEN (R468), and what the
regulator answers (R384). -/
structure Facts where
  level : Bool
  us : Nat
  vals : Nat × Nat × Nat
  clear : Nat
deriving DecidableEq, Repr

/-- The facts where a command brings none: free values. -/
def State.facts (s : State) : Facts := 
  ⟨s.pins.freeze, Config.frozenUs s.free, ((Config.regulator s.free).1, (Config.regulator s.free).2, Config.regulatorFail s.free % 4),
    Config.regulatorFail (s.free + 1) % 4⟩

/-- Is bit `i` of a written word 1? -/
def hit (w : Word) (i : Nat) : Bool := decide (bits w i 1 = 1)

/-! ## PG_CTRL (R60) -/

/-- Does the condition of the page's fault code still hold? A Churn fault ends at the next completed commit (R222), a full
spare log never (R479). -/
def State.faultHolds (s : State) (page code : Nat) : Bool :=
  if page = 0x01 then State.pwrFaultHolds code
  else if page = 0x02 then s.blwFaultHolds code
  else if page = 0x03 then s.clkFaultHolds code
  else if page = 0x04 then s.memFaultHolds code
  else if page = 0x07 then State.lcyFaultHolds code
  else if page = 0x08 then s.smbFaultHolds code
  else if page = 0x09 then s.pmbFaultHolds code
  else if page = 0x0A then s.usbFaultHolds code
  else if page = 0x0B then s.snsFaultHolds code
  else if page = 0x0C then s.lstFaultHolds code
  else if page = 0x0D ∨ (0x19 ≤ page ∧ page ≤ 0x1C) then s.aoutFaultHolds page code
  else if 0x10 ≤ page ∧ page ≤ 0x18 then s.ainFaultHolds page code
  else if 0x1D ≤ page ∧ page ≤ 0x20 then s.spkFaultHolds (page - 0x1D) code
  else if 0x21 ≤ page ∧ page ≤ 0x28 then s.sapFaultHolds (page - 0x21)
  else if page = 0x29 then s.pdmFaultHolds
  else if page = 0x2A then true
  else if 0x30 ≤ page then s.laneFaultHolds (page - 0x30) code
  else (decide (page = 0x0F) && decide (code ≤ 2)) || decide (page = 0x06)

/-- ERR_CLR (R60): the violation record, and the fault code if its condition has ended. -/
def State.errClr (s : State) (page : Nat) : State :=
  let s := ((s.set (F.PG_LAST_VIOL page) 0).set (F.PG_VIOL_COUNT page) 0).set (F.PG_ERR_ADDR page) 0
  let code := s.get (F.PG_FAULT page)
  s.when (decide (code ≠ 0) && !s.faultHolds page code) (·.set (F.PG_FAULT page) 0)

/-- ENABLE of a page has changed. -/
def State.enableWritten (s : State) (page : Nat) : State :=
  if page = 0x0A then s.usbPower
  else if page = 0x0C then s.lstEnableWritten
  else if page = 0x0D then s.jckEnableWritten.hidSync
  else if page = 0x0E then s.fifEnableWritten
  else if 0x10 ≤ page ∧ page ≤ 0x17 then s.ainPairWritten (page - 0x10)
  else if page = 0x18 then s.auxEnableWritten
  else if 0x19 ≤ page ∧ page ≤ 0x1C then s.aopEnableWritten (page - 0x19)
  else if 0x1D ≤ page ∧ page ≤ 0x20 then s.spkCtrlWritten (page - 0x1D)
  else if 0x21 ≤ page ∧ page ≤ 0x28 then s.sapEnableWritten (page - 0x21)
  else if page = 0x29 then s.pdmEnableWritten.lstGroupWritten s.pdm
  else if page = 0x2A then (s.rxWritten (s.on F.SPD_RX_CTRL_EN)).txWritten
  else if 0x30 ≤ page then s.laneEnableWritten (page - 0x30)
  else s

/-- PG_CTRL was written. -/
def State.headerWritten (s : State) (page off : Nat) (old w : Word) : State :=
  if off = 0x004 then
    let s := s.when (decide (bits old 0 1 ≠ s.get (F.PG_ENABLE page))) (·.enableWritten page)
    s.when (hit w 2) (·.errClr page)
  else s

/-! ## The blocks -/

/-- SYS (R475). -/
def State.sysWritten (s : State) (a : Nat) (w : Word) : State :=
  s.when (decide (a = A.SYS_SW_RESET) && hit w 0 && decide (bits w 16 16 = 0x5253)) (·.hardReset 4)

/-- PWR (R364, R367, R382): the target, then CANCEL, then GO. -/
def State.pwrWritten (s : State) (a : Nat) (w : Word) : State :=
  if a = A.PWR_CTRL then (s.when (hit w 5) State.pwrCancel).when (hit w 4) State.pwrGo
  else s.when (decide (a = A.PWR_ACCT_CLR) && hit w 0) State.acctClr

/-- BLW (R395, R403, R405). -/
def State.blwWritten (s : State) (a : Nat) (old w : Word) : State :=
  if blwChecked a then s.blwConfigWritten a old
  else if a = A.BLW_CTRL then (s.when (hit w 0) State.blwCold).when (hit w 1) State.blwClrCounts
  else s

/-- CLK (R271, R273, R276, R283, R284). -/
def State.clkWritten (s : State) (a : Nat) (w : Word) : State :=
  if a = A.CLK_ENGINE then s.feWritten
  else if a = A.CLK_TAKEOVER then (s.when (hit w 8) State.takeoverStart).when (hit w 9) State.takeoverAbort
  else if a = A.CLK_MAINS_CTRL then s.mainsCtrlWritten
  else if a = A.CLK_TRK_CLR then s.trkClear (bits w 0 10) (hit w 10)
  else s

/-- MEM (R418, R425, R426). -/
def State.memWritten (s : State) (a : Nat) (w : Word) : State :=
  if a = A.MEM_CTRL then ((s.lapBegin).when (hit w 2) State.clrTrack).when (hit w 1) State.memClrCounts
  else if a = A.MEM_WIPE_REQ then s.wipeReq (bits w 26 6)
  else if a = A.MEM_RET_LOST then s.retLostWritten
  else s

/-- DBG (R74, R462, R468, R476); the resume facts where needed. -/
def State.dbgWritten (s : State) (e : Option Facts) (a : Nat) (w : Word) : State :=
  if a = A.DBG_VIOL_CTRL then s.when (hit w 0) State.violClear
  else if a = A.DBG_FREEZE then
    let s := s.when (hit w 0) (·.freezeRequest 2)
    s.when (hit w 1) (fun s => match e with
      | some f => s.resumeRequest f.level f.us
      | none => { s.resumeRequest s.facts.level s.facts.us with free := s.free + 1 })
  else s.when (decide (a = A.DBG_CNT_CLR) && hit w 0) State.dbgCntClr

/-- MNT (R454, R456, R478). -/
def State.mntWritten (s : State) (a : Nat) (old w : Word) : State :=
  if a = A.MNT_SCHED then s.schedWritten old
  else if a = A.MNT_POST then s.when (hit w 14) State.mntPost
  else s.when (decide (a = A.MNT_CNT_CLR) && hit w 0) State.mntCntClr

/-- LCY (R472 to R474, R477): TOKEN before UNLOCK, READ before PROG. -/
def State.lcyWritten (s : State) (a : Nat) (w : Word) : State :=
  if a = A.LCY_CTRL then s.when (hit w 0) (·.lcyGo (bits w 16 16))
  else if a = A.LCY_CHECK then (s.when (hit w 0) (·.lcyCheck false)).when (hit w 1) (·.lcyCheck true)
  else if a = A.LCY_OTP_CTRL then (s.when (hit w 0) (·.otpStart false)).when (hit w 1) (·.otpStart true)
  else s

/-- SMB (R441, R447, R449). -/
def State.smbWritten (s : State) (a : Nat) (w : Word) : State :=
  if a = A.SMB_HN_CFG then s.hnCfgWritten
  else if a = A.SMB_REC_CTRL then (s.when (hit w 0) (·.recRetry 0)).when (hit w 1) (·.recRetry 1)
  else s.when (decide (a = A.SMB_CNT_CLR) && hit w 0) State.smbCntClr

/-- PMB (R375, R384). -/
def State.pmbWritten (s : State) (e : Option Facts) (a : Nat) (old w : Word) : State :=
  if a = A.PMB_CFG then s.pmbCfgWritten old
  else if a = A.PMB_CMD then
    let f := e.getD s.facts
    let s := (s.when (hit w 0) (·.pmbClearNow f.clear)).when (hit w 1) (·.pmbReadNow f.vals)
    s.when (e.isNone && (hit w 0 || hit w 1)) (fun s => { s with free := s.free + 2 })
  else s.when (decide (a = A.PMB_CNT_CLR) && hit w 0) (·.setReg A.PMB_COUNT 0)

/-- USB (R286, R287, R289, R299, R304, R305, R307, R309). -/
def State.usbWritten (s : State) (a : Nat) (old w : Word) : State :=
  if a = A.USB_CFG then s.usbCfgWritten old
  else if a = A.USB_ID then s.usbTry
  else if a = A.USB_FU_CTRL then s.forAll 4 (fun s i => s.fuSync i)
  else if a = A.USB_HID_MAP ∨ a = A.USB_HID_INJECT then s.hidSync
  else if a = A.USB_WAKE then s.wakeHost (hit w 5)
  else if a = A.USB_HIST_CTRL then (s.when (hit w 0) State.histStart).when (hit w 1) State.histStop
  else s.when (decide (a = A.USB_CNT_CLR) && hit w 0) State.usbCntClr

/-- SNS (R344, R346, R350, R351, R357, R360). -/
def State.snsWritten (s : State) (a : Nat) (w : Word) : State :=
  if a = A.SNS_CFG then s.snsCfgWritten
  else if a = A.SNS_SEQ_CTRL then s.snsSeqWritten (hit w 2) (hit w 1)
  else if a = A.SNS_URGENT then s.when (hit w 24) State.snsUrgent
  else if A.SNS_DRONE_CFG 0 ≤ a ∧ a ≤ A.SNS_DRONE_CFG 3 then s.droneWritten ((a - A.SNS_DRONE_CFG 0) / 4)
  else if a = A.SNS_DIAG_CTRL then s.when (hit w 0) State.diagStart
  else s.when (decide (a = A.SNS_CNT_CLR) && hit w 0) (fun s => (s.setReg A.SNS_COUNT 0).setReg A.SNS_COUNT2 0)

/-- LST (R311, R312, R324, R331, R336): BEGIN before END. -/
def State.lstWritten (s : State) (a : Nat) (old w : Word) : State :=
  if a = A.LST_CTRL then s.lstCtrlWritten (hit w 1) (hit w 2)
  else if a = A.LST_CFG then s.lstCfgWritten old (s.reg A.LST_SRC)
  else if a = A.LST_SRC then s.lstCfgWritten (s.reg A.LST_CFG) old
  else if a = A.LST_MODEL_CTRL then (s.when (hit w 0) State.modelBegin).when (hit w 1) State.modelEnd
  else if A.LST_MODEL_WIN 0 ≤ a ∧ a ≤ A.LST_MODEL_WIN 31 then s.modelWin ((a - A.LST_MODEL_WIN 0) / 4) w
  else s

/-- JCK (R117, R124, R125, R126, R127, R134, R137). -/
def State.jckWritten (s : State) (off : Nat) (old w : Word) : State :=
  if off = 0x040 then (s.cpForceWritten).when (hit w 1) State.cpRetry
  else if off = 0x054 then (s.when (hit w 8) State.jckSubstStart).when (hit w 9) State.jckSubstAbort
  else if off < 0x080 then s
  else
    let n := (off - 0x080) / 0x40
    match (off - 0x080) % 0x40 with
    | 0x00 => (s.jackCtrlWritten n old).hidSync
    | 0x08 => (s.jackBiasWritten n old).hidSync
    | 0x10 => (s.when (hit w 0) (·.jackMeasureNow n)).hidSync
    | 0x20 => s.when (hit w 0) (·.setReg (A.JCK_COUNT n) 0)
    | _ => s

/-- CHN (R200, R203, R221). -/
def State.chnWritten (s : State) (a : Nat) (w : Word) : State :=
  s.when (decide (a = A.CHN_CTRL)) (·.chnCtrlWritten (hit w 0) (hit w 1) (hit w 2))

/-- AINP (R78, R87, R88 to R91, R96, R103). -/
def State.ainpWritten (s : State) (k off : Nat) (old w : Word) : State :=
  let n := 2 * k + (off - 0x040) / 0x80
  match (off - 0x040) % 0x80 with
  | 0x00 => s.ainCtrlWritten n old (hit w 6)
  | 0x08 => s.ainFmtWritten n old
  | 0x10 => s.ainStopSync n
  | 0x18 => s.when (hit w 17) (·.set (F.AIN_CLIP_COUNT n) 0)
  | _ => s

/-- AUX (R79, R81, R99, R102). -/
def State.auxWritten (s : State) (a : Nat) (old w : Word) : State :=
  if a = A.AUX_BEEP_CTRL then s.beepWritten
  else if a = A.AUX_MICBIAS_CTRL then s.biasWritten old
  else if a = A.AUX_SUBST_REQ then (s.when (hit w 8) State.auxSubstStart).when (hit w 9) State.auxSubstAbort
  else s

/-- AOP (R110, R114 to R118). -/
def State.aopWritten (s : State) (k off : Nat) (old : Word) : State :=
  if off = 0x140 then s.aopPairWritten k old
  else
    let c := 2 * k + (off - 0x040) / 0x80
    match (off - 0x040) % 0x80 with
    | 0x00 => s.aoutCtrlWritten c
    | 0x04 => s.aoutFmtWritten c old
    | 0x08 => s.aoutVolWritten c
    | 0x0C => s.aoutStopSync c
    | _ => s

/-- SPK (R139, R141, R143, R145, R147, R154, R155, R159); the model registers take effect at the next 1 ms update (R150). -/
def State.spkWritten (s : State) (n off : Nat) (old w : Word) : State :=
  match off with
  | 0x040 => s.spkCtrlWritten n
  | 0x044 => s.spkFmtWritten n old
  | 0x048 => s.spkVolWritten n
  | 0x04C => s.spkPwmWritten n
  | 0x054 => s.spkCeilSync n
  | 0x074 => s.spkGuardWritten n old (hit w 4)
  | _ => s

/-- SAP (R233, R237, R239, R255). -/
def State.sapWritten (s : State) (p off : Nat) (old w : Word) : State :=
  match off with
  | 0x040 => s.sapReconfig p old (s.reg (A.SAP_FMT p))
  | 0x044 => s.sapReconfig p (s.reg (A.SAP_CTRL p)) old
  | 0x048 | 0x04C => s.sapMaskWritten p
  | 0x068 => s.when (hit w 0) (fun s => (s.setReg (A.SAP_COUNT p) 0).setReg (A.SAP_COUNT2 p) 0)
  | _ => s

/-- PDM (R243). -/
def State.pdmPageWritten (s : State) (a : Nat) (old : Word) : State :=
  let clk := s.reg A.PDM_CLK_CTRL
  let line := s.reg A.PDM_LINE
  let fmt := s.reg A.PDM_FMT
  if a = A.PDM_CLK_CTRL then (s.pdmWritten old line fmt).lstGroupWritten s.pdm
  else if a = A.PDM_LINE then (s.pdmWritten clk old fmt).lstGroupWritten s.pdm
  else if a = A.PDM_FMT then (s.pdmWritten clk line old).lstGroupWritten s.pdm
  else if a = A.PDM_MIC_EN then s.micsWritten old
  else s

/-- SPD (R246, R250, R251, R253, R259). -/
def State.spdWritten (s : State) (a : Nat) (old w : Word) : State :=
  if a = A.SPD_RX_CTRL then s.rxWritten (s.on (F.PG_ENABLE 0x2A) && decide (bits old F.SPD_RX_CTRL_EN.lo 1 = 1))
  else if a = A.SPD_TX_CTRL then s.txWritten
  else s.when (decide (a = A.SPD_CNT_CLR) && hit w 0) (·.setReg A.SPD_RX_COUNT 0)

/-- LANE (R167 to R169, R172, R177 to R188, R193, R194). -/
def State.laneWritten (s : State) (n off : Nat) (old w : Word) : State :=
  match off with
  | 0x040 => s.laneSrcWritten n
  | 0x044 => s.laneOutWritten n
  | 0x048 => s.laneCtrlWritten n old
  | 0x050 => s.laneTrimWritten n old
  | 0x054 => s.laneDcbWritten n
  | 0x058 => s.laneHumWritten n
  | 0x060 => s.laneCoefWritten n (hit w 0)
  | 0x068 => s.laneDynWritten n
  | 0x080 => s.laneDelayWritten n old
  | 0x08C => s.when (hit w 2) (·.setReg (A.LANE_METER_HOLD n) 0xC568C568#32)
  | 0x0B4 => s.when (hit w 0) (fun s => (s.setReg (A.LANE_COUNT n) 0).setReg (A.LANE_COUNT2 n) 0)
  | _ => s

/-- The effect of a written word, once its fields are held. -/
def State.regWritten (s : State) (e : Option Facts) (a : Nat) (old w : Word) : State :=
  let page := a / 0x400
  let off := a % 0x400
  if off < 0x40 then s.headerWritten page off old w
  else match pageRow page with
    | none => s
    | some r =>
      let k := page - r.first
      match r.ty with
      | .sys => s.sysWritten a w
      | .pwr => s.pwrWritten a w
      | .blw => s.blwWritten a old w
      | .clk => s.clkWritten a w
      | .mem => s.memWritten a w
      | .dbg => s.dbgWritten e a w
      | .mnt => s.mntWritten a old w
      | .lcy => s.lcyWritten a w
      | .smb => s.smbWritten a w
      | .pmb => s.pmbWritten e a old w
      | .usb => s.usbWritten a old w
      | .sns => s.snsWritten a w
      | .lst => s.lstWritten a old w
      | .jck => s.jckWritten off old w
      | .fif => s.when (decide (a = A.FIF_CTRL) && hit w 0) State.fifCommit
      | .chn => s.chnWritten a w
      | .ainp => s.ainpWritten k off old w
      | .aux => s.auxWritten a old w
      | .aop => s.aopWritten k off old
      | .spk => s.spkWritten k off old w
      | .sap => s.sapWritten k off old w
      | .pdm => s.pdmPageWritten a old
      | .spd => s.spdWritten a old w
      | .lane => s.laneWritten k off old w

end Sys2Proof.Machine
end

