-- ==== Sys2Proof/Machine/RegPath.lean ====
section
/-! DEFINITION. The register path (R55 to R57, R68 to R74): what an address names, the causes that refuse a word, the access types
(R6 to R8), reads, writes, read-modify-writes and transfers. -/

namespace Sys2Proof.Machine

/-! ## What an address names (R55 to R57) -/

/-- A word of the byte address space. -/
inductive Place
  | none
  | reg (page off : Nat)
  | pend (i : Nat)
  | act (i : Nat)
  | coef (k : Nat)
  | snap (o : Nat)
deriving DecidableEq, Repr

/-- What a byte address names; `a` is the address as received, up to 24 bits. -/
def placeOf (a : Nat) : Place :=
  if a % 4 ≠ 0 ∨ 0x40000 ≤ a then .none
  else match pageRow (a / 0x400) with
    | some r => if a % 0x400 < 4 * r.regs then .reg (a / 0x400) (a % 0x400) else .none
    | none =>
      if 0x20000 ≤ a ∧ a < 0x23000 then .pend ((a - 0x20000) / 4)
      else if 0x24000 ≤ a ∧ a < 0x27000 then .act ((a - 0x24000) / 4)
      else if 0x28000 ≤ a ∧ a < 0x2B000 then .coef ((a - 0x28000) / 4)
      else if 0x30000 ≤ a ∧ a < 0x38000 then .snap ((a - 0x30000) / 4)
      else .none

/-! ## Access types (R6 to R8) -/

/-- One field takes its part of a written word; true where the code is reserved and the field keeps its value (R7). -/
def FieldDef.take (f : FieldDef) (old w : Word) (e : Word × Bool) : Word × Bool :=
  let v := bits w f.lo f.w
  let was := bits old f.lo f.w
  match f.acc with
  | .rw => if f.reserved.any (fun r => decide (r.1 ≤ v) && decide (v ≤ r.2)) then (e.1, true) else (setBits e.1 f.lo f.w v, e.2)
  | .wo => (setBits e.1 f.lo f.w v, e.2)
  | .w1c => (setBits e.1 f.lo f.w (was - (was &&& v)), e.2)
  | .w1s | .ro => e

/-- The word after a write, and whether a reserved value was written. -/
def RegDef.take (d : RegDef) (old w : Word) : Word × Bool := d.fields.foldl (fun e f => f.take old w e) (old, false)

/-- Are all fields RO (R8)? A word of reserved bits is not. -/
def RegDef.allRo (d : RegDef) : Bool := !d.silent && d.fields.all (fun f => decide (f.acc = .ro))

/-- The bits of a register that a read-modify-write outside its mask writes as 0 (R432). -/
def RegDef.edges (d : RegDef) : Word :=
  d.fields.foldl (fun m f => if f.acc = .w1c ∨ f.acc = .w1s then setBits m f.lo f.w (2 ^ f.w - 1) else m) 0

/-- Four bytes of a word, the lowest first. -/
def bytes4 (w : Word) : List Nat := [bits w 0 8, bits w 8 8, bits w 16 8, bits w 24 8]

/-- Does the list never decrease? -/
def rising : List Nat → Bool
  | x :: y :: t => decide (x ≤ y) && rising (y :: t)
  | _ => true

/-- Reserved values that depend on two fields of the word (R239, R345, R391, R405): the fields of `new` that keep their old value,
and whether one did. `w` is the written word. -/
def together (a : Nat) (old w new : Word) : Word × Bool :=
  let keep := (old, true)
  if A.SAP_MCLK 0 ≤ a ∧ a ≤ A.SAP_MCLK 3 ∧ a % 0x400 = A.SAP_MCLK 0 % 0x400 then
    let least := match bits w 0 2 with | 0 => 0 | 3 => 1 | _ => 8
    if least ≤ bits w 8 8 then (new, false)
    else
      let new := setBits new 8 8 (bits old 8 8)
      if bits old 8 8 < least then (setBits new 0 2 (bits old 0 2), true) else (new, true)
  else if A.SNS_SEQ 0 ≤ a ∧ a ≤ A.SNS_SEQ 15 then
    if bits w 20 1 = 1 ∧ 16 < bits w 12 8 then (setBits new 12 8 (bits old 12 8), true) else (new, false)
  else if a = A.BLW_SAG then
    let crit := bits w 16 16
    let warn := bits w 0 16
    if 400 ≤ crit ∧ crit ≤ 2200 ∧ crit + 20 ≤ warn ∧ warn ≤ 2400 then (new, false) else keep
  else if a = A.BLW_OP_COST then (if rising (bytes4 w) then (new, false) else keep)
  else if A.BLW_TASK_COST 32 ≤ a ∧ a ≤ A.BLW_TASK_COST 63 ∧ (a - A.BLW_TASK_COST 32) % 8 = 0 then
    (if rising (bytes4 w).reverse then (new, false) else keep)
  else (new, false)

/-! ## Causes that refuse a word (R71, R72) -/

/-- The bank whose words the snapshot window shows (R465): none for an unused or retired spare. -/
def State.snapBank (s : State) : Option Nat :=
  let k := s.get F.DBG_SNAP_SEL_BANK
  if k < 32 then some k
  else if s.on (F.MEM_BANK_STATUS_RETIRED k) then none
  else if k = 32 then (if s.on F.MEM_SPARE_STATUS_MBS0_USED then some (s.get F.MEM_SPARE_STATUS_MBS0_FOR) else none)
  else if s.on F.MEM_SPARE_STATUS_MBS1_USED then some (s.get F.MEM_SPARE_STATUS_MBS1_FOR) else none

/-- Does a running wipe bar the word (R71, R419)? -/
def State.wipeBars (s : State) (write : Bool) (p : Place) : Bool :=
  let full := s.on F.MEM_WIPE_STATUS_ALL
  match p with
  | .none => false
  | .reg page _ => full && (write || !(decide (page = 0x00) || decide (page = 0x04)))
  | .snap _ => full || (match s.snapBank with | some k => s.bankWiping k | none => false)
  | _ => s.bankWiping 24 || s.bankWiping 25

/-- Does the life cycle lock the word (R471, R474)? -/
def State.lifeBars (s : State) (ini : Nat) (write : Bool) (a : Nat) (p : Place) (w : Word) : Bool :=
  (decide (ini = 3) && !s.debugOk) ||
  (match p with
   | .snap _ => !s.debugOk
   | .reg _ _ => write && decide (a = A.LCY_OTP_CTRL) && hit w 1 && s.progLocked
   | _ => false)

/-- Is the target off (R71, R464, R465)? R464 takes writes in freeze with KEEP_MGMT for SYS, DBG, LCY and SMB alone; it does not name the
table windows. DESIGN CHOICE (log 182): a write to any window, the active table too, is then refused as 0x04, ahead of the write to
something read-only (R72). -/
def State.offBars (s : State) (write : Bool) (p : Place) : Bool :=
  match p with
  | .none => false
  | .reg page off =>
    decide (0x40 ≤ off) && (!s.islandOn (islandOf page) ||
      (s.frozen && write && !(decide (page = 0x00) || decide (page = 0x05) || decide (page = 0x07) || decide (page = 0x08))))
  | .snap _ => !s.frozen || (match s.snapBank with | some k => !s.bankOn k | none => true)
  | _ => !s.bankOn 24 || (s.frozen && write)

/-- Is history content protected (R330, R304)? -/
def State.historyBars (s : State) (write : Bool) (a : Nat) (p : Place) (w : Word) : Bool :=
  match p with
  | .reg _ _ => write && decide (a = A.USB_HIST_CTRL) && hit w 0 && !s.on F.LST_STATUS_ARMED
  | .snap _ => (match s.snapBank with
    | some k => decide (12 ≤ k) && decide (k ≤ 18) && (!s.on F.LST_STATUS_ARMED || s.on F.DBG_FREEZE_STATUS_PRIV_LATCHED)
    | none => false)
  | _ => false

/-- Is the write to something read-only (R8, R57)? -/
def roBars (a : Nat) (p : Place) : Bool :=
  match p with
  | .reg _ _ => (match regDefAt a with | some d => d.allRo | none => false)
  | .act _ | .snap _ => true
  | _ => false

/-- The first cause that refuses a word, 0 for none, in the order of R72; a reserved value and poison come after it. -/
def State.refusal (s : State) (ini : Nat) (write : Bool) (a : Nat) (w : Word) : Nat :=
  let p := placeOf a
  if p = .none then 1
  else if ini ≠ 4 ∧ s.wipeBars write p then 5
  else if s.lifeBars ini write a p w then 3
  else if s.offBars write p then 4
  else if s.historyBars write a p w then 7
  else if write && roBars a p then 2
  else 0

/-! ## Words -/

/-- A word of the snapshot window (R465): the owner's content where the spec gives its place in the bank. -/
def State.snapWord (s : State) (o : Nat) : Word × Bool :=
  match s.snapBank with
  | none => (0, false)
  | some k =>
    let i := s.get F.DBG_SNAP_SEL_HALF * 8192 + o
    let a := sramAddr k i
    if s.wordPoisoned a then (0, true)
    else if (12 ≤ k ∧ k ≤ 21) ∨ 26 ≤ k then (lookup s.sram a 0, false)
    else (s.ownerData k i, false)

/-- The word at an address as a read sees it, and whether it is poisoned. -/
def State.peek (s : State) (a : Nat) : Word × Bool :=
  match placeOf a with
  | .none => (0, false)
  | .reg _ _ => (s.readReg a, false)
  | .pend i => (s.xpPendAt i, s.poisoned .xpPend i)
  | .act i => (s.xpActAt i, s.poisoned .xpAct i)
  | .coef k => (if k % 64 < 51 then lookup s.coefPend k 0 else 0, s.poisoned .coefPend k)
  | .snap o => s.snapWord o

/-- What a performed read changes: SNS_RESULT's READY (R352), not in freeze (R464). -/
def State.readDone (s : State) (a : Nat) : State := s.when (decide (a = A.SNS_RESULT) && !s.frozen) (·.set F.SNS_RESULT_READY 0)

/-- A poisoned word was read (R411); a snapshot read counts nothing (R465). -/
def State.poisonRead (s : State) (a : Nat) : State :=
  match placeOf a with
  | .snap _ => s
  | _ => s.inc F.MEM_UNCORR_COUNT_POISON_READS

/-- Perform a write (R6, R7, R57): the fields, then the block's reaction; true where a reserved value was written. START of an urgent
request while BUSY is ignored, its fields too (R350). -/
def State.poke (s : State) (e : Option Facts) (a : Nat) (w : Word) : State × Bool :=
  match placeOf a with
  | .pend i => ({ s with xpPend := store s.xpPend i (w &&& 0xF0000FFF#32) 0 }.cleanse .xpPend i, false)
  | .coef k =>
    if 51 ≤ k % 64 then (s, false)
    else
      let w := if k % 64 = 50 then w &&& 0x3FF#32 else w
      ({ s with coefPend := store s.coefPend k w 0 }.cleanse .coefPend k, false)
  | .reg _ _ => (match regDefAt a with
    | none => (s, false)
    | some d =>
      let old := s.reg a
      let new := d.take old w
      let both := together a old w new.1
      let kept := decide (a = A.SNS_URGENT) && hit w 24 && s.on (.mk A.SNS_URGENT 25 1)
      ((s.setReg a (if kept then old else both.1)).regWritten e a old w, new.2 || both.2))
  | _ => (s, false)

/-! ## Transfers (R68, R70, R73) -/

/-- May an initiator's access be performed now: the management island runs, and the loader runs with it (R463, R492). -/
def State.pathOpen (s : State) (ini : Nat) : Bool := decide (s.domState ≤ 2) && s.mgmtRuns && !(decide (ini = 2) && s.frozen)

/-- The outcome of a transfer so far: the code of its first violation, and the words performed. -/
structure Done where
  code : Nat
  words : Nat
deriving DecidableEq, Repr

/-- A violation of a transfer: the first is recorded (R70). -/
def State.strike (s : State) (ini code : Nat) (write : Bool) (a : Nat) (d : Done) : State × Done :=
  if d.code = 0 then (s.violation ini code write (some a), { d with code := code }) else (s, d)

/-- An internal access waits for the wipe's end, behind those that wait already (R73). -/
def State.stall (s : State) (x : Stall) : State := { s with stalled := s.stalled ++ [x] }

/-- Must an internal access wait: a wipe bars it, or an access issued before it waits (R73)? -/
def State.mustWait (s : State) (ini : Nat) (write : Bool) (a : Nat) : Bool :=
  decide (ini = 4) && (decide (s.stalled ≠ []) || s.wipeBars write (placeOf a))

/-- Write words from an address on (R70). An internal write that a wipe would bar waits for it with all that follow (R73). -/
def State.putWords (s : State) (e : Option Facts) (ini : Nat) : Nat → List Word → Done → State × Done
  | _, [], d => (s, d)
  | a, w :: t, d =>
    if !s.pathOpen ini then (s, d)
    else if s.mustWait ini true a then (s.stall (.write a (w :: t) d.code), d)
    else
      let c := s.refusal ini true a w
      if c ≠ 0 then s.strike ini c true a d
      else
        let r := s.poke e a w
        let q : State × Done := if r.2 then r.1.strike ini 9 true a d else (r.1, d)
        q.1.putWords e ini (a + 4) t { q.2 with words := q.2.words + 1 }

/-- Read `k` words from an address on (R70): from the first violation they read 0. An internal read waits for a wipe (R73). -/
def State.getWords (s : State) (ini : Nat) : Nat → Nat → Done → State × List Word × Done
  | 0, _, d => (s, [], d)
  | k + 1, a, d =>
    if !s.pathOpen ini then (s, List.replicate (k + 1) 0, d)
    else if s.mustWait ini false a then (s.stall (.read a (k + 1)), List.replicate (k + 1) 0, d)
    else
      let c := s.refusal ini false a 0
      let c := if c = 0 ∧ (s.peek a).2 then 10 else c
      if c ≠ 0 then
        let q := (s.when (decide (c = 10)) (·.poisonRead a)).strike ini c false a d
        (q.1, List.replicate (k + 1) 0, q.2)
      else
        let w := (s.peek a).1
        let q := (s.readDone a).getWords ini k (a + 4) { d with words := d.words + 1 }
        (q.1, w :: q.2.1, q.2.2)

/-- The word a read-modify-write writes (R432). -/
def State.rmwWord (s : State) (a : Nat) (mask value : Word) : Word :=
  let old := (s.peek a).1
  let edges := match placeOf a with
    | .reg _ _ => (match regDefAt a with | some d => d.edges | none => 0)
    | _ => 0
  (old &&& ~~~edges &&& ~~~mask) ||| (value &&& mask)

/-- One read-modify-write (R432): with mask 0 only the read. -/
def State.rmw (s : State) (ini a : Nat) (mask value : Word) : State × Done :=
  let d : Done := ⟨0, 0⟩
  if !s.pathOpen ini then (s, d)
  else if mask = 0 then
    let q := s.getWords ini 1 a d
    (q.1, q.2.2)
  else if s.mustWait ini true a then (s.stall (.rmw a mask value), d)
  else
    let w := s.rmwWord a mask value
    let c := s.refusal ini true a w
    if c ≠ 0 then s.strike ini c true a d
    else if (s.peek a).2 then (s.poisonRead a).strike ini 10 true a d
    else s.putWords none ini a [w] d

/-- A transfer refused as a whole: PEC failure (6) or bad count (8), with the address where it was received (R70, R74). -/
def State.refuseTransfer (s : State) (ini code : Nat) (write : Bool) (a : Option Nat) : State × Done :=
  (s.violation ini code write a, ⟨code, 0⟩)

/-- A write transfer of an initiator: 1 to 63 words, 1 to 1,024 in an image record (R69, R70, R487); another count is a bad count. -/
def State.writeTransfer (s : State) (ini a : Nat) (ws : List Word) : State × Done :=
  if !s.pathOpen ini then (s, ⟨0, 0⟩)
  else if ws = [] ∨ (if ini = 2 then 1024 else 63) < ws.length then s.refuseTransfer ini 8 true (some a)
  else s.putWords none ini a ws ⟨0, 0⟩

/-- One register write of an initiator, with the facts its effect may need: what every command that writes one register does. -/
def State.writeOne (s : State) (e : Option Facts) (ini a : Nat) (w : Word) : State := (s.putWords e ini a [w] ⟨0, 0⟩).1

/-- A stalled access is performed: a read returns its words as they stand now, and the word of a read-modify-write is read now (R73). -/
def State.perform (s : State) : Stall → State
  | .write a ws code => (s.putWords none 4 a ws ⟨code, 0⟩).1
  | .read a k => let r := s.getWords 4 k a ⟨0, 0⟩; { r.1 with answers := r.1.answers ++ [r.2.1] }
  | .rmw a mask value => (s.rmw 4 a mask value).1

/-- One register read of an initiator; what an internal one returns is held, unless it waits for a wipe (R73). -/
def State.readOne (s : State) (ini a : Nat) : State :=
  let r := s.getWords ini 1 a ⟨0, 0⟩
  r.1.when (decide (ini = 4) && !s.mustWait 4 false a) (fun t => { t with answers := [r.2.1] })

/-- The wipe of a stalled internal access has ended: the accesses are performed in the order issued (R73); `answers` holds what the reads
among them returned. -/
def State.unstall (s : State) : State :=
  s.when (s.pathOpen 4 && !s.wiping && decide (s.stalled ≠ [])) (fun s =>
    s.stalled.foldl State.perform { s with stalled := [], answers := [] })

/-- Byte address of a register that the floor check guards (R403, R405). -/
def blwAddr : BlwReg → Nat
  | .allot => A.BLW_ALLOT
  | .base => A.BLW_BASE
  | .thermCfg => A.BLW_THERM_CFG
  | .op => A.BLW_OP
  | .opCost => A.BLW_OP_COST
  | .zone z => A.BLW_ZONE_CFG z
  | .taskCfg t => A.BLW_TASK_CFG t
  | .taskCost t => A.BLW_TASK_COST t

/-! ## Meanings -/

/-- REG_WRITE (R70): words from an address on, by an initiator. -/
def execRegWrite (ini : Fin 5) (addr : BitVec 24) (words : List Word) (s : State) : Host.Outcome State Fault Refusal :=
  .next (settle (s.writeTransfer ini addr.toNat words).1)

/-- WIPE_DONE (R419): the wipe ends; stalled internal accesses go on (R73). -/
def execWipeDone (s : State) : Host.Outcome State Fault Refusal := .next (settle s.wipeDone.unstall)

end Sys2Proof.Machine
end

