-- ==== Sys2Proof/Machine/AnalogueWrites.lean ====
section
/-! DEFINITION. Register writes of the analogue inputs, outputs, jacks and speakers (chapters 04 to 06) that start something. Each is one word written by an
initiator through the register path (R69 to R74); the block reacts as RegHook.lean says. -/

namespace Sys2Proof.Machine

/-- AIN_MODE_WRITE (R89): initiator; input n; the word for AINn_CTRL. -/
def execAinModeWrite (ini : Fin 5) (n : Fin 16) (w : Word) (s : State) : Host.Outcome State Fault Refusal :=
  .next (settle (s.writeOne none ini (A.AIN_CTRL n) w))

/-- AIN_FMT_WRITE (R89): initiator; input n; the word for AINn_FMT. -/
def execAinFmtWrite (ini : Fin 5) (n : Fin 16) (w : Word) (s : State) : Host.Outcome State Fault Refusal :=
  .next (settle (s.writeOne none ini (A.AIN_FMT n) w))

/-- AIN_PAIR_ENABLE_WRITE (R88): initiator; pair k; the word for PG_CTRL of AINPk. -/
def execAinPairEnableWrite (ini : Fin 5) (k : Fin 8) (w : Word) (s : State) : Host.Outcome State Fault Refusal :=
  .next (settle (s.writeOne none ini ((0x10 + k) * 0x400 + 4) w))

/-- AIN_MUTE_WRITE (R90): initiator; input n; the word for AINn_CTRL. -/
def execAinMuteWrite (ini : Fin 5) (n : Fin 16) (w : Word) (s : State) : Host.Outcome State Fault Refusal :=
  .next (settle (s.writeOne none ini (A.AIN_CTRL n) w))

/-- AIN_CAL_NOW (R91): initiator; input n; the word for AINn_CTRL, CAL_NOW set. -/
def execAinCalNow (ini : Fin 5) (n : Fin 16) (w : Word) (s : State) : Host.Outcome State Fault Refusal :=
  .next (settle (s.writeOne none ini (A.AIN_CTRL n) (w ||| 0x40#32)))

/-- AIN_PGA_WRITE (R78): initiator; input n; the word for AINn_PGA. -/
def execAinPgaWrite (ini : Fin 5) (n : Fin 16) (w : Word) (s : State) : Host.Outcome State Fault Refusal :=
  .next (settle (s.writeOne none ini (A.AIN_PGA n) w))

/-- AIN_DC_HPF_WRITE (R87): initiator; input n; the word for AINn_FMT. -/
def execAinDcHpfWrite (ini : Fin 5) (n : Fin 16) (w : Word) (s : State) : Host.Outcome State Fault Refusal :=
  .next (settle (s.writeOne none ini (A.AIN_FMT n) w))

/-- AIN_CLR_COUNT (R103): initiator; input n; the word for AINn_CLIP, CLR_COUNT set. -/
def execAinClrCount (ini : Fin 5) (n : Fin 16) (w : Word) (s : State) : Host.Outcome State Fault Refusal :=
  .next (settle (s.writeOne none ini (A.AIN_CLIP n) (w ||| 0x20000#32)))

/-- MICBIAS_CTRL_WRITE (R79): initiator; the word for AUX_MICBIAS_CTRL. -/
def execMicbiasCtrlWrite (ini : Fin 5) (w : Word) (s : State) : Host.Outcome State Fault Refusal :=
  .next (settle (s.writeOne none ini A.AUX_MICBIAS_CTRL w))

/-- BEEP_CTRL_WRITE (R81): initiator; the word for AUX_BEEP_CTRL. -/
def execBeepCtrlWrite (ini : Fin 5) (w : Word) (s : State) : Host.Outcome State Fault Refusal :=
  .next (settle (s.writeOne none ini A.AUX_BEEP_CTRL w))

/-- AUX_SUBST_START (R99): initiator; the word for AUX_SUBST_REQ, START set. -/
def execAuxSubstStart (ini : Fin 5) (w : Word) (s : State) : Host.Outcome State Fault Refusal :=
  .next (settle (s.writeOne none ini A.AUX_SUBST_REQ (w ||| 0x100#32)))

/-- AUX_SUBST_ABORT (R102): initiator; the word for AUX_SUBST_REQ, ABORT set. -/
def execAuxSubstAbort (ini : Fin 5) (w : Word) (s : State) : Host.Outcome State Fault Refusal :=
  .next (settle (s.writeOne none ini A.AUX_SUBST_REQ (w ||| 0x200#32)))

/-- AOUT_EN_WRITE (R114): initiator; channel c; the word for AOUTc_CTRL, or for PG_CTRL of its pair. -/
def execAoutEnWrite (ini : Fin 5) (c : Fin 8) (pair : Bool) (w : Word) (s : State) : Host.Outcome State Fault Refusal :=
  .next (settle (s.writeOne none ini (if pair then (0x19 + c.val / 2) * 0x400 + 4 else A.AOUT_CTRL c) w))

/-- AOUT_FMT_WRITE (R115): initiator; channel c; the word for AOUTc_FMT. -/
def execAoutFmtWrite (ini : Fin 5) (c : Fin 8) (w : Word) (s : State) : Host.Outcome State Fault Refusal :=
  .next (settle (s.writeOne none ini (A.AOUT_FMT c) w))

/-- AOP_HP_MODE_WRITE (R110): initiator; pair k; the word for AOPk_PAIR. -/
def execAopHpModeWrite (ini : Fin 5) (k : Fin 4) (w : Word) (s : State) : Host.Outcome State Fault Refusal :=
  .next (settle (s.writeOne none ini (A.AOP_PAIR k) w))

/-- AOUT_MUTE_WRITE (R116): initiator; channel c; the word for AOUTc_CTRL. -/
def execAoutMuteWrite (ini : Fin 5) (c : Fin 8) (w : Word) (s : State) : Host.Outcome State Fault Refusal :=
  .next (settle (s.writeOne none ini (A.AOUT_CTRL c) w))

/-- AOUT_VOL_WRITE (R116): initiator; channel c; the word for AOUTc_VOL. -/
def execAoutVolWrite (ini : Fin 5) (c : Fin 8) (w : Word) (s : State) : Host.Outcome State Fault Refusal :=
  .next (settle (s.writeOne none ini (A.AOUT_VOL c) w))

/-- JCK_CP_FORCE_ON_WRITE (R117): initiator; the word for JCK_CP_CTRL. -/
def execJckCpForceOnWrite (ini : Fin 5) (w : Word) (s : State) : Host.Outcome State Fault Refusal :=
  .next (settle (s.writeOne none ini A.JCK_CP_CTRL w))

/-- JCK_CP_RETRY (R137): initiator; the word for JCK_CP_CTRL, RETRY set. -/
def execJckCpRetry (ini : Fin 5) (w : Word) (s : State) : Host.Outcome State Fault Refusal :=
  .next (settle (s.writeOne none ini A.JCK_CP_CTRL (w ||| 0x2#32)))

/-- JCK_SUBST_START (R124): initiator; the word for JCK_SUBST_REQ, START set. -/
def execJckSubstStart (ini : Fin 5) (w : Word) (s : State) : Host.Outcome State Fault Refusal :=
  .next (settle (s.writeOne none ini A.JCK_SUBST_REQ (w ||| 0x100#32)))

/-- JCK_SUBST_ABORT (R125): initiator; the word for JCK_SUBST_REQ, ABORT set. -/
def execJckSubstAbort (ini : Fin 5) (w : Word) (s : State) : Host.Outcome State Fault Refusal :=
  .next (settle (s.writeOne none ini A.JCK_SUBST_REQ (w ||| 0x200#32)))

/-- JCK_IMP_MEASURE (R134): initiator; jack n; the word for JCKn_IMP_CTRL, MEASURE set. -/
def execJckImpMeasure (ini : Fin 5) (n : Fin 2) (w : Word) (s : State) : Host.Outcome State Fault Refusal :=
  .next (settle (s.writeOne none ini (A.JCK_IMP_CTRL n) (w ||| 0x1#32)))

/-- JCK_BIAS_WRITE (R127): initiator; jack n; the word for JCKn_BIAS. -/
def execJckBiasWrite (ini : Fin 5) (n : Fin 2) (w : Word) (s : State) : Host.Outcome State Fault Refusal :=
  .next (settle (s.writeOne none ini (A.JCK_BIAS n) w))

/-- JCK_CLR_COUNT (R137): initiator; jack n; the word for JCKn_EVENT, CLR_COUNT set. -/
def execJckClrCount (ini : Fin 5) (n : Fin 2) (w : Word) (s : State) : Host.Outcome State Fault Refusal :=
  .next (settle (s.writeOne none ini (A.JCK_EVENT n) (w ||| 0x1#32)))

/-- SPK_EN_WRITE (R154): initiator; channel n; the word for SPKn_CTRL, or for PG_CTRL of its page. -/
def execSpkEnWrite (ini : Fin 5) (n : Fin 4) (page : Bool) (w : Word) (s : State) : Host.Outcome State Fault Refusal :=
  .next (settle (s.writeOne none ini (if page then (0x1D + n.val) * 0x400 + 4 else A.SPK_CTRL n) w))

/-- SPK_FMT_WRITE (R141): initiator; channel n; the word for SPKn_FMT. -/
def execSpkFmtWrite (ini : Fin 5) (n : Fin 4) (w : Word) (s : State) : Host.Outcome State Fault Refusal :=
  .next (settle (s.writeOne none ini (A.SPK_FMT n) w))

/-- SPK_MUTE_WRITE (R155): initiator; channel n; the word for SPKn_CTRL. -/
def execSpkMuteWrite (ini : Fin 5) (n : Fin 4) (w : Word) (s : State) : Host.Outcome State Fault Refusal :=
  .next (settle (s.writeOne none ini (A.SPK_CTRL n) w))

/-- SPK_VOL_WRITE (R139): initiator; channel n; the word for SPKn_VOL. -/
def execSpkVolWrite (ini : Fin 5) (n : Fin 4) (w : Word) (s : State) : Host.Outcome State Fault Refusal :=
  .next (settle (s.writeOne none ini (A.SPK_VOL n) w))

/-- SPK_PWM_WRITE (R143): initiator; channel n; the word for SPKn_PWM. -/
def execSpkPwmWrite (ini : Fin 5) (n : Fin 4) (w : Word) (s : State) : Host.Outcome State Fault Refusal :=
  .next (settle (s.writeOne none ini (A.SPK_PWM n) w))

/-- SPK_CEIL_RATED_WRITE (R145): initiator; channel n; the word for SPKn_CEIL. -/
def execSpkCeilRatedWrite (ini : Fin 5) (n : Fin 4) (w : Word) (s : State) : Host.Outcome State Fault Refusal :=
  .next (settle (s.writeOne none ini (A.SPK_CEIL n) w))

/-- SPK_GUARD_CTRL_WRITE (R147): initiator; channel n; the word for SPKn_GUARD_CTRL. -/
def execSpkGuardCtrlWrite (ini : Fin 5) (n : Fin 4) (w : Word) (s : State) : Host.Outcome State Fault Refusal :=
  .next (settle (s.writeOne none ini (A.SPK_GUARD_CTRL n) w))

/-- SPK_GUARD_RESEED (R150): initiator; channel n; the word for SPKn_GUARD_CTRL, RESEED set. -/
def execSpkGuardReseed (ini : Fin 5) (n : Fin 4) (w : Word) (s : State) : Host.Outcome State Fault Refusal :=
  .next (settle (s.writeOne none ini (A.SPK_GUARD_CTRL n) (w ||| 0x10#32)))

end Sys2Proof.Machine
end

