-- ==== Sys2Proof/Machine/AudioWrites.lean ====
section
/-! DEFINITION. Register writes of the lanes, the Churn, the Fife path, the ports and the clocks (chapters 07 to 10) that start something. Each is one word written by an
initiator through the register path (R69 to R74); the block reacts as RegHook.lean says. -/

namespace Sys2Proof.Machine

/-- LANE_ENABLE_WRITE (R163): initiator; lane n; the word for PG_CTRL of its page. -/
def execLaneEnableWrite (ini : Fin 5) (n : Fin 48) (w : Word) (s : State) : Host.Outcome State Fault Refusal :=
  .next (settle (s.writeOne none ini ((0x30 + n) * 0x400 + 4) w))

/-- LANE_SRC_WRITE (R169): initiator; lane n; the word for LANEn_SRC. -/
def execLaneSrcWrite (ini : Fin 5) (n : Fin 48) (w : Word) (s : State) : Host.Outcome State Fault Refusal :=
  .next (settle (s.writeOne none ini (A.LANE_SRC n) w))

/-- LANE_OUT_WRITE (R168): initiator; lane n; the word for LANEn_OUT. -/
def execLaneOutWrite (ini : Fin 5) (n : Fin 48) (w : Word) (s : State) : Host.Outcome State Fault Refusal :=
  .next (settle (s.writeOne none ini (A.LANE_OUT n) w))

/-- LANE_MARGIN_WRITE (R172): initiator; lane n; the word for LANEn_RC. -/
def execLaneMarginWrite (ini : Fin 5) (n : Fin 48) (w : Word) (s : State) : Host.Outcome State Fault Refusal :=
  .next (settle (s.writeOne none ini (A.LANE_RC n) w))

/-- LANE_TRIM_WRITE (R177): initiator; lane n; the word for LANEn_TRIM. -/
def execLaneTrimWrite (ini : Fin 5) (n : Fin 48) (w : Word) (s : State) : Host.Outcome State Fault Refusal :=
  .next (settle (s.writeOne none ini (A.LANE_TRIM n) w))

/-- LANE_INVERT_WRITE (R177): initiator; lane n; the word for LANEn_CTRL. -/
def execLaneInvertWrite (ini : Fin 5) (n : Fin 48) (w : Word) (s : State) : Host.Outcome State Fault Refusal :=
  .next (settle (s.writeOne none ini (A.LANE_CTRL n) w))

/-- LANE_MUTE_WRITE (R188): initiator; lane n; the word for LANEn_CTRL. -/
def execLaneMuteWrite (ini : Fin 5) (n : Fin 48) (w : Word) (s : State) : Host.Outcome State Fault Refusal :=
  .next (settle (s.writeOne none ini (A.LANE_CTRL n) w))

/-- LANE_DCB_WRITE (R178): initiator; lane n; the word for LANEn_DCB. -/
def execLaneDcbWrite (ini : Fin 5) (n : Fin 48) (w : Word) (s : State) : Host.Outcome State Fault Refusal :=
  .next (settle (s.writeOne none ini (A.LANE_DCB n) w))

/-- LANE_HUM_WRITE (R179): initiator; lane n; the word for LANEn_HUM. -/
def execLaneHumWrite (ini : Fin 5) (n : Fin 48) (w : Word) (s : State) : Host.Outcome State Fault Refusal :=
  .next (settle (s.writeOne none ini (A.LANE_HUM n) w))

/-- LANE_COEF_COMMIT (R182): initiator; lane n; the word for LANEn_COEF_CTRL, COMMIT set. -/
def execLaneCoefCommit (ini : Fin 5) (n : Fin 48) (w : Word) (s : State) : Host.Outcome State Fault Refusal :=
  .next (settle (s.writeOne none ini (A.LANE_COEF_CTRL n) (w ||| 0x1#32)))

/-- LANE_DYN_WRITE (R185): initiator; lane n; the dynamics register, LANEn_DYN_CTRL first, and its word. -/
def execLaneDynWrite (ini : Fin 5) (n : Fin 48) (r : Fin 5) (w : Word) (s : State) : Host.Outcome State Fault Refusal :=
  .next (settle (s.writeOne none ini (A.LANE_DYN_CTRL n + 4 * r) w))

/-- LANE_DELAY_WRITE (R186): initiator; lane n; the word for LANEn_DELAY. -/
def execLaneDelayWrite (ini : Fin 5) (n : Fin 48) (w : Word) (s : State) : Host.Outcome State Fault Refusal :=
  .next (settle (s.writeOne none ini (A.LANE_DELAY n) w))

/-- LANE_METER_WIN_WRITE (R187): initiator; lane n; the word for LANEn_METER_CTRL. -/
def execLaneMeterWinWrite (ini : Fin 5) (n : Fin 48) (w : Word) (s : State) : Host.Outcome State Fault Refusal :=
  .next (settle (s.writeOne none ini (A.LANE_METER_CTRL n) w))

/-- LANE_CLR_HOLD (R187): initiator; lane n; the word for LANEn_METER_CTRL, CLR_HOLD set. -/
def execLaneClrHold (ini : Fin 5) (n : Fin 48) (w : Word) (s : State) : Host.Outcome State Fault Refusal :=
  .next (settle (s.writeOne none ini (A.LANE_METER_CTRL n) (w ||| 0x4#32)))

/-- LANE_CNT_CLR (R194): initiator; lane n; the word for LANEn_CNT_CLR, CLR set. -/
def execLaneCntClr (ini : Fin 5) (n : Fin 48) (w : Word) (s : State) : Host.Outcome State Fault Refusal :=
  .next (settle (s.writeOne none ini (A.LANE_CNT_CLR n) (w ||| 0x1#32)))

/-- CHN_COMMIT (R200): initiator; the word for CHN_CTRL, COMMIT set. -/
def execChnCommit (ini : Fin 5) (w : Word) (s : State) : Host.Outcome State Fault Refusal :=
  .next (settle (s.writeOne none ini A.CHN_CTRL (w ||| 0x1#32)))

/-- CHN_REVERT (R203): initiator; the word for CHN_CTRL, REVERT set. -/
def execChnRevert (ini : Fin 5) (w : Word) (s : State) : Host.Outcome State Fault Refusal :=
  .next (settle (s.writeOne none ini A.CHN_CTRL (w ||| 0x2#32)))

/-- CHN_CLR_COUNTS (R221): initiator; the word for CHN_CTRL, CLR_COUNTS set. -/
def execChnClrCounts (ini : Fin 5) (w : Word) (s : State) : Host.Outcome State Fault Refusal :=
  .next (settle (s.writeOne none ini A.CHN_CTRL (w ||| 0x4#32)))

/-- FIF_COMMIT (R216): initiator; the word for FIF_CTRL, COMMIT set. -/
def execFifCommit (ini : Fin 5) (w : Word) (s : State) : Host.Outcome State Fault Refusal :=
  .next (settle (s.writeOne none ini A.FIF_CTRL (w ||| 0x1#32)))

/-- SAP_ENABLE_WRITE (R237): initiator; port p; the word for PG_CTRL of its page. -/
def execSapEnableWrite (ini : Fin 5) (p : Fin 8) (w : Word) (s : State) : Host.Outcome State Fault Refusal :=
  .next (settle (s.writeOne none ini ((0x21 + p) * 0x400 + 4) w))

/-- SAP_RECONFIG_WRITE (R237): initiator; port p; the word for SAPp_CTRL or SAPp_FMT. -/
def execSapReconfigWrite (ini : Fin 5) (p : Fin 8) (ctrl : Bool) (w : Word) (s : State) : Host.Outcome State Fault Refusal :=
  .next (settle (s.writeOne none ini (if ctrl then A.SAP_CTRL p else A.SAP_FMT p) w))

/-- SAP_MASK_WRITE (R233): initiator; port p; the word for SAPp_SLOT_MASK_RX or SAPp_SLOT_MASK_TX. -/
def execSapMaskWrite (ini : Fin 5) (p : Fin 8) (rx : Bool) (w : Word) (s : State) : Host.Outcome State Fault Refusal :=
  .next (settle (s.writeOne none ini (if rx then A.SAP_SLOT_MASK_RX p else A.SAP_SLOT_MASK_TX p) w))

/-- SAP_IDLE_HIZ_WRITE (R234): initiator; port p; the word for SAPp_CTRL. -/
def execSapIdleHizWrite (ini : Fin 5) (p : Fin 8) (w : Word) (s : State) : Host.Outcome State Fault Refusal :=
  .next (settle (s.writeOne none ini (A.SAP_CTRL p) w))

/-- SAP_MCLK_WRITE (R239): initiator; output p; the word for SAPp_MCLK. -/
def execSapMclkWrite (ini : Fin 5) (p : Fin 4) (w : Word) (s : State) : Host.Outcome State Fault Refusal :=
  .next (settle (s.writeOne none ini (A.SAP_MCLK p) w))

/-- SAP_CNT_CLR (R255): initiator; port p; the word for SAPp_CNT_CLR, CLR set. -/
def execSapCntClr (ini : Fin 5) (p : Fin 8) (w : Word) (s : State) : Host.Outcome State Fault Refusal :=
  .next (settle (s.writeOne none ini (A.SAP_CNT_CLR p) (w ||| 0x1#32)))

/-- PDM_GROUP_CHANGE (R243): initiator; PDM_CLK_CTRL, PDM_LINE or PDM_FMT, and its word. -/
def execPdmGroupChange (ini : Fin 5) (r : Fin 3) (w : Word) (s : State) : Host.Outcome State Fault Refusal :=
  .next (settle (s.writeOne none ini (match r with | 0 => A.PDM_CLK_CTRL | 1 => A.PDM_LINE | 2 => A.PDM_FMT) w))

/-- PDM_MIC_EN_WRITE (R243): initiator; the word for PDM_MIC_EN. -/
def execPdmMicEnWrite (ini : Fin 5) (w : Word) (s : State) : Host.Outcome State Fault Refusal :=
  .next (settle (s.writeOne none ini A.PDM_MIC_EN w))

/-- PDM_ENABLE_WRITE (R258): initiator; the word for PG_CTRL of the PDM page. -/
def execPdmEnableWrite (ini : Fin 5) (w : Word) (s : State) : Host.Outcome State Fault Refusal :=
  .next (settle (s.writeOne none ini (0x29 * 0x400 + 4) w))

/-- SPD_RX_CTRL_WRITE (R246): initiator; the word for SPD_RX_CTRL. -/
def execSpdRxCtrlWrite (ini : Fin 5) (w : Word) (s : State) : Host.Outcome State Fault Refusal :=
  .next (settle (s.writeOne none ini A.SPD_RX_CTRL w))

/-- SPD_TX_EN_WRITE (R250): initiator; the word for SPD_TX_CTRL. -/
def execSpdTxEnWrite (ini : Fin 5) (w : Word) (s : State) : Host.Outcome State Fault Refusal :=
  .next (settle (s.writeOne none ini A.SPD_TX_CTRL w))

/-- SPD_TX_RATE_WRITE (R251): initiator; the word for SPD_TX_CTRL. -/
def execSpdTxRateWrite (ini : Fin 5) (w : Word) (s : State) : Host.Outcome State Fault Refusal :=
  .next (settle (s.writeOne none ini A.SPD_TX_CTRL w))

/-- SPD_PASS_WRITE (R253): initiator; the word for SPD_TX_CTRL. -/
def execSpdPassWrite (ini : Fin 5) (w : Word) (s : State) : Host.Outcome State Fault Refusal :=
  .next (settle (s.writeOne none ini A.SPD_TX_CTRL w))

/-- SPD_CNT_CLR (R259): initiator; the word for SPD_CNT_CLR, CLR set. -/
def execSpdCntClr (ini : Fin 5) (w : Word) (s : State) : Host.Outcome State Fault Refusal :=
  .next (settle (s.writeOne none ini A.SPD_CNT_CLR (w ||| 0x1#32)))

/-- CLK_ENGINE_FE_WRITE (R271): initiator; the word for CLK_ENGINE. -/
def execClkEngineFeWrite (ini : Fin 5) (w : Word) (s : State) : Host.Outcome State Fault Refusal :=
  .next (settle (s.writeOne none ini A.CLK_ENGINE w))

/-- CLK_TAKEOVER_START (R273): initiator; the word for CLK_TAKEOVER, START set. -/
def execClkTakeoverStart (ini : Fin 5) (w : Word) (s : State) : Host.Outcome State Fault Refusal :=
  .next (settle (s.writeOne none ini A.CLK_TAKEOVER (w ||| 0x100#32)))

/-- CLK_TAKEOVER_ABORT (R276): initiator; the word for CLK_TAKEOVER, ABORT set. -/
def execClkTakeoverAbort (ini : Fin 5) (w : Word) (s : State) : Host.Outcome State Fault Refusal :=
  .next (settle (s.writeOne none ini A.CLK_TAKEOVER (w ||| 0x200#32)))

/-- CLK_TRK_CLR (R284): initiator; the word for CLK_TRK_CLR. -/
def execClkTrkClr (ini : Fin 5) (w : Word) (s : State) : Host.Outcome State Fault Refusal :=
  .next (settle (s.writeOne none ini A.CLK_TRK_CLR w))

end Sys2Proof.Machine
end

