-- ==== Sys2Proof/Machine/SmbTx.lean ====
section
/-! DEFINITION. The register transactions of the management bus (R427 to R436) and of the test access port (R466, R467). -/

namespace Sys2Proof.Machine

/-! ## SMBus transactions

The operand `bytes` is what the host writes after the command byte, up to P or Sr. -/

/-- Is PEC in use (R435)? -/
def State.pecOn (s : State) : Bool := s.on F.SMB_CFG_PEC_EN

/-- The write address byte of the target (R427). -/
def State.smbAw (s : State) : Nat := 0xB4 + 2 * s.get F.SYS_STRAP_ADDR_LVL

/-- A little-endian word of four bytes (R5). -/
def wordOf (b0 b1 b2 b3 : Nat) : Word := word (b0 % 256 + b1 % 256 * 2 ^ 8 + b2 % 256 * 2 ^ 16 + b3 % 256 * 2 ^ 24)

/-- Words of a run of bytes, whole words only. -/
def wordsLe : List Nat → List Word
  | b0 :: b1 :: b2 :: b3 :: t => wordOf b0 b1 b2 b3 :: wordsLe t
  | _ => []

/-- The bytes a written block must have after its command byte: the count byte, what it declares, the PEC (R429, R430). -/
def State.blockLen (s : State) (bytes : List Nat) : Nat := 1 + bytes.getD 0 0 % 256 + b2n s.pecOn

/-- The check of a whole written block (R70, R429, R435): 8 bad count or unfinished, 6 PEC, 0 sound. `legal` is the count rule. -/
def State.blockCode (s : State) (cmd : Nat) (legal : Nat → Bool) (bytes : List Nat) : Nat :=
  let n := bytes.getD 0 0 % 256
  let body := bytes.take (1 + n)
  if bytes = [] ∨ !legal n then 8
  else if s.pecOn ∧ bytes.length = 1 + n then 6
  else if bytes.length ≠ s.blockLen bytes then 8
  else if s.pecOn ∧ crc8 (s.smbAw :: cmd :: body) ≠ bytes.getD (1 + n) 0 % 256 then 6
  else 0

/-- Would a written word raise a violation as the state stands (R429: the check at the final byte)? -/
def State.wouldStrike (s : State) (ini a : Nat) (w : Word) : Bool :=
  decide (s.refusal ini true a w ≠ 0) ||
  (match placeOf a with
   | .reg _ _ => (match regDefAt a with
     | some d => (d.take (s.reg a) w).2 || (together a (s.reg a) w (d.take (s.reg a) w).1).2
     | none => false)
   | _ => false)

/-- A transaction's status is held, unless its own words reset the hub. -/
def State.smbEnd (s : State) (cmd : Nat) (d : Done) : State := s.when (decide (s.domState ≤ 2)) (·.smbGive cmd d.code d.words)

/-- A transaction meets the target: the management island serves it, or the AON matcher takes its command byte (R439, R463). BUSY
stands while the target serves it, and its own reads see it (R449). -/
def State.smbTake (s : State) (cmd : Nat) (f : State → State) : State :=
  if s.smbServes then (f (s.smbOpen.set F.SMB_STATE_BUSY 1)).set F.SMB_STATE_BUSY 0
  else if s.smbMatches then s.smbDeep cmd
  else s.smbAnswer false []

/-- A refused written block: logged with the address where it was received (R74). -/
def State.smbRefuse (s : State) (cmd code : Nat) (bytes : List Nat) : State :=
  let r := s.refuseTransfer 0 code (smbDir cmd bytes) (smbAddr bytes)
  (r.1.smbGive cmd code 0).smbAnswer false []

/-- WRITE_BLOCK (R429, R430). -/
def State.smbWriteBlock (s : State) (bytes : List Nat) : State :=
  let c := s.blockCode 0x20 (fun n => decide (7 ≤ n) && decide (n % 4 = 3)) bytes
  if c ≠ 0 then s.smbRefuse 0x20 c bytes
  else
    let a := (smbAddr bytes).getD 0
    let ws := wordsLe ((bytes.drop 4).take (bytes.getD 0 0 % 256 - 3))
    let bad := (List.range ws.length).any (fun k => s.wouldStrike 0 (a + 4 * k) (ws.getD k 0))
    let r := s.writeTransfer 0 a ws
    (r.1.smbEnd 0x20 r.2).smbAnswer (!bad) []

/-- RMW (R432). -/
def State.smbRmw (s : State) (bytes : List Nat) : State :=
  let c := s.blockCode 0x23 (fun n => decide (n = 11)) bytes
  if c ≠ 0 then s.smbRefuse 0x23 c bytes
  else
    let a := (smbAddr bytes).getD 0
    let ws := wordsLe ((bytes.drop 4).take 8)
    let mask := ws.getD 0 0
    let value := ws.getD 1 0
    let bad := if mask = 0 then decide (s.refusal 0 false a 0 ≠ 0) || (s.peek a).2
      else s.wouldStrike 0 a (s.rmwWord a mask value) || (s.peek a).2
    let r := s.rmw 0 a mask value
    (r.1.smbEnd 0x23 r.2).smbAnswer (!bad) []

/-- A reply with its PEC (R430, R431, R435). -/
def State.smbReply (s : State) (request body : List Nat) : List Nat :=
  if s.pecOn then body ++ [crc8 (request ++ body)] else body

/-- READ_BLOCK (R430, R431): the count, three address bytes and k; the words are read when the reply is sent. -/
def State.smbReadBlock (s : State) (bytes : List Nat) : State :=
  let k := bytes.getD 4 0 % 256
  let request := (s.smbAw :: 0x21 :: bytes.map (· % 256)) ++ [s.smbAw + 1]
  if bytes.length ≠ 5 ∨ bytes.getD 0 0 % 256 ≠ 4 ∨ k = 0 ∨ 63 < k then
    let r := s.refuseTransfer 0 8 false (smbAddr bytes)
    (r.1.smbGive 0x21 8 0).smbAnswer true (s.smbReply request [1, 8])
  else
    let r := s.getWords 0 k ((smbAddr bytes).getD 0) ⟨0, 0⟩
    (r.1.smbEnd 0x21 r.2.2).smbAnswer true (s.smbReply request ((1 + 4 * k) :: r.2.2.code :: r.2.1.flatMap bytes4))

/-- STATUS (R436): the last status, which it leaves. -/
def State.smbStatus (s : State) : State :=
  s.smbAnswer true (s.smbReply [s.smbAw, 0x22, s.smbAw + 1] [s.get F.SMB_LAST_STATUS])

/-! ## The test access port (R466, R467) -/

/-- Update the test access port. -/
def State.modJtag (s : State) (f : Jtag → Jtag) : State := { s with jtag := f s.jtag }

/-- The result word of an access (R467): data, status, ERROR, DONE. -/
def jtagWord (data : Word) (code : Nat) : Nat := 2 ^ 37 + b2n (decide (code ≠ 0)) * 2 ^ 36 + code % 16 * 2 ^ 32 + data.toNat

/-- An access ends with a result. -/
def State.jtagEnd (s : State) (ir : Nat) (data : Word) (code : Nat) : State :=
  s.modJtag (fun j => { j with ir := ir, result := jtagWord data code })

/-- REG_ACCESS: 0x04 without a running management island, recorded while that island is powered (R74). -/
def State.jtagAccess (s : State) (dr : BitVec 56) : State :=
  let a := dr.toNat / 2 ^ 32 % 2 ^ 18
  let w := word (dr.toNat % 2 ^ 32)
  let write := decide (dr.toNat / 2 ^ 50 % 2 = 1)
  if !s.pathOpen 3 then (s.when (decide (s.domState ≤ 2)) (·.violation 3 4 write (some a))).jtagEnd 8 0 4
  else if write then
    let r := s.writeTransfer 3 a [w]
    r.1.jtagEnd 8 0 r.2.code
  else
    let r := s.getWords 3 1 a ⟨0, 0⟩
    r.1.jtagEnd 8 (r.2.1.getD 0 0) r.2.2.code

/-- The code of a SNAPSHOT read (R464, R465, R467), in the order of R72. -/
def State.snapshotCode (s : State) (write : Bool) (a : Nat) : Nat :=
  if placeOf a = .none then 1
  else if s.wipeBars false (placeOf a) then 5
  else if !s.debugOk then 3
  else if !s.frozen then 4
  else if write then 2
  else
    let c := s.refusal 3 false a 0
    if c = 0 ∧ (s.peek a).2 then 10 else c

/-- SNAPSHOT: a read through the scan paths, in freeze. Its violation is recorded also while freeze has stopped the management island
(R74): the scan paths reach its log. -/
def State.jtagSnapshot (s : State) (dr : BitVec 56) : State :=
  let a := dr.toNat / 2 ^ 32 % 2 ^ 18
  let write := decide (dr.toNat / 2 ^ 50 % 2 = 1)
  let c := s.snapshotCode write a
  let data := if c = 0 then (s.peek a).1 else 0
  (s.when (decide (c ≠ 0) && decide (s.domState ≤ 2)) (·.violation 3 c write (some a))).jtagEnd 9 data c

/-! ## Meanings -/

/-- SMB_WRITE_BLOCK (R430): the bytes after the command byte. -/
def execSmbWriteBlock (bytes : List Nat) (s : State) : Host.Outcome State Fault Refusal :=
  .next (settle (s.smbTake 0x20 (·.smbWriteBlock bytes)))
/-- SMB_READ_BLOCK (R430): the bytes after the command byte, up to Sr. -/
def execSmbReadBlock (bytes : List Nat) (s : State) : Host.Outcome State Fault Refusal :=
  .next (settle (s.smbTake 0x21 (·.smbReadBlock bytes)))
/-- SMB_STATUS (R436). -/
def execSmbStatus (s : State) : Host.Outcome State Fault Refusal := .next (settle (s.smbTake 0x22 State.smbStatus))
/-- SMB_RMW (R432): the bytes after the command byte. -/
def execSmbRmw (bytes : List Nat) (s : State) : Host.Outcome State Fault Refusal :=
  .next (settle (s.smbTake 0x23 (·.smbRmw bytes)))
/-- JTAG_REG_ACCESS (R467): the shifted-in word. -/
def execJtagRegAccess (dr : BitVec 56) (s : State) : Host.Outcome State Fault Refusal := .next (settle (s.jtagAccess dr))
/-- JTAG_SNAPSHOT (R467): the shifted-in word. -/
def execJtagSnapshot (dr : BitVec 56) (s : State) : Host.Outcome State Fault Refusal := .next (settle (s.jtagSnapshot dr))
/-- JTAG_FREEZE_CTL (R466): bit 0 requests freeze, bit 1 resume; the level of FREEZE and the microseconds since FROZEN. -/
def execJtagFreezeCtl (dr : BitVec 8) (level : Bool) (us : Nat) (s : State) : Host.Outcome State Fault Refusal :=
  .next (settle (((s.modJtag (fun j => { j with ir := 0xA })).when (decide (dr.toNat % 2 = 1)) (·.freezeRequest 3)).when
    (decide (dr.toNat / 2 % 2 = 1)) (·.resumeRequest level us)))
/-- JTAG_EXTEST (R466): the balls' levels at Capture-DR, and the register at Update-DR, which drives the balls. -/
def execJtagExtest (captured driven : List Bool) (s : State) : Host.Outcome State Fault Refusal :=
  .next (settle (s.modJtag (fun j => { j with ir := 0, captured := captured, driven := driven })))
/-- JTAG_SAMPLE_PRELOAD (R466): the balls' levels at Capture-DR, and the register at Update-DR, which drives nothing yet. -/
def execJtagSamplePreload (captured driven : List Bool) (s : State) : Host.Outcome State Fault Refusal :=
  .next (settle (s.modJtag (fun j => { j with ir := 1, captured := captured, driven := driven })))
/-- JTAG_TEST_LOGIC_RESET (R466): BYPASS. -/
def execJtagTestLogicReset (s : State) : Host.Outcome State Fault Refusal :=
  .next (settle (s.modJtag (fun j => { j with ir := 0xF })))

end Sys2Proof.Machine
end

