-- ==== Sys2Proof/Machine/ImgRun.lean ====
section
/-! DEFINITION. The records of a boot image (R487, R490 to R492), performed one by one with initiator code 2. -/

namespace Sys2Proof.Machine

/-- The words of the record in force. -/
def State.record (s : State) : List Word :=
  let at_ := s.ldr.pos / 4
  let n := (recordWords (s.stageWord at_)).getD 1
  (List.range n).map (fun k => s.stageWord (at_ + k))

/-- A word of the record in force. -/
def State.recordWord (s : State) (k : Nat) : Word := s.stageWord (s.ldr.pos / 4 + k)

/-- The next record is in force. -/
def State.recordNext (s : State) : State :=
  s.modLdr (fun l => { l with st := .run, pos := l.pos + 4 * s.record.length, waited := 0, lanes := [] })

/-- The loader performs a record of this type when one is in force and the management island runs (R487, R492). -/
def State.recordTake (s : State) (type : Nat) (f : State → State) : State :=
  s.when (s.pathOpen 2 && decide (s.ldr.st = .run) && decide (bits (s.recordWord 0) 0 8 = type)) f

/-- The loader continues a record that waits. -/
def State.recordWait (s : State) (st : LoadState) (f : State → State) : State :=
  s.when (s.pathOpen 2 && decide (s.ldr.st = st)) f

/-- The load ends as failed at the record in force (R490, R491). -/
def State.recordFail (s : State) (error detail : Nat) : State := s.ldrEnd error detail s.ldr.pos

/-- A transfer of a record ends: a violation fails the load (R490); a word that reset the hub has lost it (R492). -/
def State.recordEnd (r : State × Done) : State :=
  r.1.when (r.1.pathOpen 2 || r.1.frozen) (fun s => if r.2.code ≠ 0 then s.recordFail 7 r.2.code else s.recordNext)

/-- WRITE. -/
def State.imgWrite (s : State) : State :=
  s.recordTake 0x01 (fun s => State.recordEnd (s.writeTransfer 2 (s.recordWord 1).toNat (s.record.drop 2)))

/-- RMW. -/
def State.imgRmw (s : State) : State :=
  s.recordTake 0x02 (fun s => State.recordEnd (s.rmw 2 (s.recordWord 1).toNat (s.recordWord 2) (s.recordWord 3)))

/-- WAIT starts polling. -/
def State.imgWait (s : State) : State := s.recordTake 0x03 (fun s => s.modLdr (fun l => { l with st := .poll, waited := 0 }))

/-- One poll of a WAIT, 10 µs after the one before: a refused read fails the load as a violation does (R490); after TIMEOUT the record
fails. -/
def State.imgPoll (s : State) : State :=
  s.recordWait .poll (fun s =>
    let r := s.getWords 2 1 (s.recordWord 1).toNat ⟨0, 0⟩
    let s := r.1
    if r.2.2.code ≠ 0 then s.recordFail 7 r.2.2.code
    else if (r.2.1.getD 0 0) &&& s.recordWord 2 = s.recordWord 3 then s.recordNext
    else if (s.recordWord 4).toNat ≤ s.ldr.waited then s.recordFail 8 0
    else s.modLdr (fun l => { l with waited := l.waited + 10 }))

/-- DELAY starts. -/
def State.imgDelay (s : State) : State := s.recordTake 0x04 (fun s => s.modLdr (fun l => { l with st := .delay }))

/-- The lanes a COMMIT record names, in index order (R487). -/
def State.commitLanes (s : State) : List Nat :=
  (List.range 48).filter (fun n => decide (bits (s.recordWord (2 + n / 32)) (n % 32) 1 = 1))

/-- Write a COMMIT bit, the other fields of its register kept; a refused write fails the load (R490). -/
def State.commitWrite (s : State) (a : Nat) : State :=
  let r := s.putWords none 2 a [s.reg a ||| 1#32] ⟨0, 0⟩
  r.1.when (decide (r.2.code ≠ 0)) (·.recordFail 7 r.2.code)

/-- Start the commit of the first lane still to finish; with none the record is over. -/
def State.commitFirst (s : State) : State :=
  match s.ldr.lanes with
  | [] => s.recordNext
  | n :: _ => s.commitWrite (A.LANE_COEF_CTRL n)

/-- COMMIT: the target's COMMIT bit. -/
def State.imgCommit (s : State) : State :=
  s.recordTake 0x05 (fun s =>
    let target := (s.recordWord 1).toNat
    let s := s.modLdr (fun l => { l with st := .commit, lanes := s.commitLanes })
    if target = 2 then s.commitFirst
    else s.commitWrite (if target = 0 then A.CHN_CTRL else A.FIF_CTRL))

/-- Is the commit in force over, and did it fail (a lane's ERR)? -/
def State.commitState (s : State) : Bool × Bool :=
  match (s.recordWord 1).toNat with
  | 0 => (!s.on F.CHN_STATUS_BUSY, false)
  | 1 => (!s.on F.FIF_STATUS_RAMPING, false)
  | _ => match s.ldr.lanes with
    | [] => (true, false)
    | n :: _ => (!s.on (F.LANE_COEF_STATUS_BUSY n), s.on (F.LANE_COEF_STATUS_ERR n))

/-- The commit's wait ends: its condition is met and the next lane or record follows, or it has failed or met its bound. -/
def State.imgCommitDone (s : State) (timeout : Bool) : State :=
  s.recordWait .commit (fun s =>
    let target := (s.recordWord 1).toNat
    let c := s.commitState
    if c.2 then s.recordFail 9 target
    else if c.1 then
      if target = 2 then (s.modLdr (fun l => { l with lanes := l.lanes.drop 1 })).commitFirst else s.recordNext
    else if timeout then s.recordFail 9 target
    else s)

/-- END: the load is done, with LENGTH as its offset (R491). -/
def State.imgEnd (s : State) : State :=
  s.recordTake 0x0F (fun s => s.ldrEnd 0 0 (s.stageWord 2).toNat)

/-! ## Meanings -/

/-- IMG_WRITE (R487). -/
def execImgWrite (s : State) : Host.Outcome State Fault Refusal := .next (settle s.imgWrite)
/-- IMG_RMW (R487). -/
def execImgRmw (s : State) : Host.Outcome State Fault Refusal := .next (settle s.imgRmw)
/-- IMG_WAIT (R487). -/
def execImgWait (s : State) : Host.Outcome State Fault Refusal := .next (settle s.imgWait)
/-- IMG_WAIT_POLL (R487). -/
def execImgWaitPoll (s : State) : Host.Outcome State Fault Refusal := .next (settle s.imgPoll)
/-- IMG_DELAY (R487). -/
def execImgDelay (s : State) : Host.Outcome State Fault Refusal := .next (settle s.imgDelay)
/-- IMG_DELAY_EXPIRE (R487). -/
def execImgDelayExpire (s : State) : Host.Outcome State Fault Refusal := .next (settle (s.recordWait .delay State.recordNext))
/-- IMG_COMMIT (R487). -/
def execImgCommit (s : State) : Host.Outcome State Fault Refusal := .next (settle s.imgCommit)
/-- IMG_COMMIT_COMPLETE (R487): the 100 ms of the wait are over. -/
def execImgCommitComplete (timeout : Bool) (s : State) : Host.Outcome State Fault Refusal := .next (settle (s.imgCommitDone timeout))
/-- IMG_END (R487). -/
def execImgEnd (s : State) : Host.Outcome State Fault Refusal := .next (settle s.imgEnd)

end Sys2Proof.Machine
end

