-- ==== Sys2Proof/Machine/SystemWrites.lean ====
section
/-! DEFINITION. Register writes of the USB, listening, sense, power, memory, maintenance and system pages (chapters 03 and 11 to 19) that start something. Each is one word written by an
initiator through the register path (R69 to R74); the block reacts as RegHook.lean says. -/

namespace Sys2Proof.Machine

/-- PG_ERR_CLR (R60): initiator; page; the word for its PG_CTRL, ERR_CLR set. -/
def execPgErrClr (ini : Fin 5) (page : Fin 96) (w : Word) (s : State) : Host.Outcome State Fault Refusal :=
  .next (settle (s.writeOne none ini (page.val * 0x400 + 4) (w ||| 0x4#32)))

/-- DBG_VIOL_CLEAR (R74): initiator; the word for DBG_VIOL_CTRL, CLEAR set. -/
def execDbgViolClear (ini : Fin 5) (w : Word) (s : State) : Host.Outcome State Fault Refusal :=
  .next (settle (s.writeOne none ini A.DBG_VIOL_CTRL (w ||| 0x1#32)))

/-- USB_ENABLE_WRITE (R286): initiator; the word for PG_CTRL of the USB page. -/
def execUsbEnableWrite (ini : Fin 5) (w : Word) (s : State) : Host.Outcome State Fault Refusal :=
  .next (settle (s.writeOne none ini (0x0A * 0x400 + 4) w))

/-- USB_CFG_WRITE (R287): initiator; the word for USB_CFG. -/
def execUsbCfgWrite (ini : Fin 5) (w : Word) (s : State) : Host.Outcome State Fault Refusal :=
  .next (settle (s.writeOne none ini A.USB_CFG w))

/-- USB_HIST_START_WRITE (R304): initiator; the word for USB_HIST_CTRL, START set. -/
def execUsbHistStartWrite (ini : Fin 5) (w : Word) (s : State) : Host.Outcome State Fault Refusal :=
  .next (settle (s.writeOne none ini A.USB_HIST_CTRL (w ||| 0x1#32)))

/-- USB_HIST_STOP_WRITE (R305): initiator; the word for USB_HIST_CTRL, STOP set. -/
def execUsbHistStopWrite (ini : Fin 5) (w : Word) (s : State) : Host.Outcome State Fault Refusal :=
  .next (settle (s.writeOne none ini A.USB_HIST_CTRL (w ||| 0x2#32)))

/-- USB_WAKE_NOW (R307): initiator; the word for USB_WAKE, NOW set. -/
def execUsbWakeNow (ini : Fin 5) (w : Word) (s : State) : Host.Outcome State Fault Refusal :=
  .next (settle (s.writeOne none ini A.USB_WAKE (w ||| 0x20#32)))

/-- USB_CNT_CLR (R309): initiator; the word for USB_CNT_CLR, CLR set. -/
def execUsbCntClr (ini : Fin 5) (w : Word) (s : State) : Host.Outcome State Fault Refusal :=
  .next (settle (s.writeOne none ini A.USB_CNT_CLR (w ||| 0x1#32)))

/-- LST_ENABLE_WRITE (R316): initiator; the word for PG_CTRL of the LST page. -/
def execLstEnableWrite (ini : Fin 5) (w : Word) (s : State) : Host.Outcome State Fault Refusal :=
  .next (settle (s.writeOne none ini (0x0C * 0x400 + 4) w))

/-- LST_DISARM (R331): initiator; the word for LST_CTRL, DISARM set. -/
def execLstDisarm (ini : Fin 5) (w : Word) (s : State) : Host.Outcome State Fault Refusal :=
  .next (settle (s.writeOne none ini A.LST_CTRL (w ||| 0x2#32)))

/-- LST_CLR_COUNTS (R336): initiator; the word for LST_CTRL, CLR_COUNTS set. -/
def execLstClrCounts (ini : Fin 5) (w : Word) (s : State) : Host.Outcome State Fault Refusal :=
  .next (settle (s.writeOne none ini A.LST_CTRL (w ||| 0x4#32)))

/-- LST_MODEL_BEGIN (R324): initiator; the word for LST_MODEL_CTRL, BEGIN set. -/
def execLstModelBegin (ini : Fin 5) (w : Word) (s : State) : Host.Outcome State Fault Refusal :=
  .next (settle (s.writeOne none ini A.LST_MODEL_CTRL (w ||| 0x1#32)))

/-- LST_MODEL_WIN_WRITE (R324): initiator; window word k and its value. -/
def execLstModelWinWrite (ini : Fin 5) (k : Fin 32) (w : Word) (s : State) : Host.Outcome State Fault Refusal :=
  .next (settle (s.writeOne none ini (A.LST_MODEL_WIN k) w))

/-- LST_MODEL_END (R324): initiator; the word for LST_MODEL_CTRL, END set. -/
def execLstModelEnd (ini : Fin 5) (w : Word) (s : State) : Host.Outcome State Fault Refusal :=
  .next (settle (s.writeOne none ini A.LST_MODEL_CTRL (w ||| 0x2#32)))

/-- SNS_RUN_WRITE (R346): initiator; the word for SNS_SEQ_CTRL. -/
def execSnsRunWrite (ini : Fin 5) (w : Word) (s : State) : Host.Outcome State Fault Refusal :=
  .next (settle (s.writeOne none ini A.SNS_SEQ_CTRL w))

/-- SNS_SW_TRIG (R347): initiator; the word for SNS_SEQ_CTRL, SW_TRIG set. -/
def execSnsSwTrig (ini : Fin 5) (w : Word) (s : State) : Host.Outcome State Fault Refusal :=
  .next (settle (s.writeOne none ini A.SNS_SEQ_CTRL (w ||| 0x2#32)))

/-- SNS_ABORT (R346): initiator; the word for SNS_SEQ_CTRL, ABORT set. -/
def execSnsAbort (ini : Fin 5) (w : Word) (s : State) : Host.Outcome State Fault Refusal :=
  .next (settle (s.writeOne none ini A.SNS_SEQ_CTRL (w ||| 0x4#32)))

/-- SNS_URGENT_START (R350): initiator; the word for SNS_URGENT, START set. -/
def execSnsUrgentStart (ini : Fin 5) (w : Word) (s : State) : Host.Outcome State Fault Refusal :=
  .next (settle (s.writeOne none ini A.SNS_URGENT (w ||| 0x1000000#32)))

/-- SNS_DRONE_WRITE (R351): initiator; drone k; the word for SNS_DRONEk_CFG. -/
def execSnsDroneWrite (ini : Fin 5) (k : Fin 4) (w : Word) (s : State) : Host.Outcome State Fault Refusal :=
  .next (settle (s.writeOne none ini (A.SNS_DRONE_CFG k) w))

/-- SNS_PP_WRITE (R356): initiator; the word for SNS_PP_CTRL. -/
def execSnsPpWrite (ini : Fin 5) (w : Word) (s : State) : Host.Outcome State Fault Refusal :=
  .next (settle (s.writeOne none ini A.SNS_PP_CTRL w))

/-- SNS_DIAG_START (R357): initiator; the word for SNS_DIAG_CTRL, START set. -/
def execSnsDiagStart (ini : Fin 5) (w : Word) (s : State) : Host.Outcome State Fault Refusal :=
  .next (settle (s.writeOne none ini A.SNS_DIAG_CTRL (w ||| 0x1#32)))

/-- SNS_CNT_CLR (R360): initiator; the word for SNS_CNT_CLR, CLR set. -/
def execSnsCntClr (ini : Fin 5) (w : Word) (s : State) : Host.Outcome State Fault Refusal :=
  .next (settle (s.writeOne none ini A.SNS_CNT_CLR (w ||| 0x1#32)))

/-- PWR_GO (R364): initiator; the word for PWR_CTRL, GO set. -/
def execPwrGo (ini : Fin 5) (w : Word) (s : State) : Host.Outcome State Fault Refusal :=
  .next (settle (s.writeOne none ini A.PWR_CTRL (w ||| 0x10#32)))

/-- PWR_CANCEL (R367): initiator; the word for PWR_CTRL, CANCEL set. -/
def execPwrCancel (ini : Fin 5) (w : Word) (s : State) : Host.Outcome State Fault Refusal :=
  .next (settle (s.writeOne none ini A.PWR_CTRL (w ||| 0x20#32)))

/-- PWR_ACCT_CLR (R382): initiator; the word for PWR_ACCT_CLR, CLR set. -/
def execPwrAcctClr (ini : Fin 5) (w : Word) (s : State) : Host.Outcome State Fault Refusal :=
  .next (settle (s.writeOne none ini A.PWR_ACCT_CLR (w ||| 0x1#32)))

/-- PMB_CMD_CLEAR_FAULTS (R377, R384): initiator; how its exchange fails, 0 not at all; the word for PMB_CMD, CLEAR_FAULTS set. A
READ_NOW in the same word reads free values. -/
def execPmbCmdClearFaults (ini : Fin 5) (why : Fin 4) (w : Word) (s : State) : Host.Outcome State Fault Refusal :=
  .next (settle (s.writeOne (some { s.facts with clear := why.val }) ini A.PMB_CMD (w ||| 0x1#32)))

/-- PMB_CNT_CLR (R384): initiator; the word for PMB_CNT_CLR, CLR set. -/
def execPmbCntClr (ini : Fin 5) (w : Word) (s : State) : Host.Outcome State Fault Refusal :=
  .next (settle (s.writeOne none ini A.PMB_CNT_CLR (w ||| 0x1#32)))

/-- BLW_CONFIG_WRITE (R403): initiator; the register that the floor check guards, and its word. -/
def execBlwConfigWrite (ini : Fin 5) (r : BlwReg) (w : Word) (s : State) : Host.Outcome State Fault Refusal :=
  .next (settle (s.writeOne none ini (blwAddr r) w))

/-- BLW_COLD (R395): initiator; the word for BLW_CTRL, COLD set. -/
def execBlwCold (ini : Fin 5) (w : Word) (s : State) : Host.Outcome State Fault Refusal :=
  .next (settle (s.writeOne none ini A.BLW_CTRL (w ||| 0x1#32)))

/-- BLW_CLR_COUNTS (R405): initiator; the word for BLW_CTRL, CLR_COUNTS set. -/
def execBlwClrCounts (ini : Fin 5) (w : Word) (s : State) : Host.Outcome State Fault Refusal :=
  .next (settle (s.writeOne none ini A.BLW_CTRL (w ||| 0x2#32)))

/-- MEM_WIPE_REQ (R418): initiator; the word for MEM_WIPE_REQ. -/
def execMemWipeReq (ini : Fin 5) (w : Word) (s : State) : Host.Outcome State Fault Refusal :=
  .next (settle (s.writeOne none ini A.MEM_WIPE_REQ w))

/-- MEM_CLR_TRACK (R425): initiator; the word for MEM_CTRL, CLR_TRACK set. -/
def execMemClrTrack (ini : Fin 5) (w : Word) (s : State) : Host.Outcome State Fault Refusal :=
  .next (settle (s.writeOne none ini A.MEM_CTRL (w ||| 0x4#32)))

/-- MEM_CLR_COUNTS (R425): initiator; the word for MEM_CTRL, CLR_COUNTS set. -/
def execMemClrCounts (ini : Fin 5) (w : Word) (s : State) : Host.Outcome State Fault Refusal :=
  .next (settle (s.writeOne none ini A.MEM_CTRL (w ||| 0x2#32)))

/-- SMB_REC_RETRY (R449): initiator; port 0 SMBus, 1 regulator; the word for SMB_REC_CTRL, the port's bit set. -/
def execSmbRecRetry (ini : Fin 5) (port : Fin 2) (w : Word) (s : State) : Host.Outcome State Fault Refusal :=
  .next (settle (s.writeOne none ini A.SMB_REC_CTRL (w ||| word (2 ^ port.val))))

/-- SMB_CNT_CLR (R449): initiator; the word for SMB_CNT_CLR, CLR set. -/
def execSmbCntClr (ini : Fin 5) (w : Word) (s : State) : Host.Outcome State Fault Refusal :=
  .next (settle (s.writeOne none ini A.SMB_CNT_CLR (w ||| 0x1#32)))

/-- MNT_POST_START (R456): initiator; the word for MNT_POST, START set. -/
def execMntPostStart (ini : Fin 5) (w : Word) (s : State) : Host.Outcome State Fault Refusal :=
  .next (settle (s.writeOne none ini A.MNT_POST (w ||| 0x4000#32)))

/-- MNT_CNT_CLR (R478): initiator; the word for MNT_CNT_CLR, CLR set. -/
def execMntCntClr (ini : Fin 5) (w : Word) (s : State) : Host.Outcome State Fault Refusal :=
  .next (settle (s.writeOne none ini A.MNT_CNT_CLR (w ||| 0x1#32)))

/-- DBG_FREEZE_REQ (R462): initiator; the word for DBG_FREEZE, REQ set. -/
def execDbgFreezeReq (ini : Fin 5) (w : Word) (s : State) : Host.Outcome State Fault Refusal :=
  .next (settle (s.writeOne none ini A.DBG_FREEZE (w ||| 0x1#32)))

/-- DBG_CNT_CLR (R476): initiator; the word for DBG_CNT_CLR, CLR set. -/
def execDbgCntClr (ini : Fin 5) (w : Word) (s : State) : Host.Outcome State Fault Refusal :=
  .next (settle (s.writeOne none ini A.DBG_CNT_CLR (w ||| 0x1#32)))

/-- LCY_CHECK_TOKEN (R472): initiator; the word for LCY_CHECK, TOKEN set. -/
def execLcyCheckToken (ini : Fin 5) (w : Word) (s : State) : Host.Outcome State Fault Refusal :=
  .next (settle (s.writeOne none ini A.LCY_CHECK (w ||| 0x1#32)))

/-- LCY_CHECK_UNLOCK (R472): initiator; the word for LCY_CHECK, UNLOCK set. -/
def execLcyCheckUnlock (ini : Fin 5) (w : Word) (s : State) : Host.Outcome State Fault Refusal :=
  .next (settle (s.writeOne none ini A.LCY_CHECK (w ||| 0x2#32)))

/-- LCY_TRANSITION (R473): initiator; the word for LCY_CTRL, GO set. -/
def execLcyTransition (ini : Fin 5) (w : Word) (s : State) : Host.Outcome State Fault Refusal :=
  .next (settle (s.writeOne none ini A.LCY_CTRL (w ||| 0x1#32)))

/-- LCY_OTP_PROG (R474): initiator; the word for LCY_OTP_CTRL, PROG set. -/
def execLcyOtpProg (ini : Fin 5) (w : Word) (s : State) : Host.Outcome State Fault Refusal :=
  .next (settle (s.writeOne none ini A.LCY_OTP_CTRL (w ||| 0x2#32)))

/-- LCY_OTP_READ (R477): initiator; the word for LCY_OTP_CTRL, READ set. -/
def execLcyOtpRead (ini : Fin 5) (w : Word) (s : State) : Host.Outcome State Fault Refusal :=
  .next (settle (s.writeOne none ini A.LCY_OTP_CTRL (w ||| 0x1#32)))

/-- SYS_SW_RESET (R475): initiator; the word for SYS_SW_RESET, RESET set. -/
def execSysSwReset (ini : Fin 5) (w : Word) (s : State) : Host.Outcome State Fault Refusal :=
  .next (settle (s.writeOne none ini A.SYS_SW_RESET (w ||| 0x1#32)))

/-- PMB_CMD_READ_NOW (R377, R384): initiator; how its exchange fails, 0 not at all; what the regulator answers to READ_VOUT and
STATUS_WORD; the word for PMB_CMD, READ_NOW set. -/
def execPmbCmdReadNow (ini : Fin 5) (why : Fin 4) (vout status : BitVec 16) (w : Word) (s : State) :
    Host.Outcome State Fault Refusal :=
  .next (settle (s.writeOne (some { s.facts with vals := (vout.toNat, status.toNat, why.val) }) ini A.PMB_CMD (w ||| 0x2#32)))

/-- DBG_FREEZE_RESUME (R468): initiator; the level of FREEZE, the microseconds since FROZEN; the word for DBG_FREEZE, RESUME set. -/
def execDbgFreezeResume (ini : Fin 5) (level : Bool) (us : Nat) (w : Word) (s : State) : Host.Outcome State Fault Refusal :=
  .next (settle (s.writeOne (some ⟨level, us, (0, 0, 0), 0⟩) ini A.DBG_FREEZE (w ||| 0x2#32)))

/-- SNS_RESULT_READ (R352): an initiator reads SNS_RESULT. -/
def execSnsResultRead (ini : Fin 5) (s : State) : Host.Outcome State Fault Refusal :=
  .next (settle (s.readOne ini A.SNS_RESULT))

end Sys2Proof.Machine
end

