-- ==== Sys2Proof/Machine/UsbTx.lean ====
section
/-! DEFINITION. The vendor requests of the USB function (R301 to R305). -/

namespace Sys2Proof.Machine

/-- A vendor request reaches the function: the link is up and the management island runs (R303). -/
def State.vendorTake (s : State) (f : State → State) : State := s.event .usb (s.usbLive && s.mgmtRuns) f

/-- A request that gives a status ends: a violation STALLs it (R301). A request that reset the hub leaves nothing. -/
def State.vendorEnd (s : State) (d : Done) (reply : List Nat) : State :=
  s.when (decide (s.domState ≤ 2)) (fun s =>
    let s := s.modUsb (fun u => { u with vCode := d.code, vWords := d.words })
    if d.code = 0 then s.usbReply reply else s.usbStall)

/-- A request refused as a whole. -/
def State.vendorRefuse (s : State) (code : Nat) (write : Bool) (a : Nat) : State :=
  let r := s.refuseTransfer 1 code write (some a)
  r.1.vendorEnd r.2 []

/-- The address of wValue and wIndex (R301); nonzero wIndex bits [15:2] lie outside the address space. -/
def vendorAddr (value index : BitVec 16) : Nat := value.toNat + index.toNat * 2 ^ 16

/-- Is a byte count 4 × 1 to 4 × 63? -/
def goodLength (n : Nat) : Bool := decide (n % 4 = 0) && decide (1 ≤ n / 4) && decide (n / 4 ≤ 63)

/-- REG_READ. -/
def State.vendorRead (s : State) (a length : Nat) : State :=
  if !goodLength length then s.vendorRefuse 8 false a
  else
    let r := s.getWords 1 (length / 4) a ⟨0, 0⟩
    r.1.vendorEnd r.2.2 (r.2.1.flatMap bytes4)

/-- REG_WRITE. -/
def State.vendorWrite (s : State) (a : Nat) (data : List Nat) : State :=
  if !goodLength data.length then s.vendorRefuse 8 true a
  else
    let r := s.writeTransfer 1 a (wordsLe data)
    r.1.vendorEnd r.2 []

/-- REG_RMW. -/
def State.vendorRmw (s : State) (a : Nat) (data : List Nat) : State :=
  let ws := wordsLe data
  if data.length ≠ 8 then s.vendorRefuse 8 true a
  else
    let r := s.rmw 1 a (ws.getD 0 0) (ws.getD 1 0)
    r.1.vendorEnd r.2 []

/-- STATUS, which never fails. -/
def State.vendorStatus (s : State) : State :=
  s.usbReply [s.usb.vCode, 0, s.usb.vWords % 256, s.usb.vWords / 256 % 256]

/-- IMAGE_BEGIN (R302): the length; STALLed while the loader is busy. -/
def State.vendorImage (s : State) (data : List Nat) : State :=
  if data.length ≠ 4 then
    let r := s.refuseTransfer 1 8 true none
    r.1.vendorEnd r.2 []
  else
    let r := s.imageBegin ((wordsLe data).getD 0 0).toNat
    if r.2 then r.1.vendorEnd ⟨0, 0⟩ [] else r.1.usbStall

/-- IMAGE_STATUS (R491): the result word and the offset. -/
def State.vendorImageStatus (s : State) : State := s.usbReply (bytes4 s.ldr.result ++ bytes4 (word s.ldr.offset))

/-- SNAP_READ (R303): offset and length in bytes. -/
def State.vendorSnap (s : State) (data : List Nat) : State :=
  let ws := wordsLe data
  let o := (ws.getD 0 0).toNat
  let n := (ws.getD 1 0).toNat
  let a := 0x30000 + o
  if data.length ≠ 8 ∨ o % 4 ≠ 0 ∨ n % 4 ≠ 0 ∨ n = 0 ∨ 0x8000 < o + n then s.vendorRefuse 8 false a
  else if !s.debugOk then s.vendorRefuse 3 false a
  else if !s.frozen then s.vendorRefuse 4 false a
  else (s.modUsb (fun u => { u with snap := some (o, n, false) })).vendorEnd ⟨0, 0⟩ []

/-- The next packet on endpoint 0x87 (R303): up to 512 bytes, 64 at full speed; a short packet ends the read. From the first
violating word on the data reads 0, and STATUS gives its code. -/
def State.snapPacket (s : State) : State :=
  match s.usb.snap with
  | none => s
  | some (o, n, bad) =>
    let size := min n s.bulkSize
    let r := if bad then (s, List.replicate (size / 4) (0 : Word), (⟨s.usb.vCode, 0⟩ : Done))
      else s.getWords 1 (size / 4) (0x30000 + o) ⟨0, 0⟩
    let left := if size < s.bulkSize then none else some (o + size, n - size, bad || decide (r.2.2.code ≠ 0))
    (r.1.modUsb (fun u => { u with
      snap := left, vCode := r.2.2.code, vWords := u.vWords + r.2.2.words })).usbReply (r.2.1.flatMap bytes4)

/-- HIST_START and HIST_STOP: what 1 in START or STOP of USB_HIST_CTRL does (R304, R305); `w` is that word. -/
def State.vendorHist (s : State) (w : Word) (f : State → State) : State :=
  let c := s.refusal 1 true A.USB_HIST_CTRL w
  if c ≠ 0 then s.vendorRefuse c true A.USB_HIST_CTRL else (f s).vendorEnd ⟨0, 0⟩ []

/-! ## Meanings -/

/-- VREQ_REG_READ (R301): wValue, wIndex, wLength. -/
def execVreqRegRead (value index length : BitVec 16) (s : State) : Host.Outcome State Fault Refusal :=
  .next (settle (s.vendorTake (·.vendorRead (vendorAddr value index) length.toNat)))
/-- VREQ_REG_WRITE (R301): wValue, wIndex, the data stage. -/
def execVreqRegWrite (value index : BitVec 16) (data : List Nat) (s : State) : Host.Outcome State Fault Refusal :=
  .next (settle (s.vendorTake (·.vendorWrite (vendorAddr value index) data)))
/-- VREQ_REG_RMW (R301): wValue, wIndex, mask and value. -/
def execVreqRegRmw (value index : BitVec 16) (data : List Nat) (s : State) : Host.Outcome State Fault Refusal :=
  .next (settle (s.vendorTake (·.vendorRmw (vendorAddr value index) data)))
/-- VREQ_STATUS (R301). -/
def execVreqStatus (s : State) : Host.Outcome State Fault Refusal := .next (settle (s.vendorTake State.vendorStatus))
/-- VREQ_IMAGE_BEGIN (R302): the data stage. -/
def execVreqImageBegin (data : List Nat) (s : State) : Host.Outcome State Fault Refusal :=
  .next (settle (s.vendorTake (fun s => if s.frozen then s.usbStall else s.vendorImage data)))
/-- VREQ_IMAGE_STATUS (R301). -/
def execVreqImageStatus (s : State) : Host.Outcome State Fault Refusal := .next (settle (s.vendorTake State.vendorImageStatus))
/-- VREQ_SNAP_READ (R303): the data stage. -/
def execVreqSnapRead (data : List Nat) (s : State) : Host.Outcome State Fault Refusal :=
  .next (settle (s.vendorTake (·.vendorSnap data)))
/-- VREQ_HIST_START (R304). -/
def execVreqHistStart (s : State) : Host.Outcome State Fault Refusal :=
  .next (settle (s.vendorTake (·.vendorHist 1 State.histStart)))
/-- VREQ_HIST_STOP (R305). -/
def execVreqHistStop (s : State) : Host.Outcome State Fault Refusal :=
  .next (settle (s.vendorTake (·.vendorHist 2 State.histStop)))
/-- VREQ_UNKNOWN (R301): STALLed without a violation record. -/
def execVreqUnknown (_request : Nat) (s : State) : Host.Outcome State Fault Refusal :=
  .next (settle (s.vendorTake State.usbStall))
/-- USB_SNAPSHOT_IN (R303). -/
def execUsbSnapshotIn (s : State) : Host.Outcome State Fault Refusal := .next (settle (s.vendorTake (fun s => s.when (s.usbCfg 6) State.snapPacket)))

end Sys2Proof.Machine
end

