-- ==== Sys2Proof/Machine/Wake.lean ====
section
/-! DEFINITION. Events that more than one block takes: jack edges, USB link events, voice and keywords as wake sources, the steps
of the power-state sequencer, the regulator's answers, PVDD collapse, the budget tick. -/

namespace Sys2Proof.Machine

/-! ## Jacks (R126, R130, R133) -/

/-- A jack edge: the jack block, the wake source, and a remote wake for an insertion (R307, R373). -/
def State.jackEdgeAll (s : State) (n : Nat) (high : Bool) : State :=
  s.when (decide (s.domState ≤ 4) && decide ((vget s.jack n Jack.init).detHigh ≠ high)) (fun s =>
    let before := s.detInserted n
    let s := (s.jackEdge n high).hidSync
    let s := s.when (!before && s.detInserted n) (fun s => s.wakeHost (s.on F.USB_WAKE_JACK))
    s.wakeFire (4 + n))

/-- JACK_EDGE (R126, R130). -/
def execJackEdge (n : Fin 2) (high : Bool) (s : State) : Host.Outcome State Fault Refusal := .next (settle (s.jackEdgeAll n high))
/-- JACK_BUTTON_CHANGE (R133, R299). -/
def execJackButtonChange (n : Fin 2) (ratio : Nat) (s : State) : Host.Outcome State Fault Refusal :=
  .next (settle (s.jackButton n ratio).hidSync)
/-- JACK_BIAS_OVERCURRENT (R123). -/
def execJackBiasOvercurrent (n : Fin 2) (s : State) : Host.Outcome State Fault Refusal := .next (settle (s.jackBiasOc n).hidSync)

/-! ## USB link (R286, R290, R306) -/

/-- VBUS changes: the connection, and the wake source (R373). -/
def State.vbusChange (s : State) (on : Bool) : State :=
  s.when (decide (s.domState ≤ 4) && decide (s.on F.USB_STATE_VBUS ≠ on)) (fun s =>
    (if on then s.vbusValid else s.vbusLost).wakeFire 7)

/-- USB_VBUS_VALID (R286). -/
def execUsbVbusValid (s : State) : Host.Outcome State Fault Refusal := .next (settle (s.vbusChange true))
/-- USB_DISCONNECT (R286): what is lost, 0 VBUS, 1 the PHY PLL, 2 USBVDD. -/
def execUsbDisconnect (cause : Fin 3) (s : State) : Host.Outcome State Fault Refusal :=
  .next (settle (match cause.val with | 0 => s.vbusChange false | 1 => s.phyLost | _ => s.usbvddLost))
/-- USB_BUS_RESET (R290): the speed the handshake gave. -/
def execUsbBusReset (hs : Bool) (s : State) : Host.Outcome State Fault Refusal := .next (settle (s.usbReset hs))
/-- USB_SUSPEND (R306). -/
def execUsbSuspend (s : State) : Host.Outcome State Fault Refusal := .next (settle s.usbSuspend)
/-- USB_RESUME (R306): sensed in every state but OFF; a wake source with ON_RESUME. -/
def execUsbResume (s : State) : Host.Outcome State Fault Refusal :=
  .next (settle (s.when (decide (s.domState ≤ 4) && s.on F.USB_STATE_SUSPENDED) (fun s => s.usbResume.wakeFire 6)))

/-! ## Listening wakes (R318, R322, R329, R334) -/

/-- The listening block wakes the hub (R329). -/
def State.listenWake (s : State) (source cls score : Nat) : State :=
  s.when (s.wakesOn source) (fun s =>
    ((s.lstWake source cls score).wakeFire 8).wakeHost (s.on F.USB_WAKE_LISTEN))

/-- A voice onset: also a wake request that aborts an entry to DEEP or OFF between the block's acknowledgement and S2 (R334). -/
def State.voiceOnset (s : State) : State :=
  s.event .listen s.vadDue (fun s =>
    let s := s.vadOnset.listenWake 2 0 0
    s.when (decide (s.pwrStep = 1) && decide (3 ≤ s.pwrTarget) && s.isQuiet 5 && s.wakeEnabled 8) (fun s =>
      (s.wakeSeen 8).modPwr (fun p => { p with wakes := p.wakes ++ [8] })))

/-- A detection (R322). -/
def State.spotDetected (s : State) : State :=
  s.event .listen true (fun s => match s.spotClass with
    | none => s
    | some k =>
      let score := unsigned 8 (s.lst.scores.getD k 0)
      (s.modLst (fun l => { l with detected := true })).listenWake 1 k score)

/-- VAD_ONSET (R318). -/
def execVadOnset (s : State) : Host.Outcome State Fault Refusal := .next (settle s.voiceOnset)
/-- SPOT_DETECTION (R322). -/
def execSpotDetection (s : State) : Host.Outcome State Fault Refusal := .next (settle s.spotDetected)

/-! ## Power states (R364 to R374) -/

/-- S6 begins and ends (R365, R440). Where it ends in OFF with WAKE_N low, or low since AP5, the cold boot follows (R42, R373). -/
def State.entryComplete (s : State) (cut : Option (Nat × List Nat)) : State :=
  s.when (decide (s.pwrStep = 6) && !s.frozen) (fun s =>
    let s := s.when (decide (3 ≤ s.pwrTarget)) (fun s => (s.smbCut cut).hnOver)
    let late := s.pwr.late && decide (s.pwr.waking = some 1)
    let s := s.pwrS6
    s.when (decide (s.domState = 5) && (late || s.pins.wakeLow)) State.wakeCold)

/-- W4 (R374): the matcher's count is handed over and Host Notify evaluated at once (R439, R441). From SLEEP and DEEP a low PGOOD holds
the hub at W2 (R381). -/
def State.wakeComplete (s : State) (us ms plls : Nat) (found : List (Nat × Nat × Nat)) (lost : Nat) (pgood : Bool) : State :=
  let s := s.setB F.PMB_STATUS_PGOOD_NOW pgood
  s.when (s.pwr.waking.isSome && s.pwrBusy && decide (s.pwrStep = 0) && decide (1 ≤ s.domState) && decide (s.domState ≤ 4) && !s.frozen
      && (pgood || decide (s.domState = 1)))
    (fun s => ((s.wakeDone us ms plls found lost).smbHandOver).hnEval ms)

/-- PWR_QUIESCE_TIMEOUT (R365, R366): participants that did not answer, the time S1 took in µs, the words the capture finds in error. -/
def execPwrQuiesceTimeout (silent us : Nat) (found : List (Nat × Nat × Nat)) (s : State) : Host.Outcome State Fault Refusal :=
  .next (settle (s.quiesceJudged silent us found))
/-- PWR_ENTRY_COMPLETE (R365): the SMBus transaction that S6 cuts. -/
def execPwrEntryComplete (cut : Option (Nat × List Nat)) (s : State) : Host.Outcome State Fault Refusal :=
  .next (settle (s.entryComplete cut))
/-- PWR_WAKE_SOURCE (R373): a source code; an interrupt group counts only while pending. -/
def execPwrWakeSource (code : Nat) (s : State) : Host.Outcome State Fault Refusal :=
  .next (settle (s.when (decide (code ≠ 10) || decide (s.notifyWord ≠ 0)) (·.wakeFire code)))
/-- PWR_WAKE_TIMER_EXPIRE (R373): it runs from the completion of an entry, also through an entry that goes on from IDLE or SLEEP. -/
def execPwrWakeTimerExpire (s : State) : Host.Outcome State Fault Refusal :=
  .next (settle (s.when (decide (s.pwrStep = 0) || decide (s.domState ≠ 0)) (·.wakeFire 9)))
/-- PWR_WAKE_COMPLETE (R374): its latency in µs, the time away from RUN in ms, the PLLs that locked, what the retention sweep
found and lost, and the level of PGOOD. -/
def execPwrWakeComplete (us ms plls : Nat) (found : List (Nat × Nat × Nat)) (lost : Nat) (pgood : Bool) (s : State) :
    Host.Outcome State Fault Refusal :=
  .next (settle (s.wakeComplete us ms plls found lost pgood))

/-- SAP_QUIESCE_TIMEOUT (R238). -/
def execSapQuiesceTimeout (p : Fin 8) (s : State) : Host.Outcome State Fault Refusal := .next (settle (s.sapQuiesceTimeout p))

/-! ## The regulator (R365, R379, R380) -/

/-- A request is acknowledged: what it was made for goes on. -/
def State.requestAck (s : State) (vout : Nat) : State :=
  s.when (s.pmbAcks vout && !s.on (recStuck 1)) (fun s =>
    let s := s.pmbAck vout
    match s.pmb.kind with
    | .raise | .lower => s.opAcked
    | .s5 | .off => s.when (decide (s.pwrStep = 5) && !s.pwr.frozen) State.pwrAcked
    | .unwind => s.unwindEnd true)

/-- A request fails: repeated once, then its case's outcome. -/
def State.requestFail (s : State) (status why : Nat) : State :=
  match s.pmbFail status why with
  | (s, false) => s
  | (s, true) =>
    let s := s.pmbFailed
    match s.pmb.kind with
    | .s5 | .off => s.when (decide (s.pwrStep = 5) && !s.pwr.frozen) State.pwrPmbFailed
    | .unwind => s.unwindEnd false
    | _ => s

/-- PMB_REQUEST_ACK (R379): the READ_VOUT word. -/
def execPmbRequestAck (vout : Nat) (s : State) : Host.Outcome State Fault Refusal := .next (settle (s.requestAck vout))
/-- PMB_REQUEST_FAIL (R380): the STATUS_WORD read then; 1 a NACK, 2 a PEC mismatch, 0 a timeout. -/
def execPmbRequestFail (status why : Nat) (s : State) : Host.Outcome State Fault Refusal := .next (settle (s.requestFail status why))

/-! ## Collapse (R30, R120, R157, R391) -/

/-- PVDD crosses below CRIT, for the first time or again during a restart (R120): the hold path mutes every output, and WARN starts. -/
def State.pvddCrit (s : State) : State :=
  s.when (decide (s.domState ≤ 1)) (fun s =>
    let s := { s with pins := { s.pins with crit := true } }
    let s := ((s.set F.BLW_SAG_STATUS_CRIT_NOW 1).set F.BLW_SAG_STATUS_CRIT 1).warnEnter
    s.aoutCollapse.spkCollapse.collapseSeen)

/-- PVDD has been above CRIT for 50 ms with VHOLD good. Islands that freeze has stopped restart at resume (R26). -/
def State.collapseRestart (s : State) : State :=
  s.when (s.pins.crit && s.on F.JCK_HOLD_STATUS_VHOLD_OK && decide (s.domState ≤ 4)) (fun s =>
    let s := s.when (!s.on F.JCK_HOLD_STATUS_MUTED) State.aoutMuted
    let s := { s with pins := { s.pins with crit := false } }.set F.BLW_SAG_STATUS_CRIT_NOW 0
    s.when (!s.frozen) (fun s => s.aoutCollapseEnd.spkCollapseEnd))

/-- PVDD_CRIT (R120, R157, R391). -/
def execPvddCrit (s : State) : Host.Outcome State Fault Refusal := .next (settle s.pvddCrit)
/-- COLLAPSE_RESTART (R120, R157). -/
def execCollapseRestart (s : State) : Host.Outcome State Fault Refusal := .next (settle s.collapseRestart)

/-! ## The budget tick (R386) -/

/-- One tick: the algorithm, one dispatch (R402), the running times. -/
def State.tick (s : State) (dies : List Int) (pgood : Bool) : State :=
  let (s, free) := s.blwTick dies pgood
  let s := s.jobsTick
  let s := match s.headJob with
    | some k => s.when free (·.dispatchJob k)
    | none => s
  (s.rotationTime 1).blwQueueSync

/-- BELLOWS_TICK (R386): the four die temperatures in 1/16 °C and the level of PGOOD. -/
def execBellowsTick (d0 d1 d2 d3 : Int) (pgood : Bool) (s : State) : Host.Outcome State Fault Refusal :=
  .next (settle (s.when s.blwRuns (·.tick [d0, d1, d2, d3] pgood)))

end Sys2Proof.Machine
end

