-- ==== Sys2Proof/Machine/Dispatch.lean ====
section
/-! DEFINITION. One arm per command: the direct call of its meaning. -/

namespace Sys2Proof.Machine

/-- The effect of a command on everything but the queue. -/
def exec (i : Instr) (s : State) : Host.Outcome State Fault Refusal :=
  match i with
  | .powerOnReset aon => Sys2Proof.Machine.execPowerOnReset aon s
  | .resetNPulse => Sys2Proof.Machine.execResetNPulse s
  | .requiredRailLoss => Sys2Proof.Machine.execRequiredRailLoss s
  | .aonvddLoss => Sys2Proof.Machine.execAonvddLoss s
  | .optionalRailGood rail => Sys2Proof.Machine.execOptionalRailGood rail s
  | .coldStart addr boot io3 otpOk freeze privacy hpvdd usbvdd pvdd pgood => Sys2Proof.Machine.execColdStart addr boot io3 otpOk freeze privacy hpvdd usbvdd pvdd pgood s
  | .vholdReady => Sys2Proof.Machine.execVholdReady s
  | .wakeNLow held => Sys2Proof.Machine.execWakeNLow held s
  | .micPrivacyAssert => Sys2Proof.Machine.execMicPrivacyAssert s
  | .micPrivacyRelease => Sys2Proof.Machine.execMicPrivacyRelease s
  | .freezeBallHigh rearmed => Sys2Proof.Machine.execFreezeBallHigh rearmed s
  | .mainsSyncEdge falling period => Sys2Proof.Machine.execMainsSyncEdge falling period s
  | .mainsInvalidTimeout => Sys2Proof.Machine.execMainsInvalidTimeout s
  | .pgoodFall status => Sys2Proof.Machine.execPgoodFall status s
  | .engineFrame inputs residues => Sys2Proof.Machine.execEngineFrame inputs residues s
  | .trackerEdge t period => Sys2Proof.Machine.execTrackerEdge t period s
  | .trackerWindowEnd t => Sys2Proof.Machine.execTrackerWindowEnd t s
  | .trackerStop t => Sys2Proof.Machine.execTrackerStop t s
  | .trackerRateChange t => Sys2Proof.Machine.execTrackerRateChange t s
  | .acquisitionTimeout t => Sys2Proof.Machine.execAcquisitionTimeout t s
  | .trackerEndpointOff t => Sys2Proof.Machine.execTrackerEndpointOff t s
  | .usbSof missing period => Sys2Proof.Machine.execUsbSof missing period s
  | .bellowsTick d0 d1 d2 d3 pgood => Sys2Proof.Machine.execBellowsTick d0 d1 d2 d3 pgood s
  | .opLower => Sys2Proof.Machine.execOpLower s
  | .thermalTripEnd => Sys2Proof.Machine.execThermalTripEnd s
  | .overbudgetFault => Sys2Proof.Machine.execOverbudgetFault s
  | .coldPeriodEnd => Sys2Proof.Machine.execColdPeriodEnd s
  | .pvddWarn => Sys2Proof.Machine.execPvddWarn s
  | .pvddWarnEnd => Sys2Proof.Machine.execPvddWarnEnd s
  | .pvddCrit => Sys2Proof.Machine.execPvddCrit s
  | .collapseRestart => Sys2Proof.Machine.execCollapseRestart s
  | .regWrite ini addr words => Sys2Proof.Machine.execRegWrite ini addr words s
  | .pgErrClr ini page w => Sys2Proof.Machine.execPgErrClr ini page w s
  | .dbgViolClear ini w => Sys2Proof.Machine.execDbgViolClear ini w s
  | .ainModeWrite ini n w => Sys2Proof.Machine.execAinModeWrite ini n w s
  | .ainFmtWrite ini n w => Sys2Proof.Machine.execAinFmtWrite ini n w s
  | .ainPairEnableWrite ini k w => Sys2Proof.Machine.execAinPairEnableWrite ini k w s
  | .ainStart n => Sys2Proof.Machine.execAinStart n s
  | .ainRunning n => Sys2Proof.Machine.execAinRunning n s
  | .ainMuteWrite ini n w => Sys2Proof.Machine.execAinMuteWrite ini n w s
  | .ainCalNow ini n w => Sys2Proof.Machine.execAinCalNow ini n w s
  | .ainCalDone n offset => Sys2Proof.Machine.execAinCalDone n offset s
  | .ainPgaWrite ini n w => Sys2Proof.Machine.execAinPgaWrite ini n w s
  | .ainPgaStep n => Sys2Proof.Machine.execAinPgaStep n s
  | .ainDcHpfWrite ini n w => Sys2Proof.Machine.execAinDcHpfWrite ini n w s
  | .ainClrCount ini n w => Sys2Proof.Machine.execAinClrCount ini n w s
  | .ainOverloadReset n negative => Sys2Proof.Machine.execAinOverloadReset n negative s
  | .ainOverloadEnd n => Sys2Proof.Machine.execAinOverloadEnd n s
  | .ainRecoveryEnd n => Sys2Proof.Machine.execAinRecoveryEnd n s
  | .micbiasCtrlWrite ini w => Sys2Proof.Machine.execMicbiasCtrlWrite ini w s
  | .micbiasReady m => Sys2Proof.Machine.execMicbiasReady m s
  | .micbiasOvercurrent m => Sys2Proof.Machine.execMicbiasOvercurrent m s
  | .beepCtrlWrite ini w => Sys2Proof.Machine.execBeepCtrlWrite ini w s
  | .vrefaReady => Sys2Proof.Machine.execVrefaReady s
  | .vrefaNotReady => Sys2Proof.Machine.execVrefaNotReady s
  | .sliceStuckBit n => Sys2Proof.Machine.execSliceStuckBit n s
  | .auxSubstStart ini w => Sys2Proof.Machine.execAuxSubstStart ini w s
  | .auxSubstAbort ini w => Sys2Proof.Machine.execAuxSubstAbort ini w s
  | .adcShadowWindowEnd g level gain offset resid => Sys2Proof.Machine.execAdcShadowWindowEnd g level gain offset resid s
  | .adcSubstDone g => Sys2Proof.Machine.execAdcSubstDone g s
  | .aoutEnWrite ini c pair w => Sys2Proof.Machine.execAoutEnWrite ini c pair w s
  | .aoutStart c => Sys2Proof.Machine.execAoutStart c s
  | .aoutRunning c => Sys2Proof.Machine.execAoutRunning c s
  | .aoutFmtWrite ini c w => Sys2Proof.Machine.execAoutFmtWrite ini c w s
  | .aopHpModeWrite ini k w => Sys2Proof.Machine.execAopHpModeWrite ini k w s
  | .aoutMuteWrite ini c w => Sys2Proof.Machine.execAoutMuteWrite ini c w s
  | .aoutVolWrite ini c w => Sys2Proof.Machine.execAoutVolWrite ini c w s
  | .cpStopTimeout => Sys2Proof.Machine.execCpStopTimeout s
  | .jckCpForceOnWrite ini w => Sys2Proof.Machine.execJckCpForceOnWrite ini w s
  | .jckCpRetry ini w => Sys2Proof.Machine.execJckCpRetry ini w s
  | .aoutIlimFault c => Sys2Proof.Machine.execAoutIlimFault c s
  | .dacElementError c => Sys2Proof.Machine.execDacElementError c s
  | .cpOvercurrent => Sys2Proof.Machine.execCpOvercurrent s
  | .cpUndervoltage => Sys2Proof.Machine.execCpUndervoltage s
  | .vrefbReady => Sys2Proof.Machine.execVrefbReady s
  | .vrefbNotReady => Sys2Proof.Machine.execVrefbNotReady s
  | .jckSubstStart ini w => Sys2Proof.Machine.execJckSubstStart ini w s
  | .jckSubstAbort ini w => Sys2Proof.Machine.execJckSubstAbort ini w s
  | .dacShadowWindowEnd g level gain offset resid => Sys2Proof.Machine.execDacShadowWindowEnd g level gain offset resid s
  | .dacSubstDone g => Sys2Proof.Machine.execDacSubstDone g s
  | .jackEdge n high => Sys2Proof.Machine.execJackEdge n high s
  | .jackDebounceExpire n => Sys2Proof.Machine.execJackDebounceExpire n s
  | .jackIdMeasure n ratio => Sys2Proof.Machine.execJackIdMeasure n ratio s
  | .jackImpedanceDone n zl zr => Sys2Proof.Machine.execJackImpedanceDone n zl zr s
  | .jckImpMeasure ini n w => Sys2Proof.Machine.execJckImpMeasure ini n w s
  | .jackButtonChange n ratio => Sys2Proof.Machine.execJackButtonChange n ratio s
  | .jackBiasOvercurrent n => Sys2Proof.Machine.execJackBiasOvercurrent n s
  | .jckBiasWrite ini n w => Sys2Proof.Machine.execJckBiasWrite ini n w s
  | .jckClrCount ini n w => Sys2Proof.Machine.execJckClrCount ini n w s
  | .spkEnWrite ini n page w => Sys2Proof.Machine.execSpkEnWrite ini n page w s
  | .spkStart n => Sys2Proof.Machine.execSpkStart n s
  | .spkRunning n => Sys2Proof.Machine.execSpkRunning n s
  | .spkFmtWrite ini n w => Sys2Proof.Machine.execSpkFmtWrite ini n w s
  | .spkMuteWrite ini n w => Sys2Proof.Machine.execSpkMuteWrite ini n w s
  | .spkVolWrite ini n w => Sys2Proof.Machine.execSpkVolWrite ini n w s
  | .spkPwmWrite ini n w => Sys2Proof.Machine.execSpkPwmWrite ini n w s
  | .spkCeilRatedWrite ini n w => Sys2Proof.Machine.execSpkCeilRatedWrite ini n w s
  | .spkGuardCtrlWrite ini n w => Sys2Proof.Machine.execSpkGuardCtrlWrite ini n w s
  | .spkGuardReseed ini n w => Sys2Proof.Machine.execSpkGuardReseed ini n w s
  | .spkGuardUpdate n pvdd temp => Sys2Proof.Machine.execSpkGuardUpdate n pvdd temp s
  | .spkResistanceBlock n => Sys2Proof.Machine.execSpkResistanceBlock n s
  | .spkOvercurrent n since => Sys2Proof.Machine.execSpkOvercurrent n since s
  | .spkOcRetry n => Sys2Proof.Machine.execSpkOcRetry n s
  | .spkCbcFault n => Sys2Proof.Machine.execSpkCbcFault n s
  | .spkDcFault n => Sys2Proof.Machine.execSpkDcFault n s
  | .spkOtWarn n temp => Sys2Proof.Machine.execSpkOtWarn n temp s
  | .spkOtFault n => Sys2Proof.Machine.execSpkOtFault n s
  | .spkOtRecover n => Sys2Proof.Machine.execSpkOtRecover n s
  | .spkPvddUv n => Sys2Proof.Machine.execSpkPvddUv n s
  | .spkUvRecover n => Sys2Proof.Machine.execSpkUvRecover n s
  | .spkPvddOv n => Sys2Proof.Machine.execSpkPvddOv n s
  | .spkOvRecover n => Sys2Proof.Machine.execSpkOvRecover n s
  | .spkSenseFault n => Sys2Proof.Machine.execSpkSenseFault n s
  | .spkSenseRecover n => Sys2Proof.Machine.execSpkSenseRecover n s
  | .laneEnableWrite ini n w => Sys2Proof.Machine.execLaneEnableWrite ini n w s
  | .laneStart n => Sys2Proof.Machine.execLaneStart n s
  | .laneRunning n => Sys2Proof.Machine.execLaneRunning n s
  | .laneCapAdmit n => Sys2Proof.Machine.execLaneCapAdmit n s
  | .laneSrcWrite ini n w => Sys2Proof.Machine.execLaneSrcWrite ini n w s
  | .laneOutWrite ini n w => Sys2Proof.Machine.execLaneOutWrite ini n w s
  | .laneMarginWrite ini n w => Sys2Proof.Machine.execLaneMarginWrite ini n w s
  | .laneTrimWrite ini n w => Sys2Proof.Machine.execLaneTrimWrite ini n w s
  | .laneInvertWrite ini n w => Sys2Proof.Machine.execLaneInvertWrite ini n w s
  | .laneMuteWrite ini n w => Sys2Proof.Machine.execLaneMuteWrite ini n w s
  | .laneDcbWrite ini n w => Sys2Proof.Machine.execLaneDcbWrite ini n w s
  | .laneHumWrite ini n w => Sys2Proof.Machine.execLaneHumWrite ini n w s
  | .laneCoefCommit ini n w => Sys2Proof.Machine.execLaneCoefCommit ini n w s
  | .laneCommitDone n => Sys2Proof.Machine.execLaneCommitDone n s
  | .laneDynWrite ini n r w => Sys2Proof.Machine.execLaneDynWrite ini n r w s
  | .laneDelayWrite ini n w => Sys2Proof.Machine.execLaneDelayWrite ini n w s
  | .laneDelayXfadeEnd n => Sys2Proof.Machine.execLaneDelayXfadeEnd n s
  | .laneMeterWindowEnd n => Sys2Proof.Machine.execLaneMeterWindowEnd n s
  | .laneMeterWinWrite ini n w => Sys2Proof.Machine.execLaneMeterWinWrite ini n w s
  | .laneClrHold ini n w => Sys2Proof.Machine.execLaneClrHold ini n w s
  | .laneCntClr ini n w => Sys2Proof.Machine.execLaneCntClr ini n w s
  | .chnCommit ini w => Sys2Proof.Machine.execChnCommit ini w s
  | .chnCommitCopy => Sys2Proof.Machine.execChnCommitCopy s
  | .chnRevert ini w => Sys2Proof.Machine.execChnRevert ini w s
  | .chnClrCounts ini w => Sys2Proof.Machine.execChnClrCounts ini w s
  | .fifCommit ini w => Sys2Proof.Machine.execFifCommit ini w s
  | .fifGainStep => Sys2Proof.Machine.execFifGainStep s
  | .sapEnableWrite ini p w => Sys2Proof.Machine.execSapEnableWrite ini p w s
  | .sapReconfigWrite ini p ctrl w => Sys2Proof.Machine.execSapReconfigWrite ini p ctrl w s
  | .sapFrameEdge p bclks line => Sys2Proof.Machine.execSapFrameEdge p bclks line s
  | .sapMaskWrite ini p rx w => Sys2Proof.Machine.execSapMaskWrite ini p rx w s
  | .sapMaskApply p => Sys2Proof.Machine.execSapMaskApply p s
  | .sapIdleHizWrite ini p w => Sys2Proof.Machine.execSapIdleHizWrite ini p w s
  | .sapQuiesceTimeout p => Sys2Proof.Machine.execSapQuiesceTimeout p s
  | .sapMclkWrite ini p w => Sys2Proof.Machine.execSapMclkWrite ini p w s
  | .sapCntClr ini p w => Sys2Proof.Machine.execSapCntClr ini p w s
  | .pdmGroupChange ini r w => Sys2Proof.Machine.execPdmGroupChange ini r w s
  | .pdmGroupReady g => Sys2Proof.Machine.execPdmGroupReady g s
  | .pdmMicEnWrite ini w => Sys2Proof.Machine.execPdmMicEnWrite ini w s
  | .pdmMicAbsent m => Sys2Proof.Machine.execPdmMicAbsent m s
  | .pdmMicPresent m => Sys2Proof.Machine.execPdmMicPresent m s
  | .pdmEnableWrite ini w => Sys2Proof.Machine.execPdmEnableWrite ini w s
  | .spdifRxFrame f => Sys2Proof.Machine.execSpdifRxFrame f s
  | .spdifSyncHoldEnd => Sys2Proof.Machine.execSpdifSyncHoldEnd s
  | .spdifPcmReturn => Sys2Proof.Machine.execSpdifPcmReturn s
  | .spdRxCtrlWrite ini w => Sys2Proof.Machine.execSpdRxCtrlWrite ini w s
  | .spdTxEnWrite ini w => Sys2Proof.Machine.execSpdTxEnWrite ini w s
  | .spdTxRateWrite ini w => Sys2Proof.Machine.execSpdTxRateWrite ini w s
  | .spdPassWrite ini w => Sys2Proof.Machine.execSpdPassWrite ini w s
  | .spdCntClr ini w => Sys2Proof.Machine.execSpdCntClr ini w s
  | .xtalFail => Sys2Proof.Machine.execXtalFail s
  | .xtalReturn => Sys2Proof.Machine.execXtalReturn s
  | .pllLock x us => Sys2Proof.Machine.execPllLock x us s
  | .pllUnlock x => Sys2Proof.Machine.execPllUnlock x s
  | .pllRelockFail x => Sys2Proof.Machine.execPllRelockFail x s
  | .pllRelockRetry x => Sys2Proof.Machine.execPllRelockRetry x s
  | .pllStopTimeout x => Sys2Proof.Machine.execPllStopTimeout x s
  | .fllLock => Sys2Proof.Machine.execFllLock s
  | .clkEngineFeWrite ini w => Sys2Proof.Machine.execClkEngineFeWrite ini w s
  | .feChangeStop => Sys2Proof.Machine.execFeChangeStop s
  | .clkTakeoverStart ini w => Sys2Proof.Machine.execClkTakeoverStart ini w s
  | .clkTakeoverAbort ini w => Sys2Proof.Machine.execClkTakeoverAbort ini w s
  | .takeoverSpareLocked us => Sys2Proof.Machine.execTakeoverSpareLocked us s
  | .takeoverAligned => Sys2Proof.Machine.execTakeoverAligned s
  | .takeoverAlignTimeout => Sys2Proof.Machine.execTakeoverAlignTimeout s
  | .takeoverSwitchDone last => Sys2Proof.Machine.execTakeoverSwitchDone last s
  | .takeoverWindowDone => Sys2Proof.Machine.execTakeoverWindowDone s
  | .pllHealthTestDone x pass => Sys2Proof.Machine.execPllHealthTestDone x pass s
  | .clkTrkClr ini w => Sys2Proof.Machine.execClkTrkClr ini w s
  | .usbVbusValid => Sys2Proof.Machine.execUsbVbusValid s
  | .usbDisconnect cause => Sys2Proof.Machine.execUsbDisconnect cause s
  | .usbEnableWrite ini w => Sys2Proof.Machine.execUsbEnableWrite ini w s
  | .usbCfgWrite ini w => Sys2Proof.Machine.execUsbCfgWrite ini w s
  | .usbBusReset hs => Sys2Proof.Machine.execUsbBusReset hs s
  | .usbGetDescriptor type index length => Sys2Proof.Machine.execUsbGetDescriptor type index length s
  | .usbSetInterface stream alt => Sys2Proof.Machine.execUsbSetInterface stream alt s
  | .usbSetSamplingFreq hz => Sys2Proof.Machine.execUsbSetSamplingFreq hz s
  | .usbFuSetCur stream isMute value => Sys2Proof.Machine.execUsbFuSetCur stream isMute value s
  | .usbSetFeatureRwake => Sys2Proof.Machine.execUsbSetFeatureRwake s
  | .usbSetReport id value => Sys2Proof.Machine.execUsbSetReport id value s
  | .usbOutPacket j data => Sys2Proof.Machine.execUsbOutPacket j data s
  | .usbPacketMissing j => Sys2Proof.Machine.execUsbPacketMissing j s
  | .usbStreamStop j => Sys2Proof.Machine.execUsbStreamStop j s
  | .usbInPacket j => Sys2Proof.Machine.execUsbInPacket j s
  | .usbFeedbackIn j => Sys2Proof.Machine.execUsbFeedbackIn j s
  | .usbHidPoll => Sys2Proof.Machine.execUsbHidPoll s
  | .vreqRegRead value index length => Sys2Proof.Machine.execVreqRegRead value index length s
  | .vreqRegWrite value index data => Sys2Proof.Machine.execVreqRegWrite value index data s
  | .vreqRegRmw value index data => Sys2Proof.Machine.execVreqRegRmw value index data s
  | .vreqStatus => Sys2Proof.Machine.execVreqStatus s
  | .vreqImageBegin data => Sys2Proof.Machine.execVreqImageBegin data s
  | .vreqImageStatus => Sys2Proof.Machine.execVreqImageStatus s
  | .vreqSnapRead data => Sys2Proof.Machine.execVreqSnapRead data s
  | .vreqHistStart => Sys2Proof.Machine.execVreqHistStart s
  | .vreqHistStop => Sys2Proof.Machine.execVreqHistStop s
  | .vreqUnknown request => Sys2Proof.Machine.execVreqUnknown request s
  | .usbImageBulk bytes => Sys2Proof.Machine.execUsbImageBulk bytes s
  | .usbImageTimeout => Sys2Proof.Machine.execUsbImageTimeout s
  | .usbSnapshotIn => Sys2Proof.Machine.execUsbSnapshotIn s
  | .usbHistoryIn => Sys2Proof.Machine.execUsbHistoryIn s
  | .usbHistStartWrite ini w => Sys2Proof.Machine.execUsbHistStartWrite ini w s
  | .usbHistStopWrite ini w => Sys2Proof.Machine.execUsbHistStopWrite ini w s
  | .usbSuspend => Sys2Proof.Machine.execUsbSuspend s
  | .usbResume => Sys2Proof.Machine.execUsbResume s
  | .usbL1Token besl rwake => Sys2Proof.Machine.execUsbL1Token besl rwake s
  | .usbL1Exit => Sys2Proof.Machine.execUsbL1Exit s
  | .usbRemoteWake => Sys2Proof.Machine.execUsbRemoteWake s
  | .usbWakeNow ini w => Sys2Proof.Machine.execUsbWakeNow ini w s
  | .usbCntClr ini w => Sys2Proof.Machine.execUsbCntClr ini w s
  | .lstEnableWrite ini w => Sys2Proof.Machine.execLstEnableWrite ini w s
  | .lstStart => Sys2Proof.Machine.execLstStart s
  | .lstSuppressEnd => Sys2Proof.Machine.execLstSuppressEnd s
  | .lstSample mics => Sys2Proof.Machine.execLstSample mics s
  | .lstFrame => Sys2Proof.Machine.execLstFrame s
  | .vadOnset => Sys2Proof.Machine.execVadOnset s
  | .vadHangExpire => Sys2Proof.Machine.execVadHangExpire s
  | .spotDetection => Sys2Proof.Machine.execSpotDetection s
  | .lstDeferTimeout => Sys2Proof.Machine.execLstDeferTimeout s
  | .lstStopChange => Sys2Proof.Machine.execLstStopChange s
  | .lstDisarm ini w => Sys2Proof.Machine.execLstDisarm ini w s
  | .lstArmTimeout => Sys2Proof.Machine.execLstArmTimeout s
  | .lstClrCounts ini w => Sys2Proof.Machine.execLstClrCounts ini w s
  | .lstModelBegin ini w => Sys2Proof.Machine.execLstModelBegin ini w s
  | .lstModelWinWrite ini k w => Sys2Proof.Machine.execLstModelWinWrite ini k w s
  | .lstModelEnd ini w => Sys2Proof.Machine.execLstModelEnd ini w s
  | .lstModelCheckDone => Sys2Proof.Machine.execLstModelCheckDone s
  | .snsRunWrite ini w => Sys2Proof.Machine.execSnsRunWrite ini w s
  | .snsHwTrigger => Sys2Proof.Machine.execSnsHwTrigger s
  | .snsSwTrig ini w => Sys2Proof.Machine.execSnsSwTrig ini w s
  | .snsAbort ini w => Sys2Proof.Machine.execSnsAbort ini w s
  | .snsReedConvDone code ticks => Sys2Proof.Machine.execSnsReedConvDone code ticks s
  | .snsIntEntryDone q => Sys2Proof.Machine.execSnsIntEntryDone q s
  | .snsRunDone => Sys2Proof.Machine.execSnsRunDone s
  | .snsUrgentStart ini w => Sys2Proof.Machine.execSnsUrgentStart ini w s
  | .snsResultRead ini => Sys2Proof.Machine.execSnsResultRead ini s
  | .snsDroneWrite ini k w => Sys2Proof.Machine.execSnsDroneWrite ini k w s
  | .snsPpWrite ini w => Sys2Proof.Machine.execSnsPpWrite ini w s
  | .snsDiagStart ini w => Sys2Proof.Machine.execSnsDiagStart ini w s
  | .snsDiagDone a b last => Sys2Proof.Machine.execSnsDiagDone a b last s
  | .adcSliceTestDone a l0 l1 l2 l3 l4 stuck => Sys2Proof.Machine.execAdcSliceTestDone a l0 l1 l2 l3 l4 stuck s
  | .dacSliceTestDone d l0 l1 l2 l3 l4 elem => Sys2Proof.Machine.execDacSliceTestDone d l0 l1 l2 l3 l4 elem s
  | .snsCntClr ini w => Sys2Proof.Machine.execSnsCntClr ini w s
  | .pwrGo ini w => Sys2Proof.Machine.execPwrGo ini w s
  | .pwrQuiesceTimeout silent us found => Sys2Proof.Machine.execPwrQuiesceTimeout silent us found s
  | .pwrCancel ini w => Sys2Proof.Machine.execPwrCancel ini w s
  | .pwrEntryComplete cut => Sys2Proof.Machine.execPwrEntryComplete cut s
  | .pwrWakeSource code => Sys2Proof.Machine.execPwrWakeSource code s
  | .pwrWakeTimerExpire => Sys2Proof.Machine.execPwrWakeTimerExpire s
  | .pwrWakeComplete us ms plls found lost pgood => Sys2Proof.Machine.execPwrWakeComplete us ms plls found lost pgood s
  | .pwrAcctClr ini w => Sys2Proof.Machine.execPwrAcctClr ini w s
  | .pmbLinkStart why mode vout => Sys2Proof.Machine.execPmbLinkStart why mode vout s
  | .pmbVoutRequest => Sys2Proof.Machine.execPmbVoutRequest s
  | .pmbSettleExpire vout => Sys2Proof.Machine.execPmbSettleExpire vout s
  | .pmbRequestAck vout => Sys2Proof.Machine.execPmbRequestAck vout s
  | .pmbRequestFail status why => Sys2Proof.Machine.execPmbRequestFail status why s
  | .pmbBackoffEnd => Sys2Proof.Machine.execPmbBackoffEnd s
  | .pmbCmdReadNow ini why vout status w => Sys2Proof.Machine.execPmbCmdReadNow ini why vout status w s
  | .pmbCmdClearFaults ini why w => Sys2Proof.Machine.execPmbCmdClearFaults ini why w s
  | .pmbCntClr ini w => Sys2Proof.Machine.execPmbCntClr ini w s
  | .blwConfigWrite ini r w => Sys2Proof.Machine.execBlwConfigWrite ini r w s
  | .blwCold ini w => Sys2Proof.Machine.execBlwCold ini w s
  | .blwClrCounts ini w => Sys2Proof.Machine.execBlwClrCounts ini w s
  | .memSkimVisit k syn item => Sys2Proof.Machine.execMemSkimVisit k syn item s
  | .memHardFault => Sys2Proof.Machine.execMemHardFault s
  | .memBankLapEnd k ms => Sys2Proof.Machine.execMemBankLapEnd k ms s
  | .memOverallLapEnd ms => Sys2Proof.Machine.execMemOverallLapEnd ms s
  | .rowRemapDone k found => Sys2Proof.Machine.execRowRemapDone k found s
  | .migrateDone k found => Sys2Proof.Machine.execMigrateDone k found s
  | .memWipeReq ini w => Sys2Proof.Machine.execMemWipeReq ini w s
  | .wipeDone => Sys2Proof.Machine.execWipeDone s
  | .memClrTrack ini w => Sys2Proof.Machine.execMemClrTrack ini w s
  | .memClrCounts ini w => Sys2Proof.Machine.execMemClrCounts ini w s
  | .smbWriteBlock bytes => Sys2Proof.Machine.execSmbWriteBlock bytes s
  | .smbReadBlock bytes => Sys2Proof.Machine.execSmbReadBlock bytes s
  | .smbStatus => Sys2Proof.Machine.execSmbStatus s
  | .smbRmw bytes => Sys2Proof.Machine.execSmbRmw bytes s
  | .smbWake => Sys2Proof.Machine.execSmbWake s
  | .smbBadCommand cmd => Sys2Proof.Machine.execSmbBadCommand cmd s
  | .smbOtherAddress a => Sys2Proof.Machine.execSmbOtherAddress a s
  | .smbDeepMatch cmd => Sys2Proof.Machine.execSmbDeepMatch cmd s
  | .smbSclTimeout cut => Sys2Proof.Machine.execSmbSclTimeout cut s
  | .smbSdaRelease cut => Sys2Proof.Machine.execSmbSdaRelease cut s
  | .hostNotifyEval idle => Sys2Proof.Machine.execHostNotifyEval idle s
  | .hostNotifyDone => Sys2Proof.Machine.execHostNotifyDone s
  | .hnArbLoss => Sys2Proof.Machine.execHnArbLoss s
  | .hnNack => Sys2Proof.Machine.execHnNack s
  | .hnRetryExpire => Sys2Proof.Machine.execHnRetryExpire s
  | .busStuckDetect port scl => Sys2Proof.Machine.execBusStuckDetect port scl s
  | .busRecoveryTry port clocks freed => Sys2Proof.Machine.execBusRecoveryTry port clocks freed s
  | .smbRecRetry ini port w => Sys2Proof.Machine.execSmbRecRetry ini port w s
  | .smbCntClr ini w => Sys2Proof.Machine.execSmbCntClr ini w s
  | .ageingMeasure slow => Sys2Proof.Machine.execAgeingMeasure slow s
  | .rotationStep => Sys2Proof.Machine.execRotationStep s
  | .mntPostStart ini w => Sys2Proof.Machine.execMntPostStart ini w s
  | .jobEnd => Sys2Proof.Machine.execJobEnd s
  | .macSubstSwitch => Sys2Proof.Machine.execMacSubstSwitch s
  | .spareBankTestDone b error => Sys2Proof.Machine.execSpareBankTestDone b error s
  | .mntCntClr ini w => Sys2Proof.Machine.execMntCntClr ini w s
  | .dbgFreezeReq ini w => Sys2Proof.Machine.execDbgFreezeReq ini w s
  | .freezeTakeHold => Sys2Proof.Machine.execFreezeTakeHold s
  | .dbgFreezeResume ini level us w => Sys2Proof.Machine.execDbgFreezeResume ini level us w s
  | .dbgCntClr ini w => Sys2Proof.Machine.execDbgCntClr ini w s
  | .jtagRegAccess dr => Sys2Proof.Machine.execJtagRegAccess dr s
  | .jtagSnapshot dr => Sys2Proof.Machine.execJtagSnapshot dr s
  | .jtagFreezeCtl dr level us => Sys2Proof.Machine.execJtagFreezeCtl dr level us s
  | .jtagExtest captured driven => Sys2Proof.Machine.execJtagExtest captured driven s
  | .jtagSamplePreload captured driven => Sys2Proof.Machine.execJtagSamplePreload captured driven s
  | .jtagTestLogicReset => Sys2Proof.Machine.execJtagTestLogicReset s
  | .lcyCheckToken ini w => Sys2Proof.Machine.execLcyCheckToken ini w s
  | .lcyCheckUnlock ini w => Sys2Proof.Machine.execLcyCheckUnlock ini w s
  | .lcyCheckDone => Sys2Proof.Machine.execLcyCheckDone s
  | .lcyTransition ini w => Sys2Proof.Machine.execLcyTransition ini w s
  | .lcyOtpProg ini w => Sys2Proof.Machine.execLcyOtpProg ini w s
  | .lcyOtpRead ini w => Sys2Proof.Machine.execLcyOtpRead ini w s
  | .otpAccessDone verified => Sys2Proof.Machine.execOtpAccessDone verified s
  | .sysSwReset ini w => Sys2Proof.Machine.execSysSwReset ini w s
  | .flashBoot a b => Sys2Proof.Machine.execFlashBoot a b s
  | .imageCheck => Sys2Proof.Machine.execImageCheck s
  | .imgWrite => Sys2Proof.Machine.execImgWrite s
  | .imgRmw => Sys2Proof.Machine.execImgRmw s
  | .imgWait => Sys2Proof.Machine.execImgWait s
  | .imgWaitPoll => Sys2Proof.Machine.execImgWaitPoll s
  | .imgDelay => Sys2Proof.Machine.execImgDelay s
  | .imgDelayExpire => Sys2Proof.Machine.execImgDelayExpire s
  | .imgCommit => Sys2Proof.Machine.execImgCommit s
  | .imgCommitComplete timeout => Sys2Proof.Machine.execImgCommitComplete timeout s
  | .imgEnd => Sys2Proof.Machine.execImgEnd s
  | .fllUnlock => Sys2Proof.Machine.execFllUnlock s
  | .usbSetConfiguration c => Sys2Proof.Machine.execUsbSetConfiguration c s
  | .usbSetAddress a => Sys2Proof.Machine.execUsbSetAddress a s
  | .jackBiasReady n => Sys2Proof.Machine.execJackBiasReady n s
  | .ainStopDone n => Sys2Proof.Machine.execAinStopDone n s
  | .aoutStopDone c => Sys2Proof.Machine.execAoutStopDone c s
  | .spkStopDone n => Sys2Proof.Machine.execSpkStopDone n s
  | .busStuckClear port => Sys2Proof.Machine.execBusStuckClear port s
  | .usbForcedReconnect => Sys2Proof.Machine.execUsbForcedReconnect s
  | .usbRwakeIdleWaitEnd => Sys2Proof.Machine.execUsbRwakeIdleWaitEnd s
  | .spdifTxFrame => Sys2Proof.Machine.execSpdifTxFrame s
  | .lcyFuseDone verified => Sys2Proof.Machine.execLcyFuseDone verified s
  | .usbPhyPllLock => Sys2Proof.Machine.execUsbPhyPllLock s
  | .usbPhyPllLockTimeout => Sys2Proof.Machine.execUsbPhyPllLockTimeout s

end Sys2Proof.Machine
end

