-- ==== Sys2Proof/Machine/Balls.lean ====
section
/-! DEFINITION. The signal balls (R38 to R40): what each one shows in reset, with its domain switched off, in OFF, and while its block
uses it. A ball's state follows from the state of the hub; none is held. -/

namespace Sys2Proof.Machine

/-- The signal balls of R38, each with its number in its row of the table; `right`, `neg` and `out` choose within a pair. -/
inductive Ball
  | spk (n : Fin 4) (neg : Bool) | sns (k : Fin 12) | vhold | cpFly (neg : Bool) | hpv (neg : Bool)
  | hp (n : Fin 2) (right : Bool) | hpSns (n : Fin 2) | hpMic (n : Fin 2) | hpDet (n : Fin 2) | lo (n : Fin 4) (neg : Bool)
  | ain (n : Fin 16) (neg : Bool) | beep | micBias (m : Fin 4) | vrefA | vrefB
  | sapBclk (p : Fin 8) | sapFs (p : Fin 8) | sapDin (p : Fin 8) | sapDout (p : Fin 8) | mclk (p : Fin 4)
  | pdmClk (g : Fin 2) | pdmD (k : Fin 8) | spdifIn | spdifOut | usbDp | usbDm | usbVbusDet | xtal (out : Bool)
  | smbScl | smbSda | irqN | addrSel | bootSel | pmbScl | pmbSda | pgood | wakeN | resetN | micPrivacyN | freeze | mainsSync
  | spiSck | spiCsN | spiIo (k : Fin 4) | tck | trstN | tms | tdi | tdo
deriving DecidableEq, Repr

/-- What a ball shows (R38): high impedance without a pull or with one of the three pulls, a bus keeper, a driven level, a resistor in
ohms to AVSS or PGND, a hold capacitor charging or not, the pump off, the crystal running or stopped, USB lines in suspend with the D+
pull-up as it was, a jack contact as the swap switch has placed it, or `used`: driven, biased or sensed by its block as configured. -/
inductive BallState
  | z | zd | zu | zu100 | kp | low | high | toAvss (ohm : Nat) | toPgnd (ohm : Nat) | charging | chargerOff | pumpOff
  | running | stopped | suspend (pullUp : Bool) | micContact | groundSense | used
deriving DecidableEq, Repr

/-- Does IOVDD feed a ball (R38)? -/
def Ball.ioBank : Ball → Bool
  | .sapBclk _ | .sapFs _ | .sapDin _ | .sapDout _ | .mclk _ | .pdmClk _ | .pdmD _ | .spdifIn | .spdifOut | .pmbScl | .pmbSda
  | .pgood | .freeze | .mainsSync | .spiSck | .spiCsN | .spiIo _ | .tck | .trstN | .tms | .tdi | .tdo => true
  | _ => false

/-- The state of a ball in reset (R38). -/
def Ball.reset : Ball → BallState
  | .spk _ _ => .toPgnd 2000
  | .vhold => .charging
  | .cpFly _ => .pumpOff
  | .hpv _ | .hp _ _ | .hpSns _ | .hpMic _ => .toAvss 1000
  | .lo _ _ | .micBias _ | .vrefA | .vrefB => .toAvss 10000
  | .hpDet _ | .wakeN | .resetN | .micPrivacyN => .zu100
  | .sapBclk _ | .sapFs _ | .sapDin _ | .sapDout _ | .freeze | .mainsSync | .spiSck | .tck | .trstN => .zd
  | .spiCsN | .spiIo _ | .tms | .tdi => .zu
  | .mclk _ | .pdmClk _ | .spdifOut => .low
  | .pdmD _ => .kp
  | .xtal _ => .running
  | _ => .z

/-- The state of a ball while its domain is switched off with the rest of the hub powered (R38); `pullUp` the D+ pull-up before. -/
def Ball.isolation (b : Ball) (pullUp : Bool) : BallState :=
  match b with
  | .spiSck => .low
  | .spiCsN => .high
  | .xtal _ => .stopped
  | .usbDp | .usbDm => .suspend pullUp
  | b => b.reset

/-- The state of a ball in OFF (R38, R40): the pulls of the IOVDD bank are inactive. -/
def Ball.off : Ball → BallState
  | .vhold => .chargerOff
  | .cpFly _ => .pumpOff
  | .xtal _ => .stopped
  | .wakeN | .resetN | .micPrivacyN => .zu100
  | _ => .z

/-- The island whose domain a ball follows (R38). -/
def Ball.island : Ball → Island
  | .spk n _ => .spk n
  | .sns _ | .mainsSync => .sense
  | .cpFly _ | .hpv _ | .hp _ _ | .hpSns _ | .hpMic _ | .lo _ _ | .vrefB => .aout
  | .ain _ _ | .beep | .micBias _ | .vrefA => .ain
  | .sapBclk _ | .sapFs _ | .sapDin _ | .sapDout _ | .mclk _ | .spdifIn | .spdifOut => .ports
  | .pdmClk _ | .pdmD _ => .listen
  | .usbDp | .usbDm => .usb
  | .pmbScl | .pmbSda | .pgood | .freeze | .spiSck | .spiCsN | .spiIo _ | .tck | .trstN | .tms | .tdi | .tdo => .mgmt
  | _ => .aon

/-- Is a DAC channel's stage powered and its reset clamp released (R114 step 4)? -/
def State.aoutPowered (s : State) (c : Nat) : Bool :=
  match (s.aoutAt c).phase with | .off | .fault | .starting | .waitPump | .waitVref | .waitClk => false | _ => true

/-- A contact of a jack, the sleeve or ring 2, once identification begins: with the swap switch in position A the sleeve is the
microphone contact and ring 2 the ground sense, in position B the other way round. -/
def State.jackContact (s : State) (n : Nat) (sleeve : Bool) (b : Ball) : BallState :=
  if s.get (F.JCK_STATUS_STATE n) < 2 then b.reset
  else if s.on (F.JCK_STATUS_SWAP n) = sleeve then .groundSense else .micContact

/-- FS and DOUT of a port (R226, R237, R238): released in OFF, low while no frames run. -/
def State.sapLine (s : State) (p : Nat) : BallState :=
  if (s.sapAt p).phase = .off then .zd else if (s.sapAt p).phase.frames then .used else .low

/-- A ball of a block that runs (R39): its reset state until configuration has changed it. The boot loader drives the SPI balls when
BOOT_SEL selects flash and OTP has loaded; AIN14 and AIN15 stay Z, also while the jack's ball serves them. -/
def State.ballInUse (s : State) (b : Ball) : BallState :=
  let use (c : Bool) : BallState := if c then .used else b.reset
  let flash := s.on F.SYS_STRAP_BOOT_LVL && !s.lcy.unverified
  match b with
  | .spk n _ => use (!s.on (F.SPK_STATUS_HIZ n) && decide ((s.spkAt n).phase ≠ .off))
  | .cpFly _ | .hpv _ => use (s.on F.JCK_CP_STATUS_READY)
  | .hp n right => use (s.aoutPowered (2 * n + b2n right))
  | .lo n _ => use (s.aoutPowered (4 + n))
  | .hpSns n => s.jackContact n true b
  | .hpMic n => s.jackContact n false b
  | .sns k => use (decide (10 ≤ k.val) && s.ntcBias (k - 10))
  | .vhold => if s.pins.pvdd then .charging else .chargerOff
  | .micBias m => use (match s.biasAt m with | .off | .latched => false | _ => true)
  | .vrefA => use (s.on F.AUX_VREF_STATUS_VREFA_READY)
  | .vrefB => use (s.on F.JCK_VREFB_STATUS_READY)
  | .sapBclk p => if (s.sapAt p).master then (if (s.sapAt p).phase = .starting then .used else s.sapLine p) else .zd
  | .sapFs p => if (s.sapAt p).master then s.sapLine p else .zd
  | .sapDout p => s.sapLine p
  | .mclk p => use (s.mclkRuns p)
  | .pdmClk g => use (match (s.pdmAt g).phase with | .off | .waitClk | .quiesced => false | _ => true)
  | .spdifOut => use s.spdTx.sent.isSome
  | .usbDp | .usbDm => use (s.on F.USB_STATE_CONNECTED)
  | .irqN => if s.pins.irqLow then .low else .z
  | .spiSck | .spiCsN | .spiIo _ => use flash
  | b => b.reset

/-- The state of a ball (R38). -/
def State.ball (s : State) (b : Ball) : BallState :=
  if s.domState = 6 then b.reset
  else if s.domState = 5 then b.off
  else match b with
    | .xtal _ => if s.xtalRuns then .running else .stopped
    | _ => if s.isolated b.island then b.isolation (s.on F.USB_STATE_CONNECTED) else s.ballInUse b

end Sys2Proof.Machine
end

