-- ==== Sys2Proof/Safety.lean ====
section
/-! DEFINITION. The terms that claims are stated in: what a command leaves alone, and the invariants of the hub. -/

namespace Sys2Proof.Machine

/-- The parts of the state beside the register file: one name for each other field of State. -/
inductive Part
  | jobs | jobSeq | lastJobId | free | pins | grants | domState | gated | quiet | poison | sram | ain | bias | beep
  | aslTrim | adcSubst | vrefaStarted | aout | jack | dslTrim | dacSubst | vrefbStarted | cpFault | cpStop | spk
  | lanes | coefPend | poolFree | xpPend | xpAct | xpRamp | sinkAct | sinkFade | tapFade | bus | fifTarget | ainTap
  | sap | pdm | mics | spdRx | spdTx | trk | mains | feChange | engStop | opHeld | tkoOn | tko | pllTest | famOut | seen | lst
  | usb | pwr | sns | pmb | opNext | blw | mem | stalled | answers | smb | otp | mac | bankTest | rotMs | rotDue | lcy | jtag
  | freezeArmed | boot | keptMgmt | keptUsb | ldr | pending
deriving DecidableEq, Repr

/-- A part reads the same in two states. -/
def Part.same (s u : State) : Part → Prop
  | .jobs => u.jobs = s.jobs
  | .jobSeq => u.jobSeq = s.jobSeq
  | .lastJobId => u.lastJobId = s.lastJobId
  | .free => u.free = s.free
  | .pins => u.pins = s.pins
  | .grants => u.grants = s.grants
  | .domState => u.domState = s.domState
  | .gated => u.gated = s.gated
  | .quiet => u.quiet = s.quiet
  | .poison => u.poison = s.poison
  | .sram => u.sram = s.sram
  | .ain => u.ain = s.ain
  | .bias => u.bias = s.bias
  | .beep => u.beep = s.beep
  | .aslTrim => u.aslTrim = s.aslTrim
  | .adcSubst => u.adcSubst = s.adcSubst
  | .vrefaStarted => u.vrefaStarted = s.vrefaStarted
  | .aout => u.aout = s.aout
  | .jack => u.jack = s.jack
  | .dslTrim => u.dslTrim = s.dslTrim
  | .dacSubst => u.dacSubst = s.dacSubst
  | .vrefbStarted => u.vrefbStarted = s.vrefbStarted
  | .cpFault => u.cpFault = s.cpFault
  | .cpStop => u.cpStop = s.cpStop
  | .spk => u.spk = s.spk
  | .lanes => u.lanes = s.lanes
  | .coefPend => u.coefPend = s.coefPend
  | .poolFree => u.poolFree = s.poolFree
  | .xpPend => u.xpPend = s.xpPend
  | .xpAct => u.xpAct = s.xpAct
  | .xpRamp => u.xpRamp = s.xpRamp
  | .sinkAct => u.sinkAct = s.sinkAct
  | .sinkFade => u.sinkFade = s.sinkFade
  | .tapFade => u.tapFade = s.tapFade
  | .bus => u.bus = s.bus
  | .fifTarget => u.fifTarget = s.fifTarget
  | .ainTap => u.ainTap = s.ainTap
  | .sap => u.sap = s.sap
  | .pdm => u.pdm = s.pdm
  | .mics => u.mics = s.mics
  | .spdRx => u.spdRx = s.spdRx
  | .spdTx => u.spdTx = s.spdTx
  | .trk => u.trk = s.trk
  | .mains => u.mains = s.mains
  | .feChange => u.feChange = s.feChange
  | .engStop => u.engStop = s.engStop
  | .opHeld => u.opHeld = s.opHeld
  | .tkoOn => u.tkoOn = s.tkoOn
  | .tko => u.tko = s.tko
  | .pllTest => u.pllTest = s.pllTest
  | .famOut => u.famOut = s.famOut
  | .seen => u.seen = s.seen
  | .lst => u.lst = s.lst
  | .usb => u.usb = s.usb
  | .pwr => u.pwr = s.pwr
  | .sns => u.sns = s.sns
  | .pmb => u.pmb = s.pmb
  | .opNext => u.opNext = s.opNext
  | .blw => u.blw = s.blw
  | .mem => u.mem = s.mem
  | .stalled => u.stalled = s.stalled
  | .answers => u.answers = s.answers
  | .smb => u.smb = s.smb
  | .otp => u.otp = s.otp
  | .mac => u.mac = s.mac
  | .bankTest => u.bankTest = s.bankTest
  | .rotMs => u.rotMs = s.rotMs
  | .rotDue => u.rotDue = s.rotDue
  | .lcy => u.lcy = s.lcy
  | .jtag => u.jtag = s.jtag
  | .freezeArmed => u.freezeArmed = s.freezeArmed
  | .boot => u.boot = s.boot
  | .keptMgmt => u.keptMgmt = s.keptMgmt
  | .keptUsb => u.keptUsb = s.keptUsb
  | .ldr => u.ldr = s.ldr
  | .pending => u.pending = s.pending

/-- Bit `i` of the register at byte address `a` lies in one of the listed fields. -/
def inFlds (fs : List Fld) (a i : Nat) : Prop := ∃ f ∈ fs, f.addr = a ∧ f.lo ≤ i ∧ i < f.lo + f.w

/-- `u` differs from `s` at most in the listed parts, in the registers of the listed pages and in the listed fields: every
other part, and every other bit of every register, is unchanged. -/
def Touches (parts : List Part) (pages : List Nat) (fs : List Fld) (s u : State) : Prop :=
  (∀ p, p ∉ parts → p.same s u) ∧
  ∀ a i, i < 32 → a / 0x400 ∉ pages → ¬ inFlds fs a i → bits (u.reg a) i 1 = bits (s.reg a) i 1

/-- A whole register as one field. -/
def whole (a : Nat) : Fld := ⟨a, 0, 32⟩

/-- The command answers `u` once settled: the needed PLLs start, and IRQ_N follows the pending interrupts (settle). -/
def Yields (c : Instr) (s u : State) : Prop := exec c s = .next (settle u)

/-! ## Fields that a block's phase shows in -/

/-- The status fields an input's phase shows in (R103). -/
def ainStatusFlds (n : Nat) : List Fld :=
  [F.AIN_STATUS_STATE n, F.AIN_STATUS_MODE_NOW n, F.AIN_STATUS_SRC_JACK n, F.AIN_STATUS_DOMAIN n, F.AIN_STATUS_PRIVACY n]

/-- The status fields a DAC channel's phase shows in (R135). -/
def aoutStatusFlds (c : Nat) : List Fld :=
  [F.AOUT_STATUS_STATE c, F.AOUT_STATUS_JACK_MUTE c, F.AOUT_STATUS_HOLD_MUTE c, F.AOUT_STATUS_DOMAIN c]

/-- The status fields of a jack and of its two headphone channels (R126 to R137). -/
def jackStatusFlds (n : Nat) : List Fld :=
  [F.JCK_STATUS_STATE n, F.JCK_STATUS_INSERTED n, F.JCK_STATUS_MIC_MUTED n, F.JCK_STATUS_BIAS_READY n] ++
    aoutStatusFlds (2 * n) ++ aoutStatusFlds (2 * n + 1)

/-- The status fields a speaker channel's phase shows in (R161). -/
def spkStatusFlds (n : Nat) : List Fld := [F.SPK_STATUS_STATE n, F.SPK_STATUS_DOMAIN n, F.SPK_STATUS_HIZ n]

/-- The fields of a speaker channel's protection status (R152). -/
def spkProtFlds (n : Nat) : List Fld :=
  [F.SPK_PROT_GR n, F.SPK_PROT_CEIL_ACT n, F.SPK_PROT_SEED_CAP n, F.SPK_PROT_X_ACT n, F.SPK_PROT_T_ACT n, F.SPK_PROT_GUARD_EQ n,
    F.PG_IRQ (pgSPK n) 4]

/-- The status registers a lane's record shows in (R173, R191, R194). -/
def laneStatusFlds (n : Nat) : List Fld :=
  [F.LANE_STATUS_STATE n, F.LANE_STATUS_DOMAIN n, F.LANE_STATUS_RATE n, F.LANE_STATUS_STOP_NOW n, F.LANE_STATUS_BYPASS n,
    F.LANE_STATUS_CHG_WAIT n, F.LANE_STATUS_RC_STATE n, F.LANE_STATUS_EVENT_RAMP n, whole (A.LANE_RATIO n),
    F.LANE_RATE_MEAS_RATE n, F.LANE_COEF_STATUS_BUSY n, F.LANE_COST_STOP0 n, F.LANE_COST_NOW n]

/-- The status registers a port's record shows in (R255, R268, R284). -/
def sapStatusFlds (p : Nat) : List Fld :=
  [F.SAP_STATUS_STATE p, F.SAP_STATUS_DOMAIN p, F.SAP_STATUS_RATE_NOW p, F.SAP_STATUS_TRK_STATE p, F.SAP_BCLK_HZ p,
    whole (A.CLK_FDIV p)]

/-- The PDM status fields (R257). -/
def pdmStatusFlds : List Fld := [F.PDM_STATE 0, F.PDM_STATE 1, F.PDM_MIC_STATUS_RUNNING, F.PDM_STATUS_PRIVACY]

/-- The registers the transmitter's record shows in (R259, R269). -/
def spdTxStatusFlds : List Fld :=
  [F.SPD_TX_STATUS_STATE, F.SPD_TX_STATUS_DOMAIN, F.SPD_TX_STATUS_HOLD, whole (A.CLK_FDIV 8), F.PG_IRQ 0x2A 6]

/-- A tracker's own registers and those that mirror it (R246, R255, R284). -/
def trkFlds (t : Nat) : List Fld :=
  [F.CLK_TRK_STATUS_STATE t, F.CLK_TRK_STATUS_EDGES t, F.PG_IRQ 0x03 6] ++
    (if t = 0 then [] else if t = 1 then [F.PG_IRQ 0x2A 2, F.SPD_RX_STATUS_TRK_STATE, F.SPD_RX_STATUS_RATE]
     else [F.SAP_STATUS_TRK_STATE (t - 2), F.SAP_STATUS_RATE_NOW (t - 2)])

/-- The parts of the audio blocks: analogue, lanes, Churn, Fife, ports, listening and sense. -/
def audioParts : List Part :=
  [.ain, .ainTap, .bias, .beep, .adcSubst, .aout, .jack, .dacSubst, .cpFault, .cpStop, .spk, .lanes, .coefPend, .poolFree,
    .xpPend, .xpAct, .xpRamp, .sinkAct, .sinkFade, .tapFade, .bus, .fifTarget, .sap, .pdm, .mics, .spdRx, .spdTx, .engStop,
    .poison, .lst, .sns]

/-- The pages of the audio blocks: sense and listening to S/PDIF, and the lanes. -/
def audioPages : List Nat := (List.range 0x20).map (· + 0x0B) ++ (List.range 48).map (· + 0x30)

/-- The parts and the page of the job table (R455). -/
def jobParts : List Part := [.jobs, .jobSeq, .lastJobId]

/-- The registers that follow the listening block (R328, R336, R309). -/
def lstStatusFlds : List Fld :=
  [F.LST_STATUS_STATE, F.LST_COUNTER_NOW, F.LST_HIST_SPANS_SPANS, F.LST_HIST_OLDEST_COUNTER, F.USB_HIST_STATUS_ARMED,
    F.USB_HIST_STATUS_STREAMING, F.USB_HIST_STATUS_LIVE, F.USB_HIST_COUNTER_NEXT]

/-- May an initiator's word be written at once and without a violation (R69 to R74)? -/
def State.mayWrite (s : State) (ini a : Nat) (w : Word) : Bool :=
  s.pathOpen ini && !s.wouldStrike ini a w && (decide (ini ≠ 4) || (decide (s.stalled = []) && !s.wipeBars true (placeOf a)))

/-- Registers whose word is only held: a write starts nothing beyond the access types (R6 to R8). Interrupt flags and enables and the
clock gate of every page (R58), and some of each block's settings. -/
def heldReg (a : Nat) : Bool :=
  ((pageRow (a / 0x400)).isSome && (decide (a % 0x400 = 0x00C) || decide (a % 0x400 = 0x010) || decide (a % 0x400 = 0x020))) ||
    [A.SYS_IRQ_GROUP_EN, A.PWR_RET_MASK, A.PWR_WAKE_EN, A.PWR_WAKE_TIMER, A.BLW_SAG, A.MEM_ECC_CFG, A.PMB_TIMING, A.LST_VAD,
      A.LST_SPOT].contains a ||
    (List.range 4).any (fun k => decide (a = A.USB_AS_CFG k)) || (List.range 16).any (fun k => decide (a = A.SNS_SEQ k)) ||
    (List.range 32).any (fun k => decide (a = A.FIF_GAIN k)) || (List.range 110).any (fun k => decide (a = A.CHN_SINK k))

/-- The word a register holds after a write: its fields by their access types (R6 to R8). -/
def State.taken (s : State) (a : Nat) (w : Word) : Word :=
  match regDefAt a with
  | some d => (together a (s.reg a) w (d.take (s.reg a) w).1).1
  | none => s.reg a

/-- IRQ_N is low exactly while an enabled group is pending (R67); a management island without power or clock holds it. -/
def State.irqRight (s : State) : Prop :=
  s.mgmtRuns = true → s.domState ≤ 2 → s.pins.irqLow = decide (s.notifyWord ≠ 0)

/-! ## A lane's cost against the capacity (R193) -/

/-- Is the lane not running, so that a write takes effect at once? -/
def State.laneIdle (s : State) (n : Nat) : Bool := !(s.laneAt n).phase.live

/-- What lane n would cost with the words `e` at a stop. -/
def State.laneCostWith (s : State) (n : Nat) (e : LaneEff) (stop : Nat) : Nat :=
  (s.modLane n (fun l => { l with eff := e })).laneCost n e (s.laneAt n).stages stop

/-- What an off lane would cost with its registers' words. -/
def State.laneStartCost (s : State) (n stop : Nat) : Nat := s.laneCostWith n (s.laneWords n) stop

/-- MAC per frame that the words `e` add at a stop. -/
def State.laneMore (s : State) (n : Nat) (e : LaneEff) (stop : Nat) : Nat :=
  s.laneCostWith n e stop - s.laneCostWith n (s.laneAt n).eff stop

/-- Does a write of the words `e` take effect at once: the lane is not running, the cost does not rise, or it fits? -/
def State.laneTakes (s : State) (n : Nat) (e : LaneEff) : Bool :=
  s.laneIdle n || decide (s.laneMore n e (s.laneStop n) = 0) || s.laneFits (s.laneMore n e (s.laneStop n))

/-- Would it fit at OP3 with every elastic lane at its MAX_STOP? -/
def State.laneWaits (s : State) (n : Nat) (e : LaneEff) : Bool := s.laneCould (s.laneMore n e (s.laneMost n))

/-- No command may stop the hub. -/
def Safe (o : Host.Outcome State Fault Refusal) : Prop := ∃ t, o = .next t

end Sys2Proof.Machine
end

