-- ==== Sys2Proof/Certificates/Slice0/Obligations.lean ====
section
/-! DEFINITION. The statements for the provers, in the order of the spec's files. `Yields c s u` says that the command `c` answers
the next state `settle u`; `Touches ps gs fs s u` is the frame: outside the parts `ps`, the register pages `gs` and the fields `fs`,
`u` is `s`. -/

open Sys2Proof Sys2Proof.Machine

/-- With a command at the front of the queue, step is exec of it on the state with the queue's rest. With an empty queue the hub idles: the model's choice (log entry 1). exec and step answer a next state for every command and every state: no command stops the hub. -/
def Obligations.StepTakesFront : Prop :=
  (∀ (c : Instr) (rest : List Instr) (s : State), s.pending = c :: rest → step s = exec c { s with pending := rest }) ∧
  (∀ s : State, s.pending = [] → step s = .next s) ∧
  (∀ (c : Instr) (s : State), Safe (exec c s)) ∧
  (∀ s : State, Safe (step s))

/-- In every state that a reset leaves, and in State.reset, a read of SYS_ID gives 0x0F4848A0: family 0x0F in [31:24], part 0x4848 in [23:8], revision 0xA0 in [7:0]. -/
def Obligations.SysIdAfterEveryReset : Prop :=
  (∀ (s : State) (aon : Bool) (b : Boot), (s.enterReset aon b).readReg A.SYS_ID = 0x0F4848A0#32) ∧
  State.reset.readReg A.SYS_ID = 0x0F4848A0#32 ∧ bits 0x0F4848A0#32 24 8 = 0x0F ∧ bits 0x0F4848A0#32 8 16 = 0x4848 ∧
  bits 0x0F4848A0#32 0 8 = 0xA0

/-- In State.reset the level of IRQ_N follows the enabled pending groups (irqRight), the register file is in its canonical form, and so is the shared SRAM. -/
def Obligations.ResetMeetsInvariants : Prop :=
  State.reset.irqRight ∧ canonical regReset State.reset.regs = true ∧ Memory.wf State.reset.sram = true

/-- For every state in which IRQ_N is right, and for every command on any state: if the step answers a next state, then there IRQ_N is low exactly when SYS_IRQ_GROUP AND SYS_IRQ_GROUP_EN is nonzero, as long as the management island is powered and runs (R67); a management island that is frozen or without power holds the level (R463, R448). The bounds of R448 on the time are left out of the model. -/
def Obligations.StepDrivesIrq : Prop :=
  (∀ (c : Instr) (s t : State), exec c s = .next t → t.irqRight) ∧
  (∀ s t : State, s.irqRight → step s = .next t → t.irqRight)

/-- Whatever command is performed: if the registers are listed by rising address with no register at its reset value, and the SRAM words by rising address with no zero word, then so they are in the next state. Equal contents are then equal data, and a read after a write gives what was written. -/
def Obligations.StepKeepsMemory : Prop :=
  ∀ s t : State, canonical regReset s.regs = true → Memory.wf s.sram = true → step s = .next t →
    canonical regReset t.regs = true ∧ Memory.wf t.sram = true

/-- While the hub serves the bus, a command code other than 0x20 to 0x24 is NACKed, BAD_CMD is set, the last status is unchanged, and no violation is logged: neither the global log nor the violation record or fault code of any page changes. -/
def Obligations.UnknownSmbCommand : Prop :=
  (∀ (cmd : Nat) (s : State), 
      s.smbServes = true → (cmd < 0x20 ∨ 0x24 < cmd) →
      ∃ u, Yields (.smbBadCommand cmd) s u ∧
        u.smb.ack = false ∧
        u.get F.SMB_FLAGS_BAD_CMD = 1 ∧
        u.get F.SMB_LAST_STATUS = s.get F.SMB_LAST_STATUS ∧
        u.reg A.DBG_VIOL_COUNT = s.reg A.DBG_VIOL_COUNT ∧
        u.reg A.DBG_VIOL_LAST_ADDR = s.reg A.DBG_VIOL_LAST_ADDR ∧
        u.reg A.DBG_VIOL_LAST_INFO = s.reg A.DBG_VIOL_LAST_INFO ∧
        u.reg A.DBG_VIOL_FIRST_ADDR = s.reg A.DBG_VIOL_FIRST_ADDR ∧
        u.reg A.DBG_VIOL_FIRST_INFO = s.reg A.DBG_VIOL_FIRST_INFO ∧
        (∀ p : Nat, p < 96 → u.reg (p * 0x400 + 0x18) = s.reg (p * 0x400 + 0x18) ∧ u.reg (p * 0x400 + 0x1C) = s.reg (p * 0x400 + 0x1C) ∧ u.reg (p * 0x400 + 0x0C) = s.reg (p * 0x400 + 0x0C)) ∧
        Touches [.smb] [] [F.SMB_COUNT_TRANSACTIONS, F.SMB_STATE_BUSY, F.SMB_FLAGS_BAD_CMD] s u)

/-- For a word the initiator may write. AIN_MODE_WRITE, with no substitution of the input: MODE is held; a first MODE other than 0 on an OFF input of an enabled page starts it (R88 step 1); on a running input another MODE starts the 1 ms mute of a reconfiguration (R89) and MODE 0 the ramp of the stop (R90). AIN_FMT_WRITE that changes RATE or FILTER of a running input: the fields are held, and an input that may run mutes for its reconfiguration; in the crossfade of the input's own substitution only FMT_PENDING is set (R102). AIN_PAIR_ENABLE_WRITE starts an OFF input with a MODE, and ramps a running one down. AIN_MUTE_WRITE on a running input holds MUTE and shows MUTED or RUNNING. AIN_CAL_NOW mutes a RUNNING input for calibration and leaves an input in any other sequence where it is. AIN_PGA_WRITE and AIN_DC_HPF_WRITE hold their fields and move nothing. AIN_CLR_COUNT clears COUNT. Each with its frame. -/
def Obligations.AnalogueInputWrites : Prop :=
  (∀ (ini : Fin 5) (n : Fin 16) (w : Word) (s : State), 
      s.mayWrite ini (A.AIN_CTRL n) w = true → (s.adcSub (ainGroup n)).all (fun x => decide (x.unit ≠ n.val)) = true →
      ∃ u, Yields (.ainModeWrite ini n w) s u ∧
        u.get (F.AIN_CTRL_MODE n) = bits w 0 2 ∧
        (s.on (F.PG_ENABLE (pgAIN n)) = true → (s.ainAt n).phase = .off → s.get (F.AIN_CTRL_MODE n) = 0 → bits w 0 2 ≠ 0 → (u.ainAt n).phase = .powerUp ∧ u.get (F.AIN_STATUS_STATE n) = 2) ∧
        ((s.ainAt n).phase = .running → s.get (F.AIN_CTRL_MODE n) ≠ bits w 0 2 → s.get (F.AIN_CTRL_MODE n) ≠ 0 → bits w 0 2 ≠ 0 → (u.ainAt n).phase = .muteToReconf) ∧
        ((s.ainAt n).phase = .running → s.get (F.AIN_CTRL_MODE n) ≠ 0 → bits w 0 2 = 0 → (u.ainAt n).phase = .muteToOff) ∧
        Touches [.ain] [] (whole (A.AIN_CTRL n) :: F.AIN_STATUS_FMT_PENDING n :: F.AIN_ELASTIC_STOP_NOW n :: ainStatusFlds n) s u) ∧
  (∀ (ini : Fin 5) (n : Fin 16) (w : Word) (s : State), 
      s.mayWrite ini (A.AIN_FMT n) w = true → (s.adcSub (ainGroup n)).all (fun x => decide (x.unit ≠ n.val)) = true → (s.ainAt n).phase = .running → (s.get (F.AIN_FMT_RATE n) ≠ bits w 0 4 ∨ s.get (F.AIN_FMT_FILTER n) ≠ bits w 4 2) →
      ∃ u, Yields (.ainFmtWrite ini n w) s u ∧
        u.get (F.AIN_FMT_RATE n) = bits w 0 4 ∧
        u.get (F.AIN_FMT_FILTER n) = bits w 4 2 ∧
        u.get (F.AIN_FMT_DC_HPF n) = bits w 6 2 ∧
        (s.ainAble n = true → (u.ainAt n).phase = .muteToReconf) ∧
        Touches [.ain] [] (whole (A.AIN_FMT n) :: ainStatusFlds n) s u) ∧
  (∀ (ini : Fin 5) (n : Fin 16) (w : Word) (x : Subst) (s : State), 
      s.mayWrite ini (A.AIN_FMT n) w = true → s.adcSub (ainGroup n) = some x → x.unit = n.val → x.crossfade = true → (s.ainAt n).phase = .running → (s.get (F.AIN_FMT_RATE n) ≠ bits w 0 4 ∨ s.get (F.AIN_FMT_FILTER n) ≠ bits w 4 2) →
      ∃ u, Yields (.ainFmtWrite ini n w) s u ∧
        u.get (F.AIN_FMT_RATE n) = bits w 0 4 ∧
        u.get (F.AIN_FMT_FILTER n) = bits w 4 2 ∧
        u.get (F.AIN_STATUS_FMT_PENDING n) = 1 ∧
        Touches [] [] [whole (A.AIN_FMT n), F.AIN_STATUS_FMT_PENDING n] s u) ∧
  (∀ (ini : Fin 5) (k : Fin 8) (w : Word) (s : State), 
      s.mayWrite ini ((0x10 + k.val) * 0x400 + 4) w = true → s.islandOn .ain = true → s.get (F.PG_ENABLE (0x10 + k.val)) ≠ bits w 0 1 →
      ∃ u, Yields (.ainPairEnableWrite ini k w) s u ∧
        u.get (F.PG_ENABLE (0x10 + k.val)) = bits w 0 1 ∧
        (∀ i : Nat, i < 2 → bits w 0 1 = 1 → (s.ainAt (2 * k.val + i)).phase = .off → s.get (F.AIN_CTRL_MODE (2 * k.val + i)) ≠ 0 → (u.ainAt (2 * k.val + i)).phase = .powerUp) ∧
        (∀ i : Nat, i < 2 → bits w 0 1 = 0 → (s.ainAt (2 * k.val + i)).phase = .running → (u.ainAt (2 * k.val + i)).phase = .muteToOff) ∧
        Touches [.ain] [] (whole ((0x10 + k.val) * 0x400 + 0x018) :: whole ((0x10 + k.val) * 0x400 + 0x01C) :: F.PG_ENABLE (0x10 + k.val) :: F.AIN_STATUS_FMT_PENDING (2 * k.val) :: F.AIN_STATUS_FMT_PENDING (2 * k.val + 1) :: ainStatusFlds (2 * k.val) ++ ainStatusFlds (2 * k.val + 1)) s u) ∧
  (∀ (ini : Fin 5) (n : Fin 16) (w : Word) (s : State), 
      s.mayWrite ini (A.AIN_CTRL n) w = true → (s.ainAt n).phase = .running → s.get (F.AIN_CTRL_MODE n) = bits w 0 2 → bits w 6 1 = 0 →
      ∃ u, Yields (.ainMuteWrite ini n w) s u ∧
        u.get (F.AIN_CTRL_MUTE n) = bits w 7 1 ∧
        (u.ainAt n).phase = .running ∧
        (u.get (F.AIN_STATUS_STATE n) = if bits w 7 1 = 1 then 5 else 4) ∧
        Touches [] [] (whole (A.AIN_CTRL n) :: F.AIN_ELASTIC_STOP_NOW n :: ainStatusFlds n) s u) ∧
  (∀ (ini : Fin 5) (n : Fin 16) (w : Word) (s : State), 
      s.mayWrite ini (A.AIN_CTRL n) (w ||| 0x40#32) = true → s.get (F.AIN_CTRL_MODE n) = bits w 0 2 →
      ∃ u, Yields (.ainCalNow ini n w) s u ∧
        ((s.ainAt n).phase = .running → s.get (F.AIN_STATUS_STATE n) = 4 → (u.ainAt n).phase = .calMute) ∧
        ((s.ainAt n).phase ≠ .running → (u.ainAt n).phase = (s.ainAt n).phase) ∧
        Touches [.ain] [] (whole (A.AIN_CTRL n) :: F.AIN_ELASTIC_STOP_NOW n :: ainStatusFlds n) s u) ∧
  (∀ (ini : Fin 5) (n : Fin 16) (w : Word) (s : State), 
      s.mayWrite ini (A.AIN_PGA n) w = true →
      ∃ u, Yields (.ainPgaWrite ini n w) s u ∧
        u.get (F.AIN_PGA_GAIN n) = bits w 0 7 ∧
        u.get (F.AIN_PGA_GAIN_NOW n) = s.get (F.AIN_PGA_GAIN_NOW n) ∧
        Touches [] [] [F.AIN_PGA_GAIN n] s u) ∧
  (∀ (ini : Fin 5) (n : Fin 16) (w : Word) (s : State), 
      s.mayWrite ini (A.AIN_FMT n) w = true → s.get (F.AIN_FMT_RATE n) = bits w 0 4 → s.get (F.AIN_FMT_FILTER n) = bits w 4 2 →
      ∃ u, Yields (.ainDcHpfWrite ini n w) s u ∧
        u.get (F.AIN_FMT_DC_HPF n) = bits w 6 2 ∧
        Touches [] [] [F.AIN_FMT_DC_HPF n] s u) ∧
  (∀ (ini : Fin 5) (n : Fin 16) (w : Word) (s : State), 
      s.mayWrite ini (A.AIN_CLIP n) (w ||| 0x20000#32) = true →
      ∃ u, Yields (.ainClrCount ini n w) s u ∧
        u.get (F.AIN_CLIP_COUNT n) = 0 ∧
        (u.get (F.AIN_CLIP_CLIP n) = if bits w 16 1 = 1 then 0 else s.get (F.AIN_CLIP_CLIP n)) ∧
        Touches [] [] [F.AIN_CLIP_COUNT n, F.AIN_CLIP_CLIP n] s u)

/-- While the analogue-input island is clocked. AIN_START on a settled input that is not reconfiguring: WAIT_CLK without its PLL, else a wait without VREFA, else calibration when CAL_AUTO is set, else the decimator's fill of its length. AIN_RUNNING ends the unmute ramp: STATE RUNNING or MUTED, and the READY interrupt. AIN_CAL_DONE holds an offset within the limits with VALID, or keeps the old one and sets CAL_FAIL, fault 0x01 and the interrupt; the fill follows. AIN_STOP_DONE on a muted input with MODE 0 whose Fife routes are silent: OFF, the slice map unchanged. AIN_PGA_STEP in mic mode moves the applied gain one step towards GAIN, or leaves it there. Each with its frame. -/
def Obligations.AnalogueInputEvents : Prop :=
  (∀ (n : Fin 16) (s : State), 
      s.clocked .ain = true → (s.ainAt n).phase = .powerUp → (s.ainAt n).reconf = false →
      ∃ u, Yields (.ainStart n) s u ∧
        ((u.ainAt n).phase = (if s.famUp (rateFamily (s.ainAt n).rate) = false then .waitClk else if s.on F.AUX_VREF_STATUS_VREFA_READY = false then .waitVref else if s.on (F.AIN_CTRL_CAL_AUTO n) then .calibrating else .filling)) ∧
        (s.famUp (rateFamily (s.ainAt n).rate) = true → s.on F.AUX_VREF_STATUS_VREFA_READY = true → s.on (F.AIN_CTRL_CAL_AUTO n) = false → (u.ainAt n).fill = fillCount (s.ainAt n).filter) ∧
        Touches [.ain] [] (ainStatusFlds n) s u) ∧
  (∀ (n : Fin 16) (s : State), 
      s.clocked .ain = true → (s.ainAt n).phase = .unmuting →
      ∃ u, Yields (.ainRunning n) s u ∧
        (u.ainAt n).phase = .running ∧
        (u.get (F.AIN_STATUS_STATE n) = if s.on (F.AIN_CTRL_MUTE n) then 5 else 4) ∧
        u.on (F.PG_IRQ (pgAIN n) (4 + n % 2)) = true ∧
        Touches [.ain] [] (F.PG_IRQ (pgAIN n) (4 + n % 2) :: ainStatusFlds n) s u) ∧
  (∀ (n : Fin 16) (offset : Int) (s : State), 
      s.clocked .ain = true → (s.ainAt n).phase = .calibrating →
      ∃ u, Yields (.ainCalDone n offset) s u ∧
        (-41943 ≤ offset → offset ≤ 41943 → signed 24 (u.get (F.AIN_CAL_OFFSET n)) = offset ∧ u.get (F.AIN_CAL_VALID n) = 1 ∧ u.get (F.AIN_CAL_CAL_FAIL n) = 0 ∧ u.get (F.PG_FAULT (pgAIN n)) = s.get (F.PG_FAULT (pgAIN n))) ∧
        (offset < -41943 ∨ 41943 < offset → u.get (F.AIN_CAL_OFFSET n) = (if s.on (F.AIN_CAL_VALID n) then s.get (F.AIN_CAL_OFFSET n) else 0) ∧ u.get (F.AIN_CAL_CAL_FAIL n) = 1 ∧ u.get (F.PG_FAULT (pgAIN n)) = 1 ∧ u.on (F.PG_IRQ (pgAIN n) (6 + n % 2)) = true) ∧
        (u.ainAt n).phase = .filling ∧
        Touches [.ain] [] (whole (A.AIN_CAL n) :: F.PG_FAULT (pgAIN n) :: F.PG_IRQ (pgAIN n) 1 :: F.PG_IRQ (pgAIN n) (6 + n % 2) :: ainStatusFlds n) s u) ∧
  (∀ (n : Fin 16) (s : State), 
      s.clocked .ain = true → (s.ainAt n).phase = .muteToOff → s.fifSilent n = true → s.get (F.AIN_CTRL_MODE n) = 0 →
      ∃ u, Yields (.ainStopDone n) s u ∧
        (u.ainAt n).phase = .off ∧
        u.get (F.AIN_STATUS_STATE n) = 0 ∧
        u.ainSlice n = s.ainSlice n ∧
        Touches [.ain] [] (F.AIN_STATUS_OVL_NOW n :: F.AIN_STATUS_RECOVERING n :: ainStatusFlds n) s u) ∧
  (∀ (n : Fin 16) (s : State), 
      s.clocked .ain = true → (s.ainAt n).phase ≠ .off → (s.ainAt n).mode = 1 →
      ∃ u, Yields (.ainPgaStep n) s u ∧
        (s.get (F.AIN_PGA_GAIN_NOW n) < s.get (F.AIN_PGA_GAIN n) → u.get (F.AIN_PGA_GAIN_NOW n) = s.get (F.AIN_PGA_GAIN_NOW n) + 1) ∧
        (s.get (F.AIN_PGA_GAIN n) < s.get (F.AIN_PGA_GAIN_NOW n) → u.get (F.AIN_PGA_GAIN_NOW n) + 1 = s.get (F.AIN_PGA_GAIN_NOW n)) ∧
        (s.get (F.AIN_PGA_GAIN n) = s.get (F.AIN_PGA_GAIN_NOW n) → u.get (F.AIN_PGA_GAIN_NOW n) = s.get (F.AIN_PGA_GAIN_NOW n)) ∧
        Touches [] [] [F.AIN_PGA_GAIN_NOW n] s u)

/-- While the analogue-input island is clocked. AIN_OVERLOAD_RESET on an input that is on, with no substitution in its group: OVL_NOW is set, RECOVERING cleared, and the side of the overload kept. AIN_OVERLOAD_END while OVL_NOW: it clears and RECOVERING is set. AIN_RECOVERY_END while RECOVERING: it clears. SLICE_STUCK_BIT on an input that is on and not in overload: fault 0x02 on the pair page; a fault substitution job is posted when none of the input is live and a slot is free, and with one live the jobs are unchanged. Each with its frame. -/
def Obligations.AnalogueInputOverload : Prop :=
  (∀ (n : Fin 16) (negative : Bool) (s : State), 
      s.clocked .ain = true → (s.ainAt n).phase ≠ .off → s.adcSub (ainGroup n) = none →
      ∃ u, Yields (.ainOverloadReset n negative) s u ∧
        u.get (F.AIN_STATUS_OVL_NOW n) = 1 ∧
        u.get (F.AIN_STATUS_RECOVERING n) = 0 ∧
        (u.ainAt n).ovlNeg = negative ∧
        Touches [.ain] [] [F.AIN_STATUS_OVL_NOW n, F.AIN_STATUS_RECOVERING n] s u) ∧
  (∀ (n : Fin 16) (s : State), 
      s.clocked .ain = true → s.on (F.AIN_STATUS_OVL_NOW n) = true →
      ∃ u, Yields (.ainOverloadEnd n) s u ∧
        u.get (F.AIN_STATUS_OVL_NOW n) = 0 ∧
        u.get (F.AIN_STATUS_RECOVERING n) = 1 ∧
        Touches [] [] [F.AIN_STATUS_OVL_NOW n, F.AIN_STATUS_RECOVERING n] s u) ∧
  (∀ (n : Fin 16) (s : State), 
      s.clocked .ain = true → s.on (F.AIN_STATUS_RECOVERING n) = true →
      ∃ u, Yields (.ainRecoveryEnd n) s u ∧
        u.get (F.AIN_STATUS_RECOVERING n) = 0 ∧
        (u.ainAt n).clipOpen = false ∧
        Touches [.ain] [] [F.AIN_STATUS_RECOVERING n] s u) ∧
  (∀ (n : Fin 16) (s : State), 
      s.clocked .ain = true → (s.ainAt n).phase ≠ .off → s.on (F.AIN_STATUS_OVL_NOW n) = false →
      ∃ u, Yields (.sliceStuckBit n) s u ∧
        u.get (F.PG_FAULT (pgAIN n)) = 2 ∧
        (s.faultJobLive 0 n = false → s.freeSlot.isSome = true → u.faultJobLive 0 n = true) ∧
        (s.faultJobLive 0 n = true → u.jobs = s.jobs) ∧
        Touches [.ain, .jobs, .jobSeq, .lastJobId] [] [F.PG_FAULT (pgAIN n), F.PG_IRQ (pgAIN n) 1, F.MNT_COUNT2_DROPPED, F.PG_IRQ 6 6] s u)

/-- MICBIAS_CTRL_WRITE holds EN and LEVEL of each bias, ramps an enabled bias of an enabled page up from off, ramps a bias with EN 0 down, and takes a latched one with EN 0 to off. MICBIAS_READY ends a ramp up or a level ramp with READY, a ramp down with off. MICBIAS_OVERCURRENT on a bias that is not off or latched latches it off: READY 0, OVERCURRENT, fault 0x01 and the interrupt. BEEP_CTRL_WRITE with EN 1 on an enabled page and BEEP off holds the fields and begins the start: WAIT_CLK without the PLL, a wait without VREFA, else the fill. VREFA_READY ends a soft-start: READY, no input still waits for VREFA, and the others are as before. VREFA_NOT_READY: fault 0x02. Each with its frame. -/
def Obligations.MicBiasBeepAndVrefa : Prop :=
  (∀ (ini : Fin 5) (w : Word) (s : State), 
      s.mayWrite ini A.AUX_MICBIAS_CTRL w = true →
      ∃ u, Yields (.micbiasCtrlWrite ini w) s u ∧
        (∀ m : Nat, m < 4 → u.get (F.AUX_MICBIAS_CTRL_EN m) = bits w (4 * m) 1 ∧ u.get (F.AUX_MICBIAS_CTRL_LEVEL m) = bits w (4 * m + 1) 2) ∧
        (∀ m : Nat, m < 4 → s.on (F.PG_ENABLE 0x18) = true → bits w (4 * m) 1 = 1 → s.biasAt m = .off → u.biasAt m = .rampUp) ∧
        (∀ m : Nat, m < 4 → bits w (4 * m) 1 = 0 → s.biasAt m = .on → u.biasAt m = .rampDown ∧ u.on (F.AUX_MICBIAS_STATUS_READY m) = false) ∧
        (∀ m : Nat, m < 4 → bits w (4 * m) 1 = 0 → s.biasAt m = .latched → u.biasAt m = .off) ∧
        Touches [.bias] [] (whole A.AUX_MICBIAS_CTRL :: (List.range 4).map F.AUX_MICBIAS_STATUS_READY) s u) ∧
  (∀ (m : Fin 4) (s : State), 
      s.clocked .ain = true → (s.biasAt m = .rampUp ∨ s.biasAt m = .rampLevel) →
      ∃ u, Yields (.micbiasReady m) s u ∧
        u.biasAt m = .on ∧
        u.on (F.AUX_MICBIAS_STATUS_READY m) = true ∧
        Touches [.bias] [] [F.AUX_MICBIAS_STATUS_READY m] s u) ∧
  (∀ (m : Fin 4) (s : State), 
      s.clocked .ain = true → s.biasAt m = .rampDown →
      ∃ u, Yields (.micbiasReady m) s u ∧
        u.biasAt m = .off ∧
        u.on (F.AUX_MICBIAS_STATUS_READY m) = false ∧
        Touches [.bias] [] [F.AUX_MICBIAS_STATUS_READY m] s u) ∧
  (∀ (m : Fin 4) (s : State), 
      s.clocked .ain = true → s.biasAt m ≠ .off → s.biasAt m ≠ .latched →
      ∃ u, Yields (.micbiasOvercurrent m) s u ∧
        u.biasAt m = .latched ∧
        u.get (F.AUX_MICBIAS_STATUS_OVERCURRENT m) = 1 ∧
        u.get (F.PG_FAULT 0x18) = 1 ∧
        u.on (F.PG_IRQ 0x18 3) = true ∧
        u.on (F.AUX_MICBIAS_STATUS_READY m) = false ∧
        Touches [.bias] [] [F.AUX_MICBIAS_STATUS_READY m, F.AUX_MICBIAS_STATUS_OVERCURRENT m, F.PG_FAULT 0x18, F.PG_IRQ 0x18 1, F.PG_IRQ 0x18 3] s u) ∧
  (∀ (ini : Fin 5) (w : Word) (s : State), 
      s.mayWrite ini A.AUX_BEEP_CTRL w = true → s.islandOn .ain = true → s.on (F.PG_ENABLE 0x18) = true → bits w 0 1 = 1 → s.beep.phase = .off →
      ∃ u, Yields (.beepCtrlWrite ini w) s u ∧
        u.get F.AUX_BEEP_CTRL_EN = 1 ∧
        u.get F.AUX_BEEP_CTRL_RATE = bits w 4 4 ∧
        u.get F.AUX_BEEP_CTRL_GAIN = bits w 1 3 ∧
        u.beep.rate = bits w 4 4 ∧
        u.beep.filter = bits w 8 2 ∧
        (u.beep.phase = (if s.famUp (rateFamily (bits w 4 4)) = false then .waitClk else if s.on F.AUX_VREF_STATUS_VREFA_READY = false then .waitVref else .filling)) ∧
        Touches [.beep] [] [whole A.AUX_BEEP_CTRL, F.AUX_BEEP_STATUS_RUNNING] s u) ∧
  (∀ (s : State), 
      s.vrefaStarted = true → s.on F.AUX_VREF_STATUS_VREFA_READY = false →
      ∃ u, Yields .vrefaReady s u ∧
        u.get F.AUX_VREF_STATUS_VREFA_READY = 1 ∧
        (∀ n : Nat, n < 16 → (u.ainAt n).phase ≠ .waitVref) ∧
        (∀ n : Nat, n < 16 → (s.ainAt n).phase ≠ .waitVref → u.ainAt n = s.ainAt n) ∧
        Touches [.ain, .beep] [] (F.AUX_VREF_STATUS_VREFA_READY :: F.AUX_BEEP_STATUS_RUNNING :: (List.range 16).flatMap ainStatusFlds) s u) ∧
  (∀ (s : State), 
      s.vrefaStarted = true → s.on F.AUX_VREF_STATUS_VREFA_READY = false →
      ∃ u, Yields .vrefaNotReady s u ∧
        u.get (F.PG_FAULT 0x18) = 2 ∧
        u.get F.AUX_VREF_STATUS_VREFA_READY = 0 ∧
        Touches [] [] [F.PG_FAULT 0x18, F.PG_IRQ 0x18 1] s u)

/-- AUX_SUBST_START with a free job slot posts the substitution of INPUT. AUX_SUBST_ABORT: a substitution in shadow ends with ABORT_CAUSE 6, ABORTED and its interrupt; one in its crossfade goes on; the slice map is unchanged. ADC_SHADOW_WINDOW_END in shadow: with level, trims and residual within the limits, or for a fault substitution always, the crossfade begins; a window that fails by its residual joins the job's restarts, which RESTARTS shows up to 255, and is repeated while fewer than two have failed. ADC_SUBST_DONE at the end of a crossfade with no write held: the spare serves the input in both maps, the old slice is in TEST, and SUBST_DONE is raised. Each with its frame. -/
def Obligations.AdcSubstitution : Prop :=
  (∀ (ini : Fin 5) (w : Word) (s : State), 
      s.mayWrite ini A.AUX_SUBST_REQ (w ||| 0x100#32) = true → bits w 9 1 = 0 → s.freeSlot.isSome = true →
      ∃ u, Yields (.auxSubstStart ini w) s u ∧
        u.get F.AUX_SUBST_REQ_INPUT = bits w 0 4 ∧
        u.jobLive 0 (bits w 0 4) = true ∧
        Touches [.jobs, .jobSeq, .lastJobId] [] [F.AUX_SUBST_REQ_INPUT] s u) ∧
  (∀ (ini : Fin 5) (w : Word) (g : Fin 2) (x : Subst) (s : State), 
      s.adcSub g = some x → s.mayWrite ini A.AUX_SUBST_REQ (w ||| 0x200#32) = true → bits w 8 1 = 0 →
      ∃ u, Yields (.auxSubstAbort ini w) s u ∧
        (x.crossfade = false → u.adcSub g = none ∧ u.get F.AUX_SUBST_STATUS_ABORT_CAUSE = 6 ∧ u.get F.AUX_SUBST_STATUS_ABORTED = 1 ∧ u.on (F.PG_IRQ 0x18 4) = true) ∧
        (x.crossfade = true → u.adcSub g = s.adcSub g) ∧
        (∀ n : Nat, n < 16 → u.ainSlice n = s.ainSlice n) ∧
        Touches [.jobs, .adcSubst, .otp, .ain] [0x06] ([whole A.AUX_SUBST_REQ, whole A.AUX_SUBST_STATUS, whole A.AUX_SLICE_STATE0, whole A.AUX_SLICE_STATE1, F.PG_IRQ 0x18 4, F.AIN_STATUS_FMT_PENDING x.unit] ++ ainStatusFlds x.unit ++ (List.range 16).map (fun n => whole (A.AIN_SLICE n))) s u) ∧
  (∀ (g : Fin 2) (level : Nat) (gain offset : Int) (resid : Nat) (x : Subst) (s : State), 
      s.clocked .ain = true → s.adcSub g = some x → x.crossfade = false → (x.fault = true ∨ (level < 600 ∧ -500 ≤ gain ∧ gain ≤ 500 ∧ -41943 ≤ offset ∧ offset ≤ 41943 ∧ 900 < resid)) →
      ∃ u, Yields (.adcShadowWindowEnd g level gain offset resid) s u ∧
        u.adcSub g = some { x with crossfade := true, pos := 0 } ∧
        u.get (F.AIN_SLICE_SUBST x.unit) = 2 ∧
        u.get F.AUX_SUBST_STATUS_PHASE = 2 ∧
        Touches [.adcSubst, .aslTrim] [] [F.AUX_SUBST_MATCH_RESID, F.AUX_SUBST_MATCH_GAIN_TRIM, F.AIN_SLICE_SUBST x.unit, F.AUX_SUBST_STATUS_PHASE] s u) ∧
  (∀ (g : Fin 2) (level : Nat) (gain offset : Int) (resid : Nat) (x : Subst) (s : State), 
      s.clocked .ain = true → s.adcSub g = some x → x.crossfade = false → x.fault = false → resid ≤ 900 → x.failed < 2 →
      ∃ u, Yields (.adcShadowWindowEnd g level gain offset resid) s u ∧
        u.adcSub g = some { x with failed := x.failed + 1, restarts := x.restarts + 1 } ∧
        u.get F.AUX_SUBST_STATUS_RESTARTS = min 255 (x.restarts + 1) ∧
        Touches [.adcSubst] [] [F.AUX_SUBST_MATCH_RESID, F.AUX_SUBST_MATCH_GAIN_TRIM, F.AUX_SUBST_STATUS_RESTARTS] s u) ∧
  (∀ (g : Fin 2) (x : Subst) (s : State), 
      s.clocked .ain = true → s.adcSub g = some x → x.crossfade = true → x.unit < 16 → x.spare < 18 → s.ainSlice x.unit < 18 → s.ainSlice x.unit ≠ x.spare → s.on (F.AIN_STATUS_FMT_PENDING x.unit) = false →
      ∃ u, Yields (.adcSubstDone g) s u ∧
        u.adcSub g = none ∧
        u.ainSlice x.unit = x.spare ∧
        u.get (F.AIN_SLICE_SLICE x.unit) = x.spare ∧
        u.asl x.spare = 1 ∧
        u.asl (s.ainSlice x.unit) = 3 ∧
        u.get (F.AIN_SLICE_SUBST x.unit) = 0 ∧
        u.on (F.PG_IRQ (pgAIN x.unit) (8 + x.unit % 2)) = true ∧
        u.get F.AUX_SUBST_STATUS_PHASE = 3 ∧
        Touches [.ain, .jobs, .jobSeq, .lastJobId, .adcSubst, .otp] [0x06, 0x18, pgAIN x.unit] [] s u)

/-- For a word the initiator may write. AOUT_EN_WRITE to AOUTc_CTRL: EN is held; on an enabled page it starts an OFF channel (R114 step 1); EN 0 ramps a running or unmuting channel to its stop and takes FAULT to OFF, which EN 1 does not (R123). To the page's PG_CTRL: ENABLE is held and drives the channel in the same way. AOUT_FMT_WRITE that changes RATE or FILTER, with no substitution in the group: a RUNNING channel mutes for its reconfiguration, STATE 5 (R115); an OFF one stays OFF. AOP_HP_MODE_WRITE on a headphone pair: HP_MODE is held, and a change makes running channels reconfigure; on a line pair nothing changes. AOUT_MUTE_WRITE on a RUNNING channel: MUTE turns the pop-control gain over MRAMP and shows MUTED; MUTE 0 shows RUNNING, or MUTED where the jack holds it. AOUT_VOL_WRITE: with VRAMP 0 the gain applies at once. Each with its frame. -/
def Obligations.OutputWrites : Prop :=
  (∀ (ini : Fin 5) (c : Fin 8) (w : Word) (s : State), 
      s.mayWrite ini (A.AOUT_CTRL c) w = true →
      ∃ u, Yields (.aoutEnWrite ini c false w) s u ∧
        u.get (F.AOUT_CTRL_EN c) = bits w 0 1 ∧
        (s.on (F.PG_ENABLE (pgAOP c)) = true → bits w 0 1 = 1 → (s.aoutAt c).phase = .off → (u.aoutAt c).phase = .starting ∧ u.get (F.AOUT_STATUS_STATE c) = 2 ∧ (u.aoutAt c).pop = .at0) ∧
        (bits w 0 1 = 0 → (s.aoutAt c).phase = .running ∨ (s.aoutAt c).phase = .unmuting → (u.aoutAt c).phase = .stopping) ∧
        (bits w 0 1 = 0 → (s.aoutAt c).phase = .fault → (u.aoutAt c).phase = .off ∧ u.get (F.AOUT_STATUS_STATE c) = 0) ∧
        (bits w 0 1 = 1 → (s.aoutAt c).phase = .fault → (u.aoutAt c).phase = .fault) ∧
        Touches [.aout, .cpStop] [] (whole (A.AOUT_CTRL c) :: F.AOUT_ELASTIC_STOP_NOW c :: F.AOUT_STATUS_FMT_PENDING c :: aoutStatusFlds c) s u) ∧
  (∀ (ini : Fin 5) (c : Fin 8) (w : Word) (s : State), 
      s.mayWrite ini (pgAOP c * 0x400 + 4) w = true → s.get (F.PG_ENABLE (pgAOP c)) ≠ bits w 0 1 →
      ∃ u, Yields (.aoutEnWrite ini c true w) s u ∧
        u.get (F.PG_ENABLE (pgAOP c)) = bits w 0 1 ∧
        (bits w 0 1 = 1 → s.on (F.AOUT_CTRL_EN c) = true → (s.aoutAt c).phase = .off → s.islandOn .aout = true → (u.aoutAt c).phase = .starting) ∧
        (bits w 0 1 = 0 → (s.aoutAt c).phase = .running → (u.aoutAt c).phase = .stopping) ∧
        Touches [.aout, .cpStop] [] (F.PG_ENABLE (pgAOP c) :: whole (pgAOP c * 0x400 + 0x018) :: whole (pgAOP c * 0x400 + 0x01C) :: F.AOUT_STATUS_FMT_PENDING (2 * (c / 2)) :: F.AOUT_STATUS_FMT_PENDING (2 * (c / 2) + 1) :: aoutStatusFlds (2 * (c / 2)) ++ aoutStatusFlds (2 * (c / 2) + 1)) s u) ∧
  (∀ (ini : Fin 5) (c : Fin 8) (w : Word) (s : State), 
      s.mayWrite ini (A.AOUT_FMT c) w = true → s.dacSub (dacGroup c) = none → (s.get (F.AOUT_FMT_RATE c) ≠ bits w 0 4 ∨ s.get (F.AOUT_FMT_FILTER c) ≠ bits w 4 2) →
      ∃ u, Yields (.aoutFmtWrite ini c w) s u ∧
        u.get (F.AOUT_FMT_RATE c) = bits w 0 4 ∧
        u.get (F.AOUT_FMT_FILTER c) = bits w 4 2 ∧
        ((s.aoutAt c).phase = .running → (u.aoutAt c).phase = .recMute ∧ u.get (F.AOUT_STATUS_STATE c) = 5) ∧
        ((s.aoutAt c).phase = .off → (u.aoutAt c).phase = .off) ∧
        Touches [.aout] [] (whole (A.AOUT_FMT c) :: aoutStatusFlds c) s u) ∧
  (∀ (ini : Fin 5) (k : Fin 4) (w : Word) (s : State), 
      s.mayWrite ini (A.AOP_PAIR k) w = true → s.dacSub (dacGroup (2 * k)) = none →
      ∃ u, Yields (.aopHpModeWrite ini k w) s u ∧
        (k.val < 2 → u.get (F.AOP_PAIR_HP_MODE k) = bits w 0 2) ∧
        (k.val < 2 → s.get (F.AOP_PAIR_HP_MODE k) ≠ bits w 0 2 → ∀ i : Nat, i < 2 → (s.aoutAt (2 * k + i)).phase = .running → (u.aoutAt (2 * k + i)).phase = .recMute) ∧
        (2 ≤ k.val → u.aout = s.aout ∧ u.get (F.AOP_PAIR_HP_MODE k) = s.get (F.AOP_PAIR_HP_MODE k)) ∧
        Touches [.aout] [] (whole (A.AOP_PAIR k) :: aoutStatusFlds (2 * k) ++ aoutStatusFlds (2 * k + 1)) s u) ∧
  (∀ (ini : Fin 5) (c : Fin 8) (w : Word) (s : State), 
      s.mayWrite ini (A.AOUT_CTRL c) w = true → (s.aoutAt c).phase = .running → s.on (F.PG_ENABLE (pgAOP c)) = true → bits w 0 1 = 1 →
      ∃ u, Yields (.aoutMuteWrite ini c w) s u ∧
        u.get (F.AOUT_CTRL_MUTE c) = bits w 2 1 ∧
        (u.aoutAt c).phase = .running ∧
        (bits w 2 1 = 1 → u.get (F.AOUT_STATUS_STATE c) = 4 ∧ (u.aoutAt c).pop.up = false) ∧
        (bits w 2 1 = 1 → (s.aoutAt c).pop.up = true → (u.aoutAt c).popUs = mrampUs (bits w 4 2)) ∧
        (bits w 2 1 = 0 → u.get (F.AOUT_STATUS_STATE c) = if s.aoutJackHold c then 4 else 3) ∧
        Touches [.aout] [] (whole (A.AOUT_CTRL c) :: F.AOUT_ELASTIC_STOP_NOW c :: aoutStatusFlds c) s u) ∧
  (∀ (ini : Fin 5) (c : Fin 8) (w : Word) (s : State), 
      s.mayWrite ini (A.AOUT_VOL c) w = true →
      ∃ u, Yields (.aoutVolWrite ini c w) s u ∧
        u.get (F.AOUT_VOL_GAIN c) = bits w 0 12 ∧
        u.get (F.AOUT_VOL_VRAMP c) = bits w 12 2 ∧
        (bits w 12 2 = 0 → (u.aoutAt c).vol = DbRamp.at (bits w 0 12)) ∧
        (bits w 12 2 ≠ 0 → u.get (F.AOUT_VOL_GAIN_NOW c) = s.get (F.AOUT_VOL_GAIN_NOW c)) ∧
        Touches [.aout] [] [whole (A.AOUT_VOL c)] s u)

/-- While the analogue-output island is clocked. AOUT_START on a STARTING channel of a quiesced pair leaves it there, its gain not rising (the model's choice, log 137); of another pair, with pump, VREFB, its PLL and VHOLD up, it goes to the unmute ramp, or to MUTED with READY where it is held; without the pump, a headphone starts it where HPVDD is good and no pump fault is pending, and waits for it under a pump fault; a line channel waits for VREFB or its PLL without the pump. AOUT_RUNNING ends the start ramp: RUNNING or MUTED and READY. AOUT_STOP_DONE on a stopping channel that may not run: OFF with gain zero; the pump's stop time begins with the last headphone. AOUT_ILIM_FAULT with no substitution in the group: FAULT, ILIM and fault 0x01. DAC_ELEMENT_ERROR: fault 0x02, the phase unchanged, and a substitution job when none of the channel is live and a slot is free. Each with its frame. -/
def Obligations.OutputEvents : Prop :=
  (∀ (c : Fin 8) (s : State), 
      s.clocked .aout = true → (s.aoutAt c).phase = .starting → s.isQuiet (10 + c.val / 2) = false → s.on F.JCK_CP_STATUS_READY = true → s.on F.JCK_VREFB_STATUS_READY = true → s.famUp (rateFamily (s.aoutAt c).rate) = true → s.on F.JCK_HOLD_STATUS_VHOLD_OK = true →
      ∃ u, Yields (.aoutStart c) s u ∧
        ((u.aoutAt c).phase = (if s.aoutHeld c then .running else .unmuting)) ∧
        (u.get (F.AOUT_STATUS_STATE c) = (if s.aoutHeld c then 4 else 2)) ∧
        (s.aoutHeld c = true → u.on (F.PG_IRQ (pgAOP c) (2 + c % 2)) = true) ∧
        Touches [.aout, .cpStop] [] (F.PG_IRQ (pgAOP c) (2 + c % 2) :: aoutStatusFlds c) s u) ∧
  (∀ (c : Fin 8) (s : State), 
      s.clocked .aout = true → (s.aoutAt c).phase = .starting → s.isQuiet (10 + c.val / 2) = false → s.on F.JCK_CP_STATUS_READY = false →
      ∃ u, Yields (.aoutStart c) s u ∧
        (c.val < 4 → s.pins.hpvdd = true → s.cpFault = false → u.on F.JCK_CP_STATUS_READY = true) ∧
        (c.val < 4 → s.cpFault = true → (u.aoutAt c).phase = .waitPump ∧ u.get (F.AOUT_STATUS_STATE c) = 2) ∧
        (4 ≤ c.val → u.on F.JCK_CP_STATUS_READY = false) ∧
        (4 ≤ c.val → s.on F.JCK_VREFB_STATUS_READY = false → (u.aoutAt c).phase = .waitVref) ∧
        (4 ≤ c.val → s.on F.JCK_VREFB_STATUS_READY = true → s.famUp (rateFamily (s.aoutAt c).rate) = false → (u.aoutAt c).phase = .waitClk ∧ u.get (F.AOUT_STATUS_STATE c) = 1) ∧
        Touches [.aout, .cpStop] [] (F.JCK_CP_STATUS_READY :: F.PG_IRQ (pgAOP c) (2 + c % 2) :: aoutStatusFlds c) s u) ∧
  (∀ (c : Fin 8) (s : State), 
      s.clocked .aout = true → (s.aoutAt c).phase = .starting → s.isQuiet (10 + c.val / 2) = true →
      ∃ u, Yields (.aoutStart c) s u ∧
        (u.aoutAt c).phase = .starting ∧
        (u.aoutAt c).pop.up = false ∧ (u.aoutAt c).pop.num = (s.aoutAt c).pop.num ∧ (u.aoutAt c).pop.den = (s.aoutAt c).pop.den ∧
        Touches [.aout] [] (aoutStatusFlds c) s u) ∧
  (∀ (c : Fin 8) (s : State), 
      s.clocked .aout = true → (s.aoutAt c).phase = .unmuting →
      ∃ u, Yields (.aoutRunning c) s u ∧
        (u.aoutAt c).phase = .running ∧
        (u.get (F.AOUT_STATUS_STATE c) = if s.aoutHeld c then 4 else 3) ∧
        u.on (F.PG_IRQ (pgAOP c) (2 + c % 2)) = true ∧
        Touches [.aout] [] (F.PG_IRQ (pgAOP c) (2 + c % 2) :: aoutStatusFlds c) s u) ∧
  (∀ (c : Fin 8) (s : State), 
      s.clocked .aout = true → (s.aoutAt c).phase = .stopping → s.aoutAble c = false →
      ∃ u, Yields (.aoutStopDone c) s u ∧
        (u.aoutAt c).phase = .off ∧
        u.get (F.AOUT_STATUS_STATE c) = 0 ∧
        (u.aoutAt c).pop = .at0 ∧
        (c.val < 4 → s.on F.JCK_CP_CTRL_FORCE_ON = false → s.on F.JCK_CP_STATUS_READY = true → (∀ h : Nat, h < 4 → h ≠ c.val → (s.aoutAt h).phase = .off) → u.cpStop = true) ∧
        Touches [.aout, .cpStop] [] (F.AOUT_STATUS_ILIM_NOW c :: aoutStatusFlds c) s u) ∧
  (∀ (c : Fin 8) (s : State), 
      s.clocked .aout = true → (s.aoutAt c).phase ≠ .off → (s.aoutAt c).phase ≠ .fault → s.dacSub (dacGroup c) = none →
      ∃ u, Yields (.aoutIlimFault c) s u ∧
        (u.aoutAt c).phase = .fault ∧
        u.get (F.AOUT_STATUS_STATE c) = 7 ∧
        u.get (F.AOUT_FLAGS_ILIM c) = 1 ∧
        u.get (F.PG_FAULT (pgAOP c)) = 1 ∧
        Touches [.aout] [] (F.AOUT_STATUS_ILIM_NOW c :: F.AOUT_FLAGS_ILIM c :: F.PG_FAULT (pgAOP c) :: F.PG_IRQ (pgAOP c) 1 :: aoutStatusFlds c) s u) ∧
  (∀ (c : Fin 8) (s : State), 
      s.clocked .aout = true → (s.aoutAt c).phase ≠ .off →
      ∃ u, Yields (.dacElementError c) s u ∧
        u.get (F.PG_FAULT (pgAOP c)) = 2 ∧
        (u.aoutAt c).phase = (s.aoutAt c).phase ∧
        (s.jobLive 1 c = false → s.freeSlot.isSome = true → u.jobLive 1 c = true) ∧
        Touches [.aout, .jobs, .jobSeq, .lastJobId] [] [F.PG_FAULT (pgAOP c), F.PG_IRQ (pgAOP c) 1, F.MNT_COUNT2_DROPPED, F.PG_IRQ 6 6] s u)

/-- JCK_CP_FORCE_ON_WRITE without RETRY holds FORCE_ON; 1 readies a pump with HPVDD good and no fault pending; 0 with every headphone OFF begins the stop time. JCK_CP_RETRY after a pump fault ends it; with HPVDD good the pump is READY and no headphone waits for it. CP_STOP_TIMEOUT: with FORCE_ON 0 and every headphone OFF READY clears; with FORCE_ON 1 it is unchanged. CP_OVERCURRENT and CP_UNDERVOLTAGE on a ready pump: READY 0, OC or UV, fault 0x01 or 0x02, and the headphones' gains move to zero. VREFB_READY after a soft-start: READY, fault 0x04 returns to 0, no channel waits for VREFB and the others are as before. VREFB_NOT_READY: fault 0x04, the channels unchanged. Each with its frame. -/
def Obligations.ChargePumpAndVrefb : Prop :=
  (∀ (ini : Fin 5) (w : Word) (s : State), 
      s.mayWrite ini A.JCK_CP_CTRL w = true → bits w 1 1 = 0 →
      ∃ u, Yields (.jckCpForceOnWrite ini w) s u ∧
        u.get F.JCK_CP_CTRL_FORCE_ON = bits w 0 1 ∧
        (bits w 0 1 = 1 → s.pins.hpvdd = true → s.cpFault = false → u.on F.JCK_CP_STATUS_READY = true ∧ u.cpStop = false) ∧
        (bits w 0 1 = 0 → s.on F.JCK_CP_STATUS_READY = true → (∀ h : Nat, h < 4 → (s.aoutAt h).phase = .off) → u.cpStop = true) ∧
        Touches [.cpStop] [] [F.JCK_CP_CTRL_FORCE_ON, F.JCK_CP_STATUS_READY] s u) ∧
  (∀ (ini : Fin 5) (w : Word) (s : State), 
      s.mayWrite ini A.JCK_CP_CTRL (w ||| 0x2#32) = true → s.cpFault = true →
      ∃ u, Yields (.jckCpRetry ini w) s u ∧
        u.cpFault = false ∧
        (s.pins.hpvdd = true → u.on F.JCK_CP_STATUS_READY = true) ∧
        (∀ c : Nat, c < 4 → s.pins.hpvdd = true → (u.aoutAt c).phase ≠ .waitPump) ∧
        Touches [.aout, .cpFault, .cpStop] [] (F.JCK_CP_CTRL_FORCE_ON :: F.JCK_CP_STATUS_READY :: (List.range 4).flatMap (fun c => F.PG_IRQ (pgAOP c) (2 + c % 2) :: aoutStatusFlds c)) s u) ∧
  (∀ (s : State), 
      s.cpStop = true →
      ∃ u, Yields .cpStopTimeout s u ∧
        u.cpStop = false ∧
        (s.on F.JCK_CP_CTRL_FORCE_ON = false → (∀ h : Nat, h < 4 → (s.aoutAt h).phase = .off) → u.on F.JCK_CP_STATUS_READY = false) ∧
        (s.on F.JCK_CP_CTRL_FORCE_ON = true → u.get F.JCK_CP_STATUS_READY = s.get F.JCK_CP_STATUS_READY) ∧
        Touches [.cpStop] [] [F.JCK_CP_STATUS_READY] s u) ∧
  (∀ (s : State), 
      s.clocked .aout = true → s.on F.JCK_CP_STATUS_READY = true →
      ∃ u, Yields .cpOvercurrent s u ∧
        u.on F.JCK_CP_STATUS_READY = false ∧
        u.get F.JCK_CP_STATUS_OC = 1 ∧
        u.get (F.PG_FAULT 0x0D) = 1 ∧
        u.cpFault = true ∧
        (∀ c : Nat, c < 4 → (u.aoutAt c).pop.up = false) ∧
        (∀ c : Nat, c < 8 → (u.aoutAt c).phase = (s.aoutAt c).phase) ∧
        Touches [.aout, .cpFault, .cpStop] [] (F.JCK_CP_STATUS_READY :: F.JCK_CP_STATUS_OC :: F.PG_FAULT 0x0D :: F.PG_IRQ 0x0D 1 :: (List.range 4).flatMap aoutStatusFlds) s u) ∧
  (∀ (s : State), 
      s.clocked .aout = true → s.on F.JCK_CP_STATUS_READY = true →
      ∃ u, Yields .cpUndervoltage s u ∧
        u.on F.JCK_CP_STATUS_READY = false ∧
        u.get F.JCK_CP_STATUS_UV = 1 ∧
        u.get (F.PG_FAULT 0x0D) = 2 ∧
        u.cpFault = true ∧
        (∀ c : Nat, c < 4 → (u.aoutAt c).pop.up = false) ∧
        Touches [.aout, .cpFault, .cpStop] [] (F.JCK_CP_STATUS_READY :: F.JCK_CP_STATUS_UV :: F.PG_FAULT 0x0D :: F.PG_IRQ 0x0D 1 :: (List.range 4).flatMap aoutStatusFlds) s u) ∧
  (∀ (s : State), 
      s.vrefbStarted = true → s.on F.JCK_VREFB_STATUS_READY = false →
      ∃ u, Yields .vrefbReady s u ∧
        u.get F.JCK_VREFB_STATUS_READY = 1 ∧
        (u.get (F.PG_FAULT 0x0D) = (if s.get (F.PG_FAULT 0x0D) = 4 then 0 else s.get (F.PG_FAULT 0x0D))) ∧
        (∀ c : Nat, c < 8 → (u.aoutAt c).phase ≠ .waitVref) ∧
        (∀ c : Nat, c < 8 → (s.aoutAt c).phase ≠ .waitVref → u.aoutAt c = s.aoutAt c) ∧
        Touches [.aout, .cpStop] [] (F.JCK_VREFB_STATUS_READY :: F.JCK_CP_STATUS_READY :: F.PG_FAULT 0x0D :: (List.range 8).flatMap (fun c => F.PG_IRQ (pgAOP c) (2 + c % 2) :: aoutStatusFlds c)) s u) ∧
  (∀ (s : State), 
      s.vrefbStarted = true → s.on F.JCK_VREFB_STATUS_READY = false →
      ∃ u, Yields .vrefbNotReady s u ∧
        u.get (F.PG_FAULT 0x0D) = 4 ∧
        u.aout = s.aout ∧
        Touches [] [] [F.PG_FAULT 0x0D, F.PG_IRQ 0x0D 1] s u)

/-- While the analogue-output island is clocked. JACK_EDGE on an enabled page in DET_MODE 1 or 2: an inserted level takes EMPTY to DEBOUNCE and counts an INSERTION; in DEBOUNCE the state stays; a removed level beyond it empties the jack, counts a REMOVAL and raises REMOVE. JACK_DEBOUNCE_EXPIRE: EMPTY with no REMOVE interrupt, IDENTIFY, or TYPE 1 and MEASURE or INSERTED with AUTO_ID 0. JACK_ID_MEASURE: a ratio of 0.30 to 0.90 gives TYPE 2 or 3 by SWAP; another ramps the bias down for position B, or ends with TYPE 1. JACK_IMPEDANCE_DONE reports Z, CLASS, VALID, SHORT_FOUND and IMP_DONE; MEASURE ends in INSERTED with INSERT. JCK_IMP_MEASURE acts in INSERTED only. JACK_BIAS_READY ends a bias ramp, or swaps. JACK_BIAS_OVERCURRENT: FAULT, fault 0x03, the microphone muted. JCK_BIAS_WRITE: EN_FORCE 0 to 1 leaves FAULT. JACK_BUTTON_CHANGE: BTN, its interrupt, and the hold. JCK_CLR_COUNT clears the counts. -/
def Obligations.HeadsetJacks : Prop :=
  (∀ (n : Fin 2) (high : Bool) (s : State), 
      s.clocked .aout = true → s.on (F.PG_ENABLE 0x0D) = true → (s.jackAt n).detHigh ≠ high → (s.get (F.JCK_CTRL_DET_MODE n) = 1 ∨ s.get (F.JCK_CTRL_DET_MODE n) = 2) →
      ∃ u, Yields (.jackEdge n high) s u ∧
        (u.jackAt n).detHigh = high ∧
        (high = decide (s.get (F.JCK_CTRL_DET_MODE n) = 2) → s.get (F.JCK_STATUS_STATE n) = 0 → u.get (F.JCK_STATUS_STATE n) = 1 ∧ u.get (F.JCK_COUNT_INSERTIONS n) = min (s.get (F.JCK_COUNT_INSERTIONS n) + 1) 0xFFFF ∧ u.get (F.JCK_STATUS_INSERTED n) = 1) ∧
        (s.get (F.JCK_STATUS_STATE n) = 1 → u.get (F.JCK_STATUS_STATE n) = 1 ∧ u.get (F.JCK_COUNT_REMOVALS n) = s.get (F.JCK_COUNT_REMOVALS n)) ∧
        (high ≠ decide (s.get (F.JCK_CTRL_DET_MODE n) = 2) → 2 ≤ s.get (F.JCK_STATUS_STATE n) → u.get (F.JCK_STATUS_STATE n) = 0 ∧ (u.jackAt n).bias = .off ∧ u.get (F.JCK_COUNT_REMOVALS n) = min (s.get (F.JCK_COUNT_REMOVALS n) + 1) 0xFFFF ∧ u.on (F.PG_IRQ 0x0D (3 + 3 * n)) = true) ∧
        Touches [.jack, .aout, .usb, .pwr] [0x01, 0x0D, pgAOP (2 * n)] [F.USB_HID_STATUS_NOW, F.USB_HID_STATUS_HID_OVF] s u) ∧
  (∀ (n : Fin 2) (s : State), 
      s.clocked .aout = true → s.get (F.JCK_STATUS_STATE n) = 1 →
      ∃ u, Yields (.jackDebounceExpire n) s u ∧
        (s.detInserted n = false → u.get (F.JCK_STATUS_STATE n) = 0 ∧ u.get (F.JCK_COUNT_REMOVALS n) = min (s.get (F.JCK_COUNT_REMOVALS n) + 1) 0xFFFF ∧ u.get (F.PG_IRQ 0x0D (3 + 3 * n)) = s.get (F.PG_IRQ 0x0D (3 + 3 * n))) ∧
        (s.detInserted n = true → s.on (F.JCK_CTRL_AUTO_ID n) = true → s.bridged (2 * n) = false → u.get (F.JCK_STATUS_STATE n) = 2) ∧
        (s.detInserted n = true → s.on (F.JCK_CTRL_AUTO_ID n) = false → u.get (F.JCK_STATUS_TYPE n) = 1 ∧ u.get (F.JCK_STATUS_STATE n) = if s.on (F.JCK_CTRL_IMP_AUTO n) then 3 else 4) ∧
        Touches [.jack, .aout, .cpStop] [0x0D, pgAOP (2 * n)] [] s u) ∧
  (∀ (n : Fin 2) (ratio : Nat) (s : State), 
      s.clocked .aout = true → s.get (F.JCK_STATUS_STATE n) = 2 → (s.jackAt n).bias ≠ .rampDown →
      ∃ u, Yields (.jackIdMeasure n ratio) s u ∧
        (3 * 65536 ≤ 10 * ratio → 10 * ratio ≤ 9 * 65536 → u.get (F.JCK_STATUS_TYPE n) = 2 + s.get (F.JCK_STATUS_SWAP n) ∧ u.get (F.JCK_STATUS_STATE n) = (if s.on (F.JCK_CTRL_IMP_AUTO n) then 3 else 4)) ∧
        (10 * ratio < 3 * 65536 ∨ 9 * 65536 < 10 * ratio → s.get (F.JCK_STATUS_SWAP n) = 0 → s.on (F.JCK_CTRL_SWAP_FORCE_EN n) = false → (u.jackAt n).bias = .rampDown ∧ u.get (F.JCK_STATUS_STATE n) = 2) ∧
        (10 * ratio < 3 * 65536 ∨ 9 * 65536 < 10 * ratio → (s.get (F.JCK_STATUS_SWAP n) = 1 ∨ s.on (F.JCK_CTRL_SWAP_FORCE_EN n) = true) → u.get (F.JCK_STATUS_TYPE n) = 1 ∧ u.get (F.JCK_STATUS_STATE n) = (if s.on (F.JCK_CTRL_IMP_AUTO n) then 3 else 4)) ∧
        Touches [.jack, .aout, .cpStop] [0x0D, pgAOP (2 * n)] [] s u) ∧
  (∀ (n : Fin 2) (zl zr : Nat) (s : State), 
      s.clocked .aout = true → s.on (F.JCK_IMP_CTRL_BUSY n) = true →
      ∃ u, Yields (.jackImpedanceDone n zl zr) s u ∧
        u.get (F.JCK_IMP_L_VALID n) = 1 ∧
        (u.get (F.JCK_IMP_L_Z n) = if zl < 64000 then zl else 0xFFFF) ∧
        u.get (F.JCK_IMP_L_CLASS n) = impClass zl ∧
        (u.get (F.JCK_IMP_R_Z n) = if zr < 64000 then zr else 0xFFFF) ∧
        u.get (F.JCK_IMP_R_CLASS n) = impClass zr ∧
        u.on (F.JCK_IMP_CTRL_BUSY n) = false ∧
        (u.get (F.JCK_STATUS_SHORT_FOUND n) = if zl < 8 ∨ zr < 8 then 1 else 0) ∧
        u.on (F.PG_IRQ 0x0D 8) = true ∧
        (s.get (F.JCK_STATUS_STATE n) = 3 → u.get (F.JCK_STATUS_STATE n) = 4 ∧ u.on (F.PG_IRQ 0x0D (2 + 3 * n)) = true) ∧
        (s.get (F.JCK_STATUS_STATE n) ≠ 3 → u.get (F.JCK_STATUS_STATE n) = s.get (F.JCK_STATUS_STATE n)) ∧
        Touches [.jack, .aout, .cpStop] [0x0D, pgAOP (2 * n)] [] s u) ∧
  (∀ (ini : Fin 5) (n : Fin 2) (w : Word) (s : State), 
      s.mayWrite ini (A.JCK_IMP_CTRL n) (w ||| 0x1#32) = true →
      ∃ u, Yields (.jckImpMeasure ini n w) s u ∧
        (s.get (F.JCK_STATUS_STATE n) = 4 → u.on (F.JCK_IMP_CTRL_BUSY n) = true) ∧
        (s.get (F.JCK_STATUS_STATE n) ≠ 4 → u.get (F.JCK_IMP_CTRL_BUSY n) = s.get (F.JCK_IMP_CTRL_BUSY n) ∧ u.aout = s.aout) ∧
        Touches [.aout, .usb, .cpStop] [] (F.JCK_CP_STATUS_READY :: F.JCK_IMP_CTRL_BUSY n :: F.USB_HID_STATUS_NOW :: F.USB_HID_STATUS_HID_OVF :: jackStatusFlds n) s u) ∧
  (∀ (n : Fin 2) (s : State), 
      s.clocked .aout = true → ((s.jackAt n).bias = .rampUp ∨ (s.jackAt n).bias = .rampLevel ∨ (s.jackAt n).bias = .rampDown) →
      ∃ u, Yields (.jackBiasReady n) s u ∧
        ((s.jackAt n).bias = .rampDown → s.get (F.JCK_STATUS_STATE n) ≠ 2 → (u.jackAt n).bias = .off ∧ u.on (F.JCK_STATUS_BIAS_READY n) = false) ∧
        ((s.jackAt n).bias = .rampDown → s.get (F.JCK_STATUS_STATE n) = 2 → (u.jackAt n).bias = .rampUp ∧ u.get (F.JCK_STATUS_SWAP n) = 1) ∧
        ((s.jackAt n).bias ≠ .rampDown → (u.jackAt n).bias = .on ∧ u.on (F.JCK_STATUS_BIAS_READY n) = true) ∧
        Touches [.jack, .aout] [] (F.JCK_STATUS_SWAP n :: jackStatusFlds n) s u) ∧
  (∀ (n : Fin 2) (s : State), 
      s.clocked .aout = true → ((s.jackAt n).bias = .on ∨ (s.jackAt n).bias = .rampUp) →
      ∃ u, Yields (.jackBiasOvercurrent n) s u ∧
        (u.jackAt n).bias = .off ∧
        u.get (F.JCK_STATUS_STATE n) = 5 ∧
        u.get (F.PG_FAULT 0x0D) = 3 ∧
        u.on (F.JCK_STATUS_MIC_MUTED n) = true ∧
        Touches [.jack, .aout, .usb] [] (F.PG_FAULT 0x0D :: F.PG_IRQ 0x0D 1 :: F.JCK_STATUS_BTN n :: F.USB_HID_STATUS_NOW :: F.USB_HID_STATUS_HID_OVF :: jackStatusFlds n) s u) ∧
  (∀ (ini : Fin 5) (n : Fin 2) (w : Word) (s : State), 
      s.mayWrite ini (A.JCK_BIAS n) w = true →
      ∃ u, Yields (.jckBiasWrite ini n w) s u ∧
        u.get (F.JCK_BIAS_EN_FORCE n) = bits w 3 1 ∧
        u.get (F.JCK_BIAS_AUTO n) = bits w 2 1 ∧
        u.get (F.JCK_BIAS_LEVEL n) = bits w 0 2 ∧
        (s.get (F.JCK_STATUS_STATE n) = 5 → s.get (F.JCK_BIAS_EN_FORCE n) = 0 → bits w 3 1 = 1 → u.get (F.JCK_STATUS_STATE n) = 4 ∧ u.get (F.PG_FAULT 0x0D) ≠ 3) ∧
        (s.get (F.JCK_STATUS_STATE n) = 4 → bits w 3 1 = 1 → (s.jackAt n).bias = .off → (u.jackAt n).bias = .rampUp) ∧
        Touches [.jack, .aout, .usb] [] (whole (A.JCK_BIAS n) :: F.PG_FAULT 0x0D :: F.USB_HID_STATUS_NOW :: F.USB_HID_STATUS_HID_OVF :: jackStatusFlds n) s u) ∧
  (∀ (n : Fin 2) (ratio : Nat) (s : State), 
      s.clocked .aout = true → s.on (F.JCK_STATUS_BIAS_READY n) = true → s.on (F.JCK_CTRL_BTN_EN n) = true → s.jackButtonOf n ratio ≠ s.get (F.JCK_STATUS_BTN n) →
      ∃ u, Yields (.jackButtonChange n ratio) s u ∧
        u.get (F.JCK_STATUS_BTN n) = s.jackButtonOf n ratio ∧
        u.on (F.PG_IRQ 0x0D (4 + 3 * n)) = true ∧
        (s.jackButtonOf n ratio ≠ 0 → u.on (F.JCK_STATUS_MIC_MUTED n) = true) ∧
        Touches [.aout, .usb] [] (F.JCK_STATUS_BTN n :: F.PG_IRQ 0x0D (4 + 3 * n) :: F.USB_HID_STATUS_NOW :: F.USB_HID_STATUS_HID_OVF :: jackStatusFlds n) s u) ∧
  (∀ (ini : Fin 5) (n : Fin 2) (w : Word) (s : State), 
      s.mayWrite ini (A.JCK_EVENT n) (w ||| 0x1#32) = true →
      ∃ u, Yields (.jckClrCount ini n w) s u ∧
        u.get (F.JCK_COUNT_INSERTIONS n) = 0 ∧
        u.get (F.JCK_COUNT_REMOVALS n) = 0 ∧
        Touches [] [] [whole (A.JCK_COUNT n)] s u)

/-- JCK_SUBST_START with a free job slot posts the substitution of CHANNEL. JCK_SUBST_ABORT: a substitution in shadow ends with ABORT_CAUSE 6, ABORTED and its interrupt; one in its crossfade goes on; the slice map is unchanged; a format write it held may take effect. DAC_SHADOW_WINDOW_END in shadow: with level, trims and residual within the limits, or for a fault substitution always, the crossfade begins; a window that fails by its residual joins the job's restarts, which RESTARTS shows up to 255, and is repeated while fewer than two have failed. DAC_SUBST_DONE at the end of a crossfade with no write held: the spare serves the channel in both maps, the old slice is in TEST, and SUBST_DONE is raised. Each with its frame. -/
def Obligations.DacSubstitution : Prop :=
  (∀ (ini : Fin 5) (w : Word) (s : State), 
      s.mayWrite ini A.JCK_SUBST_REQ (w ||| 0x100#32) = true → bits w 9 1 = 0 → s.freeSlot.isSome = true →
      ∃ u, Yields (.jckSubstStart ini w) s u ∧
        u.get F.JCK_SUBST_REQ_CHANNEL = bits w 0 3 ∧
        u.jobLive 1 (bits w 0 3) = true ∧
        Touches [.jobs, .jobSeq, .lastJobId] [] [F.JCK_SUBST_REQ_CHANNEL] s u) ∧
  (∀ (ini : Fin 5) (w : Word) (g : Fin 2) (x : Subst) (s : State), 
      s.dacSub g = some x → s.mayWrite ini A.JCK_SUBST_REQ (w ||| 0x200#32) = true → bits w 8 1 = 0 →
      ∃ u, Yields (.jckSubstAbort ini w) s u ∧
        (x.crossfade = false → u.dacSub g = none ∧ u.get F.JCK_SUBST_STATUS_ABORT_CAUSE = 6 ∧ u.get F.JCK_SUBST_STATUS_ABORTED = 1 ∧ u.on (F.PG_IRQ 0x0D 10) = true) ∧
        (x.crossfade = true → u.dacSub g = s.dacSub g) ∧
        (∀ c : Nat, c < 8 → u.aoutSlice c = s.aoutSlice c) ∧
        Touches ((if s.on (F.AOUT_STATUS_FMT_PENDING x.unit) then ([.aout] : List Part) else ([] : List Part)) ++ ([.jobs, .dacSubst, .otp] : List Part)) [0x06] ((if s.on (F.AOUT_STATUS_FMT_PENDING x.unit) then F.AOUT_STATUS_FMT_PENDING x.unit :: aoutStatusFlds x.unit else []) ++ [whole A.JCK_SUBST_REQ, whole A.JCK_SUBST_STATUS, whole A.JCK_DSL_STATE, F.PG_IRQ 0x0D 10] ++ (List.range 8).map (fun c => whole (A.AOUT_SLICE c))) s u) ∧
  (∀ (g : Fin 2) (level : Nat) (gain offset : Int) (resid : Nat) (x : Subst) (s : State), 
      s.clocked .aout = true → s.dacSub g = some x → x.crossfade = false → (x.fault = true ∨ (level < 600 ∧ -500 ≤ gain ∧ gain ≤ 500 ∧ -41943 ≤ offset ∧ offset ≤ 41943 ∧ 900 < resid)) →
      ∃ u, Yields (.dacShadowWindowEnd g level gain offset resid) s u ∧
        u.dacSub g = some { x with crossfade := true } ∧
        u.get (F.AOUT_SLICE_SUBST x.unit) = 2 ∧
        u.get F.JCK_SUBST_STATUS_PHASE = 2 ∧
        Touches [.dacSubst, .dslTrim] [] [F.JCK_SUBST_MATCH_RESID, F.JCK_SUBST_MATCH_GAIN_TRIM, F.AOUT_SLICE_SUBST x.unit, F.JCK_SUBST_STATUS_PHASE] s u) ∧
  (∀ (g : Fin 2) (level : Nat) (gain offset : Int) (resid : Nat) (x : Subst) (s : State), 
      s.clocked .aout = true → s.dacSub g = some x → x.crossfade = false → x.fault = false → resid ≤ 900 → x.failed < 2 →
      ∃ u, Yields (.dacShadowWindowEnd g level gain offset resid) s u ∧
        u.dacSub g = some { x with failed := x.failed + 1, restarts := x.restarts + 1 } ∧
        u.get F.JCK_SUBST_STATUS_RESTARTS = min 255 (x.restarts + 1) ∧
        Touches [.dacSubst] [] [F.JCK_SUBST_MATCH_RESID, F.JCK_SUBST_MATCH_GAIN_TRIM, F.JCK_SUBST_STATUS_RESTARTS] s u) ∧
  (∀ (g : Fin 2) (x : Subst) (s : State), 
      s.clocked .aout = true → s.dacSub g = some x → x.crossfade = true → x.unit < 8 → x.spare < 10 → s.aoutSlice x.unit < 10 → s.aoutSlice x.unit ≠ x.spare → s.on (F.AOUT_STATUS_FMT_PENDING x.unit) = false →
      ∃ u, Yields (.dacSubstDone g) s u ∧
        u.dacSub g = none ∧
        u.aoutSlice x.unit = x.spare ∧
        u.get (F.AOUT_SLICE_SLICE x.unit) = x.spare ∧
        u.dsl x.spare = 1 ∧
        u.dsl (s.aoutSlice x.unit) = 3 ∧
        u.get (F.AOUT_SLICE_SUBST x.unit) = 0 ∧
        u.on (F.PG_IRQ (pgAOP x.unit) (6 + x.unit % 2)) = true ∧
        u.get F.JCK_SUBST_STATUS_PHASE = 3 ∧
        Touches [.aout, .jobs, .jobSeq, .lastJobId, .dacSubst, .otp] [0x06, 0x0D, pgAOP x.unit] [] s u)

/-- For a word the initiator may write. SPK_EN_WRITE to SPKn_CTRL or PG_CTRL: the bit is held; an OFF channel of an enabled page with no fault cause, collapse or QUIESCE upon it begins its start; a running one ramps to its stop; EN 0 takes FAULT to OFF and releases the overcurrent latch. SPK_FMT_WRITE that changes RATE, FILTER or FS holds them and starts the reconfiguration of a RUNNING channel. SPK_MUTE_WRITE on a RUNNING channel shows MUTED or RUNNING; MUTE 1 turns the gain down. SPK_VOL_WRITE: with VRAMP 0 the volume applies at once. SPK_PWM_WRITE: the carrier takes SPREAD and PHASE at once while OFF, and is unchanged else. SPK_CEIL_RATED_WRITE: EFFECTIVE is the larger of RATED and BELLOWS. SPK_GUARD_CTRL_WRITE holds EN, ZONE and REL; EN 0 to 1 seeds both model nodes and clears SEEDED; an unchanged EN moves no channel. SPK_GUARD_RESEED seeds the models likewise and clears the excursion state. Each with its frame. -/
def Obligations.SpeakerWrites : Prop :=
  (∀ (ini : Fin 5) (n : Fin 4) (w : Word) (s : State), 
      s.mayWrite ini (A.SPK_CTRL n) w = true →
      ∃ u, Yields (.spkEnWrite ini n false w) s u ∧
        u.get (F.SPK_CTRL_EN n) = bits w 0 1 ∧
        (bits w 0 1 = 1 → s.on (F.PG_ENABLE (pgSPK n)) = true → (s.spkAt n).phase = .off → (s.spkAt n).active = [] → s.collapsed = false → s.isQuiet (14 + n) = false → (u.spkAt n).phase = .waiting ∧ u.get (F.SPK_STATUS_STATE n) = if u.spkClocks n then 2 else 1) ∧
        (bits w 0 1 = 0 → (s.spkAt n).phase = .running ∨ (s.spkAt n).phase = .unmuting → (u.spkAt n).phase = .stopping) ∧
        (bits w 0 1 = 0 → (s.spkAt n).phase = .fault → (u.spkAt n).phase = .off ∧ (u.spkAt n).latched = false ∧ 1 ∉ (u.spkAt n).active) ∧
        Touches [.spk] [] (whole (A.SPK_CTRL n) :: spkStatusFlds n) s u) ∧
  (∀ (ini : Fin 5) (n : Fin 4) (w : Word) (s : State), 
      s.mayWrite ini (pgSPK n * 0x400 + 4) w = true → s.get (F.PG_ENABLE (pgSPK n)) ≠ bits w 0 1 →
      ∃ u, Yields (.spkEnWrite ini n true w) s u ∧
        u.get (F.PG_ENABLE (pgSPK n)) = bits w 0 1 ∧
        (bits w 0 1 = 1 → s.on (F.SPK_CTRL_EN n) = true → (s.spkAt n).phase = .off → (s.spkAt n).active = [] → s.islandOn (.spk n) = true → s.collapsed = false → s.isQuiet (14 + n) = false → (u.spkAt n).phase = .waiting) ∧
        (bits w 0 1 = 0 → (s.spkAt n).phase = .running → (u.spkAt n).phase = .stopping) ∧
        Touches [.spk] [] (F.PG_ENABLE (pgSPK n) :: whole (pgSPK n * 0x400 + 0x018) :: whole (pgSPK n * 0x400 + 0x01C) :: spkStatusFlds n) s u) ∧
  (∀ (ini : Fin 5) (n : Fin 4) (w : Word) (s : State), 
      s.mayWrite ini (A.SPK_FMT n) w = true → (s.get (F.SPK_FMT_RATE n) ≠ bits w 0 4 ∨ s.get (F.SPK_FMT_FILTER n) ≠ bits w 4 2 ∨ s.get (F.SPK_FMT_FS n) ≠ bits w 8 3) →
      ∃ u, Yields (.spkFmtWrite ini n w) s u ∧
        u.get (F.SPK_FMT_RATE n) = bits w 0 4 ∧
        u.get (F.SPK_FMT_FILTER n) = bits w 4 2 ∧
        u.get (F.SPK_FMT_FS n) = bits w 8 3 ∧
        ((s.spkAt n).phase = .running → (u.spkAt n).phase = .recMute ∧ u.get (F.SPK_STATUS_STATE n) = 5) ∧
        Touches [.spk] [] (whole (A.SPK_FMT n) :: F.SPK_STATUS_HIZ n :: spkStatusFlds n) s u) ∧
  (∀ (ini : Fin 5) (n : Fin 4) (w : Word) (s : State), 
      s.mayWrite ini (A.SPK_CTRL n) w = true → (s.spkAt n).phase = .running → s.on (F.PG_ENABLE (pgSPK n)) = true → bits w 0 1 = 1 →
      ∃ u, Yields (.spkMuteWrite ini n w) s u ∧
        u.get (F.SPK_CTRL_MUTE n) = bits w 2 1 ∧
        (u.spkAt n).phase = .running ∧
        (u.get (F.SPK_STATUS_STATE n) = if bits w 2 1 = 1 then 4 else 3) ∧
        (bits w 2 1 = 1 → (u.spkAt n).pop.up = false) ∧
        Touches [.spk] [] (whole (A.SPK_CTRL n) :: spkStatusFlds n) s u) ∧
  (∀ (ini : Fin 5) (n : Fin 4) (w : Word) (s : State), 
      s.mayWrite ini (A.SPK_VOL n) w = true →
      ∃ u, Yields (.spkVolWrite ini n w) s u ∧
        u.get (F.SPK_VOL_GAIN n) = bits w 0 12 ∧
        u.get (F.SPK_VOL_VRAMP n) = bits w 12 2 ∧
        (bits w 12 2 = 0 → (u.spkAt n).vol = DbRamp.at (bits w 0 12)) ∧
        Touches [.spk] [] [whole (A.SPK_VOL n)] s u) ∧
  (∀ (ini : Fin 5) (n : Fin 4) (w : Word) (s : State), 
      s.mayWrite ini (A.SPK_PWM n) w = true →
      ∃ u, Yields (.spkPwmWrite ini n w) s u ∧
        u.get (F.SPK_PWM_SPREAD n) = bits w 0 2 ∧
        u.get (F.SPK_PWM_PHASE n) = bits w 4 2 ∧
        ((s.spkAt n).phase = .off → (u.spkAt n).car.spread = bits w 0 2 ∧ (u.spkAt n).car.phase = bits w 4 2) ∧
        ((s.spkAt n).phase ≠ .off → u.spk = s.spk) ∧
        Touches [.spk] [] [whole (A.SPK_PWM n)] s u) ∧
  (∀ (ini : Fin 5) (n : Fin 4) (w : Word) (s : State), 
      s.mayWrite ini (A.SPK_CEIL n) w = true →
      ∃ u, Yields (.spkCeilRatedWrite ini n w) s u ∧
        u.get (F.SPK_CEIL_RATED n) = bits w 8 8 ∧
        u.get (F.SPK_CEIL_EFFECTIVE n) = max (s.get (F.SPK_CEIL_BELLOWS n)) (bits w 8 8) ∧
        u.get (F.SPK_CEIL_BELLOWS n) = s.get (F.SPK_CEIL_BELLOWS n) ∧
        Touches [] [] [F.SPK_CEIL_RATED n, F.SPK_CEIL_EFFECTIVE n] s u) ∧
  (∀ (ini : Fin 5) (n : Fin 4) (w : Word) (s : State), 
      s.mayWrite ini (A.SPK_GUARD_CTRL n) w = true → bits w 4 1 = 0 →
      ∃ u, Yields (.spkGuardCtrlWrite ini n w) s u ∧
        u.get (F.SPK_GUARD_CTRL_EN n) = bits w 0 1 ∧
        u.get (F.SPK_GUARD_CTRL_ZONE n) = bits w 8 3 ∧
        u.get (F.SPK_GUARD_CTRL_REL n) = bits w 12 2 ∧
        (s.get (F.SPK_GUARD_CTRL_EN n) = 0 → bits w 0 1 = 1 → (u.spkAt n).seededOnce = true ∧ u.get (F.SPK_GUARD_STATUS_SEEDED n) = 0 ∧ (u.spkAt n).tc = u.spkTa n + (s.get (F.SPK_GUARD_TL_SEED_MARGIN n) : Int) * 65536 ∧ (u.spkAt n).tm = (u.spkAt n).tc) ∧
        (s.get (F.SPK_GUARD_CTRL_EN n) = bits w 0 1 → u.spk = s.spk) ∧
        Touches [.spk] [] (whole (A.SPK_GUARD_CTRL n) :: whole (A.SPK_GUARD_STATUS n) :: whole (A.SPK_GUARD_TEMP n) :: spkProtFlds n) s u) ∧
  (∀ (ini : Fin 5) (n : Fin 4) (w : Word) (s : State), 
      s.mayWrite ini (A.SPK_GUARD_CTRL n) (w ||| 0x10#32) = true →
      ∃ u, Yields (.spkGuardReseed ini n w) s u ∧
        (u.spkAt n).seededOnce = true ∧
        u.get (F.SPK_GUARD_STATUS_SEEDED n) = 0 ∧
        (u.spkAt n).x1 = 0 ∧
        (u.spkAt n).x2 = 0 ∧
        (u.spkAt n).tc = u.spkTa n + (s.get (F.SPK_GUARD_TL_SEED_MARGIN n) : Int) * 65536 ∧
        (u.spkAt n).tm = (u.spkAt n).tc ∧
        Touches [.spk] [] (whole (A.SPK_GUARD_CTRL n) :: whole (A.SPK_GUARD_STATUS n) :: whole (A.SPK_GUARD_TEMP n) :: spkProtFlds n) s u)

/-- While the channel's island is clocked. SPK_START on a waiting channel: with its PLLs, PVDD good and, where measured, between 4.4 V and 24.5 V, VHOLD good and no collapse, the stage leaves high impedance and pop_gain ramps up, or a muted channel is MUTED at once with READY, and an enabled guard has been seeded; with one of these missing it goes on waiting, WAIT_CLK while a PLL is missing, HIZ unchanged. SPK_RUNNING ends the ramp: RUNNING or MUTED, READY, and FAULT 0x00, or 0x07 while a sense fault holds. SPK_STOP_DONE after an undervoltage's ramp, or after a stop or a fault's stop with no collapse: high impedance, then OFF where the channel may not run, FAULT where a cause holds it, and a new start where none does and neither collapse nor QUIESCE holds it. Each with its frame. -/
def Obligations.SpeakerStartAndStop : Prop :=
  (∀ (n : Fin 4) (s : State), 
      s.clocked (.spk n) = true → (s.spkAt n).phase = .waiting → s.spkClocks n = true → s.pins.pvdd = true → (s.get (F.SPK_MEAS_P_PVDD n) = 0 ∨ (440 ≤ s.get (F.SPK_MEAS_P_PVDD n) ∧ s.get (F.SPK_MEAS_P_PVDD n) ≤ 2450)) → s.on F.JCK_HOLD_STATUS_VHOLD_OK = true → s.collapsed = false →
      ∃ u, Yields (.spkStart n) s u ∧
        u.on (F.SPK_STATUS_HIZ n) = false ∧
        (s.on (F.SPK_CTRL_MUTE n) = true → (u.spkAt n).phase = .running ∧ u.get (F.SPK_STATUS_STATE n) = 4 ∧ u.on (F.PG_IRQ (pgSPK n) 2) = true) ∧
        (s.on (F.SPK_CTRL_MUTE n) = false → (u.spkAt n).phase = .unmuting ∧ u.get (F.SPK_STATUS_STATE n) = 2) ∧
        (s.on (F.SPK_GUARD_CTRL_EN n) = true → (u.spkAt n).seededOnce = true) ∧
        Touches [.spk] [] (F.PG_FAULT (pgSPK n) :: F.PG_IRQ (pgSPK n) 2 :: F.SPK_GUARD_STATUS_SEEDED n :: whole (A.SPK_GUARD_TEMP n) :: spkStatusFlds n) s u) ∧
  (∀ (n : Fin 4) (s : State), 
      s.clocked (.spk n) = true → (s.spkAt n).phase = .waiting → (s.spkClocks n = false ∨ s.pins.pvdd = false ∨ (0 < s.get (F.SPK_MEAS_P_PVDD n) ∧ s.get (F.SPK_MEAS_P_PVDD n) < 440) ∨ 2450 < s.get (F.SPK_MEAS_P_PVDD n) ∨ s.on F.JCK_HOLD_STATUS_VHOLD_OK = false ∨ s.collapsed = true) →
      ∃ u, Yields (.spkStart n) s u ∧
        (u.spkAt n).phase = .waiting ∧
        (u.get (F.SPK_STATUS_STATE n) = if s.spkClocks n then 2 else 1) ∧
        u.get (F.SPK_STATUS_HIZ n) = s.get (F.SPK_STATUS_HIZ n) ∧
        Touches [.spk] [] (spkStatusFlds n) s u) ∧
  (∀ (n : Fin 4) (s : State), 
      s.clocked (.spk n) = true → (s.spkAt n).phase = .unmuting →
      ∃ u, Yields (.spkRunning n) s u ∧
        (u.spkAt n).phase = .running ∧
        (u.get (F.SPK_STATUS_STATE n) = if s.on (F.SPK_CTRL_MUTE n) then 4 else 3) ∧
        u.on (F.PG_IRQ (pgSPK n) 2) = true ∧
        (u.get (F.PG_FAULT (pgSPK n)) = if (s.spkAt n).active.contains 7 then 7 else 0) ∧
        Touches [.spk] [] (F.PG_FAULT (pgSPK n) :: F.PG_IRQ (pgSPK n) 2 :: spkStatusFlds n) s u) ∧
  (∀ (n : Fin 4) (s : State), 
      s.clocked (.spk n) = true → (((s.spkAt n).phase = .stopping ∧ s.collapsed = false) ∨ ((s.spkAt n).phase = .faultStop ∧ s.collapsed = false) ∨ (s.spkAt n).phase = .uvRamp) →
      ∃ u, Yields (.spkStopDone n) s u ∧
        u.on (F.SPK_STATUS_HIZ n) = true ∧
        (s.spkAble n = false → (u.spkAt n).phase = .off ∧ u.get (F.SPK_STATUS_STATE n) = 0) ∧
        (s.spkAble n = true → s.spkStopped n = true → (u.spkAt n).phase = .fault ∧ u.get (F.SPK_STATUS_STATE n) = 7) ∧
        (s.spkAble n = true → s.spkStopped n = false → s.collapsed = false → s.isQuiet (14 + n) = false → (u.spkAt n).phase = .waiting) ∧
        Touches [.spk] [] (F.SPK_FAULT_CNT_FAULTS n :: spkStatusFlds n) s u)

/-- While the channel's island is clocked. Overcurrent and DC on a channel in use, and overvoltage: flag, fault code, and for a channel in use high impedance, STATE FAULT and FAULTS counted; an overcurrent latches when two retries stand in the last 10 s, and after 10 s begins a new count. The sustained current limit on a channel in use, and overtemperature: flag and code, and a channel past its waiting ramps down to stop. Undervoltage: flag and code; a sounding channel ramps to zero first, a waiting one is in FAULT at once. Overtemperature, undervoltage and overvoltage of a channel in OFF or FAULT set flag and code and leave its phase. SPK_OT_WARN shows the temperature, with its hysteresis and interrupt. A sense fault leaves the phase. A recovery of the one cause that holds restarts a channel that may run, the overcurrent retry with OC_AUTO and no latch; the sense recovery ends fault 0x07. Each with its frame. -/
def Obligations.SpeakerFaults : Prop :=
  (∀ (n : Fin 4) (since : Nat) (s : State), 
      s.clocked (.spk n) = true → s.spkLive n = true →
      ∃ u, Yields (.spkOvercurrent n since) s u ∧
        u.get (F.PG_FAULT (pgSPK n)) = 1 ∧
        u.get (F.SPK_FLAGS_OC n) = 1 ∧
        1 ∈ (u.spkAt n).active ∧
        (u.spkAt n).phase = .fault ∧
        u.get (F.SPK_STATUS_STATE n) = 7 ∧
        u.on (F.SPK_STATUS_HIZ n) = true ∧
        u.get (F.SPK_FAULT_CNT_FAULTS n) = min (s.get (F.SPK_FAULT_CNT_FAULTS n) + 1) 0xFFFF ∧
        (s.get (F.SPK_FAULT_CNT_OC_RETRIES n) = 2 → since ≤ 10000 → (u.spkAt n).latched = true) ∧
        (10000 < since → u.get (F.SPK_FAULT_CNT_OC_RETRIES n) = 1 ∧ (u.spkAt n).latched = false) ∧
        Touches [.spk] [] (F.PG_FAULT (pgSPK n) :: F.PG_IRQ (pgSPK n) 1 :: whole (A.SPK_FAULT_CNT n) :: F.SPK_FLAGS_OC n :: spkStatusFlds n) s u) ∧
  (∀ (n : Fin 4) (s : State), 
      s.clocked (.spk n) = true → (s.spkAt n).active = [1] → s.on (F.SPK_CTRL_OC_AUTO n) = true → (s.spkAt n).latched = false →
      ∃ u, Yields (.spkOcRetry n) s u ∧
        (u.spkAt n).active = [] ∧
        ((s.spkAt n).phase = .fault → (u.spkAt n).phase = (if s.spkAble n then .waiting else .off)) ∧
        Touches [.spk] [] (spkStatusFlds n) s u) ∧
  (∀ (n : Fin 4) (s : State), 
      s.clocked (.spk n) = true → s.spkLive n = true →
      ∃ u, Yields (.spkCbcFault n) s u ∧
        u.get (F.PG_FAULT (pgSPK n)) = 2 ∧
        u.get (F.SPK_FLAGS_CBC n) = 1 ∧
        2 ∈ (u.spkAt n).active ∧
        ((s.spkAt n).phase ≠ .waiting → (u.spkAt n).phase = .faultStop) ∧
        Touches [.spk] [] (F.PG_FAULT (pgSPK n) :: F.PG_IRQ (pgSPK n) 1 :: whole (A.SPK_FAULT_CNT n) :: F.SPK_FLAGS_CBC n :: spkStatusFlds n) s u) ∧
  (∀ (n : Fin 4) (s : State), 
      s.clocked (.spk n) = true → s.spkLive n = true →
      ∃ u, Yields (.spkDcFault n) s u ∧
        u.get (F.PG_FAULT (pgSPK n)) = 3 ∧
        u.get (F.SPK_FLAGS_DC n) = 1 ∧
        3 ∈ (u.spkAt n).active ∧
        (u.spkAt n).phase = .fault ∧
        u.get (F.SPK_STATUS_STATE n) = 7 ∧
        u.on (F.SPK_STATUS_HIZ n) = true ∧
        u.get (F.SPK_FAULT_CNT_FAULTS n) = min (s.get (F.SPK_FAULT_CNT_FAULTS n) + 1) 0xFFFF ∧
        Touches [.spk] [] (F.PG_FAULT (pgSPK n) :: F.PG_IRQ (pgSPK n) 1 :: whole (A.SPK_FAULT_CNT n) :: F.SPK_FLAGS_DC n :: spkStatusFlds n) s u) ∧
  (∀ (n : Fin 4) (temp : Int) (s : State), 
      s.clocked (.spk n) = true → -32768 ≤ temp → temp ≤ 32767 →
      ∃ u, Yields (.spkOtWarn n temp) s u ∧
        signed 16 (u.get (F.SPK_STAGE_T_TEMP n)) = temp ∧
        (2000 < temp → u.on (F.SPK_STATUS_OT_WARN_NOW n) = true) ∧
        (2000 < temp → s.on (F.SPK_STATUS_OT_WARN_NOW n) = false → u.on (F.PG_IRQ (pgSPK n) 7) = true) ∧
        (temp < 1920 → u.on (F.SPK_STATUS_OT_WARN_NOW n) = false) ∧
        (1920 ≤ temp → temp ≤ 2000 → u.get (F.SPK_STATUS_OT_WARN_NOW n) = s.get (F.SPK_STATUS_OT_WARN_NOW n)) ∧
        Touches [] [] [F.SPK_STAGE_T_TEMP n, F.SPK_STATUS_OT_WARN_NOW n, F.PG_IRQ (pgSPK n) 7] s u) ∧
  (∀ (n : Fin 4) (s : State), 
      s.clocked (.spk n) = true →
      ∃ u, Yields (.spkOtFault n) s u ∧
        u.get (F.PG_FAULT (pgSPK n)) = 4 ∧
        u.get (F.SPK_FLAGS_OT n) = 1 ∧
        4 ∈ (u.spkAt n).active ∧
        (s.spkLive n = true → (s.spkAt n).phase ≠ .waiting → (u.spkAt n).phase = .faultStop) ∧
        (s.spkLive n = false → (u.spkAt n).phase = (s.spkAt n).phase) ∧
        Touches [.spk] [] (F.PG_FAULT (pgSPK n) :: F.PG_IRQ (pgSPK n) 1 :: whole (A.SPK_FAULT_CNT n) :: F.SPK_FLAGS_OT n :: spkStatusFlds n) s u) ∧
  (∀ (n : Fin 4) (s : State), 
      s.clocked (.spk n) = true → (s.spkAt n).active = [4] →
      ∃ u, Yields (.spkOtRecover n) s u ∧
        (u.spkAt n).active = [] ∧
        ((s.spkAt n).phase = .fault → (u.spkAt n).phase = (if s.spkAble n then .waiting else .off)) ∧
        Touches [.spk] [] (spkStatusFlds n) s u) ∧
  (∀ (n : Fin 4) (s : State), 
      s.clocked (.spk n) = true →
      ∃ u, Yields (.spkPvddUv n) s u ∧
        u.get (F.PG_FAULT (pgSPK n)) = 5 ∧
        u.get (F.SPK_FLAGS_UV n) = 1 ∧
        5 ∈ (u.spkAt n).active ∧
        (s.spkLive n = false → (u.spkAt n).phase = (s.spkAt n).phase) ∧
        (s.spkLive n = true → (s.spkAt n).phase ≠ .waiting → (s.spkAt n).pop.zero = false → (u.spkAt n).phase = .uvRamp) ∧
        ((s.spkAt n).phase = .waiting → (u.spkAt n).phase = .fault ∧ u.on (F.SPK_STATUS_HIZ n) = true) ∧
        Touches [.spk] [] (F.PG_FAULT (pgSPK n) :: F.PG_IRQ (pgSPK n) 1 :: whole (A.SPK_FAULT_CNT n) :: F.SPK_FLAGS_UV n :: spkStatusFlds n) s u) ∧
  (∀ (n : Fin 4) (s : State), 
      s.clocked (.spk n) = true → (s.spkAt n).active = [5] →
      ∃ u, Yields (.spkUvRecover n) s u ∧
        (u.spkAt n).active = [] ∧
        ((s.spkAt n).phase = .fault → (u.spkAt n).phase = (if s.spkAble n then .waiting else .off)) ∧
        Touches [.spk] [] (spkStatusFlds n) s u) ∧
  (∀ (n : Fin 4) (s : State), 
      s.clocked (.spk n) = true →
      ∃ u, Yields (.spkPvddOv n) s u ∧
        u.get (F.PG_FAULT (pgSPK n)) = 6 ∧
        u.get (F.SPK_FLAGS_OV n) = 1 ∧
        6 ∈ (u.spkAt n).active ∧
        (s.spkLive n = true → (u.spkAt n).phase = .fault) ∧
        (s.spkLive n = true → u.get (F.SPK_STATUS_STATE n) = 7) ∧
        (s.spkLive n = true → u.on (F.SPK_STATUS_HIZ n) = true) ∧
        (s.spkLive n = true → u.get (F.SPK_FAULT_CNT_FAULTS n) = min (s.get (F.SPK_FAULT_CNT_FAULTS n) + 1) 0xFFFF) ∧
        (s.spkLive n = false → (u.spkAt n).phase = (s.spkAt n).phase) ∧
        Touches [.spk] [] (F.PG_FAULT (pgSPK n) :: F.PG_IRQ (pgSPK n) 1 :: whole (A.SPK_FAULT_CNT n) :: F.SPK_FLAGS_OV n :: spkStatusFlds n) s u) ∧
  (∀ (n : Fin 4) (s : State), 
      s.clocked (.spk n) = true → (s.spkAt n).active = [6] →
      ∃ u, Yields (.spkOvRecover n) s u ∧
        (u.spkAt n).active = [] ∧
        ((s.spkAt n).phase = .fault → (u.spkAt n).phase = (if s.spkAble n then .waiting else .off)) ∧
        Touches [.spk] [] (spkStatusFlds n) s u) ∧
  (∀ (n : Fin 4) (s : State), 
      s.clocked (.spk n) = true → s.spkLive n = true →
      ∃ u, Yields (.spkSenseFault n) s u ∧
        u.get (F.SPK_FLAGS_SENSE n) = 1 ∧
        u.get (F.PG_FAULT (pgSPK n)) = 7 ∧
        (u.spkAt n).phase = (s.spkAt n).phase ∧
        (s.on (F.SPK_GUARD_CTRL_EN n) = true → u.spkGuardGain n = s.spkSeedGain n) ∧
        Touches [.spk] [] (F.SPK_FLAGS_SENSE n :: F.PG_FAULT (pgSPK n) :: F.PG_IRQ (pgSPK n) 1 :: spkProtFlds n) s u) ∧
  (∀ (n : Fin 4) (s : State), 
      s.clocked (.spk n) = true → 7 ∈ (s.spkAt n).active →
      ∃ u, Yields (.spkSenseRecover n) s u ∧
        7 ∉ (u.spkAt n).active ∧
        u.get (F.PG_FAULT (pgSPK n)) ≠ 7 ∧
        (s.on (F.SPK_GUARD_CTRL_EN n) = true → u.on (F.SPK_GUARD_STATUS_SEEDED n) = false) ∧
        Touches [.spk] [] (F.PG_FAULT (pgSPK n) :: F.SPK_GUARD_STATUS_SEEDED n :: whole (A.SPK_GUARD_TEMP n) :: spkProtFlds n) s u)

/-- While the channel's island is clocked. SPK_GUARD_UPDATE reports the power of the last millisecond's sensed samples, PVDD and the stage temperature, and takes the model registers over for the models; with the guard off the temperatures and gains stay; with it on g_x rises by the release step to at most 0 dB, a coil parameter of zero shows CFG_ERR, a thermal one of zero leaves the temperatures (both the model's reading, logs 181 and 24), and with none of the thermal ones zero both nodes take the step of R148 at the coil power of the sensed current. SPK_RESISTANCE_BLOCK with the guard on: a valid block gives RE, VALID, SEEDED, ends the pilot, sets the coil's temperature by R149 where its parameters are sound, and OPEN_WARN with its interrupt above 64 ohms; an invalid one is counted, leaves the coil's temperature, and the third in a row starts the pilot with PILOT_EN. A new block begins. Each with its frame. -/
def Obligations.SpeakerGuardMeasures : Prop :=
  (∀ (n : Fin 4) (pvdd : Nat) (temp : Int) (s : State), 
      s.clocked (.spk n) = true → -32768 ≤ temp → temp ≤ 32767 →
      ∃ u, Yields (.spkGuardUpdate n pvdd temp) s u ∧
        u.get (F.SPK_MEAS_P_P n) = min (s.spkAt n).sense.ms.power 0xFFFF ∧
        u.get (F.SPK_MEAS_P_PVDD n) = min pvdd 0xFFFF ∧
        signed 16 (u.get (F.SPK_STAGE_T_TEMP n)) = temp ∧
        (u.spkAt n).par.re25 = s.get (F.SPK_GUARD_RE_RE25 n) ∧
        (u.spkAt n).par.alpha = s.get (F.SPK_GUARD_RE_ALPHA n) ∧
        (u.spkAt n).par.fres = s.get (F.SPK_GUARD_XM_FRES n) ∧
        (u.spkAt n).par.qts = s.get (F.SPK_GUARD_XM_QTS n) ∧
        (u.spkAt n).par.xsens = s.get (F.SPK_GUARD_XL_XSENS n) ∧
        (u.spkAt n).par.xlim = s.get (F.SPK_GUARD_XL_XLIM n) ∧
        (u.spkAt n).par.rthC = s.get (F.SPK_GUARD_TC_RTH n) ∧
        (u.spkAt n).par.tauC = s.get (F.SPK_GUARD_TC_TAU n) ∧
        (u.spkAt n).par.rthM = s.get (F.SPK_GUARD_TM_RTH n) ∧
        (u.spkAt n).par.tauM = s.get (F.SPK_GUARD_TM_TAU n) ∧
        (s.on (F.SPK_GUARD_CTRL_EN n) = false → (u.spkAt n).tc = (s.spkAt n).tc ∧ (u.spkAt n).tm = (s.spkAt n).tm ∧ (u.spkAt n).gX = (s.spkAt n).gX ∧ (u.spkAt n).gTh = (s.spkAt n).gTh) ∧
        (s.on (F.SPK_GUARD_CTRL_EN n) = true → (u.spkAt n).gX = min 0 ((s.spkAt n).gX + guardRel (s.get (F.SPK_GUARD_CTRL_REL n)))) ∧
        (s.on (F.SPK_GUARD_CTRL_EN n) = true → (u.spkAt n).par.coilOk = false → u.on (F.SPK_GUARD_STATUS_CFG_ERR n) = true) ∧
        (s.on (F.SPK_GUARD_CTRL_EN n) = true → (u.spkAt n).par.netOk = false → (u.spkAt n).tc = (s.spkAt n).tc ∧ (u.spkAt n).tm = (s.spkAt n).tm) ∧
        (s.on (F.SPK_GUARD_CTRL_EN n) = true → (u.spkAt n).par.netOk = true → ((u.spkAt n).tc, (u.spkAt n).tm) = u.spkThermal n (u.spkCoilRise n (u.spkAt n).sense.i2 (s.spkAt n).tc) ((s.spkAt n).tc, (s.spkAt n).tm)) ∧
        Touches [.spk] [] (whole (A.SPK_MEAS_P n) :: whole (A.SPK_STAGE_T n) :: F.SPK_FAULT_CNT_OC_RETRIES n :: F.SPK_GUARD_STATUS_CFG_ERR n :: whole (A.SPK_GUARD_TEMP n) :: spkProtFlds n) s u) ∧
  (∀ (n : Fin 4) (s : State), 
      s.clocked (.spk n) = true → s.on (F.SPK_GUARD_CTRL_EN n) = true → (s.spkAt n).sense.valid = true →
      ∃ u, Yields (.spkResistanceBlock n) s u ∧
        u.get (F.SPK_MEAS_Z_RE n) = min (s.spkAt n).sense.ohm 0xFFFF ∧
        u.get (F.SPK_MEAS_Z_VALID n) = 1 ∧
        u.on (F.SPK_GUARD_STATUS_SEEDED n) = true ∧
        u.on (F.SPK_GUARD_STATUS_PILOT_ON n) = false ∧
        (u.spkAt n).invalid = 0 ∧
        (u.spkAt n).tm = (s.spkAt n).tm ∧
        (u.spkAt n).sense.blockN = 0 ∧
        ((s.spkAt n).par.coilOk = true → (u.spkAt n).tc = 25 * 65536 + divRne ((((s.spkAt n).sense.ohm : Int) - (s.spkAt n).par.re25) * 65536 * 1000000) ((s.spkAt n).par.re25 * (s.spkAt n).par.alpha)) ∧
        (64000 < (s.spkAt n).sense.ohm → u.get (F.SPK_FLAGS_OPEN_WARN n) = 1 ∧ u.on (F.PG_IRQ (pgSPK n) 6) = true) ∧
        Touches [.spk] [] (whole (A.SPK_MEAS_Z n) :: whole (A.SPK_GUARD_STATUS n) :: whole (A.SPK_GUARD_TEMP n) :: F.SPK_FLAGS_OPEN_WARN n :: F.PG_IRQ (pgSPK n) 5 :: F.PG_IRQ (pgSPK n) 6 :: spkProtFlds n) s u) ∧
  (∀ (n : Fin 4) (s : State), 
      s.clocked (.spk n) = true → s.on (F.SPK_GUARD_CTRL_EN n) = true → (s.spkAt n).sense.valid = false →
      ∃ u, Yields (.spkResistanceBlock n) s u ∧
        (u.spkAt n).invalid = (s.spkAt n).invalid + 1 ∧
        (u.spkAt n).tc = (s.spkAt n).tc ∧
        (u.spkAt n).sense.blockN = 0 ∧
        (2 ≤ (s.spkAt n).invalid → s.on (F.SPK_GUARD_CTRL_PILOT_EN n) = true → u.on (F.SPK_GUARD_STATUS_PILOT_ON n) = true) ∧
        Touches [.spk] [] [whole (A.SPK_GUARD_STATUS n)] s u)

/-- For a word the initiator may write. LANE_ENABLE_WRITE on an off lane: it starts where it fits (STATE STARTING, or FAULT with a poisoned or lost set, its event gain at zero, its words taken), waits in WAIT_CAP where it could fit, and stays OFF with CAP_ERR where it could not; ENABLE 0 while the engine runs ramps a running or starting lane down over 1 ms. LANE_SRC_WRITE: a lane that is not running takes the word and stays where it is; a running lane with another source written to none ramps to zero over 1 ms in RESTART or FAULT; SOURCE is the written one, or the one in effect with CAP_ERR. LANE_OUT_WRITE: a lane that is not running, and a running one with source none, takes DOMAIN and RATE; no lane changes its phase. LANE_MARGIN_WRITE holds MARGIN, and the margin in use stays. Each with its frame. -/
def Obligations.LaneStartStopWrites : Prop :=
  (∀ (ini : Fin 5) (n : Fin 48) (w : Word) (s : State), 
      s.mayWrite ini (pgLANE n * 0x400 + 4) w = true → s.islandOn .engine = true → s.get (F.PG_ENABLE (pgLANE n)) = 0 → bits w 0 1 = 1 → (s.laneAt n).phase = .off →
      ∃ u, Yields (.laneEnableWrite ini n w) s u ∧
        u.get (F.PG_ENABLE (pgLANE n)) = 1 ∧
        (s.laneFits (s.laneStartCost n (s.laneStop n)) = true → (u.laneAt n).phase = .alloc ∧ (u.get (F.LANE_STATUS_STATE n) = if s.on (F.LANE_COEF_STATUS_POISON n) = true ∨ s.on (F.LANE_COEF_STATUS_LOST n) = true then 7 else 2) ∧ (u.laneAt n).event = .at0 ∧ (u.laneAt n).eff = s.laneWords n) ∧
        (s.laneFits (s.laneStartCost n (s.laneStop n)) = false → s.laneCould (s.laneStartCost n (s.laneMost n)) = true → (u.laneAt n).phase = .waitCap ∧ u.get (F.LANE_STATUS_STATE n) = 1) ∧
        (s.laneFits (s.laneStartCost n (s.laneStop n)) = false → s.laneCould (s.laneStartCost n (s.laneMost n)) = false → (u.laneAt n).phase = .off ∧ u.get (F.LANE_FLAGS_CAP_ERR n) = 1) ∧
        Touches [.lanes] [pgLANE n] [] s u) ∧
  (∀ (ini : Fin 5) (n : Fin 48) (w : Word) (s : State), 
      s.mayWrite ini (pgLANE n * 0x400 + 4) w = true → s.get (F.PG_ENABLE (pgLANE n)) = 1 → bits w 0 1 = 0 → s.engRuns = true → ((s.laneAt n).phase = .running ∨ (s.laneAt n).phase = .rampUp) →
      ∃ u, Yields (.laneEnableWrite ini n w) s u ∧
        u.get (F.PG_ENABLE (pgLANE n)) = 0 ∧
        (u.laneAt n).phase = .stopping ∧
        (u.laneAt n).mute.up = false ∧
        (u.laneAt n).muteUs = 1000 ∧
        Touches [.lanes] [] (F.PG_ENABLE (pgLANE n) :: whole (pgLANE n * 0x400 + 0x018) :: whole (pgLANE n * 0x400 + 0x01C) :: laneStatusFlds n) s u) ∧
  (∀ (ini : Fin 5) (n : Fin 48) (w : Word) (s : State), 
      s.mayWrite ini (A.LANE_SRC n) w = true →
      ∃ u, Yields (.laneSrcWrite ini n w) s u ∧
        (s.laneIdle n = true → u.get (F.LANE_SRC_SOURCE n) = bits w 0 8 ∧ u.get (F.LANE_SRC_DIR n) = bits w 8 1 ∧ (u.laneAt n).eff = { (s.laneAt n).eff with src := u.reg (A.LANE_SRC n) } ∧ (u.laneAt n).phase = (s.laneAt n).phase) ∧
        ((s.laneAt n).phase = .running → bits w 0 9 = 0 → bits (s.laneAt n).eff.src 0 9 ≠ 0 → u.get (F.LANE_SRC_SOURCE n) = 0 ∧ (u.laneAt n).phase = .srcRamp ∧ (u.get (F.LANE_STATUS_STATE n) = if s.on (F.LANE_COEF_STATUS_POISON n) = true ∨ s.on (F.LANE_COEF_STATUS_LOST n) = true then 7 else 5) ∧ (u.laneAt n).mute.up = false ∧ (u.laneAt n).muteUs = 1000) ∧
        (u.get (F.LANE_SRC_SOURCE n) = bits w 0 8 ∨ (u.reg (A.LANE_SRC n) = (s.laneAt n).eff.src ∧ u.get (F.LANE_FLAGS_CAP_ERR n) = 1)) ∧
        Touches [.lanes] [pgLANE n] [] s u) ∧
  (∀ (ini : Fin 5) (n : Fin 48) (w : Word) (s : State), 
      s.mayWrite ini (A.LANE_OUT n) w = true →
      ∃ u, Yields (.laneOutWrite ini n w) s u ∧
        (s.laneIdle n = true → u.get (F.LANE_OUT_DOMAIN n) = bits w 4 4 ∧ u.get (F.LANE_OUT_RATE n) = bits w 0 4 ∧ (u.laneAt n).eff = { (s.laneAt n).eff with out := u.reg (A.LANE_OUT n) }) ∧
        (s.laneIdle n = false → (s.laneAt n).eff.src = 0 → (u.laneAt n).eff = { (s.laneAt n).eff with out := u.reg (A.LANE_OUT n) } ∧ u.get (F.LANE_OUT_DOMAIN n) = bits w 4 4) ∧
        (u.laneAt n).phase = (s.laneAt n).phase ∧
        Touches [.lanes] [pgLANE n] [] s u) ∧
  (∀ (ini : Fin 5) (n : Fin 48) (w : Word) (s : State), 
      s.mayWrite ini (A.LANE_RC n) w = true →
      ∃ u, Yields (.laneMarginWrite ini n w) s u ∧
        u.get (F.LANE_RC_MARGIN n) = bits w 0 5 ∧
        u.get (F.LANE_STATUS_RC_MARGIN_NOW n) = s.get (F.LANE_STATUS_RC_MARGIN_NOW n) ∧
        Touches [] [] [F.LANE_RC_MARGIN n] s u)

/-- For a word the initiator may write. LANE_TRIM_WRITE holds GAIN and RAMP; where no inversion is under way, a changed gain applies at once on a lane that is not running and starts the dB ramp of its class on one that is. LANE_INVERT_WRITE: at once on a lane that is not running, else the ramp to zero that precedes the flip, or the way back from one. LANE_MUTE_WRITE on a RUNNING lane turns the mute gain over MRAMP and shows MUTED or RUNNING where no coefficient fault stands. LANE_DCB_WRITE takes effect, or waits with CHG_WAIT, or is refused with CAP_ERR, its field unchanged and no violation counted, as the capacity rule decides. LANE_HUM_WRITE that adds no notch, or on a lane that is not running, takes effect, with the 10 ms crossfade on a running lane. LANE_DYN_WRITE that starts no stage holds the fields of its register and leaves the detector state. Each with its frame. -/
def Obligations.LaneProcessingWrites : Prop :=
  (∀ (ini : Fin 5) (n : Fin 48) (w : Word) (s : State), 
      s.mayWrite ini (A.LANE_TRIM n) w = true →
      ∃ u, Yields (.laneTrimWrite ini n w) s u ∧
        u.get (F.LANE_TRIM_GAIN n) = bits w 0 12 ∧
        u.get (F.LANE_TRIM_RAMP n) = bits w 12 2 ∧
        (s.laneIdle n = true → (s.laneAt n).flip ≠ 1 → s.get (F.LANE_TRIM_GAIN n) ≠ bits w 0 12 → (u.laneAt n).trim = DbRamp.at (bits w 0 12) ∧ u.get (F.LANE_TRIM_GAIN_NOW n) = bits w 0 12) ∧
        (s.laneIdle n = false → (s.laneAt n).flip ≠ 1 → s.get (F.LANE_TRIM_GAIN n) ≠ bits w 0 12 → (u.laneAt n).trim = (s.laneAt n).trim.to (bits w 0 12) (if bits w 12 2 = 0 then 1 else s.frames (rampClassUs (bits w 12 2)))) ∧
        Touches [.lanes] [] [whole (A.LANE_TRIM n)] s u) ∧
  (∀ (ini : Fin 5) (n : Fin 48) (w : Word) (s : State), 
      s.mayWrite ini (A.LANE_CTRL n) w = true → s.get (F.LANE_CTRL_INVERT n) ≠ bits w 3 1 →
      ∃ u, Yields (.laneInvertWrite ini n w) s u ∧
        u.get (F.LANE_CTRL_INVERT n) = bits w 3 1 ∧
        (s.laneIdle n = true → (u.laneAt n).inv = decide (bits w 3 1 = 1) ∧ (u.laneAt n).flip = 0) ∧
        (s.laneIdle n = false → (s.laneAt n).inv ≠ decide (bits w 3 1 = 1) → (u.laneAt n).flip = 1 ∧ (u.laneAt n).inv = (s.laneAt n).inv ∧ (u.laneAt n).trim = (s.laneAt n).trim.to 0 (s.frames 1000)) ∧
        (s.laneIdle n = false → (s.laneAt n).inv = decide (bits w 3 1 = 1) → (u.laneAt n).flip = 2) ∧
        Touches [.lanes] [] (whole (A.LANE_CTRL n) :: laneStatusFlds n) s u) ∧
  (∀ (ini : Fin 5) (n : Fin 48) (w : Word) (s : State), 
      s.mayWrite ini (A.LANE_CTRL n) w = true → s.get (F.LANE_CTRL_MUTE n) ≠ bits w 2 1 → (s.laneAt n).phase = .running →
      ∃ u, Yields (.laneMuteWrite ini n w) s u ∧
        u.get (F.LANE_CTRL_MUTE n) = bits w 2 1 ∧
        (u.laneAt n).mute.up = decide (bits w 2 1 = 0) ∧
        (u.laneAt n).muteUs = laneMuteUs (bits w 4 2) ∧
        (u.laneAt n).phase = .running ∧
        (s.on (F.LANE_COEF_STATUS_POISON n) = false → s.on (F.LANE_COEF_STATUS_LOST n) = false → u.get (F.LANE_STATUS_STATE n) = if bits w 2 1 = 1 then 4 else 3) ∧
        Touches [.lanes] [] (whole (A.LANE_CTRL n) :: laneStatusFlds n) s u) ∧
  (∀ (ini : Fin 5) (n : Fin 48) (w : Word) (e : LaneEff) (s : State), 
      s.mayWrite ini (A.LANE_DCB n) w = true → e = { (s.laneAt n).eff with dcb := setBits (s.reg (A.LANE_DCB n)) 0 2 (bits w 0 2) } →
      ∃ u, Yields (.laneDcbWrite ini n w) s u ∧
        (s.laneTakes n e = true → u.get (F.LANE_DCB_HPF n) = bits w 0 2 ∧ (u.laneAt n).eff = e) ∧
        (s.laneTakes n e = false → s.laneWaits n e = true → u.get (F.LANE_DCB_HPF n) = bits w 0 2 ∧ (u.laneAt n).eff = (s.laneAt n).eff ∧ u.on (F.LANE_STATUS_CHG_WAIT n) = true) ∧
        (s.laneTakes n e = false → s.laneWaits n e = false → u.reg (A.LANE_DCB n) = (s.laneAt n).eff.dcb ∧ (u.laneAt n).eff = (s.laneAt n).eff ∧ u.get (F.LANE_FLAGS_CAP_ERR n) = 1 ∧ u.get (F.PG_VIOL_COUNT (pgLANE n)) = s.get (F.PG_VIOL_COUNT (pgLANE n))) ∧
        Touches [.lanes] [] (whole (A.LANE_DCB n) :: F.LANE_FLAGS_CAP_ERR n :: F.PG_IRQ (pgLANE n) 8 :: laneStatusFlds n) s u) ∧
  (∀ (ini : Fin 5) (n : Fin 48) (w : Word) (s : State), 
      s.mayWrite ini (A.LANE_HUM n) w = true → (s.laneIdle n = true ∨ bits w 0 3 ≤ bits (s.laneAt n).eff.hum 0 3) →
      ∃ u, Yields (.laneHumWrite ini n w) s u ∧
        u.get (F.LANE_HUM_HARM n) = bits w 0 3 ∧
        u.get (F.LANE_HUM_WIDTH n) = bits w 10 2 ∧
        u.get (F.LANE_HUM_FREQ_SRC n) = bits w 8 2 ∧
        (u.laneAt n).eff.hum = u.reg (A.LANE_HUM n) ∧
        (s.laneIdle n = false → u.reg (A.LANE_HUM n) ≠ (s.laneAt n).eff.hum → (u.laneAt n).notch.len = s.frames 10000 ∧ (u.laneAt n).notch.pos = 0 ∧ (u.laneAt n).notch.new.harm = bits w 0 3) ∧
        Touches [.lanes] [] (whole (A.LANE_HUM n) :: laneStatusFlds n) s u) ∧
  (∀ (ini : Fin 5) (n : Fin 48) (r : Fin 5) (w : Word) (s : State), 
      s.mayWrite ini (A.LANE_DYN_CTRL n + 4 * r) w = true → (r.val = 0 → s.laneIdle n = true ∨ bits w 0 3 = 0 ∨ bits (s.laneAt n).eff.dyn 0 3 ≠ 0) →
      ∃ u, Yields (.laneDynWrite ini n r w) s u ∧
        (r.val = 0 → u.get (F.LANE_DYN_CTRL_LINK_LANE n) = bits w 8 6 ∧ u.get (F.LANE_DYN_CTRL_LINK_EN n) = bits w 4 1 ∧ u.get (F.LANE_DYN_CTRL_DET n) = bits w 3 1 ∧ (u.laneAt n).eff.dyn = u.reg (A.LANE_DYN_CTRL n)) ∧
        (r.val = 1 → u.get (F.LANE_DYN_COMP_THR n) = bits w 0 8 ∧ u.get (F.LANE_DYN_COMP_RATIO n) = bits w 16 4 ∧ u.get (F.LANE_DYN_COMP_MAKEUP n) = bits w 24 8) ∧
        (r.val = 2 → u.get (F.LANE_DYN_TIME_ATT n) = bits w 0 6 ∧ u.get (F.LANE_DYN_TIME_REL n) = bits w 16 8) ∧
        (r.val = 3 → u.get (F.LANE_DYN_LIM_LIM_THR n) = bits w 0 6 ∧ u.get (F.LANE_DYN_LIM_LIM_REL n) = bits w 8 8) ∧
        (r.val = 4 → u.get (F.LANE_DYN_GATE_THR n) = bits w 0 8 ∧ u.get (F.LANE_DYN_GATE_REL n) = bits w 8 8 ∧ u.get (F.LANE_DYN_GATE_HOLD n) = bits w 24 8) ∧
        (r.val ≠ 0 → u.lanes = s.lanes) ∧
        (u.laneAt n).dyn = (s.laneAt n).dyn ∧
        Touches [.lanes] [] (whole (A.LANE_DYN_CTRL n + 4 * r) :: laneStatusFlds n) s u)

/-- For a word the initiator may write. LANE_COEF_COMMIT on a lane that is not running, with no commit under way and no poisoned pending word: a stable set is copied at once with COMMITS and COMMIT_DONE, an unstable one refused with ERR, its cause, stage and interrupt, the chain unchanged; on a running lane with an unchanged XFADE it waits for the frame boundary with BUSY, and a COMMIT during one is held. LANE_DELAY_WRITE on a lane that is not running holds FRAMES where the pool, with the blocks held, covers it, else keeps FRAMES with POOL_ERR; on a running lane that adds no stage it crossfades to the new delay, holds the blocks of the longer of the new delay and the taps that play, and gives back the others; beyond the pool it is refused with POOL_ERR. LANE_METER_WIN_WRITE, LANE_CLR_HOLD and LANE_CNT_CLR set the window, the held peaks to -150 dBFS and the counters to 0. Each with its frame. -/
def Obligations.LaneCommitDelayMeterWrites : Prop :=
  (∀ (ini : Fin 5) (n : Fin 48) (w : Word) (s : State), 
      s.mayWrite ini (A.LANE_COEF_CTRL n) (w ||| 0x1#32) = true → s.laneIdle n = true → (s.laneAt n).commit = .idle → (s.laneAt n).held = false → ((∀ k : Nat, k < 51 → s.poisoned .coefPend (64 * n + k) = false)) →
      ∃ u, Yields (.laneCoefCommit ini n w) s u ∧
        u.get (F.LANE_COEF_CTRL_XFADE n) = bits w 2 1 ∧
        (u.laneAt n).commit = .idle ∧
        u.on (F.LANE_COEF_STATUS_BUSY n) = false ∧
        (s.unstableStage n = none → (u.laneAt n).chain.new.words = s.pendingSet n ∧ (u.laneAt n).chain.len = 0 ∧ u.get (F.LANE_COEF_STATUS_COMMITS n) = min (s.get (F.LANE_COEF_STATUS_COMMITS n) + 1) 0xFFFF ∧ u.on (F.PG_IRQ (pgLANE n) 6) = true ∧ u.on (F.LANE_COEF_STATUS_POISON n) = false ∧ u.on (F.LANE_COEF_STATUS_LOST n) = false) ∧
        (∀ k : Nat, k < 10 → s.unstableStage n = some k → u.get (F.LANE_COEF_STATUS_ERR n) = 1 ∧ u.get (F.LANE_COEF_STATUS_ERR_CAUSE n) = 1 ∧ u.get (F.LANE_COEF_STATUS_ERR_STAGE n) = k ∧ u.on (F.PG_IRQ (pgLANE n) 7) = true ∧ (u.laneAt n).chain = (s.laneAt n).chain) ∧
        Touches [.lanes, .poison] [] (F.LANE_COEF_CTRL_XFADE n :: whole (A.LANE_COEF_STATUS n) :: F.PG_IRQ (pgLANE n) 6 :: F.PG_IRQ (pgLANE n) 7 :: F.PG_FAULT (pgLANE n) :: laneStatusFlds n) s u) ∧
  (∀ (ini : Fin 5) (n : Fin 48) (w : Word) (s : State), 
      s.mayWrite ini (A.LANE_COEF_CTRL n) (w ||| 0x1#32) = true → (s.laneAt n).phase = .running → s.engRuns = true → s.get (F.LANE_COEF_CTRL_XFADE n) = bits w 2 1 → (s.laneAt n).eff.coef = s.reg (A.LANE_COEF_CTRL n) &&& 4#32 →
      ∃ u, Yields (.laneCoefCommit ini n w) s u ∧
        ((s.laneAt n).commit = .idle → (u.laneAt n).commit = .atFrame ∧ u.on (F.LANE_COEF_STATUS_BUSY n) = true) ∧
        ((s.laneAt n).commit ≠ .idle → (u.laneAt n).commit = (s.laneAt n).commit ∧ (u.laneAt n).held = true) ∧
        (u.laneAt n).chain = (s.laneAt n).chain ∧
        Touches [.lanes] [] (laneStatusFlds n) s u) ∧
  (∀ (ini : Fin 5) (n : Fin 48) (w : Word) (s : State), 
      s.mayWrite ini (A.LANE_DELAY n) w = true → s.laneIdle n = true →
      ∃ u, Yields (.laneDelayWrite ini n w) s u ∧
        (delayBlocks (bits w 0 16) ≤ s.get (F.LANE_DELAY_EXT_BLOCKS n) + s.poolFree → u.get (F.LANE_DELAY_FRAMES n) = bits w 0 16 ∧ u.get (F.LANE_DELAY_STATUS_FRAMES_NOW n) = bits w 0 16 ∧ bits (u.laneAt n).eff.delay 0 16 = bits w 0 16) ∧
        (s.get (F.LANE_DELAY_EXT_BLOCKS n) + s.poolFree < delayBlocks (bits w 0 16) → u.get (F.LANE_DELAY_FRAMES n) = s.get (F.LANE_DELAY_FRAMES n) ∧ u.get (F.LANE_FLAGS_POOL_ERR n) = 1) ∧
        Touches [.lanes] [] (F.LANE_DELAY_FRAMES n :: F.LANE_DELAY_STATUS_FRAMES_NOW n :: F.LANE_FLAGS_POOL_ERR n :: laneStatusFlds n) s u) ∧
  (∀ (ini : Fin 5) (n : Fin 48) (w : Word) (s : State), 
      s.mayWrite ini (A.LANE_DELAY n) w = true → s.laneIdle n = false → (bits (s.laneAt n).eff.delay 0 16 ≠ 0 ∨ bits w 0 16 = 0) →
      ∃ u, Yields (.laneDelayWrite ini n w) s u ∧
        ((max (delayBlocks (bits w 0 16)) (if (s.laneAt n).phase = .alloc ∨ (s.laneAt n).phase = .poolWait then 0 else ((s.laneAt n).tap.sides.map delayBlocks).foldl max 0)) ≤ s.get (F.LANE_DELAY_EXT_BLOCKS n) + s.poolFree → u.get (F.LANE_DELAY_FRAMES n) = bits w 0 16 ∧ bits (u.laneAt n).eff.delay 0 16 = bits w 0 16) ∧
        ((∀ k : Nat, k < 48 → (s.laneAt k).phase ≠ .poolWait) → (max (delayBlocks (bits w 0 16)) (if (s.laneAt n).phase = .alloc ∨ (s.laneAt n).phase = .poolWait then 0 else ((s.laneAt n).tap.sides.map delayBlocks).foldl max 0)) ≤ s.get (F.LANE_DELAY_EXT_BLOCKS n) + s.poolFree → u.get (F.LANE_DELAY_EXT_BLOCKS n) = (max (delayBlocks (bits w 0 16)) (if (s.laneAt n).phase = .alloc ∨ (s.laneAt n).phase = .poolWait then 0 else ((s.laneAt n).tap.sides.map delayBlocks).foldl max 0)) % 256 ∧ u.poolFree + (max (delayBlocks (bits w 0 16)) (if (s.laneAt n).phase = .alloc ∨ (s.laneAt n).phase = .poolWait then 0 else ((s.laneAt n).tap.sides.map delayBlocks).foldl max 0)) = s.poolFree + s.get (F.LANE_DELAY_EXT_BLOCKS n)) ∧
        ((max (delayBlocks (bits w 0 16)) (if (s.laneAt n).phase = .alloc ∨ (s.laneAt n).phase = .poolWait then 0 else ((s.laneAt n).tap.sides.map delayBlocks).foldl max 0)) ≤ s.get (F.LANE_DELAY_EXT_BLOCKS n) + s.poolFree → (s.laneAt n).eff.delay ≠ BitVec.ofNat 32 (bits w 0 16) → u.on (F.LANE_DELAY_STATUS_XFADE_NOW n) = true ∧ (u.laneAt n).tap.new = bits w 0 16 ∧ (u.laneAt n).tap.len = s.frames 10000) ∧
        (s.get (F.LANE_DELAY_EXT_BLOCKS n) + s.poolFree < delayBlocks (bits w 0 16) → u.get (F.LANE_DELAY_FRAMES n) = s.get (F.LANE_DELAY_FRAMES n) ∧ u.get (F.LANE_FLAGS_POOL_ERR n) = 1 ∧ u.lanes = s.lanes) ∧
        Touches [.lanes, .poolFree] (if (List.range 48).any (fun k => decide ((s.laneAt k).phase = .poolWait)) then (List.range 48).map (· + 0x30) else []) (whole (A.LANE_DELAY n) :: F.LANE_DELAY_STATUS_XFADE_NOW n :: F.LANE_FLAGS_POOL_ERR n :: laneStatusFlds n) s u) ∧
  (∀ (ini : Fin 5) (n : Fin 48) (w : Word) (s : State), 
      s.mayWrite ini (A.LANE_METER_CTRL n) w = true → bits w 2 1 = 0 →
      ∃ u, Yields (.laneMeterWinWrite ini n w) s u ∧
        u.get (F.LANE_METER_CTRL_WIN n) = bits w 0 2 ∧
        Touches [] [] [F.LANE_METER_CTRL_WIN n] s u) ∧
  (∀ (ini : Fin 5) (n : Fin 48) (w : Word) (s : State), 
      s.mayWrite ini (A.LANE_METER_CTRL n) (w ||| 0x4#32) = true →
      ∃ u, Yields (.laneClrHold ini n w) s u ∧
        signed 16 (u.get (F.LANE_METER_HOLD_PEAK_IN n)) = -15000 ∧
        signed 16 (u.get (F.LANE_METER_HOLD_PEAK_OUT n)) = -15000 ∧
        Touches [] [] [F.LANE_METER_CTRL_WIN n, whole (A.LANE_METER_HOLD n)] s u) ∧
  (∀ (ini : Fin 5) (n : Fin 48) (w : Word) (s : State), 
      s.mayWrite ini (A.LANE_CNT_CLR n) (w ||| 0x1#32) = true →
      ∃ u, Yields (.laneCntClr ini n w) s u ∧
        u.get (F.LANE_COUNT_SLIPS n) = 0 ∧
        u.get (F.LANE_COUNT_GLITCHES n) = 0 ∧
        u.get (F.LANE_COUNT2_RELOCKS n) = 0 ∧
        u.get (F.LANE_COUNT2_POISON_SAMPLES n) = 0 ∧
        Touches [] [] [whole (A.LANE_COUNT n), whole (A.LANE_COUNT2 n)] s u)

/-- While the engine island is clocked. LANE_START at the allocation, with a delay of at most 1,535 frames and no lane waiting for the pool: within the capacity, a lane whose tracker is not LOCKED waits for its source, and a bypassed or silent one fills with no frames to wait, the blocks it held back in the pool; beyond it a bypassed or silent one waits in WAIT_CAP. LANE_RUNNING at the end of the start ramp: the event gain is 1, STATE is RUNNING, MUTED or FAULT, and READY is raised. LANE_CAP_ADMIT starts a waiting, enabled lane that fits. LANE_COMMIT_DONE ends a coefficient crossfade: the new chain alone sounds, COMMITS counts, COMMIT_DONE is raised, and a held commit goes on. LANE_DELAY_XFADE_END, with no lane waiting for the pool: the new delay alone sounds, FRAMES_NOW shows it, and blocks no longer needed go back to the pool. Each with its frame. -/
def Obligations.LaneEvents : Prop :=
  (∀ (n : Fin 48) (s : State), 
      s.clocked .engine = true → (s.laneAt n).phase = .alloc →
      ∃ u, Yields (.laneStart n) s u ∧
        ((s.laneAt n).kind = .tracked → s.trkState (s.laneAt n).dom ≠ 2 → s.laneLoad ≤ s.laneRoom → (∀ k : Nat, k < 48 → (s.laneAt k).phase ≠ .poolWait) → bits (s.laneAt n).eff.delay 0 16 ≤ 1535 → (u.laneAt n).phase = .waitSrc ∧ u.poolFree = s.poolFree + s.get (F.LANE_POOL_RC_BLOCKS n) + s.get (F.LANE_DELAY_EXT_BLOCKS n)) ∧
        ((s.laneAt n).kind = .bypass ∨ (s.laneAt n).kind = .zero → s.laneLoad ≤ s.laneRoom → (∀ k : Nat, k < 48 → (s.laneAt k).phase ≠ .poolWait) → bits (s.laneAt n).eff.delay 0 16 ≤ 1535 → (u.laneAt n).phase = .filling ∧ (u.laneAt n).fill = 0 ∧ u.get (F.LANE_STATUS_RC_MARGIN_NOW n) = s.get (F.LANE_RC_MARGIN n) ∧ u.poolFree = s.poolFree + s.get (F.LANE_POOL_RC_BLOCKS n) + s.get (F.LANE_DELAY_EXT_BLOCKS n)) ∧
        ((s.laneAt n).kind = .bypass ∨ (s.laneAt n).kind = .zero → bits (s.laneAt n).eff.delay 0 16 ≤ 1535 → s.laneRoom < s.laneLoad → (∀ k : Nat, k < 48 → (s.laneAt k).phase ≠ .poolWait) → (u.laneAt n).phase = .waitCap) ∧
        Touches [.lanes, .poolFree] (if (List.range 48).any (fun k => decide ((s.laneAt k).phase = .poolWait)) then (List.range 48).map (· + 0x30) else [pgLANE n]) [] s u) ∧
  (∀ (n : Fin 48) (s : State), 
      s.clocked .engine = true → (s.laneAt n).phase = .rampUp → (s.laneAt n).ev = .none →
      ∃ u, Yields (.laneRunning n) s u ∧
        (u.laneAt n).phase = .running ∧
        (u.laneAt n).event = .at1 ∧
        u.on (F.PG_IRQ (pgLANE n) 2) = true ∧
        (u.get (F.LANE_STATUS_STATE n) = if s.on (F.LANE_COEF_STATUS_POISON n) || s.on (F.LANE_COEF_STATUS_LOST n) then 7 else if s.on (F.LANE_CTRL_MUTE n) then 4 else 3) ∧
        Touches [.lanes] [] (F.PG_IRQ (pgLANE n) 2 :: laneStatusFlds n) s u) ∧
  (∀ (n : Fin 48) (s : State), 
      s.clocked .engine = true → (s.laneAt n).phase = .waitCap → s.on (F.PG_ENABLE (pgLANE n)) = true → (s.laneAt n).eff = s.laneWords n → s.laneFits (s.laneStartCost n (s.laneStop n)) = true → (s.laneAt n).commit = .idle →
      ∃ u, Yields (.laneCapAdmit n) s u ∧
        (u.laneAt n).phase = .alloc ∧
        (u.get (F.LANE_STATUS_STATE n) = if s.on (F.LANE_COEF_STATUS_POISON n) = true ∨ s.on (F.LANE_COEF_STATUS_LOST n) = true then 7 else 2) ∧
        (u.laneAt n).event = .at0 ∧
        Touches [.lanes] [pgLANE n] [] s u) ∧
  (∀ (n : Fin 48) (s : State), 
      s.clocked .engine = true → (s.laneAt n).commit = .xfade →
      ∃ u, Yields (.laneCommitDone n) s u ∧
        ((u.laneAt n).commit = (if (s.laneAt n).held then .atFrame else .idle)) ∧
        (u.laneAt n).held = false ∧
        (u.laneAt n).chain = .at (s.laneAt n).chain.new ∧
        u.get (F.LANE_COEF_STATUS_COMMITS n) = min (s.get (F.LANE_COEF_STATUS_COMMITS n) + 1) 0xFFFF ∧
        u.on (F.PG_IRQ (pgLANE n) 6) = true ∧
        u.on (F.LANE_COEF_STATUS_BUSY n) = (s.laneAt n).held ∧
        Touches [.lanes] [] (F.PG_IRQ (pgLANE n) 6 :: F.LANE_COEF_STATUS_COMMITS n :: laneStatusFlds n) s u) ∧
  (∀ (n : Fin 48) (s : State), 
      s.clocked .engine = true → s.on (F.LANE_DELAY_STATUS_XFADE_NOW n) = true → ((∀ m : Nat, m < 48 → (s.laneAt m).phase ≠ .poolWait)) → delayBlocks (s.laneAt n).tap.new ≤ s.get (F.LANE_DELAY_EXT_BLOCKS n) → delayBlocks (s.get (F.LANE_DELAY_FRAMES n)) ≤ delayBlocks (s.laneAt n).tap.new →
      ∃ u, Yields (.laneDelayXfadeEnd n) s u ∧
        u.on (F.LANE_DELAY_STATUS_XFADE_NOW n) = false ∧
        u.get (F.LANE_DELAY_STATUS_FRAMES_NOW n) = (s.laneAt n).tap.new % 0x10000 ∧
        (u.laneAt n).tap = .at (s.laneAt n).tap.new ∧
        u.get (F.LANE_DELAY_EXT_BLOCKS n) = delayBlocks (s.laneAt n).tap.new ∧
        u.poolFree + u.get (F.LANE_DELAY_EXT_BLOCKS n) = s.poolFree + s.get (F.LANE_DELAY_EXT_BLOCKS n) ∧
        Touches [.lanes, .poolFree] [] [whole (A.LANE_DELAY_STATUS n), F.LANE_DELAY_EXT_BLOCKS n] s u)

/-- For a word the initiator may write. CHN_COMMIT sets BUSY; HELD while the engine does not run; CAP_WAIT while it runs and the commit's cost exceeds the capacity, with CAP_WAIT's interrupt as it rises; no table changes. CHN_COMMIT_COPY of a waiting commit that fits, or with the engine stopped, and with no poisoned pending entry: the 3,072 crosspoints, 174 sinks and 16 taps become the pending ones, BUSY, HELD, CAP_WAIT and FAULT clear, COMMITS counts, COMMIT_FRAME is the present frame, COMMIT_DONE is raised; with the engine stopped each changed crosspoint stands at its new gain at once. CHN_REVERT with neither COMMIT nor CLR_COUNTS: with no commit waiting and no poisoned active entry the pending tables become the active ones; while BUSY the pending crosspoints stay; the active sinks stay. CHN_CLR_COUNTS clears both counts and leaves the last poisoned entry. Each with its frame. -/
def Obligations.ChurnTables : Prop :=
  (∀ (ini : Fin 5) (w : Word) (s : State), 
      s.mayWrite ini A.CHN_CTRL (w ||| 0x1#32) = true →
      ∃ u, Yields (.chnCommit ini w) s u ∧
        u.on F.CHN_STATUS_BUSY = true ∧
        u.on F.CHN_STATUS_HELD = !s.engRuns ∧
        u.on F.CHN_STATUS_CAP_WAIT = (s.engRuns && decide (s.chnCap s.opNow < s.chnCostNew)) ∧
        (u.on F.CHN_STATUS_CAP_WAIT = true → s.on F.CHN_STATUS_CAP_WAIT = false → u.on (F.PG_IRQ 0x0F 7) = true) ∧
        Touches [] [] [F.CHN_STATUS_BUSY, F.CHN_STATUS_HELD, F.CHN_STATUS_CAP_WAIT, F.PG_IRQ 0x0F 7, F.CHN_SAT_COUNT_COUNT, F.CHN_POISON_COUNT] s u) ∧
  (∀ (s : State), 
      s.on F.CHN_STATUS_BUSY = true → s.frozen = false → s.islandOn .engine = true → (s.engRuns = false ∨ s.chnCostNew ≤ s.chnCap s.opNow) → ((∀ e ∈ s.poison, e.2.kind ≠ .xpPend)) →
      ∃ u, Yields .chnCommitCopy s u ∧
        (∀ i : Nat, i < 3072 → u.xpActAt i = s.xpPendAt i) ∧
        (∀ i : Nat, i < 174 → u.sinkAt i = s.reg (A.CHN_SINK i)) ∧
        (∀ t : Nat, t < 16 → u.tapAt t = s.get (F.CHN_TAP_TAP (t / 4) (t % 4))) ∧
        u.xpPend = s.xpPend ∧
        u.on F.CHN_STATUS_BUSY = false ∧
        u.on F.CHN_STATUS_HELD = false ∧
        u.on F.CHN_STATUS_CAP_WAIT = false ∧
        u.get F.CHN_STATUS_COMMITS = min (s.get F.CHN_STATUS_COMMITS + 1) 0xFFFF ∧
        u.get F.CHN_COMMIT_FRAME_FRAME = s.get F.CHN_FRAME_NOW_FRAME ∧
        u.get (F.PG_FAULT 0x0F) = 0 ∧
        u.on (F.PG_IRQ 0x0F 2) = true ∧
        (s.engRuns = false → ∀ i : Nat, i < 3072 → s.xpPendAt i ≠ s.xpActAt i → u.xpNow i = ⟨DbRamp.at (xpCode (s.xpPendAt i)), xpInv (s.xpPendAt i), none⟩) ∧
        Touches [.xpAct, .xpRamp, .sinkAct, .sinkFade, .tapFade, .poison] [] ([F.CHN_STATUS_BUSY, F.CHN_STATUS_HELD, F.CHN_STATUS_CAP_WAIT, F.CHN_STATUS_COMMITS, F.CHN_STATUS_RAMPING, F.CHN_STATUS_SINK_XFADE, whole A.CHN_COMMIT_FRAME, whole A.CHN_LOAD, F.PG_FAULT 0x0F, F.PG_IRQ 0x0F 2, F.PG_IRQ 0x0F 7] ++ (List.range 4).map (fun k => whole (A.CHN_TAP_ACTIVE k))) s u) ∧
  (∀ (ini : Fin 5) (w : Word) (s : State), 
      s.mayWrite ini A.CHN_CTRL (w ||| 0x2#32) = true → bits w 0 1 = 0 → bits w 2 1 = 0 →
      ∃ u, Yields (.chnRevert ini w) s u ∧
        (s.on F.CHN_STATUS_BUSY = true → u.xpPend = s.xpPend) ∧
        (s.on F.CHN_STATUS_BUSY = false → (∀ e ∈ s.poison, e.2.kind ≠ .xpAct) → u.xpPend = s.xpAct) ∧
        (s.on F.CHN_STATUS_BUSY = false → ∀ i : Nat, i < 174 → u.reg (A.CHN_SINK i) = s.sinkAt i) ∧
        (s.on F.CHN_STATUS_BUSY = false → ∀ t : Nat, t < 16 → u.get (F.CHN_TAP_TAP (t / 4) (t % 4)) = s.tapAt t) ∧
        (∀ i : Nat, i < 174 → u.sinkAt i = s.sinkAt i) ∧
        Touches [.xpPend, .xpAct, .xpRamp, .poison] [0x0F] [] s u) ∧
  (∀ (ini : Fin 5) (w : Word) (s : State), 
      s.mayWrite ini A.CHN_CTRL (w ||| 0x4#32) = true → bits w 0 2 = 0 →
      ∃ u, Yields (.chnClrCounts ini w) s u ∧
        u.get F.CHN_SAT_COUNT_COUNT = 0 ∧
        u.get F.CHN_POISON_COUNT = 0 ∧
        u.get F.CHN_POISON_LAST_ENTRY = s.get F.CHN_POISON_LAST_ENTRY ∧
        Touches [] [] [F.CHN_SAT_COUNT_COUNT, F.CHN_POISON_COUNT] s u)

/-- FIF_COMMIT, for a word the initiator may write, makes every pending gain its route's target, holds STEP, and moves no applied gain (R216). FIF_GAIN_STEP while the analogue-output island is clocked: each of the 128 applied gain codes moves by one towards its goal, which is its target while the conditions of R217 hold and mute (code 63) while they do not, and one at its goal stays. Each with its frame: beside these the FIF page's status and interrupts alone change. -/
def Obligations.FifePath : Prop :=
  (∀ (ini : Fin 5) (w : Word) (s : State), 
      s.mayWrite ini A.FIF_CTRL (w ||| 0x1#32) = true →
      ∃ u, Yields (.fifCommit ini w) s u ∧
        u.get F.FIF_CTRL_STEP = bits w 4 2 ∧
        (∀ c : Nat, c < 8 → ∀ n : Nat, n < 16 → u.fifGoal c n = s.get (F.FIF_GAIN_G (4 * c + n / 4) (n % 4))) ∧
        (∀ c : Nat, c < 8 → ∀ n : Nat, n < 16 → u.fifNow c n = s.fifNow c n) ∧
        Touches [.fifTarget] [] [F.FIF_CTRL_STEP, whole A.FIF_STATUS, whole A.FIF_SRC_LIVE, F.PG_IRQ 0x0E 2, F.PG_IRQ 0x0E 3] s u) ∧
  (∀ (s : State), 
      s.clocked .aout = true →
      ∃ u, Yields .fifGainStep s u ∧
        (∀ c : Nat, c < 8 → ∀ n : Nat, n < 16 → s.fifNow c n < s.fifWant c n → s.fifWant c n ≤ 63 → u.fifNow c n = s.fifNow c n + 1) ∧
        (∀ c : Nat, c < 8 → ∀ n : Nat, n < 16 → s.fifWant c n < s.fifNow c n → u.fifNow c n + 1 = s.fifNow c n) ∧
        (∀ c : Nat, c < 8 → ∀ n : Nat, n < 16 → s.fifNow c n = s.fifWant c n → u.fifNow c n = s.fifNow c n) ∧
        Touches [] [] ([whole A.FIF_STATUS, whole A.FIF_SRC_LIVE, F.PG_IRQ 0x0E 2, F.PG_IRQ 0x0E 3] ++ (List.range 32).map (fun w => whole (A.FIF_GAIN_NOW w))) s u)

/-- While the engine island is clocked. ENGINE_FRAME with the engine running: CHN_FRAME_NOW counts by one modulo 2^32, every bus value lies in the signed 32-bit range, and with no crosspoint enabled or ramping every bus carries zero. With the engine not running, CHN_FRAME_NOW, the buses and the active crosspoints stay. In both cases the frame leaves alone the queue, the power state machine, the memory state, the SMBus and regulator links, the life cycle, JTAG and loader, and every register page but those of the audio blocks, the Bellows, clock, memory, maintenance and USB pages. LANE_METER_WINDOW_END on a live lane: both meters start an empty window of the length WIN names; the input's peak and the output's rms are at least -150 dBFS, a silent input shows exactly that, and the held input peak is the larger of itself and the new one. -/
def Obligations.EngineFrame : Prop :=
  (∀ (inputs : List (Nat × Int)) (residues : List (Nat × Nat × Bool)) (s : State), 
      s.clocked .engine = true → s.engRuns = true →
      ∃ u, Yields (.engineFrame inputs residues) s u ∧
        u.get F.CHN_FRAME_NOW_FRAME = (s.get F.CHN_FRAME_NOW_FRAME + 1) % 2 ^ 32 ∧
        (∀ b : Nat, b < 48 → -(2 ^ 31) ≤ vget u.bus b 0 ∧ vget u.bus b 0 < 2 ^ 31) ∧
        (s.xpAct = [] → s.xpRamp = [] → ∀ b : Nat, b < 48 → vget u.bus b 0 = 0) ∧
        Touches (audioParts ++ jobParts ++ ([.free, .trk, .mains, .tko, .opHeld, .opNext, .usb, .mac, .otp] : List Part)) (audioPages ++ [0x02, 0x03, 0x04, 0x06, 0x0A]) [] s u) ∧
  (∀ (inputs : List (Nat × Int)) (residues : List (Nat × Nat × Bool)) (s : State), 
      s.clocked .engine = true → (s.opFlush true).engRuns = false →
      ∃ u, Yields (.engineFrame inputs residues) s u ∧
        u.get F.CHN_FRAME_NOW_FRAME = s.get F.CHN_FRAME_NOW_FRAME ∧
        u.bus = s.bus ∧
        u.xpAct = s.xpAct ∧
        Touches (audioParts ++ jobParts ++ ([.free, .trk, .mains, .tko, .opHeld, .opNext, .usb, .mac, .otp] : List Part)) (audioPages ++ [0x02, 0x03, 0x04, 0x06, 0x0A]) [] s u) ∧
  (∀ (n : Fin 48) (s : State), 
      s.clocked .engine = true → (s.laneAt n).phase.live = true →
      ∃ u, Yields (.laneMeterWindowEnd n) s u ∧
        (u.laneAt n).meterIn = ⟨0, 0, 0⟩ ∧
        (u.laneAt n).meterOut = ⟨0, 0, 0⟩ ∧
        (u.laneAt n).win = s.get (F.LANE_METER_CTRL_WIN n) ∧
        -15000 ≤ signed 16 (u.get (F.LANE_METER_IN_PEAK n)) ∧
        -15000 ≤ signed 16 (u.get (F.LANE_METER_OUT_RMS n)) ∧
        ((s.laneAt n).meterIn.peak = 0 → signed 16 (u.get (F.LANE_METER_IN_PEAK n)) = -15000) ∧
        signed 16 (u.get (F.LANE_METER_HOLD_PEAK_IN n)) = max (signed 16 (s.get (F.LANE_METER_HOLD_PEAK_IN n))) (signed 16 (u.get (F.LANE_METER_IN_PEAK n))) ∧
        Touches [.lanes, .free] [] [whole (A.LANE_METER_IN n), whole (A.LANE_METER_OUT n), whole (A.LANE_METER_HOLD n)] s u)

/-- For a word the initiator may write. SAP_ENABLE_WRITE on an OFF port, its island on: FMT, MASTER and PACK are taken; a master beyond 49.152 MHz goes to FAULT with CFG_ERR, fault 0x01 and its interrupt, a legal one to STARTING or WAIT_CLK by its PLL with BCLK_HZ, a slave to STARTING in domain 4+p; ENABLE 0 on a running port ramps one with frames down, takes one without to OFF, and resets a slave's tracker. SAP_RECONFIG_WRITE on a running port with frames: the fields are held; a word that changes nothing leaves the ports alone; a master whose FMT changes ramps down with the format in use unchanged; a slave made a master beyond the limit is in FAULT. SAP_MASK_WRITE: taken at once in OFF, else held with MASK_PENDING. SAP_IDLE_HIZ_WRITE with MASTER unchanged holds IDLE_HIZ and leaves the ports. SAP_MCLK_WRITE with a legal DIV: outside a freeze RUNNING then reads by its source in RUN with the clocks on, else 0. SAP_CNT_CLR clears the counters. Each with its frame. -/
def Obligations.PortWrites : Prop :=
  (∀ (ini : Fin 5) (p : Fin 8) (w : Word) (s : State), 
      s.mayWrite ini (pgSAP p * 0x400 + 4) w = true → s.islandOn .ports = true → s.get (F.PG_ENABLE (pgSAP p)) = 0 → bits w 0 1 = 1 → bits w 2 1 = 0 → (s.sapAt p).phase = .off →
      ∃ u, Yields (.sapEnableWrite ini p w) s u ∧
        u.on (F.PG_ENABLE (pgSAP p)) = true ∧
        (u.sapAt p).fmt = s.reg (A.SAP_FMT p) ∧
        (u.sapAt p).master = s.on (F.SAP_CTRL_MASTER p) ∧
        (u.sapAt p).pack = s.get (F.SAP_CTRL_PACK p) ∧
        (s.on (F.SAP_CTRL_MASTER p) = true → 49152000 < fmtBclk (s.reg (A.SAP_FMT p)) → (u.sapAt p).phase = .fault ∧ u.get (F.SAP_STATUS_STATE p) = 6 ∧ u.get (F.SAP_FLAGS_CFG_ERR p) = 1 ∧ u.get (F.PG_FAULT (pgSAP p)) = 1 ∧ u.on (F.PG_IRQ (pgSAP p) 5) = true) ∧
        (s.on (F.SAP_CTRL_MASTER p) = true → fmtBclk (s.reg (A.SAP_FMT p)) ≤ 49152000 → u.get (F.SAP_STATUS_STATE p) = (if s.famUp (rateFamily (fmtRate (s.reg (A.SAP_FMT p)))) then 2 else 1) ∧ u.get (F.SAP_BCLK_HZ p) = fmtBclk (s.reg (A.SAP_FMT p)) ∧ u.get (F.PG_FAULT (pgSAP p)) ≠ 1) ∧
        (s.on (F.SAP_CTRL_MASTER p) = false → u.get (F.SAP_STATUS_STATE p) = 2 ∧ u.get (F.SAP_STATUS_DOMAIN p) = 4 + p ∧ u.get (F.SAP_BCLK_HZ p) = 0) ∧
        Touches [.sap, .trk] [pgSAP p] [whole (A.CLK_FDIV p)] s u) ∧
  (∀ (ini : Fin 5) (p : Fin 8) (w : Word) (s : State), 
      s.mayWrite ini (pgSAP p * 0x400 + 4) w = true → s.on (F.PG_ENABLE (pgSAP p)) = true → bits w 0 1 = 0 → bits w 2 1 = 0 → (s.sapAt p).phase = .running →
      ∃ u, Yields (.sapEnableWrite ini p w) s u ∧
        u.get (F.PG_ENABLE (pgSAP p)) = 0 ∧
        (s.sapFrames p = true → (u.sapAt p).phase = .rampStop ∧ (u.sapAt p).fade.up = false ∧ u.get (F.SAP_STATUS_STATE p) = 3) ∧
        (s.sapFrames p = false → (u.sapAt p).phase = .off ∧ (u.sapAt p).dout = [] ∧ u.get (F.SAP_STATUS_STATE p) = 0) ∧
        ((s.sapAt p).master = false → u.get (F.CLK_TRK_STATUS_STATE (2 + p)) = 0 ∧ u.reg (A.CLK_TRK_COUNT (2 + p)) = s.reg (A.CLK_TRK_COUNT (2 + p))) ∧
        Touches [.sap, .trk, .lanes] (pgSAP p :: (List.range 48).map (· + 0x30)) (whole (A.CLK_FDIV p) :: trkFlds (2 + p)) s u) ∧
  (∀ (ini : Fin 5) (p : Fin 8) (ctrl : Bool) (w : Word) (s : State), 
      s.mayWrite ini (if ctrl then A.SAP_CTRL p else A.SAP_FMT p) w = true → (s.sapAt p).phase = .running → s.sapFrames p = true →
      ∃ u, Yields (.sapReconfigWrite ini p ctrl w) s u ∧
        (ctrl = true → u.get (F.SAP_CTRL_MASTER p) = bits w 0 1 ∧ u.get (F.SAP_CTRL_RX_EN p) = bits w 1 1 ∧ u.get (F.SAP_CTRL_TX_EN p) = bits w 2 1 ∧ u.get (F.SAP_CTRL_PACK p) = bits w 4 1) ∧
        (ctrl = false → u.get (F.SAP_FMT_RATE p) = bits w 16 4 ∧ u.get (F.SAP_FMT_SLOTS p) = bits w 12 4 ∧ u.get (F.SAP_FMT_FORMAT p) = bits w 0 2) ∧
        (ctrl = true → bits w 0 1 = s.get (F.SAP_CTRL_MASTER p) → u.sap = s.sap) ∧
        (ctrl = false → u.reg (A.SAP_FMT p) = s.reg (A.SAP_FMT p) → u.sap = s.sap) ∧
        (ctrl = false → (s.sapAt p).master = true → u.reg (A.SAP_FMT p) ≠ s.reg (A.SAP_FMT p) → (u.sapAt p).phase = .rampReconf ∧ (u.sapAt p).fade.up = false ∧ (u.sapAt p).fmt = (s.sapAt p).fmt) ∧
        (ctrl = true → bits w 0 1 = 1 → s.get (F.SAP_CTRL_MASTER p) = 0 → (s.sapAt p).master = false → 49152000 < fmtBclk (s.reg (A.SAP_FMT p)) → u.get (F.SAP_STATUS_STATE p) = 6 ∧ u.get (F.PG_FAULT (pgSAP p)) = 1 ∧ u.get (F.SAP_FLAGS_CFG_ERR p) = 1) ∧
        Touches [.sap, .trk, .lanes] (pgSAP p :: (List.range 48).map (· + 0x30)) (whole (A.CLK_FDIV p) :: trkFlds (2 + p)) s u) ∧
  (∀ (ini : Fin 5) (p : Fin 8) (rx : Bool) (w : Word) (s : State), 
      s.mayWrite ini (if rx then A.SAP_SLOT_MASK_RX p else A.SAP_SLOT_MASK_TX p) w = true →
      ∃ u, Yields (.sapMaskWrite ini p rx w) s u ∧
        (rx = true → u.get (F.SAP_SLOT_MASK_RX_MASK p) = bits w 0 16) ∧
        (rx = false → u.get (F.SAP_SLOT_MASK_TX_MASK p) = bits w 0 16) ∧
        ((s.sapAt p).phase = .off → rx = true → (u.sapAt p).maskRx = bits w 0 16 ∧ u.get (F.SAP_STATUS_MASK_PENDING p) = 0) ∧
        ((s.sapAt p).phase = .off → rx = false → (u.sapAt p).maskTx = bits w 0 16) ∧
        ((s.sapAt p).phase ≠ .off → u.sap = s.sap ∧ u.get (F.SAP_STATUS_MASK_PENDING p) = 1) ∧
        Touches [.sap] [] [F.SAP_SLOT_MASK_RX_MASK p, F.SAP_SLOT_MASK_TX_MASK p, F.SAP_STATUS_MASK_PENDING p, F.PG_IRQ (pgSAP p) 4] s u) ∧
  (∀ (ini : Fin 5) (p : Fin 8) (w : Word) (s : State), 
      s.mayWrite ini (A.SAP_CTRL p) w = true → bits w 0 1 = s.get (F.SAP_CTRL_MASTER p) →
      ∃ u, Yields (.sapIdleHizWrite ini p w) s u ∧
        u.get (F.SAP_CTRL_IDLE_HIZ p) = bits w 3 1 ∧
        u.sap = s.sap ∧
        Touches [] [] [F.SAP_CTRL_IDLE_HIZ p, F.SAP_CTRL_PACK p, F.SAP_CTRL_TX_EN p, F.SAP_CTRL_RX_EN p] s u) ∧
  (∀ (ini : Fin 5) (p : Fin 4) (w : Word) (s : State), 
      s.mayWrite ini (A.SAP_MCLK p) w = true → (bits w 0 2 = 0 ∨ (bits w 0 2 = 3 ∧ 1 ≤ bits w 8 8) ∨ 8 ≤ bits w 8 8) →
      ∃ u, Yields (.sapMclkWrite ini p w) s u ∧
        u.get (F.SAP_MCLK_SRC p) = bits w 0 2 ∧
        (1 ≤ bits w 8 8 → u.get (F.SAP_MCLK_DIV p) = bits w 8 8) ∧
        (s.frozen = false → bits (u.peek (A.SAP_MCLK p)).1 (F.SAP_MCLK_RUNNING p).lo 1 = (decide (s.domState = 0) && !s.gated && (match bits w 0 2 with | 0 => false | 3 => s.on F.CLK_XTAL_STATUS_OK | f => s.famUp (f - 1))).toNat) ∧
        Touches [] [] [F.SAP_MCLK_SRC p, F.SAP_MCLK_DIV p] s u) ∧
  (∀ (ini : Fin 5) (p : Fin 8) (w : Word) (s : State), 
      s.mayWrite ini (A.SAP_CNT_CLR p) (w ||| 0x1#32) = true →
      ∃ u, Yields (.sapCntClr ini p w) s u ∧
        u.reg (A.SAP_COUNT p) = 0 ∧
        u.reg (A.SAP_COUNT2 p) = 0 ∧
        Touches [] [] [whole (A.SAP_COUNT p), whole (A.SAP_COUNT2 p)] s u)

/-- While the ports' island is clocked. SAP_FRAME_EDGE of a RUNNING port at gain 1: with engine frames and room in the ring the ended frame enters it, each slot in 24 bits, zero where RX_EN, the mask, N or a short frame leaves it out; a full ring counts an overrun; with no engine frames nothing is kept, DOUT sends zeros and nothing is counted. A slave's BCLK_COUNT is reported, and a count other than N x W sets FRAME_ERR and counts. The new frame has N slots and N x W bits, with a master's FS at the level its format gives each bit period, and takes IDLE_HIZ. A STARTING master, or a slave with a LOCKED tracker, is RUNNING at the edge, raises RUNNING, and takes pending masks. SAP_MASK_APPLY takes both masks for the next frame start and raises MASK_APPLIED. SAP_QUIESCE_TIMEOUT on a port that completes its frame: QUIESCED. Each with its frame. -/
def Obligations.PortFrames : Prop :=
  (∀ (p : Fin 8) (bclks : Nat) (line : List Bool) (s : State), 
      s.clocked .ports = true → (s.sapAt p).phase = .running → (s.sapAt p).fade = .at1 →
      ∃ u, Yields (.sapFrameEdge p bclks line) s u ∧
        (s.engRuns = true → (s.sapAt p).rx.length < 16 → (u.sapAt p).rx = (s.sapAt p).rx ++ [(List.range 16).map (fun k => if s.on (F.SAP_CTRL_RX_EN p) ∧ bits (BitVec.ofNat 32 (s.sapAt p).maskFrame) k 1 = 1 ∧ k < fmtSlots (s.sapAt p).fmt ∧ ((s.sapAt p).master = true ∨ (k + 1) * fmtWidth (s.sapAt p).fmt ≤ bclks) then to24 (rxSample (fmtWidth (s.sapAt p).fmt) (slotIn (s.sapAt p).fmt line k)) else 0)]) ∧
        (s.engRuns = true → 16 ≤ (s.sapAt p).rx.length → u.get (F.SAP_FLAGS_RX_OVER p) = 1 ∧ (u.sapAt p).rx.length = (s.sapAt p).rx.length ∧ u.get (F.SAP_COUNT2_OVERRUNS p) = min (s.get (F.SAP_COUNT2_OVERRUNS p) + 1) 0xFFFF) ∧
        (s.engRuns = false → (u.sapAt p).rx = [] ∧ u.get (F.SAP_COUNT2_OVERRUNS p) = s.get (F.SAP_COUNT2_OVERRUNS p) ∧ u.get (F.SAP_COUNT_UNDERRUNS p) = s.get (F.SAP_COUNT_UNDERRUNS p) ∧ (∀ x ∈ (u.sapAt p).dout, x = some 0 ∨ x = none)) ∧
        ((s.sapAt p).master = false → u.get (F.SAP_MEAS_BCLK_COUNT p) = bclks % 2 ^ 16) ∧
        ((s.sapAt p).master = false → bclks ≠ fmtSlots (s.sapAt p).fmt * fmtWidth (s.sapAt p).fmt → u.get (F.SAP_FLAGS_FRAME_ERR p) = 1 ∧ u.get (F.SAP_COUNT_FRAME_ERRS p) = min (s.get (F.SAP_COUNT_FRAME_ERRS p) + 1) 0xFFFF) ∧
        ((s.sapAt p).master = false → bclks = fmtSlots (s.sapAt p).fmt * fmtWidth (s.sapAt p).fmt → u.get (F.SAP_COUNT_FRAME_ERRS p) = s.get (F.SAP_COUNT_FRAME_ERRS p)) ∧
        (u.sapAt p).dout.length = fmtSlots (s.sapAt p).fmt ∧
        (u.sapAt p).wire.length = fmtSlots (s.sapAt p).fmt * fmtWidth (s.sapAt p).fmt ∧
        (∀ k : Nat, k < 512 → ((u.sapAt p).wire.getD k ⟨none, none⟩).fs = if (s.sapAt p).master = true ∧ k < fmtSlots (s.sapAt p).fmt * fmtWidth (s.sapAt p).fmt then some (fsLevel (s.sapAt p).fmt k) else none) ∧
        (u.sapAt p).phase = .running ∧
        (u.sapAt p).idleHiz = s.on (F.SAP_CTRL_IDLE_HIZ p) ∧
        Touches [.sap] [] [F.SAP_MEAS_BCLK_COUNT p, F.SAP_COUNT_FRAME_ERRS p, F.SAP_COUNT_UNDERRUNS p, F.SAP_COUNT2_OVERRUNS p, F.SAP_FLAGS_FRAME_ERR p, F.SAP_FLAGS_TX_UNDER p, F.SAP_FLAGS_RX_OVER p, F.PG_IRQ (pgSAP p) 3] s u) ∧
  (∀ (p : Fin 8) (bclks : Nat) (line : List Bool) (s : State), 
      s.clocked .ports = true → (s.sapAt p).phase = .starting → ((s.sapAt p).master = true ∨ s.trkState (4 + p) = 2) →
      ∃ u, Yields (.sapFrameEdge p bclks line) s u ∧
        (u.sapAt p).phase = .running ∧
        u.get (F.SAP_STATUS_STATE p) = 3 ∧
        u.get (F.SAP_STATUS_TRK_STATE p) = 2 ∧
        u.on (F.PG_IRQ (pgSAP p) 2) = true ∧
        ((u.sapAt p).maskFrame = if s.on (F.SAP_STATUS_MASK_PENDING p) then s.get (F.SAP_SLOT_MASK_RX_MASK p) else (s.sapAt p).maskRx) ∧
        Touches [.sap] [pgSAP p] [whole (A.CLK_FDIV p)] s u) ∧
  (∀ (p : Fin 8) (s : State), 
      s.clocked .ports = true → s.on (F.SAP_STATUS_MASK_PENDING p) = true → (s.sapAt p).phase.frames = true →
      ∃ u, Yields (.sapMaskApply p) s u ∧
        (u.sapAt p).maskTx = s.get (F.SAP_SLOT_MASK_TX_MASK p) ∧
        (u.sapAt p).maskRx = s.get (F.SAP_SLOT_MASK_RX_MASK p) ∧
        (u.sapAt p).maskFrame = (s.sapAt p).maskFrame ∧
        u.get (F.SAP_STATUS_MASK_PENDING p) = 0 ∧
        u.on (F.PG_IRQ (pgSAP p) 4) = true ∧
        Touches [.sap] [] [F.SAP_STATUS_MASK_PENDING p, F.PG_IRQ (pgSAP p) 4] s u) ∧
  (∀ (p : Fin 8) (s : State), 
      s.clocked .ports = true → (s.sapAt p).phase = .quiescing →
      ∃ u, Yields (.sapQuiesceTimeout p) s u ∧
        (u.sapAt p).phase = .quiesced ∧
        u.get (F.SAP_STATUS_STATE p) = 5 ∧
        Touches [.sap, .pwr] [pgSAP p] [whole (A.CLK_FDIV p)] s u)

/-- PDM_GROUP_CHANGE on an enabled page with both groups RUNNING and neither taken for listening: the register is held, the clock in use stays; a group whose clock code, rate, filter or line selection changes ramps down in CHANGING, another stays as it is. PDM_GROUP_READY on a group in its fill or ramp: RUNNING at gain 1, READY. PDM_MIC_EN_WRITE: a microphone newly enabled in a running group begins its own fill and 1 ms ramp; the others are unmoved. PDM_MIC_ABSENT on an enabled microphone without privacy sets its bit with the interrupt and clears its RUNNING; PDM_MIC_PRESENT clears it with the interrupt and ramps it up over 5 ms. PDM_ENABLE_WRITE: cleared, both groups are OFF and no microphone runs; set with both OFF, listening OFF and its island on, each group with a clock settles or waits for its clock, and an illegal clock and rate set CFG_ERR and fault 0x01. Each with its frame. -/
def Obligations.PdmMicrophones : Prop :=
  (∀ (ini : Fin 5) (r : Fin 3) (w : Word) (s : State), 
      s.mayWrite ini (match r with | 0 => A.PDM_CLK_CTRL | 1 => A.PDM_LINE | 2 => A.PDM_FMT) w = true → s.on (F.PG_ENABLE 0x29) = true → s.on (F.PDM_LISTEN 0) = false → s.on (F.PDM_LISTEN 1) = false → (s.pdmAt 0).phase = .running → (s.pdmAt 1).phase = .running →
      ∃ u, Yields (.pdmGroupChange ini r w) s u ∧
        (r = 0 → u.get F.PDM_CLK_CTRL_FREQ0 = bits w 0 3 ∧ u.get F.PDM_CLK_CTRL_FREQ1 = bits w 4 3 ∧ u.get F.PDM_CLK_CTRL_SETTLE0 = bits w 8 8 ∧ u.get F.PDM_CLK_CTRL_SETTLE1 = bits w 16 8) ∧
        (r = 1 → u.get F.PDM_LINE_CLKSEL = bits w 0 8) ∧
        (r = 2 → u.get F.PDM_FMT_RATE0 = bits w 0 4 ∧ u.get F.PDM_FMT_RATE1 = bits w 8 4 ∧ u.get F.PDM_FMT_FILTER0 = bits w 4 2 ∧ u.get F.PDM_FMT_FILTER1 = bits w 12 2) ∧
        (∀ g : Nat, g < 2 → (u.pdmAt g).freq = (s.pdmAt g).freq ∧ (u.pdmAt g).rate = (s.pdmAt g).rate) ∧
        (∀ g : Nat, g < 2 → u.get (F.PDM_FREQ g) ≠ s.get (F.PDM_FREQ g) ∨ u.get (F.PDM_RATE g) ≠ s.get (F.PDM_RATE g) ∨ u.get (F.PDM_FILTER g) ≠ s.get (F.PDM_FILTER g) ∨ u.get F.PDM_LINE_CLKSEL ≠ s.get F.PDM_LINE_CLKSEL → (u.pdmAt g).phase = .changing ∧ (u.pdmAt g).fade.up = false ∧ u.get (F.PDM_STATE g) = 5) ∧
        (∀ g : Nat, g < 2 → u.get (F.PDM_FREQ g) = s.get (F.PDM_FREQ g) → u.get (F.PDM_RATE g) = s.get (F.PDM_RATE g) → u.get (F.PDM_FILTER g) = s.get (F.PDM_FILTER g) → u.get F.PDM_LINE_CLKSEL = s.get F.PDM_LINE_CLKSEL → u.pdmAt g = s.pdmAt g) ∧
        Touches [.pdm] [] (whole A.PDM_CLK_CTRL :: whole A.PDM_LINE :: whole A.PDM_FMT :: pdmStatusFlds) s u) ∧
  (∀ (g : Fin 2) (s : State), 
      s.clocked .listen = true → ((s.pdmAt g).phase = .rampUp ∨ (s.pdmAt g).phase = .filling) →
      ∃ u, Yields (.pdmGroupReady g) s u ∧
        (u.pdmAt g).phase = .running ∧
        (u.pdmAt g).fade = .at1 ∧
        u.get (F.PDM_STATE g) = 4 ∧
        u.on (F.PG_IRQ 0x29 (2 + g)) = true ∧
        Touches [.pdm] [] (F.PG_IRQ 0x29 (2 + g) :: pdmStatusFlds) s u) ∧
  (∀ (ini : Fin 5) (w : Word) (s : State), 
      s.mayWrite ini A.PDM_MIC_EN w = true →
      ∃ u, Yields (.pdmMicEnWrite ini w) s u ∧
        u.get F.PDM_MIC_EN_EN = bits w 0 16 ∧
        (∀ m : Nat, m < 16 → bits w m 1 = 1 → s.on (F.PDM_MIC m) = false → (s.pdmAt (s.micGroup m)).phase = .running ∨ (s.pdmAt (s.micGroup m)).phase = .rampUp → (u.micAt m).fill = fillCount (s.pdmAt (s.micGroup m)).filter ∧ (u.micAt m).fade = ⟨0, 1, true⟩ ∧ (u.micAt m).fadeUs = 1000) ∧
        (∀ m : Nat, m < 16 → s.on (F.PDM_MIC m) = true ∨ bits w m 1 = 0 ∨ ((s.pdmAt (s.micGroup m)).phase ≠ .running ∧ (s.pdmAt (s.micGroup m)).phase ≠ .rampUp) → u.micAt m = s.micAt m) ∧
        Touches [.mics] [] (F.PDM_MIC_EN_EN :: pdmStatusFlds) s u) ∧
  (∀ (m : Fin 16) (s : State), 
      s.clocked .listen = true → s.on (F.PDM_MIC m) = true → s.privacy = false → s.on (F.PDM_ABSENT m) = false →
      ∃ u, Yields (.pdmMicAbsent m) s u ∧
        u.on (F.PDM_ABSENT m) = true ∧
        u.on (F.PG_IRQ 0x29 4) = true ∧
        bits (u.reg A.PDM_MIC_STATUS) (16 + m) 1 = 0 ∧
        Touches [] [] (F.PDM_ABSENT m :: F.PG_IRQ 0x29 4 :: pdmStatusFlds) s u) ∧
  (∀ (m : Fin 16) (s : State), 
      s.clocked .listen = true → s.on (F.PDM_ABSENT m) = true →
      ∃ u, Yields (.pdmMicPresent m) s u ∧
        u.on (F.PDM_ABSENT m) = false ∧
        u.on (F.PG_IRQ 0x29 4) = true ∧
        (u.micAt m).fade = ⟨0, 1, true⟩ ∧
        (u.micAt m).fadeUs = 5000 ∧
        Touches [.mics] [] (F.PDM_ABSENT m :: F.PG_IRQ 0x29 4 :: pdmStatusFlds) s u) ∧
  (∀ (ini : Fin 5) (w : Word) (s : State), 
      s.mayWrite ini (0x29 * 0x400 + 4) w = true → s.on (F.PG_ENABLE 0x29) = true → bits w 0 1 = 0 → bits w 2 1 = 0 →
      ∃ u, Yields (.pdmEnableWrite ini w) s u ∧
        u.get (F.PG_ENABLE 0x29) = 0 ∧
        (∀ g : Nat, g < 2 → (u.pdmAt g).phase = .off ∧ (u.pdmAt g).fade = .at0 ∧ u.get (F.PDM_STATE g) = 0) ∧
        u.get F.PDM_MIC_STATUS_RUNNING = 0 ∧
        Touches [.pdm, .mics, .lst] [0x0C] (F.PG_ENABLE 0x29 :: F.PDM_LISTEN 0 :: F.PDM_LISTEN 1 :: pdmStatusFlds) s u) ∧
  (∀ (ini : Fin 5) (w : Word) (s : State), 
      s.mayWrite ini (0x29 * 0x400 + 4) w = true → s.get (F.PG_ENABLE 0x29) = 0 → bits w 0 1 = 1 → bits w 2 1 = 0 → s.islandOn .listen = true → (s.pdmAt 0).phase = .off → (s.pdmAt 1).phase = .off → s.on (F.PDM_LISTEN 0) = false → s.on (F.PDM_LISTEN 1) = false →
      ∃ u, Yields (.pdmEnableWrite ini w) s u ∧
        u.get (F.PG_ENABLE 0x29) = 1 ∧
        (s.lst.phase = .off → ∀ g : Nat, g < 2 → (u.pdmAt g).phase = if s.get (F.PDM_FREQ g) = 0 then .off else if s.pdmSource (s.get (F.PDM_FREQ g)) then .settling else .waitClk) ∧
        (s.lst.phase = .off → ∀ g : Nat, g < 2 → s.get (F.PDM_FREQ g) ≠ 0 → pdmValid (s.get (F.PDM_FREQ g)) (s.get (F.PDM_RATE g)) = false → u.get F.PDM_FLAGS_CFG_ERR = 1 ∧ u.get (F.PG_FAULT 0x29) = 1) ∧
        Touches [.pdm, .mics, .lst] [0x0C] (F.PDM_LISTEN 0 :: F.PDM_LISTEN 1 :: F.PG_ENABLE 0x29 :: F.PG_FAULT 0x29 :: F.PG_IRQ 0x29 1 :: F.PG_IRQ 0x29 6 :: F.PDM_FLAGS_CFG_ERR :: pdmStatusFlds) s u)

/-- While the ports' island is clocked, or for a word the initiator may write. SPDIF_RX_FRAME with the receiver on and no passthrough: a subframe with a parity or code error repeats its last sample, V is muted under VALID_MUTE, both are counted; a sync frame sets NONPCM with NONPCM_DET, else a first one sets SYNC_HOLD; held sources take zero while the engine runs; the frame is kept for resending; BURST_TYPE follows a sync frame; CS stays but at a block's start, where two agreeing blocks give CS_VALID and CS. SPDIF_SYNC_HOLD_END and SPDIF_PCM_RETURN after 4,096 frames end the hold with a ramp. SPD_RX_CTRL_WRITE, SPD_TX_EN_WRITE, SPD_TX_RATE_WRITE and SPD_PASS_WRITE hold their fields and start, stop or ramp as given; a receiver that was on and goes off takes its tracker to UNLOCKED; PASS waits for the next frame. SPD_CNT_CLR clears the counts. SPDIF_TX_FRAME sends sinks 44 and 45 with the channel status, enters passthrough, resends the received frame, holds with zeros, or leaves. Each with its frame. -/
def Obligations.SpdifPorts : Prop :=
  (∀ (f : SpdFrame) (s : State), 
      s.clocked .ports = true → s.rxOn = true → s.spdTx.phase ≠ .passthrough →
      ∃ u, Yields (.spdifRxFrame f) s u ∧
        (u.spdRx.lastA = if f.a.parityErr || f.a.codeErr then s.spdRx.lastA else if f.a.v && s.on F.SPD_RX_CTRL_VALID_MUTE then 0 else signed 24 f.a.data * 256) ∧
        (u.spdRx.lastB = if f.b.parityErr || f.b.codeErr then s.spdRx.lastB else if f.b.v && s.on F.SPD_RX_CTRL_VALID_MUTE then 0 else signed 24 f.b.data * 256) ∧
        u.get F.SPD_RX_COUNT_PARITY_ERRS = min (s.get F.SPD_RX_COUNT_PARITY_ERRS + f.a.parityErr.toNat + f.b.parityErr.toNat) 0xFFFF ∧
        u.get F.SPD_RX_COUNT_V_FRAMES = min (s.get F.SPD_RX_COUNT_V_FRAMES + f.a.v.toNat + f.b.v.toNat) 0xFFFF ∧
        ((f.a.data / 256 % 65536 = 0xF872 ∧ f.b.data / 256 % 65536 = 0x4E1F) → s.on F.SPD_RX_CTRL_NONPCM_DET = true → u.on F.SPD_RX_STATUS_NONPCM = true ∧ u.on F.SPD_RX_STATUS_SYNC_HOLD = false) ∧
        ((f.a.data / 256 % 65536 = 0xF872 ∧ f.b.data / 256 % 65536 = 0x4E1F) → s.on F.SPD_RX_CTRL_NONPCM_DET = false → s.spdRx.sync = none → f.block = false → s.on F.SPD_RX_STATUS_NONPCM = false → u.on F.SPD_RX_STATUS_NONPCM = false ∧ u.on F.SPD_RX_STATUS_SYNC_HOLD = true) ∧
        (u.rxHeld = true → s.engRuns = true → u.spdRx.rx.getLast? = some (0, 0)) ∧
        u.spdRx.pass = some (resentFrame f) ∧
        (s.spdRx.pc = true → u.get F.SPD_RX_STATUS_BURST_TYPE = f.a.data / 256 % 32) ∧
        (f.block = false → ∀ i : Nat, i < 6 → u.reg (A.SPD_RX_CS i) = s.reg (A.SPD_RX_CS i)) ∧
        (f.block = true → s.spdRx.cs.length = 192 → s.spdRx.csPrev = s.spdRx.cs.reverse → u.on F.SPD_RX_STATUS_CS_VALID = true ∧ ∀ i : Nat, i < 6 → u.reg (A.SPD_RX_CS i) = csWord s.spdRx.cs.reverse i) ∧
        Touches [.spdRx] [] ([F.SPD_RX_STATUS_BURST_TYPE, F.SPD_RX_STATUS_SYNC_HOLD, F.SPD_RX_STATUS_CS_FS, F.SPD_RX_STATUS_CS_VALID, F.SPD_RX_STATUS_NONPCM, whole A.SPD_RX_FLAGS, whole A.SPD_RX_COUNT, whole A.CLK_FDIV_STEER, F.PG_IRQ 0x2A 3, F.PG_IRQ 0x2A 4, F.PG_IRQ 0x2A 5] ++ (List.range 6).map (fun i => whole (A.SPD_RX_CS i))) s u) ∧
  (∀ (s : State), 
      s.clocked .ports = true → s.on F.SPD_RX_STATUS_SYNC_HOLD = true → s.on F.SPD_RX_STATUS_NONPCM = false → s.csData = false → 4096 ≤ s.spdRx.sync.getD 4096 →
      ∃ u, Yields .spdifSyncHoldEnd s u ∧
        u.on F.SPD_RX_STATUS_SYNC_HOLD = false ∧
        u.spdRx = { s.spdRx with fade := ⟨0, 1, true⟩ } ∧
        Touches [.spdRx] [] [F.SPD_RX_STATUS_SYNC_HOLD] s u) ∧
  (∀ (s : State), 
      s.clocked .ports = true → s.on F.SPD_RX_STATUS_NONPCM = true → s.csData = false → 4096 ≤ s.spdRx.sync.getD 4096 →
      ∃ u, Yields .spdifPcmReturn s u ∧
        u.on F.SPD_RX_STATUS_NONPCM = false ∧
        u.get F.SPD_RX_FLAGS_NONPCM_CHG = 1 ∧
        u.on (F.PG_IRQ 0x2A 3) = true ∧
        u.spdRx = { s.spdRx with fade := ⟨0, 1, true⟩ } ∧
        Touches [.spdRx] [] [F.SPD_RX_STATUS_NONPCM, F.SPD_RX_FLAGS_NONPCM_CHG, F.PG_IRQ 0x2A 3] s u) ∧
  (∀ (ini : Fin 5) (w : Word) (s : State), 
      s.mayWrite ini A.SPD_RX_CTRL w = true →
      ∃ u, Yields (.spdRxCtrlWrite ini w) s u ∧
        u.get F.SPD_RX_CTRL_EN = bits w 0 1 ∧
        u.get F.SPD_RX_CTRL_VALID_MUTE = bits w 1 1 ∧
        u.get F.SPD_RX_CTRL_NONPCM_DET = bits w 2 1 ∧
        (bits w 0 1 = 1 → s.on (F.PG_ENABLE 0x2A) = true → u.spdRx = s.spdRx ∧ u.trk = s.trk ∧ u.lanes = s.lanes) ∧
        (bits w 0 1 = 0 → s.rxOn = true → u.get (F.CLK_TRK_STATUS_STATE 1) = 0) ∧
        (bits w 0 1 = 0 → u.on F.SPD_RX_STATUS_CS_VALID = false ∧ u.spdRx.rx = [] ∧ u.reg (A.CLK_TRK_COUNT 1) = s.reg (A.CLK_TRK_COUNT 1)) ∧
        Touches [.spdRx, .trk, .lanes] ((List.range 48).map (· + 0x30)) (whole A.SPD_RX_CTRL :: F.SPD_RX_STATUS_CS_VALID :: F.PG_FAULT 0x2A :: trkFlds 1) s u) ∧
  (∀ (ini : Fin 5) (w : Word) (s : State), 
      s.mayWrite ini A.SPD_TX_CTRL w = true → s.on (F.PG_ENABLE 0x2A) = true → s.islandOn .ports = true → s.spdTx.phase = .off → bits w 0 1 = 1 →
      ∃ u, Yields (.spdTxEnWrite ini w) s u ∧
        u.get F.SPD_TX_CTRL_EN = 1 ∧
        u.get F.SPD_TX_CTRL_RATE = bits w 4 4 ∧
        u.get F.SPD_TX_CTRL_AUTO_CS = bits w 3 1 ∧
        u.get F.SPD_TX_CTRL_PASS = bits w 1 2 ∧
        (u.wantPass = false → u.spdTx.rate = bits w 4 4 ∧ u.spdTx.pos = 0 ∧ u.get F.SPD_TX_STATUS_STATE = (if s.famUp (rateFamily (bits w 4 4)) then 2 else 1) ∧ u.get F.SPD_TX_STATUS_DOMAIN = rateFamily (bits w 4 4)) ∧
        (u.wantPass = true → u.spdTx.phase = .enter ∧ u.get F.SPD_TX_STATUS_STATE = 4) ∧
        Touches [.spdTx] [] (whole A.SPD_TX_CTRL :: spdTxStatusFlds) s u) ∧
  (∀ (ini : Fin 5) (w : Word) (s : State), 
      s.mayWrite ini A.SPD_TX_CTRL w = true → s.spdTx.phase ≠ .off → bits w 0 1 = 0 →
      ∃ u, Yields (.spdTxEnWrite ini w) s u ∧
        u.get F.SPD_TX_CTRL_EN = 0 ∧
        u.spdTx.phase = .off ∧
        u.get F.SPD_TX_STATUS_STATE = 0 ∧
        u.spdTx.sent = none ∧
        Touches [.spdTx] [] (whole A.SPD_TX_CTRL :: spdTxStatusFlds) s u) ∧
  (∀ (ini : Fin 5) (w : Word) (s : State), 
      s.mayWrite ini A.SPD_TX_CTRL w = true → s.on (F.PG_ENABLE 0x2A) = true → s.islandOn .ports = true → s.spdTx.phase = .pcm → bits w 0 1 = 1 → bits w 4 4 ≠ s.spdTx.rate →
      ∃ u, Yields (.spdTxRateWrite ini w) s u ∧
        u.get F.SPD_TX_CTRL_RATE = bits w 4 4 ∧
        u.spdTx = { s.spdTx with phase := .rampReconf, fade := s.spdTx.fade.turn false, fadeUs := 1000 } ∧
        u.get F.SPD_TX_STATUS_STATE = 2 ∧
        Touches [.spdTx] [] (whole A.SPD_TX_CTRL :: spdTxStatusFlds) s u) ∧
  (∀ (ini : Fin 5) (w : Word) (s : State), 
      s.mayWrite ini A.SPD_TX_CTRL w = true → s.on (F.PG_ENABLE 0x2A) = true → s.islandOn .ports = true → (s.spdTx.phase = .pcm ∨ s.spdTx.phase = .passthrough) → bits w 0 1 = 1 → bits w 4 4 = s.spdTx.rate →
      ∃ u, Yields (.spdPassWrite ini w) s u ∧
        u.get F.SPD_TX_CTRL_PASS = bits w 1 2 ∧
        u.spdTx = s.spdTx ∧
        Touches [] [] [whole A.SPD_TX_CTRL] s u) ∧
  (∀ (ini : Fin 5) (w : Word) (s : State), 
      s.mayWrite ini A.SPD_CNT_CLR (w ||| 0x1#32) = true →
      ∃ u, Yields (.spdCntClr ini w) s u ∧
        u.reg A.SPD_RX_COUNT = 0 ∧
        Touches [] [] [whole A.SPD_RX_COUNT] s u) ∧
  (∀ (s : State), 
      s.clocked .ports = true → s.spdTx.phase = .pcm → s.wantPass = false → s.spdTx.fade = .at1 →
      ∃ u, Yields .spdifTxFrame s u ∧
        u.spdTx.pos = (s.spdTx.pos + 1) % 192 ∧
        (∃ f, u.spdTx.sent = some f ∧ f.block = decide (s.spdTx.pos = 0) ∧ f.a.data = unsigned 24 ((s.txTake s.spdTx.txA 0).fdiv 256) ∧ f.b.data = unsigned 24 ((s.txTake s.spdTx.txB 1).fdiv 256) ∧ f.a.v = false ∧ f.a.u = false ∧ f.b.v = false ∧ f.b.u = false ∧ f.a.c = f.b.c) ∧
        (s.spdTx.pos = 0 → u.spdTx.cs = (List.range 24).map s.txCsByte) ∧
        (s.spdTx.pos ≠ 0 → u.spdTx.cs = s.spdTx.cs) ∧
        u.spdTx.txA = s.spdTx.txA.tail ∧
        Touches [.spdTx] [] [] s u) ∧
  (∀ (s : State), 
      s.clocked .ports = true → s.spdTx.phase = .pcm → s.wantPass = true →
      ∃ u, Yields .spdifTxFrame s u ∧
        u.spdTx.phase = .enter ∧
        u.get F.SPD_TX_STATUS_STATE = 4 ∧
        u.spdTx.sent = some ⟨zeroSub false, zeroSub false, false⟩ ∧
        (u.on (F.PG_IRQ 0x2A 6) = true ∨ s.get F.SPD_TX_STATUS_STATE = 4) ∧
        Touches [.spdTx] [] spdTxStatusFlds s u) ∧
  (∀ (f : SpdFrame) (s : State), 
      s.clocked .ports = true → s.spdTx.phase = .passthrough → s.wantPass = true → s.trkState 3 = 2 → s.spdRx.pass = some f →
      ∃ u, Yields .spdifTxFrame s u ∧
        u.spdTx.sent = some f ∧
        u.spdRx.pass = none ∧
        u.spdTx.phase = .passthrough ∧
        Touches [.spdTx, .spdRx] [] [] s u) ∧
  (∀ (s : State), 
      s.clocked .ports = true → s.spdTx.phase = .passthrough → (s.wantPass = true → s.trkState 3 ≠ 2) →
      ∃ u, Yields .spdifTxFrame s u ∧
        (s.wantPass = true → u.spdTx.phase = .passthrough ∧ u.on F.SPD_TX_STATUS_HOLD = true ∧ u.spdTx.sent = some ⟨zeroSub s.spdTx.csBit, zeroSub s.spdTx.csBit, decide (s.spdTx.pos = 0)⟩) ∧
        (s.wantPass = false → u.spdTx.phase = .exit ∧ u.get F.SPD_TX_STATUS_STATE = 4) ∧
        Touches [.spdTx] [] spdTxStatusFlds s u)

/-- With the endpoint tracked and no freeze. TRACKER_EDGE: HOLDOVER, and UNLOCKED but for a refused S/PDIF stream, start ACQUIRE with no window; ACQUIRE stays; in LOCKED a glitched frame, judged at the nominal rate, is counted in the run, and in GLITCHES while the run is below three; another frame ends the run and counts or ends the run of frames off the locked rate. TRACKER_WINDOW_END of a window of 16 frames and 2 ms gives the mean rate over its frames, 19,660,800,000 times the frames over their ticks (USB by R282), and empties the window; a shorter one changes nothing. In ACQUIRE the first window is kept; two that agree within 100 ppm in range lock, with RATE, the interrupt and the nominal rate; in LOCKED it reports RATE; else RATE stays. TRACKER_STOP: ACQUIRE and LOCKED go to HOLDOVER with STOP counted, the others stay. TRACKER_RATE_CHANGE where one was found: ACQUIRE, RATE_CHG, the interrupt. ACQUISITION_TIMEOUT in ACQUIRE: UNLOCKED, ACQ_FAIL and its count. TRACKER_ENDPOINT_OFF of an untracked endpoint: UNLOCKED, no stop counted. CLK_TRK_CLR clears the selected counts. Each with its frame. -/
def Obligations.Trackers : Prop :=
  (∀ (t : Fin 10) (period : Nat) (s : State), 
      s.trkRuns t = true → s.frozen = false → s.clocked .mgmt = true →
      ∃ u, Yields (.trackerEdge t period) s u ∧
        ((s.get (F.CLK_TRK_STATUS_STATE t) = 0 ∧ s.trkRefused t period = false) ∨ s.get (F.CLK_TRK_STATUS_STATE t) = 3 → u.get (F.CLK_TRK_STATUS_STATE t) = 1 ∧ u.get (F.CLK_TRK_STATUS_EDGES t) = 1 ∧ (u.trkAt t).winRate = 0 ∧ u.lanes = s.lanes) ∧
        (s.get (F.CLK_TRK_STATUS_STATE t) = 0 → s.trkRefused t period = true → u.get (F.CLK_TRK_STATUS_STATE t) = 0 ∧ u.get (F.CLK_TRK_STATUS_EDGES t) = 1 ∧ u.trk = s.trk ∧ u.lanes = s.lanes) ∧
        (s.get (F.CLK_TRK_STATUS_STATE t) = 2 → (s.trkAt t).skip = false → glitched period (100 * (if t = 0 then (s.trkScale t).1 else (s.trkAt t).nomHz)) (1, 1) = true → (u.trkAt t).glitches = (s.trkAt t).glitches + 1 ∧ u.get (F.CLK_TRK_STATUS_STATE t) = 2 ∧ ((s.trkAt t).glitches < 2 → u.get (F.CLK_TRK_STATUS_GLITCH t) = 1 ∧ u.get (F.CLK_TRK_COUNT_GLITCHES t) = min (s.get (F.CLK_TRK_COUNT_GLITCHES t) + 1) 0xFFFF) ∧ (2 ≤ (s.trkAt t).glitches → u.get (F.CLK_TRK_COUNT_GLITCHES t) = s.get (F.CLK_TRK_COUNT_GLITCHES t) ∧ u.lanes = s.lanes)) ∧
        (s.get (F.CLK_TRK_STATUS_STATE t) = 2 → (s.trkAt t).skip = false → glitched period (100 * (if t = 0 then (s.trkScale t).1 else (s.trkAt t).nomHz)) (1, 1) = false → (u.trkAt t).glitches = 0 ∧ u.lanes = s.lanes ∧ (u.trkAt t).changes = if rateOff period (s.trkAt t).lockRate (s.trkScale t) then (s.trkAt t).changes + 1 else 0) ∧
        (s.get (F.CLK_TRK_STATUS_STATE t) = 1 → u.get (F.CLK_TRK_STATUS_STATE t) = 1 ∧ u.lanes = s.lanes) ∧
        Touches [.trk, .lanes] ((List.range 48).map (· + 0x30)) (F.CLK_TRK_STATUS_GLITCH t :: F.CLK_TRK_COUNT_GLITCHES t :: trkFlds t) s u) ∧
  (∀ (t : Fin 10) (rate : Nat) (s : State), 
      s.trkRuns t = true → s.frozen = false → s.clocked .mgmt = true → (s.trkAt t).windowDone = true → rate = s.trkMean t → rate < 2 ^ 32 →
      ∃ u, Yields (.trackerWindowEnd t) s u ∧
        (1 ≤ t.val → rate = (divRne (19660800000 * (s.trkAt t).frames : Nat) (s.trkAt t).sum).toNat) ∧
        16 ≤ (s.trkAt t).frames ∧ 393216000 ≤ 1000 * (s.trkAt t).sum ∧
        (u.trkAt t).sum = 0 ∧ (u.trkAt t).frames = 0 ∧
        (s.get (F.CLK_TRK_STATUS_STATE t) = 1 → (s.trkAt t).winRate = 0 → u.get (F.CLK_TRK_STATUS_STATE t) = 1 ∧ (u.trkAt t).winRate = rate) ∧
        (s.get (F.CLK_TRK_STATUS_STATE t) = 1 → 0 < (s.trkAt t).winRate → 10000 * (if rate ≤ (s.trkAt t).winRate then (s.trkAt t).winRate - rate else rate - (s.trkAt t).winRate) ≤ (s.trkAt t).winRate → trkInRange t rate = true → u.get (F.CLK_TRK_STATUS_STATE t) = 2 ∧ u.get (F.CLK_TRK_RATE_RATE t) = rate ∧ u.on (F.PG_IRQ 0x03 6) = true ∧ (u.trkAt t).lockRate = rate ∧ (u.on (F.CLK_TRK_STATUS_NONSTD t) = false → (u.trkAt t).nomHz = rateHz (u.get (F.CLK_TRK_STATUS_NOMINAL t)))) ∧
        (s.get (F.CLK_TRK_STATUS_STATE t) = 2 → u.get (F.CLK_TRK_RATE_RATE t) = rate ∧ u.get (F.CLK_TRK_STATUS_STATE t) = 2 ∧ (u.trkAt t).nomHz = (s.trkAt t).nomHz) ∧
        (s.get (F.CLK_TRK_STATUS_STATE t) = 3 ∨ s.get (F.CLK_TRK_STATUS_STATE t) = 0 → u.reg (A.CLK_TRK_RATE t) = s.reg (A.CLK_TRK_RATE t)) ∧
        Touches [.trk, .lanes, .poolFree] ((List.range 48).map (· + 0x30)) (whole (A.CLK_TRK_RATE t) :: whole (A.CLK_TRK_COUNT2 t) :: whole (A.CLK_TRK_STATUS t) :: F.PG_IRQ 0x03 8 :: F.PG_FAULT 0x2A :: F.PG_IRQ 0x2A 1 :: spdTxStatusFlds ++ trkFlds t) s u) ∧
  (∀ (t : Fin 10) (s : State), 
      s.trkRuns t = true → s.frozen = false → s.clocked .mgmt = true → (s.trkAt t).windowDone = false →
      ∃ u, Yields (.trackerWindowEnd t) s u ∧
        u.trk = s.trk ∧
        u.get (F.CLK_TRK_STATUS_STATE t) = s.get (F.CLK_TRK_STATUS_STATE t) ∧
        u.reg (A.CLK_TRK_RATE t) = s.reg (A.CLK_TRK_RATE t) ∧
        Touches [] [] (if t.val = 1 then spdTxStatusFlds else []) s u) ∧
  (∀ (t : Fin 10) (s : State), 
      s.trkRuns t = true → s.frozen = false → s.clocked .mgmt = true →
      ∃ u, Yields (.trackerStop t) s u ∧
        (s.get (F.CLK_TRK_STATUS_STATE t) = 1 ∨ s.get (F.CLK_TRK_STATUS_STATE t) = 2 → u.get (F.CLK_TRK_STATUS_STATE t) = 3 ∧ u.get (F.CLK_TRK_STATUS_STOP t) = 1 ∧ u.get (F.CLK_TRK_COUNT_STOPS t) = min (s.get (F.CLK_TRK_COUNT_STOPS t) + 1) 0xFFFF) ∧
        (s.get (F.CLK_TRK_STATUS_STATE t) = 0 ∨ s.get (F.CLK_TRK_STATUS_STATE t) = 3 → u.get (F.CLK_TRK_STATUS_STATE t) = s.get (F.CLK_TRK_STATUS_STATE t) ∧ u.get (F.CLK_TRK_COUNT_STOPS t) = s.get (F.CLK_TRK_COUNT_STOPS t) ∧ u.lanes = s.lanes) ∧
        (t ≠ 1 → (t = 0 ∨ (s.sapAt (t - 2)).phase ≠ .rampReconf) → u.get (F.CLK_TRK_STATUS_EDGES t) = 0) ∧
        (t = 1 → u.on F.SPD_RX_STATUS_CS_VALID = false ∧ u.get F.SPD_RX_STATUS_NONPCM = s.get F.SPD_RX_STATUS_NONPCM) ∧
        Touches [.trk, .lanes, .sap, .spdRx] ((if 2 ≤ t.val then [pgSAP (t - 2)] else []) ++ (List.range 48).map (· + 0x30)) (F.CLK_TRK_STATUS_STOP t :: F.CLK_TRK_COUNT_STOPS t :: F.SPD_RX_STATUS_CS_VALID :: F.PG_FAULT 0x2A :: (if 2 ≤ t.val then [whole (A.CLK_FDIV (t - 2))] else spdTxStatusFlds) ++ trkFlds t) s u) ∧
  (∀ (t : Fin 10) (s : State), 
      s.trkRuns t = true → s.frozen = false → s.clocked .mgmt = true → s.get (F.CLK_TRK_STATUS_STATE t) = 2 → (s.trkAt t).changed = true →
      ∃ u, Yields (.trackerRateChange t) s u ∧
        u.get (F.CLK_TRK_STATUS_STATE t) = 1 ∧
        u.get (F.CLK_TRK_STATUS_RATE_CHG t) = 1 ∧
        u.on (F.PG_IRQ 0x03 6) = true ∧
        (u.trkAt t).changed = false ∧
        u.get (F.CLK_TRK_COUNT_GLITCHES t) = s.get (F.CLK_TRK_COUNT_GLITCHES t) ∧
        (u.trkAt t).nomHz = (s.trkAt t).nomHz ∧
        Touches [.trk, .lanes] ((List.range 48).map (· + 0x30)) (F.CLK_TRK_STATUS_RATE_CHG t :: (if t.val = 1 then spdTxStatusFlds else []) ++ trkFlds t) s u) ∧
  (∀ (t : Fin 10) (s : State), 
      s.trkRuns t = true → s.frozen = false → s.clocked .mgmt = true → s.get (F.CLK_TRK_STATUS_STATE t) = 1 →
      ∃ u, Yields (.acquisitionTimeout t) s u ∧
        u.get (F.CLK_TRK_STATUS_STATE t) = 0 ∧
        u.get (F.CLK_TRK_STATUS_ACQ_FAIL t) = 1 ∧
        u.get (F.CLK_TRK_COUNT2_ACQ_FAILS t) = min (s.get (F.CLK_TRK_COUNT2_ACQ_FAILS t) + 1) 0xFFFF ∧
        u.on (F.PG_IRQ 0x03 7) = true ∧
        u.get (F.CLK_TRK_STATUS_EDGES t) = s.get (F.CLK_TRK_STATUS_EDGES t) ∧
        Touches [.lanes] ((List.range 48).map (· + 0x30)) (F.CLK_TRK_STATUS_ACQ_FAIL t :: F.CLK_TRK_COUNT2_ACQ_FAILS t :: F.PG_IRQ 0x03 7 :: trkFlds t) s u) ∧
  (∀ (t : Fin 10) (s : State), 
      s.trkRuns t = false → s.frozen = false →
      ∃ u, Yields (.trackerEndpointOff t) s u ∧
        u.get (F.CLK_TRK_STATUS_STATE t) = 0 ∧
        u.get (F.CLK_TRK_STATUS_EDGES t) = 0 ∧
        u.reg (A.CLK_TRK_COUNT t) = s.reg (A.CLK_TRK_COUNT t) ∧
        u.get (F.CLK_TRK_STATUS_STOP t) = s.get (F.CLK_TRK_STATUS_STOP t) ∧
        Touches [.trk, .lanes] ((List.range 48).map (· + 0x30)) (trkFlds t) s u) ∧
  (∀ (ini : Fin 5) (w : Word) (s : State), 
      s.mayWrite ini A.CLK_TRK_CLR w = true →
      ∃ u, Yields (.clkTrkClr ini w) s u ∧
        (∀ t : Nat, t < 10 → bits w t 1 = 1 → u.reg (A.CLK_TRK_COUNT t) = 0 ∧ u.reg (A.CLK_TRK_COUNT2 t) = 0) ∧
        (∀ t : Nat, t < 10 → bits w t 1 = 0 → u.reg (A.CLK_TRK_COUNT t) = s.reg (A.CLK_TRK_COUNT t) ∧ u.reg (A.CLK_TRK_COUNT2 t) = s.reg (A.CLK_TRK_COUNT2 t)) ∧
        (bits w 10 1 = 1 → u.reg A.CLK_MAINS_COUNT = 0) ∧
        Touches [] [] ((if bits w 10 1 = 1 then [whole A.CLK_MAINS_COUNT] else []) ++ (List.range 10).flatMap (fun t => [whole (A.CLK_TRK_COUNT t), whole (A.CLK_TRK_COUNT2 t)])) s u)

/-- XTAL_FAIL of a good crystal that runs: OK clear, FAIL and ON_RC set, FAILS counted, fault 0x01 and its interrupt, the engine stopped outside a freeze, no PLL left LOCKED, no PLL's unlocks or retries counted, the FLL not locked and its UNLOCK flag as it was. XTAL_RETURN of a failed crystal that runs: OK set, ON_RC clear, FAIL kept, fault 0x01 ended. PLL_LOCK of a LOCKING PLL outside a takeover's prelock: LOCKED, the time held, no count; for the engine's family in RUN or IDLE, outside the takeover's window and a freeze, a stopped engine runs. PLL_UNLOCK of a locked family PLL outside a takeover: LOCKING, UNLOCKS and RETRIES counted, the flag and interrupt, the roles kept; the engine stops exactly if the family is its own, in a freeze not at all, nor do lanes, outputs and speakers move. PLL_RELOCK_FAIL of a LOCKING family PLL with no live takeover job: FAULT; with a SPARE, AUTO_TAKEOVER and a slot a takeover job is posted and no fault raised; with no SPARE or no AUTO_TAKEOVER the family is down, fault 0x02, its interrupt if no fault stood, no job. PLL_RELOCK_RETRY in FAULT: LOCKING, a retry and no unlock counted. PLL_STOP_TIMEOUT of a family not needed, outside a takeover: OFF. FLL_LOCK: LOCKED; outside a freeze, waiting FLL microphone groups not taken for listening settle. FLL_UNLOCK: clear, its flag set; outside a freeze, such running groups wait. MAINS_SYNC_EDGE at the selected edge and source: a period taken joins the last eight, a first one is shown with its frequency, the fourth in a row sets VALID; one not taken ends the run and counts; where the edge is no trigger of the sense sequence either, the sequence stays. MAINS_INVALID_TIMEOUT: VALID clear, INVALIDS counted, FREQ kept, the periods dropped. The divider of R268: after n edges its accumulator is n x STEP mod K, and toggle i falls on the first edge c with c x STEP >= i x K. Each with its frame. -/
def Obligations.ClocksAndMains : Prop :=
  (∀ (s : State), 
      s.on F.CLK_XTAL_STATUS_OK = true → s.xtalRuns = true →
      ∃ u, Yields .xtalFail s u ∧
        u.on F.CLK_XTAL_STATUS_OK = false ∧
        u.on F.CLK_XTAL_STATUS_FAIL = true ∧
        u.on F.CLK_XTAL_STATUS_ON_RC = true ∧
        u.get F.CLK_XTAL_STATUS_FAILS = min (s.get F.CLK_XTAL_STATUS_FAILS + 1) 0xFFFF ∧
        u.get (F.PG_FAULT 0x03) = 1 ∧
        u.on (F.PG_IRQ 0x03 2) = true ∧
        (s.frozen = false → u.engStop = true) ∧
        (∀ x : Nat, x < 3 → u.get (F.CLK_PLL_STATUS_STATE x) ≠ 2) ∧
        (∀ x : Nat, x < 3 → u.reg (A.CLK_PLL_COUNT x) = s.reg (A.CLK_PLL_COUNT x)) ∧
        u.on F.CLK_FLL_STATUS_LOCKED = false ∧
        u.get F.CLK_FLL_STATUS_UNLOCK = s.get F.CLK_FLL_STATUS_UNLOCK ∧
        Touches (audioParts ++ jobParts ++ ([.famOut, .usb, .feChange, .opHeld, .tkoOn, .tko, .free, .otp] : List Part)) (audioPages ++ [0x03, 0x06]) lstStatusFlds s u) ∧
  (∀ (s : State), 
      s.on F.CLK_XTAL_STATUS_OK = false → s.xtalRuns = true →
      ∃ u, Yields .xtalReturn s u ∧
        u.on F.CLK_XTAL_STATUS_OK = true ∧
        u.on F.CLK_XTAL_STATUS_ON_RC = false ∧
        u.get F.CLK_XTAL_STATUS_FAIL = s.get F.CLK_XTAL_STATUS_FAIL ∧
        (u.get (F.PG_FAULT 0x03) = if s.get (F.PG_FAULT 0x03) = 1 then 0 else s.get (F.PG_FAULT 0x03)) ∧
        Touches [] [] ([F.CLK_XTAL_STATUS_OK, F.CLK_XTAL_STATUS_ON_RC, F.PG_FAULT 0x03] ++ (List.range 4).map F.SAP_MCLK_RUNNING) s u) ∧
  (∀ (x : Fin 3) (us : Nat) (s : State), 
      s.get (F.CLK_PLL_STATUS_STATE x) = 1 → s.on F.CLK_XTAL_STATUS_OK = true → s.pllRole x ≠ 5 →
      ∃ u, Yields (.pllLock x us) s u ∧
        u.get (F.CLK_PLL_STATUS_STATE x) = 2 ∧
        u.get (F.CLK_PLL_STATUS_LOCK_TIME x) = min us 0xFFFF ∧
        (s.pllRole x = feFamily s.fe → s.domState ≤ 1 → s.engStop = true → s.get F.CLK_TAKEOVER_STATUS_PHASE ≠ 5 → s.frozen = false → u.engStop = false) ∧
        u.reg (A.CLK_PLL_COUNT x) = s.reg (A.CLK_PLL_COUNT x) ∧
        Touches (audioParts ++ jobParts ++ ([.famOut, .usb, .feChange, .opHeld, .tkoOn, .tko, .free, .otp] : List Part)) (audioPages ++ [0x03, 0x06]) [] s u) ∧
  (∀ (x : Fin 3) (s : State), 
      s.pllLocked x = true → s.pllRole x ≤ 1 → s.tkoOn = false →
      ∃ u, Yields (.pllUnlock x) s u ∧
        u.get (F.CLK_PLL_STATUS_STATE x) = 1 ∧
        u.get (F.CLK_PLL_COUNT_UNLOCKS x) = min (s.get (F.CLK_PLL_COUNT_UNLOCKS x) + 1) 0xFFFF ∧
        u.get (F.CLK_PLL_COUNT_RETRIES x) = min (s.get (F.CLK_PLL_COUNT_RETRIES x) + 1) 0xFFFF ∧
        u.get (F.CLK_PLL_STATUS_UNLOCK x) = 1 ∧
        u.on (F.PG_IRQ 0x03 3) = true ∧
        (s.frozen = false → s.pllRole x = feFamily s.fe → u.engStop = true) ∧
        (s.frozen = true → u.engStop = s.engStop ∧ u.lanes = s.lanes ∧ u.aout = s.aout ∧ u.spk = s.spk) ∧
        (s.pllRole x ≠ feFamily s.fe → u.engStop = s.engStop) ∧
        u.reg A.CLK_ROLE = s.reg A.CLK_ROLE ∧
        Touches (audioParts ++ jobParts ++ ([.famOut, .usb, .feChange, .opHeld, .tkoOn, .tko, .free, .otp] : List Part)) (audioPages ++ [0x03, 0x06]) [] s u) ∧
  (∀ (x : Fin 3) (s : State), 
      s.get (F.CLK_PLL_STATUS_STATE x) = 1 → s.on F.CLK_XTAL_STATUS_OK = true → s.pllRole x ≤ 1 → s.famPll (s.pllRole x) = x → s.jobLive 4 (s.pllRole x) = false → s.mgmtRuns = true →
      ∃ u, Yields (.pllRelockFail x) s u ∧
        u.get (F.CLK_PLL_STATUS_STATE x) = 3 ∧
        (s.sparePll.isSome = true → s.on F.CLK_PLL_CTRL_AUTO_TAKEOVER = true → s.freeSlot.isSome = true → u.jobLive 4 (s.pllRole x) = true ∧ u.get (F.PG_FAULT 0x03) = s.get (F.PG_FAULT 0x03)) ∧
        (s.sparePll = none ∨ s.on F.CLK_PLL_CTRL_AUTO_TAKEOVER = false → u.get (F.PG_FAULT 0x03) = 2 ∧ vget u.famOut (s.pllRole x) false = true ∧ (s.get (F.PG_FAULT 0x03) = 0 → u.on (F.PG_IRQ 0x03 1) = true) ∧ u.jobs = s.jobs) ∧
        Touches (.famOut :: jobParts) [] [F.CLK_PLL_STATUS_STATE x, F.PG_FAULT 0x03, F.PG_IRQ 0x03 1, F.MNT_COUNT2_DROPPED, F.PG_IRQ 6 6] s u) ∧
  (∀ (x : Fin 3) (s : State), 
      s.pllRole x ≤ 1 → s.get (F.CLK_PLL_STATUS_STATE x) = 3 → s.on F.CLK_XTAL_STATUS_OK = true → s.jobLive 4 (s.pllRole x) = false → s.mgmtRuns = true →
      ∃ u, Yields (.pllRelockRetry x) s u ∧
        u.get (F.CLK_PLL_STATUS_STATE x) = 1 ∧
        u.get (F.CLK_PLL_COUNT_RETRIES x) = min (s.get (F.CLK_PLL_COUNT_RETRIES x) + 1) 0xFFFF ∧
        u.get (F.CLK_PLL_COUNT_UNLOCKS x) = s.get (F.CLK_PLL_COUNT_UNLOCKS x) ∧
        Touches [] [] [F.CLK_PLL_STATUS_STATE x, F.CLK_PLL_COUNT_RETRIES x] s u) ∧
  (∀ (x : Fin 3) (s : State), 
      s.pllRole x ≤ 1 → s.famNeeded (s.pllRole x) = false → s.tkoOn = false →
      ∃ u, Yields (.pllStopTimeout x) s u ∧
        u.get (F.CLK_PLL_STATUS_STATE x) = 0 ∧
        vget u.famOut (s.pllRole x) false = false ∧
        Touches [.famOut] [] ([F.CLK_PLL_STATUS_STATE x, F.PG_FAULT 0x03] ++ (List.range 4).map F.SAP_MCLK_RUNNING) s u) ∧
  (∀ (s : State), 
      s.on F.CLK_XTAL_STATUS_OK = true → s.islandOn .listen = true → s.on F.CLK_FLL_STATUS_LOCKED = false →
      ∃ u, Yields .fllLock s u ∧
        u.on F.CLK_FLL_STATUS_LOCKED = true ∧
        (s.frozen = false → ∀ g : Nat, g < 2 → (s.pdmAt g).phase = .waitClk → pdmFam (s.pdmAt g).freq = 0 → s.on (F.PDM_LISTEN g) = false → (u.pdmAt g).phase = .settling) ∧
        Touches [.pdm, .lst, .mics] [0x0C] (F.CLK_FLL_STATUS_LOCKED :: F.PG_IRQ 0x0A 10 :: lstStatusFlds ++ [F.PDM_LISTEN 0, F.PDM_LISTEN 1] ++ pdmStatusFlds) s u) ∧
  (∀ (s : State), 
      s.on F.CLK_FLL_STATUS_LOCKED = true →
      ∃ u, Yields .fllUnlock s u ∧
        u.on F.CLK_FLL_STATUS_LOCKED = false ∧
        u.get F.CLK_FLL_STATUS_UNLOCK = 1 ∧
        (s.frozen = false → ∀ g : Nat, g < 2 → (s.pdmAt g).phase = .running → pdmFam (s.pdmAt g).freq = 0 → 0 < (s.pdmAt g).freq → s.on (F.PDM_LISTEN g) = false → (u.pdmAt g).phase = .waitClk) ∧
        Touches [.pdm, .lst, .mics] [0x0C] (whole A.CLK_FLL_STATUS :: lstStatusFlds ++ [F.PDM_LISTEN 0, F.PDM_LISTEN 1] ++ pdmStatusFlds) s u) ∧
  (∀ (falling : Bool) (period : Nat) (s : State), 
      s.on F.CLK_MAINS_CTRL_EDGE = falling → s.clocked .sense = true → (s.get F.CLK_MAINS_CTRL_SRC = 1 ∨ s.get F.CLK_MAINS_CTRL_SRC = 3) →
      ∃ u, Yields (.mainsSyncEdge falling period) s u ∧
        (s.mains.takes period = true → u.mains.periods = (period :: s.mains.periods).take 8 ∧ u.get F.CLK_MAINS_STATUS_SRC_NOW = 1 ∧ u.get F.CLK_MAINS_COUNT_REJECTS = s.get F.CLK_MAINS_COUNT_REJECTS) ∧
        (s.mains.takes period = true → s.mains.periods = [] → u.get F.CLK_MAINS_PERIOD_PERIOD = period ∧ u.get F.CLK_MAINS_STATUS_FREQ = (divRne 24000000000 period).toNat) ∧
        (s.mains.takes period = true → s.mains.run = 3 → u.on F.CLK_MAINS_STATUS_VALID = true ∧ (s.on F.CLK_MAINS_STATUS_VALID = false → u.on (F.PG_IRQ 0x03 9) = true)) ∧
        (s.mains.takes period = false → u.mains = { s.mains with run := 0 } ∧ u.get F.CLK_MAINS_COUNT_REJECTS = min (s.get F.CLK_MAINS_COUNT_REJECTS + 1) 0xFFFF ∧ u.reg A.CLK_MAINS_PERIOD = s.reg A.CLK_MAINS_PERIOD) ∧
        (24000000 < 45 * period → u.mains.run = 0) ∧
        ((s.get F.SNS_SEQ_CTRL_TRIG_SRC ≠ 1 ∨ s.on F.SNS_SEQ_CTRL_TRIG_EDGE ≠ falling) → (s.get F.SNS_SEQ_CTRL_TRIG_SRC ≠ 2 ∨ s.mains.takes period = false) → u.sns = s.sns ∧ u.reg A.SNS_SEQ_STATUS = s.reg A.SNS_SEQ_STATUS ∧ u.reg A.SNS_STATUS = s.reg A.SNS_STATUS) ∧
        (s.get F.SNS_SEQ_CTRL_TRIG_SRC = 1 → s.on F.SNS_SEQ_CTRL_TRIG_EDGE = falling → s.snsHears = true → s.get F.SNS_SEQ_STATUS_DIV_COUNT < s.get F.SNS_SEQ_CTRL_TRIG_DIV → u.get F.SNS_SEQ_STATUS_DIV_COUNT = s.get F.SNS_SEQ_STATUS_DIV_COUNT + 1 ∧ u.sns = s.sns) ∧
        Touches [.mains, .sns] [] ([whole A.CLK_MAINS_STATUS, F.CLK_MAINS_PERIOD_PERIOD, F.CLK_MAINS_COUNT_REJECTS, F.PG_IRQ 0x03 9] ++ [whole A.SNS_SEQ_STATUS, whole A.SNS_INT_STATUS, whole A.SNS_STATUS, F.SNS_COUNT_TRIG_LOST, F.PG_IRQ 0x0B 5]) s u) ∧
  (∀ k step n : Nat, 0 < step → step ≤ k →
      (fdivRun k step n).1 = n * step % k ∧ (fdivRun k step n).2.length = n * step / k ∧
        ∀ i c : Nat, (fdivRun k step n).2.reverse[i]? = some c → (i + 1) * k ≤ c * step ∧ (c - 1) * step < (i + 1) * k) ∧
  (∀ (s : State), 
      s.clocked .sense = true → s.on F.CLK_MAINS_STATUS_VALID = true →
      ∃ u, Yields .mainsInvalidTimeout s u ∧
        u.on F.CLK_MAINS_STATUS_VALID = false ∧
        u.get F.CLK_MAINS_COUNT_INVALIDS = min (s.get F.CLK_MAINS_COUNT_INVALIDS + 1) 0xFFFF ∧
        u.on (F.PG_IRQ 0x03 9) = true ∧
        u.get F.CLK_MAINS_STATUS_FREQ = s.get F.CLK_MAINS_STATUS_FREQ ∧
        u.mains.periods = [] ∧
        Touches [.mains] [] [F.CLK_MAINS_STATUS_VALID, F.CLK_MAINS_STATUS_SRC_NOW, F.CLK_MAINS_COUNT_INVALIDS, F.PG_IRQ 0x03 9] s u)

/-- CLK_ENGINE_FE_WRITE, for a word the initiator may write, holds FE and leaves FE_NOW; the rate in force with no change pending changes nothing more; another sets FE_PENDING and is held by a takeover, else ramps if the family's PLL is up (every running lane's 1 ms mute begins), else waits for it. FE_CHANGE_STOP of a ramped change with the PLL up: FE_NOW is FE, the frequency follows, the engine runs, FE_DONE, CHN_FRAME_NOW kept, the ports' receive rings empty. CLK_TAKEOVER_START holds FAMILY and, with no takeover on, posts its job, or counts it dropped with no slot; with one on it posts none. CLK_TAKEOVER_ABORT before SWITCH: ended, cause 5, ABORTED and its interrupt, the spare SPARE again; later it changes neither takeover nor roles. TAKEOVER_SPARE_LOCKED in PRELOCK: the spare LOCKED and its time held; a swap that needs no window ends with the new roles; without MODE it goes to ALIGN; with MODE a fault job, or one whose replaced PLL has unlocked, stops the engine in WINDOW, a planned one ramps for 1 ms first. TAKEOVER_ALIGNED: family A goes to RAMP for 1 ms of frames; family B to SWITCH, no island switched, NALIGN as it was. TAKEOVER_ALIGN_TIMEOUT: cause 2, PHASE 0, ABORTED and its interrupt, the spare SPARE, the families' PLLs kept. TAKEOVER_SWITCH_DONE of an island before the last, without MODE: the islands up to it take the spare in R274's order, PD_AIN first, the ports not yet; NALIGN names the family's channels while PD_AIN alone has switched, and none after. TAKEOVER_SWITCH_DONE of the last, and TAKEOVER_WINDOW_DONE with MODE: DONE, the spare holds the family, the replaced PLL is in test, TAKEOVER_DONE raised; the first clears NALIGN, the second runs the engine if its PLL is up. The takeover's events are outside a freeze. PLL_HEALTH_TEST_DONE, a family's PLL running: SPARE where the phase was steady and the PLL locked in time, did not unlock and is locked; else RETIRED with fault 0x03 and, if none stood, its interrupt. Each with its frame. -/
def Obligations.EngineRateAndTakeover : Prop :=
  (∀ (ini : Fin 5) (w : Word) (s : State), 
      s.mayWrite ini A.CLK_ENGINE w = true →
      ∃ u, Yields (.clkEngineFeWrite ini w) s u ∧
        u.get F.CLK_ENGINE_FE = bits w 0 3 ∧
        u.get F.CLK_ENGINE_FE_NOW = s.get F.CLK_ENGINE_FE_NOW ∧
        (bits w 0 3 = s.fe → s.feChange = .none → u.feChange = .none ∧ u.get F.CLK_ENGINE_FE_PENDING = s.get F.CLK_ENGINE_FE_PENDING) ∧
        (bits w 0 3 ≠ s.fe → u.on F.CLK_ENGINE_FE_PENDING = true ∧ u.feChange = if s.tkoOn then .held else if s.famUp (feFamily (bits w 0 3)) then .ramp else .waitPll) ∧
        (bits w 0 3 ≠ s.fe → s.tkoOn = false → s.famUp (feFamily (bits w 0 3)) = true → ∀ n : Nat, n < 48 → (s.laneAt n).phase = .running → (u.laneAt n).mute.up = false ∧ (u.laneAt n).muteUs = 1000) ∧
        Touches [.feChange, .lanes, .tapFade] ((List.range 48).map (· + 0x30)) [F.CLK_ENGINE_FE, F.CLK_ENGINE_FE_PENDING] s u) ∧
  (∀ (s : State), 
      s.islandOn .engine = true → s.frozen = false → s.feChange = .ramp → s.famUp (feFamily (s.get F.CLK_ENGINE_FE)) = true →
      ∃ u, Yields .feChangeStop s u ∧
        u.get F.CLK_ENGINE_FE_NOW = s.get F.CLK_ENGINE_FE ∧
        u.on F.CLK_ENGINE_FE_PENDING = false ∧
        u.feChange = .none ∧
        u.get F.CLK_ENGINE_FREQ_KHZ = engineKhz (s.get F.CLK_ENGINE_FE) s.opNow ∧
        u.on (F.PG_IRQ 0x03 10) = true ∧
        u.engStop = false ∧
        u.get F.CHN_FRAME_NOW_FRAME = s.get F.CHN_FRAME_NOW_FRAME ∧
        (∀ p : Nat, p < 8 → (u.sapAt p).rx = []) ∧
        Touches (audioParts ++ jobParts ++ ([.famOut, .usb, .feChange, .opHeld, .tkoOn, .tko, .free, .otp] : List Part)) (audioPages ++ [0x03, 0x06] ++ [0x0A]) [] s u) ∧
  (∀ (ini : Fin 5) (w : Word) (s : State), 
      s.mayWrite ini A.CLK_TAKEOVER (w ||| 0x100#32) = true → bits w 9 1 = 0 →
      ∃ u, Yields (.clkTakeoverStart ini w) s u ∧
        u.get F.CLK_TAKEOVER_FAMILY = bits w 0 1 ∧
        (s.tkoOn = true → u.jobs = s.jobs) ∧
        (s.tkoOn = false → s.freeSlot.isSome = true → u.jobLive 4 (bits w 0 1) = true ∧ u.reg A.MNT_COUNT2 = s.reg A.MNT_COUNT2) ∧
        (s.tkoOn = false → s.freeSlot = none → u.jobs = s.jobs ∧ u.get F.MNT_COUNT2_DROPPED = min (s.get F.MNT_COUNT2_DROPPED + 1) 0xFFFF) ∧
        Touches jobParts [] [F.CLK_TAKEOVER_FAMILY, F.MNT_COUNT2_DROPPED, F.PG_IRQ 6 6] s u) ∧
  (∀ (ini : Fin 5) (w : Word) (s : State), 
      s.mayWrite ini A.CLK_TAKEOVER (w ||| 0x200#32) = true → bits w 8 1 = 0 →
      ∃ u, Yields (.clkTakeoverAbort ini w) s u ∧
        u.get F.CLK_TAKEOVER_FAMILY = bits w 0 1 ∧
        (s.tkoEarly = true → u.tkoOn = false ∧ u.get F.CLK_TAKEOVER_STATUS_ABORT_CAUSE = 5 ∧ u.on F.CLK_TAKEOVER_STATUS_ABORTED = true ∧ u.on (F.PG_IRQ 0x03 5) = true ∧ u.pllRole s.tkoNew = 2) ∧
        (s.tkoEarly = false → u.tkoOn = s.tkoOn ∧ u.reg A.CLK_TAKEOVER_STATUS = s.reg A.CLK_TAKEOVER_STATUS ∧ u.reg A.CLK_ROLE = s.reg A.CLK_ROLE) ∧
        Touches (audioParts ++ jobParts ++ ([.famOut, .usb, .feChange, .opHeld, .tkoOn, .tko, .free, .otp] : List Part)) (audioPages ++ [0x03, 0x06] ++ [0x02]) [] s u) ∧
  (∀ (us : Nat) (s : State), 
      s.tkoOn = true → s.tkoPhase = 1 → s.on F.CLK_XTAL_STATUS_OK = true → s.tkoNew < 3 → s.tkoOld < 3 → s.tkoNew ≠ s.tkoOld → s.frozen = false →
      ∃ u, Yields (.takeoverSpareLocked us) s u ∧
        u.get (F.CLK_PLL_STATUS_STATE s.tkoNew) = 2 ∧
        u.get (F.CLK_PLL_STATUS_LOCK_TIME s.tkoNew) = min us 0xFFFF ∧
        (s.tko.swap = true → u.tkoOn = false ∧ u.tkoPhase = 6 ∧ u.pllRole s.tkoNew = s.tkoFam ∧ u.pllRole s.tkoOld = 3) ∧
        (s.tko.swap = false → s.on F.CLK_TAKEOVER_STATUS_MODE = false → u.tkoPhase = 2) ∧
        (s.tko.swap = false → s.on F.CLK_TAKEOVER_STATUS_MODE = true → s.on F.CLK_TAKEOVER_STATUS_FAULT_JOB = true ∨ s.tko.lost = true → u.tkoPhase = 5 ∧ u.engStop = true) ∧
        (s.tko.swap = false → s.on F.CLK_TAKEOVER_STATUS_MODE = true → s.on F.CLK_TAKEOVER_STATUS_FAULT_JOB = false → s.tko.lost = false → u.tkoPhase = 3 ∧ u.tko.left = s.frames 1000 ∧ u.engStop = s.engStop) ∧
        Touches (audioParts ++ jobParts ++ ([.famOut, .usb, .feChange, .opHeld, .tkoOn, .tko, .free, .otp] : List Part)) (audioPages ++ [0x03, 0x06]) [] s u) ∧
  (∀ (s : State), 
      s.tkoOn = true → s.tkoPhase = 2 → s.frozen = false →
      ∃ u, Yields .takeoverAligned s u ∧
        (s.tkoFam = 0 → u.tkoPhase = 3 ∧ u.tko = { s.tko with left := s.frames 1000 }) ∧
        (s.tkoFam = 1 → u.tkoPhase = 4 ∧ u.tko.done = 0 ∧ u.get F.FIF_STATUS_NALIGN = s.get F.FIF_STATUS_NALIGN) ∧
        Touches [.tko, .aout, .spk] (audioPages ++ [0x03, 0x06]) [] s u) ∧
  (∀ (s : State), 
      s.tkoOn = true → s.tkoPhase = 2 → s.tkoNew < 3 → s.frozen = false →
      ∃ u, Yields .takeoverAlignTimeout s u ∧
        u.tkoOn = false ∧
        u.get F.CLK_TAKEOVER_STATUS_ABORT_CAUSE = 2 ∧
        u.tkoPhase = 0 ∧
        u.on F.CLK_TAKEOVER_STATUS_ABORTED = true ∧
        u.on (F.PG_IRQ 0x03 5) = true ∧
        u.pllRole s.tkoNew = 2 ∧
        u.get F.CLK_ROLE_FAM_A_PLL = s.get F.CLK_ROLE_FAM_A_PLL ∧
        u.get F.CLK_ROLE_FAM_B_PLL = s.get F.CLK_ROLE_FAM_B_PLL ∧
        Touches (audioParts ++ jobParts ++ ([.famOut, .usb, .feChange, .opHeld, .tkoOn, .tko, .free, .otp] : List Part)) (audioPages ++ [0x03, 0x06]) [] s u) ∧
  (∀ (last : Fin 8) (s : State), 
      s.tkoOn = true → s.on F.CLK_TAKEOVER_STATUS_MODE = false → (s.tkoPhase = 3 ∨ s.tkoPhase = 4) → s.frozen = false → last.val < 7 → (s.tkoPhase = 4 → s.tko.done < 8) →
      ∃ u, Yields (.takeoverSwitchDone last) s u ∧
        u.tkoOn = true ∧
        u.tkoPhase = 4 ∧
        (u.tko.done = max (if s.tkoPhase = 4 then s.tko.done else 0) (last.val + 1)) ∧
        (u.tko.done = 1 → u.get F.FIF_STATUS_NALIGN = bitsOf ((List.range 8).map (fun c => decide (rateFamily (s.aoutAt c).rate = s.tkoFam)))) ∧
        (1 < u.tko.done → u.get F.FIF_STATUS_NALIGN = 0) ∧
        u.islandPll .ain s.tkoFam = s.tkoNew ∧
        u.islandPll .ports s.tkoFam = s.famPll s.tkoFam ∧
        Touches [.tko] [] [F.CLK_TAKEOVER_STATUS_PHASE, F.FIF_STATUS_NALIGN] s u) ∧
  (∀ (s : State), 
      s.tkoOn = true → s.on F.CLK_TAKEOVER_STATUS_MODE = false → (s.tkoPhase = 3 ∨ s.tkoPhase = 4) → s.tkoNew < 3 → s.tkoOld < 3 → s.tkoNew ≠ s.tkoOld → s.frozen = false →
      ∃ u, Yields (.takeoverSwitchDone 7) s u ∧
        u.tkoOn = false ∧
        u.tkoPhase = 6 ∧
        u.pllRole s.tkoNew = s.tkoFam ∧
        u.pllRole s.tkoOld = 3 ∧
        u.famPll s.tkoFam = s.tkoNew ∧
        u.on (F.PG_IRQ 0x03 4) = true ∧
        u.get F.FIF_STATUS_NALIGN = 0 ∧
        Touches (audioParts ++ jobParts ++ ([.famOut, .usb, .feChange, .opHeld, .tkoOn, .tko, .free, .otp] : List Part)) (audioPages ++ [0x03, 0x06]) [] s u) ∧
  (∀ (s : State), 
      s.tkoOn = true → s.on F.CLK_TAKEOVER_STATUS_MODE = true → (s.tkoPhase = 3 ∨ s.tkoPhase = 5) → s.tkoNew < 3 → s.tkoOld < 3 → s.tkoNew ≠ s.tkoOld → s.frozen = false →
      ∃ u, Yields .takeoverWindowDone s u ∧
        u.tkoOn = false ∧
        u.tkoPhase = 6 ∧
        u.pllRole s.tkoNew = s.tkoFam ∧
        u.pllRole s.tkoOld = 3 ∧
        u.famPll s.tkoFam = s.tkoNew ∧
        u.on (F.PG_IRQ 0x03 4) = true ∧
        (u.famUp (feFamily s.fe) = true → u.engStop = false) ∧
        Touches (audioParts ++ jobParts ++ ([.famOut, .usb, .feChange, .opHeld, .tkoOn, .tko, .free, .otp] : List Part)) (audioPages ++ [0x03, 0x06]) [] s u) ∧
  (∀ (x : Fin 3) (steady bad : Bool) (s : State), 
      s.pllTest = some (x.val, bad) → (s.famUp 0 = true ∨ s.famUp 1 = true) → s.mgmtRuns = true →
      ∃ u, Yields (.pllHealthTestDone x steady) s u ∧
        u.pllTest = none ∧
        (steady = true → bad = false → s.pllLocked x = true → u.pllRole x = 2) ∧
        (steady = false ∨ bad = true ∨ s.pllLocked x = false → u.pllRole x = 4 ∧ u.get (F.PG_FAULT 0x03) = 3 ∧ (s.get (F.PG_FAULT 0x03) = 0 → u.on (F.PG_IRQ 0x03 1) = true)) ∧
        u.get F.CLK_ROLE_FAM_A_PLL = s.get F.CLK_ROLE_FAM_A_PLL ∧
        Touches [.pllTest, .jobs, .otp] [] [F.CLK_ROLE_OF x, F.CLK_PLL_STATUS_STATE x, F.PG_FAULT 0x03, F.PG_IRQ 0x03 1, whole A.MNT_LOG, F.PG_FAULT 6, F.PG_IRQ 6 1, F.PG_IRQ 6 5] s u)

/-- USB_VBUS_VALID with VBUS clear, outside OFF and reset: VBUS is set and CONNECTED is as the conditions of the connection say; a new connection latches the descriptors and raises its interrupt; with USBVDD bad, fault 0x01. USB_DISCONNECT of a connected function, by VBUS, the PHY PLL or USBVDD: CONNECTED clear, its interrupt, VBUS_LOST where VBUS went, the PLL or the rail down, fault 0x01 where USBVDD went with VBUS there, the address, CONFIGURED, remote wake, the alternate settings, the HID queue and any vendor transfer gone, the tracker UNLOCKED with no stop counted. USB_ENABLE_WRITE of a change: CONNECTED as the conditions say; 0 disconnects and stops the PHY PLL. USB_CFG_WRITE: the bits held; a change of UAC or SYNC while connected disconnects for a forced reconnect; else the connection is as it was. USB_BUS_RESET of a connected function: BUS_RESET flag, count and interrupt, the same things gone, not suspended, HS as negotiated unless FS_ONLY. USB_FORCED_RECONNECT ends the reconnect and CONNECTED follows the conditions. USB_PHY_PLL_LOCK of a wanted PLL: up, no fault 0x02, connected if the conditions hold. USB_PHY_PLL_LOCK_TIMEOUT: fault 0x02 and, if none stood, its interrupt. USB_SET_ADDRESS holds the address. USB_SET_CONFIGURATION: 1 configures and keeps the alternate settings, 0 ends it and clears them, above 1 STALLs; a change raises its interrupt. USB_GET_DESCRIPTOR: the device descriptor's length, vendor and product; the BOS; strings 1, 3 and the STALL above 3; at most the asked length. Each with its frame. -/
def Obligations.UsbConnection : Prop :=
  (∀ (s : State), 
      s.domState ≤ 4 → s.on F.USB_STATE_VBUS = false →
      ∃ u, Yields .usbVbusValid s u ∧
        u.on F.USB_STATE_VBUS = true ∧
        u.on F.USB_STATE_CONNECTED = u.usbMay ∧
        (s.on F.USB_STATE_CONNECTED = false → u.on F.USB_STATE_CONNECTED = true → u.usb.desc = descRegs.map s.reg ∧ u.on (F.PG_IRQ 0x0A 2) = true) ∧
        (s.pins.usbvdd = false → u.get (F.PG_FAULT 0x0A) = 1) ∧
        Touches [.usb, .lanes, .lst, .trk, .pwr] (0x0A :: (List.range 48).map (· + 0x30) ++ [0x01]) (lstStatusFlds ++ trkFlds 0) s u) ∧
  (∀ (cause : Fin 3) (s : State), 
      s.on F.USB_STATE_CONNECTED = true → (cause.val = 0 → s.domState ≤ 4 ∧ s.on F.USB_STATE_VBUS = true) → (cause.val = 2 → s.domState ≤ 1) →
      ∃ u, Yields (.usbDisconnect cause) s u ∧
        u.on F.USB_STATE_CONNECTED = false ∧
        (cause.val = 0 → u.on F.USB_STATE_VBUS = false ∧ u.get F.USB_FLAGS_VBUS_LOST = 1) ∧
        (cause.val = 1 → u.usb.phy = false) ∧
        (cause.val = 2 → u.pins.usbvdd = false ∧ (s.on F.USB_STATE_VBUS = true → u.get (F.PG_FAULT 0x0A) = 1)) ∧
        (cause.val ≠ 2 → u.pins = s.pins) ∧
        u.on (F.PG_IRQ 0x0A 2) = true ∧
        u.get F.USB_STATE_ADDR = 0 ∧
        u.on F.USB_STATE_CONFIGURED = false ∧
        u.get F.USB_STATE_RWAKE_EN = 0 ∧
        (∀ i : Nat, i < 4 → u.usbAlt i = 0) ∧
        u.usb.hid = [] ∧
        u.vendorBusy = false ∧
        u.get (F.CLK_TRK_STATUS_STATE 0) = 0 ∧
        u.reg (A.CLK_TRK_COUNT 0) = s.reg (A.CLK_TRK_COUNT 0) ∧
        Touches (([.usb, .lanes, .lst, .trk, .pwr, .pins] : List Part)) (0x0A :: (List.range 48).map (· + 0x30) ++ [0x01]) (lstStatusFlds ++ trkFlds 0) s u) ∧
  (∀ (ini : Fin 5) (w : Word) (s : State), 
      s.mayWrite ini (0x0A * 0x400 + 4) w = true → s.on (F.PG_ENABLE 0x0A) ≠ decide (bits w 0 1 = 1) →
      ∃ u, Yields (.usbEnableWrite ini w) s u ∧
        u.get (F.PG_ENABLE 0x0A) = bits w 0 1 ∧
        u.on F.USB_STATE_CONNECTED = u.usbMay ∧
        (bits w 0 1 = 0 → u.on F.USB_STATE_CONNECTED = false ∧ u.usb.phy = false) ∧
        Touches [.usb, .lanes, .lst, .trk] (0x0A :: (List.range 48).map (· + 0x30)) (lstStatusFlds ++ trkFlds 0) s u) ∧
  (∀ (ini : Fin 5) (w : Word) (s : State), 
      s.mayWrite ini A.USB_CFG w = true →
      ∃ u, Yields (.usbCfgWrite ini w) s u ∧
        u.get F.USB_CFG_UAC = bits w 0 1 ∧
        u.get F.USB_CFG_SYNC = bits w 1 1 ∧
        u.get F.USB_CFG_FS_ONLY = bits w 3 1 ∧
        u.get F.USB_CFG_HID_EN = bits w 5 1 ∧
        u.get F.USB_CFG_VENDOR_EN = bits w 6 1 ∧
        (s.on F.USB_STATE_CONNECTED = true → bits w 0 2 ≠ bits (s.reg A.USB_CFG) 0 2 → u.usb.reconnect = true ∧ u.on F.USB_STATE_CONNECTED = false) ∧
        (s.on F.USB_STATE_CONNECTED = false ∨ bits w 0 2 = bits (s.reg A.USB_CFG) 0 2 → u.usb = s.usb ∧ u.reg A.USB_STATE = s.reg A.USB_STATE) ∧
        Touches [.usb, .lanes, .lst, .trk] (0x0A :: (List.range 48).map (· + 0x30)) (lstStatusFlds ++ trkFlds 0) s u) ∧
  (∀ (hs : Bool) (s : State), 
      s.clocked .usb = true → s.on F.USB_STATE_CONNECTED = true →
      ∃ u, Yields (.usbBusReset hs) s u ∧
        u.on F.USB_STATE_CONNECTED = true ∧
        u.get F.USB_FLAGS_BUS_RESET = 1 ∧
        u.get F.USB_COUNT_BUS_RESETS = min (s.get F.USB_COUNT_BUS_RESETS + 1) 0xFFFF ∧
        u.on (F.PG_IRQ 0x0A 3) = true ∧
        u.get F.USB_STATE_ADDR = 0 ∧
        u.on F.USB_STATE_CONFIGURED = false ∧
        u.get F.USB_STATE_RWAKE_EN = 0 ∧
        (∀ i : Nat, i < 4 → u.usbAlt i = 0) ∧
        u.usb.hid = [] ∧
        u.vendorBusy = false ∧
        u.on F.USB_STATE_SUSPENDED = false ∧
        u.on F.USB_STATE_HS = (hs && !s.usbCfg 3) ∧
        Touches [.usb, .lanes, .lst] (0x0A :: (List.range 48).map (· + 0x30)) lstStatusFlds s u) ∧
  (∀ (s : State), 
      s.usb.reconnect = true →
      ∃ u, Yields .usbForcedReconnect s u ∧
        u.usb.reconnect = false ∧
        u.on F.USB_STATE_CONNECTED = u.usbMay ∧
        (s.on F.USB_STATE_CONNECTED = false → u.on F.USB_STATE_CONNECTED = true → u.usb.desc = descRegs.map s.reg) ∧
        Touches [.usb, .lanes, .lst, .trk] (0x0A :: (List.range 48).map (· + 0x30)) (lstStatusFlds ++ trkFlds 0) s u) ∧
  (∀ (s : State), 
      s.phyWanted = true → s.usb.phy = false →
      ∃ u, Yields .usbPhyPllLock s u ∧
        u.usb.phy = true ∧
        u.on F.USB_STATE_CONNECTED = u.usbMay ∧
        u.get (F.PG_FAULT 0x0A) ≠ 2 ∧
        (s.usb.reconnect = false → s.get F.USB_ID_VID ≠ 0 → u.on F.USB_STATE_CONNECTED = true) ∧
        Touches [.usb, .lanes, .lst, .trk] (0x0A :: (List.range 48).map (· + 0x30)) (lstStatusFlds ++ trkFlds 0) s u) ∧
  (∀ (s : State), 
      s.phyWanted = true → s.usb.phy = false →
      ∃ u, Yields .usbPhyPllLockTimeout s u ∧
        u.get (F.PG_FAULT 0x0A) = 2 ∧
        (s.get (F.PG_FAULT 0x0A) = 0 → u.on (F.PG_IRQ 0x0A 1) = true) ∧
        Touches [] [] [F.PG_FAULT 0x0A, F.PG_IRQ 0x0A 1] s u) ∧
  (∀ (a : Fin 128) (s : State), 
      s.clocked .usb = true → s.on F.USB_STATE_CONNECTED = true →
      ∃ u, Yields (.usbSetAddress a) s u ∧
        u.get F.USB_STATE_ADDR = a ∧
        u.usb.stall = false ∧
        u.usb.reply = [] ∧
        Touches [.usb] [] [F.USB_STATE_ADDR] s u) ∧
  (∀ (c : Nat) (s : State), 
      s.clocked .usb = true → s.on F.USB_STATE_CONNECTED = true →
      ∃ u, Yields (.usbSetConfiguration c) s u ∧
        (c = 1 → u.on F.USB_STATE_CONFIGURED = true ∧ u.usb.stall = false ∧ u.reg A.USB_ALT = s.reg A.USB_ALT) ∧
        (c = 0 → u.on F.USB_STATE_CONFIGURED = false ∧ u.usb.stall = false ∧ ∀ i : Nat, i < 4 → u.usbAlt i = 0) ∧
        (1 < c → u.usb.stall = true ∧ u.on F.USB_STATE_CONFIGURED = s.on F.USB_STATE_CONFIGURED) ∧
        (c ≤ 1 → s.on F.USB_STATE_CONFIGURED ≠ decide (c = 1) → u.on (F.PG_IRQ 0x0A 6) = true) ∧
        Touches [.usb, .lanes] (0x0A :: (List.range 48).map (· + 0x30)) [] s u) ∧
  (∀ (type index length : Nat) (s : State), 
      s.clocked .usb = true → s.on F.USB_STATE_CONNECTED = true →
      ∃ u, Yields (.usbGetDescriptor type index length) s u ∧
        (type = 1 → u.usb.stall = false ∧ u.usb.reply.length = min length 18 ∧ (12 ≤ length → u.usb.reply.getD 8 0 + 256 * u.usb.reply.getD 9 0 = bits (s.descWord 1) 0 16 ∧ u.usb.reply.getD 10 0 + 256 * u.usb.reply.getD 11 0 = bits (s.descWord 1) 16 16)) ∧
        (type = 15 → u.usb.reply = [5, 15, 12, 0, 1, 7, 16, 2, 0x0E, 0x04, 0, 0].take length) ∧
        (type = 3 → 3 < index → u.usb.stall = true) ∧
        (type = 3 → index = 3 → u.usb.reply = (stringDesc s.serialString).take length) ∧
        (type = 3 → index = 1 → u.usb.reply = (stringDesc (s.descString 8 16)).take length) ∧
        u.usb.reply.length ≤ length ∧
        Touches [.usb] [] [] s u)

/-- With the function configured and its island clocked. USB_SET_INTERFACE: an alternate setting up to 2 that fits the bandwidth is set, with SUBSLOT3, and a started output stream stops; one that does not fit STALLs with BW_REFUSED and its interrupt, no setting or lane changed; above 2 STALLs; a change raises its interrupt. USB_SET_SAMPLING_FREQ: a rate not offered STALLs; one offered that fits sets RATE and VALID, raises its interrupt and, if new, counts HOST_SET and puts a locked tracker 0 to ACQUIRE; one that does not fit STALLs with BW_REFUSED. USB_FU_SET_CUR holds MUTE, or VOL clamped to -96 dB to 0; a change raises FU_CHANGE. USB_OUT_PACKET outside a freeze: one of an interface that a suspend stopped changes no stream; else the stream starts; whole frames within the interval's limit join the hold, a partial frame is counted. USB_PACKET_MISSING of a started stream: counted, and the nominal frames join the hold. USB_STREAM_STOP of a started one: STOPPED, its running source lanes fade with their flag, no other lane changes. USB_IN_PACKET sends the previous interval's frames whole and empties them. USB_FEEDBACK_IN of an asynchronous stream: outside LOCKED its value repeats; in LOCKED a first one is the measured value (before one, the nominal: log 169) and a later one rises by at most 0.1 % of nominal a bus interval; 4 bytes at high speed, 3 at full. USB_SOF ends the interval of both output streams; when recovered, outside a freeze, an UNLOCKED tracker 0 goes to ACQUIRE; a predicted one is counted, and the second in a row takes a locked tracker to HOLDOVER with STOP counted; a recovered one, asynchronous with a locked tracker, joins the measurement, which after 2^FB_P intervals gives the sample clock's periods an interval in 16.16. wMaxPacketSize at high speed is the packet's bytes up to 1,024, and above up to 3,072 two or three equal transactions of at most 1,024 that hold it; 16 channels at 192 kHz in 3-byte subslots give 0x0A58. Each command with its frame. -/
def Obligations.UsbStreams : Prop :=
  (∀ (stream : Fin 4) (alt : Nat) (s : State), 
      s.clocked .usb = true → s.on F.USB_STATE_CONNECTED = true → s.on F.USB_STATE_CONFIGURED = true →
      ∃ u, Yields (.usbSetInterface stream alt) s u ∧
        (alt ≤ 2 → s.usbFits (fun k => if k = stream then alt else s.usbAlt k) s.usbHz = true → u.usbAlt stream = alt ∧ u.usb.stall = false ∧ u.on (F.USB_AS_STATUS_SUBSLOT3 stream) = decide (alt = 2) ∧ u.on (F.USB_AS_STATUS_ACTIVE stream) = (s.on (F.USB_AS_STATUS_ACTIVE stream) && decide (stream.val < 2) && !(s.usbOut stream).started)) ∧
        (alt ≤ 2 → s.usbFits (fun k => if k = stream then alt else s.usbAlt k) s.usbHz = false → u.usb.stall = true ∧ u.get F.USB_FLAGS_BW_REFUSED = 1 ∧ u.on (F.PG_IRQ 0x0A 11) = true ∧ u.reg A.USB_ALT = s.reg A.USB_ALT ∧ u.lanes = s.lanes) ∧
        (2 < alt → u.usb.stall = true ∧ u.reg A.USB_ALT = s.reg A.USB_ALT) ∧
        (alt ≤ 2 → alt ≠ s.usbAlt stream → s.usbFits (fun k => if k = stream then alt else s.usbAlt k) s.usbHz = true → u.on (F.PG_IRQ 0x0A 7) = true) ∧
        Touches [.usb, .lanes] (0x0A :: (List.range 48).map (· + 0x30)) [] s u) ∧
  (∀ (hz : Nat) (s : State), 
      s.clocked .usb = true → s.on F.USB_STATE_CONNECTED = true → s.on F.USB_STATE_CONFIGURED = true →
      ∃ u, Yields (.usbSetSamplingFreq hz) s u ∧
        (rateHz (rateCode hz) ≠ hz ∨ s.usbOffers (rateCode hz) = false → u.usb.stall = true ∧ u.reg A.USB_CLOCK = s.reg A.USB_CLOCK ∧ u.trk = s.trk) ∧
        (rateHz (rateCode hz) = hz → s.usbOffers (rateCode hz) = true → s.usbFits s.usbAlt hz = true → u.usb.stall = false ∧ u.get F.USB_CLOCK_RATE = rateCode hz ∧ u.on F.USB_CLOCK_VALID = true ∧ u.on (F.PG_IRQ 0x0A 8) = true ∧ (rateCode hz ≠ s.get F.USB_CLOCK_RATE → u.get F.USB_CLOCK_HOST_SET = min (s.get F.USB_CLOCK_HOST_SET + 1) 0xFFFF ∧ (s.trkState 2 = 2 → u.trkState 2 = 1)) ∧ (rateCode hz = s.get F.USB_CLOCK_RATE → u.get F.USB_CLOCK_HOST_SET = s.get F.USB_CLOCK_HOST_SET)) ∧
        (rateHz (rateCode hz) = hz → s.usbOffers (rateCode hz) = true → s.usbFits s.usbAlt hz = false → u.usb.stall = true ∧ u.reg A.USB_CLOCK = s.reg A.USB_CLOCK ∧ u.get F.USB_FLAGS_BW_REFUSED = 1) ∧
        Touches [.usb, .lanes, .trk] (0x0A :: (List.range 48).map (· + 0x30)) (F.CLK_TRK_STATUS_RATE_CHG 0 :: trkFlds 0) s u) ∧
  (∀ (stream : Fin 4) (isMute : Bool) (value : Int) (s : State), 
      s.clocked .usb = true → s.on F.USB_STATE_CONNECTED = true → s.on F.USB_STATE_CONFIGURED = true →
      ∃ u, Yields (.usbFuSetCur stream isMute value) s u ∧
        (isMute = true → u.on (F.USB_FU_MUTE stream) = decide (value ≠ 0) ∧ u.get (F.USB_FU_VOL stream) = s.get (F.USB_FU_VOL stream)) ∧
        (isMute = false → signed 16 (u.get (F.USB_FU_VOL stream)) = max (-24576) (min 0 value) ∧ u.on (F.USB_FU_MUTE stream) = s.on (F.USB_FU_MUTE stream)) ∧
        (u.reg (A.USB_FU stream) ≠ s.reg (A.USB_FU stream) → u.on (F.PG_IRQ 0x0A 9) = true) ∧
        u.usb.stall = false ∧
        Touches [.usb] [] [F.USB_FU_MUTE stream, F.USB_FU_VOL stream, F.PG_IRQ 0x0A 9] s u) ∧
  (∀ (j : Fin 2) (data : List Nat) (s : State), 
      s.frozen = false → s.usbLive = true → s.usbAlt j ≠ 0 → s.on F.USB_CLOCK_VALID = true → 1 ≤ s.usbCh j → s.usb.held.testBit j = false →
      ∃ u, Yields (.usbOutPacket j data) s u ∧
        u.on (F.USB_AS_STATUS_ACTIVE j) = true ∧
        (u.usbOut j).started = true ∧
        ((data.length % (s.usbCh j * subslot (s.usbAlt j)) = 0 ∧ data.length ≤ (ceilDiv s.usbHz s.busHz + 1) * (s.usbCh j * subslot (s.usbAlt j))) → u.get (F.USB_AS_COUNT_PARTIAL j) = s.get (F.USB_AS_COUNT_PARTIAL j) ∧ (u.usbOut j).hold.length = (s.usbOut j).hold.length + data.length / (s.usbCh j * subslot (s.usbAlt j))) ∧
        (data.length % (s.usbCh j * subslot (s.usbAlt j)) ≠ 0 → u.get (F.USB_AS_COUNT_PARTIAL j) = min (s.get (F.USB_AS_COUNT_PARTIAL j) + 1) 0xFFFF) ∧
        Touches [.usb] [] [F.USB_AS_STATUS_ACTIVE j, F.USB_AS_COUNT_PARTIAL j] s u) ∧
  (∀ (j : Fin 2) (data : List Nat) (s : State), 
      s.frozen = false → s.usb.held.testBit j = true →
      ∃ u, Yields (.usbOutPacket j data) s u ∧
        u.usb.outs = s.usb.outs ∧
        Touches [] [] [] s u) ∧
  (∀ (j : Fin 2) (s : State), 
      s.frozen = false → s.usbLive = true → (s.usbOut j).started = true →
      ∃ u, Yields (.usbPacketMissing j) s u ∧
        u.get (F.USB_AS_COUNT_MISSED j) = min (s.get (F.USB_AS_COUNT_MISSED j) + 1) 0xFFFF ∧
        (u.usbOut j).hold.length = (s.usbOut j).hold.length + s.nominal ∧
        u.reg (A.USB_AS_STATUS j) = s.reg (A.USB_AS_STATUS j) ∧
        Touches [.usb] [] [F.USB_AS_COUNT_MISSED j] s u) ∧
  (∀ (j : Fin 2) (s : State), 
      s.clocked .usb = true → s.frozen = false → (s.usbOut j).started = true →
      ∃ u, Yields (.usbStreamStop j) s u ∧
        (u.usbOut j).started = false ∧
        u.on (F.USB_AS_STATUS_ACTIVE j) = false ∧
        u.get (F.USB_AS_STATUS_STOPPED j) = 1 ∧
        u.usbAlt j = s.usbAlt j ∧
        (∀ n : Nat, n < 48 → ((s.laneAt n).phase = .running ∧ (s.laneAt n).dir = false ∧ 0x2C + 16 * j.val ≤ (s.laneAt n).sid ∧ (s.laneAt n).sid < 0x3C + 16 * j.val) → (u.laneAt n).event.up = false ∧ u.get (F.LANE_FLAGS_STOPPED n) = 1) ∧
        (∀ n : Nat, n < 48 → (s.laneAt n).sid < 0x2C + 16 * j.val ∨ 0x3C + 16 * j.val ≤ (s.laneAt n).sid → u.laneAt n = s.laneAt n) ∧
        Touches [.usb, .lanes] ((List.range 48).map (· + 0x30)) [F.USB_AS_STATUS_ACTIVE j, F.USB_AS_STATUS_STOPPED j] s u) ∧
  (∀ (j : Fin 2) (s : State), 
      s.frozen = false → s.usbLive = true → s.usbAlt (2 + j) ≠ 0 → s.on F.USB_CLOCK_VALID = true → s.usb.held.testBit (2 + j) = false →
      ∃ u, Yields (.usbInPacket j) s u ∧
        u.on (F.USB_AS_STATUS_ACTIVE (2 + j)) = true ∧
        (vget u.usb.ins j.val ⟨Vector.replicate 16 [], [], [], []⟩).sent.length = s.usbCh (2 + j) * subslot (s.usbAlt (2 + j)) * (vget s.usb.ins j.val ⟨Vector.replicate 16 [], [], [], []⟩).prev.length ∧
        (vget u.usb.ins j.val ⟨Vector.replicate 16 [], [], [], []⟩).prev = [] ∧
        Touches [.usb] [] [F.USB_AS_STATUS_ACTIVE (2 + j)] s u) ∧
  (∀ (j : Fin 2) (s : State), 
      s.frozen = false → s.usbLive = true → s.usbAdaptive = false → s.usbAlt j ≠ 0 →
      ∃ u, Yields (.usbFeedbackIn j) s u ∧
        (s.trkState 2 ≠ 2 → u.get (F.USB_FB_VALUE j) = s.get (F.USB_FB_VALUE j)) ∧
        (s.on F.USB_STATE_HS = true → u.usb.reply = wordBytes (u.get (F.USB_FB_VALUE j))) ∧
        (s.on F.USB_STATE_HS = false → u.usb.reply.length = 3) ∧
        (s.trkState 2 = 2 → s.get (F.USB_FB_VALUE j) = 0 → u.get (F.USB_FB_VALUE j) = (s.usb.fbCount.getD (divRne (s.usbHz * 65536) s.busHz).toNat) % 2 ^ 32) ∧
        (s.trkState 2 = 2 → s.get (F.USB_FB_VALUE j) ≠ 0 → s.usb.fbCount.getD 0 < 2 ^ 32 → u.get (F.USB_FB_VALUE j) ≤ s.get (F.USB_FB_VALUE j) + (divRne (s.usbHz * 65536) s.busHz).toNat * 2 ^ s.get F.CLK_MAINS_CTRL_FB_P / 1000) ∧
        Touches [.usb] [] [F.USB_FB_VALUE j] s u) ∧
  ((∀ (s : State) (i alt : Nat), s.on F.USB_STATE_HS = true →
      (packetBytes (s.usbCh i) (subslot alt) s.usbMaxHz 8000 ≤ 1024 → s.wMaxPacket i alt = packetBytes (s.usbCh i) (subslot alt) s.usbMaxHz 8000) ∧
        (1024 < packetBytes (s.usbCh i) (subslot alt) s.usbMaxHz 8000 → packetBytes (s.usbCh i) (subslot alt) s.usbMaxHz 8000 ≤ 3072 →
          s.wMaxPacket i alt / 2048 + 1 = ceilDiv (packetBytes (s.usbCh i) (subslot alt) s.usbMaxHz 8000) 1024 ∧
            s.wMaxPacket i alt % 2048 ≤ 1024 ∧
            packetBytes (s.usbCh i) (subslot alt) s.usbMaxHz 8000 ≤ (s.wMaxPacket i alt / 2048 + 1) * (s.wMaxPacket i alt % 2048)) ∧
        (s.usbCh i = 16 → s.usbMaxHz = 192000 → s.wMaxPacket i 2 = 0x0A58))) ∧
  (∀ (missing : Bool) (period : Nat) (s : State), 
      s.usbLive = true →
      ∃ u, Yields (.usbSof missing period) s u ∧
        (∀ j : Nat, j < 2 → (u.usbOut j).hold = [] ∧ (u.usbOut j).mid = (s.usbOut j).hold) ∧
        (missing = false → s.frozen = false → s.trkState 2 = 0 → s.clocked .mgmt = true → u.trkState 2 = 1) ∧
        (u.usb.sofMiss = if missing then s.usb.sofMiss + 1 else 0) ∧
        (missing = true → 1 ≤ s.usb.sofMiss → s.frozen = false → s.clocked .mgmt = true → s.trkState 2 = 2 → u.trkState 2 = 3 ∧ u.get (F.CLK_TRK_COUNT_STOPS 0) = min (s.get (F.CLK_TRK_COUNT_STOPS 0) + 1) 0xFFFF) ∧
        (missing = false → s.usbAdaptive = false → u.trkState 2 = 2 → s.usb.fbN + 1 < 2 ^ s.get F.CLK_MAINS_CTRL_FB_P → u.usb.fbSum = s.usb.fbSum + period ∧ u.usb.fbN = s.usb.fbN + 1 ∧ u.usb.fbCount = s.usb.fbCount) ∧
        (missing = false → s.usbAdaptive = false → u.trkState 2 = 2 → 2 ^ s.get F.CLK_MAINS_CTRL_FB_P ≤ s.usb.fbN + 1 → u.usb.fbCount = some (divRne ((s.usb.fbSum + period) * s.usbHz * 65536 : Nat) (196608000 * (s.usb.fbN + 1))).toNat ∧ u.usb.fbN = 0) ∧
        u.reg A.USB_STATE = s.reg A.USB_STATE ∧
        Touches [.usb, .trk, .lanes] ((List.range 48).map (· + 0x30)) ([F.CLK_TRK_STATUS_GLITCH 0, F.CLK_TRK_COUNT_GLITCHES 0, F.CLK_TRK_STATUS_STOP 0, F.CLK_TRK_COUNT_STOPS 0] ++ trkFlds 0) s u)

/-- USB_SET_REPORT of report 3 with HID_EN holds LED and raises HID_LED; any other STALLs and holds nothing. USB_HID_POLL with HID_EN sends the oldest queued report, outside a freeze. USB_SUSPEND of a connected function: SUSPENDED, L1 clear, counted, its interrupt, both output streams stopped, every selected interface held until the host selects it again, the history stream ended, still connected, no K state sent. USB_RESUME outside OFF and reset, SUSPENDED: clear, RESUMED, its interrupt, a held wake dropped. USB_L1_TOKEN: BESL is held at each token; with every alternate setting 0 and no vendor transfer L1 is set, counted and acknowledged with the host's wake permission; else it is refused. USB_L1_EXIT: L1 clear, no wake request left. USB_REMOTE_WAKE of a request, connected: suspended and not permitted sets WAKE_BLOCKED; permitted with the idle wait over sends a K state; within it the request is held; in L1 as the token permitted. USB_RWAKE_IDLE_WAIT_END, suspended: the idle is over and a held request is sent. USB_WAKE_NOW, for a word the initiator may write: a request only of a connected link that is suspended or in L1; the enables held; WAKE_BLOCKED cleared by a one. USB_SET_FEATURE_RWAKE: with RWAKE_CAP permitted, else STALLed. USB_CNT_CLR clears the counters of the page's COUNT register, the stream counts and the history overruns. Each with its frame. -/
def Obligations.UsbHidAndLink : Prop :=
  (∀ (id value : Nat) (s : State), 
      s.usbLive = true → s.on F.USB_STATE_CONFIGURED = true →
      ∃ u, Yields (.usbSetReport id value) s u ∧
        (id = 3 → s.usbCfg 5 = true → u.get F.USB_HID_STATUS_LED = value % 8 ∧ u.on (F.PG_IRQ 0x0A 10) = true ∧ u.usb.stall = false) ∧
        (id ≠ 3 ∨ s.usbCfg 5 = false → u.usb.stall = true ∧ u.reg A.USB_HID_STATUS = s.reg A.USB_HID_STATUS) ∧
        Touches [.usb] [] [F.USB_HID_STATUS_LED, F.PG_IRQ 0x0A 10] s u) ∧
  (∀ (s : State), 
      s.frozen = false → s.usbLive = true → s.on F.USB_STATE_CONFIGURED = true → s.usbCfg 5 = true →
      ∃ u, Yields .usbHidPoll s u ∧
        u.usb.reply = s.usb.hid.headD [] ∧
        u.usb.hid = s.usb.hid.tail ∧
        u.usb.stall = false ∧
        Touches [.usb] [] [] s u) ∧
  (∀ (s : State), 
      s.clocked .usb = true → s.on F.USB_STATE_CONNECTED = true → s.on F.USB_STATE_SUSPENDED = false →
      ∃ u, Yields .usbSuspend s u ∧
        u.on F.USB_STATE_SUSPENDED = true ∧
        u.on F.USB_STATE_L1 = false ∧
        u.get F.USB_COUNT_SUSPENDS = min (s.get F.USB_COUNT_SUSPENDS + 1) 0xFFFF ∧
        u.on (F.PG_IRQ 0x0A 4) = true ∧
        (∀ j : Nat, j < 2 → (u.usbOut j).started = false) ∧
        u.lst.hist.on = false ∧
        u.on F.USB_STATE_CONNECTED = true ∧
        u.usb.kSent = s.usb.kSent ∧
        Touches [.usb, .lanes, .lst] (0x0A :: (List.range 48).map (· + 0x30)) lstStatusFlds s u) ∧
  (∀ (s : State), 
      s.domState ≤ 4 → s.on F.USB_STATE_SUSPENDED = true →
      ∃ u, Yields .usbResume s u ∧
        u.on F.USB_STATE_SUSPENDED = false ∧
        u.get F.USB_FLAGS_RESUMED = 1 ∧
        u.on (F.PG_IRQ 0x0A 5) = true ∧
        u.usb.wakeHeld = false ∧
        Touches [.usb, .pwr] [0x01] [F.USB_STATE_SUSPENDED, F.USB_FLAGS_RESUMED, F.PG_IRQ 0x0A 5] s u) ∧
  (∀ (besl : Fin 16) (rwake : Bool) (s : State), 
      s.usbLive = true →
      ∃ u, Yields (.usbL1Token besl rwake) s u ∧
        ((∀ i : Nat, i < 4 → s.usbAlt i = 0) → s.vendorBusy = false → u.on F.USB_STATE_L1 = true ∧ u.get F.USB_LPM_BESL = besl ∧ u.get F.USB_LPM_L1_ENTRIES = min (s.get F.USB_LPM_L1_ENTRIES + 1) 0xFFFF ∧ u.usb.l1Wake = rwake ∧ u.usb.stall = false) ∧
        (s.vendorBusy = true ∨ ¬ (∀ i : Nat, i < 4 → s.usbAlt i = 0) → u.usb.stall = true ∧ u.get F.USB_LPM_BESL = besl ∧ u.get F.USB_LPM_L1_ENTRIES = s.get F.USB_LPM_L1_ENTRIES ∧ u.on F.USB_STATE_L1 = s.on F.USB_STATE_L1) ∧
        Touches [.usb] [] [F.USB_STATE_L1, F.USB_LPM_BESL, F.USB_LPM_L1_ENTRIES] s u) ∧
  (∀ (s : State), 
      s.clocked .usb = true → s.on F.USB_STATE_L1 = true →
      ∃ u, Yields .usbL1Exit s u ∧
        u.on F.USB_STATE_L1 = false ∧
        u.usb = { s.usb with wakeReq := false } ∧
        Touches [.usb] [] [F.USB_STATE_L1] s u) ∧
  (∀ (s : State), 
      s.usb.wakeReq = true → s.on F.USB_STATE_CONNECTED = true →
      ∃ u, Yields .usbRemoteWake s u ∧
        u.usb.wakeReq = false ∧
        (s.on F.USB_STATE_SUSPENDED = true → s.on F.USB_STATE_RWAKE_EN = false → u.get F.USB_WAKE_WAKE_BLOCKED = 1 ∧ u.usb.kSent = s.usb.kSent) ∧
        (s.on F.USB_STATE_SUSPENDED = true → s.on F.USB_STATE_RWAKE_EN = true → s.usb.idle5 = true → u.usb.kSent = s.usb.kSent + 1) ∧
        (s.on F.USB_STATE_SUSPENDED = true → s.on F.USB_STATE_RWAKE_EN = true → s.usb.idle5 = false → u.usb.kSent = s.usb.kSent ∧ u.usb.wakeHeld = true) ∧
        (s.on F.USB_STATE_SUSPENDED = false → s.on F.USB_STATE_L1 = true → s.usb.l1Wake = true → u.usb.kSent = s.usb.kSent + 1) ∧
        (s.on F.USB_STATE_SUSPENDED = false → s.on F.USB_STATE_L1 = true → s.usb.l1Wake = false → u.get F.USB_WAKE_WAKE_BLOCKED = 1 ∧ u.usb.kSent = s.usb.kSent) ∧
        Touches [.usb] [] [F.USB_WAKE_WAKE_BLOCKED] s u) ∧
  (∀ (s : State), 
      s.on F.USB_STATE_SUSPENDED = true →
      ∃ u, Yields .usbRwakeIdleWaitEnd s u ∧
        u.usb = { s.usb with idle5 := true, wakeHeld := false, kSent := s.usb.kSent + s.usb.wakeHeld.toNat } ∧
        Touches [.usb] [] [] s u) ∧
  (∀ (ini : Fin 5) (w : Word) (s : State), 
      s.mayWrite ini A.USB_WAKE (w ||| 0x20#32) = true →
      ∃ u, Yields (.usbWakeNow ini w) s u ∧
        u.usb = { s.usb with wakeReq := s.usb.wakeReq || (s.on F.USB_STATE_CONNECTED && (s.on F.USB_STATE_SUSPENDED || s.on F.USB_STATE_L1)) } ∧
        u.get F.USB_WAKE_ON_RESUME = bits w 4 1 ∧
        u.get F.USB_WAKE_JACK = bits w 3 1 ∧
        u.get F.USB_WAKE_HID = bits w 2 1 ∧
        u.get F.USB_WAKE_LISTEN = bits w 1 1 ∧
        (bits w 6 1 = 1 → u.get F.USB_WAKE_WAKE_BLOCKED = 0) ∧
        Touches [.usb] [] [whole A.USB_WAKE] s u) ∧
  (∀ (s : State), 
      s.clocked .usb = true → s.on F.USB_STATE_CONNECTED = true →
      ∃ u, Yields .usbSetFeatureRwake s u ∧
        (s.usbCfg 4 = true → u.get F.USB_STATE_RWAKE_EN = 1 ∧ u.usb.stall = false) ∧
        (s.usbCfg 4 = false → u.get F.USB_STATE_RWAKE_EN = s.get F.USB_STATE_RWAKE_EN ∧ u.usb.stall = true) ∧
        Touches [.usb] [] [F.USB_STATE_RWAKE_EN] s u) ∧
  (∀ (ini : Fin 5) (w : Word) (s : State), 
      s.mayWrite ini A.USB_CNT_CLR (w ||| 0x1#32) = true →
      ∃ u, Yields (.usbCntClr ini w) s u ∧
        u.reg A.USB_COUNT = 0 ∧
        u.get F.USB_HIST_STATUS_OVERRUNS = 0 ∧
        (∀ i : Nat, i < 4 → u.reg (A.USB_AS_COUNT i) = 0) ∧
        Touches [] [] ([whole A.USB_COUNT, F.USB_HIST_STATUS_OVERRUNS] ++ (List.range 4).map (fun i => whole (A.USB_AS_COUNT i))) s u)

/-- With the function connected, its island clocked and management running. REG_READ of a good length, no word of it refused or poisoned (SNS_RESULT aside, which a read advances), replies the words; of a bad length or a refused first word it is STALLed, no word performed, with code 8 or the refusal's, and a violation counted. REG_WRITE of one word, and REG_RMW with a mask of a register that holds its word, by an initiator that may write it: the register holds the word by its access types; code 0, one word performed. STATUS replies code and words and keeps the code. An unknown request is STALLed and nothing else changes. IMAGE_BEGIN outside a freeze, the loader idle: the length is taken, the source is USB, SYS_SCRATCH shows the phase, and the state is RECEIVE, or STAGED for length 0; on a busy loader it is STALLed and loader and register stay. IMAGE_STATUS replies the result and the offset. SNAP_READ of an aligned range in the window while frozen and permitted is queued; of the whole window outside a freeze it is refused with code 4. Each packet on 0x87, with VENDOR_EN and no word refused or poisoned, carries the next bytes, and a short one ends the transfer. Each with its frame. -/
def Obligations.VendorRequests : Prop :=
  (∀ (value index length : BitVec 16) (s : State), 
      s.clocked .usb = true → s.mgmtRuns = true → s.usbLive = true → goodLength length.toNat = true → (∀ k : Nat, k < length.toNat / 4 → (s.refusal 1 false (vendorAddr value index + 4 * k) 0 = 0 ∧ (s.peek (vendorAddr value index + 4 * k)).2 = false ∧ vendorAddr value index + 4 * k ≠ A.SNS_RESULT)) →
      ∃ u, Yields (.vreqRegRead value index length) s u ∧
        u.usb.reply = (List.range (length.toNat / 4)).flatMap (fun k => bytes4 (s.peek (vendorAddr value index + 4 * k)).1) ∧
        u.usb.stall = false ∧ u.usb.vCode = 0 ∧
        u.usb.vWords = length.toNat / 4 ∧
        Touches [.usb] [] [] s u) ∧
  (∀ (value index length : BitVec 16) (s : State), 
      s.clocked .usb = true → s.mgmtRuns = true → s.usbLive = true → (goodLength length.toNat = false ∨ s.refusal 1 false (vendorAddr value index) 0 ≠ 0) →
      ∃ u, Yields (.vreqRegRead value index length) s u ∧
        u.usb.stall = true ∧
        u.usb.vWords = 0 ∧
        (u.usb.vCode = if goodLength length.toNat = true then s.refusal 1 false (vendorAddr value index) 0 else 8) ∧
        u.get F.DBG_VIOL_COUNT_COUNT = satInc F.DBG_VIOL_COUNT_COUNT.w (s.get F.DBG_VIOL_COUNT_COUNT) ∧
        Touches [.usb] [vendorAddr value index / 0x400] [whole A.DBG_VIOL_LAST_ADDR, whole A.DBG_VIOL_LAST_INFO, whole A.DBG_VIOL_FIRST_ADDR, whole A.DBG_VIOL_FIRST_INFO, whole A.DBG_VIOL_COUNT] s u) ∧
  (∀ (value index : BitVec 16) (data : List Nat) (s : State), 
      s.clocked .usb = true → s.mgmtRuns = true → s.usbLive = true → data.length = 4 → heldReg (vendorAddr value index) = true → s.mayWrite 1 (vendorAddr value index) ((wordsLe data).getD 0 0) = true →
      ∃ u, Yields (.vreqRegWrite value index data) s u ∧
        u.reg (vendorAddr value index) = s.taken (vendorAddr value index) ((wordsLe data).getD 0 0) ∧
        u.usb.stall = false ∧ u.usb.vCode = 0 ∧
        u.usb.vWords = 1 ∧
        u.usb.reply = [] ∧
        Touches [.usb] [] [whole (vendorAddr value index)] s u) ∧
  (∀ (value index : BitVec 16) (data : List Nat) (s : State), 
      s.clocked .usb = true → s.mgmtRuns = true → s.usbLive = true → data.length = 8 → (wordsLe data).getD 0 0 ≠ 0 → heldReg (vendorAddr value index) = true → s.mayWrite 1 (vendorAddr value index) (s.rmwWord (vendorAddr value index) ((wordsLe data).getD 0 0) ((wordsLe data).getD 1 0)) = true →
      ∃ u, Yields (.vreqRegRmw value index data) s u ∧
        u.reg (vendorAddr value index) = s.taken (vendorAddr value index) (s.rmwWord (vendorAddr value index) ((wordsLe data).getD 0 0) ((wordsLe data).getD 1 0)) ∧
        u.usb.stall = false ∧ u.usb.vCode = 0 ∧
        u.usb.vWords = 1 ∧
        Touches [.usb] [] [whole (vendorAddr value index)] s u) ∧
  (∀ (s : State), 
      s.clocked .usb = true → s.mgmtRuns = true → s.usbLive = true →
      ∃ u, Yields .vreqStatus s u ∧
        u.usb.reply = [s.usb.vCode, 0, s.usb.vWords % 256, s.usb.vWords / 256 % 256] ∧
        u.usb.stall = false ∧
        u.usb.vCode = s.usb.vCode ∧
        Touches [.usb] [] [] s u) ∧
  (∀ (r : Nat) (s : State), 
      s.clocked .usb = true → s.mgmtRuns = true → s.usbLive = true →
      ∃ u, Yields (.vreqUnknown r) s u ∧
        u.usb = { s.usb with stall := true, reply := [] } ∧
        Touches [.usb] [] [] s u) ∧
  (∀ (data : List Nat) (s : State), 
      s.clocked .usb = true → s.mgmtRuns = true → s.usbLive = true → s.frozen = false → data.length = 4 →
      ∃ u, Yields (.vreqImageBegin data) s u ∧
        (s.ldr.st = .idle → u.ldr.length = ((wordsLe data).getD 0 0).toNat ∧ u.ldr.got = 0 ∧ u.ldr.source = 3 ∧ u.reg A.SYS_SCRATCH = 0x13000000#32 ∧ u.usb.stall = false ∧ u.usb.vCode = 0 ∧ u.ldr.st = if ((wordsLe data).getD 0 0).toNat = 0 then .staged else .receive) ∧
        (s.ldr.st ≠ .idle → u.usb.stall = true ∧ u.ldr = s.ldr ∧ u.reg A.SYS_SCRATCH = s.reg A.SYS_SCRATCH) ∧
        Touches [.usb, .ldr] [] [whole A.SYS_SCRATCH] s u) ∧
  (∀ (s : State), 
      s.clocked .usb = true → s.mgmtRuns = true → s.usbLive = true →
      ∃ u, Yields .vreqImageStatus s u ∧
        u.usb.reply = bytes4 s.ldr.result ++ bytes4 (word s.ldr.offset) ∧
        u.usb.stall = false ∧
        u.usb.vCode = s.usb.vCode ∧
        Touches [.usb] [] [] s u) ∧
  (∀ (data : List Nat) (s : State), 
      s.clocked .usb = true → s.mgmtRuns = true → s.usbLive = true → s.frozen = true → s.debugOk = true → data.length = 8 → ((wordsLe data).getD 0 0).toNat % 4 = 0 → ((wordsLe data).getD 1 0).toNat % 4 = 0 → 0 < ((wordsLe data).getD 1 0).toNat → ((wordsLe data).getD 0 0).toNat + ((wordsLe data).getD 1 0).toNat ≤ 0x8000 →
      ∃ u, Yields (.vreqSnapRead data) s u ∧
        u.usb.snap = some (((wordsLe data).getD 0 0).toNat, ((wordsLe data).getD 1 0).toNat, false) ∧
        u.usb.stall = false ∧ u.usb.vCode = 0 ∧
        u.usb.vWords = 0 ∧
        Touches [.usb] [] [] s u) ∧
  (∀ (data : List Nat) (s : State), 
      s.clocked .usb = true → s.mgmtRuns = true → s.usbLive = true → s.frozen = false → s.debugOk = true → data.length = 8 → ((wordsLe data).getD 0 0).toNat = 0 → ((wordsLe data).getD 1 0).toNat = 0x8000 →
      ∃ u, Yields (.vreqSnapRead data) s u ∧
        u.usb.snap = s.usb.snap ∧
        u.usb.stall = true ∧
        u.usb.vCode = 4 ∧
        Touches [.usb] [] [whole A.DBG_VIOL_LAST_ADDR, whole A.DBG_VIOL_LAST_INFO, whole A.DBG_VIOL_FIRST_ADDR, whole A.DBG_VIOL_FIRST_INFO, whole A.DBG_VIOL_COUNT] s u) ∧
  (∀ (s : State), 
      s.clocked .usb = true → s.mgmtRuns = true → s.usbLive = true → s.usbCfg 6 = true → s.usb.snap.isSome = true → (∀ k : Nat, k < min (s.usb.snap.getD (0, 0, true)).2.1 (if s.on F.USB_STATE_HS then 512 else 64) / 4 → (s.refusal 1 false (0x30000 + (s.usb.snap.getD (0, 0, true)).1 + 4 * k) 0 = 0 ∧ (s.peek (0x30000 + (s.usb.snap.getD (0, 0, true)).1 + 4 * k)).2 = false)) → (s.usb.snap.getD (0, 0, true)).2.2 = false →
      ∃ u, Yields .usbSnapshotIn s u ∧
        (u.usb.reply = (List.range (min (s.usb.snap.getD (0, 0, true)).2.1 (if s.on F.USB_STATE_HS then 512 else 64) / 4)).flatMap (fun k => bytes4 (s.peek (0x30000 + (s.usb.snap.getD (0, 0, true)).1 + 4 * k)).1)) ∧
        (u.usb.snap = if (s.usb.snap.getD (0, 0, true)).2.1 < (if s.on F.USB_STATE_HS then 512 else 64) then none else some ((s.usb.snap.getD (0, 0, true)).1 + (if s.on F.USB_STATE_HS then 512 else 64), (s.usb.snap.getD (0, 0, true)).2.1 - (if s.on F.USB_STATE_HS then 512 else 64), false)) ∧
        u.usb.stall = false ∧
        Touches [.usb] [] [] s u)

/-- HIST_START by vendor request with the path open, where the write is not refused: code 0; with no stream running it starts at the oldest valid span, or at live audio if it started before, live from the first span not begun, and STREAMING is set; a running one goes on. While ARMED = 0 and no full wipe runs it is refused with code 7, STALLed, nothing of the stream changed. HIST_STOP ends a running stream with HIST_DONE, or, where bytes of a record are still to be sent, marks it to end with them; it changes nothing of a stopped one. START and STOP of USB_HIST_CTRL, for a word the initiator may write, do the same; START holds PACK. USB_HISTORY_IN, bulk packets served, outside a freeze, is one packet of 512 bytes at high speed and 64 at full. With bytes enough it sends the oldest; of a stream marked to end with fewer, the rest or a zero-length packet, HIST_DONE and not STREAMING. With none left, on a running stream whose next span is complete, a record begins: its header states the counter 256 x span, 256 samples, no gap, and DISCONTINUITY is cleared; from the live span on it is a live record (type 3) with the DISCONTINUITY and PRIVACY bits held, and the next span follows; before it the raw record (type 1, one or two microphones) comes first and then the curd record (type 2, 532 words in all) with LAST_HISTORY exactly on the last history span, after which the next span follows. Each with its frame. -/
def Obligations.HistoryStream : Prop :=
  (∀ (s : State), 
      s.clocked .usb = true → s.mgmtRuns = true → s.usbLive = true → s.refusal 1 true A.USB_HIST_CTRL 1#32 = 0 →
      ∃ u, Yields .vreqHistStart s u ∧
        u.usb.stall = false ∧
        u.usb.vCode = 0 ∧
        (s.lst.hist.on = false → u.lst.hist.on = true ∧ u.lst.hist.live = ceilDiv s.lst.total 256 ∧ u.lst.hist.next = (if s.lst.hist.started then ceilDiv s.lst.total 256 else s.lst.total / 256 - s.histSpans) ∧ u.on F.USB_HIST_STATUS_STREAMING = true) ∧
        (s.lst.hist.on = true → u.lst = s.lst) ∧
        Touches [.usb, .lst] [] lstStatusFlds s u) ∧
  (∀ (s : State), 
      s.clocked .usb = true → s.mgmtRuns = true → s.usbLive = true → s.on F.LST_STATUS_ARMED = false → s.on F.MEM_WIPE_STATUS_ALL = false →
      ∃ u, Yields .vreqHistStart s u ∧
        u.usb.stall = true ∧
        u.usb.vCode = 7 ∧
        u.lst = s.lst ∧
        u.on (F.PG_IRQ 0x0A 0) = true ∧
        Touches [.usb] [0x0A] [whole A.DBG_VIOL_LAST_ADDR, whole A.DBG_VIOL_LAST_INFO, whole A.DBG_VIOL_FIRST_ADDR, whole A.DBG_VIOL_FIRST_INFO, whole A.DBG_VIOL_COUNT] s u) ∧
  (∀ (s : State), 
      s.clocked .usb = true → s.mgmtRuns = true → s.usbLive = true → s.refusal 1 true A.USB_HIST_CTRL 2#32 = 0 →
      ∃ u, Yields .vreqHistStop s u ∧
        u.usb.stall = false ∧
        (s.lst.hist.out = [] → u.lst.hist.on = false) ∧
        (s.lst.hist.on = true → s.lst.hist.out = [] → u.on (F.PG_IRQ 0x0A 12) = true) ∧
        (s.lst.hist.on = true → s.lst.hist.out ≠ [] → u.lst.hist = { s.lst.hist with ending := true }) ∧
        (s.lst.hist.on = false → u.lst = s.lst) ∧
        Touches [.usb, .lst] [] (F.PG_IRQ 0x0A 12 :: lstStatusFlds) s u) ∧
  (∀ (ini : Fin 5) (w : Word) (s : State), 
      s.mayWrite ini A.USB_HIST_CTRL (w ||| 0x1#32) = true → bits w 1 1 = 0 →
      ∃ u, Yields (.usbHistStartWrite ini w) s u ∧
        (s.lst.hist.on = false → u.lst.hist.on = true ∧ u.lst.hist.live = ceilDiv s.lst.total 256 ∧ u.lst.hist.next = (if s.lst.hist.started then ceilDiv s.lst.total 256 else s.lst.total / 256 - s.histSpans) ∧ u.on F.USB_HIST_STATUS_STREAMING = true) ∧
        u.get F.USB_HIST_CTRL_PACK = bits w F.USB_HIST_CTRL_PACK.lo 1 ∧
        Touches [.lst] [] (whole A.USB_HIST_CTRL :: lstStatusFlds) s u) ∧
  (∀ (ini : Fin 5) (w : Word) (s : State), 
      s.mayWrite ini A.USB_HIST_CTRL (w ||| 0x2#32) = true → bits w 0 1 = 0 →
      ∃ u, Yields (.usbHistStopWrite ini w) s u ∧
        (s.lst.hist.out = [] → u.lst.hist.on = false) ∧
        (s.lst.hist.on = true → s.lst.hist.out = [] → u.on (F.PG_IRQ 0x0A 12) = true ∧ u.lst.hist.next = s.lst.hist.next) ∧
        (s.lst.hist.on = true → s.lst.hist.out ≠ [] → u.lst.hist = { s.lst.hist with ending := true } ∧ u.get (F.PG_IRQ 0x0A 12) = s.get (F.PG_IRQ 0x0A 12)) ∧
        Touches [.lst] [] ([whole A.USB_HIST_CTRL, F.PG_IRQ 0x0A 12] ++ lstStatusFlds) s u) ∧
  (∀ (s : State), 
      s.clocked .usb = true → s.frozen = false → s.usbBulk = true → s.lst.hist.on = true → s.lst.hist.ending = false → s.lst.hist.out = [] → 256 * (s.lst.hist.next + 1) ≤ s.lst.total →
      ∃ u, Yields .usbHistoryIn s u ∧
        (u.usb.reply.length = (if s.on F.USB_STATE_HS then 512 else 64)) ∧
        (u.usb.reply.drop 4).take 12 = wordBytes (256 * s.lst.hist.next % 2 ^ 32) ++ [0, 1, 0, 0, 0, 0, 0, 0] ∧
        u.usb.stall = false ∧
        u.lst.hist.on = true ∧
        u.lst.hist.live = s.lst.hist.live ∧
        u.lst.hist.disc = false ∧
        (s.lst.hist.live ≤ s.lst.hist.next → u.usb.reply.getD 0 0 = 3 ∧ u.lst.hist.next = s.lst.hist.next + 1 ∧ u.usb.reply.getD 3 0 = 2 * s.lst.hist.disc.toNat + 4 * s.lst.hist.priv.toNat) ∧
        (s.lst.hist.next < s.lst.hist.live → s.lst.hist.half = false → u.usb.reply.getD 0 0 = 1 ∧ u.lst.hist.next = s.lst.hist.next ∧ u.lst.hist.half = true ∧ u.usb.reply.getD 1 0 = (if s.lstTwo then 2 else 1) ∧ u.usb.reply.getD 3 0 = 2 * s.lst.hist.disc.toNat) ∧
        (s.lst.hist.next < s.lst.hist.live → s.lst.hist.half = true → u.usb.reply.getD 0 0 = 2 ∧ u.lst.hist.next = s.lst.hist.next + 1 ∧ u.lst.hist.out.length + u.usb.reply.length = 2128 ∧ u.usb.reply.getD 3 0 = (decide (s.lst.hist.next + 1 = s.lst.hist.live)).toNat) ∧
        Touches [.lst, .usb] [] (F.MEM_UNCORR_COUNT_POISON_READS :: lstStatusFlds) s u) ∧
  (∀ (s : State), 
      s.clocked .usb = true → s.frozen = false → s.usbBulk = true → (if s.on F.USB_STATE_HS then 512 else 64) ≤ s.lst.hist.out.length →
      ∃ u, Yields .usbHistoryIn s u ∧
        (u.usb.reply = s.lst.hist.out.take (if s.on F.USB_STATE_HS then 512 else 64)) ∧
        (u.lst.hist = { s.lst.hist with out := s.lst.hist.out.drop (if s.on F.USB_STATE_HS then 512 else 64) }) ∧
        u.usb.stall = false ∧
        Touches [.lst, .usb] [] [] s u) ∧
  (∀ (s : State), 
      s.clocked .usb = true → s.frozen = false → s.usbBulk = true → s.lst.hist.ending = true → s.lst.hist.out.length < (if s.on F.USB_STATE_HS then 512 else 64) →
      ∃ u, Yields .usbHistoryIn s u ∧
        u.usb.reply = s.lst.hist.out ∧
        u.lst.hist.on = false ∧
        u.lst.hist.out = [] ∧
        u.lst.hist.ending = false ∧
        u.on (F.PG_IRQ 0x0A 12) = true ∧
        u.get F.USB_HIST_STATUS_STREAMING = 0 ∧
        Touches [.lst, .usb] [] (F.PG_IRQ 0x0A 12 :: lstStatusFlds) s u)

/-- LST_ENABLE_WRITE of a change, for a word the initiator may write, without CLR_COUNTS: ENABLE held, the counter as it was; 0 on a block that is on: OFF, disarmed, not in VOICE, no history valid, the stream ended or ending with its record, no group held, DISARM raised; 1 on an OFF block in RUN or IDLE: FAULT where the configuration is bad, STARTING with a clock, else WAIT_CLK. LST_START, STARTING with a clock: LISTENING, the floor -60 dBFS, SUPPRESSED, RESUME_COUNTER the counter, which holds; PICCOLO reads 1 only with the group's clock at 768 kHz. LST_SUPPRESS_END clears SUPPRESSED. LST_STOP_CHANGE, LISTENING with a change due and no VOICE: the 16 sample ramp down begins in state 4, STOP_NOW is the wanted stop, and a running group whose frequency is another begins its change, the old frequency still in effect. LST_DEFER_TIMEOUT with one pending: counted, raised, no longer pending, VOICE kept, and a held change across the clock begins its ramp with its stop. LST_DISARM and LST_ARM_TIMEOUT (armed, no stream, a timeout set): not ARMED, no history valid, MB12 to MB18 in wipe, DISARM raised; the first also ends a stream, with its record where one is under way, and its start, with no span readable, and leaves the phase. LST_CLR_COUNTS clears the counters and GAPS. Each with its frame. -/
def Obligations.ListeningControl : Prop :=
  (∀ (ini : Fin 5) (w : Word) (s : State), 
      s.mayWrite ini (0x0C * 0x400 + 4) w = true → s.on (F.PG_ENABLE 0x0C) ≠ decide (bits w 0 1 = 1) → bits w 2 1 = 0 →
      ∃ u, Yields (.lstEnableWrite ini w) s u ∧
        u.get (F.PG_ENABLE 0x0C) = bits w 0 1 ∧
        u.lst.total = s.lst.total ∧
        (bits w 0 1 = 0 → s.lst.phase ≠ .off → u.lst.phase = .off ∧ u.on F.LST_STATUS_ARMED = false ∧ u.on F.LST_STATUS_VOICE = false ∧ u.lst.validFrom = s.lst.total ∧ (s.lst.hist.out = [] → u.lst.hist.on = false) ∧ (s.lst.hist.on = true → s.lst.hist.out ≠ [] → u.lst.hist.ending = true) ∧ u.lst.heldGroup = none ∧ u.on (F.PG_IRQ 0x0C 5) = true) ∧
        (bits w 0 1 = 1 → s.lst.phase = .off → (s.domState ≤ 1 → u.get F.LST_STATUS_STATE = if s.lstBad then 6 else if s.lstClock then 2 else 1)) ∧
        Touches [.lst, .pdm, .mics, .sram, .poison] [0x0C] ([F.PDM_LISTEN 0, F.PDM_LISTEN 1] ++ pdmStatusFlds ++ lstStatusFlds ++ [whole A.MEM_WIPE_STATUS, whole A.MEM_WIPE_BANKS] ++ [F.MEM_SPARE_STATUS_MBS0_USED, F.PG_IRQ 0x0A 12, F.CLK_FLL_STATUS_LOCKED]) s u) ∧
  (∀ (s : State), 
      s.clocked .listen = true → s.lst.phase = .starting → s.lstClock = true →
      ∃ u, Yields .lstStart s u ∧
        u.get F.LST_STATUS_STATE = 3 ∧
        u.lst.floor = -6000000 ∧
        u.get F.LST_LEVEL_FLOOR = 0xE890 ∧
        u.on F.LST_STATUS_SUPPRESSED = true ∧
        u.get F.LST_RESUME_COUNTER_COUNTER = s.lst.total % 2 ^ 32 ∧
        u.lst.total = s.lst.total ∧
        bits (u.peek A.LST_STATUS).1 8 1 = s.lstPiccolo.toNat ∧
        (s.lstPiccolo = true → (s.pdmAt s.lstGroup).freq = 1) ∧
        Touches [.lst] [] ([F.LST_LEVEL_FLOOR, F.LST_STATUS_SUPPRESSED, F.LST_RESUME_COUNTER_COUNTER] ++ lstStatusFlds) s u) ∧
  (∀ (s : State), 
      s.clocked .listen = true →
      ∃ u, Yields .lstSuppressEnd s u ∧
        u.on F.LST_STATUS_SUPPRESSED = false ∧
        Touches [] [] [F.LST_STATUS_SUPPRESSED] s u) ∧
  (∀ (s : State), 
      s.clocked .listen = true → s.lst.phase = .listening → s.lst.due = true → s.on F.LST_STATUS_VOICE = false →
      ∃ u, Yields .lstStopChange s u ∧
        u.get F.LST_STATUS_STATE = 4 ∧
        u.lst.left = 16 ∧
        u.lst.fade.up = false ∧
        u.get F.LST_STATUS_STOP_NOW = s.lstWant % 4 ∧
        (s.on (F.PG_ENABLE 0x29) = true → s.on (F.PDM_LISTEN s.lstGroup) = true → (s.pdmAt s.lstGroup).phase = .running → (s.pdmAt s.lstGroup).held = false → (s.pdmAt s.lstGroup).freq ≠ (if 2 ≤ s.lstWant % 4 then 1 else 3) → (u.pdmAt s.lstGroup).phase = .changing ∧ (u.pdmAt s.lstGroup).freq = (s.pdmAt s.lstGroup).freq) ∧
        u.lst.due = false ∧
        u.lst.total = s.lst.total ∧
        Touches [.pdm, .mics, .lst] [0x29] ([F.LST_STATUS_STOP_NOW] ++ [F.PDM_LISTEN 0, F.PDM_LISTEN 1] ++ pdmStatusFlds ++ lstStatusFlds) s u) ∧
  (∀ (s : State), 
      s.clocked .listen = true → s.on F.LST_STATUS_DEFER_PENDING = true →
      ∃ u, Yields .lstDeferTimeout s u ∧
        u.get F.LST_COUNT2_DEFER_TIMEOUTS = min (s.get F.LST_COUNT2_DEFER_TIMEOUTS + 1) 0xFFFF ∧
        u.on (F.PG_IRQ 0x0C 7) = true ∧
        u.on F.LST_STATUS_DEFER_PENDING = false ∧
        (s.lst.phase = .listening → s.lst.heldGroup = none → s.lstWant ≠ s.lstStop → s.lstCrosses = true → u.lst.phase = .rampDown ∧ u.get F.LST_STATUS_STOP_NOW = s.lstWant % 4) ∧
        u.on F.LST_STATUS_VOICE = s.on F.LST_STATUS_VOICE ∧
        Touches [.pdm, .mics, .lst] [0x0C, 0x29] ([F.PDM_LISTEN 0, F.PDM_LISTEN 1] ++ pdmStatusFlds ++ lstStatusFlds) s u) ∧
  (∀ (ini : Fin 5) (w : Word) (s : State), 
      s.mayWrite ini A.LST_CTRL (w ||| 0x2#32) = true → bits w 2 1 = 0 →
      ∃ u, Yields (.lstDisarm ini w) s u ∧
        u.on F.LST_STATUS_ARMED = false ∧
        (s.lst.hist.out = [] → u.lst.hist.on = false) ∧
        (s.lst.hist.on = true → s.lst.hist.out ≠ [] → u.lst.hist.ending = true) ∧
        u.lst.hist.started = false ∧
        u.lst.validFrom = s.lst.total ∧
        u.get F.LST_HIST_SPANS_SPANS = 0 ∧
        (∀ b : Nat, b < 7 → u.get F.MEM_WIPE_BANKS_BUSY / 2 ^ (12 + b) % 2 = 1) ∧
        u.on (F.PG_IRQ 0x0C 5) = true ∧
        u.lst.phase = s.lst.phase ∧
        Touches [.lst, .sram, .poison] [] ([F.LST_STATUS_ARMED, F.PG_IRQ 0x0C 5, F.PG_IRQ 0x0A 12, whole A.LST_CTRL] ++ lstStatusFlds ++ [whole A.MEM_WIPE_STATUS, whole A.MEM_WIPE_BANKS]) s u) ∧
  (∀ (s : State), 
      s.clocked .listen = true → s.on F.LST_STATUS_ARMED = true → s.lst.hist.on = false → 0 < s.get F.LST_CFG_ARM_TIMEOUT →
      ∃ u, Yields .lstArmTimeout s u ∧
        u.on F.LST_STATUS_ARMED = false ∧
        u.lst.validFrom = s.lst.total ∧
        u.on (F.PG_IRQ 0x0C 5) = true ∧
        (∀ b : Nat, b < 7 → u.get F.MEM_WIPE_BANKS_BUSY / 2 ^ (12 + b) % 2 = 1) ∧
        Touches [.lst, .sram, .poison] [] ([F.LST_STATUS_ARMED, F.PG_IRQ 0x0C 5] ++ lstStatusFlds ++ [whole A.MEM_WIPE_STATUS, whole A.MEM_WIPE_BANKS]) s u) ∧
  (∀ (ini : Fin 5) (w : Word) (s : State), 
      s.mayWrite ini A.LST_CTRL (w ||| 0x4#32) = true → bits w 1 1 = 0 →
      ∃ u, Yields (.lstClrCounts ini w) s u ∧
        u.reg A.LST_COUNT = 0 ∧
        u.reg A.LST_COUNT2 = 0 ∧
        u.get F.LST_GAP_GAPS = 0 ∧
        Touches [] [] [whole A.LST_COUNT, whole A.LST_COUNT2, F.LST_GAP_GAPS, whole A.LST_CTRL] s u)

/-- LST_SAMPLE where the block writes, clocked, with the engine clocked: the counter rises by one, gap samples are written as zeros into their span, LISTENING goes on, and the last sample of the ramp starts the gap with its counter; without the engine's clock a LISTENING block counts and goes on likewise; where it does not write, counter and history stay. LST_FRAME of 160 samples where it writes: they are taken, the floor follows R318's rule (held in VOICE, down at once, up by FLOOR_RISE), one feature frame joins the last 100, and onset or quiet frames count by level, floor and threshold, with none while SUPPRESSED. VAD_ONSET due, no power entry running: VOICE, counted, raised; with WAKE_ON naming it and not else a wake: ARMED, counted, SOURCE 2, the counter of the frame's end, its interrupt and, where enabled on a sleeping link, a USB wake request. VAD_HANG_EXPIRE: VOICE and IN_PHRASE clear, raised, no change pending. SPOT_DETECTION of a class: marked, and by WAKE_ON a wake with SOURCE 1, the class, its count and in SLEEP, enabled, a power wake with source 8; VOICE kept. MODEL BEGIN: LOADING, PTR 0, IN_PHRASE clear. A window word while LOADING is written at PTR + k within the weights; word 31 moves PTR on. MODEL END counts the last part window; its check answers LOAD_ERR by R324: 0 gives VALID with its interrupt and ends faults 0x01 and 0x02, else NONE with LOAD_ERR raised. Each with its frame. -/
def Obligations.ListeningDetection : Prop :=
  (∀ (mics : List (Nat × Int)) (s : State), 
      s.clocked .listen = true → s.clocked .engine = true → s.lstClock = true → s.lst.phase.writes = true →
      ∃ u, Yields (.lstSample mics) s u ∧
        u.lst.total = s.lst.total + 1 ∧
        u.get F.LST_COUNTER_NOW = (s.lst.total + 1) % 2 ^ 32 ∧
        u.free = s.free + 1 ∧
        (s.lst.total % 256 ≠ 255 → (s.lst.phase = .gapClock ∨ s.lst.phase = .gapSettle ∨ s.lst.phase = .gapFill) → ∀ a : Nat, a < 3 → u.sramByte 12 (1536 * spanSlot s.lst.total + 6 * (s.lst.total % 256) + a) = 0) ∧
        (s.lst.phase = .listening → u.lst.phase = .listening) ∧
        (s.lst.phase = .rampDown → s.lst.left ≤ 1 → u.lst.phase = .gapClock ∧ u.get F.LST_GAP_START_COUNTER = (s.lst.total + 1) % 2 ^ 32) ∧
        Touches [.lst, .sram, .poison, .free] [0x0C] (F.USB_HIST_STATUS_OVERRUNS :: lstStatusFlds) s u) ∧
  (∀ (mics : List (Nat × Int)) (s : State), 
      s.clocked .listen = true → s.clocked .engine = false → s.lstClock = true → s.lstEnabled = true → s.lstBad = false → s.pdmHeld = false → s.lst.phase = .listening →
      ∃ u, Yields (.lstSample mics) s u ∧
        u.lst.total = s.lst.total + 1 ∧
        u.get F.LST_COUNTER_NOW = (s.lst.total + 1) % 2 ^ 32 ∧
        u.free = s.free + 1 ∧
        u.lst.phase = .listening ∧
        Touches [.lst, .sram, .poison, .free, .pdm, .mics] [0x0C, 0x29] (F.USB_HIST_STATUS_OVERRUNS :: lstStatusFlds) s u) ∧
  (∀ (mics : List (Nat × Int)) (s : State), 
      s.clocked .engine = true → s.lst.phase.writes = false →
      ∃ u, Yields (.lstSample mics) s u ∧
        u.lst = s.lst ∧
        u.sram = s.sram ∧
        Touches [.free] [] [] s u) ∧
  (∀ (s : State), 
      s.clocked .listen = true → 160 ≤ s.lst.acc.length → s.lst.phase.writes = true →
      ∃ u, Yields .lstFrame s u ∧
        u.lst.acc = s.lst.acc.drop 160 ∧
        (u.lst.floor = (if s.on F.LST_STATUS_VOICE then s.lst.floor else if frameLevel (s.lst.acc.take 160) < s.lst.floor then max (frameLevel (s.lst.acc.take 160)) (-10000000) else min (frameLevel (s.lst.acc.take 160)) (s.lst.floor + 100 * s.get F.LST_VAD_FLOOR_RISE))) ∧
        u.lst.frameEnd = s.lst.total - 1 ∧
        u.lst.feats.length = min 100 (s.lst.feats.length + 1) ∧
        (s.on F.LST_STATUS_VOICE = true → u.lst.onset = 0 ∧ u.lst.quiet = if s.lst.floor + s.vadThr ≤ frameLevel (s.lst.acc.take 160) then 0 else s.lst.quiet + 1) ∧
        (s.on F.LST_STATUS_VOICE = false → u.lst.quiet = 0 ∧ u.lst.onset = if s.on F.LST_STATUS_SUPPRESSED then 0 else if (if s.on F.LST_STATUS_VOICE then s.lst.floor else if frameLevel (s.lst.acc.take 160) < s.lst.floor then max (frameLevel (s.lst.acc.take 160)) (-10000000) else min (frameLevel (s.lst.acc.take 160)) (s.lst.floor + 100 * s.get F.LST_VAD_FLOOR_RISE)) + s.vadThr ≤ frameLevel (s.lst.acc.take 160) then s.lst.onset + 1 else 0) ∧
        u.lst.total = s.lst.total ∧
        Touches [.lst] [] [whole A.LST_LEVEL, F.LST_STATUS_IN_PHRASE, F.LST_STATUS_MODEL_VALID, F.LST_MODEL_STATUS_STATE, F.PG_FAULT 0x0C, F.PG_IRQ 0x0C 1] s u) ∧
  (∀ (s : State), 
      s.clocked .listen = true → s.vadDue = true → s.pwrStep = 0 →
      ∃ u, Yields .vadOnset s u ∧
        u.on F.LST_STATUS_VOICE = true ∧
        u.get F.LST_COUNT_VOICE_ONSETS = min (s.get F.LST_COUNT_VOICE_ONSETS + 1) 0xFFFF ∧
        u.on (F.PG_IRQ 0x0C 3) = true ∧
        (s.wakesOn 2 = false → u.get F.LST_COUNT_WAKES = s.get F.LST_COUNT_WAKES ∧ u.pwr = s.pwr) ∧
        (s.wakesOn 2 = true → u.on F.LST_STATUS_ARMED = true ∧ u.get F.LST_COUNT_WAKES = min (s.get F.LST_COUNT_WAKES + 1) 0xFFFF ∧ u.get F.LST_WAKE_INFO_SOURCE = 2 ∧ u.get F.LST_WAKE_COUNTER_COUNTER = s.lst.frameEnd % 2 ^ 32 ∧ u.on (F.PG_IRQ 0x0C 2) = true) ∧
        (s.wakesOn 2 = true → s.on F.USB_WAKE_LISTEN = true → s.on F.USB_STATE_CONNECTED = true → s.on F.USB_STATE_SUSPENDED = true ∨ s.on F.USB_STATE_L1 = true → u.usb.wakeReq = true) ∧
        Touches [.lst, .pwr, .usb] [0x0C, 0x01] lstStatusFlds s u) ∧
  (∀ (s : State), 
      s.clocked .listen = true → s.on F.LST_STATUS_VOICE = true → s.get F.LST_VAD_HANG ≤ s.lst.quiet → 0 < s.lst.quiet →
      ∃ u, Yields .vadHangExpire s u ∧
        u.on F.LST_STATUS_VOICE = false ∧
        u.on F.LST_STATUS_IN_PHRASE = false ∧
        u.on (F.PG_IRQ 0x0C 4) = true ∧
        u.on F.LST_STATUS_DEFER_PENDING = false ∧
        u.lst.detected = false ∧
        Touches [.pdm, .mics, .lst] [0x0C, 0x29] ([F.PDM_LISTEN 0, F.PDM_LISTEN 1] ++ pdmStatusFlds ++ lstStatusFlds) s u) ∧
  (∀ (s : State), 
      s.clocked .listen = true → s.spotClass.isSome = true →
      ∃ u, Yields .spotDetection s u ∧
        u.lst.detected = true ∧
        (s.wakesOn 1 = true → u.on F.LST_STATUS_ARMED = true ∧ u.get F.LST_WAKE_INFO_SOURCE = 1 ∧ u.get F.LST_WAKE_INFO_CLASS = s.spotClass.getD 0 % 16 ∧ u.get F.LST_COUNT_WAKES = min (s.get F.LST_COUNT_WAKES + 1) 0xFFFF) ∧
        (s.wakesOn 1 = true → s.domState = 2 → s.pwrBusy = false → s.pwrStep = 0 → s.on F.PWR_WAKE_EN_LISTEN = true → u.pwr.waking = some 8 ∧ u.pwrBusy = true) ∧
        (s.wakesOn 1 = false → u.reg A.LST_WAKE_INFO = s.reg A.LST_WAKE_INFO) ∧
        u.on F.LST_STATUS_VOICE = s.on F.LST_STATUS_VOICE ∧
        Touches [.lst, .pwr, .usb] [0x0C, 0x01] lstStatusFlds s u) ∧
  (∀ (ini : Fin 5) (w : Word) (s : State), 
      s.mayWrite ini A.LST_MODEL_CTRL (w ||| 0x1#32) = true → bits w 1 1 = 0 →
      ∃ u, Yields (.lstModelBegin ini w) s u ∧
        u.get F.LST_MODEL_STATUS_STATE = 1 ∧
        u.get F.LST_MODEL_STATUS_PTR = 0 ∧
        u.lst.ptr = 0 ∧
        u.on F.LST_STATUS_IN_PHRASE = false ∧
        u.on F.LST_STATUS_VOICE = s.on F.LST_STATUS_VOICE ∧
        Touches [.lst] [] [whole A.LST_MODEL_CTRL, F.LST_MODEL_STATUS_STATE, F.LST_MODEL_STATUS_PTR, F.LST_STATUS_IN_PHRASE, F.LST_STATUS_MODEL_VALID] s u) ∧
  (∀ (ini : Fin 5) (k : Fin 32) (w : Word) (s : State), 
      s.mayWrite ini (A.LST_MODEL_WIN k) w = true → s.get F.LST_MODEL_STATUS_STATE = 1 →
      ∃ u, Yields (.lstModelWinWrite ini k w) s u ∧
        (s.lst.ptr + k.val < weightWords → u.sramWord (sramAddr 19 (s.lst.ptr + k)) = w) ∧
        (weightWords ≤ s.lst.ptr + k.val → u.sram = s.sram) ∧
        (k.val = 31 → u.lst.ptr = s.lst.ptr + 32 ∧ u.lst.top = none) ∧
        (k.val ≠ 31 → u.lst.ptr = s.lst.ptr ∧ u.lst.top = some (max k.val (s.lst.top.getD 0))) ∧
        Touches [.lst, .sram, .poison] [] [whole (A.LST_MODEL_WIN k), F.LST_MODEL_STATUS_PTR] s u) ∧
  (∀ (ini : Fin 5) (w : Word) (s : State), 
      s.mayWrite ini A.LST_MODEL_CTRL (w ||| 0x2#32) = true → bits w 0 1 = 0 → s.get F.LST_MODEL_STATUS_STATE = 1 →
      ∃ u, Yields (.lstModelEnd ini w) s u ∧
        (u.lst.ptr = s.lst.ptr + (match s.lst.top with | some k => k + 1 | none => 0)) ∧
        u.lst.top = none ∧
        u.get F.LST_MODEL_STATUS_STATE = 1 ∧
        Touches [.lst] [] [whole A.LST_MODEL_CTRL, F.LST_MODEL_STATUS_PTR] s u) ∧
  (∀ (s : State), 
      s.clocked .listen = true → s.get F.LST_MODEL_STATUS_STATE = 1 → s.lst.ended = true →
      ∃ u, Yields .lstModelCheckDone s u ∧
        u.get F.LST_MODEL_STATUS_LOAD_ERR = s.modelCheck s.lst.ptr ∧
        (s.modelCheck s.lst.ptr = 0 → u.get F.LST_MODEL_STATUS_STATE = 2 ∧ u.on F.LST_STATUS_MODEL_VALID = true ∧ u.on (F.PG_IRQ 0x0C 8) = true ∧ u.get (F.PG_FAULT 0x0C) ≠ 1 ∧ u.get (F.PG_FAULT 0x0C) ≠ 2) ∧
        (s.modelCheck s.lst.ptr ≠ 0 → u.get F.LST_MODEL_STATUS_STATE = 0 ∧ u.on (F.PG_IRQ 0x0C 9) = true ∧ u.reg A.LST_MODEL_INFO = s.reg A.LST_MODEL_INFO) ∧
        Touches [.lst] [] [F.LST_MODEL_STATUS_LOAD_ERR, F.LST_MODEL_STATUS_STATE, F.LST_STATUS_MODEL_VALID, whole A.LST_MODEL_INFO, F.LST_MODEL_MACS_MACS, F.MEM_UNCORR_COUNT_POISON_READS, F.PG_FAULT 0x0C, F.PG_IRQ 0x0C 8, F.PG_IRQ 0x0C 9] s u)

/-- While the sense island is clocked. SNS_RUN_WRITE holds RUN, LAST and TRIG_DIV; RUN 0 in a run ends it after its entry. A trigger (SNS_SW_TRIG on an enabled page with RUN, or SNS_HW_TRIGGER at the end of its divider, which it resets; before that end it only counts): idle, it starts a run at a valid entry 0, with N_LAST from the mains period or the nominal one for an integrator entry, a reed entry waiting for the converter; in a run POLICY 1 counts it lost, POLICY 0 holds one and counts a further one lost with TRIG_OVR and its interrupt. SNS_ABORT ends a run with no result and no count; an integrator entry counts as abandoned. SNS_REED_CONV_DONE but for the NTC channels 10 and 11: the code is clamped to 12 bits with ORNG; a drone's joins its sum and the next conversion is chosen by R349 (urgent, waiting entry, next drone); a HOST entry's is written to SNS_RESULT with its entry, OVR over an unread word with count and interrupt, else RESULT raised, and the run goes to its next valid entry or ends; an urgent one's is written with URG and ends the request. A drone 0 code joins the mains ripple, and one that completes no cycle changes neither mains status nor sequence. SNS_INT_ENTRY_DONE of a window before the last adds it, and the next latches N from the mains period or the nominal one; of the last, the mean over the windows saturates to 20 bits with ORNG, is written for a HOST entry, and a PVDD_P one with predictions queues the reservoir correction of R389 for the next tick, leaving the level. SNS_RUN_DONE counts a run, raises SEQ_DONE and starts the held trigger's run or idles. Each with its frame. -/
def Obligations.SenseSequence : Prop :=
  (∀ (ini : Fin 5) (w : Word) (s : State), 
      s.mayWrite ini A.SNS_SEQ_CTRL w = true → bits w 1 2 = 0 →
      ∃ u, Yields (.snsRunWrite ini w) s u ∧
        u.get F.SNS_SEQ_CTRL_RUN = bits w 0 1 ∧
        u.get F.SNS_SEQ_CTRL_LAST = bits w 12 4 ∧
        u.get F.SNS_SEQ_CTRL_TRIG_DIV = bits w 8 4 ∧
        u.sns = { s.sns with endRun := s.sns.endRun || (decide (s.snsState = 2) && decide (bits w 0 1 = 0)) } ∧
        Touches [.sns] [] [whole A.SNS_SEQ_CTRL] s u) ∧
  (∀ (ini : Fin 5) (w : Word) (s : State), 
      s.mayWrite ini A.SNS_SEQ_CTRL (w ||| 0x2#32) = true → bits w 2 1 = 0 → bits w 0 1 = 1 → s.clocked .sense = true → s.on (F.PG_ENABLE 0x0B) = true →
      ∃ u, Yields (.snsSwTrig ini w) s u ∧
        (s.snsState = 1 → u.snsState = 2 ∧ u.sns.last = bits w 12 4 ∧ u.sns.endRun = false ∧ u.get F.SNS_COUNT_TRIG_LOST = s.get F.SNS_COUNT_TRIG_LOST) ∧
        (s.snsState = 1 → snsInvalid (s.reg (A.SNS_SEQ 0)) = false → u.sns.entry = some (0, s.reg (A.SNS_SEQ 0)) ∧ u.get F.SNS_SEQ_STATUS_ENTRY_NOW = 0 ∧ u.sns.waiting = !snsIsInt (s.reg (A.SNS_SEQ 0)) ∧ (snsIsInt (s.reg (A.SNS_SEQ 0)) = true → u.get F.SNS_INT_STATUS_N_LAST = (if s.on F.CLK_MAINS_STATUS_VALID then (divRne (s.get F.CLK_MAINS_PERIOD_PERIOD * 64 : Nat) 375).toNat % 2 ^ 17 else if s.on F.SNS_CFG_NOM_HZ then 68267 else 81920))) ∧
        (s.snsState = 2 → bits w 7 1 = 1 → u.get F.SNS_COUNT_TRIG_LOST = min (s.get F.SNS_COUNT_TRIG_LOST + 1) 0xFFFF ∧ u.get F.SNS_STATUS_TRIG_OVR = s.get F.SNS_STATUS_TRIG_OVR ∧ u.get F.SNS_SEQ_STATUS_PENDING = s.get F.SNS_SEQ_STATUS_PENDING) ∧
        (s.snsState = 2 → bits w 7 1 = 0 → s.on F.SNS_SEQ_STATUS_PENDING = false → u.get F.SNS_SEQ_STATUS_PENDING = 1 ∧ u.get F.SNS_COUNT_TRIG_LOST = s.get F.SNS_COUNT_TRIG_LOST) ∧
        (s.snsState = 2 → bits w 7 1 = 0 → s.on F.SNS_SEQ_STATUS_PENDING = true → u.get F.SNS_STATUS_TRIG_OVR = 1 ∧ u.on (F.PG_IRQ 0x0B 5) = true ∧ u.get F.SNS_COUNT_TRIG_LOST = min (s.get F.SNS_COUNT_TRIG_LOST + 1) 0xFFFF) ∧
        Touches [.sns] [] (whole A.SNS_SEQ_CTRL :: [whole A.SNS_SEQ_STATUS, whole A.SNS_INT_STATUS, whole A.SNS_STATUS, F.SNS_COUNT_TRIG_LOST, F.PG_IRQ 0x0B 5]) s u) ∧
  (∀ (s : State), 
      s.snsHears = true → (s.get F.SNS_SEQ_CTRL_TRIG_SRC = 1 ∨ s.get F.SNS_SEQ_CTRL_TRIG_SRC = 2) → s.get F.SNS_SEQ_CTRL_TRIG_DIV ≤ s.get F.SNS_SEQ_STATUS_DIV_COUNT →
      ∃ u, Yields .snsHwTrigger s u ∧
        u.get F.SNS_SEQ_STATUS_DIV_COUNT = 0 ∧
        (s.snsState = 1 → u.snsState = 2 ∧ u.sns.last = s.get F.SNS_SEQ_CTRL_LAST ∧ u.sns.endRun = false ∧ u.get F.SNS_COUNT_TRIG_LOST = s.get F.SNS_COUNT_TRIG_LOST) ∧
        (s.snsState = 1 → snsInvalid (s.reg (A.SNS_SEQ 0)) = false → u.sns.entry = some (0, s.reg (A.SNS_SEQ 0)) ∧ u.get F.SNS_SEQ_STATUS_ENTRY_NOW = 0 ∧ u.sns.waiting = !snsIsInt (s.reg (A.SNS_SEQ 0)) ∧ (snsIsInt (s.reg (A.SNS_SEQ 0)) = true → u.get F.SNS_INT_STATUS_N_LAST = (if s.on F.CLK_MAINS_STATUS_VALID then (divRne (s.get F.CLK_MAINS_PERIOD_PERIOD * 64 : Nat) 375).toNat % 2 ^ 17 else if s.on F.SNS_CFG_NOM_HZ then 68267 else 81920))) ∧
        (s.snsState = 2 → s.get F.SNS_SEQ_CTRL_POLICY = 1 → u.get F.SNS_COUNT_TRIG_LOST = min (s.get F.SNS_COUNT_TRIG_LOST + 1) 0xFFFF ∧ u.get F.SNS_STATUS_TRIG_OVR = s.get F.SNS_STATUS_TRIG_OVR ∧ u.get F.SNS_SEQ_STATUS_PENDING = s.get F.SNS_SEQ_STATUS_PENDING) ∧
        (s.snsState = 2 → s.get F.SNS_SEQ_CTRL_POLICY = 0 → s.on F.SNS_SEQ_STATUS_PENDING = false → u.get F.SNS_SEQ_STATUS_PENDING = 1 ∧ u.get F.SNS_COUNT_TRIG_LOST = s.get F.SNS_COUNT_TRIG_LOST) ∧
        (s.snsState = 2 → s.get F.SNS_SEQ_CTRL_POLICY = 0 → s.on F.SNS_SEQ_STATUS_PENDING = true → u.get F.SNS_STATUS_TRIG_OVR = 1 ∧ u.on (F.PG_IRQ 0x0B 5) = true ∧ u.get F.SNS_COUNT_TRIG_LOST = min (s.get F.SNS_COUNT_TRIG_LOST + 1) 0xFFFF) ∧
        Touches [.sns] [] [whole A.SNS_SEQ_STATUS, whole A.SNS_INT_STATUS, whole A.SNS_STATUS, F.SNS_COUNT_TRIG_LOST, F.PG_IRQ 0x0B 5] s u) ∧
  (∀ (s : State), 
      s.snsHears = true → (s.get F.SNS_SEQ_CTRL_TRIG_SRC = 1 ∨ s.get F.SNS_SEQ_CTRL_TRIG_SRC = 2) → s.get F.SNS_SEQ_STATUS_DIV_COUNT < s.get F.SNS_SEQ_CTRL_TRIG_DIV →
      ∃ u, Yields .snsHwTrigger s u ∧
        u.get F.SNS_SEQ_STATUS_DIV_COUNT = s.get F.SNS_SEQ_STATUS_DIV_COUNT + 1 ∧
        Touches [] [] [F.SNS_SEQ_STATUS_DIV_COUNT] s u) ∧
  (∀ (ini : Fin 5) (w : Word) (s : State), 
      s.mayWrite ini A.SNS_SEQ_CTRL (w ||| 0x4#32) = true → bits w 1 1 = 0 → s.snsState = 2 →
      ∃ u, Yields (.snsAbort ini w) s u ∧
        u.snsState = 1 ∧
        u.sns.entry = none ∧
        u.get F.SNS_SEQ_STATUS_PENDING = 0 ∧
        u.sns.ended = false ∧
        u.reg A.SNS_RESULT = s.reg A.SNS_RESULT ∧
        u.reg A.SNS_COUNT = s.reg A.SNS_COUNT ∧
        ((match s.sns.entry with | some e => snsIsInt e.2 | none => false) = true → u.get F.SNS_STATUS_INT_ABANDONED = 1 ∧ u.get F.SNS_COUNT2_ABANDONED = min (s.get F.SNS_COUNT2_ABANDONED + 1) 0xFFFF) ∧
        Touches [.sns] [] [whole A.SNS_SEQ_CTRL, whole A.SNS_SEQ_STATUS, whole A.SNS_STATUS, F.SNS_COUNT2_ABANDONED] s u) ∧
  (∀ (k : Fin 4) (w : Word) (code : Int) (ticks : Nat) (s : State), 
      s.clocked .sense = true → s.snsRuns = true → s.sns.conv = .drone k w → (snsCh w ≠ 10 ∧ snsCh w ≠ 11) →
      ∃ u, Yields (.snsReedConvDone code ticks) s u ∧
        (u.mains.rip = if k.val = 0 then (s.mains.rip.sample ticks (if code < 0 then 0 else if 0xFFF < code then 0xFFF else code.toNat)).1 else s.mains.rip) ∧
        (k.val ≠ 0 ∨ (s.mains.rip.sample ticks (if code < 0 then 0 else if 0xFFF < code then 0xFFF else code.toNat)).2 = none → u.mains = { s.mains with rip := u.mains.rip } ∧ u.reg A.CLK_MAINS_STATUS = s.reg A.CLK_MAINS_STATUS ∧ u.reg A.CLK_MAINS_COUNT = s.reg A.CLK_MAINS_COUNT ∧ u.reg A.SNS_SEQ_STATUS = s.reg A.SNS_SEQ_STATUS) ∧
        (vget u.sns.sums k.val (0, 0) = ((vget s.sns.sums k.val (0, 0)).1 + (if code < 0 then 0 else if 0xFFF < code then 0xFFF else code.toNat), (vget s.sns.sums k.val (0, 0)).2 + 1)) ∧
        ((decide (code < 0) || decide (0xFFF < code)) = true → u.get F.SNS_STATUS_ORNG = 1) ∧
        u.reg A.SNS_RESULT = s.reg A.SNS_RESULT ∧
        (s.on (.mk A.SNS_URGENT 25 1) = true → u.sns.conv = .urgent s.sns.urg) ∧
        (s.sns.waiting = true → s.on (.mk A.SNS_URGENT 25 1) = false → s.sns.entry.isSome = true → u.sns.conv = .seq (s.sns.entry.getD (0, 0)).1 (s.sns.entry.getD (0, 0)).2 ∧ u.sns.waiting = false) ∧
        (s.sns.waiting = false → s.on (.mk A.SNS_URGENT 25 1) = false → u.sns.conv = .drone (s.nextDrone s.sns.rr) (s.reg (A.SNS_DRONE_CFG (s.nextDrone s.sns.rr)))) ∧
        Touches [.sns, .mains] [] ([F.SNS_STATUS_ORNG, F.PG_IRQ 0x0B 6, whole A.CLK_MAINS_STATUS, whole A.CLK_MAINS_PERIOD, whole A.CLK_MAINS_COUNT, F.PG_IRQ 0x03 9] ++ [whole A.SNS_SEQ_STATUS, whole A.SNS_INT_STATUS, whole A.SNS_STATUS, F.SNS_COUNT_TRIG_LOST, F.PG_IRQ 0x0B 5]) s u) ∧
  (∀ (k : Fin 16) (w : Word) (code : Int) (ticks : Nat) (s : State), 
      s.clocked .sense = true → s.snsRuns = true → s.sns.conv = .seq k w → bits w 21 1 = 1 → (snsCh w ≠ 10 ∧ snsCh w ≠ 11) →
      ∃ u, Yields (.snsReedConvDone code ticks) s u ∧
        (u.get F.SNS_RESULT_VALUE = (if code < 0 then 0 else if 0xFFF < code then 0xFFF else code.toNat)) ∧
        u.get F.SNS_RESULT_ENTRY = k.val ∧
        u.on F.SNS_RESULT_READY = true ∧
        u.get F.SNS_RESULT_CONV = 0 ∧ u.get F.SNS_RESULT_URG = 0 ∧
        u.on F.SNS_RESULT_ORNG = (decide (code < 0) || decide (0xFFF < code)) ∧
        u.on F.SNS_RESULT_OVR = s.on F.SNS_RESULT_READY ∧
        (s.on F.SNS_RESULT_READY = true → u.get F.SNS_STATUS_OVR = 1 ∧ u.get F.SNS_COUNT2_OVERRUNS = min (s.get F.SNS_COUNT2_OVERRUNS + 1) 0xFFFF ∧ u.on (F.PG_IRQ 0x0B 4) = true) ∧
        (s.on F.SNS_RESULT_READY = false → u.on (F.PG_IRQ 0x0B 2) = true) ∧
        ((decide (code < 0) || decide (0xFFF < code)) = true → bits (u.reg A.SNS_ENTRY_OVR) k 1 = 1) ∧
        (s.sns.entry = some (k.val, w) → k.val < s.sns.last → s.sns.endRun = false → snsInvalid (s.reg (A.SNS_SEQ (k.val + 1))) = false → u.sns.entry = some (k.val + 1, s.reg (A.SNS_SEQ (k.val + 1)))) ∧
        (s.sns.entry = some (k.val, w) → s.sns.last ≤ k.val → u.sns.ended = true) ∧
        Touches [.sns] [0x0B] [] s u) ∧
  (∀ (w : Word) (code : Int) (ticks : Nat) (s : State), 
      s.clocked .sense = true → s.snsRuns = true → s.sns.conv = .urgent w → (snsCh w ≠ 10 ∧ snsCh w ≠ 11) →
      ∃ u, Yields (.snsReedConvDone code ticks) s u ∧
        (u.get F.SNS_RESULT_VALUE = (if code < 0 then 0 else if 0xFFF < code then 0xFFF else code.toNat)) ∧
        u.get F.SNS_RESULT_URG = 1 ∧ u.get F.SNS_RESULT_ENTRY = 0 ∧
        u.on F.SNS_RESULT_READY = true ∧
        u.on (.mk A.SNS_URGENT 25 1) = false ∧
        u.on F.SNS_RESULT_OVR = s.on F.SNS_RESULT_READY ∧
        u.sns.entry = s.sns.entry ∧
        Touches [.sns] [0x0B] [] s u) ∧
  (∀ (k : Fin 16) (w : Word) (q : Int) (s : State), 
      s.clocked .sense = true → s.sns.entry = some (k.val, w) → snsIsInt w = true → s.sns.wins + 1 < snsTime w →
      ∃ u, Yields (.snsIntEntryDone q) s u ∧
        u.sns.entry = s.sns.entry ∧
        u.sns.wins = s.sns.wins + 1 ∧
        u.sns.periods = s.sns.periods + s.sns.n ∧
        u.sns.acc = s.sns.acc + q ∧
        u.sns.n = s.intPeriods ∧
        u.get F.SNS_INT_STATUS_N_LAST = s.intPeriods % 2 ^ 17 ∧
        u.on F.SNS_INT_STATUS_NOMINAL = !s.on F.CLK_MAINS_STATUS_VALID ∧
        u.sns.ended = s.sns.ended ∧
        Touches [.sns] [] [F.SNS_INT_STATUS_N_LAST, F.SNS_INT_STATUS_NOMINAL] s u) ∧
  (∀ (k : Fin 16) (w : Word) (q : Int) (s : State), 
      s.clocked .sense = true → s.sns.entry = some (k.val, w) → snsIsInt w = true → snsTime w ≤ s.sns.wins + 1 → (snsCh w ≠ 10 ∧ snsCh w ≠ 11) →
      ∃ u, Yields (.snsIntEntryDone q) s u ∧
        (bits w 21 1 = 1 → signed 20 (u.get F.SNS_RESULT_VALUE) = max (-0x7FFFF) (min 0x7FFFF (divRne (s.sns.acc + q) (max 1 (s.sns.periods + s.sns.n)))) ∧ u.get F.SNS_RESULT_CONV = 1 ∧ u.get F.SNS_RESULT_ENTRY = k.val ∧ u.on F.SNS_RESULT_READY = true) ∧
        (bits w 21 1 = 0 → u.reg A.SNS_RESULT = s.reg A.SNS_RESULT) ∧
        ((divRne (s.sns.acc + q) (max 1 (s.sns.periods + s.sns.n))) < -0x7FFFF ∨ 0x7FFFF < (divRne (s.sns.acc + q) (max 1 (s.sns.periods + s.sns.n))) → u.get F.SNS_STATUS_ORNG = 1) ∧
        (s.sns.last ≤ k.val → u.sns.ended = true) ∧
        (snsCh w ≠ 37 ∨ s.sns.pCnt = 0 → u.blw = s.blw) ∧
        (snsCh w = 37 → 0 < s.sns.pCnt → u.blw.e = s.blw.e ∧ u.blw.fix = s.blw.fix ++ [((divRne (max (-0x7FFFF) (min 0x7FFFF (divRne (s.sns.acc + q) (max 1 (s.sns.periods + s.sns.n)))) * 25920000000000) (2 ^ 19 * snsGain w * max 1 (s.get F.SNS_SHUNT_UOHM)) - s.sns.pSum.fdiv s.sns.pCnt) * (s.sns.periods + s.sns.n : Nat)).fdiv 4096]) ∧
        Touches [.sns, .blw] [0x0B] [] s u) ∧
  (∀ (s : State), 
      s.clocked .sense = true → s.sns.ended = true → s.snsState = 2 →
      ∃ u, Yields .snsRunDone s u ∧
        u.get F.SNS_COUNT_SEQ_DONE = min (s.get F.SNS_COUNT_SEQ_DONE + 1) 0xFFFF ∧
        u.on (F.PG_IRQ 0x0B 3) = true ∧
        u.get F.SNS_SEQ_STATUS_PENDING = 0 ∧
        (s.on F.SNS_SEQ_STATUS_PENDING = true ∧ s.on F.SNS_SEQ_CTRL_RUN = true → u.snsState = 2 ∧ u.sns.last = s.get F.SNS_SEQ_CTRL_LAST) ∧
        (s.on F.SNS_SEQ_STATUS_PENDING = false ∨ s.on F.SNS_SEQ_CTRL_RUN = false → u.snsState = 1 ∧ u.sns.entry = none ∧ u.sns.ended = false) ∧
        Touches [.sns] [] [F.SNS_COUNT_SEQ_DONE, F.PG_IRQ 0x0B 3, whole A.SNS_SEQ_STATUS, whole A.SNS_STATUS, whole A.SNS_INT_STATUS] s u)

/-- SNS_URGENT_START on an enabled page, of any channel but 39, by an initiator that may write it: with one pending URG_BUSY is set and the request stays; PVDD_P and LOOPBACK set SEQ_ERR and queue none; else it is queued with channel, gain and time. SNS_RESULT_READ, not refused, outside a freeze, clears READY only, and an internal one returns the word; an internal one behind a wipe or another stalled access waits with it. SNS_DRONE_WRITE holds channel and EN of drones 1 to 3; PVDD_P sets SEQ_ERR and the drone does not run; no other channel sets it. SNS_PP_WRITE holds CODE, ROUTE and INJ. SNS_DIAG_START on an enabled page with none busy: PROC 1 above sensor 7 ends at once with CAUSE 7 and no job; else BUSY, and with a slot its job. With the converters running, SNS_DIAG_DONE of PROC 0: DONE, its interrupt, CAUSE by the two limits, PASS where neither is exceeded, fault 0x02 where one is, both numbers in the result; of another PROC, first V0 alone, which is kept and begins the injection, at which PROC 1's channel shows as injected; then, its numbers within the injection's range, the ratio of R357 (saturated) and CAUSE 3 where it is below its floor, no new fault. ADC_SLICE_TEST_DONE and DAC_SLICE_TEST_DONE of a slice not in use: CAUSE of the levels, else 4 or 5, PASS, the slice named; it becomes SPARE, or RETIRED. SNS_CNT_CLR clears the counters. Each with its frame. -/
def Obligations.SenseRequests : Prop :=
  (∀ (ini : Fin 5) (w : Word) (s : State), 
      s.mayWrite ini A.SNS_URGENT (w ||| 0x1000000#32) = true → s.on (F.PG_ENABLE 0x0B) = true → bits w 0 6 ≠ 39 →
      ∃ u, Yields (.snsUrgentStart ini w) s u ∧
        (s.on (.mk A.SNS_URGENT 25 1) = true → u.get F.SNS_STATUS_URG_BUSY = 1 ∧ u.sns = s.sns ∧ u.on (.mk A.SNS_URGENT 25 1) = true) ∧
        (s.on (.mk A.SNS_URGENT 25 1) = false → (bits w 0 6 = 37 ∨ bits w 0 6 = 38) → u.get F.SNS_STATUS_SEQ_ERR = 1 ∧ u.on (.mk A.SNS_URGENT 25 1) = false ∧ u.sns = s.sns) ∧
        (s.on (.mk A.SNS_URGENT 25 1) = false → bits w 0 6 ≠ 37 → bits w 0 6 ≠ 38 → u.on (.mk A.SNS_URGENT 25 1) = true ∧ bits u.sns.urg 0 6 = bits w 0 6 ∧ snsGain u.sns.urg = 2 ^ bits w 8 3 ∧ snsTime u.sns.urg = bits w 12 8) ∧
        Touches [.sns] [] [whole A.SNS_URGENT, F.SNS_STATUS_URG_BUSY, F.SNS_STATUS_SEQ_ERR] s u) ∧
  (∀ (ini : Fin 5) (s : State), 
      s.pathOpen ini = true → s.refusal ini false A.SNS_RESULT 0 = 0 → s.frozen = false → s.mustWait ini.val false A.SNS_RESULT = false →
      ∃ u, Yields (.snsResultRead ini) s u ∧
        u.get F.SNS_RESULT_READY = 0 ∧
        (ini.val = 4 → u.answers = [[(s.peek A.SNS_RESULT).1]]) ∧
        Touches ((if ini.val = 4 then [.answers] else [])) [] [F.SNS_RESULT_READY] s u) ∧
  (∀ (ini : Fin 5) (s : State), 
      ini.val = 4 → s.pathOpen 4 = true → s.mustWait 4 false A.SNS_RESULT = true →
      ∃ u, Yields (.snsResultRead ini) s u ∧
        u.stalled = s.stalled ++ [.read A.SNS_RESULT 1] ∧
        u.answers = s.answers ∧
        Touches [.stalled] [] [] s u) ∧
  (∀ (ini : Fin 5) (k : Fin 4) (w : Word) (s : State), 
      s.mayWrite ini (A.SNS_DRONE_CFG k) w = true →
      ∃ u, Yields (.snsDroneWrite ini k w) s u ∧
        (k.val ≠ 0 → u.get (F.SNS_DRONE_CFG_CHANNEL k) = bits w 0 6 ∧ u.get (F.SNS_DRONE_CFG_EN k) = bits w 31 1) ∧
        (k.val ≠ 0 → bits w 0 6 = 37 → u.get F.SNS_STATUS_SEQ_ERR = 1 ∧ u.droneOn k = false) ∧
        (bits w 0 6 ≠ 37 → u.get F.SNS_STATUS_SEQ_ERR = s.get F.SNS_STATUS_SEQ_ERR) ∧
        u.sns = s.sns ∧
        Touches [] [] [whole (A.SNS_DRONE_CFG k), F.SNS_STATUS_SEQ_ERR] s u) ∧
  (∀ (ini : Fin 5) (w : Word) (s : State), 
      s.mayWrite ini A.SNS_PP_CTRL w = true →
      ∃ u, Yields (.snsPpWrite ini w) s u ∧
        u.get F.SNS_PP_CTRL_CODE = bits w 0 10 ∧
        u.get F.SNS_PP_CTRL_ROUTE = bits w 12 2 ∧
        u.get F.SNS_PP_CTRL_INJ = bits w 16 3 ∧
        u.get F.SNS_PP_CTRL_BUSY = s.get F.SNS_PP_CTRL_BUSY ∧
        Touches [] [] [whole A.SNS_PP_CTRL] s u) ∧
  (∀ (ini : Fin 5) (w : Word) (s : State), 
      s.mayWrite ini A.SNS_DIAG_CTRL (w ||| 0x1#32) = true → s.on (F.PG_ENABLE 0x0B) = true → s.on F.SNS_DIAG_STATUS_BUSY = false →
      ∃ u, Yields (.snsDiagStart ini w) s u ∧
        (bits w 1 2 = 1 → 7 < bits w 8 4 → u.get F.SNS_DIAG_STATUS_DONE = 1 ∧ u.get F.SNS_DIAG_STATUS_PASS = 0 ∧ u.get F.SNS_DIAG_STATUS_CAUSE = 7 ∧ u.on (F.PG_IRQ 0x0B 7) = true ∧ u.reg A.SNS_DIAG_RESULT = s.reg A.SNS_DIAG_RESULT ∧ u.jobs = s.jobs) ∧
        (bits w 1 2 ≠ 1 ∨ bits w 8 4 ≤ 7 → u.get F.SNS_DIAG_STATUS_BUSY = 1 ∧ u.sns.diag = some (bits w 1 2, bits w 8 4)) ∧
        (bits w 1 2 ≠ 1 ∨ bits w 8 4 ≤ 7 → s.freeSlot.isSome = true → u.jobLive 0xA (bits w 1 2) = true) ∧
        Touches (.sns :: jobParts) [] [whole A.SNS_DIAG_CTRL, whole A.SNS_DIAG_STATUS, F.PG_IRQ 0x0B 7, F.SNS_PP_CTRL_BUSY, F.MNT_COUNT2_DROPPED, F.PG_IRQ 6 6] s u) ∧
  (∀ (a b : Int) (s : State), 
      s.clocked .sense = true → s.snsRuns = true → s.sns.diagRun = true → (match s.sns.diag with | some e => decide (e.1 = 0) | none => false) = true →
      ∃ u, Yields (.snsDiagDone a b true) s u ∧
        u.get F.SNS_DIAG_STATUS_DONE = 1 ∧
        u.get F.SNS_DIAG_STATUS_BUSY = 0 ∧
        u.on (F.PG_IRQ 0x0B 7) = true ∧
        (u.get F.SNS_DIAG_STATUS_CAUSE = if a < -4 ∨ 4 < a then 1 else if b < -524 ∨ 524 < b then 2 else 0) ∧
        u.on F.SNS_DIAG_STATUS_PASS = decide (-4 ≤ a ∧ a ≤ 4 ∧ -524 ≤ b ∧ b ≤ 524) ∧
        (u.on F.SNS_DIAG_STATUS_PASS = false → u.get (F.PG_FAULT 0x0B) = 2) ∧
        signed 16 (bits (u.reg A.SNS_DIAG_RESULT) 0 16) = max (-32768) (min 32767 a) ∧ signed 16 (bits (u.reg A.SNS_DIAG_RESULT) 16 16) = max (-32768) (min 32767 b) ∧
        u.sns.diag = none ∧
        Touches (.sns :: jobParts) [0x06] [whole A.SNS_DIAG_STATUS, F.PG_IRQ 0x0B 7, whole A.SNS_DIAG_RESULT, F.SNS_PP_CTRL_BUSY, F.PG_FAULT 0x0B, F.PG_IRQ 0x0B 1] s u) ∧
  (∀ (a b : Int) (s : State), 
      s.clocked .sense = true → s.snsRuns = true → s.sns.diagRun = true → (match s.sns.diag with | some e => decide (e.1 ≠ 0) | none => false) = true → s.sns.inject = none →
      ∃ u, Yields (.snsDiagDone a b false) s u ∧
        u.sns = { s.sns with inject := some a } ∧
        ((match s.sns.diag with | some e => decide (e.1 = 1) | none => false) = true → s.on F.SNS_PP_CTRL_BUSY = true → u.snsInjected (2 + (s.sns.diag.getD (0, 0)).2) = true ∧ s.snsInjected (2 + (s.sns.diag.getD (0, 0)).2) = false) ∧
        Touches [.sns] [] [] s u) ∧
  (∀ (a b : Int) (s : State), 
      s.clocked .sense = true → s.snsRuns = true → s.sns.diagRun = true → (s.sns.inject = some a ∨ s.sns.inject = none) → (match s.sns.diag with | some e => decide (e.1 ≠ 0) | none => false) = true → 18 * a ≤ 655360 → 16 < b - a → b < 64 * injCode a →
      ∃ u, Yields (.snsDiagDone a b true) s u ∧
        u.get F.SNS_DIAG_RESULT_RESULT = min (divRne (100000 * (b - a)) (64 * injCode a - b).toNat).toNat 0xFFFFFFFF ∧
        (u.get F.SNS_DIAG_STATUS_CAUSE = if 1000000 * (64 * injCode a - b) < 100000 * (b - a) then 3 else 0) ∧
        u.get F.SNS_DIAG_STATUS_DONE = 1 ∧
        u.sns.diag = none ∧
        u.get (F.PG_FAULT 0x0B) = s.get (F.PG_FAULT 0x0B) ∧
        Touches (.sns :: jobParts) [0x06] [whole A.SNS_DIAG_STATUS, F.PG_IRQ 0x0B 7, whole A.SNS_DIAG_RESULT, F.SNS_PP_CTRL_BUSY] s u) ∧
  (∀ (a : Fin 18) (l0 l1 l2 l3 l4 : Int) (stuck : Bool) (s : State), 
      s.clocked .sense = true → s.snsRuns = true → s.sns.adcTest = some a.val → s.asl a ≠ 1 →
      ∃ u, Yields (.adcSliceTestDone a l0 l1 l2 l3 l4 stuck) s u ∧
        (u.get F.SNS_SLICE_TEST_CAUSE = if sliceCause l0 l1 l2 l3 l4 ≠ 0 then sliceCause l0 l1 l2 l3 l4 else if stuck then 4 else 0) ∧
        u.on F.SNS_SLICE_TEST_PASS = (decide (sliceCause l0 l1 l2 l3 l4 = 0) && !stuck) ∧
        u.get F.SNS_SLICE_TEST_DAC = 0 ∧
        u.get F.SNS_SLICE_TEST_SLICE = a.val ∧
        (u.asl a = if sliceCause l0 l1 l2 l3 l4 = 0 ∧ stuck = false then 0 else 4) ∧
        u.sns.adcTest = none ∧
        Touches (([.sns, .aslTrim, .otp] : List Part) ++ jobParts) [0x06] [whole A.SNS_SLICE_TEST, F.SNS_PP_CTRL_BUSY, whole A.AUX_SLICE_STATE0, whole A.AUX_SLICE_STATE1] s u) ∧
  (∀ (d : Fin 10) (l0 l1 l2 l3 l4 : Int) (elem : Bool) (s : State), 
      s.clocked .sense = true → s.snsRuns = true → s.sns.dacTest = some d.val → s.dsl d ≠ 1 →
      ∃ u, Yields (.dacSliceTestDone d l0 l1 l2 l3 l4 elem) s u ∧
        (u.get F.SNS_SLICE_TEST_CAUSE = if sliceCause l0 l1 l2 l3 l4 ≠ 0 then sliceCause l0 l1 l2 l3 l4 else if elem then 5 else 0) ∧
        u.get F.SNS_SLICE_TEST_DAC = 1 ∧
        u.get F.SNS_SLICE_TEST_SLICE = d.val ∧
        (u.dsl d = if sliceCause l0 l1 l2 l3 l4 = 0 ∧ elem = false then 0 else 4) ∧
        u.sns.dacTest = none ∧
        Touches (([.sns, .otp] : List Part) ++ jobParts) [0x06] [whole A.SNS_SLICE_TEST, whole A.JCK_DSL_STATE] s u) ∧
  (∀ (ini : Fin 5) (w : Word) (s : State), 
      s.mayWrite ini A.SNS_CNT_CLR (w ||| 0x1#32) = true →
      ∃ u, Yields (.snsCntClr ini w) s u ∧
        u.reg A.SNS_COUNT = 0 ∧
        u.reg A.SNS_COUNT2 = 0 ∧
        Touches [] [] [whole A.SNS_COUNT, whole A.SNS_COUNT2] s u)

/-- Outside a life-cycle transition, for a word the initiator may write. PWR_GO while BUSY or loading: REQ_IGNORED, nothing else. Naming RUN in a lower state at rest: a wake with source 11. Naming a deeper state: BUSY, S1, its target, the refusals of R366 from each participant (from SLEEP only participant 5 is asked), no earlier wake kept. Naming another state not deeper: nothing. PWR_CANCEL marks an entry in S1 to S5. PWR_ACCT_CLR clears the accounting and MAX_US. PWR_QUIESCE_TIMEOUT in S1, not entered from a freeze, no port still quiescing: with no refusal, silence, abort cause or wake, target 1 enters IDLE, counted, OP_NOW kept, BUSY ended unless a notification is owed; a deeper target takes OP0, and goes to S5 with its regulator request where the link is on and the acknowledged point is not 0, else to S6; an entry from RUN gates the clocks; the time is held, at most 200 us, and no abort counted. With a refusal, entered from RUN: aborted at AP1, CAUSE 1, target, counts, maps and both interrupts, the state kept, the first refusal's record only if none was held, USB's refusal with its page and reason, clocks running. PWR_ENTRY_COMPLETE in S6, no wake latched and WAKE_N high: the target is entered, counted, BUSY ended unless a notification wakes it, every PLL OFF, no fault 0x01, the FLL unlocked in DEEP and OFF, listening goes on in SLEEP, OTP kept. Each with its frame. -/
def Obligations.PowerEntry : Prop :=
  (∀ (ini : Fin 5) (w : Word) (s : State), 
      s.mayWrite ini A.PWR_CTRL (w ||| 0x10#32) = true → bits w 5 1 = 0 → s.lcy.trans = false →
      ∃ u, Yields (.pwrGo ini w) s u ∧
        (s.pwrBusy = true ∨ s.ldr.st ≠ .idle → u.get F.PWR_STATE_REQ_IGNORED = 1 ∧ u.pwr = s.pwr ∧ u.pwrStep = s.pwrStep) ∧
        (s.pwrBusy = false → s.ldr.st = .idle → bits w 0 3 = 0 → 1 ≤ s.domState → s.pwrStep = 0 → u.pwr.waking = some 11 ∧ u.pwrBusy = true ∧ u.pwrStep = 0) ∧
        (s.pwrBusy = false → s.ldr.st = .idle → s.domState < bits w 0 3 → u.pwrBusy = true ∧ u.pwrStep = 1 ∧ u.pwrTarget = bits w 0 3 ∧ u.pwr.start = s.domState ∧ u.domState = s.domState ∧ (∀ b : Nat, b < 30 → u.pwr.refused / 2 ^ b % 2 = (s.refuses b (bits w 0 3) && (decide (s.domState ≠ 2) || decide (b = 5))).toNat) ∧ u.pwr.wakes = []) ∧
        (s.pwrBusy = false → s.ldr.st = .idle → bits w 0 3 ≤ s.domState → bits w 0 3 ≠ 0 → u.pwr = s.pwr ∧ u.reg A.PWR_STATE = s.reg A.PWR_STATE ∧ u.quiet = s.quiet) ∧
        Touches (audioParts ++ jobParts ++ ([.famOut, .pwr, .quiet, .gated, .opNext, .opHeld, .pmb, .mem, .free, .feChange, .tkoOn, .tko, .pllTest, .otp, .mac, .bankTest, .rotDue, .grants, .blw, .usb, .domState] : List Part)) (audioPages ++ [0x00, 0x01, 0x02, 0x03, 0x04, 0x06, 0x08, 0x09, 0x0A]) [] s u) ∧
  (∀ (ini : Fin 5) (w : Word) (s : State), 
      s.mayWrite ini A.PWR_CTRL (w ||| 0x20#32) = true → bits w 4 1 = 0 →
      ∃ u, Yields (.pwrCancel ini w) s u ∧
        u.pwr = { s.pwr with cancel := s.pwr.cancel || (s.pwrBusy && decide (1 ≤ s.pwrStep) && decide (s.pwrStep ≤ 5)) } ∧
        Touches [.pwr] [] [whole A.PWR_CTRL] s u) ∧
  (∀ (ini : Fin 5) (w : Word) (s : State), 
      s.mayWrite ini A.PWR_ACCT_CLR (w ||| 0x1#32) = true →
      ∃ u, Yields (.pwrAcctClr ini w) s u ∧
        (∀ k : Nat, k < 6 → u.reg (aonRegs.getD k 0) = 0) ∧
        u.get F.PWR_QUIESCE_TIME_LAST_US = s.get F.PWR_QUIESCE_TIME_LAST_US ∧
        Touches [] [] (F.PWR_QUIESCE_TIME_MAX_US :: aonRegs.map whole) s u) ∧
  (∀ (silent us : Nat) (found : List (Nat × Nat × Nat)) (s : State), 
      s.pwrStep = 1 → s.pwr.frozen = false → s.pwr.refused = 0 → silent % 2 ^ 30 = 0 → (∀ p : Nat, p < 8 → (s.sapAt p).phase ≠ .quiescing) → s.abortCause = none → 1 ≤ s.pwrTarget → s.pwr.waking = none →
      ∃ u, Yields (.pwrQuiesceTimeout silent us found) s u ∧
        (s.pwrTarget = 1 → u.domState = 1 ∧ u.get F.PWR_STATE_STATE = 1 ∧ u.pwrStep = 0 ∧ u.get F.PWR_COUNT2_ENTRIES = min (s.get F.PWR_COUNT2_ENTRIES + 1) 0xFFFF ∧ u.opNow = s.opNow) ∧
        (s.pwrTarget = 1 → s.notifyWord = 0 → u.pwrBusy = false) ∧
        (2 ≤ s.pwrTarget → u.opNow = 0 ∧ u.domState = s.domState ∧ u.opNext = none ∧ u.pwrStep = if s.pwrTarget ≤ 4 ∧ s.linkOn = true ∧ s.get F.PMB_STATUS_OP_ACK ≠ 0 then 5 else 6) ∧
        (2 ≤ s.pwrTarget → s.pwrTarget ≤ 4 → s.linkOn = true → s.get F.PMB_STATUS_OP_ACK ≠ 0 → u.get F.PMB_STATUS_BUSY = 1 ∧ u.pmb.kind = .s5 ∧ u.pmb.op = 0) ∧
        (s.pwr.start = 0 → u.gated = true) ∧
        u.get F.PWR_QUIESCE_TIME_LAST_US = min us 200 ∧
        u.get F.PWR_COUNT_ABORTS = s.get F.PWR_COUNT_ABORTS ∧
        Touches (audioParts ++ jobParts ++ ([.famOut, .pwr, .quiet, .gated, .opNext, .opHeld, .pmb, .mem, .free, .feChange, .tkoOn, .tko, .pllTest, .otp, .mac, .bankTest, .rotDue, .grants, .blw, .usb, .domState] : List Part)) (audioPages ++ [0x00, 0x01, 0x02, 0x03, 0x04, 0x06, 0x08, 0x09, 0x0A]) [] s u) ∧
  (∀ (silent us : Nat) (found : List (Nat × Nat × Nat)) (s : State), 
      s.pwrStep = 1 → s.pwr.frozen = false → s.pwr.start = 0 → 0 < s.pwr.refused → s.pwr.refused < 2 ^ 30 → silent = 0 → s.pwr.s5 = false → (∀ p : Nat, p < 8 → (s.sapAt p).phase ≠ .quiescing) →
      ∃ u, Yields (.pwrQuiesceTimeout silent us found) s u ∧
        u.domState = s.domState ∧
        u.pwrStep = 0 ∧
        u.pwrBusy = false ∧
        u.get F.PWR_ABORT_INFO_CAUSE = 1 ∧
        u.get F.PWR_ABORT_INFO_AP = 1 ∧
        u.get F.PWR_ABORT_INFO_TARGET = s.pwrTarget ∧
        u.get F.PWR_COUNT_ABORTS = min (s.get F.PWR_COUNT_ABORTS + 1) 0xFFFF ∧
        u.get F.PWR_COUNT_REFUSALS = min (s.get F.PWR_COUNT_REFUSALS + 1) 0xFFFF ∧
        u.get F.PWR_REFUSE_MAP_MAP = s.pwr.refused ∧
        u.get F.PWR_SILENT_MAP_MAP = 0 ∧
        u.on (F.PG_IRQ 0x01 2) = true ∧ u.on (F.PG_IRQ 0x01 3) = true ∧
        (s.get F.PWR_REFUSE_FIRST_VALID = 1 → u.reg A.PWR_REFUSE_FIRST = s.reg A.PWR_REFUSE_FIRST) ∧
        (s.get F.PWR_REFUSE_FIRST_VALID = 0 → u.reg A.PWR_REFUSE_FIRST = u.reg A.PWR_REFUSE_LAST) ∧
        (s.pwr.refused = 8 → bits (u.reg A.PWR_REFUSE_LAST) 16 8 = 0x0A ∧ bits (u.reg A.PWR_REFUSE_LAST) 10 2 = 1) ∧
        u.gated = false ∧
        Touches (audioParts ++ jobParts ++ ([.famOut, .pwr, .quiet, .gated, .opNext, .opHeld, .pmb, .mem, .free, .feChange, .tkoOn, .tko, .pllTest, .otp, .mac, .bankTest, .rotDue, .grants, .blw, .usb, .domState] : List Part)) (audioPages ++ [0x00, 0x01, 0x02, 0x03, 0x04, 0x06, 0x08, 0x09, 0x0A]) [] s u) ∧
  (∀ (cut : Option (Nat × List Nat)) (s : State), 
      s.pwrStep = 6 → s.frozen = false → (s.pwrTarget = 2 ∨ s.pwrTarget = 3 ∨ s.pwrTarget = 4 ∨ s.pwrTarget = 5) → s.pwr.waking = none → s.pins.wakeLow = false →
      ∃ u, Yields (.pwrEntryComplete cut) s u ∧
        u.domState = s.pwrTarget ∧
        u.get F.PWR_STATE_STATE = s.pwrTarget ∧
        u.pwrStep = 0 ∧
        (s.notifyWord = 0 ∨ s.on F.PWR_WAKE_EN_IRQ = false ∨ 3 ≤ s.pwrTarget → u.pwrBusy = false) ∧
        u.get F.PWR_COUNT2_ENTRIES = min (s.get F.PWR_COUNT2_ENTRIES + 1) 0xFFFF ∧
        (∀ x : Nat, x < 3 → u.get (F.CLK_PLL_STATUS_STATE x) = 0) ∧
        u.get (F.PG_FAULT 0x01) ≠ 1 ∧
        (3 ≤ s.pwrTarget → u.on F.CLK_FLL_STATUS_LOCKED = false) ∧
        (s.pwrTarget = 2 → u.lst.sleep = true) ∧
        u.otp = s.otp ∧ u.gated = s.gated ∧
        Touches (audioParts ++ jobParts ++ ([.famOut, .pwr, .quiet, .gated, .opNext, .opHeld, .pmb, .mem, .free, .feChange, .tkoOn, .tko, .pllTest, .otp, .mac, .bankTest, .rotDue, .grants, .blw, .usb, .domState] : List Part) ++ ([.smb, .keptUsb, .trk] : List Part)) (audioPages ++ [0x00, 0x01, 0x02, 0x03, 0x04, 0x06, 0x08, 0x09, 0x0A]) [] s u)

/-- PWR_WAKE_SOURCE of an enabled source that acts in the present state (in an entry, in its target): at rest it starts a wake; during a wake nothing more; in S1 to S5 it is kept for the next abort point; in S6 it makes a late wake, of the first such source; it is recorded in SOURCES_SEEN. PWR_WAKE_TIMER_EXPIRE at rest in IDLE to DEEP with a time set: a wake with source 9, recorded. WAKE_N_LOW of a ball that was high: at rest in IDLE to DEEP a wake with source 1, recorded; in OFF a cold boot with cause 2 that keeps OTP and the always-on counters; each holds the ball's new level. Of a ball already low, or in RUN: only the level. PWR_WAKE_COMPLETE with PGOOD low, but from IDLE, leaves the wake where it is and shows the level. Of a running wake outside a freeze, with PGOOD high or from IDLE: RUN, BUSY ended, the wake's source, state left, LATE and latency (at most 65,535), WAKES counted, WAKE raised, the clocks running, OP_NOW kept, family A up from SLEEP where its PLL, off, locked again, no participant quiet. Each with its frame. -/
def Obligations.PowerWake : Prop :=
  (∀ (code : Nat) (s : State), 
      s.wakeEnabled code = true → (code = 10 → s.notifyWord ≠ 0) → (1 ≤ code ∧ code ≤ 11) → (1 ≤ s.domState ∨ s.pwrBusy = true) → s.domState ≤ 4 → wakeActs code (if s.pwrStep = 0 then s.domState else s.pwrTarget) = true →
      ∃ u, Yields (.pwrWakeSource code) s u ∧
        (s.pwrStep = 0 → s.pwrBusy = false → u.pwr.waking = some code ∧ u.pwrBusy = true) ∧
        (s.pwrStep = 0 → s.pwrBusy = true → u.pwr = s.pwr) ∧
        (1 ≤ s.pwrStep → s.pwrStep ≠ 6 → u.pwr = { s.pwr with wakes := s.pwr.wakes ++ [code] }) ∧
        (s.pwrStep = 6 → u.pwr.late = true ∧ u.pwr.waking = some (s.pwr.waking.getD code)) ∧
        bits (u.reg A.PWR_SOURCES_SEEN) code 1 = 1 ∧
        u.domState = s.domState ∧
        Touches [.pwr] [] [F.PWR_SOURCES_SEEN_SEEN, F.PWR_STATE_BUSY] s u) ∧
  (∀ (s : State), 
      s.pwrStep = 0 → s.pwrBusy = false → 1 ≤ s.domState → s.domState ≤ 4 → 0 < s.get F.PWR_WAKE_TIMER_MS →
      ∃ u, Yields .pwrWakeTimerExpire s u ∧
        u.pwr.waking = some 9 ∧
        u.pwrBusy = true ∧
        bits (u.reg A.PWR_SOURCES_SEEN) 9 1 = 1 ∧
        u.domState = s.domState ∧
        Touches [.pwr] [] [F.PWR_SOURCES_SEEN_SEEN, F.PWR_STATE_BUSY] s u) ∧
  (∀ (held : Bool) (s : State), 
      1 ≤ s.domState → s.domState ≤ 4 → s.pwrStep = 0 → s.pwrBusy = false → s.pins.wakeLow = false →
      ∃ u, Yields (.wakeNLow held) s u ∧
        u.pins = { s.pins with wakeLow := held } ∧
        u.pwr.waking = some 1 ∧
        u.pwrBusy = true ∧
        bits (u.reg A.PWR_SOURCES_SEEN) 1 1 = 1 ∧
        Touches [.pwr, .pins] [] [F.PWR_SOURCES_SEEN_SEEN, F.PWR_STATE_BUSY] s u) ∧
  (∀ (held : Bool) (s : State), 
      s.domState = 5 → s.pins.wakeLow = false →
      ∃ u, Yields (.wakeNLow held) s u ∧
        u.boot = .start 2 ∧
        u.pins.wakeLow = held ∧
        u.otp = s.otp ∧
        u.domState = 6 ∧
        (∀ k : Nat, k < 6 → u.reg (aonRegs.getD k 0) = s.reg (aonRegs.getD k 0))) ∧
  (∀ (held : Bool) (s : State), 
      (s.pins.wakeLow = true ∨ s.domState = 0) →
      ∃ u, Yields (.wakeNLow held) s u ∧
        u.pins = { s.pins with wakeLow := held } ∧
        Touches [.pins] [] [] s u) ∧
  (∀ (us ms plls : Nat) (found : List (Nat × Nat × Nat)) (lost : Nat) (pgood : Bool) (s : State), 
      pgood = false → s.domState ≠ 1 →
      ∃ u, Yields (.pwrWakeComplete us ms plls found lost pgood) s u ∧
        u.pwr.waking = s.pwr.waking ∧
        u.domState = s.domState ∧
        u.get F.PMB_STATUS_PGOOD_NOW = 0 ∧
        Touches [] [] [F.PMB_STATUS_PGOOD_NOW] s u) ∧
  (∀ (us ms plls : Nat) (found : List (Nat × Nat × Nat)) (lost : Nat) (pgood : Bool) (s : State), 
      (pgood = true ∨ s.domState = 1) → s.pwr.waking.isSome = true → s.pwrBusy = true → s.pwrStep = 0 → 1 ≤ s.domState → s.domState ≤ 4 → s.frozen = false →
      ∃ u, Yields (.pwrWakeComplete us ms plls found lost pgood) s u ∧
        u.domState = 0 ∧
        u.get F.PWR_STATE_STATE = 0 ∧
        u.pwrBusy = false ∧
        u.get F.PWR_WAKE_STATUS_SOURCE = s.pwr.waking.getD 0 % 32 ∧
        u.get F.PWR_WAKE_STATUS_FROM = s.domState ∧
        u.get F.PWR_WAKE_STATUS_LATE = s.pwr.late.toNat ∧
        u.get F.PWR_WAKE_STATUS_LATENCY = min us 0xFFFF ∧
        u.get F.PWR_COUNT2_WAKES = min (s.get F.PWR_COUNT2_WAKES + 1) 0xFFFF ∧
        u.on (F.PG_IRQ 0x01 4) = true ∧
        u.pwr.waking = none ∧
        u.gated = false ∧
        u.opNow = s.opNow ∧
        (s.domState = 2 → s.on F.CLK_XTAL_STATUS_OK = true → s.famPll 0 < 3 → s.pllRole (s.famPll 0) = 0 → s.get (F.CLK_PLL_STATUS_STATE (s.famPll 0)) = 0 → plls / 2 ^ s.famPll 0 % 2 = 1 → u.famUp 0 = true) ∧
        u.quiet = [] ∧
        u.lst.sleep = false ∧
        Touches ((audioParts ++ jobParts ++ ([.pwr, .quiet, .gated, .opNext, .opHeld, .pmb, .mem, .free, .feChange, .tkoOn, .tko, .pllTest, .otp, .mac, .bankTest, .rotDue, .rotMs, .grants, .blw, .usb, .domState, .smb, .stalled, .trk, .famOut, .answers] : List Part))) (audioPages ++ [0x00, 0x01, 0x02, 0x03, 0x04, 0x06, 0x08, 0x09, 0x0A]) [] s u)

/-- While management runs; an exchange fails by a NACK, by clock stretching, and by a PEC mismatch only of a read with PEC = 1 (R377). PMB_LINK_START due and enabled, in RUN to SLEEP: a failed one takes nothing, sets its flag and stays due (log 177); else VOUT_MODE and VALID; a linear mode takes READ_VOUT and ends fault 0x03; another sets MODE_ERR and fault 0x03, and the link is not on. PMB_VOUT_REQUEST of a request to be sent on a link that is on, a lowering with the engine down: REQUESTED is the mantissa of its point (for exponent -12 the four of R376), counted once and not on a repeat; OPERATION = 0x00 is sent with neither. PMB_SETTLE_EXPIRE takes READ_VOUT and polls; of OPERATION it has no effect. PMB_REQUEST_ACK of a raise or lowering, the reading within 1.5 % and the line not stuck: OP_ACK, ACKED, its interrupt, not BUSY, faults 0x01 and 0x02 ended, the change counted; a raise with the engine running takes the point at the next frame, a lowering changes no point; of S5's request or OPERATION with nothing to abort it: step 6, not BUSY. PMB_REQUEST_FAIL: the first time the request is sent again, with its cause flag and the status word, no FAIL; the second time FAIL, counted, fault 0x01, its interrupt, not BUSY, OP_ACK and the point kept, and for a raise BACKOFF and the acknowledged point's mantissa; in S5 the entry unwinds with cause 2 at AP5 and PWR fault 0x01. A mismatch that is none changes nothing. PMB_BACKOFF_END clears it. PMB_CMD READ_NOW on a link that is on, for a word the initiator may write: read at once, a failed one changing no reading, or kept for the end of a busy exchange; CLEAR_FAULTS leaves the status word, and is kept likewise; PMB_CNT_CLR clears the counters. Each with its frame. -/
def Obligations.RegulatorLink : Prop :=
  (∀ (why mode vout : Nat) (s : State), 
      s.mgmtRuns = true → s.domState ≤ 2 → s.on F.PMB_CFG_EN = true → s.pmb.linkDue = true → (why = 1 ∨ why = 3 ∨ (why = 2 ∧ s.on F.PMB_CFG_PEC = true)) →
      ∃ u, Yields (.pmbLinkStart why mode vout) s u ∧
        u.pmb.linkDue = true ∧
        u.reg A.PMB_MODE = s.reg A.PMB_MODE ∧ u.reg A.PMB_READ = s.reg A.PMB_READ ∧
        (why = 1 → u.get F.PMB_STATUS_NACK = 1) ∧
        (why = 2 → u.get F.PMB_STATUS_PEC_ERR = 1) ∧
        Touches [] [] [F.PMB_STATUS_NACK, F.PMB_STATUS_PEC_ERR] s u) ∧
  (∀ (why mode vout : Nat) (s : State), 
      s.mgmtRuns = true → s.domState ≤ 2 → s.on F.PMB_CFG_EN = true → s.pmb.linkDue = true → (why = 0 ∨ (why = 2 ∧ s.on F.PMB_CFG_PEC = false)) →
      ∃ u, Yields (.pmbLinkStart why mode vout) s u ∧
        u.get F.PMB_MODE_VOUT_MODE = mode % 256 ∧
        u.get F.PMB_MODE_VALID = 1 ∧
        u.pmb.linkDue = false ∧
        (mode / 32 % 8 = 0 → u.get F.PMB_MODE_MODE_ERR = 0 ∧ u.get F.PMB_READ_READ_VOUT = vout % 2 ^ 16 ∧ u.get (F.PG_FAULT 0x09) ≠ 3) ∧
        (mode / 32 % 8 ≠ 0 → u.get F.PMB_MODE_MODE_ERR = 1 ∧ u.get (F.PG_FAULT 0x09) = 3 ∧ u.linkOn = false) ∧
        Touches [.pmb] [] [whole A.PMB_MODE, F.PMB_READ_READ_VOUT, F.PG_FAULT 0x09, F.PG_IRQ 0x09 1] s u) ∧
  (∀ (s : State), 
      s.mgmtRuns = true → s.pmb.phase = .send → s.linkOn = true → s.on F.PMB_MODE_VALID = true → s.opNext = none → (s.pmb.kind ≠ .lower ∨ s.opNow ≤ s.pmb.op) → s.pmb.kind ≠ .off →
      ∃ u, Yields .pmbVoutRequest s u ∧
        u.get F.PMB_VOUT_REQUESTED = voutMantissa s.voutExp s.pmb.op ∧
        u.pmb = { s.pmb with phase := .settle } ∧
        (s.pmb.again = false → u.get F.PMB_COUNT_REQUESTS = min (s.get F.PMB_COUNT_REQUESTS + 1) 0xFFFF) ∧
        (s.pmb.again = true → u.get F.PMB_COUNT_REQUESTS = s.get F.PMB_COUNT_REQUESTS) ∧
        (s.get F.PMB_MODE_VOUT_MODE = 0x14 → u.get F.PMB_VOUT_REQUESTED = [0x099A, 0x0B33, 0x0CCD, 0x0E66].getD s.pmb.op (u.get F.PMB_VOUT_REQUESTED)) ∧
        Touches [.pmb] [] [F.PMB_VOUT_REQUESTED, F.PMB_COUNT_REQUESTS] s u) ∧
  (∀ (s : State), 
      s.mgmtRuns = true → s.pmb.phase = .send → s.linkOn = true → s.opNext = none → s.pmb.kind = .off →
      ∃ u, Yields .pmbVoutRequest s u ∧
        u.pmb = { s.pmb with phase := .settle } ∧
        u.reg A.PMB_VOUT = s.reg A.PMB_VOUT ∧
        u.reg A.PMB_COUNT = s.reg A.PMB_COUNT ∧
        Touches [.pmb] [] [] s u) ∧
  (∀ (vout : Nat) (s : State), 
      s.pmb.kind = .off →
      ∃ u, Yields (.pmbSettleExpire vout) s u ∧
        u.pmb = s.pmb ∧
        Touches [] [] [] s u) ∧
  (∀ (vout : Nat) (s : State), 
      s.mgmtRuns = true → (s.pmb.phase = .settle ∨ s.pmb.phase = .poll) → s.pmb.kind ≠ .off →
      ∃ u, Yields (.pmbSettleExpire vout) s u ∧
        u.get F.PMB_READ_READ_VOUT = vout % 2 ^ 16 ∧
        u.pmb = { s.pmb with phase := .poll } ∧
        Touches [.pmb] [] [F.PMB_READ_READ_VOUT] s u) ∧
  (∀ (vout : Nat) (s : State), 
      s.mgmtRuns = true → (s.pmb.phase = .settle ∨ s.pmb.phase = .poll) → voutClose s.voutExp s.pmb.op (vout % 2 ^ 16) = true → s.on (recStuck 1) = false → (s.pmb.kind = .raise ∨ s.pmb.kind = .lower) →
      ∃ u, Yields (.pmbRequestAck vout) s u ∧
        u.get F.PMB_STATUS_OP_ACK = s.pmb.op % 8 ∧
        u.get F.PMB_VOUT_ACKED = s.get F.PMB_VOUT_REQUESTED ∧
        u.on (F.PG_IRQ 0x09 2) = true ∧
        u.get F.PMB_STATUS_BUSY = 0 ∧
        u.pmb.phase = .idle ∧
        u.get (F.PG_FAULT 0x09) ≠ 1 ∧ u.get (F.PG_FAULT 0x09) ≠ 2 ∧
        u.get F.BLW_COUNT_OP_CHANGES = min (s.get F.BLW_COUNT_OP_CHANGES + 1) 0xFFFF ∧
        (s.pmb.kind = .raise → s.engRuns = true → u.opNext = some s.pmb.op ∧ u.opNow = s.opNow) ∧
        (s.pmb.kind = .lower → u.opNext = s.opNext ∧ u.opNow = s.opNow) ∧
        Touches (audioParts ++ jobParts ++ ([.famOut, .pwr, .quiet, .gated, .opNext, .opHeld, .pmb, .mem, .free, .feChange, .tkoOn, .tko, .pllTest, .otp, .mac, .bankTest, .rotDue, .grants, .blw, .usb, .domState] : List Part)) (audioPages ++ [0x00, 0x01, 0x02, 0x03, 0x04, 0x06, 0x08, 0x09, 0x0A]) [] s u) ∧
  (∀ (vout : Nat) (s : State), 
      s.mgmtRuns = true → (s.pmb.phase = .settle ∨ s.pmb.phase = .poll) → s.on (recStuck 1) = false → (s.pmb.kind = .off ∨ (s.pmb.kind = .s5 ∧ voutClose s.voutExp s.pmb.op (vout % 2 ^ 16) = true)) → s.pwrStep = 5 → s.pwr.frozen = false → s.abortCause = none →
      ∃ u, Yields (.pmbRequestAck vout) s u ∧
        u.pwrStep = 6 ∧
        u.get F.PMB_STATUS_BUSY = 0 ∧
        u.pmb.phase = .idle ∧
        (s.pmb.kind = .off → u.get F.PMB_STATUS_OP_ACK = s.get F.PMB_STATUS_OP_ACK ∧ u.reg A.PMB_VOUT = s.reg A.PMB_VOUT) ∧
        (s.pmb.kind = .s5 → u.get F.PMB_STATUS_OP_ACK = s.pmb.op % 8 ∧ u.on (F.PG_IRQ 0x09 2) = true) ∧
        u.domState = s.domState ∧
        Touches [.pmb] [0x09] [F.PWR_STATE_STEP] s u) ∧
  (∀ (status why : Nat) (s : State), 
      why = 2 → (s.on F.PMB_CFG_PEC = false ∨ s.pmb.kind = .off) →
      ∃ u, Yields (.pmbRequestFail status why) s u ∧
        u.pmb = s.pmb ∧
        Touches [] [] [] s u) ∧
  (∀ (status why : Nat) (s : State), 
      s.mgmtRuns = true → (s.pmb.phase = .settle ∨ s.pmb.phase = .poll) → s.pmb.again = true → (s.pmb.kind = .s5 ∨ s.pmb.kind = .off) → (why ≠ 2 ∨ (s.on F.PMB_CFG_PEC = true ∧ s.pmb.kind ≠ .off)) → s.pwrStep = 5 → s.pwr.frozen = false → s.pwr.s5 = true →
      ∃ u, Yields (.pmbRequestFail status why) s u ∧
        u.pwrStep = 7 ∧
        u.pmb.kind = .unwind ∧ u.pmb.phase = .send ∧ u.pmb.op = s.pwr.ack ∧
        u.get F.PMB_STATUS_BUSY = 1 ∧
        u.get (F.PG_FAULT 0x01) = 1 ∧
        u.pwr.cause = 2 ∧ u.pwr.ap = 5 ∧
        u.get F.PMB_STATUS_FAIL = 1 ∧
        Touches [.pmb, .pwr] [0x09] [F.PWR_STATE_STEP, F.PG_FAULT 0x01, F.PG_IRQ 0x01 1] s u) ∧
  (∀ (status why : Nat) (s : State), 
      s.mgmtRuns = true → (s.pmb.phase = .settle ∨ s.pmb.phase = .poll) → s.pmb.again = false → (why ≠ 2 ∨ (s.on F.PMB_CFG_PEC = true ∧ s.pmb.kind ≠ .off)) →
      ∃ u, Yields (.pmbRequestFail status why) s u ∧
        u.pmb = { s.pmb with phase := .send, again := true } ∧
        u.get F.PMB_STATUS_WORD_STATUS_WORD = status % 2 ^ 16 ∧
        (why = 1 → u.get F.PMB_STATUS_NACK = 1) ∧
        (why = 2 → u.get F.PMB_STATUS_PEC_ERR = 1) ∧
        u.get F.PMB_STATUS_FAIL = s.get F.PMB_STATUS_FAIL ∧
        Touches [.pmb] [] [F.PMB_STATUS_WORD_STATUS_WORD, F.PMB_STATUS_NACK, F.PMB_STATUS_PEC_ERR] s u) ∧
  (∀ (status why : Nat) (s : State), 
      s.mgmtRuns = true → (s.pmb.phase = .settle ∨ s.pmb.phase = .poll) → s.pmb.again = true → (s.pmb.kind = .raise ∨ s.pmb.kind = .lower) → (why ≠ 2 ∨ s.on F.PMB_CFG_PEC = true) →
      ∃ u, Yields (.pmbRequestFail status why) s u ∧
        u.get F.PMB_STATUS_FAIL = 1 ∧
        u.get F.PMB_COUNT_FAILURES = min (s.get F.PMB_COUNT_FAILURES + 1) 0xFFFF ∧
        u.get (F.PG_FAULT 0x09) = 1 ∧
        u.on (F.PG_IRQ 0x09 3) = true ∧
        u.get F.PMB_STATUS_BUSY = 0 ∧ u.pmb.phase = .idle ∧
        (s.pmb.kind = .raise → u.get F.PMB_STATUS_BACKOFF = 1 ∧ u.get F.PMB_VOUT_REQUESTED = voutMantissa s.voutExp (s.get F.PMB_STATUS_OP_ACK)) ∧
        u.get F.PMB_STATUS_OP_ACK = s.get F.PMB_STATUS_OP_ACK ∧
        u.opNow = s.opNow ∧ u.opNext = s.opNext ∧
        Touches [.pmb] [] [whole A.PMB_STATUS, F.PMB_COUNT_FAILURES, F.PG_FAULT 0x09, F.PG_IRQ 0x09 1, F.PG_IRQ 0x09 3, F.PMB_STATUS_WORD_STATUS_WORD, F.PMB_VOUT_REQUESTED, F.BLW_STATUS_RAISE_WAIT, F.PMB_READ_READ_VOUT] s u) ∧
  (∀ (s : State), 
      ∃ u, Yields .pmbBackoffEnd s u ∧
        u.get F.PMB_STATUS_BACKOFF = 0 ∧
        Touches [] [] [F.PMB_STATUS_BACKOFF] s u) ∧
  (∀ (ini : Fin 5) (why : Fin 4) (vout status : BitVec 16) (w : Word) (s : State), 
      s.mayWrite ini A.PMB_CMD (w ||| 0x2#32) = true → s.linkOn = true → bits w 0 1 = 0 →
      ∃ u, Yields (.pmbCmdReadNow ini why vout status w) s u ∧
        (s.on F.PMB_STATUS_BUSY = false → (why.val = 0 ∨ (why.val = 2 ∧ s.on F.PMB_CFG_PEC = false)) → u.get F.PMB_READ_READ_VOUT = vout.toNat ∧ u.get F.PMB_STATUS_WORD_STATUS_WORD = status.toNat ∧ u.pmb = s.pmb ∧ u.reg A.PMB_STATUS = s.reg A.PMB_STATUS) ∧
        (s.on F.PMB_STATUS_BUSY = false → (why.val = 1 ∨ why.val = 3 ∨ (why.val = 2 ∧ s.on F.PMB_CFG_PEC = true)) → u.reg A.PMB_READ = s.reg A.PMB_READ ∧ u.reg A.PMB_STATUS_WORD = s.reg A.PMB_STATUS_WORD ∧ (why.val = 1 → u.get F.PMB_STATUS_NACK = 1) ∧ (why.val = 2 → u.get F.PMB_STATUS_PEC_ERR = 1)) ∧
        (s.on F.PMB_STATUS_BUSY = true → u.pmb = { s.pmb with cmdRead := some (vout.toNat, status.toNat, why.val) } ∧ u.reg A.PMB_READ = s.reg A.PMB_READ) ∧
        Touches [.pmb] [] [F.PMB_READ_READ_VOUT, F.PMB_STATUS_WORD_STATUS_WORD, F.PMB_STATUS_NACK, F.PMB_STATUS_PEC_ERR] s u) ∧
  (∀ (ini : Fin 5) (why : Fin 4) (w : Word) (s : State), 
      s.mayWrite ini A.PMB_CMD (w ||| 0x1#32) = true → bits w 1 1 = 0 → s.linkOn = true →
      ∃ u, Yields (.pmbCmdClearFaults ini why w) s u ∧
        u.reg A.PMB_STATUS_WORD = s.reg A.PMB_STATUS_WORD ∧
        (s.on F.PMB_STATUS_BUSY = true → u.pmb = { s.pmb with cmdClear := some why.val } ∧ u.reg A.PMB_STATUS = s.reg A.PMB_STATUS) ∧
        (s.on F.PMB_STATUS_BUSY = false → u.pmb = s.pmb ∧ (why.val = 1 → u.get F.PMB_STATUS_NACK = 1)) ∧
        Touches [.pmb] [] [F.PMB_STATUS_NACK] s u) ∧
  (∀ (ini : Fin 5) (w : Word) (s : State), 
      s.mayWrite ini A.PMB_CNT_CLR (w ||| 0x1#32) = true →
      ∃ u, Yields (.pmbCntClr ini w) s u ∧
        u.reg A.PMB_COUNT = 0 ∧
        Touches [] [] [whole A.PMB_COUNT] s u)

/-- In RUN with the clocks on and no freeze BELLOWS_TICK counts itself, shows RUNNING, HELD as BUSY and a good PGOOD, takes a pending start (COLD is set by a cold one) and every queued reservoir correction; with WARN SAG is in effect, raised when new, and P_SPEND is min(P_SAG, P_ALLOT); in SAG the level holds but for a cold start; with E_MAX 0 outside it the level is 0, RES_EMPTY set and P_SPEND P_ALLOT; PVDD_I_MISSING shows drone 1's set-up; without a start every pole of every zone advances by R392 at the heats in force, at a cold start from 0; SENSOR_VALID and P_MAX of an unmodelled zone; 5 degrees above a limit trips with fault 0x01 and its interrupt; in a trip every speaker ceiling is 255, critical host tasks get stop 3 and no job is dispatched, nor while BUSY, when no grant in use improves; tasks not enabled, and when not BUSY class 0 tasks, get 0; the GRANT words show the stops; a speaker off has 255; a ceiling falls by at most one code; an overbudget tick is counted with OVERBUDGET or the run of them is 0; CLASS, P_ALLOT and CFG_REJ stay. In any other state nothing changes. OP_LOWER after LOWER_HOLD low ticks, nothing in its way: OP_TARGET is op_need, taken at the next frame, or at once with the engine stopped, with a lowering request where the link is on, else counted; otherwise nothing. THERMAL_TRIP_END after 1,000 cool ticks; OVERBUDGET_FAULT after 100; COLD_PERIOD_END: each ends or sets its bits and raises its interrupt. Each with its frame. -/
def Obligations.BudgetTick : Prop :=
  (∀ (d0 d1 d2 d3 : Int) (pgood : Bool) (s : State), 
      s.domState = 0 → s.gated = false → s.frozen = false →
      ∃ u, Yields (.bellowsTick d0 d1 d2 d3 pgood) s u ∧
        u.get F.BLW_STATUS_RUNNING = 1 ∧
        u.get F.BLW_TICK_COUNT = (s.get F.BLW_TICK_COUNT + 1) % 2 ^ 32 ∧
        u.on F.BLW_STATUS_HELD = s.pwrBusy ∧
        (pgood = true → u.on F.PMB_STATUS_PGOOD_NOW = true) ∧
        u.blw.start = .none ∧
        u.blw.fix = [] ∧
        (s.on F.BLW_SAG_STATUS_WARN_NOW = true → u.on F.BLW_STATUS_SAG = true ∧ u.get F.BLW_DRAW_P_SPEND = min (s.get F.BLW_ALLOT_P_SAG) (s.get F.BLW_ALLOT_P_ALLOT)) ∧
        (s.on F.BLW_SAG_STATUS_WARN_NOW = true → s.on F.BLW_STATUS_SAG = false → u.on (F.PG_IRQ 0x02 2) = true) ∧
        (s.on F.BLW_STATUS_SAG = true → s.blw.start ≠ .cold → u.blw.e = s.blw.e) ∧
        (s.get F.BLW_RES_CFG_E_MAX = 0 → s.on F.BLW_SAG_STATUS_WARN_NOW = false → s.on F.BLW_STATUS_SAG = false → u.blw.e = 0 ∧ u.get F.BLW_RES_E = 0 ∧ u.on F.BLW_STATUS_RES_EMPTY = true ∧ u.get F.BLW_DRAW_P_SPEND = s.get F.BLW_ALLOT_P_ALLOT) ∧
        u.on F.BLW_STATUS_PVDD_I_MISSING = !(s.droneOn 1 && decide (s.get (F.SNS_DRONE_CFG_CHANNEL 1) = 1) && decide (s.get (F.SNS_DRONE_CFG_GAIN 1) = 3)) ∧
        (s.blw.start = .none → ∀ z : Nat, z < 6 → ∀ k : Nat, k < 3 → u.zonePole z k = s.zonePole z k + (((s.zoneR z k * s.zoneHeat z * 2 ^ 40).fdiv 150000000 - s.zonePole z k) * (q60 - decay 1 (s.tauMs k))).fdiv q60) ∧
        (s.blw.start = .cold → ∀ z : Nat, z < 4 → u.zonePole z 0 = ((s.zoneR z 0 * s.zoneHeat z * 2 ^ 40).fdiv 150000000 * (q60 - decay 1 (s.tauMs 0))).fdiv q60) ∧
        (∀ z : Nat, z < 4 → u.on (F.BLW_ZONE_STATUS_SENSOR_VALID z) = true) ∧
        u.on (F.BLW_ZONE_STATUS_SENSOR_VALID 4) = decide (s.get F.SNS_NTC_TEMP_TEMP0 ≠ 0x8000) ∧
        u.on (F.BLW_ZONE_STATUS_SENSOR_VALID 5) = decide (s.get F.SNS_NTC_TEMP_TEMP1 ≠ 0x8000) ∧
        (∀ z : Nat, z < 6 → s.zoneModelled z = false → u.get (F.BLW_ZONE_STATUS_P_MAX z) = 0x7FFF) ∧
        (s.on F.BLW_STATUS_TRIP_NOW = false → ∀ z : Nat, z < 4 → ((s.get (F.BLW_ZONE_CFG_T_LIM z) + 5) * 16 : Int) < [d0, d1, d2, d3].getD z 0 → u.on F.BLW_STATUS_TRIP_NOW = true ∧ u.on F.BLW_STATUS_THERM_TRIP = true ∧ u.get (F.PG_FAULT 0x02) = 1 ∧ u.on (F.PG_IRQ 0x02 4) = true) ∧
        (u.on F.BLW_STATUS_TRIP_NOW = true → (∀ n : Nat, n < 4 → u.get (F.SPK_CEIL_BELLOWS n) = 255) ∧ (∀ m : Nat, m < 32 → s.on (F.BLW_TASK_CFG_EN (32 + m)) = true → s.taskClass (32 + m) = 2 → vget u.grants (32 + m) 0 = 3) ∧ u.get F.BLW_MNT_LAST_JOB = s.get F.BLW_MNT_LAST_JOB) ∧
        (s.pwrBusy = true → u.get F.BLW_MNT_LAST_JOB = s.get F.BLW_MNT_LAST_JOB ∧ ∀ t : Nat, t < 64 → u.taskOn t = true → vget s.grants t 0 ≤ vget u.grants t 0) ∧
        (∀ m : Nat, m < 32 → s.on (F.BLW_TASK_CFG_EN (32 + m)) = false → vget u.grants (32 + m) 0 = 0) ∧
        (s.pwrBusy = false → ∀ m : Nat, m < 32 → s.on (F.BLW_TASK_CFG_EN (32 + m)) = true → s.taskClass (32 + m) = 0 → vget u.grants (32 + m) 0 = 0) ∧
        (∀ m : Nat, m < 16 → u.get (F.BLW_GRANT0_STOP m) = vget u.grants (32 + m) 0 % 4) ∧
        (∀ n : Nat, n < 4 → s.taskOn (14 + n) = false → u.get (F.SPK_CEIL_BELLOWS n) = 255) ∧
        (∀ n : Nat, n < 4 → (s.get (F.SPK_CEIL_BELLOWS n) ≠ 255 → s.get (F.SPK_CEIL_BELLOWS n) ≤ u.get (F.SPK_CEIL_BELLOWS n) + 1) ∧ (s.get (F.SPK_CEIL_BELLOWS n) = 255 → 240 ≤ u.get (F.SPK_CEIL_BELLOWS n)) ∧ (s.pwrBusy = true → s.get (F.SPK_CEIL_BELLOWS n) ≤ u.get (F.SPK_CEIL_BELLOWS n))) ∧
        (u.blw.overs = 0 ∨ (u.blw.overs = s.blw.overs + 1 ∧ u.on F.BLW_STATUS_OVERBUDGET = true ∧ u.get F.BLW_COUNT_OVER_TICKS = min (s.get F.BLW_COUNT_OVER_TICKS + 1) 0xFFFF)) ∧
        (∀ t : Nat, t < 64 → u.get (F.BLW_TASK_CFG_CLASS t) = s.get (F.BLW_TASK_CFG_CLASS t)) ∧
        u.get F.BLW_ALLOT_P_ALLOT = s.get F.BLW_ALLOT_P_ALLOT ∧ u.on F.BLW_STATUS_COLD = (s.on F.BLW_STATUS_COLD || decide (s.blw.start = .cold)) ∧ u.on F.BLW_STATUS_CFG_REJ = s.on F.BLW_STATUS_CFG_REJ ∧
        Touches (audioParts ++ jobParts ++ ([.pwr, .opNext, .opHeld, .pmb, .mem, .free, .mac, .bankTest, .rotDue, .rotMs, .grants, .blw, .usb] : List Part)) (audioPages ++ [0x00, 0x01, 0x02, 0x03, 0x04, 0x06, 0x08, 0x09, 0x0A]) [] s u) ∧
  (∀ (d0 d1 d2 d3 : Int) (pgood : Bool) (s : State), 
      (s.domState ≠ 0 ∨ s.gated = true ∨ s.frozen = true) →
      ∃ u, Yields (.bellowsTick d0 d1 d2 d3 pgood) s u ∧
        Touches [] [] [] s u) ∧
  (∀ (s : State), 
      s.blwRuns = true → s.get F.BLW_OP_LOWER_HOLD ≤ s.blw.low → s.pwrBusy = false → s.on F.PMB_STATUS_BUSY = false → s.on F.PMB_STATUS_BACKOFF = false → s.tkoOn = false → s.opNext = none → s.opNeed (vget s.grants 0 0) < s.opNow →
      ∃ u, Yields .opLower s u ∧
        u.get F.BLW_OP_OP_TARGET = s.opNeed (vget s.grants 0 0) ∧
        u.blw.low = 0 ∧
        (s.engRuns = true → u.opNext = some (s.opNeed (vget s.grants 0 0)) ∧ u.opNow = s.opNow) ∧
        (s.engRuns = false → u.opNow = s.opNeed (vget s.grants 0 0) ∧ u.opNext = none) ∧
        (s.linkOn = true → u.on F.PMB_STATUS_BUSY = true ∧ u.pmb.kind = .lower ∧ u.pmb.op = s.opNeed (vget s.grants 0 0) ∧ u.pmb.phase = .send) ∧
        (s.linkOn = false → u.get F.BLW_COUNT_OP_CHANGES = min (s.get F.BLW_COUNT_OP_CHANGES + 1) 0xFFFF ∧ u.pmb = s.pmb) ∧
        Touches (audioParts ++ jobParts ++ ([.pwr, .opNext, .opHeld, .pmb, .mem, .free, .mac, .bankTest, .rotDue, .rotMs, .grants, .blw, .usb] : List Part)) (audioPages ++ [0x00, 0x01, 0x02, 0x03, 0x04, 0x06, 0x08, 0x09, 0x0A]) [] s u) ∧
  (∀ (s : State), 
      (s.blw.low < s.get F.BLW_OP_LOWER_HOLD ∨ s.pwrBusy = true ∨ s.on F.PMB_STATUS_BUSY = true ∨ s.on F.PMB_STATUS_BACKOFF = true ∨ s.tkoOn = true ∨ s.opNow ≤ s.opNeed (vget s.grants 0 0)) →
      ∃ u, Yields .opLower s u ∧
        Touches [] [] [] s u) ∧
  (∀ (s : State), 
      s.on F.BLW_STATUS_TRIP_NOW = true → 1000 ≤ s.blw.cool →
      ∃ u, Yields .thermalTripEnd s u ∧
        u.on F.BLW_STATUS_TRIP_NOW = false ∧
        u.on F.BLW_STATUS_THERM_TRIP = s.on F.BLW_STATUS_THERM_TRIP ∧
        (s.get (F.PG_FAULT 0x02) = 1 → u.get (F.PG_FAULT 0x02) = 0) ∧
        (s.get (F.PG_FAULT 0x02) ≠ 1 → u.get (F.PG_FAULT 0x02) = s.get (F.PG_FAULT 0x02)) ∧
        u.on (F.PG_IRQ 0x02 4) = true ∧
        Touches [] [] [F.BLW_STATUS_TRIP_NOW, F.PG_FAULT 0x02, F.PG_IRQ 0x02 4] s u) ∧
  (∀ (s : State), 
      100 ≤ s.blw.overs →
      ∃ u, Yields .overbudgetFault s u ∧
        u.get (F.PG_FAULT 0x02) = 2 ∧
        (s.get (F.PG_FAULT 0x02) = 0 → u.on (F.PG_IRQ 0x02 1) = true) ∧
        Touches [] [] [F.PG_FAULT 0x02, F.PG_IRQ 0x02 1] s u) ∧
  (∀ (s : State), 
      s.on F.BLW_STATUS_COLD = true →
      ∃ u, Yields .coldPeriodEnd s u ∧
        u.on F.BLW_STATUS_COLD = false ∧
        u.on (F.PG_IRQ 0x02 8) = true ∧
        Touches [] [] [F.BLW_STATUS_COLD, F.PG_IRQ 0x02 8] s u)

/-- PVDD_WARN with the sense island clocked: WARN_NOW and WARN set, counted; in WARN nothing. PVDD_WARN_END after 50 good ticks ends WARN_NOW and SAG, raised, WARN kept; earlier nothing. PVDD_CRIT in RUN or IDLE: CRIT and WARN set (counted if new), every output and speaker channel turns to zero over 150 us if it was up, HOLD_MUTE of speakers already at zero, and MUTED with COLLAPSES and its interrupt exactly when every output is silent already. COLLAPSE_RESTART with the hold supply good ends CRIT_NOW, outside a freeze MUTED and HOLD_MUTE, and keeps CRIT and WARN_NOW. PGOOD_FALL in RUN or IDLE: during a voltage request's settling, polling or repeat only PGOOD_NOW falls; else OP0 at once with its frequency, no change pending, raised if the point was above, PGOOD_LOSS, fault 0x09 code 2, the status word and interrupt, OP_ACK kept. BLW_CONFIG_WRITE, for a word the initiator may write: with the floor check passed the register holds the word as its access types say; else it keeps its value, CFG_REJ is set and raised, and BLW_REJECT names the reason, the zone and the register's task. BLW_COLD asks for a cold start at the next tick and leaves COLD; BLW_CLR_COUNTS clears the counters. Each with its frame. -/
def Obligations.SagAndFloors : Prop :=
  (∀ (s : State), 
      s.clocked .sense = true → s.on F.BLW_SAG_STATUS_WARN_NOW = false →
      ∃ u, Yields .pvddWarn s u ∧
        u.on F.BLW_SAG_STATUS_WARN_NOW = true ∧ u.on F.BLW_SAG_STATUS_WARN = true ∧
        u.get F.BLW_SAG_STATUS_WARNS = min (s.get F.BLW_SAG_STATUS_WARNS + 1) 0xFFFF ∧
        u.blw.good = 0 ∧
        Touches [.blw] [] [whole A.BLW_SAG_STATUS] s u) ∧
  (∀ (s : State), 
      s.on F.BLW_SAG_STATUS_WARN_NOW = true →
      ∃ u, Yields .pvddWarn s u ∧
        Touches [] [] [] s u) ∧
  (∀ (s : State), 
      s.on F.BLW_SAG_STATUS_WARN_NOW = true → 50 ≤ s.blw.good →
      ∃ u, Yields .pvddWarnEnd s u ∧
        u.on F.BLW_SAG_STATUS_WARN_NOW = false ∧ u.on F.BLW_STATUS_SAG = false ∧
        u.on F.BLW_SAG_STATUS_WARN = s.on F.BLW_SAG_STATUS_WARN ∧
        u.on (F.PG_IRQ 0x02 2) = true ∧
        Touches [] [] [F.BLW_SAG_STATUS_WARN_NOW, F.BLW_STATUS_SAG, F.PG_IRQ 0x02 2] s u) ∧
  (∀ (s : State), 
      s.blw.good < 50 →
      ∃ u, Yields .pvddWarnEnd s u ∧
        Touches [] [] [] s u) ∧
  (∀ (s : State), 
      s.domState ≤ 1 → s.pins.crit = false →
      ∃ u, Yields .pvddCrit s u ∧
        u.pins = { s.pins with crit := true } ∧
        u.on F.BLW_SAG_STATUS_CRIT_NOW = true ∧ u.on F.BLW_SAG_STATUS_CRIT = true ∧ u.on F.BLW_SAG_STATUS_WARN_NOW = true ∧
        (s.on F.BLW_SAG_STATUS_WARN_NOW = false → u.get F.BLW_SAG_STATUS_WARNS = min (s.get F.BLW_SAG_STATUS_WARNS + 1) 0xFFFF) ∧
        (s.on F.JCK_HOLD_STATUS_MUTED = false → s.outsSilent = true → u.get F.JCK_HOLD_STATUS_MUTED = 1 ∧ u.get F.JCK_HOLD_STATUS_COLLAPSES = min (s.get F.JCK_HOLD_STATUS_COLLAPSES + 1) 0xFFFF ∧ u.on (F.PG_IRQ 0x0D 9) = true) ∧
        (s.outsSilent = false → u.get F.JCK_HOLD_STATUS_MUTED = s.get F.JCK_HOLD_STATUS_MUTED ∧ u.get F.JCK_HOLD_STATUS_COLLAPSES = s.get F.JCK_HOLD_STATUS_COLLAPSES) ∧
        (∀ n : Nat, n < 4 → (s.spkAt n).pop.zero = true → u.on (F.SPK_STATUS_HOLD_MUTE n) = true) ∧
        (∀ c : Nat, c < 8 → (u.aoutAt c).pop = { (s.aoutAt c).pop with up := false } ∧ ((s.aoutAt c).pop.up = true → (u.aoutAt c).popUs = 150)) ∧
        (∀ n : Nat, n < 4 → (u.spkAt n).pop = { (s.spkAt n).pop with up := false } ∧ ((s.spkAt n).pop.up = true → (u.spkAt n).popUs = 150)) ∧
        Touches [.pins, .blw, .aout, .spk, .dacSubst, .jobs, .otp] (audioPages ++ [0x06]) [whole A.BLW_SAG_STATUS] s u) ∧
  (∀ (s : State), 
      s.pins.crit = true → s.on F.JCK_HOLD_STATUS_VHOLD_OK = true → s.domState ≤ 4 →
      ∃ u, Yields .collapseRestart s u ∧
        u.pins = { s.pins with crit := false } ∧
        u.on F.BLW_SAG_STATUS_CRIT_NOW = false ∧
        (s.frozen = false → u.get F.JCK_HOLD_STATUS_MUTED = 0) ∧
        (s.frozen = false → ∀ n : Nat, n < 4 → u.on (F.SPK_STATUS_HOLD_MUTE n) = false) ∧
        u.on F.BLW_SAG_STATUS_CRIT = s.on F.BLW_SAG_STATUS_CRIT ∧ u.on F.BLW_SAG_STATUS_WARN_NOW = s.on F.BLW_SAG_STATUS_WARN_NOW ∧
        Touches [.pins, .aout, .spk] audioPages [F.BLW_SAG_STATUS_CRIT_NOW] s u) ∧
  (∀ (status : Nat) (s : State), 
      s.domState ≤ 1 → s.mgmtRuns = true → (s.pmb.kind = .off ∨ (s.pmb.phase ≠ .settle ∧ s.pmb.phase ≠ .poll ∧ (s.pmb.phase = .send → s.pmb.again = false))) →
      ∃ u, Yields (.pgoodFall status) s u ∧
        u.on F.PMB_STATUS_PGOOD_NOW = false ∧
        u.opNow = 0 ∧ u.opNext = none ∧ u.opHeld = none ∧
        u.get F.CLK_ENGINE_FREQ_KHZ = engineKhz s.fe 0 ∧
        (s.opNow ≠ 0 → u.on (F.PG_IRQ 0x02 6) = true) ∧
        u.on F.PMB_STATUS_PGOOD_LOSS = true ∧ u.get (F.PG_FAULT 0x09) = 2 ∧ u.get F.PMB_STATUS_WORD_STATUS_WORD = status % 2 ^ 16 ∧ u.on (F.PG_IRQ 0x09 4) = true ∧
        u.blw.pgood = 0 ∧
        u.get F.PMB_STATUS_OP_ACK = s.get F.PMB_STATUS_OP_ACK ∧
        Touches (audioParts ++ jobParts ++ ([.pwr, .opNext, .opHeld, .pmb, .mem, .free, .mac, .bankTest, .rotDue, .rotMs, .grants, .blw, .usb] : List Part)) (audioPages ++ [0x00, 0x01, 0x02, 0x03, 0x04, 0x06, 0x08, 0x09, 0x0A]) [] s u) ∧
  (∀ (status : Nat) (s : State), 
      s.domState ≤ 1 → s.mgmtRuns = true → s.pmb.kind ≠ .off → (s.pmb.phase = .settle ∨ s.pmb.phase = .poll ∨ (s.pmb.phase = .send ∧ s.pmb.again = true)) →
      ∃ u, Yields (.pgoodFall status) s u ∧
        u.on F.PMB_STATUS_PGOOD_NOW = false ∧
        u.blw = s.blw ∧
        u.opNow = s.opNow ∧
        Touches [] [] [F.PMB_STATUS_PGOOD_NOW] s u) ∧
  (∀ (ini : Fin 5) (r : BlwReg) (w : Word) (s : State), 
      s.mayWrite ini (blwAddr r) w = true → (s.setReg (blwAddr r) (s.taken (blwAddr r) w)).floorCheck = none →
      ∃ u, Yields (.blwConfigWrite ini r w) s u ∧
        u.reg (blwAddr r) = s.taken (blwAddr r) w ∧
        Touches [] [] [whole (blwAddr r)] s u) ∧
  (∀ (ini : Fin 5) (r : BlwReg) (w : Word) (s : State), 
      s.mayWrite ini (blwAddr r) w = true → (s.setReg (blwAddr r) (s.taken (blwAddr r) w)).floorCheck.isSome = true →
      ∃ u, Yields (.blwConfigWrite ini r w) s u ∧
        u.reg (blwAddr r) = s.reg (blwAddr r) ∧
        u.on F.BLW_STATUS_CFG_REJ = true ∧
        u.on (F.PG_IRQ 0x02 5) = true ∧
        u.get F.BLW_REJECT_REASON = ((s.setReg (blwAddr r) (s.taken (blwAddr r) w)).floorCheck.getD (0, 0)).1 ∧
        u.get F.BLW_REJECT_ZONE = ((s.setReg (blwAddr r) (s.taken (blwAddr r) w)).floorCheck.getD (0, 0)).2 ∧
        (u.get F.BLW_REJECT_REASON = 1 ∨ u.get F.BLW_REJECT_REASON = 2) ∧
        (∀ t : Nat, t < 64 → r = .taskCfg (Fin.ofNat 64 t) ∨ r = .taskCost (Fin.ofNat 64 t) → u.get F.BLW_REJECT_TASK = t) ∧
        (r = .allot ∨ r = .base ∨ r = .thermCfg ∨ r = .op ∨ r = .opCost → u.get F.BLW_REJECT_TASK = 0) ∧
        Touches [] [] [F.BLW_STATUS_CFG_REJ, whole A.BLW_REJECT, F.PG_IRQ 0x02 5] s u) ∧
  (∀ (ini : Fin 5) (w : Word) (s : State), 
      s.mayWrite ini A.BLW_CTRL (w ||| 0x1#32) = true → bits w 1 1 = 0 →
      ∃ u, Yields (.blwCold ini w) s u ∧
        u.blw = { s.blw with start := .cold } ∧
        u.get F.BLW_STATUS_COLD = s.get F.BLW_STATUS_COLD ∧
        Touches [.blw] [] [] s u) ∧
  (∀ (ini : Fin 5) (w : Word) (s : State), 
      s.mayWrite ini A.BLW_CTRL (w ||| 0x2#32) = true → bits w 0 1 = 0 →
      ∃ u, Yields (.blwClrCounts ini w) s u ∧
        u.reg A.BLW_COUNT = 0 ∧ u.get F.BLW_SAG_STATUS_WARNS = 0 ∧
        Touches [] [] [whole A.BLW_COUNT, F.BLW_SAG_STATUS_WARNS] s u)

/-- MEM_SKIM_VISIT of a bank that may be visited moves its position on. No error, not poisoned: nothing else. A single-bit error of a word not poisoned is recorded, counted and raised, word and poison kept; a hard word changes no tracker entry; else an entry of the address counts (to 15), or the first free entry takes it, or with none free the entry R412 chooses, which has the most LAPS, is replaced and the eviction counted and raised. Any other syndrome poisons the word, which reads 0, records, counts and raises, tracker, hard words and rows kept. A poisoned word counts in POISON_READS. A bank that may not be visited: nothing. MEM_HARD_FAULT of the first entry at REPEAT_THR: the entry is freed, the word hard, counted and raised, REMAP_PENDING as a remap or migration of the bank is due; with a spare row left a remap fault job, else with a spare bank a migration fault job, goes to the free slot; with neither fault 0x01 and no job. MEM_BANK_LAP_END: the bank's lap time and VALID; its entries age, and one at 3 laps below REPEAT_THR is freed; the bank leaves the overall lap, which runs. MEM_OVERALL_LAP_END with no bank left: its time, its interrupt, and the next lap over the banks that may be visited. Each with its frame. -/
def Obligations.Skimmer : Prop :=
  (∀ (k : Fin 32) (syn : Nat) (i : SramItem) (s : State), 
      s.visitable k = true → eccKind (syn % 128) = 0 → s.wordPoisoned (sramAddr k (vget s.mem.pos k 0)) = false →
      ∃ u, Yields (.memSkimVisit k syn i) s u ∧
        u.mem.pos = vmod s.mem.pos k (fun p => (p + 1) % 16384) ∧
        (k.val = 0 → u.get F.MEM_SKIM_POS_WORD = (vget s.mem.pos 0 0 + 1) % 16384) ∧
        u.mem.lapOn = true ∧
        Touches [.mem] [] [F.MEM_SKIM_POS_WORD] s u) ∧
  (∀ (k : Fin 32) (syn : Nat) (i : SramItem) (s : State), 
      s.visitable k = true → eccKind (syn % 128) = 1 → s.wordPoisoned (sramAddr k (vget s.mem.pos k 0)) = false → s.mem.hard.contains (sramAddr k (vget s.mem.pos k 0)) = true →
      ∃ u, Yields (.memSkimVisit k syn i) s u ∧
        u.mem.pos = vmod s.mem.pos k (fun p => (p + 1) % 16384) ∧
        (k.val = 0 → u.get F.MEM_SKIM_POS_WORD = (vget s.mem.pos 0 0 + 1) % 16384) ∧
        u.mem.lapOn = true ∧
        u.get F.MEM_LAST_CORR_VALID = 1 ∧ u.get F.MEM_LAST_CORR_SOURCE = 0 ∧ u.get F.MEM_LAST_CORR_SYNDROME = syn % 128 ∧
        u.get F.MEM_LAST_CORR_ADDR = (sramAddr k (vget s.mem.pos k 0)) % 2 ^ 20 ∧
        u.get F.MEM_CORR_COUNT_CORRECTED = min (s.get F.MEM_CORR_COUNT_CORRECTED + 1) 0xFFFF ∧
        u.on (F.PG_IRQ 0x04 2) = true ∧
        u.sram = s.sram ∧ u.poison = s.poison ∧
        u.mem.track = s.mem.track ∧
        Touches [.mem] [] [F.MEM_SKIM_POS_WORD, whole A.MEM_LAST_CORR, F.MEM_CORR_COUNT_CORRECTED, F.PG_IRQ 0x04 2, F.MEM_TRACK_STATUS_USED, F.MEM_TRACK_STATUS_EVICTIONS, F.PG_IRQ 0x04 9] s u) ∧
  (∀ (k : Fin 32) (syn : Nat) (i : SramItem) (j : Nat) (e : TrackEntry) (s : State), 
      s.visitable k = true → eccKind (syn % 128) = 1 → s.wordPoisoned (sramAddr k (vget s.mem.pos k 0)) = false → s.mem.hard.contains (sramAddr k (vget s.mem.pos k 0)) = false → j < 32 → vget s.mem.track j none = some e → e.addr = sramAddr k (vget s.mem.pos k 0) → (∀ n : Nat, n < 32 → n < j → (vget s.mem.track n none).all (fun f => decide (f.addr ≠ e.addr)) = true) →
      ∃ u, Yields (.memSkimVisit k syn i) s u ∧
        u.mem.pos = vmod s.mem.pos k (fun p => (p + 1) % 16384) ∧
        (k.val = 0 → u.get F.MEM_SKIM_POS_WORD = (vget s.mem.pos 0 0 + 1) % 16384) ∧
        u.mem.lapOn = true ∧
        u.get F.MEM_LAST_CORR_VALID = 1 ∧ u.get F.MEM_LAST_CORR_SOURCE = 0 ∧ u.get F.MEM_LAST_CORR_SYNDROME = syn % 128 ∧
        u.get F.MEM_LAST_CORR_ADDR = (sramAddr k (vget s.mem.pos k 0)) % 2 ^ 20 ∧
        u.get F.MEM_CORR_COUNT_CORRECTED = min (s.get F.MEM_CORR_COUNT_CORRECTED + 1) 0xFFFF ∧
        u.on (F.PG_IRQ 0x04 2) = true ∧
        u.sram = s.sram ∧ u.poison = s.poison ∧
        u.mem.track = vmod s.mem.track j (fun _ => some { e with count := min 15 (e.count + 1) }) ∧
        Touches [.mem] [] [F.MEM_SKIM_POS_WORD, whole A.MEM_LAST_CORR, F.MEM_CORR_COUNT_CORRECTED, F.PG_IRQ 0x04 2, F.MEM_TRACK_STATUS_USED, F.MEM_TRACK_STATUS_EVICTIONS, F.PG_IRQ 0x04 9] s u) ∧
  (∀ (k : Fin 32) (syn : Nat) (i : SramItem) (j : Nat) (s : State), 
      s.visitable k = true → eccKind (syn % 128) = 1 → s.wordPoisoned (sramAddr k (vget s.mem.pos k 0)) = false → s.mem.hard.contains (sramAddr k (vget s.mem.pos k 0)) = false → j < 32 → vget s.mem.track j none = none → (∀ n : Nat, n < 32 → n < j → (vget s.mem.track n none).isSome = true) → (∀ n : Nat, n < 32 → (vget s.mem.track n none).all (fun f => decide (f.addr ≠ sramAddr k (vget s.mem.pos k 0))) = true) →
      ∃ u, Yields (.memSkimVisit k syn i) s u ∧
        u.mem.pos = vmod s.mem.pos k (fun p => (p + 1) % 16384) ∧
        (k.val = 0 → u.get F.MEM_SKIM_POS_WORD = (vget s.mem.pos 0 0 + 1) % 16384) ∧
        u.mem.lapOn = true ∧
        u.get F.MEM_LAST_CORR_VALID = 1 ∧ u.get F.MEM_LAST_CORR_SOURCE = 0 ∧ u.get F.MEM_LAST_CORR_SYNDROME = syn % 128 ∧
        u.get F.MEM_LAST_CORR_ADDR = (sramAddr k (vget s.mem.pos k 0)) % 2 ^ 20 ∧
        u.get F.MEM_CORR_COUNT_CORRECTED = min (s.get F.MEM_CORR_COUNT_CORRECTED + 1) 0xFFFF ∧
        u.on (F.PG_IRQ 0x04 2) = true ∧
        u.sram = s.sram ∧ u.poison = s.poison ∧
        u.mem.track = vmod s.mem.track j (fun _ => some ⟨sramAddr k (vget s.mem.pos k 0), 1, 0⟩) ∧
        u.get F.MEM_TRACK_STATUS_EVICTIONS = s.get F.MEM_TRACK_STATUS_EVICTIONS ∧
        Touches [.mem] [] [F.MEM_SKIM_POS_WORD, whole A.MEM_LAST_CORR, F.MEM_CORR_COUNT_CORRECTED, F.PG_IRQ 0x04 2, F.MEM_TRACK_STATUS_USED, F.MEM_TRACK_STATUS_EVICTIONS, F.PG_IRQ 0x04 9] s u) ∧
  (∀ (k : Fin 32) (syn : Nat) (i : SramItem) (s : State), 
      s.visitable k = true → eccKind (syn % 128) = 1 → s.wordPoisoned (sramAddr k (vget s.mem.pos k 0)) = false → s.mem.hard.contains (sramAddr k (vget s.mem.pos k 0)) = false → (∀ n : Nat, n < 32 → (vget s.mem.track n none).isSome = true) → (∀ n : Nat, n < 32 → (vget s.mem.track n none).all (fun f => decide (f.addr ≠ sramAddr k (vget s.mem.pos k 0))) = true) →
      ∃ u, Yields (.memSkimVisit k syn i) s u ∧
        u.mem.pos = vmod s.mem.pos k (fun p => (p + 1) % 16384) ∧
        (k.val = 0 → u.get F.MEM_SKIM_POS_WORD = (vget s.mem.pos 0 0 + 1) % 16384) ∧
        u.mem.lapOn = true ∧
        u.get F.MEM_LAST_CORR_VALID = 1 ∧ u.get F.MEM_LAST_CORR_SOURCE = 0 ∧ u.get F.MEM_LAST_CORR_SYNDROME = syn % 128 ∧
        u.get F.MEM_LAST_CORR_ADDR = (sramAddr k (vget s.mem.pos k 0)) % 2 ^ 20 ∧
        u.get F.MEM_CORR_COUNT_CORRECTED = min (s.get F.MEM_CORR_COUNT_CORRECTED + 1) 0xFFFF ∧
        u.on (F.PG_IRQ 0x04 2) = true ∧
        u.sram = s.sram ∧ u.poison = s.poison ∧
        u.mem.track = vmod s.mem.track (trackVictim s.mem.track) (fun _ => some ⟨sramAddr k (vget s.mem.pos k 0), 1, 0⟩) ∧
        u.get F.MEM_TRACK_STATUS_EVICTIONS = min (s.get F.MEM_TRACK_STATUS_EVICTIONS + 1) 0xFFFF ∧
        u.on (F.PG_IRQ 0x04 9) = true ∧
        (∀ n : Nat, n < 32 → ((vget s.mem.track n none).map (·.laps)).getD 0 ≤ ((vget s.mem.track (trackVictim s.mem.track) none).map (·.laps)).getD 0) ∧
        Touches [.mem] [] [F.MEM_SKIM_POS_WORD, whole A.MEM_LAST_CORR, F.MEM_CORR_COUNT_CORRECTED, F.PG_IRQ 0x04 2, F.MEM_TRACK_STATUS_USED, F.MEM_TRACK_STATUS_EVICTIONS, F.PG_IRQ 0x04 9] s u) ∧
  (∀ (k : Fin 32) (syn : Nat) (i : SramItem) (s : State), 
      s.visitable k = true → eccKind (syn % 128) = 2 → s.wordPoisoned (sramAddr k (vget s.mem.pos k 0)) = false →
      ∃ u, Yields (.memSkimVisit k syn i) s u ∧
        u.mem.pos = vmod s.mem.pos k (fun p => (p + 1) % 16384) ∧
        (k.val = 0 → u.get F.MEM_SKIM_POS_WORD = (vget s.mem.pos 0 0 + 1) % 16384) ∧
        u.mem.lapOn = true ∧
        u.wordPoisoned (sramAddr k (vget s.mem.pos k 0)) = true ∧ u.sramWord (sramAddr k (vget s.mem.pos k 0)) = 0 ∧
        u.get F.MEM_LAST_UNCORR_VALID = 1 ∧ u.get F.MEM_LAST_UNCORR_SOURCE = 0 ∧ u.get F.MEM_LAST_UNCORR_SYNDROME = syn % 128 ∧
        u.get F.MEM_LAST_UNCORR_ADDR = (sramAddr k (vget s.mem.pos k 0)) % 2 ^ 20 ∧
        u.get F.MEM_UNCORR_COUNT_UNCORRECTABLE = min (s.get F.MEM_UNCORR_COUNT_UNCORRECTABLE + 1) 0xFFFF ∧
        u.on (F.PG_IRQ 0x04 3) = true ∧
        u.mem.track = s.mem.track ∧ u.mem.hard = s.mem.hard ∧
        u.mem.rows = s.mem.rows ∧
        Touches [.mem, .poison, .sram, .lanes, .sap, .spk, .lst, .xpAct, .xpRamp, .coefPend, .xpPend] audioPages [F.MEM_SKIM_POS_WORD, whole A.MEM_LAST_UNCORR, F.MEM_UNCORR_COUNT_UNCORRECTABLE, F.PG_IRQ 0x04 3] s u) ∧
  (∀ (k : Fin 32) (syn : Nat) (i : SramItem) (s : State), 
      s.visitable k = true → s.wordPoisoned (sramAddr k (vget s.mem.pos k 0)) = true →
      ∃ u, Yields (.memSkimVisit k syn i) s u ∧
        u.mem.pos = vmod s.mem.pos k (fun p => (p + 1) % 16384) ∧
        (k.val = 0 → u.get F.MEM_SKIM_POS_WORD = (vget s.mem.pos 0 0 + 1) % 16384) ∧
        u.mem.lapOn = true ∧
        u.get F.MEM_UNCORR_COUNT_POISON_READS = min (s.get F.MEM_UNCORR_COUNT_POISON_READS + 1) 0xFFFF ∧
        Touches [.mem] [] [F.MEM_SKIM_POS_WORD, F.MEM_UNCORR_COUNT_POISON_READS] s u) ∧
  (∀ (k : Fin 32) (syn : Nat) (i : SramItem) (s : State), 
      s.visitable k = false →
      ∃ u, Yields (.memSkimVisit k syn i) s u ∧
        Touches [] [] [] s u) ∧
  (∀ (i : Nat) (e : TrackEntry) (s : State), 
      i < 32 → vget s.mem.track i none = some e → s.get F.MEM_ECC_CFG_REPEAT_THR ≤ e.count → (∀ j : Nat, j < 32 → j < i → (vget s.mem.track j none).all (fun f => decide (f.count < s.get F.MEM_ECC_CFG_REPEAT_THR)) = true) → e.addr < 2 ^ 19 →
      ∃ u, Yields .memHardFault s u ∧
        vget u.mem.track i none = none ∧ u.mem.hard = s.mem.hard ++ [e.addr] ∧
        u.get F.MEM_CORR_COUNT_HARD = min (s.get F.MEM_CORR_COUNT_HARD + 1) 0xFFFF ∧
        u.on (F.PG_IRQ 0x04 4) = true ∧
        u.on (F.MEM_BANK_STATUS_REMAP_PENDING (e.addr / 16384)) = u.remapDue (e.addr / 16384) ∧
        (s.freeSlot.isSome = true → s.get (F.MEM_BANK_STATUS_ROWS_USED (e.addr / 16384)) < 8 ∨ s.spareBank.isSome = true → u.remapDue (e.addr / 16384) = true) ∧
        (s.get (F.MEM_BANK_STATUS_ROWS_USED (e.addr / 16384)) < 8 → ∀ n : Nat, n < 16 → s.freeSlot = some n → (vget u.jobs n Job.empty).type = 6 ∧ (vget u.jobs n Job.empty).target = e.addr / 16384 ∧ (vget u.jobs n Job.empty).fault = true ∧ (vget u.jobs n Job.empty).st = .queued) ∧
        (8 ≤ s.get (F.MEM_BANK_STATUS_ROWS_USED (e.addr / 16384)) → s.spareBank.isSome = true → ∀ n : Nat, n < 16 → s.freeSlot = some n → (vget u.jobs n Job.empty).type = 7 ∧ (vget u.jobs n Job.empty).target = e.addr / 16384 ∧ (vget u.jobs n Job.empty).fault = true) ∧
        (8 ≤ s.get (F.MEM_BANK_STATUS_ROWS_USED (e.addr / 16384)) → s.spareBank = none → u.get (F.PG_FAULT 0x04) = 1 ∧ u.jobs = s.jobs) ∧
        u.sram = s.sram ∧ u.poison = s.poison ∧
        Touches (jobParts ++ ([.mem] : List Part)) [] [F.MEM_CORR_COUNT_HARD, F.PG_IRQ 0x04 4, F.MEM_TRACK_STATUS_USED, F.MEM_BANK_STATUS_REMAP_PENDING (e.addr / 16384), F.PG_FAULT 0x04, F.PG_IRQ 0x04 1, F.MNT_COUNT2_DROPPED, F.PG_IRQ 0x06 6] s u) ∧
  (∀ (k : Fin 32) (ms : Nat) (s : State), 
      s.visitable k = true →
      ∃ u, Yields (.memBankLapEnd k ms) s u ∧
        u.get (F.MEM_BANK_STATUS_LAP_MS k) = min ms 0xFFFFF ∧ u.get (F.MEM_BANK_STATUS_LAP_VALID k) = 1 ∧
        (∀ i : Nat, i < 32 → vget u.mem.track i none = (vget s.mem.track i none).bind (fun e => if e.addr / 16384 ≠ k.val then some e else if 3 ≤ e.laps ∧ e.count < s.get F.MEM_ECC_CFG_REPEAT_THR then none else some { e with laps := min 3 (e.laps + 1) })) ∧
        (s.mem.lapOn = true → u.mem.lapLeft = s.mem.lapLeft.filter (fun b => decide (b ≠ k.val))) ∧
        u.mem.lapOn = true ∧
        Touches [.mem] [] [F.MEM_BANK_STATUS_LAP_MS k, F.MEM_BANK_STATUS_LAP_VALID k, F.MEM_TRACK_STATUS_USED] s u) ∧
  (∀ (ms : Nat) (s : State), 
      s.mem.lapOn = true → s.mem.lapLeft = [] →
      ∃ u, Yields (.memOverallLapEnd ms) s u ∧
        u.get F.MEM_SKIM_LAP_MS = min ms 0xFFFFFFFF ∧
        u.on (F.PG_IRQ 0x04 10) = true ∧
        u.mem.lapOn = ((List.range 32).any s.visitable) ∧
        (s.on F.MEM_CTRL_SKIM_EN = true → u.mem.lapLeft = (List.range 32).filter s.visitable) ∧
        Touches [.mem] [] [F.MEM_SKIM_LAP_MS, F.PG_IRQ 0x04 10] s u)

/-- ROW_REMAP_DONE of the running row copy, no wipe running and a spare row left: the row reads from the bank's next spare row, counted, logged (where the log has room) and raised; the row's hard words are no longer hard, REMAP_PENDING as a further job is due, the job ends with result 1; without errors found in the copy no word changes; with no copy running nothing. MIGRATE_DONE of the running migration: MBSn USED and FOR, the bank REPLACED and RETIRED and no longer MIGRATING with no spare row used and no mapped row or hard word, MBSn REPLACED, logged, raised, its job ended, no word changed where none was in error. MEM_WIPE_REQ naming banks of MB26 to MB31, for a word the initiator may write: they are BUSY, their words and poison zero, no other word changes; the cause is 6 unless a full wipe runs; a wipe begun while none runs is counted. Naming none of them: nothing. WIPE_DONE of a running wipe with no access stalled, outside a freeze: no bank in wipe, raised, the cause kept; with no copy running no job changes; a row copy of a wiped bank ends and its job is posted again, or counted dropped; with no wipe, or in a freeze: nothing. CLR_TRACK frees the tracker and keeps hard words; CLR_COUNTS clears the counts and keeps the tracker; both hold SKIM_EN. Each with its frame. -/
def Obligations.RemapAndWipe : Prop :=
  (∀ (k : Fin 34) (found : List (Nat × Nat × SramItem)) (row : Nat) (s : State), 
      s.mem.copy = some (false, k.val, row) → s.wiping = false → s.get (F.MEM_BANK_STATUS_ROWS_USED k) < 8 →
      ∃ u, Yields (.rowRemapDone k found) s u ∧
        u.mem.copy = none ∧
        u.get (F.MEM_BANK_STATUS_ROWS_USED k) = s.get (F.MEM_BANK_STATUS_ROWS_USED k) + 1 ∧
        u.mem.rows.find? (fun e => decide (e.1 = k.val * 128 + row)) = some (k.val * 128 + row, s.get (F.MEM_BANK_STATUS_ROWS_USED k)) ∧
        u.mem.hard = s.mem.hard.filter (fun a => !(decide (a / 16384 = k.val) && decide (a % 16384 / 128 = row))) ∧
        u.on (F.MEM_BANK_STATUS_REMAP_PENDING k) = u.remapDue k ∧
        u.on (F.PG_IRQ 0x04 5) = true ∧
        u.reg A.MEM_JOB = 0 ∧
        (s.get F.MNT_LOG_USED < 256 → u.get F.MNT_LOG_USED = s.get F.MNT_LOG_USED + 1 ∧ u.otp = store s.otp (512 + s.get F.MNT_LOG_USED) (lookup s.otp (512 + s.get F.MNT_LOG_USED) 0 ||| BitVec.ofNat 32 (logRecord 6 k (s.get (F.MEM_BANK_STATUS_ROWS_USED k)) row)) 0) ∧
        (∀ n : Nat, n < 16 → s.jobSlot 6 k = some n → (vget u.jobs n Job.empty).ending = 1) ∧
        (found = [] → u.sram = s.sram ∧ u.poison = s.poison) ∧
        Touches (([.mem, .poison, .sram, .lanes, .sap, .spk, .lst, .xpAct, .xpRamp, .coefPend, .xpPend] : List Part) ++ ([.otp, .jobs] : List Part)) audioPages [F.MEM_BANK_STATUS_ROWS_USED k, F.MEM_BANK_STATUS_REMAP_PENDING k, F.PG_IRQ 0x04 5, whole A.MEM_JOB, F.MNT_LOG_USED, F.MNT_LOG_FULL, F.PG_FAULT 0x06, F.PG_IRQ 0x06 1, F.PG_IRQ 0x06 5, whole A.MEM_LAST_CORR, F.MEM_CORR_COUNT_CORRECTED, F.PG_IRQ 0x04 2, F.MEM_TRACK_STATUS_USED, F.MEM_TRACK_STATUS_EVICTIONS, F.PG_IRQ 0x04 9, whole A.MEM_LAST_UNCORR, F.MEM_UNCORR_COUNT_UNCORRECTABLE, F.PG_IRQ 0x04 3] s u) ∧
  (∀ (k : Fin 34) (found : List (Nat × Nat × SramItem)) (s : State), 
      s.mem.copy = none →
      ∃ u, Yields (.rowRemapDone k found) s u ∧
        Touches [] [] [] s u) ∧
  (∀ (k : Fin 32) (found : List (Nat × Nat × SramItem)) (b : Nat) (s : State), 
      s.mem.copy = some (true, k.val, b) → b < 2 → s.wiping = false →
      ∃ u, Yields (.migrateDone k found) s u ∧
        u.mem.copy = none ∧
        (b = 0 → u.get F.MEM_SPARE_STATUS_MBS0_USED = 1 ∧ u.get F.MEM_SPARE_STATUS_MBS0_FOR = k) ∧
        (b = 1 → u.get F.MEM_SPARE_STATUS_MBS1_USED = 1 ∧ u.get F.MEM_SPARE_STATUS_MBS1_FOR = k) ∧
        u.get (F.MEM_BANK_STATUS_MIGRATING k) = 0 ∧ u.get (F.MEM_BANK_STATUS_REPLACED k) = 1 ∧ u.get (F.MEM_BANK_STATUS_RETIRED k) = 1 ∧ u.get (F.MEM_BANK_STATUS_ROWS_USED k) = 0 ∧
        u.get (F.MEM_BANK_STATUS_REPLACED (32 + b)) = 1 ∧
        u.on (F.MEM_BANK_STATUS_REMAP_PENDING k) = u.remapDue k ∧
        u.mem.hard = s.mem.hard.filter (fun a => decide (a / 16384 ≠ k.val)) ∧
        u.mem.rows = s.mem.rows.filter (fun e => decide (e.1 / 128 ≠ k.val)) ∧
        u.on (F.PG_IRQ 0x04 6) = true ∧
        (s.get F.MNT_LOG_USED < 256 → s.get F.MNT_LOG_USED < u.get F.MNT_LOG_USED) ∧
        (∀ n : Nat, n < 16 → s.jobSlot 7 k = some n → (vget u.jobs n Job.empty).ending = 1) ∧
        (found = [] → u.sram = s.sram ∧ u.poison = s.poison) ∧
        Touches (([.mem, .poison, .sram, .lanes, .sap, .spk, .lst, .xpAct, .xpRamp, .coefPend, .xpPend] : List Part) ++ ([.otp, .jobs] : List Part)) audioPages [F.MEM_SPARE_STATUS_MBS0_USED, F.MEM_SPARE_STATUS_MBS0_FOR, F.MEM_SPARE_STATUS_MBS1_USED, F.MEM_SPARE_STATUS_MBS1_FOR, whole (A.MEM_BANK_STATUS k), F.MEM_BANK_STATUS_REPLACED (32 + b), F.MEM_BANK_STATUS_REPLACED (33 - b), F.MEM_BANK_STATUS_RETIRED (33 - b), F.PG_IRQ 0x04 6, whole A.MEM_JOB, F.MNT_LOG_USED, F.MNT_LOG_FULL, F.PG_FAULT 0x06, F.PG_IRQ 0x06 1, F.PG_IRQ 0x06 5, whole A.MEM_LAST_CORR, F.MEM_CORR_COUNT_CORRECTED, F.PG_IRQ 0x04 2, F.MEM_TRACK_STATUS_USED, F.MEM_TRACK_STATUS_EVICTIONS, F.PG_IRQ 0x04 9, whole A.MEM_LAST_UNCORR, F.MEM_UNCORR_COUNT_UNCORRECTABLE, F.PG_IRQ 0x04 3] s u) ∧
  (∀ (ini : Fin 5) (w : Word) (a : Nat) (s : State), 
      s.mayWrite ini A.MEM_WIPE_REQ w = true → bits w 26 6 ≠ 0 →
      ∃ u, Yields (.memWipeReq ini w) s u ∧
        u.get F.MEM_WIPE_BANKS_BUSY = s.get F.MEM_WIPE_BANKS_BUSY ||| (bits w 26 6 * 2 ^ 26) ∧
        (u.get F.MEM_WIPE_STATUS_WIPE_CAUSE = if s.on F.MEM_WIPE_STATUS_ALL then s.get F.MEM_WIPE_STATUS_WIPE_CAUSE else 6) ∧
        (u.get F.MEM_WIPE_STATUS_WIPES = if s.wiping then s.get F.MEM_WIPE_STATUS_WIPES else min (s.get F.MEM_WIPE_STATUS_WIPES + 1) 0xFFFF) ∧
        (26 ≤ a / 16384 → a / 16384 < 32 → bits w (a / 16384) 1 = 1 → u.sramWord a = 0 ∧ u.wordPoisoned a = false) ∧
        (a / 16384 < 26 ∨ bits w (a / 16384) 1 = 0 → u.sramWord a = s.sramWord a ∧ u.wordPoisoned a = s.wordPoisoned a) ∧
        u.mem = s.mem ∧
        Touches [.sram, .poison] [] [F.MEM_WIPE_BANKS_BUSY, F.MEM_WIPE_STATUS_WIPE_CAUSE, F.MEM_WIPE_STATUS_WIPES, F.MEM_WIPE_STATUS_MBS0, F.MEM_WIPE_STATUS_MBS1] s u) ∧
  (∀ (ini : Fin 5) (w : Word) (s : State), 
      s.mayWrite ini A.MEM_WIPE_REQ w = true → bits w 26 6 = 0 →
      ∃ u, Yields (.memWipeReq ini w) s u ∧
        Touches [] [] [] s u) ∧
  (∀ (s : State), 
      s.wiping = true → s.frozen = false → s.stalled = [] →
      ∃ u, Yields .wipeDone s u ∧
        u.get F.MEM_WIPE_BANKS_BUSY = 0 ∧ u.get F.MEM_WIPE_STATUS_ALL = 0 ∧ u.get F.MEM_WIPE_STATUS_MBS0 = 0 ∧ u.get F.MEM_WIPE_STATUS_MBS1 = 0 ∧
        u.on (F.PG_IRQ 0x04 8) = true ∧
        u.get F.MEM_WIPE_STATUS_WIPE_CAUSE = s.get F.MEM_WIPE_STATUS_WIPE_CAUSE ∧
        (s.mem.copy = none → u.jobs = s.jobs) ∧
        (∀ k : Nat, k < 32 → (s.mem.copy = some (false, k, 3) ∧ s.get F.MEM_WIPE_BANKS_BUSY / 2 ^ k % 2 = 1) → (u.mem.copy = none ∧ u.jobLive 6 k = true) ∨ u.get F.MNT_COUNT2_DROPPED ≠ s.get F.MNT_COUNT2_DROPPED ∨ u.get F.MNT_COUNT2_DROPPED = 0xFFFF) ∧
        Touches (jobParts ++ ([.mem] : List Part)) [0x04] [F.MNT_COUNT2_DROPPED, F.PG_IRQ 0x06 6] s u) ∧
  (∀ (s : State), 
      (s.wiping = false ∨ s.frozen = true) → s.stalled = [] →
      ∃ u, Yields .wipeDone s u ∧
        Touches [] [] [] s u) ∧
  (∀ (ini : Fin 5) (w : Word) (s : State), 
      s.mayWrite ini A.MEM_CTRL (w ||| 0x4#32) = true → bits w 1 1 = 0 →
      ∃ u, Yields (.memClrTrack ini w) s u ∧
        (∀ i : Nat, i < 32 → vget u.mem.track i none = none) ∧
        u.get F.MEM_TRACK_STATUS_USED = 0 ∧
        u.get F.MEM_CTRL_SKIM_EN = bits w 0 1 ∧
        u.mem.hard = s.mem.hard ∧
        Touches [.mem] [] [F.MEM_TRACK_STATUS_USED, F.MEM_CTRL_SKIM_EN] s u) ∧
  (∀ (ini : Fin 5) (w : Word) (s : State), 
      s.mayWrite ini A.MEM_CTRL (w ||| 0x2#32) = true → bits w 2 1 = 0 →
      ∃ u, Yields (.memClrCounts ini w) s u ∧
        u.reg A.MEM_CORR_COUNT = 0 ∧ u.reg A.MEM_UNCORR_COUNT = 0 ∧ u.get F.MEM_TRACK_STATUS_EVICTIONS = 0 ∧
        u.get F.MEM_CTRL_SKIM_EN = bits w 0 1 ∧
        u.mem.track = s.mem.track ∧
        Touches [.mem] [] [whole A.MEM_CORR_COUNT, whole A.MEM_UNCORR_COUNT, F.MEM_TRACK_STATUS_EVICTIONS, F.MEM_CTRL_SKIM_EN] s u)

/-- While the management island serves the bus, each transaction counted. WRITE_BLOCK of one word of a held register that may be written, with its PEC when PEC is on: ACKed, the register holds the word by its access types. A refused word: NACKed, its code, ERROR, counted and logged with initiator 0. No PEC while on: code 6 and PEC_ERR. A wrong count or length: code 8 and BAD_COUNT; no word is written. READ_BLOCK of one word, neither refused nor poisoned, of another page than 8 and not SNS_RESULT, replies count, status 0 and the word; a refused one status and zeros, logged; a wrong count or a number of words not from 1 to 63 replies 0x01 0x08. Each reply carries its PEC when on. STATUS replies the last status and keeps it. RMW of a held register that may be written writes (old AND NOT mask) OR (value AND mask); with mask 0, without PEC, it only reads. WAKE sets status 0 in RUN; in IDLE to DEEP at rest it is also a wake with source 2. An unknown command is NACKed with BAD_CMD. Another address is not acknowledged. In DEEP a matched address with a command other than WAKE is NACKed, its NACK counted, and with SMB_ADDR enabled and no wake running a wake with source 3. SMB_SCL_TIMEOUT: TIMEOUT, counted, raised; a block cut short after its head ends with status 8, no word and BAD_COUNT, logged. SMB_SDA_RELEASE sets its flag. Each with its frame. -/
def Obligations.BusTransactions : Prop :=
  (∀ (bytes : List Nat) (a : BitVec 24) (w : Word) (s : State), 
      s.smbServes = true → bytes = [7, bits (a.zeroExtend 32) 0 8, bits (a.zeroExtend 32) 8 8, bits (a.zeroExtend 32) 16 8] ++ bytes4 w ++ (if s.pecOn then [crc8 (s.smbAw :: 0x20 :: [7, bits (a.zeroExtend 32) 0 8, bits (a.zeroExtend 32) 8 8, bits (a.zeroExtend 32) 16 8] ++ bytes4 w)] else []) → heldReg a.toNat = true → s.mayWrite 0 a.toNat w = true →
      ∃ u, Yields (.smbWriteBlock bytes) s u ∧
        u.get F.SMB_COUNT_TRANSACTIONS = min (s.get F.SMB_COUNT_TRANSACTIONS + 1) 0xFFFF ∧
        u.get F.SMB_LAST_CMD = 0x20 ∧ u.get F.SMB_LAST_STATUS = 0 ∧ u.get F.SMB_LAST_WORDS = 1 ∧
        u.reg a.toNat = s.taken a.toNat w ∧
        u.smb.ack = true ∧ u.smb.reply = [] ∧
        Touches [.smb] [] (whole a.toNat :: [F.SMB_LAST_CMD, F.SMB_LAST_WORDS, F.SMB_LAST_STATUS, F.SMB_COUNT_TRANSACTIONS, F.SMB_STATE_BUSY]) s u) ∧
  (∀ (bytes : List Nat) (a : BitVec 24) (w : Word) (s : State), 
      s.smbServes = true → bytes = [7, bits (a.zeroExtend 32) 0 8, bits (a.zeroExtend 32) 8 8, bits (a.zeroExtend 32) 16 8] ++ bytes4 w ++ (if s.pecOn then [crc8 (s.smbAw :: 0x20 :: [7, bits (a.zeroExtend 32) 0 8, bits (a.zeroExtend 32) 8 8, bits (a.zeroExtend 32) 16 8] ++ bytes4 w)] else []) → s.refusal 0 true a.toNat w ≠ 0 →
      ∃ u, Yields (.smbWriteBlock bytes) s u ∧
        u.get F.SMB_COUNT_TRANSACTIONS = min (s.get F.SMB_COUNT_TRANSACTIONS + 1) 0xFFFF ∧
        u.get F.SMB_LAST_CMD = 0x20 ∧ u.get F.SMB_LAST_STATUS = s.refusal 0 true a.toNat w ∧ u.get F.SMB_LAST_WORDS = 0 ∧
        u.on F.SMB_FLAGS_ERROR = true ∧ u.get F.SMB_COUNT_ERRORS = min (s.get F.SMB_COUNT_ERRORS + 1) 0xFFFF ∧ u.on (F.PG_IRQ 0x08 2) = true ∧
        u.smb.ack = false ∧ u.smb.reply = [] ∧
        u.reg A.DBG_VIOL_LAST_ADDR = BitVec.ofNat 32 (a.toNat % 2 ^ 18) ∧
        bits (u.reg A.DBG_VIOL_LAST_INFO) 4 3 = 0 ∧
        bits (u.reg A.DBG_VIOL_LAST_INFO) 0 4 = s.refusal 0 true a.toNat w ∧ bits (u.reg A.DBG_VIOL_LAST_INFO) 7 1 = 1 ∧
        Touches [.smb] [] [F.SMB_LAST_CMD, F.SMB_LAST_WORDS, F.SMB_LAST_STATUS, F.SMB_COUNT_TRANSACTIONS, F.SMB_STATE_BUSY, F.SMB_FLAGS_ERROR, F.SMB_FLAGS_BAD_COUNT, F.SMB_FLAGS_PEC_ERR, F.SMB_COUNT_ERRORS, F.PG_IRQ 0x08 2, whole A.DBG_VIOL_LAST_ADDR, whole A.DBG_VIOL_LAST_INFO, whole A.DBG_VIOL_FIRST_ADDR, whole A.DBG_VIOL_FIRST_INFO, F.DBG_VIOL_COUNT_COUNT, F.PG_IRQ (a.toNat / 0x400) 0, whole (a.toNat / 0x400 * 0x400 + 0x18), whole (a.toNat / 0x400 * 0x400 + 0x1C)] s u) ∧
  (∀ (bytes : List Nat) (a : BitVec 24) (w : Word) (s : State), 
      s.smbServes = true → s.pecOn = true → bytes = [7, bits (a.zeroExtend 32) 0 8, bits (a.zeroExtend 32) 8 8, bits (a.zeroExtend 32) 16 8] ++ bytes4 w →
      ∃ u, Yields (.smbWriteBlock bytes) s u ∧
        u.get F.SMB_COUNT_TRANSACTIONS = min (s.get F.SMB_COUNT_TRANSACTIONS + 1) 0xFFFF ∧
        u.get F.SMB_LAST_CMD = 0x20 ∧ u.get F.SMB_LAST_STATUS = 6 ∧ u.get F.SMB_LAST_WORDS = 0 ∧
        u.on F.SMB_FLAGS_ERROR = true ∧ u.get F.SMB_COUNT_ERRORS = min (s.get F.SMB_COUNT_ERRORS + 1) 0xFFFF ∧ u.on (F.PG_IRQ 0x08 2) = true ∧
        u.on F.SMB_FLAGS_PEC_ERR = true ∧
        u.smb.ack = false ∧
        u.reg A.DBG_VIOL_LAST_ADDR = BitVec.ofNat 32 (a.toNat % 2 ^ 18) ∧
        bits (u.reg A.DBG_VIOL_LAST_INFO) 4 3 = 0 ∧
        Touches [.smb] [] [F.SMB_LAST_CMD, F.SMB_LAST_WORDS, F.SMB_LAST_STATUS, F.SMB_COUNT_TRANSACTIONS, F.SMB_STATE_BUSY, F.SMB_FLAGS_ERROR, F.SMB_FLAGS_BAD_COUNT, F.SMB_FLAGS_PEC_ERR, F.SMB_COUNT_ERRORS, F.PG_IRQ 0x08 2, whole A.DBG_VIOL_LAST_ADDR, whole A.DBG_VIOL_LAST_INFO, whole A.DBG_VIOL_FIRST_ADDR, whole A.DBG_VIOL_FIRST_INFO, F.DBG_VIOL_COUNT_COUNT, F.PG_IRQ (a.toNat / 0x400) 0, whole (a.toNat / 0x400 * 0x400 + 0x18), whole (a.toNat / 0x400 * 0x400 + 0x1C)] s u) ∧
  (∀ (bytes : List Nat) (a : BitVec 24) (w : Word) (s : State), 
      s.smbServes = true → s.pecOn = false → (bytes = [6, bits (a.zeroExtend 32) 0 8, bits (a.zeroExtend 32) 8 8, bits (a.zeroExtend 32) 16 8] ++ (bytes4 w).take 3 ∨ bytes = [7, bits (a.zeroExtend 32) 0 8, bits (a.zeroExtend 32) 8 8, bits (a.zeroExtend 32) 16 8] ++ (bytes4 w).take 3 ∨ bytes = [7, bits (a.zeroExtend 32) 0 8, bits (a.zeroExtend 32) 8 8, bits (a.zeroExtend 32) 16 8] ++ bytes4 w ++ [0]) →
      ∃ u, Yields (.smbWriteBlock bytes) s u ∧
        u.get F.SMB_COUNT_TRANSACTIONS = min (s.get F.SMB_COUNT_TRANSACTIONS + 1) 0xFFFF ∧
        u.get F.SMB_LAST_CMD = 0x20 ∧ u.get F.SMB_LAST_STATUS = 8 ∧ u.get F.SMB_LAST_WORDS = 0 ∧
        u.on F.SMB_FLAGS_ERROR = true ∧ u.get F.SMB_COUNT_ERRORS = min (s.get F.SMB_COUNT_ERRORS + 1) 0xFFFF ∧ u.on (F.PG_IRQ 0x08 2) = true ∧
        u.on F.SMB_FLAGS_BAD_COUNT = true ∧
        u.smb.ack = false ∧
        u.reg A.DBG_VIOL_LAST_ADDR = BitVec.ofNat 32 (a.toNat % 2 ^ 18) ∧
        bits (u.reg A.DBG_VIOL_LAST_INFO) 4 3 = 0 ∧
        Touches [.smb] [] [F.SMB_LAST_CMD, F.SMB_LAST_WORDS, F.SMB_LAST_STATUS, F.SMB_COUNT_TRANSACTIONS, F.SMB_STATE_BUSY, F.SMB_FLAGS_ERROR, F.SMB_FLAGS_BAD_COUNT, F.SMB_FLAGS_PEC_ERR, F.SMB_COUNT_ERRORS, F.PG_IRQ 0x08 2, whole A.DBG_VIOL_LAST_ADDR, whole A.DBG_VIOL_LAST_INFO, whole A.DBG_VIOL_FIRST_ADDR, whole A.DBG_VIOL_FIRST_INFO, F.DBG_VIOL_COUNT_COUNT, F.PG_IRQ (a.toNat / 0x400) 0, whole (a.toNat / 0x400 * 0x400 + 0x18), whole (a.toNat / 0x400 * 0x400 + 0x1C)] s u) ∧
  (∀ (bytes : List Nat) (a : BitVec 24) (s : State), 
      s.smbServes = true → bytes = [4, bits (a.zeroExtend 32) 0 8, bits (a.zeroExtend 32) 8 8, bits (a.zeroExtend 32) 16 8] ++ [1] → s.refusal 0 false a.toNat 0 = 0 → (s.peek a.toNat).2 = false → a.toNat / 0x400 ≠ 8 → a.toNat ≠ A.SNS_RESULT →
      ∃ u, Yields (.smbReadBlock bytes) s u ∧
        u.get F.SMB_COUNT_TRANSACTIONS = min (s.get F.SMB_COUNT_TRANSACTIONS + 1) 0xFFFF ∧
        u.get F.SMB_LAST_CMD = 0x21 ∧ u.get F.SMB_LAST_STATUS = 0 ∧ u.get F.SMB_LAST_WORDS = 1 ∧
        u.smb.ack = true ∧
        (u.smb.reply = ([5, 0] ++ bytes4 (s.peek a.toNat).1) ++ (if s.pecOn then [crc8 ((s.smbAw :: 0x21 :: ([4, bits (a.zeroExtend 32) 0 8, bits (a.zeroExtend 32) 8 8, bits (a.zeroExtend 32) 16 8] ++ [1]) ++ [s.smbAw + 1]) ++ ([5, 0] ++ bytes4 (s.peek a.toNat).1))] else [])) ∧
        Touches [.smb] [] [F.SMB_LAST_CMD, F.SMB_LAST_WORDS, F.SMB_LAST_STATUS, F.SMB_COUNT_TRANSACTIONS, F.SMB_STATE_BUSY] s u) ∧
  (∀ (bytes : List Nat) (a : BitVec 24) (s : State), 
      s.smbServes = true → bytes = [4, bits (a.zeroExtend 32) 0 8, bits (a.zeroExtend 32) 8 8, bits (a.zeroExtend 32) 16 8] ++ [1] → s.refusal 0 false a.toNat 0 ≠ 0 →
      ∃ u, Yields (.smbReadBlock bytes) s u ∧
        u.get F.SMB_COUNT_TRANSACTIONS = min (s.get F.SMB_COUNT_TRANSACTIONS + 1) 0xFFFF ∧
        u.get F.SMB_LAST_CMD = 0x21 ∧ u.get F.SMB_LAST_STATUS = s.refusal 0 false a.toNat 0 ∧ u.get F.SMB_LAST_WORDS = 0 ∧
        u.on F.SMB_FLAGS_ERROR = true ∧ u.get F.SMB_COUNT_ERRORS = min (s.get F.SMB_COUNT_ERRORS + 1) 0xFFFF ∧ u.on (F.PG_IRQ 0x08 2) = true ∧
        u.smb.ack = true ∧
        (u.smb.reply = ([5, s.refusal 0 false a.toNat 0, 0, 0, 0, 0]) ++ (if s.pecOn then [crc8 ((s.smbAw :: 0x21 :: ([4, bits (a.zeroExtend 32) 0 8, bits (a.zeroExtend 32) 8 8, bits (a.zeroExtend 32) 16 8] ++ [1]) ++ [s.smbAw + 1]) ++ ([5, s.refusal 0 false a.toNat 0, 0, 0, 0, 0]))] else [])) ∧
        bits (u.reg A.DBG_VIOL_LAST_INFO) 7 1 = 0 ∧
        u.reg A.DBG_VIOL_LAST_ADDR = BitVec.ofNat 32 (a.toNat % 2 ^ 18) ∧
        bits (u.reg A.DBG_VIOL_LAST_INFO) 4 3 = 0 ∧
        Touches [.smb] [] [F.SMB_LAST_CMD, F.SMB_LAST_WORDS, F.SMB_LAST_STATUS, F.SMB_COUNT_TRANSACTIONS, F.SMB_STATE_BUSY, F.SMB_FLAGS_ERROR, F.SMB_FLAGS_BAD_COUNT, F.SMB_FLAGS_PEC_ERR, F.SMB_COUNT_ERRORS, F.PG_IRQ 0x08 2, whole A.DBG_VIOL_LAST_ADDR, whole A.DBG_VIOL_LAST_INFO, whole A.DBG_VIOL_FIRST_ADDR, whole A.DBG_VIOL_FIRST_INFO, F.DBG_VIOL_COUNT_COUNT, F.PG_IRQ (a.toNat / 0x400) 0, whole (a.toNat / 0x400 * 0x400 + 0x18), whole (a.toNat / 0x400 * 0x400 + 0x1C)] s u) ∧
  (∀ (bytes : List Nat) (a : BitVec 24) (n k : Nat) (s : State), 
      s.smbServes = true → bytes = [n, bits (a.zeroExtend 32) 0 8, bits (a.zeroExtend 32) 8 8, bits (a.zeroExtend 32) 16 8] ++ [k] → n < 256 → k < 256 → (n ≠ 4 ∨ k = 0 ∨ 63 < k) →
      ∃ u, Yields (.smbReadBlock bytes) s u ∧
        u.get F.SMB_COUNT_TRANSACTIONS = min (s.get F.SMB_COUNT_TRANSACTIONS + 1) 0xFFFF ∧
        u.get F.SMB_LAST_CMD = 0x21 ∧ u.get F.SMB_LAST_STATUS = 8 ∧ u.get F.SMB_LAST_WORDS = 0 ∧
        u.on F.SMB_FLAGS_ERROR = true ∧ u.get F.SMB_COUNT_ERRORS = min (s.get F.SMB_COUNT_ERRORS + 1) 0xFFFF ∧ u.on (F.PG_IRQ 0x08 2) = true ∧
        u.on F.SMB_FLAGS_BAD_COUNT = true ∧
        u.smb.ack = true ∧
        (u.smb.reply = ([1, 8]) ++ (if s.pecOn then [crc8 ((s.smbAw :: 0x21 :: ([n, bits (a.zeroExtend 32) 0 8, bits (a.zeroExtend 32) 8 8, bits (a.zeroExtend 32) 16 8] ++ [k]) ++ [s.smbAw + 1]) ++ ([1, 8]))] else [])) ∧
        u.reg A.DBG_VIOL_LAST_ADDR = BitVec.ofNat 32 (a.toNat % 2 ^ 18) ∧
        bits (u.reg A.DBG_VIOL_LAST_INFO) 4 3 = 0 ∧
        Touches [.smb] [] [F.SMB_LAST_CMD, F.SMB_LAST_WORDS, F.SMB_LAST_STATUS, F.SMB_COUNT_TRANSACTIONS, F.SMB_STATE_BUSY, F.SMB_FLAGS_ERROR, F.SMB_FLAGS_BAD_COUNT, F.SMB_FLAGS_PEC_ERR, F.SMB_COUNT_ERRORS, F.PG_IRQ 0x08 2, whole A.DBG_VIOL_LAST_ADDR, whole A.DBG_VIOL_LAST_INFO, whole A.DBG_VIOL_FIRST_ADDR, whole A.DBG_VIOL_FIRST_INFO, F.DBG_VIOL_COUNT_COUNT, F.PG_IRQ (a.toNat / 0x400) 0, whole (a.toNat / 0x400 * 0x400 + 0x18), whole (a.toNat / 0x400 * 0x400 + 0x1C)] s u) ∧
  (∀ (s : State), 
      s.smbServes = true →
      ∃ u, Yields .smbStatus s u ∧
        u.get F.SMB_COUNT_TRANSACTIONS = min (s.get F.SMB_COUNT_TRANSACTIONS + 1) 0xFFFF ∧
        u.smb.ack = true ∧
        (u.smb.reply = ([s.get F.SMB_LAST_STATUS]) ++ (if s.pecOn then [crc8 (([s.smbAw, 0x22, s.smbAw + 1]) ++ ([s.get F.SMB_LAST_STATUS]))] else [])) ∧
        Touches [.smb] [] [F.SMB_COUNT_TRANSACTIONS, F.SMB_STATE_BUSY] s u) ∧
  (∀ (bytes : List Nat) (a : BitVec 24) (m w : Word) (s : State), 
      s.smbServes = true → bytes = [11, bits (a.zeroExtend 32) 0 8, bits (a.zeroExtend 32) 8 8, bits (a.zeroExtend 32) 16 8] ++ bytes4 m ++ bytes4 w ++ (if s.pecOn then [crc8 (s.smbAw :: 0x23 :: [11, bits (a.zeroExtend 32) 0 8, bits (a.zeroExtend 32) 8 8, bits (a.zeroExtend 32) 16 8] ++ bytes4 m ++ bytes4 w)] else []) → m ≠ 0 → heldReg a.toNat = true → s.mayWrite 0 a.toNat (s.rmwWord a.toNat m w) = true →
      ∃ u, Yields (.smbRmw bytes) s u ∧
        u.get F.SMB_COUNT_TRANSACTIONS = min (s.get F.SMB_COUNT_TRANSACTIONS + 1) 0xFFFF ∧
        u.get F.SMB_LAST_CMD = 0x23 ∧ u.get F.SMB_LAST_STATUS = 0 ∧ u.get F.SMB_LAST_WORDS = 1 ∧
        u.reg a.toNat = s.taken a.toNat (s.rmwWord a.toNat m w) ∧
        u.smb.ack = true ∧
        (a.toNat = A.PWR_WAKE_TIMER → u.reg a.toNat = s.taken a.toNat ((s.reg a.toNat &&& ~~~m) ||| (w &&& m))) ∧
        Touches [.smb] [] (whole a.toNat :: [F.SMB_LAST_CMD, F.SMB_LAST_WORDS, F.SMB_LAST_STATUS, F.SMB_COUNT_TRANSACTIONS, F.SMB_STATE_BUSY]) s u) ∧
  (∀ (bytes : List Nat) (a : BitVec 24) (w : Word) (s : State), 
      s.smbServes = true → s.pecOn = false → bytes = [11, bits (a.zeroExtend 32) 0 8, bits (a.zeroExtend 32) 8 8, bits (a.zeroExtend 32) 16 8] ++ [0, 0, 0, 0] ++ bytes4 w → s.refusal 0 false a.toNat 0 = 0 → (s.peek a.toNat).2 = false → a.toNat ≠ A.SNS_RESULT →
      ∃ u, Yields (.smbRmw bytes) s u ∧
        u.get F.SMB_COUNT_TRANSACTIONS = min (s.get F.SMB_COUNT_TRANSACTIONS + 1) 0xFFFF ∧
        u.get F.SMB_LAST_CMD = 0x23 ∧ u.get F.SMB_LAST_STATUS = 0 ∧ u.get F.SMB_LAST_WORDS = 1 ∧
        u.smb.ack = true ∧
        Touches [.smb] [] [F.SMB_LAST_CMD, F.SMB_LAST_WORDS, F.SMB_LAST_STATUS, F.SMB_COUNT_TRANSACTIONS, F.SMB_STATE_BUSY] s u) ∧
  (∀ (s : State), 
      s.smbServes = true → s.domState = 0 → s.pwrStep = 0 → s.pwrBusy = false →
      ∃ u, Yields .smbWake s u ∧
        u.get F.SMB_COUNT_TRANSACTIONS = min (s.get F.SMB_COUNT_TRANSACTIONS + 1) 0xFFFF ∧
        u.get F.SMB_LAST_CMD = 0x24 ∧ u.get F.SMB_LAST_STATUS = 0 ∧ u.get F.SMB_LAST_WORDS = 0 ∧
        u.smb.ack = true ∧ u.smb.reply = [] ∧
        Touches [.smb] [] [F.SMB_LAST_CMD, F.SMB_LAST_WORDS, F.SMB_LAST_STATUS, F.SMB_COUNT_TRANSACTIONS, F.SMB_STATE_BUSY] s u) ∧
  (∀ (s : State), 
      (s.smbServes = true ∨ s.smbMatches = true) → 1 ≤ s.domState → s.domState ≤ 4 → s.pwrStep = 0 → s.pwrBusy = false →
      ∃ u, Yields .smbWake s u ∧
        (s.smbServes = true → u.get F.SMB_COUNT_TRANSACTIONS = min (s.get F.SMB_COUNT_TRANSACTIONS + 1) 0xFFFF) ∧
        u.get F.SMB_LAST_CMD = 0x24 ∧ u.get F.SMB_LAST_STATUS = 0 ∧ u.get F.SMB_LAST_WORDS = 0 ∧
        u.smb.ack = true ∧
        u.pwr.waking = some 2 ∧ u.pwrBusy = true ∧
        bits (u.reg A.PWR_SOURCES_SEEN) 2 1 = 1 ∧
        Touches [.smb, .pwr] [] (F.PWR_SOURCES_SEEN_SEEN :: F.PWR_STATE_BUSY :: [F.SMB_LAST_CMD, F.SMB_LAST_WORDS, F.SMB_LAST_STATUS, F.SMB_COUNT_TRANSACTIONS, F.SMB_STATE_BUSY]) s u) ∧
  (∀ (cmd : Nat) (s : State), 
      s.smbServes = true → (cmd < 0x20 ∨ 0x24 < cmd) →
      ∃ u, Yields (.smbBadCommand cmd) s u ∧
        u.get F.SMB_COUNT_TRANSACTIONS = min (s.get F.SMB_COUNT_TRANSACTIONS + 1) 0xFFFF ∧
        u.on F.SMB_FLAGS_BAD_CMD = true ∧
        u.smb.ack = false ∧
        Touches [.smb] [] [F.SMB_COUNT_TRANSACTIONS, F.SMB_STATE_BUSY, F.SMB_FLAGS_BAD_CMD] s u) ∧
  (∀ (x : Nat) (s : State), 
      ∃ u, Yields (.smbOtherAddress x) s u ∧
        u.smb = { s.smb with ack := false, reply := [] } ∧
        Touches [.smb] [] [] s u) ∧
  (∀ (cmd : Nat) (s : State), 
      (s.domState = 3 ∨ s.domState = 4) → s.pwrStep = 0 → cmd ≠ 0x24 →
      ∃ u, Yields (.smbDeepMatch cmd) s u ∧
        u.smb.ack = false ∧
        u.pwr.nacks = s.pwr.nacks + 1 ∧
        (s.on F.PWR_WAKE_EN_SMB_ADDR = true → s.pwrBusy = false → u.pwr.waking = some 3 ∧ u.pwrBusy = true ∧ bits (u.reg A.PWR_SOURCES_SEEN) 3 1 = 1) ∧
        (s.on F.PWR_WAKE_EN_SMB_ADDR = false → u.pwr = { s.pwr with nacks := s.pwr.nacks + 1 }) ∧
        Touches [.smb, .pwr] [] [F.PWR_SOURCES_SEEN_SEEN, F.PWR_STATE_BUSY] s u) ∧
  (∀ (cut : Option (Nat × List Nat)) (s : State), 
      s.smbServes = true → cut = none →
      ∃ u, Yields (.smbSclTimeout cut) s u ∧
        u.on F.SMB_FLAGS_TIMEOUT = true ∧ u.get F.SMB_COUNT2_TIMEOUTS = min (s.get F.SMB_COUNT2_TIMEOUTS + 1) 0xFFFF ∧ u.on (F.PG_IRQ 0x08 3) = true ∧
        Touches [] [] [F.SMB_FLAGS_TIMEOUT, F.SMB_COUNT2_TIMEOUTS, F.PG_IRQ 0x08 3] s u) ∧
  (∀ (cut : Option (Nat × List Nat)) (a : BitVec 24) (s : State), 
      s.smbServes = true → (cut = some (0x20, [7, bits (a.zeroExtend 32) 0 8, bits (a.zeroExtend 32) 8 8, bits (a.zeroExtend 32) 16 8]) ∨ cut = some (0x21, [4, bits (a.zeroExtend 32) 0 8, bits (a.zeroExtend 32) 8 8, bits (a.zeroExtend 32) 16 8])) →
      ∃ u, Yields (.smbSclTimeout cut) s u ∧
        u.get F.SMB_COUNT_TRANSACTIONS = min (s.get F.SMB_COUNT_TRANSACTIONS + 1) 0xFFFF ∧
        u.get F.SMB_LAST_STATUS = 8 ∧ u.get F.SMB_LAST_WORDS = 0 ∧
        u.on F.SMB_FLAGS_TIMEOUT = true ∧ u.on F.SMB_FLAGS_BAD_COUNT = true ∧ u.on (F.PG_IRQ 0x08 3) = true ∧
        u.get F.SMB_COUNT2_TIMEOUTS = min (s.get F.SMB_COUNT2_TIMEOUTS + 1) 0xFFFF ∧
        u.smb.ack = false ∧
        u.reg A.DBG_VIOL_LAST_ADDR = BitVec.ofNat 32 (a.toNat % 2 ^ 18) ∧
        bits (u.reg A.DBG_VIOL_LAST_INFO) 4 3 = 0 ∧
        Touches [.smb] [] (F.SMB_FLAGS_TIMEOUT :: F.SMB_COUNT2_TIMEOUTS :: F.PG_IRQ 0x08 3 :: [F.SMB_LAST_CMD, F.SMB_LAST_WORDS, F.SMB_LAST_STATUS, F.SMB_COUNT_TRANSACTIONS, F.SMB_STATE_BUSY, F.SMB_FLAGS_ERROR, F.SMB_FLAGS_BAD_COUNT, F.SMB_FLAGS_PEC_ERR, F.SMB_COUNT_ERRORS, F.PG_IRQ 0x08 2, whole A.DBG_VIOL_LAST_ADDR, whole A.DBG_VIOL_LAST_INFO, whole A.DBG_VIOL_FIRST_ADDR, whole A.DBG_VIOL_FIRST_INFO, F.DBG_VIOL_COUNT_COUNT, F.PG_IRQ (a.toNat / 0x400) 0, whole (a.toNat / 0x400 * 0x400 + 0x18), whole (a.toNat / 0x400 * 0x400 + 0x1C)]) s u) ∧
  (∀ (cut : Option (Nat × List Nat)) (s : State), 
      s.smbServes = true → (cut = none ∨ cut = some (0x22, [])) →
      ∃ u, Yields (.smbSdaRelease cut) s u ∧
        u.on F.SMB_FLAGS_SDA_RELEASE = true ∧
        Touches [.smb] [] [F.SMB_FLAGS_SDA_RELEASE, F.SMB_COUNT_TRANSACTIONS, F.SMB_STATE_BUSY] s u)

/-- HOST_NOTIFY_EVAL on a served bus with EN, nothing sent, pending, to be retried or failed, the port free: a word with a bit the last one lacks goes out once HOLDOFF has passed; a zero word clears LAST_SENT and PENDING; without EN, not served, while sending, within HOLDOFF or with no new bit, nothing. HOST_NOTIFY_DONE: LAST_SENT is the word sent, nothing sending or pending, TRY 0, counted. HN_ARB_LOSS: not sending, counted, ARB_LOST and its interrupt, no try used. HN_NACK: counted; below TRIES the try is counted and the retry waits; at the last HN_FAIL, counted, raised, the word failed, not pending. HN_RETRY_EXPIRE with EN, a word and the port free sends the present word. BUS_STUCK_DETECT of a wanted port neither stuck nor recovering (port 0 with RECOVER): a low SDA starts recovery with TRIES 0; a low SCL sets STUCK, fault code port + 1 and the interrupt; port 0 without RECOVER neither. BUS_RECOVERY_TRY: CLOCKS, TRIES and RECOVERIES; freed, neither recovering nor stuck (a pending word of port 0 goes out); not freed, recovery goes on below the third try and then ends STUCK with fault and interrupt. BUS_STUCK_CLEAR of a stuck port: not STUCK, its own fault code ended. SMB_REC_CTRL on a port not recovering, for a word the initiator may write, starts one try. SMB_CNT_CLR clears the counts. Each with its frame. -/
def Obligations.HostNotify : Prop :=
  (∀ (idle : Nat) (s : State), 
      s.smbServes = true → s.on F.SMB_HN_CFG_EN = true → s.on F.SMB_HN_STATUS_SENDING = false → s.on F.SMB_HN_STATUS_PENDING = false → s.smb.retry = false → s.smb.failed = none → s.notifyWord &&& s.get F.SMB_HN_STATUS_LAST_SENT ≠ s.notifyWord → s.get F.SMB_HN_CFG_HOLDOFF ≤ idle → s.on F.SMB_REC_SMB_STUCK = false → s.on F.SMB_REC_SMB_RECOVERING = false →
      ∃ u, Yields (.hostNotifyEval idle) s u ∧
        u.on F.SMB_HN_STATUS_SENDING = true ∧ u.on F.SMB_HN_STATUS_PENDING = true ∧
        u.smb = { s.smb with word := s.notifyWord } ∧
        Touches [.smb] [] [F.SMB_HN_STATUS_SENDING, F.SMB_HN_STATUS_PENDING, F.SMB_HN_STATUS_TRY] s u) ∧
  (∀ (idle : Nat) (s : State), 
      s.smbServes = true → s.on F.SMB_HN_CFG_EN = true → s.on F.SMB_HN_STATUS_SENDING = false → s.notifyWord = 0 →
      ∃ u, Yields (.hostNotifyEval idle) s u ∧
        u.get F.SMB_HN_STATUS_LAST_SENT = 0 ∧
        u.on F.SMB_HN_STATUS_PENDING = false ∧
        Touches [.smb] [] ([F.SMB_HN_STATUS_SENDING, F.SMB_HN_STATUS_PENDING, F.SMB_HN_STATUS_TRY] ++ [F.SMB_HN_STATUS_LAST_SENT]) s u) ∧
  (∀ (idle : Nat) (s : State), 
      (s.on F.SMB_HN_CFG_EN = false ∨ s.smbServes = false ∨ s.on F.SMB_HN_STATUS_SENDING = true ∨ (s.notifyWord ≠ 0 ∧ s.on F.SMB_HN_STATUS_PENDING = false ∧ s.smb.failed = none ∧ (idle < s.get F.SMB_HN_CFG_HOLDOFF ∨ s.notifyWord &&& s.get F.SMB_HN_STATUS_LAST_SENT = s.notifyWord))) →
      ∃ u, Yields (.hostNotifyEval idle) s u ∧
        Touches [] [] [] s u) ∧
  (∀ (s : State), 
      s.smbServes = true → s.on F.SMB_HN_STATUS_SENDING = true →
      ∃ u, Yields .hostNotifyDone s u ∧
        u.get F.SMB_HN_STATUS_LAST_SENT = s.smb.word % 2 ^ 16 ∧
        u.on F.SMB_HN_STATUS_SENDING = false ∧ u.on F.SMB_HN_STATUS_PENDING = false ∧ u.get F.SMB_HN_STATUS_TRY = 0 ∧
        u.get F.SMB_HN_COUNT_SENT = min (s.get F.SMB_HN_COUNT_SENT + 1) 0xFFFF ∧
        Touches [.smb] [] ([F.SMB_HN_STATUS_SENDING, F.SMB_HN_STATUS_PENDING, F.SMB_HN_STATUS_TRY] ++ [F.SMB_HN_STATUS_LAST_SENT, F.SMB_HN_COUNT_SENT]) s u) ∧
  (∀ (s : State), 
      s.smbServes = true → s.on F.SMB_HN_STATUS_SENDING = true →
      ∃ u, Yields .hnArbLoss s u ∧
        u.on F.SMB_HN_STATUS_SENDING = false ∧
        u.get F.SMB_HN_COUNT_ARB_LOSSES = min (s.get F.SMB_HN_COUNT_ARB_LOSSES + 1) 0xFFFF ∧
        u.on F.SMB_FLAGS_ARB_LOST = true ∧ u.on (F.PG_IRQ 0x08 5) = true ∧
        Touches [] [] [F.SMB_HN_STATUS_SENDING, F.SMB_HN_COUNT_ARB_LOSSES, F.SMB_FLAGS_ARB_LOST, F.PG_IRQ 0x08 5] s u) ∧
  (∀ (s : State), 
      s.smbServes = true → s.on F.SMB_HN_STATUS_SENDING = true →
      ∃ u, Yields .hnNack s u ∧
        u.on F.SMB_HN_STATUS_SENDING = false ∧
        u.get F.SMB_HN_COUNT2_NACKS = min (s.get F.SMB_HN_COUNT2_NACKS + 1) 0xFFFF ∧
        (s.get F.SMB_HN_STATUS_TRY + 1 < s.get F.SMB_HN_CFG_TRIES → u.get F.SMB_HN_STATUS_TRY = s.get F.SMB_HN_STATUS_TRY + 1 ∧ u.smb = { s.smb with retry := true } ∧ u.on F.SMB_FLAGS_HN_FAIL = s.on F.SMB_FLAGS_HN_FAIL) ∧
        (s.get F.SMB_HN_CFG_TRIES ≤ s.get F.SMB_HN_STATUS_TRY + 1 → u.on F.SMB_FLAGS_HN_FAIL = true ∧ u.get F.SMB_HN_COUNT2_FAILS = min (s.get F.SMB_HN_COUNT2_FAILS + 1) 0xFFFF ∧ u.on (F.PG_IRQ 0x08 4) = true ∧ u.smb = { s.smb with retry := false, failed := some s.smb.word } ∧ u.on F.SMB_HN_STATUS_PENDING = false) ∧
        Touches [.smb] [] ([F.SMB_HN_STATUS_SENDING, F.SMB_HN_STATUS_PENDING, F.SMB_HN_STATUS_TRY] ++ [F.SMB_HN_COUNT2_NACKS, F.SMB_HN_COUNT2_FAILS, F.SMB_FLAGS_HN_FAIL, F.PG_IRQ 0x08 4]) s u) ∧
  (∀ (s : State), 
      s.smbServes = true → s.smb.retry = true → s.on F.SMB_HN_CFG_EN = true → s.notifyWord ≠ 0 → s.on F.SMB_REC_SMB_STUCK = false → s.on F.SMB_REC_SMB_RECOVERING = false →
      ∃ u, Yields .hnRetryExpire s u ∧
        u.on F.SMB_HN_STATUS_SENDING = true ∧
        u.smb = { s.smb with word := s.notifyWord, retry := false } ∧
        Touches [.smb] [] [F.SMB_HN_STATUS_SENDING] s u) ∧
  (∀ (port : Fin 2) (scl : Bool) (s : State), 
      s.busRuns = true → s.portWanted port = true → s.on (if port = 0 then F.SMB_REC_SMB_STUCK else F.SMB_REC_PMB_STUCK) = false → s.on (if port = 0 then F.SMB_REC_SMB_RECOVERING else F.SMB_REC_PMB_RECOVERING) = false → (port = 1 ∨ s.on F.SMB_HN_CFG_RECOVER = true) →
      ∃ u, Yields (.busStuckDetect port scl) s u ∧
        (scl = false → u.on (if port = 0 then F.SMB_REC_SMB_RECOVERING else F.SMB_REC_PMB_RECOVERING) = true ∧ u.get (if port = 0 then F.SMB_REC_SMB_TRIES else F.SMB_REC_PMB_TRIES) = 0 ∧ u.on (if port = 0 then F.SMB_REC_SMB_STUCK else F.SMB_REC_PMB_STUCK) = false) ∧
        (scl = true → u.on (if port = 0 then F.SMB_REC_SMB_STUCK else F.SMB_REC_PMB_STUCK) = true ∧ u.get (F.PG_FAULT 0x08) = port.val + 1 ∧ u.on (F.PG_IRQ 0x08 6) = true) ∧
        Touches [] [] (F.SMB_HN_STATUS_SENDING :: F.PG_FAULT 0x08 :: F.PG_IRQ 0x08 1 :: F.PG_IRQ 0x08 6 :: [(if port = 0 then F.SMB_REC_SMB_STUCK else F.SMB_REC_PMB_STUCK), (if port = 0 then F.SMB_REC_SMB_RECOVERING else F.SMB_REC_PMB_RECOVERING), (if port = 0 then F.SMB_REC_SMB_TRIES else F.SMB_REC_PMB_TRIES), (if port = 0 then F.SMB_REC_SMB_CLOCKS else F.SMB_REC_PMB_CLOCKS), (if port = 0 then F.SMB_REC_SMB_RECOVERIES else F.SMB_REC_PMB_RECOVERIES)]) s u) ∧
  (∀ (port : Fin 2) (scl : Bool) (s : State), 
      port = 0 → s.on F.SMB_HN_CFG_RECOVER = false → s.on F.SMB_REC_SMB_STUCK = false → s.on F.SMB_REC_SMB_RECOVERING = false →
      ∃ u, Yields (.busStuckDetect port scl) s u ∧
        u.on F.SMB_REC_SMB_STUCK = false ∧ u.on F.SMB_REC_SMB_RECOVERING = false ∧
        Touches [] [] [F.SMB_HN_STATUS_SENDING] s u) ∧
  (∀ (port : Fin 2) (clocks : Fin 10) (freed : Bool) (s : State), 
      s.busRuns = true → s.on (if port = 0 then F.SMB_REC_SMB_RECOVERING else F.SMB_REC_PMB_RECOVERING) = true → s.smb.single0 = false → s.smb.single1 = false →
      ∃ u, Yields (.busRecoveryTry port clocks freed) s u ∧
        (u.get (if port = 0 then F.SMB_REC_SMB_CLOCKS else F.SMB_REC_PMB_CLOCKS) = clocks.val) ∧
        (u.get (if port = 0 then F.SMB_REC_SMB_TRIES else F.SMB_REC_PMB_TRIES) = (s.get (if port = 0 then F.SMB_REC_SMB_TRIES else F.SMB_REC_PMB_TRIES) + 1) % 4) ∧
        (u.get (if port = 0 then F.SMB_REC_SMB_RECOVERIES else F.SMB_REC_PMB_RECOVERIES) = min (s.get (if port = 0 then F.SMB_REC_SMB_RECOVERIES else F.SMB_REC_PMB_RECOVERIES) + 1) 0xFFFF) ∧
        (freed = true → u.on (if port = 0 then F.SMB_REC_SMB_RECOVERING else F.SMB_REC_PMB_RECOVERING) = false ∧ u.on (if port = 0 then F.SMB_REC_SMB_STUCK else F.SMB_REC_PMB_STUCK) = false) ∧
        (freed = false → s.get (if port = 0 then F.SMB_REC_SMB_TRIES else F.SMB_REC_PMB_TRIES) < 2 → u.on (if port = 0 then F.SMB_REC_SMB_RECOVERING else F.SMB_REC_PMB_RECOVERING) = true) ∧
        (freed = false → 2 ≤ s.get (if port = 0 then F.SMB_REC_SMB_TRIES else F.SMB_REC_PMB_TRIES) → u.on (if port = 0 then F.SMB_REC_SMB_RECOVERING else F.SMB_REC_PMB_RECOVERING) = false ∧ u.on (if port = 0 then F.SMB_REC_SMB_STUCK else F.SMB_REC_PMB_STUCK) = true ∧ u.get (F.PG_FAULT 0x08) = port.val + 1 ∧ u.on (F.PG_IRQ 0x08 6) = true) ∧
        (port = 0 → freed = true → s.on F.SMB_HN_STATUS_PENDING = true → s.on F.SMB_HN_CFG_EN = true → s.smb.retry = false → s.notifyWord ≠ 0 → u.on F.SMB_HN_STATUS_SENDING = true) ∧
        Touches [.smb] [] (F.SMB_HN_STATUS_LAST_SENT :: F.PG_FAULT 0x08 :: F.PG_IRQ 0x08 1 :: F.PG_IRQ 0x08 6 :: [F.SMB_HN_STATUS_SENDING, F.SMB_HN_STATUS_PENDING, F.SMB_HN_STATUS_TRY] ++ [(if port = 0 then F.SMB_REC_SMB_STUCK else F.SMB_REC_PMB_STUCK), (if port = 0 then F.SMB_REC_SMB_RECOVERING else F.SMB_REC_PMB_RECOVERING), (if port = 0 then F.SMB_REC_SMB_TRIES else F.SMB_REC_PMB_TRIES), (if port = 0 then F.SMB_REC_SMB_CLOCKS else F.SMB_REC_PMB_CLOCKS), (if port = 0 then F.SMB_REC_SMB_RECOVERIES else F.SMB_REC_PMB_RECOVERIES)]) s u) ∧
  (∀ (port : Fin 2) (s : State), 
      s.busRuns = true → s.on (if port = 0 then F.SMB_REC_SMB_STUCK else F.SMB_REC_PMB_STUCK) = true →
      ∃ u, Yields (.busStuckClear port) s u ∧
        (u.on (if port = 0 then F.SMB_REC_SMB_STUCK else F.SMB_REC_PMB_STUCK) = false) ∧
        (s.get (F.PG_FAULT 0x08) = port.val + 1 → u.get (F.PG_FAULT 0x08) = 0) ∧
        (s.get (F.PG_FAULT 0x08) ≠ port.val + 1 → u.get (F.PG_FAULT 0x08) = s.get (F.PG_FAULT 0x08)) ∧
        Touches [] [] [(if port = 0 then F.SMB_REC_SMB_STUCK else F.SMB_REC_PMB_STUCK), F.PG_FAULT 0x08] s u) ∧
  (∀ (ini : Fin 5) (port : Fin 2) (w : Word) (s : State), 
      s.mayWrite ini A.SMB_REC_CTRL (w ||| (if port = 0 then 0x1#32 else 0x2#32)) = true → bits w (1 - port.val) 1 = 0 → s.on (if port = 0 then F.SMB_REC_SMB_RECOVERING else F.SMB_REC_PMB_RECOVERING) = false →
      ∃ u, Yields (.smbRecRetry ini port w) s u ∧
        (u.on (if port = 0 then F.SMB_REC_SMB_RECOVERING else F.SMB_REC_PMB_RECOVERING) = true ∧ u.get (if port = 0 then F.SMB_REC_SMB_TRIES else F.SMB_REC_PMB_TRIES) = 0 ∧ u.get (if port = 0 then F.SMB_REC_SMB_CLOCKS else F.SMB_REC_PMB_CLOCKS) = 0) ∧
        (port = 0 → u.smb = { s.smb with single0 := true }) ∧
        (port = 1 → u.smb = { s.smb with single1 := true }) ∧
        Touches [.smb] [] [(if port = 0 then F.SMB_REC_SMB_STUCK else F.SMB_REC_PMB_STUCK), (if port = 0 then F.SMB_REC_SMB_RECOVERING else F.SMB_REC_PMB_RECOVERING), (if port = 0 then F.SMB_REC_SMB_TRIES else F.SMB_REC_PMB_TRIES), (if port = 0 then F.SMB_REC_SMB_CLOCKS else F.SMB_REC_PMB_CLOCKS), (if port = 0 then F.SMB_REC_SMB_RECOVERIES else F.SMB_REC_PMB_RECOVERIES)] s u) ∧
  (∀ (ini : Fin 5) (w : Word) (s : State), 
      s.mayWrite ini A.SMB_CNT_CLR (w ||| 0x1#32) = true →
      ∃ u, Yields (.smbCntClr ini w) s u ∧
        u.reg A.SMB_COUNT = 0 ∧ u.reg A.SMB_COUNT2 = 0 ∧ u.reg A.SMB_HN_COUNT = 0 ∧ u.reg A.SMB_HN_COUNT2 = 0 ∧
        u.get F.SMB_REC_SMB_RECOVERIES = 0 ∧ u.get F.SMB_REC_PMB_RECOVERIES = 0 ∧
        Touches [] [] [whole A.SMB_COUNT, whole A.SMB_COUNT2, whole A.SMB_HN_COUNT, whole A.SMB_HN_COUNT2, F.SMB_REC_SMB_RECOVERIES, F.SMB_REC_PMB_RECOVERIES] s u)

/-- AGEING_MEASURE in RUN with management running holds each island's slowdown, its WARN at 10 x the limit, AGEING_WARN of each page as its island's, and the interrupt if any warns. ROTATION_STEP with ROTATE_EN in RUN, on an enabled page outside a freeze, with a free slot: HOURS_LEFT restarts, nothing due; positions 0 to 15 and 16 to 23 post the substitution of a running channel or else the test of its slice, 24 without PLL_TEST passes on to a MAC test at 25, 25 to 36 post the MAC units' tests, 38 with MBS1 free its test and returns to 0. Outside RUN the step is due. MNT_POST, for a word the initiator may write, queues type and target in a free slot with the next ID, no other slot changed; with none it is counted dropped and raised. JOB_END with management running: the ending job is ENDED with its result; 1 counts DONE, 2 to 4 ABORTED, each raised; a deferred MAC job whose resources are then free starts, the others unchanged; with no job ending nothing. MAC_SUBST_SWITCH of a test at its end: the spare serves the unit, logged where the log has room (FULL with fault 0x01 at its last entry), its job ending 1; before its end nothing. SPARE_BANK_TEST_DONE: the test over, an error retires MBSn and is logged, its job ending 6, else 1. MNT_CNT_CLR clears the counts. Each with its frame. -/
def Obligations.Maintenance : Prop :=
  (∀ (slow : List Int) (s : State), 
      s.mgmtRuns = true → s.domState = 0 → (∀ i : Nat, i < 14 → -32768 ≤ slow.getD i 0 ∧ slow.getD i 0 ≤ 32767) →
      ∃ u, Yields (.ageingMeasure slow) s u ∧
        (∀ i : Nat, i < 14 → signed 16 (u.get (F.MNT_AGE_SLOW i)) = slow.getD i 0 ∧ u.on (F.MNT_AGE_WARN i) = decide ((10 * s.get F.MNT_AGE_CFG_WARN : Int) ≤ slow.getD i 0)) ∧
        (∀ p : Nat, p < 96 → allPages.contains p = true → u.on (F.PG_AGEING p) = u.on (F.MNT_AGE_WARN (pageIsland p))) ∧
        (∀ i : Nat, i < 14 → (10 * s.get F.MNT_AGE_CFG_WARN : Int) ≤ slow.getD i 0 → u.on (F.PG_IRQ 0x06 4) = true) ∧
        Touches [] [] ((List.range 14).flatMap (fun i => [F.MNT_AGE_SLOW i, F.MNT_AGE_WARN i]) ++ allPages.map F.PG_AGEING ++ [F.PG_IRQ 0x06 4]) s u) ∧
  (∀ (k : Nat) (s : State), 
      s.on F.MNT_SCHED_ROTATE_EN = true → s.domState = 0 → s.frozen = false → s.on (F.PG_ENABLE 0x06) = true → k < 16 → s.freeSlot = some k →
      ∃ u, Yields .rotationStep s u ∧
        u.get F.MNT_SCHED_STATUS_HOURS_LEFT = s.get F.MNT_SCHED_ROTATE_H ∧
        u.rotMs = 0 ∧ u.rotDue = false ∧
        (∀ p : Nat, p < 16 → s.get F.MNT_SCHED_STATUS_POSITION = p → u.get F.MNT_SCHED_STATUS_POSITION = p + 1 ∧ (vget u.jobs k Job.empty).st = .queued ∧ ((vget u.jobs k Job.empty).type, (vget u.jobs k Job.empty).target) = (if (s.ainAt p).phase = .running then (0, p) else (2, s.ainSlice p))) ∧
        (∀ c : Nat, c < 8 → s.get F.MNT_SCHED_STATUS_POSITION = 16 + c → u.get F.MNT_SCHED_STATUS_POSITION = 17 + c ∧ ((vget u.jobs k Job.empty).type, (vget u.jobs k Job.empty).target) = (if (s.aoutAt c).phase = .running then (1, c) else (3, s.aoutSlice c))) ∧
        (∀ m : Nat, m < 12 → s.get F.MNT_SCHED_STATUS_POSITION = 25 + m → u.get F.MNT_SCHED_STATUS_POSITION = 26 + m ∧ ((vget u.jobs k Job.empty).type, (vget u.jobs k Job.empty).target) = (9, m)) ∧
        (s.get F.MNT_SCHED_STATUS_POSITION = 24 → s.on F.MNT_SCHED_PLL_TEST = false → u.get F.MNT_SCHED_STATUS_POSITION = 26 ∧ ((vget u.jobs k Job.empty).type, (vget u.jobs k Job.empty).target) = (9, 0)) ∧
        (s.get F.MNT_SCHED_STATUS_POSITION = 38 → s.spareBankFree 1 = true → u.get F.MNT_SCHED_STATUS_POSITION = 0 ∧ ((vget u.jobs k Job.empty).type, (vget u.jobs k Job.empty).target) = (0xB, 33)) ∧
        Touches (jobParts ++ ([.rotMs, .rotDue] : List Part)) [] [F.MNT_SCHED_STATUS_HOURS_LEFT, F.MNT_SCHED_STATUS_POSITION, F.BLW_MNT_QUEUED, F.BLW_MNT_HEAD_JOB, F.MNT_COUNT2_DROPPED, F.PG_IRQ 0x06 6] s u) ∧
  (∀ (s : State), 
      s.on F.MNT_SCHED_ROTATE_EN = true → 1 ≤ s.domState → s.domState ≤ 4 →
      ∃ u, Yields .rotationStep s u ∧
        u.rotDue = true ∧ u.rotMs = 0 ∧
        u.get F.MNT_SCHED_STATUS_HOURS_LEFT = s.get F.MNT_SCHED_ROTATE_H ∧
        Touches [.rotMs, .rotDue] [] [F.MNT_SCHED_STATUS_HOURS_LEFT, F.BLW_MNT_QUEUED, F.BLW_MNT_HEAD_JOB] s u) ∧
  (∀ (ini : Fin 5) (w : Word) (k : Nat) (s : State), 
      s.mayWrite ini A.MNT_POST (w ||| 0x4000#32) = true → k < 16 → s.freeSlot = some k →
      ∃ u, Yields (.mntPostStart ini w) s u ∧
        (vget u.jobs k Job.empty).st = .queued ∧ (vget u.jobs k Job.empty).type = bits w 4 4 ∧ (vget u.jobs k Job.empty).target = bits w 8 6 ∧ (vget u.jobs k Job.empty).fault = false ∧ (vget u.jobs k Job.empty).id = s.nextJobId ∧
        (∀ j : Nat, j < 16 → j ≠ k → vget u.jobs j Job.empty = vget s.jobs j Job.empty) ∧
        u.lastJobId = s.nextJobId ∧
        u.get F.MNT_COUNT2_DROPPED = s.get F.MNT_COUNT2_DROPPED ∧
        Touches jobParts [] [whole A.MNT_POST, F.BLW_MNT_QUEUED, F.BLW_MNT_HEAD_JOB] s u) ∧
  (∀ (ini : Fin 5) (w : Word) (s : State), 
      s.mayWrite ini A.MNT_POST (w ||| 0x4000#32) = true → s.freeSlot = none →
      ∃ u, Yields (.mntPostStart ini w) s u ∧
        u.get F.MNT_COUNT2_DROPPED = min (s.get F.MNT_COUNT2_DROPPED + 1) 0xFFFF ∧
        u.on (F.PG_IRQ 0x06 6) = true ∧
        Touches [] [] [whole A.MNT_POST, F.BLW_MNT_QUEUED, F.BLW_MNT_HEAD_JOB, F.MNT_COUNT2_DROPPED, F.PG_IRQ 0x06 6] s u) ∧
  (∀ (k : Nat) (s : State), 
      s.mgmtRuns = true → k < 16 → s.endingSlot = some k → s.deferredSlots = [] →
      ∃ u, Yields .jobEnd s u ∧
        u.jobs = vmod s.jobs k (fun j => { j with st := .ended, result := j.ending }) ∧
        ((vget s.jobs k Job.empty).ending = 1 → u.get F.MNT_COUNT_DONE = min (s.get F.MNT_COUNT_DONE + 1) 0xFFFF ∧ u.on (F.PG_IRQ 0x06 2) = true ∧ u.get F.MNT_COUNT_ABORTED = s.get F.MNT_COUNT_ABORTED) ∧
        ((vget s.jobs k Job.empty).ending = 2 ∨ (vget s.jobs k Job.empty).ending = 3 ∨ (vget s.jobs k Job.empty).ending = 4 → u.get F.MNT_COUNT_ABORTED = min (s.get F.MNT_COUNT_ABORTED + 1) 0xFFFF ∧ u.on (F.PG_IRQ 0x06 3) = true ∧ u.get F.MNT_COUNT_DONE = s.get F.MNT_COUNT_DONE) ∧
        Touches [.jobs] [] [whole A.MNT_COUNT, F.PG_IRQ 0x06 2, F.PG_IRQ 0x06 3, F.BLW_MNT_QUEUED, F.BLW_MNT_HEAD_JOB] s u) ∧
  (∀ (k d : Nat) (s : State), 
      s.mgmtRuns = true → s.clocked .engine = true → k < 16 → d < 16 → s.endingSlot = some k → s.deferredSlots = [d] → ((vget s.jobs d Job.empty).type = 8 ∨ (vget s.jobs d Job.empty).type = 9) → (vget s.jobs d Job.empty).target < 12 → (s.modJob k (fun j => { j with st := .ended })).resBusy &&& (vget s.jobs d Job.empty).res = 0 → s.get F.MNT_MAC_SPARE = 0 → d ≠ k → (∀ j : Nat, j < 16 → (vget s.jobs j Job.empty).st = .running → 0 < (vget s.jobs j Job.empty).id) →
      ∃ u, Yields .jobEnd s u ∧
        (vget u.jobs k Job.empty).st = .ended ∧
        (vget u.jobs d Job.empty).st = .running ∧ (vget u.jobs d Job.empty).blocker = 0 ∧
        u.mac.isSome = true ∧
        (∀ j : Nat, j < 16 → j ≠ k ∧ j ≠ d → vget u.jobs j Job.empty = vget s.jobs j Job.empty) ∧
        Touches [.jobs, .mac] [] [whole A.MNT_COUNT, F.PG_IRQ 0x06 2, F.PG_IRQ 0x06 3, F.BLW_MNT_QUEUED, F.BLW_MNT_HEAD_JOB] s u) ∧
  (∀ (s : State), 
      s.endingSlot = none →
      ∃ u, Yields .jobEnd s u ∧
        Touches [] [] [] s u) ∧
  (∀ (x : Nat) (s : State), 
      s.clocked .engine = true → x < 12 → s.mac = some ⟨x, 0, false⟩ →
      ∃ u, Yields .macSubstSwitch s u ∧
        u.get F.MNT_MAC_SPARE = 1 ∧ u.get F.MNT_MAC_UNIT = x ∧
        u.mac = none ∧
        (s.get F.MNT_LOG_USED < 256 → u.get F.MNT_LOG_USED = s.get F.MNT_LOG_USED + 1 ∧ u.otp = store s.otp (512 + s.get F.MNT_LOG_USED) (lookup s.otp (512 + s.get F.MNT_LOG_USED) 0 ||| BitVec.ofNat 32 (logRecord 8 x 0 1)) 0) ∧
        (s.get F.MNT_LOG_USED = 255 → u.on F.MNT_LOG_FULL = true ∧ u.get (F.PG_FAULT 0x06) = 1 ∧ u.on (F.PG_IRQ 0x06 5) = true) ∧
        (256 ≤ s.get F.MNT_LOG_USED → u.otp = s.otp) ∧
        (∀ k : Nat, k < 16 → s.jobSlot 8 x = some k → (vget u.jobs k Job.empty).ending = 1) ∧
        Touches [.mac, .otp, .jobs] [] [F.MNT_MAC_SPARE, F.MNT_MAC_UNIT, F.MNT_LOG_USED, F.MNT_LOG_FULL, F.PG_FAULT 0x06, F.PG_IRQ 0x06 1, F.PG_IRQ 0x06 5] s u) ∧
  (∀ (x n : Nat) (c : Bool) (s : State), 
      s.mac = some ⟨x, n, c⟩ → (0 < n ∨ c = true) →
      ∃ u, Yields .macSubstSwitch s u ∧
        Touches [] [] [] s u) ∧
  (∀ (b : Fin 2) (error : Bool) (s : State), 
      s.bankTest = some b.val → s.frozen = false →
      ∃ u, Yields (.spareBankTestDone b error) s u ∧
        u.bankTest = none ∧
        (error = true → u.get (F.MEM_BANK_STATUS_RETIRED (32 + b)) = 1) ∧
        (error = false → u.get (F.MEM_BANK_STATUS_RETIRED (32 + b)) = s.get (F.MEM_BANK_STATUS_RETIRED (32 + b)) ∧ u.otp = s.otp) ∧
        (∀ k : Nat, k < 16 → s.jobSlot 0xB (32 + b) = some k → (vget u.jobs k Job.empty).ending = if error then 6 else 1) ∧
        (error = true → s.get F.MNT_LOG_USED < 256 → u.get F.MNT_LOG_USED = s.get F.MNT_LOG_USED + 1) ∧
        Touches [.bankTest, .otp, .jobs] [] [F.MEM_BANK_STATUS_RETIRED (32 + b), F.MNT_LOG_USED, F.MNT_LOG_FULL, F.PG_FAULT 0x06, F.PG_IRQ 0x06 1, F.PG_IRQ 0x06 5] s u) ∧
  (∀ (ini : Fin 5) (w : Word) (s : State), 
      s.mayWrite ini A.MNT_CNT_CLR (w ||| 0x1#32) = true →
      ∃ u, Yields (.mntCntClr ini w) s u ∧
        u.reg A.MNT_COUNT = 0 ∧ u.reg A.MNT_COUNT2 = 0 ∧ u.get F.MNT_MAC_RESIDUE_ERRS = 0 ∧
        Touches [] [] [whole A.MNT_COUNT, whole A.MNT_COUNT2, F.MNT_MAC_RESIDUE_ERRS] s u)

/-- MIC_PRIVACY_ASSERT in RUN to SLEEP outside a freeze: ASSERTED, counted, raised if it was not in force; the listening island, when on, shows PRIVACY and raises, else the assertion is kept for the wake, as it is in DEEP; during a freeze it is latched. MIC_PRIVACY_RELEASE in RUN to SLEEP: ASSERTED clear, listening's PRIVACY too; in a freeze or below SLEEP only the ball's level. FREEZE_BALL_HIGH of an armed ball, and FREEZE by register, in RUN to SLEEP with no freeze: STOPPING with source 1 or 2 where the life cycle permits, else ignored and counted, raised; the register holds both KEEP bits; a ball not armed only shows its level. FREEZE_TAKE_HOLD of STOPPING in RUN to SLEEP outside S6: FROZEN, the frame latched and the clocks as the islands saw them, counted, raised, every output at zero, speakers high impedance, Bellows stopped, any copy ended, a power entry marked; below SLEEP the request ends; else nothing. RESUME with FREEZE low: running, DISCONT, the time, its interrupt, nothing latched or kept, a latched privacy that still holds shows ASSERTED, no MAC test; with FREEZE high: RESUME_BLOCKED and its interrupt, still frozen. DBG_CNT_CLR clears the counts; DBG_VIOL_CTRL the violation log. Register commands are for a word the initiator may write. Each with its frame. -/
def Obligations.PrivacyAndFreeze : Prop :=
  (∀ (s : State), 
      s.pins.privacy = false → s.freezing = false → s.domState ≤ 2 →
      ∃ u, Yields .micPrivacyAssert s u ∧
        u.pins = { s.pins with privacy := true } ∧
        u.on F.AUX_PRIVACY_ASSERTED = true ∧
        u.get F.AUX_PRIVACY_COUNT = min (s.get F.AUX_PRIVACY_COUNT + 1) 0xFFFF ∧
        (s.privacy = false → u.on (F.PG_IRQ 0x18 5) = true) ∧
        (s.islandOn .listen = true → u.on F.LST_STATUS_PRIVACY = true ∧ u.on (F.PG_IRQ 0x0C 11) = true) ∧
        (s.islandOn .listen = false → u.pwr = { s.pwr with privacy := true }) ∧
        Touches (audioParts ++ ([.pins, .pwr, .sram, .usb, .mem] : List Part)) (audioPages ++ [0x04, 0x0A, 0x01]) [] s u) ∧
  (∀ (s : State), 
      s.pins.privacy = false → s.freezing = true → s.domState ≤ 4 →
      ∃ u, Yields .micPrivacyAssert s u ∧
        u.pins = { s.pins with privacy := true } ∧
        u.on F.DBG_FREEZE_STATUS_PRIV_LATCHED = true ∧
        Touches [.pins] [] [F.DBG_FREEZE_STATUS_PRIV_LATCHED] s u) ∧
  (∀ (s : State), 
      s.pins.privacy = false → s.freezing = false → (s.domState = 3 ∨ s.domState = 4) →
      ∃ u, Yields .micPrivacyAssert s u ∧
        u.pins = { s.pins with privacy := true } ∧
        u.pwr = { s.pwr with privacy := true } ∧
        Touches [.pins, .pwr] [] [] s u) ∧
  (∀ (s : State), 
      s.pins.privacy = true → s.freezing = false → s.domState ≤ 2 →
      ∃ u, Yields .micPrivacyRelease s u ∧
        u.pins = { s.pins with privacy := false } ∧
        u.on F.AUX_PRIVACY_ASSERTED = false ∧
        u.get F.AUX_PRIVACY_COUNT = s.get F.AUX_PRIVACY_COUNT ∧
        (s.islandOn .listen = true → u.on F.LST_STATUS_PRIVACY = false) ∧
        Touches (audioParts ++ ([.pins] : List Part)) audioPages [] s u) ∧
  (∀ (s : State), 
      s.pins.privacy = true → (s.freezing = true ∨ 3 ≤ s.domState) →
      ∃ u, Yields .micPrivacyRelease s u ∧
        u.pins = { s.pins with privacy := false } ∧
        Touches [.pins] [] [] s u) ∧
  (∀ (rearmed : Bool) (s : State), 
      (s.freezeArmed = true ∨ rearmed = true) → s.get F.DBG_FREEZE_STATUS_STATE = 0 → s.domState ≤ 2 →
      ∃ u, Yields (.freezeBallHigh rearmed) s u ∧
        (s.debugOk = true → s.lcy.trans = false → u.get F.DBG_FREEZE_STATUS_STATE = 1 ∧ u.get F.DBG_FREEZE_STATUS_SOURCE = 1) ∧
        (s.debugOk = false ∨ s.lcy.trans = true → u.get F.DBG_FREEZE_COUNT_IGNORED = min (s.get F.DBG_FREEZE_COUNT_IGNORED + 1) 0xFFFF ∧ u.on (F.PG_IRQ 0x05 4) = true ∧ u.get F.DBG_FREEZE_STATUS_STATE = 0) ∧
        u.pins = { s.pins with freeze := true } ∧
        u.freezeArmed = true ∧
        Touches [.pins, .freezeArmed] [] [F.DBG_FREEZE_STATUS_STATE, F.DBG_FREEZE_STATUS_SOURCE, F.DBG_FREEZE_COUNT_IGNORED, F.PG_IRQ 0x05 4] s u) ∧
  (∀ (rearmed : Bool) (s : State), 
      s.freezeArmed = false → rearmed = false →
      ∃ u, Yields (.freezeBallHigh rearmed) s u ∧
        u.pins = { s.pins with freeze := true } ∧
        u.freezeArmed = false ∧
        Touches [.pins] [] [] s u) ∧
  (∀ (ini : Fin 5) (w : Word) (s : State), 
      s.mayWrite ini A.DBG_FREEZE (w ||| 0x1#32) = true → bits w 1 1 = 0 → s.get F.DBG_FREEZE_STATUS_STATE = 0 → s.domState ≤ 2 →
      ∃ u, Yields (.dbgFreezeReq ini w) s u ∧
        (s.debugOk = true → s.lcy.trans = false → u.get F.DBG_FREEZE_STATUS_STATE = 1 ∧ u.get F.DBG_FREEZE_STATUS_SOURCE = 2) ∧
        (s.debugOk = false ∨ s.lcy.trans = true → u.get F.DBG_FREEZE_COUNT_IGNORED = min (s.get F.DBG_FREEZE_COUNT_IGNORED + 1) 0xFFFF ∧ u.on (F.PG_IRQ 0x05 4) = true ∧ u.get F.DBG_FREEZE_STATUS_STATE = 0) ∧
        u.get F.DBG_FREEZE_KEEP_MGMT = bits w 3 1 ∧ u.get F.DBG_FREEZE_KEEP_USB = bits w 4 1 ∧
        Touches [] [] [F.DBG_FREEZE_STATUS_STATE, F.DBG_FREEZE_STATUS_SOURCE, F.DBG_FREEZE_COUNT_IGNORED, F.PG_IRQ 0x05 4, F.DBG_FREEZE_KEEP_MGMT, F.DBG_FREEZE_KEEP_USB] s u) ∧
  (∀ (s : State), 
      s.get F.DBG_FREEZE_STATUS_STATE = 1 → s.pwrStep ≠ 6 → s.domState ≤ 2 →
      ∃ u, Yields .freezeTakeHold s u ∧
        u.get F.DBG_FREEZE_STATUS_STATE = 2 ∧
        u.get F.DBG_FREEZE_FRAME_FRAME = s.get F.CHN_FRAME_NOW_FRAME ∧
        u.get F.DBG_FREEZE_COUNT_FREEZES = min (s.get F.DBG_FREEZE_COUNT_FREEZES + 1) 0xFFFF ∧
        u.on (F.PG_IRQ 0x05 2) = true ∧
        u.keptMgmt = s.on F.DBG_FREEZE_KEEP_MGMT ∧ u.keptUsb = (s.on F.DBG_FREEZE_KEEP_MGMT && s.on F.DBG_FREEZE_KEEP_USB) ∧
        (∀ c : Nat, c < 8 → (u.aoutAt c).pop = .at0) ∧
        (∀ n : Nat, n < 4 → (u.spkAt n).pop = .at0 ∧ u.on (F.SPK_STATUS_HIZ n) = true) ∧
        u.mem.copy = none ∧
        u.on F.BLW_STATUS_RUNNING = false ∧
        (1 ≤ s.pwrStep → s.pwrStep ≤ 5 → s.pwrBusy = true → u.pwr = { s.pwr with frozen := true }) ∧
        vget u.seen 0 true = s.famUp 0 ∧ vget u.seen 1 true = s.famUp 1 ∧ vget u.seen 2 true = s.on F.CLK_FLL_STATUS_LOCKED ∧
        Touches (audioParts ++ jobParts ++ ([.seen, .mem, .pwr, .keptMgmt, .keptUsb] : List Part)) (audioPages ++ [0x04, 0x05, 0x06]) [whole A.BLW_MNT, F.BLW_STATUS_RUNNING] s u) ∧
  (∀ (s : State), 
      s.get F.DBG_FREEZE_STATUS_STATE = 1 → s.pwrStep ≠ 6 → 3 ≤ s.domState →
      ∃ u, Yields .freezeTakeHold s u ∧
        u.get F.DBG_FREEZE_STATUS_STATE = 0 ∧
        Touches [] [] [F.DBG_FREEZE_STATUS_STATE] s u) ∧
  (∀ (s : State), 
      (s.get F.DBG_FREEZE_STATUS_STATE ≠ 1 ∨ s.pwrStep = 6) →
      ∃ u, Yields .freezeTakeHold s u ∧
        Touches [] [] [] s u) ∧
  (∀ (ini : Fin 5) (level : Bool) (us : Nat) (w : Word) (s : State), 
      s.mayWrite ini A.DBG_FREEZE (w ||| 0x2#32) = true → bits w 0 1 = 0 → s.frozen = true → level = false →
      ∃ u, Yields (.dbgFreezeResume ini level us w) s u ∧
        u.get F.DBG_FREEZE_STATUS_STATE = 0 ∧
        u.on F.DBG_FREEZE_STATUS_DISCONT = true ∧
        u.get F.DBG_FREEZE_TIME_US = min us 0xFFFFFFFF ∧
        u.on (F.PG_IRQ 0x05 3) = true ∧
        u.keptMgmt = false ∧ u.keptUsb = false ∧
        u.on F.DBG_FREEZE_STATUS_PRIV_LATCHED = false ∧
        (s.on F.DBG_FREEZE_STATUS_PRIV_LATCHED = true → s.pins.privacy = true → u.on F.AUX_PRIVACY_ASSERTED = true) ∧
        u.pins = { s.pins with freeze := false } ∧
        u.mac = none ∧
        Touches (([.pins, .keptMgmt, .keptUsb, .trk, .domState, .quiet, .gated] : List Part) ++ audioParts ++ jobParts ++ ([.pwr, .opNext, .opHeld, .pmb, .mem, .free, .mac, .bankTest, .rotDue, .rotMs, .grants, .blw, .usb, .trk, .pllTest, .feChange, .tkoOn, .tko, .otp] : List Part)) (audioPages ++ [0x00, 0x01, 0x02, 0x03, 0x04, 0x06, 0x08, 0x09, 0x0A] ++ [0x05]) [] s u) ∧
  (∀ (ini : Fin 5) (level : Bool) (us : Nat) (w : Word) (s : State), 
      s.mayWrite ini A.DBG_FREEZE (w ||| 0x2#32) = true → bits w 0 1 = 0 → s.frozen = true → level = true →
      ∃ u, Yields (.dbgFreezeResume ini level us w) s u ∧
        u.on F.DBG_FREEZE_STATUS_RESUME_BLOCKED = true ∧ u.on (F.PG_IRQ 0x05 5) = true ∧
        u.frozen = true ∧
        u.pins = { s.pins with freeze := true } ∧
        Touches [.pins] [] [F.DBG_FREEZE_STATUS_RESUME_BLOCKED, F.PG_IRQ 0x05 5, F.DBG_FREEZE_KEEP_MGMT, F.DBG_FREEZE_KEEP_USB] s u) ∧
  (∀ (ini : Fin 5) (w : Word) (s : State), 
      s.mayWrite ini A.DBG_CNT_CLR (w ||| 0x1#32) = true →
      ∃ u, Yields (.dbgCntClr ini w) s u ∧
        u.reg A.DBG_FREEZE_COUNT = 0 ∧
        Touches [] [] [whole A.DBG_FREEZE_COUNT] s u) ∧
  (∀ (ini : Fin 5) (w : Word) (s : State), 
      s.mayWrite ini A.DBG_VIOL_CTRL (w ||| 0x1#32) = true →
      ∃ u, Yields (.dbgViolClear ini w) s u ∧
        u.reg A.DBG_VIOL_FIRST_ADDR = 0 ∧ u.reg A.DBG_VIOL_FIRST_INFO = 0 ∧ u.reg A.DBG_VIOL_LAST_ADDR = 0 ∧ u.reg A.DBG_VIOL_LAST_INFO = 0 ∧ u.reg A.DBG_VIOL_COUNT = 0 ∧
        Touches [] [] [whole A.DBG_VIOL_FIRST_ADDR, whole A.DBG_VIOL_FIRST_INFO, whole A.DBG_VIOL_LAST_ADDR, whole A.DBG_VIOL_LAST_INFO, whole A.DBG_VIOL_COUNT] s u)

/-- REG_ACCESS (write bit 50, address, word): a write of a held register that initiator 3 may write holds it by its access types, with DONE; a read neither refused nor poisoned, of another register than SNS_RESULT, returns DONE and the word; a refused write with the path open returns DONE, ERROR and the code and is logged with initiator 3; with the path closed code 4 and nothing else. SNAPSHOT: a read in a permitted freeze, neither refused, barred by a wipe nor poisoned, returns DONE and the word and changes nothing; outside a freeze it returns ERROR with code 4; where the life cycle forbids debug code 3; a write in a permitted freeze with the path closed code 2. FREEZE_CTL bit 0 with no freeze, permitted, in RUN to SLEEP: STOPPING with source 3; bit 1 while FREEZE is high: RESUME_BLOCKED and its interrupt. EXTEST and SAMPLE/PRELOAD hold the captured and driven levels; Test-Logic-Reset selects BYPASS. Each with its frame. -/
def Obligations.TestAccess : Prop :=
  (∀ (dr : BitVec 56) (a : BitVec 18) (w : Word) (s : State), 
      dr = BitVec.ofNat 56 (1 * 2 ^ 50 + a.toNat * 2 ^ 32 + w.toNat) → heldReg a.toNat = true → s.mayWrite 3 a.toNat w = true →
      ∃ u, Yields (.jtagRegAccess dr) s u ∧
        u.reg a.toNat = s.taken a.toNat w ∧
        u.jtag = { s.jtag with ir := 8, result := 2 ^ 37 } ∧
        Touches [.jtag] [] [whole a.toNat] s u) ∧
  (∀ (dr : BitVec 56) (a : BitVec 18) (w : Word) (s : State), 
      dr = BitVec.ofNat 56 (0 * 2 ^ 50 + a.toNat * 2 ^ 32 + w.toNat) → s.pathOpen 3 = true → s.refusal 3 false a.toNat 0 = 0 → (s.peek a.toNat).2 = false → a.toNat ≠ A.SNS_RESULT →
      ∃ u, Yields (.jtagRegAccess dr) s u ∧
        u.jtag = { s.jtag with ir := 8, result := 2 ^ 37 + (s.peek a.toNat).1.toNat } ∧
        Touches [.jtag] [] [] s u) ∧
  (∀ (dr : BitVec 56) (a : BitVec 18) (w : Word) (s : State), 
      dr = BitVec.ofNat 56 (1 * 2 ^ 50 + a.toNat * 2 ^ 32 + w.toNat) → s.pathOpen 3 = true → s.refusal 3 true a.toNat w ≠ 0 →
      ∃ u, Yields (.jtagRegAccess dr) s u ∧
        u.jtag = { s.jtag with ir := 8, result := 2 ^ 37 + 2 ^ 36 + s.refusal 3 true a.toNat w * 2 ^ 32 } ∧
        bits (u.reg A.DBG_VIOL_LAST_INFO) 4 3 = 3 ∧ bits (u.reg A.DBG_VIOL_LAST_INFO) 0 4 = s.refusal 3 true a.toNat w ∧
        Touches [.jtag] [] [whole A.DBG_VIOL_LAST_ADDR, whole A.DBG_VIOL_LAST_INFO, whole A.DBG_VIOL_FIRST_ADDR, whole A.DBG_VIOL_FIRST_INFO, F.DBG_VIOL_COUNT_COUNT, F.PG_IRQ (a.toNat / 0x400) 0, whole (a.toNat / 0x400 * 0x400 + 0x18), whole (a.toNat / 0x400 * 0x400 + 0x1C)] s u) ∧
  (∀ (dr : BitVec 56) (s : State), 
      s.pathOpen 3 = false →
      ∃ u, Yields (.jtagRegAccess dr) s u ∧
        u.jtag = { s.jtag with ir := 8, result := 2 ^ 37 + 2 ^ 36 + 4 * 2 ^ 32 } ∧
        Touches [.jtag] [] [] s u) ∧
  (∀ (dr : BitVec 56) (a : BitVec 18) (w : Word) (s : State), 
      dr = BitVec.ofNat 56 (0 * 2 ^ 50 + a.toNat * 2 ^ 32 + w.toNat) → s.frozen = true → s.debugOk = true → s.refusal 3 false a.toNat 0 = 0 → s.wipeBars false (placeOf a.toNat) = false → (s.peek a.toNat).2 = false →
      ∃ u, Yields (.jtagSnapshot dr) s u ∧
        u.jtag = { s.jtag with ir := 9, result := 2 ^ 37 + (s.peek a.toNat).1.toNat } ∧
        Touches [.jtag] [] [] s u) ∧
  (∀ (dr : BitVec 56) (a : BitVec 18) (w : Word) (s : State), 
      (dr = BitVec.ofNat 56 (0 * 2 ^ 50 + a.toNat * 2 ^ 32 + w.toNat) ∨ dr = BitVec.ofNat 56 (1 * 2 ^ 50 + a.toNat * 2 ^ 32 + w.toNat)) → (s.pathOpen 3 = false ∨ s.frozen = false) → placeOf a.toNat ≠ .none → s.wipeBars false (placeOf a.toNat) = false →
      ∃ u, Yields (.jtagSnapshot dr) s u ∧
        (s.debugOk = true → s.frozen = false → u.jtag = { s.jtag with ir := 9, result := 2 ^ 37 + 2 ^ 36 + 4 * 2 ^ 32 }) ∧
        (s.debugOk = false → u.jtag = { s.jtag with ir := 9, result := 2 ^ 37 + 2 ^ 36 + 3 * 2 ^ 32 }) ∧
        (s.debugOk = true → s.frozen = true → dr = BitVec.ofNat 56 (1 * 2 ^ 50 + a.toNat * 2 ^ 32 + w.toNat) → u.jtag = { s.jtag with ir := 9, result := 2 ^ 37 + 2 ^ 36 + 2 * 2 ^ 32 }) ∧
        Touches [.jtag] [] [whole A.DBG_VIOL_LAST_ADDR, whole A.DBG_VIOL_LAST_INFO, whole A.DBG_VIOL_FIRST_ADDR, whole A.DBG_VIOL_FIRST_INFO, F.DBG_VIOL_COUNT_COUNT, F.PG_IRQ (a.toNat / 0x400) 0, whole (a.toNat / 0x400 * 0x400 + 0x18), whole (a.toNat / 0x400 * 0x400 + 0x1C)] s u) ∧
  (∀ (dr : BitVec 8) (level : Bool) (us : Nat) (s : State), 
      dr.toNat % 4 = 1 → s.get F.DBG_FREEZE_STATUS_STATE = 0 → s.domState ≤ 2 → s.debugOk = true → s.lcy.trans = false →
      ∃ u, Yields (.jtagFreezeCtl dr level us) s u ∧
        u.get F.DBG_FREEZE_STATUS_STATE = 1 ∧ u.get F.DBG_FREEZE_STATUS_SOURCE = 3 ∧
        u.jtag = { s.jtag with ir := 0xA } ∧
        Touches [.jtag] [] [F.DBG_FREEZE_STATUS_STATE, F.DBG_FREEZE_STATUS_SOURCE] s u) ∧
  (∀ (dr : BitVec 8) (level : Bool) (us : Nat) (s : State), 
      dr.toNat % 4 = 2 → s.frozen = true → level = true →
      ∃ u, Yields (.jtagFreezeCtl dr level us) s u ∧
        u.on F.DBG_FREEZE_STATUS_RESUME_BLOCKED = true ∧ u.on (F.PG_IRQ 0x05 5) = true ∧
        u.jtag = { s.jtag with ir := 0xA } ∧
        Touches [.jtag, .pins] [] [F.DBG_FREEZE_STATUS_RESUME_BLOCKED, F.PG_IRQ 0x05 5] s u) ∧
  (∀ (c d : List Bool) (s : State), 
      ∃ u, Yields (.jtagExtest c d) s u ∧
        u.jtag = { s.jtag with ir := 0, captured := c, driven := d } ∧
        Touches [.jtag] [] [] s u) ∧
  (∀ (c d : List Bool) (s : State), 
      ∃ u, Yields (.jtagSamplePreload c d) s u ∧
        u.jtag = { s.jtag with ir := 1, captured := c, driven := d } ∧
        Touches [.jtag] [] [] s u) ∧
  (∀ (s : State), 
      ∃ u, Yields .jtagTestLogicReset s u ∧
        u.jtag = { s.jtag with ir := 0xF } ∧
        Touches [.jtag] [] [] s u)

/-- Outside a transition, for a word the initiator may write. LCY_CHECK TOKEN and UNLOCK with no check running clear the codes; locked out CHECK is 5, in a wrong state 4, with a blank digest 3, each raised; else the check runs on whether the codes' SHA-256 is the digest. LCY_CHECK_DONE: not BUSY, raised; a match gives CHECK 1 and its permission, no fail; a mismatch CHECK 2, counted, raised, and at the fourth LOCKOUT, raised. LCY_CTRL.GO with key and next state, the unlock where it is needed, in RUN and not BUSY: the transition starts with RESULT 0, running channels and speakers muted as for a quiesce; with a wrong key RESULT 1, from the last state 5, another state 2, without unlock from field states 3; in every refused case RESULT is not 0. LCY_FUSE_DONE: verified, the fuse is blown and the hub restarts with cause 3, its accounting and SRAM cleared; failed, RESULT 6, fault 0x01, OTP as it was, the channels unmuted. OTP PROG: RESULT 4 while one runs, 1 in a closed region, 2 of a word not blank, else BUSY with word and data; OTP READ: 4 or BUSY. OTP_ACCESS_DONE: a program sets the bits with RESULT 0 or 3, a read of the user words gives the word with 0, each raised. SYS_SW_RESET with its key, no rail missing: a start with cause 4, OTP kept, the accounting cleared; without its key nothing but the register's word. Each with its frame but for the restarts. -/
def Obligations.LifeCycle : Prop :=
  (∀ (ini : Fin 5) (w : Word) (s : State), 
      s.mayWrite ini A.LCY_CHECK (w ||| 0x1#32) = true → bits w 1 1 = 0 → s.lcy.check = none → s.lcy.trans = false →
      ∃ u, Yields (.lcyCheckToken ini w) s u ∧
        (∀ k : Nat, k < 4 → u.reg (A.LCY_CODE k) = 0) ∧
        (s.on F.LCY_STATUS_LOCKOUT = true → u.get F.LCY_STATUS_CHECK = 5 ∧ u.lcy = s.lcy ∧ u.on (F.PG_IRQ 0x07 2) = true) ∧
        (s.on F.LCY_STATUS_LOCKOUT = false → s.lcState ≠ 1 → u.get F.LCY_STATUS_CHECK = 4 ∧ u.lcy = s.lcy ∧ u.on (F.PG_IRQ 0x07 2) = true) ∧
        (s.on F.LCY_STATUS_LOCKOUT = false → s.lcState = 1 → blankDigest (s.digest 0x110) = true → u.get F.LCY_STATUS_CHECK = 3 ∧ u.lcy = s.lcy ∧ u.on (F.PG_IRQ 0x07 2) = true) ∧
        (s.on F.LCY_STATUS_LOCKOUT = false → s.lcState = 1 → blankDigest (s.digest 0x110) = false → u.get F.LCY_STATUS_BUSY = 1 ∧ u.lcy = { s.lcy with check := some (false, decide (shaOtp (((List.range 2).map (fun k => s.reg (A.LCY_CODE k))).flatMap (fun c => wordBytes c.toNat)) = s.digest 0x110)) }) ∧
        Touches [.lcy] [] [F.LCY_STATUS_CHECK, F.PG_IRQ 0x07 2, F.LCY_STATUS_BUSY, whole (A.LCY_CODE 0), whole (A.LCY_CODE 1), whole (A.LCY_CODE 2), whole (A.LCY_CODE 3)] s u) ∧
  (∀ (ini : Fin 5) (w : Word) (s : State), 
      s.mayWrite ini A.LCY_CHECK (w ||| 0x2#32) = true → bits w 0 1 = 0 → s.lcy.check = none → s.lcy.trans = false →
      ∃ u, Yields (.lcyCheckUnlock ini w) s u ∧
        (∀ k : Nat, k < 4 → u.reg (A.LCY_CODE k) = 0) ∧
        (s.on F.LCY_STATUS_LOCKOUT = true → u.get F.LCY_STATUS_CHECK = 5 ∧ u.lcy = s.lcy ∧ u.on (F.PG_IRQ 0x07 2) = true) ∧
        (s.on F.LCY_STATUS_LOCKOUT = false → s.lcState < 2 → u.get F.LCY_STATUS_CHECK = 4 ∧ u.lcy = s.lcy ∧ u.on (F.PG_IRQ 0x07 2) = true) ∧
        (s.on F.LCY_STATUS_LOCKOUT = false → 2 ≤ s.lcState → blankDigest (s.digest 0x114) = true → u.get F.LCY_STATUS_CHECK = 3 ∧ u.lcy = s.lcy ∧ u.on (F.PG_IRQ 0x07 2) = true) ∧
        (s.on F.LCY_STATUS_LOCKOUT = false → 2 ≤ s.lcState → blankDigest (s.digest 0x114) = false → u.get F.LCY_STATUS_BUSY = 1 ∧ u.lcy = { s.lcy with check := some (true, decide (shaOtp (((List.range 4).map (fun k => s.reg (A.LCY_CODE k))).flatMap (fun c => wordBytes c.toNat)) = s.digest 0x114)) }) ∧
        Touches [.lcy] [] [F.LCY_STATUS_CHECK, F.PG_IRQ 0x07 2, F.LCY_STATUS_BUSY, whole (A.LCY_CODE 0), whole (A.LCY_CODE 1), whole (A.LCY_CODE 2), whole (A.LCY_CODE 3)] s u) ∧
  (∀ (unlock found : Bool) (s : State), 
      s.clocked .mgmt = true → s.lcy.check = some (unlock, found) →
      ∃ u, Yields .lcyCheckDone s u ∧
        u.lcy = { s.lcy with check := none } ∧
        u.get F.LCY_STATUS_BUSY = 0 ∧ u.on (F.PG_IRQ 0x07 2) = true ∧
        (found = true → u.get F.LCY_STATUS_CHECK = 1 ∧ u.on (if unlock then F.LCY_STATUS_UNLOCKED else F.LCY_STATE_DBG_EN) = true ∧ u.get F.LCY_STATUS_FAILS = s.get F.LCY_STATUS_FAILS) ∧
        (found = false → u.get F.LCY_STATUS_CHECK = 2 ∧ u.get F.LCY_STATUS_FAILS = min (s.get F.LCY_STATUS_FAILS + 1) 255 ∧ u.on (F.PG_IRQ 0x07 3) = true) ∧
        (found = false → s.get F.LCY_STATUS_FAILS = 3 → u.on F.LCY_STATUS_LOCKOUT = true ∧ u.on (F.PG_IRQ 0x07 4) = true) ∧
        (found = true → unlock = true → u.on F.LCY_STATE_DBG_EN = s.on F.LCY_STATE_DBG_EN) ∧
        Touches [.lcy] [] [F.LCY_STATUS_BUSY, F.LCY_STATUS_CHECK, F.LCY_STATUS_UNLOCKED, F.LCY_STATE_DBG_EN, F.LCY_STATUS_FAILS, F.LCY_STATUS_LOCKOUT, F.PG_IRQ 0x07 2, F.PG_IRQ 0x07 3, F.PG_IRQ 0x07 4] s u) ∧
  (∀ (ini : Fin 5) (w : Word) (s : State), 
      s.mayWrite ini A.LCY_CTRL (w ||| 0x1#32) = true → bits w 16 16 = 0x4C43 → (s.lcFuses = 1 ∨ s.lcFuses = 4 ∨ ((s.lcFuses = 2 ∨ s.lcFuses = 3 ∨ s.lcFuses = 5) ∧ s.on F.LCY_STATUS_UNLOCKED = true)) → bits w 2 2 = lcCode (s.lcFuses + 1) → s.domState = 0 → s.pwrBusy = false → s.lcy.trans = false → s.lcy.check = none →
      ∃ u, Yields (.lcyTransition ini w) s u ∧
        u.lcy = { s.lcy with trans := true } ∧
        u.get F.LCY_STATUS_BUSY = 1 ∧ u.get F.LCY_STATUS_RESULT = 0 ∧
        (∀ c : Nat, c < 8 → (s.aoutAt c).phase = .running → (u.aoutAt c).phase = .quiesced) ∧
        (∀ n : Nat, n < 4 → (s.spkAt n).phase = .running → (u.spkAt n).phase = .quiesced) ∧
        Touches (audioParts ++ ([.lcy, .jobs, .otp] : List Part)) (audioPages ++ [0x06]) [F.LCY_STATUS_BUSY, F.LCY_STATUS_RESULT, whole A.LCY_CTRL] s u) ∧
  (∀ (ini : Fin 5) (w : Word) (s : State), 
      s.mayWrite ini A.LCY_CTRL (w ||| 0x1#32) = true → (bits w 16 16 ≠ 0x4C43 ∨ 6 ≤ s.lcFuses ∨ bits w 2 2 ≠ lcCode (s.lcFuses + 1) ∨ ((s.lcFuses = 2 ∨ s.lcFuses = 3 ∨ s.lcFuses = 5) ∧ s.on F.LCY_STATUS_UNLOCKED = false) ∨ (s.lcFuses = 0 ∧ blankDigest (s.digest 0x114) = true) ∨ s.domState ≠ 0 ∨ s.pwrBusy = true) →
      ∃ u, Yields (.lcyTransition ini w) s u ∧
        (bits w 16 16 ≠ 0x4C43 → u.get F.LCY_STATUS_RESULT = 1) ∧
        (bits w 16 16 = 0x4C43 → 6 ≤ s.lcFuses → u.get F.LCY_STATUS_RESULT = 5) ∧
        (bits w 16 16 = 0x4C43 → s.lcFuses < 6 → bits w 2 2 ≠ lcCode (s.lcFuses + 1) → u.get F.LCY_STATUS_RESULT = 2) ∧
        (bits w 16 16 = 0x4C43 → bits w 2 2 = lcCode (s.lcFuses + 1) → s.lcFuses = 2 → s.on F.LCY_STATUS_UNLOCKED = false → u.get F.LCY_STATUS_RESULT = 3) ∧
        u.get F.LCY_STATUS_RESULT ≠ 0 ∧
        Touches [] [] [F.LCY_STATUS_RESULT, whole A.LCY_CTRL] s u) ∧
  (∀ (verified : Bool) (s : State), 
      s.lcy.trans = true → s.mgmtRuns = true → verified = true → s.boot ≠ .held →
      ∃ u, Yields (.lcyFuseDone verified) s u ∧
        u.boot = .start 3 ∧ u.domState = 6 ∧
        u.otp = store s.otp 0x118 (lookup s.otp 0x118 0 ||| BitVec.ofNat 32 (2 ^ s.lcFuses)) 0 ∧
        u.lcy.trans = false ∧
        (∀ k : Nat, k < 6 → u.reg (aonRegs.getD k 0) = 0) ∧
        u.sram = []) ∧
  (∀ (verified : Bool) (s : State), 
      s.lcy.trans = true → s.mgmtRuns = true → verified = false →
      ∃ u, Yields (.lcyFuseDone verified) s u ∧
        u.lcy = { s.lcy with trans := false } ∧
        u.get F.LCY_STATUS_RESULT = 6 ∧ u.get F.LCY_STATUS_BUSY = 0 ∧ u.get (F.PG_FAULT 0x07) = 1 ∧
        u.otp = s.otp ∧
        (∀ c : Nat, c < 8 → (u.aoutAt c).phase ≠ .quiesced) ∧
        (∀ n : Nat, n < 4 → (u.spkAt n).phase ≠ .quiesced) ∧
        Touches (audioParts ++ ([.lcy] : List Part)) audioPages [F.LCY_STATUS_RESULT, F.LCY_STATUS_BUSY, F.PG_FAULT 0x07, F.PG_IRQ 0x07 1] s u) ∧
  (∀ (ini : Fin 5) (w : Word) (s : State), 
      s.mayWrite ini A.LCY_OTP_CTRL (w ||| 0x2#32) = true → bits w 0 1 = 0 →
      ∃ u, Yields (.lcyOtpProg ini w) s u ∧
        (s.lcy.op.isSome = true → u.get F.LCY_OTP_STATUS_RESULT = 4 ∧ u.lcy = s.lcy) ∧
        (s.lcy.op = none → s.otpOpen (s.get F.LCY_OTP_ADDR_WORD) = false → u.get F.LCY_OTP_STATUS_RESULT = 1 ∧ u.lcy = s.lcy ∧ u.on (F.PG_IRQ 0x07 5) = true) ∧
        (s.lcy.op = none → s.otpOpen (s.get F.LCY_OTP_ADDR_WORD) = true → s.otpWord (s.get F.LCY_OTP_ADDR_WORD) ≠ 0 → u.get F.LCY_OTP_STATUS_RESULT = 2 ∧ u.lcy = s.lcy) ∧
        (s.lcy.op = none → s.otpOpen (s.get F.LCY_OTP_ADDR_WORD) = true → s.otpWord (s.get F.LCY_OTP_ADDR_WORD) = 0 → u.get F.LCY_OTP_STATUS_BUSY = 1 ∧ u.lcy = { s.lcy with op := some ⟨true, s.get F.LCY_OTP_ADDR_WORD, s.reg A.LCY_OTP_DATA⟩ }) ∧
        Touches [.lcy] [] [whole A.LCY_OTP_STATUS, F.PG_IRQ 0x07 5] s u) ∧
  (∀ (ini : Fin 5) (w : Word) (s : State), 
      s.mayWrite ini A.LCY_OTP_CTRL (w ||| 0x1#32) = true → bits w 1 1 = 0 →
      ∃ u, Yields (.lcyOtpRead ini w) s u ∧
        (s.lcy.op.isSome = true → u.get F.LCY_OTP_STATUS_RESULT = 4 ∧ u.lcy = s.lcy) ∧
        (s.lcy.op = none → u.get F.LCY_OTP_STATUS_BUSY = 1 ∧ u.lcy = { s.lcy with op := some ⟨false, s.get F.LCY_OTP_ADDR_WORD, s.reg A.LCY_OTP_DATA⟩ }) ∧
        Touches [.lcy] [] [whole A.LCY_OTP_STATUS] s u) ∧
  (∀ (verified : Bool) (k : Nat) (x : Word) (s : State), 
      s.clocked .mgmt = true → s.lcy.op = some ⟨true, k, x⟩ →
      ∃ u, Yields (.otpAccessDone verified) s u ∧
        u.lcy = { s.lcy with op := none } ∧
        u.otp = store s.otp k (lookup s.otp k 0 ||| x) 0 ∧
        (u.get F.LCY_OTP_STATUS_BUSY = 0 ∧ u.get F.LCY_OTP_STATUS_RESULT = (if verified then 0 else 3) ∧ u.on (F.PG_IRQ 0x07 5) = true) ∧
        Touches [.lcy, .otp] [] [whole A.LCY_OTP_STATUS, F.PG_IRQ 0x07 5] s u) ∧
  (∀ (verified : Bool) (k : Nat) (x : Word) (s : State), 
      s.clocked .mgmt = true → s.lcy.op = some ⟨false, k, x⟩ →
      ∃ u, Yields (.otpAccessDone verified) s u ∧
        u.lcy = { s.lcy with op := none } ∧
        (256 ≤ k → u.reg A.LCY_OTP_DATA = lookup s.otp k 0) ∧
        u.get F.LCY_OTP_STATUS_BUSY = 0 ∧ u.get F.LCY_OTP_STATUS_RESULT = 0 ∧ u.on (F.PG_IRQ 0x07 5) = true ∧
        Touches [.lcy] [] [whole A.LCY_OTP_STATUS, whole A.LCY_OTP_DATA, F.PG_IRQ 0x07 5] s u) ∧
  (∀ (ini : Fin 5) (w : Word) (s : State), 
      s.mayWrite ini A.SYS_SW_RESET (w ||| 0x1#32) = true → bits w 16 16 = 0x5253 → s.boot ≠ .held →
      ∃ u, Yields (.sysSwReset ini w) s u ∧
        u.boot = .start 4 ∧ u.domState = 6 ∧
        u.otp = s.otp ∧
        (∀ k : Nat, k < 6 → u.reg (aonRegs.getD k 0) = 0)) ∧
  (∀ (ini : Fin 5) (w : Word) (s : State), 
      s.mayWrite ini A.SYS_SW_RESET (w ||| 0x1#32) = true → bits w 16 16 ≠ 0x5253 →
      ∃ u, Yields (.sysSwReset ini w) s u ∧
        Touches [] [] [whole A.SYS_SW_RESET] s u)

/-- Outside a freeze. FLASH_BOOT: STAGED from slot A, and with BOOT_SEL level 3 slot B, STATE 1 and SOURCE 1 shown; with one slot the stage holds its words. USB_IMAGE_BULK in RECEIVE, bulk packets served: the bytes up to the announced length are stored after those received, which stay; complete, the image is STAGED. USB_IMAGE_TIMEOUT of a USB reception: the load ends with ERROR 10. IMAGE_CHECK of a USB image of 24 to 262,144 bytes ends with ERROR 2, 3, 4, 5 or 6 (with its offset) at the first failing check of MAGIC, VERSION, LENGTH, CRC and record format; with none the records run. IMAGE_CHECK of flash slots: if one passes its records run and no phase is reported; slot A's where B fails or its SEQ is not above A's, else B's, with its words in the stage; if none passes the load ends with slot A's ERROR and offset, and USB is enabled when a VID is set, not else. Each with its frame. -/
def Obligations.ImageLoad : Prop :=
  (∀ (a b : List Word) (s : State), 
      s.ldr.st = .flash → s.frozen = false →
      ∃ u, Yields (.flashBoot a b) s u ∧
        u.ldr.st = .staged ∧ u.ldr.source = 1 ∧ u.ldr.pos = 16 ∧
        (u.ldr.slots = if s.get F.SYS_STRAP_BOOT_LVL = 3 then [(1, a), (2, b)] else [(1, a)]) ∧
        u.reg A.SYS_SCRATCH = 0x11000000#32 ∧ u.ldr.result = 0x11000000#32 ∧
        (s.get F.SYS_STRAP_BOOT_LVL ≠ 3 → ∀ k : Nat, k < a.length → k < 65536 → u.stageWord k = a.getD k 0) ∧
        Touches [.sram, .poison, .ldr] [] [whole A.SYS_SCRATCH] s u) ∧
  (∀ (bytes : List Nat) (s : State), 
      s.clocked .usb = true → s.usbBulk = true → s.frozen = false → s.ldr.st = .receive → s.ldr.length ≤ 262144 → (∀ k : Nat, k < bytes.length → bytes.getD k 0 < 256) →
      ∃ u, Yields (.usbImageBulk bytes) s u ∧
        u.ldr.got = s.ldr.got + min bytes.length (s.ldr.length - s.ldr.got) ∧
        (u.ldr.st = if s.ldr.length ≤ u.ldr.got then .staged else .receive) ∧
        (∀ k : Nat, k < u.ldr.got - s.ldr.got → u.sramByte 26 (s.ldr.got + k) = bytes.getD k 0) ∧
        (∀ k : Nat, k < 64 → k < s.ldr.got → u.sramByte 26 k = s.sramByte 26 k) ∧
        Touches [.sram, .poison, .ldr] [] [] s u) ∧
  (∀ (s : State), 
      s.ldr.st = .receive → s.frozen = false → s.ldr.source = 3 →
      ∃ u, Yields .usbImageTimeout s u ∧
        u.ldr.st = .idle ∧ u.ldr.result = resultWord 3 (3) (10) (0) ∧ u.reg A.SYS_SCRATCH = resultWord 3 (3) (10) (0) ∧ u.ldr.offset = 0 ∧ u.usb.imgRx = false ∧
        Touches [.ldr, .usb] [] [whole A.SYS_SCRATCH] s u) ∧
  (∀ (s : State), 
      s.ldr.st = .staged → s.frozen = false → s.ldr.source = 3 → 24 ≤ s.ldr.length → s.ldr.length ≤ 262144 →
      ∃ u, Yields .imageCheck s u ∧
        (s.stageWord 0 ≠ 0x4D4C4A48#32 → u.ldr.st = .idle ∧ u.ldr.result = resultWord 3 (3) (2) (0) ∧ u.reg A.SYS_SCRATCH = resultWord 3 (3) (2) (0) ∧ u.ldr.offset = 0 ∧ u.usb.imgRx = false) ∧
        (s.stageWord 0 = 0x4D4C4A48#32 → s.stageWord 1 ≠ 1#32 → u.ldr.st = .idle ∧ u.ldr.result = resultWord 3 (3) (3) (0) ∧ u.reg A.SYS_SCRATCH = resultWord 3 (3) (3) (0) ∧ u.ldr.offset = 0 ∧ u.usb.imgRx = false) ∧
        (s.stageWord 0 = 0x4D4C4A48#32 → s.stageWord 1 = 1#32 → (s.stageWord 2).toNat ≠ s.ldr.length ∨ s.ldr.length % 4 ≠ 0 → u.ldr.st = .idle ∧ u.ldr.result = resultWord 3 (3) (4) (0) ∧ u.reg A.SYS_SCRATCH = resultWord 3 (3) (4) (0) ∧ u.ldr.offset = 0 ∧ u.usb.imgRx = false) ∧
        (s.stageWord 0 = 0x4D4C4A48#32 → s.stageWord 1 = 1#32 → (s.stageWord 2).toNat = s.ldr.length ∧ s.ldr.length % 4 = 0 → ¬ crc32 ((((List.range (s.ldr.length / 4)).map s.stageWord).take (s.ldr.length / 4 - 1)).flatMap (fun x => wordBytes x.toNat)) = (s.stageWord (s.ldr.length / 4 - 1)).toNat → u.ldr.st = .idle ∧ u.ldr.result = resultWord 3 (3) (5) (0) ∧ u.reg A.SYS_SCRATCH = resultWord 3 (3) (5) (0) ∧ u.ldr.offset = 0 ∧ u.usb.imgRx = false) ∧
        (s.stageWord 0 = 0x4D4C4A48#32 → s.stageWord 1 = 1#32 → (s.stageWord 2).toNat = s.ldr.length ∧ s.ldr.length % 4 = 0 → crc32 ((((List.range (s.ldr.length / 4)).map s.stageWord).take (s.ldr.length / 4 - 1)).flatMap (fun x => wordBytes x.toNat)) = (s.stageWord (s.ldr.length / 4 - 1)).toNat → (formatError (s.ldr.length / 4) 4 ((((List.range (s.ldr.length / 4)).map s.stageWord).take (s.ldr.length / 4 - 1)).drop 4)).isSome = true → u.ldr.st = .idle ∧ u.ldr.result = resultWord 3 (3) (6) (0) ∧ u.reg A.SYS_SCRATCH = resultWord 3 (3) (6) (0) ∧ u.ldr.offset = 4 * (formatError (s.ldr.length / 4) 4 ((((List.range (s.ldr.length / 4)).map s.stageWord).take (s.ldr.length / 4 - 1)).drop 4)).getD 0 ∧ u.usb.imgRx = false) ∧
        (s.stageWord 0 = 0x4D4C4A48#32 → s.stageWord 1 = 1#32 → (s.stageWord 2).toNat = s.ldr.length ∧ s.ldr.length % 4 = 0 → crc32 ((((List.range (s.ldr.length / 4)).map s.stageWord).take (s.ldr.length / 4 - 1)).flatMap (fun x => wordBytes x.toNat)) = (s.stageWord (s.ldr.length / 4 - 1)).toNat → formatError (s.ldr.length / 4) 4 ((((List.range (s.ldr.length / 4)).map s.stageWord).take (s.ldr.length / 4 - 1)).drop 4) = none → u.ldr = { s.ldr with st := .run } ∧ u.usb.imgRx = false ∧ u.reg A.SYS_SCRATCH = s.reg A.SYS_SCRATCH) ∧
        Touches [.ldr, .usb] [] [whole A.SYS_SCRATCH] s u) ∧
  (∀ (a b : List Word) (sa sb : Nat) (s : State), 
      s.ldr.st = .staged → s.frozen = false → s.ldr.source = 1 → (s.ldr.slots = [(1, a)] ∨ s.ldr.slots = [(1, a), (2, b)]) → sa = (imageCheck a none).1 → sb = (if s.ldr.slots = [(1, a)] then 1 else (imageCheck b none).1) →
      ∃ u, Yields .imageCheck s u ∧
        (sa = 0 ∨ sb = 0 → u.ldr.st = .run ∧ u.ldr.slots = [] ∧ u.ldr.pos = s.ldr.pos ∧ u.reg A.SYS_SCRATCH = s.reg A.SYS_SCRATCH ∧ u.get (F.PG_ENABLE 0x0A) = s.get (F.PG_ENABLE 0x0A)) ∧
        (sa = 0 → sb ≠ 0 ∨ (b.getD 3 0).toNat ≤ (a.getD 3 0).toNat → u.ldr.source = 1 ∧ ∀ k : Nat, k < a.length → k < (a.getD 2 0).toNat / 4 → u.stageWord k = a.getD k 0) ∧
        (sb = 0 → sa ≠ 0 ∨ (a.getD 3 0).toNat < (b.getD 3 0).toNat → u.ldr.source = 2 ∧ ∀ k : Nat, k < b.length → k < (b.getD 2 0).toNat / 4 → u.stageWord k = b.getD k 0) ∧
        (sa ≠ 0 → sb ≠ 0 → u.ldr.st = .idle ∧ u.ldr.result = resultWord 3 (1) (sa) (0) ∧ u.reg A.SYS_SCRATCH = resultWord 3 (1) (sa) (0) ∧ u.ldr.offset = (imageCheck a none).2 ∧ u.usb.imgRx = false) ∧
        (sa ≠ 0 → sb ≠ 0 → s.get F.USB_ID_VID ≠ 0 → u.get (F.PG_ENABLE 0x0A) = 1) ∧
        (s.get F.USB_ID_VID = 0 → u.get (F.PG_ENABLE 0x0A) = s.get (F.PG_ENABLE 0x0A)) ∧
        Touches (([.sram, .poison] : List Part) ++ ([.usb, .lanes, .lst, .trk, .ldr] : List Part)) (0x0A :: (List.range 48).map (· + 0x30)) (whole A.SYS_SCRATCH :: lstStatusFlds ++ trkFlds 0) s u)

/-- With the path open to initiator 2. A WRITE of one or two words, or an RMW, of held registers it may write: they hold the words by their access types and the next record follows; a refused word (USB load, or no VID) ends the load with ERROR 7, its code and the record's offset, logged with initiator 2. WAIT polls; a poll neither refused nor poisoned, not of SNS_RESULT, that matches goes to the next record; one that does not counts 10 us, or past TIMEOUT ends the load with ERROR 8; a refused poll ends it with ERROR 7. DELAY waits, and its end goes to the next record. COMMIT of the crosspoint sets BUSY, HELD as the engine stands; of Fife makes every pending gain its target; of no lane goes on at once; of one running lane takes its coefficients at the frame; each then waits. Its wait: done, the next record; not done at the bound, or a lane in error, ERROR 9 with DETAIL the target; not done before the bound, it waits on. END: STATE 2 in RESULT and SYS_SCRATCH, the offset is LENGTH, no image over USB. Each with its frame. -/
def Obligations.ImageRecords : Prop :=
  (∀ (s : State), 
      s.pathOpen 2 = true → s.ldr.st = .run → s.recordWord 0 = 0x00010001#32 → heldReg (s.recordWord 1).toNat = true → s.mayWrite 2 (s.recordWord 1).toNat (s.recordWord 2) = true →
      ∃ u, Yields .imgWrite s u ∧
        u.reg (s.recordWord 1).toNat = s.taken (s.recordWord 1).toNat (s.recordWord 2) ∧
        u.ldr = { s.ldr with st := .run, pos := s.ldr.pos + 12, waited := 0, lanes := [] } ∧
        Touches [.ldr] [] [whole (s.recordWord 1).toNat] s u) ∧
  (∀ (s : State), 
      s.pathOpen 2 = true → s.ldr.st = .run → s.recordWord 0 = 0x00020001#32 → heldReg (s.recordWord 1).toNat = true → heldReg ((s.recordWord 1).toNat + 4) = true → s.mayWrite 2 (s.recordWord 1).toNat (s.recordWord 2) = true → s.mayWrite 2 ((s.recordWord 1).toNat + 4) (s.recordWord 3) = true →
      ∃ u, Yields .imgWrite s u ∧
        u.reg (s.recordWord 1).toNat = s.taken (s.recordWord 1).toNat (s.recordWord 2) ∧
        u.reg ((s.recordWord 1).toNat + 4) = s.taken ((s.recordWord 1).toNat + 4) (s.recordWord 3) ∧
        u.ldr = { s.ldr with st := .run, pos := s.ldr.pos + 16, waited := 0, lanes := [] } ∧
        Touches [.ldr] [] [whole (s.recordWord 1).toNat, whole ((s.recordWord 1).toNat + 4)] s u) ∧
  (∀ (s : State), 
      s.pathOpen 2 = true → s.ldr.st = .run → s.recordWord 0 = 0x00010001#32 → s.refusal 2 true (s.recordWord 1).toNat (s.recordWord 2) ≠ 0 → (s.ldr.source = 3 ∨ s.get F.USB_ID_VID = 0) →
      ∃ u, Yields .imgWrite s u ∧
        u.ldr.st = .idle ∧ u.ldr.result = resultWord 3 (s.ldr.source) (7) (s.refusal 2 true (s.recordWord 1).toNat (s.recordWord 2)) ∧ u.reg A.SYS_SCRATCH = resultWord 3 (s.ldr.source) (7) (s.refusal 2 true (s.recordWord 1).toNat (s.recordWord 2)) ∧ u.ldr.offset = s.ldr.pos ∧ u.usb.imgRx = false ∧
        bits (u.reg A.DBG_VIOL_LAST_INFO) 0 4 = s.refusal 2 true (s.recordWord 1).toNat (s.recordWord 2) ∧ bits (u.reg A.DBG_VIOL_LAST_INFO) 4 3 = 2 ∧
        Touches [.ldr, .usb] [] [whole A.DBG_VIOL_LAST_ADDR, whole A.DBG_VIOL_LAST_INFO, whole A.DBG_VIOL_FIRST_ADDR, whole A.DBG_VIOL_FIRST_INFO, F.DBG_VIOL_COUNT_COUNT, F.PG_IRQ ((s.recordWord 1).toNat / 0x400) 0, whole ((s.recordWord 1).toNat / 0x400 * 0x400 + 0x18), whole ((s.recordWord 1).toNat / 0x400 * 0x400 + 0x1C), whole A.SYS_SCRATCH] s u) ∧
  (∀ (s : State), 
      s.pathOpen 2 = true → s.ldr.st = .run → s.recordWord 0 = 2#32 → s.recordWord 2 ≠ 0#32 → heldReg (s.recordWord 1).toNat = true → s.mayWrite 2 (s.recordWord 1).toNat (s.rmwWord (s.recordWord 1).toNat (s.recordWord 2) (s.recordWord 3)) = true →
      ∃ u, Yields .imgRmw s u ∧
        u.reg (s.recordWord 1).toNat = s.taken (s.recordWord 1).toNat (s.rmwWord (s.recordWord 1).toNat (s.recordWord 2) (s.recordWord 3)) ∧
        u.ldr = { s.ldr with st := .run, pos := s.ldr.pos + 16, waited := 0, lanes := [] } ∧
        Touches [.ldr] [] [whole (s.recordWord 1).toNat] s u) ∧
  (∀ (s : State), 
      s.pathOpen 2 = true → s.ldr.st = .run → s.recordWord 0 = 2#32 → s.recordWord 2 ≠ 0#32 → (s.ldr.source = 3 ∨ s.get F.USB_ID_VID = 0) → s.refusal 2 true (s.recordWord 1).toNat (s.rmwWord (s.recordWord 1).toNat (s.recordWord 2) (s.recordWord 3)) ≠ 0 →
      ∃ u, Yields .imgRmw s u ∧
        u.ldr.st = .idle ∧ u.ldr.result = resultWord 3 (s.ldr.source) (7) (s.refusal 2 true (s.recordWord 1).toNat (s.rmwWord (s.recordWord 1).toNat (s.recordWord 2) (s.recordWord 3))) ∧ u.reg A.SYS_SCRATCH = resultWord 3 (s.ldr.source) (7) (s.refusal 2 true (s.recordWord 1).toNat (s.rmwWord (s.recordWord 1).toNat (s.recordWord 2) (s.recordWord 3))) ∧ u.ldr.offset = s.ldr.pos ∧ u.usb.imgRx = false ∧
        Touches [.ldr, .usb] [] [whole A.DBG_VIOL_LAST_ADDR, whole A.DBG_VIOL_LAST_INFO, whole A.DBG_VIOL_FIRST_ADDR, whole A.DBG_VIOL_FIRST_INFO, F.DBG_VIOL_COUNT_COUNT, F.PG_IRQ ((s.recordWord 1).toNat / 0x400) 0, whole ((s.recordWord 1).toNat / 0x400 * 0x400 + 0x18), whole ((s.recordWord 1).toNat / 0x400 * 0x400 + 0x1C), whole A.SYS_SCRATCH] s u) ∧
  (∀ (s : State), 
      s.pathOpen 2 = true → s.ldr.st = .run → bits (s.recordWord 0) 0 8 = 3 →
      ∃ u, Yields .imgWait s u ∧
        u.ldr = { s.ldr with st := .poll, waited := 0 } ∧
        Touches [.ldr] [] [] s u) ∧
  (∀ (s : State), 
      s.pathOpen 2 = true → s.ldr.st = .poll → s.recordWord 0 = 3#32 → s.refusal 2 false (s.recordWord 1).toNat 0 = 0 → (s.peek (s.recordWord 1).toNat).2 = false → (s.recordWord 1).toNat ≠ A.SNS_RESULT → (s.ldr.source = 3 ∨ s.get F.USB_ID_VID = 0) →
      ∃ u, Yields .imgWaitPoll s u ∧
        ((s.peek (s.recordWord 1).toNat).1 &&& s.recordWord 2 = s.recordWord 3 → u.ldr = { s.ldr with st := .run, pos := s.ldr.pos + 20, waited := 0, lanes := [] } ∧ u.reg A.SYS_SCRATCH = s.reg A.SYS_SCRATCH) ∧
        ((s.peek (s.recordWord 1).toNat).1 &&& s.recordWord 2 ≠ s.recordWord 3 → (s.recordWord 4).toNat ≤ s.ldr.waited → u.ldr.st = .idle ∧ u.ldr.result = resultWord 3 (s.ldr.source) (8) (0) ∧ u.reg A.SYS_SCRATCH = resultWord 3 (s.ldr.source) (8) (0) ∧ u.ldr.offset = s.ldr.pos ∧ u.usb.imgRx = false) ∧
        ((s.peek (s.recordWord 1).toNat).1 &&& s.recordWord 2 ≠ s.recordWord 3 → s.ldr.waited < (s.recordWord 4).toNat → u.ldr = { s.ldr with waited := s.ldr.waited + 10 } ∧ u.reg A.SYS_SCRATCH = s.reg A.SYS_SCRATCH) ∧
        Touches [.ldr, .usb] [] [whole A.SYS_SCRATCH] s u) ∧
  (∀ (s : State), 
      s.pathOpen 2 = true → s.ldr.st = .poll → s.recordWord 0 = 3#32 → s.refusal 2 false (s.recordWord 1).toNat 0 ≠ 0 → (s.ldr.source = 3 ∨ s.get F.USB_ID_VID = 0) →
      ∃ u, Yields .imgWaitPoll s u ∧
        u.ldr.st = .idle ∧ u.ldr.result = resultWord 3 (s.ldr.source) (7) (s.refusal 2 false (s.recordWord 1).toNat 0) ∧ u.reg A.SYS_SCRATCH = resultWord 3 (s.ldr.source) (7) (s.refusal 2 false (s.recordWord 1).toNat 0) ∧ u.ldr.offset = s.ldr.pos ∧ u.usb.imgRx = false ∧
        Touches [.ldr, .usb] [] [whole A.DBG_VIOL_LAST_ADDR, whole A.DBG_VIOL_LAST_INFO, whole A.DBG_VIOL_FIRST_ADDR, whole A.DBG_VIOL_FIRST_INFO, F.DBG_VIOL_COUNT_COUNT, F.PG_IRQ ((s.recordWord 1).toNat / 0x400) 0, whole ((s.recordWord 1).toNat / 0x400 * 0x400 + 0x18), whole ((s.recordWord 1).toNat / 0x400 * 0x400 + 0x1C), whole A.SYS_SCRATCH] s u) ∧
  (∀ (s : State), 
      s.pathOpen 2 = true → s.ldr.st = .run → bits (s.recordWord 0) 0 8 = 4 →
      ∃ u, Yields .imgDelay s u ∧
        u.ldr = { s.ldr with st := .delay } ∧
        Touches [.ldr] [] [] s u) ∧
  (∀ (s : State), 
      s.pathOpen 2 = true → s.ldr.st = .delay → s.recordWord 0 = 4#32 →
      ∃ u, Yields .imgDelayExpire s u ∧
        u.ldr = { s.ldr with st := .run, pos := s.ldr.pos + 8, waited := 0, lanes := [] } ∧
        Touches [.ldr] [] [] s u) ∧
  (∀ (s : State), 
      s.pathOpen 2 = true → s.ldr.st = .run → bits (s.recordWord 0) 0 8 = 5 → s.recordWord 1 = 0#32 → s.mayWrite 2 A.CHN_CTRL (s.reg A.CHN_CTRL ||| 1#32) = true → s.get F.CHN_CTRL_REVERT = 0 → s.get F.CHN_CTRL_CLR_COUNTS = 0 →
      ∃ u, Yields .imgCommit s u ∧
        u.ldr = { s.ldr with st := .commit, lanes := s.commitLanes } ∧
        u.on F.CHN_STATUS_BUSY = true ∧ u.on F.CHN_STATUS_HELD = !s.engRuns ∧
        Touches [.ldr] [] [F.CHN_STATUS_BUSY, F.CHN_STATUS_HELD, F.CHN_STATUS_CAP_WAIT, F.PG_IRQ 0x0F 7] s u) ∧
  (∀ (s : State), 
      s.pathOpen 2 = true → s.ldr.st = .run → bits (s.recordWord 0) 0 8 = 5 → s.recordWord 1 = 1#32 → s.mayWrite 2 A.FIF_CTRL (s.reg A.FIF_CTRL ||| 1#32) = true →
      ∃ u, Yields .imgCommit s u ∧
        u.ldr = { s.ldr with st := .commit, lanes := s.commitLanes } ∧
        (∀ c : Nat, c < 8 → ∀ n : Nat, n < 16 → u.fifGoal c n = s.get (F.FIF_GAIN_G (4 * c + n / 4) (n % 4))) ∧
        Touches [.ldr, .fifTarget] [] [whole A.FIF_STATUS, whole A.FIF_SRC_LIVE, F.PG_IRQ 0x0E 2, F.PG_IRQ 0x0E 3] s u) ∧
  (∀ (s : State), 
      s.pathOpen 2 = true → s.ldr.st = .run → s.recordWord 0 = 5#32 → s.recordWord 1 = 2#32 → s.commitLanes = [] →
      ∃ u, Yields .imgCommit s u ∧
        u.ldr = { s.ldr with st := .run, pos := s.ldr.pos + 16, waited := 0, lanes := [] } ∧
        Touches [.ldr] [] [] s u) ∧
  (∀ (n : Fin 48) (s : State), 
      s.pathOpen 2 = true → s.ldr.st = .run → s.recordWord 0 = 5#32 → s.recordWord 1 = 2#32 → s.commitLanes = [n.val] → s.mayWrite 2 (A.LANE_COEF_CTRL n) (s.reg (A.LANE_COEF_CTRL n) ||| 1#32) = true → (s.laneAt n).phase = .running → s.engRuns = true → (s.laneAt n).commit = .idle → (s.laneAt n).eff.coef = s.reg (A.LANE_COEF_CTRL n) &&& 4#32 →
      ∃ u, Yields .imgCommit s u ∧
        u.ldr = { s.ldr with st := .commit, lanes := [n.val] } ∧
        (u.laneAt n).commit = .atFrame ∧ u.on (F.LANE_COEF_STATUS_BUSY n) = true ∧
        Touches [.ldr, .lanes] [] (laneStatusFlds n) s u) ∧
  (∀ (timeout : Bool) (s : State), 
      s.pathOpen 2 = true → s.ldr.st = .commit → s.recordWord 0 = 5#32 → (s.recordWord 1 = 0#32 ∨ s.recordWord 1 = 1#32) → (s.ldr.source = 3 ∨ s.get F.USB_ID_VID = 0) →
      ∃ u, Yields (.imgCommitComplete timeout) s u ∧
        ((if s.recordWord 1 = 0#32 then s.on F.CHN_STATUS_BUSY else s.on F.FIF_STATUS_RAMPING) = false → u.ldr = { s.ldr with st := .run, pos := s.ldr.pos + 16, waited := 0, lanes := [] } ∧ u.reg A.SYS_SCRATCH = s.reg A.SYS_SCRATCH) ∧
        ((if s.recordWord 1 = 0#32 then s.on F.CHN_STATUS_BUSY else s.on F.FIF_STATUS_RAMPING) = true → timeout = true → u.ldr.st = .idle ∧ u.ldr.result = resultWord 3 (s.ldr.source) (9) ((s.recordWord 1).toNat) ∧ u.reg A.SYS_SCRATCH = resultWord 3 (s.ldr.source) (9) ((s.recordWord 1).toNat) ∧ u.ldr.offset = s.ldr.pos ∧ u.usb.imgRx = false) ∧
        ((if s.recordWord 1 = 0#32 then s.on F.CHN_STATUS_BUSY else s.on F.FIF_STATUS_RAMPING) = true → timeout = false → u.ldr = s.ldr ∧ u.usb = s.usb ∧ u.reg A.SYS_SCRATCH = s.reg A.SYS_SCRATCH) ∧
        Touches [.ldr, .usb] [] [whole A.SYS_SCRATCH] s u) ∧
  (∀ (timeout : Bool) (n : Fin 48) (s : State), 
      s.pathOpen 2 = true → s.ldr.st = .commit → s.recordWord 0 = 5#32 → s.recordWord 1 = 2#32 → s.ldr.lanes = [n.val] → (s.ldr.source = 3 ∨ s.get F.USB_ID_VID = 0) →
      ∃ u, Yields (.imgCommitComplete timeout) s u ∧
        (s.on (F.LANE_COEF_STATUS_ERR n) = false → s.on (F.LANE_COEF_STATUS_BUSY n) = false → u.ldr = { s.ldr with st := .run, pos := s.ldr.pos + 16, waited := 0, lanes := [] } ∧ u.reg A.SYS_SCRATCH = s.reg A.SYS_SCRATCH) ∧
        (s.on (F.LANE_COEF_STATUS_ERR n) = true ∨ (s.on (F.LANE_COEF_STATUS_BUSY n) = true ∧ timeout = true) → u.ldr.st = .idle ∧ u.ldr.result = resultWord 3 (s.ldr.source) (9) (2) ∧ u.reg A.SYS_SCRATCH = resultWord 3 (s.ldr.source) (9) (2) ∧ u.ldr.offset = s.ldr.pos ∧ u.usb.imgRx = false) ∧
        (s.on (F.LANE_COEF_STATUS_ERR n) = false → s.on (F.LANE_COEF_STATUS_BUSY n) = true → timeout = false → u.ldr = s.ldr ∧ u.usb = s.usb) ∧
        Touches [.ldr, .usb] [] [whole A.SYS_SCRATCH] s u) ∧
  (∀ (s : State), 
      s.pathOpen 2 = true → s.ldr.st = .run → bits (s.recordWord 0) 0 8 = 15 →
      ∃ u, Yields .imgEnd s u ∧
        u.ldr.st = .idle ∧ u.ldr.result = resultWord 2 s.ldr.source 0 0 ∧ u.reg A.SYS_SCRATCH = resultWord 2 s.ldr.source 0 0 ∧ u.ldr.offset = (s.stageWord 2).toNat ∧ u.usb = { s.usb with imgRx := false } ∧
        Touches [.ldr, .usb] [] [whole A.SYS_SCRATCH] s u)

/-- A power-on reset of the AON island, RESET_N and an AONVDD loss clear every register; a core reset of a running hub outside OFF, and the loss of a required rail there, keep the AON accounting; all clear SRAM, islands and queues of each unit and keep OTP. A held hub starts when its AON rail is good; in OFF rails only come and go. COLD_START with the rails good: RUN; straps, balls and cause as sensed, the FLL and family A locked, Bellows cold, the log counted; a wipe of its cause where privacy is not asserted; a failed OTP read shown; at a BOOT_SEL level other than 0 the loader waits for flash, at 0 or after a failed read USB is enabled if a VID is set, a blank identity gives none. Held, running, or a rail missing: nothing. OPTIONAL_RAIL_GOOD of HPVDD lets waiting headphone channels go on and the pump start, of USBVDD connects by R286 and ends fault 0x01, of PVDD starts enabled speakers in RUN. VHOLD_READY sets VHOLD_OK; waiting channels of pairs not quiesced with pump, VREFB and PLL unmute, no other changes. Balls: after RESET_N each shows R38's reset state; in OFF its OFF state, the IOVDD bank without pulls; with its domain isolated its isolation state; IRQ_N is low or Z as driven. Each with its frame, but for the resets. -/
def Obligations.ResetsAndRails : Prop :=
  (∀ (aon : Bool) (s : State), 
      aon = true →
      ∃ u, Yields (.powerOnReset aon) s u ∧
        u.boot = .start 0 ∧
        u.regs = [] ∧
        u.domState = 6 ∧ u.otp = s.otp ∧ u.pending = s.pending ∧
        u.sram = [] ∧ u.poison = [] ∧ u.xpAct = [] ∧ u.xpPend = [] ∧ u.coefPend = [] ∧ u.lanes = State.reset.lanes ∧ u.ain = State.reset.ain ∧ u.aout = State.reset.aout ∧ u.spk = State.reset.spk ∧ u.sap = State.reset.sap ∧ u.lst = State.reset.lst ∧ u.usb = State.reset.usb ∧ u.ldr = State.reset.ldr ∧ u.smb = State.reset.smb ∧ u.jtag = State.reset.jtag) ∧
  (∀ (aon : Bool) (s : State), 
      aon = false →
      ∃ u, Yields (.powerOnReset aon) s u ∧
        (s.boot = .held → s.pins.aon = true → u = { s with boot := .start 0, pins := { s.pins with core := true } }) ∧
        (s.boot = .up → s.domState ≠ 5 → u.boot = .start 0 ∧ u.domState = 6 ∧ u.otp = s.otp ∧ u.pending = s.pending ∧ u.sram = [] ∧ u.poison = [] ∧ u.xpAct = [] ∧ u.xpPend = [] ∧ u.coefPend = [] ∧ u.lanes = State.reset.lanes ∧ u.ain = State.reset.ain ∧ u.aout = State.reset.aout ∧ u.spk = State.reset.spk ∧ u.sap = State.reset.sap ∧ u.lst = State.reset.lst ∧ u.usb = State.reset.usb ∧ u.ldr = State.reset.ldr ∧ u.smb = State.reset.smb ∧ u.jtag = State.reset.jtag ∧ (∀ k : Nat, k < 6 → u.reg (aonRegs.getD k 0) = s.reg (aonRegs.getD k 0)) ∧ ∀ e ∈ u.regs, e.1 ∈ aonRegs) ∧
        (s.boot = .up → s.domState = 5 → u = { s with pins := { s.pins with core := true } })) ∧
  (∀ (s : State), 
      ∃ u, Yields .resetNPulse s u ∧
        (u.boot = if s.boot = .held then .held else .start 1) ∧
        u.regs = [] ∧
        u.domState = 6 ∧ u.otp = s.otp ∧ u.pending = s.pending ∧
        u.sram = [] ∧ u.poison = [] ∧ u.xpAct = [] ∧ u.xpPend = [] ∧ u.coefPend = [] ∧ u.lanes = State.reset.lanes ∧ u.ain = State.reset.ain ∧ u.aout = State.reset.aout ∧ u.spk = State.reset.spk ∧ u.sap = State.reset.sap ∧ u.lst = State.reset.lst ∧ u.usb = State.reset.usb ∧ u.ldr = State.reset.ldr ∧ u.smb = State.reset.smb ∧ u.jtag = State.reset.jtag) ∧
  (∀ (s : State), 
      ∃ u, Yields .aonvddLoss s u ∧
        u.boot = .held ∧
        u.regs = [] ∧
        u.domState = 6 ∧ u.otp = s.otp ∧ u.pending = s.pending ∧
        u.sram = [] ∧ u.poison = [] ∧ u.xpAct = [] ∧ u.xpPend = [] ∧ u.coefPend = [] ∧ u.lanes = State.reset.lanes ∧ u.ain = State.reset.ain ∧ u.aout = State.reset.aout ∧ u.spk = State.reset.spk ∧ u.sap = State.reset.sap ∧ u.lst = State.reset.lst ∧ u.usb = State.reset.usb ∧ u.ldr = State.reset.ldr ∧ u.smb = State.reset.smb ∧ u.jtag = State.reset.jtag) ∧
  (∀ (s : State), 
      s.boot = .up → s.domState ≠ 5 →
      ∃ u, Yields .requiredRailLoss s u ∧
        u.boot = .held ∧
        u.domState = 6 ∧ u.otp = s.otp ∧ u.pending = s.pending ∧
        u.sram = [] ∧ u.poison = [] ∧ u.xpAct = [] ∧ u.xpPend = [] ∧ u.coefPend = [] ∧ u.lanes = State.reset.lanes ∧ u.ain = State.reset.ain ∧ u.aout = State.reset.aout ∧ u.spk = State.reset.spk ∧ u.sap = State.reset.sap ∧ u.lst = State.reset.lst ∧ u.usb = State.reset.usb ∧ u.ldr = State.reset.ldr ∧ u.smb = State.reset.smb ∧ u.jtag = State.reset.jtag ∧
        (∀ k : Nat, k < 6 → u.reg (aonRegs.getD k 0) = s.reg (aonRegs.getD k 0)) ∧
        (∀ e ∈ u.regs, e.1 ∈ aonRegs)) ∧
  (∀ (s : State), 
      (s.domState = 5 ∨ s.boot ≠ .up) →
      ∃ u, Yields .requiredRailLoss s u ∧
        u = { s with pins := { s.pins with core := false } } ∧
        Touches [.pins] [] [] s u) ∧
  (∀ (addr boot : Fin 4) (io3 otpOk freeze privacy hpvdd usbvdd pvdd pgood : Bool) (cause : Nat) (s : State), 
      s.boot = .start cause → cause < 5 → s.pins.aon = true → s.pins.core = true →
      ∃ u, Yields (.coldStart addr boot io3 otpOk freeze privacy hpvdd usbvdd pvdd pgood) s u ∧
        u.boot = .up ∧ u.domState = 0 ∧ u.otp = s.otp ∧ u.freezeArmed = !freeze ∧
        u.pins.freeze = freeze ∧ u.pins.privacy = privacy ∧ u.pins.hpvdd = hpvdd ∧ u.pins.usbvdd = usbvdd ∧ u.pins.pvdd = pvdd ∧
        u.get F.SYS_STRAP_ADDR_LVL = addr.val ∧ u.get F.SYS_STRAP_BOOT_LVL = boot.val ∧ u.on F.SYS_STRAP_IOVDD_3V3 = io3 ∧
        u.get F.SMB_STATE_ADDR = 0x5A + addr.val ∧
        u.reg A.SYS_RESET_CAUSE = BitVec.ofNat 32 (2 ^ cause) ∧
        u.get F.CLK_FLL_STATUS_LOCKED = 1 ∧
        (privacy = false → u.get F.MEM_WIPE_STATUS_WIPES = 1 ∧ u.get F.MEM_WIPE_STATUS_WIPE_CAUSE = if cause = 3 then 2 else 1) ∧
        u.get (F.CLK_PLL_STATUS_STATE (u.famPll 0)) = 2 ∧
        u.blw.start = .cold ∧
        u.on F.PMB_STATUS_PGOOD_NOW = pgood ∧
        u.get F.MNT_LOG_USED = s.logUsed ∧
        (otpOk = false → u.get F.LCY_OTP_STATUS_RESULT = 3 ∧ u.lcy.unverified = true) ∧
        (otpOk = true → u.lcy.unverified = s.lcy.unverified) ∧
        (boot.val ≠ 0 → otpOk = true → u.ldr = { s.ldr with st := .flash } ∧ u.get (F.PG_ENABLE 0x0A) = s.get (F.PG_ENABLE 0x0A)) ∧
        (boot.val = 0 ∨ otpOk = false → u.ldr = s.ldr ∧ (u.get F.USB_ID_VID ≠ 0 → u.get (F.PG_ENABLE 0x0A) = 1)) ∧
        ((List.range 16).all (fun k => s.otpWord (0x100 + k) == 0) = true → u.reg A.USB_ID = 0 ∧ u.get (F.PG_ENABLE 0x0A) = s.get (F.PG_ENABLE 0x0A)) ∧
        Touches (audioParts ++ jobParts ++ ([.free, .famOut, .pins, .usb, .trk, .lcy, .freezeArmed, .boot, .domState, .blw, .mem, .ldr, .pwr, .grants, .sram] : List Part)) (audioPages ++ [0x00, 0x02, 0x03, 0x04, 0x06, 0x08, 0x09, 0x0A]) [F.LCY_OTP_STATUS_RESULT] s u) ∧
  (∀ (addr boot : Fin 4) (io3 otpOk freeze privacy hpvdd usbvdd pvdd pgood : Bool) (s : State), 
      (s.boot = .up ∨ s.boot = .held ∨ s.pins.aon = false ∨ s.pins.core = false) →
      ∃ u, Yields (.coldStart addr boot io3 otpOk freeze privacy hpvdd usbvdd pvdd pgood) s u ∧
        u = s ∧
        Touches [] [] [] s u) ∧
  (∀ (rail : Fin 3) (s : State), 
      rail.val = 0 → s.clocked .aout = true → s.cpFault = false →
      ∃ u, Yields (.optionalRailGood rail) s u ∧
        u.pins.hpvdd = true ∧
        (∀ c : Nat, c < 4 → (u.aoutAt c).phase ≠ .waitPump) ∧
        (∀ c : Nat, c < 4 → (s.aoutAt c).phase = .waitPump → s.isQuiet (10 + c / 2) = false → u.on F.JCK_CP_STATUS_READY = true) ∧
        (∀ c : Nat, c < 8 → (s.aoutAt c).phase ≠ .waitPump → u.aoutAt c = s.aoutAt c) ∧
        Touches [.pins, .aout, .cpStop] [0x0D, 0x19, 0x1A] [] s u) ∧
  (∀ (rail : Fin 3) (s : State), 
      rail.val = 1 → s.domState ≤ 1 →
      ∃ u, Yields (.optionalRailGood rail) s u ∧
        u.pins.usbvdd = true ∧
        u.on F.USB_STATE_CONNECTED = u.usbMay ∧
        u.get (F.PG_FAULT 0x0A) ≠ 1 ∧
        Touches (.pins :: ([.usb, .lanes, .lst, .trk, .ldr] : List Part)) (0x0A :: (List.range 48).map (· + 0x30)) (whole A.SYS_SCRATCH :: lstStatusFlds ++ trkFlds 0) s u) ∧
  (∀ (rail : Fin 3) (s : State), 
      rail.val = 2 → s.domState = 0 →
      ∃ u, Yields (.optionalRailGood rail) s u ∧
        u.pins.pvdd = true ∧
        (∀ n : Nat, n < 4 → (s.on (F.PG_ENABLE (pgSPK n)) = true ∧ s.on (F.SPK_CTRL_EN n) = true ∧ (s.spkAt n).phase = .off ∧ s.spkStopped n = false ∧ s.collapsed = false ∧ s.isQuiet (14 + n) = false) → (u.spkAt n).phase = .waiting) ∧
        (∀ n : Nat, n < 4 → (s.on (F.PG_ENABLE (pgSPK n)) = true ∧ s.on (F.SPK_CTRL_EN n) = true ∧ (s.spkAt n).phase ≠ .off) → u.spkAt n = s.spkAt n) ∧
        Touches [.pins, .spk] [] (spkStatusFlds 0 ++ spkStatusFlds 1 ++ spkStatusFlds 2 ++ spkStatusFlds 3) s u) ∧
  (∀ s : State, (∃ u, Yields .resetNPulse s u ∧ ∀ b : Ball, u.ball b = b.reset) ∧
      (s.domState = 5 → ∀ b : Ball, s.ball b = b.off ∧ (b.ioBank = true → s.ball b = .z)) ∧
      (s.domState ≤ 4 → (∀ b : Ball, (∀ o, b ≠ .xtal o) → s.isolated b.island = true →
        s.ball b = b.isolation (s.on F.USB_STATE_CONNECTED)) ∧ s.ball .irqN = if s.pins.irqLow then .low else .z)) ∧
  (∀ (s : State), 
      s.domState ≤ 4 →
      ∃ u, Yields .vholdReady s u ∧
        u.get F.JCK_HOLD_STATUS_VHOLD_OK = 1 ∧
        (s.clocked .aout = true → ∀ c : Nat, c < 8 → (s.aoutAt c).phase = .waitVhold ∧ s.isQuiet (10 + c / 2) = false ∧ (4 ≤ c ∨ s.on F.JCK_CP_STATUS_READY = true) ∧ s.on F.JCK_VREFB_STATUS_READY = true ∧ s.famUp (rateFamily (s.aoutAt c).rate) = true → (u.aoutAt c).phase = .unmuting ∨ (u.aoutAt c).phase = .running) ∧
        (∀ c : Nat, c < 8 → (s.aoutAt c).phase ≠ .waitVhold → (u.aoutAt c).phase = (s.aoutAt c).phase) ∧
        (s.clocked .aout = false → u.aout = s.aout ∧ u.spk = s.spk) ∧
        Touches [.aout, .cpStop, .spk] [0x0D, 0x19, 0x1A, 0x1B, 0x1C] (spkStatusFlds 0 ++ spkStatusFlds 1 ++ spkStatusFlds 2 ++ spkStatusFlds 3) s u)

/-- REG_WRITE of one or two words of held registers the initiator may write: they hold them by their access types. A count of no word, above 63, or above 1,024 for the loader, with the path open: logged with code 8, nothing written. A refused first word of at most 63, initiators 0 to 3: nothing is written, the log names cause, initiator and address, and the page of the address, if there is one, its last violation and interrupt. A word with a reserved value of a held register is written by R7 and logged with code 9. An internal write that a wipe bars, or behind one that waits, waits at the end of the queue, no violation. PG_ERR_CLR that leaves ENABLE, for a word the initiator may write: the page's violation record is cleared; its fault code stays while its condition holds, else it is 0. Each with its frame. -/
def Obligations.RegisterPath : Prop :=
  (∀ (ini : Fin 5) (addr : BitVec 24) (words : List Word) (w : Word) (s : State), 
      words = [w] → heldReg addr.toNat = true → s.mayWrite ini addr.toNat w = true →
      ∃ u, Yields (.regWrite ini addr words) s u ∧
        u.reg addr.toNat = s.taken addr.toNat w ∧
        Touches [] [] [whole addr.toNat] s u) ∧
  (∀ (ini : Fin 5) (addr : BitVec 24) (words : List Word) (x y : Word) (s : State), 
      words = [x, y] → heldReg addr.toNat = true → heldReg (addr.toNat + 4) = true → s.mayWrite ini addr.toNat x = true → s.mayWrite ini (addr.toNat + 4) y = true →
      ∃ u, Yields (.regWrite ini addr words) s u ∧
        u.reg addr.toNat = s.taken addr.toNat x ∧
        u.reg (addr.toNat + 4) = s.taken (addr.toNat + 4) y ∧
        Touches [] [] [whole addr.toNat, whole (addr.toNat + 4)] s u) ∧
  (∀ (ini : Fin 5) (addr : BitVec 24) (words : List Word) (s : State), 
      (words = [] ∨ (if ini.val = 2 then 1024 else 63) < words.length) → s.pathOpen ini = true →
      ∃ u, Yields (.regWrite ini addr words) s u ∧
        u.get F.DBG_VIOL_COUNT_COUNT = min (s.get F.DBG_VIOL_COUNT_COUNT + 1) 0xFFFF ∧ bits (u.reg A.DBG_VIOL_LAST_INFO) 4 3 = ini.val ∧ u.reg A.DBG_VIOL_LAST_ADDR = BitVec.ofNat 32 (addr.toNat % 2 ^ 18) ∧ bits (u.reg A.DBG_VIOL_LAST_INFO) 0 4 = 8 ∧
        Touches [] [] [whole A.DBG_VIOL_LAST_ADDR, whole A.DBG_VIOL_LAST_INFO, whole A.DBG_VIOL_FIRST_ADDR, whole A.DBG_VIOL_FIRST_INFO, F.DBG_VIOL_COUNT_COUNT, F.PG_IRQ (addr.toNat / 0x400) 0, whole (addr.toNat / 0x400 * 0x400 + 0x18), whole (addr.toNat / 0x400 * 0x400 + 0x1C)] s u) ∧
  (∀ (ini : Fin 5) (addr : BitVec 24) (words : List Word) (w : Word) (t : List Word) (s : State), 
      words = w :: t → words.length ≤ 63 → ini.val < 4 → s.pathOpen ini = true → s.refusal ini true addr.toNat w ≠ 0 →
      ∃ u, Yields (.regWrite ini addr words) s u ∧
        u.get F.DBG_VIOL_COUNT_COUNT = min (s.get F.DBG_VIOL_COUNT_COUNT + 1) 0xFFFF ∧ bits (u.reg A.DBG_VIOL_LAST_INFO) 4 3 = ini.val ∧ u.reg A.DBG_VIOL_LAST_ADDR = BitVec.ofNat 32 (addr.toNat % 2 ^ 18) ∧ bits (u.reg A.DBG_VIOL_LAST_INFO) 0 4 = s.refusal ini true addr.toNat w ∧
        (addr.toNat < 2 ^ 18 → (pageRow (addr.toNat / 0x400)).isSome = true → u.get (F.PG_LAST_VIOL (addr.toNat / 0x400)) = s.refusal ini true addr.toNat w ∧ u.on (F.PG_IRQ (addr.toNat / 0x400) 0) = true) ∧
        Touches [] [] [whole A.DBG_VIOL_LAST_ADDR, whole A.DBG_VIOL_LAST_INFO, whole A.DBG_VIOL_FIRST_ADDR, whole A.DBG_VIOL_FIRST_INFO, F.DBG_VIOL_COUNT_COUNT, F.PG_IRQ (addr.toNat / 0x400) 0, whole (addr.toNat / 0x400 * 0x400 + 0x18), whole (addr.toNat / 0x400 * 0x400 + 0x1C)] s u) ∧
  (∀ (ini : Fin 5) (addr : BitVec 24) (words : List Word) (w : Word) (s : State), 
      words = [w] → heldReg addr.toNat = true → ini.val < 4 → s.pathOpen ini = true → s.refusal ini true addr.toNat w = 0 → s.wouldStrike ini addr.toNat w = true →
      ∃ u, Yields (.regWrite ini addr words) s u ∧
        u.reg addr.toNat = s.taken addr.toNat w ∧
        u.get F.DBG_VIOL_COUNT_COUNT = min (s.get F.DBG_VIOL_COUNT_COUNT + 1) 0xFFFF ∧ bits (u.reg A.DBG_VIOL_LAST_INFO) 4 3 = ini.val ∧ u.reg A.DBG_VIOL_LAST_ADDR = BitVec.ofNat 32 (addr.toNat % 2 ^ 18) ∧ bits (u.reg A.DBG_VIOL_LAST_INFO) 0 4 = 9 ∧
        Touches [] [] (whole addr.toNat :: [whole A.DBG_VIOL_LAST_ADDR, whole A.DBG_VIOL_LAST_INFO, whole A.DBG_VIOL_FIRST_ADDR, whole A.DBG_VIOL_FIRST_INFO, F.DBG_VIOL_COUNT_COUNT, F.PG_IRQ (addr.toNat / 0x400) 0, whole (addr.toNat / 0x400 * 0x400 + 0x18), whole (addr.toNat / 0x400 * 0x400 + 0x1C)]) s u) ∧
  (∀ (ini : Fin 5) (addr : BitVec 24) (words : List Word) (w : Word) (s : State), 
      words = [w] → ini.val = 4 → s.pathOpen 4 = true → (s.stalled ≠ [] ∨ s.wipeBars true (placeOf addr.toNat) = true) →
      ∃ u, Yields (.regWrite ini addr words) s u ∧
        u.stalled = s.stalled ++ [.write addr.toNat [w] 0] ∧
        Touches [.stalled] [] [] s u) ∧
  (∀ (ini : Fin 5) (page : Fin 96) (w : Word) (s : State), 
      s.mayWrite ini (page.val * 0x400 + 4) (w ||| 0x4#32) = true → bits w 0 1 = s.get (F.PG_ENABLE page) →
      ∃ u, Yields (.pgErrClr ini page w) s u ∧
        u.get (F.PG_LAST_VIOL page) = 0 ∧ u.get (F.PG_VIOL_COUNT page) = 0 ∧ u.get (F.PG_ERR_ADDR page) = 0 ∧
        (s.get (F.PG_FAULT page) ≠ 0 → s.faultHolds page (s.get (F.PG_FAULT page)) = true → u.get (F.PG_FAULT page) = s.get (F.PG_FAULT page)) ∧
        (s.faultHolds page (s.get (F.PG_FAULT page)) = false → u.get (F.PG_FAULT page) = 0) ∧
        Touches [] [] [F.PG_LAST_VIOL page, F.PG_VIOL_COUNT page, F.PG_ERR_ADDR page, F.PG_FAULT page] s u)
end

