-- ==== Sys2Proof/Laws/Dispatch.lean ====
section
/-! SUPPORT. One law per command: `exec` of it is its meaning. -/

namespace Sys2Proof.Machine

@[simp] theorem exec_powerOnReset (aon : _) (s : State) : exec (.powerOnReset aon) s = execPowerOnReset aon s := rfl
@[simp] theorem exec_resetNPulse (s : State) : exec (.resetNPulse) s = execResetNPulse s := rfl
@[simp] theorem exec_requiredRailLoss (s : State) : exec (.requiredRailLoss) s = execRequiredRailLoss s := rfl
@[simp] theorem exec_aonvddLoss (s : State) : exec (.aonvddLoss) s = execAonvddLoss s := rfl
@[simp] theorem exec_optionalRailGood (rail : _) (s : State) : exec (.optionalRailGood rail) s = execOptionalRailGood rail s := rfl
@[simp] theorem exec_coldStart (addr : _) (boot : _) (io3 : _) (otpOk : _) (freeze : _) (privacy : _) (hpvdd : _) (usbvdd : _) (pvdd : _) (pgood : _) (s : State) : exec (.coldStart addr boot io3 otpOk freeze privacy hpvdd usbvdd pvdd pgood) s = execColdStart addr boot io3 otpOk freeze privacy hpvdd usbvdd pvdd pgood s := rfl
@[simp] theorem exec_vholdReady (s : State) : exec (.vholdReady) s = execVholdReady s := rfl
@[simp] theorem exec_wakeNLow (held : Bool) (s : State) : exec (.wakeNLow held) s = execWakeNLow held s := rfl
@[simp] theorem exec_micPrivacyAssert (s : State) : exec (.micPrivacyAssert) s = execMicPrivacyAssert s := rfl
@[simp] theorem exec_micPrivacyRelease (s : State) : exec (.micPrivacyRelease) s = execMicPrivacyRelease s := rfl
@[simp] theorem exec_freezeBallHigh (rearmed : _) (s : State) : exec (.freezeBallHigh rearmed) s = execFreezeBallHigh rearmed s := rfl
@[simp] theorem exec_mainsSyncEdge (falling : _) (period : _) (s : State) : exec (.mainsSyncEdge falling period) s = execMainsSyncEdge falling period s := rfl
@[simp] theorem exec_mainsInvalidTimeout (s : State) : exec (.mainsInvalidTimeout) s = execMainsInvalidTimeout s := rfl
@[simp] theorem exec_pgoodFall (status : _) (s : State) : exec (.pgoodFall status) s = execPgoodFall status s := rfl
@[simp] theorem exec_engineFrame (inputs : _) (residues : _) (s : State) : exec (.engineFrame inputs residues) s = execEngineFrame inputs residues s := rfl
@[simp] theorem exec_trackerEdge (t : _) (period : _) (s : State) : exec (.trackerEdge t period) s = execTrackerEdge t period s := rfl
@[simp] theorem exec_trackerWindowEnd (t : _) (s : State) : exec (.trackerWindowEnd t) s = execTrackerWindowEnd t s := rfl
@[simp] theorem exec_trackerStop (t : _) (s : State) : exec (.trackerStop t) s = execTrackerStop t s := rfl
@[simp] theorem exec_trackerRateChange (t : _) (s : State) : exec (.trackerRateChange t) s = execTrackerRateChange t s := rfl
@[simp] theorem exec_acquisitionTimeout (t : _) (s : State) : exec (.acquisitionTimeout t) s = execAcquisitionTimeout t s := rfl
@[simp] theorem exec_trackerEndpointOff (t : _) (s : State) : exec (.trackerEndpointOff t) s = execTrackerEndpointOff t s := rfl
@[simp] theorem exec_usbSof (missing : _) (period : _) (s : State) : exec (.usbSof missing period) s = execUsbSof missing period s := rfl
@[simp] theorem exec_bellowsTick (d0 : _) (d1 : _) (d2 : _) (d3 : _) (pgood : _) (s : State) : exec (.bellowsTick d0 d1 d2 d3 pgood) s = execBellowsTick d0 d1 d2 d3 pgood s := rfl
@[simp] theorem exec_opLower (s : State) : exec (.opLower) s = execOpLower s := rfl
@[simp] theorem exec_thermalTripEnd (s : State) : exec (.thermalTripEnd) s = execThermalTripEnd s := rfl
@[simp] theorem exec_overbudgetFault (s : State) : exec (.overbudgetFault) s = execOverbudgetFault s := rfl
@[simp] theorem exec_coldPeriodEnd (s : State) : exec (.coldPeriodEnd) s = execColdPeriodEnd s := rfl
@[simp] theorem exec_pvddWarn (s : State) : exec (.pvddWarn) s = execPvddWarn s := rfl
@[simp] theorem exec_pvddWarnEnd (s : State) : exec (.pvddWarnEnd) s = execPvddWarnEnd s := rfl
@[simp] theorem exec_pvddCrit (s : State) : exec (.pvddCrit) s = execPvddCrit s := rfl
@[simp] theorem exec_collapseRestart (s : State) : exec (.collapseRestart) s = execCollapseRestart s := rfl
@[simp] theorem exec_regWrite (ini : _) (addr : _) (words : _) (s : State) : exec (.regWrite ini addr words) s = execRegWrite ini addr words s := rfl
@[simp] theorem exec_pgErrClr (ini : _) (page : _) (w : _) (s : State) : exec (.pgErrClr ini page w) s = execPgErrClr ini page w s := rfl
@[simp] theorem exec_dbgViolClear (ini : _) (w : _) (s : State) : exec (.dbgViolClear ini w) s = execDbgViolClear ini w s := rfl
@[simp] theorem exec_ainModeWrite (ini : _) (n : _) (w : _) (s : State) : exec (.ainModeWrite ini n w) s = execAinModeWrite ini n w s := rfl
@[simp] theorem exec_ainFmtWrite (ini : _) (n : _) (w : _) (s : State) : exec (.ainFmtWrite ini n w) s = execAinFmtWrite ini n w s := rfl
@[simp] theorem exec_ainPairEnableWrite (ini : _) (k : _) (w : _) (s : State) : exec (.ainPairEnableWrite ini k w) s = execAinPairEnableWrite ini k w s := rfl
@[simp] theorem exec_ainStart (n : _) (s : State) : exec (.ainStart n) s = execAinStart n s := rfl
@[simp] theorem exec_ainRunning (n : _) (s : State) : exec (.ainRunning n) s = execAinRunning n s := rfl
@[simp] theorem exec_ainMuteWrite (ini : _) (n : _) (w : _) (s : State) : exec (.ainMuteWrite ini n w) s = execAinMuteWrite ini n w s := rfl
@[simp] theorem exec_ainCalNow (ini : _) (n : _) (w : _) (s : State) : exec (.ainCalNow ini n w) s = execAinCalNow ini n w s := rfl
@[simp] theorem exec_ainCalDone (n : _) (offset : _) (s : State) : exec (.ainCalDone n offset) s = execAinCalDone n offset s := rfl
@[simp] theorem exec_ainPgaWrite (ini : _) (n : _) (w : _) (s : State) : exec (.ainPgaWrite ini n w) s = execAinPgaWrite ini n w s := rfl
@[simp] theorem exec_ainPgaStep (n : _) (s : State) : exec (.ainPgaStep n) s = execAinPgaStep n s := rfl
@[simp] theorem exec_ainDcHpfWrite (ini : _) (n : _) (w : _) (s : State) : exec (.ainDcHpfWrite ini n w) s = execAinDcHpfWrite ini n w s := rfl
@[simp] theorem exec_ainClrCount (ini : _) (n : _) (w : _) (s : State) : exec (.ainClrCount ini n w) s = execAinClrCount ini n w s := rfl
@[simp] theorem exec_ainOverloadReset (n : _) (negative : _) (s : State) : exec (.ainOverloadReset n negative) s = execAinOverloadReset n negative s := rfl
@[simp] theorem exec_ainOverloadEnd (n : _) (s : State) : exec (.ainOverloadEnd n) s = execAinOverloadEnd n s := rfl
@[simp] theorem exec_ainRecoveryEnd (n : _) (s : State) : exec (.ainRecoveryEnd n) s = execAinRecoveryEnd n s := rfl
@[simp] theorem exec_micbiasCtrlWrite (ini : _) (w : _) (s : State) : exec (.micbiasCtrlWrite ini w) s = execMicbiasCtrlWrite ini w s := rfl
@[simp] theorem exec_micbiasReady (m : _) (s : State) : exec (.micbiasReady m) s = execMicbiasReady m s := rfl
@[simp] theorem exec_micbiasOvercurrent (m : _) (s : State) : exec (.micbiasOvercurrent m) s = execMicbiasOvercurrent m s := rfl
@[simp] theorem exec_beepCtrlWrite (ini : _) (w : _) (s : State) : exec (.beepCtrlWrite ini w) s = execBeepCtrlWrite ini w s := rfl
@[simp] theorem exec_vrefaReady (s : State) : exec (.vrefaReady) s = execVrefaReady s := rfl
@[simp] theorem exec_vrefaNotReady (s : State) : exec (.vrefaNotReady) s = execVrefaNotReady s := rfl
@[simp] theorem exec_sliceStuckBit (n : _) (s : State) : exec (.sliceStuckBit n) s = execSliceStuckBit n s := rfl
@[simp] theorem exec_auxSubstStart (ini : _) (w : _) (s : State) : exec (.auxSubstStart ini w) s = execAuxSubstStart ini w s := rfl
@[simp] theorem exec_auxSubstAbort (ini : _) (w : _) (s : State) : exec (.auxSubstAbort ini w) s = execAuxSubstAbort ini w s := rfl
@[simp] theorem exec_adcShadowWindowEnd (g : _) (level : _) (gain : _) (offset : _) (resid : _) (s : State) : exec (.adcShadowWindowEnd g level gain offset resid) s = execAdcShadowWindowEnd g level gain offset resid s := rfl
@[simp] theorem exec_adcSubstDone (g : _) (s : State) : exec (.adcSubstDone g) s = execAdcSubstDone g s := rfl
@[simp] theorem exec_aoutEnWrite (ini : _) (c : _) (pair : _) (w : _) (s : State) : exec (.aoutEnWrite ini c pair w) s = execAoutEnWrite ini c pair w s := rfl
@[simp] theorem exec_aoutStart (c : _) (s : State) : exec (.aoutStart c) s = execAoutStart c s := rfl
@[simp] theorem exec_aoutRunning (c : _) (s : State) : exec (.aoutRunning c) s = execAoutRunning c s := rfl
@[simp] theorem exec_aoutFmtWrite (ini : _) (c : _) (w : _) (s : State) : exec (.aoutFmtWrite ini c w) s = execAoutFmtWrite ini c w s := rfl
@[simp] theorem exec_aopHpModeWrite (ini : _) (k : _) (w : _) (s : State) : exec (.aopHpModeWrite ini k w) s = execAopHpModeWrite ini k w s := rfl
@[simp] theorem exec_aoutMuteWrite (ini : _) (c : _) (w : _) (s : State) : exec (.aoutMuteWrite ini c w) s = execAoutMuteWrite ini c w s := rfl
@[simp] theorem exec_aoutVolWrite (ini : _) (c : _) (w : _) (s : State) : exec (.aoutVolWrite ini c w) s = execAoutVolWrite ini c w s := rfl
@[simp] theorem exec_cpStopTimeout (s : State) : exec (.cpStopTimeout) s = execCpStopTimeout s := rfl
@[simp] theorem exec_jckCpForceOnWrite (ini : _) (w : _) (s : State) : exec (.jckCpForceOnWrite ini w) s = execJckCpForceOnWrite ini w s := rfl
@[simp] theorem exec_jckCpRetry (ini : _) (w : _) (s : State) : exec (.jckCpRetry ini w) s = execJckCpRetry ini w s := rfl
@[simp] theorem exec_aoutIlimFault (c : _) (s : State) : exec (.aoutIlimFault c) s = execAoutIlimFault c s := rfl
@[simp] theorem exec_dacElementError (c : _) (s : State) : exec (.dacElementError c) s = execDacElementError c s := rfl
@[simp] theorem exec_cpOvercurrent (s : State) : exec (.cpOvercurrent) s = execCpOvercurrent s := rfl
@[simp] theorem exec_cpUndervoltage (s : State) : exec (.cpUndervoltage) s = execCpUndervoltage s := rfl
@[simp] theorem exec_vrefbReady (s : State) : exec (.vrefbReady) s = execVrefbReady s := rfl
@[simp] theorem exec_vrefbNotReady (s : State) : exec (.vrefbNotReady) s = execVrefbNotReady s := rfl
@[simp] theorem exec_jckSubstStart (ini : _) (w : _) (s : State) : exec (.jckSubstStart ini w) s = execJckSubstStart ini w s := rfl
@[simp] theorem exec_jckSubstAbort (ini : _) (w : _) (s : State) : exec (.jckSubstAbort ini w) s = execJckSubstAbort ini w s := rfl
@[simp] theorem exec_dacShadowWindowEnd (g : _) (level : _) (gain : _) (offset : _) (resid : _) (s : State) : exec (.dacShadowWindowEnd g level gain offset resid) s = execDacShadowWindowEnd g level gain offset resid s := rfl
@[simp] theorem exec_dacSubstDone (g : _) (s : State) : exec (.dacSubstDone g) s = execDacSubstDone g s := rfl
@[simp] theorem exec_jackEdge (n : _) (high : _) (s : State) : exec (.jackEdge n high) s = execJackEdge n high s := rfl
@[simp] theorem exec_jackDebounceExpire (n : _) (s : State) : exec (.jackDebounceExpire n) s = execJackDebounceExpire n s := rfl
@[simp] theorem exec_jackIdMeasure (n : _) (ratio : _) (s : State) : exec (.jackIdMeasure n ratio) s = execJackIdMeasure n ratio s := rfl
@[simp] theorem exec_jackImpedanceDone (n : _) (zl : _) (zr : _) (s : State) : exec (.jackImpedanceDone n zl zr) s = execJackImpedanceDone n zl zr s := rfl
@[simp] theorem exec_jckImpMeasure (ini : _) (n : _) (w : _) (s : State) : exec (.jckImpMeasure ini n w) s = execJckImpMeasure ini n w s := rfl
@[simp] theorem exec_jackButtonChange (n : _) (ratio : _) (s : State) : exec (.jackButtonChange n ratio) s = execJackButtonChange n ratio s := rfl
@[simp] theorem exec_jackBiasOvercurrent (n : _) (s : State) : exec (.jackBiasOvercurrent n) s = execJackBiasOvercurrent n s := rfl
@[simp] theorem exec_jckBiasWrite (ini : _) (n : _) (w : _) (s : State) : exec (.jckBiasWrite ini n w) s = execJckBiasWrite ini n w s := rfl
@[simp] theorem exec_jckClrCount (ini : _) (n : _) (w : _) (s : State) : exec (.jckClrCount ini n w) s = execJckClrCount ini n w s := rfl
@[simp] theorem exec_spkEnWrite (ini : _) (n : _) (page : _) (w : _) (s : State) : exec (.spkEnWrite ini n page w) s = execSpkEnWrite ini n page w s := rfl
@[simp] theorem exec_spkStart (n : _) (s : State) : exec (.spkStart n) s = execSpkStart n s := rfl
@[simp] theorem exec_spkRunning (n : _) (s : State) : exec (.spkRunning n) s = execSpkRunning n s := rfl
@[simp] theorem exec_spkFmtWrite (ini : _) (n : _) (w : _) (s : State) : exec (.spkFmtWrite ini n w) s = execSpkFmtWrite ini n w s := rfl
@[simp] theorem exec_spkMuteWrite (ini : _) (n : _) (w : _) (s : State) : exec (.spkMuteWrite ini n w) s = execSpkMuteWrite ini n w s := rfl
@[simp] theorem exec_spkVolWrite (ini : _) (n : _) (w : _) (s : State) : exec (.spkVolWrite ini n w) s = execSpkVolWrite ini n w s := rfl
@[simp] theorem exec_spkPwmWrite (ini : _) (n : _) (w : _) (s : State) : exec (.spkPwmWrite ini n w) s = execSpkPwmWrite ini n w s := rfl
@[simp] theorem exec_spkCeilRatedWrite (ini : _) (n : _) (w : _) (s : State) : exec (.spkCeilRatedWrite ini n w) s = execSpkCeilRatedWrite ini n w s := rfl
@[simp] theorem exec_spkGuardCtrlWrite (ini : _) (n : _) (w : _) (s : State) : exec (.spkGuardCtrlWrite ini n w) s = execSpkGuardCtrlWrite ini n w s := rfl
@[simp] theorem exec_spkGuardReseed (ini : _) (n : _) (w : _) (s : State) : exec (.spkGuardReseed ini n w) s = execSpkGuardReseed ini n w s := rfl
@[simp] theorem exec_spkGuardUpdate (n : _) (pvdd : _) (temp : _) (s : State) : exec (.spkGuardUpdate n pvdd temp) s = execSpkGuardUpdate n pvdd temp s := rfl
@[simp] theorem exec_spkResistanceBlock (n : _) (s : State) : exec (.spkResistanceBlock n) s = execSpkResistanceBlock n s := rfl
@[simp] theorem exec_spkOvercurrent (n : _) (since : _) (s : State) : exec (.spkOvercurrent n since) s = execSpkOvercurrent n since s := rfl
@[simp] theorem exec_spkOcRetry (n : _) (s : State) : exec (.spkOcRetry n) s = execSpkOcRetry n s := rfl
@[simp] theorem exec_spkCbcFault (n : _) (s : State) : exec (.spkCbcFault n) s = execSpkCbcFault n s := rfl
@[simp] theorem exec_spkDcFault (n : _) (s : State) : exec (.spkDcFault n) s = execSpkDcFault n s := rfl
@[simp] theorem exec_spkOtWarn (n : _) (temp : _) (s : State) : exec (.spkOtWarn n temp) s = execSpkOtWarn n temp s := rfl
@[simp] theorem exec_spkOtFault (n : _) (s : State) : exec (.spkOtFault n) s = execSpkOtFault n s := rfl
@[simp] theorem exec_spkOtRecover (n : _) (s : State) : exec (.spkOtRecover n) s = execSpkOtRecover n s := rfl
@[simp] theorem exec_spkPvddUv (n : _) (s : State) : exec (.spkPvddUv n) s = execSpkPvddUv n s := rfl
@[simp] theorem exec_spkUvRecover (n : _) (s : State) : exec (.spkUvRecover n) s = execSpkUvRecover n s := rfl
@[simp] theorem exec_spkPvddOv (n : _) (s : State) : exec (.spkPvddOv n) s = execSpkPvddOv n s := rfl
@[simp] theorem exec_spkOvRecover (n : _) (s : State) : exec (.spkOvRecover n) s = execSpkOvRecover n s := rfl
@[simp] theorem exec_spkSenseFault (n : _) (s : State) : exec (.spkSenseFault n) s = execSpkSenseFault n s := rfl
@[simp] theorem exec_spkSenseRecover (n : _) (s : State) : exec (.spkSenseRecover n) s = execSpkSenseRecover n s := rfl
@[simp] theorem exec_laneEnableWrite (ini : _) (n : _) (w : _) (s : State) : exec (.laneEnableWrite ini n w) s = execLaneEnableWrite ini n w s := rfl
@[simp] theorem exec_laneStart (n : _) (s : State) : exec (.laneStart n) s = execLaneStart n s := rfl
@[simp] theorem exec_laneRunning (n : _) (s : State) : exec (.laneRunning n) s = execLaneRunning n s := rfl
@[simp] theorem exec_laneCapAdmit (n : _) (s : State) : exec (.laneCapAdmit n) s = execLaneCapAdmit n s := rfl
@[simp] theorem exec_laneSrcWrite (ini : _) (n : _) (w : _) (s : State) : exec (.laneSrcWrite ini n w) s = execLaneSrcWrite ini n w s := rfl
@[simp] theorem exec_laneOutWrite (ini : _) (n : _) (w : _) (s : State) : exec (.laneOutWrite ini n w) s = execLaneOutWrite ini n w s := rfl
@[simp] theorem exec_laneMarginWrite (ini : _) (n : _) (w : _) (s : State) : exec (.laneMarginWrite ini n w) s = execLaneMarginWrite ini n w s := rfl
@[simp] theorem exec_laneTrimWrite (ini : _) (n : _) (w : _) (s : State) : exec (.laneTrimWrite ini n w) s = execLaneTrimWrite ini n w s := rfl
@[simp] theorem exec_laneInvertWrite (ini : _) (n : _) (w : _) (s : State) : exec (.laneInvertWrite ini n w) s = execLaneInvertWrite ini n w s := rfl
@[simp] theorem exec_laneMuteWrite (ini : _) (n : _) (w : _) (s : State) : exec (.laneMuteWrite ini n w) s = execLaneMuteWrite ini n w s := rfl
@[simp] theorem exec_laneDcbWrite (ini : _) (n : _) (w : _) (s : State) : exec (.laneDcbWrite ini n w) s = execLaneDcbWrite ini n w s := rfl
@[simp] theorem exec_laneHumWrite (ini : _) (n : _) (w : _) (s : State) : exec (.laneHumWrite ini n w) s = execLaneHumWrite ini n w s := rfl
@[simp] theorem exec_laneCoefCommit (ini : _) (n : _) (w : _) (s : State) : exec (.laneCoefCommit ini n w) s = execLaneCoefCommit ini n w s := rfl
@[simp] theorem exec_laneCommitDone (n : _) (s : State) : exec (.laneCommitDone n) s = execLaneCommitDone n s := rfl
@[simp] theorem exec_laneDynWrite (ini : _) (n : _) (r : _) (w : _) (s : State) : exec (.laneDynWrite ini n r w) s = execLaneDynWrite ini n r w s := rfl
@[simp] theorem exec_laneDelayWrite (ini : _) (n : _) (w : _) (s : State) : exec (.laneDelayWrite ini n w) s = execLaneDelayWrite ini n w s := rfl
@[simp] theorem exec_laneDelayXfadeEnd (n : _) (s : State) : exec (.laneDelayXfadeEnd n) s = execLaneDelayXfadeEnd n s := rfl
@[simp] theorem exec_laneMeterWindowEnd (n : _) (s : State) : exec (.laneMeterWindowEnd n) s = execLaneMeterWindowEnd n s := rfl
@[simp] theorem exec_laneMeterWinWrite (ini : _) (n : _) (w : _) (s : State) : exec (.laneMeterWinWrite ini n w) s = execLaneMeterWinWrite ini n w s := rfl
@[simp] theorem exec_laneClrHold (ini : _) (n : _) (w : _) (s : State) : exec (.laneClrHold ini n w) s = execLaneClrHold ini n w s := rfl
@[simp] theorem exec_laneCntClr (ini : _) (n : _) (w : _) (s : State) : exec (.laneCntClr ini n w) s = execLaneCntClr ini n w s := rfl
@[simp] theorem exec_chnCommit (ini : _) (w : _) (s : State) : exec (.chnCommit ini w) s = execChnCommit ini w s := rfl
@[simp] theorem exec_chnCommitCopy (s : State) : exec (.chnCommitCopy) s = execChnCommitCopy s := rfl
@[simp] theorem exec_chnRevert (ini : _) (w : _) (s : State) : exec (.chnRevert ini w) s = execChnRevert ini w s := rfl
@[simp] theorem exec_chnClrCounts (ini : _) (w : _) (s : State) : exec (.chnClrCounts ini w) s = execChnClrCounts ini w s := rfl
@[simp] theorem exec_fifCommit (ini : _) (w : _) (s : State) : exec (.fifCommit ini w) s = execFifCommit ini w s := rfl
@[simp] theorem exec_fifGainStep (s : State) : exec (.fifGainStep) s = execFifGainStep s := rfl
@[simp] theorem exec_sapEnableWrite (ini : _) (p : _) (w : _) (s : State) : exec (.sapEnableWrite ini p w) s = execSapEnableWrite ini p w s := rfl
@[simp] theorem exec_sapReconfigWrite (ini : _) (p : _) (ctrl : _) (w : _) (s : State) : exec (.sapReconfigWrite ini p ctrl w) s = execSapReconfigWrite ini p ctrl w s := rfl
@[simp] theorem exec_sapFrameEdge (p : _) (bclks : _) (line : _) (s : State) : exec (.sapFrameEdge p bclks line) s = execSapFrameEdge p bclks line s := rfl
@[simp] theorem exec_sapMaskWrite (ini : _) (p : _) (rx : _) (w : _) (s : State) : exec (.sapMaskWrite ini p rx w) s = execSapMaskWrite ini p rx w s := rfl
@[simp] theorem exec_sapMaskApply (p : _) (s : State) : exec (.sapMaskApply p) s = execSapMaskApply p s := rfl
@[simp] theorem exec_sapIdleHizWrite (ini : _) (p : _) (w : _) (s : State) : exec (.sapIdleHizWrite ini p w) s = execSapIdleHizWrite ini p w s := rfl
@[simp] theorem exec_sapQuiesceTimeout (p : _) (s : State) : exec (.sapQuiesceTimeout p) s = execSapQuiesceTimeout p s := rfl
@[simp] theorem exec_sapMclkWrite (ini : _) (p : _) (w : _) (s : State) : exec (.sapMclkWrite ini p w) s = execSapMclkWrite ini p w s := rfl
@[simp] theorem exec_sapCntClr (ini : _) (p : _) (w : _) (s : State) : exec (.sapCntClr ini p w) s = execSapCntClr ini p w s := rfl
@[simp] theorem exec_pdmGroupChange (ini : _) (r : _) (w : _) (s : State) : exec (.pdmGroupChange ini r w) s = execPdmGroupChange ini r w s := rfl
@[simp] theorem exec_pdmGroupReady (g : _) (s : State) : exec (.pdmGroupReady g) s = execPdmGroupReady g s := rfl
@[simp] theorem exec_pdmMicEnWrite (ini : _) (w : _) (s : State) : exec (.pdmMicEnWrite ini w) s = execPdmMicEnWrite ini w s := rfl
@[simp] theorem exec_pdmMicAbsent (m : _) (s : State) : exec (.pdmMicAbsent m) s = execPdmMicAbsent m s := rfl
@[simp] theorem exec_pdmMicPresent (m : _) (s : State) : exec (.pdmMicPresent m) s = execPdmMicPresent m s := rfl
@[simp] theorem exec_pdmEnableWrite (ini : _) (w : _) (s : State) : exec (.pdmEnableWrite ini w) s = execPdmEnableWrite ini w s := rfl
@[simp] theorem exec_spdifRxFrame (f : _) (s : State) : exec (.spdifRxFrame f) s = execSpdifRxFrame f s := rfl
@[simp] theorem exec_spdifSyncHoldEnd (s : State) : exec (.spdifSyncHoldEnd) s = execSpdifSyncHoldEnd s := rfl
@[simp] theorem exec_spdifPcmReturn (s : State) : exec (.spdifPcmReturn) s = execSpdifPcmReturn s := rfl
@[simp] theorem exec_spdRxCtrlWrite (ini : _) (w : _) (s : State) : exec (.spdRxCtrlWrite ini w) s = execSpdRxCtrlWrite ini w s := rfl
@[simp] theorem exec_spdTxEnWrite (ini : _) (w : _) (s : State) : exec (.spdTxEnWrite ini w) s = execSpdTxEnWrite ini w s := rfl
@[simp] theorem exec_spdTxRateWrite (ini : _) (w : _) (s : State) : exec (.spdTxRateWrite ini w) s = execSpdTxRateWrite ini w s := rfl
@[simp] theorem exec_spdPassWrite (ini : _) (w : _) (s : State) : exec (.spdPassWrite ini w) s = execSpdPassWrite ini w s := rfl
@[simp] theorem exec_spdCntClr (ini : _) (w : _) (s : State) : exec (.spdCntClr ini w) s = execSpdCntClr ini w s := rfl
@[simp] theorem exec_xtalFail (s : State) : exec (.xtalFail) s = execXtalFail s := rfl
@[simp] theorem exec_xtalReturn (s : State) : exec (.xtalReturn) s = execXtalReturn s := rfl
@[simp] theorem exec_pllLock (x : _) (us : _) (s : State) : exec (.pllLock x us) s = execPllLock x us s := rfl
@[simp] theorem exec_pllUnlock (x : _) (s : State) : exec (.pllUnlock x) s = execPllUnlock x s := rfl
@[simp] theorem exec_pllRelockFail (x : _) (s : State) : exec (.pllRelockFail x) s = execPllRelockFail x s := rfl
@[simp] theorem exec_pllRelockRetry (x : _) (s : State) : exec (.pllRelockRetry x) s = execPllRelockRetry x s := rfl
@[simp] theorem exec_pllStopTimeout (x : _) (s : State) : exec (.pllStopTimeout x) s = execPllStopTimeout x s := rfl
@[simp] theorem exec_fllLock (s : State) : exec (.fllLock) s = execFllLock s := rfl
@[simp] theorem exec_clkEngineFeWrite (ini : _) (w : _) (s : State) : exec (.clkEngineFeWrite ini w) s = execClkEngineFeWrite ini w s := rfl
@[simp] theorem exec_feChangeStop (s : State) : exec (.feChangeStop) s = execFeChangeStop s := rfl
@[simp] theorem exec_clkTakeoverStart (ini : _) (w : _) (s : State) : exec (.clkTakeoverStart ini w) s = execClkTakeoverStart ini w s := rfl
@[simp] theorem exec_clkTakeoverAbort (ini : _) (w : _) (s : State) : exec (.clkTakeoverAbort ini w) s = execClkTakeoverAbort ini w s := rfl
@[simp] theorem exec_takeoverSpareLocked (us : _) (s : State) : exec (.takeoverSpareLocked us) s = execTakeoverSpareLocked us s := rfl
@[simp] theorem exec_takeoverAligned (s : State) : exec (.takeoverAligned) s = execTakeoverAligned s := rfl
@[simp] theorem exec_takeoverAlignTimeout (s : State) : exec (.takeoverAlignTimeout) s = execTakeoverAlignTimeout s := rfl
@[simp] theorem exec_takeoverSwitchDone (last : _) (s : State) : exec (.takeoverSwitchDone last) s = execTakeoverSwitchDone last s := rfl
@[simp] theorem exec_takeoverWindowDone (s : State) : exec (.takeoverWindowDone) s = execTakeoverWindowDone s := rfl
@[simp] theorem exec_pllHealthTestDone (x : _) (pass : _) (s : State) : exec (.pllHealthTestDone x pass) s = execPllHealthTestDone x pass s := rfl
@[simp] theorem exec_clkTrkClr (ini : _) (w : _) (s : State) : exec (.clkTrkClr ini w) s = execClkTrkClr ini w s := rfl
@[simp] theorem exec_usbVbusValid (s : State) : exec (.usbVbusValid) s = execUsbVbusValid s := rfl
@[simp] theorem exec_usbDisconnect (cause : _) (s : State) : exec (.usbDisconnect cause) s = execUsbDisconnect cause s := rfl
@[simp] theorem exec_usbEnableWrite (ini : _) (w : _) (s : State) : exec (.usbEnableWrite ini w) s = execUsbEnableWrite ini w s := rfl
@[simp] theorem exec_usbCfgWrite (ini : _) (w : _) (s : State) : exec (.usbCfgWrite ini w) s = execUsbCfgWrite ini w s := rfl
@[simp] theorem exec_usbBusReset (hs : _) (s : State) : exec (.usbBusReset hs) s = execUsbBusReset hs s := rfl
@[simp] theorem exec_usbGetDescriptor (type : _) (index : _) (length : _) (s : State) : exec (.usbGetDescriptor type index length) s = execUsbGetDescriptor type index length s := rfl
@[simp] theorem exec_usbSetInterface (stream : _) (alt : _) (s : State) : exec (.usbSetInterface stream alt) s = execUsbSetInterface stream alt s := rfl
@[simp] theorem exec_usbSetSamplingFreq (hz : _) (s : State) : exec (.usbSetSamplingFreq hz) s = execUsbSetSamplingFreq hz s := rfl
@[simp] theorem exec_usbFuSetCur (stream : _) (isMute : _) (value : _) (s : State) : exec (.usbFuSetCur stream isMute value) s = execUsbFuSetCur stream isMute value s := rfl
@[simp] theorem exec_usbSetFeatureRwake (s : State) : exec (.usbSetFeatureRwake) s = execUsbSetFeatureRwake s := rfl
@[simp] theorem exec_usbSetReport (id : _) (value : _) (s : State) : exec (.usbSetReport id value) s = execUsbSetReport id value s := rfl
@[simp] theorem exec_usbOutPacket (j : _) (data : _) (s : State) : exec (.usbOutPacket j data) s = execUsbOutPacket j data s := rfl
@[simp] theorem exec_usbPacketMissing (j : _) (s : State) : exec (.usbPacketMissing j) s = execUsbPacketMissing j s := rfl
@[simp] theorem exec_usbStreamStop (j : _) (s : State) : exec (.usbStreamStop j) s = execUsbStreamStop j s := rfl
@[simp] theorem exec_usbInPacket (j : _) (s : State) : exec (.usbInPacket j) s = execUsbInPacket j s := rfl
@[simp] theorem exec_usbFeedbackIn (j : _) (s : State) : exec (.usbFeedbackIn j) s = execUsbFeedbackIn j s := rfl
@[simp] theorem exec_usbHidPoll (s : State) : exec (.usbHidPoll) s = execUsbHidPoll s := rfl
@[simp] theorem exec_vreqRegRead (value : _) (index : _) (length : _) (s : State) : exec (.vreqRegRead value index length) s = execVreqRegRead value index length s := rfl
@[simp] theorem exec_vreqRegWrite (value : _) (index : _) (data : _) (s : State) : exec (.vreqRegWrite value index data) s = execVreqRegWrite value index data s := rfl
@[simp] theorem exec_vreqRegRmw (value : _) (index : _) (data : _) (s : State) : exec (.vreqRegRmw value index data) s = execVreqRegRmw value index data s := rfl
@[simp] theorem exec_vreqStatus (s : State) : exec (.vreqStatus) s = execVreqStatus s := rfl
@[simp] theorem exec_vreqImageBegin (data : _) (s : State) : exec (.vreqImageBegin data) s = execVreqImageBegin data s := rfl
@[simp] theorem exec_vreqImageStatus (s : State) : exec (.vreqImageStatus) s = execVreqImageStatus s := rfl
@[simp] theorem exec_vreqSnapRead (data : _) (s : State) : exec (.vreqSnapRead data) s = execVreqSnapRead data s := rfl
@[simp] theorem exec_vreqHistStart (s : State) : exec (.vreqHistStart) s = execVreqHistStart s := rfl
@[simp] theorem exec_vreqHistStop (s : State) : exec (.vreqHistStop) s = execVreqHistStop s := rfl
@[simp] theorem exec_vreqUnknown (request : _) (s : State) : exec (.vreqUnknown request) s = execVreqUnknown request s := rfl
@[simp] theorem exec_usbImageBulk (bytes : _) (s : State) : exec (.usbImageBulk bytes) s = execUsbImageBulk bytes s := rfl
@[simp] theorem exec_usbImageTimeout (s : State) : exec (.usbImageTimeout) s = execUsbImageTimeout s := rfl
@[simp] theorem exec_usbSnapshotIn (s : State) : exec (.usbSnapshotIn) s = execUsbSnapshotIn s := rfl
@[simp] theorem exec_usbHistoryIn (s : State) : exec (.usbHistoryIn) s = execUsbHistoryIn s := rfl
@[simp] theorem exec_usbHistStartWrite (ini : _) (w : _) (s : State) : exec (.usbHistStartWrite ini w) s = execUsbHistStartWrite ini w s := rfl
@[simp] theorem exec_usbHistStopWrite (ini : _) (w : _) (s : State) : exec (.usbHistStopWrite ini w) s = execUsbHistStopWrite ini w s := rfl
@[simp] theorem exec_usbSuspend (s : State) : exec (.usbSuspend) s = execUsbSuspend s := rfl
@[simp] theorem exec_usbResume (s : State) : exec (.usbResume) s = execUsbResume s := rfl
@[simp] theorem exec_usbL1Token (besl : _) (rwake : _) (s : State) : exec (.usbL1Token besl rwake) s = execUsbL1Token besl rwake s := rfl
@[simp] theorem exec_usbL1Exit (s : State) : exec (.usbL1Exit) s = execUsbL1Exit s := rfl
@[simp] theorem exec_usbRemoteWake (s : State) : exec (.usbRemoteWake) s = execUsbRemoteWake s := rfl
@[simp] theorem exec_usbWakeNow (ini : _) (w : _) (s : State) : exec (.usbWakeNow ini w) s = execUsbWakeNow ini w s := rfl
@[simp] theorem exec_usbCntClr (ini : _) (w : _) (s : State) : exec (.usbCntClr ini w) s = execUsbCntClr ini w s := rfl
@[simp] theorem exec_lstEnableWrite (ini : _) (w : _) (s : State) : exec (.lstEnableWrite ini w) s = execLstEnableWrite ini w s := rfl
@[simp] theorem exec_lstStart (s : State) : exec (.lstStart) s = execLstStart s := rfl
@[simp] theorem exec_lstSuppressEnd (s : State) : exec (.lstSuppressEnd) s = execLstSuppressEnd s := rfl
@[simp] theorem exec_lstSample (mics : _) (s : State) : exec (.lstSample mics) s = execLstSample mics s := rfl
@[simp] theorem exec_lstFrame (s : State) : exec (.lstFrame) s = execLstFrame s := rfl
@[simp] theorem exec_vadOnset (s : State) : exec (.vadOnset) s = execVadOnset s := rfl
@[simp] theorem exec_vadHangExpire (s : State) : exec (.vadHangExpire) s = execVadHangExpire s := rfl
@[simp] theorem exec_spotDetection (s : State) : exec (.spotDetection) s = execSpotDetection s := rfl
@[simp] theorem exec_lstDeferTimeout (s : State) : exec (.lstDeferTimeout) s = execLstDeferTimeout s := rfl
@[simp] theorem exec_lstStopChange (s : State) : exec (.lstStopChange) s = execLstStopChange s := rfl
@[simp] theorem exec_lstDisarm (ini : _) (w : _) (s : State) : exec (.lstDisarm ini w) s = execLstDisarm ini w s := rfl
@[simp] theorem exec_lstArmTimeout (s : State) : exec (.lstArmTimeout) s = execLstArmTimeout s := rfl
@[simp] theorem exec_lstClrCounts (ini : _) (w : _) (s : State) : exec (.lstClrCounts ini w) s = execLstClrCounts ini w s := rfl
@[simp] theorem exec_lstModelBegin (ini : _) (w : _) (s : State) : exec (.lstModelBegin ini w) s = execLstModelBegin ini w s := rfl
@[simp] theorem exec_lstModelWinWrite (ini : _) (k : _) (w : _) (s : State) : exec (.lstModelWinWrite ini k w) s = execLstModelWinWrite ini k w s := rfl
@[simp] theorem exec_lstModelEnd (ini : _) (w : _) (s : State) : exec (.lstModelEnd ini w) s = execLstModelEnd ini w s := rfl
@[simp] theorem exec_lstModelCheckDone (s : State) : exec (.lstModelCheckDone) s = execLstModelCheckDone s := rfl
@[simp] theorem exec_snsRunWrite (ini : _) (w : _) (s : State) : exec (.snsRunWrite ini w) s = execSnsRunWrite ini w s := rfl
@[simp] theorem exec_snsHwTrigger (s : State) : exec (.snsHwTrigger) s = execSnsHwTrigger s := rfl
@[simp] theorem exec_snsSwTrig (ini : _) (w : _) (s : State) : exec (.snsSwTrig ini w) s = execSnsSwTrig ini w s := rfl
@[simp] theorem exec_snsAbort (ini : _) (w : _) (s : State) : exec (.snsAbort ini w) s = execSnsAbort ini w s := rfl
@[simp] theorem exec_snsReedConvDone (code : _) (ticks : _) (s : State) : exec (.snsReedConvDone code ticks) s = execSnsReedConvDone code ticks s := rfl
@[simp] theorem exec_snsIntEntryDone (q : _) (s : State) : exec (.snsIntEntryDone q) s = execSnsIntEntryDone q s := rfl
@[simp] theorem exec_snsRunDone (s : State) : exec (.snsRunDone) s = execSnsRunDone s := rfl
@[simp] theorem exec_snsUrgentStart (ini : _) (w : _) (s : State) : exec (.snsUrgentStart ini w) s = execSnsUrgentStart ini w s := rfl
@[simp] theorem exec_snsResultRead (ini : _) (s : State) : exec (.snsResultRead ini) s = execSnsResultRead ini s := rfl
@[simp] theorem exec_snsDroneWrite (ini : _) (k : _) (w : _) (s : State) : exec (.snsDroneWrite ini k w) s = execSnsDroneWrite ini k w s := rfl
@[simp] theorem exec_snsPpWrite (ini : _) (w : _) (s : State) : exec (.snsPpWrite ini w) s = execSnsPpWrite ini w s := rfl
@[simp] theorem exec_snsDiagStart (ini : _) (w : _) (s : State) : exec (.snsDiagStart ini w) s = execSnsDiagStart ini w s := rfl
@[simp] theorem exec_snsDiagDone (a : _) (b : _) (last : _) (s : State) : exec (.snsDiagDone a b last) s = execSnsDiagDone a b last s := rfl
@[simp] theorem exec_adcSliceTestDone (a : _) (l0 : _) (l1 : _) (l2 : _) (l3 : _) (l4 : _) (stuck : _) (s : State) : exec (.adcSliceTestDone a l0 l1 l2 l3 l4 stuck) s = execAdcSliceTestDone a l0 l1 l2 l3 l4 stuck s := rfl
@[simp] theorem exec_dacSliceTestDone (d : _) (l0 : _) (l1 : _) (l2 : _) (l3 : _) (l4 : _) (elem : _) (s : State) : exec (.dacSliceTestDone d l0 l1 l2 l3 l4 elem) s = execDacSliceTestDone d l0 l1 l2 l3 l4 elem s := rfl
@[simp] theorem exec_snsCntClr (ini : _) (w : _) (s : State) : exec (.snsCntClr ini w) s = execSnsCntClr ini w s := rfl
@[simp] theorem exec_pwrGo (ini : _) (w : _) (s : State) : exec (.pwrGo ini w) s = execPwrGo ini w s := rfl
@[simp] theorem exec_pwrQuiesceTimeout (silent : _) (us : _) (found : _) (s : State) :
    exec (.pwrQuiesceTimeout silent us found) s = execPwrQuiesceTimeout silent us found s := rfl
@[simp] theorem exec_pwrCancel (ini : _) (w : _) (s : State) : exec (.pwrCancel ini w) s = execPwrCancel ini w s := rfl
@[simp] theorem exec_pwrEntryComplete (cut : _) (s : State) : exec (.pwrEntryComplete cut) s = execPwrEntryComplete cut s := rfl
@[simp] theorem exec_pwrWakeSource (code : _) (s : State) : exec (.pwrWakeSource code) s = execPwrWakeSource code s := rfl
@[simp] theorem exec_pwrWakeTimerExpire (s : State) : exec (.pwrWakeTimerExpire) s = execPwrWakeTimerExpire s := rfl
@[simp] theorem exec_pwrWakeComplete (us : _) (ms : _) (plls : _) (found : _) (lost : _) (pgood : _) (s : State) : exec (.pwrWakeComplete us ms plls found lost pgood) s = execPwrWakeComplete us ms plls found lost pgood s := rfl
@[simp] theorem exec_pwrAcctClr (ini : _) (w : _) (s : State) : exec (.pwrAcctClr ini w) s = execPwrAcctClr ini w s := rfl
@[simp] theorem exec_pmbLinkStart (why : _) (mode : _) (vout : _) (s : State) : exec (.pmbLinkStart why mode vout) s = execPmbLinkStart why mode vout s := rfl
@[simp] theorem exec_pmbVoutRequest (s : State) : exec (.pmbVoutRequest) s = execPmbVoutRequest s := rfl
@[simp] theorem exec_pmbSettleExpire (vout : _) (s : State) : exec (.pmbSettleExpire vout) s = execPmbSettleExpire vout s := rfl
@[simp] theorem exec_pmbRequestAck (vout : _) (s : State) : exec (.pmbRequestAck vout) s = execPmbRequestAck vout s := rfl
@[simp] theorem exec_pmbRequestFail (status : _) (why : _) (s : State) : exec (.pmbRequestFail status why) s = execPmbRequestFail status why s := rfl
@[simp] theorem exec_pmbBackoffEnd (s : State) : exec (.pmbBackoffEnd) s = execPmbBackoffEnd s := rfl
@[simp] theorem exec_pmbCmdReadNow (ini : _) (why : _) (vout : _) (status : _) (w : _) (s : State) : exec (.pmbCmdReadNow ini why vout status w) s = execPmbCmdReadNow ini why vout status w s := rfl
@[simp] theorem exec_pmbCmdClearFaults (ini : _) (why : _) (w : _) (s : State) : exec (.pmbCmdClearFaults ini why w) s = execPmbCmdClearFaults ini why w s := rfl
@[simp] theorem exec_pmbCntClr (ini : _) (w : _) (s : State) : exec (.pmbCntClr ini w) s = execPmbCntClr ini w s := rfl
@[simp] theorem exec_blwConfigWrite (ini : _) (r : _) (w : _) (s : State) : exec (.blwConfigWrite ini r w) s = execBlwConfigWrite ini r w s := rfl
@[simp] theorem exec_blwCold (ini : _) (w : _) (s : State) : exec (.blwCold ini w) s = execBlwCold ini w s := rfl
@[simp] theorem exec_blwClrCounts (ini : _) (w : _) (s : State) : exec (.blwClrCounts ini w) s = execBlwClrCounts ini w s := rfl
@[simp] theorem exec_memSkimVisit (k : _) (syn : _) (item : _) (s : State) : exec (.memSkimVisit k syn item) s = execMemSkimVisit k syn item s := rfl
@[simp] theorem exec_memHardFault (s : State) : exec (.memHardFault) s = execMemHardFault s := rfl
@[simp] theorem exec_memBankLapEnd (k : _) (ms : _) (s : State) : exec (.memBankLapEnd k ms) s = execMemBankLapEnd k ms s := rfl
@[simp] theorem exec_memOverallLapEnd (ms : _) (s : State) : exec (.memOverallLapEnd ms) s = execMemOverallLapEnd ms s := rfl
@[simp] theorem exec_rowRemapDone (k : _) (found : _) (s : State) : exec (.rowRemapDone k found) s = execRowRemapDone k found s := rfl
@[simp] theorem exec_migrateDone (k : _) (found : _) (s : State) : exec (.migrateDone k found) s = execMigrateDone k found s := rfl
@[simp] theorem exec_memWipeReq (ini : _) (w : _) (s : State) : exec (.memWipeReq ini w) s = execMemWipeReq ini w s := rfl
@[simp] theorem exec_wipeDone (s : State) : exec (.wipeDone) s = execWipeDone s := rfl
@[simp] theorem exec_memClrTrack (ini : _) (w : _) (s : State) : exec (.memClrTrack ini w) s = execMemClrTrack ini w s := rfl
@[simp] theorem exec_memClrCounts (ini : _) (w : _) (s : State) : exec (.memClrCounts ini w) s = execMemClrCounts ini w s := rfl
@[simp] theorem exec_smbWriteBlock (bytes : _) (s : State) : exec (.smbWriteBlock bytes) s = execSmbWriteBlock bytes s := rfl
@[simp] theorem exec_smbReadBlock (bytes : _) (s : State) : exec (.smbReadBlock bytes) s = execSmbReadBlock bytes s := rfl
@[simp] theorem exec_smbStatus (s : State) : exec (.smbStatus) s = execSmbStatus s := rfl
@[simp] theorem exec_smbRmw (bytes : _) (s : State) : exec (.smbRmw bytes) s = execSmbRmw bytes s := rfl
@[simp] theorem exec_smbWake (s : State) : exec (.smbWake) s = execSmbWake s := rfl
@[simp] theorem exec_smbBadCommand (cmd : _) (s : State) : exec (.smbBadCommand cmd) s = execSmbBadCommand cmd s := rfl
@[simp] theorem exec_smbOtherAddress (a : _) (s : State) : exec (.smbOtherAddress a) s = execSmbOtherAddress a s := rfl
@[simp] theorem exec_smbDeepMatch (cmd : _) (s : State) : exec (.smbDeepMatch cmd) s = execSmbDeepMatch cmd s := rfl
@[simp] theorem exec_smbSclTimeout (cut : _) (s : State) : exec (.smbSclTimeout cut) s = execSmbSclTimeout cut s := rfl
@[simp] theorem exec_smbSdaRelease (cut : _) (s : State) : exec (.smbSdaRelease cut) s = execSmbSdaRelease cut s := rfl
@[simp] theorem exec_hostNotifyEval (idle : _) (s : State) : exec (.hostNotifyEval idle) s = execHostNotifyEval idle s := rfl
@[simp] theorem exec_hostNotifyDone (s : State) : exec (.hostNotifyDone) s = execHostNotifyDone s := rfl
@[simp] theorem exec_hnArbLoss (s : State) : exec (.hnArbLoss) s = execHnArbLoss s := rfl
@[simp] theorem exec_hnNack (s : State) : exec (.hnNack) s = execHnNack s := rfl
@[simp] theorem exec_hnRetryExpire (s : State) : exec (.hnRetryExpire) s = execHnRetryExpire s := rfl
@[simp] theorem exec_busStuckDetect (port : _) (scl : _) (s : State) : exec (.busStuckDetect port scl) s = execBusStuckDetect port scl s := rfl
@[simp] theorem exec_busRecoveryTry (port : _) (clocks : _) (freed : _) (s : State) : exec (.busRecoveryTry port clocks freed) s = execBusRecoveryTry port clocks freed s := rfl
@[simp] theorem exec_smbRecRetry (ini : _) (port : _) (w : _) (s : State) : exec (.smbRecRetry ini port w) s = execSmbRecRetry ini port w s := rfl
@[simp] theorem exec_smbCntClr (ini : _) (w : _) (s : State) : exec (.smbCntClr ini w) s = execSmbCntClr ini w s := rfl
@[simp] theorem exec_ageingMeasure (slow : _) (s : State) : exec (.ageingMeasure slow) s = execAgeingMeasure slow s := rfl
@[simp] theorem exec_rotationStep (s : State) : exec (.rotationStep) s = execRotationStep s := rfl
@[simp] theorem exec_mntPostStart (ini : _) (w : _) (s : State) : exec (.mntPostStart ini w) s = execMntPostStart ini w s := rfl
@[simp] theorem exec_jobEnd (s : State) : exec (.jobEnd) s = execJobEnd s := rfl
@[simp] theorem exec_macSubstSwitch (s : State) : exec (.macSubstSwitch) s = execMacSubstSwitch s := rfl
@[simp] theorem exec_spareBankTestDone (b : _) (error : _) (s : State) : exec (.spareBankTestDone b error) s = execSpareBankTestDone b error s := rfl
@[simp] theorem exec_mntCntClr (ini : _) (w : _) (s : State) : exec (.mntCntClr ini w) s = execMntCntClr ini w s := rfl
@[simp] theorem exec_dbgFreezeReq (ini : _) (w : _) (s : State) : exec (.dbgFreezeReq ini w) s = execDbgFreezeReq ini w s := rfl
@[simp] theorem exec_freezeTakeHold (s : State) : exec (.freezeTakeHold) s = execFreezeTakeHold s := rfl
@[simp] theorem exec_dbgFreezeResume (ini : _) (level : _) (us : _) (w : _) (s : State) : exec (.dbgFreezeResume ini level us w) s = execDbgFreezeResume ini level us w s := rfl
@[simp] theorem exec_dbgCntClr (ini : _) (w : _) (s : State) : exec (.dbgCntClr ini w) s = execDbgCntClr ini w s := rfl
@[simp] theorem exec_jtagRegAccess (dr : _) (s : State) : exec (.jtagRegAccess dr) s = execJtagRegAccess dr s := rfl
@[simp] theorem exec_jtagSnapshot (dr : _) (s : State) : exec (.jtagSnapshot dr) s = execJtagSnapshot dr s := rfl
@[simp] theorem exec_jtagFreezeCtl (dr : _) (level : _) (us : _) (s : State) : exec (.jtagFreezeCtl dr level us) s = execJtagFreezeCtl dr level us s := rfl
@[simp] theorem exec_jtagExtest (captured : _) (driven : _) (s : State) : exec (.jtagExtest captured driven) s = execJtagExtest captured driven s := rfl
@[simp] theorem exec_jtagSamplePreload (captured : _) (driven : _) (s : State) : exec (.jtagSamplePreload captured driven) s = execJtagSamplePreload captured driven s := rfl
@[simp] theorem exec_jtagTestLogicReset (s : State) : exec (.jtagTestLogicReset) s = execJtagTestLogicReset s := rfl
@[simp] theorem exec_lcyCheckToken (ini : _) (w : _) (s : State) : exec (.lcyCheckToken ini w) s = execLcyCheckToken ini w s := rfl
@[simp] theorem exec_lcyCheckUnlock (ini : _) (w : _) (s : State) : exec (.lcyCheckUnlock ini w) s = execLcyCheckUnlock ini w s := rfl
@[simp] theorem exec_lcyCheckDone (s : State) : exec (.lcyCheckDone) s = execLcyCheckDone s := rfl
@[simp] theorem exec_lcyTransition (ini : _) (w : _) (s : State) : exec (.lcyTransition ini w) s = execLcyTransition ini w s := rfl
@[simp] theorem exec_lcyOtpProg (ini : _) (w : _) (s : State) : exec (.lcyOtpProg ini w) s = execLcyOtpProg ini w s := rfl
@[simp] theorem exec_lcyOtpRead (ini : _) (w : _) (s : State) : exec (.lcyOtpRead ini w) s = execLcyOtpRead ini w s := rfl
@[simp] theorem exec_otpAccessDone (verified : _) (s : State) : exec (.otpAccessDone verified) s = execOtpAccessDone verified s := rfl
@[simp] theorem exec_sysSwReset (ini : _) (w : _) (s : State) : exec (.sysSwReset ini w) s = execSysSwReset ini w s := rfl
@[simp] theorem exec_flashBoot (a : _) (b : _) (s : State) : exec (.flashBoot a b) s = execFlashBoot a b s := rfl
@[simp] theorem exec_imageCheck (s : State) : exec (.imageCheck) s = execImageCheck s := rfl
@[simp] theorem exec_imgWrite (s : State) : exec (.imgWrite) s = execImgWrite s := rfl
@[simp] theorem exec_imgRmw (s : State) : exec (.imgRmw) s = execImgRmw s := rfl
@[simp] theorem exec_imgWait (s : State) : exec (.imgWait) s = execImgWait s := rfl
@[simp] theorem exec_imgWaitPoll (s : State) : exec (.imgWaitPoll) s = execImgWaitPoll s := rfl
@[simp] theorem exec_imgDelay (s : State) : exec (.imgDelay) s = execImgDelay s := rfl
@[simp] theorem exec_imgDelayExpire (s : State) : exec (.imgDelayExpire) s = execImgDelayExpire s := rfl
@[simp] theorem exec_imgCommit (s : State) : exec (.imgCommit) s = execImgCommit s := rfl
@[simp] theorem exec_imgCommitComplete (timeout : _) (s : State) : exec (.imgCommitComplete timeout) s = execImgCommitComplete timeout s := rfl
@[simp] theorem exec_imgEnd (s : State) : exec (.imgEnd) s = execImgEnd s := rfl
@[simp] theorem exec_fllUnlock (s : State) : exec (.fllUnlock) s = execFllUnlock s := rfl
@[simp] theorem exec_usbSetConfiguration (c : _) (s : State) : exec (.usbSetConfiguration c) s = execUsbSetConfiguration c s := rfl
@[simp] theorem exec_usbSetAddress (a : _) (s : State) : exec (.usbSetAddress a) s = execUsbSetAddress a s := rfl
@[simp] theorem exec_jackBiasReady (n : _) (s : State) : exec (.jackBiasReady n) s = execJackBiasReady n s := rfl
@[simp] theorem exec_ainStopDone (n : _) (s : State) : exec (.ainStopDone n) s = execAinStopDone n s := rfl
@[simp] theorem exec_aoutStopDone (c : _) (s : State) : exec (.aoutStopDone c) s = execAoutStopDone c s := rfl
@[simp] theorem exec_spkStopDone (n : _) (s : State) : exec (.spkStopDone n) s = execSpkStopDone n s := rfl
@[simp] theorem exec_busStuckClear (port : _) (s : State) : exec (.busStuckClear port) s = execBusStuckClear port s := rfl
@[simp] theorem exec_usbForcedReconnect (s : State) : exec (.usbForcedReconnect) s = execUsbForcedReconnect s := rfl
@[simp] theorem exec_usbRwakeIdleWaitEnd (s : State) : exec (.usbRwakeIdleWaitEnd) s = execUsbRwakeIdleWaitEnd s := rfl
@[simp] theorem exec_spdifTxFrame (s : State) : exec (.spdifTxFrame) s = execSpdifTxFrame s := rfl
@[simp] theorem exec_lcyFuseDone (verified : _) (s : State) : exec (.lcyFuseDone verified) s = execLcyFuseDone verified s := rfl
@[simp] theorem exec_usbPhyPllLock (s : State) : exec (.usbPhyPllLock) s = execUsbPhyPllLock s := rfl
@[simp] theorem exec_usbPhyPllLockTimeout (s : State) : exec (.usbPhyPllLockTimeout) s = execUsbPhyPllLockTimeout s := rfl

end Sys2Proof.Machine
end

