-- ==== Sys2Proof/Laws/Sparse.lean ====
section
/-! SUPPORT. Laws of the sparse data and of vectors: a read after a write, and the canonical form that every write keeps. -/

namespace Sys2Proof.Machine

variable {α : Type}

/-- Reading the key just inserted. -/
theorem lookup_insertAt_self (l : List (Nat × α)) (k : Nat) (v d : α) (h : ∀ e ∈ l, e.1 ≠ k) :
    lookup (insertAt l k v) k d = v := by
  induction l with
  | nil => simp [insertAt, lookup]
  | cons e t ih =>
    obtain ⟨k', v'⟩ := e
    have hk : k' ≠ k := h _ (List.mem_cons_self ..)
    unfold insertAt
    split
    · simp [lookup]
    · simp [lookup, hk, ih (fun e he => h e (List.mem_cons_of_mem _ he))]

/-- An insertion leaves every other key. -/
theorem lookup_insertAt_ne (l : List (Nat × α)) {k j : Nat} (v d : α) (h : k ≠ j) :
    lookup (insertAt l k v) j d = lookup l j d := by
  induction l with
  | nil => simp [insertAt, lookup, h]
  | cons e t ih =>
    obtain ⟨k', v'⟩ := e
    unfold insertAt
    split
    · simp [lookup, h]
    · simp [lookup, ih]

/-- An erased key reads as its default. -/
theorem lookup_erase_self (l : List (Nat × α)) (k : Nat) (d : α) : lookup (erase l k) k d = d := by
  induction l with
  | nil => rfl
  | cons e t ih =>
    obtain ⟨k', v'⟩ := e
    by_cases hk : k' = k
    · simpa [erase, hk] using ih
    · simpa [erase, hk, lookup] using ih

/-- Erasing leaves every other key. -/
theorem lookup_erase_ne (l : List (Nat × α)) {k j : Nat} (d : α) (h : k ≠ j) : lookup (erase l k) j d = lookup l j d := by
  induction l with
  | nil => rfl
  | cons e t ih =>
    obtain ⟨k', v'⟩ := e
    by_cases hk : k' = k
    · subst hk
      simpa [erase, lookup, h] using ih
    · by_cases hj : k' = j
      · simp [erase, hj, lookup, Ne.symm h]
      · simpa [erase, hk, lookup, hj] using ih

variable [DecidableEq α]

/-- A read after a write of the same key gives the value written. -/
@[simp] theorem lookup_store_self (l : List (Nat × α)) (k : Nat) (v d : α) : lookup (store l k v d) k d = v := by
  unfold store
  split
  · next h => rw [h]; exact lookup_erase_self l k d
  · exact lookup_insertAt_self _ _ _ _ (by simp [erase])

/-- A write leaves every other key. -/
theorem lookup_store_ne (l : List (Nat × α)) {k j : Nat} (v d d' : α) (h : k ≠ j) :
    lookup (store l k v d) j d' = lookup l j d' := by
  unfold store
  split
  · exact lookup_erase_ne l d' h
  · rw [lookup_insertAt_ne _ _ _ h, lookup_erase_ne _ _ h]

/-- The canonical form, said of the list as a whole. -/
theorem canonical_iff (d : Nat → α) (l : List (Nat × α)) :
    canonical d l = true ↔ l.Pairwise (fun a b => a.1 < b.1) ∧ ∀ e ∈ l, e.2 ≠ d e.1 := by
  induction l with
  | nil => simp [canonical]
  | cons e t ih =>
    obtain ⟨k, v⟩ := e
    cases t with
    | nil => simp [canonical]
    | cons e' t' =>
      obtain ⟨k', v'⟩ := e'
      simp only [canonical, Bool.and_eq_true, decide_eq_true_eq, ih]
      constructor
      · rintro ⟨⟨hv, hk⟩, hp, hd⟩
        refine ⟨List.pairwise_cons.2 ⟨?_, hp⟩, ?_⟩
        · intro b hb
          rcases List.mem_cons.1 hb with rfl | hb
          · exact hk
          · exact lt_trans hk ((List.pairwise_cons.1 hp).1 b hb)
        · intro b hb
          rcases List.mem_cons.1 hb with rfl | hb
          · exact hv
          · exact hd b hb
      · rintro ⟨hp, hd⟩
        have hp' := List.pairwise_cons.1 hp
        exact ⟨⟨hd (k, v) (List.mem_cons_self ..), hp'.1 (k', v') (List.mem_cons_self ..)⟩, hp'.2,
          fun b hb => hd b (List.mem_cons_of_mem _ hb)⟩

/-- Members of an insertion. -/
theorem mem_insertAt (l : List (Nat × α)) (k : Nat) (v : α) (e : Nat × α) : e ∈ insertAt l k v ↔ e = (k, v) ∨ e ∈ l := by
  induction l with
  | nil => simp [insertAt]
  | cons e' t ih =>
    obtain ⟨k', v'⟩ := e'
    unfold insertAt
    split
    · simp
    · simp only [List.mem_cons, ih]; tauto

/-- Inserting an absent key keeps the keys rising. -/
theorem pairwise_insertAt (l : List (Nat × α)) (k : Nat) (v : α) (hp : l.Pairwise (fun a b => a.1 < b.1))
    (h : ∀ e ∈ l, e.1 ≠ k) : (insertAt l k v).Pairwise (fun a b => a.1 < b.1) := by
  induction l with
  | nil => simp [insertAt]
  | cons e t ih =>
    obtain ⟨k', v'⟩ := e
    have hp' := List.pairwise_cons.1 hp
    unfold insertAt
    split
    · next hk =>
      refine List.pairwise_cons.2 ⟨?_, hp⟩
      intro b hb
      rcases List.mem_cons.1 hb with rfl | hb
      · exact hk
      · exact lt_trans hk (hp'.1 b hb)
    · next hk =>
      refine List.pairwise_cons.2 ⟨?_, ih hp'.2 (fun e he => h e (List.mem_cons_of_mem _ he))⟩
      intro b hb
      have hne : k' ≠ k := h _ (List.mem_cons_self ..)
      rcases (mem_insertAt t k v b).1 hb with rfl | hb
      · show k' < k
        omega
      · exact hp'.1 b hb

/-- Every write keeps the canonical form. -/
theorem canonical_store (d : Nat → α) (l : List (Nat × α)) (k : Nat) (v : α) (h : canonical d l = true) :
    canonical d (store l k v (d k)) = true := by
  rw [canonical_iff] at h ⊢
  have he : (erase l k).Pairwise (fun a b => a.1 < b.1) := h.1.filter _
  have hd : ∀ e ∈ erase l k, e.2 ≠ d e.1 := fun e he => h.2 e (List.mem_of_mem_filter he)
  have hk : ∀ e ∈ erase l k, e.1 ≠ k := by simp [erase]
  unfold store
  split
  · exact ⟨he, hd⟩
  · next hv =>
    refine ⟨pairwise_insertAt _ _ _ he hk, ?_⟩
    intro e hm
    rcases (mem_insertAt _ _ _ _).1 hm with rfl | hm
    · exact hv
    · exact hd e hm

omit [DecidableEq α]

/-- Reading the element just updated. -/
theorem vget_vmod_self {n : Nat} (v : Vector α n) (k : Nat) (f : α → α) (d : α) (h : k < n) :
    vget (vmod v k f) k d = f (vget v k d) := by
  simp [vget, vmod, h]

/-- An update leaves every other element. -/
theorem vget_vmod_ne {n : Nat} (v : Vector α n) {k j : Nat} (f : α → α) (d : α) (h : k ≠ j) :
    vget (vmod v k f) j d = vget v j d := by
  unfold vget vmod
  split
  · rw [Vector.getElem?_setIfInBounds_ne h]
  · rfl

end Sys2Proof.Machine
end

