-- ==== Sys2Proof/Laws/State.lean ====
section
/-! SUPPORT. The fields of State under the named updates: what an update leaves alone, true by unfolding. -/

namespace Sys2Proof.Machine

variable (s : State)

/-! State.setReg writes only the register file. -/

@[simp] theorem State.setReg_jobs (a : Nat) (w : Word) : (s.setReg a w).jobs = s.jobs := rfl
@[simp] theorem State.setReg_jobSeq (a : Nat) (w : Word) : (s.setReg a w).jobSeq = s.jobSeq := rfl
@[simp] theorem State.setReg_lastJobId (a : Nat) (w : Word) : (s.setReg a w).lastJobId = s.lastJobId := rfl
@[simp] theorem State.setReg_free (a : Nat) (w : Word) : (s.setReg a w).free = s.free := rfl
@[simp] theorem State.setReg_pins (a : Nat) (w : Word) : (s.setReg a w).pins = s.pins := rfl
@[simp] theorem State.setReg_grants (a : Nat) (w : Word) : (s.setReg a w).grants = s.grants := rfl
@[simp] theorem State.setReg_domState (a : Nat) (w : Word) : (s.setReg a w).domState = s.domState := rfl
@[simp] theorem State.setReg_gated (a : Nat) (w : Word) : (s.setReg a w).gated = s.gated := rfl
@[simp] theorem State.setReg_quiet (a : Nat) (w : Word) : (s.setReg a w).quiet = s.quiet := rfl
@[simp] theorem State.setReg_poison (a : Nat) (w : Word) : (s.setReg a w).poison = s.poison := rfl
@[simp] theorem State.setReg_sram (a : Nat) (w : Word) : (s.setReg a w).sram = s.sram := rfl
@[simp] theorem State.setReg_ain (a : Nat) (w : Word) : (s.setReg a w).ain = s.ain := rfl
@[simp] theorem State.setReg_bias (a : Nat) (w : Word) : (s.setReg a w).bias = s.bias := rfl
@[simp] theorem State.setReg_beep (a : Nat) (w : Word) : (s.setReg a w).beep = s.beep := rfl
@[simp] theorem State.setReg_aslTrim (a : Nat) (w : Word) : (s.setReg a w).aslTrim = s.aslTrim := rfl
@[simp] theorem State.setReg_adcSubst (a : Nat) (w : Word) : (s.setReg a w).adcSubst = s.adcSubst := rfl
@[simp] theorem State.setReg_vrefaStarted (a : Nat) (w : Word) : (s.setReg a w).vrefaStarted = s.vrefaStarted := rfl
@[simp] theorem State.setReg_aout (a : Nat) (w : Word) : (s.setReg a w).aout = s.aout := rfl
@[simp] theorem State.setReg_jack (a : Nat) (w : Word) : (s.setReg a w).jack = s.jack := rfl
@[simp] theorem State.setReg_dslTrim (a : Nat) (w : Word) : (s.setReg a w).dslTrim = s.dslTrim := rfl
@[simp] theorem State.setReg_dacSubst (a : Nat) (w : Word) : (s.setReg a w).dacSubst = s.dacSubst := rfl
@[simp] theorem State.setReg_vrefbStarted (a : Nat) (w : Word) : (s.setReg a w).vrefbStarted = s.vrefbStarted := rfl
@[simp] theorem State.setReg_cpFault (a : Nat) (w : Word) : (s.setReg a w).cpFault = s.cpFault := rfl
@[simp] theorem State.setReg_cpStop (a : Nat) (w : Word) : (s.setReg a w).cpStop = s.cpStop := rfl
@[simp] theorem State.setReg_spk (a : Nat) (w : Word) : (s.setReg a w).spk = s.spk := rfl
@[simp] theorem State.setReg_lanes (a : Nat) (w : Word) : (s.setReg a w).lanes = s.lanes := rfl
@[simp] theorem State.setReg_coefPend (a : Nat) (w : Word) : (s.setReg a w).coefPend = s.coefPend := rfl
@[simp] theorem State.setReg_poolFree (a : Nat) (w : Word) : (s.setReg a w).poolFree = s.poolFree := rfl
@[simp] theorem State.setReg_xpPend (a : Nat) (w : Word) : (s.setReg a w).xpPend = s.xpPend := rfl
@[simp] theorem State.setReg_xpAct (a : Nat) (w : Word) : (s.setReg a w).xpAct = s.xpAct := rfl
@[simp] theorem State.setReg_xpRamp (a : Nat) (w : Word) : (s.setReg a w).xpRamp = s.xpRamp := rfl
@[simp] theorem State.setReg_sinkAct (a : Nat) (w : Word) : (s.setReg a w).sinkAct = s.sinkAct := rfl
@[simp] theorem State.setReg_sinkFade (a : Nat) (w : Word) : (s.setReg a w).sinkFade = s.sinkFade := rfl
@[simp] theorem State.setReg_tapFade (a : Nat) (w : Word) : (s.setReg a w).tapFade = s.tapFade := rfl
@[simp] theorem State.setReg_bus (a : Nat) (w : Word) : (s.setReg a w).bus = s.bus := rfl
@[simp] theorem State.setReg_fifTarget (a : Nat) (w : Word) : (s.setReg a w).fifTarget = s.fifTarget := rfl
@[simp] theorem State.setReg_ainTap (a : Nat) (w : Word) : (s.setReg a w).ainTap = s.ainTap := rfl
@[simp] theorem State.setReg_sap (a : Nat) (w : Word) : (s.setReg a w).sap = s.sap := rfl
@[simp] theorem State.setReg_pdm (a : Nat) (w : Word) : (s.setReg a w).pdm = s.pdm := rfl
@[simp] theorem State.setReg_mics (a : Nat) (w : Word) : (s.setReg a w).mics = s.mics := rfl
@[simp] theorem State.setReg_spdRx (a : Nat) (w : Word) : (s.setReg a w).spdRx = s.spdRx := rfl
@[simp] theorem State.setReg_spdTx (a : Nat) (w : Word) : (s.setReg a w).spdTx = s.spdTx := rfl
@[simp] theorem State.setReg_trk (a : Nat) (w : Word) : (s.setReg a w).trk = s.trk := rfl
@[simp] theorem State.setReg_mains (a : Nat) (w : Word) : (s.setReg a w).mains = s.mains := rfl
@[simp] theorem State.setReg_feChange (a : Nat) (w : Word) : (s.setReg a w).feChange = s.feChange := rfl
@[simp] theorem State.setReg_engStop (a : Nat) (w : Word) : (s.setReg a w).engStop = s.engStop := rfl
@[simp] theorem State.setReg_opHeld (a : Nat) (w : Word) : (s.setReg a w).opHeld = s.opHeld := rfl
@[simp] theorem State.setReg_tkoOn (a : Nat) (w : Word) : (s.setReg a w).tkoOn = s.tkoOn := rfl
@[simp] theorem State.setReg_tko (a : Nat) (w : Word) : (s.setReg a w).tko = s.tko := rfl
@[simp] theorem State.setReg_pllTest (a : Nat) (w : Word) : (s.setReg a w).pllTest = s.pllTest := rfl
@[simp] theorem State.setReg_lst (a : Nat) (w : Word) : (s.setReg a w).lst = s.lst := rfl
@[simp] theorem State.setReg_usb (a : Nat) (w : Word) : (s.setReg a w).usb = s.usb := rfl
@[simp] theorem State.setReg_pwr (a : Nat) (w : Word) : (s.setReg a w).pwr = s.pwr := rfl
@[simp] theorem State.setReg_sns (a : Nat) (w : Word) : (s.setReg a w).sns = s.sns := rfl
@[simp] theorem State.setReg_pmb (a : Nat) (w : Word) : (s.setReg a w).pmb = s.pmb := rfl
@[simp] theorem State.setReg_opNext (a : Nat) (w : Word) : (s.setReg a w).opNext = s.opNext := rfl
@[simp] theorem State.setReg_blw (a : Nat) (w : Word) : (s.setReg a w).blw = s.blw := rfl
@[simp] theorem State.setReg_mem (a : Nat) (w : Word) : (s.setReg a w).mem = s.mem := rfl
@[simp] theorem State.setReg_stalled (a : Nat) (w : Word) : (s.setReg a w).stalled = s.stalled := rfl
@[simp] theorem State.setReg_smb (a : Nat) (w : Word) : (s.setReg a w).smb = s.smb := rfl
@[simp] theorem State.setReg_otp (a : Nat) (w : Word) : (s.setReg a w).otp = s.otp := rfl
@[simp] theorem State.setReg_mac (a : Nat) (w : Word) : (s.setReg a w).mac = s.mac := rfl
@[simp] theorem State.setReg_bankTest (a : Nat) (w : Word) : (s.setReg a w).bankTest = s.bankTest := rfl
@[simp] theorem State.setReg_rotMs (a : Nat) (w : Word) : (s.setReg a w).rotMs = s.rotMs := rfl
@[simp] theorem State.setReg_rotDue (a : Nat) (w : Word) : (s.setReg a w).rotDue = s.rotDue := rfl
@[simp] theorem State.setReg_lcy (a : Nat) (w : Word) : (s.setReg a w).lcy = s.lcy := rfl
@[simp] theorem State.setReg_jtag (a : Nat) (w : Word) : (s.setReg a w).jtag = s.jtag := rfl
@[simp] theorem State.setReg_freezeArmed (a : Nat) (w : Word) : (s.setReg a w).freezeArmed = s.freezeArmed := rfl
@[simp] theorem State.setReg_boot (a : Nat) (w : Word) : (s.setReg a w).boot = s.boot := rfl
@[simp] theorem State.setReg_keptMgmt (a : Nat) (w : Word) : (s.setReg a w).keptMgmt = s.keptMgmt := rfl
@[simp] theorem State.setReg_keptUsb (a : Nat) (w : Word) : (s.setReg a w).keptUsb = s.keptUsb := rfl
@[simp] theorem State.setReg_famOut (a : Nat) (w : Word) : (s.setReg a w).famOut = s.famOut := rfl
@[simp] theorem State.setReg_seen (a : Nat) (w : Word) : (s.setReg a w).seen = s.seen := rfl
@[simp] theorem State.setReg_answers (a : Nat) (w : Word) : (s.setReg a w).answers = s.answers := rfl
@[simp] theorem State.setReg_ldr (a : Nat) (w : Word) : (s.setReg a w).ldr = s.ldr := rfl
@[simp] theorem State.setReg_pending (a : Nat) (w : Word) : (s.setReg a w).pending = s.pending := rfl

/-! State.set writes only the register file. -/

@[simp] theorem State.set_jobs (f : Fld) (v : Nat) : (s.set f v).jobs = s.jobs := rfl
@[simp] theorem State.set_jobSeq (f : Fld) (v : Nat) : (s.set f v).jobSeq = s.jobSeq := rfl
@[simp] theorem State.set_lastJobId (f : Fld) (v : Nat) : (s.set f v).lastJobId = s.lastJobId := rfl
@[simp] theorem State.set_free (f : Fld) (v : Nat) : (s.set f v).free = s.free := rfl
@[simp] theorem State.set_pins (f : Fld) (v : Nat) : (s.set f v).pins = s.pins := rfl
@[simp] theorem State.set_grants (f : Fld) (v : Nat) : (s.set f v).grants = s.grants := rfl
@[simp] theorem State.set_domState (f : Fld) (v : Nat) : (s.set f v).domState = s.domState := rfl
@[simp] theorem State.set_gated (f : Fld) (v : Nat) : (s.set f v).gated = s.gated := rfl
@[simp] theorem State.set_quiet (f : Fld) (v : Nat) : (s.set f v).quiet = s.quiet := rfl
@[simp] theorem State.set_poison (f : Fld) (v : Nat) : (s.set f v).poison = s.poison := rfl
@[simp] theorem State.set_sram (f : Fld) (v : Nat) : (s.set f v).sram = s.sram := rfl
@[simp] theorem State.set_ain (f : Fld) (v : Nat) : (s.set f v).ain = s.ain := rfl
@[simp] theorem State.set_bias (f : Fld) (v : Nat) : (s.set f v).bias = s.bias := rfl
@[simp] theorem State.set_beep (f : Fld) (v : Nat) : (s.set f v).beep = s.beep := rfl
@[simp] theorem State.set_aslTrim (f : Fld) (v : Nat) : (s.set f v).aslTrim = s.aslTrim := rfl
@[simp] theorem State.set_adcSubst (f : Fld) (v : Nat) : (s.set f v).adcSubst = s.adcSubst := rfl
@[simp] theorem State.set_vrefaStarted (f : Fld) (v : Nat) : (s.set f v).vrefaStarted = s.vrefaStarted := rfl
@[simp] theorem State.set_aout (f : Fld) (v : Nat) : (s.set f v).aout = s.aout := rfl
@[simp] theorem State.set_jack (f : Fld) (v : Nat) : (s.set f v).jack = s.jack := rfl
@[simp] theorem State.set_dslTrim (f : Fld) (v : Nat) : (s.set f v).dslTrim = s.dslTrim := rfl
@[simp] theorem State.set_dacSubst (f : Fld) (v : Nat) : (s.set f v).dacSubst = s.dacSubst := rfl
@[simp] theorem State.set_vrefbStarted (f : Fld) (v : Nat) : (s.set f v).vrefbStarted = s.vrefbStarted := rfl
@[simp] theorem State.set_cpFault (f : Fld) (v : Nat) : (s.set f v).cpFault = s.cpFault := rfl
@[simp] theorem State.set_cpStop (f : Fld) (v : Nat) : (s.set f v).cpStop = s.cpStop := rfl
@[simp] theorem State.set_spk (f : Fld) (v : Nat) : (s.set f v).spk = s.spk := rfl
@[simp] theorem State.set_lanes (f : Fld) (v : Nat) : (s.set f v).lanes = s.lanes := rfl
@[simp] theorem State.set_coefPend (f : Fld) (v : Nat) : (s.set f v).coefPend = s.coefPend := rfl
@[simp] theorem State.set_poolFree (f : Fld) (v : Nat) : (s.set f v).poolFree = s.poolFree := rfl
@[simp] theorem State.set_xpPend (f : Fld) (v : Nat) : (s.set f v).xpPend = s.xpPend := rfl
@[simp] theorem State.set_xpAct (f : Fld) (v : Nat) : (s.set f v).xpAct = s.xpAct := rfl
@[simp] theorem State.set_xpRamp (f : Fld) (v : Nat) : (s.set f v).xpRamp = s.xpRamp := rfl
@[simp] theorem State.set_sinkAct (f : Fld) (v : Nat) : (s.set f v).sinkAct = s.sinkAct := rfl
@[simp] theorem State.set_sinkFade (f : Fld) (v : Nat) : (s.set f v).sinkFade = s.sinkFade := rfl
@[simp] theorem State.set_tapFade (f : Fld) (v : Nat) : (s.set f v).tapFade = s.tapFade := rfl
@[simp] theorem State.set_bus (f : Fld) (v : Nat) : (s.set f v).bus = s.bus := rfl
@[simp] theorem State.set_fifTarget (f : Fld) (v : Nat) : (s.set f v).fifTarget = s.fifTarget := rfl
@[simp] theorem State.set_ainTap (f : Fld) (v : Nat) : (s.set f v).ainTap = s.ainTap := rfl
@[simp] theorem State.set_sap (f : Fld) (v : Nat) : (s.set f v).sap = s.sap := rfl
@[simp] theorem State.set_pdm (f : Fld) (v : Nat) : (s.set f v).pdm = s.pdm := rfl
@[simp] theorem State.set_mics (f : Fld) (v : Nat) : (s.set f v).mics = s.mics := rfl
@[simp] theorem State.set_spdRx (f : Fld) (v : Nat) : (s.set f v).spdRx = s.spdRx := rfl
@[simp] theorem State.set_spdTx (f : Fld) (v : Nat) : (s.set f v).spdTx = s.spdTx := rfl
@[simp] theorem State.set_trk (f : Fld) (v : Nat) : (s.set f v).trk = s.trk := rfl
@[simp] theorem State.set_mains (f : Fld) (v : Nat) : (s.set f v).mains = s.mains := rfl
@[simp] theorem State.set_feChange (f : Fld) (v : Nat) : (s.set f v).feChange = s.feChange := rfl
@[simp] theorem State.set_engStop (f : Fld) (v : Nat) : (s.set f v).engStop = s.engStop := rfl
@[simp] theorem State.set_opHeld (f : Fld) (v : Nat) : (s.set f v).opHeld = s.opHeld := rfl
@[simp] theorem State.set_tkoOn (f : Fld) (v : Nat) : (s.set f v).tkoOn = s.tkoOn := rfl
@[simp] theorem State.set_tko (f : Fld) (v : Nat) : (s.set f v).tko = s.tko := rfl
@[simp] theorem State.set_pllTest (f : Fld) (v : Nat) : (s.set f v).pllTest = s.pllTest := rfl
@[simp] theorem State.set_lst (f : Fld) (v : Nat) : (s.set f v).lst = s.lst := rfl
@[simp] theorem State.set_usb (f : Fld) (v : Nat) : (s.set f v).usb = s.usb := rfl
@[simp] theorem State.set_pwr (f : Fld) (v : Nat) : (s.set f v).pwr = s.pwr := rfl
@[simp] theorem State.set_sns (f : Fld) (v : Nat) : (s.set f v).sns = s.sns := rfl
@[simp] theorem State.set_pmb (f : Fld) (v : Nat) : (s.set f v).pmb = s.pmb := rfl
@[simp] theorem State.set_opNext (f : Fld) (v : Nat) : (s.set f v).opNext = s.opNext := rfl
@[simp] theorem State.set_blw (f : Fld) (v : Nat) : (s.set f v).blw = s.blw := rfl
@[simp] theorem State.set_mem (f : Fld) (v : Nat) : (s.set f v).mem = s.mem := rfl
@[simp] theorem State.set_stalled (f : Fld) (v : Nat) : (s.set f v).stalled = s.stalled := rfl
@[simp] theorem State.set_smb (f : Fld) (v : Nat) : (s.set f v).smb = s.smb := rfl
@[simp] theorem State.set_otp (f : Fld) (v : Nat) : (s.set f v).otp = s.otp := rfl
@[simp] theorem State.set_mac (f : Fld) (v : Nat) : (s.set f v).mac = s.mac := rfl
@[simp] theorem State.set_bankTest (f : Fld) (v : Nat) : (s.set f v).bankTest = s.bankTest := rfl
@[simp] theorem State.set_rotMs (f : Fld) (v : Nat) : (s.set f v).rotMs = s.rotMs := rfl
@[simp] theorem State.set_rotDue (f : Fld) (v : Nat) : (s.set f v).rotDue = s.rotDue := rfl
@[simp] theorem State.set_lcy (f : Fld) (v : Nat) : (s.set f v).lcy = s.lcy := rfl
@[simp] theorem State.set_jtag (f : Fld) (v : Nat) : (s.set f v).jtag = s.jtag := rfl
@[simp] theorem State.set_freezeArmed (f : Fld) (v : Nat) : (s.set f v).freezeArmed = s.freezeArmed := rfl
@[simp] theorem State.set_boot (f : Fld) (v : Nat) : (s.set f v).boot = s.boot := rfl
@[simp] theorem State.set_keptMgmt (f : Fld) (v : Nat) : (s.set f v).keptMgmt = s.keptMgmt := rfl
@[simp] theorem State.set_keptUsb (f : Fld) (v : Nat) : (s.set f v).keptUsb = s.keptUsb := rfl
@[simp] theorem State.set_famOut (f : Fld) (v : Nat) : (s.set f v).famOut = s.famOut := rfl
@[simp] theorem State.set_seen (f : Fld) (v : Nat) : (s.set f v).seen = s.seen := rfl
@[simp] theorem State.set_answers (f : Fld) (v : Nat) : (s.set f v).answers = s.answers := rfl
@[simp] theorem State.set_ldr (f : Fld) (v : Nat) : (s.set f v).ldr = s.ldr := rfl
@[simp] theorem State.set_pending (f : Fld) (v : Nat) : (s.set f v).pending = s.pending := rfl

/-! State.setB writes only the register file. -/

@[simp] theorem State.setB_jobs (f : Fld) (b : Bool) : (s.setB f b).jobs = s.jobs := rfl
@[simp] theorem State.setB_jobSeq (f : Fld) (b : Bool) : (s.setB f b).jobSeq = s.jobSeq := rfl
@[simp] theorem State.setB_lastJobId (f : Fld) (b : Bool) : (s.setB f b).lastJobId = s.lastJobId := rfl
@[simp] theorem State.setB_free (f : Fld) (b : Bool) : (s.setB f b).free = s.free := rfl
@[simp] theorem State.setB_pins (f : Fld) (b : Bool) : (s.setB f b).pins = s.pins := rfl
@[simp] theorem State.setB_grants (f : Fld) (b : Bool) : (s.setB f b).grants = s.grants := rfl
@[simp] theorem State.setB_domState (f : Fld) (b : Bool) : (s.setB f b).domState = s.domState := rfl
@[simp] theorem State.setB_gated (f : Fld) (b : Bool) : (s.setB f b).gated = s.gated := rfl
@[simp] theorem State.setB_quiet (f : Fld) (b : Bool) : (s.setB f b).quiet = s.quiet := rfl
@[simp] theorem State.setB_poison (f : Fld) (b : Bool) : (s.setB f b).poison = s.poison := rfl
@[simp] theorem State.setB_sram (f : Fld) (b : Bool) : (s.setB f b).sram = s.sram := rfl
@[simp] theorem State.setB_ain (f : Fld) (b : Bool) : (s.setB f b).ain = s.ain := rfl
@[simp] theorem State.setB_bias (f : Fld) (b : Bool) : (s.setB f b).bias = s.bias := rfl
@[simp] theorem State.setB_beep (f : Fld) (b : Bool) : (s.setB f b).beep = s.beep := rfl
@[simp] theorem State.setB_aslTrim (f : Fld) (b : Bool) : (s.setB f b).aslTrim = s.aslTrim := rfl
@[simp] theorem State.setB_adcSubst (f : Fld) (b : Bool) : (s.setB f b).adcSubst = s.adcSubst := rfl
@[simp] theorem State.setB_vrefaStarted (f : Fld) (b : Bool) : (s.setB f b).vrefaStarted = s.vrefaStarted := rfl
@[simp] theorem State.setB_aout (f : Fld) (b : Bool) : (s.setB f b).aout = s.aout := rfl
@[simp] theorem State.setB_jack (f : Fld) (b : Bool) : (s.setB f b).jack = s.jack := rfl
@[simp] theorem State.setB_dslTrim (f : Fld) (b : Bool) : (s.setB f b).dslTrim = s.dslTrim := rfl
@[simp] theorem State.setB_dacSubst (f : Fld) (b : Bool) : (s.setB f b).dacSubst = s.dacSubst := rfl
@[simp] theorem State.setB_vrefbStarted (f : Fld) (b : Bool) : (s.setB f b).vrefbStarted = s.vrefbStarted := rfl
@[simp] theorem State.setB_cpFault (f : Fld) (b : Bool) : (s.setB f b).cpFault = s.cpFault := rfl
@[simp] theorem State.setB_cpStop (f : Fld) (b : Bool) : (s.setB f b).cpStop = s.cpStop := rfl
@[simp] theorem State.setB_spk (f : Fld) (b : Bool) : (s.setB f b).spk = s.spk := rfl
@[simp] theorem State.setB_lanes (f : Fld) (b : Bool) : (s.setB f b).lanes = s.lanes := rfl
@[simp] theorem State.setB_coefPend (f : Fld) (b : Bool) : (s.setB f b).coefPend = s.coefPend := rfl
@[simp] theorem State.setB_poolFree (f : Fld) (b : Bool) : (s.setB f b).poolFree = s.poolFree := rfl
@[simp] theorem State.setB_xpPend (f : Fld) (b : Bool) : (s.setB f b).xpPend = s.xpPend := rfl
@[simp] theorem State.setB_xpAct (f : Fld) (b : Bool) : (s.setB f b).xpAct = s.xpAct := rfl
@[simp] theorem State.setB_xpRamp (f : Fld) (b : Bool) : (s.setB f b).xpRamp = s.xpRamp := rfl
@[simp] theorem State.setB_sinkAct (f : Fld) (b : Bool) : (s.setB f b).sinkAct = s.sinkAct := rfl
@[simp] theorem State.setB_sinkFade (f : Fld) (b : Bool) : (s.setB f b).sinkFade = s.sinkFade := rfl
@[simp] theorem State.setB_tapFade (f : Fld) (b : Bool) : (s.setB f b).tapFade = s.tapFade := rfl
@[simp] theorem State.setB_bus (f : Fld) (b : Bool) : (s.setB f b).bus = s.bus := rfl
@[simp] theorem State.setB_fifTarget (f : Fld) (b : Bool) : (s.setB f b).fifTarget = s.fifTarget := rfl
@[simp] theorem State.setB_ainTap (f : Fld) (b : Bool) : (s.setB f b).ainTap = s.ainTap := rfl
@[simp] theorem State.setB_sap (f : Fld) (b : Bool) : (s.setB f b).sap = s.sap := rfl
@[simp] theorem State.setB_pdm (f : Fld) (b : Bool) : (s.setB f b).pdm = s.pdm := rfl
@[simp] theorem State.setB_mics (f : Fld) (b : Bool) : (s.setB f b).mics = s.mics := rfl
@[simp] theorem State.setB_spdRx (f : Fld) (b : Bool) : (s.setB f b).spdRx = s.spdRx := rfl
@[simp] theorem State.setB_spdTx (f : Fld) (b : Bool) : (s.setB f b).spdTx = s.spdTx := rfl
@[simp] theorem State.setB_trk (f : Fld) (b : Bool) : (s.setB f b).trk = s.trk := rfl
@[simp] theorem State.setB_mains (f : Fld) (b : Bool) : (s.setB f b).mains = s.mains := rfl
@[simp] theorem State.setB_feChange (f : Fld) (b : Bool) : (s.setB f b).feChange = s.feChange := rfl
@[simp] theorem State.setB_engStop (f : Fld) (b : Bool) : (s.setB f b).engStop = s.engStop := rfl
@[simp] theorem State.setB_opHeld (f : Fld) (b : Bool) : (s.setB f b).opHeld = s.opHeld := rfl
@[simp] theorem State.setB_tkoOn (f : Fld) (b : Bool) : (s.setB f b).tkoOn = s.tkoOn := rfl
@[simp] theorem State.setB_tko (f : Fld) (b : Bool) : (s.setB f b).tko = s.tko := rfl
@[simp] theorem State.setB_pllTest (f : Fld) (b : Bool) : (s.setB f b).pllTest = s.pllTest := rfl
@[simp] theorem State.setB_lst (f : Fld) (b : Bool) : (s.setB f b).lst = s.lst := rfl
@[simp] theorem State.setB_usb (f : Fld) (b : Bool) : (s.setB f b).usb = s.usb := rfl
@[simp] theorem State.setB_pwr (f : Fld) (b : Bool) : (s.setB f b).pwr = s.pwr := rfl
@[simp] theorem State.setB_sns (f : Fld) (b : Bool) : (s.setB f b).sns = s.sns := rfl
@[simp] theorem State.setB_pmb (f : Fld) (b : Bool) : (s.setB f b).pmb = s.pmb := rfl
@[simp] theorem State.setB_opNext (f : Fld) (b : Bool) : (s.setB f b).opNext = s.opNext := rfl
@[simp] theorem State.setB_blw (f : Fld) (b : Bool) : (s.setB f b).blw = s.blw := rfl
@[simp] theorem State.setB_mem (f : Fld) (b : Bool) : (s.setB f b).mem = s.mem := rfl
@[simp] theorem State.setB_stalled (f : Fld) (b : Bool) : (s.setB f b).stalled = s.stalled := rfl
@[simp] theorem State.setB_smb (f : Fld) (b : Bool) : (s.setB f b).smb = s.smb := rfl
@[simp] theorem State.setB_otp (f : Fld) (b : Bool) : (s.setB f b).otp = s.otp := rfl
@[simp] theorem State.setB_mac (f : Fld) (b : Bool) : (s.setB f b).mac = s.mac := rfl
@[simp] theorem State.setB_bankTest (f : Fld) (b : Bool) : (s.setB f b).bankTest = s.bankTest := rfl
@[simp] theorem State.setB_rotMs (f : Fld) (b : Bool) : (s.setB f b).rotMs = s.rotMs := rfl
@[simp] theorem State.setB_rotDue (f : Fld) (b : Bool) : (s.setB f b).rotDue = s.rotDue := rfl
@[simp] theorem State.setB_lcy (f : Fld) (b : Bool) : (s.setB f b).lcy = s.lcy := rfl
@[simp] theorem State.setB_jtag (f : Fld) (b : Bool) : (s.setB f b).jtag = s.jtag := rfl
@[simp] theorem State.setB_freezeArmed (f : Fld) (b : Bool) : (s.setB f b).freezeArmed = s.freezeArmed := rfl
@[simp] theorem State.setB_boot (f : Fld) (b : Bool) : (s.setB f b).boot = s.boot := rfl
@[simp] theorem State.setB_keptMgmt (f : Fld) (b : Bool) : (s.setB f b).keptMgmt = s.keptMgmt := rfl
@[simp] theorem State.setB_keptUsb (f : Fld) (b : Bool) : (s.setB f b).keptUsb = s.keptUsb := rfl
@[simp] theorem State.setB_famOut (f : Fld) (b : Bool) : (s.setB f b).famOut = s.famOut := rfl
@[simp] theorem State.setB_seen (f : Fld) (b : Bool) : (s.setB f b).seen = s.seen := rfl
@[simp] theorem State.setB_answers (f : Fld) (b : Bool) : (s.setB f b).answers = s.answers := rfl
@[simp] theorem State.setB_ldr (f : Fld) (b : Bool) : (s.setB f b).ldr = s.ldr := rfl
@[simp] theorem State.setB_pending (f : Fld) (b : Bool) : (s.setB f b).pending = s.pending := rfl

/-! State.inc writes only the register file. -/

@[simp] theorem State.inc_jobs (f : Fld) : (s.inc f).jobs = s.jobs := rfl
@[simp] theorem State.inc_jobSeq (f : Fld) : (s.inc f).jobSeq = s.jobSeq := rfl
@[simp] theorem State.inc_lastJobId (f : Fld) : (s.inc f).lastJobId = s.lastJobId := rfl
@[simp] theorem State.inc_free (f : Fld) : (s.inc f).free = s.free := rfl
@[simp] theorem State.inc_pins (f : Fld) : (s.inc f).pins = s.pins := rfl
@[simp] theorem State.inc_grants (f : Fld) : (s.inc f).grants = s.grants := rfl
@[simp] theorem State.inc_domState (f : Fld) : (s.inc f).domState = s.domState := rfl
@[simp] theorem State.inc_gated (f : Fld) : (s.inc f).gated = s.gated := rfl
@[simp] theorem State.inc_quiet (f : Fld) : (s.inc f).quiet = s.quiet := rfl
@[simp] theorem State.inc_poison (f : Fld) : (s.inc f).poison = s.poison := rfl
@[simp] theorem State.inc_sram (f : Fld) : (s.inc f).sram = s.sram := rfl
@[simp] theorem State.inc_ain (f : Fld) : (s.inc f).ain = s.ain := rfl
@[simp] theorem State.inc_bias (f : Fld) : (s.inc f).bias = s.bias := rfl
@[simp] theorem State.inc_beep (f : Fld) : (s.inc f).beep = s.beep := rfl
@[simp] theorem State.inc_aslTrim (f : Fld) : (s.inc f).aslTrim = s.aslTrim := rfl
@[simp] theorem State.inc_adcSubst (f : Fld) : (s.inc f).adcSubst = s.adcSubst := rfl
@[simp] theorem State.inc_vrefaStarted (f : Fld) : (s.inc f).vrefaStarted = s.vrefaStarted := rfl
@[simp] theorem State.inc_aout (f : Fld) : (s.inc f).aout = s.aout := rfl
@[simp] theorem State.inc_jack (f : Fld) : (s.inc f).jack = s.jack := rfl
@[simp] theorem State.inc_dslTrim (f : Fld) : (s.inc f).dslTrim = s.dslTrim := rfl
@[simp] theorem State.inc_dacSubst (f : Fld) : (s.inc f).dacSubst = s.dacSubst := rfl
@[simp] theorem State.inc_vrefbStarted (f : Fld) : (s.inc f).vrefbStarted = s.vrefbStarted := rfl
@[simp] theorem State.inc_cpFault (f : Fld) : (s.inc f).cpFault = s.cpFault := rfl
@[simp] theorem State.inc_cpStop (f : Fld) : (s.inc f).cpStop = s.cpStop := rfl
@[simp] theorem State.inc_spk (f : Fld) : (s.inc f).spk = s.spk := rfl
@[simp] theorem State.inc_lanes (f : Fld) : (s.inc f).lanes = s.lanes := rfl
@[simp] theorem State.inc_coefPend (f : Fld) : (s.inc f).coefPend = s.coefPend := rfl
@[simp] theorem State.inc_poolFree (f : Fld) : (s.inc f).poolFree = s.poolFree := rfl
@[simp] theorem State.inc_xpPend (f : Fld) : (s.inc f).xpPend = s.xpPend := rfl
@[simp] theorem State.inc_xpAct (f : Fld) : (s.inc f).xpAct = s.xpAct := rfl
@[simp] theorem State.inc_xpRamp (f : Fld) : (s.inc f).xpRamp = s.xpRamp := rfl
@[simp] theorem State.inc_sinkAct (f : Fld) : (s.inc f).sinkAct = s.sinkAct := rfl
@[simp] theorem State.inc_sinkFade (f : Fld) : (s.inc f).sinkFade = s.sinkFade := rfl
@[simp] theorem State.inc_tapFade (f : Fld) : (s.inc f).tapFade = s.tapFade := rfl
@[simp] theorem State.inc_bus (f : Fld) : (s.inc f).bus = s.bus := rfl
@[simp] theorem State.inc_fifTarget (f : Fld) : (s.inc f).fifTarget = s.fifTarget := rfl
@[simp] theorem State.inc_ainTap (f : Fld) : (s.inc f).ainTap = s.ainTap := rfl
@[simp] theorem State.inc_sap (f : Fld) : (s.inc f).sap = s.sap := rfl
@[simp] theorem State.inc_pdm (f : Fld) : (s.inc f).pdm = s.pdm := rfl
@[simp] theorem State.inc_mics (f : Fld) : (s.inc f).mics = s.mics := rfl
@[simp] theorem State.inc_spdRx (f : Fld) : (s.inc f).spdRx = s.spdRx := rfl
@[simp] theorem State.inc_spdTx (f : Fld) : (s.inc f).spdTx = s.spdTx := rfl
@[simp] theorem State.inc_trk (f : Fld) : (s.inc f).trk = s.trk := rfl
@[simp] theorem State.inc_mains (f : Fld) : (s.inc f).mains = s.mains := rfl
@[simp] theorem State.inc_feChange (f : Fld) : (s.inc f).feChange = s.feChange := rfl
@[simp] theorem State.inc_engStop (f : Fld) : (s.inc f).engStop = s.engStop := rfl
@[simp] theorem State.inc_opHeld (f : Fld) : (s.inc f).opHeld = s.opHeld := rfl
@[simp] theorem State.inc_tkoOn (f : Fld) : (s.inc f).tkoOn = s.tkoOn := rfl
@[simp] theorem State.inc_tko (f : Fld) : (s.inc f).tko = s.tko := rfl
@[simp] theorem State.inc_pllTest (f : Fld) : (s.inc f).pllTest = s.pllTest := rfl
@[simp] theorem State.inc_lst (f : Fld) : (s.inc f).lst = s.lst := rfl
@[simp] theorem State.inc_usb (f : Fld) : (s.inc f).usb = s.usb := rfl
@[simp] theorem State.inc_pwr (f : Fld) : (s.inc f).pwr = s.pwr := rfl
@[simp] theorem State.inc_sns (f : Fld) : (s.inc f).sns = s.sns := rfl
@[simp] theorem State.inc_pmb (f : Fld) : (s.inc f).pmb = s.pmb := rfl
@[simp] theorem State.inc_opNext (f : Fld) : (s.inc f).opNext = s.opNext := rfl
@[simp] theorem State.inc_blw (f : Fld) : (s.inc f).blw = s.blw := rfl
@[simp] theorem State.inc_mem (f : Fld) : (s.inc f).mem = s.mem := rfl
@[simp] theorem State.inc_stalled (f : Fld) : (s.inc f).stalled = s.stalled := rfl
@[simp] theorem State.inc_smb (f : Fld) : (s.inc f).smb = s.smb := rfl
@[simp] theorem State.inc_otp (f : Fld) : (s.inc f).otp = s.otp := rfl
@[simp] theorem State.inc_mac (f : Fld) : (s.inc f).mac = s.mac := rfl
@[simp] theorem State.inc_bankTest (f : Fld) : (s.inc f).bankTest = s.bankTest := rfl
@[simp] theorem State.inc_rotMs (f : Fld) : (s.inc f).rotMs = s.rotMs := rfl
@[simp] theorem State.inc_rotDue (f : Fld) : (s.inc f).rotDue = s.rotDue := rfl
@[simp] theorem State.inc_lcy (f : Fld) : (s.inc f).lcy = s.lcy := rfl
@[simp] theorem State.inc_jtag (f : Fld) : (s.inc f).jtag = s.jtag := rfl
@[simp] theorem State.inc_freezeArmed (f : Fld) : (s.inc f).freezeArmed = s.freezeArmed := rfl
@[simp] theorem State.inc_boot (f : Fld) : (s.inc f).boot = s.boot := rfl
@[simp] theorem State.inc_keptMgmt (f : Fld) : (s.inc f).keptMgmt = s.keptMgmt := rfl
@[simp] theorem State.inc_keptUsb (f : Fld) : (s.inc f).keptUsb = s.keptUsb := rfl
@[simp] theorem State.inc_famOut (f : Fld) : (s.inc f).famOut = s.famOut := rfl
@[simp] theorem State.inc_seen (f : Fld) : (s.inc f).seen = s.seen := rfl
@[simp] theorem State.inc_answers (f : Fld) : (s.inc f).answers = s.answers := rfl
@[simp] theorem State.inc_ldr (f : Fld) : (s.inc f).ldr = s.ldr := rfl
@[simp] theorem State.inc_pending (f : Fld) : (s.inc f).pending = s.pending := rfl

/-! State.irq writes only the register file. -/

@[simp] theorem State.irq_jobs (page i : Nat) : (s.irq page i).jobs = s.jobs := rfl
@[simp] theorem State.irq_jobSeq (page i : Nat) : (s.irq page i).jobSeq = s.jobSeq := rfl
@[simp] theorem State.irq_lastJobId (page i : Nat) : (s.irq page i).lastJobId = s.lastJobId := rfl
@[simp] theorem State.irq_free (page i : Nat) : (s.irq page i).free = s.free := rfl
@[simp] theorem State.irq_pins (page i : Nat) : (s.irq page i).pins = s.pins := rfl
@[simp] theorem State.irq_grants (page i : Nat) : (s.irq page i).grants = s.grants := rfl
@[simp] theorem State.irq_domState (page i : Nat) : (s.irq page i).domState = s.domState := rfl
@[simp] theorem State.irq_gated (page i : Nat) : (s.irq page i).gated = s.gated := rfl
@[simp] theorem State.irq_quiet (page i : Nat) : (s.irq page i).quiet = s.quiet := rfl
@[simp] theorem State.irq_poison (page i : Nat) : (s.irq page i).poison = s.poison := rfl
@[simp] theorem State.irq_sram (page i : Nat) : (s.irq page i).sram = s.sram := rfl
@[simp] theorem State.irq_ain (page i : Nat) : (s.irq page i).ain = s.ain := rfl
@[simp] theorem State.irq_bias (page i : Nat) : (s.irq page i).bias = s.bias := rfl
@[simp] theorem State.irq_beep (page i : Nat) : (s.irq page i).beep = s.beep := rfl
@[simp] theorem State.irq_aslTrim (page i : Nat) : (s.irq page i).aslTrim = s.aslTrim := rfl
@[simp] theorem State.irq_adcSubst (page i : Nat) : (s.irq page i).adcSubst = s.adcSubst := rfl
@[simp] theorem State.irq_vrefaStarted (page i : Nat) : (s.irq page i).vrefaStarted = s.vrefaStarted := rfl
@[simp] theorem State.irq_aout (page i : Nat) : (s.irq page i).aout = s.aout := rfl
@[simp] theorem State.irq_jack (page i : Nat) : (s.irq page i).jack = s.jack := rfl
@[simp] theorem State.irq_dslTrim (page i : Nat) : (s.irq page i).dslTrim = s.dslTrim := rfl
@[simp] theorem State.irq_dacSubst (page i : Nat) : (s.irq page i).dacSubst = s.dacSubst := rfl
@[simp] theorem State.irq_vrefbStarted (page i : Nat) : (s.irq page i).vrefbStarted = s.vrefbStarted := rfl
@[simp] theorem State.irq_cpFault (page i : Nat) : (s.irq page i).cpFault = s.cpFault := rfl
@[simp] theorem State.irq_cpStop (page i : Nat) : (s.irq page i).cpStop = s.cpStop := rfl
@[simp] theorem State.irq_spk (page i : Nat) : (s.irq page i).spk = s.spk := rfl
@[simp] theorem State.irq_lanes (page i : Nat) : (s.irq page i).lanes = s.lanes := rfl
@[simp] theorem State.irq_coefPend (page i : Nat) : (s.irq page i).coefPend = s.coefPend := rfl
@[simp] theorem State.irq_poolFree (page i : Nat) : (s.irq page i).poolFree = s.poolFree := rfl
@[simp] theorem State.irq_xpPend (page i : Nat) : (s.irq page i).xpPend = s.xpPend := rfl
@[simp] theorem State.irq_xpAct (page i : Nat) : (s.irq page i).xpAct = s.xpAct := rfl
@[simp] theorem State.irq_xpRamp (page i : Nat) : (s.irq page i).xpRamp = s.xpRamp := rfl
@[simp] theorem State.irq_sinkAct (page i : Nat) : (s.irq page i).sinkAct = s.sinkAct := rfl
@[simp] theorem State.irq_sinkFade (page i : Nat) : (s.irq page i).sinkFade = s.sinkFade := rfl
@[simp] theorem State.irq_tapFade (page i : Nat) : (s.irq page i).tapFade = s.tapFade := rfl
@[simp] theorem State.irq_bus (page i : Nat) : (s.irq page i).bus = s.bus := rfl
@[simp] theorem State.irq_fifTarget (page i : Nat) : (s.irq page i).fifTarget = s.fifTarget := rfl
@[simp] theorem State.irq_ainTap (page i : Nat) : (s.irq page i).ainTap = s.ainTap := rfl
@[simp] theorem State.irq_sap (page i : Nat) : (s.irq page i).sap = s.sap := rfl
@[simp] theorem State.irq_pdm (page i : Nat) : (s.irq page i).pdm = s.pdm := rfl
@[simp] theorem State.irq_mics (page i : Nat) : (s.irq page i).mics = s.mics := rfl
@[simp] theorem State.irq_spdRx (page i : Nat) : (s.irq page i).spdRx = s.spdRx := rfl
@[simp] theorem State.irq_spdTx (page i : Nat) : (s.irq page i).spdTx = s.spdTx := rfl
@[simp] theorem State.irq_trk (page i : Nat) : (s.irq page i).trk = s.trk := rfl
@[simp] theorem State.irq_mains (page i : Nat) : (s.irq page i).mains = s.mains := rfl
@[simp] theorem State.irq_feChange (page i : Nat) : (s.irq page i).feChange = s.feChange := rfl
@[simp] theorem State.irq_engStop (page i : Nat) : (s.irq page i).engStop = s.engStop := rfl
@[simp] theorem State.irq_opHeld (page i : Nat) : (s.irq page i).opHeld = s.opHeld := rfl
@[simp] theorem State.irq_tkoOn (page i : Nat) : (s.irq page i).tkoOn = s.tkoOn := rfl
@[simp] theorem State.irq_tko (page i : Nat) : (s.irq page i).tko = s.tko := rfl
@[simp] theorem State.irq_pllTest (page i : Nat) : (s.irq page i).pllTest = s.pllTest := rfl
@[simp] theorem State.irq_lst (page i : Nat) : (s.irq page i).lst = s.lst := rfl
@[simp] theorem State.irq_usb (page i : Nat) : (s.irq page i).usb = s.usb := rfl
@[simp] theorem State.irq_pwr (page i : Nat) : (s.irq page i).pwr = s.pwr := rfl
@[simp] theorem State.irq_sns (page i : Nat) : (s.irq page i).sns = s.sns := rfl
@[simp] theorem State.irq_pmb (page i : Nat) : (s.irq page i).pmb = s.pmb := rfl
@[simp] theorem State.irq_opNext (page i : Nat) : (s.irq page i).opNext = s.opNext := rfl
@[simp] theorem State.irq_blw (page i : Nat) : (s.irq page i).blw = s.blw := rfl
@[simp] theorem State.irq_mem (page i : Nat) : (s.irq page i).mem = s.mem := rfl
@[simp] theorem State.irq_stalled (page i : Nat) : (s.irq page i).stalled = s.stalled := rfl
@[simp] theorem State.irq_smb (page i : Nat) : (s.irq page i).smb = s.smb := rfl
@[simp] theorem State.irq_otp (page i : Nat) : (s.irq page i).otp = s.otp := rfl
@[simp] theorem State.irq_mac (page i : Nat) : (s.irq page i).mac = s.mac := rfl
@[simp] theorem State.irq_bankTest (page i : Nat) : (s.irq page i).bankTest = s.bankTest := rfl
@[simp] theorem State.irq_rotMs (page i : Nat) : (s.irq page i).rotMs = s.rotMs := rfl
@[simp] theorem State.irq_rotDue (page i : Nat) : (s.irq page i).rotDue = s.rotDue := rfl
@[simp] theorem State.irq_lcy (page i : Nat) : (s.irq page i).lcy = s.lcy := rfl
@[simp] theorem State.irq_jtag (page i : Nat) : (s.irq page i).jtag = s.jtag := rfl
@[simp] theorem State.irq_freezeArmed (page i : Nat) : (s.irq page i).freezeArmed = s.freezeArmed := rfl
@[simp] theorem State.irq_boot (page i : Nat) : (s.irq page i).boot = s.boot := rfl
@[simp] theorem State.irq_keptMgmt (page i : Nat) : (s.irq page i).keptMgmt = s.keptMgmt := rfl
@[simp] theorem State.irq_keptUsb (page i : Nat) : (s.irq page i).keptUsb = s.keptUsb := rfl
@[simp] theorem State.irq_famOut (page i : Nat) : (s.irq page i).famOut = s.famOut := rfl
@[simp] theorem State.irq_seen (page i : Nat) : (s.irq page i).seen = s.seen := rfl
@[simp] theorem State.irq_answers (page i : Nat) : (s.irq page i).answers = s.answers := rfl
@[simp] theorem State.irq_ldr (page i : Nat) : (s.irq page i).ldr = s.ldr := rfl
@[simp] theorem State.irq_pending (page i : Nat) : (s.irq page i).pending = s.pending := rfl

/-! State.modAin writes one record. -/

@[simp] theorem State.modAin_regs (n : Nat) (f : Ain → Ain) : (s.modAin n f).regs = s.regs := rfl
@[simp] theorem State.modAin_domState (n : Nat) (f : Ain → Ain) : (s.modAin n f).domState = s.domState := rfl
@[simp] theorem State.modAin_gated (n : Nat) (f : Ain → Ain) : (s.modAin n f).gated = s.gated := rfl
@[simp] theorem State.modAin_pending (n : Nat) (f : Ain → Ain) : (s.modAin n f).pending = s.pending := rfl
@[simp] theorem State.modAin_keptMgmt (n : Nat) (f : Ain → Ain) : (s.modAin n f).keptMgmt = s.keptMgmt := rfl
@[simp] theorem State.modAin_keptUsb (n : Nat) (f : Ain → Ain) : (s.modAin n f).keptUsb = s.keptUsb := rfl
@[simp] theorem State.modAin_pins (n : Nat) (f : Ain → Ain) : (s.modAin n f).pins = s.pins := rfl
@[simp] theorem State.modAin_free (n : Nat) (f : Ain → Ain) : (s.modAin n f).free = s.free := rfl
@[simp] theorem State.modAin_poison (n : Nat) (f : Ain → Ain) : (s.modAin n f).poison = s.poison := rfl
@[simp] theorem State.modAin_sram (n : Nat) (f : Ain → Ain) : (s.modAin n f).sram = s.sram := rfl
@[simp] theorem State.modAin_reg (n : Nat) (f : Ain → Ain) (a : Nat) : (s.modAin n f).reg a = s.reg a := rfl
@[simp] theorem State.modAin_get (n : Nat) (f : Ain → Ain) (fl : Fld) : (s.modAin n f).get fl = s.get fl := rfl
@[simp] theorem State.modAin_on (n : Nat) (f : Ain → Ain) (fl : Fld) : (s.modAin n f).on fl = s.on fl := rfl
@[simp] theorem State.modAin_clocked (n : Nat) (f : Ain → Ain) (i : Island) : (s.modAin n f).clocked i = s.clocked i := rfl

/-! State.setAdcSub writes one record. -/

@[simp] theorem State.setAdcSub_regs (g : Nat) (x : Option Subst) : (s.setAdcSub g x).regs = s.regs := rfl
@[simp] theorem State.setAdcSub_domState (g : Nat) (x : Option Subst) : (s.setAdcSub g x).domState = s.domState := rfl
@[simp] theorem State.setAdcSub_gated (g : Nat) (x : Option Subst) : (s.setAdcSub g x).gated = s.gated := rfl
@[simp] theorem State.setAdcSub_pending (g : Nat) (x : Option Subst) : (s.setAdcSub g x).pending = s.pending := rfl
@[simp] theorem State.setAdcSub_keptMgmt (g : Nat) (x : Option Subst) : (s.setAdcSub g x).keptMgmt = s.keptMgmt := rfl
@[simp] theorem State.setAdcSub_keptUsb (g : Nat) (x : Option Subst) : (s.setAdcSub g x).keptUsb = s.keptUsb := rfl
@[simp] theorem State.setAdcSub_pins (g : Nat) (x : Option Subst) : (s.setAdcSub g x).pins = s.pins := rfl
@[simp] theorem State.setAdcSub_free (g : Nat) (x : Option Subst) : (s.setAdcSub g x).free = s.free := rfl
@[simp] theorem State.setAdcSub_poison (g : Nat) (x : Option Subst) : (s.setAdcSub g x).poison = s.poison := rfl
@[simp] theorem State.setAdcSub_sram (g : Nat) (x : Option Subst) : (s.setAdcSub g x).sram = s.sram := rfl
@[simp] theorem State.setAdcSub_reg (g : Nat) (x : Option Subst) (a : Nat) : (s.setAdcSub g x).reg a = s.reg a := rfl
@[simp] theorem State.setAdcSub_get (g : Nat) (x : Option Subst) (fl : Fld) : (s.setAdcSub g x).get fl = s.get fl := rfl
@[simp] theorem State.setAdcSub_on (g : Nat) (x : Option Subst) (fl : Fld) : (s.setAdcSub g x).on fl = s.on fl := rfl
@[simp] theorem State.setAdcSub_clocked (g : Nat) (x : Option Subst) (i : Island) : (s.setAdcSub g x).clocked i = s.clocked i := rfl

/-! State.modAout writes one record. -/

@[simp] theorem State.modAout_regs (c : Nat) (f : Aout → Aout) : (s.modAout c f).regs = s.regs := rfl
@[simp] theorem State.modAout_domState (c : Nat) (f : Aout → Aout) : (s.modAout c f).domState = s.domState := rfl
@[simp] theorem State.modAout_gated (c : Nat) (f : Aout → Aout) : (s.modAout c f).gated = s.gated := rfl
@[simp] theorem State.modAout_pending (c : Nat) (f : Aout → Aout) : (s.modAout c f).pending = s.pending := rfl
@[simp] theorem State.modAout_keptMgmt (c : Nat) (f : Aout → Aout) : (s.modAout c f).keptMgmt = s.keptMgmt := rfl
@[simp] theorem State.modAout_keptUsb (c : Nat) (f : Aout → Aout) : (s.modAout c f).keptUsb = s.keptUsb := rfl
@[simp] theorem State.modAout_pins (c : Nat) (f : Aout → Aout) : (s.modAout c f).pins = s.pins := rfl
@[simp] theorem State.modAout_free (c : Nat) (f : Aout → Aout) : (s.modAout c f).free = s.free := rfl
@[simp] theorem State.modAout_poison (c : Nat) (f : Aout → Aout) : (s.modAout c f).poison = s.poison := rfl
@[simp] theorem State.modAout_sram (c : Nat) (f : Aout → Aout) : (s.modAout c f).sram = s.sram := rfl
@[simp] theorem State.modAout_reg (c : Nat) (f : Aout → Aout) (a : Nat) : (s.modAout c f).reg a = s.reg a := rfl
@[simp] theorem State.modAout_get (c : Nat) (f : Aout → Aout) (fl : Fld) : (s.modAout c f).get fl = s.get fl := rfl
@[simp] theorem State.modAout_on (c : Nat) (f : Aout → Aout) (fl : Fld) : (s.modAout c f).on fl = s.on fl := rfl
@[simp] theorem State.modAout_clocked (c : Nat) (f : Aout → Aout) (i : Island) : (s.modAout c f).clocked i = s.clocked i := rfl

/-! State.setDacSub writes one record. -/

@[simp] theorem State.setDacSub_regs (g : Nat) (x : Option Subst) : (s.setDacSub g x).regs = s.regs := rfl
@[simp] theorem State.setDacSub_domState (g : Nat) (x : Option Subst) : (s.setDacSub g x).domState = s.domState := rfl
@[simp] theorem State.setDacSub_gated (g : Nat) (x : Option Subst) : (s.setDacSub g x).gated = s.gated := rfl
@[simp] theorem State.setDacSub_pending (g : Nat) (x : Option Subst) : (s.setDacSub g x).pending = s.pending := rfl
@[simp] theorem State.setDacSub_keptMgmt (g : Nat) (x : Option Subst) : (s.setDacSub g x).keptMgmt = s.keptMgmt := rfl
@[simp] theorem State.setDacSub_keptUsb (g : Nat) (x : Option Subst) : (s.setDacSub g x).keptUsb = s.keptUsb := rfl
@[simp] theorem State.setDacSub_pins (g : Nat) (x : Option Subst) : (s.setDacSub g x).pins = s.pins := rfl
@[simp] theorem State.setDacSub_free (g : Nat) (x : Option Subst) : (s.setDacSub g x).free = s.free := rfl
@[simp] theorem State.setDacSub_poison (g : Nat) (x : Option Subst) : (s.setDacSub g x).poison = s.poison := rfl
@[simp] theorem State.setDacSub_sram (g : Nat) (x : Option Subst) : (s.setDacSub g x).sram = s.sram := rfl
@[simp] theorem State.setDacSub_reg (g : Nat) (x : Option Subst) (a : Nat) : (s.setDacSub g x).reg a = s.reg a := rfl
@[simp] theorem State.setDacSub_get (g : Nat) (x : Option Subst) (fl : Fld) : (s.setDacSub g x).get fl = s.get fl := rfl
@[simp] theorem State.setDacSub_on (g : Nat) (x : Option Subst) (fl : Fld) : (s.setDacSub g x).on fl = s.on fl := rfl
@[simp] theorem State.setDacSub_clocked (g : Nat) (x : Option Subst) (i : Island) : (s.setDacSub g x).clocked i = s.clocked i := rfl

/-! State.modBlw writes one record. -/

@[simp] theorem State.modBlw_regs (f : Blw → Blw) : (s.modBlw f).regs = s.regs := rfl
@[simp] theorem State.modBlw_domState (f : Blw → Blw) : (s.modBlw f).domState = s.domState := rfl
@[simp] theorem State.modBlw_gated (f : Blw → Blw) : (s.modBlw f).gated = s.gated := rfl
@[simp] theorem State.modBlw_pending (f : Blw → Blw) : (s.modBlw f).pending = s.pending := rfl
@[simp] theorem State.modBlw_keptMgmt (f : Blw → Blw) : (s.modBlw f).keptMgmt = s.keptMgmt := rfl
@[simp] theorem State.modBlw_keptUsb (f : Blw → Blw) : (s.modBlw f).keptUsb = s.keptUsb := rfl
@[simp] theorem State.modBlw_pins (f : Blw → Blw) : (s.modBlw f).pins = s.pins := rfl
@[simp] theorem State.modBlw_free (f : Blw → Blw) : (s.modBlw f).free = s.free := rfl
@[simp] theorem State.modBlw_poison (f : Blw → Blw) : (s.modBlw f).poison = s.poison := rfl
@[simp] theorem State.modBlw_sram (f : Blw → Blw) : (s.modBlw f).sram = s.sram := rfl
@[simp] theorem State.modBlw_reg (f : Blw → Blw) (a : Nat) : (s.modBlw f).reg a = s.reg a := rfl
@[simp] theorem State.modBlw_get (f : Blw → Blw) (fl : Fld) : (s.modBlw f).get fl = s.get fl := rfl
@[simp] theorem State.modBlw_on (f : Blw → Blw) (fl : Fld) : (s.modBlw f).on fl = s.on fl := rfl
@[simp] theorem State.modBlw_clocked (f : Blw → Blw) (i : Island) : (s.modBlw f).clocked i = s.clocked i := rfl

/-! State.modSmb writes one record. -/

@[simp] theorem State.modSmb_regs (f : Smb → Smb) : (s.modSmb f).regs = s.regs := rfl
@[simp] theorem State.modSmb_domState (f : Smb → Smb) : (s.modSmb f).domState = s.domState := rfl
@[simp] theorem State.modSmb_gated (f : Smb → Smb) : (s.modSmb f).gated = s.gated := rfl
@[simp] theorem State.modSmb_pending (f : Smb → Smb) : (s.modSmb f).pending = s.pending := rfl
@[simp] theorem State.modSmb_keptMgmt (f : Smb → Smb) : (s.modSmb f).keptMgmt = s.keptMgmt := rfl
@[simp] theorem State.modSmb_keptUsb (f : Smb → Smb) : (s.modSmb f).keptUsb = s.keptUsb := rfl
@[simp] theorem State.modSmb_pins (f : Smb → Smb) : (s.modSmb f).pins = s.pins := rfl
@[simp] theorem State.modSmb_free (f : Smb → Smb) : (s.modSmb f).free = s.free := rfl
@[simp] theorem State.modSmb_poison (f : Smb → Smb) : (s.modSmb f).poison = s.poison := rfl
@[simp] theorem State.modSmb_sram (f : Smb → Smb) : (s.modSmb f).sram = s.sram := rfl
@[simp] theorem State.modSmb_reg (f : Smb → Smb) (a : Nat) : (s.modSmb f).reg a = s.reg a := rfl
@[simp] theorem State.modSmb_get (f : Smb → Smb) (fl : Fld) : (s.modSmb f).get fl = s.get fl := rfl
@[simp] theorem State.modSmb_on (f : Smb → Smb) (fl : Fld) : (s.modSmb f).on fl = s.on fl := rfl
@[simp] theorem State.modSmb_clocked (f : Smb → Smb) (i : Island) : (s.modSmb f).clocked i = s.clocked i := rfl

/-! State.modLdr writes one record. -/

@[simp] theorem State.modLdr_regs (f : Loader → Loader) : (s.modLdr f).regs = s.regs := rfl
@[simp] theorem State.modLdr_domState (f : Loader → Loader) : (s.modLdr f).domState = s.domState := rfl
@[simp] theorem State.modLdr_gated (f : Loader → Loader) : (s.modLdr f).gated = s.gated := rfl
@[simp] theorem State.modLdr_pending (f : Loader → Loader) : (s.modLdr f).pending = s.pending := rfl
@[simp] theorem State.modLdr_keptMgmt (f : Loader → Loader) : (s.modLdr f).keptMgmt = s.keptMgmt := rfl
@[simp] theorem State.modLdr_keptUsb (f : Loader → Loader) : (s.modLdr f).keptUsb = s.keptUsb := rfl
@[simp] theorem State.modLdr_pins (f : Loader → Loader) : (s.modLdr f).pins = s.pins := rfl
@[simp] theorem State.modLdr_free (f : Loader → Loader) : (s.modLdr f).free = s.free := rfl
@[simp] theorem State.modLdr_poison (f : Loader → Loader) : (s.modLdr f).poison = s.poison := rfl
@[simp] theorem State.modLdr_sram (f : Loader → Loader) : (s.modLdr f).sram = s.sram := rfl
@[simp] theorem State.modLdr_reg (f : Loader → Loader) (a : Nat) : (s.modLdr f).reg a = s.reg a := rfl
@[simp] theorem State.modLdr_get (f : Loader → Loader) (fl : Fld) : (s.modLdr f).get fl = s.get fl := rfl
@[simp] theorem State.modLdr_on (f : Loader → Loader) (fl : Fld) : (s.modLdr f).on fl = s.on fl := rfl
@[simp] theorem State.modLdr_clocked (f : Loader → Loader) (i : Island) : (s.modLdr f).clocked i = s.clocked i := rfl

/-! State.modJack writes one record. -/

@[simp] theorem State.modJack_regs (n : Nat) (f : Jack → Jack) : (s.modJack n f).regs = s.regs := rfl
@[simp] theorem State.modJack_domState (n : Nat) (f : Jack → Jack) : (s.modJack n f).domState = s.domState := rfl
@[simp] theorem State.modJack_gated (n : Nat) (f : Jack → Jack) : (s.modJack n f).gated = s.gated := rfl
@[simp] theorem State.modJack_pending (n : Nat) (f : Jack → Jack) : (s.modJack n f).pending = s.pending := rfl
@[simp] theorem State.modJack_keptMgmt (n : Nat) (f : Jack → Jack) : (s.modJack n f).keptMgmt = s.keptMgmt := rfl
@[simp] theorem State.modJack_keptUsb (n : Nat) (f : Jack → Jack) : (s.modJack n f).keptUsb = s.keptUsb := rfl
@[simp] theorem State.modJack_pins (n : Nat) (f : Jack → Jack) : (s.modJack n f).pins = s.pins := rfl
@[simp] theorem State.modJack_free (n : Nat) (f : Jack → Jack) : (s.modJack n f).free = s.free := rfl
@[simp] theorem State.modJack_poison (n : Nat) (f : Jack → Jack) : (s.modJack n f).poison = s.poison := rfl
@[simp] theorem State.modJack_sram (n : Nat) (f : Jack → Jack) : (s.modJack n f).sram = s.sram := rfl
@[simp] theorem State.modJack_reg (n : Nat) (f : Jack → Jack) (a : Nat) : (s.modJack n f).reg a = s.reg a := rfl
@[simp] theorem State.modJack_get (n : Nat) (f : Jack → Jack) (fl : Fld) : (s.modJack n f).get fl = s.get fl := rfl
@[simp] theorem State.modJack_on (n : Nat) (f : Jack → Jack) (fl : Fld) : (s.modJack n f).on fl = s.on fl := rfl
@[simp] theorem State.modJack_clocked (n : Nat) (f : Jack → Jack) (i : Island) : (s.modJack n f).clocked i = s.clocked i := rfl

/-! State.modJob writes one record. -/

@[simp] theorem State.modJob_regs (k : Nat) (f : Job → Job) : (s.modJob k f).regs = s.regs := rfl
@[simp] theorem State.modJob_domState (k : Nat) (f : Job → Job) : (s.modJob k f).domState = s.domState := rfl
@[simp] theorem State.modJob_gated (k : Nat) (f : Job → Job) : (s.modJob k f).gated = s.gated := rfl
@[simp] theorem State.modJob_pending (k : Nat) (f : Job → Job) : (s.modJob k f).pending = s.pending := rfl
@[simp] theorem State.modJob_keptMgmt (k : Nat) (f : Job → Job) : (s.modJob k f).keptMgmt = s.keptMgmt := rfl
@[simp] theorem State.modJob_keptUsb (k : Nat) (f : Job → Job) : (s.modJob k f).keptUsb = s.keptUsb := rfl
@[simp] theorem State.modJob_pins (k : Nat) (f : Job → Job) : (s.modJob k f).pins = s.pins := rfl
@[simp] theorem State.modJob_free (k : Nat) (f : Job → Job) : (s.modJob k f).free = s.free := rfl
@[simp] theorem State.modJob_poison (k : Nat) (f : Job → Job) : (s.modJob k f).poison = s.poison := rfl
@[simp] theorem State.modJob_sram (k : Nat) (f : Job → Job) : (s.modJob k f).sram = s.sram := rfl
@[simp] theorem State.modJob_reg (k : Nat) (f : Job → Job) (a : Nat) : (s.modJob k f).reg a = s.reg a := rfl
@[simp] theorem State.modJob_get (k : Nat) (f : Job → Job) (fl : Fld) : (s.modJob k f).get fl = s.get fl := rfl
@[simp] theorem State.modJob_on (k : Nat) (f : Job → Job) (fl : Fld) : (s.modJob k f).on fl = s.on fl := rfl
@[simp] theorem State.modJob_clocked (k : Nat) (f : Job → Job) (i : Island) : (s.modJob k f).clocked i = s.clocked i := rfl

/-! State.modLane writes one record. -/

@[simp] theorem State.modLane_regs (n : Nat) (f : Lane → Lane) : (s.modLane n f).regs = s.regs := rfl
@[simp] theorem State.modLane_domState (n : Nat) (f : Lane → Lane) : (s.modLane n f).domState = s.domState := rfl
@[simp] theorem State.modLane_gated (n : Nat) (f : Lane → Lane) : (s.modLane n f).gated = s.gated := rfl
@[simp] theorem State.modLane_pending (n : Nat) (f : Lane → Lane) : (s.modLane n f).pending = s.pending := rfl
@[simp] theorem State.modLane_keptMgmt (n : Nat) (f : Lane → Lane) : (s.modLane n f).keptMgmt = s.keptMgmt := rfl
@[simp] theorem State.modLane_keptUsb (n : Nat) (f : Lane → Lane) : (s.modLane n f).keptUsb = s.keptUsb := rfl
@[simp] theorem State.modLane_pins (n : Nat) (f : Lane → Lane) : (s.modLane n f).pins = s.pins := rfl
@[simp] theorem State.modLane_free (n : Nat) (f : Lane → Lane) : (s.modLane n f).free = s.free := rfl
@[simp] theorem State.modLane_poison (n : Nat) (f : Lane → Lane) : (s.modLane n f).poison = s.poison := rfl
@[simp] theorem State.modLane_sram (n : Nat) (f : Lane → Lane) : (s.modLane n f).sram = s.sram := rfl
@[simp] theorem State.modLane_reg (n : Nat) (f : Lane → Lane) (a : Nat) : (s.modLane n f).reg a = s.reg a := rfl
@[simp] theorem State.modLane_get (n : Nat) (f : Lane → Lane) (fl : Fld) : (s.modLane n f).get fl = s.get fl := rfl
@[simp] theorem State.modLane_on (n : Nat) (f : Lane → Lane) (fl : Fld) : (s.modLane n f).on fl = s.on fl := rfl
@[simp] theorem State.modLane_clocked (n : Nat) (f : Lane → Lane) (i : Island) : (s.modLane n f).clocked i = s.clocked i := rfl

/-! State.modLst writes one record. -/

@[simp] theorem State.modLst_regs (f : Lst → Lst) : (s.modLst f).regs = s.regs := rfl
@[simp] theorem State.modLst_domState (f : Lst → Lst) : (s.modLst f).domState = s.domState := rfl
@[simp] theorem State.modLst_gated (f : Lst → Lst) : (s.modLst f).gated = s.gated := rfl
@[simp] theorem State.modLst_pending (f : Lst → Lst) : (s.modLst f).pending = s.pending := rfl
@[simp] theorem State.modLst_keptMgmt (f : Lst → Lst) : (s.modLst f).keptMgmt = s.keptMgmt := rfl
@[simp] theorem State.modLst_keptUsb (f : Lst → Lst) : (s.modLst f).keptUsb = s.keptUsb := rfl
@[simp] theorem State.modLst_pins (f : Lst → Lst) : (s.modLst f).pins = s.pins := rfl
@[simp] theorem State.modLst_free (f : Lst → Lst) : (s.modLst f).free = s.free := rfl
@[simp] theorem State.modLst_poison (f : Lst → Lst) : (s.modLst f).poison = s.poison := rfl
@[simp] theorem State.modLst_sram (f : Lst → Lst) : (s.modLst f).sram = s.sram := rfl
@[simp] theorem State.modLst_reg (f : Lst → Lst) (a : Nat) : (s.modLst f).reg a = s.reg a := rfl
@[simp] theorem State.modLst_get (f : Lst → Lst) (fl : Fld) : (s.modLst f).get fl = s.get fl := rfl
@[simp] theorem State.modLst_on (f : Lst → Lst) (fl : Fld) : (s.modLst f).on fl = s.on fl := rfl
@[simp] theorem State.modLst_clocked (f : Lst → Lst) (i : Island) : (s.modLst f).clocked i = s.clocked i := rfl

/-! State.modHist writes one record. -/

@[simp] theorem State.modHist_regs (f : Hist → Hist) : (s.modHist f).regs = s.regs := rfl
@[simp] theorem State.modHist_domState (f : Hist → Hist) : (s.modHist f).domState = s.domState := rfl
@[simp] theorem State.modHist_gated (f : Hist → Hist) : (s.modHist f).gated = s.gated := rfl
@[simp] theorem State.modHist_pending (f : Hist → Hist) : (s.modHist f).pending = s.pending := rfl
@[simp] theorem State.modHist_keptMgmt (f : Hist → Hist) : (s.modHist f).keptMgmt = s.keptMgmt := rfl
@[simp] theorem State.modHist_keptUsb (f : Hist → Hist) : (s.modHist f).keptUsb = s.keptUsb := rfl
@[simp] theorem State.modHist_pins (f : Hist → Hist) : (s.modHist f).pins = s.pins := rfl
@[simp] theorem State.modHist_free (f : Hist → Hist) : (s.modHist f).free = s.free := rfl
@[simp] theorem State.modHist_poison (f : Hist → Hist) : (s.modHist f).poison = s.poison := rfl
@[simp] theorem State.modHist_sram (f : Hist → Hist) : (s.modHist f).sram = s.sram := rfl
@[simp] theorem State.modHist_reg (f : Hist → Hist) (a : Nat) : (s.modHist f).reg a = s.reg a := rfl
@[simp] theorem State.modHist_get (f : Hist → Hist) (fl : Fld) : (s.modHist f).get fl = s.get fl := rfl
@[simp] theorem State.modHist_on (f : Hist → Hist) (fl : Fld) : (s.modHist f).on fl = s.on fl := rfl
@[simp] theorem State.modHist_clocked (f : Hist → Hist) (i : Island) : (s.modHist f).clocked i = s.clocked i := rfl

/-! State.modMem writes one record. -/

@[simp] theorem State.modMem_regs (f : Mem → Mem) : (s.modMem f).regs = s.regs := rfl
@[simp] theorem State.modMem_domState (f : Mem → Mem) : (s.modMem f).domState = s.domState := rfl
@[simp] theorem State.modMem_gated (f : Mem → Mem) : (s.modMem f).gated = s.gated := rfl
@[simp] theorem State.modMem_pending (f : Mem → Mem) : (s.modMem f).pending = s.pending := rfl
@[simp] theorem State.modMem_keptMgmt (f : Mem → Mem) : (s.modMem f).keptMgmt = s.keptMgmt := rfl
@[simp] theorem State.modMem_keptUsb (f : Mem → Mem) : (s.modMem f).keptUsb = s.keptUsb := rfl
@[simp] theorem State.modMem_pins (f : Mem → Mem) : (s.modMem f).pins = s.pins := rfl
@[simp] theorem State.modMem_free (f : Mem → Mem) : (s.modMem f).free = s.free := rfl
@[simp] theorem State.modMem_poison (f : Mem → Mem) : (s.modMem f).poison = s.poison := rfl
@[simp] theorem State.modMem_sram (f : Mem → Mem) : (s.modMem f).sram = s.sram := rfl
@[simp] theorem State.modMem_reg (f : Mem → Mem) (a : Nat) : (s.modMem f).reg a = s.reg a := rfl
@[simp] theorem State.modMem_get (f : Mem → Mem) (fl : Fld) : (s.modMem f).get fl = s.get fl := rfl
@[simp] theorem State.modMem_on (f : Mem → Mem) (fl : Fld) : (s.modMem f).on fl = s.on fl := rfl
@[simp] theorem State.modMem_clocked (f : Mem → Mem) (i : Island) : (s.modMem f).clocked i = s.clocked i := rfl

/-! State.modPdm writes one record. -/

@[simp] theorem State.modPdm_regs (g : Nat) (f : PdmGrp → PdmGrp) : (s.modPdm g f).regs = s.regs := rfl
@[simp] theorem State.modPdm_domState (g : Nat) (f : PdmGrp → PdmGrp) : (s.modPdm g f).domState = s.domState := rfl
@[simp] theorem State.modPdm_gated (g : Nat) (f : PdmGrp → PdmGrp) : (s.modPdm g f).gated = s.gated := rfl
@[simp] theorem State.modPdm_pending (g : Nat) (f : PdmGrp → PdmGrp) : (s.modPdm g f).pending = s.pending := rfl
@[simp] theorem State.modPdm_keptMgmt (g : Nat) (f : PdmGrp → PdmGrp) : (s.modPdm g f).keptMgmt = s.keptMgmt := rfl
@[simp] theorem State.modPdm_keptUsb (g : Nat) (f : PdmGrp → PdmGrp) : (s.modPdm g f).keptUsb = s.keptUsb := rfl
@[simp] theorem State.modPdm_pins (g : Nat) (f : PdmGrp → PdmGrp) : (s.modPdm g f).pins = s.pins := rfl
@[simp] theorem State.modPdm_free (g : Nat) (f : PdmGrp → PdmGrp) : (s.modPdm g f).free = s.free := rfl
@[simp] theorem State.modPdm_poison (g : Nat) (f : PdmGrp → PdmGrp) : (s.modPdm g f).poison = s.poison := rfl
@[simp] theorem State.modPdm_sram (g : Nat) (f : PdmGrp → PdmGrp) : (s.modPdm g f).sram = s.sram := rfl
@[simp] theorem State.modPdm_reg (g : Nat) (f : PdmGrp → PdmGrp) (a : Nat) : (s.modPdm g f).reg a = s.reg a := rfl
@[simp] theorem State.modPdm_get (g : Nat) (f : PdmGrp → PdmGrp) (fl : Fld) : (s.modPdm g f).get fl = s.get fl := rfl
@[simp] theorem State.modPdm_on (g : Nat) (f : PdmGrp → PdmGrp) (fl : Fld) : (s.modPdm g f).on fl = s.on fl := rfl
@[simp] theorem State.modPdm_clocked (g : Nat) (f : PdmGrp → PdmGrp) (i : Island) : (s.modPdm g f).clocked i = s.clocked i := rfl

/-! State.modMic writes one record. -/

@[simp] theorem State.modMic_regs (m : Nat) (f : Mic → Mic) : (s.modMic m f).regs = s.regs := rfl
@[simp] theorem State.modMic_domState (m : Nat) (f : Mic → Mic) : (s.modMic m f).domState = s.domState := rfl
@[simp] theorem State.modMic_gated (m : Nat) (f : Mic → Mic) : (s.modMic m f).gated = s.gated := rfl
@[simp] theorem State.modMic_pending (m : Nat) (f : Mic → Mic) : (s.modMic m f).pending = s.pending := rfl
@[simp] theorem State.modMic_keptMgmt (m : Nat) (f : Mic → Mic) : (s.modMic m f).keptMgmt = s.keptMgmt := rfl
@[simp] theorem State.modMic_keptUsb (m : Nat) (f : Mic → Mic) : (s.modMic m f).keptUsb = s.keptUsb := rfl
@[simp] theorem State.modMic_pins (m : Nat) (f : Mic → Mic) : (s.modMic m f).pins = s.pins := rfl
@[simp] theorem State.modMic_free (m : Nat) (f : Mic → Mic) : (s.modMic m f).free = s.free := rfl
@[simp] theorem State.modMic_poison (m : Nat) (f : Mic → Mic) : (s.modMic m f).poison = s.poison := rfl
@[simp] theorem State.modMic_sram (m : Nat) (f : Mic → Mic) : (s.modMic m f).sram = s.sram := rfl
@[simp] theorem State.modMic_reg (m : Nat) (f : Mic → Mic) (a : Nat) : (s.modMic m f).reg a = s.reg a := rfl
@[simp] theorem State.modMic_get (m : Nat) (f : Mic → Mic) (fl : Fld) : (s.modMic m f).get fl = s.get fl := rfl
@[simp] theorem State.modMic_on (m : Nat) (f : Mic → Mic) (fl : Fld) : (s.modMic m f).on fl = s.on fl := rfl
@[simp] theorem State.modMic_clocked (m : Nat) (f : Mic → Mic) (i : Island) : (s.modMic m f).clocked i = s.clocked i := rfl

/-! State.modPmb writes one record. -/

@[simp] theorem State.modPmb_regs (f : Pmb → Pmb) : (s.modPmb f).regs = s.regs := rfl
@[simp] theorem State.modPmb_domState (f : Pmb → Pmb) : (s.modPmb f).domState = s.domState := rfl
@[simp] theorem State.modPmb_gated (f : Pmb → Pmb) : (s.modPmb f).gated = s.gated := rfl
@[simp] theorem State.modPmb_pending (f : Pmb → Pmb) : (s.modPmb f).pending = s.pending := rfl
@[simp] theorem State.modPmb_keptMgmt (f : Pmb → Pmb) : (s.modPmb f).keptMgmt = s.keptMgmt := rfl
@[simp] theorem State.modPmb_keptUsb (f : Pmb → Pmb) : (s.modPmb f).keptUsb = s.keptUsb := rfl
@[simp] theorem State.modPmb_pins (f : Pmb → Pmb) : (s.modPmb f).pins = s.pins := rfl
@[simp] theorem State.modPmb_free (f : Pmb → Pmb) : (s.modPmb f).free = s.free := rfl
@[simp] theorem State.modPmb_poison (f : Pmb → Pmb) : (s.modPmb f).poison = s.poison := rfl
@[simp] theorem State.modPmb_sram (f : Pmb → Pmb) : (s.modPmb f).sram = s.sram := rfl
@[simp] theorem State.modPmb_reg (f : Pmb → Pmb) (a : Nat) : (s.modPmb f).reg a = s.reg a := rfl
@[simp] theorem State.modPmb_get (f : Pmb → Pmb) (fl : Fld) : (s.modPmb f).get fl = s.get fl := rfl
@[simp] theorem State.modPmb_on (f : Pmb → Pmb) (fl : Fld) : (s.modPmb f).on fl = s.on fl := rfl
@[simp] theorem State.modPmb_clocked (f : Pmb → Pmb) (i : Island) : (s.modPmb f).clocked i = s.clocked i := rfl

/-! State.modPwr writes one record. -/

@[simp] theorem State.modPwr_regs (f : Pwr → Pwr) : (s.modPwr f).regs = s.regs := rfl
@[simp] theorem State.modPwr_domState (f : Pwr → Pwr) : (s.modPwr f).domState = s.domState := rfl
@[simp] theorem State.modPwr_gated (f : Pwr → Pwr) : (s.modPwr f).gated = s.gated := rfl
@[simp] theorem State.modPwr_pending (f : Pwr → Pwr) : (s.modPwr f).pending = s.pending := rfl
@[simp] theorem State.modPwr_keptMgmt (f : Pwr → Pwr) : (s.modPwr f).keptMgmt = s.keptMgmt := rfl
@[simp] theorem State.modPwr_keptUsb (f : Pwr → Pwr) : (s.modPwr f).keptUsb = s.keptUsb := rfl
@[simp] theorem State.modPwr_pins (f : Pwr → Pwr) : (s.modPwr f).pins = s.pins := rfl
@[simp] theorem State.modPwr_free (f : Pwr → Pwr) : (s.modPwr f).free = s.free := rfl
@[simp] theorem State.modPwr_poison (f : Pwr → Pwr) : (s.modPwr f).poison = s.poison := rfl
@[simp] theorem State.modPwr_sram (f : Pwr → Pwr) : (s.modPwr f).sram = s.sram := rfl
@[simp] theorem State.modPwr_reg (f : Pwr → Pwr) (a : Nat) : (s.modPwr f).reg a = s.reg a := rfl
@[simp] theorem State.modPwr_get (f : Pwr → Pwr) (fl : Fld) : (s.modPwr f).get fl = s.get fl := rfl
@[simp] theorem State.modPwr_on (f : Pwr → Pwr) (fl : Fld) : (s.modPwr f).on fl = s.on fl := rfl
@[simp] theorem State.modPwr_clocked (f : Pwr → Pwr) (i : Island) : (s.modPwr f).clocked i = s.clocked i := rfl

/-! State.modSap writes one record. -/

@[simp] theorem State.modSap_regs (p : Nat) (f : Sap → Sap) : (s.modSap p f).regs = s.regs := rfl
@[simp] theorem State.modSap_domState (p : Nat) (f : Sap → Sap) : (s.modSap p f).domState = s.domState := rfl
@[simp] theorem State.modSap_gated (p : Nat) (f : Sap → Sap) : (s.modSap p f).gated = s.gated := rfl
@[simp] theorem State.modSap_pending (p : Nat) (f : Sap → Sap) : (s.modSap p f).pending = s.pending := rfl
@[simp] theorem State.modSap_keptMgmt (p : Nat) (f : Sap → Sap) : (s.modSap p f).keptMgmt = s.keptMgmt := rfl
@[simp] theorem State.modSap_keptUsb (p : Nat) (f : Sap → Sap) : (s.modSap p f).keptUsb = s.keptUsb := rfl
@[simp] theorem State.modSap_pins (p : Nat) (f : Sap → Sap) : (s.modSap p f).pins = s.pins := rfl
@[simp] theorem State.modSap_free (p : Nat) (f : Sap → Sap) : (s.modSap p f).free = s.free := rfl
@[simp] theorem State.modSap_poison (p : Nat) (f : Sap → Sap) : (s.modSap p f).poison = s.poison := rfl
@[simp] theorem State.modSap_sram (p : Nat) (f : Sap → Sap) : (s.modSap p f).sram = s.sram := rfl
@[simp] theorem State.modSap_reg (p : Nat) (f : Sap → Sap) (a : Nat) : (s.modSap p f).reg a = s.reg a := rfl
@[simp] theorem State.modSap_get (p : Nat) (f : Sap → Sap) (fl : Fld) : (s.modSap p f).get fl = s.get fl := rfl
@[simp] theorem State.modSap_on (p : Nat) (f : Sap → Sap) (fl : Fld) : (s.modSap p f).on fl = s.on fl := rfl
@[simp] theorem State.modSap_clocked (p : Nat) (f : Sap → Sap) (i : Island) : (s.modSap p f).clocked i = s.clocked i := rfl

/-! State.modJtag writes one record. -/

@[simp] theorem State.modJtag_regs (f : Jtag → Jtag) : (s.modJtag f).regs = s.regs := rfl
@[simp] theorem State.modJtag_domState (f : Jtag → Jtag) : (s.modJtag f).domState = s.domState := rfl
@[simp] theorem State.modJtag_gated (f : Jtag → Jtag) : (s.modJtag f).gated = s.gated := rfl
@[simp] theorem State.modJtag_pending (f : Jtag → Jtag) : (s.modJtag f).pending = s.pending := rfl
@[simp] theorem State.modJtag_keptMgmt (f : Jtag → Jtag) : (s.modJtag f).keptMgmt = s.keptMgmt := rfl
@[simp] theorem State.modJtag_keptUsb (f : Jtag → Jtag) : (s.modJtag f).keptUsb = s.keptUsb := rfl
@[simp] theorem State.modJtag_pins (f : Jtag → Jtag) : (s.modJtag f).pins = s.pins := rfl
@[simp] theorem State.modJtag_free (f : Jtag → Jtag) : (s.modJtag f).free = s.free := rfl
@[simp] theorem State.modJtag_poison (f : Jtag → Jtag) : (s.modJtag f).poison = s.poison := rfl
@[simp] theorem State.modJtag_sram (f : Jtag → Jtag) : (s.modJtag f).sram = s.sram := rfl
@[simp] theorem State.modJtag_reg (f : Jtag → Jtag) (a : Nat) : (s.modJtag f).reg a = s.reg a := rfl
@[simp] theorem State.modJtag_get (f : Jtag → Jtag) (fl : Fld) : (s.modJtag f).get fl = s.get fl := rfl
@[simp] theorem State.modJtag_on (f : Jtag → Jtag) (fl : Fld) : (s.modJtag f).on fl = s.on fl := rfl
@[simp] theorem State.modJtag_clocked (f : Jtag → Jtag) (i : Island) : (s.modJtag f).clocked i = s.clocked i := rfl

/-! State.modSns writes one record. -/

@[simp] theorem State.modSns_regs (f : Sns → Sns) : (s.modSns f).regs = s.regs := rfl
@[simp] theorem State.modSns_domState (f : Sns → Sns) : (s.modSns f).domState = s.domState := rfl
@[simp] theorem State.modSns_gated (f : Sns → Sns) : (s.modSns f).gated = s.gated := rfl
@[simp] theorem State.modSns_pending (f : Sns → Sns) : (s.modSns f).pending = s.pending := rfl
@[simp] theorem State.modSns_keptMgmt (f : Sns → Sns) : (s.modSns f).keptMgmt = s.keptMgmt := rfl
@[simp] theorem State.modSns_keptUsb (f : Sns → Sns) : (s.modSns f).keptUsb = s.keptUsb := rfl
@[simp] theorem State.modSns_pins (f : Sns → Sns) : (s.modSns f).pins = s.pins := rfl
@[simp] theorem State.modSns_free (f : Sns → Sns) : (s.modSns f).free = s.free := rfl
@[simp] theorem State.modSns_poison (f : Sns → Sns) : (s.modSns f).poison = s.poison := rfl
@[simp] theorem State.modSns_sram (f : Sns → Sns) : (s.modSns f).sram = s.sram := rfl
@[simp] theorem State.modSns_reg (f : Sns → Sns) (a : Nat) : (s.modSns f).reg a = s.reg a := rfl
@[simp] theorem State.modSns_get (f : Sns → Sns) (fl : Fld) : (s.modSns f).get fl = s.get fl := rfl
@[simp] theorem State.modSns_on (f : Sns → Sns) (fl : Fld) : (s.modSns f).on fl = s.on fl := rfl
@[simp] theorem State.modSns_clocked (f : Sns → Sns) (i : Island) : (s.modSns f).clocked i = s.clocked i := rfl

/-! State.modRx writes one record. -/

@[simp] theorem State.modRx_regs (f : SpdRx → SpdRx) : (s.modRx f).regs = s.regs := rfl
@[simp] theorem State.modRx_domState (f : SpdRx → SpdRx) : (s.modRx f).domState = s.domState := rfl
@[simp] theorem State.modRx_gated (f : SpdRx → SpdRx) : (s.modRx f).gated = s.gated := rfl
@[simp] theorem State.modRx_pending (f : SpdRx → SpdRx) : (s.modRx f).pending = s.pending := rfl
@[simp] theorem State.modRx_keptMgmt (f : SpdRx → SpdRx) : (s.modRx f).keptMgmt = s.keptMgmt := rfl
@[simp] theorem State.modRx_keptUsb (f : SpdRx → SpdRx) : (s.modRx f).keptUsb = s.keptUsb := rfl
@[simp] theorem State.modRx_pins (f : SpdRx → SpdRx) : (s.modRx f).pins = s.pins := rfl
@[simp] theorem State.modRx_free (f : SpdRx → SpdRx) : (s.modRx f).free = s.free := rfl
@[simp] theorem State.modRx_poison (f : SpdRx → SpdRx) : (s.modRx f).poison = s.poison := rfl
@[simp] theorem State.modRx_sram (f : SpdRx → SpdRx) : (s.modRx f).sram = s.sram := rfl
@[simp] theorem State.modRx_reg (f : SpdRx → SpdRx) (a : Nat) : (s.modRx f).reg a = s.reg a := rfl
@[simp] theorem State.modRx_get (f : SpdRx → SpdRx) (fl : Fld) : (s.modRx f).get fl = s.get fl := rfl
@[simp] theorem State.modRx_on (f : SpdRx → SpdRx) (fl : Fld) : (s.modRx f).on fl = s.on fl := rfl
@[simp] theorem State.modRx_clocked (f : SpdRx → SpdRx) (i : Island) : (s.modRx f).clocked i = s.clocked i := rfl

/-! State.modTx writes one record. -/

@[simp] theorem State.modTx_regs (f : SpdTx → SpdTx) : (s.modTx f).regs = s.regs := rfl
@[simp] theorem State.modTx_domState (f : SpdTx → SpdTx) : (s.modTx f).domState = s.domState := rfl
@[simp] theorem State.modTx_gated (f : SpdTx → SpdTx) : (s.modTx f).gated = s.gated := rfl
@[simp] theorem State.modTx_pending (f : SpdTx → SpdTx) : (s.modTx f).pending = s.pending := rfl
@[simp] theorem State.modTx_keptMgmt (f : SpdTx → SpdTx) : (s.modTx f).keptMgmt = s.keptMgmt := rfl
@[simp] theorem State.modTx_keptUsb (f : SpdTx → SpdTx) : (s.modTx f).keptUsb = s.keptUsb := rfl
@[simp] theorem State.modTx_pins (f : SpdTx → SpdTx) : (s.modTx f).pins = s.pins := rfl
@[simp] theorem State.modTx_free (f : SpdTx → SpdTx) : (s.modTx f).free = s.free := rfl
@[simp] theorem State.modTx_poison (f : SpdTx → SpdTx) : (s.modTx f).poison = s.poison := rfl
@[simp] theorem State.modTx_sram (f : SpdTx → SpdTx) : (s.modTx f).sram = s.sram := rfl
@[simp] theorem State.modTx_reg (f : SpdTx → SpdTx) (a : Nat) : (s.modTx f).reg a = s.reg a := rfl
@[simp] theorem State.modTx_get (f : SpdTx → SpdTx) (fl : Fld) : (s.modTx f).get fl = s.get fl := rfl
@[simp] theorem State.modTx_on (f : SpdTx → SpdTx) (fl : Fld) : (s.modTx f).on fl = s.on fl := rfl
@[simp] theorem State.modTx_clocked (f : SpdTx → SpdTx) (i : Island) : (s.modTx f).clocked i = s.clocked i := rfl

/-! State.modSpk writes one record. -/

@[simp] theorem State.modSpk_regs (n : Nat) (f : Spk → Spk) : (s.modSpk n f).regs = s.regs := rfl
@[simp] theorem State.modSpk_domState (n : Nat) (f : Spk → Spk) : (s.modSpk n f).domState = s.domState := rfl
@[simp] theorem State.modSpk_gated (n : Nat) (f : Spk → Spk) : (s.modSpk n f).gated = s.gated := rfl
@[simp] theorem State.modSpk_pending (n : Nat) (f : Spk → Spk) : (s.modSpk n f).pending = s.pending := rfl
@[simp] theorem State.modSpk_keptMgmt (n : Nat) (f : Spk → Spk) : (s.modSpk n f).keptMgmt = s.keptMgmt := rfl
@[simp] theorem State.modSpk_keptUsb (n : Nat) (f : Spk → Spk) : (s.modSpk n f).keptUsb = s.keptUsb := rfl
@[simp] theorem State.modSpk_pins (n : Nat) (f : Spk → Spk) : (s.modSpk n f).pins = s.pins := rfl
@[simp] theorem State.modSpk_free (n : Nat) (f : Spk → Spk) : (s.modSpk n f).free = s.free := rfl
@[simp] theorem State.modSpk_poison (n : Nat) (f : Spk → Spk) : (s.modSpk n f).poison = s.poison := rfl
@[simp] theorem State.modSpk_sram (n : Nat) (f : Spk → Spk) : (s.modSpk n f).sram = s.sram := rfl
@[simp] theorem State.modSpk_reg (n : Nat) (f : Spk → Spk) (a : Nat) : (s.modSpk n f).reg a = s.reg a := rfl
@[simp] theorem State.modSpk_get (n : Nat) (f : Spk → Spk) (fl : Fld) : (s.modSpk n f).get fl = s.get fl := rfl
@[simp] theorem State.modSpk_on (n : Nat) (f : Spk → Spk) (fl : Fld) : (s.modSpk n f).on fl = s.on fl := rfl
@[simp] theorem State.modSpk_clocked (n : Nat) (f : Spk → Spk) (i : Island) : (s.modSpk n f).clocked i = s.clocked i := rfl

/-! State.modTrk writes one record. -/

@[simp] theorem State.modTrk_regs (t : Nat) (f : Trk → Trk) : (s.modTrk t f).regs = s.regs := rfl
@[simp] theorem State.modTrk_domState (t : Nat) (f : Trk → Trk) : (s.modTrk t f).domState = s.domState := rfl
@[simp] theorem State.modTrk_gated (t : Nat) (f : Trk → Trk) : (s.modTrk t f).gated = s.gated := rfl
@[simp] theorem State.modTrk_pending (t : Nat) (f : Trk → Trk) : (s.modTrk t f).pending = s.pending := rfl
@[simp] theorem State.modTrk_keptMgmt (t : Nat) (f : Trk → Trk) : (s.modTrk t f).keptMgmt = s.keptMgmt := rfl
@[simp] theorem State.modTrk_keptUsb (t : Nat) (f : Trk → Trk) : (s.modTrk t f).keptUsb = s.keptUsb := rfl
@[simp] theorem State.modTrk_pins (t : Nat) (f : Trk → Trk) : (s.modTrk t f).pins = s.pins := rfl
@[simp] theorem State.modTrk_free (t : Nat) (f : Trk → Trk) : (s.modTrk t f).free = s.free := rfl
@[simp] theorem State.modTrk_poison (t : Nat) (f : Trk → Trk) : (s.modTrk t f).poison = s.poison := rfl
@[simp] theorem State.modTrk_sram (t : Nat) (f : Trk → Trk) : (s.modTrk t f).sram = s.sram := rfl
@[simp] theorem State.modTrk_reg (t : Nat) (f : Trk → Trk) (a : Nat) : (s.modTrk t f).reg a = s.reg a := rfl
@[simp] theorem State.modTrk_get (t : Nat) (f : Trk → Trk) (fl : Fld) : (s.modTrk t f).get fl = s.get fl := rfl
@[simp] theorem State.modTrk_on (t : Nat) (f : Trk → Trk) (fl : Fld) : (s.modTrk t f).on fl = s.on fl := rfl
@[simp] theorem State.modTrk_clocked (t : Nat) (f : Trk → Trk) (i : Island) : (s.modTrk t f).clocked i = s.clocked i := rfl

/-! State.modMains writes one record. -/

@[simp] theorem State.modMains_regs (f : Mains → Mains) : (s.modMains f).regs = s.regs := rfl
@[simp] theorem State.modMains_domState (f : Mains → Mains) : (s.modMains f).domState = s.domState := rfl
@[simp] theorem State.modMains_gated (f : Mains → Mains) : (s.modMains f).gated = s.gated := rfl
@[simp] theorem State.modMains_pending (f : Mains → Mains) : (s.modMains f).pending = s.pending := rfl
@[simp] theorem State.modMains_keptMgmt (f : Mains → Mains) : (s.modMains f).keptMgmt = s.keptMgmt := rfl
@[simp] theorem State.modMains_keptUsb (f : Mains → Mains) : (s.modMains f).keptUsb = s.keptUsb := rfl
@[simp] theorem State.modMains_pins (f : Mains → Mains) : (s.modMains f).pins = s.pins := rfl
@[simp] theorem State.modMains_free (f : Mains → Mains) : (s.modMains f).free = s.free := rfl
@[simp] theorem State.modMains_poison (f : Mains → Mains) : (s.modMains f).poison = s.poison := rfl
@[simp] theorem State.modMains_sram (f : Mains → Mains) : (s.modMains f).sram = s.sram := rfl
@[simp] theorem State.modMains_reg (f : Mains → Mains) (a : Nat) : (s.modMains f).reg a = s.reg a := rfl
@[simp] theorem State.modMains_get (f : Mains → Mains) (fl : Fld) : (s.modMains f).get fl = s.get fl := rfl
@[simp] theorem State.modMains_on (f : Mains → Mains) (fl : Fld) : (s.modMains f).on fl = s.on fl := rfl
@[simp] theorem State.modMains_clocked (f : Mains → Mains) (i : Island) : (s.modMains f).clocked i = s.clocked i := rfl

/-! State.modUsb writes one record. -/

@[simp] theorem State.modUsb_regs (f : Usb → Usb) : (s.modUsb f).regs = s.regs := rfl
@[simp] theorem State.modUsb_domState (f : Usb → Usb) : (s.modUsb f).domState = s.domState := rfl
@[simp] theorem State.modUsb_gated (f : Usb → Usb) : (s.modUsb f).gated = s.gated := rfl
@[simp] theorem State.modUsb_pending (f : Usb → Usb) : (s.modUsb f).pending = s.pending := rfl
@[simp] theorem State.modUsb_keptMgmt (f : Usb → Usb) : (s.modUsb f).keptMgmt = s.keptMgmt := rfl
@[simp] theorem State.modUsb_keptUsb (f : Usb → Usb) : (s.modUsb f).keptUsb = s.keptUsb := rfl
@[simp] theorem State.modUsb_pins (f : Usb → Usb) : (s.modUsb f).pins = s.pins := rfl
@[simp] theorem State.modUsb_free (f : Usb → Usb) : (s.modUsb f).free = s.free := rfl
@[simp] theorem State.modUsb_poison (f : Usb → Usb) : (s.modUsb f).poison = s.poison := rfl
@[simp] theorem State.modUsb_sram (f : Usb → Usb) : (s.modUsb f).sram = s.sram := rfl
@[simp] theorem State.modUsb_reg (f : Usb → Usb) (a : Nat) : (s.modUsb f).reg a = s.reg a := rfl
@[simp] theorem State.modUsb_get (f : Usb → Usb) (fl : Fld) : (s.modUsb f).get fl = s.get fl := rfl
@[simp] theorem State.modUsb_on (f : Usb → Usb) (fl : Fld) : (s.modUsb f).on fl = s.on fl := rfl
@[simp] theorem State.modUsb_clocked (f : Usb → Usb) (i : Island) : (s.modUsb f).clocked i = s.clocked i := rfl

/-! State.modOut writes one record. -/

@[simp] theorem State.modOut_regs (j : Nat) (f : UsbOut → UsbOut) : (s.modOut j f).regs = s.regs := rfl
@[simp] theorem State.modOut_domState (j : Nat) (f : UsbOut → UsbOut) : (s.modOut j f).domState = s.domState := rfl
@[simp] theorem State.modOut_gated (j : Nat) (f : UsbOut → UsbOut) : (s.modOut j f).gated = s.gated := rfl
@[simp] theorem State.modOut_pending (j : Nat) (f : UsbOut → UsbOut) : (s.modOut j f).pending = s.pending := rfl
@[simp] theorem State.modOut_keptMgmt (j : Nat) (f : UsbOut → UsbOut) : (s.modOut j f).keptMgmt = s.keptMgmt := rfl
@[simp] theorem State.modOut_keptUsb (j : Nat) (f : UsbOut → UsbOut) : (s.modOut j f).keptUsb = s.keptUsb := rfl
@[simp] theorem State.modOut_pins (j : Nat) (f : UsbOut → UsbOut) : (s.modOut j f).pins = s.pins := rfl
@[simp] theorem State.modOut_free (j : Nat) (f : UsbOut → UsbOut) : (s.modOut j f).free = s.free := rfl
@[simp] theorem State.modOut_poison (j : Nat) (f : UsbOut → UsbOut) : (s.modOut j f).poison = s.poison := rfl
@[simp] theorem State.modOut_sram (j : Nat) (f : UsbOut → UsbOut) : (s.modOut j f).sram = s.sram := rfl
@[simp] theorem State.modOut_reg (j : Nat) (f : UsbOut → UsbOut) (a : Nat) : (s.modOut j f).reg a = s.reg a := rfl
@[simp] theorem State.modOut_get (j : Nat) (f : UsbOut → UsbOut) (fl : Fld) : (s.modOut j f).get fl = s.get fl := rfl
@[simp] theorem State.modOut_on (j : Nat) (f : UsbOut → UsbOut) (fl : Fld) : (s.modOut j f).on fl = s.on fl := rfl
@[simp] theorem State.modOut_clocked (j : Nat) (f : UsbOut → UsbOut) (i : Island) : (s.modOut j f).clocked i = s.clocked i := rfl

/-! State.modIn writes one record. -/

@[simp] theorem State.modIn_regs (j : Nat) (f : UsbIn → UsbIn) : (s.modIn j f).regs = s.regs := rfl
@[simp] theorem State.modIn_domState (j : Nat) (f : UsbIn → UsbIn) : (s.modIn j f).domState = s.domState := rfl
@[simp] theorem State.modIn_gated (j : Nat) (f : UsbIn → UsbIn) : (s.modIn j f).gated = s.gated := rfl
@[simp] theorem State.modIn_pending (j : Nat) (f : UsbIn → UsbIn) : (s.modIn j f).pending = s.pending := rfl
@[simp] theorem State.modIn_keptMgmt (j : Nat) (f : UsbIn → UsbIn) : (s.modIn j f).keptMgmt = s.keptMgmt := rfl
@[simp] theorem State.modIn_keptUsb (j : Nat) (f : UsbIn → UsbIn) : (s.modIn j f).keptUsb = s.keptUsb := rfl
@[simp] theorem State.modIn_pins (j : Nat) (f : UsbIn → UsbIn) : (s.modIn j f).pins = s.pins := rfl
@[simp] theorem State.modIn_free (j : Nat) (f : UsbIn → UsbIn) : (s.modIn j f).free = s.free := rfl
@[simp] theorem State.modIn_poison (j : Nat) (f : UsbIn → UsbIn) : (s.modIn j f).poison = s.poison := rfl
@[simp] theorem State.modIn_sram (j : Nat) (f : UsbIn → UsbIn) : (s.modIn j f).sram = s.sram := rfl
@[simp] theorem State.modIn_reg (j : Nat) (f : UsbIn → UsbIn) (a : Nat) : (s.modIn j f).reg a = s.reg a := rfl
@[simp] theorem State.modIn_get (j : Nat) (f : UsbIn → UsbIn) (fl : Fld) : (s.modIn j f).get fl = s.get fl := rfl
@[simp] theorem State.modIn_on (j : Nat) (f : UsbIn → UsbIn) (fl : Fld) : (s.modIn j f).on fl = s.on fl := rfl
@[simp] theorem State.modIn_clocked (j : Nat) (f : UsbIn → UsbIn) (i : Island) : (s.modIn j f).clocked i = s.clocked i := rfl

end Sys2Proof.Machine
end

