-- ==== Sys2Proof/Laws/Regs.lean ====
section
/-! SUPPORT. Laws of the register file: what a register or a field reads after a word, a field, a counter, an interrupt bit or
a fault code was put into it; and the canonical form. -/

namespace Sys2Proof.Machine

variable (s : State)

/-! ## Words -/

@[simp] theorem State.reg_setReg_self (a : Nat) (w : Word) : (s.setReg a w).reg a = w := by
  simp [State.reg, State.setReg]

theorem State.reg_setReg_ne {a b : Nat} (w : Word) (h : a ≠ b) : (s.setReg a w).reg b = s.reg b := by
  simp [State.reg, State.setReg, lookup_store_ne _ _ _ _ h]

/-- The register file is in its canonical form (R55). -/
def State.regsOk (s : State) : Bool := canonical regReset s.regs

theorem State.regsOk_setReg (a : Nat) (w : Word) (h : s.regsOk = true) : (s.setReg a w).regsOk = true :=
  canonical_store regReset s.regs a w h

theorem State.regsOk_set (f : Fld) (v : Nat) (h : s.regsOk = true) : (s.set f v).regsOk = true := s.regsOk_setReg _ _ h

/-! ## Fields -/

/-- The field lies within a word. -/
def Fld.fits (f : Fld) : Prop := f.lo + f.w ≤ 32

/-- Two fields have no bit in common. -/
def Fld.apart (f g : Fld) : Prop := f.addr ≠ g.addr ∨ g.lo + g.w ≤ f.lo ∨ f.lo + f.w ≤ g.lo

theorem State.get_lt (f : Fld) : s.get f < 2 ^ f.w := bits_lt _ _ _

theorem State.reg_set_ne {f : Fld} {b : Nat} (v : Nat) (h : f.addr ≠ b) : (s.set f v).reg b = s.reg b :=
  s.reg_setReg_ne _ h

theorem State.get_set_self (f : Fld) (v : Nat) (h : f.fits) : (s.set f v).get f = v % 2 ^ f.w := by
  simp [State.get, State.set, bits_setBits_self _ _ _ _ h]

theorem State.get_set_ne {f g : Fld} (v : Nat) (h : f.fits) (hd : f.apart g) : (s.set f v).get g = s.get g := by
  by_cases ha : f.addr = g.addr
  · have hd' : g.lo + g.w ≤ f.lo ∨ f.lo + f.w ≤ g.lo := hd.resolve_left (fun h => h ha)
    simp only [State.get, State.set, ← ha, State.reg_setReg_self]
    exact bits_setBits_ne _ _ h hd'
  · simp [State.get, State.reg_set_ne _ _ ha]

theorem State.on_set_self (f : Fld) (v : Nat) (h : f.fits) : (s.set f v).on f = decide (v % 2 ^ f.w ≠ 0) := by
  simp [State.on, s.get_set_self f v h]

theorem State.on_set_ne {f g : Fld} (v : Nat) (h : f.fits) (hd : f.apart g) : (s.set f v).on g = s.on g := by
  simp [State.on, s.get_set_ne v h hd]

theorem State.get_setB_self (f : Fld) (b : Bool) (h : f.fits) (hw : 0 < f.w) : (s.setB f b).get f = if b then 1 else 0 := by
  have h2 : 1 < 2 ^ f.w := Nat.one_lt_two_pow (Nat.pos_iff_ne_zero.1 hw)
  simp only [State.setB, s.get_set_self f _ h]
  cases b
  · simp
  · simpa using Nat.mod_eq_of_lt h2

/-- A counter rises by one and stops at its largest value. -/
theorem State.get_inc_self (f : Fld) (h : f.fits) : (s.inc f).get f = min (s.get f + 1) (2 ^ f.w - 1) := by
  have hp : 0 < 2 ^ f.w := Nat.two_pow_pos _
  have hl := s.get_lt f
  rw [State.inc, s.get_set_self f _ h, satInc]
  split
  · next hlt => rw [Nat.mod_eq_of_lt hlt]; omega
  · rw [Nat.mod_eq_of_lt (by omega)]; omega

/-! ## Interrupts and faults (R62, R64) -/

/-- The bit a source event sets. -/
theorem State.get_irq_self (page i : Nat) (h : i < 32) : (s.irq page i).get (F.PG_IRQ page i) = 1 :=
  s.get_set_self (F.PG_IRQ page i) 1 (by simp only [Fld.fits, F.PG_IRQ]; omega)

/-- A source event writes PG_IRQ_RAW of its page and nothing else. -/
theorem State.reg_irq_ne {page a : Nat} (i : Nat) (h : page * 0x400 + 0x00C ≠ a) : (s.irq page i).reg a = s.reg a :=
  s.reg_set_ne 1 h

/-- A fault code that a block reports. -/
theorem State.get_fault_self (page code : Nat) (h : code < 256) : (s.fault page code).get (F.PG_FAULT page) = code := by
  rw [State.fault, State.get_set_self _ _ _ (by simp [Fld.fits, F.PG_FAULT])]
  exact Nat.mod_eq_of_lt h

/-- A fault report writes PG_IRQ_RAW and PG_ERR_CODE of its page and nothing else. -/
theorem State.reg_fault_ne {page a : Nat} (code : Nat) (h1 : page * 0x400 + 0x00C ≠ a) (h2 : page * 0x400 + 0x018 ≠ a) :
    (s.fault page code).reg a = s.reg a := by
  rw [State.fault, State.reg_set_ne _ _ h2, State.when]
  split
  · exact s.reg_irq_ne 1 h1
  · rfl

/-! ## Conditional updates -/

@[simp] theorem State.when_true (f : State → State) : s.when true f = f s := rfl

@[simp] theorem State.when_false (f : State → State) : s.when false f = s := rfl

/-- An event of a clocked island whose condition holds takes place. -/
theorem State.event_of {i : Island} {c : Bool} (f : State → State) (h : s.clocked i = true) (hc : c = true) :
    s.event i c f = f s := by
  simp [State.event, h, hc]

/-- An event of an island whose clock stands cannot occur. -/
theorem State.event_off {i : Island} (c : Bool) (f : State → State) (h : s.clocked i = false) : s.event i c f = s := by
  simp [State.event, h]

/-- What every step of a fold keeps, the fold keeps. -/
theorem State.forAll_keeps {β : Type} (g : State → β) (n : Nat) (f : State → Nat → State) (h : ∀ s k, g (f s k) = g s) :
    g (s.forAll n f) = g s := by
  unfold State.forAll
  generalize List.range n = l
  induction l generalizing s with
  | nil => rfl
  | cons k t ih => rw [List.foldl_cons, ih, h]

end Sys2Proof.Machine
end

