-- ==== Sys2Proof/Laws/Records.lean ====
section
/-! SUPPORT. Laws of the blocks' records: an updated record reads the update, its neighbours and every register read as before, and
the register updates leave every record alone. -/

namespace Sys2Proof.Machine

variable (s : State)

/-- A fault code leaves alone what a field write leaves alone. -/
theorem State.fault_keeps {β : Type} (g : State → β) (hs : ∀ s f v, g (State.set s f v) = g s) (p c : Nat) :
    g (s.fault p c) = g s := by
  unfold State.fault
  rw [hs]
  cases decide (s.get (F.PG_FAULT p) = 0)
  · rfl
  · exact hs _ _ _

/-- The end of a fault code leaves alone what a field write leaves alone. -/
theorem State.unfault_keeps {β : Type} (g : State → β) (hs : ∀ s f v, g (State.set s f v) = g s) (p c : Nat) :
    g (s.unfault p c) = g s := by
  unfold State.unfault
  cases decide (s.get (F.PG_FAULT p) = c)
  · rfl
  · exact hs _ _ _

/-! ainAt and modAin -/

theorem State.ainAt_modAin_self {n : Nat} (h : n < 16) (f : Ain → Ain) : (s.modAin n f).ainAt n = f (s.ainAt n) :=
  vget_vmod_self _ _ _ _ h

theorem State.ainAt_modAin_ne {n k : Nat} (h : n ≠ k) (f : Ain → Ain) : (s.modAin n f).ainAt k = s.ainAt k :=
  vget_vmod_ne _ _ _ h

@[simp] theorem State.setReg_ainAt (a : Nat) (w : Word) (n : Nat) : (s.setReg a w).ainAt n = s.ainAt n := rfl
@[simp] theorem State.set_ainAt (g : Fld) (v : Nat) (n : Nat) : (s.set g v).ainAt n = s.ainAt n := rfl
@[simp] theorem State.setB_ainAt (g : Fld) (v : Bool) (n : Nat) : (s.setB g v).ainAt n = s.ainAt n := rfl
@[simp] theorem State.setS_ainAt (g : Fld) (v : Int) (n : Nat) : (s.setS g v).ainAt n = s.ainAt n := rfl
@[simp] theorem State.inc_ainAt (g : Fld) (n : Nat) : (s.inc g).ainAt n = s.ainAt n := rfl
@[simp] theorem State.irq_ainAt (p i : Nat) (n : Nat) : (s.irq p i).ainAt n = s.ainAt n := rfl
@[simp] theorem State.fault_ainAt (p c : Nat) (n : Nat) : (s.fault p c).ainAt n = s.ainAt n := s.fault_keeps (·.ainAt n) (fun _ _ _ => rfl) p c
@[simp] theorem State.unfault_ainAt (p c : Nat) (n : Nat) : (s.unfault p c).ainAt n = s.ainAt n := s.unfault_keeps (·.ainAt n) (fun _ _ _ => rfl) p c

/-! aoutAt and modAout -/

theorem State.aoutAt_modAout_self {n : Nat} (h : n < 8) (f : Aout → Aout) : (s.modAout n f).aoutAt n = f (s.aoutAt n) :=
  vget_vmod_self _ _ _ _ h

theorem State.aoutAt_modAout_ne {n k : Nat} (h : n ≠ k) (f : Aout → Aout) : (s.modAout n f).aoutAt k = s.aoutAt k :=
  vget_vmod_ne _ _ _ h

@[simp] theorem State.setReg_aoutAt (a : Nat) (w : Word) (n : Nat) : (s.setReg a w).aoutAt n = s.aoutAt n := rfl
@[simp] theorem State.set_aoutAt (g : Fld) (v : Nat) (n : Nat) : (s.set g v).aoutAt n = s.aoutAt n := rfl
@[simp] theorem State.setB_aoutAt (g : Fld) (v : Bool) (n : Nat) : (s.setB g v).aoutAt n = s.aoutAt n := rfl
@[simp] theorem State.setS_aoutAt (g : Fld) (v : Int) (n : Nat) : (s.setS g v).aoutAt n = s.aoutAt n := rfl
@[simp] theorem State.inc_aoutAt (g : Fld) (n : Nat) : (s.inc g).aoutAt n = s.aoutAt n := rfl
@[simp] theorem State.irq_aoutAt (p i : Nat) (n : Nat) : (s.irq p i).aoutAt n = s.aoutAt n := rfl
@[simp] theorem State.fault_aoutAt (p c : Nat) (n : Nat) : (s.fault p c).aoutAt n = s.aoutAt n := s.fault_keeps (·.aoutAt n) (fun _ _ _ => rfl) p c
@[simp] theorem State.unfault_aoutAt (p c : Nat) (n : Nat) : (s.unfault p c).aoutAt n = s.aoutAt n := s.unfault_keeps (·.aoutAt n) (fun _ _ _ => rfl) p c

/-! sapAt and modSap -/

theorem State.sapAt_modSap_self {n : Nat} (h : n < 8) (f : Sap → Sap) : (s.modSap n f).sapAt n = f (s.sapAt n) :=
  vget_vmod_self _ _ _ _ h

theorem State.sapAt_modSap_ne {n k : Nat} (h : n ≠ k) (f : Sap → Sap) : (s.modSap n f).sapAt k = s.sapAt k :=
  vget_vmod_ne _ _ _ h

@[simp] theorem State.setReg_sapAt (a : Nat) (w : Word) (n : Nat) : (s.setReg a w).sapAt n = s.sapAt n := rfl
@[simp] theorem State.set_sapAt (g : Fld) (v : Nat) (n : Nat) : (s.set g v).sapAt n = s.sapAt n := rfl
@[simp] theorem State.setB_sapAt (g : Fld) (v : Bool) (n : Nat) : (s.setB g v).sapAt n = s.sapAt n := rfl
@[simp] theorem State.setS_sapAt (g : Fld) (v : Int) (n : Nat) : (s.setS g v).sapAt n = s.sapAt n := rfl
@[simp] theorem State.inc_sapAt (g : Fld) (n : Nat) : (s.inc g).sapAt n = s.sapAt n := rfl
@[simp] theorem State.irq_sapAt (p i : Nat) (n : Nat) : (s.irq p i).sapAt n = s.sapAt n := rfl
@[simp] theorem State.fault_sapAt (p c : Nat) (n : Nat) : (s.fault p c).sapAt n = s.sapAt n := s.fault_keeps (·.sapAt n) (fun _ _ _ => rfl) p c
@[simp] theorem State.unfault_sapAt (p c : Nat) (n : Nat) : (s.unfault p c).sapAt n = s.sapAt n := s.unfault_keeps (·.sapAt n) (fun _ _ _ => rfl) p c

/-! trkAt and modTrk -/

theorem State.trkAt_modTrk_self {n : Nat} (h : n < 10) (f : Trk → Trk) : (s.modTrk n f).trkAt n = f (s.trkAt n) :=
  vget_vmod_self _ _ _ _ h

theorem State.trkAt_modTrk_ne {n k : Nat} (h : n ≠ k) (f : Trk → Trk) : (s.modTrk n f).trkAt k = s.trkAt k :=
  vget_vmod_ne _ _ _ h

@[simp] theorem State.setReg_trkAt (a : Nat) (w : Word) (n : Nat) : (s.setReg a w).trkAt n = s.trkAt n := rfl
@[simp] theorem State.set_trkAt (g : Fld) (v : Nat) (n : Nat) : (s.set g v).trkAt n = s.trkAt n := rfl
@[simp] theorem State.setB_trkAt (g : Fld) (v : Bool) (n : Nat) : (s.setB g v).trkAt n = s.trkAt n := rfl
@[simp] theorem State.setS_trkAt (g : Fld) (v : Int) (n : Nat) : (s.setS g v).trkAt n = s.trkAt n := rfl
@[simp] theorem State.inc_trkAt (g : Fld) (n : Nat) : (s.inc g).trkAt n = s.trkAt n := rfl
@[simp] theorem State.irq_trkAt (p i : Nat) (n : Nat) : (s.irq p i).trkAt n = s.trkAt n := rfl
@[simp] theorem State.fault_trkAt (p c : Nat) (n : Nat) : (s.fault p c).trkAt n = s.trkAt n := s.fault_keeps (·.trkAt n) (fun _ _ _ => rfl) p c
@[simp] theorem State.unfault_trkAt (p c : Nat) (n : Nat) : (s.unfault p c).trkAt n = s.trkAt n := s.unfault_keeps (·.trkAt n) (fun _ _ _ => rfl) p c

/-! pdmAt and modPdm -/

theorem State.pdmAt_modPdm_self {n : Nat} (h : n < 2) (f : PdmGrp → PdmGrp) : (s.modPdm n f).pdmAt n = f (s.pdmAt n) :=
  vget_vmod_self _ _ _ _ h

theorem State.pdmAt_modPdm_ne {n k : Nat} (h : n ≠ k) (f : PdmGrp → PdmGrp) : (s.modPdm n f).pdmAt k = s.pdmAt k :=
  vget_vmod_ne _ _ _ h

@[simp] theorem State.setReg_pdmAt (a : Nat) (w : Word) (n : Nat) : (s.setReg a w).pdmAt n = s.pdmAt n := rfl
@[simp] theorem State.set_pdmAt (g : Fld) (v : Nat) (n : Nat) : (s.set g v).pdmAt n = s.pdmAt n := rfl
@[simp] theorem State.setB_pdmAt (g : Fld) (v : Bool) (n : Nat) : (s.setB g v).pdmAt n = s.pdmAt n := rfl
@[simp] theorem State.setS_pdmAt (g : Fld) (v : Int) (n : Nat) : (s.setS g v).pdmAt n = s.pdmAt n := rfl
@[simp] theorem State.inc_pdmAt (g : Fld) (n : Nat) : (s.inc g).pdmAt n = s.pdmAt n := rfl
@[simp] theorem State.irq_pdmAt (p i : Nat) (n : Nat) : (s.irq p i).pdmAt n = s.pdmAt n := rfl
@[simp] theorem State.fault_pdmAt (p c : Nat) (n : Nat) : (s.fault p c).pdmAt n = s.pdmAt n := s.fault_keeps (·.pdmAt n) (fun _ _ _ => rfl) p c
@[simp] theorem State.unfault_pdmAt (p c : Nat) (n : Nat) : (s.unfault p c).pdmAt n = s.pdmAt n := s.unfault_keeps (·.pdmAt n) (fun _ _ _ => rfl) p c

/-! jackAt and modJack -/

theorem State.jackAt_modJack_self {n : Nat} (h : n < 2) (f : Jack → Jack) : (s.modJack n f).jackAt n = f (s.jackAt n) :=
  vget_vmod_self _ _ _ _ h

theorem State.jackAt_modJack_ne {n k : Nat} (h : n ≠ k) (f : Jack → Jack) : (s.modJack n f).jackAt k = s.jackAt k :=
  vget_vmod_ne _ _ _ h

@[simp] theorem State.setReg_jackAt (a : Nat) (w : Word) (n : Nat) : (s.setReg a w).jackAt n = s.jackAt n := rfl
@[simp] theorem State.set_jackAt (g : Fld) (v : Nat) (n : Nat) : (s.set g v).jackAt n = s.jackAt n := rfl
@[simp] theorem State.setB_jackAt (g : Fld) (v : Bool) (n : Nat) : (s.setB g v).jackAt n = s.jackAt n := rfl
@[simp] theorem State.setS_jackAt (g : Fld) (v : Int) (n : Nat) : (s.setS g v).jackAt n = s.jackAt n := rfl
@[simp] theorem State.inc_jackAt (g : Fld) (n : Nat) : (s.inc g).jackAt n = s.jackAt n := rfl
@[simp] theorem State.irq_jackAt (p i : Nat) (n : Nat) : (s.irq p i).jackAt n = s.jackAt n := rfl
@[simp] theorem State.fault_jackAt (p c : Nat) (n : Nat) : (s.fault p c).jackAt n = s.jackAt n := s.fault_keeps (·.jackAt n) (fun _ _ _ => rfl) p c
@[simp] theorem State.unfault_jackAt (p c : Nat) (n : Nat) : (s.unfault p c).jackAt n = s.jackAt n := s.unfault_keeps (·.jackAt n) (fun _ _ _ => rfl) p c

/-! laneAt and modLane -/

theorem State.laneAt_modLane_self {n : Nat} (h : n < 48) (f : Lane → Lane) : (s.modLane n f).laneAt n = f (s.laneAt n) :=
  vget_vmod_self _ _ _ _ h

theorem State.laneAt_modLane_ne {n k : Nat} (h : n ≠ k) (f : Lane → Lane) : (s.modLane n f).laneAt k = s.laneAt k :=
  vget_vmod_ne _ _ _ h

@[simp] theorem State.setReg_laneAt (a : Nat) (w : Word) (n : Nat) : (s.setReg a w).laneAt n = s.laneAt n := rfl
@[simp] theorem State.set_laneAt (g : Fld) (v : Nat) (n : Nat) : (s.set g v).laneAt n = s.laneAt n := rfl
@[simp] theorem State.setB_laneAt (g : Fld) (v : Bool) (n : Nat) : (s.setB g v).laneAt n = s.laneAt n := rfl
@[simp] theorem State.setS_laneAt (g : Fld) (v : Int) (n : Nat) : (s.setS g v).laneAt n = s.laneAt n := rfl
@[simp] theorem State.inc_laneAt (g : Fld) (n : Nat) : (s.inc g).laneAt n = s.laneAt n := rfl
@[simp] theorem State.irq_laneAt (p i : Nat) (n : Nat) : (s.irq p i).laneAt n = s.laneAt n := rfl
@[simp] theorem State.fault_laneAt (p c : Nat) (n : Nat) : (s.fault p c).laneAt n = s.laneAt n := s.fault_keeps (·.laneAt n) (fun _ _ _ => rfl) p c
@[simp] theorem State.unfault_laneAt (p c : Nat) (n : Nat) : (s.unfault p c).laneAt n = s.laneAt n := s.unfault_keeps (·.laneAt n) (fun _ _ _ => rfl) p c

/-! micAt and modMic -/

theorem State.micAt_modMic_self {n : Nat} (h : n < 16) (f : Mic → Mic) : (s.modMic n f).micAt n = f (s.micAt n) :=
  vget_vmod_self _ _ _ _ h

theorem State.micAt_modMic_ne {n k : Nat} (h : n ≠ k) (f : Mic → Mic) : (s.modMic n f).micAt k = s.micAt k :=
  vget_vmod_ne _ _ _ h

@[simp] theorem State.setReg_micAt (a : Nat) (w : Word) (n : Nat) : (s.setReg a w).micAt n = s.micAt n := rfl
@[simp] theorem State.set_micAt (g : Fld) (v : Nat) (n : Nat) : (s.set g v).micAt n = s.micAt n := rfl
@[simp] theorem State.setB_micAt (g : Fld) (v : Bool) (n : Nat) : (s.setB g v).micAt n = s.micAt n := rfl
@[simp] theorem State.setS_micAt (g : Fld) (v : Int) (n : Nat) : (s.setS g v).micAt n = s.micAt n := rfl
@[simp] theorem State.inc_micAt (g : Fld) (n : Nat) : (s.inc g).micAt n = s.micAt n := rfl
@[simp] theorem State.irq_micAt (p i : Nat) (n : Nat) : (s.irq p i).micAt n = s.micAt n := rfl
@[simp] theorem State.fault_micAt (p c : Nat) (n : Nat) : (s.fault p c).micAt n = s.micAt n := s.fault_keeps (·.micAt n) (fun _ _ _ => rfl) p c
@[simp] theorem State.unfault_micAt (p c : Nat) (n : Nat) : (s.unfault p c).micAt n = s.micAt n := s.unfault_keeps (·.micAt n) (fun _ _ _ => rfl) p c

/-! spkAt and modSpk -/

theorem State.spkAt_modSpk_self {n : Nat} (h : n < 4) (f : Spk → Spk) : (s.modSpk n f).spkAt n = f (s.spkAt n) :=
  vget_vmod_self _ _ _ _ h

theorem State.spkAt_modSpk_ne {n k : Nat} (h : n ≠ k) (f : Spk → Spk) : (s.modSpk n f).spkAt k = s.spkAt k :=
  vget_vmod_ne _ _ _ h

@[simp] theorem State.setReg_spkAt (a : Nat) (w : Word) (n : Nat) : (s.setReg a w).spkAt n = s.spkAt n := rfl
@[simp] theorem State.set_spkAt (g : Fld) (v : Nat) (n : Nat) : (s.set g v).spkAt n = s.spkAt n := rfl
@[simp] theorem State.setB_spkAt (g : Fld) (v : Bool) (n : Nat) : (s.setB g v).spkAt n = s.spkAt n := rfl
@[simp] theorem State.setS_spkAt (g : Fld) (v : Int) (n : Nat) : (s.setS g v).spkAt n = s.spkAt n := rfl
@[simp] theorem State.inc_spkAt (g : Fld) (n : Nat) : (s.inc g).spkAt n = s.spkAt n := rfl
@[simp] theorem State.irq_spkAt (p i : Nat) (n : Nat) : (s.irq p i).spkAt n = s.spkAt n := rfl
@[simp] theorem State.fault_spkAt (p c : Nat) (n : Nat) : (s.fault p c).spkAt n = s.spkAt n := s.fault_keeps (·.spkAt n) (fun _ _ _ => rfl) p c
@[simp] theorem State.unfault_spkAt (p c : Nat) (n : Nat) : (s.unfault p c).spkAt n = s.spkAt n := s.unfault_keeps (·.spkAt n) (fun _ _ _ => rfl) p c

@[simp] theorem State.modBlw_blw (f : Blw → Blw) : (s.modBlw f).blw = f s.blw := rfl
@[simp] theorem State.modSmb_smb (f : Smb → Smb) : (s.modSmb f).smb = f s.smb := rfl
@[simp] theorem State.modLdr_ldr (f : Loader → Loader) : (s.modLdr f).ldr = f s.ldr := rfl
@[simp] theorem State.modLst_lst (f : Lst → Lst) : (s.modLst f).lst = f s.lst := rfl
@[simp] theorem State.modMem_mem (f : Mem → Mem) : (s.modMem f).mem = f s.mem := rfl
@[simp] theorem State.modPmb_pmb (f : Pmb → Pmb) : (s.modPmb f).pmb = f s.pmb := rfl
@[simp] theorem State.modPwr_pwr (f : Pwr → Pwr) : (s.modPwr f).pwr = f s.pwr := rfl
@[simp] theorem State.modJtag_jtag (f : Jtag → Jtag) : (s.modJtag f).jtag = f s.jtag := rfl
@[simp] theorem State.modSns_sns (f : Sns → Sns) : (s.modSns f).sns = f s.sns := rfl
@[simp] theorem State.modRx_spdRx (f : SpdRx → SpdRx) : (s.modRx f).spdRx = f s.spdRx := rfl
@[simp] theorem State.modTx_spdTx (f : SpdTx → SpdTx) : (s.modTx f).spdTx = f s.spdTx := rfl
@[simp] theorem State.modMains_mains (f : Mains → Mains) : (s.modMains f).mains = f s.mains := rfl
@[simp] theorem State.modUsb_usb (f : Usb → Usb) : (s.modUsb f).usb = f s.usb := rfl

/-! A fault code and its end leave every part but the register file. -/

@[simp] theorem State.fault_jobs (p c : Nat) : (s.fault p c).jobs = s.jobs := s.fault_keeps (·.jobs) (fun _ _ _ => rfl) p c
@[simp] theorem State.unfault_jobs (p c : Nat) : (s.unfault p c).jobs = s.jobs := s.unfault_keeps (·.jobs) (fun _ _ _ => rfl) p c
@[simp] theorem State.fault_jobSeq (p c : Nat) : (s.fault p c).jobSeq = s.jobSeq := s.fault_keeps (·.jobSeq) (fun _ _ _ => rfl) p c
@[simp] theorem State.unfault_jobSeq (p c : Nat) : (s.unfault p c).jobSeq = s.jobSeq := s.unfault_keeps (·.jobSeq) (fun _ _ _ => rfl) p c
@[simp] theorem State.fault_lastJobId (p c : Nat) : (s.fault p c).lastJobId = s.lastJobId := s.fault_keeps (·.lastJobId) (fun _ _ _ => rfl) p c
@[simp] theorem State.unfault_lastJobId (p c : Nat) : (s.unfault p c).lastJobId = s.lastJobId := s.unfault_keeps (·.lastJobId) (fun _ _ _ => rfl) p c
@[simp] theorem State.fault_free (p c : Nat) : (s.fault p c).free = s.free := s.fault_keeps (·.free) (fun _ _ _ => rfl) p c
@[simp] theorem State.unfault_free (p c : Nat) : (s.unfault p c).free = s.free := s.unfault_keeps (·.free) (fun _ _ _ => rfl) p c
@[simp] theorem State.fault_pins (p c : Nat) : (s.fault p c).pins = s.pins := s.fault_keeps (·.pins) (fun _ _ _ => rfl) p c
@[simp] theorem State.unfault_pins (p c : Nat) : (s.unfault p c).pins = s.pins := s.unfault_keeps (·.pins) (fun _ _ _ => rfl) p c
@[simp] theorem State.fault_grants (p c : Nat) : (s.fault p c).grants = s.grants := s.fault_keeps (·.grants) (fun _ _ _ => rfl) p c
@[simp] theorem State.unfault_grants (p c : Nat) : (s.unfault p c).grants = s.grants := s.unfault_keeps (·.grants) (fun _ _ _ => rfl) p c
@[simp] theorem State.fault_domState (p c : Nat) : (s.fault p c).domState = s.domState := s.fault_keeps (·.domState) (fun _ _ _ => rfl) p c
@[simp] theorem State.unfault_domState (p c : Nat) : (s.unfault p c).domState = s.domState := s.unfault_keeps (·.domState) (fun _ _ _ => rfl) p c
@[simp] theorem State.fault_gated (p c : Nat) : (s.fault p c).gated = s.gated := s.fault_keeps (·.gated) (fun _ _ _ => rfl) p c
@[simp] theorem State.unfault_gated (p c : Nat) : (s.unfault p c).gated = s.gated := s.unfault_keeps (·.gated) (fun _ _ _ => rfl) p c
@[simp] theorem State.fault_quiet (p c : Nat) : (s.fault p c).quiet = s.quiet := s.fault_keeps (·.quiet) (fun _ _ _ => rfl) p c
@[simp] theorem State.unfault_quiet (p c : Nat) : (s.unfault p c).quiet = s.quiet := s.unfault_keeps (·.quiet) (fun _ _ _ => rfl) p c
@[simp] theorem State.fault_poison (p c : Nat) : (s.fault p c).poison = s.poison := s.fault_keeps (·.poison) (fun _ _ _ => rfl) p c
@[simp] theorem State.unfault_poison (p c : Nat) : (s.unfault p c).poison = s.poison := s.unfault_keeps (·.poison) (fun _ _ _ => rfl) p c
@[simp] theorem State.fault_sram (p c : Nat) : (s.fault p c).sram = s.sram := s.fault_keeps (·.sram) (fun _ _ _ => rfl) p c
@[simp] theorem State.unfault_sram (p c : Nat) : (s.unfault p c).sram = s.sram := s.unfault_keeps (·.sram) (fun _ _ _ => rfl) p c
@[simp] theorem State.fault_ain (p c : Nat) : (s.fault p c).ain = s.ain := s.fault_keeps (·.ain) (fun _ _ _ => rfl) p c
@[simp] theorem State.unfault_ain (p c : Nat) : (s.unfault p c).ain = s.ain := s.unfault_keeps (·.ain) (fun _ _ _ => rfl) p c
@[simp] theorem State.fault_bias (p c : Nat) : (s.fault p c).bias = s.bias := s.fault_keeps (·.bias) (fun _ _ _ => rfl) p c
@[simp] theorem State.unfault_bias (p c : Nat) : (s.unfault p c).bias = s.bias := s.unfault_keeps (·.bias) (fun _ _ _ => rfl) p c
@[simp] theorem State.fault_beep (p c : Nat) : (s.fault p c).beep = s.beep := s.fault_keeps (·.beep) (fun _ _ _ => rfl) p c
@[simp] theorem State.unfault_beep (p c : Nat) : (s.unfault p c).beep = s.beep := s.unfault_keeps (·.beep) (fun _ _ _ => rfl) p c
@[simp] theorem State.fault_aslTrim (p c : Nat) : (s.fault p c).aslTrim = s.aslTrim := s.fault_keeps (·.aslTrim) (fun _ _ _ => rfl) p c
@[simp] theorem State.unfault_aslTrim (p c : Nat) : (s.unfault p c).aslTrim = s.aslTrim := s.unfault_keeps (·.aslTrim) (fun _ _ _ => rfl) p c
@[simp] theorem State.fault_adcSubst (p c : Nat) : (s.fault p c).adcSubst = s.adcSubst := s.fault_keeps (·.adcSubst) (fun _ _ _ => rfl) p c
@[simp] theorem State.unfault_adcSubst (p c : Nat) : (s.unfault p c).adcSubst = s.adcSubst := s.unfault_keeps (·.adcSubst) (fun _ _ _ => rfl) p c
@[simp] theorem State.fault_vrefaStarted (p c : Nat) : (s.fault p c).vrefaStarted = s.vrefaStarted := s.fault_keeps (·.vrefaStarted) (fun _ _ _ => rfl) p c
@[simp] theorem State.unfault_vrefaStarted (p c : Nat) : (s.unfault p c).vrefaStarted = s.vrefaStarted := s.unfault_keeps (·.vrefaStarted) (fun _ _ _ => rfl) p c
@[simp] theorem State.fault_aout (p c : Nat) : (s.fault p c).aout = s.aout := s.fault_keeps (·.aout) (fun _ _ _ => rfl) p c
@[simp] theorem State.unfault_aout (p c : Nat) : (s.unfault p c).aout = s.aout := s.unfault_keeps (·.aout) (fun _ _ _ => rfl) p c
@[simp] theorem State.fault_jack (p c : Nat) : (s.fault p c).jack = s.jack := s.fault_keeps (·.jack) (fun _ _ _ => rfl) p c
@[simp] theorem State.unfault_jack (p c : Nat) : (s.unfault p c).jack = s.jack := s.unfault_keeps (·.jack) (fun _ _ _ => rfl) p c
@[simp] theorem State.fault_dslTrim (p c : Nat) : (s.fault p c).dslTrim = s.dslTrim := s.fault_keeps (·.dslTrim) (fun _ _ _ => rfl) p c
@[simp] theorem State.unfault_dslTrim (p c : Nat) : (s.unfault p c).dslTrim = s.dslTrim := s.unfault_keeps (·.dslTrim) (fun _ _ _ => rfl) p c
@[simp] theorem State.fault_dacSubst (p c : Nat) : (s.fault p c).dacSubst = s.dacSubst := s.fault_keeps (·.dacSubst) (fun _ _ _ => rfl) p c
@[simp] theorem State.unfault_dacSubst (p c : Nat) : (s.unfault p c).dacSubst = s.dacSubst := s.unfault_keeps (·.dacSubst) (fun _ _ _ => rfl) p c
@[simp] theorem State.fault_vrefbStarted (p c : Nat) : (s.fault p c).vrefbStarted = s.vrefbStarted := s.fault_keeps (·.vrefbStarted) (fun _ _ _ => rfl) p c
@[simp] theorem State.unfault_vrefbStarted (p c : Nat) : (s.unfault p c).vrefbStarted = s.vrefbStarted := s.unfault_keeps (·.vrefbStarted) (fun _ _ _ => rfl) p c
@[simp] theorem State.fault_cpFault (p c : Nat) : (s.fault p c).cpFault = s.cpFault := s.fault_keeps (·.cpFault) (fun _ _ _ => rfl) p c
@[simp] theorem State.unfault_cpFault (p c : Nat) : (s.unfault p c).cpFault = s.cpFault := s.unfault_keeps (·.cpFault) (fun _ _ _ => rfl) p c
@[simp] theorem State.fault_cpStop (p c : Nat) : (s.fault p c).cpStop = s.cpStop := s.fault_keeps (·.cpStop) (fun _ _ _ => rfl) p c
@[simp] theorem State.unfault_cpStop (p c : Nat) : (s.unfault p c).cpStop = s.cpStop := s.unfault_keeps (·.cpStop) (fun _ _ _ => rfl) p c
@[simp] theorem State.fault_spk (p c : Nat) : (s.fault p c).spk = s.spk := s.fault_keeps (·.spk) (fun _ _ _ => rfl) p c
@[simp] theorem State.unfault_spk (p c : Nat) : (s.unfault p c).spk = s.spk := s.unfault_keeps (·.spk) (fun _ _ _ => rfl) p c
@[simp] theorem State.fault_lanes (p c : Nat) : (s.fault p c).lanes = s.lanes := s.fault_keeps (·.lanes) (fun _ _ _ => rfl) p c
@[simp] theorem State.unfault_lanes (p c : Nat) : (s.unfault p c).lanes = s.lanes := s.unfault_keeps (·.lanes) (fun _ _ _ => rfl) p c
@[simp] theorem State.fault_coefPend (p c : Nat) : (s.fault p c).coefPend = s.coefPend := s.fault_keeps (·.coefPend) (fun _ _ _ => rfl) p c
@[simp] theorem State.unfault_coefPend (p c : Nat) : (s.unfault p c).coefPend = s.coefPend := s.unfault_keeps (·.coefPend) (fun _ _ _ => rfl) p c
@[simp] theorem State.fault_poolFree (p c : Nat) : (s.fault p c).poolFree = s.poolFree := s.fault_keeps (·.poolFree) (fun _ _ _ => rfl) p c
@[simp] theorem State.unfault_poolFree (p c : Nat) : (s.unfault p c).poolFree = s.poolFree := s.unfault_keeps (·.poolFree) (fun _ _ _ => rfl) p c
@[simp] theorem State.fault_xpPend (p c : Nat) : (s.fault p c).xpPend = s.xpPend := s.fault_keeps (·.xpPend) (fun _ _ _ => rfl) p c
@[simp] theorem State.unfault_xpPend (p c : Nat) : (s.unfault p c).xpPend = s.xpPend := s.unfault_keeps (·.xpPend) (fun _ _ _ => rfl) p c
@[simp] theorem State.fault_xpAct (p c : Nat) : (s.fault p c).xpAct = s.xpAct := s.fault_keeps (·.xpAct) (fun _ _ _ => rfl) p c
@[simp] theorem State.unfault_xpAct (p c : Nat) : (s.unfault p c).xpAct = s.xpAct := s.unfault_keeps (·.xpAct) (fun _ _ _ => rfl) p c
@[simp] theorem State.fault_xpRamp (p c : Nat) : (s.fault p c).xpRamp = s.xpRamp := s.fault_keeps (·.xpRamp) (fun _ _ _ => rfl) p c
@[simp] theorem State.unfault_xpRamp (p c : Nat) : (s.unfault p c).xpRamp = s.xpRamp := s.unfault_keeps (·.xpRamp) (fun _ _ _ => rfl) p c
@[simp] theorem State.fault_sinkAct (p c : Nat) : (s.fault p c).sinkAct = s.sinkAct := s.fault_keeps (·.sinkAct) (fun _ _ _ => rfl) p c
@[simp] theorem State.unfault_sinkAct (p c : Nat) : (s.unfault p c).sinkAct = s.sinkAct := s.unfault_keeps (·.sinkAct) (fun _ _ _ => rfl) p c
@[simp] theorem State.fault_sinkFade (p c : Nat) : (s.fault p c).sinkFade = s.sinkFade := s.fault_keeps (·.sinkFade) (fun _ _ _ => rfl) p c
@[simp] theorem State.unfault_sinkFade (p c : Nat) : (s.unfault p c).sinkFade = s.sinkFade := s.unfault_keeps (·.sinkFade) (fun _ _ _ => rfl) p c
@[simp] theorem State.fault_tapFade (p c : Nat) : (s.fault p c).tapFade = s.tapFade := s.fault_keeps (·.tapFade) (fun _ _ _ => rfl) p c
@[simp] theorem State.unfault_tapFade (p c : Nat) : (s.unfault p c).tapFade = s.tapFade := s.unfault_keeps (·.tapFade) (fun _ _ _ => rfl) p c
@[simp] theorem State.fault_bus (p c : Nat) : (s.fault p c).bus = s.bus := s.fault_keeps (·.bus) (fun _ _ _ => rfl) p c
@[simp] theorem State.unfault_bus (p c : Nat) : (s.unfault p c).bus = s.bus := s.unfault_keeps (·.bus) (fun _ _ _ => rfl) p c
@[simp] theorem State.fault_fifTarget (p c : Nat) : (s.fault p c).fifTarget = s.fifTarget := s.fault_keeps (·.fifTarget) (fun _ _ _ => rfl) p c
@[simp] theorem State.unfault_fifTarget (p c : Nat) : (s.unfault p c).fifTarget = s.fifTarget := s.unfault_keeps (·.fifTarget) (fun _ _ _ => rfl) p c
@[simp] theorem State.fault_ainTap (p c : Nat) : (s.fault p c).ainTap = s.ainTap := s.fault_keeps (·.ainTap) (fun _ _ _ => rfl) p c
@[simp] theorem State.unfault_ainTap (p c : Nat) : (s.unfault p c).ainTap = s.ainTap := s.unfault_keeps (·.ainTap) (fun _ _ _ => rfl) p c
@[simp] theorem State.fault_sap (p c : Nat) : (s.fault p c).sap = s.sap := s.fault_keeps (·.sap) (fun _ _ _ => rfl) p c
@[simp] theorem State.unfault_sap (p c : Nat) : (s.unfault p c).sap = s.sap := s.unfault_keeps (·.sap) (fun _ _ _ => rfl) p c
@[simp] theorem State.fault_pdm (p c : Nat) : (s.fault p c).pdm = s.pdm := s.fault_keeps (·.pdm) (fun _ _ _ => rfl) p c
@[simp] theorem State.unfault_pdm (p c : Nat) : (s.unfault p c).pdm = s.pdm := s.unfault_keeps (·.pdm) (fun _ _ _ => rfl) p c
@[simp] theorem State.fault_mics (p c : Nat) : (s.fault p c).mics = s.mics := s.fault_keeps (·.mics) (fun _ _ _ => rfl) p c
@[simp] theorem State.unfault_mics (p c : Nat) : (s.unfault p c).mics = s.mics := s.unfault_keeps (·.mics) (fun _ _ _ => rfl) p c
@[simp] theorem State.fault_spdRx (p c : Nat) : (s.fault p c).spdRx = s.spdRx := s.fault_keeps (·.spdRx) (fun _ _ _ => rfl) p c
@[simp] theorem State.unfault_spdRx (p c : Nat) : (s.unfault p c).spdRx = s.spdRx := s.unfault_keeps (·.spdRx) (fun _ _ _ => rfl) p c
@[simp] theorem State.fault_spdTx (p c : Nat) : (s.fault p c).spdTx = s.spdTx := s.fault_keeps (·.spdTx) (fun _ _ _ => rfl) p c
@[simp] theorem State.unfault_spdTx (p c : Nat) : (s.unfault p c).spdTx = s.spdTx := s.unfault_keeps (·.spdTx) (fun _ _ _ => rfl) p c
@[simp] theorem State.fault_trk (p c : Nat) : (s.fault p c).trk = s.trk := s.fault_keeps (·.trk) (fun _ _ _ => rfl) p c
@[simp] theorem State.unfault_trk (p c : Nat) : (s.unfault p c).trk = s.trk := s.unfault_keeps (·.trk) (fun _ _ _ => rfl) p c
@[simp] theorem State.fault_mains (p c : Nat) : (s.fault p c).mains = s.mains := s.fault_keeps (·.mains) (fun _ _ _ => rfl) p c
@[simp] theorem State.unfault_mains (p c : Nat) : (s.unfault p c).mains = s.mains := s.unfault_keeps (·.mains) (fun _ _ _ => rfl) p c
@[simp] theorem State.fault_feChange (p c : Nat) : (s.fault p c).feChange = s.feChange := s.fault_keeps (·.feChange) (fun _ _ _ => rfl) p c
@[simp] theorem State.unfault_feChange (p c : Nat) : (s.unfault p c).feChange = s.feChange := s.unfault_keeps (·.feChange) (fun _ _ _ => rfl) p c
@[simp] theorem State.fault_engStop (p c : Nat) : (s.fault p c).engStop = s.engStop := s.fault_keeps (·.engStop) (fun _ _ _ => rfl) p c
@[simp] theorem State.unfault_engStop (p c : Nat) : (s.unfault p c).engStop = s.engStop := s.unfault_keeps (·.engStop) (fun _ _ _ => rfl) p c
@[simp] theorem State.fault_opHeld (p c : Nat) : (s.fault p c).opHeld = s.opHeld := s.fault_keeps (·.opHeld) (fun _ _ _ => rfl) p c
@[simp] theorem State.unfault_opHeld (p c : Nat) : (s.unfault p c).opHeld = s.opHeld := s.unfault_keeps (·.opHeld) (fun _ _ _ => rfl) p c
@[simp] theorem State.fault_tkoOn (p c : Nat) : (s.fault p c).tkoOn = s.tkoOn := s.fault_keeps (·.tkoOn) (fun _ _ _ => rfl) p c
@[simp] theorem State.unfault_tkoOn (p c : Nat) : (s.unfault p c).tkoOn = s.tkoOn := s.unfault_keeps (·.tkoOn) (fun _ _ _ => rfl) p c
@[simp] theorem State.fault_tko (p c : Nat) : (s.fault p c).tko = s.tko := s.fault_keeps (·.tko) (fun _ _ _ => rfl) p c
@[simp] theorem State.unfault_tko (p c : Nat) : (s.unfault p c).tko = s.tko := s.unfault_keeps (·.tko) (fun _ _ _ => rfl) p c
@[simp] theorem State.fault_pllTest (p c : Nat) : (s.fault p c).pllTest = s.pllTest := s.fault_keeps (·.pllTest) (fun _ _ _ => rfl) p c
@[simp] theorem State.unfault_pllTest (p c : Nat) : (s.unfault p c).pllTest = s.pllTest := s.unfault_keeps (·.pllTest) (fun _ _ _ => rfl) p c
@[simp] theorem State.fault_lst (p c : Nat) : (s.fault p c).lst = s.lst := s.fault_keeps (·.lst) (fun _ _ _ => rfl) p c
@[simp] theorem State.unfault_lst (p c : Nat) : (s.unfault p c).lst = s.lst := s.unfault_keeps (·.lst) (fun _ _ _ => rfl) p c
@[simp] theorem State.fault_usb (p c : Nat) : (s.fault p c).usb = s.usb := s.fault_keeps (·.usb) (fun _ _ _ => rfl) p c
@[simp] theorem State.unfault_usb (p c : Nat) : (s.unfault p c).usb = s.usb := s.unfault_keeps (·.usb) (fun _ _ _ => rfl) p c
@[simp] theorem State.fault_pwr (p c : Nat) : (s.fault p c).pwr = s.pwr := s.fault_keeps (·.pwr) (fun _ _ _ => rfl) p c
@[simp] theorem State.unfault_pwr (p c : Nat) : (s.unfault p c).pwr = s.pwr := s.unfault_keeps (·.pwr) (fun _ _ _ => rfl) p c
@[simp] theorem State.fault_sns (p c : Nat) : (s.fault p c).sns = s.sns := s.fault_keeps (·.sns) (fun _ _ _ => rfl) p c
@[simp] theorem State.unfault_sns (p c : Nat) : (s.unfault p c).sns = s.sns := s.unfault_keeps (·.sns) (fun _ _ _ => rfl) p c
@[simp] theorem State.fault_pmb (p c : Nat) : (s.fault p c).pmb = s.pmb := s.fault_keeps (·.pmb) (fun _ _ _ => rfl) p c
@[simp] theorem State.unfault_pmb (p c : Nat) : (s.unfault p c).pmb = s.pmb := s.unfault_keeps (·.pmb) (fun _ _ _ => rfl) p c
@[simp] theorem State.fault_opNext (p c : Nat) : (s.fault p c).opNext = s.opNext := s.fault_keeps (·.opNext) (fun _ _ _ => rfl) p c
@[simp] theorem State.unfault_opNext (p c : Nat) : (s.unfault p c).opNext = s.opNext := s.unfault_keeps (·.opNext) (fun _ _ _ => rfl) p c
@[simp] theorem State.fault_blw (p c : Nat) : (s.fault p c).blw = s.blw := s.fault_keeps (·.blw) (fun _ _ _ => rfl) p c
@[simp] theorem State.unfault_blw (p c : Nat) : (s.unfault p c).blw = s.blw := s.unfault_keeps (·.blw) (fun _ _ _ => rfl) p c
@[simp] theorem State.fault_mem (p c : Nat) : (s.fault p c).mem = s.mem := s.fault_keeps (·.mem) (fun _ _ _ => rfl) p c
@[simp] theorem State.unfault_mem (p c : Nat) : (s.unfault p c).mem = s.mem := s.unfault_keeps (·.mem) (fun _ _ _ => rfl) p c
@[simp] theorem State.fault_stalled (p c : Nat) : (s.fault p c).stalled = s.stalled := s.fault_keeps (·.stalled) (fun _ _ _ => rfl) p c
@[simp] theorem State.unfault_stalled (p c : Nat) : (s.unfault p c).stalled = s.stalled := s.unfault_keeps (·.stalled) (fun _ _ _ => rfl) p c
@[simp] theorem State.fault_smb (p c : Nat) : (s.fault p c).smb = s.smb := s.fault_keeps (·.smb) (fun _ _ _ => rfl) p c
@[simp] theorem State.unfault_smb (p c : Nat) : (s.unfault p c).smb = s.smb := s.unfault_keeps (·.smb) (fun _ _ _ => rfl) p c
@[simp] theorem State.fault_otp (p c : Nat) : (s.fault p c).otp = s.otp := s.fault_keeps (·.otp) (fun _ _ _ => rfl) p c
@[simp] theorem State.unfault_otp (p c : Nat) : (s.unfault p c).otp = s.otp := s.unfault_keeps (·.otp) (fun _ _ _ => rfl) p c
@[simp] theorem State.fault_mac (p c : Nat) : (s.fault p c).mac = s.mac := s.fault_keeps (·.mac) (fun _ _ _ => rfl) p c
@[simp] theorem State.unfault_mac (p c : Nat) : (s.unfault p c).mac = s.mac := s.unfault_keeps (·.mac) (fun _ _ _ => rfl) p c
@[simp] theorem State.fault_bankTest (p c : Nat) : (s.fault p c).bankTest = s.bankTest := s.fault_keeps (·.bankTest) (fun _ _ _ => rfl) p c
@[simp] theorem State.unfault_bankTest (p c : Nat) : (s.unfault p c).bankTest = s.bankTest := s.unfault_keeps (·.bankTest) (fun _ _ _ => rfl) p c
@[simp] theorem State.fault_rotMs (p c : Nat) : (s.fault p c).rotMs = s.rotMs := s.fault_keeps (·.rotMs) (fun _ _ _ => rfl) p c
@[simp] theorem State.unfault_rotMs (p c : Nat) : (s.unfault p c).rotMs = s.rotMs := s.unfault_keeps (·.rotMs) (fun _ _ _ => rfl) p c
@[simp] theorem State.fault_rotDue (p c : Nat) : (s.fault p c).rotDue = s.rotDue := s.fault_keeps (·.rotDue) (fun _ _ _ => rfl) p c
@[simp] theorem State.unfault_rotDue (p c : Nat) : (s.unfault p c).rotDue = s.rotDue := s.unfault_keeps (·.rotDue) (fun _ _ _ => rfl) p c
@[simp] theorem State.fault_lcy (p c : Nat) : (s.fault p c).lcy = s.lcy := s.fault_keeps (·.lcy) (fun _ _ _ => rfl) p c
@[simp] theorem State.unfault_lcy (p c : Nat) : (s.unfault p c).lcy = s.lcy := s.unfault_keeps (·.lcy) (fun _ _ _ => rfl) p c
@[simp] theorem State.fault_jtag (p c : Nat) : (s.fault p c).jtag = s.jtag := s.fault_keeps (·.jtag) (fun _ _ _ => rfl) p c
@[simp] theorem State.unfault_jtag (p c : Nat) : (s.unfault p c).jtag = s.jtag := s.unfault_keeps (·.jtag) (fun _ _ _ => rfl) p c
@[simp] theorem State.fault_freezeArmed (p c : Nat) : (s.fault p c).freezeArmed = s.freezeArmed := s.fault_keeps (·.freezeArmed) (fun _ _ _ => rfl) p c
@[simp] theorem State.unfault_freezeArmed (p c : Nat) : (s.unfault p c).freezeArmed = s.freezeArmed := s.unfault_keeps (·.freezeArmed) (fun _ _ _ => rfl) p c
@[simp] theorem State.fault_boot (p c : Nat) : (s.fault p c).boot = s.boot := s.fault_keeps (·.boot) (fun _ _ _ => rfl) p c
@[simp] theorem State.unfault_boot (p c : Nat) : (s.unfault p c).boot = s.boot := s.unfault_keeps (·.boot) (fun _ _ _ => rfl) p c
@[simp] theorem State.fault_keptMgmt (p c : Nat) : (s.fault p c).keptMgmt = s.keptMgmt := s.fault_keeps (·.keptMgmt) (fun _ _ _ => rfl) p c
@[simp] theorem State.unfault_keptMgmt (p c : Nat) : (s.unfault p c).keptMgmt = s.keptMgmt := s.unfault_keeps (·.keptMgmt) (fun _ _ _ => rfl) p c
@[simp] theorem State.fault_keptUsb (p c : Nat) : (s.fault p c).keptUsb = s.keptUsb := s.fault_keeps (·.keptUsb) (fun _ _ _ => rfl) p c
@[simp] theorem State.unfault_keptUsb (p c : Nat) : (s.unfault p c).keptUsb = s.keptUsb := s.unfault_keeps (·.keptUsb) (fun _ _ _ => rfl) p c
@[simp] theorem State.fault_famOut (p c : Nat) : (s.fault p c).famOut = s.famOut := s.fault_keeps (·.famOut) (fun _ _ _ => rfl) p c
@[simp] theorem State.unfault_famOut (p c : Nat) : (s.unfault p c).famOut = s.famOut := s.unfault_keeps (·.famOut) (fun _ _ _ => rfl) p c
@[simp] theorem State.fault_seen (p c : Nat) : (s.fault p c).seen = s.seen := s.fault_keeps (·.seen) (fun _ _ _ => rfl) p c
@[simp] theorem State.unfault_seen (p c : Nat) : (s.unfault p c).seen = s.seen := s.unfault_keeps (·.seen) (fun _ _ _ => rfl) p c
@[simp] theorem State.fault_answers (p c : Nat) : (s.fault p c).answers = s.answers := s.fault_keeps (·.answers) (fun _ _ _ => rfl) p c
@[simp] theorem State.unfault_answers (p c : Nat) : (s.unfault p c).answers = s.answers := s.unfault_keeps (·.answers) (fun _ _ _ => rfl) p c
@[simp] theorem State.fault_ldr (p c : Nat) : (s.fault p c).ldr = s.ldr := s.fault_keeps (·.ldr) (fun _ _ _ => rfl) p c
@[simp] theorem State.unfault_ldr (p c : Nat) : (s.unfault p c).ldr = s.ldr := s.unfault_keeps (·.ldr) (fun _ _ _ => rfl) p c
@[simp] theorem State.fault_pending (p c : Nat) : (s.fault p c).pending = s.pending := s.fault_keeps (·.pending) (fun _ _ _ => rfl) p c
@[simp] theorem State.unfault_pending (p c : Nat) : (s.unfault p c).pending = s.pending := s.unfault_keeps (·.pending) (fun _ _ _ => rfl) p c

end Sys2Proof.Machine
end

