-- ==== Sys2Proof/Laws/Sram.lean ====
section
/-! SUPPORT. Laws of the shared SRAM (R408, R411, R418): every operation keeps the canonical form, a write is read back, and
leaves every other word. -/

namespace Sys2Proof.Machine

variable (s : State)

/-! ## The canonical form -/

/-- Whatever words are left out, the rest stays canonical. -/
theorem canonical_filter {α : Type} [DecidableEq α] (d : Nat → α) (l : List (Nat × α)) (p : Nat × α → Bool)
    (h : canonical d l = true) : canonical d (l.filter p) = true := by
  rw [canonical_iff] at h ⊢
  exact ⟨h.1.filter _, fun e he => h.2 e (List.mem_of_mem_filter he)⟩

theorem Memory.wf_nil : Memory.wf [] = true := rfl

theorem Memory.wf_store {l : List (Nat × Word)} (a : Nat) (w : Word) (h : Memory.wf l = true) :
    Memory.wf (store l a w 0#32) = true := canonical_store (fun _ => 0#32) l a w h

theorem State.sramWrite_wf (a : Nat) (w : Word) (h : Memory.wf s.sram = true) : Memory.wf (s.sramWrite a w).sram = true :=
  Memory.wf_store a w h

theorem State.sramPutByte_wf (b o v : Nat) (h : Memory.wf s.sram = true) : Memory.wf (s.sramPutByte b o v).sram = true :=
  s.sramWrite_wf _ _ h

theorem State.sramPutBytes_wf (b : Nat) (l : List Nat) : ∀ (o : Nat) (s : State), Memory.wf s.sram = true →
    Memory.wf (s.sramPutBytes b o l).sram = true := by
  induction l with
  | nil => exact fun _ _ h => h
  | cons v t ih => exact fun o s h => ih (o + 1) _ (s.sramPutByte_wf b o v h)

theorem State.sramZero_wf (mask : Nat) (h : Memory.wf s.sram = true) : Memory.wf (s.sramZero mask).sram = true :=
  canonical_filter _ _ _ h

theorem State.sramPoison_wf (a : Nat) (i : Item) (h : Memory.wf s.sram = true) : Memory.wf (s.sramPoison a i).sram = true :=
  canonical_filter _ _ _ h

theorem State.sramClear_wf : Memory.wf s.sramClear.sram = true := rfl

theorem State.reset_sram_wf : Memory.wf State.reset.sram = true := rfl

/-! ## Reads after writes -/

/-- A written word is read back; the write cleared its poison. -/
theorem State.sramWord_sramWrite_self (a : Nat) (w : Word) : (s.sramWrite a w).sramWord a = w := by
  have hp : (s.sramWrite a w).wordPoisoned a = false := by simp [State.wordPoisoned, State.sramWrite]
  simp [State.sramWord, hp]
  simp [State.sramWrite]

/-- A write leaves every other word, poisoned or not. -/
theorem State.sramWord_sramWrite_ne {a b : Nat} (w : Word) (h : a ≠ b) : (s.sramWrite a w).sramWord b = s.sramWord b := by
  have hp : (s.sramWrite a w).wordPoisoned b = s.wordPoisoned b := by
    rw [Bool.eq_iff_iff]
    simp only [State.wordPoisoned, State.sramWrite, List.any_eq_true, List.mem_filter, decide_eq_true_eq]
    exact ⟨fun ⟨e, he, hb⟩ => ⟨e, he.1, hb⟩, fun ⟨e, he, hb⟩ => ⟨e, ⟨he, by omega⟩, hb⟩⟩
  have hl : lookup (s.sramWrite a w).sram b 0#32 = lookup s.sram b 0#32 := lookup_store_ne _ _ _ _ h
  unfold State.sramWord
  rw [hp, show lookup (s.sramWrite a w).sram b 0 = lookup s.sram b 0 from hl]

/-- A write of one word changes the SRAM and its poison only. -/
theorem State.sramWrite_eq (a : Nat) (w : Word) :
    s.sramWrite a w = { s with sram := (s.sramWrite a w).sram, poison := (s.sramWrite a w).poison } := rfl

end Sys2Proof.Machine
end

