-- ==== Sys2Proof/Laws/RegPath.lean ====
section
/-! SUPPORT. Laws of the register path (R69 to R74): what one register write does when the word may be written, when it is refused,
and when it waits for a wipe. -/

namespace Sys2Proof.Machine

variable (s : State) (e : Option Facts) (ini a : Nat) (w : Word)

/-- The words of a transfer, one after the other (R70). -/
theorem State.putWords_cons (t : List Word) (d : Done) : s.putWords e ini a (w :: t) d =
    if !s.pathOpen ini then (s, d)
    else if s.mustWait ini true a then (s.stall (.write a (w :: t) d.code), d)
    else if s.refusal ini true a w ≠ 0 then s.strike ini (s.refusal ini true a w) true a d
    else
      let q : State × Done := if (s.poke e a w).2 then (s.poke e a w).1.strike ini 9 true a d else ((s.poke e a w).1, d)
      q.1.putWords e ini (a + 4) t { q.2 with words := q.2.words + 1 } := rfl

/-- No words: nothing happens. -/
theorem State.putWords_nil (d : Done) : s.putWords e ini a [] d = (s, d) := rfl

/-- A word that may be written is performed, and nothing else happens. -/
theorem State.writeOne_of_mayWrite (h : s.mayWrite ini a w = true) (hp : (s.poke e a w).2 = false) :
    s.writeOne e ini a w = (s.poke e a w).1 := by
  simp only [State.mayWrite, Bool.and_eq_true, Bool.not_eq_true', Bool.or_eq_true, decide_eq_true_eq] at h
  obtain ⟨⟨ho, hs⟩, hi⟩ := h
  have hr : ¬ s.refusal ini true a w ≠ 0 := by
    simp only [State.wouldStrike, Bool.or_eq_false_iff, decide_eq_false_iff_not] at hs
    exact hs.1
  have hw : ¬ s.mustWait ini true a = true := by
    simp only [State.mustWait, Bool.and_eq_true, Bool.or_eq_true, decide_eq_true_eq]
    rintro ⟨h4, h | h⟩ <;> rcases hi with hi | hi
    · exact hi h4
    · exact h hi.1
    · exact hi h4
    · rw [h] at hi; exact Bool.noConfusion hi.2
  unfold State.writeOne
  rw [State.putWords_cons, if_neg (by rw [ho]; decide), if_neg hw, if_neg hr, hp]
  rfl

/-- A word of a register that may be written raises no reserved value. -/
theorem State.poke_of_mayWrite (h : s.mayWrite ini a w = true) {p o : Nat} (ha : placeOf a = .reg p o) :
    (s.poke e a w).2 = false := by
  simp only [State.mayWrite, State.wouldStrike, ha, Bool.and_eq_true, Bool.not_eq_true', Bool.or_eq_false_iff] at h
  have hs := h.1.2.2
  unfold State.poke
  rw [ha]
  cases hd : regDefAt a with
  | none => rfl
  | some d =>
    rw [hd] at hs
    simpa [Bool.or_eq_false_iff] using hs

/-- The write of a register: its fields by their access types, but for START of an urgent request while BUSY, then the block's
reaction. -/
theorem State.poke_reg {p o : Nat} (ha : placeOf a = .reg p o) {d : RegDef} (hd : regDefAt a = some d) :
    (s.poke e a w).1 =
      (s.setReg a (if decide (a = A.SNS_URGENT) && hit w 24 && s.on (.mk A.SNS_URGENT 25 1) then s.reg a
        else (together a (s.reg a) w (d.take (s.reg a) w).1).1)).regWritten e a (s.reg a) w := by
  unfold State.poke
  rw [ha]
  simp only [hd]

/-- The same where the register is not SNS_URGENT, or START meets no running urgent conversion. -/
theorem State.poke_reg_taken {p o : Nat} (ha : placeOf a = .reg p o) {d : RegDef} (hd : regDefAt a = some d)
    (hu : a ≠ A.SNS_URGENT ∨ s.on (.mk A.SNS_URGENT 25 1) = false) :
    (s.poke e a w).1 =
      (s.setReg a (together a (s.reg a) w (d.take (s.reg a) w).1).1).regWritten e a (s.reg a) w := by
  rw [State.poke_reg s e a w ha hd]
  rcases hu with h | h <;> simp [h]

/-- A refused word is not written: its violation is logged (R71, R74). -/
theorem State.writeOne_refused (ho : s.pathOpen ini = true) (h4 : ini ≠ 4) (hr : s.refusal ini true a w ≠ 0) :
    s.writeOne e ini a w = s.violation ini (s.refusal ini true a w) true (some a) := by
  unfold State.writeOne
  rw [State.putWords_cons, if_neg (by rw [ho]; decide), if_neg (by simp [State.mustWait, h4]), if_pos hr]
  rfl

/-- Without a running management island nothing is performed. -/
theorem State.writeOne_closed (ho : s.pathOpen ini = false) : s.writeOne e ini a w = s := by
  unfold State.writeOne
  rw [State.putWords_cons, if_pos (by rw [ho]; rfl)]

/-- An internal word that a wipe bars waits with those before it (R73). -/
theorem State.writeOne_stalled (ho : s.pathOpen 4 = true) (h : s.stalled ≠ [] ∨ s.wipeBars true (placeOf a) = true) :
    s.writeOne e 4 a w = s.stall (.write a [w] 0) := by
  unfold State.writeOne
  rw [State.putWords_cons, if_neg (by rw [ho]; decide),
    if_pos (by simpa only [State.mustWait, Bool.and_eq_true, Bool.or_eq_true, decide_eq_true_eq] using ⟨trivial, h⟩)]

end Sys2Proof.Machine
end

