-- ==== Sys2Proof/Laws/Settle.lean ====
section
/-! SUPPORT. What `settle` can change: the STATE of the family PLLs (R265), the loader's result when a USB image lost its link
(R492), the level of IRQ_N (R67); and that IRQ_N is right afterwards. -/

namespace Sys2Proof.Machine

variable (s : State)

/-! ## The four steps of `settle` -/

theorem State.startPll_eq (fam : Nat) : s.startPll fam = s ∨ s.startPll fam = s.set (F.CLK_PLL_STATUS_STATE (s.famPll fam)) 1 := by
  unfold State.startPll State.when
  split
  · exact .inr rfl
  · exact .inl rfl

theorem State.ldrUsbLost_eq : s.ldrUsbLost = s ∨
    s.ldrUsbLost = { s with ldr := { s.ldr with st := .idle } }.ldrReport (resultWord 3 3 10 0) 0 := by
  unfold State.ldrUsbLost State.when
  split
  · exact .inr rfl
  · exact .inl rfl

theorem State.driveIrq_eq : s.driveIrq = s ∨ s.driveIrq = { s with pins := { s.pins with irqLow := decide (s.notifyWord ≠ 0) } } := by
  unfold State.driveIrq State.when
  split
  · exact .inr rfl
  · exact .inl rfl

theorem State.famPll_lt (fam : Nat) : s.famPll fam < 4 := by
  unfold State.famPll
  split <;> exact s.get_lt _


/-- What none of the four steps writes, `settle` leaves alone. -/
theorem settle_keeps {β : Type} (g : State → β) (hs : ∀ s f v, g (State.set s f v) = g s)
    (hl : ∀ (s : State) (x : Loader) w n, g { s.setReg A.SYS_SCRATCH w with ldr := { x with result := w, offset := n } } = g s)
    (hp : ∀ (s : State) p, g { s with pins := p } = g s) : g (settle s) = g s := by
  unfold settle
  have h1 : ∀ (s : State) fam, g (s.startPll fam) = g s := fun s fam => by
    rcases s.startPll_eq fam with h | h <;> rw [h]
    exact hs _ _ _
  have h2 : ∀ s : State, g s.ldrUsbLost = g s := fun s => by
    rcases s.ldrUsbLost_eq with h | h <;> rw [h]
    exact hl s { s.ldr with st := .idle } _ _
  have h3 : ∀ s : State, g s.driveIrq = g s := fun s => by
    rcases s.driveIrq_eq with h | h <;> rw [h]
    exact hp _ _
  rw [h3, h2, h1, h1]


/-! ## Fields that `settle` leaves alone -/

@[simp] theorem settle_jobs : (settle s).jobs = s.jobs := settle_keeps s (·.jobs) (fun _ _ _ => rfl) (fun _ _ _ _ => rfl) (fun _ _ => rfl)
@[simp] theorem settle_jobSeq : (settle s).jobSeq = s.jobSeq := settle_keeps s (·.jobSeq) (fun _ _ _ => rfl) (fun _ _ _ _ => rfl) (fun _ _ => rfl)
@[simp] theorem settle_lastJobId : (settle s).lastJobId = s.lastJobId := settle_keeps s (·.lastJobId) (fun _ _ _ => rfl) (fun _ _ _ _ => rfl) (fun _ _ => rfl)
@[simp] theorem settle_free : (settle s).free = s.free := settle_keeps s (·.free) (fun _ _ _ => rfl) (fun _ _ _ _ => rfl) (fun _ _ => rfl)
@[simp] theorem settle_grants : (settle s).grants = s.grants := settle_keeps s (·.grants) (fun _ _ _ => rfl) (fun _ _ _ _ => rfl) (fun _ _ => rfl)
@[simp] theorem settle_domState : (settle s).domState = s.domState := settle_keeps s (·.domState) (fun _ _ _ => rfl) (fun _ _ _ _ => rfl) (fun _ _ => rfl)
@[simp] theorem settle_gated : (settle s).gated = s.gated := settle_keeps s (·.gated) (fun _ _ _ => rfl) (fun _ _ _ _ => rfl) (fun _ _ => rfl)
@[simp] theorem settle_quiet : (settle s).quiet = s.quiet := settle_keeps s (·.quiet) (fun _ _ _ => rfl) (fun _ _ _ _ => rfl) (fun _ _ => rfl)
@[simp] theorem settle_poison : (settle s).poison = s.poison := settle_keeps s (·.poison) (fun _ _ _ => rfl) (fun _ _ _ _ => rfl) (fun _ _ => rfl)
@[simp] theorem settle_sram : (settle s).sram = s.sram := settle_keeps s (·.sram) (fun _ _ _ => rfl) (fun _ _ _ _ => rfl) (fun _ _ => rfl)
@[simp] theorem settle_ain : (settle s).ain = s.ain := settle_keeps s (·.ain) (fun _ _ _ => rfl) (fun _ _ _ _ => rfl) (fun _ _ => rfl)
@[simp] theorem settle_bias : (settle s).bias = s.bias := settle_keeps s (·.bias) (fun _ _ _ => rfl) (fun _ _ _ _ => rfl) (fun _ _ => rfl)
@[simp] theorem settle_beep : (settle s).beep = s.beep := settle_keeps s (·.beep) (fun _ _ _ => rfl) (fun _ _ _ _ => rfl) (fun _ _ => rfl)
@[simp] theorem settle_aslTrim : (settle s).aslTrim = s.aslTrim := settle_keeps s (·.aslTrim) (fun _ _ _ => rfl) (fun _ _ _ _ => rfl) (fun _ _ => rfl)
@[simp] theorem settle_adcSubst : (settle s).adcSubst = s.adcSubst := settle_keeps s (·.adcSubst) (fun _ _ _ => rfl) (fun _ _ _ _ => rfl) (fun _ _ => rfl)
@[simp] theorem settle_vrefaStarted : (settle s).vrefaStarted = s.vrefaStarted := settle_keeps s (·.vrefaStarted) (fun _ _ _ => rfl) (fun _ _ _ _ => rfl) (fun _ _ => rfl)
@[simp] theorem settle_aout : (settle s).aout = s.aout := settle_keeps s (·.aout) (fun _ _ _ => rfl) (fun _ _ _ _ => rfl) (fun _ _ => rfl)
@[simp] theorem settle_jack : (settle s).jack = s.jack := settle_keeps s (·.jack) (fun _ _ _ => rfl) (fun _ _ _ _ => rfl) (fun _ _ => rfl)
@[simp] theorem settle_dslTrim : (settle s).dslTrim = s.dslTrim := settle_keeps s (·.dslTrim) (fun _ _ _ => rfl) (fun _ _ _ _ => rfl) (fun _ _ => rfl)
@[simp] theorem settle_dacSubst : (settle s).dacSubst = s.dacSubst := settle_keeps s (·.dacSubst) (fun _ _ _ => rfl) (fun _ _ _ _ => rfl) (fun _ _ => rfl)
@[simp] theorem settle_vrefbStarted : (settle s).vrefbStarted = s.vrefbStarted := settle_keeps s (·.vrefbStarted) (fun _ _ _ => rfl) (fun _ _ _ _ => rfl) (fun _ _ => rfl)
@[simp] theorem settle_cpFault : (settle s).cpFault = s.cpFault := settle_keeps s (·.cpFault) (fun _ _ _ => rfl) (fun _ _ _ _ => rfl) (fun _ _ => rfl)
@[simp] theorem settle_cpStop : (settle s).cpStop = s.cpStop := settle_keeps s (·.cpStop) (fun _ _ _ => rfl) (fun _ _ _ _ => rfl) (fun _ _ => rfl)
@[simp] theorem settle_spk : (settle s).spk = s.spk := settle_keeps s (·.spk) (fun _ _ _ => rfl) (fun _ _ _ _ => rfl) (fun _ _ => rfl)
@[simp] theorem settle_lanes : (settle s).lanes = s.lanes := settle_keeps s (·.lanes) (fun _ _ _ => rfl) (fun _ _ _ _ => rfl) (fun _ _ => rfl)
@[simp] theorem settle_coefPend : (settle s).coefPend = s.coefPend := settle_keeps s (·.coefPend) (fun _ _ _ => rfl) (fun _ _ _ _ => rfl) (fun _ _ => rfl)
@[simp] theorem settle_poolFree : (settle s).poolFree = s.poolFree := settle_keeps s (·.poolFree) (fun _ _ _ => rfl) (fun _ _ _ _ => rfl) (fun _ _ => rfl)
@[simp] theorem settle_xpPend : (settle s).xpPend = s.xpPend := settle_keeps s (·.xpPend) (fun _ _ _ => rfl) (fun _ _ _ _ => rfl) (fun _ _ => rfl)
@[simp] theorem settle_xpAct : (settle s).xpAct = s.xpAct := settle_keeps s (·.xpAct) (fun _ _ _ => rfl) (fun _ _ _ _ => rfl) (fun _ _ => rfl)
@[simp] theorem settle_xpRamp : (settle s).xpRamp = s.xpRamp := settle_keeps s (·.xpRamp) (fun _ _ _ => rfl) (fun _ _ _ _ => rfl) (fun _ _ => rfl)
@[simp] theorem settle_sinkAct : (settle s).sinkAct = s.sinkAct := settle_keeps s (·.sinkAct) (fun _ _ _ => rfl) (fun _ _ _ _ => rfl) (fun _ _ => rfl)
@[simp] theorem settle_sinkFade : (settle s).sinkFade = s.sinkFade := settle_keeps s (·.sinkFade) (fun _ _ _ => rfl) (fun _ _ _ _ => rfl) (fun _ _ => rfl)
@[simp] theorem settle_tapFade : (settle s).tapFade = s.tapFade := settle_keeps s (·.tapFade) (fun _ _ _ => rfl) (fun _ _ _ _ => rfl) (fun _ _ => rfl)
@[simp] theorem settle_bus : (settle s).bus = s.bus := settle_keeps s (·.bus) (fun _ _ _ => rfl) (fun _ _ _ _ => rfl) (fun _ _ => rfl)
@[simp] theorem settle_fifTarget : (settle s).fifTarget = s.fifTarget := settle_keeps s (·.fifTarget) (fun _ _ _ => rfl) (fun _ _ _ _ => rfl) (fun _ _ => rfl)
@[simp] theorem settle_ainTap : (settle s).ainTap = s.ainTap := settle_keeps s (·.ainTap) (fun _ _ _ => rfl) (fun _ _ _ _ => rfl) (fun _ _ => rfl)
@[simp] theorem settle_sap : (settle s).sap = s.sap := settle_keeps s (·.sap) (fun _ _ _ => rfl) (fun _ _ _ _ => rfl) (fun _ _ => rfl)
@[simp] theorem settle_pdm : (settle s).pdm = s.pdm := settle_keeps s (·.pdm) (fun _ _ _ => rfl) (fun _ _ _ _ => rfl) (fun _ _ => rfl)
@[simp] theorem settle_mics : (settle s).mics = s.mics := settle_keeps s (·.mics) (fun _ _ _ => rfl) (fun _ _ _ _ => rfl) (fun _ _ => rfl)
@[simp] theorem settle_spdRx : (settle s).spdRx = s.spdRx := settle_keeps s (·.spdRx) (fun _ _ _ => rfl) (fun _ _ _ _ => rfl) (fun _ _ => rfl)
@[simp] theorem settle_spdTx : (settle s).spdTx = s.spdTx := settle_keeps s (·.spdTx) (fun _ _ _ => rfl) (fun _ _ _ _ => rfl) (fun _ _ => rfl)
@[simp] theorem settle_trk : (settle s).trk = s.trk := settle_keeps s (·.trk) (fun _ _ _ => rfl) (fun _ _ _ _ => rfl) (fun _ _ => rfl)
@[simp] theorem settle_mains : (settle s).mains = s.mains := settle_keeps s (·.mains) (fun _ _ _ => rfl) (fun _ _ _ _ => rfl) (fun _ _ => rfl)
@[simp] theorem settle_feChange : (settle s).feChange = s.feChange := settle_keeps s (·.feChange) (fun _ _ _ => rfl) (fun _ _ _ _ => rfl) (fun _ _ => rfl)
@[simp] theorem settle_engStop : (settle s).engStop = s.engStop := settle_keeps s (·.engStop) (fun _ _ _ => rfl) (fun _ _ _ _ => rfl) (fun _ _ => rfl)
@[simp] theorem settle_opHeld : (settle s).opHeld = s.opHeld := settle_keeps s (·.opHeld) (fun _ _ _ => rfl) (fun _ _ _ _ => rfl) (fun _ _ => rfl)
@[simp] theorem settle_tkoOn : (settle s).tkoOn = s.tkoOn := settle_keeps s (·.tkoOn) (fun _ _ _ => rfl) (fun _ _ _ _ => rfl) (fun _ _ => rfl)
@[simp] theorem settle_tko : (settle s).tko = s.tko := settle_keeps s (·.tko) (fun _ _ _ => rfl) (fun _ _ _ _ => rfl) (fun _ _ => rfl)
@[simp] theorem settle_pllTest : (settle s).pllTest = s.pllTest := settle_keeps s (·.pllTest) (fun _ _ _ => rfl) (fun _ _ _ _ => rfl) (fun _ _ => rfl)
@[simp] theorem settle_lst : (settle s).lst = s.lst := settle_keeps s (·.lst) (fun _ _ _ => rfl) (fun _ _ _ _ => rfl) (fun _ _ => rfl)
@[simp] theorem settle_usb : (settle s).usb = s.usb := settle_keeps s (·.usb) (fun _ _ _ => rfl) (fun _ _ _ _ => rfl) (fun _ _ => rfl)
@[simp] theorem settle_pwr : (settle s).pwr = s.pwr := settle_keeps s (·.pwr) (fun _ _ _ => rfl) (fun _ _ _ _ => rfl) (fun _ _ => rfl)
@[simp] theorem settle_sns : (settle s).sns = s.sns := settle_keeps s (·.sns) (fun _ _ _ => rfl) (fun _ _ _ _ => rfl) (fun _ _ => rfl)
@[simp] theorem settle_pmb : (settle s).pmb = s.pmb := settle_keeps s (·.pmb) (fun _ _ _ => rfl) (fun _ _ _ _ => rfl) (fun _ _ => rfl)
@[simp] theorem settle_opNext : (settle s).opNext = s.opNext := settle_keeps s (·.opNext) (fun _ _ _ => rfl) (fun _ _ _ _ => rfl) (fun _ _ => rfl)
@[simp] theorem settle_blw : (settle s).blw = s.blw := settle_keeps s (·.blw) (fun _ _ _ => rfl) (fun _ _ _ _ => rfl) (fun _ _ => rfl)
@[simp] theorem settle_mem : (settle s).mem = s.mem := settle_keeps s (·.mem) (fun _ _ _ => rfl) (fun _ _ _ _ => rfl) (fun _ _ => rfl)
@[simp] theorem settle_stalled : (settle s).stalled = s.stalled := settle_keeps s (·.stalled) (fun _ _ _ => rfl) (fun _ _ _ _ => rfl) (fun _ _ => rfl)
@[simp] theorem settle_smb : (settle s).smb = s.smb := settle_keeps s (·.smb) (fun _ _ _ => rfl) (fun _ _ _ _ => rfl) (fun _ _ => rfl)
@[simp] theorem settle_otp : (settle s).otp = s.otp := settle_keeps s (·.otp) (fun _ _ _ => rfl) (fun _ _ _ _ => rfl) (fun _ _ => rfl)
@[simp] theorem settle_mac : (settle s).mac = s.mac := settle_keeps s (·.mac) (fun _ _ _ => rfl) (fun _ _ _ _ => rfl) (fun _ _ => rfl)
@[simp] theorem settle_bankTest : (settle s).bankTest = s.bankTest := settle_keeps s (·.bankTest) (fun _ _ _ => rfl) (fun _ _ _ _ => rfl) (fun _ _ => rfl)
@[simp] theorem settle_rotMs : (settle s).rotMs = s.rotMs := settle_keeps s (·.rotMs) (fun _ _ _ => rfl) (fun _ _ _ _ => rfl) (fun _ _ => rfl)
@[simp] theorem settle_rotDue : (settle s).rotDue = s.rotDue := settle_keeps s (·.rotDue) (fun _ _ _ => rfl) (fun _ _ _ _ => rfl) (fun _ _ => rfl)
@[simp] theorem settle_lcy : (settle s).lcy = s.lcy := settle_keeps s (·.lcy) (fun _ _ _ => rfl) (fun _ _ _ _ => rfl) (fun _ _ => rfl)
@[simp] theorem settle_jtag : (settle s).jtag = s.jtag := settle_keeps s (·.jtag) (fun _ _ _ => rfl) (fun _ _ _ _ => rfl) (fun _ _ => rfl)
@[simp] theorem settle_freezeArmed : (settle s).freezeArmed = s.freezeArmed := settle_keeps s (·.freezeArmed) (fun _ _ _ => rfl) (fun _ _ _ _ => rfl) (fun _ _ => rfl)
@[simp] theorem settle_boot : (settle s).boot = s.boot := settle_keeps s (·.boot) (fun _ _ _ => rfl) (fun _ _ _ _ => rfl) (fun _ _ => rfl)
@[simp] theorem settle_keptMgmt : (settle s).keptMgmt = s.keptMgmt := settle_keeps s (·.keptMgmt) (fun _ _ _ => rfl) (fun _ _ _ _ => rfl) (fun _ _ => rfl)
@[simp] theorem settle_keptUsb : (settle s).keptUsb = s.keptUsb := settle_keeps s (·.keptUsb) (fun _ _ _ => rfl) (fun _ _ _ _ => rfl) (fun _ _ => rfl)
@[simp] theorem settle_famOut : (settle s).famOut = s.famOut := settle_keeps s (·.famOut) (fun _ _ _ => rfl) (fun _ _ _ _ => rfl) (fun _ _ => rfl)
@[simp] theorem settle_seen : (settle s).seen = s.seen := settle_keeps s (·.seen) (fun _ _ _ => rfl) (fun _ _ _ _ => rfl) (fun _ _ => rfl)
@[simp] theorem settle_answers : (settle s).answers = s.answers := settle_keeps s (·.answers) (fun _ _ _ => rfl) (fun _ _ _ _ => rfl) (fun _ _ => rfl)
@[simp] theorem settle_pending : (settle s).pending = s.pending := settle_keeps s (·.pending) (fun _ _ _ => rfl) (fun _ _ _ _ => rfl) (fun _ _ => rfl)

/-- Every input ball's level stays; only IRQ_N may move. -/
theorem settle_pins : (settle s).pins = { s.pins with irqLow := (settle s).pins.irqLow } := by
  have h1 : ∀ (s : State) fam, (s.startPll fam).pins = s.pins := fun s fam => by
    rcases s.startPll_eq fam with h | h <;> rw [h]; rfl
  have h2 : ∀ s : State, s.ldrUsbLost.pins = s.pins := fun s => by
    rcases s.ldrUsbLost_eq with h | h <;> rw [h]; rfl
  have h3 : ∀ s : State, s.driveIrq.pins = { s.pins with irqLow := s.driveIrq.pins.irqLow } := fun s => by
    rcases s.driveIrq_eq with h | h <;> rw [h]
  unfold settle
  rw [h3]
  simp only [h2, h1]

/-! ## Registers -/

/-- `settle` writes no register but the PLLs' status and SYS_SCRATCH. -/
theorem settle_reg_ne {a : Nat} (h : ∀ x < 4, A.CLK_PLL_STATUS x ≠ a) (hs : A.SYS_SCRATCH ≠ a) : (settle s).reg a = s.reg a := by
  have h1 : ∀ (s : State) fam, (s.startPll fam).reg a = s.reg a := fun s fam => by
    rcases s.startPll_eq fam with e | e <;> rw [e]
    exact s.reg_set_ne _ (h _ (s.famPll_lt fam))
  have h2 : ∀ s : State, s.ldrUsbLost.reg a = s.reg a := fun s => by
    rcases s.ldrUsbLost_eq with e | e <;> rw [e]
    exact State.reg_setReg_ne s (resultWord 3 3 10 0) hs
  have h3 : ∀ s : State, s.driveIrq.reg a = s.reg a := fun s => by
    rcases s.driveIrq_eq with e | e <;> rw [e]; rfl
  unfold settle
  rw [h3, h2, h1, h1]

/-- A field outside the PLLs' status and SYS_SCRATCH reads as before. -/
theorem settle_get_ne {f : Fld} (h : ∀ x < 4, A.CLK_PLL_STATUS x ≠ f.addr) (hs : A.SYS_SCRATCH ≠ f.addr) :
    (settle s).get f = s.get f := by
  simp [State.get, settle_reg_ne s h hs]

theorem settle_on_ne {f : Fld} (h : ∀ x < 4, A.CLK_PLL_STATUS x ≠ f.addr) (hs : A.SYS_SCRATCH ≠ f.addr) :
    (settle s).on f = s.on f := by
  simp [State.on, settle_get_ne s h hs]

/-- `settle` keeps the register file's canonical form. -/
theorem settle_regsOk (h : s.regsOk = true) : (settle s).regsOk = true := by
  have h1 : ∀ (s : State) fam, s.regsOk = true → (s.startPll fam).regsOk = true := fun s fam h => by
    rcases s.startPll_eq fam with e | e <;> rw [e]
    · exact h
    · exact s.regsOk_set _ _ h
  have h2 : ∀ s : State, s.regsOk = true → s.ldrUsbLost.regsOk = true := fun s h => by
    rcases s.ldrUsbLost_eq with e | e <;> rw [e]
    · exact h
    · exact State.regsOk_setReg s A.SYS_SCRATCH (resultWord 3 3 10 0) h
  have h3 : ∀ s : State, s.regsOk = true → s.driveIrq.regsOk = true := fun s h => by
    rcases s.driveIrq_eq with e | e <;> rw [e] <;> exact h
  exact h3 _ (h2 _ (h1 _ _ (h1 _ _ h)))

/-! ## IRQ_N -/

/-- After `settle`, IRQ_N is low exactly while an enabled group is pending (R67), unless the management island stands. -/
theorem settle_irq (hm : (settle s).mgmtRuns = true) (hd : (settle s).domState ≤ 2) :
    (settle s).pins.irqLow = decide ((settle s).notifyWord ≠ 0) := by
  unfold settle at hm hd ⊢
  generalize ((s.startPll 0).startPll 1).ldrUsbLost = u at hm hd ⊢
  have hm' : u.mgmtRuns = true := by
    rcases u.driveIrq_eq with h | h <;> rw [h] at hm <;> exact hm
  have hd' : u.domState ≤ 2 := by
    rcases u.driveIrq_eq with h | h <;> rw [h] at hd <;> exact hd
  have e : u.driveIrq = { u with pins := { u.pins with irqLow := decide (u.notifyWord ≠ 0) } } := by
    simp [State.driveIrq, State.when, hm', hd']
  rw [e]
  rfl

end Sys2Proof.Machine
end

