-- ==== Sys2Proof/Laws/Touches.lean ====
section
/-! SUPPORT. Laws of Touches: it composes, and one law per named update. -/

namespace Sys2Proof.Machine

variable {ps : List Part} {gs : List Nat} {fs : List Fld} {s t u : State}

theorem Part.same_refl (s : State) (p : Part) : p.same s s := by cases p <;> rfl

theorem Part.same_trans {p : Part} (h : p.same s t) (h' : p.same t u) : p.same s u := by
  cases p <;> exact Eq.trans h' h

/-- A bit outside a replaced field is untouched. -/
theorem bit_setBits_ne (x : Word) {lo w i : Nat} (v : Nat) (hi : i < 32) (h : ¬ (lo ≤ i ∧ i < lo + w)) :
    bits (setBits x lo w v) i 1 = bits x i 1 := by
  by_cases hw : lo + w ≤ 32
  · exact bits_setBits_ne x v hw (by omega)
  · have hil : i < lo := by omega
    have hx := x.isLt
    have h1 : x.toNat / 2 ^ (lo + w) = 0 := Nat.div_eq_of_lt (lt_of_lt_of_le hx (Nat.pow_le_pow_right (by omega) (by omega)))
    unfold setBits bits
    rw [h1, Nat.zero_mul, Nat.zero_add, BitVec.toNat_ofNat]
    simp only [pow_one, ← Nat.toNat_testBit, Nat.testBit_mod_two_pow, hi, decide_true, Bool.true_and]
    congr 1
    rw [Nat.mul_comm, Nat.testBit_two_pow_mul_add _ (Nat.mod_lt _ (Nat.two_pow_pos lo))]
    simp [hil, Nat.testBit_mod_two_pow]

/-- A state touches nothing of itself. -/
theorem Touches.refl (ps : List Part) (gs : List Nat) (fs : List Fld) (s : State) : Touches ps gs fs s s :=
  ⟨fun p _ => p.same_refl s, fun _ _ _ _ _ => rfl⟩

theorem Touches.trans (h : Touches ps gs fs s t) (h' : Touches ps gs fs t u) : Touches ps gs fs s u :=
  ⟨fun p hp => Part.same_trans (h.1 p hp) (h'.1 p hp), fun a i hi ha hf => (h'.2 a i hi ha hf).trans (h.2 a i hi ha hf)⟩

/-- The lists may grow. -/
theorem Touches.mono {ps' : List Part} {gs' : List Nat} {fs' : List Fld} (h : Touches ps gs fs s t) (hp : ps ⊆ ps')
    (hg : gs ⊆ gs') (hf : fs ⊆ fs') : Touches ps' gs' fs' s t :=
  ⟨fun p hn => h.1 p (fun hm => hn (hp hm)), fun a i hi ha hn => h.2 a i hi (fun hm => ha (hg hm))
    (fun ⟨f, hm, hx⟩ => hn ⟨f, hf hm, hx⟩)⟩

/-- A register outside the pages that no listed field lies in reads the same. -/
theorem Touches.reg_eq (h : Touches ps gs fs s t) {a : Nat} (hg : a / 0x400 ∉ gs) (hf : ∀ f ∈ fs, f.addr ≠ a) :
    t.reg a = s.reg a := by
  apply BitVec.eq_of_getLsbD_eq
  intro i hi
  have hb := h.2 a i hi hg (fun ⟨f, hm, hx⟩ => hf f hm hx.1)
  simp only [bits, pow_one, ← Nat.toNat_testBit] at hb
  have hb' : ∀ p q : Bool, p.toNat = q.toNat → p = q := by decide
  simpa [BitVec.getLsbD] using hb' _ _ hb

/-- A field is its bits. -/
theorem bits_eq_of_bit {x y : Word} {lo w : Nat} (h : ∀ i, lo ≤ i → i < lo + w → i < 32 → bits x i 1 = bits y i 1) : bits x lo w = bits y lo w := by
  apply Nat.eq_of_testBit_eq
  intro j
  simp only [bits, Nat.testBit_mod_two_pow, Nat.testBit_div_two_pow]
  by_cases hj : j < w
  · simp only [hj, decide_true, Bool.true_and]
    by_cases h32 : j + lo < 32
    · have hb := h (j + lo) (by omega) (by omega) h32
      simp only [bits, pow_one, ← Nat.toNat_testBit] at hb
      have hb' : ∀ p q : Bool, p.toNat = q.toNat → p = q := by decide
      exact hb' _ _ hb
    · have e : ∀ z : Word, z.toNat.testBit (j + lo) = false := fun z =>
        Nat.testBit_lt_two_pow (lt_of_lt_of_le z.isLt (Nat.pow_le_pow_right (by omega) (by omega)))
      rw [e, e]
  · simp [hj]

/-- A field outside the pages that no listed field overlaps reads the same. -/
theorem Touches.get_eq {ps : List Part} {gs : List Nat} {fs : List Fld} {s t : State} (h : Touches ps gs fs s t) {f : Fld}
    (hg : f.addr / 0x400 ∉ gs) (hf : ∀ g ∈ fs, g.apart f) : t.get f = s.get f := by
  refine bits_eq_of_bit (fun i h1 h2 h3 => h.2 _ i h3 hg (fun ⟨g, hm, ha, hl, hu⟩ => ?_))
  have := hf g hm
  simp only [Fld.apart] at this
  omega

/-! ## Registers -/

theorem Touches.setReg (h : Touches ps gs fs s t) {a : Nat} (w : Word) (ha : a / 0x400 ∈ gs ∨ whole a ∈ fs) :
    Touches ps gs fs s (t.setReg a w) :=
  ⟨fun p hp => Part.same_trans (h.1 p hp) (by cases p <;> rfl),
   fun b i hi hb hf => by
     rw [t.reg_setReg_ne w (by
       rintro rfl
       exact ha.elim hb (fun hm => hf ⟨_, hm, rfl, Nat.zero_le i, by simpa [whole] using hi⟩))]
     exact h.2 b i hi hb hf⟩

theorem Touches.set (h : Touches ps gs fs s t) {f : Fld} (v : Nat) (ha : f.addr / 0x400 ∈ gs ∨ f ∈ fs) :
    Touches ps gs fs s (t.set f v) :=
  ⟨fun p hp => Part.same_trans (h.1 p hp) (by cases p <;> rfl),
   fun b i hi hb hf => by
     rw [← h.2 b i hi hb hf]
     by_cases hab : f.addr = b
     · subst hab
       rw [State.set, State.reg_setReg_self]
       exact bit_setBits_ne _ v hi (fun hx => ha.elim hb (fun hm => hf ⟨f, hm, rfl, hx.1, hx.2⟩))
     · rw [State.reg_set_ne _ _ hab]⟩

theorem Touches.setB (h : Touches ps gs fs s t) {f : Fld} (b : Bool) (ha : f.addr / 0x400 ∈ gs ∨ f ∈ fs) :
    Touches ps gs fs s (t.setB f b) := h.set _ ha

theorem Touches.setS (h : Touches ps gs fs s t) {f : Fld} (v : Int) (ha : f.addr / 0x400 ∈ gs ∨ f ∈ fs) :
    Touches ps gs fs s (t.setS f v) := h.set _ ha

theorem Touches.inc (h : Touches ps gs fs s t) {f : Fld} (ha : f.addr / 0x400 ∈ gs ∨ f ∈ fs) : Touches ps gs fs s (t.inc f) :=
  h.set _ ha

theorem Touches.irq (h : Touches ps gs fs s t) {page i : Nat} (hg : page ∈ gs ∨ F.PG_IRQ page i ∈ fs) :
    Touches ps gs fs s (t.irq page i) :=
  h.set _ (hg.imp_left (by simp only [F.PG_IRQ]; rw [show (page * 0x400 + 0x00C) / 0x400 = page by omega]; exact id))

theorem Touches.when (h : Touches ps gs fs s t) (c : Bool) {f : State → State} (hf : c = true → Touches ps gs fs s (f t)) :
    Touches ps gs fs s (t.when c f) := by
  cases c
  · exact h
  · exact hf rfl

theorem Touches.event (h : Touches ps gs fs s t) (i : Island) (c : Bool) {f : State → State}
    (hf : Touches ps gs fs s (f t)) : Touches ps gs fs s (t.event i c f) := h.when _ (fun _ => hf)

theorem Touches.fault (h : Touches ps gs fs s t) {page : Nat} (code : Nat)
    (hg : page ∈ gs ∨ (F.PG_IRQ page 1 ∈ fs ∧ F.PG_FAULT page ∈ fs)) : Touches ps gs fs s (t.fault page code) :=
  (h.when _ (fun _ => h.irq (hg.imp_right (·.1)))).set _ (hg.imp
    (by simp only [F.PG_FAULT]; rw [show (page * 0x400 + 0x018) / 0x400 = page by omega]; exact id) (·.2))

theorem Touches.unfault (h : Touches ps gs fs s t) {page : Nat} (code : Nat) (hg : page ∈ gs ∨ F.PG_FAULT page ∈ fs) :
    Touches ps gs fs s (t.unfault page code) :=
  h.when _ (fun _ => h.set _ (hg.imp_left
    (by simp only [F.PG_FAULT]; rw [show (page * 0x400 + 0x018) / 0x400 = page by omega]; exact id)))

theorem Touches.forAll (h : Touches ps gs fs s t) (n : Nat) {f : State → Nat → State}
    (hf : ∀ t k, k < n → Touches ps gs fs s t → Touches ps gs fs s (f t k)) : Touches ps gs fs s (t.forAll n f) := by
  unfold State.forAll
  have hl : ∀ k ∈ List.range n, k < n := fun k => List.mem_range.1
  revert hl
  generalize List.range n = l
  intro hl
  induction l generalizing t with
  | nil => exact h
  | cons k l ih =>
    exact ih (hf t k (hl k (List.mem_cons_self ..)) h) (fun j hj => hl j (List.mem_cons_of_mem _ hj))

/-! ## Records -/

theorem Touches.put_jobs (h : Touches ps gs fs s t) (x : Vector Job 16) (hp : .jobs ∈ ps) : Touches ps gs fs s { t with jobs := x } :=
  ⟨fun p hn => Part.same_trans (h.1 p hn) (by cases p <;> first | rfl | exact absurd hp hn), h.2⟩

theorem Touches.put_jobSeq (h : Touches ps gs fs s t) (x : Nat) (hp : .jobSeq ∈ ps) : Touches ps gs fs s { t with jobSeq := x } :=
  ⟨fun p hn => Part.same_trans (h.1 p hn) (by cases p <;> first | rfl | exact absurd hp hn), h.2⟩

theorem Touches.put_lastJobId (h : Touches ps gs fs s t) (x : Nat) (hp : .lastJobId ∈ ps) : Touches ps gs fs s { t with lastJobId := x } :=
  ⟨fun p hn => Part.same_trans (h.1 p hn) (by cases p <;> first | rfl | exact absurd hp hn), h.2⟩

theorem Touches.put_free (h : Touches ps gs fs s t) (x : Nat) (hp : .free ∈ ps) : Touches ps gs fs s { t with free := x } :=
  ⟨fun p hn => Part.same_trans (h.1 p hn) (by cases p <;> first | rfl | exact absurd hp hn), h.2⟩

theorem Touches.put_pins (h : Touches ps gs fs s t) (x : Pins) (hp : .pins ∈ ps) : Touches ps gs fs s { t with pins := x } :=
  ⟨fun p hn => Part.same_trans (h.1 p hn) (by cases p <;> first | rfl | exact absurd hp hn), h.2⟩

theorem Touches.put_grants (h : Touches ps gs fs s t) (x : Vector Nat 64) (hp : .grants ∈ ps) : Touches ps gs fs s { t with grants := x } :=
  ⟨fun p hn => Part.same_trans (h.1 p hn) (by cases p <;> first | rfl | exact absurd hp hn), h.2⟩

theorem Touches.put_domState (h : Touches ps gs fs s t) (x : Nat) (hp : .domState ∈ ps) : Touches ps gs fs s { t with domState := x } :=
  ⟨fun p hn => Part.same_trans (h.1 p hn) (by cases p <;> first | rfl | exact absurd hp hn), h.2⟩

theorem Touches.put_gated (h : Touches ps gs fs s t) (x : Bool) (hp : .gated ∈ ps) : Touches ps gs fs s { t with gated := x } :=
  ⟨fun p hn => Part.same_trans (h.1 p hn) (by cases p <;> first | rfl | exact absurd hp hn), h.2⟩

theorem Touches.put_quiet (h : Touches ps gs fs s t) (x : List Nat) (hp : .quiet ∈ ps) : Touches ps gs fs s { t with quiet := x } :=
  ⟨fun p hn => Part.same_trans (h.1 p hn) (by cases p <;> first | rfl | exact absurd hp hn), h.2⟩

theorem Touches.put_poison (h : Touches ps gs fs s t) (x : List (Nat × Item)) (hp : .poison ∈ ps) : Touches ps gs fs s { t with poison := x } :=
  ⟨fun p hn => Part.same_trans (h.1 p hn) (by cases p <;> first | rfl | exact absurd hp hn), h.2⟩

theorem Touches.put_sram (h : Touches ps gs fs s t) (x : List (Nat × Word)) (hp : .sram ∈ ps) : Touches ps gs fs s { t with sram := x } :=
  ⟨fun p hn => Part.same_trans (h.1 p hn) (by cases p <;> first | rfl | exact absurd hp hn), h.2⟩

theorem Touches.put_ain (h : Touches ps gs fs s t) (x : Vector Ain 16) (hp : .ain ∈ ps) : Touches ps gs fs s { t with ain := x } :=
  ⟨fun p hn => Part.same_trans (h.1 p hn) (by cases p <;> first | rfl | exact absurd hp hn), h.2⟩

theorem Touches.put_bias (h : Touches ps gs fs s t) (x : Vector BiasPhase 4) (hp : .bias ∈ ps) : Touches ps gs fs s { t with bias := x } :=
  ⟨fun p hn => Part.same_trans (h.1 p hn) (by cases p <;> first | rfl | exact absurd hp hn), h.2⟩

theorem Touches.put_beep (h : Touches ps gs fs s t) (x : Beep) (hp : .beep ∈ ps) : Touches ps gs fs s { t with beep := x } :=
  ⟨fun p hn => Part.same_trans (h.1 p hn) (by cases p <;> first | rfl | exact absurd hp hn), h.2⟩

theorem Touches.put_aslTrim (h : Touches ps gs fs s t) (x : Vector (Int × Int) 18) (hp : .aslTrim ∈ ps) : Touches ps gs fs s { t with aslTrim := x } :=
  ⟨fun p hn => Part.same_trans (h.1 p hn) (by cases p <;> first | rfl | exact absurd hp hn), h.2⟩

theorem Touches.put_adcSubst (h : Touches ps gs fs s t) (x : Vector (Option Subst) 2) (hp : .adcSubst ∈ ps) : Touches ps gs fs s { t with adcSubst := x } :=
  ⟨fun p hn => Part.same_trans (h.1 p hn) (by cases p <;> first | rfl | exact absurd hp hn), h.2⟩

theorem Touches.put_vrefaStarted (h : Touches ps gs fs s t) (x : Bool) (hp : .vrefaStarted ∈ ps) : Touches ps gs fs s { t with vrefaStarted := x } :=
  ⟨fun p hn => Part.same_trans (h.1 p hn) (by cases p <;> first | rfl | exact absurd hp hn), h.2⟩

theorem Touches.put_aout (h : Touches ps gs fs s t) (x : Vector Aout 8) (hp : .aout ∈ ps) : Touches ps gs fs s { t with aout := x } :=
  ⟨fun p hn => Part.same_trans (h.1 p hn) (by cases p <;> first | rfl | exact absurd hp hn), h.2⟩

theorem Touches.put_jack (h : Touches ps gs fs s t) (x : Vector Jack 2) (hp : .jack ∈ ps) : Touches ps gs fs s { t with jack := x } :=
  ⟨fun p hn => Part.same_trans (h.1 p hn) (by cases p <;> first | rfl | exact absurd hp hn), h.2⟩

theorem Touches.put_dslTrim (h : Touches ps gs fs s t) (x : Vector (Int × Int) 10) (hp : .dslTrim ∈ ps) : Touches ps gs fs s { t with dslTrim := x } :=
  ⟨fun p hn => Part.same_trans (h.1 p hn) (by cases p <;> first | rfl | exact absurd hp hn), h.2⟩

theorem Touches.put_dacSubst (h : Touches ps gs fs s t) (x : Vector (Option Subst) 2) (hp : .dacSubst ∈ ps) : Touches ps gs fs s { t with dacSubst := x } :=
  ⟨fun p hn => Part.same_trans (h.1 p hn) (by cases p <;> first | rfl | exact absurd hp hn), h.2⟩

theorem Touches.put_vrefbStarted (h : Touches ps gs fs s t) (x : Bool) (hp : .vrefbStarted ∈ ps) : Touches ps gs fs s { t with vrefbStarted := x } :=
  ⟨fun p hn => Part.same_trans (h.1 p hn) (by cases p <;> first | rfl | exact absurd hp hn), h.2⟩

theorem Touches.put_cpFault (h : Touches ps gs fs s t) (x : Bool) (hp : .cpFault ∈ ps) : Touches ps gs fs s { t with cpFault := x } :=
  ⟨fun p hn => Part.same_trans (h.1 p hn) (by cases p <;> first | rfl | exact absurd hp hn), h.2⟩

theorem Touches.put_cpStop (h : Touches ps gs fs s t) (x : Bool) (hp : .cpStop ∈ ps) : Touches ps gs fs s { t with cpStop := x } :=
  ⟨fun p hn => Part.same_trans (h.1 p hn) (by cases p <;> first | rfl | exact absurd hp hn), h.2⟩

theorem Touches.put_spk (h : Touches ps gs fs s t) (x : Vector Spk 4) (hp : .spk ∈ ps) : Touches ps gs fs s { t with spk := x } :=
  ⟨fun p hn => Part.same_trans (h.1 p hn) (by cases p <;> first | rfl | exact absurd hp hn), h.2⟩

theorem Touches.put_lanes (h : Touches ps gs fs s t) (x : Vector Lane 48) (hp : .lanes ∈ ps) : Touches ps gs fs s { t with lanes := x } :=
  ⟨fun p hn => Part.same_trans (h.1 p hn) (by cases p <;> first | rfl | exact absurd hp hn), h.2⟩

theorem Touches.put_coefPend (h : Touches ps gs fs s t) (x : List (Nat × Word)) (hp : .coefPend ∈ ps) : Touches ps gs fs s { t with coefPend := x } :=
  ⟨fun p hn => Part.same_trans (h.1 p hn) (by cases p <;> first | rfl | exact absurd hp hn), h.2⟩

theorem Touches.put_poolFree (h : Touches ps gs fs s t) (x : Nat) (hp : .poolFree ∈ ps) : Touches ps gs fs s { t with poolFree := x } :=
  ⟨fun p hn => Part.same_trans (h.1 p hn) (by cases p <;> first | rfl | exact absurd hp hn), h.2⟩

theorem Touches.put_xpPend (h : Touches ps gs fs s t) (x : List (Nat × Word)) (hp : .xpPend ∈ ps) : Touches ps gs fs s { t with xpPend := x } :=
  ⟨fun p hn => Part.same_trans (h.1 p hn) (by cases p <;> first | rfl | exact absurd hp hn), h.2⟩

theorem Touches.put_xpAct (h : Touches ps gs fs s t) (x : List (Nat × Word)) (hp : .xpAct ∈ ps) : Touches ps gs fs s { t with xpAct := x } :=
  ⟨fun p hn => Part.same_trans (h.1 p hn) (by cases p <;> first | rfl | exact absurd hp hn), h.2⟩

theorem Touches.put_xpRamp (h : Touches ps gs fs s t) (x : List (Nat × Xp)) (hp : .xpRamp ∈ ps) : Touches ps gs fs s { t with xpRamp := x } :=
  ⟨fun p hn => Part.same_trans (h.1 p hn) (by cases p <;> first | rfl | exact absurd hp hn), h.2⟩

theorem Touches.put_sinkAct (h : Touches ps gs fs s t) (x : List (Nat × Word)) (hp : .sinkAct ∈ ps) : Touches ps gs fs s { t with sinkAct := x } :=
  ⟨fun p hn => Part.same_trans (h.1 p hn) (by cases p <;> first | rfl | exact absurd hp hn), h.2⟩

theorem Touches.put_sinkFade (h : Touches ps gs fs s t) (x : List (Nat × Blend Word)) (hp : .sinkFade ∈ ps) : Touches ps gs fs s { t with sinkFade := x } :=
  ⟨fun p hn => Part.same_trans (h.1 p hn) (by cases p <;> first | rfl | exact absurd hp hn), h.2⟩

theorem Touches.put_tapFade (h : Touches ps gs fs s t) (x : List (Nat × Blend Nat)) (hp : .tapFade ∈ ps) : Touches ps gs fs s { t with tapFade := x } :=
  ⟨fun p hn => Part.same_trans (h.1 p hn) (by cases p <;> first | rfl | exact absurd hp hn), h.2⟩

theorem Touches.put_bus (h : Touches ps gs fs s t) (x : Vector Int 48) (hp : .bus ∈ ps) : Touches ps gs fs s { t with bus := x } :=
  ⟨fun p hn => Part.same_trans (h.1 p hn) (by cases p <;> first | rfl | exact absurd hp hn), h.2⟩

theorem Touches.put_fifTarget (h : Touches ps gs fs s t) (x : Vector Nat 128) (hp : .fifTarget ∈ ps) : Touches ps gs fs s { t with fifTarget := x } :=
  ⟨fun p hn => Part.same_trans (h.1 p hn) (by cases p <;> first | rfl | exact absurd hp hn), h.2⟩

theorem Touches.put_ainTap (h : Touches ps gs fs s t) (x : Vector Int 16) (hp : .ainTap ∈ ps) : Touches ps gs fs s { t with ainTap := x } :=
  ⟨fun p hn => Part.same_trans (h.1 p hn) (by cases p <;> first | rfl | exact absurd hp hn), h.2⟩

theorem Touches.put_sap (h : Touches ps gs fs s t) (x : Vector Sap 8) (hp : .sap ∈ ps) : Touches ps gs fs s { t with sap := x } :=
  ⟨fun p hn => Part.same_trans (h.1 p hn) (by cases p <;> first | rfl | exact absurd hp hn), h.2⟩

theorem Touches.put_pdm (h : Touches ps gs fs s t) (x : Vector PdmGrp 2) (hp : .pdm ∈ ps) : Touches ps gs fs s { t with pdm := x } :=
  ⟨fun p hn => Part.same_trans (h.1 p hn) (by cases p <;> first | rfl | exact absurd hp hn), h.2⟩

theorem Touches.put_mics (h : Touches ps gs fs s t) (x : Vector Mic 16) (hp : .mics ∈ ps) : Touches ps gs fs s { t with mics := x } :=
  ⟨fun p hn => Part.same_trans (h.1 p hn) (by cases p <;> first | rfl | exact absurd hp hn), h.2⟩

theorem Touches.put_spdRx (h : Touches ps gs fs s t) (x : SpdRx) (hp : .spdRx ∈ ps) : Touches ps gs fs s { t with spdRx := x } :=
  ⟨fun p hn => Part.same_trans (h.1 p hn) (by cases p <;> first | rfl | exact absurd hp hn), h.2⟩

theorem Touches.put_spdTx (h : Touches ps gs fs s t) (x : SpdTx) (hp : .spdTx ∈ ps) : Touches ps gs fs s { t with spdTx := x } :=
  ⟨fun p hn => Part.same_trans (h.1 p hn) (by cases p <;> first | rfl | exact absurd hp hn), h.2⟩

theorem Touches.put_trk (h : Touches ps gs fs s t) (x : Vector Trk 10) (hp : .trk ∈ ps) : Touches ps gs fs s { t with trk := x } :=
  ⟨fun p hn => Part.same_trans (h.1 p hn) (by cases p <;> first | rfl | exact absurd hp hn), h.2⟩

theorem Touches.put_mains (h : Touches ps gs fs s t) (x : Mains) (hp : .mains ∈ ps) : Touches ps gs fs s { t with mains := x } :=
  ⟨fun p hn => Part.same_trans (h.1 p hn) (by cases p <;> first | rfl | exact absurd hp hn), h.2⟩

theorem Touches.put_feChange (h : Touches ps gs fs s t) (x : FePhase) (hp : .feChange ∈ ps) : Touches ps gs fs s { t with feChange := x } :=
  ⟨fun p hn => Part.same_trans (h.1 p hn) (by cases p <;> first | rfl | exact absurd hp hn), h.2⟩

theorem Touches.put_engStop (h : Touches ps gs fs s t) (x : Bool) (hp : .engStop ∈ ps) : Touches ps gs fs s { t with engStop := x } :=
  ⟨fun p hn => Part.same_trans (h.1 p hn) (by cases p <;> first | rfl | exact absurd hp hn), h.2⟩

theorem Touches.put_opHeld (h : Touches ps gs fs s t) (x : Option Nat) (hp : .opHeld ∈ ps) : Touches ps gs fs s { t with opHeld := x } :=
  ⟨fun p hn => Part.same_trans (h.1 p hn) (by cases p <;> first | rfl | exact absurd hp hn), h.2⟩

theorem Touches.put_tkoOn (h : Touches ps gs fs s t) (x : Bool) (hp : .tkoOn ∈ ps) : Touches ps gs fs s { t with tkoOn := x } :=
  ⟨fun p hn => Part.same_trans (h.1 p hn) (by cases p <;> first | rfl | exact absurd hp hn), h.2⟩

theorem Touches.put_tko (h : Touches ps gs fs s t) (x : Tko) (hp : .tko ∈ ps) : Touches ps gs fs s { t with tko := x } :=
  ⟨fun p hn => Part.same_trans (h.1 p hn) (by cases p <;> first | rfl | exact absurd hp hn), h.2⟩

theorem Touches.put_pllTest (h : Touches ps gs fs s t) (x : Option Nat) (hp : .pllTest ∈ ps) : Touches ps gs fs s { t with pllTest := x } :=
  ⟨fun p hn => Part.same_trans (h.1 p hn) (by cases p <;> first | rfl | exact absurd hp hn), h.2⟩

theorem Touches.put_lst (h : Touches ps gs fs s t) (x : Lst) (hp : .lst ∈ ps) : Touches ps gs fs s { t with lst := x } :=
  ⟨fun p hn => Part.same_trans (h.1 p hn) (by cases p <;> first | rfl | exact absurd hp hn), h.2⟩

theorem Touches.put_usb (h : Touches ps gs fs s t) (x : Usb) (hp : .usb ∈ ps) : Touches ps gs fs s { t with usb := x } :=
  ⟨fun p hn => Part.same_trans (h.1 p hn) (by cases p <;> first | rfl | exact absurd hp hn), h.2⟩

theorem Touches.put_pwr (h : Touches ps gs fs s t) (x : Pwr) (hp : .pwr ∈ ps) : Touches ps gs fs s { t with pwr := x } :=
  ⟨fun p hn => Part.same_trans (h.1 p hn) (by cases p <;> first | rfl | exact absurd hp hn), h.2⟩

theorem Touches.put_sns (h : Touches ps gs fs s t) (x : Sns) (hp : .sns ∈ ps) : Touches ps gs fs s { t with sns := x } :=
  ⟨fun p hn => Part.same_trans (h.1 p hn) (by cases p <;> first | rfl | exact absurd hp hn), h.2⟩

theorem Touches.put_pmb (h : Touches ps gs fs s t) (x : Pmb) (hp : .pmb ∈ ps) : Touches ps gs fs s { t with pmb := x } :=
  ⟨fun p hn => Part.same_trans (h.1 p hn) (by cases p <;> first | rfl | exact absurd hp hn), h.2⟩

theorem Touches.put_opNext (h : Touches ps gs fs s t) (x : Option Nat) (hp : .opNext ∈ ps) : Touches ps gs fs s { t with opNext := x } :=
  ⟨fun p hn => Part.same_trans (h.1 p hn) (by cases p <;> first | rfl | exact absurd hp hn), h.2⟩

theorem Touches.put_blw (h : Touches ps gs fs s t) (x : Blw) (hp : .blw ∈ ps) : Touches ps gs fs s { t with blw := x } :=
  ⟨fun p hn => Part.same_trans (h.1 p hn) (by cases p <;> first | rfl | exact absurd hp hn), h.2⟩

theorem Touches.put_mem (h : Touches ps gs fs s t) (x : Mem) (hp : .mem ∈ ps) : Touches ps gs fs s { t with mem := x } :=
  ⟨fun p hn => Part.same_trans (h.1 p hn) (by cases p <;> first | rfl | exact absurd hp hn), h.2⟩

theorem Touches.put_stalled (h : Touches ps gs fs s t) (x : List Stall) (hp : .stalled ∈ ps) : Touches ps gs fs s { t with stalled := x } :=
  ⟨fun p hn => Part.same_trans (h.1 p hn) (by cases p <;> first | rfl | exact absurd hp hn), h.2⟩

theorem Touches.put_smb (h : Touches ps gs fs s t) (x : Smb) (hp : .smb ∈ ps) : Touches ps gs fs s { t with smb := x } :=
  ⟨fun p hn => Part.same_trans (h.1 p hn) (by cases p <;> first | rfl | exact absurd hp hn), h.2⟩

theorem Touches.put_otp (h : Touches ps gs fs s t) (x : List (Nat × Word)) (hp : .otp ∈ ps) : Touches ps gs fs s { t with otp := x } :=
  ⟨fun p hn => Part.same_trans (h.1 p hn) (by cases p <;> first | rfl | exact absurd hp hn), h.2⟩

theorem Touches.put_mac (h : Touches ps gs fs s t) (x : Option MacJob) (hp : .mac ∈ ps) : Touches ps gs fs s { t with mac := x } :=
  ⟨fun p hn => Part.same_trans (h.1 p hn) (by cases p <;> first | rfl | exact absurd hp hn), h.2⟩

theorem Touches.put_bankTest (h : Touches ps gs fs s t) (x : Option Nat) (hp : .bankTest ∈ ps) : Touches ps gs fs s { t with bankTest := x } :=
  ⟨fun p hn => Part.same_trans (h.1 p hn) (by cases p <;> first | rfl | exact absurd hp hn), h.2⟩

theorem Touches.put_rotMs (h : Touches ps gs fs s t) (x : Nat) (hp : .rotMs ∈ ps) : Touches ps gs fs s { t with rotMs := x } :=
  ⟨fun p hn => Part.same_trans (h.1 p hn) (by cases p <;> first | rfl | exact absurd hp hn), h.2⟩

theorem Touches.put_rotDue (h : Touches ps gs fs s t) (x : Bool) (hp : .rotDue ∈ ps) : Touches ps gs fs s { t with rotDue := x } :=
  ⟨fun p hn => Part.same_trans (h.1 p hn) (by cases p <;> first | rfl | exact absurd hp hn), h.2⟩

theorem Touches.put_lcy (h : Touches ps gs fs s t) (x : Lcy) (hp : .lcy ∈ ps) : Touches ps gs fs s { t with lcy := x } :=
  ⟨fun p hn => Part.same_trans (h.1 p hn) (by cases p <;> first | rfl | exact absurd hp hn), h.2⟩

theorem Touches.put_jtag (h : Touches ps gs fs s t) (x : Jtag) (hp : .jtag ∈ ps) : Touches ps gs fs s { t with jtag := x } :=
  ⟨fun p hn => Part.same_trans (h.1 p hn) (by cases p <;> first | rfl | exact absurd hp hn), h.2⟩

theorem Touches.put_freezeArmed (h : Touches ps gs fs s t) (x : Bool) (hp : .freezeArmed ∈ ps) : Touches ps gs fs s { t with freezeArmed := x } :=
  ⟨fun p hn => Part.same_trans (h.1 p hn) (by cases p <;> first | rfl | exact absurd hp hn), h.2⟩

theorem Touches.put_boot (h : Touches ps gs fs s t) (x : Boot) (hp : .boot ∈ ps) : Touches ps gs fs s { t with boot := x } :=
  ⟨fun p hn => Part.same_trans (h.1 p hn) (by cases p <;> first | rfl | exact absurd hp hn), h.2⟩

theorem Touches.put_keptMgmt (h : Touches ps gs fs s t) (x : Bool) (hp : .keptMgmt ∈ ps) : Touches ps gs fs s { t with keptMgmt := x } :=
  ⟨fun p hn => Part.same_trans (h.1 p hn) (by cases p <;> first | rfl | exact absurd hp hn), h.2⟩

theorem Touches.put_keptUsb (h : Touches ps gs fs s t) (x : Bool) (hp : .keptUsb ∈ ps) : Touches ps gs fs s { t with keptUsb := x } :=
  ⟨fun p hn => Part.same_trans (h.1 p hn) (by cases p <;> first | rfl | exact absurd hp hn), h.2⟩

theorem Touches.put_ldr (h : Touches ps gs fs s t) (x : Loader) (hp : .ldr ∈ ps) : Touches ps gs fs s { t with ldr := x } :=
  ⟨fun p hn => Part.same_trans (h.1 p hn) (by cases p <;> first | rfl | exact absurd hp hn), h.2⟩

theorem Touches.put_pending (h : Touches ps gs fs s t) (x : List Instr) (hp : .pending ∈ ps) : Touches ps gs fs s { t with pending := x } :=
  ⟨fun p hn => Part.same_trans (h.1 p hn) (by cases p <;> first | rfl | exact absurd hp hn), h.2⟩

theorem Touches.modAin (h : Touches ps gs fs s t) (n : Nat) (f : Ain → Ain) (hp : .ain ∈ ps) : Touches ps gs fs s (t.modAin n f) :=
  h.put_ain _ hp

theorem Touches.setAdcSub (h : Touches ps gs fs s t) (g : Nat) (x : Option Subst) (hp : .adcSubst ∈ ps) : Touches ps gs fs s (t.setAdcSub g x) :=
  h.put_adcSubst _ hp

theorem Touches.modAout (h : Touches ps gs fs s t) (c : Nat) (f : Aout → Aout) (hp : .aout ∈ ps) : Touches ps gs fs s (t.modAout c f) :=
  h.put_aout _ hp

theorem Touches.setDacSub (h : Touches ps gs fs s t) (g : Nat) (x : Option Subst) (hp : .dacSubst ∈ ps) : Touches ps gs fs s (t.setDacSub g x) :=
  h.put_dacSubst _ hp

theorem Touches.modBlw (h : Touches ps gs fs s t) (f : Blw → Blw) (hp : .blw ∈ ps) : Touches ps gs fs s (t.modBlw f) :=
  h.put_blw _ hp

theorem Touches.modSmb (h : Touches ps gs fs s t) (f : Smb → Smb) (hp : .smb ∈ ps) : Touches ps gs fs s (t.modSmb f) :=
  h.put_smb _ hp

theorem Touches.modLdr (h : Touches ps gs fs s t) (f : Loader → Loader) (hp : .ldr ∈ ps) : Touches ps gs fs s (t.modLdr f) :=
  h.put_ldr _ hp

theorem Touches.modJack (h : Touches ps gs fs s t) (n : Nat) (f : Jack → Jack) (hp : .jack ∈ ps) : Touches ps gs fs s (t.modJack n f) :=
  h.put_jack _ hp

theorem Touches.modJob (h : Touches ps gs fs s t) (k : Nat) (f : Job → Job) (hp : .jobs ∈ ps) : Touches ps gs fs s (t.modJob k f) :=
  h.put_jobs _ hp

theorem Touches.modLane (h : Touches ps gs fs s t) (n : Nat) (f : Lane → Lane) (hp : .lanes ∈ ps) : Touches ps gs fs s (t.modLane n f) :=
  h.put_lanes _ hp

theorem Touches.modLst (h : Touches ps gs fs s t) (f : Lst → Lst) (hp : .lst ∈ ps) : Touches ps gs fs s (t.modLst f) :=
  h.put_lst _ hp

theorem Touches.modHist (h : Touches ps gs fs s t) (f : Hist → Hist) (hp : .lst ∈ ps) : Touches ps gs fs s (t.modHist f) :=
  h.put_lst _ hp

theorem Touches.modMem (h : Touches ps gs fs s t) (f : Mem → Mem) (hp : .mem ∈ ps) : Touches ps gs fs s (t.modMem f) :=
  h.put_mem _ hp

theorem Touches.modPdm (h : Touches ps gs fs s t) (g : Nat) (f : PdmGrp → PdmGrp) (hp : .pdm ∈ ps) : Touches ps gs fs s (t.modPdm g f) :=
  h.put_pdm _ hp

theorem Touches.modMic (h : Touches ps gs fs s t) (m : Nat) (f : Mic → Mic) (hp : .mics ∈ ps) : Touches ps gs fs s (t.modMic m f) :=
  h.put_mics _ hp

theorem Touches.modPmb (h : Touches ps gs fs s t) (f : Pmb → Pmb) (hp : .pmb ∈ ps) : Touches ps gs fs s (t.modPmb f) :=
  h.put_pmb _ hp

theorem Touches.modPwr (h : Touches ps gs fs s t) (f : Pwr → Pwr) (hp : .pwr ∈ ps) : Touches ps gs fs s (t.modPwr f) :=
  h.put_pwr _ hp

theorem Touches.modSap (h : Touches ps gs fs s t) (p : Nat) (f : Sap → Sap) (hp : .sap ∈ ps) : Touches ps gs fs s (t.modSap p f) :=
  h.put_sap _ hp

theorem Touches.modJtag (h : Touches ps gs fs s t) (f : Jtag → Jtag) (hp : .jtag ∈ ps) : Touches ps gs fs s (t.modJtag f) :=
  h.put_jtag _ hp

theorem Touches.modSns (h : Touches ps gs fs s t) (f : Sns → Sns) (hp : .sns ∈ ps) : Touches ps gs fs s (t.modSns f) :=
  h.put_sns _ hp

theorem Touches.modRx (h : Touches ps gs fs s t) (f : SpdRx → SpdRx) (hp : .spdRx ∈ ps) : Touches ps gs fs s (t.modRx f) :=
  h.put_spdRx _ hp

theorem Touches.modTx (h : Touches ps gs fs s t) (f : SpdTx → SpdTx) (hp : .spdTx ∈ ps) : Touches ps gs fs s (t.modTx f) :=
  h.put_spdTx _ hp

theorem Touches.modSpk (h : Touches ps gs fs s t) (n : Nat) (f : Spk → Spk) (hp : .spk ∈ ps) : Touches ps gs fs s (t.modSpk n f) :=
  h.put_spk _ hp

theorem Touches.modTrk (h : Touches ps gs fs s t) (k : Nat) (f : Trk → Trk) (hp : .trk ∈ ps) : Touches ps gs fs s (t.modTrk k f) :=
  h.put_trk _ hp

theorem Touches.modMains (h : Touches ps gs fs s t) (f : Mains → Mains) (hp : .mains ∈ ps) : Touches ps gs fs s (t.modMains f) :=
  h.put_mains _ hp

theorem Touches.modUsb (h : Touches ps gs fs s t) (f : Usb → Usb) (hp : .usb ∈ ps) : Touches ps gs fs s (t.modUsb f) :=
  h.put_usb _ hp

theorem Touches.modOut (h : Touches ps gs fs s t) (j : Nat) (f : UsbOut → UsbOut) (hp : .usb ∈ ps) : Touches ps gs fs s (t.modOut j f) :=
  h.put_usb _ hp

theorem Touches.modIn (h : Touches ps gs fs s t) (j : Nat) (f : UsbIn → UsbIn) (hp : .usb ∈ ps) : Touches ps gs fs s (t.modIn j f) :=
  h.put_usb _ hp

end Sys2Proof.Machine
end

