-- ==== Sys2Proof/WellFormed.lean ====
section
/-! DEFINITION. Well-formed commands: operands in the ranges that the wire or the measurement can give. -/

namespace Sys2Proof

/-- Bytes of a transfer. -/
def bytesOk (bs : List Nat) : Bool := bs.all (fun b => decide (b < 256))

/-- An unfinished bus transaction: its command byte and the bytes after it. -/
def cutOk (cut : Option (Nat × List Nat)) : Bool :=
  match cut with
  | none => true
  | some (cmd, bytes) => decide (cmd < 256) && bytesOk bytes

/-- Words of one bank in error: place in the bank and seven-bit syndrome. -/
def copyOk (found : List (Nat × Nat × SramItem)) : Bool :=
  found.all (fun e => decide (e.1 < 16384) && decide (e.2.1 < 128))

/-- Retained words in error: bank, place in the bank, syndrome. -/
def keptOk (found : List (Nat × Nat × Nat)) : Bool :=
  found.all (fun e => decide (e.1 < 32) && decide (e.2.1 < 16384) && decide (e.2.2 < 128))

/-- Are a command's operands ones that the outside world can bring? First the commands with an operand wider than its range, then,
file by file of their meanings, those whose operands' types already say it. -/
def Instr.wf : Instr → Bool
  | .pgoodFall status => decide (status < 65536)
  | .engineFrame inputs residues => inputs.all (fun e => decide (e.1 < 0x11C)) && residues.all (fun e => decide (e.1 < 13) && decide (e.2.1 < 48))
  | .regWrite _ _ words => decide (words ≠ []) && decide (words.length ≤ 1024)
  | .jackIdMeasure _ ratio | .jackButtonChange _ ratio => decide (ratio ≤ 65536)
  | .sapFrameEdge _ bclks line => decide (line.length ≤ bclks + 1)
  | .spdifRxFrame f => decide (f.a.data < 2 ^ 24) && decide (f.b.data < 2 ^ 24)
  | .usbGetDescriptor type index length => decide (type < 256) && decide (index < 256) && decide (length < 65536)
  | .usbSetInterface _ alt => decide (alt < 256)
  | .usbSetReport id value => decide (id < 256) && decide (value < 256)
  | .usbOutPacket _ data | .vreqRegWrite _ _ data | .vreqRegRmw _ _ data | .vreqImageBegin data | .vreqSnapRead data => bytesOk data
  | .vreqUnknown request => decide (request < 256)
  | .usbImageBulk bytes | .smbWriteBlock bytes | .smbReadBlock bytes | .smbRmw bytes => bytesOk bytes
  | .lstSample mics => mics.all (fun e => decide (e.1 < 16))
  | .pwrQuiesceTimeout silent _ found => decide (silent < 2 ^ 30) && keptOk found
  | .pwrEntryComplete cut | .smbSclTimeout cut | .smbSdaRelease cut => cutOk cut
  | .pwrWakeSource code => decide (1 ≤ code) && decide (code ≤ 11)
  | .pwrWakeComplete _ _ plls found _ _ => decide (plls < 8) && keptOk found
  | .pmbLinkStart why mode vout => decide (why < 4) && decide (mode < 256) && decide (vout < 65536)
  | .pmbSettleExpire vout | .pmbRequestAck vout => decide (vout < 65536)
  | .pmbRequestFail status why => decide (status < 65536) && decide (why < 3)
  | .memSkimVisit _ syn _ => decide (syn < 128)
  | .rowRemapDone _ found | .migrateDone _ found => copyOk found
  | .smbBadCommand cmd | .smbDeepMatch cmd => decide (cmd < 256)
  | .smbOtherAddress a => decide (a < 256)
  | .ageingMeasure slow => decide (slow.length = 14)
  | .flashBoot a b => decide (a.length ≤ 65536) && decide (b.length ≤ 65536)
  | .usbSetConfiguration c => decide (c < 256)
  | .powerOnReset .. | .resetNPulse | .requiredRailLoss | .aonvddLoss | .optionalRailGood .. | .coldStart ..
    | .vholdReady | .wakeNLow .. | .lcyFuseDone .. => true
  | .micPrivacyAssert | .micPrivacyRelease | .freezeBallHigh .. | .freezeTakeHold => true
  | .mainsSyncEdge .. | .mainsInvalidTimeout | .xtalFail | .xtalReturn | .pllLock .. | .pllUnlock .. | .pllRelockFail ..
    | .pllRelockRetry .. | .pllStopTimeout .. => true
  | .fllLock | .feChangeStop | .takeoverSpareLocked .. | .takeoverAligned | .takeoverAlignTimeout | .takeoverSwitchDone ..
    | .takeoverWindowDone | .pllHealthTestDone .. | .fllUnlock => true
  | .trackerEdge .. | .trackerWindowEnd .. | .trackerStop .. | .trackerRateChange .. | .acquisitionTimeout ..
    | .trackerEndpointOff .. | .spdifSyncHoldEnd | .spdifPcmReturn | .spdifTxFrame => true
  | .usbSof .. | .usbSetSamplingFreq .. | .usbFuSetCur .. | .usbSetFeatureRwake | .usbPacketMissing ..
    | .usbStreamStop .. | .usbInPacket .. | .usbFeedbackIn .. | .usbHidPoll => true
  | .usbHistoryIn | .usbL1Token .. | .usbL1Exit | .usbRemoteWake | .usbSetAddress .. | .usbForcedReconnect
    | .usbRwakeIdleWaitEnd | .usbPhyPllLock | .usbPhyPllLockTimeout => true
  | .bellowsTick .. | .pvddCrit | .collapseRestart | .jackEdge .. | .jackBiasOvercurrent .. | .sapQuiesceTimeout ..
    | .usbVbusValid | .usbDisconnect .. | .usbBusReset .. | .usbSuspend | .usbResume | .vadOnset | .spotDetection
    | .pwrWakeTimerExpire => true
  | .opLower | .thermalTripEnd | .overbudgetFault | .coldPeriodEnd | .pvddWarn | .pvddWarnEnd | .snsIntEntryDone .. => true
  | .pgErrClr .. | .dbgViolClear .. | .usbEnableWrite .. | .usbCfgWrite .. | .usbHistStartWrite .. | .usbHistStopWrite ..
    | .usbWakeNow .. | .usbCntClr .. | .lstEnableWrite .. | .lstDisarm .. | .lstClrCounts .. | .lstModelBegin .. => true
  | .lstModelWinWrite .. | .lstModelEnd .. | .snsRunWrite .. | .snsSwTrig .. | .snsAbort .. | .snsUrgentStart ..
    | .snsResultRead .. | .snsDroneWrite .. | .snsPpWrite .. | .snsDiagStart .. | .snsCntClr .. | .pwrGo .. => true
  | .pwrCancel .. | .pwrAcctClr .. | .pmbCmdReadNow .. | .pmbCmdClearFaults .. | .pmbCntClr .. | .blwConfigWrite ..
    | .blwCold .. | .blwClrCounts .. | .memWipeReq .. | .memClrTrack .. | .memClrCounts .. | .smbRecRetry .. => true
  | .smbCntClr .. | .mntPostStart .. | .mntCntClr .. | .dbgFreezeReq .. | .dbgFreezeResume .. | .dbgCntClr ..
    | .lcyCheckToken .. | .lcyCheckUnlock .. | .lcyTransition .. | .lcyOtpProg .. | .lcyOtpRead .. | .sysSwReset .. => true
  | .ainModeWrite .. | .ainFmtWrite .. | .ainPairEnableWrite .. | .ainMuteWrite .. | .ainCalNow .. | .ainPgaWrite ..
    | .ainDcHpfWrite .. | .ainClrCount .. | .micbiasCtrlWrite .. | .beepCtrlWrite .. | .auxSubstStart .. => true
  | .auxSubstAbort .. | .aoutEnWrite .. | .aoutFmtWrite .. | .aopHpModeWrite .. | .aoutMuteWrite .. | .aoutVolWrite ..
    | .jckCpForceOnWrite .. | .jckCpRetry .. | .jckSubstStart .. | .jckSubstAbort .. | .jckImpMeasure .. => true
  | .jckBiasWrite .. | .jckClrCount .. | .spkEnWrite .. | .spkFmtWrite .. | .spkMuteWrite .. | .spkVolWrite ..
    | .spkPwmWrite .. | .spkCeilRatedWrite .. | .spkGuardCtrlWrite .. | .spkGuardReseed .. => true
  | .ainStart .. | .ainRunning .. | .ainCalDone .. | .ainPgaStep .. | .ainOverloadReset .. | .ainOverloadEnd ..
    | .ainRecoveryEnd .. | .micbiasReady .. => true
  | .micbiasOvercurrent .. | .vrefaReady | .vrefaNotReady | .sliceStuckBit .. | .adcShadowWindowEnd .. | .adcSubstDone ..
    | .ainStopDone .. => true
  | .aoutStart .. | .aoutRunning .. | .cpStopTimeout | .aoutIlimFault .. | .dacElementError .. | .cpOvercurrent
    | .cpUndervoltage | .vrefbReady | .vrefbNotReady | .dacShadowWindowEnd .. | .dacSubstDone .. | .aoutStopDone .. => true
  | .jackDebounceExpire .. | .jackImpedanceDone .. | .jackBiasReady .. => true
  | .spkStart .. | .spkRunning .. | .spkGuardUpdate .. | .spkResistanceBlock .. | .spkOvercurrent .. | .spkOcRetry ..
    | .spkCbcFault .. | .spkDcFault .. | .spkOtWarn .. => true
  | .spkOtFault .. | .spkOtRecover .. | .spkPvddUv .. | .spkUvRecover .. | .spkPvddOv .. | .spkOvRecover ..
    | .spkSenseFault .. | .spkSenseRecover .. | .spkStopDone .. => true
  | .laneEnableWrite .. | .laneSrcWrite .. | .laneOutWrite .. | .laneMarginWrite .. | .laneTrimWrite ..
    | .laneInvertWrite .. | .laneMuteWrite .. | .laneDcbWrite .. | .laneHumWrite .. | .laneCoefCommit ..
    | .laneDynWrite .. | .laneDelayWrite .. | .laneMeterWinWrite .. => true
  | .laneClrHold .. | .laneCntClr .. | .chnCommit .. | .chnRevert .. | .chnClrCounts .. | .fifCommit ..
    | .sapEnableWrite .. | .sapReconfigWrite .. | .sapMaskWrite .. | .sapIdleHizWrite .. | .sapMclkWrite ..
    | .sapCntClr .. | .pdmGroupChange .. => true
  | .pdmMicEnWrite .. | .pdmEnableWrite .. | .spdRxCtrlWrite .. | .spdTxEnWrite .. | .spdTxRateWrite ..
    | .spdPassWrite .. | .spdCntClr .. | .clkEngineFeWrite .. | .clkTakeoverStart .. | .clkTakeoverAbort ..
    | .clkTrkClr .. => true
  | .laneStart .. | .laneRunning .. | .laneCapAdmit .. | .laneCommitDone .. | .laneDelayXfadeEnd .. => true
  | .laneMeterWindowEnd .. => true
  | .chnCommitCopy => true
  | .fifGainStep => true
  | .sapMaskApply .. => true
  | .pdmGroupReady .. | .pdmMicAbsent .. | .pdmMicPresent .. => true
  | .vreqRegRead .. | .vreqStatus | .vreqImageStatus | .vreqHistStart | .vreqHistStop | .usbSnapshotIn => true
  | .usbImageTimeout | .imageCheck => true
  | .lstStart | .lstSuppressEnd | .lstFrame | .vadHangExpire | .lstDeferTimeout | .lstStopChange | .lstArmTimeout
    | .lstModelCheckDone => true
  | .snsHwTrigger | .snsReedConvDone .. | .snsRunDone | .snsDiagDone .. | .adcSliceTestDone .. | .dacSliceTestDone .. => true
  | .pmbVoutRequest | .pmbBackoffEnd => true
  | .memHardFault | .memBankLapEnd .. | .memOverallLapEnd .. => true
  | .wipeDone => true
  | .smbStatus | .jtagRegAccess .. | .jtagSnapshot .. | .jtagFreezeCtl .. | .jtagExtest .. | .jtagSamplePreload ..
    | .jtagTestLogicReset => true
  | .smbWake | .hostNotifyEval .. | .hostNotifyDone | .hnArbLoss | .hnNack | .hnRetryExpire | .busStuckDetect ..
    | .busRecoveryTry .. | .busStuckClear .. => true
  | .rotationStep | .jobEnd | .macSubstSwitch | .spareBankTestDone .. => true
  | .lcyCheckDone | .otpAccessDone .. => true
  | .imgWrite | .imgRmw | .imgWait | .imgWaitPoll | .imgDelay | .imgDelayExpire | .imgCommit | .imgCommitComplete ..
    | .imgEnd => true

end Sys2Proof
end

