-- ==== Sys2Proof/Tests/Slice0.lean ====
section
/-! SUPPORT. Tests: ill-formed commands are refused; worked examples of the spec; one step on small states; and for every statement a
state and operands that meet all its hypotheses. -/

section

set_option maxRecDepth 4000
set_option Elab.async false

open Sys2Proof Sys2Proof.Machine

/-! ## Well-formedness: a term that each check refuses -/

theorem test_wf_refuses_pgood_status : (Instr.pgoodFall 65536).wf = false := by decide
theorem test_wf_refuses_frame_input : (Instr.engineFrame [(0x11C, 0)] []).wf = false := by decide
theorem test_wf_refuses_frame_residue : (Instr.engineFrame [] [(13, 0, true)]).wf = false := by decide
theorem test_wf_refuses_frame_residue_lane : (Instr.engineFrame [] [(0, 48, true)]).wf = false := by decide
theorem test_wf_refuses_listening_mic : (Instr.lstSample [(16, 0)]).wf = false := by decide
theorem test_wf_refuses_cut_command : (Instr.pwrEntryComplete (some (256, []))).wf = false := by decide
theorem test_wf_refuses_cut_byte : (Instr.smbSclTimeout (some (0x20, [256]))).wf = false := by decide
theorem test_wf_refuses_sda_cut : (Instr.smbSdaRelease (some (0x20, [256]))).wf = false := by decide
theorem test_wf_refuses_wake_code : (Instr.pwrWakeSource 12).wf = false := by decide
theorem test_wf_refuses_vout_mode : (Instr.pmbLinkStart 0 256 0).wf = false ∧ (Instr.pmbLinkStart 4 0 0).wf = false := by decide
theorem test_wf_refuses_settle_vout : (Instr.pmbSettleExpire 65536).wf = false := by decide
theorem test_wf_refuses_ack_vout : (Instr.pmbRequestAck 65536).wf = false := by decide
theorem test_wf_refuses_fail_reason : (Instr.pmbRequestFail 0 3).wf = false := by decide
theorem test_wf_refuses_write_byte : (Instr.smbWriteBlock [256]).wf = false := by decide
theorem test_wf_refuses_read_byte : (Instr.smbReadBlock [256]).wf = false := by decide
theorem test_wf_refuses_rmw_byte : (Instr.smbRmw [256]).wf = false := by decide
theorem test_wf_refuses_command_byte : (Instr.smbBadCommand 256).wf = false := by decide
theorem test_wf_refuses_address : (Instr.smbOtherAddress 256).wf = false := by decide
theorem test_wf_refuses_deep_command : (Instr.smbDeepMatch 256).wf = false := by decide
theorem test_wf_refuses_ageing : (Instr.ageingMeasure [1]).wf = false := by decide
theorem test_wf_refuses_configuration : (Instr.usbSetConfiguration 256).wf = false := by decide
theorem test_wf_refuses_no_words : (Instr.regWrite 0 0 []).wf = false := by decide
theorem test_wf_refuses_many_words : (Instr.regWrite 0 0 (List.replicate 1025 0)).wf = false := by decide +kernel
theorem test_wf_refuses_jack_ratio : (Instr.jackIdMeasure 0 65537).wf = false ∧ (Instr.jackButtonChange 0 65537).wf = false := by
  decide
theorem test_wf_refuses_line : (Instr.sapFrameEdge 0 1 [true, true, true]).wf = false := by decide
theorem test_wf_refuses_subframe : (Instr.spdifRxFrame ⟨⟨0, false, false, false, false, false⟩, ⟨2 ^ 24, false, false, false, false, false⟩, false⟩).wf =
    false := by decide
theorem test_wf_refuses_setup : (Instr.usbGetDescriptor 1 256 18).wf = false ∧ (Instr.usbSetInterface 0 256).wf = false ∧
    (Instr.usbSetReport 3 256).wf = false ∧ (Instr.vreqUnknown 256).wf = false := by decide
theorem test_wf_refuses_usb_byte : (Instr.usbOutPacket 0 [256]).wf = false ∧ (Instr.vreqRegWrite 0 0 [256]).wf = false ∧
    (Instr.vreqRegRmw 0 0 [256]).wf = false ∧ (Instr.vreqImageBegin [256]).wf = false ∧ (Instr.vreqSnapRead [256]).wf = false ∧
    (Instr.usbImageBulk [256]).wf = false := by decide
theorem test_wf_refuses_kept_word : (Instr.pwrQuiesceTimeout 0 0 [(32, 0, 0)]).wf = false ∧
    (Instr.pwrWakeComplete 0 0 8 [] 0 true).wf = false := by decide
theorem test_wf_refuses_syndrome : (Instr.memSkimVisit 0 128 .unused).wf = false ∧ (Instr.rowRemapDone 0 [(0, 128, .unused)]).wf = false ∧
    (Instr.migrateDone 0 [(16384, 0, .unused)]).wf = false := by decide
theorem test_wf_refuses_slot : (Instr.flashBoot [] (List.replicate 65537 0)).wf = false := by decide +kernel

/-! ## No word spells a command -/

theorem test_no_word_decodes : decodeTableWord 32 0x2400B4 = none := rfl
theorem test_reset_queue_empty : State.reset.pending = [] := rfl

/-! ## Worked examples of the spec -/

/-- The example under R55: LANE17_SRC at 0x1_0440. -/
theorem test_addr_lane_src : A.LANE_SRC 17 = 0x10440 := rfl
/-- The example of R104's table: AIN13_FMT at 0x58C8. -/
theorem test_addr_ain_fmt : A.AIN_FMT 13 = 0x58C8 := rfl
/-- The example under R137's table: AOUT5_VOL at 0x6CC8. -/
theorem test_addr_aout_vol : A.AOUT_VOL 5 = 0x6CC8 := rfl
/-- The example under R216: FIF_GAIN3 at 0x388C. -/
theorem test_addr_fif_gain : A.FIF_GAIN 3 = 0x388C := rfl
/-- The example under R221: sink 62 at 0x3DC0. -/
theorem test_addr_sink : A.CHN_SINK 62 = 0x3DC0 := rfl
/-- The example of R59: PG_ID of page 0x41. -/
theorem test_pg_id : State.reset.readReg (0x41 * 0x400) = 0x18111040#32 := by decide +kernel
/-- R2. -/
theorem test_sys_id : State.reset.readReg 0x40 = 0x0F4848A0#32 := by decide +kernel
/-- The example of R509: ties to even. -/
theorem test_ties_to_even : [divRne 5 2, divRne 7 2, divRne (-5) 2, divRne (-7) 2] = [2, 4, -2, -4] := by decide
/-- The example of R11: −6 dB and unity gain. -/
theorem test_gain_codes : gainDb16 0xBA0 = some (-96) ∧ gainDb16 0xC00 = some 0 ∧ gainDb16 0 = none := by decide
/-- The example of R186: 5,000 frames take 14 blocks. -/
theorem test_delay_blocks : delayBlocks 5000 = 14 := by decide
/-- The example of R176: 520 words take 1 pool block beyond the lane's own 512. -/
theorem test_pool_blocks : poolBlocks (520 - 512) = 1 := by decide
/-- The example of R435: the PEC of WAKE to 0x5A. -/
theorem test_pec : crc8 [0xB4] = 0x05 ∧ crc8 [0xB4, 0x24] = 0xE7 := by decide
/-- The check value of the CRC-32 that R423 names. -/
theorem test_crc32 : crc32 [0x31, 0x32, 0x33, 0x34, 0x35, 0x36, 0x37, 0x38, 0x39] = 0xCBF43926 := by decide +kernel
/-- The digest of "abc" in the standard that R472 names. -/
theorem test_sha256 : sha256 [0x61, 0x62, 0x63] = [0xBA7816BF#32, 0x8F01CFEA#32, 0x414140DE#32, 0x5DAE2223#32, 0xB00361A3#32,
    0x96177A9C#32, 0xB410FF61#32, 0xF20015AD#32] := by decide +kernel
/-- The example of R268: 48 kHz, W = 24. -/
theorem test_fdiv : (fdivRun 4096 96 128) = (0, [128, 86, 43]) := by decide +kernel
/-- The example of R292: 16 channels at 192 kHz in 3-byte subslots. -/
theorem test_packet : maxPacketField true (packetBytes 16 3 192000 8000) = 0x0A58 := by decide
/-- R38 and R40: SPI_CS_N has a pull-up in reset, is high when isolated, and has no pull in OFF. -/
theorem test_ball : [Ball.spiCsN.reset, Ball.spiCsN.isolation false, Ball.spiCsN.off] = [.zu, .high, .z] := by decide
/-- The image of R486 and R487 with END alone: LENGTH 24 passes, and 20 does not. -/
theorem test_image_header : (imageCheck [0x4D4C4A48#32, 1#32, 20#32, 0#32, 0#32] none).1 = 4 ∧
    (imageCheck [0x4D4C4A49#32, 1#32, 24#32, 0#32, 0xF#32, 0#32] none).1 = 2 ∧
    (imageCheck [0xFFFFFFFF#32] none).1 = 1 := by decide +kernel

/-! ## One step on a small state -/

/-- What a state with one command in its queue is after a step. -/
def after (s : State) (c : Instr) : State :=
  match step { s with pending := [c] } with
  | .next t => t
  | _ => s

/-- The queue gives up its first command only. -/
theorem test_step_takes_one : (match step { State.reset with pending := [.imgEnd, .resetNPulse] } with
    | .next t => t.pending | _ => []) = [.resetNPulse] := by decide +kernel

/-- The READ_BLOCK example of R435: four words from 0x1_7CF8, the third unimplemented. -/
theorem test_read_block_reply : ((after State.reset (.smbReadBlock [4, 0xF8, 0x7C, 0x01, 4])).smb.reply.take 2) = [0x11, 0x01] ∧
    (after State.reset (.smbReadBlock [4, 0xF8, 0x7C, 0x01, 4])).smb.reply.length = 18 := by decide +kernel
/-- What the example of R74 says the log then shows. -/
theorem test_read_block_log : (after State.reset (.smbReadBlock [4, 0xF8, 0x7C, 0x01, 4])).reg A.DBG_VIOL_LAST_ADDR = 0x17D00#32 ∧
    (after State.reset (.smbReadBlock [4, 0xF8, 0x7C, 0x01, 4])).get (F.PG_LAST_VIOL 0x5F) = 1 := by decide +kernel
/-- A write of an all-RO register is refused (R8). -/
theorem test_write_ro : (after State.reset (.regWrite 0 0x40 [1#32])).readReg 0x40 = 0x0F4848A0#32 ∧
    (after State.reset (.regWrite 0 0x40 [1#32])).get (F.PG_LAST_VIOL 0) = 2 := by decide +kernel
/-- A write of interrupt enables is held, reserved bits dropped (R7, R64). -/
theorem test_write_irq_en : (after State.reset (.regWrite 1 0x10 [0xFFFFFFFF#32])).reg 0x10 = 3#32 := by decide +kernel
/-- BOOT_SEL level 1 sends the loader to the flash (R483). -/
theorem test_boot_flash : ({ State.reset with boot := .start 1 }.coldStart 2 1 false true false false true true true true).ldr.st =
    .flash := by decide +kernel
/-- RESET_N leaves the hub in reset with its cause kept (R42). -/
theorem test_reset_pulse : (after State.reset .resetNPulse).boot = .start 1 := by decide +kernel
/-- A PRIVACY assertion reaches the inputs' status (R95). -/
theorem test_privacy : (after State.reset .micPrivacyAssert).pins.privacy = true := by decide +kernel
/-- A command outside its state changes nothing: no record is in force (R487). -/
theorem test_no_record : (after (State.reset.set F.SMB_LAST_STATUS 8) .imgEnd).get F.SMB_LAST_STATUS = 8 := by decide +kernel
/-- A record of an image runs with initiator code 2 (R490): END reports STATE 2. -/
theorem test_img_end : (after { State.reset with sram := [(425988, 0xF#32)], ldr := { State.reset.ldr with st := .run, source := 1, pos := 16 } }
    .imgEnd).reg A.SYS_SCRATCH = 0x21000000#32 := by decide +kernel
/-- An undefined command code sets BAD_CMD (R434). -/
theorem test_bad_command : (after State.reset (.smbBadCommand 0x25)).get F.SMB_FLAGS_BAD_CMD = 1 := by decide +kernel
/-- JTAG reads SYS_ID with DONE set (R467): DR word 0x40 << 32. -/
theorem test_jtag_read : (after State.reset (.jtagRegAccess 0x00004000000000#56)).jtag.result = 2 ^ 37 + 0x0F4848A0 := by decide +kernel

/-! ## For every statement: a state and operands that meet its hypotheses -/

theorem test_meets_StepTakesFront : ({ State.reset with pending := [.resetNPulse, .imgEnd] } : State).pending = .resetNPulse :: [.imgEnd] ∧ State.reset.pending = [] := by decide +kernel

theorem test_meets_StepDrivesIrq : let s : State := { State.reset with pending := [.imgEnd] }; ((s.mgmtRuns = true → s.domState ≤ 2 → s.pins.irqLow = decide (s.notifyWord ≠ 0)) ∧ (match step s with | .next _ => true | _ => false) = true) := by decide +kernel

theorem test_meets_StepKeepsMemory : let s : State := { State.reset with pending := [.imgEnd], sram := [(5, 1#32), (9, 2#32)] }; (canonical regReset s.regs = true ∧ Memory.wf s.sram = true ∧ (match step s with | .next _ => true | _ => false) = true) := by decide +kernel

theorem test_meets_UnknownSmbCommand : let cmd : Nat := 0x25; let s : State := State.reset.set F.SMB_LAST_STATUS 2; (s.smbServes = true) ∧ (cmd < 0x20 ∨ 0x24 < cmd) := by decide +kernel

theorem test_meets_AnalogueInputWrites :
    (let ini : Fin 5 := 0; let n : Fin 16 := 3; let w : Word := 2#32; let s : State := State.reset.set (F.PG_ENABLE 0x11) 1; (s.mayWrite ini (A.AIN_CTRL n) w = true) ∧ ((s.adcSub (ainGroup n)).all (fun x => decide (x.unit ≠ n.val)) = true)) ∧
    (let ini : Fin 5 := 1; let n : Fin 16 := 15; let w : Word := 0x68#32; let s : State := ((State.reset.set (F.PG_ENABLE 0x17) 1).set (F.AIN_CTRL_MODE 15) 2).ainBegin 15 |>.ainPhase 15 .running; (s.mayWrite ini (A.AIN_FMT n) w = true) ∧ ((s.adcSub (ainGroup n)).all (fun x => decide (x.unit ≠ n.val)) = true) ∧ ((s.ainAt n).phase = .running) ∧ (s.get (F.AIN_FMT_RATE n) ≠ bits w 0 4 ∨ s.get (F.AIN_FMT_FILTER n) ≠ bits w 4 2)) ∧
    (let ini : Fin 5 := 0; let n : Fin 16 := 3; let w : Word := 0x68#32; let x : Subst := ⟨3, 16, 0, false, true, 0, 0, 0, 0, 0⟩; let s : State := (State.reset.ainPhase 3 .running).setAdcSub 0 (some ⟨3, 16, 0, false, true, 0, 0, 0, 0, 0⟩); (s.mayWrite ini (A.AIN_FMT n) w = true) ∧ (s.adcSub (ainGroup n) = some x) ∧ (x.unit = n.val) ∧ (x.crossfade = true) ∧ ((s.ainAt n).phase = .running) ∧ (s.get (F.AIN_FMT_RATE n) ≠ bits w 0 4 ∨ s.get (F.AIN_FMT_FILTER n) ≠ bits w 4 2)) ∧
    (let ini : Fin 5 := 3; let k : Fin 8 := 7; let w : Word := 1#32; let s : State := State.reset.set (F.AIN_CTRL_MODE 15) 2; (s.mayWrite ini ((0x10 + k.val) * 0x400 + 4) w = true) ∧ (s.islandOn .ain = true) ∧ (s.get (F.PG_ENABLE (0x10 + k.val)) ≠ bits w 0 1)) ∧
    (let ini : Fin 5 := 0; let n : Fin 16 := 0; let w : Word := 0x81#32; let s : State := (State.reset.set (F.AIN_CTRL_MODE 0) 1).ainPhase 0 .running; (s.mayWrite ini (A.AIN_CTRL n) w = true) ∧ ((s.ainAt n).phase = .running) ∧ (s.get (F.AIN_CTRL_MODE n) = bits w 0 2) ∧ (bits w 6 1 = 0)) ∧
    (let ini : Fin 5 := 0; let n : Fin 16 := 9; let w : Word := 0x1#32; let s : State := (State.reset.set (F.AIN_CTRL_MODE 9) 1).ainPhase 9 .running; (s.mayWrite ini (A.AIN_CTRL n) (w ||| 0x40#32) = true) ∧ (s.get (F.AIN_CTRL_MODE n) = bits w 0 2)) ∧
    (let ini : Fin 5 := 2; let n : Fin 16 := 4; let w : Word := 60#32; let s : State := State.reset; (s.mayWrite ini (A.AIN_PGA n) w = true)) ∧
    (let ini : Fin 5 := 0; let n : Fin 16 := 4; let w : Word := 0xC6#32; let s : State := State.reset; (s.mayWrite ini (A.AIN_FMT n) w = true) ∧ (s.get (F.AIN_FMT_RATE n) = bits w 0 4) ∧ (s.get (F.AIN_FMT_FILTER n) = bits w 4 2)) ∧
    (let ini : Fin 5 := 0; let n : Fin 16 := 4; let w : Word := 0x10000#32; let s : State := State.reset.setReg (A.AIN_CLIP 4) 0x10007#32; (s.mayWrite ini (A.AIN_CLIP n) (w ||| 0x20000#32) = true)) := by
  and_intros <;> decide +kernel

theorem test_meets_AnalogueInputEvents :
    (let n : Fin 16 := 5; let s : State := (((State.reset.set F.AUX_VREF_STATUS_VREFA_READY 1).set (F.PG_ENABLE 0x12) 1).set (F.AIN_CTRL_MODE 5) 2).ainBegin 5; (s.clocked .ain = true) ∧ ((s.ainAt n).phase = .powerUp) ∧ ((s.ainAt n).reconf = false)) ∧
    (let n : Fin 16 := 6; let s : State := State.reset.ainPhase 6 .unmuting; (s.clocked .ain = true) ∧ ((s.ainAt n).phase = .unmuting)) ∧
    (let n : Fin 16 := 15; let s : State := State.reset.ainPhase 15 .calibrating; (s.clocked .ain = true) ∧ ((s.ainAt n).phase = .calibrating)) ∧
    (let n : Fin 16 := 0; let s : State := State.reset.ainPhase 0 .muteToOff; (s.clocked .ain = true) ∧ ((s.ainAt n).phase = .muteToOff) ∧ (s.fifSilent n = true) ∧ (s.get (F.AIN_CTRL_MODE n) = 0)) ∧
    (let n : Fin 16 := 2; let s : State := ((State.reset.modAin 2 (fun a => { a with phase := .running, mode := 1 })).set (F.AIN_PGA_GAIN 2) 7); (s.clocked .ain = true) ∧ ((s.ainAt n).phase ≠ .off) ∧ ((s.ainAt n).mode = 1)) := by
  and_intros <;> decide +kernel

theorem test_meets_AnalogueInputOverload :
    (let n : Fin 16 := 7; let s : State := State.reset.ainPhase 7 .running; (s.clocked .ain = true) ∧ ((s.ainAt n).phase ≠ .off) ∧ (s.adcSub (ainGroup n) = none)) ∧
    (let n : Fin 16 := 8; let s : State := State.reset.set (F.AIN_STATUS_OVL_NOW 8) 1; (s.clocked .ain = true) ∧ (s.on (F.AIN_STATUS_OVL_NOW n) = true)) ∧
    (let n : Fin 16 := 8; let s : State := State.reset.set (F.AIN_STATUS_RECOVERING 8) 1; (s.clocked .ain = true) ∧ (s.on (F.AIN_STATUS_RECOVERING n) = true)) ∧
    (let n : Fin 16 := 11; let s : State := State.reset.ainPhase 11 .running; (s.clocked .ain = true) ∧ ((s.ainAt n).phase ≠ .off) ∧ (s.on (F.AIN_STATUS_OVL_NOW n) = false)) := by
  and_intros <;> decide +kernel

theorem test_meets_MicBiasBeepAndVrefa :
    (let ini : Fin 5 := 0; let w : Word := 0x7001#32; let s : State := State.reset.set (F.PG_ENABLE 0x18) 1; (s.mayWrite ini A.AUX_MICBIAS_CTRL w = true)) ∧
    (let m : Fin 4 := 3; let s : State := State.reset.biasPhase 3 .rampUp; (s.clocked .ain = true) ∧ (s.biasAt m = .rampUp ∨ s.biasAt m = .rampLevel)) ∧
    (let m : Fin 4 := 3; let s : State := State.reset.biasPhase 3 .rampDown; (s.clocked .ain = true) ∧ (s.biasAt m = .rampDown)) ∧
    (let m : Fin 4 := 0; let s : State := State.reset.biasPhase 0 .on; (s.clocked .ain = true) ∧ (s.biasAt m ≠ .off) ∧ (s.biasAt m ≠ .latched)) ∧
    (let ini : Fin 5 := 0; let w : Word := 0x163#32; let s : State := State.reset.set (F.PG_ENABLE 0x18) 1; (s.mayWrite ini A.AUX_BEEP_CTRL w = true) ∧ (s.islandOn .ain = true) ∧ (s.on (F.PG_ENABLE 0x18) = true) ∧ (bits w 0 1 = 1) ∧ (s.beep.phase = .off)) ∧
    (let s : State := State.reset.ainPhase 4 .waitVref; (s.vrefaStarted = true) ∧ (s.on F.AUX_VREF_STATUS_VREFA_READY = false)) ∧
    (let s : State := State.reset; (s.vrefaStarted = true) ∧ (s.on F.AUX_VREF_STATUS_VREFA_READY = false)) := by
  and_intros <;> decide +kernel

theorem test_meets_AdcSubstitution :
    (let ini : Fin 5 := 0; let w : Word := 9#32; let s : State := State.reset; (s.mayWrite ini A.AUX_SUBST_REQ (w ||| 0x100#32) = true) ∧ (bits w 9 1 = 0) ∧ (s.freeSlot.isSome = true)) ∧
    (let g : Fin 2 := 1; let x : Subst := ⟨9, 17, 5, true, false, 0, 0, 0, 0, 0⟩; let ini : Fin 5 := 0; let w : Word := 0#32; let s : State := State.reset.setAdcSub 1 (some ⟨9, 17, 5, true, false, 0, 0, 0, 0, 0⟩); (s.adcSub g = some x) ∧ (s.mayWrite ini A.AUX_SUBST_REQ (w ||| 0x200#32) = true) ∧ (bits w 8 1 = 0)) ∧
    (let g : Fin 2 := 0; let level : Nat := 100; let gain : Int := 499; let offset : Int := -41943; let resid : Nat := 901; let x : Subst := ⟨3, 16, 0, false, false, 2, 0, 0, 0, 0⟩; let s : State := State.reset.setAdcSub 0 (some ⟨3, 16, 0, false, false, 2, 0, 0, 0, 0⟩); (s.clocked .ain = true) ∧ (s.adcSub g = some x) ∧ (x.crossfade = false) ∧ (x.fault = true ∨ (level < 600 ∧ -500 ≤ gain ∧ gain ≤ 500 ∧ -41943 ≤ offset ∧ offset ≤ 41943 ∧ 900 < resid))) ∧
    (let g : Fin 2 := 0; let resid : Nat := 900; let x : Subst := ⟨3, 16, 0, false, false, 1, 0, 0, 0, 0⟩; let s : State := State.reset.setAdcSub 0 (some ⟨3, 16, 0, false, false, 1, 0, 0, 0, 0⟩); (s.clocked .ain = true) ∧ (s.adcSub g = some x) ∧ (x.crossfade = false) ∧ (x.fault = false) ∧ (resid ≤ 900) ∧ (x.failed < 2)) ∧
    (let g : Fin 2 := 0; let x : Subst := ⟨3, 16, 0, false, true, 0, 0, 0, 0, 0⟩; let s : State := State.reset.setAdcSub 0 (some ⟨3, 16, 0, false, true, 0, 0, 0, 0, 0⟩); (s.clocked .ain = true) ∧ (s.adcSub g = some x) ∧ (x.crossfade = true) ∧ (x.unit < 16) ∧ (x.spare < 18) ∧ (s.ainSlice x.unit < 18) ∧ (s.ainSlice x.unit ≠ x.spare) ∧ (s.on (F.AIN_STATUS_FMT_PENDING x.unit) = false)) := by
  and_intros <;> decide +kernel

theorem test_meets_OutputWrites :
    (let ini : Fin 5 := 0; let c : Fin 8 := 7; let w : Word := 0x11#32; let s : State := State.reset.set (F.PG_ENABLE 0x1C) 1; (s.mayWrite ini (A.AOUT_CTRL c) w = true)) ∧
    (let ini : Fin 5 := 0; let c : Fin 8 := 0; let w : Word := 0x1#32; let s : State := State.reset.set (F.AOUT_CTRL_EN 0) 1; (s.mayWrite ini (pgAOP c * 0x400 + 4) w = true) ∧ (s.get (F.PG_ENABLE (pgAOP c)) ≠ bits w 0 1)) ∧
    (let ini : Fin 5 := 1; let c : Fin 8 := 3; let w : Word := 0x2B#32; let s : State := State.reset.aoutPhase 3 .running 0; (s.mayWrite ini (A.AOUT_FMT c) w = true) ∧ (s.dacSub (dacGroup c) = none) ∧ (s.get (F.AOUT_FMT_RATE c) ≠ bits w 0 4 ∨ s.get (F.AOUT_FMT_FILTER c) ≠ bits w 4 2)) ∧
    (let ini : Fin 5 := 3; let k : Fin 4 := 1; let w : Word := 0x1#32; let s : State := State.reset.aoutPhase 3 .running 0; (s.mayWrite ini (A.AOP_PAIR k) w = true) ∧ (s.dacSub (dacGroup (2 * k)) = none)) ∧
    (let ini : Fin 5 := 0; let c : Fin 8 := 5; let w : Word := 0x25#32; let s : State := ((State.reset.set (F.PG_ENABLE 0x1B) 1).set (F.AOUT_CTRL_EN 5) 1).modAout 5 (fun a => { a with phase := .running, pop := .at1 }); (s.mayWrite ini (A.AOUT_CTRL c) w = true) ∧ ((s.aoutAt c).phase = .running) ∧ (s.on (F.PG_ENABLE (pgAOP c)) = true) ∧ (bits w 0 1 = 1)) ∧
    (let ini : Fin 5 := 2; let c : Fin 8 := 6; let w : Word := 0xC10#32; let s : State := State.reset; (s.mayWrite ini (A.AOUT_VOL c) w = true)) := by
  and_intros <;> decide +kernel

theorem test_meets_OutputEvents :
    (let c : Fin 8 := 4; let s : State := (((State.reset.set F.JCK_CP_STATUS_READY 1).set F.JCK_VREFB_STATUS_READY 1).set F.JCK_HOLD_STATUS_VHOLD_OK 1).aoutPhase 4 .starting 0; (s.clocked .aout = true) ∧ ((s.aoutAt c).phase = .starting) ∧ (s.isQuiet (10 + c.val / 2) = false) ∧ (s.on F.JCK_CP_STATUS_READY = true) ∧ (s.on F.JCK_VREFB_STATUS_READY = true) ∧ (s.famUp (rateFamily (s.aoutAt c).rate) = true) ∧ (s.on F.JCK_HOLD_STATUS_VHOLD_OK = true)) ∧
    (let c : Fin 8 := 3; let s : State := State.reset.aoutPhase 3 .starting 0; (s.clocked .aout = true) ∧ ((s.aoutAt c).phase = .starting) ∧ (s.isQuiet (10 + c.val / 2) = false) ∧ (s.on F.JCK_CP_STATUS_READY = false)) ∧
    (let c : Fin 8 := 3; let s : State := { State.reset.aoutPhase 3 .starting 0 with quiet := [11] }; (s.clocked .aout = true) ∧ ((s.aoutAt c).phase = .starting) ∧ (s.isQuiet (10 + c.val / 2) = true)) ∧
    (let c : Fin 8 := 0; let s : State := State.reset.aoutPhase 0 .unmuting 0; (s.clocked .aout = true) ∧ ((s.aoutAt c).phase = .unmuting)) ∧
    (let c : Fin 8 := 2; let s : State := (State.reset.aoutPhase 2 .stopping 0).set F.JCK_CP_STATUS_READY 1; (s.clocked .aout = true) ∧ ((s.aoutAt c).phase = .stopping) ∧ (s.aoutAble c = false)) ∧
    (let c : Fin 8 := 7; let s : State := State.reset.aoutPhase 7 .running 0; (s.clocked .aout = true) ∧ ((s.aoutAt c).phase ≠ .off) ∧ ((s.aoutAt c).phase ≠ .fault) ∧ (s.dacSub (dacGroup c) = none)) ∧
    (let c : Fin 8 := 1; let s : State := State.reset.aoutPhase 1 .running 0; (s.clocked .aout = true) ∧ ((s.aoutAt c).phase ≠ .off)) := by
  and_intros <;> decide +kernel

theorem test_meets_ChargePumpAndVrefb :
    (let ini : Fin 5 := 0; let w : Word := 1#32; let s : State := State.reset; (s.mayWrite ini A.JCK_CP_CTRL w = true) ∧ (bits w 1 1 = 0)) ∧
    (let ini : Fin 5 := 0; let w : Word := 0#32; let s : State := { State.reset.aoutPhase 2 .waitPump 0 with cpFault := true }; (s.mayWrite ini A.JCK_CP_CTRL (w ||| 0x2#32) = true) ∧ (s.cpFault = true)) ∧
    (let s : State := { State.reset.set F.JCK_CP_STATUS_READY 1 with cpStop := true }; (s.cpStop = true)) ∧
    (let s : State := (State.reset.set F.JCK_CP_STATUS_READY 1).modAout 1 (fun a => { a with phase := .running, pop := .at1 }); (s.clocked .aout = true) ∧ (s.on F.JCK_CP_STATUS_READY = true)) ∧
    (let s : State := State.reset.set F.JCK_CP_STATUS_READY 1; (s.clocked .aout = true) ∧ (s.on F.JCK_CP_STATUS_READY = true)) ∧
    (let s : State := (State.reset.set (F.PG_FAULT 0x0D) 4).aoutPhase 6 .waitVref 0; (s.vrefbStarted = true) ∧ (s.on F.JCK_VREFB_STATUS_READY = false)) ∧
    (let s : State := State.reset; (s.vrefbStarted = true) ∧ (s.on F.JCK_VREFB_STATUS_READY = false)) := by
  and_intros <;> decide +kernel

theorem test_meets_HeadsetJacks :
    (let n : Fin 2 := 1; let high : Bool := true; let s : State := ((State.reset.set (F.PG_ENABLE 0x0D) 1).modJack 1 (fun j => { j with detHigh := false })).set (F.JCK_STATUS_STATE 1) 4; (s.clocked .aout = true) ∧ (s.on (F.PG_ENABLE 0x0D) = true) ∧ ((s.jackAt n).detHigh ≠ high) ∧ (s.get (F.JCK_CTRL_DET_MODE n) = 1 ∨ s.get (F.JCK_CTRL_DET_MODE n) = 2)) ∧
    (let n : Fin 2 := 0; let s : State := ((State.reset.modJack 0 (fun j => { j with detHigh := false })).set (F.JCK_STATUS_STATE 0) 1).set (F.JCK_CTRL_AUTO_ID 0) 0; (s.clocked .aout = true) ∧ (s.get (F.JCK_STATUS_STATE n) = 1)) ∧
    (let n : Fin 2 := 1; let s : State := (State.reset.set (F.JCK_STATUS_STATE 1) 2).set (F.JCK_STATUS_SWAP 1) 1; (s.clocked .aout = true) ∧ (s.get (F.JCK_STATUS_STATE n) = 2) ∧ ((s.jackAt n).bias ≠ .rampDown)) ∧
    (let n : Fin 2 := 0; let s : State := (State.reset.set (F.JCK_STATUS_STATE 0) 3).set (F.JCK_IMP_CTRL_BUSY 0) 1; (s.clocked .aout = true) ∧ (s.on (F.JCK_IMP_CTRL_BUSY n) = true)) ∧
    (let ini : Fin 5 := 0; let n : Fin 2 := 1; let w : Word := 0#32; let s : State := State.reset.set (F.JCK_STATUS_STATE 1) 4; (s.mayWrite ini (A.JCK_IMP_CTRL n) (w ||| 0x1#32) = true)) ∧
    (let n : Fin 2 := 0; let s : State := State.reset.jackBiasTo 0 .rampUp; (s.clocked .aout = true) ∧ ((s.jackAt n).bias = .rampUp ∨ (s.jackAt n).bias = .rampLevel ∨ (s.jackAt n).bias = .rampDown)) ∧
    (let n : Fin 2 := 1; let s : State := State.reset.jackBiasTo 1 .on; (s.clocked .aout = true) ∧ ((s.jackAt n).bias = .on ∨ (s.jackAt n).bias = .rampUp)) ∧
    (let ini : Fin 5 := 0; let n : Fin 2 := 0; let w : Word := 0xF#32; let s : State := (State.reset.set (F.JCK_STATUS_STATE 0) 5).set (F.PG_FAULT 0x0D) 3; (s.mayWrite ini (A.JCK_BIAS n) w = true)) ∧
    (let n : Fin 2 := 0; let ratio : Nat := 2047; let s : State := State.reset.set (F.JCK_STATUS_BIAS_READY 0) 1; (s.clocked .aout = true) ∧ (s.on (F.JCK_STATUS_BIAS_READY n) = true) ∧ (s.on (F.JCK_CTRL_BTN_EN n) = true) ∧ (s.jackButtonOf n ratio ≠ s.get (F.JCK_STATUS_BTN n))) ∧
    (let ini : Fin 5 := 0; let n : Fin 2 := 1; let w : Word := 0#32; let s : State := State.reset.set (F.JCK_COUNT_REMOVALS 1) 9; (s.mayWrite ini (A.JCK_EVENT n) (w ||| 0x1#32) = true)) := by
  and_intros <;> decide +kernel

theorem test_meets_DacSubstitution :
    (let ini : Fin 5 := 0; let w : Word := 7#32; let s : State := State.reset; (s.mayWrite ini A.JCK_SUBST_REQ (w ||| 0x100#32) = true) ∧ (bits w 9 1 = 0) ∧ (s.freeSlot.isSome = true)) ∧
    (let g : Fin 2 := 1; let x : Subst := ⟨5, 9, 5, true, false, 0, 0, 0, 0, 0⟩; let ini : Fin 5 := 0; let w : Word := 0#32; let s : State := State.reset.setDacSub 1 (some ⟨5, 9, 5, true, false, 0, 0, 0, 0, 0⟩); (s.dacSub g = some x) ∧ (s.mayWrite ini A.JCK_SUBST_REQ (w ||| 0x200#32) = true) ∧ (bits w 8 1 = 0)) ∧
    (let g : Fin 2 := 0; let level : Nat := 100; let gain : Int := 499; let offset : Int := -41943; let resid : Nat := 901; let x : Subst := ⟨3, 8, 0, false, false, 2, 0, 0, 0, 0⟩; let s : State := State.reset.setDacSub 0 (some ⟨3, 8, 0, false, false, 2, 0, 0, 0, 0⟩); (s.clocked .aout = true) ∧ (s.dacSub g = some x) ∧ (x.crossfade = false) ∧ (x.fault = true ∨ (level < 600 ∧ -500 ≤ gain ∧ gain ≤ 500 ∧ -41943 ≤ offset ∧ offset ≤ 41943 ∧ 900 < resid))) ∧
    (let g : Fin 2 := 0; let resid : Nat := 900; let x : Subst := ⟨3, 8, 0, false, false, 1, 0, 0, 0, 0⟩; let s : State := State.reset.setDacSub 0 (some ⟨3, 8, 0, false, false, 1, 0, 0, 0, 0⟩); (s.clocked .aout = true) ∧ (s.dacSub g = some x) ∧ (x.crossfade = false) ∧ (x.fault = false) ∧ (resid ≤ 900) ∧ (x.failed < 2)) ∧
    (let g : Fin 2 := 1; let x : Subst := ⟨7, 9, 0, false, true, 0, 0, 0, 0, 0⟩; let s : State := State.reset.setDacSub 1 (some ⟨7, 9, 0, false, true, 0, 0, 0, 0, 0⟩); (s.clocked .aout = true) ∧ (s.dacSub g = some x) ∧ (x.crossfade = true) ∧ (x.unit < 8) ∧ (x.spare < 10) ∧ (s.aoutSlice x.unit < 10) ∧ (s.aoutSlice x.unit ≠ x.spare) ∧ (s.on (F.AOUT_STATUS_FMT_PENDING x.unit) = false)) := by
  and_intros <;> decide +kernel

theorem test_meets_SpeakerWrites :
    (let ini : Fin 5 := 0; let n : Fin 4 := 2; let w : Word := 0x51#32; let s : State := State.reset.set (F.PG_ENABLE 0x1F) 1; (s.mayWrite ini (A.SPK_CTRL n) w = true)) ∧
    (let ini : Fin 5 := 0; let n : Fin 4 := 0; let w : Word := 0x1#32; let s : State := State.reset.set (F.SPK_CTRL_EN 0) 1; (s.mayWrite ini (pgSPK n * 0x400 + 4) w = true) ∧ (s.get (F.PG_ENABLE (pgSPK n)) ≠ bits w 0 1)) ∧
    (let ini : Fin 5 := 1; let n : Fin 4 := 3; let w : Word := 0x40A#32; let s : State := State.reset.spkPhase 3 .running 0; (s.mayWrite ini (A.SPK_FMT n) w = true) ∧ (s.get (F.SPK_FMT_RATE n) ≠ bits w 0 4 ∨ s.get (F.SPK_FMT_FILTER n) ≠ bits w 4 2 ∨ s.get (F.SPK_FMT_FS n) ≠ bits w 8 3)) ∧
    (let ini : Fin 5 := 0; let n : Fin 4 := 1; let w : Word := 0x55#32; let s : State := ((State.reset.set (F.PG_ENABLE 0x1E) 1).set (F.SPK_CTRL_EN 1) 1).modSpk 1 (fun a => { a with phase := .running, pop := .at1 }); (s.mayWrite ini (A.SPK_CTRL n) w = true) ∧ ((s.spkAt n).phase = .running) ∧ (s.on (F.PG_ENABLE (pgSPK n)) = true) ∧ (bits w 0 1 = 1)) ∧
    (let ini : Fin 5 := 2; let n : Fin 4 := 3; let w : Word := 0xBF0#32; let s : State := State.reset; (s.mayWrite ini (A.SPK_VOL n) w = true)) ∧
    (let ini : Fin 5 := 0; let n : Fin 4 := 0; let w : Word := 0x32#32; let s : State := State.reset; (s.mayWrite ini (A.SPK_PWM n) w = true)) ∧
    (let ini : Fin 5 := 0; let n : Fin 4 := 2; let w : Word := 0xFF00#32; let s : State := State.reset.set (F.SPK_CEIL_BELLOWS 2) 12; (s.mayWrite ini (A.SPK_CEIL n) w = true)) ∧
    (let ini : Fin 5 := 0; let n : Fin 4 := 0; let w : Word := 0x150F#32; let s : State := State.reset; (s.mayWrite ini (A.SPK_GUARD_CTRL n) w = true) ∧ (bits w 4 1 = 0)) ∧
    (let ini : Fin 5 := 0; let n : Fin 4 := 3; let w : Word := 0x140F#32; let s : State := State.reset; (s.mayWrite ini (A.SPK_GUARD_CTRL n) (w ||| 0x10#32) = true)) := by
  and_intros <;> decide +kernel

theorem test_meets_SpeakerStartAndStop :
    (let n : Fin 4 := 3; let s : State := ((State.reset.set (F.CLK_PLL_STATUS_STATE 0) 2).set F.JCK_HOLD_STATUS_VHOLD_OK 1).spkPhase 3 .waiting 0; (s.clocked (.spk n) = true) ∧ ((s.spkAt n).phase = .waiting) ∧ (s.spkClocks n = true) ∧ (s.pins.pvdd = true) ∧ (s.get (F.SPK_MEAS_P_PVDD n) = 0 ∨ (440 ≤ s.get (F.SPK_MEAS_P_PVDD n) ∧ s.get (F.SPK_MEAS_P_PVDD n) ≤ 2450)) ∧ (s.on F.JCK_HOLD_STATUS_VHOLD_OK = true) ∧ (s.collapsed = false)) ∧
    (let n : Fin 4 := 0; let s : State := (State.reset.set (F.CLK_PLL_STATUS_STATE 0) 0).spkPhase 0 .waiting 0; (s.clocked (.spk n) = true) ∧ ((s.spkAt n).phase = .waiting) ∧ (s.spkClocks n = false ∨ s.pins.pvdd = false ∨ (0 < s.get (F.SPK_MEAS_P_PVDD n) ∧ s.get (F.SPK_MEAS_P_PVDD n) < 440) ∨ 2450 < s.get (F.SPK_MEAS_P_PVDD n) ∨ s.on F.JCK_HOLD_STATUS_VHOLD_OK = false ∨ s.collapsed = true)) ∧
    (let n : Fin 4 := 1; let s : State := State.reset.spkPhase 1 .unmuting 0; (s.clocked (.spk n) = true) ∧ ((s.spkAt n).phase = .unmuting)) ∧
    (let n : Fin 4 := 2; let s : State := State.reset.spkPhase 2 .stopping 0; (s.clocked (.spk n) = true) ∧ (((s.spkAt n).phase = .stopping ∧ s.collapsed = false) ∨ ((s.spkAt n).phase = .faultStop ∧ s.collapsed = false) ∨ (s.spkAt n).phase = .uvRamp)) := by
  and_intros <;> decide +kernel

theorem test_meets_SpeakerFaults :
    (let n : Fin 4 := 1; let s : State := State.reset.spkPhase 1 .running 0; (s.clocked (.spk n) = true) ∧ (s.spkLive n = true)) ∧
    (let n : Fin 4 := 2; let s : State := (State.reset.modSpk 2 (fun a => { a with active := [1], phase := .fault })).set (F.SPK_CTRL_OC_AUTO 2) 1; (s.clocked (.spk n) = true) ∧ ((s.spkAt n).active = [1]) ∧ (s.on (F.SPK_CTRL_OC_AUTO n) = true) ∧ ((s.spkAt n).latched = false)) ∧
    (let n : Fin 4 := 1; let s : State := State.reset.spkPhase 1 .running 0; (s.clocked (.spk n) = true) ∧ (s.spkLive n = true)) ∧
    (let n : Fin 4 := 1; let s : State := State.reset.spkPhase 1 .running 0; (s.clocked (.spk n) = true) ∧ (s.spkLive n = true)) ∧
    (let n : Fin 4 := 0; let temp : Int := 2001; let s : State := State.reset; (s.clocked (.spk n) = true) ∧ (-32768 ≤ temp) ∧ (temp ≤ 32767)) ∧
    (let n : Fin 4 := 1; let s : State := State.reset.spkPhase 1 .running 0; (s.clocked (.spk n) = true)) ∧
    (let n : Fin 4 := 2; let s : State := (State.reset.modSpk 2 (fun a => { a with active := [4], phase := .fault })).set (F.SPK_CTRL_OC_AUTO 2) 1; (s.clocked (.spk n) = true) ∧ ((s.spkAt n).active = [4])) ∧
    (let n : Fin 4 := 1; let s : State := State.reset.spkPhase 1 .running 0; (s.clocked (.spk n) = true)) ∧
    (let n : Fin 4 := 2; let s : State := (State.reset.modSpk 2 (fun a => { a with active := [5], phase := .fault })).set (F.SPK_CTRL_OC_AUTO 2) 1; (s.clocked (.spk n) = true) ∧ ((s.spkAt n).active = [5])) ∧
    (let n : Fin 4 := 3; let s : State := State.reset.spkPhase 3 .running 0; (s.clocked (.spk n) = true)) ∧
    (let n : Fin 4 := 2; let s : State := (State.reset.modSpk 2 (fun a => { a with active := [6], phase := .fault })).set (F.SPK_CTRL_OC_AUTO 2) 1; (s.clocked (.spk n) = true) ∧ ((s.spkAt n).active = [6])) ∧
    (let n : Fin 4 := 0; let s : State := State.reset.spkPhase 0 .running 0; (s.clocked (.spk n) = true) ∧ (s.spkLive n = true)) ∧
    (let n : Fin 4 := 0; let s : State := State.reset.modSpk 0 (fun a => { a with active := [7] }); (s.clocked (.spk n) = true) ∧ (7 ∈ (s.spkAt n).active)) := by
  and_intros <;> decide +kernel

theorem test_meets_SpeakerGuardMeasures :
    (let n : Fin 4 := 1; let temp : Int := 640; let s : State := ((((((State.reset.set (F.SPK_GUARD_CTRL_EN 1) 1).set (F.SPK_GUARD_CTRL_X_EN 1) 0).set (F.SPK_GUARD_RE_RE25 1) 6200).set (F.SPK_GUARD_TC_RTH 1) 1200).set (F.SPK_GUARD_TC_TAU 1) 500).set (F.SPK_GUARD_TM_RTH 1) 600).set (F.SPK_GUARD_TM_TAU 1) 300; (s.clocked (.spk n) = true) ∧ (-32768 ≤ temp) ∧ (temp ≤ 32767)) ∧
    (let n : Fin 4 := 0; let s : State := ((State.reset.set (F.SPK_GUARD_CTRL_EN 0) 1).set (F.SPK_GUARD_RE_RE25 0) 6200).modSpk 0 (fun a => { a with par := { a.par with re25 := 6200 }, sense := { a.sense with blockN := 1, blockII := 2 ^ 46, blockVI := 14 * 2 ^ 46 } }); (s.clocked (.spk n) = true) ∧ (s.on (F.SPK_GUARD_CTRL_EN n) = true) ∧ ((s.spkAt n).sense.valid = true)) ∧
    (let n : Fin 4 := 0; let s : State := (State.reset.set (F.SPK_GUARD_CTRL_EN 0) 1).modSpk 0 (fun a => { a with invalid := 2 }); (s.clocked (.spk n) = true) ∧ (s.on (F.SPK_GUARD_CTRL_EN n) = true) ∧ ((s.spkAt n).sense.valid = false)) := by
  and_intros <;> decide +kernel

theorem test_meets_LaneStartStopWrites :
    (let ini : Fin 5 := 0; let n : Fin 48 := 3; let w : Word := 1#32; let s : State := State.reset; (s.mayWrite ini (pgLANE n * 0x400 + 4) w = true) ∧ (s.islandOn .engine = true) ∧ (s.get (F.PG_ENABLE (pgLANE n)) = 0) ∧ (bits w 0 1 = 1) ∧ ((s.laneAt n).phase = .off)) ∧
    (let ini : Fin 5 := 0; let n : Fin 48 := 2; let w : Word := 0#32; let s : State := ((State.reset.set (F.CLK_PLL_STATUS_STATE 0) 2).set (F.PG_ENABLE 0x32) 1).lanePhase 2 .running; (s.mayWrite ini (pgLANE n * 0x400 + 4) w = true) ∧ (s.get (F.PG_ENABLE (pgLANE n)) = 1) ∧ (bits w 0 1 = 0) ∧ (s.engRuns = true) ∧ ((s.laneAt n).phase = .running ∨ (s.laneAt n).phase = .rampUp)) ∧
    (let ini : Fin 5 := 0; let n : Fin 48 := 1; let w : Word := 0#32; let s : State := (State.reset.modLane 1 (fun l => { l with eff := { l.eff with src := 0x1FB#32 } })).lanePhase 1 .running; (s.mayWrite ini (A.LANE_SRC n) w = true)) ∧
    (let ini : Fin 5 := 3; let n : Fin 48 := 47; let w : Word := 0xBB#32; let s : State := State.reset; (s.mayWrite ini (A.LANE_OUT n) w = true)) ∧
    (let ini : Fin 5 := 0; let n : Fin 48 := 0; let w : Word := 16#32; let s : State := State.reset; (s.mayWrite ini (A.LANE_RC n) w = true)) := by
  and_intros <;> decide +kernel

theorem test_meets_LaneProcessingWrites :
    (let ini : Fin 5 := 0; let n : Fin 48 := 0; let w : Word := 0x3C00#32; let s : State := (State.reset.set (F.LANE_TRIM_GAIN 0) 5); (s.mayWrite ini (A.LANE_TRIM n) w = true)) ∧
    (let ini : Fin 5 := 0; let n : Fin 48 := 3; let w : Word := 0x318#32; let s : State := State.reset.lanePhase 3 .running; (s.mayWrite ini (A.LANE_CTRL n) w = true) ∧ (s.get (F.LANE_CTRL_INVERT n) ≠ bits w 3 1)) ∧
    (let ini : Fin 5 := 0; let n : Fin 48 := 3; let w : Word := 0x324#32; let s : State := State.reset.lanePhase 3 .running; (s.mayWrite ini (A.LANE_CTRL n) w = true) ∧ (s.get (F.LANE_CTRL_MUTE n) ≠ bits w 2 1) ∧ ((s.laneAt n).phase = .running)) ∧
    (let ini : Fin 5 := 0; let n : Fin 48 := 3; let w : Word := 3#32; let e : LaneEff := { Lane.init.eff with dcb := 3#32 }; let s : State := State.reset.lanePhase 3 .running; (s.mayWrite ini (A.LANE_DCB n) w = true) ∧ (e = { (s.laneAt n).eff with dcb := setBits (s.reg (A.LANE_DCB n)) 0 2 (bits w 0 2) })) ∧
    (let ini : Fin 5 := 0; let n : Fin 48 := 3; let w : Word := 0x104#32; let s : State := (State.reset.modLane 3 (fun l => { l with eff := { l.eff with hum := 0x404#32 } })).lanePhase 3 .running; (s.mayWrite ini (A.LANE_HUM n) w = true) ∧ (s.laneIdle n = true ∨ bits w 0 3 ≤ bits (s.laneAt n).eff.hum 0 3)) ∧
    (let ini : Fin 5 := 0; let n : Fin 48 := 3; let r : Fin 5 := 0; let w : Word := 0x2F18#32; let s : State := State.reset.lanePhase 3 .running; (s.mayWrite ini (A.LANE_DYN_CTRL n + 4 * r) w = true) ∧ (r.val = 0 → s.laneIdle n = true ∨ bits w 0 3 = 0 ∨ bits (s.laneAt n).eff.dyn 0 3 ≠ 0)) := by
  and_intros <;> decide +kernel

theorem test_meets_LaneCommitDelayMeterWrites :
    (let ini : Fin 5 := 0; let n : Fin 48 := 2; let w : Word := 4#32; let s : State := { State.reset with coefPend := [(128, 0x40000000#32), (178, 1#32)] }; (s.mayWrite ini (A.LANE_COEF_CTRL n) (w ||| 0x1#32) = true) ∧ (s.laneIdle n = true) ∧ ((s.laneAt n).commit = .idle) ∧ ((s.laneAt n).held = false) ∧ ((∀ k : Nat, k < 51 → s.poisoned .coefPend (64 * n + k) = false))) ∧
    (let ini : Fin 5 := 0; let n : Fin 48 := 3; let w : Word := 0#32; let s : State := (State.reset.set (F.CLK_PLL_STATUS_STATE 0) 2).lanePhase 3 .running; (s.mayWrite ini (A.LANE_COEF_CTRL n) (w ||| 0x1#32) = true) ∧ ((s.laneAt n).phase = .running) ∧ (s.engRuns = true) ∧ (s.get (F.LANE_COEF_CTRL_XFADE n) = bits w 2 1) ∧ ((s.laneAt n).eff.coef = s.reg (A.LANE_COEF_CTRL n) &&& 4#32)) ∧
    (let ini : Fin 5 := 0; let n : Fin 48 := 1; let w : Word := 34303#32; let s : State := State.reset; (s.mayWrite ini (A.LANE_DELAY n) w = true) ∧ (s.laneIdle n = true)) ∧
    (let ini : Fin 5 := 0; let n : Fin 48 := 2; let w : Word := 5#32; let s : State := (State.reset.modLane 2 (fun l => { l with eff := { l.eff with delay := 9#32 } })).lanePhase 2 .running; (s.mayWrite ini (A.LANE_DELAY n) w = true) ∧ (s.laneIdle n = false) ∧ (bits (s.laneAt n).eff.delay 0 16 ≠ 0 ∨ bits w 0 16 = 0)) ∧
    (let ini : Fin 5 := 0; let n : Fin 48 := 0; let w : Word := 3#32; let s : State := State.reset; (s.mayWrite ini (A.LANE_METER_CTRL n) w = true) ∧ (bits w 2 1 = 0)) ∧
    (let ini : Fin 5 := 0; let n : Fin 48 := 3; let w : Word := 0#32; let s : State := State.reset.setReg (A.LANE_METER_HOLD 3) 0x12345678#32; (s.mayWrite ini (A.LANE_METER_CTRL n) (w ||| 0x4#32) = true)) ∧
    (let ini : Fin 5 := 0; let n : Fin 48 := 3; let w : Word := 0#32; let s : State := State.reset.setReg (A.LANE_COUNT 3) 0x12345678#32; (s.mayWrite ini (A.LANE_CNT_CLR n) (w ||| 0x1#32) = true)) := by
  and_intros <;> decide +kernel

theorem test_meets_LaneEvents :
    (let n : Fin 48 := 1; let s : State := State.reset.lanePhase 1 .alloc; (s.clocked .engine = true) ∧ ((s.laneAt n).phase = .alloc)) ∧
    (let n : Fin 48 := 3; let s : State := State.reset.lanePhase 3 .rampUp; (s.clocked .engine = true) ∧ ((s.laneAt n).phase = .rampUp) ∧ ((s.laneAt n).ev = .none)) ∧
    (let n : Fin 48 := 2; let s : State := (State.reset.set (F.PG_ENABLE 0x32) 1).lanePhase 2 .waitCap; (s.clocked .engine = true) ∧ ((s.laneAt n).phase = .waitCap) ∧ (s.on (F.PG_ENABLE (pgLANE n)) = true) ∧ ((s.laneAt n).eff = s.laneWords n) ∧ (s.laneFits (s.laneStartCost n (s.laneStop n)) = true) ∧ ((s.laneAt n).commit = .idle)) ∧
    (let n : Fin 48 := 0; let s : State := State.reset.modLane 0 (fun l => { l with commit := .xfade, held := true }); (s.clocked .engine = true) ∧ ((s.laneAt n).commit = .xfade)) ∧
    (let n : Fin 48 := 3; let s : State := ((State.reset.modLane 3 (fun l => { l with tap := .at 1700 })).set (F.LANE_DELAY_STATUS_XFADE_NOW 3) 1).set (F.LANE_DELAY_EXT_BLOCKS 3) 7; (s.clocked .engine = true) ∧ (s.on (F.LANE_DELAY_STATUS_XFADE_NOW n) = true) ∧ ((∀ m : Nat, m < 48 → (s.laneAt m).phase ≠ .poolWait)) ∧ (delayBlocks (s.laneAt n).tap.new ≤ s.get (F.LANE_DELAY_EXT_BLOCKS n)) ∧ (delayBlocks (s.get (F.LANE_DELAY_FRAMES n)) ≤ delayBlocks (s.laneAt n).tap.new)) := by
  and_intros <;> decide +kernel

theorem test_meets_ChurnTables :
    (let ini : Fin 5 := 0; let w : Word := 2#32; let s : State := State.reset; (s.mayWrite ini A.CHN_CTRL (w ||| 0x1#32) = true)) ∧
    (let s : State := ({ State.reset with xpPend := [(326, 0x90000C00#32), (3071, 0xC0000C10#32)], xpAct := [(5, 0x80000C00#32)] }.set F.CHN_STATUS_BUSY 1).setReg (A.CHN_SINK 62) 0x2105#32; (s.on F.CHN_STATUS_BUSY = true) ∧ (s.frozen = false) ∧ (s.islandOn .engine = true) ∧ (s.engRuns = false ∨ s.chnCostNew ≤ s.chnCap s.opNow) ∧ ((∀ e ∈ s.poison, e.2.kind ≠ .xpPend))) ∧
    (let ini : Fin 5 := 0; let w : Word := 0#32; let s : State := { State.reset with xpAct := [(7, 0x80000C00#32)], sinkAct := [(0, 0x1105#32)] }; (s.mayWrite ini A.CHN_CTRL (w ||| 0x2#32) = true) ∧ (bits w 0 1 = 0) ∧ (bits w 2 1 = 0)) ∧
    (let ini : Fin 5 := 0; let w : Word := 0#32; let s : State := State.reset.set F.CHN_SAT_COUNT_COUNT 9; (s.mayWrite ini A.CHN_CTRL (w ||| 0x4#32) = true) ∧ (bits w 0 2 = 0)) := by
  and_intros <;> decide +kernel

theorem test_meets_FifePath :
    (let ini : Fin 5 := 0; let w : Word := 0x20#32; let s : State := State.reset.set (F.FIF_GAIN_G 3 2) 20; (s.mayWrite ini A.FIF_CTRL (w ||| 0x1#32) = true)) ∧
    (let s : State := State.reset.set (F.FIF_GAIN_NOW_G 31 3) 0; (s.clocked .aout = true)) := by
  and_intros <;> decide +kernel

theorem test_meets_EngineFrame :
    (let s : State := State.reset.set (F.CLK_PLL_STATUS_STATE 0) 2; (s.clocked .engine = true) ∧ (s.engRuns = true)) ∧
    (let s : State := { State.reset with engStop := true }; (s.clocked .engine = true) ∧ ((s.opFlush true).engRuns = false)) ∧
    (let n : Fin 48 := 3; let s : State := (State.reset.lanePhase 3 .running).modLane 3 (fun l => { l with meterIn := ⟨1000000, 1000000000000, 480⟩ }); (s.clocked .engine = true) ∧ ((s.laneAt n).phase.live = true)) := by
  and_intros <;> decide +kernel

theorem test_meets_PortWrites :
    (let ini : Fin 5 := 0; let p : Fin 8 := 2; let w : Word := 1#32; let s : State := State.reset.setReg (A.SAP_CTRL 2) 0xD#32; (s.mayWrite ini (pgSAP p * 0x400 + 4) w = true) ∧ (s.islandOn .ports = true) ∧ (s.get (F.PG_ENABLE (pgSAP p)) = 0) ∧ (bits w 0 1 = 1) ∧ (bits w 2 1 = 0) ∧ ((s.sapAt p).phase = .off)) ∧
    (let ini : Fin 5 := 0; let p : Fin 8 := 7; let w : Word := 0#32; let s : State := (State.reset.set (F.PG_ENABLE 0x28) 1).modSap 7 (fun a => { a with phase := .running, master := true }); (s.mayWrite ini (pgSAP p * 0x400 + 4) w = true) ∧ (s.on (F.PG_ENABLE (pgSAP p)) = true) ∧ (bits w 0 1 = 0) ∧ (bits w 2 1 = 0) ∧ ((s.sapAt p).phase = .running)) ∧
    (let ini : Fin 5 := 0; let p : Fin 8 := 0; let ctrl : Bool := false; let w : Word := 0x61204#32; let s : State := State.reset.modSap 0 (fun a => { a with phase := .running, master := true }); (s.mayWrite ini (if ctrl then A.SAP_CTRL p else A.SAP_FMT p) w = true) ∧ ((s.sapAt p).phase = .running) ∧ (s.sapFrames p = true)) ∧
    (let ini : Fin 5 := 0; let p : Fin 8 := 0; let rx : Bool := true; let w : Word := 0xFFFF#32; let s : State := State.reset.modSap 0 (fun a => { a with phase := .running, master := true }); (s.mayWrite ini (if rx then A.SAP_SLOT_MASK_RX p else A.SAP_SLOT_MASK_TX p) w = true)) ∧
    (let ini : Fin 5 := 0; let p : Fin 8 := 3; let w : Word := 8#32; let s : State := State.reset; (s.mayWrite ini (A.SAP_CTRL p) w = true) ∧ (bits w 0 1 = s.get (F.SAP_CTRL_MASTER p))) ∧
    (let ini : Fin 5 := 0; let p : Fin 4 := 3; let w : Word := 0x103#32; let s : State := State.reset; (s.mayWrite ini (A.SAP_MCLK p) w = true) ∧ (bits w 0 2 = 0 ∨ (bits w 0 2 = 3 ∧ 1 ≤ bits w 8 8) ∨ 8 ≤ bits w 8 8)) ∧
    (let ini : Fin 5 := 0; let p : Fin 8 := 1; let w : Word := 0#32; let s : State := State.reset.setReg (A.SAP_COUNT 1) 0x30005#32; (s.mayWrite ini (A.SAP_CNT_CLR p) (w ||| 0x1#32) = true)) := by
  and_intros <;> decide +kernel

theorem test_meets_PortFrames :
    (let p : Fin 8 := 1; let s : State := ((State.reset.modSap 1 (fun a => { a with phase := .running })).set (F.SAP_CTRL_RX_EN 1) 1).set (F.CLK_PLL_STATUS_STATE 0) 2; (s.clocked .ports = true) ∧ ((s.sapAt p).phase = .running) ∧ ((s.sapAt p).fade = .at1)) ∧
    (let p : Fin 8 := 0; let s : State := State.reset.modSap 0 (fun a => { a with phase := .starting, master := true }); (s.clocked .ports = true) ∧ ((s.sapAt p).phase = .starting) ∧ ((s.sapAt p).master = true ∨ s.trkState (4 + p) = 2)) ∧
    (let p : Fin 8 := 7; let s : State := (State.reset.modSap 7 (fun a => { a with phase := .running })).set (F.SAP_STATUS_MASK_PENDING 7) 1; (s.clocked .ports = true) ∧ (s.on (F.SAP_STATUS_MASK_PENDING p) = true) ∧ ((s.sapAt p).phase.frames = true)) ∧
    (let p : Fin 8 := 4; let s : State := State.reset.modSap 4 (fun a => { a with phase := .quiescing }); (s.clocked .ports = true) ∧ ((s.sapAt p).phase = .quiescing)) := by
  and_intros <;> decide +kernel

theorem test_meets_PdmMicrophones :
    (let ini : Fin 5 := 0; let r : Fin 3 := 0; let w : Word := 0x141404#32; let s : State := ((State.reset.set (F.PG_ENABLE 0x29) 1).modPdm 0 (fun g => { g with phase := .running })).modPdm 1 (fun g => { g with phase := .running }); (s.mayWrite ini (match r with | 0 => A.PDM_CLK_CTRL | 1 => A.PDM_LINE | 2 => A.PDM_FMT) w = true) ∧ (s.on (F.PG_ENABLE 0x29) = true) ∧ (s.on (F.PDM_LISTEN 0) = false) ∧ (s.on (F.PDM_LISTEN 1) = false) ∧ ((s.pdmAt 0).phase = .running) ∧ ((s.pdmAt 1).phase = .running)) ∧
    (let g : Fin 2 := 1; let s : State := State.reset.modPdm 1 (fun g => { g with phase := .rampUp }); (s.clocked .listen = true) ∧ ((s.pdmAt g).phase = .rampUp ∨ (s.pdmAt g).phase = .filling)) ∧
    (let ini : Fin 5 := 0; let w : Word := 0x8001#32; let s : State := (State.reset.modPdm 0 (fun g => { g with phase := .running })).set F.PDM_MIC_EN_EN 1; (s.mayWrite ini A.PDM_MIC_EN w = true)) ∧
    (let m : Fin 16 := 15; let s : State := State.reset.set F.PDM_MIC_EN_EN 0xFFFF; (s.clocked .listen = true) ∧ (s.on (F.PDM_MIC m) = true) ∧ (s.privacy = false) ∧ (s.on (F.PDM_ABSENT m) = false)) ∧
    (let m : Fin 16 := 0; let s : State := State.reset.set F.PDM_MIC_STATUS_ABSENT 1; (s.clocked .listen = true) ∧ (s.on (F.PDM_ABSENT m) = true)) ∧
    (let ini : Fin 5 := 0; let w : Word := 0#32; let s : State := State.reset.set (F.PG_ENABLE 0x29) 1; (s.mayWrite ini (0x29 * 0x400 + 4) w = true) ∧ (s.on (F.PG_ENABLE 0x29) = true) ∧ (bits w 0 1 = 0) ∧ (bits w 2 1 = 0)) ∧
    (let ini : Fin 5 := 0; let w : Word := 1#32; let s : State := State.reset.set F.PDM_CLK_CTRL_FREQ0 3; (s.mayWrite ini (0x29 * 0x400 + 4) w = true) ∧ (s.get (F.PG_ENABLE 0x29) = 0) ∧ (bits w 0 1 = 1) ∧ (bits w 2 1 = 0) ∧ (s.islandOn .listen = true) ∧ ((s.pdmAt 0).phase = .off) ∧ ((s.pdmAt 1).phase = .off) ∧ (s.on (F.PDM_LISTEN 0) = false) ∧ (s.on (F.PDM_LISTEN 1) = false)) := by
  and_intros <;> decide +kernel

theorem test_meets_SpdifPorts :
    (let s : State := let cs := List.replicate 190 true ++ [false, false]; ((State.reset.set (F.PG_ENABLE 0x2A) 1).set F.SPD_RX_CTRL_EN 1).modRx (fun r => { r with cs := cs, csPrev := cs.reverse }); (s.clocked .ports = true) ∧ (s.rxOn = true) ∧ (s.spdTx.phase ≠ .passthrough)) ∧
    (let s : State := State.reset.set F.SPD_RX_STATUS_SYNC_HOLD 1; (s.clocked .ports = true) ∧ (s.on F.SPD_RX_STATUS_SYNC_HOLD = true) ∧ (s.on F.SPD_RX_STATUS_NONPCM = false) ∧ (s.csData = false) ∧ (4096 ≤ s.spdRx.sync.getD 4096)) ∧
    (let s : State := State.reset.set F.SPD_RX_STATUS_NONPCM 1; (s.clocked .ports = true) ∧ (s.on F.SPD_RX_STATUS_NONPCM = true) ∧ (s.csData = false) ∧ (4096 ≤ s.spdRx.sync.getD 4096)) ∧
    (let ini : Fin 5 := 0; let w : Word := 0#32; let s : State := ((State.reset.set F.SPD_RX_CTRL_EN 1).set (F.PG_ENABLE 0x2A) 1).set (F.CLK_TRK_STATUS_STATE 1) 2; (s.mayWrite ini A.SPD_RX_CTRL w = true)) ∧
    (let ini : Fin 5 := 0; let w : Word := 0x61#32; let s : State := State.reset.set (F.PG_ENABLE 0x2A) 1; (s.mayWrite ini A.SPD_TX_CTRL w = true) ∧ (s.on (F.PG_ENABLE 0x2A) = true) ∧ (s.islandOn .ports = true) ∧ (s.spdTx.phase = .off) ∧ (bits w 0 1 = 1)) ∧
    (let ini : Fin 5 := 0; let w : Word := 0x60#32; let s : State := State.reset.txPhase .pcm; (s.mayWrite ini A.SPD_TX_CTRL w = true) ∧ (s.spdTx.phase ≠ .off) ∧ (bits w 0 1 = 0)) ∧
    (let ini : Fin 5 := 0; let w : Word := 0x51#32; let s : State := (State.reset.set (F.PG_ENABLE 0x2A) 1).txPhase .pcm; (s.mayWrite ini A.SPD_TX_CTRL w = true) ∧ (s.on (F.PG_ENABLE 0x2A) = true) ∧ (s.islandOn .ports = true) ∧ (s.spdTx.phase = .pcm) ∧ (bits w 0 1 = 1) ∧ (bits w 4 4 ≠ s.spdTx.rate)) ∧
    (let ini : Fin 5 := 0; let w : Word := 0x65#32; let s : State := (State.reset.set (F.PG_ENABLE 0x2A) 1).txPhase .pcm; (s.mayWrite ini A.SPD_TX_CTRL w = true) ∧ (s.on (F.PG_ENABLE 0x2A) = true) ∧ (s.islandOn .ports = true) ∧ (s.spdTx.phase = .pcm ∨ s.spdTx.phase = .passthrough) ∧ (bits w 0 1 = 1) ∧ (bits w 4 4 = s.spdTx.rate)) ∧
    (let ini : Fin 5 := 0; let w : Word := 0#32; let s : State := State.reset.set F.SPD_RX_COUNT_V_FRAMES 4; (s.mayWrite ini A.SPD_CNT_CLR (w ||| 0x1#32) = true)) ∧
    (let s : State := { State.reset.txPhase .pcm with engStop := true }; (s.clocked .ports = true) ∧ (s.spdTx.phase = .pcm) ∧ (s.wantPass = false) ∧ (s.spdTx.fade = .at1)) ∧
    (let s : State := (((State.reset.txPhase .pcm).set (F.PG_ENABLE 0x2A) 1).set F.SPD_RX_CTRL_EN 1).set F.SPD_TX_CTRL_PASS 2; (s.clocked .ports = true) ∧ (s.spdTx.phase = .pcm) ∧ (s.wantPass = true)) ∧
    (let f : SpdFrame := ⟨⟨5, false, false, true, true, true⟩, ⟨6, false, false, false, false, false⟩, false⟩; let s : State := ((((State.reset.txPhase .passthrough).set (F.PG_ENABLE 0x2A) 1).set F.SPD_RX_CTRL_EN 1).set F.SPD_TX_CTRL_PASS 2).set (F.CLK_TRK_STATUS_STATE 1) 2 |>.modRx (fun r => { r with pass := some f }); (s.clocked .ports = true) ∧ (s.spdTx.phase = .passthrough) ∧ (s.wantPass = true) ∧ (s.trkState 3 = 2) ∧ (s.spdRx.pass = some f)) ∧
    (let s : State := State.reset.txPhase .passthrough; (s.clocked .ports = true) ∧ (s.spdTx.phase = .passthrough) ∧ (s.wantPass = true → s.trkState 3 ≠ 2)) := by
  and_intros <;> decide +kernel

theorem test_meets_Trackers :
    (let t : Fin 10 := 2; let s : State := ((State.reset.set (F.PG_ENABLE 0x21) 1).set (F.CLK_TRK_STATUS_STATE 2) 2); (s.trkRuns t = true) ∧ (s.frozen = false) ∧ (s.clocked .mgmt = true)) ∧
    (let t : Fin 10 := 9; let rate : Nat := 4800000; let s : State := ((State.reset.set (F.PG_ENABLE 0x28) 1).set (F.CLK_TRK_STATUS_STATE 9) 1).modTrk 9 (fun k => { k with winRate := 4800000, sum := 409600, frames := 100 }); (s.trkRuns t = true) ∧ (s.frozen = false) ∧ (s.clocked .mgmt = true) ∧ ((s.trkAt t).windowDone = true) ∧ (rate = s.trkMean t) ∧ (rate < 2 ^ 32)) ∧
    (let t : Fin 10 := 9; let s : State := ((State.reset.set (F.PG_ENABLE 0x28) 1).set (F.CLK_TRK_STATUS_STATE 9) 1); (s.trkRuns t = true) ∧ (s.frozen = false) ∧ (s.clocked .mgmt = true) ∧ ((s.trkAt t).windowDone = false)) ∧
    (let t : Fin 10 := 2; let s : State := ((State.reset.set (F.PG_ENABLE 0x21) 1).set (F.CLK_TRK_STATUS_STATE 2) 2); (s.trkRuns t = true) ∧ (s.frozen = false) ∧ (s.clocked .mgmt = true)) ∧
    (let t : Fin 10 := 2; let s : State := ((State.reset.set (F.PG_ENABLE 0x21) 1).set (F.CLK_TRK_STATUS_STATE 2) 2).modTrk 2 (fun k => { k with glitches := 3 }); (s.trkRuns t = true) ∧ (s.frozen = false) ∧ (s.clocked .mgmt = true) ∧ (s.get (F.CLK_TRK_STATUS_STATE t) = 2) ∧ ((s.trkAt t).changed = true)) ∧
    (let t : Fin 10 := 2; let s : State := ((State.reset.set (F.PG_ENABLE 0x21) 1).set (F.CLK_TRK_STATUS_STATE 2) 1); (s.trkRuns t = true) ∧ (s.frozen = false) ∧ (s.clocked .mgmt = true) ∧ (s.get (F.CLK_TRK_STATUS_STATE t) = 1)) ∧
    (let t : Fin 10 := 5; let s : State := State.reset.set (F.CLK_TRK_STATUS_STATE 5) 2; (s.trkRuns t = false) ∧ (s.frozen = false)) ∧
    (let ini : Fin 5 := 0; let w : Word := 0x604#32; let s : State := State.reset.setReg (A.CLK_TRK_COUNT 2) 0x50007#32; (s.mayWrite ini A.CLK_TRK_CLR w = true)) := by
  and_intros <;> decide +kernel

theorem test_meets_ClocksAndMains :
    (let s : State := (State.reset.set (F.CLK_PLL_STATUS_STATE 0) 2).set F.CLK_FLL_STATUS_LOCKED 1; (s.on F.CLK_XTAL_STATUS_OK = true) ∧ (s.xtalRuns = true)) ∧
    (let s : State := (State.reset.set F.CLK_XTAL_STATUS_OK 0).set (F.PG_FAULT 0x03) 1; (s.on F.CLK_XTAL_STATUS_OK = false) ∧ (s.xtalRuns = true)) ∧
    (let x : Fin 3 := 0; let s : State := { State.reset.set (F.CLK_PLL_STATUS_STATE 0) 1 with engStop := true }; (s.get (F.CLK_PLL_STATUS_STATE x) = 1) ∧ (s.on F.CLK_XTAL_STATUS_OK = true) ∧ (s.pllRole x ≠ 5)) ∧
    (let x : Fin 3 := 0; let s : State := State.reset.set (F.CLK_PLL_STATUS_STATE 0) 2; (s.pllLocked x = true) ∧ (s.pllRole x ≤ 1) ∧ (s.tkoOn = false)) ∧
    (let x : Fin 3 := 1; let s : State := State.reset.set (F.CLK_PLL_STATUS_STATE 1) 1; (s.get (F.CLK_PLL_STATUS_STATE x) = 1) ∧ (s.on F.CLK_XTAL_STATUS_OK = true) ∧ (s.pllRole x ≤ 1) ∧ (s.famPll (s.pllRole x) = x) ∧ (s.jobLive 4 (s.pllRole x) = false) ∧ (s.mgmtRuns = true)) ∧
    (let x : Fin 3 := 0; let s : State := State.reset.set (F.CLK_PLL_STATUS_STATE 0) 3; (s.pllRole x ≤ 1) ∧ (s.get (F.CLK_PLL_STATUS_STATE x) = 3) ∧ (s.on F.CLK_XTAL_STATUS_OK = true) ∧ (s.jobLive 4 (s.pllRole x) = false) ∧ (s.mgmtRuns = true)) ∧
    (let x : Fin 3 := 1; let s : State := State.reset.set (F.CLK_PLL_STATUS_STATE 1) 2; (s.pllRole x ≤ 1) ∧ (s.famNeeded (s.pllRole x) = false) ∧ (s.tkoOn = false)) ∧
    (let s : State := (State.reset.modPdm 0 (fun g => { g with phase := .waitClk, freq := 3 })).set F.CLK_FLL_STATUS_LOCKED 0; (s.on F.CLK_XTAL_STATUS_OK = true) ∧ (s.islandOn .listen = true) ∧ (s.on F.CLK_FLL_STATUS_LOCKED = false)) ∧
    (let s : State := (State.reset.modPdm 1 (fun g => { g with phase := .running, freq := 4 })).set F.CLK_FLL_STATUS_LOCKED 1; (s.on F.CLK_FLL_STATUS_LOCKED = true)) ∧
    (let falling : Bool := false; let s : State := State.reset; (s.on F.CLK_MAINS_CTRL_EDGE = falling) ∧ (s.clocked .sense = true) ∧ (s.get F.CLK_MAINS_CTRL_SRC = 1 ∨ s.get F.CLK_MAINS_CTRL_SRC = 3)) ∧
    (0 < 96 ∧ 96 ≤ 4096 ∧ (fdivRun 4096 96 128).2.reverse[2]? = some 128) ∧
    (let s : State := State.reset.set F.CLK_MAINS_STATUS_VALID 1; (s.clocked .sense = true) ∧ (s.on F.CLK_MAINS_STATUS_VALID = true)) := by
  and_intros <;> decide +kernel

theorem test_meets_EngineRateAndTakeover :
    (let ini : Fin 5 := 0; let w : Word := 1#32; let s : State := State.reset.set (F.CLK_PLL_STATUS_STATE 0) 2; (s.mayWrite ini A.CLK_ENGINE w = true)) ∧
    (let s : State := { (State.reset.set (F.CLK_PLL_STATUS_STATE 0) 2).set F.CLK_ENGINE_FE 2 with feChange := .ramp }; (s.islandOn .engine = true) ∧ (s.frozen = false) ∧ (s.feChange = .ramp) ∧ (s.famUp (feFamily (s.get F.CLK_ENGINE_FE)) = true)) ∧
    (let ini : Fin 5 := 0; let w : Word := 1#32; let s : State := State.reset; (s.mayWrite ini A.CLK_TAKEOVER (w ||| 0x100#32) = true) ∧ (bits w 9 1 = 0)) ∧
    (let ini : Fin 5 := 0; let w : Word := 0#32; let s : State := { ((State.reset.set F.CLK_TAKEOVER_STATUS_PHASE 1).set F.CLK_TAKEOVER_STATUS_SPARE_PLL 2).setRole 2 5 with tkoOn := true }; (s.mayWrite ini A.CLK_TAKEOVER (w ||| 0x200#32) = true) ∧ (bits w 8 1 = 0)) ∧
    (let s : State := { ((State.reset.set F.CLK_TAKEOVER_STATUS_PHASE 1).set F.CLK_TAKEOVER_STATUS_SPARE_PLL 2).setRole 2 5 with tkoOn := true }; (s.tkoOn = true) ∧ (s.tkoPhase = 1) ∧ (s.on F.CLK_XTAL_STATUS_OK = true) ∧ (s.tkoNew < 3) ∧ (s.tkoOld < 3) ∧ (s.tkoNew ≠ s.tkoOld) ∧ (s.frozen = false)) ∧
    (let s : State := { State.reset.set F.CLK_TAKEOVER_STATUS_PHASE 2 with tkoOn := true }; (s.tkoOn = true) ∧ (s.tkoPhase = 2) ∧ (s.frozen = false)) ∧
    (let s : State := { ((State.reset.set F.CLK_TAKEOVER_STATUS_PHASE 2).set F.CLK_TAKEOVER_STATUS_SPARE_PLL 2).setRole 2 5 with tkoOn := true }; (s.tkoOn = true) ∧ (s.tkoPhase = 2) ∧ (s.tkoNew < 3) ∧ (s.frozen = false)) ∧
    (let last : Fin 8 := 0; let s : State := { ((State.reset.set F.CLK_TAKEOVER_STATUS_PHASE 4).set F.CLK_TAKEOVER_STATUS_SPARE_PLL 2).setRole 2 5 with tkoOn := true }; (s.tkoOn = true) ∧ (s.on F.CLK_TAKEOVER_STATUS_MODE = false) ∧ (s.tkoPhase = 3 ∨ s.tkoPhase = 4) ∧ (s.frozen = false) ∧ (last.val < 7) ∧ (s.tkoPhase = 4 → s.tko.done < 8)) ∧
    (let s : State := { ((State.reset.set F.CLK_TAKEOVER_STATUS_PHASE 4).set F.CLK_TAKEOVER_STATUS_SPARE_PLL 2).setRole 2 5 with tkoOn := true }; (s.tkoOn = true) ∧ (s.on F.CLK_TAKEOVER_STATUS_MODE = false) ∧ (s.tkoPhase = 3 ∨ s.tkoPhase = 4) ∧ (s.tkoNew < 3) ∧ (s.tkoOld < 3) ∧ (s.tkoNew ≠ s.tkoOld) ∧ (s.frozen = false)) ∧
    (let s : State := { (((State.reset.set F.CLK_TAKEOVER_STATUS_PHASE 5).set F.CLK_TAKEOVER_STATUS_SPARE_PLL 2).setRole 2 5).set F.CLK_TAKEOVER_STATUS_MODE 1 with tkoOn := true, engStop := true }; (s.tkoOn = true) ∧ (s.on F.CLK_TAKEOVER_STATUS_MODE = true) ∧ (s.tkoPhase = 3 ∨ s.tkoPhase = 5) ∧ (s.tkoNew < 3) ∧ (s.tkoOld < 3) ∧ (s.tkoNew ≠ s.tkoOld) ∧ (s.frozen = false)) ∧
    (let x : Fin 3 := 2; let bad : Bool := true; let s : State := { (State.reset.set (F.CLK_PLL_STATUS_STATE 0) 2).setRole 2 3 with pllTest := some (2, true) }; (s.pllTest = some (x.val, bad)) ∧ (s.famUp 0 = true ∨ s.famUp 1 = true) ∧ (s.mgmtRuns = true)) := by
  and_intros <;> decide +kernel

theorem test_meets_UsbConnection :
    (let s : State := State.reset.set F.USB_STATE_VBUS 0; (s.domState ≤ 4) ∧ (s.on F.USB_STATE_VBUS = false)) ∧
    (let cause : Fin 3 := 2; let s : State := ({ (((State.reset.set (F.PG_ENABLE 0x0A) 1).set F.USB_STATE_VBUS 1).set F.USB_ID_VID 0x1234).set F.USB_STATE_CONNECTED 1 with usb := { State.reset.usb with phy := true } }).set F.USB_STATE_CONFIGURED 1; (s.on F.USB_STATE_CONNECTED = true) ∧ (cause.val = 0 → s.domState ≤ 4 ∧ s.on F.USB_STATE_VBUS = true) ∧ (cause.val = 2 → s.domState ≤ 1)) ∧
    (let ini : Fin 5 := 0; let w : Word := 0#32; let s : State := ({ (((State.reset.set (F.PG_ENABLE 0x0A) 1).set F.USB_STATE_VBUS 1).set F.USB_ID_VID 0x1234).set F.USB_STATE_CONNECTED 1 with usb := { State.reset.usb with phy := true } }).set F.USB_STATE_CONFIGURED 1; (s.mayWrite ini (0x0A * 0x400 + 4) w = true) ∧ (s.on (F.PG_ENABLE 0x0A) ≠ decide (bits w 0 1 = 1))) ∧
    (let ini : Fin 5 := 0; let w : Word := 0x72#32; let s : State := ({ (((State.reset.set (F.PG_ENABLE 0x0A) 1).set F.USB_STATE_VBUS 1).set F.USB_ID_VID 0x1234).set F.USB_STATE_CONNECTED 1 with usb := { State.reset.usb with phy := true } }).set F.USB_STATE_CONFIGURED 1; (s.mayWrite ini A.USB_CFG w = true)) ∧
    (let s : State := ({ (((State.reset.set (F.PG_ENABLE 0x0A) 1).set F.USB_STATE_VBUS 1).set F.USB_ID_VID 0x1234).set F.USB_STATE_CONNECTED 1 with usb := { State.reset.usb with phy := true } }).set F.USB_STATE_CONFIGURED 1; (s.clocked .usb = true) ∧ (s.on F.USB_STATE_CONNECTED = true)) ∧
    (let s : State := { ({ (((State.reset.set (F.PG_ENABLE 0x0A) 1).set F.USB_STATE_VBUS 1).set F.USB_ID_VID 0x1234).set F.USB_STATE_CONNECTED 1 with usb := { State.reset.usb with phy := true } }).set F.USB_STATE_CONNECTED 0 with usb := { State.reset.usb with phy := true, reconnect := true } }; (s.usb.reconnect = true)) ∧
    (let s : State := (State.reset.set (F.PG_ENABLE 0x0A) 1).set F.USB_STATE_VBUS 1; (s.phyWanted = true) ∧ (s.usb.phy = false)) ∧
    (let s : State := (State.reset.set (F.PG_ENABLE 0x0A) 1).set F.USB_STATE_VBUS 1; (s.phyWanted = true) ∧ (s.usb.phy = false)) ∧
    (let s : State := { (((State.reset.set (F.PG_ENABLE 0x0A) 1).set F.USB_STATE_VBUS 1).set F.USB_ID_VID 0x1234).set F.USB_STATE_CONNECTED 1 with usb := { State.reset.usb with phy := true } }; (s.clocked .usb = true) ∧ (s.on F.USB_STATE_CONNECTED = true)) ∧
    (let s : State := { (((State.reset.set (F.PG_ENABLE 0x0A) 1).set F.USB_STATE_VBUS 1).set F.USB_ID_VID 0x1234).set F.USB_STATE_CONNECTED 1 with usb := { State.reset.usb with phy := true } }; (s.clocked .usb = true) ∧ (s.on F.USB_STATE_CONNECTED = true)) ∧
    (let s : State := { (((State.reset.set (F.PG_ENABLE 0x0A) 1).set F.USB_STATE_VBUS 1).set F.USB_ID_VID 0x1234).set F.USB_STATE_CONNECTED 1 with usb := { State.reset.usb with phy := true } }; (s.clocked .usb = true) ∧ (s.on F.USB_STATE_CONNECTED = true)) := by
  and_intros <;> decide +kernel

theorem test_meets_UsbStreams :
    (let s : State := ({ (((State.reset.set (F.PG_ENABLE 0x0A) 1).set F.USB_STATE_VBUS 1).set F.USB_ID_VID 0x1234).set F.USB_STATE_CONNECTED 1 with usb := { State.reset.usb with phy := true } }).set F.USB_STATE_CONFIGURED 1; (s.clocked .usb = true) ∧ (s.on F.USB_STATE_CONNECTED = true) ∧ (s.on F.USB_STATE_CONFIGURED = true)) ∧
    (let s : State := ({ (((State.reset.set (F.PG_ENABLE 0x0A) 1).set F.USB_STATE_VBUS 1).set F.USB_ID_VID 0x1234).set F.USB_STATE_CONNECTED 1 with usb := { State.reset.usb with phy := true } }).set F.USB_STATE_CONFIGURED 1; (s.clocked .usb = true) ∧ (s.on F.USB_STATE_CONNECTED = true) ∧ (s.on F.USB_STATE_CONFIGURED = true)) ∧
    (let s : State := ({ (((State.reset.set (F.PG_ENABLE 0x0A) 1).set F.USB_STATE_VBUS 1).set F.USB_ID_VID 0x1234).set F.USB_STATE_CONNECTED 1 with usb := { State.reset.usb with phy := true } }).set F.USB_STATE_CONFIGURED 1; (s.clocked .usb = true) ∧ (s.on F.USB_STATE_CONNECTED = true) ∧ (s.on F.USB_STATE_CONFIGURED = true)) ∧
    (let j : Fin 2 := 0; let s : State := (((({ (((State.reset.set (F.PG_ENABLE 0x0A) 1).set F.USB_STATE_VBUS 1).set F.USB_ID_VID 0x1234).set F.USB_STATE_CONNECTED 1 with usb := { State.reset.usb with phy := true } }).set F.USB_STATE_CONFIGURED 1).set F.USB_STATE_HS 1).set (F.USB_ALT_ALT 0) 1).set F.USB_CLOCK_VALID 1; (s.frozen = false) ∧ (s.usbLive = true) ∧ (s.usbAlt j ≠ 0) ∧ (s.on F.USB_CLOCK_VALID = true) ∧ (1 ≤ s.usbCh j) ∧ (s.usb.held.testBit j = false)) ∧
    (let j : Fin 2 := 0; let s : State := { (((({ (((State.reset.set (F.PG_ENABLE 0x0A) 1).set F.USB_STATE_VBUS 1).set F.USB_ID_VID 0x1234).set F.USB_STATE_CONNECTED 1 with usb := { State.reset.usb with phy := true } }).set F.USB_STATE_CONFIGURED 1).set F.USB_STATE_HS 1).set (F.USB_ALT_ALT 0) 1).set F.USB_CLOCK_VALID 1 with usb := { State.reset.usb with held := 1 } }; (s.frozen = false) ∧ (s.usb.held.testBit j = true)) ∧
    (let j : Fin 2 := 1; let s : State := (({ (((State.reset.set (F.PG_ENABLE 0x0A) 1).set F.USB_STATE_VBUS 1).set F.USB_ID_VID 0x1234).set F.USB_STATE_CONNECTED 1 with usb := { State.reset.usb with phy := true } }).set F.USB_STATE_CONFIGURED 1).modOut 1 (fun o => { o with started := true, last := [[1, 2], [3, 4]] }); (s.frozen = false) ∧ (s.usbLive = true) ∧ ((s.usbOut j).started = true)) ∧
    (let j : Fin 2 := 0; let s : State := ((({ (((State.reset.set (F.PG_ENABLE 0x0A) 1).set F.USB_STATE_VBUS 1).set F.USB_ID_VID 0x1234).set F.USB_STATE_CONNECTED 1 with usb := { State.reset.usb with phy := true } }).set F.USB_STATE_CONFIGURED 1).modOut 0 (fun o => { o with started := true })).modLane 4 (fun l => { l with phase := .running, sid := 0x2D }); (s.clocked .usb = true) ∧ (s.frozen = false) ∧ ((s.usbOut j).started = true)) ∧
    (let j : Fin 2 := 0; let s : State := { ((({ (((State.reset.set (F.PG_ENABLE 0x0A) 1).set F.USB_STATE_VBUS 1).set F.USB_ID_VID 0x1234).set F.USB_STATE_CONNECTED 1 with usb := { State.reset.usb with phy := true } }).set F.USB_STATE_CONFIGURED 1).set (F.USB_ALT_ALT 2) 2).set F.USB_CLOCK_VALID 1 with usb := { State.reset.usb with ins := vmod State.reset.usb.ins 0 (fun d => { d with prev := [[256, 512]] }) } }; (s.frozen = false) ∧ (s.usbLive = true) ∧ (s.usbAlt (2 + j) ≠ 0) ∧ (s.on F.USB_CLOCK_VALID = true) ∧ (s.usb.held.testBit (2 + j) = false)) ∧
    (let j : Fin 2 := 0; let s : State := (((({ (((State.reset.set (F.PG_ENABLE 0x0A) 1).set F.USB_STATE_VBUS 1).set F.USB_ID_VID 0x1234).set F.USB_STATE_CONNECTED 1 with usb := { State.reset.usb with phy := true } }).set F.USB_STATE_CONFIGURED 1).set F.USB_STATE_HS 1).set (F.USB_ALT_ALT 0) 1).set (F.CLK_TRK_STATUS_STATE 0) 2; (s.frozen = false) ∧ (s.usbLive = true) ∧ (s.usbAdaptive = false) ∧ (s.usbAlt j ≠ 0)) ∧
    (let s : State := { State.reset.set F.USB_STATE_HS 1 with usb := { State.reset.usb with desc := [0#32, 0#32, 0#32, 0x7FF#32, 16#32] } }; s.on F.USB_STATE_HS = true ∧ s.usbMaxHz = 192000 ∧ s.usbCh 0 = 16 ∧ 1024 < packetBytes (s.usbCh 0) (subslot 2) s.usbMaxHz 8000) ∧
    (let s : State := (({ (((State.reset.set (F.PG_ENABLE 0x0A) 1).set F.USB_STATE_VBUS 1).set F.USB_ID_VID 0x1234).set F.USB_STATE_CONNECTED 1 with usb := { State.reset.usb with phy := true } }).set F.USB_STATE_CONFIGURED 1).modOut 0 (fun o => { o with hold := [[1]] }); (s.usbLive = true)) := by
  and_intros <;> decide +kernel

theorem test_meets_UsbHidAndLink :
    (let s : State := ({ (((State.reset.set (F.PG_ENABLE 0x0A) 1).set F.USB_STATE_VBUS 1).set F.USB_ID_VID 0x1234).set F.USB_STATE_CONNECTED 1 with usb := { State.reset.usb with phy := true } }).set F.USB_STATE_CONFIGURED 1; (s.usbLive = true) ∧ (s.on F.USB_STATE_CONFIGURED = true)) ∧
    (let s : State := { ({ (((State.reset.set (F.PG_ENABLE 0x0A) 1).set F.USB_STATE_VBUS 1).set F.USB_ID_VID 0x1234).set F.USB_STATE_CONNECTED 1 with usb := { State.reset.usb with phy := true } }).set F.USB_STATE_CONFIGURED 1 with usb := { State.reset.usb with phy := true, hid := [[1, 4], [1, 0]] } }; (s.frozen = false) ∧ (s.usbLive = true) ∧ (s.on F.USB_STATE_CONFIGURED = true) ∧ (s.usbCfg 5 = true)) ∧
    (let s : State := ({ (((State.reset.set (F.PG_ENABLE 0x0A) 1).set F.USB_STATE_VBUS 1).set F.USB_ID_VID 0x1234).set F.USB_STATE_CONNECTED 1 with usb := { State.reset.usb with phy := true } }).set F.USB_STATE_CONFIGURED 1; (s.clocked .usb = true) ∧ (s.on F.USB_STATE_CONNECTED = true) ∧ (s.on F.USB_STATE_SUSPENDED = false)) ∧
    (let s : State := (({ (((State.reset.set (F.PG_ENABLE 0x0A) 1).set F.USB_STATE_VBUS 1).set F.USB_ID_VID 0x1234).set F.USB_STATE_CONNECTED 1 with usb := { State.reset.usb with phy := true } }).set F.USB_STATE_CONFIGURED 1).set F.USB_STATE_SUSPENDED 1; (s.domState ≤ 4) ∧ (s.on F.USB_STATE_SUSPENDED = true)) ∧
    (let s : State := ({ (((State.reset.set (F.PG_ENABLE 0x0A) 1).set F.USB_STATE_VBUS 1).set F.USB_ID_VID 0x1234).set F.USB_STATE_CONNECTED 1 with usb := { State.reset.usb with phy := true } }).set F.USB_STATE_CONFIGURED 1; (s.usbLive = true)) ∧
    (let s : State := (({ (((State.reset.set (F.PG_ENABLE 0x0A) 1).set F.USB_STATE_VBUS 1).set F.USB_ID_VID 0x1234).set F.USB_STATE_CONNECTED 1 with usb := { State.reset.usb with phy := true } }).set F.USB_STATE_CONFIGURED 1).set F.USB_STATE_L1 1; (s.clocked .usb = true) ∧ (s.on F.USB_STATE_L1 = true)) ∧
    (let s : State := { ({ (((State.reset.set (F.PG_ENABLE 0x0A) 1).set F.USB_STATE_VBUS 1).set F.USB_ID_VID 0x1234).set F.USB_STATE_CONNECTED 1 with usb := { State.reset.usb with phy := true } }).set F.USB_STATE_SUSPENDED 1 with usb := { State.reset.usb with phy := true, wakeReq := true } }; (s.usb.wakeReq = true) ∧ (s.on F.USB_STATE_CONNECTED = true)) ∧
    (let s : State := State.reset.set F.USB_STATE_SUSPENDED 1; (s.on F.USB_STATE_SUSPENDED = true)) ∧
    (let ini : Fin 5 := 0; let w : Word := 0x5E#32; let s : State := State.reset; (s.mayWrite ini A.USB_WAKE (w ||| 0x20#32) = true)) ∧
    (let s : State := { (((State.reset.set (F.PG_ENABLE 0x0A) 1).set F.USB_STATE_VBUS 1).set F.USB_ID_VID 0x1234).set F.USB_STATE_CONNECTED 1 with usb := { State.reset.usb with phy := true } }; (s.clocked .usb = true) ∧ (s.on F.USB_STATE_CONNECTED = true)) ∧
    (let ini : Fin 5 := 0; let w : Word := 0#32; let s : State := State.reset.set F.USB_COUNT_SUSPENDS 3; (s.mayWrite ini A.USB_CNT_CLR (w ||| 0x1#32) = true)) := by
  and_intros <;> decide +kernel

theorem test_meets_VendorRequests :
    (let value : BitVec 16 := 0x2840#16; let index : BitVec 16 := 0#16; let length : BitVec 16 := 8#16; let s : State := { (((State.reset.set (F.PG_ENABLE 0x0A) 1).set F.USB_STATE_VBUS 1).set F.USB_ID_VID 0x1234).set F.USB_STATE_CONNECTED 1 with usb := { State.reset.usb with phy := true } }; (s.clocked .usb = true) ∧ (s.mgmtRuns = true) ∧ (s.usbLive = true) ∧ (goodLength length.toNat = true) ∧ (∀ k : Nat, k < length.toNat / 4 → (s.refusal 1 false (vendorAddr value index + 4 * k) 0 = 0 ∧ (s.peek (vendorAddr value index + 4 * k)).2 = false ∧ vendorAddr value index + 4 * k ≠ A.SNS_RESULT))) ∧
    (let value : BitVec 16 := 0x2842#16; let index : BitVec 16 := 4#16; let length : BitVec 16 := 7#16; let s : State := { (((State.reset.set (F.PG_ENABLE 0x0A) 1).set F.USB_STATE_VBUS 1).set F.USB_ID_VID 0x1234).set F.USB_STATE_CONNECTED 1 with usb := { State.reset.usb with phy := true } }; (s.clocked .usb = true) ∧ (s.mgmtRuns = true) ∧ (s.usbLive = true) ∧ (goodLength length.toNat = false ∨ s.refusal 1 false (vendorAddr value index) 0 ≠ 0)) ∧
    (let value : BitVec 16 := 0x2858#16; let index : BitVec 16 := 0#16; let data : List Nat := [0x10, 0, 1, 2]; let s : State := { (((State.reset.set (F.PG_ENABLE 0x0A) 1).set F.USB_STATE_VBUS 1).set F.USB_ID_VID 0x1234).set F.USB_STATE_CONNECTED 1 with usb := { State.reset.usb with phy := true } }; (s.clocked .usb = true) ∧ (s.mgmtRuns = true) ∧ (s.usbLive = true) ∧ (data.length = 4) ∧ (heldReg (vendorAddr value index) = true) ∧ (s.mayWrite 1 (vendorAddr value index) ((wordsLe data).getD 0 0) = true)) ∧
    (let value : BitVec 16 := 0x2810#16; let index : BitVec 16 := 0#16; let data : List Nat := [1, 0, 0, 0, 1, 0, 0, 0]; let s : State := { (((State.reset.set (F.PG_ENABLE 0x0A) 1).set F.USB_STATE_VBUS 1).set F.USB_ID_VID 0x1234).set F.USB_STATE_CONNECTED 1 with usb := { State.reset.usb with phy := true } }; (s.clocked .usb = true) ∧ (s.mgmtRuns = true) ∧ (s.usbLive = true) ∧ (data.length = 8) ∧ ((wordsLe data).getD 0 0 ≠ 0) ∧ (heldReg (vendorAddr value index) = true) ∧ (s.mayWrite 1 (vendorAddr value index) (s.rmwWord (vendorAddr value index) ((wordsLe data).getD 0 0) ((wordsLe data).getD 1 0)) = true)) ∧
    (let s : State := { (((State.reset.set (F.PG_ENABLE 0x0A) 1).set F.USB_STATE_VBUS 1).set F.USB_ID_VID 0x1234).set F.USB_STATE_CONNECTED 1 with usb := { State.reset.usb with phy := true } }; (s.clocked .usb = true) ∧ (s.mgmtRuns = true) ∧ (s.usbLive = true)) ∧
    (let s : State := { (((State.reset.set (F.PG_ENABLE 0x0A) 1).set F.USB_STATE_VBUS 1).set F.USB_ID_VID 0x1234).set F.USB_STATE_CONNECTED 1 with usb := { State.reset.usb with phy := true } }; (s.clocked .usb = true) ∧ (s.mgmtRuns = true) ∧ (s.usbLive = true)) ∧
    (let data : List Nat := [0x8C, 2, 0, 0]; let s : State := { (((State.reset.set (F.PG_ENABLE 0x0A) 1).set F.USB_STATE_VBUS 1).set F.USB_ID_VID 0x1234).set F.USB_STATE_CONNECTED 1 with usb := { State.reset.usb with phy := true } }; (s.clocked .usb = true) ∧ (s.mgmtRuns = true) ∧ (s.usbLive = true) ∧ (s.frozen = false) ∧ (data.length = 4)) ∧
    (let s : State := { (((State.reset.set (F.PG_ENABLE 0x0A) 1).set F.USB_STATE_VBUS 1).set F.USB_ID_VID 0x1234).set F.USB_STATE_CONNECTED 1 with usb := { State.reset.usb with phy := true } }; (s.clocked .usb = true) ∧ (s.mgmtRuns = true) ∧ (s.usbLive = true)) ∧
    (let data : List Nat := [0, 0x70, 0, 0, 0, 0x10, 0, 0]; let s : State := { ({ (((State.reset.set (F.PG_ENABLE 0x0A) 1).set F.USB_STATE_VBUS 1).set F.USB_ID_VID 0x1234).set F.USB_STATE_CONNECTED 1 with usb := { State.reset.usb with phy := true } }).set F.DBG_FREEZE_STATUS_STATE 2 with keptMgmt := true, keptUsb := true }; (s.clocked .usb = true) ∧ (s.mgmtRuns = true) ∧ (s.usbLive = true) ∧ (s.frozen = true) ∧ (s.debugOk = true) ∧ (data.length = 8) ∧ (((wordsLe data).getD 0 0).toNat % 4 = 0) ∧ (((wordsLe data).getD 1 0).toNat % 4 = 0) ∧ (0 < ((wordsLe data).getD 1 0).toNat) ∧ (((wordsLe data).getD 0 0).toNat + ((wordsLe data).getD 1 0).toNat ≤ 0x8000)) ∧
    (let data : List Nat := [0, 0, 0, 0, 0, 0x80, 0, 0]; let s : State := { (((State.reset.set (F.PG_ENABLE 0x0A) 1).set F.USB_STATE_VBUS 1).set F.USB_ID_VID 0x1234).set F.USB_STATE_CONNECTED 1 with usb := { State.reset.usb with phy := true } }; (s.clocked .usb = true) ∧ (s.mgmtRuns = true) ∧ (s.usbLive = true) ∧ (s.frozen = false) ∧ (s.debugOk = true) ∧ (data.length = 8) ∧ (((wordsLe data).getD 0 0).toNat = 0) ∧ (((wordsLe data).getD 1 0).toNat = 0x8000)) ∧
    (let s : State := { (({ (((State.reset.set (F.PG_ENABLE 0x0A) 1).set F.USB_STATE_VBUS 1).set F.USB_ID_VID 0x1234).set F.USB_STATE_CONNECTED 1 with usb := { State.reset.usb with phy := true } }).set F.DBG_FREEZE_STATUS_STATE 2).set F.DBG_SNAP_SEL_BANK 26 with keptMgmt := true, keptUsb := true, usb := { State.reset.usb with phy := true, snap := some (0x7FF8, 8, false) } }; (s.clocked .usb = true) ∧ (s.mgmtRuns = true) ∧ (s.usbLive = true) ∧ (s.usbCfg 6 = true) ∧ (s.usb.snap.isSome = true) ∧ (∀ k : Nat, k < min (s.usb.snap.getD (0, 0, true)).2.1 (if s.on F.USB_STATE_HS then 512 else 64) / 4 → (s.refusal 1 false (0x30000 + (s.usb.snap.getD (0, 0, true)).1 + 4 * k) 0 = 0 ∧ (s.peek (0x30000 + (s.usb.snap.getD (0, 0, true)).1 + 4 * k)).2 = false)) ∧ ((s.usb.snap.getD (0, 0, true)).2.2 = false)) := by
  and_intros <;> decide +kernel

theorem test_meets_HistoryStream :
    (let s : State := { { (((State.reset.set (F.PG_ENABLE 0x0A) 1).set F.USB_STATE_VBUS 1).set F.USB_ID_VID 0x1234).set F.USB_STATE_CONNECTED 1 with usb := { State.reset.usb with phy := true } }.set F.LST_STATUS_ARMED 1 with lst := { State.reset.lst with total := 4016000 } }; (s.clocked .usb = true) ∧ (s.mgmtRuns = true) ∧ (s.usbLive = true) ∧ (s.refusal 1 true A.USB_HIST_CTRL 1#32 = 0)) ∧
    (let s : State := { (((State.reset.set (F.PG_ENABLE 0x0A) 1).set F.USB_STATE_VBUS 1).set F.USB_ID_VID 0x1234).set F.USB_STATE_CONNECTED 1 with usb := { State.reset.usb with phy := true } }; (s.clocked .usb = true) ∧ (s.mgmtRuns = true) ∧ (s.usbLive = true) ∧ (s.on F.LST_STATUS_ARMED = false) ∧ (s.on F.MEM_WIPE_STATUS_ALL = false)) ∧
    (let s : State := { { (((State.reset.set (F.PG_ENABLE 0x0A) 1).set F.USB_STATE_VBUS 1).set F.USB_ID_VID 0x1234).set F.USB_STATE_CONNECTED 1 with usb := { State.reset.usb with phy := true } } with lst := { State.reset.lst with hist := { State.reset.lst.hist with on := true } } }; (s.clocked .usb = true) ∧ (s.mgmtRuns = true) ∧ (s.usbLive = true) ∧ (s.refusal 1 true A.USB_HIST_CTRL 2#32 = 0)) ∧
    (let ini : Fin 5 := 0; let w : Word := 0x8#32; let s : State := State.reset.set F.LST_STATUS_ARMED 1; (s.mayWrite ini A.USB_HIST_CTRL (w ||| 0x1#32) = true) ∧ (bits w 1 1 = 0)) ∧
    (let ini : Fin 5 := 0; let w : Word := 0#32; let s : State := { State.reset with lst := { State.reset.lst with hist := { State.reset.lst.hist with on := true } } }; (s.mayWrite ini A.USB_HIST_CTRL (w ||| 0x2#32) = true) ∧ (bits w 0 1 = 0)) ∧
    (let s : State := { { (((State.reset.set (F.PG_ENABLE 0x0A) 1).set F.USB_STATE_VBUS 1).set F.USB_ID_VID 0x1234).set F.USB_STATE_CONNECTED 1 with usb := { State.reset.usb with phy := true } } with lst := { State.reset.lst with total := 512, hist := { State.reset.lst.hist with on := true, next := 1, live := 2, half := true } } }; (s.clocked .usb = true) ∧ (s.frozen = false) ∧ (s.usbBulk = true) ∧ (s.lst.hist.on = true) ∧ (s.lst.hist.ending = false) ∧ (s.lst.hist.out = []) ∧ (256 * (s.lst.hist.next + 1) ≤ s.lst.total)) ∧
    (let s : State := { { (((State.reset.set (F.PG_ENABLE 0x0A) 1).set F.USB_STATE_VBUS 1).set F.USB_ID_VID 0x1234).set F.USB_STATE_CONNECTED 1 with usb := { State.reset.usb with phy := true } } with lst := { State.reset.lst with hist := { State.reset.lst.hist with on := true, out := List.replicate 512 7 } } }; (s.clocked .usb = true) ∧ (s.frozen = false) ∧ (s.usbBulk = true) ∧ ((if s.on F.USB_STATE_HS then 512 else 64) ≤ s.lst.hist.out.length)) ∧
    (let s : State := { { (((State.reset.set (F.PG_ENABLE 0x0A) 1).set F.USB_STATE_VBUS 1).set F.USB_ID_VID 0x1234).set F.USB_STATE_CONNECTED 1 with usb := { State.reset.usb with phy := true } } with lst := { State.reset.lst with hist := { State.reset.lst.hist with on := true, ending := true, out := List.replicate 20 7 } } }; (s.clocked .usb = true) ∧ (s.frozen = false) ∧ (s.usbBulk = true) ∧ (s.lst.hist.ending = true) ∧ (s.lst.hist.out.length < (if s.on F.USB_STATE_HS then 512 else 64))) := by
  and_intros <;> decide +kernel

theorem test_meets_ListeningControl :
    (let ini : Fin 5 := 0; let w : Word := 0#32; let s : State := { ((State.reset.set (F.PG_ENABLE 0x0C) 1).set (F.PG_ENABLE 0x29) 1).set F.CLK_FLL_STATUS_LOCKED 1 with lst := { State.reset.lst with phase := .listening, total := 4013600 } }; (s.mayWrite ini (0x0C * 0x400 + 4) w = true) ∧ (s.on (F.PG_ENABLE 0x0C) ≠ decide (bits w 0 1 = 1)) ∧ (bits w 2 1 = 0)) ∧
    (let s : State := { ((State.reset.set (F.PG_ENABLE 0x0C) 1).set (F.PG_ENABLE 0x29) 1).set F.CLK_FLL_STATUS_LOCKED 1 with lst := { State.reset.lst with phase := .starting, total := 4013600 } }; (s.clocked .listen = true) ∧ (s.lst.phase = .starting) ∧ (s.lstClock = true)) ∧
    (let s : State := { ((State.reset.set (F.PG_ENABLE 0x0C) 1).set (F.PG_ENABLE 0x29) 1).set F.CLK_FLL_STATUS_LOCKED 1 with lst := { State.reset.lst with phase := .listening, total := 4013600 } }; (s.clocked .listen = true)) ∧
    (let s : State := { { ((State.reset.set (F.PG_ENABLE 0x0C) 1).set (F.PG_ENABLE 0x29) 1).set F.CLK_FLL_STATUS_LOCKED 1 with lst := { State.reset.lst with phase := .listening, total := 4013600 } }.set F.LST_CFG_FORCE_STOP 2 with lst := { State.reset.lst with phase := .listening, due := true } }; (s.clocked .listen = true) ∧ (s.lst.phase = .listening) ∧ (s.lst.due = true) ∧ (s.on F.LST_STATUS_VOICE = false)) ∧
    (let s : State := (({ ((State.reset.set (F.PG_ENABLE 0x0C) 1).set (F.PG_ENABLE 0x29) 1).set F.CLK_FLL_STATUS_LOCKED 1 with lst := { State.reset.lst with phase := .listening, total := 4013600 } }).set F.LST_CFG_FORCE_STOP 2).set F.LST_STATUS_DEFER_PENDING 1; (s.clocked .listen = true) ∧ (s.on F.LST_STATUS_DEFER_PENDING = true)) ∧
    (let ini : Fin 5 := 0; let w : Word := 0#32; let s : State := { State.reset.set F.LST_STATUS_ARMED 1 with sram := [(196608, 5#32), (212991, 9#32), (400000, 7#32)] }; (s.mayWrite ini A.LST_CTRL (w ||| 0x2#32) = true) ∧ (bits w 2 1 = 0)) ∧
    (let s : State := State.reset.set F.LST_STATUS_ARMED 1; (s.clocked .listen = true) ∧ (s.on F.LST_STATUS_ARMED = true) ∧ (s.lst.hist.on = false) ∧ (0 < s.get F.LST_CFG_ARM_TIMEOUT)) ∧
    (let ini : Fin 5 := 0; let w : Word := 0#32; let s : State := State.reset.set F.LST_COUNT_WAKES 3; (s.mayWrite ini A.LST_CTRL (w ||| 0x4#32) = true) ∧ (bits w 1 1 = 0)) := by
  and_intros <;> decide +kernel

theorem test_meets_ListeningDetection :
    (let s : State := { ((State.reset.set (F.PG_ENABLE 0x0C) 1).set (F.PG_ENABLE 0x29) 1).set F.CLK_FLL_STATUS_LOCKED 1 with lst := { State.reset.lst with phase := .listening, total := 4013600 } }; (s.clocked .listen = true) ∧ (s.clocked .engine = true) ∧ (s.lstClock = true) ∧ (s.lst.phase.writes = true)) ∧
    (let s : State := { ({ ((State.reset.set (F.PG_ENABLE 0x0C) 1).set (F.PG_ENABLE 0x29) 1).set F.CLK_FLL_STATUS_LOCKED 1 with lst := { State.reset.lst with phase := .listening, total := 4013600 } }) with domState := 2 }; (s.clocked .listen = true) ∧ (s.clocked .engine = false) ∧ (s.lstClock = true) ∧ (s.lstEnabled = true) ∧ (s.lstBad = false) ∧ (s.pdmHeld = false) ∧ (s.lst.phase = .listening)) ∧
    (let s : State := State.reset; (s.clocked .engine = true) ∧ (s.lst.phase.writes = false)) ∧
    (let s : State := { { ((State.reset.set (F.PG_ENABLE 0x0C) 1).set (F.PG_ENABLE 0x29) 1).set F.CLK_FLL_STATUS_LOCKED 1 with lst := { State.reset.lst with phase := .listening, total := 4013600 } } with lst := { State.reset.lst with phase := .listening, acc := List.replicate 160 90000000, total := 161 } }; (s.clocked .listen = true) ∧ (160 ≤ s.lst.acc.length) ∧ (s.lst.phase.writes = true)) ∧
    (let s : State := { { ((State.reset.set (F.PG_ENABLE 0x0C) 1).set (F.PG_ENABLE 0x29) 1).set F.CLK_FLL_STATUS_LOCKED 1 with lst := { State.reset.lst with phase := .listening, total := 4013600 } } with lst := { State.reset.lst with phase := .listening, onset := 3 } }; (s.clocked .listen = true) ∧ (s.vadDue = true) ∧ (s.pwrStep = 0)) ∧
    (let s : State := { ({ ((State.reset.set (F.PG_ENABLE 0x0C) 1).set (F.PG_ENABLE 0x29) 1).set F.CLK_FLL_STATUS_LOCKED 1 with lst := { State.reset.lst with phase := .listening, total := 4013600 } }).set F.LST_STATUS_VOICE 1 with lst := { State.reset.lst with phase := .listening, quiet := 30 } }; (s.clocked .listen = true) ∧ (s.on F.LST_STATUS_VOICE = true) ∧ (s.get F.LST_VAD_HANG ≤ s.lst.quiet) ∧ (0 < s.lst.quiet)) ∧
    (let s : State := { ((({ ((State.reset.set (F.PG_ENABLE 0x0C) 1).set (F.PG_ENABLE 0x29) 1).set F.CLK_FLL_STATUS_LOCKED 1 with lst := { State.reset.lst with phase := .listening, total := 4013600 } }).set F.LST_STATUS_VOICE 1).set F.LST_MODEL_STATUS_STATE 2).set F.LST_SPOT_DET_HOLD 3 with lst := { State.reset.lst with phase := .listening, runs := [0, 1, 3], scores := [0, 5, 70] } }; (s.clocked .listen = true) ∧ (s.spotClass.isSome = true)) ∧
    (let ini : Fin 5 := 0; let w : Word := 0#32; let s : State := State.reset; (s.mayWrite ini A.LST_MODEL_CTRL (w ||| 0x1#32) = true) ∧ (bits w 1 1 = 0)) ∧
    (let ini : Fin 5 := 0; let k : Fin 32 := 31; let w : Word := 0x544F5053#32; let s : State := (State.reset.set F.LST_MODEL_STATUS_STATE 1); (s.mayWrite ini (A.LST_MODEL_WIN k) w = true) ∧ (s.get F.LST_MODEL_STATUS_STATE = 1)) ∧
    (let ini : Fin 5 := 0; let w : Word := 0#32; let s : State := { State.reset.set F.LST_MODEL_STATUS_STATE 1 with lst := { State.reset.lst with ptr := 40000, top := some 9 } }; (s.mayWrite ini A.LST_MODEL_CTRL (w ||| 0x2#32) = true) ∧ (bits w 0 1 = 0) ∧ (s.get F.LST_MODEL_STATUS_STATE = 1)) ∧
    (let s : State := { State.reset.set F.LST_MODEL_STATUS_STATE 1 with lst := { State.reset.lst with ptr := 20, ended := true } }; (s.clocked .listen = true) ∧ (s.get F.LST_MODEL_STATUS_STATE = 1) ∧ (s.lst.ended = true)) := by
  and_intros <;> decide +kernel

theorem test_meets_SenseSequence :
    (let ini : Fin 5 := 0; let w : Word := 0x2110#32; let s : State := ((State.reset.set F.SNS_SEQ_CTRL_RUN 1).set F.SNS_SEQ_STATUS_STATE 2); (s.mayWrite ini A.SNS_SEQ_CTRL w = true) ∧ (bits w 1 2 = 0)) ∧
    (let ini : Fin 5 := 0; let w : Word := 0x2001#32; let s : State := State.reset.setReg (A.SNS_SEQ 0) 0x00301325#32; (s.mayWrite ini A.SNS_SEQ_CTRL (w ||| 0x2#32) = true) ∧ (bits w 2 1 = 0) ∧ (bits w 0 1 = 1) ∧ (s.clocked .sense = true) ∧ (s.on (F.PG_ENABLE 0x0B) = true)) ∧
    (let s : State := (State.reset.set F.SNS_SEQ_CTRL_RUN 1).set F.SNS_SEQ_CTRL_TRIG_SRC 1; (s.snsHears = true) ∧ (s.get F.SNS_SEQ_CTRL_TRIG_SRC = 1 ∨ s.get F.SNS_SEQ_CTRL_TRIG_SRC = 2) ∧ (s.get F.SNS_SEQ_CTRL_TRIG_DIV ≤ s.get F.SNS_SEQ_STATUS_DIV_COUNT)) ∧
    (let s : State := ((State.reset.set F.SNS_SEQ_CTRL_RUN 1).set F.SNS_SEQ_CTRL_TRIG_SRC 1).set F.SNS_SEQ_CTRL_TRIG_DIV 1; (s.snsHears = true) ∧ (s.get F.SNS_SEQ_CTRL_TRIG_SRC = 1 ∨ s.get F.SNS_SEQ_CTRL_TRIG_SRC = 2) ∧ (s.get F.SNS_SEQ_STATUS_DIV_COUNT < s.get F.SNS_SEQ_CTRL_TRIG_DIV)) ∧
    (let ini : Fin 5 := 0; let w : Word := 1#32; let s : State := { ((State.reset.set F.SNS_SEQ_CTRL_RUN 1).set F.SNS_SEQ_STATUS_STATE 2) with sns := { State.reset.sns with entry := some (2, 0x101325#32) } }; (s.mayWrite ini A.SNS_SEQ_CTRL (w ||| 0x4#32) = true) ∧ (bits w 1 1 = 0) ∧ (s.snsState = 2)) ∧
    (let k : Fin 4 := 1; let w : Word := 0x80001301#32; let s : State := { State.reset with sns := { State.reset.sns with conv := .drone 1 0x80001301#32 } }; (s.clocked .sense = true) ∧ (s.snsRuns = true) ∧ (s.sns.conv = .drone k w) ∧ (snsCh w ≠ 10 ∧ snsCh w ≠ 11)) ∧
    (let k : Fin 16 := 0; let w : Word := 0x201000#32; let s : State := { ((State.reset.set F.SNS_SEQ_CTRL_RUN 1).set F.SNS_SEQ_STATUS_STATE 2) with sns := { State.reset.sns with conv := .seq 0 0x201000#32, entry := some (0, 0x201000#32), last := 1 } }; (s.clocked .sense = true) ∧ (s.snsRuns = true) ∧ (s.sns.conv = .seq k w) ∧ (bits w 21 1 = 1) ∧ (snsCh w ≠ 10 ∧ snsCh w ≠ 11)) ∧
    (let w : Word := 0x1000#32; let s : State := { State.reset.set (.mk A.SNS_URGENT 25 1) 1 with sns := { State.reset.sns with conv := .urgent 0x1000#32 } }; (s.clocked .sense = true) ∧ (s.snsRuns = true) ∧ (s.sns.conv = .urgent w) ∧ (snsCh w ≠ 10 ∧ snsCh w ≠ 11)) ∧
    (let k : Fin 16 := 2; let w : Word := 0x302325#32; let s : State := { State.reset.set F.SNS_SEQ_STATUS_STATE 2 with sns := { State.reset.sns with entry := some (2, 0x302325#32), last := 2, n := 81887 } }; (s.clocked .sense = true) ∧ (s.sns.entry = some (k.val, w)) ∧ (snsIsInt w = true) ∧ (s.sns.wins + 1 < snsTime w)) ∧
    (let k : Fin 16 := 2; let w : Word := 0x301325#32; let s : State := { (State.reset.set F.SNS_SEQ_STATUS_STATE 2).set F.BLW_RES_CFG_E_MAX 1000 with sns := { State.reset.sns with entry := some (2, 0x301325#32), last := 2, n := 81887, pCnt := 20, pSum := 180000000 } }; (s.clocked .sense = true) ∧ (s.sns.entry = some (k.val, w)) ∧ (snsIsInt w = true) ∧ (snsTime w ≤ s.sns.wins + 1) ∧ (snsCh w ≠ 10 ∧ snsCh w ≠ 11)) ∧
    (let s : State := { ((State.reset.set F.SNS_SEQ_CTRL_RUN 1).set F.SNS_SEQ_STATUS_STATE 2) with sns := { State.reset.sns with ended := true } }; (s.clocked .sense = true) ∧ (s.sns.ended = true) ∧ (s.snsState = 2)) := by
  and_intros <;> decide +kernel

theorem test_meets_SenseRequests :
    (let ini : Fin 5 := 0; let w : Word := 0x4002#32; let s : State := State.reset; (s.mayWrite ini A.SNS_URGENT (w ||| 0x1000000#32) = true) ∧ (s.on (F.PG_ENABLE 0x0B) = true) ∧ (bits w 0 6 ≠ 39)) ∧
    (let ini : Fin 5 := 1; let s : State := State.reset.setReg A.SNS_RESULT 0x8000002A#32; (s.pathOpen ini = true) ∧ (s.refusal ini false A.SNS_RESULT 0 = 0) ∧ (s.frozen = false) ∧ (s.mustWait ini.val false A.SNS_RESULT = false)) ∧
    (let ini : Fin 5 := 4; let s : State := { State.reset with stalled := [.read 0x40 1] }; (ini.val = 4) ∧ (s.pathOpen 4 = true) ∧ (s.mustWait 4 false A.SNS_RESULT = true)) ∧
    (let ini : Fin 5 := 0; let k : Fin 4 := 2; let w : Word := 0x80001025#32; let s : State := State.reset; (s.mayWrite ini (A.SNS_DRONE_CFG k) w = true)) ∧
    (let ini : Fin 5 := 0; let w : Word := 0x723FF#32; let s : State := State.reset; (s.mayWrite ini A.SNS_PP_CTRL w = true)) ∧
    (let ini : Fin 5 := 0; let w : Word := 0xF04#32; let s : State := State.reset; (s.mayWrite ini A.SNS_DIAG_CTRL (w ||| 0x1#32) = true) ∧ (s.on (F.PG_ENABLE 0x0B) = true) ∧ (s.on F.SNS_DIAG_STATUS_BUSY = false)) ∧
    (let s : State := { State.reset with sns := { State.reset.sns with diag := some (0, 0), diagRun := true } }; (s.clocked .sense = true) ∧ (s.snsRuns = true) ∧ (s.sns.diagRun = true) ∧ ((match s.sns.diag with | some e => decide (e.1 = 0) | none => false) = true)) ∧
    (let s : State := { State.reset.set F.SNS_PP_CTRL_BUSY 1 with sns := { State.reset.sns with diag := some (1, 7), diagRun := true } }; (s.clocked .sense = true) ∧ (s.snsRuns = true) ∧ (s.sns.diagRun = true) ∧ ((match s.sns.diag with | some e => decide (e.1 ≠ 0) | none => false) = true) ∧ (s.sns.inject = none)) ∧
    (let a : Int := 16000; let b : Int := 20000; let s : State := { State.reset with sns := { State.reset.sns with diag := some (1, 7), diagRun := true } }; (s.clocked .sense = true) ∧ (s.snsRuns = true) ∧ (s.sns.diagRun = true) ∧ (s.sns.inject = some a ∨ s.sns.inject = none) ∧ ((match s.sns.diag with | some e => decide (e.1 ≠ 0) | none => false) = true) ∧ (18 * a ≤ 655360) ∧ (16 < b - a) ∧ (b < 64 * injCode a)) ∧
    (let a : Fin 18 := 17; let s : State := { State.reset.setAsl 17 3 with sns := { State.reset.sns with adcTest := some 17 } }; (s.clocked .sense = true) ∧ (s.snsRuns = true) ∧ (s.sns.adcTest = some a.val) ∧ (s.asl a ≠ 1)) ∧
    (let d : Fin 10 := 9; let s : State := { State.reset.setDsl 9 3 with sns := { State.reset.sns with dacTest := some 9 } }; (s.clocked .sense = true) ∧ (s.snsRuns = true) ∧ (s.sns.dacTest = some d.val) ∧ (s.dsl d ≠ 1)) ∧
    (let ini : Fin 5 := 0; let w : Word := 0#32; let s : State := State.reset.set F.SNS_COUNT_SEQ_DONE 2; (s.mayWrite ini A.SNS_CNT_CLR (w ||| 0x1#32) = true)) := by
  and_intros <;> decide +kernel

theorem test_meets_PowerEntry :
    (let ini : Fin 5 := 0; let w : Word := 0x2#32; let s : State := State.reset; (s.mayWrite ini A.PWR_CTRL (w ||| 0x10#32) = true) ∧ (bits w 5 1 = 0) ∧ (s.lcy.trans = false)) ∧
    (let ini : Fin 5 := 0; let w : Word := 2#32; let s : State := ((State.reset.set F.PWR_STATE_BUSY 1).set F.PWR_STATE_STEP 1).set F.PWR_STATE_TARGET_NOW 2; (s.mayWrite ini A.PWR_CTRL (w ||| 0x20#32) = true) ∧ (bits w 4 1 = 0)) ∧
    (let ini : Fin 5 := 0; let w : Word := 0#32; let s : State := State.reset.set F.PWR_COUNT_ABORTS 3; (s.mayWrite ini A.PWR_ACCT_CLR (w ||| 0x1#32) = true)) ∧
    (let silent : Nat := 0; let s : State := ((State.reset.set F.PWR_STATE_BUSY 1).set F.PWR_STATE_STEP 1).set F.PWR_STATE_TARGET_NOW 2; (s.pwrStep = 1) ∧ (s.pwr.frozen = false) ∧ (s.pwr.refused = 0) ∧ (silent % 2 ^ 30 = 0) ∧ (∀ p : Nat, p < 8 → (s.sapAt p).phase ≠ .quiescing) ∧ (s.abortCause = none) ∧ (1 ≤ s.pwrTarget) ∧ (s.pwr.waking = none)) ∧
    (let silent : Nat := 0; let s : State := { ((State.reset.set F.PWR_STATE_BUSY 1).set F.PWR_STATE_STEP 1).set F.PWR_STATE_TARGET_NOW 2 with pwr := { State.reset.pwr with refused := 8 } }; (s.pwrStep = 1) ∧ (s.pwr.frozen = false) ∧ (s.pwr.start = 0) ∧ (0 < s.pwr.refused) ∧ (s.pwr.refused < 2 ^ 30) ∧ (silent = 0) ∧ (s.pwr.s5 = false) ∧ (∀ p : Nat, p < 8 → (s.sapAt p).phase ≠ .quiescing)) ∧
    (let s : State := { ((State.reset.set F.PWR_STATE_BUSY 1).set F.PWR_STATE_STEP 6).set F.PWR_STATE_TARGET_NOW 3 with gated := true }; (s.pwrStep = 6) ∧ (s.frozen = false) ∧ (s.pwrTarget = 2 ∨ s.pwrTarget = 3 ∨ s.pwrTarget = 4 ∨ s.pwrTarget = 5) ∧ (s.pwr.waking = none) ∧ (s.pins.wakeLow = false)) := by
  and_intros <;> decide +kernel

theorem test_meets_PowerWake :
    (let code : Nat := 1; let s : State := { State.reset.set F.PWR_STATE_STATE 2 with domState := 2 }; (s.wakeEnabled code = true) ∧ (code = 10 → s.notifyWord ≠ 0) ∧ (1 ≤ code ∧ code ≤ 11) ∧ (1 ≤ s.domState ∨ s.pwrBusy = true) ∧ (s.domState ≤ 4) ∧ (wakeActs code (if s.pwrStep = 0 then s.domState else s.pwrTarget) = true)) ∧
    (let s : State := { State.reset.set F.PWR_STATE_STATE 2 with domState := 2 }.set F.PWR_WAKE_TIMER_MS 100; (s.pwrStep = 0) ∧ (s.pwrBusy = false) ∧ (1 ≤ s.domState) ∧ (s.domState ≤ 4) ∧ (0 < s.get F.PWR_WAKE_TIMER_MS)) ∧
    (let s : State := { State.reset.set F.PWR_STATE_STATE 2 with domState := 2 }; (1 ≤ s.domState) ∧ (s.domState ≤ 4) ∧ (s.pwrStep = 0) ∧ (s.pwrBusy = false) ∧ (s.pins.wakeLow = false)) ∧
    (let s : State := { State.reset with domState := 5 }; (s.domState = 5) ∧ (s.pins.wakeLow = false)) ∧
    (let s : State := { State.reset with pins := { State.reset.pins with wakeLow := true } }; (s.pins.wakeLow = true ∨ s.domState = 0)) ∧
    (let pgood : Bool := false; let s : State := { (State.reset.set F.PWR_STATE_STATE 2).set F.PWR_STATE_BUSY 1 with domState := 2, engStop := true, pwr := { State.reset.pwr with waking := some 4 } }; (pgood = false) ∧ (s.domState ≠ 1)) ∧
    (let pgood : Bool := true; let s : State := { (State.reset.set F.PWR_STATE_STATE 2).set F.PWR_STATE_BUSY 1 with domState := 2, engStop := true, pwr := { State.reset.pwr with waking := some 4 } }; (pgood = true ∨ s.domState = 1) ∧ (s.pwr.waking.isSome = true) ∧ (s.pwrBusy = true) ∧ (s.pwrStep = 0) ∧ (1 ≤ s.domState) ∧ (s.domState ≤ 4) ∧ (s.frozen = false)) := by
  and_intros <;> decide +kernel

theorem test_meets_RegulatorLink :
    (let why : Nat := 1; let s : State := { State.reset.set F.PMB_CFG_EN 1 with pmb := { State.reset.pmb with linkDue := true } }; (s.mgmtRuns = true) ∧ (s.domState ≤ 2) ∧ (s.on F.PMB_CFG_EN = true) ∧ (s.pmb.linkDue = true) ∧ (why = 1 ∨ why = 3 ∨ (why = 2 ∧ s.on F.PMB_CFG_PEC = true))) ∧
    (let why : Nat := 0; let s : State := { State.reset.set F.PMB_CFG_EN 1 with pmb := { State.reset.pmb with linkDue := true } }; (s.mgmtRuns = true) ∧ (s.domState ≤ 2) ∧ (s.on F.PMB_CFG_EN = true) ∧ (s.pmb.linkDue = true) ∧ (why = 0 ∨ (why = 2 ∧ s.on F.PMB_CFG_PEC = false))) ∧
    (let s : State := { ((State.reset.set F.PMB_CFG_EN 1).set F.PMB_MODE_VOUT_MODE 0x14).set F.PMB_MODE_VALID 1 with pmb := { State.reset.pmb with phase := .send, kind := .raise, op := 3 } }; (s.mgmtRuns = true) ∧ (s.pmb.phase = .send) ∧ (s.linkOn = true) ∧ (s.on F.PMB_MODE_VALID = true) ∧ (s.opNext = none) ∧ (s.pmb.kind ≠ .lower ∨ s.opNow ≤ s.pmb.op) ∧ (s.pmb.kind ≠ .off)) ∧
    (let s : State := { ((State.reset.set F.PMB_CFG_EN 1).set F.PMB_MODE_VOUT_MODE 0x14).set F.PMB_MODE_VALID 1 with pmb := { State.reset.pmb with phase := .send, kind := .off } }; (s.mgmtRuns = true) ∧ (s.pmb.phase = .send) ∧ (s.linkOn = true) ∧ (s.opNext = none) ∧ (s.pmb.kind = .off)) ∧
    (let s : State := { { (((State.reset.set F.PMB_CFG_EN 1).set F.PMB_MODE_VOUT_MODE 0x14).set F.PMB_MODE_VALID 1).set F.PMB_STATUS_BUSY 1 with pmb := { State.reset.pmb with phase := .settle, kind := .raise, op := 3 } } with pmb := { State.reset.pmb with phase := .settle, kind := .off } }; (s.pmb.kind = .off)) ∧
    (let s : State := { (((State.reset.set F.PMB_CFG_EN 1).set F.PMB_MODE_VOUT_MODE 0x14).set F.PMB_MODE_VALID 1).set F.PMB_STATUS_BUSY 1 with pmb := { State.reset.pmb with phase := .settle, kind := .raise, op := 3 } }; (s.mgmtRuns = true) ∧ (s.pmb.phase = .settle ∨ s.pmb.phase = .poll) ∧ (s.pmb.kind ≠ .off)) ∧
    (let vout : Nat := 0x0E5C; let s : State := { (((State.reset.set F.PMB_CFG_EN 1).set F.PMB_MODE_VOUT_MODE 0x14).set F.PMB_MODE_VALID 1).set F.PMB_STATUS_BUSY 1 with pmb := { State.reset.pmb with phase := .settle, kind := .raise, op := 3 } }; (s.mgmtRuns = true) ∧ (s.pmb.phase = .settle ∨ s.pmb.phase = .poll) ∧ (voutClose s.voutExp s.pmb.op (vout % 2 ^ 16) = true) ∧ (s.on (recStuck 1) = false) ∧ (s.pmb.kind = .raise ∨ s.pmb.kind = .lower)) ∧
    (let vout : Nat := 0; let s : State := { ({ (((State.reset.set F.PMB_CFG_EN 1).set F.PMB_MODE_VOUT_MODE 0x14).set F.PMB_MODE_VALID 1).set F.PMB_STATUS_BUSY 1 with pmb := { State.reset.pmb with phase := .settle, kind := .raise, op := 3 } }).set F.PWR_STATE_STEP 5 with pmb := { State.reset.pmb with phase := .settle, kind := .off } }; (s.mgmtRuns = true) ∧ (s.pmb.phase = .settle ∨ s.pmb.phase = .poll) ∧ (s.on (recStuck 1) = false) ∧ (s.pmb.kind = .off ∨ (s.pmb.kind = .s5 ∧ voutClose s.voutExp s.pmb.op (vout % 2 ^ 16) = true)) ∧ (s.pwrStep = 5) ∧ (s.pwr.frozen = false) ∧ (s.abortCause = none)) ∧
    (let why : Nat := 2; let s : State := { (((State.reset.set F.PMB_CFG_EN 1).set F.PMB_MODE_VOUT_MODE 0x14).set F.PMB_MODE_VALID 1).set F.PMB_STATUS_BUSY 1 with pmb := { State.reset.pmb with phase := .settle, kind := .raise, op := 3 } }; (why = 2) ∧ (s.on F.PMB_CFG_PEC = false ∨ s.pmb.kind = .off)) ∧
    (let why : Nat := 0; let s : State := { ({ (((State.reset.set F.PMB_CFG_EN 1).set F.PMB_MODE_VOUT_MODE 0x14).set F.PMB_MODE_VALID 1).set F.PMB_STATUS_BUSY 1 with pmb := { State.reset.pmb with phase := .settle, kind := .raise, op := 3 } }).set F.PWR_STATE_STEP 5 with pmb := { State.reset.pmb with phase := .poll, kind := .s5, again := true }, pwr := { State.reset.pwr with s5 := true } }; (s.mgmtRuns = true) ∧ (s.pmb.phase = .settle ∨ s.pmb.phase = .poll) ∧ (s.pmb.again = true) ∧ (s.pmb.kind = .s5 ∨ s.pmb.kind = .off) ∧ (why ≠ 2 ∨ (s.on F.PMB_CFG_PEC = true ∧ s.pmb.kind ≠ .off)) ∧ (s.pwrStep = 5) ∧ (s.pwr.frozen = false) ∧ (s.pwr.s5 = true)) ∧
    (let why : Nat := 1; let s : State := { (((State.reset.set F.PMB_CFG_EN 1).set F.PMB_MODE_VOUT_MODE 0x14).set F.PMB_MODE_VALID 1).set F.PMB_STATUS_BUSY 1 with pmb := { State.reset.pmb with phase := .settle, kind := .raise, op := 3 } }; (s.mgmtRuns = true) ∧ (s.pmb.phase = .settle ∨ s.pmb.phase = .poll) ∧ (s.pmb.again = false) ∧ (why ≠ 2 ∨ (s.on F.PMB_CFG_PEC = true ∧ s.pmb.kind ≠ .off))) ∧
    (let why : Nat := 0; let s : State := { { (((State.reset.set F.PMB_CFG_EN 1).set F.PMB_MODE_VOUT_MODE 0x14).set F.PMB_MODE_VALID 1).set F.PMB_STATUS_BUSY 1 with pmb := { State.reset.pmb with phase := .settle, kind := .raise, op := 3 } } with pmb := { State.reset.pmb with phase := .poll, kind := .raise, op := 3, again := true } }; (s.mgmtRuns = true) ∧ (s.pmb.phase = .settle ∨ s.pmb.phase = .poll) ∧ (s.pmb.again = true) ∧ (s.pmb.kind = .raise ∨ s.pmb.kind = .lower) ∧ (why ≠ 2 ∨ s.on F.PMB_CFG_PEC = true)) ∧
    (let ini : Fin 5 := 0; let w : Word := 0#32; let s : State := ((State.reset.set F.PMB_CFG_EN 1).set F.PMB_MODE_VOUT_MODE 0x14).set F.PMB_MODE_VALID 1; (s.mayWrite ini A.PMB_CMD (w ||| 0x2#32) = true) ∧ (s.linkOn = true) ∧ (bits w 0 1 = 0)) ∧
    (let ini : Fin 5 := 0; let w : Word := 0#32; let s : State := ((State.reset.set F.PMB_CFG_EN 1).set F.PMB_MODE_VOUT_MODE 0x14).set F.PMB_MODE_VALID 1; (s.mayWrite ini A.PMB_CMD (w ||| 0x1#32) = true) ∧ (bits w 1 1 = 0) ∧ (s.linkOn = true)) ∧
    (let ini : Fin 5 := 0; let w : Word := 0#32; let s : State := State.reset.set F.PMB_COUNT_REQUESTS 9; (s.mayWrite ini A.PMB_CNT_CLR (w ||| 0x1#32) = true)) := by
  and_intros <;> decide +kernel

theorem test_meets_BudgetTick :
    (let s : State := (State.reset.set F.BLW_SAG_STATUS_WARN_NOW 1).set F.BLW_ALLOT_P_SAG 120; (s.domState = 0) ∧ (s.gated = false) ∧ (s.frozen = false)) ∧
    (let s : State := { State.reset with domState := 1 }; (s.domState ≠ 0 ∨ s.gated = true ∨ s.frozen = true)) ∧
    (let s : State := { (State.reset.set F.CLK_ENGINE_OP_NOW 3) with blw := { State.reset.blw with low := 50 } }; (s.blwRuns = true) ∧ (s.get F.BLW_OP_LOWER_HOLD ≤ s.blw.low) ∧ (s.pwrBusy = false) ∧ (s.on F.PMB_STATUS_BUSY = false) ∧ (s.on F.PMB_STATUS_BACKOFF = false) ∧ (s.tkoOn = false) ∧ (s.opNext = none) ∧ (s.opNeed (vget s.grants 0 0) < s.opNow)) ∧
    (let s : State := State.reset; (s.blw.low < s.get F.BLW_OP_LOWER_HOLD ∨ s.pwrBusy = true ∨ s.on F.PMB_STATUS_BUSY = true ∨ s.on F.PMB_STATUS_BACKOFF = true ∨ s.tkoOn = true ∨ s.opNow ≤ s.opNeed (vget s.grants 0 0))) ∧
    (let s : State := { (State.reset.set F.BLW_STATUS_TRIP_NOW 1).set (F.PG_FAULT 0x02) 1 with blw := { State.reset.blw with cool := 1000 } }; (s.on F.BLW_STATUS_TRIP_NOW = true) ∧ (1000 ≤ s.blw.cool)) ∧
    (let s : State := { State.reset with blw := { State.reset.blw with overs := 100 } }; (100 ≤ s.blw.overs)) ∧
    (let s : State := State.reset; (s.on F.BLW_STATUS_COLD = true)) := by
  and_intros <;> decide +kernel

theorem test_meets_SagAndFloors :
    (let s : State := State.reset; (s.clocked .sense = true) ∧ (s.on F.BLW_SAG_STATUS_WARN_NOW = false)) ∧
    (let s : State := State.reset.set F.BLW_SAG_STATUS_WARN_NOW 1; (s.on F.BLW_SAG_STATUS_WARN_NOW = true)) ∧
    (let s : State := { State.reset.set F.BLW_SAG_STATUS_WARN_NOW 1 with blw := { State.reset.blw with good := 50 } }; (s.on F.BLW_SAG_STATUS_WARN_NOW = true) ∧ (50 ≤ s.blw.good)) ∧
    (let s : State := State.reset.set F.BLW_SAG_STATUS_WARN_NOW 1; (s.blw.good < 50)) ∧
    (let s : State := State.reset; (s.domState ≤ 1) ∧ (s.pins.crit = false)) ∧
    (let s : State := { State.reset.set F.JCK_HOLD_STATUS_VHOLD_OK 1 with pins := { State.reset.pins with crit := true } }; (s.pins.crit = true) ∧ (s.on F.JCK_HOLD_STATUS_VHOLD_OK = true) ∧ (s.domState ≤ 4)) ∧
    (let s : State := { ((State.reset.set F.PMB_STATUS_PGOOD_NOW 1).set F.CLK_ENGINE_OP_NOW 3) with opNext := some 2 }; (s.domState ≤ 1) ∧ (s.mgmtRuns = true) ∧ (s.pmb.kind = .off ∨ (s.pmb.phase ≠ .settle ∧ s.pmb.phase ≠ .poll ∧ (s.pmb.phase = .send → s.pmb.again = false)))) ∧
    (let s : State := { State.reset.set F.PMB_STATUS_PGOOD_NOW 1 with pmb := { State.reset.pmb with phase := .settle } }; (s.domState ≤ 1) ∧ (s.mgmtRuns = true) ∧ (s.pmb.kind ≠ .off) ∧ (s.pmb.phase = .settle ∨ s.pmb.phase = .poll ∨ (s.pmb.phase = .send ∧ s.pmb.again = true))) ∧
    (let ini : Fin 5 := 0; let r : BlwReg := .allot; let w : Word := 0x00C80190#32; let s : State := State.reset; (s.mayWrite ini (blwAddr r) w = true) ∧ ((s.setReg (blwAddr r) (s.taken (blwAddr r) w)).floorCheck = none)) ∧
    (let ini : Fin 5 := 0; let r : BlwReg := .allot; let w : Word := 0x00070190#32; let s : State := State.reset; (s.mayWrite ini (blwAddr r) w = true) ∧ ((s.setReg (blwAddr r) (s.taken (blwAddr r) w)).floorCheck.isSome = true)) ∧
    (let ini : Fin 5 := 0; let w : Word := 0#32; let s : State := State.reset.set F.BLW_STATUS_COLD 0; (s.mayWrite ini A.BLW_CTRL (w ||| 0x1#32) = true) ∧ (bits w 1 1 = 0)) ∧
    (let ini : Fin 5 := 0; let w : Word := 0#32; let s : State := State.reset.set F.BLW_COUNT_OVER_TICKS 9; (s.mayWrite ini A.BLW_CTRL (w ||| 0x2#32) = true) ∧ (bits w 0 1 = 0)) := by
  and_intros <;> decide +kernel

theorem test_meets_Skimmer :
    (let k : Fin 32 := 5; let syn : Nat := 0; let s : State := ((State.reset).set F.MEM_CTRL_SKIM_EN 1); (s.visitable k = true) ∧ (eccKind (syn % 128) = 0) ∧ (s.wordPoisoned (sramAddr k (vget s.mem.pos k 0)) = false)) ∧
    (let k : Fin 32 := 5; let syn : Nat := 7; let s : State := { ((State.reset).set F.MEM_CTRL_SKIM_EN 1) with mem := { State.reset.mem with hard := [5 * 16384] } }; (s.visitable k = true) ∧ (eccKind (syn % 128) = 1) ∧ (s.wordPoisoned (sramAddr k (vget s.mem.pos k 0)) = false) ∧ (s.mem.hard.contains (sramAddr k (vget s.mem.pos k 0)) = true)) ∧
    (let k : Fin 32 := 5; let syn : Nat := 7; let j : Nat := 3; let e : TrackEntry := ⟨5 * 16384, 1, 2⟩; let s : State := { ((State.reset).set F.MEM_CTRL_SKIM_EN 1) with mem := { State.reset.mem with track := vmod State.reset.mem.track 3 (fun _ => some ⟨5 * 16384, 1, 2⟩) } }; (s.visitable k = true) ∧ (eccKind (syn % 128) = 1) ∧ (s.wordPoisoned (sramAddr k (vget s.mem.pos k 0)) = false) ∧ (s.mem.hard.contains (sramAddr k (vget s.mem.pos k 0)) = false) ∧ (j < 32) ∧ (vget s.mem.track j none = some e) ∧ (e.addr = sramAddr k (vget s.mem.pos k 0)) ∧ (∀ n : Nat, n < 32 → n < j → (vget s.mem.track n none).all (fun f => decide (f.addr ≠ e.addr)) = true)) ∧
    (let k : Fin 32 := 5; let syn : Nat := 0x40; let j : Nat := 0; let s : State := ((State.reset).set F.MEM_CTRL_SKIM_EN 1); (s.visitable k = true) ∧ (eccKind (syn % 128) = 1) ∧ (s.wordPoisoned (sramAddr k (vget s.mem.pos k 0)) = false) ∧ (s.mem.hard.contains (sramAddr k (vget s.mem.pos k 0)) = false) ∧ (j < 32) ∧ (vget s.mem.track j none = none) ∧ (∀ n : Nat, n < 32 → n < j → (vget s.mem.track n none).isSome = true) ∧ (∀ n : Nat, n < 32 → (vget s.mem.track n none).all (fun f => decide (f.addr ≠ sramAddr k (vget s.mem.pos k 0))) = true)) ∧
    (let k : Fin 32 := 5; let syn : Nat := 0x62; let s : State := { ((State.reset).set F.MEM_CTRL_SKIM_EN 1) with mem := { State.reset.mem with track := Vector.ofFn (fun j : Fin 32 => some ⟨16384 + j.val, 2, j.val % 3⟩) } }; (s.visitable k = true) ∧ (eccKind (syn % 128) = 1) ∧ (s.wordPoisoned (sramAddr k (vget s.mem.pos k 0)) = false) ∧ (s.mem.hard.contains (sramAddr k (vget s.mem.pos k 0)) = false) ∧ (∀ n : Nat, n < 32 → (vget s.mem.track n none).isSome = true) ∧ (∀ n : Nat, n < 32 → (vget s.mem.track n none).all (fun f => decide (f.addr ≠ sramAddr k (vget s.mem.pos k 0))) = true)) ∧
    (let k : Fin 32 := 5; let syn : Nat := 3; let s : State := ((State.reset).set F.MEM_CTRL_SKIM_EN 1); (s.visitable k = true) ∧ (eccKind (syn % 128) = 2) ∧ (s.wordPoisoned (sramAddr k (vget s.mem.pos k 0)) = false)) ∧
    (let k : Fin 32 := 5; let s : State := { ((State.reset).set F.MEM_CTRL_SKIM_EN 1) with poison := [(5 * 16384, ⟨.unowned, 5 * 16384⟩)] }; (s.visitable k = true) ∧ (s.wordPoisoned (sramAddr k (vget s.mem.pos k 0)) = true)) ∧
    (let k : Fin 32 := 5; let s : State := State.reset.set F.MEM_CTRL_SKIM_EN 0; (s.visitable k = false)) ∧
    (let i : Nat := 3; let e : TrackEntry := ⟨5 * 16384 + 9, 3, 1⟩; let s : State := { ((State.reset).set F.MEM_CTRL_SKIM_EN 1) with mem := { State.reset.mem with track := vmod State.reset.mem.track 3 (fun _ => some ⟨5 * 16384 + 9, 3, 1⟩) } }; (i < 32) ∧ (vget s.mem.track i none = some e) ∧ (s.get F.MEM_ECC_CFG_REPEAT_THR ≤ e.count) ∧ (∀ j : Nat, j < 32 → j < i → (vget s.mem.track j none).all (fun f => decide (f.count < s.get F.MEM_ECC_CFG_REPEAT_THR)) = true) ∧ (e.addr < 2 ^ 19)) ∧
    (let k : Fin 32 := 5; let s : State := { ((State.reset).set F.MEM_CTRL_SKIM_EN 1) with mem := { State.reset.mem with track := vmod State.reset.mem.track 3 (fun _ => some ⟨5 * 16384, 1, 3⟩) } }; (s.visitable k = true)) ∧
    (let s : State := { ((State.reset).set F.MEM_CTRL_SKIM_EN 1) with mem := { State.reset.mem with lapOn := true } }; (s.mem.lapOn = true) ∧ (s.mem.lapLeft = [])) := by
  and_intros <;> decide +kernel

theorem test_meets_RemapAndWipe :
    (let k : Fin 34 := 5; let row : Nat := 3; let s : State := { State.reset with mem := { State.reset.mem with copy := some (false, 5, 3), hard := [5 * 16384 + 390] } }; (s.mem.copy = some (false, k.val, row)) ∧ (s.wiping = false) ∧ (s.get (F.MEM_BANK_STATUS_ROWS_USED k) < 8)) ∧
    (let s : State := State.reset; (s.mem.copy = none)) ∧
    (let k : Fin 32 := 5; let b : Nat := 1; let s : State := { State.reset with mem := { State.reset.mem with copy := some (true, 5, 1), hard := [5 * 16384 + 390] } }; (s.mem.copy = some (true, k.val, b)) ∧ (b < 2) ∧ (s.wiping = false)) ∧
    (let ini : Fin 5 := 0; let w : Word := 0x08000000#32; let s : State := { State.reset with sram := [(26 * 16384, 7#32), (27 * 16384 + 4, 5#32)] }; (s.mayWrite ini A.MEM_WIPE_REQ w = true) ∧ (bits w 26 6 ≠ 0)) ∧
    (let ini : Fin 5 := 0; let w : Word := 0x03FFFFFF#32; let s : State := State.reset; (s.mayWrite ini A.MEM_WIPE_REQ w = true) ∧ (bits w 26 6 = 0)) ∧
    (let s : State := (State.reset.set F.MEM_WIPE_BANKS_BUSY 0x04000000).set F.MEM_WIPE_STATUS_WIPE_CAUSE 6; (s.wiping = true) ∧ (s.frozen = false) ∧ (s.stalled = [])) ∧
    (let s : State := State.reset; (s.wiping = false ∨ s.frozen = true) ∧ (s.stalled = [])) ∧
    (let ini : Fin 5 := 0; let w : Word := 1#32; let s : State := { ((State.reset).set F.MEM_CTRL_SKIM_EN 1) with mem := { State.reset.mem with track := vmod State.reset.mem.track 3 (fun _ => some ⟨5 * 16384, 1, 2⟩) } }; (s.mayWrite ini A.MEM_CTRL (w ||| 0x4#32) = true) ∧ (bits w 1 1 = 0)) ∧
    (let ini : Fin 5 := 0; let w : Word := 1#32; let s : State := State.reset.set F.MEM_CORR_COUNT_CORRECTED 9; (s.mayWrite ini A.MEM_CTRL (w ||| 0x2#32) = true) ∧ (bits w 2 1 = 0)) := by
  and_intros <;> decide +kernel

theorem test_meets_BusTransactions :
    (let a : BitVec 24 := 0x001010#24; let w : Word := 5#32; let bytes : List Nat := [7, bits (a.zeroExtend 32) 0 8, bits (a.zeroExtend 32) 8 8, bits (a.zeroExtend 32) 16 8] ++ bytes4 w; let s : State := State.reset; (s.smbServes = true) ∧ (bytes = [7, bits (a.zeroExtend 32) 0 8, bits (a.zeroExtend 32) 8 8, bits (a.zeroExtend 32) 16 8] ++ bytes4 w ++ (if s.pecOn then [crc8 (s.smbAw :: 0x20 :: [7, bits (a.zeroExtend 32) 0 8, bits (a.zeroExtend 32) 8 8, bits (a.zeroExtend 32) 16 8] ++ bytes4 w)] else [])) ∧ (heldReg a.toNat = true) ∧ (s.mayWrite 0 a.toNat w = true)) ∧
    (let a : BitVec 24 := 0x000040#24; let w : Word := 5#32; let bytes : List Nat := [7, bits (a.zeroExtend 32) 0 8, bits (a.zeroExtend 32) 8 8, bits (a.zeroExtend 32) 16 8] ++ bytes4 w; let s : State := State.reset; (s.smbServes = true) ∧ (bytes = [7, bits (a.zeroExtend 32) 0 8, bits (a.zeroExtend 32) 8 8, bits (a.zeroExtend 32) 16 8] ++ bytes4 w ++ (if s.pecOn then [crc8 (s.smbAw :: 0x20 :: [7, bits (a.zeroExtend 32) 0 8, bits (a.zeroExtend 32) 8 8, bits (a.zeroExtend 32) 16 8] ++ bytes4 w)] else [])) ∧ (s.refusal 0 true a.toNat w ≠ 0)) ∧
    (let a : BitVec 24 := 0x001010#24; let w : Word := 5#32; let bytes : List Nat := [7, bits (a.zeroExtend 32) 0 8, bits (a.zeroExtend 32) 8 8, bits (a.zeroExtend 32) 16 8] ++ bytes4 w; let s : State := State.reset.set F.SMB_CFG_PEC_EN 1; (s.smbServes = true) ∧ (s.pecOn = true) ∧ (bytes = [7, bits (a.zeroExtend 32) 0 8, bits (a.zeroExtend 32) 8 8, bits (a.zeroExtend 32) 16 8] ++ bytes4 w)) ∧
    (let a : BitVec 24 := 0x001010#24; let w : Word := 5#32; let bytes : List Nat := [7, bits (a.zeroExtend 32) 0 8, bits (a.zeroExtend 32) 8 8, bits (a.zeroExtend 32) 16 8] ++ bytes4 w ++ [0]; let s : State := State.reset; (s.smbServes = true) ∧ (s.pecOn = false) ∧ (bytes = [6, bits (a.zeroExtend 32) 0 8, bits (a.zeroExtend 32) 8 8, bits (a.zeroExtend 32) 16 8] ++ (bytes4 w).take 3 ∨ bytes = [7, bits (a.zeroExtend 32) 0 8, bits (a.zeroExtend 32) 8 8, bits (a.zeroExtend 32) 16 8] ++ (bytes4 w).take 3 ∨ bytes = [7, bits (a.zeroExtend 32) 0 8, bits (a.zeroExtend 32) 8 8, bits (a.zeroExtend 32) 16 8] ++ bytes4 w ++ [0])) ∧
    (let a : BitVec 24 := 0x000040#24; let bytes : List Nat := [4, 0x40, 0x00, 0x00, 1]; let s : State := State.reset; (s.smbServes = true) ∧ (bytes = [4, bits (a.zeroExtend 32) 0 8, bits (a.zeroExtend 32) 8 8, bits (a.zeroExtend 32) 16 8] ++ [1]) ∧ (s.refusal 0 false a.toNat 0 = 0) ∧ ((s.peek a.toNat).2 = false) ∧ (a.toNat / 0x400 ≠ 8) ∧ (a.toNat ≠ A.SNS_RESULT)) ∧
    (let a : BitVec 24 := 0x040000#24; let bytes : List Nat := [4, 0x00, 0x00, 0x04, 1]; let s : State := State.reset; (s.smbServes = true) ∧ (bytes = [4, bits (a.zeroExtend 32) 0 8, bits (a.zeroExtend 32) 8 8, bits (a.zeroExtend 32) 16 8] ++ [1]) ∧ (s.refusal 0 false a.toNat 0 ≠ 0)) ∧
    (let a : BitVec 24 := 0x000040#24; let n : Nat := 4; let k : Nat := 64; let bytes : List Nat := [4, 0x40, 0x00, 0x00, 64]; let s : State := State.reset; (s.smbServes = true) ∧ (bytes = [n, bits (a.zeroExtend 32) 0 8, bits (a.zeroExtend 32) 8 8, bits (a.zeroExtend 32) 16 8] ++ [k]) ∧ (n < 256) ∧ (k < 256) ∧ (n ≠ 4 ∨ k = 0 ∨ 63 < k)) ∧
    (let s : State := State.reset.set F.SMB_LAST_STATUS 2; (s.smbServes = true)) ∧
    (let a : BitVec 24 := 0x001010#24; let m : Word := 0xFF#32; let w : Word := 5#32; let bytes : List Nat := [11, bits (a.zeroExtend 32) 0 8, bits (a.zeroExtend 32) 8 8, bits (a.zeroExtend 32) 16 8] ++ bytes4 m ++ bytes4 w; let s : State := State.reset; (s.smbServes = true) ∧ (bytes = [11, bits (a.zeroExtend 32) 0 8, bits (a.zeroExtend 32) 8 8, bits (a.zeroExtend 32) 16 8] ++ bytes4 m ++ bytes4 w ++ (if s.pecOn then [crc8 (s.smbAw :: 0x23 :: [11, bits (a.zeroExtend 32) 0 8, bits (a.zeroExtend 32) 8 8, bits (a.zeroExtend 32) 16 8] ++ bytes4 m ++ bytes4 w)] else [])) ∧ (m ≠ 0) ∧ (heldReg a.toNat = true) ∧ (s.mayWrite 0 a.toNat (s.rmwWord a.toNat m w) = true)) ∧
    (let a : BitVec 24 := 0x000040#24; let w : Word := 5#32; let bytes : List Nat := [11, 0x40, 0x00, 0x00, 0, 0, 0, 0, 5, 0, 0, 0]; let s : State := State.reset; (s.smbServes = true) ∧ (s.pecOn = false) ∧ (bytes = [11, bits (a.zeroExtend 32) 0 8, bits (a.zeroExtend 32) 8 8, bits (a.zeroExtend 32) 16 8] ++ [0, 0, 0, 0] ++ bytes4 w) ∧ (s.refusal 0 false a.toNat 0 = 0) ∧ ((s.peek a.toNat).2 = false) ∧ (a.toNat ≠ A.SNS_RESULT)) ∧
    (let s : State := State.reset.set F.SMB_LAST_STATUS 2; (s.smbServes = true) ∧ (s.domState = 0) ∧ (s.pwrStep = 0) ∧ (s.pwrBusy = false)) ∧
    (let s : State := { State.reset with domState := 3 }; (s.smbServes = true ∨ s.smbMatches = true) ∧ (1 ≤ s.domState) ∧ (s.domState ≤ 4) ∧ (s.pwrStep = 0) ∧ (s.pwrBusy = false)) ∧
    (let cmd : Nat := 0x25; let s : State := State.reset.set F.SMB_LAST_STATUS 2; (s.smbServes = true) ∧ (cmd < 0x20 ∨ 0x24 < cmd)) ∧
    (let cmd : Nat := 0x23; let s : State := { State.reset.set F.PWR_WAKE_EN_SMB_ADDR 1 with domState := 4 }; (s.domState = 3 ∨ s.domState = 4) ∧ (s.pwrStep = 0) ∧ (cmd ≠ 0x24)) ∧
    (let cut : Option (Nat × List Nat) := none; let s : State := State.reset; (s.smbServes = true) ∧ (cut = none)) ∧
    (let a : BitVec 24 := 0x001010#24; let cut : Option (Nat × List Nat) := some (0x20, [7, 0x10, 0x10, 0]); let s : State := State.reset; (s.smbServes = true) ∧ (cut = some (0x20, [7, bits (a.zeroExtend 32) 0 8, bits (a.zeroExtend 32) 8 8, bits (a.zeroExtend 32) 16 8]) ∨ cut = some (0x21, [4, bits (a.zeroExtend 32) 0 8, bits (a.zeroExtend 32) 8 8, bits (a.zeroExtend 32) 16 8]))) ∧
    (let cut : Option (Nat × List Nat) := some (0x22, []); let s : State := State.reset; (s.smbServes = true) ∧ (cut = none ∨ cut = some (0x22, []))) := by
  and_intros <;> decide +kernel

theorem test_meets_HostNotify :
    (let idle : Nat := 10; let s : State := (((State.reset.set F.SMB_HN_CFG_EN 1).setReg A.SYS_IRQ_GROUP_EN 0xFFFFFFFF#32).setReg 0x2010 0xFFFFFFFF#32).setReg 0x200C 0x8#32; (s.smbServes = true) ∧ (s.on F.SMB_HN_CFG_EN = true) ∧ (s.on F.SMB_HN_STATUS_SENDING = false) ∧ (s.on F.SMB_HN_STATUS_PENDING = false) ∧ (s.smb.retry = false) ∧ (s.smb.failed = none) ∧ (s.notifyWord &&& s.get F.SMB_HN_STATUS_LAST_SENT ≠ s.notifyWord) ∧ (s.get F.SMB_HN_CFG_HOLDOFF ≤ idle) ∧ (s.on F.SMB_REC_SMB_STUCK = false) ∧ (s.on F.SMB_REC_SMB_RECOVERING = false)) ∧
    (let s : State := (State.reset.set F.SMB_HN_CFG_EN 1).set F.SMB_HN_STATUS_LAST_SENT 4; (s.smbServes = true) ∧ (s.on F.SMB_HN_CFG_EN = true) ∧ (s.on F.SMB_HN_STATUS_SENDING = false) ∧ (s.notifyWord = 0)) ∧
    (let idle : Nat := 9; let s : State := (((State.reset.set F.SMB_HN_CFG_EN 1).setReg A.SYS_IRQ_GROUP_EN 0xFFFFFFFF#32).setReg 0x2010 0xFFFFFFFF#32).setReg 0x200C 0x8#32; (s.on F.SMB_HN_CFG_EN = false ∨ s.smbServes = false ∨ s.on F.SMB_HN_STATUS_SENDING = true ∨ (s.notifyWord ≠ 0 ∧ s.on F.SMB_HN_STATUS_PENDING = false ∧ s.smb.failed = none ∧ (idle < s.get F.SMB_HN_CFG_HOLDOFF ∨ s.notifyWord &&& s.get F.SMB_HN_STATUS_LAST_SENT = s.notifyWord)))) ∧
    (let s : State := { (((((State.reset.set F.SMB_HN_CFG_EN 1).setReg A.SYS_IRQ_GROUP_EN 0xFFFFFFFF#32).setReg 0x2010 0xFFFFFFFF#32).setReg 0x200C 0x8#32).set F.SMB_HN_STATUS_PENDING 1).set F.SMB_HN_STATUS_SENDING 1 with smb := { State.reset.smb with word := 0x100 } }; (s.smbServes = true) ∧ (s.on F.SMB_HN_STATUS_SENDING = true)) ∧
    (let s : State := { (((((State.reset.set F.SMB_HN_CFG_EN 1).setReg A.SYS_IRQ_GROUP_EN 0xFFFFFFFF#32).setReg 0x2010 0xFFFFFFFF#32).setReg 0x200C 0x8#32).set F.SMB_HN_STATUS_PENDING 1).set F.SMB_HN_STATUS_SENDING 1 with smb := { State.reset.smb with word := 0x100 } }; (s.smbServes = true) ∧ (s.on F.SMB_HN_STATUS_SENDING = true)) ∧
    (let s : State := ({ (((((State.reset.set F.SMB_HN_CFG_EN 1).setReg A.SYS_IRQ_GROUP_EN 0xFFFFFFFF#32).setReg 0x2010 0xFFFFFFFF#32).setReg 0x200C 0x8#32).set F.SMB_HN_STATUS_PENDING 1).set F.SMB_HN_STATUS_SENDING 1 with smb := { State.reset.smb with word := 0x100 } }).set F.SMB_HN_STATUS_TRY 2; (s.smbServes = true) ∧ (s.on F.SMB_HN_STATUS_SENDING = true)) ∧
    (let s : State := { ((((State.reset.set F.SMB_HN_CFG_EN 1).setReg A.SYS_IRQ_GROUP_EN 0xFFFFFFFF#32).setReg 0x2010 0xFFFFFFFF#32).setReg 0x200C 0x8#32).set F.SMB_HN_STATUS_PENDING 1 with smb := { State.reset.smb with retry := true } }; (s.smbServes = true) ∧ (s.smb.retry = true) ∧ (s.on F.SMB_HN_CFG_EN = true) ∧ (s.notifyWord ≠ 0) ∧ (s.on F.SMB_REC_SMB_STUCK = false) ∧ (s.on F.SMB_REC_SMB_RECOVERING = false)) ∧
    (let port : Fin 2 := 1; let s : State := State.reset.set F.PMB_CFG_EN 1; (s.busRuns = true) ∧ (s.portWanted port = true) ∧ (s.on (if port = 0 then F.SMB_REC_SMB_STUCK else F.SMB_REC_PMB_STUCK) = false) ∧ (s.on (if port = 0 then F.SMB_REC_SMB_RECOVERING else F.SMB_REC_PMB_RECOVERING) = false) ∧ (port = 1 ∨ s.on F.SMB_HN_CFG_RECOVER = true)) ∧
    (let port : Fin 2 := 0; let s : State := (State.reset.set F.SMB_HN_CFG_RECOVER 0).set F.SMB_HN_STATUS_PENDING 1; (port = 0) ∧ (s.on F.SMB_HN_CFG_RECOVER = false) ∧ (s.on F.SMB_REC_SMB_STUCK = false) ∧ (s.on F.SMB_REC_SMB_RECOVERING = false)) ∧
    (let port : Fin 2 := 1; let s : State := (State.reset.set F.SMB_REC_PMB_RECOVERING 1).set F.SMB_REC_PMB_TRIES 2; (s.busRuns = true) ∧ (s.on (if port = 0 then F.SMB_REC_SMB_RECOVERING else F.SMB_REC_PMB_RECOVERING) = true) ∧ (s.smb.single0 = false) ∧ (s.smb.single1 = false)) ∧
    (let port : Fin 2 := 0; let s : State := (State.reset.set F.SMB_REC_SMB_STUCK 1).set (F.PG_FAULT 0x08) 1; (s.busRuns = true) ∧ (s.on (if port = 0 then F.SMB_REC_SMB_STUCK else F.SMB_REC_PMB_STUCK) = true)) ∧
    (let ini : Fin 5 := 0; let port : Fin 2 := 1; let w : Word := 0#32; let s : State := State.reset; (s.mayWrite ini A.SMB_REC_CTRL (w ||| (if port = 0 then 0x1#32 else 0x2#32)) = true) ∧ (bits w (1 - port.val) 1 = 0) ∧ (s.on (if port = 0 then F.SMB_REC_SMB_RECOVERING else F.SMB_REC_PMB_RECOVERING) = false)) ∧
    (let ini : Fin 5 := 0; let w : Word := 0#32; let s : State := State.reset.set F.SMB_COUNT_ERRORS 9; (s.mayWrite ini A.SMB_CNT_CLR (w ||| 0x1#32) = true)) := by
  and_intros <;> decide +kernel

theorem test_meets_Maintenance :
    (let slow : List Int := [0, 300, -5, 299]; let s : State := State.reset; (s.mgmtRuns = true) ∧ (s.domState = 0) ∧ (∀ i : Nat, i < 14 → -32768 ≤ slow.getD i 0 ∧ slow.getD i 0 ≤ 32767)) ∧
    (let k : Nat := 2; let s : State := State.reset.set F.MNT_SCHED_ROTATE_EN 1; (s.on F.MNT_SCHED_ROTATE_EN = true) ∧ (s.domState = 0) ∧ (s.frozen = false) ∧ (s.on (F.PG_ENABLE 0x06) = true) ∧ (k < 16) ∧ (s.freeSlot = some k)) ∧
    (let s : State := { State.reset.set F.MNT_SCHED_ROTATE_EN 1 with domState := 2 }; (s.on F.MNT_SCHED_ROTATE_EN = true) ∧ (1 ≤ s.domState) ∧ (s.domState ≤ 4)) ∧
    (let ini : Fin 5 := 0; let w : Word := 0x1120#32; let k : Nat := 2; let s : State := State.reset; (s.mayWrite ini A.MNT_POST (w ||| 0x4000#32) = true) ∧ (k < 16) ∧ (s.freeSlot = some k)) ∧
    (let ini : Fin 5 := 0; let w : Word := 0x1120#32; let s : State := { State.reset with jobs := Vector.ofFn (fun n : Fin 16 => ⟨n.val + 1, 9, n.val % 12, .queued, false, 0, 512, 0, 0, n.val, 0⟩) }; (s.mayWrite ini A.MNT_POST (w ||| 0x4000#32) = true) ∧ (s.freeSlot = none)) ∧
    (let k : Nat := 2; let s : State := { State.reset with jobs := vmod State.reset.jobs 2 (fun _ => ⟨3, 2, 4, .running, false, 0, 17, 0, 7, 1, 1⟩) }; (s.mgmtRuns = true) ∧ (k < 16) ∧ (s.endingSlot = some k) ∧ (s.deferredSlots = [])) ∧
    (let k : Nat := 2; let d : Nat := 5; let s : State := { State.reset with jobs := vmod (vmod State.reset.jobs 2 (fun _ => ⟨3, 9, 4, .running, false, 0, 512, 0, 7, 1, 6⟩)) 5 (fun _ => ⟨4, 8, 4, .deferred, true, 3, 512, 0, 0, 2, 0⟩) }; (s.mgmtRuns = true) ∧ (s.clocked .engine = true) ∧ (k < 16) ∧ (d < 16) ∧ (s.endingSlot = some k) ∧ (s.deferredSlots = [d]) ∧ ((vget s.jobs d Job.empty).type = 8 ∨ (vget s.jobs d Job.empty).type = 9) ∧ ((vget s.jobs d Job.empty).target < 12) ∧ ((s.modJob k (fun j => { j with st := .ended })).resBusy &&& (vget s.jobs d Job.empty).res = 0) ∧ (s.get F.MNT_MAC_SPARE = 0) ∧ (d ≠ k) ∧ (∀ j : Nat, j < 16 → (vget s.jobs j Job.empty).st = .running → 0 < (vget s.jobs j Job.empty).id)) ∧
    (let s : State := State.reset; (s.endingSlot = none)) ∧
    (let x : Nat := 11; let s : State := { State.reset with mac := some ⟨11, 0, false⟩ }; (s.clocked .engine = true) ∧ (x < 12) ∧ (s.mac = some ⟨x, 0, false⟩)) ∧
    (let x : Nat := 3; let n : Nat := 1; let c : Bool := false; let s : State := { State.reset with mac := some ⟨3, 1, false⟩ }; (s.mac = some ⟨x, n, c⟩) ∧ (0 < n ∨ c = true)) ∧
    (let b : Fin 2 := 1; let s : State := { State.reset with bankTest := some 1 }; (s.bankTest = some b.val) ∧ (s.frozen = false)) ∧
    (let ini : Fin 5 := 0; let w : Word := 0#32; let s : State := State.reset.set F.MNT_COUNT_DONE 9; (s.mayWrite ini A.MNT_CNT_CLR (w ||| 0x1#32) = true)) := by
  and_intros <;> decide +kernel

theorem test_meets_PrivacyAndFreeze :
    (let s : State := State.reset.set (F.PG_ENABLE 0x0C) 1; (s.pins.privacy = false) ∧ (s.freezing = false) ∧ (s.domState ≤ 2)) ∧
    (let s : State := (State.reset.set F.DBG_FREEZE_STATUS_STATE 2).set F.DBG_FREEZE_KEEP_MGMT 1; (s.pins.privacy = false) ∧ (s.freezing = true) ∧ (s.domState ≤ 4)) ∧
    (let s : State := { State.reset with domState := 3 }; (s.pins.privacy = false) ∧ (s.freezing = false) ∧ (s.domState = 3 ∨ s.domState = 4)) ∧
    (let s : State := { State.reset.set F.AUX_PRIVACY_ASSERTED 1 with pins := { State.reset.pins with privacy := true } }; (s.pins.privacy = true) ∧ (s.freezing = false) ∧ (s.domState ≤ 2)) ∧
    (let s : State := { (State.reset.set F.DBG_FREEZE_STATUS_STATE 2).set F.DBG_FREEZE_KEEP_MGMT 1 with pins := { State.reset.pins with privacy := true } }; (s.pins.privacy = true) ∧ (s.freezing = true ∨ 3 ≤ s.domState)) ∧
    (let rearmed : Bool := true; let s : State := State.reset; (s.freezeArmed = true ∨ rearmed = true) ∧ (s.get F.DBG_FREEZE_STATUS_STATE = 0) ∧ (s.domState ≤ 2)) ∧
    (let rearmed : Bool := false; let s : State := { State.reset with freezeArmed := false }; (s.freezeArmed = false) ∧ (rearmed = false)) ∧
    (let ini : Fin 5 := 0; let w : Word := 8#32; let s : State := { State.reset with otp := store (store State.reset.otp 0x118 3#32 0) 0x114 9#32 0 }; (s.mayWrite ini A.DBG_FREEZE (w ||| 0x1#32) = true) ∧ (bits w 1 1 = 0) ∧ (s.get F.DBG_FREEZE_STATUS_STATE = 0) ∧ (s.domState ≤ 2)) ∧
    (let s : State := (State.reset.set F.DBG_FREEZE_STATUS_STATE 1).set F.DBG_FREEZE_KEEP_MGMT 1; (s.get F.DBG_FREEZE_STATUS_STATE = 1) ∧ (s.pwrStep ≠ 6) ∧ (s.domState ≤ 2)) ∧
    (let s : State := { State.reset.set F.DBG_FREEZE_STATUS_STATE 1 with domState := 3 }; (s.get F.DBG_FREEZE_STATUS_STATE = 1) ∧ (s.pwrStep ≠ 6) ∧ (3 ≤ s.domState)) ∧
    (let s : State := State.reset; (s.get F.DBG_FREEZE_STATUS_STATE ≠ 1 ∨ s.pwrStep = 6)) ∧
    (let ini : Fin 5 := 0; let level : Bool := false; let w : Word := 8#32; let s : State := { (State.reset.set F.DBG_FREEZE_STATUS_STATE 2).set F.DBG_FREEZE_KEEP_MGMT 1 with keptMgmt := true }; (s.mayWrite ini A.DBG_FREEZE (w ||| 0x2#32) = true) ∧ (bits w 0 1 = 0) ∧ (s.frozen = true) ∧ (level = false)) ∧
    (let ini : Fin 5 := 0; let level : Bool := true; let w : Word := 8#32; let s : State := { (State.reset.set F.DBG_FREEZE_STATUS_STATE 2).set F.DBG_FREEZE_KEEP_MGMT 1 with keptMgmt := true }; (s.mayWrite ini A.DBG_FREEZE (w ||| 0x2#32) = true) ∧ (bits w 0 1 = 0) ∧ (s.frozen = true) ∧ (level = true)) ∧
    (let ini : Fin 5 := 0; let w : Word := 0#32; let s : State := State.reset.set F.DBG_FREEZE_COUNT_IGNORED 9; (s.mayWrite ini A.DBG_CNT_CLR (w ||| 0x1#32) = true)) ∧
    (let ini : Fin 5 := 0; let w : Word := 0#32; let s : State := State.reset.set F.DBG_VIOL_COUNT_COUNT 9; (s.mayWrite ini A.DBG_VIOL_CTRL (w ||| 0x1#32) = true)) := by
  and_intros <;> decide +kernel

theorem test_meets_TestAccess :
    (let a : BitVec 18 := 0x1010#18; let w : Word := 5#32; let dr : BitVec 56 := BitVec.ofNat 56 (1 * 2 ^ 50 + a.toNat * 2 ^ 32 + w.toNat); let s : State := State.reset; (dr = BitVec.ofNat 56 (1 * 2 ^ 50 + a.toNat * 2 ^ 32 + w.toNat)) ∧ (heldReg a.toNat = true) ∧ (s.mayWrite 3 a.toNat w = true)) ∧
    (let a : BitVec 18 := 0x40#18; let w : Word := 0#32; let dr : BitVec 56 := BitVec.ofNat 56 (0 * 2 ^ 50 + a.toNat * 2 ^ 32 + w.toNat); let s : State := State.reset; (dr = BitVec.ofNat 56 (0 * 2 ^ 50 + a.toNat * 2 ^ 32 + w.toNat)) ∧ (s.pathOpen 3 = true) ∧ (s.refusal 3 false a.toNat 0 = 0) ∧ ((s.peek a.toNat).2 = false) ∧ (a.toNat ≠ A.SNS_RESULT)) ∧
    (let a : BitVec 18 := 0x40#18; let w : Word := 7#32; let dr : BitVec 56 := BitVec.ofNat 56 (1 * 2 ^ 50 + a.toNat * 2 ^ 32 + w.toNat); let s : State := State.reset; (dr = BitVec.ofNat 56 (1 * 2 ^ 50 + a.toNat * 2 ^ 32 + w.toNat)) ∧ (s.pathOpen 3 = true) ∧ (s.refusal 3 true a.toNat w ≠ 0)) ∧
    (let s : State := { State.reset with domState := 3 }; (s.pathOpen 3 = false)) ∧
    (let a : BitVec 18 := 0x40#18; let w : Word := 0#32; let dr : BitVec 56 := BitVec.ofNat 56 (0 * 2 ^ 50 + a.toNat * 2 ^ 32 + w.toNat); let s : State := (State.reset.set F.DBG_FREEZE_STATUS_STATE 2); (dr = BitVec.ofNat 56 (0 * 2 ^ 50 + a.toNat * 2 ^ 32 + w.toNat)) ∧ (s.frozen = true) ∧ (s.debugOk = true) ∧ (s.refusal 3 false a.toNat 0 = 0) ∧ (s.wipeBars false (placeOf a.toNat) = false) ∧ ((s.peek a.toNat).2 = false)) ∧
    (let a : BitVec 18 := 0x40#18; let w : Word := 0#32; let dr : BitVec 56 := BitVec.ofNat 56 (1 * 2 ^ 50 + a.toNat * 2 ^ 32 + w.toNat); let s : State := (State.reset.set F.DBG_FREEZE_STATUS_STATE 2); (dr = BitVec.ofNat 56 (0 * 2 ^ 50 + a.toNat * 2 ^ 32 + w.toNat) ∨ dr = BitVec.ofNat 56 (1 * 2 ^ 50 + a.toNat * 2 ^ 32 + w.toNat)) ∧ (s.pathOpen 3 = false ∨ s.frozen = false) ∧ (placeOf a.toNat ≠ .none) ∧ (s.wipeBars false (placeOf a.toNat) = false)) ∧
    (let dr : BitVec 8 := 1#8; let s : State := State.reset; (dr.toNat % 4 = 1) ∧ (s.get F.DBG_FREEZE_STATUS_STATE = 0) ∧ (s.domState ≤ 2) ∧ (s.debugOk = true) ∧ (s.lcy.trans = false)) ∧
    (let dr : BitVec 8 := 0xFE#8; let level : Bool := true; let s : State := (State.reset.set F.DBG_FREEZE_STATUS_STATE 2); (dr.toNat % 4 = 2) ∧ (s.frozen = true) ∧ (level = true)) := by
  and_intros <;> decide +kernel

theorem test_meets_LifeCycle :
    (let ini : Fin 5 := 0; let w : Word := 0#32; let s : State := { State.reset with otp := store (store State.reset.otp 0x118 1#32 0) 0x110 9#32 0 }; (s.mayWrite ini A.LCY_CHECK (w ||| 0x1#32) = true) ∧ (bits w 1 1 = 0) ∧ (s.lcy.check = none) ∧ (s.lcy.trans = false)) ∧
    (let ini : Fin 5 := 0; let w : Word := 0#32; let s : State := { State.reset with otp := store (store State.reset.otp 0x118 3#32 0) 0x114 9#32 0 }; (s.mayWrite ini A.LCY_CHECK (w ||| 0x2#32) = true) ∧ (bits w 0 1 = 0) ∧ (s.lcy.check = none) ∧ (s.lcy.trans = false)) ∧
    (let unlock : Bool := true; let found : Bool := false; let s : State := { State.reset.set F.LCY_STATUS_FAILS 3 with lcy := { State.reset.lcy with check := some (true, false) } }; (s.clocked .mgmt = true) ∧ (s.lcy.check = some (unlock, found))) ∧
    (let ini : Fin 5 := 0; let w : Word := 0x4C430008#32; let s : State := { State.reset with otp := store (store State.reset.otp 0x118 1#32 0) 0x110 9#32 0 }; (s.mayWrite ini A.LCY_CTRL (w ||| 0x1#32) = true) ∧ (bits w 16 16 = 0x4C43) ∧ (s.lcFuses = 1 ∨ s.lcFuses = 4 ∨ ((s.lcFuses = 2 ∨ s.lcFuses = 3 ∨ s.lcFuses = 5) ∧ s.on F.LCY_STATUS_UNLOCKED = true)) ∧ (bits w 2 2 = lcCode (s.lcFuses + 1)) ∧ (s.domState = 0) ∧ (s.pwrBusy = false) ∧ (s.lcy.trans = false) ∧ (s.lcy.check = none)) ∧
    (let ini : Fin 5 := 0; let w : Word := 0x4C43000C#32; let s : State := { State.reset with otp := store (store State.reset.otp 0x118 3#32 0) 0x114 9#32 0 }; (s.mayWrite ini A.LCY_CTRL (w ||| 0x1#32) = true) ∧ (bits w 16 16 ≠ 0x4C43 ∨ 6 ≤ s.lcFuses ∨ bits w 2 2 ≠ lcCode (s.lcFuses + 1) ∨ ((s.lcFuses = 2 ∨ s.lcFuses = 3 ∨ s.lcFuses = 5) ∧ s.on F.LCY_STATUS_UNLOCKED = false) ∨ (s.lcFuses = 0 ∧ blankDigest (s.digest 0x114) = true) ∨ s.domState ≠ 0 ∨ s.pwrBusy = true)) ∧
    (let verified : Bool := true; let s : State := { { State.reset with otp := store (store State.reset.otp 0x118 1#32 0) 0x110 9#32 0 } with lcy := { State.reset.lcy with trans := true } }; (s.lcy.trans = true) ∧ (s.mgmtRuns = true) ∧ (verified = true) ∧ (s.boot ≠ .held)) ∧
    (let verified : Bool := false; let s : State := { { State.reset with otp := store (store State.reset.otp 0x118 1#32 0) 0x110 9#32 0 } with lcy := { State.reset.lcy with trans := true } }; (s.lcy.trans = true) ∧ (s.mgmtRuns = true) ∧ (verified = false)) ∧
    (let ini : Fin 5 := 0; let w : Word := 0#32; let s : State := State.reset.set F.LCY_OTP_ADDR_WORD 0x300; (s.mayWrite ini A.LCY_OTP_CTRL (w ||| 0x2#32) = true) ∧ (bits w 0 1 = 0)) ∧
    (let ini : Fin 5 := 0; let w : Word := 0#32; let s : State := State.reset; (s.mayWrite ini A.LCY_OTP_CTRL (w ||| 0x1#32) = true) ∧ (bits w 1 1 = 0)) ∧
    (let k : Nat := 0x300; let x : Word := 7#32; let s : State := { State.reset with lcy := { State.reset.lcy with op := some ⟨true, 0x300, 7#32⟩ } }; (s.clocked .mgmt = true) ∧ (s.lcy.op = some ⟨true, k, x⟩)) ∧
    (let k : Nat := 0x300; let x : Word := 0#32; let s : State := { State.reset with otp := [(0x300, 7#32)], lcy := { State.reset.lcy with op := some ⟨false, 0x300, 0#32⟩ } }; (s.clocked .mgmt = true) ∧ (s.lcy.op = some ⟨false, k, x⟩)) ∧
    (let ini : Fin 5 := 0; let w : Word := 0x52530000#32; let s : State := State.reset; (s.mayWrite ini A.SYS_SW_RESET (w ||| 0x1#32) = true) ∧ (bits w 16 16 = 0x5253) ∧ (s.boot ≠ .held)) ∧
    (let ini : Fin 5 := 0; let w : Word := 0x52520000#32; let s : State := State.reset; (s.mayWrite ini A.SYS_SW_RESET (w ||| 0x1#32) = true) ∧ (bits w 16 16 ≠ 0x5253)) := by
  and_intros <;> decide +kernel

theorem test_meets_ImageLoad :
    (let s : State := { (State.reset.set F.SYS_STRAP_BOOT_LVL 3) with ldr := { State.reset.ldr with st := .flash } }; (s.ldr.st = .flash) ∧ (s.frozen = false)) ∧
    (let bytes : List Nat := [0x48, 0x4A, 0x4C, 0x4D, 1]; let s : State := { (((State.reset.set (F.PG_ENABLE 0x0A) 1).set F.USB_STATE_VBUS 1).set F.USB_ID_VID 0x1234).set F.USB_STATE_CONNECTED 1 with usb := { State.reset.usb with phy := true, imgRx := true }, ldr := { State.reset.ldr with st := .receive, source := 3, length := 24, got := 20 } }; (s.clocked .usb = true) ∧ (s.usbBulk = true) ∧ (s.frozen = false) ∧ (s.ldr.st = .receive) ∧ (s.ldr.length ≤ 262144) ∧ (∀ k : Nat, k < bytes.length → bytes.getD k 0 < 256)) ∧
    (let s : State := { (((State.reset.set (F.PG_ENABLE 0x0A) 1).set F.USB_STATE_VBUS 1).set F.USB_ID_VID 0x1234).set F.USB_STATE_CONNECTED 1 with usb := { State.reset.usb with phy := true, imgRx := true }, ldr := { State.reset.ldr with st := .receive, source := 3, length := 24, got := 20 } }; (s.ldr.st = .receive) ∧ (s.frozen = false) ∧ (s.ldr.source = 3)) ∧
    (let s : State := { { State.reset with usb := { State.reset.usb with imgRx := true } } with sram := [(425984, 0x4D4C4A48#32), (425985, 0x1#32), (425986, 0x18#32), (425988, 0xF#32), (425989, 0x8278CF3C#32)], ldr := { State.reset.ldr with pos := 16, st := .staged, source := 3, length := 24 } }; (s.ldr.st = .staged) ∧ (s.frozen = false) ∧ (s.ldr.source = 3) ∧ (24 ≤ s.ldr.length) ∧ (s.ldr.length ≤ 262144)) ∧
    (let a : List Word := [0x4D4C4A48#32, 0x1#32, 0x18#32, 0x0#32, 0xF#32, 0x8278CF3C#32]; let b : List Word := [0x4D4C4A48#32, 0x1#32, 0x18#32, 0x1#32, 0xF#32, 0x4ED2CFA2#32]; let sa : Nat := 0; let sb : Nat := 0; let s : State := { State.reset with ldr := { State.reset.ldr with st := .staged, source := 1, pos := 16, slots := [(1, [0x4D4C4A48#32, 0x1#32, 0x18#32, 0x0#32, 0xF#32, 0x8278CF3C#32]), (2, [0x4D4C4A48#32, 0x1#32, 0x18#32, 0x1#32, 0xF#32, 0x4ED2CFA2#32])] } }; (s.ldr.st = .staged) ∧ (s.frozen = false) ∧ (s.ldr.source = 1) ∧ (s.ldr.slots = [(1, a)] ∨ s.ldr.slots = [(1, a), (2, b)]) ∧ (sa = (imageCheck a none).1) ∧ (sb = (if s.ldr.slots = [(1, a)] then 1 else (imageCheck b none).1))) := by
  and_intros <;> decide +kernel

theorem test_meets_ImageRecords :
    (let s : State := { State.reset with sram := [(425988, 0x10001#32), (425989, 0x2810#32), (425990, 0x1#32)], ldr := { State.reset.ldr with pos := 16, st := .run, source := 3 } }; (s.pathOpen 2 = true) ∧ (s.ldr.st = .run) ∧ (s.recordWord 0 = 0x00010001#32) ∧ (heldReg (s.recordWord 1).toNat = true) ∧ (s.mayWrite 2 (s.recordWord 1).toNat (s.recordWord 2) = true)) ∧
    (let s : State := { State.reset with sram := [(425988, 0x20001#32), (425989, 0x280C#32), (425990, 0x1#32), (425991, 0x5#32)], ldr := { State.reset.ldr with pos := 16, st := .run, source := 3 } }; (s.pathOpen 2 = true) ∧ (s.ldr.st = .run) ∧ (s.recordWord 0 = 0x00020001#32) ∧ (heldReg (s.recordWord 1).toNat = true) ∧ (heldReg ((s.recordWord 1).toNat + 4) = true) ∧ (s.mayWrite 2 (s.recordWord 1).toNat (s.recordWord 2) = true) ∧ (s.mayWrite 2 ((s.recordWord 1).toNat + 4) (s.recordWord 3) = true)) ∧
    (let s : State := { State.reset with sram := [(425988, 0x10001#32), (425989, 0x40#32), (425990, 0x1#32)], ldr := { State.reset.ldr with pos := 16, st := .run, source := 1 } }; (s.pathOpen 2 = true) ∧ (s.ldr.st = .run) ∧ (s.recordWord 0 = 0x00010001#32) ∧ (s.refusal 2 true (s.recordWord 1).toNat (s.recordWord 2) ≠ 0) ∧ (s.ldr.source = 3 ∨ s.get F.USB_ID_VID = 0)) ∧
    (let s : State := { State.reset with sram := [(425988, 0x2#32), (425989, 0x2810#32), (425990, 0x3#32), (425991, 0x2#32)], ldr := { State.reset.ldr with pos := 16, st := .run, source := 1 } }; (s.pathOpen 2 = true) ∧ (s.ldr.st = .run) ∧ (s.recordWord 0 = 2#32) ∧ (s.recordWord 2 ≠ 0#32) ∧ (heldReg (s.recordWord 1).toNat = true) ∧ (s.mayWrite 2 (s.recordWord 1).toNat (s.rmwWord (s.recordWord 1).toNat (s.recordWord 2) (s.recordWord 3)) = true)) ∧
    (let s : State := { State.reset with sram := [(425988, 0x2#32), (425989, 0x3FFFC#32), (425990, 0x3#32), (425991, 0x2#32)], ldr := { State.reset.ldr with pos := 16, st := .run, source := 1 } }; (s.pathOpen 2 = true) ∧ (s.ldr.st = .run) ∧ (s.recordWord 0 = 2#32) ∧ (s.recordWord 2 ≠ 0#32) ∧ (s.ldr.source = 3 ∨ s.get F.USB_ID_VID = 0) ∧ (s.refusal 2 true (s.recordWord 1).toNat (s.rmwWord (s.recordWord 1).toNat (s.recordWord 2) (s.recordWord 3)) ≠ 0)) ∧
    (let s : State := { State.reset with sram := [(425988, 0x3#32), (425989, 0x40#32), (425990, 0x1#32), (425991, 0x1#32), (425992, 0xA#32)], ldr := { State.reset.ldr with pos := 16, st := .run, source := 1 } }; (s.pathOpen 2 = true) ∧ (s.ldr.st = .run) ∧ (bits (s.recordWord 0) 0 8 = 3)) ∧
    (let s : State := { State.reset with sram := [(425988, 0x3#32), (425989, 0x40#32), (425990, 0x1#32), (425991, 0x1#32), (425992, 0xA#32)], ldr := { State.reset.ldr with pos := 16, st := .poll, source := 1 } }; (s.pathOpen 2 = true) ∧ (s.ldr.st = .poll) ∧ (s.recordWord 0 = 3#32) ∧ (s.refusal 2 false (s.recordWord 1).toNat 0 = 0) ∧ ((s.peek (s.recordWord 1).toNat).2 = false) ∧ ((s.recordWord 1).toNat ≠ A.SNS_RESULT) ∧ (s.ldr.source = 3 ∨ s.get F.USB_ID_VID = 0)) ∧
    (let s : State := { State.reset with sram := [(425988, 0x3#32), (425989, 0x3E000#32), (425990, 0x1#32), (425991, 0x1#32), (425992, 0xA#32)], ldr := { State.reset.ldr with pos := 16, st := .poll, source := 1 } }; (s.pathOpen 2 = true) ∧ (s.ldr.st = .poll) ∧ (s.recordWord 0 = 3#32) ∧ (s.refusal 2 false (s.recordWord 1).toNat 0 ≠ 0) ∧ (s.ldr.source = 3 ∨ s.get F.USB_ID_VID = 0)) ∧
    (let s : State := { State.reset with sram := [(425988, 0x4#32), (425989, 0x64#32)], ldr := { State.reset.ldr with pos := 16, st := .run, source := 1 } }; (s.pathOpen 2 = true) ∧ (s.ldr.st = .run) ∧ (bits (s.recordWord 0) 0 8 = 4)) ∧
    (let s : State := { State.reset with sram := [(425988, 0x4#32), (425989, 0x64#32)], ldr := { State.reset.ldr with pos := 16, st := .delay, source := 1 } }; (s.pathOpen 2 = true) ∧ (s.ldr.st = .delay) ∧ (s.recordWord 0 = 4#32)) ∧
    (let s : State := { State.reset with sram := [(425988, 0x5#32)], ldr := { State.reset.ldr with pos := 16, st := .run, source := 1 } }; (s.pathOpen 2 = true) ∧ (s.ldr.st = .run) ∧ (bits (s.recordWord 0) 0 8 = 5) ∧ (s.recordWord 1 = 0#32) ∧ (s.mayWrite 2 A.CHN_CTRL (s.reg A.CHN_CTRL ||| 1#32) = true) ∧ (s.get F.CHN_CTRL_REVERT = 0) ∧ (s.get F.CHN_CTRL_CLR_COUNTS = 0)) ∧
    (let s : State := { State.reset with sram := [(425988, 0x5#32), (425989, 0x1#32)], ldr := { State.reset.ldr with pos := 16, st := .run, source := 1 } }; (s.pathOpen 2 = true) ∧ (s.ldr.st = .run) ∧ (bits (s.recordWord 0) 0 8 = 5) ∧ (s.recordWord 1 = 1#32) ∧ (s.mayWrite 2 A.FIF_CTRL (s.reg A.FIF_CTRL ||| 1#32) = true)) ∧
    (let s : State := { State.reset with sram := [(425988, 0x5#32), (425989, 0x2#32)], ldr := { State.reset.ldr with pos := 16, st := .run, source := 1 } }; (s.pathOpen 2 = true) ∧ (s.ldr.st = .run) ∧ (s.recordWord 0 = 5#32) ∧ (s.recordWord 1 = 2#32) ∧ (s.commitLanes = [])) ∧
    (let n : Fin 48 := 1; let s : State := { (State.reset.set (F.CLK_PLL_STATUS_STATE 0) 2).lanePhase 1 .running with sram := [(425988, 0x5#32), (425989, 0x2#32), (425990, 0x2#32)], ldr := { State.reset.ldr with pos := 16, st := .run, source := 1 } }; (s.pathOpen 2 = true) ∧ (s.ldr.st = .run) ∧ (s.recordWord 0 = 5#32) ∧ (s.recordWord 1 = 2#32) ∧ (s.commitLanes = [n.val]) ∧ (s.mayWrite 2 (A.LANE_COEF_CTRL n) (s.reg (A.LANE_COEF_CTRL n) ||| 1#32) = true) ∧ ((s.laneAt n).phase = .running) ∧ (s.engRuns = true) ∧ ((s.laneAt n).commit = .idle) ∧ ((s.laneAt n).eff.coef = s.reg (A.LANE_COEF_CTRL n) &&& 4#32)) ∧
    (let s : State := { (State.reset.set F.CHN_STATUS_BUSY 1) with sram := [(425988, 0x5#32)], ldr := { State.reset.ldr with pos := 16, st := .commit, source := 1 } }; (s.pathOpen 2 = true) ∧ (s.ldr.st = .commit) ∧ (s.recordWord 0 = 5#32) ∧ (s.recordWord 1 = 0#32 ∨ s.recordWord 1 = 1#32) ∧ (s.ldr.source = 3 ∨ s.get F.USB_ID_VID = 0)) ∧
    (let n : Fin 48 := 1; let s : State := { (State.reset.set (F.LANE_COEF_STATUS_ERR 1) 1) with sram := [(425988, 0x5#32), (425989, 0x2#32), (425990, 0x2#32)], ldr := { State.reset.ldr with pos := 16, st := .commit, source := 1, lanes := [1] } }; (s.pathOpen 2 = true) ∧ (s.ldr.st = .commit) ∧ (s.recordWord 0 = 5#32) ∧ (s.recordWord 1 = 2#32) ∧ (s.ldr.lanes = [n.val]) ∧ (s.ldr.source = 3 ∨ s.get F.USB_ID_VID = 0)) ∧
    (let s : State := { State.reset with sram := [(425986, 0x18#32), (425988, 0xF#32)], ldr := { State.reset.ldr with pos := 16, st := .run, source := 3 } }; (s.pathOpen 2 = true) ∧ (s.ldr.st = .run) ∧ (bits (s.recordWord 0) 0 8 = 15)) := by
  and_intros <;> decide +kernel

theorem test_meets_ResetsAndRails :
    (let aon : Bool := true; (aon = true)) ∧
    (let aon : Bool := false; (aon = false)) ∧
    (let s : State := State.reset.setReg A.PWR_COUNT 9#32; (s.boot = .up) ∧ (s.domState ≠ 5)) ∧
    (let s : State := { State.reset with domState := 5 }; (s.domState = 5 ∨ s.boot ≠ .up)) ∧
    (let boot : Fin 4 := 1; let cause : Nat := 3; let s : State := { State.reset with regs := [], domState := 6, boot := .start 3, jobs := Vector.replicate 16 Job.empty }; (s.boot = .start cause) ∧ (cause < 5) ∧ (s.pins.aon = true) ∧ (s.pins.core = true)) ∧
    (let s : State := State.reset; (s.boot = .up ∨ s.boot = .held ∨ s.pins.aon = false ∨ s.pins.core = false)) ∧
    (let rail : Fin 3 := 0; let s : State := { State.reset with pins := { State.reset.pins with hpvdd := false }, aout := vmod State.reset.aout 1 (fun a => { a with phase := .waitPump }) }; (rail.val = 0) ∧ (s.clocked .aout = true) ∧ (s.cpFault = false)) ∧
    (let rail : Fin 3 := 1; let s : State := (State.reset.set (F.PG_ENABLE 0x0A) 1).set F.USB_STATE_VBUS 1; (rail.val = 1) ∧ (s.domState ≤ 1)) ∧
    (let rail : Fin 3 := 2; let s : State := (State.reset.set (F.PG_ENABLE (pgSPK 1)) 1).set (F.SPK_CTRL_EN 1) 1; (rail.val = 2) ∧ (s.domState = 0)) ∧
    (({ State.reset with domState := 5 } : State).domState = 5 ∧ ({ State.reset with domState := 3 } : State).isolated (Ball.spiSck).island = true) ∧
    (let s : State := State.reset; (s.domState ≤ 4)) := by
  and_intros <;> decide +kernel

theorem test_meets_RegisterPath :
    (let ini : Fin 5 := 0; let addr : BitVec 24 := 0x2810#24; let w : Word := 3#32; let words : List Word := [3#32]; let s : State := State.reset; (words = [w]) ∧ (heldReg addr.toNat = true) ∧ (s.mayWrite ini addr.toNat w = true)) ∧
    (let ini : Fin 5 := 1; let addr : BitVec 24 := 0x280C#24; let x : Word := 3#32; let y : Word := 4#32; let words : List Word := [3#32, 4#32]; let s : State := State.reset; (words = [x, y]) ∧ (heldReg addr.toNat = true) ∧ (heldReg (addr.toNat + 4) = true) ∧ (s.mayWrite ini addr.toNat x = true) ∧ (s.mayWrite ini (addr.toNat + 4) y = true)) ∧
    (let ini : Fin 5 := 0; let words : List Word := []; let s : State := State.reset; (words = [] ∨ (if ini.val = 2 then 1024 else 63) < words.length) ∧ (s.pathOpen ini = true)) ∧
    (let ini : Fin 5 := 3; let addr : BitVec 24 := 0x40#24; let w : Word := 1#32; let t : List Word := [2#32]; let words : List Word := [1#32, 2#32]; let s : State := State.reset; (words = w :: t) ∧ (words.length ≤ 63) ∧ (ini.val < 4) ∧ (s.pathOpen ini = true) ∧ (s.refusal ini true addr.toNat w ≠ 0)) ∧
    (let ini : Fin 5 := 0; let addr : BitVec 24 := BitVec.ofNat 24 A.BLW_SAG; let w : Word := 0x00640064#32; let words : List Word := [0x00640064#32]; let s : State := State.reset; (words = [w]) ∧ (heldReg addr.toNat = true) ∧ (ini.val < 4) ∧ (s.pathOpen ini = true) ∧ (s.refusal ini true addr.toNat w = 0) ∧ (s.wouldStrike ini addr.toNat w = true)) ∧
    (let ini : Fin 5 := 4; let addr : BitVec 24 := 0x2810#24; let w : Word := 1#32; let words : List Word := [1#32]; let s : State := State.reset.set F.MEM_WIPE_STATUS_ALL 1; (words = [w]) ∧ (ini.val = 4) ∧ (s.pathOpen 4 = true) ∧ (s.stalled ≠ [] ∨ s.wipeBars true (placeOf addr.toNat) = true)) ∧
    (let ini : Fin 5 := 0; let page : Fin 96 := 7; let w : Word := 1#32; let s : State := (State.reset.set (F.PG_FAULT 7) 1).set (F.PG_LAST_VIOL 7) 2; (s.mayWrite ini (page.val * 0x400 + 4) (w ||| 0x4#32) = true) ∧ (bits w 0 1 = s.get (F.PG_ENABLE page))) := by
  and_intros <;> decide +kernel

end
end

section
/-! PROOFS. Reading a register that a reset leaves at its reset word (R2, R52), and O2. -/

namespace Sys2Proof.Machine

/-- SYS_ID is neither computed nor of a WO field: a read gives the word it holds. -/
theorem State.readReg_sysId (s : State) : s.readReg A.SYS_ID = s.reg A.SYS_ID := rfl

/-- Words held at other addresses leave a register. -/
theorem State.reg_foldl_setReg_ne (w : Nat → Word) {a : Nat} : ∀ (l : List Nat) (s : State), a ∉ l →
    (l.foldl (fun t b => t.setReg b (w b)) s).reg a = s.reg a
  | [], _, _ => rfl
  | b :: l, s, h => by
    rw [List.mem_cons, not_or] at h
    rw [List.foldl_cons, State.reg_foldl_setReg_ne w l _ h.2, s.reg_setReg_ne _ (Ne.symm h.1)]

/-- A reset leaves every register outside the AON accounting at its reset word (R52). -/
theorem State.reg_enterReset (s : State) (aon : Bool) (b : Boot) {a : Nat} (h : a ∉ aonRegs) :
    (s.enterReset aon b).reg a = regReset a := by
  unfold State.enterReset
  cases aon
  · exact State.reg_foldl_setReg_ne s.reg aonRegs _ h
  · rfl

/-- The reset word of SYS_ID (R2). -/
theorem regReset_sysId : regReset A.SYS_ID = 0x0F4848A0#32 := by decide

/-- Settles O2: no reset writes SYS_ID, so it holds its reset word. -/
theorem sysIdAfterEveryReset : Obligations.SysIdAfterEveryReset := by
  unfold Obligations.SysIdAfterEveryReset
  refine ⟨fun s aon b => ?_, ?_, by decide, by decide, by decide⟩
  · rw [State.readReg_sysId, State.reg_enterReset s aon b (by decide), regReset_sysId]
  · decide +kernel

end Sys2Proof.Machine
end

section
/-! PROOFS. Held registers (R6 to R8, R58): a write of one is its access types and nothing else, and it leaves every word that the
register path asks before it lets the next one through (R69 to R73). -/

namespace Sys2Proof.Machine

variable (s : State)

/-! ## Reads beside a held word -/

theorem State.get_setReg_ne {a : Nat} {f : Fld} (w : Word) (h : a ≠ f.addr) : (s.setReg a w).get f = s.get f := by
  simp [State.get, s.reg_setReg_ne w h]

theorem State.on_setReg_ne {a : Nat} {f : Fld} (w : Word) (h : a ≠ f.addr) : (s.setReg a w).on f = s.on f := by
  simp [State.on, s.get_setReg_ne w h]

/-! ## Which registers are held -/

/-- The held registers of the blocks; `heldReg` adds three words of every page's header. -/
def heldBlockRegs : List Nat :=
  [A.SYS_IRQ_GROUP_EN, A.PWR_RET_MASK, A.PWR_WAKE_EN, A.PWR_WAKE_TIMER, A.BLW_SAG, A.MEM_ECC_CFG, A.PMB_TIMING, A.LST_VAD,
    A.LST_SPOT] ++ (List.range 4).map A.USB_AS_CFG ++ (List.range 16).map A.SNS_SEQ ++ (List.range 32).map A.FIF_GAIN ++
    (List.range 110).map A.CHN_SINK

/-- A word of a page's header that is only held: PG_IRQ_RAW, PG_IRQ_EN or PG_CLK (R58). -/
def heldHeader (a : Nat) : Prop :=
  (pageRow (a / 0x400)).isSome = true ∧ (a % 0x400 = 0x00C ∨ a % 0x400 = 0x010 ∨ a % 0x400 = 0x020)

theorem heldReg_cases {a : Nat} (h : heldReg a = true) : heldHeader a ∨ a ∈ heldBlockRegs := by
  simp only [heldReg, Bool.or_eq_true, Bool.and_eq_true, decide_eq_true_eq, List.contains_iff_mem, List.any_eq_true,
    List.mem_range] at h
  simp only [heldHeader, heldBlockRegs, List.mem_append, List.mem_map, List.mem_range]
  rcases h with ((((⟨hp, ho⟩ | h) | ⟨k, hk, rfl⟩) | ⟨k, hk, rfl⟩) | ⟨k, hk, rfl⟩) | ⟨k, hk, rfl⟩
  · exact .inl ⟨hp, or_assoc.1 ho⟩
  · exact .inr (.inl (.inl (.inl (.inl h))))
  · exact .inr (.inl (.inl (.inl (.inr ⟨k, hk, rfl⟩))))
  · exact .inr (.inl (.inl (.inr ⟨k, hk, rfl⟩)))
  · exact .inr (.inl (.inr ⟨k, hk, rfl⟩))
  · exact .inr (.inr ⟨k, hk, rfl⟩)

theorem heldReg_ne {a c : Nat} (h : heldReg a = true) (hc : heldReg c = false) : a ≠ c := by
  rintro rfl
  exact Bool.noConfusion (h.symm.trans hc)

/-- Held registers of the blocks lie on implemented pages, past the header, and have a definition. -/
theorem heldBlockRegs_mapped : ∀ a ∈ heldBlockRegs,
    (pageRow (a / 0x400)).isSome = true ∧ 0x40 ≤ a % 0x400 ∧ (regDefAt a).isSome = true := by decide +kernel

theorem heldReg_row {a : Nat} (h : heldReg a = true) : (pageRow (a / 0x400)).isSome = true :=
  (heldReg_cases h).elim (·.1) (fun hm => (heldBlockRegs_mapped a hm).1)

/-- An address on an implemented page names nothing or a register. -/
theorem placeOf_of_row {a : Nat} (h : (pageRow (a / 0x400)).isSome = true) :
    placeOf a = .none ∨ placeOf a = .reg (a / 0x400) (a % 0x400) := by
  obtain ⟨r, hr⟩ := Option.isSome_iff_exists.1 h
  unfold placeOf
  rw [hr]
  split
  · exact .inl rfl
  · dsimp only
    split
    · exact .inr rfl
    · exact .inl rfl

/-- A word that no cause refuses has a place (R71). -/
theorem State.placeOf_of_refusal {ini a : Nat} {w : Word} (h : s.refusal ini true a w = 0) : placeOf a ≠ .none := by
  intro hp
  simp [State.refusal, hp] at h

theorem State.placeOf_held {ini a : Nat} {w : Word} (ha : heldReg a = true) (h : s.refusal ini true a w = 0) :
    placeOf a = .reg (a / 0x400) (a % 0x400) :=
  (placeOf_of_row (heldReg_row ha)).resolve_left (s.placeOf_of_refusal h)

/-- The definition of a header word, on any implemented page (R58). -/
theorem regDefAt_header {a : Nat} {r : PageRow} (hr : pageRow (a / 0x400) = some r) (ho : a % 0x400 < 0x40) :
    regDefAt a = (headerRegs r).find? (fun d => d.serves 0 (a % 0x400)) := by
  simp only [regDefAt, hr, if_pos ho]

theorem regDefAt_held {a : Nat} (h : heldReg a = true) : ∃ d, regDefAt a = some d := by
  rcases heldReg_cases h with ⟨hp, ho⟩ | hm
  · obtain ⟨r, hr⟩ := Option.isSome_iff_exists.1 hp
    rw [regDefAt_header hr (by omega)]
    rcases ho with ho | ho | ho <;> simp [ho, headerRegs, RegDef.serves]
  · exact Option.isSome_iff_exists.1 (heldBlockRegs_mapped a hm).2.2

/-! ## A held word starts nothing -/

theorem State.regWritten_usbAsCfg (e : Option Facts) (k : Nat) (hk : k < 4) (old w : Word) :
    s.regWritten e (A.USB_AS_CFG k) old w = s := by
  have hp : A.USB_AS_CFG k / 0x400 = 0x0A := by simp only [A.USB_AS_CFG]; omega
  have ho : ¬ A.USB_AS_CFG k % 0x400 < 0x40 := by simp only [A.USB_AS_CFG]; omega
  have hn : ∀ k < 4, A.USB_AS_CFG k ∉ [A.USB_CFG, A.USB_ID, A.USB_FU_CTRL, A.USB_HID_MAP, A.USB_HID_INJECT, A.USB_WAKE,
    A.USB_HIST_CTRL, A.USB_CNT_CLR] := by decide
  have hu : s.usbWritten (A.USB_AS_CFG k) old w = s := by
    have := hn k hk
    simp only [List.mem_cons, List.not_mem_nil, or_false, not_or] at this
    simp [State.usbWritten, this]
  simp only [State.regWritten, if_neg ho, hp]
  exact hu

theorem State.regWritten_snsSeq (e : Option Facts) (k : Nat) (hk : k < 16) (old w : Word) :
    s.regWritten e (A.SNS_SEQ k) old w = s := by
  have hp : A.SNS_SEQ k / 0x400 = 0x0B := by simp only [A.SNS_SEQ]; omega
  have ho : ¬ A.SNS_SEQ k % 0x400 < 0x40 := by simp only [A.SNS_SEQ]; omega
  have hn : ∀ k < 16, A.SNS_SEQ k ∉ [A.SNS_CFG, A.SNS_SEQ_CTRL, A.SNS_URGENT, A.SNS_DIAG_CTRL, A.SNS_CNT_CLR] ∧
    ¬ A.SNS_SEQ k ≤ A.SNS_DRONE_CFG 3 := by decide
  have hu : s.snsWritten (A.SNS_SEQ k) w = s := by
    have := hn k hk
    simp only [List.mem_cons, List.not_mem_nil, or_false, not_or] at this
    simp [State.snsWritten, this]
  simp only [State.regWritten, if_neg ho, hp]
  exact hu

theorem State.regWritten_fifGain (e : Option Facts) (k : Nat) (hk : k < 32) (old w : Word) :
    s.regWritten e (A.FIF_GAIN k) old w = s := by
  have hp : A.FIF_GAIN k / 0x400 = 0x0E := by simp only [A.FIF_GAIN]; omega
  have ho : ¬ A.FIF_GAIN k % 0x400 < 0x40 := by simp only [A.FIF_GAIN]; omega
  have hc : decide (A.FIF_GAIN k = A.FIF_CTRL) = false := decide_eq_false (by simp only [A.FIF_GAIN, A.FIF_CTRL]; omega)
  have hu : s.when (decide (A.FIF_GAIN k = A.FIF_CTRL) && hit w 0) State.fifCommit = s := by rw [hc]; rfl
  simp only [State.regWritten, if_neg ho, hp]
  exact hu

theorem State.regWritten_chnSink (e : Option Facts) (k : Nat) (hk : k < 110) (old w : Word) :
    s.regWritten e (A.CHN_SINK k) old w = s := by
  have hp : A.CHN_SINK k / 0x400 = 0x0F := by simp only [A.CHN_SINK]; omega
  have ho : ¬ A.CHN_SINK k % 0x400 < 0x40 := by simp only [A.CHN_SINK]; omega
  have hu : s.chnWritten (A.CHN_SINK k) w = s := by
    rw [State.chnWritten, decide_eq_false (by simp only [A.CHN_SINK, A.CHN_CTRL]; omega)]
    rfl
  simp only [State.regWritten, if_neg ho, hp]
  exact hu

/-- The header's held words start nothing: only PG_CTRL does (R60). -/
theorem State.regWritten_header (e : Option Facts) {a : Nat} (ha : heldHeader a) (old w : Word) :
    s.regWritten e a old w = s := by
  have ho := ha.2
  simp only [State.regWritten]
  rw [if_pos (by omega), State.headerWritten, if_neg (by omega)]

/-- A held register's word is held and starts nothing. -/
theorem State.regWritten_held (e : Option Facts) {a : Nat} (ha : heldReg a = true) (old w : Word) :
    s.regWritten e a old w = s := by
  rcases heldReg_cases ha with hh | hm
  · exact s.regWritten_header e hh old w
  simp only [heldBlockRegs, List.mem_append, List.mem_map, List.mem_range] at hm
  rcases hm with (((h | ⟨k, hk, rfl⟩) | ⟨k, hk, rfl⟩) | ⟨k, hk, rfl⟩) | ⟨k, hk, rfl⟩
  · simp only [List.mem_cons, List.not_mem_nil, or_false] at h
    rcases h with rfl | rfl | rfl | rfl | rfl | rfl | rfl | rfl | rfl <;> rfl
  · exact s.regWritten_usbAsCfg e k hk old w
  · exact s.regWritten_snsSeq e k hk old w
  · exact s.regWritten_fifGain e k hk old w
  · exact s.regWritten_chnSink e k hk old w

/-- The write of a held register: its word by the access types, nothing else. -/
theorem State.poke_held (e : Option Facts) {a p o : Nat} (ha : heldReg a = true) (hp : placeOf a = .reg p o) (w : Word) :
    (s.poke e a w).1 = s.setReg a (s.taken a w) := by
  obtain ⟨d, hd⟩ := regDefAt_held ha
  rw [State.poke_reg_taken s e a w hp hd (.inl (heldReg_ne ha (by decide +kernel))), State.regWritten_held _ e ha]
  simp only [State.taken, hd]

/-- A word that no cause refuses strikes exactly when a reserved value is written (R7, R72). -/
theorem State.poke_snd (e : Option Facts) {ini a p o : Nat} {w : Word} (hp : placeOf a = .reg p o)
    (hr : s.refusal ini true a w = 0) : (s.poke e a w).2 = s.wouldStrike ini a w := by
  unfold State.poke State.wouldStrike
  rw [hp, hr]
  cases regDefAt a <;> simp

/-! ## What a held word leaves to the next one -/

variable {a b : Nat}

theorem State.get_setReg_held (ha : heldReg a = true) (x : Word) {f : Fld} (hf : heldReg f.addr = false) :
    (s.setReg a x).get f = s.get f := s.get_setReg_ne x (heldReg_ne ha hf)

theorem State.on_setReg_held (ha : heldReg a = true) (x : Word) {f : Fld} (hf : heldReg f.addr = false) :
    (s.setReg a x).on f = s.on f := s.on_setReg_ne x (heldReg_ne ha hf)

theorem State.frozen_setReg_held (ha : heldReg a = true) (x : Word) : (s.setReg a x).frozen = s.frozen := by
  simp only [State.frozen, s.get_setReg_held ha x (f := F.DBG_FREEZE_STATUS_STATE) (by decide +kernel)]

theorem State.pathOpen_setReg_held (ha : heldReg a = true) (x : Word) (ini : Nat) :
    (s.setReg a x).pathOpen ini = s.pathOpen ini := by
  simp only [State.pathOpen, State.mgmtRuns, s.frozen_setReg_held ha x]
  rfl

theorem State.wipeBars_setReg_held (ha : heldReg a = true) (x : Word) (write : Bool) (p o : Nat) :
    (s.setReg a x).wipeBars write (.reg p o) = s.wipeBars write (.reg p o) := by
  simp only [State.wipeBars, s.on_setReg_held ha x (f := F.MEM_WIPE_STATUS_ALL) (by decide +kernel)]

theorem State.islandOn_setReg_held (ha : heldReg a = true) (x : Word) (i : Island) :
    (s.setReg a x).islandOn i = s.islandOn i := by
  have hl : (s.setReg a x).lstEnabled = s.lstEnabled := s.on_setReg_held ha x (by decide +kernel)
  unfold State.islandOn
  rw [hl]
  cases i <;> rfl

theorem State.lifeBars_setReg_held (ha : heldReg a = true) (x : Word) (ini p o : Nat) (y : Word) :
    (s.setReg a x).lifeBars ini true b (.reg p o) y = s.lifeBars ini true b (.reg p o) y := by
  have hd := s.on_setReg_held ha x (f := F.LCY_STATE_DBG_EN) (by decide +kernel)
  have hl : (s.setReg a x).lcState = s.lcState := rfl
  simp only [State.lifeBars, State.debugOk, State.progLocked, State.setReg_lcy, hd, hl]

theorem State.historyBars_setReg_held (ha : heldReg a = true) (x : Word) (p o : Nat) (y : Word) :
    (s.setReg a x).historyBars true b (.reg p o) y = s.historyBars true b (.reg p o) y := by
  simp only [State.historyBars, s.on_setReg_held ha x (f := F.LST_STATUS_ARMED) (by decide +kernel)]

/-- A held word bars no register that follows it. -/
theorem State.refusal_setReg_held (ha : heldReg a = true) (hb : heldReg b = true) (x : Word) (ini : Nat) (y : Word) :
    (s.setReg a x).refusal ini true b y = s.refusal ini true b y := by
  rcases placeOf_of_row (heldReg_row hb) with hp | hp
  · simp only [State.refusal, hp, if_true]
  · simp only [State.refusal, hp, s.wipeBars_setReg_held ha x, s.lifeBars_setReg_held ha x, s.historyBars_setReg_held ha x,
      State.offBars, s.islandOn_setReg_held ha x, s.frozen_setReg_held ha x]

theorem State.wouldStrike_setReg_held (ha : heldReg a = true) (hb : heldReg b = true) (hab : a ≠ b) (x : Word) (ini : Nat)
    (y : Word) : (s.setReg a x).wouldStrike ini b y = s.wouldStrike ini b y := by
  simp only [State.wouldStrike, s.refusal_setReg_held ha hb, s.reg_setReg_ne x hab]

/-- After a held word the next register may be written as before. -/
theorem State.mayWrite_setReg_held (ha : heldReg a = true) (hb : heldReg b = true) (hab : a ≠ b) (x : Word) (ini : Nat)
    (y : Word) : (s.setReg a x).mayWrite ini b y = s.mayWrite ini b y := by
  have hw : (s.setReg a x).wipeBars true (placeOf b) = s.wipeBars true (placeOf b) := by
    rcases placeOf_of_row (heldReg_row hb) with hp | hp <;> rw [hp]
    · rfl
    · exact s.wipeBars_setReg_held ha x true _ _
  unfold State.mayWrite
  rw [s.pathOpen_setReg_held ha, s.wouldStrike_setReg_held ha hb hab, hw]
  rfl

theorem State.taken_setReg_ne (hab : a ≠ b) (x y : Word) : (s.setReg a x).taken b y = s.taken b y := by
  simp only [State.taken, s.reg_setReg_ne x hab]

end Sys2Proof.Machine
end

section
/-! PROOFS. The violation log (R62, R74): what a logged violation shows and what it leaves unchanged. -/

namespace Sys2Proof.Machine

variable (s : State)

/-- DBG_VIOL_LAST_INFO of a violation with an address (R74). -/
def violInfo (s : State) (ini code dir : Nat) : Word :=
  BitVec.ofNat 32 (s.get F.BLW_TICK_COUNT % 65536 * 65536 + 512 + 256 + dir * 128 + ini * 16 + code)

/-- The global log of a violation (R74). -/
def State.violLog (s : State) (info addr : Word) : State :=
  (((s.setReg A.DBG_VIOL_LAST_ADDR addr).setReg A.DBG_VIOL_LAST_INFO info).when
    (!((s.setReg A.DBG_VIOL_LAST_ADDR addr).setReg A.DBG_VIOL_LAST_INFO info).on F.DBG_VIOL_FIRST_INFO_VALID)
    (fun s => (s.setReg A.DBG_VIOL_FIRST_ADDR addr).setReg A.DBG_VIOL_FIRST_INFO info)).inc F.DBG_VIOL_COUNT_COUNT

/-- The record of a violation on its page (R62): the last cause, the count, the address, the interrupt. -/
def State.violPage (s : State) (p code addr : Nat) : State :=
  (((s.set (F.PG_LAST_VIOL p) code).inc (F.PG_VIOL_COUNT p)).set (F.PG_ERR_ADDR p) addr).irq p 0

/-- A refused or struck write is logged, then recorded on the page of its address, if there is one. -/
theorem State.violation_write (ini code full : Nat) : s.violation ini code true (some full) =
    (s.violLog (violInfo s ini code 1) (BitVec.ofNat 32 (full % 2 ^ 18))).when
      (decide (full < 2 ^ 18) && (pageRow (full / 0x400)).isSome)
      (·.violPage (full / 0x400) code (1 * 2 ^ 21 + ini * 2 ^ 18 + full)) := rfl

/-- A field whose bounds are numbers fits by evaluation. -/
theorem Fld.fits_of_ble {f : Fld} (h : Nat.ble (f.lo + f.w) 32 = true) : f.fits := Nat.le_of_ble_eq_true h

/-! ## The global log -/

theorem State.violLog_count (info addr : Word) :
    (s.violLog info addr).get F.DBG_VIOL_COUNT_COUNT = min (s.get F.DBG_VIOL_COUNT_COUNT + 1) 0xFFFF := by
  unfold State.violLog
  rw [State.get_inc_self _ _ (Fld.fits_of_ble rfl)]
  congr 2
  have h : ∀ (t : State) (a : Nat) (w : Word), a ≠ A.DBG_VIOL_COUNT →
      (t.setReg a w).get F.DBG_VIOL_COUNT_COUNT = t.get F.DBG_VIOL_COUNT_COUNT := fun t a w ha => t.get_setReg_ne w ha
  unfold State.when
  split
  · rw [h _ _ _ (by decide), h _ _ _ (by decide), h _ _ _ (by decide), h _ _ _ (by decide)]
  · rw [h _ _ _ (by decide), h _ _ _ (by decide)]

theorem State.violLog_lastInfo (info addr : Word) : (s.violLog info addr).reg A.DBG_VIOL_LAST_INFO = info := by
  unfold State.violLog
  rw [State.inc, State.reg_set_ne _ _ (by decide)]
  unfold State.when
  split
  · rw [State.reg_setReg_ne _ _ (by decide), State.reg_setReg_ne _ _ (by decide), State.reg_setReg_self]
  · rw [State.reg_setReg_self]

theorem State.violLog_lastAddr (info addr : Word) : (s.violLog info addr).reg A.DBG_VIOL_LAST_ADDR = addr := by
  unfold State.violLog
  rw [State.inc, State.reg_set_ne _ _ (by decide)]
  unfold State.when
  split
  · rw [State.reg_setReg_ne _ _ (by decide), State.reg_setReg_ne _ _ (by decide), State.reg_setReg_ne _ _ (by decide),
      State.reg_setReg_self]
  · rw [State.reg_setReg_ne _ _ (by decide), State.reg_setReg_self]

/-- The words and fields that a violation of an address on page `p` may write (R62, R74). -/
def violFlds (p : Nat) : List Fld :=
  [whole A.DBG_VIOL_LAST_ADDR, whole A.DBG_VIOL_LAST_INFO, whole A.DBG_VIOL_FIRST_ADDR, whole A.DBG_VIOL_FIRST_INFO,
    F.DBG_VIOL_COUNT_COUNT, F.PG_IRQ p 0, whole (p * 0x400 + 0x18), whole (p * 0x400 + 0x1C)]

/-! ## The page's record -/

/-- The page's record leaves every word past the headers. -/
theorem State.reg_violPage_ne (p code addr : Nat) {a : Nat} (ha : 0x40 ≤ a % 0x400) :
    (s.violPage p code addr).reg a = s.reg a := by
  unfold State.violPage State.inc
  rw [State.reg_irq_ne _ _ (by omega), State.reg_set_ne _ _ (by simp only [F.PG_ERR_ADDR]; omega),
    State.reg_set_ne _ _ (by simp only [F.PG_VIOL_COUNT]; omega), State.reg_set_ne _ _ (by simp only [F.PG_LAST_VIOL]; omega)]

theorem State.violPage_irq (p code addr : Nat) : (s.violPage p code addr).on (F.PG_IRQ p 0) = true := by
  unfold State.violPage
  simp only [State.on, State.get_irq_self _ p 0 (by decide)]
  decide

theorem State.violPage_last (p addr : Nat) {code : Nat} (hc : code < 16) :
    (s.violPage p code addr).get (F.PG_LAST_VIOL p) = code := by
  have hf : (F.PG_VIOL_COUNT p).apart (F.PG_LAST_VIOL p) := .inr (.inl (by simp [F.PG_VIOL_COUNT, F.PG_LAST_VIOL]))
  unfold State.violPage State.irq State.inc
  rw [State.get_set_ne _ _ (Fld.fits_of_ble rfl) (.inl (by simp [F.PG_IRQ, F.PG_LAST_VIOL])),
    State.get_set_ne _ _ (Fld.fits_of_ble rfl) (.inl (by simp [F.PG_ERR_ADDR, F.PG_LAST_VIOL])),
    State.get_set_ne _ _ (Fld.fits_of_ble rfl) hf, State.get_set_self _ _ _ (Fld.fits_of_ble rfl)]
  exact Nat.mod_eq_of_lt hc

/-! ## A logged violation -/

/-- What the log shows of a violation (R74): the count, and the initiator, the address and the cause of the last. -/
def State.logShows (s u : State) (ini code full : Nat) : Prop :=
  u.get F.DBG_VIOL_COUNT_COUNT = min (s.get F.DBG_VIOL_COUNT_COUNT + 1) 0xFFFF ∧
  bits (u.reg A.DBG_VIOL_LAST_INFO) 4 3 = ini ∧ u.reg A.DBG_VIOL_LAST_ADDR = BitVec.ofNat 32 (full % 2 ^ 18) ∧
  bits (u.reg A.DBG_VIOL_LAST_INFO) 0 4 = code

theorem bits_violInfo {ini code : Nat} (hi : ini < 8) (hc : code < 16) :
    bits (violInfo s ini code 1) 4 3 = ini ∧ bits (violInfo s ini code 1) 0 4 = code := by
  unfold bits violInfo
  rw [BitVec.toNat_ofNat]
  generalize s.get F.BLW_TICK_COUNT = t
  omega

theorem State.violation_shows {ini code : Nat} (full : Nat) (hi : ini < 8) (hc : code < 16) :
    s.logShows (s.violation ini code true (some full)) ini code full := by
  have hw : ∀ (t : State) (c : Bool) (p x : Nat) {a : Nat}, 0x40 ≤ a % 0x400 →
      (t.when c (·.violPage p code x)).reg a = t.reg a := fun t c p x a ha => by
    cases c
    · rfl
    · exact t.reg_violPage_ne p code x ha
  rw [State.violation_write]
  refine ⟨?_, ?_, ?_, ?_⟩
  · rw [State.get, hw _ _ _ _ (by decide)]
    exact s.violLog_count _ _
  · rw [hw _ _ _ _ (by decide), State.violLog_lastInfo]
    exact (bits_violInfo s hi hc).1
  · rw [hw _ _ _ _ (by decide), State.violLog_lastAddr]
  · rw [hw _ _ _ _ (by decide), State.violLog_lastInfo]
    exact (bits_violInfo s hi hc).2

/-- On an implemented page the last violation and the interrupt stand. -/
theorem State.violation_page (ini : Nat) {code full : Nat} (hc : code < 16) (hf : full < 2 ^ 18)
    (hp : (pageRow (full / 0x400)).isSome = true) :
    (s.violation ini code true (some full)).get (F.PG_LAST_VIOL (full / 0x400)) = code ∧
      (s.violation ini code true (some full)).on (F.PG_IRQ (full / 0x400) 0) = true := by
  rw [State.violation_write, hp, decide_eq_true hf]
  exact ⟨State.violPage_last _ _ _ hc, State.violPage_irq _ _ _ _⟩

/-- A field of a word that is listed whole. -/
theorem Touches.set_whole {ps : List Part} {gs : List Nat} {fs : List Fld} {s t : State} (h : Touches ps gs fs s t) {f : Fld}
    (v : Nat) (hf : whole f.addr ∈ fs) : Touches ps gs fs s (t.set f v) := h.setReg _ (.inr hf)

/-- A violation writes its log words and its page's record only. -/
theorem Touches.violation {ps : List Part} {gs : List Nat} {fs : List Fld} {s t : State} (h : Touches ps gs fs s t)
    (ini code full : Nat) (hf : violFlds (full / 0x400) ⊆ fs) :
    Touches ps gs fs s (t.violation ini code true (some full)) := by
  have hm : ∀ f ∈ violFlds (full / 0x400), f ∈ fs := fun f h => hf h
  simp only [violFlds, List.mem_cons, List.not_mem_nil, or_false, forall_eq_or_imp, forall_eq] at hm
  obtain ⟨hla, hli, hfa, hfi, hc, hi, h18, h1c⟩ := hm
  rw [State.violation_write]
  refine Touches.when ?_ _ (fun _ => ?_)
  all_goals have hl : Touches ps gs fs s (t.violLog (violInfo t ini code 1) (BitVec.ofNat 32 (full % 2 ^ 18))) :=
    (((h.setReg _ (.inr hla)).setReg _ (.inr hli)).when _
      (fun _ => (((h.setReg _ (.inr hla)).setReg _ (.inr hli)).setReg _ (.inr hfa)).setReg _ (.inr hfi))).inc (.inr hc)
  · exact hl
  · exact (((hl.set_whole _ h18).set_whole _ h18).set_whole _ h1c).irq (.inr hi)

end Sys2Proof.Machine
end

section
/-! PROOFS. Transfers over the register path (R69 to R74) and ERR_CLR (R60), and O60. -/

namespace Sys2Proof.Machine

variable (s : State)

/-! ## Words of a transfer -/

/-- What a word that may be written meets (R69 to R73). -/
theorem State.mayWrite_spec {ini a : Nat} {w : Word} (h : s.mayWrite ini a w = true) :
    s.pathOpen ini = true ∧ s.refusal ini true a w = 0 ∧ s.wouldStrike ini a w = false ∧ s.mustWait ini true a = false := by
  simp only [State.mayWrite, Bool.and_eq_true, Bool.not_eq_true', Bool.or_eq_true, decide_eq_true_eq] at h
  obtain ⟨⟨ho, hs⟩, hi⟩ := h
  refine ⟨ho, ?_, hs, ?_⟩
  · simpa using (Bool.or_eq_false_iff.1 hs).1
  · rcases hi with hi | ⟨h1, h2⟩
    · simp [State.mustWait, hi]
    · simp [State.mustWait, h1, h2]

/-- A held register takes its word, and the transfer goes on. -/
theorem State.putWords_held {ini a : Nat} {w : Word} (e : Option Facts) (ha : heldReg a = true)
    (h : s.mayWrite ini a w = true) (t : List Word) (d : Done) : s.putWords e ini a (w :: t) d =
      (s.setReg a (s.taken a w)).putWords e ini (a + 4) t { d with words := d.words + 1 } := by
  obtain ⟨ho, hr, hs, hw⟩ := s.mayWrite_spec h
  have hp := s.placeOf_held ha hr
  rw [State.putWords_cons, ho, hw, hr, State.poke_snd s e hp hr, hs, State.poke_held s e ha hp]
  rfl

/-- A transfer of 1 to 63 words goes word by word (R70). -/
theorem State.writeTransfer_words {ini a : Nat} {ws : List Word} (ho : s.pathOpen ini = true) (hn : ws ≠ [])
    (hl : ws.length ≤ 63) : s.writeTransfer ini a ws = s.putWords none ini a ws ⟨0, 0⟩ := by
  unfold State.writeTransfer
  rw [if_neg (by rw [ho]; decide), if_neg (by rintro (h | h); exacts [hn h, by split at h <;> omega])]

/-- A bad count is refused as a whole (R69). -/
theorem State.writeTransfer_badCount {ini a : Nat} {ws : List Word} (ho : s.pathOpen ini = true)
    (h : ws = [] ∨ (if ini = 2 then 1024 else 63) < ws.length) :
    (s.writeTransfer ini a ws).1 = s.violation ini 8 true (some a) := by
  unfold State.writeTransfer
  rw [if_neg (by rw [ho]; decide), if_pos h]
  rfl

/-- A refused first word ends the transfer (R70). -/
theorem State.writeTransfer_refused {ini a : Nat} {w : Word} {t : List Word} (ho : s.pathOpen ini = true) (h4 : ini ≠ 4)
    (hl : (w :: t).length ≤ 63) (hr : s.refusal ini true a w ≠ 0) :
    (s.writeTransfer ini a (w :: t)).1 = s.violation ini (s.refusal ini true a w) true (some a) := by
  rw [s.writeTransfer_words ho (List.cons_ne_nil _ _) hl, State.putWords_cons, if_neg (by rw [ho]; decide),
    if_neg (by simp [State.mustWait, h4]), if_pos hr]
  rfl

/-- A word with a reserved value of a held register is written, then struck (R7). -/
theorem State.writeTransfer_reserved {ini a : Nat} {w : Word} (ha : heldReg a = true) (h4 : ini ≠ 4)
    (ho : s.pathOpen ini = true) (hr : s.refusal ini true a w = 0) (hs : s.wouldStrike ini a w = true) :
    (s.writeTransfer ini a [w]).1 = (s.setReg a (s.taken a w)).violation ini 9 true (some a) := by
  have hp := s.placeOf_held ha hr
  have hw : s.mustWait ini true a = false := by simp [State.mustWait, h4]
  rw [s.writeTransfer_words ho (List.cons_ne_nil _ _) (by simp), State.putWords_cons, ho, hw, hr,
    State.poke_snd s none hp hr, hs, State.poke_held s none ha hp]
  rfl

/-- An internal word that waits joins the queue's end (R73). -/
theorem State.writeTransfer_stalled {a : Nat} {w : Word} (ho : s.pathOpen 4 = true)
    (h : s.stalled ≠ [] ∨ s.wipeBars true (placeOf a) = true) :
    (s.writeTransfer 4 a [w]).1 = s.stall (.write a [w] 0) := by
  rw [s.writeTransfer_words ho (List.cons_ne_nil _ _) (by simp)]
  exact s.writeOne_stalled none a w ho h

/-- The causes are codes of four bits (R72). -/
theorem State.refusal_lt (ini : Nat) (write : Bool) (a : Nat) (w : Word) : s.refusal ini write a w < 16 := by
  simp only [State.refusal]
  repeat' split
  all_goals omega

/-! ## Held words that are struck -/

/-- No reserved value of a header word depends on two fields. -/
theorem together_header {a : Nat} (ho : a % 0x400 < 0x40) (old w new : Word) : together a old w new = (new, false) := by
  have h1 : ¬ (A.SAP_MCLK 0 ≤ a ∧ a ≤ A.SAP_MCLK 3 ∧ a % 0x400 = A.SAP_MCLK 0 % 0x400) := by simp only [A.SAP_MCLK]; omega
  have h2 : ¬ (A.SNS_SEQ 0 ≤ a ∧ a ≤ A.SNS_SEQ 15) := by simp only [A.SNS_SEQ]; omega
  have h3 : a ≠ A.BLW_SAG := by simp only [A.BLW_SAG]; omega
  have h4 : a ≠ A.BLW_OP_COST := by simp only [A.BLW_OP_COST]; omega
  have h5 : ¬ (A.BLW_TASK_COST 32 ≤ a ∧ a ≤ A.BLW_TASK_COST 63 ∧ (a - A.BLW_TASK_COST 32) % 8 = 0) := by
    simp only [A.BLW_TASK_COST]; omega
  simp only [together, if_neg h1, if_neg h2, if_neg h3, if_neg h4, if_neg h5]

/-- Interrupt flags have no reserved value, so their word is never struck. -/
theorem State.wouldStrike_irqRaw {ini a : Nat} {w : Word} (hr : s.refusal ini true a w = 0)
    (hp : placeOf a = .reg (a / 0x400) (a % 0x400)) {r : PageRow} (hrow : pageRow (a / 0x400) = some r)
    (ho : a % 0x400 = 0x00C) : s.wouldStrike ini a w = false := by
  have hd : regDefAt a = some (.mk 0x00C 1 4 0 64 0 [] false [.mk 0 (irqBits r.ty) .w1c []]) := by
    rw [regDefAt_header hrow (by omega), ho]
    simp [headerRegs, RegDef.serves]
  simp [State.wouldStrike, hr, hp, hd, together_header (show a % 0x400 < 0x40 by omega), RegDef.take, FieldDef.take]

/-- Where a held register lies on its page. -/
theorem heldReg_off {a : Nat} (ha : heldReg a = true) :
    a % 0x400 = 0x00C ∨ a % 0x400 = 0x010 ∨ a % 0x400 = 0x020 ∨ 0x40 ≤ a % 0x400 := by
  rcases heldReg_cases ha with h | h
  · have := h.2; omega
  · have := (heldBlockRegs_mapped a h).2.1; omega

/-- A struck held register is not the page's interrupt flags, and the violation leaves it. -/
theorem State.reg_violation_struck {ini a : Nat} {w : Word} (ha : heldReg a = true) (hr : s.refusal ini true a w = 0)
    (hs : s.wouldStrike ini a w = true) (t : State) (code : Nat) :
    (t.violation ini code true (some a)).reg a = t.reg a := by
  have hc : a % 0x400 ≠ 0x00C := fun ho => by
    obtain ⟨r, hrow⟩ := Option.isSome_iff_exists.1 (heldReg_row ha)
    exact Bool.noConfusion (hs.symm.trans (s.wouldStrike_irqRaw hr (s.placeOf_held ha hr) hrow ho))
  have hne : ∀ c ∈ [A.DBG_VIOL_LAST_ADDR, A.DBG_VIOL_LAST_INFO, A.DBG_VIOL_FIRST_ADDR, A.DBG_VIOL_FIRST_INFO,
      A.DBG_VIOL_COUNT], c ≠ a := fun c hm => (heldReg_ne ha (by
    have : ∀ c ∈ [A.DBG_VIOL_LAST_ADDR, A.DBG_VIOL_LAST_INFO, A.DBG_VIOL_FIRST_ADDR, A.DBG_VIOL_FIRST_INFO,
      A.DBG_VIOL_COUNT], heldReg c = false := by decide +kernel
    exact this c hm)).symm
  have ho := heldReg_off ha
  refine ((Touches.refl [] [] (violFlds (a / 0x400)) t).violation ini code a (List.Subset.refl _)).reg_eq (by simp) ?_
  simp only [violFlds, List.mem_cons, List.not_mem_nil, or_false, forall_eq_or_imp, forall_eq] at hne ⊢
  obtain ⟨h1, h2, h3, h4, h5⟩ := hne
  exact ⟨h1, h2, h3, h4, h5, by simp only [F.PG_IRQ]; omega, by simp only [whole]; omega, by simp only [whole]; omega⟩

/-- What the log shows does not depend on a held word written just before. -/
theorem State.logShows_setReg_held {a : Nat} (ha : heldReg a = true) {x : Word} {u : State} {ini code full : Nat}
    (h : (s.setReg a x).logShows u ini code full) : s.logShows u ini code full :=
  ⟨by rw [h.1, s.get_setReg_held ha x (by decide +kernel)], h.2⟩

/-! ## ERR_CLR (R60) -/

theorem bits_one (x : Word) (i : Nat) : bits x i 1 = (x.toNat.testBit i).toNat := by
  simp [bits, ← Nat.toNat_testBit]

theorem setBits_bits_zero (x : Word) : setBits x 0 1 (bits x 0 1) = x := by
  apply BitVec.eq_of_toNat_eq
  rw [setBits_toNat _ _ _ _ (by decide)]
  simp only [bits]
  omega

/-- A register that takes its own word again reads as before, and so does every other. -/
theorem State.reg_setReg_id (a b : Nat) : (s.setReg a (s.reg a)).reg b = s.reg b := by
  by_cases h : a = b
  · rw [h, State.reg_setReg_self]
  · exact s.reg_setReg_ne _ h

theorem State.get_setReg_id (a : Nat) (f : Fld) : (s.setReg a (s.reg a)).get f = s.get f := by
  simp only [State.get, s.reg_setReg_id]

/-- An address of a page's header that names something lies on an implemented page. -/
theorem pageRow_of_placeOf {a : Nat} (hp : a / 0x400 < 96) (h : placeOf a ≠ .none) : ∃ r, pageRow (a / 0x400) = some r := by
  cases hr : pageRow (a / 0x400) with
  | some r => exact ⟨r, rfl⟩
  | none =>
    refine absurd ?_ h
    unfold placeOf
    split
    · rfl
    · rw [hr]
      dsimp only
      rw [if_neg (by omega), if_neg (by omega), if_neg (by omega), if_neg (by omega)]

/-- Bit 2 of a word for PG_CTRL, ERR_CLR set; ENABLE is the word's. -/
theorem hit_errClr (w : Word) : hit (w ||| 0x4#32) 2 = true := by
  rw [hit, bits_one, BitVec.toNat_or, Nat.testBit_or, show (0x4#32).toNat.testBit 2 = true by decide, Bool.or_true]
  rfl

theorem bits_enable_errClr (w : Word) : bits (w ||| 0x4#32) 0 1 = bits w 0 1 := by
  rw [bits_one, bits_one, BitVec.toNat_or, Nat.testBit_or, show (0x4#32).toNat.testBit 0 = false by decide, Bool.or_false]

/-- The definition of PG_CTRL on a page of this row (R60). -/
def pgCtrlDef (r : PageRow) : RegDef :=
  .mk 0x004 1 4 0 64 r.en [] false [.mk 2 1 .w1s [], .mk 0 1 (if r.enRw then .rw else .ro) []]

theorem regDefAt_pgCtrl {a : Nat} {r : PageRow} (hr : pageRow (a / 0x400) = some r) (ho : a % 0x400 = 4) :
    regDefAt a = some (pgCtrlDef r) := by
  rw [regDefAt_header hr (by omega), ho]
  simp [headerRegs, RegDef.serves, pgCtrlDef]

/-- A word with the present ENABLE leaves PG_CTRL as it is. -/
theorem pgCtrlDef_take (r : PageRow) {old w : Word} (h : bits w 0 1 = bits old 0 1) : ((pgCtrlDef r).take old w).1 = old := by
  simp only [pgCtrlDef, RegDef.take, List.foldl_cons, List.foldl_nil]
  cases r.enRw <;> simp [FieldDef.take, h, setBits_bits_zero]

/-- A word of a page's header goes to the header (R58). -/
theorem State.regWritten_of_header (e : Option Facts) {a : Nat} (ho : a % 0x400 < 0x40) (old w : Word) :
    s.regWritten e a old w = s.headerWritten (a / 0x400) (a % 0x400) old w := by
  unfold State.regWritten
  exact if_pos ho

/-- PG_CTRL with the present ENABLE and ERR_CLR: the page's error record clears, nothing else happens (R60). -/
theorem State.headerWritten_errClr (p : Nat) {old w : Word} (he : bits old 0 1 = s.get (F.PG_ENABLE p))
    (hw : hit w 2 = true) : s.headerWritten p 4 old w = s.errClr p := by
  unfold State.headerWritten
  rw [if_pos rfl, hw, decide_eq_false (not_not.2 he), State.when_false, State.when_true]

/-- PG_CTRL with the present ENABLE holds its word; ERR_CLR acts (R60). -/
theorem State.writeOne_errClr {ini a : Nat} {w : Word} (hp : a / 0x400 < 96) (ho : a % 0x400 = 4)
    (h : s.mayWrite ini a (w ||| 0x4#32) = true) (he : bits w 0 1 = bits (s.reg a) 0 1) :
    s.writeOne none ini a (w ||| 0x4#32) = (s.setReg a (s.reg a)).errClr (a / 0x400) := by
  obtain ⟨-, hr, -, -⟩ := s.mayWrite_spec h
  have hn := s.placeOf_of_refusal hr
  obtain ⟨r, hrow⟩ := pageRow_of_placeOf hp hn
  have hpl := (placeOf_of_row (Option.isSome_iff_exists.2 ⟨r, hrow⟩)).resolve_left hn
  have hen : (F.PG_ENABLE (a / 0x400)).addr = a := by simp only [F.PG_ENABLE]; omega
  rw [s.writeOne_of_mayWrite none ini _ _ h (s.poke_of_mayWrite none ini _ _ h hpl),
    State.poke_reg_taken s none _ _ hpl (regDefAt_pgCtrl hrow ho) (.inl (by simp only [A.SNS_URGENT]; omega)),
    together_header (by omega), pgCtrlDef_take r ((bits_enable_errClr w).trans he)]
  have hlt : a % 0x400 < 0x40 := by rw [ho]; decide
  rw [State.regWritten_of_header _ none hlt, ho]
  exact State.headerWritten_errClr _ _ (by rw [State.get_setReg_id, State.get, hen]; rfl) (hit_errClr w)

/-- A register file that gives every field its value, but for those of PG_ERR_CODE and PG_ERR_ADDR (R62). -/
def State.errAside (s : State) (r : List (Nat × Word)) : Prop :=
  ∀ f : Fld, f.addr % 0x400 ≠ 0x018 → f.addr % 0x400 ≠ 0x01C → ({ s with regs := r } : State).get f = s.get f

section
/-! No block asks PG_ERR_CODE or PG_ERR_ADDR for the condition of its fault (R60, R62). -/

variable {s : State} {r : List (Nat × Word)} (hg : s.errAside r)
include hg

theorem State.errAside.on {f : Fld} (h1 : f.addr % 0x400 ≠ 0x018) (h2 : f.addr % 0x400 ≠ 0x01C) :
    ({ s with regs := r } : State).on f = s.on f := by
  simp only [State.on, hg f h1 h2]

theorem State.errAside.famUp (fam : Nat) : ({ s with regs := r } : State).famUp fam = s.famUp fam := by
  have hp : ({ s with regs := r } : State).famPll fam = s.famPll fam := by
    unfold State.famPll
    split
    · exact hg _ (by decide) (by decide)
    · exact hg _ (by decide) (by decide)
  have hlt := s.famPll_lt fam
  have hs := hg (F.CLK_PLL_STATUS_STATE (s.famPll fam)) (by simp only [F.CLK_PLL_STATUS_STATE, A.CLK_PLL_STATUS]; omega)
    (by simp only [F.CLK_PLL_STATUS_STATE, A.CLK_PLL_STATUS]; omega)
  simp only [State.famUp, State.pllLocked, hp, hs]

theorem State.errAside.blw (code : Nat) : ({ s with regs := r } : State).blwFaultHolds code = s.blwFaultHolds code := by
  unfold State.blwFaultHolds
  rw [hg.on (f := F.BLW_STATUS_TRIP_NOW) (by decide) (by decide), hg.on (f := F.BLW_STATUS_PVDD_I_MISSING) (by decide) (by decide)]

theorem State.errAside.clk (code : Nat) : ({ s with regs := r } : State).clkFaultHolds code = s.clkFaultHolds code := by
  unfold State.clkFaultHolds
  rw [hg.on (f := F.CLK_XTAL_STATUS_OK) (by decide) (by decide)]

theorem State.errAside.mem (code : Nat) : ({ s with regs := r } : State).memFaultHolds code = s.memFaultHolds code := by
  have hf : ∀ b < 2, ({ s with regs := r } : State).spareBankFree b = s.spareBankFree b := by
    intro b hb
    unfold State.spareBankFree
    rw [hg.on (f := if b = 0 then F.MEM_SPARE_STATUS_MBS0_USED else F.MEM_SPARE_STATUS_MBS1_USED)
        (by split <;> decide) (by split <;> decide),
      hg.on (f := F.MEM_BANK_STATUS_RETIRED (32 + b)) (by simp only [F.MEM_BANK_STATUS_RETIRED, A.MEM_BANK_STATUS]; omega)
        (by simp only [F.MEM_BANK_STATUS_RETIRED, A.MEM_BANK_STATUS]; omega)]
  have hb : ({ s with regs := r } : State).spareBank = s.spareBank := by
    simp only [State.spareBank, List.find?_cons, List.find?_nil, hf 0 (by decide), hf 1 (by decide)]
  unfold State.memFaultHolds
  rw [hb, hg.on (f := F.MEM_RET_LOST_LOST) (by decide) (by decide)]

theorem State.errAside.smb (code : Nat) : ({ s with regs := r } : State).smbFaultHolds code = s.smbFaultHolds code :=
  hg.on (by unfold recStuck; split <;> decide) (by unfold recStuck; split <;> decide)

theorem State.errAside.pmb (code : Nat) : ({ s with regs := r } : State).pmbFaultHolds code = s.pmbFaultHolds code := by
  unfold State.pmbFaultHolds
  rw [hg.on (f := F.PMB_MODE_MODE_ERR) (by decide) (by decide)]

theorem State.errAside.usb (code : Nat) : ({ s with regs := r } : State).usbFaultHolds code = s.usbFaultHolds code := by
  unfold State.usbFaultHolds State.phyWanted
  rw [hg.on (f := F.USB_STATE_VBUS) (by decide) (by decide), hg.on (f := F.PG_ENABLE 0x0A) (by decide) (by decide)]
  rfl

theorem State.errAside.aout (page code : Nat) :
    ({ s with regs := r } : State).aoutFaultHolds page code = s.aoutFaultHolds page code := by
  unfold State.aoutFaultHolds
  rw [hg (F.JCK_STATUS_STATE 0) (by decide) (by decide), hg (F.JCK_STATUS_STATE 1) (by decide) (by decide),
    hg.on (f := F.JCK_VREFB_STATUS_READY) (by decide) (by decide)]
  rfl

theorem State.errAside.ain (page code : Nat) :
    ({ s with regs := r } : State).ainFaultHolds page code = s.ainFaultHolds page code := by
  have hc : ∀ n, ({ s with regs := r } : State).on (F.AIN_CAL_CAL_FAIL n) = s.on (F.AIN_CAL_CAL_FAIL n) := fun n =>
    hg.on (by simp only [F.AIN_CAL_CAL_FAIL, A.AIN_CAL]; omega) (by simp only [F.AIN_CAL_CAL_FAIL, A.AIN_CAL]; omega)
  unfold State.ainFaultHolds
  rw [hg.on (f := F.AUX_VREF_STATUS_VREFA_READY) (by decide) (by decide)]
  simp only [hc]
  rfl

theorem State.errAside.spk (n code : Nat) : ({ s with regs := r } : State).spkFaultHolds n code = s.spkFaultHolds n code := by
  unfold State.spkFaultHolds
  rw [hg.famUp]
  rfl

theorem State.errAside.pdm : ({ s with regs := r } : State).pdmFaultHolds = s.pdmFaultHolds := by
  have hl : ∀ g, ({ s with regs := r } : State).on (F.PDM_LISTEN g) = s.on (F.PDM_LISTEN g) := fun g =>
    hg.on (by unfold F.PDM_LISTEN; split <;> decide) (by unfold F.PDM_LISTEN; split <;> decide)
  unfold State.pdmFaultHolds
  simp only [hl]
  rfl

theorem State.errAside.lane (n code : Nat) : ({ s with regs := r } : State).laneFaultHolds n code = s.laneFaultHolds n code := by
  unfold State.laneFaultHolds
  rw [hg.on (f := F.LANE_COEF_STATUS_POISON n) (by simp only [F.LANE_COEF_STATUS_POISON, A.LANE_COEF_STATUS]; omega)
      (by simp only [F.LANE_COEF_STATUS_POISON, A.LANE_COEF_STATUS]; omega),
    hg.on (f := F.LANE_COEF_STATUS_LOST n) (by simp only [F.LANE_COEF_STATUS_LOST, A.LANE_COEF_STATUS]; omega)
      (by simp only [F.LANE_COEF_STATUS_LOST, A.LANE_COEF_STATUS]; omega)]
  rfl

theorem State.errAside.faultHolds (page code : Nat) :
    ({ s with regs := r } : State).faultHolds page code = s.faultHolds page code := by
  unfold State.faultHolds
  rw [hg.blw, hg.clk, hg.mem, hg.smb, hg.pmb, hg.usb, hg.aout, hg.ain, hg.spk, hg.pdm, hg.lane]
  rfl

end

/-- The record of violations cleared; the fault code stands (R60). -/
def State.violCleared (s : State) (p : Nat) : State :=
  ((s.set (F.PG_LAST_VIOL p) 0).set (F.PG_VIOL_COUNT p) 0).set (F.PG_ERR_ADDR p) 0

theorem State.errClr_eq (p : Nat) : s.errClr p = (s.violCleared p).when
    (decide ((s.violCleared p).get (F.PG_FAULT p) ≠ 0) && !(s.violCleared p).faultHolds p ((s.violCleared p).get (F.PG_FAULT p)))
    (·.set (F.PG_FAULT p) 0) := rfl

/-- Clearing the record of violations leaves every other field. -/
theorem State.get_violCleared_ne (p : Nat) {f : Fld} (h1 : (F.PG_LAST_VIOL p).apart f) (h2 : (F.PG_VIOL_COUNT p).apart f)
    (h3 : (F.PG_ERR_ADDR p).apart f) : (s.violCleared p).get f = s.get f := by
  unfold State.violCleared
  rw [State.get_set_ne _ _ (Fld.fits_of_ble rfl) h3, State.get_set_ne _ _ (Fld.fits_of_ble rfl) h2,
    State.get_set_ne _ _ (Fld.fits_of_ble rfl) h1]

theorem State.get_violCleared_fault (p : Nat) : (s.violCleared p).get (F.PG_FAULT p) = s.get (F.PG_FAULT p) :=
  s.get_violCleared_ne p (.inr (.inr (by simp [F.PG_LAST_VIOL, F.PG_FAULT]))) (.inr (.inl (by simp [F.PG_VIOL_COUNT, F.PG_FAULT])))
    (.inl (by simp [F.PG_ERR_ADDR, F.PG_FAULT]))

/-- A write of PG_ERR_CODE or PG_ERR_ADDR leaves every fault's condition. -/
theorem State.faultHolds_set {f : Fld} (hf : f.addr % 0x400 = 0x018 ∨ f.addr % 0x400 = 0x01C) (v page code : Nat) :
    (s.set f v).faultHolds page code = s.faultHolds page code :=
  State.errAside.faultHolds (s := s) (r := (s.set f v).regs) (fun g h1 h2 => by
    have hne : f.addr ≠ g.addr := fun e => by rw [e] at hf; exact hf.elim h1 h2
    exact congrArg (bits · g.lo g.w) (s.reg_set_ne v hne)) page code

/-- The condition of a page's fault is that before the record was cleared. -/
theorem State.faultHolds_violCleared (p page code : Nat) :
    (s.violCleared p).faultHolds page code = s.faultHolds page code := by
  unfold State.violCleared
  rw [State.faultHolds_set _ (.inr (by simp only [F.PG_ERR_ADDR]; omega)),
    State.faultHolds_set _ (.inl (by simp only [F.PG_VIOL_COUNT]; omega)),
    State.faultHolds_set _ (.inl (by simp only [F.PG_LAST_VIOL]; omega))]

theorem State.get_violCleared_record (p : Nat) : (s.violCleared p).get (F.PG_LAST_VIOL p) = 0 ∧
    (s.violCleared p).get (F.PG_VIOL_COUNT p) = 0 ∧ (s.violCleared p).get (F.PG_ERR_ADDR p) = 0 := by
  have hv : (F.PG_VIOL_COUNT p).apart (F.PG_LAST_VIOL p) := .inr (.inl (by simp [F.PG_VIOL_COUNT, F.PG_LAST_VIOL]))
  have ha : ∀ f : Fld, f.addr = p * 0x400 + 0x018 → (F.PG_ERR_ADDR p).apart f := fun f h =>
    .inl (by simp only [F.PG_ERR_ADDR]; omega)
  unfold State.violCleared
  refine ⟨?_, ?_, ?_⟩
  · rw [State.get_set_ne _ _ (Fld.fits_of_ble rfl) (ha _ rfl), State.get_set_ne _ _ (Fld.fits_of_ble rfl) hv,
      State.get_set_self _ _ _ (Fld.fits_of_ble rfl)]
    rfl
  · rw [State.get_set_ne _ _ (Fld.fits_of_ble rfl) (ha _ rfl), State.get_set_self _ _ _ (Fld.fits_of_ble rfl)]
    rfl
  · rw [State.get_set_self _ _ _ (Fld.fits_of_ble rfl)]
    rfl

/-- What `errClr` may do: the record is cleared; the fault code too unless its condition holds. -/
theorem State.errClr_cases (p : Nat) :
    (s.errClr p = s.violCleared p ∧ (s.get (F.PG_FAULT p) = 0 ∨ s.faultHolds p (s.get (F.PG_FAULT p)) = true)) ∨
    (s.errClr p = (s.violCleared p).set (F.PG_FAULT p) 0 ∧ s.faultHolds p (s.get (F.PG_FAULT p)) = false) := by
  rw [s.errClr_eq, s.get_violCleared_fault, s.faultHolds_violCleared]
  by_cases h0 : s.get (F.PG_FAULT p) = 0
  · exact .inl ⟨by rw [decide_eq_false (not_not.2 h0)]; rfl, .inl h0⟩
  · cases hh : s.faultHolds p (s.get (F.PG_FAULT p)) with
    | true => exact .inl ⟨by rw [Bool.not_true, Bool.and_false]; rfl, .inr rfl⟩
    | false => exact .inr ⟨by rw [decide_eq_true h0]; rfl, rfl⟩

theorem State.errClr_record (p : Nat) : (s.errClr p).get (F.PG_LAST_VIOL p) = 0 ∧
    (s.errClr p).get (F.PG_VIOL_COUNT p) = 0 ∧ (s.errClr p).get (F.PG_ERR_ADDR p) = 0 := by
  rcases s.errClr_cases p with ⟨h, -⟩ | ⟨h, -⟩ <;> rw [h]
  · exact s.get_violCleared_record p
  · rw [State.get_set_ne _ _ (Fld.fits_of_ble rfl) (.inr (.inl (by simp [F.PG_FAULT, F.PG_LAST_VIOL]))),
      State.get_set_ne _ _ (Fld.fits_of_ble rfl) (.inr (.inr (by simp [F.PG_FAULT, F.PG_VIOL_COUNT]))),
      State.get_set_ne _ _ (Fld.fits_of_ble rfl) (.inl (by simp [F.PG_FAULT, F.PG_ERR_ADDR]))]
    exact s.get_violCleared_record p

theorem State.errClr_fault (p : Nat) :
    (s.faultHolds p (s.get (F.PG_FAULT p)) = true → (s.errClr p).get (F.PG_FAULT p) = s.get (F.PG_FAULT p)) ∧
    (s.faultHolds p (s.get (F.PG_FAULT p)) = false → (s.errClr p).get (F.PG_FAULT p) = 0) := by
  rcases s.errClr_cases p with ⟨h, hc⟩ | ⟨h, hf⟩ <;> rw [h]
  · rw [s.get_violCleared_fault]
    exact ⟨fun _ => rfl, fun hf => hc.resolve_right (by rw [hf]; decide)⟩
  · rw [State.get_set_self _ _ _ (Fld.fits_of_ble rfl)]
    exact ⟨fun ht => Bool.noConfusion (ht.symm.trans hf), fun _ => rfl⟩

theorem Touches.errClr {ps : List Part} {gs : List Nat} {fs : List Fld} {s t : State} (h : Touches ps gs fs s t) (p : Nat)
    (hf : [F.PG_LAST_VIOL p, F.PG_VIOL_COUNT p, F.PG_ERR_ADDR p, F.PG_FAULT p] ⊆ fs) : Touches ps gs fs s (t.errClr p) := by
  simp only [List.cons_subset, List.nil_subset, and_true] at hf
  obtain ⟨hl, hv, ha, hc⟩ := hf
  rw [t.errClr_eq]
  exact (((h.set _ (.inr hl)).set _ (.inr hv)).set _ (.inr ha)).when _
    (fun _ => (((h.set _ (.inr hl)).set _ (.inr hv)).set _ (.inr ha)).set _ (.inr hc))

/-- A register that takes its own word touches nothing. -/
theorem Touches.setReg_id (ps : List Part) (gs : List Nat) (fs : List Fld) (a : Nat) :
    Touches ps gs fs s (s.setReg a (s.reg a)) :=
  ⟨fun p _ => by cases p <;> rfl, fun b i _ _ _ => by rw [s.reg_setReg_id]⟩

theorem State.faultHolds_setReg_id (a page code : Nat) :
    (s.setReg a (s.reg a)).faultHolds page code = s.faultHolds page code :=
  State.errAside.faultHolds (s := s) (r := (s.setReg a (s.reg a)).regs) (fun f _ _ => s.get_setReg_id a f) page code

/-- What PG_ERR_CLR leaves (R60), with the page's PG_CTRL taking its own word. -/
theorem State.errClr_setReg_id (p : Nat) (a : Nat) :
    (s.faultHolds p (s.get (F.PG_FAULT p)) = true →
      ((s.setReg a (s.reg a)).errClr p).get (F.PG_FAULT p) = s.get (F.PG_FAULT p)) ∧
    (s.faultHolds p (s.get (F.PG_FAULT p)) = false → ((s.setReg a (s.reg a)).errClr p).get (F.PG_FAULT p) = 0) := by
  have h := (s.setReg a (s.reg a)).errClr_fault p
  rwa [s.faultHolds_setReg_id, s.get_setReg_id] at h

/-! ## O60 -/

/-- Settles O60, clause by clause: a transfer's words, a refusal as a whole or of the first word, a reserved value, an internal write
that waits, and ERR_CLR. -/
theorem registerPath : Obligations.RegisterPath := by
  unfold Obligations.RegisterPath
  refine ⟨?_, ?_, ?_, ?_, ?_, ?_, ?_⟩
  · rintro ini addr words w s rfl ha hm
    have ho := (s.mayWrite_spec hm).1
    have hu : (s.writeTransfer ini addr.toNat [w]).1 = s.setReg addr.toNat (s.taken addr.toNat w) := by
      rw [s.writeTransfer_words ho (by simp) (by simp), s.putWords_held none ha hm, State.putWords_nil]
    refine ⟨_, rfl, ?_, ?_⟩ <;> rw [hu]
    · exact s.reg_setReg_self _ _
    · exact (Touches.refl _ _ _ s).setReg _ (.inr (by simp))
  · rintro ini addr words x y s rfl ha hb hx hy
    have ho := (s.mayWrite_spec hx).1
    have hne : addr.toNat ≠ addr.toNat + 4 := by omega
    have hy' : (s.setReg addr.toNat (s.taken addr.toNat x)).mayWrite ini (addr.toNat + 4) y = true :=
      (s.mayWrite_setReg_held ha hb hne _ ini y).trans hy
    have hu : (s.writeTransfer ini addr.toNat [x, y]).1 = (s.setReg addr.toNat (s.taken addr.toNat x)).setReg
        (addr.toNat + 4) (s.taken (addr.toNat + 4) y) := by
      rw [s.writeTransfer_words ho (by simp) (by simp), s.putWords_held none ha hx, State.putWords_held _ none hb hy',
        State.putWords_nil, s.taken_setReg_ne hne]
    refine ⟨_, rfl, ?_, ?_, ?_⟩ <;> rw [hu]
    · rw [State.reg_setReg_ne _ _ hne.symm, State.reg_setReg_self]
    · exact State.reg_setReg_self _ _ _
    · exact ((Touches.refl _ _ _ s).setReg _ (.inr (by simp))).setReg _ (.inr (by simp))
  · intro ini addr words s hc ho
    have hu := s.writeTransfer_badCount (a := addr.toNat) ho hc
    obtain ⟨h1, h2, h3, h4⟩ := s.violation_shows (ini := ini) (code := 8) addr.toNat (by omega) (by decide)
    refine ⟨_, rfl, ?_⟩
    rw [hu]
    exact ⟨h1, h2, h3, h4, (Touches.refl _ _ _ s).violation _ _ _ (List.Subset.refl _)⟩
  · rintro ini addr words w t s rfl hl hi ho hr
    have hu := s.writeTransfer_refused (a := addr.toNat) ho (by omega) hl hr
    have hlt := s.refusal_lt ini true addr.toNat w
    obtain ⟨h1, h2, h3, h4⟩ := s.violation_shows (ini := ini) addr.toNat (by omega) hlt
    refine ⟨_, rfl, ?_⟩
    rw [hu]
    exact ⟨h1, h2, h3, h4, fun hf hp => s.violation_page ini hlt hf hp,
      (Touches.refl _ _ _ s).violation _ _ _ (List.Subset.refl _)⟩
  · rintro ini addr words w s rfl ha hi ho hr hs
    have hu := s.writeTransfer_reserved ha (by omega) ho hr hs
    obtain ⟨h1, h2, h3, h4⟩ := s.logShows_setReg_held ha
      (State.violation_shows (s.setReg addr.toNat (s.taken addr.toNat w)) (ini := ini) (code := 9) addr.toNat (by omega) (by decide))
    refine ⟨_, rfl, ?_⟩
    rw [hu]
    refine ⟨?_, h1, h2, h3, h4, ?_⟩
    · rw [s.reg_violation_struck ha hr hs, State.reg_setReg_self]
    · exact ((Touches.refl _ _ _ s).setReg _ (.inr (by simp))).violation _ _ _ (List.subset_cons_self _ _)
  · rintro ini addr words w s rfl hi ho hw
    have hu := s.writeTransfer_stalled (a := addr.toNat) (w := w) ho hw
    refine ⟨_, rfl, ?_⟩
    rw [hi, hu]
    exact ⟨rfl, (Touches.refl _ _ _ s).put_stalled _ (by simp)⟩
  · intro ini page w s hm he
    have hd : (page.val * 0x400 + 4) / 0x400 = page.val := by omega
    have hu := s.writeOne_errClr (by omega) (by omega) hm he
    rw [hd] at hu
    obtain ⟨hh, hn⟩ := s.errClr_setReg_id page.val (page.val * 0x400 + 4)
    refine ⟨_, rfl, ?_⟩
    rw [hu]
    obtain ⟨h1, h2, h3⟩ := State.errClr_record (s.setReg (page.val * 0x400 + 4) (s.reg (page.val * 0x400 + 4))) page.val
    exact ⟨h1, h2, h3, fun _ => hh, hn, (Touches.setReg_id s _ _ _ _).errClr _ (List.Subset.refl _)⟩

end Sys2Proof.Machine
end

section
/-! PROOFS. The lanes' events (R22, R175, R297): which registers a lane's status shows in, what an event leaves unchanged, and what
one lane of a loop over all 48 gets. -/

namespace Sys2Proof.Machine

variable (s : State)

/-! ## The pages of the lanes -/

/-- The lanes' pages (R56). -/
theorem mem_lanePages {n : Nat} (h : n < 48) : pgLANE n ∈ (List.range 48).map (· + 0x30) :=
  List.mem_map.2 ⟨n, List.mem_range.2 h, Nat.add_comm n 0x30⟩

/-- A register of lane n lies on the lane's page. -/
theorem laneReg_page {n off : Nat} (h : off < 0x400) : (0x0C000 + 0x400 * n + off) / 0x400 = pgLANE n := by
  unfold pgLANE
  omega

/-- The status fields of a lane lie on its page. -/
theorem laneStatusFlds_page (n : Nat) : ∀ f ∈ laneStatusFlds n, f.addr / 0x400 = pgLANE n := by
  simp only [laneStatusFlds, List.mem_cons, List.not_mem_nil, or_false, forall_eq_or_imp, forall_eq]
  refine ⟨?_, ?_, ?_, ?_, ?_, ?_, ?_, ?_, ?_, ?_, ?_, ?_, ?_⟩ <;> exact laneReg_page (by decide)

/-- A frame that has the lane's page has its status fields. -/
theorem laneStatusFlds_listed {gs : List Nat} {fs : List Fld} {n : Nat} (h : pgLANE n ∈ gs) :
    ∀ f ∈ laneStatusFlds n, f.addr / 0x400 ∈ gs ∨ f ∈ fs :=
  fun f hf => .inl (laneStatusFlds_page n f hf ▸ h)

/-! ## Frames of a lane's events -/

section
variable {ps : List Part} {gs : List Nat} {fs : List Fld} {s t : State} {n : Nat}

/-- A lane's status is written, nothing else (R194). -/
theorem Touches.laneSync (h : Touches ps gs fs s t) (hf : ∀ f ∈ laneStatusFlds n, f.addr / 0x400 ∈ gs ∨ f ∈ fs) :
    Touches ps gs fs s (t.laneSync n) := by
  simp only [laneStatusFlds, List.mem_cons, List.not_mem_nil, or_false, forall_eq_or_imp, forall_eq] at hf
  obtain ⟨h1, h2, h3, h4, h5, h6, h7, h8, h9, h10, h11, h12, h13⟩ := hf
  unfold State.laneSync
  extract_lets l live byp rate s1 s2 s3 s4 s5 s6 s7 s8 s9 s10 s11 s12
  have k4 : Touches ps gs fs s s4 := (((h.set _ h1).set _ h2).set _ h3).set _ h4
  have k8 : Touches ps gs fs s s8 := (((k4.setB _ h5).setB _ h6).set _ h7).setB _ h8
  have k12 : Touches ps gs fs s s12 := (((k8.set _ h9).set _ h10).setB _ h11).set _ h12
  exact k12.set _ h13

theorem Touches.lanePhase (h : Touches ps gs fs s t) (p : LanePhase) (hp : .lanes ∈ ps)
    (hf : ∀ f ∈ laneStatusFlds n, f.addr / 0x400 ∈ gs ∨ f ∈ fs) : Touches ps gs fs s (t.lanePhase n p) :=
  (h.modLane n _ hp).laneSync hf

/-- A domain event's ramp writes the lane's record and status. -/
theorem Touches.laneDown (h : Touches ps gs fs s t) (hp : .lanes ∈ ps)
    (hf : ∀ f ∈ laneStatusFlds n, f.addr / 0x400 ∈ gs ∨ f ∈ fs) : Touches ps gs fs s (t.laneDown n) := by
  unfold State.laneDown
  dsimp only
  split
  case h_6 => exact h.lanePhase _ hp hf
  case h_7 => exact h
  all_goals exact (h.modLane n _ hp).laneSync hf

/-- A stopped lane shows it and ramps to zero, on its own page. -/
theorem Touches.laneStopped (h : Touches ps gs fs s t) (hp : .lanes ∈ ps) (hg : pgLANE n ∈ gs) :
    Touches ps gs fs s (((t.set (F.LANE_FLAGS_STOPPED n) 1).irq (pgLANE n) 3).laneDown n) :=
  ((h.set _ (.inl (laneReg_page (off := 0x0A8) (by decide) ▸ hg))).irq (.inl hg)).laneDown hp (laneStatusFlds_listed hg)

variable (hp : Part.lanes ∈ ps) (hg : (List.range 48).map (· + 0x30) ⊆ gs)
include hp hg

theorem Touches.lanesStop (h : Touches ps gs fs s t) (dom : Nat) : Touches ps gs fs s (t.lanesStop dom) :=
  h.forAll 48 (fun _ _ hk ht => ht.when _ (fun _ => ht.laneStopped hp (hg (mem_lanePages hk))))

theorem Touches.lanesRateChange (h : Touches ps gs fs s t) (dom : Nat) : Touches ps gs fs s (t.lanesRateChange dom) :=
  h.forAll 48 (fun _ _ hk ht => ht.when _ (fun _ => ht.laneDown hp (laneStatusFlds_listed (hg (mem_lanePages hk)))))

theorem Touches.lanesGlitch (h : Touches ps gs fs s t) (dom : Nat) : Touches ps gs fs s (t.lanesGlitch dom) :=
  h.forAll 48 (fun _ k hk ht => ht.when _ (fun _ =>
    have hm : pgLANE k ∈ gs := hg (mem_lanePages hk)
    ((ht.modLane k _ hp).inc (.inl (laneReg_page (off := 0x0AC) (by decide) ▸ hm))).set _
      (.inl (laneReg_page (off := 0x0A8) (by decide) ▸ hm))))

theorem Touches.ifaceLanesStop (h : Touches ps gs fs s t) (j : Nat) : Touches ps gs fs s (t.ifaceLanesStop j) :=
  h.forAll 48 (fun _ _ hk ht => ht.when _ (fun _ => ht.laneStopped hp (hg (mem_lanePages hk))))

end

/-! ## One lane of a loop -/

/-- In a loop whose step k changes what `g` reads of k alone, index n is changed by its own step, on what it read at the start. -/
theorem State.forAll_at {β : Type} (g : State → Nat → β) {N : Nat} {f : State → Nat → State}
    (hne : ∀ t k n, k ≠ n → g (f t k) n = g t n) {n : Nat} (hn : n < N) :
    ∃ t, g t n = g s n ∧ g (s.forAll N f) n = g (f t n) n := by
  have hkeep : ∀ (l : List Nat) (t : State), n ∉ l → g (l.foldl f t) n = g t n := by
    intro l
    induction l with
    | nil => exact fun t _ => rfl
    | cons k l ih =>
      intro t hm
      rw [List.mem_cons, not_or] at hm
      rw [List.foldl_cons, ih _ hm.2, hne _ _ _ (Ne.symm hm.1)]
  obtain ⟨l1, l2, hl⟩ := List.append_of_mem (List.mem_range.2 hn)
  have hd : (l1 ++ n :: l2).Nodup := hl ▸ List.nodup_range
  have h1 : n ∉ l1 := fun hm => (List.nodup_append.1 hd).2.2 n hm n (List.mem_cons_self ..) rfl
  have h2 : n ∉ l2 := (List.nodup_cons.1 (List.nodup_append.1 hd).2.1).1
  refine ⟨l1.foldl f s, hkeep l1 s h1, ?_⟩
  unfold State.forAll
  rw [hl, List.foldl_append, List.foldl_cons, hkeep l2 _ h2]

/-! ## Records under a lane's events -/

@[simp] theorem State.laneSync_laneAt (n k : Nat) : (s.laneSync n).laneAt k = s.laneAt k := by
  have h : (s.laneSync n).lanes = s.lanes :=
    ((Touches.refl [] [] (laneStatusFlds n) s).laneSync (fun f hf => .inr hf)).1 .lanes (by simp)
  rw [State.laneAt, h, State.laneAt]

/-- A ramp to zero of lane n leaves every other lane. -/
theorem State.laneDown_laneAt_ne {n k : Nat} (h : n ≠ k) : (s.laneDown n).laneAt k = s.laneAt k := by
  unfold State.laneDown State.lanePhase
  dsimp only
  split <;> simp only [State.laneSync_laneAt, s.laneAt_modLane_ne h]

/-- A running lane's event gain turns to zero. -/
theorem State.laneDown_running {n : Nat} (hn : n < 48) (h : (s.laneAt n).phase = .running) :
    ((s.laneDown n).laneAt n).event.up = false := by
  unfold State.laneDown
  dsimp only
  rw [h]
  dsimp only
  rw [State.laneSync_laneAt, s.laneAt_modLane_self hn]
  rfl

/-- LANEn_FLAGS is none of a lane's status registers. -/
theorem State.laneDown_flags (n k : Nat) : (s.laneDown n).reg (A.LANE_FLAGS k) = s.reg (A.LANE_FLAGS k) := by
  refine ((Touches.refl [.lanes] [] (laneStatusFlds n) s).laneDown (by simp) (fun f hf => .inr hf)).reg_eq (by simp) ?_
  simp only [laneStatusFlds, List.mem_cons, List.not_mem_nil, or_false, forall_eq_or_imp, forall_eq]
  refine ⟨?_, ?_, ?_, ?_, ?_, ?_, ?_, ?_, ?_, ?_, ?_, ?_, ?_⟩
  all_goals
    simp only [F.LANE_STATUS_STATE, F.LANE_STATUS_DOMAIN, F.LANE_STATUS_RATE, F.LANE_STATUS_STOP_NOW, F.LANE_STATUS_BYPASS,
      F.LANE_STATUS_CHG_WAIT, F.LANE_STATUS_RC_STATE, F.LANE_STATUS_EVENT_RAMP, whole, F.LANE_RATE_MEAS_RATE,
      F.LANE_COEF_STATUS_BUSY, F.LANE_COST_STOP0, F.LANE_COST_NOW, A.LANE_STATUS, A.LANE_RATIO, A.LANE_RATE_MEAS,
      A.LANE_COEF_STATUS, A.LANE_COST, A.LANE_FLAGS]
    omega

/-! ## The lanes of a USB output stream (R297) -/

/-- Does the lane's record take a stream stop of interface j + 1: live, INBOUND, fed by one of its channels? -/
def Lane.fedBy (l : Lane) (j : Nat) : Bool :=
  l.phase.live && !l.dir && decide (0x2C + 16 * j ≤ l.sid) && decide (l.sid < 0x3C + 16 * j)

/-- One lane at a stream stop. -/
def State.ifaceLaneStop (s : State) (j n : Nat) : State :=
  s.when ((s.laneAt n).fedBy j) (fun s => ((s.set (F.LANE_FLAGS_STOPPED n) 1).irq (pgLANE n) 3).laneDown n)

theorem State.ifaceLanesStop_eq (j : Nat) : s.ifaceLanesStop j = s.forAll 48 (fun s n => s.ifaceLaneStop j n) := rfl

theorem State.ifaceLaneStop_ne (j : Nat) {k n : Nat} (h : k ≠ n) :
    ((s.ifaceLaneStop j k).laneAt n, (s.ifaceLaneStop j k).reg (A.LANE_FLAGS n)) = (s.laneAt n, s.reg (A.LANE_FLAGS n)) := by
  have hf : (F.LANE_FLAGS_STOPPED k).addr ≠ A.LANE_FLAGS n := by
    simp only [F.LANE_FLAGS_STOPPED, A.LANE_FLAGS]
    omega
  unfold State.ifaceLaneStop State.when
  split
  · rw [State.laneDown_laneAt_ne _ h, State.laneDown_flags, State.reg_irq_ne _ _ (by simp only [pgLANE, A.LANE_FLAGS]; omega),
      State.reg_set_ne _ _ hf]
    rfl
  · rfl

/-- Lane n after the stream's stop: as its own step leaves it. -/
theorem State.ifaceLanesStop_at (j : Nat) {n : Nat} (hn : n < 48) : ∃ t : State, t.laneAt n = s.laneAt n ∧
    (s.ifaceLanesStop j).laneAt n = (t.ifaceLaneStop j n).laneAt n ∧
    (s.ifaceLanesStop j).reg (A.LANE_FLAGS n) = (t.ifaceLaneStop j n).reg (A.LANE_FLAGS n) := by
  obtain ⟨t, h1, h2⟩ := s.forAll_at (fun s n => (s.laneAt n, s.reg (A.LANE_FLAGS n)))
    (f := fun s n => s.ifaceLaneStop j n) (fun t _ _ h => t.ifaceLaneStop_ne j h) hn
  rw [s.ifaceLanesStop_eq]
  exact ⟨t, (Prod.mk.inj h1).1, Prod.mk.inj h2⟩

/-- A running lane of the stream ramps to zero and shows STOPPED. -/
theorem State.ifaceLanesStop_fed (j : Nat) {n : Nat} (hn : n < 48) (hr : (s.laneAt n).phase = .running)
    (hf : (s.laneAt n).fedBy j = true) :
    ((s.ifaceLanesStop j).laneAt n).event.up = false ∧ (s.ifaceLanesStop j).get (F.LANE_FLAGS_STOPPED n) = 1 := by
  obtain ⟨t, ht, hl, hreg⟩ := s.ifaceLanesStop_at j hn
  rw [State.get, show (F.LANE_FLAGS_STOPPED n).addr = A.LANE_FLAGS n from rfl, hl, hreg]
  unfold State.ifaceLaneStop
  rw [ht, hf, State.when_true, State.laneDown_flags, State.reg_irq_ne _ _ (by simp only [pgLANE, A.LANE_FLAGS]; omega)]
  exact ⟨State.laneDown_running _ hn (ht ▸ hr), t.get_set_self (F.LANE_FLAGS_STOPPED n) 1 (Fld.fits_of_ble rfl)⟩

/-- A lane that another source feeds keeps its record. -/
theorem State.ifaceLanesStop_other (j : Nat) {n : Nat} (hn : n < 48) (hf : (s.laneAt n).fedBy j = false) :
    (s.ifaceLanesStop j).laneAt n = s.laneAt n := by
  obtain ⟨t, ht, hl, -⟩ := s.ifaceLanesStop_at j hn
  rw [hl, State.ifaceLaneStop, ht, hf, State.when_false, ht]

end Sys2Proof.Machine
end

section
/-! PROOFS. The tracker of the USB sample clock (R20, R22, R23, R278 to R282): what its events leave unchanged, and the state they
move it to. It has no mirror registers, so an event stays in its own registers, its record and the lanes of domain 2. -/

namespace Sys2Proof.Machine

variable (s : State)

/-! ## The lanes' events beside the lanes' pages -/

theorem not_mem_lanePages {p : Nat} (h : p < 0x30) : p ∉ (List.range 48).map (· + 0x30) := by
  simp only [List.mem_map, List.mem_range, not_exists, not_and]
  omega

/-- A frame of the lanes and their pages keeps every register of a lower page. -/
theorem Touches.lanes_reg {s t : State} (h : Touches [.lanes] ((List.range 48).map (· + 0x30)) [] s t) {a : Nat} (ha : a / 0x400 < 0x30) :
    t.reg a = s.reg a :=
  h.reg_eq (not_mem_lanePages ha) (List.forall_mem_nil _)

/-- Fields of a frame may be named by their pages. -/
theorem Touches.pages {ps : List Part} {gs gs' : List Nat} {fs fs' : List Fld} {s t : State} (h : Touches ps gs fs s t) (hg : gs ⊆ gs')
    (hf : ∀ f ∈ fs, f.addr / 0x400 ∈ gs' ∨ f ∈ fs') : Touches ps gs' fs' s t :=
  ⟨h.1, fun a i hi ha hn => h.2 a i hi (fun hm => ha (hg hm)) (fun ⟨f, hm, he, hx⟩ =>
    (hf f hm).elim (fun hp => ha (he ▸ hp)) (fun hm' => hn ⟨f, hm', he, hx⟩))⟩

theorem State.lanesStop_touches (dom : Nat) : Touches [.lanes] ((List.range 48).map (· + 0x30)) [] s (s.lanesStop dom) :=
  (Touches.refl _ _ _ s).lanesStop (List.mem_singleton_self _) (List.Subset.refl _) dom

theorem State.lanesRateChange_touches (dom : Nat) :
    Touches [.lanes] ((List.range 48).map (· + 0x30)) [] s (s.lanesRateChange dom) :=
  (Touches.refl _ _ _ s).lanesRateChange (List.mem_singleton_self _) (List.Subset.refl _) dom

theorem State.ifaceLanesStop_touches (j : Nat) : Touches [.lanes] ((List.range 48).map (· + 0x30)) [] s (s.ifaceLanesStop j) :=
  (Touches.refl _ _ _ s).ifaceLanesStop (List.mem_singleton_self _) (List.Subset.refl _) j

/-! ## Frames of tracker 0 -/

section
variable {ps : List Part} {gs : List Nat} {fs : List Fld} {s t : State}
variable (hf : trkFlds 0 ⊆ fs)
include hf

theorem Touches.setTrk_zero (h : Touches ps gs fs s t) (st : Nat) : Touches ps gs fs s (t.setTrk 0 st) :=
  (h.when _ (fun _ => h.irq (.inr (hf (by simp [trkFlds]))))).set _ (.inr (hf (by simp [trkFlds])))

theorem Touches.trkAcquire_zero (h : Touches ps gs fs s t) (ht : .trk ∈ ps) : Touches ps gs fs s (t.trkAcquire 0) :=
  ((h.modTrk 0 _ ht).set _ (.inr (hf (by simp [trkFlds])))).setTrk_zero hf 1

variable (ht : Part.trk ∈ ps) (hl : Part.lanes ∈ ps) (hg : (List.range 48).map (· + 0x30) ⊆ gs)
include ht hl hg

theorem Touches.trkRateChange_zero (h : Touches ps gs fs s t) (hr : F.CLK_TRK_STATUS_RATE_CHG 0 ∈ fs) :
    Touches ps gs fs s (t.trkRateChange 0) :=
  ((h.set _ (.inr hr)).trkAcquire_zero hf ht).lanesRateChange hl hg 2

omit ht in
theorem Touches.trkStop_zero (h : Touches ps gs fs s t) (hs : F.CLK_TRK_STATUS_STOP 0 ∈ fs) (hc : F.CLK_TRK_COUNT_STOPS 0 ∈ fs) :
    Touches ps gs fs s (t.trkStop 0) := by
  have he : F.CLK_TRK_STATUS_EDGES 0 ∈ fs := hf (by simp [trkFlds])
  unfold State.trkStop
  split
  case h_3 => exact h.set _ (.inr he)
  all_goals exact ((((h.set _ (.inr hs)).inc (.inr hc)).set _ (.inr he)).setTrk_zero hf 3).lanesStop hl hg 2

theorem Touches.trkEdge_zero (h : Touches ps gs fs s t) (period : Nat) (hs : F.CLK_TRK_STATUS_GLITCH 0 ∈ fs)
    (hc : F.CLK_TRK_COUNT_GLITCHES 0 ∈ fs) : Touches ps gs fs s (t.trkEdge 0 period) := by
  have hglitch : ∀ {t : State}, Touches ps gs fs s t → Touches ps gs fs s (t.trkGlitch 0) := fun h =>
    (h.set _ (.inr hs)).inc (.inr hc)
  unfold State.trkEdge
  dsimp only
  split
  · exact h.trkAcquire_zero hf ht
  · exact h.trkAcquire_zero hf ht
  · split
    · exact h.modTrk 0 _ ht
    · exact (h.modTrk 0 _ ht).when _ (fun _ => hglitch (h.modTrk 0 _ ht))
  · split
    · exact h.modTrk 0 _ ht
    · rw [if_pos rfl]
      split
      · exact (h.modTrk 0 _ ht).when _ (fun _ => (hglitch (h.modTrk 0 _ ht)).lanesGlitch hl hg 2)
      · exact h.modTrk 0 _ ht

end

/-! ## The state that an event moves tracker 0 to -/

theorem State.setTrk_zero_state {st : Nat} (h : st < 4) : (s.setTrk 0 st).trkState 2 = st :=
  (State.get_set_self _ _ _ (Fld.fits_of_ble rfl)).trans (Nat.mod_eq_of_lt h)

theorem State.trkAcquire_zero_state : (s.trkAcquire 0).trkState 2 = 1 := State.setTrk_zero_state _ (by decide)

theorem Touches.lanes_trkState {s t : State} (h : Touches [.lanes] ((List.range 48).map (· + 0x30)) [] s t) :
    t.trkState 2 = s.trkState 2 := by
  rw [State.trkState, State.get, h.lanes_reg (by decide)]
  rfl

theorem State.trkRateChange_zero_state : (s.trkRateChange 0).trkState 2 = 1 :=
  (Touches.lanes_trkState (State.lanesRateChange_touches _ 2)).trans (State.trkAcquire_zero_state _)

/-- An edge ends UNLOCKED: no stream is refused to tracker 0. -/
theorem State.trkEdge_zero_unlocked (period : Nat) (h : s.trkState 2 = 0) : s.trkEdge 0 period = s.trkAcquire 0 := by
  unfold State.trkEdge
  dsimp only
  rw [show s.get (F.CLK_TRK_STATUS_STATE 0) = 0 from h]
  rfl

/-- A stop of a locked tracker: HOLDOVER, counted. -/
theorem State.trkStop_zero_locked (h : s.trkState 2 = 2) : (s.trkStop 0).trkState 2 = 3 ∧
    (s.trkStop 0).get (F.CLK_TRK_COUNT_STOPS 0) = min (s.get (F.CLK_TRK_COUNT_STOPS 0) + 1) 0xFFFF := by
  have he : s.trkStop 0 = ((((s.set (F.CLK_TRK_STATUS_STOP 0) 1).inc (F.CLK_TRK_COUNT_STOPS 0)).set (F.CLK_TRK_STATUS_EDGES 0) 0).setTrk
      0 3).lanesStop 2 := by
    unfold State.trkStop
    rw [show s.get (F.CLK_TRK_STATUS_STATE 0) = 2 from h]
    rfl
  rw [he]
  generalize hu : (s.set (F.CLK_TRK_STATUS_STOP 0) 1).inc (F.CLK_TRK_COUNT_STOPS 0) = u
  constructor
  · exact (Touches.lanes_trkState (State.lanesStop_touches _ 2)).trans (State.setTrk_zero_state _ (by decide))
  · have hk : Touches [] [] (trkFlds 0) u ((u.set (F.CLK_TRK_STATUS_EDGES 0) 0).setTrk 0 3) :=
      ((Touches.refl _ _ _ u).set _ (.inr (by simp [trkFlds]))).setTrk_zero (List.Subset.refl _) 3
    have hne : ∀ f ∈ trkFlds 0, f.addr ≠ A.CLK_TRK_COUNT 0 := by decide
    rw [State.get, (State.lanesStop_touches _ 2).lanes_reg (by decide), show (F.CLK_TRK_COUNT_STOPS 0).addr = A.CLK_TRK_COUNT 0 from rfl,
      hk.reg_eq (List.not_mem_nil) hne, ← hu]
    refine (State.get_inc_self _ _ (Fld.fits_of_ble rfl)).trans ?_
    rw [State.get_set_ne _ _ (Fld.fits_of_ble rfl) (.inl (by decide))]
    rfl

end Sys2Proof.Machine
end

section
/-! PROOFS. The USB host's requests to the streaming interfaces (R289 to R293, R297): stops of the streams, alternate settings,
sampling frequencies and feature units. -/

namespace Sys2Proof.Machine

variable (s : State)

/-! ## Answers to the host -/

theorem Touches.usbReply {ps : List Part} {gs : List Nat} {fs : List Fld} {s t : State} (h : Touches ps gs fs s t) (bs : List Nat)
    (hp : .usb ∈ ps) : Touches ps gs fs s (t.usbReply bs) := h.modUsb _ hp

theorem Touches.usbStall {ps : List Part} {gs : List Nat} {fs : List Fld} {s t : State} (h : Touches ps gs fs s t)
    (hp : .usb ∈ ps) : Touches ps gs fs s t.usbStall := h.modUsb _ hp

@[simp] theorem State.usbReply_get (bs : List Nat) (f : Fld) : (s.usbReply bs).get f = s.get f := rfl

@[simp] theorem State.usbStall_get (f : Fld) : s.usbStall.get f = s.get f := rfl

/-- A flag set to one is on. -/
theorem State.on_of_get_one {f : Fld} (h : s.get f = 1) : s.on f = true := by
  rw [State.on, h]
  rfl

theorem State.on_congr {t : State} {f : Fld} (h : t.get f = s.get f) : t.on f = s.on f := by
  rw [State.on, h, State.on]

/-- The status registers of the four streaming interfaces lie on the USB page. -/
theorem usbAsStatus_page {i : Nat} (h : i < 4) : A.USB_AS_STATUS i / 0x400 = 0x0A := by
  simp only [A.USB_AS_STATUS]
  omega

theorem usbAlt_page (i : Nat) : (F.USB_ALT_ALT i).addr / 0x400 = 0x0A := (by decide : A.USB_ALT / 0x400 = 0x0A)

theorem usbAsStatus_ne_alt (i : Nat) : A.USB_AS_STATUS i ≠ A.USB_ALT := by
  simp only [A.USB_AS_STATUS, A.USB_ALT]
  omega

/-! ## Stops of a stream (R297) -/

/-- The registers a stop of streaming interface i writes. -/
def streamStopFlds (i : Nat) : List Fld := [F.USB_AS_STATUS_ACTIVE i, F.USB_AS_STATUS_STOPPED i]

theorem State.outStop_idle {j : Nat} (h : (s.usbOut j).started = false) : s.outStop j = s := by
  rw [State.outStop, h, State.when_false]

theorem State.outStop_started {j : Nat} (h : (s.usbOut j).started = true) : s.outStop j =
    (((s.modOut j (fun _ => ⟨false, [], [], [], [], 0, 0, 0⟩)).set (F.USB_AS_STATUS_ACTIVE j) 0).set
      (F.USB_AS_STATUS_STOPPED j) 1).ifaceLanesStop j := by
  rw [State.outStop, h, State.when_true]

theorem State.outStop_touches (j : Nat) :
    Touches [.usb, .lanes] ((List.range 48).map (· + 0x30)) (streamStopFlds j) s (s.outStop j) :=
  (Touches.refl _ _ _ s).when _ (fun _ =>
    ((((Touches.refl _ _ _ s).modOut j _ (by simp)).set _ (.inr (by simp [streamStopFlds]))).set _
      (.inr (by simp [streamStopFlds]))).ifaceLanesStop (by simp) (List.Subset.refl _) j)

theorem State.inStop_touches (j : Nat) : Touches [.usb] [] (streamStopFlds (2 + j)) s (s.inStop j) :=
  (((Touches.refl _ _ _ s).when _ (fun h => (Touches.refl _ _ _ s).set _ (.inr (by simp [streamStopFlds])))).set _
    (.inr (by simp [streamStopFlds]))).modIn j _ (by simp)

/-- A started stream's status after its stop. -/
theorem State.outStop_status {j : Nat} (hj : j < 2) (h : (s.usbOut j).started = true) :
    (s.outStop j).get (F.USB_AS_STATUS_ACTIVE j) = 0 ∧ (s.outStop j).get (F.USB_AS_STATUS_STOPPED j) = 1 := by
  have hp : A.USB_AS_STATUS j / 0x400 < 0x30 := usbAsStatus_page (i := j) (by omega) ▸ by decide
  have hk := fun (t : State) => (t.ifaceLanesStop_touches j).lanes_reg hp
  rw [s.outStop_started h, State.get, State.get, show (F.USB_AS_STATUS_ACTIVE j).addr = A.USB_AS_STATUS j from rfl,
    show (F.USB_AS_STATUS_STOPPED j).addr = A.USB_AS_STATUS j from rfl, hk]
  constructor
  · have hd : (F.USB_AS_STATUS_STOPPED j).apart (F.USB_AS_STATUS_ACTIVE j) := by
      simp [Fld.apart, F.USB_AS_STATUS_ACTIVE, F.USB_AS_STATUS_STOPPED]
    refine (State.get_set_ne _ 1 (Fld.fits_of_ble rfl) hd).trans ?_
    exact State.get_set_self _ _ _ (Fld.fits_of_ble rfl)
  · exact State.get_set_self _ (F.USB_AS_STATUS_STOPPED j) 1 (Fld.fits_of_ble rfl)

/-- An input interface's status after its stop. -/
theorem State.inStop_active (j : Nat) : (s.inStop j).get (F.USB_AS_STATUS_ACTIVE (2 + j)) = 0 := by
  unfold State.inStop
  exact State.get_set_self _ (F.USB_AS_STATUS_ACTIVE (2 + j)) 0 (Fld.fits_of_ble rfl)

/-- The stream's stop that a selection of an alternate setting of interface i + 1 begins with. -/
def State.altStop (s : State) (i : Nat) : State := if i < 2 then s.outStop i else s.inStop (i - 2)

theorem State.altStop_touches (i : Nat) :
    Touches [.usb, .lanes] ((List.range 48).map (· + 0x30)) (streamStopFlds i) s (s.altStop i) := by
  unfold State.altStop
  split
  · exact s.outStop_touches i
  · next h =>
    have hk := s.inStop_touches (i - 2)
    rw [show 2 + (i - 2) = i by omega] at hk
    exact hk.mono (by simp) (List.nil_subset _) (List.Subset.refl _)

/-- The stop leaves the alternate settings. -/
theorem State.altStop_reg_alt (i : Nat) : (s.altStop i).reg A.USB_ALT = s.reg A.USB_ALT :=
  (s.altStop_touches i).reg_eq (not_mem_lanePages (by decide)) (by
    simp [streamStopFlds, usbAsStatus_ne_alt, F.USB_AS_STATUS_ACTIVE, F.USB_AS_STATUS_STOPPED])

theorem State.altStop_usbAlt (i k : Nat) : (s.altStop i).usbAlt k = s.usbAlt k :=
  congrArg (bits · (8 * k + 0) 2) (s.altStop_reg_alt i)

/-- ACTIVE after the stop: only an output stream that was not started keeps it. -/
theorem State.altStop_active (i : Nat) : (s.altStop i).on (F.USB_AS_STATUS_ACTIVE i) =
    (s.on (F.USB_AS_STATUS_ACTIVE i) && decide (i < 2) && !(s.usbOut i).started) := by
  unfold State.altStop
  split
  · next h =>
    cases hs : (s.usbOut i).started
    · rw [s.outStop_idle hs]
      simp [h]
    · rw [State.on, (s.outStop_status h hs).1]
      simp
  · next h =>
    obtain ⟨k, rfl⟩ : ∃ k, i = 2 + k := ⟨i - 2, by omega⟩
    rw [State.on, show 2 + k - 2 = k by omega, s.inStop_active k, decide_eq_false h]
    simp

/-! ## Alternate settings (R290 to R292) -/

section
variable {i alt : Nat}

theorem Touches.setAlt {ps : List Part} {gs : List Nat} {fs : List Fld} {s t : State} (h : Touches ps gs fs s t) (hi : i < 4)
    (hg : 0x0A ∈ gs) : Touches ps gs fs s (t.setAlt i alt) :=
  ((h.when _ (fun _ => h.irq (.inl hg))).set (f := F.USB_ALT_ALT i) _ (.inl (usbAlt_page i ▸ hg))).setB
    (f := F.USB_AS_STATUS_SUBSLOT3 i) _ (.inl (usbAsStatus_page hi ▸ hg))

theorem State.setAlt_usbAlt (hi : i < 4) (ha : alt < 4) : (s.setAlt i alt).usbAlt i = alt := by
  have hf : (F.USB_ALT_ALT i).fits := by
    simp only [Fld.fits, F.USB_ALT_ALT]
    omega
  refine (State.get_set_ne _ _ (Fld.fits_of_ble rfl) (.inl (usbAsStatus_ne_alt i))).trans ?_
  exact (State.get_set_self _ _ _ hf).trans (Nat.mod_eq_of_lt ha)

theorem State.setAlt_subslot : (s.setAlt i alt).on (F.USB_AS_STATUS_SUBSLOT3 i) = decide (alt = 2) := by
  unfold State.setAlt
  rw [State.on, State.get_setB_self _ _ _ (Fld.fits_of_ble rfl) Nat.one_pos]
  by_cases h : alt = 2 <;> simp [h]

theorem State.setAlt_active : (s.setAlt i alt).on (F.USB_AS_STATUS_ACTIVE i) = s.on (F.USB_AS_STATUS_ACTIVE i) := by
  have hk : Touches [] [] [F.PG_IRQ 0x0A 7, F.USB_ALT_ALT i, F.USB_AS_STATUS_SUBSLOT3 i] s (s.setAlt i alt) :=
    (((Touches.refl _ _ _ s).when _ (fun _ => (Touches.refl _ _ _ s).irq (.inr (by simp)))).set _ (.inr (by simp))).setB _
      (.inr (by simp))
  refine State.on_congr _ (hk.get_eq List.not_mem_nil ?_)
  simp only [List.forall_mem_cons, Fld.apart, F.PG_IRQ, F.USB_ALT_ALT, F.USB_AS_STATUS_SUBSLOT3, F.USB_AS_STATUS_ACTIVE,
    A.USB_AS_STATUS, A.USB_ALT]
  refine ⟨.inl (by omega), .inl (by omega), .inr (.inl (Nat.le_refl 1)), List.forall_mem_nil _⟩

/-- A changed setting raises its interrupt. -/
theorem State.setAlt_irq (h : s.usbAlt i ≠ alt) : (s.setAlt i alt).on (F.PG_IRQ 0x0A 7) = true := by
  have hk : ∀ t : State, Touches [] [] [F.USB_ALT_ALT i, F.USB_AS_STATUS_SUBSLOT3 i] t
      ((t.set (F.USB_ALT_ALT i) alt).setB (F.USB_AS_STATUS_SUBSLOT3 i) (decide (alt = 2))) := fun t =>
    ((Touches.refl _ _ _ t).set _ (.inr (by simp))).setB _ (.inr (by simp))
  refine State.on_of_get_one _ ?_
  unfold State.setAlt
  rw [decide_eq_true h, State.when_true, State.get, (hk _).reg_eq List.not_mem_nil]
  · exact State.get_irq_self _ _ _ (by decide)
  · simp only [List.forall_mem_cons, F.PG_IRQ, F.USB_ALT_ALT, F.USB_AS_STATUS_SUBSLOT3, A.USB_AS_STATUS, A.USB_ALT]
    exact ⟨by omega, by omega, List.forall_mem_nil _⟩

end

/-! ## USB_SET_INTERFACE -/

theorem State.bwRefused_flag : s.bwRefused.get F.USB_FLAGS_BW_REFUSED = 1 := by
  rw [State.bwRefused, State.usbStall_get, State.irq, State.get_set_ne _ _ (Fld.fits_of_ble rfl) (.inl (by decide)),
    State.get_set_self _ _ _ (Fld.fits_of_ble rfl)]
  rfl

theorem State.bwRefused_irq : s.bwRefused.on (F.PG_IRQ 0x0A 11) = true := by
  refine State.on_of_get_one _ ?_
  rw [State.bwRefused, State.usbStall_get, State.get_irq_self _ _ _ (by decide)]

theorem State.bwRefused_touches : Touches [.usb] [] [F.USB_FLAGS_BW_REFUSED, F.PG_IRQ 0x0A 11] s s.bwRefused :=
  (((Touches.refl _ _ _ s).set _ (.inr (by simp))).irq (.inr (by simp))).usbStall (by simp)

/-- The refusal leaves every other register of the page but the flags and the interrupts. -/
theorem State.bwRefused_reg {a : Nat} (h : A.USB_FLAGS ≠ a) (h' : 0x0A * 0x400 + 0x00C ≠ a) : s.bwRefused.reg a = s.reg a :=
  s.bwRefused_touches.reg_eq (List.not_mem_nil) (by simpa [F.USB_FLAGS_BW_REFUSED, F.PG_IRQ] using ⟨h, h'⟩)

section
variable {i alt : Nat} (hc : s.clocked .usb = true) (h1 : s.on F.USB_STATE_CONNECTED = true) (h2 : s.on F.USB_STATE_CONFIGURED = true)
include hc h1 h2

theorem State.setInterface_beyond (h : 2 < alt) : s.setInterface i alt = s.usbStall := by
  rw [State.setInterface, State.event_of _ _ hc (by rw [h1, h2]; rfl), if_pos h]

theorem State.setInterface_refused (h : alt ≤ 2) (hf : s.usbFits (fun k => if k = i then alt else s.usbAlt k) s.usbHz = false) :
    s.setInterface i alt = s.bwRefused := by
  rw [State.setInterface, State.event_of _ _ hc (by rw [h1, h2]; rfl), if_neg (Nat.not_lt.2 h), hf]
  rfl

theorem State.setInterface_taken (h : alt ≤ 2) (hf : s.usbFits (fun k => if k = i then alt else s.usbAlt k) s.usbHz = true) :
    s.setInterface i alt = (((s.altStop i).setAlt i alt).modUsb (fun u => { u with
      held := bitsOf ((List.range 4).map (fun k => decide (k ≠ i) && u.held.testBit k)) })).usbReply [] := by
  rw [State.setInterface, State.event_of _ _ hc (by rw [h1, h2]; rfl), if_neg (Nat.not_lt.2 h), hf]
  rfl

theorem State.setInterface_touches (hi : i < 4) :
    Touches [.usb, .lanes] (0x0A :: (List.range 48).map (· + 0x30)) [] s (s.setInterface i alt) := by
  rcases Nat.lt_or_ge 2 alt with h | h
  · rw [s.setInterface_beyond hc h1 h2 h]
    exact (Touches.refl _ _ _ s).usbStall (by simp)
  cases hf : s.usbFits (fun k => if k = i then alt else s.usbAlt k) s.usbHz
  · rw [s.setInterface_refused hc h1 h2 h hf]
    exact (((Touches.refl _ _ _ s).set _ (.inl (List.mem_cons_self ..))).irq (.inl (List.mem_cons_self ..))).usbStall (by simp)
  · rw [s.setInterface_taken hc h1 h2 h hf]
    have hs : Touches [.usb, .lanes] (0x0A :: (List.range 48).map (· + 0x30)) [] s (s.altStop i) :=
      (s.altStop_touches i).pages (List.subset_cons_self ..) (by
        simp [streamStopFlds, F.USB_AS_STATUS_ACTIVE, F.USB_AS_STATUS_STOPPED, usbAsStatus_page hi])
    exact ((hs.setAlt hi (List.mem_cons_self ..)).modUsb _ (by simp)).usbReply _ (by simp)

end

end Sys2Proof.Machine
end

section
/-! PROOFS. The USB host's sampling frequency and feature units (R289, R293). -/

namespace Sys2Proof.Machine

variable (s : State)

/-! ## USB_SET_SAMPLING_FREQ (R293) -/

/-- A rate change of tracker 0 beside the lanes and the trackers. -/
theorem State.trkRateChange_zero_touches : Touches [.lanes, .trk] ((List.range 48).map (· + 0x30))
    (F.CLK_TRK_STATUS_RATE_CHG 0 :: trkFlds 0) s (s.trkRateChange 0) :=
  (Touches.refl _ _ _ s).trkRateChange_zero (List.subset_cons_self ..) (by simp) (by simp) (List.Subset.refl _) (List.mem_cons_self ..)

/-- It leaves the USB page. -/
theorem State.trkRateChange_zero_reg {a : Nat} (h : a / 0x400 = 0x0A) : (s.trkRateChange 0).reg a = s.reg a := by
  have hp : ∀ f ∈ F.CLK_TRK_STATUS_RATE_CHG 0 :: trkFlds 0, f.addr / 0x400 = 3 := by decide
  refine s.trkRateChange_zero_touches.reg_eq (not_mem_lanePages (by omega)) (fun f hf he => ?_)
  have := hp f hf
  rw [he] at this
  omega

/-- A rate that the function takes is in force and valid. -/
def State.freqSet (s : State) (code : Nat) : State :=
  (((s.set F.USB_CLOCK_RATE code).set F.USB_CLOCK_VALID 1).irq 0x0A 8).usbReply []

/-- A new rate is counted, and a tracker that acquires or is locked acquires again. -/
def State.freqChanged (s : State) : State :=
  (s.inc F.USB_CLOCK_HOST_SET).when (decide (1 ≤ s.trkState 2) && decide (s.trkState 2 ≤ 2)) (·.trkRateChange 0)

theorem State.freqSet_touches (code : Nat) : Touches [.usb] [] [F.USB_CLOCK_RATE, F.USB_CLOCK_VALID, F.PG_IRQ 0x0A 8] s (s.freqSet code) :=
  ((((Touches.refl _ _ _ s).set _ (.inr (by simp))).set _ (.inr (by simp))).irq (.inr (by simp))).usbReply _ (by simp)

theorem State.freqSet_rate {code : Nat} (h : code < 16) : (s.freqSet code).get F.USB_CLOCK_RATE = code := by
  rw [State.freqSet, State.usbReply_get, State.irq, State.get_set_ne _ _ (Fld.fits_of_ble rfl) (.inl (by decide)),
    State.get_set_ne _ _ (Fld.fits_of_ble rfl) (.inr (.inl (by decide))), State.get_set_self _ _ _ (Fld.fits_of_ble rfl)]
  exact Nat.mod_eq_of_lt h

theorem State.freqSet_valid (code : Nat) : (s.freqSet code).on F.USB_CLOCK_VALID = true := by
  refine State.on_of_get_one _ ?_
  rw [State.freqSet, State.usbReply_get, State.irq, State.get_set_ne _ _ (Fld.fits_of_ble rfl) (.inl (by decide)),
    State.get_set_self _ _ _ (Fld.fits_of_ble rfl)]
  rfl

theorem State.freqSet_irq (code : Nat) : (s.freqSet code).on (F.PG_IRQ 0x0A 8) = true := by
  refine State.on_of_get_one _ ?_
  rw [State.freqSet, State.usbReply_get, State.get_irq_self _ _ _ (by decide)]

/-- HOST_SET is none of them. -/
theorem State.freqSet_hostSet (code : Nat) : (s.freqSet code).get F.USB_CLOCK_HOST_SET = s.get F.USB_CLOCK_HOST_SET :=
  (s.freqSet_touches code).get_eq List.not_mem_nil (by simp only [Fld.apart]; decide)

theorem State.freqSet_trkState (code : Nat) : (s.freqSet code).trkState 2 = s.trkState 2 :=
  (s.freqSet_touches code).get_eq List.not_mem_nil (by simp only [Fld.apart]; decide)

/-- HOST_SET counts; every other field of the USB page is unchanged. -/
theorem State.freqChanged_hostSet : s.freqChanged.get F.USB_CLOCK_HOST_SET = min (s.get F.USB_CLOCK_HOST_SET + 1) 0xFFFF := by
  have hi : (s.inc F.USB_CLOCK_HOST_SET).get F.USB_CLOCK_HOST_SET = min (s.get F.USB_CLOCK_HOST_SET + 1) 0xFFFF :=
    State.get_inc_self _ _ (Fld.fits_of_ble rfl)
  unfold State.freqChanged State.when
  split
  · rw [State.get, State.trkRateChange_zero_reg _ (by decide)]
    exact hi
  · exact hi

theorem State.freqChanged_get {f : Fld} (hp : f.addr / 0x400 = 0x0A) (hd : F.USB_CLOCK_HOST_SET.apart f) :
    s.freqChanged.get f = s.get f := by
  have hi : (s.inc F.USB_CLOCK_HOST_SET).get f = s.get f := State.get_set_ne _ _ (Fld.fits_of_ble rfl) hd
  unfold State.freqChanged State.when
  split
  · rw [State.get, State.trkRateChange_zero_reg _ hp]
    exact hi
  · exact hi

/-- A locked tracker 0 acquires again. -/
theorem State.freqChanged_trkState (h : s.trkState 2 = 2) : s.freqChanged.trkState 2 = 1 := by
  have hb : (decide (1 ≤ s.trkState 2) && decide (s.trkState 2 ≤ 2)) = true := by simp [h]
  rw [State.freqChanged, hb, State.when_true]
  exact State.trkRateChange_zero_state _

theorem State.freqChanged_touches : Touches [.lanes, .trk] (0x0A :: (List.range 48).map (· + 0x30))
    (F.CLK_TRK_STATUS_RATE_CHG 0 :: trkFlds 0) s s.freqChanged := by
  have hi : Touches [.lanes, .trk] (0x0A :: (List.range 48).map (· + 0x30)) (F.CLK_TRK_STATUS_RATE_CHG 0 :: trkFlds 0) s
      (s.inc F.USB_CLOCK_HOST_SET) := (Touches.refl _ _ _ s).inc (.inl (List.mem_cons_self ..))
  unfold State.freqChanged
  exact hi.when _ (fun _ => hi.trkRateChange_zero (List.subset_cons_self ..) (by simp) (by simp) (List.subset_cons_self ..)
    (List.mem_cons_self ..))

theorem State.freqChanged_usb : s.freqChanged.usb = s.usb := s.freqChanged_touches.1 .usb (by simp)

section
variable {hz : Nat} (hc : s.clocked .usb = true) (h1 : s.on F.USB_STATE_CONNECTED = true) (h2 : s.on F.USB_STATE_CONFIGURED = true)
include hc h1 h2

theorem State.setFreq_stalled (h : rateHz (rateCode hz) ≠ hz ∨ s.usbOffers (rateCode hz) = false) : s.setFreq hz = s.usbStall := by
  rw [State.setFreq, State.event_of _ _ hc (by rw [h1, h2]; rfl)]
  exact if_pos (h.imp_right (by simp))

variable (h : rateHz (rateCode hz) = hz) (ho : s.usbOffers (rateCode hz) = true)
include h ho

theorem State.setFreq_refused (hf : s.usbFits s.usbAlt hz = false) : s.setFreq hz = s.bwRefused := by
  rw [State.setFreq, State.event_of _ _ hc (by rw [h1, h2]; rfl)]
  dsimp only
  rw [if_neg (by simp [h, ho]), hf]
  rfl

theorem State.setFreq_taken (hf : s.usbFits s.usbAlt hz = true) : s.setFreq hz =
    (s.freqSet (rateCode hz)).when (decide (rateCode hz ≠ s.get F.USB_CLOCK_RATE)) State.freqChanged := by
  rw [State.setFreq, State.event_of _ _ hc (by rw [h1, h2]; rfl)]
  dsimp only
  rw [if_neg (by simp [h, ho]), hf]
  rfl

end

theorem State.setFreq_touches {hz : Nat} (hc : s.clocked .usb = true) (h1 : s.on F.USB_STATE_CONNECTED = true)
    (h2 : s.on F.USB_STATE_CONFIGURED = true) : Touches [.usb, .lanes, .trk] (0x0A :: (List.range 48).map (· + 0x30))
      (F.CLK_TRK_STATUS_RATE_CHG 0 :: trkFlds 0) s (s.setFreq hz) := by
  by_cases h : rateHz (rateCode hz) = hz ∧ s.usbOffers (rateCode hz) = true
  · cases hf : s.usbFits s.usbAlt hz
    · rw [s.setFreq_refused hc h1 h2 h.1 h.2 hf]
      exact (s.bwRefused_touches.mono (by simp) (List.nil_subset _) (List.Subset.refl _)).pages (List.Subset.refl _) (by
        simp only [List.forall_mem_cons]
        exact ⟨.inl (by decide), .inl (by decide), List.forall_mem_nil _⟩)
    · rw [s.setFreq_taken hc h1 h2 h.1 h.2 hf]
      have hk : Touches [.usb, .lanes, .trk] (0x0A :: (List.range 48).map (· + 0x30)) (F.CLK_TRK_STATUS_RATE_CHG 0 :: trkFlds 0) s
          (s.freqSet (rateCode hz)) :=
        ((s.freqSet_touches _).mono (by simp) (List.nil_subset _) (List.Subset.refl _)).pages (List.Subset.refl _) (by
          simp only [List.forall_mem_cons]
          exact ⟨.inl (by decide), .inl (by decide), .inl (by decide), List.forall_mem_nil _⟩)
      exact hk.when _ (fun _ => hk.trans ((State.freqChanged_touches _).mono (by simp) (List.Subset.refl _) (List.Subset.refl _)))
  · rw [s.setFreq_stalled hc h1 h2 (by by_contra hn; push Not at hn; exact h ⟨hn.1, by simpa using hn.2⟩)]
    exact (Touches.refl _ _ _ s).usbStall (by simp)

/-! ## USB_FU_SET_CUR (R289) -/

/-- The value that a feature unit holds. -/
def State.fuHeld (s : State) (i : Nat) (isMute : Bool) (v : Int) : State :=
  if isMute then s.setB (F.USB_FU_MUTE i) (decide (v ≠ 0)) else s.setS (F.USB_FU_VOL i) (max (-24576) (min 0 v))

/-- A mute is held as given, beside the volume. -/
theorem State.fuHeld_mute (i : Nat) (v : Int) : (s.fuHeld i true v).on (F.USB_FU_MUTE i) = decide (v ≠ 0) ∧
    (s.fuHeld i true v).get (F.USB_FU_VOL i) = s.get (F.USB_FU_VOL i) := by
  constructor
  · rw [State.on, State.fuHeld, if_pos rfl, State.get_setB_self _ _ _ (Fld.fits_of_ble rfl) Nat.one_pos]
    by_cases h : v = 0 <;> simp [h]
  · exact State.get_set_ne (f := F.USB_FU_MUTE i) (g := F.USB_FU_VOL i) _ _ (Fld.fits_of_ble rfl)
      (.inr (by simp [F.USB_FU_MUTE, F.USB_FU_VOL]))

/-- A volume is held clamped to -96 dB to 0, beside the mute. -/
theorem State.fuHeld_vol (i : Nat) (v : Int) : signed 16 ((s.fuHeld i false v).get (F.USB_FU_VOL i)) = max (-24576) (min 0 v) ∧
    (s.fuHeld i false v).on (F.USB_FU_MUTE i) = s.on (F.USB_FU_MUTE i) := by
  constructor
  · have h1 : -24576 ≤ max (-24576) (min 0 v) := le_max_left _ _
    have h2 : max (-24576) (min 0 v) ≤ 0 := max_le (by decide) (min_le_left _ _)
    rw [State.fuHeld, if_neg Bool.false_ne_true, State.setS, State.get_set_self _ _ _ (Fld.fits_of_ble rfl)]
    generalize max (-24576) (min 0 v) = x at h1 h2
    simp only [F.USB_FU_VOL, signed, unsigned, satSigned]
    omega
  · exact State.on_congr _ (State.get_set_ne (f := F.USB_FU_VOL i) (g := F.USB_FU_MUTE i) _ _ (Fld.fits_of_ble rfl)
      (.inr (by simp [F.USB_FU_MUTE, F.USB_FU_VOL])))

theorem State.fuHeld_touches (i : Nat) (isMute : Bool) (v : Int) :
    Touches [] [] [F.USB_FU_MUTE i, F.USB_FU_VOL i] s (s.fuHeld i isMute v) := by
  cases isMute
  · exact (Touches.refl _ _ _ s).setS _ (.inr (by simp))
  · exact (Touches.refl _ _ _ s).setB _ (.inr (by simp))

/-- What follows a value that changed. -/
def State.fuFollow (s t : State) (i : Nat) : State :=
  t.when (decide (t.reg (A.USB_FU i) ≠ s.reg (A.USB_FU i))) (fun s => (s.irq 0x0A 9).fuSync i)

theorem State.fuFollow_touches (t : State) (i : Nat) : Touches [.usb] [] [F.PG_IRQ 0x0A 9] t (s.fuFollow t i) :=
  (Touches.refl _ _ _ t).when _ (fun _ => ((Touches.refl _ _ _ t).irq (.inr (by simp))).modUsb _ (by simp))

theorem State.fuFollow_reg (t : State) (i : Nat) : (s.fuFollow t i).reg (A.USB_FU i) = t.reg (A.USB_FU i) :=
  (s.fuFollow_touches t i).reg_eq List.not_mem_nil (by simp [F.PG_IRQ, A.USB_FU]; omega)

/-- A change raises FU_CHANGE. -/
theorem State.fuFollow_irq {t : State} {i : Nat} (h : t.reg (A.USB_FU i) ≠ s.reg (A.USB_FU i)) :
    (s.fuFollow t i).on (F.PG_IRQ 0x0A 9) = true := by
  unfold State.fuFollow
  rw [decide_eq_true h, State.when_true]
  exact State.on_of_get_one _ (State.get_irq_self t 0x0A 9 (by decide))

theorem State.fuSet_taken {i : Nat} {isMute : Bool} {v : Int} (hc : s.clocked .usb = true) (h1 : s.on F.USB_STATE_CONNECTED = true)
    (h2 : s.on F.USB_STATE_CONFIGURED = true) : s.fuSet i isMute v = (s.fuFollow (s.fuHeld i isMute v) i).usbReply [] := by
  rw [State.fuSet, State.event_of _ _ hc (by rw [h1, h2]; rfl)]
  rfl

end Sys2Proof.Machine
end

section
/-! PROOFS. The packets of the USB streams (R10, R291, R296, R297): how many frames a packet brings, what fills a gap, what an
IN packet carries. -/

namespace Sys2Proof.Machine

/-! ## Frames of a packet -/

/-- A list is cut into as many whole pieces as fit. -/
theorem pieces_length {α : Type} {n : Nat} (hn : 0 < n) (fuel : Nat) (l : List α) (h : l.length ≤ fuel) :
    (pieces n fuel l).length = l.length / n := by
  induction fuel generalizing l with
  | zero =>
    rw [Nat.le_zero.1 h, Nat.zero_div]
    rfl
  | succ fuel ih =>
    unfold pieces
    split
    · next hs =>
      rw [Nat.div_eq_of_lt (hs.resolve_right (Nat.pos_iff_ne_zero.1 hn))]
      rfl
    · next hs =>
      have hl : n ≤ l.length := Nat.le_of_not_lt (fun hlt => hs (.inl hlt))
      have hd : (l.drop n).length = l.length - n := List.length_drop
      rw [List.length_cons, ih _ (by omega), hd, Nat.div_eq_sub_div hn hl]

/-- A backward reading keeps the frames held and the start. -/
theorem UsbOut.backFrame_held (o : UsbOut) : o.backFrame.1.hold = o.hold ∧ o.backFrame.1.started = o.started := by
  unfold UsbOut.backFrame
  dsimp only
  split <;> exact ⟨rfl, rfl⟩

/-- A received frame joins the hold. -/
theorem UsbOut.take_held (o : UsbOut) (x : List Int) :
    (o.take x).hold.length = o.hold.length + 1 ∧ (o.take x).started = o.started := by
  unfold UsbOut.take
  split
  · exact ⟨List.length_append, rfl⟩
  · exact ⟨List.length_append, o.backFrame_held.2⟩

theorem UsbOut.takes_held (o : UsbOut) (xs : List (List Int)) :
    (xs.foldl UsbOut.take o).hold.length = o.hold.length + xs.length ∧ (xs.foldl UsbOut.take o).started = o.started := by
  induction xs generalizing o with
  | nil => exact ⟨rfl, rfl⟩
  | cons x xs ih =>
    obtain ⟨hl, hs⟩ := o.take_held x
    obtain ⟨hl', hs'⟩ := ih (o.take x)
    exact ⟨by rw [List.foldl_cons, hl', hl, List.length_cons]; omega, hs'.trans hs⟩

/-- Each frame supplied by reading backwards joins the hold. -/
theorem UsbOut.fill_held (o : UsbOut) (n : Nat) : (o.fill n).hold.length = o.hold.length + n ∧ (o.fill n).started = o.started := by
  induction n generalizing o with
  | zero => exact ⟨rfl, rfl⟩
  | succ n ih =>
    unfold UsbOut.fill
    dsimp only
    rw [(ih _).1, (ih _).2]
    dsimp only
    rw [List.length_append, (UsbOut.backFrame_held _).1, (UsbOut.backFrame_held _).2, List.length_singleton]
    split
    all_goals exact ⟨Nat.add_right_comm _ _ _, rfl⟩

variable (s : State)

theorem State.usbOut_modOut {j : Nat} (h : j < 2) (f : UsbOut → UsbOut) : (s.modOut j f).usbOut j = f (s.usbOut j) :=
  vget_vmod_self _ j f _ h

/-! ## USB_OUT_PACKET (R297) -/

/-- Bytes of a frame of streaming interface i + 1 at its alternate setting (R291). -/
def State.frameBytes (s : State) (i : Nat) : Nat := s.usbCh i * subslot (s.usbAlt i)

/-- The most frames a packet may bring (R291). -/
def State.frameCap (s : State) : Nat := ceilDiv s.usbHz s.busHz + 1

/-- The frames of a packet. -/
def State.packetFrames (s : State) (j : Nat) (data : List Nat) : List (List Int) :=
  (pieces (s.frameBytes j) data.length data).map (fun f => (pieces (subslot (s.usbAlt j)) (s.usbCh j) f).map subslotSample)

/-- Has the packet a partial frame? -/
def State.packetOdd (s : State) (j : Nat) (data : List Nat) : Bool := decide (data.length % max 1 (s.frameBytes j) ≠ 0)

theorem subslot_pos (alt : Nat) : 0 < subslot alt := by
  unfold subslot
  split <;> decide

theorem State.packetFrames_length {j : Nat} (h : 0 < s.frameBytes j) (data : List Nat) :
    (s.packetFrames j data).length = data.length / s.frameBytes j := by
  rw [State.packetFrames, List.length_map, pieces_length h _ _ le_rfl]

theorem State.packetOdd_eq {j : Nat} (h : 0 < s.frameBytes j) (data : List Nat) :
    s.packetOdd j data = decide (data.length % s.frameBytes j ≠ 0) := by
  rw [State.packetOdd, Nat.max_eq_right h]

/-- A stream takes a packet's frames. -/
def State.packetTaken (s : State) (j : Nat) (data : List Nat) (o : UsbOut) : UsbOut :=
  (((s.packetFrames j data).take s.frameCap).foldl UsbOut.take { o with started := true }).fill
    (if s.packetOdd j data && decide ((s.packetFrames j data).length < s.frameCap) then 1 else 0)

theorem State.outPacket_taken {j : Nat} {data : List Nat} (hl : s.usbLive = true) (ha : s.usbAlt j ≠ 0)
    (hv : s.on F.USB_CLOCK_VALID = true) (hh : s.usb.held.testBit j = false) : s.outPacket j data =
    (((s.when (s.packetOdd j data || decide (s.frameCap < (s.packetFrames j data).length)) (·.inc (F.USB_AS_COUNT_PARTIAL j))).modOut j
      (s.packetTaken j data)).set (F.USB_AS_STATUS_ACTIVE j) 1) := by
  have hc : s.clocked .usb = true := (Bool.and_eq_true_iff.1 hl).2
  rw [State.outPacket, State.event_of _ _ hc (by rw [hl, hv, hh, decide_eq_true ha]; rfl)]
  rfl

theorem State.packetTaken_started (j : Nat) (data : List Nat) (o : UsbOut) : (s.packetTaken j data o).started = true := by
  rw [State.packetTaken, (UsbOut.fill_held _ _).2, (UsbOut.takes_held _ _).2]

/-- Whole frames within the interval's limit join the hold, all of them and nothing else. -/
theorem State.packetTaken_hold {j : Nat} {data : List Nat} (o : UsbOut) (hb : 0 < s.frameBytes j)
    (hr : data.length % s.frameBytes j = 0) (hn : data.length ≤ s.frameCap * s.frameBytes j) :
    (s.packetTaken j data o).hold.length = o.hold.length + data.length / s.frameBytes j := by
  have hlen := s.packetFrames_length hb data
  have hcap : data.length / s.frameBytes j ≤ s.frameCap := Nat.div_le_of_le_mul (by rwa [Nat.mul_comm] at hn)
  rw [State.packetTaken, (UsbOut.fill_held _ _).1, (UsbOut.takes_held _ _).1, s.packetOdd_eq hb, hr, List.length_take, hlen,
    Nat.min_eq_right hcap]
  rfl

section
variable {j : Nat} {data : List Nat} (hl : s.usbLive = true) (ha : s.usbAlt j ≠ 0) (hv : s.on F.USB_CLOCK_VALID = true)
  (hh : s.usb.held.testBit j = false)
include hl ha hv hh

theorem State.outPacket_active : (s.outPacket j data).on (F.USB_AS_STATUS_ACTIVE j) = true := by
  rw [s.outPacket_taken hl ha hv hh]
  exact State.on_of_get_one _ (State.get_set_self _ (F.USB_AS_STATUS_ACTIVE j) 1 (Fld.fits_of_ble rfl))

theorem State.outPacket_usbOut (hj : j < 2) : (s.outPacket j data).usbOut j = s.packetTaken j data (s.usbOut j) := by
  rw [s.outPacket_taken hl ha hv hh, State.usbOut, State.set_usb]
  refine (State.usbOut_modOut _ hj _).trans (congrArg _ ?_)
  unfold State.when
  split
  · rw [State.usbOut, State.inc_usb, State.usbOut]
  · rfl

/-- PARTIAL counts a packet with a partial frame or too many frames. -/
theorem State.outPacket_partial : (s.outPacket j data).get (F.USB_AS_COUNT_PARTIAL j) =
    if s.packetOdd j data || decide (s.frameCap < (s.packetFrames j data).length) then min (s.get (F.USB_AS_COUNT_PARTIAL j) + 1) 0xFFFF
    else s.get (F.USB_AS_COUNT_PARTIAL j) := by
  have hne : (F.USB_AS_STATUS_ACTIVE j).addr ≠ (F.USB_AS_COUNT_PARTIAL j).addr := by
    simp only [F.USB_AS_STATUS_ACTIVE, F.USB_AS_COUNT_PARTIAL, A.USB_AS_STATUS, A.USB_AS_COUNT]
    omega
  rw [s.outPacket_taken hl ha hv hh, State.get_set_ne _ _ (Fld.fits_of_ble rfl) (.inl hne), State.modOut_get]
  cases s.packetOdd j data || decide (s.frameCap < (s.packetFrames j data).length)
  · rfl
  · exact State.get_inc_self _ (F.USB_AS_COUNT_PARTIAL j) (Fld.fits_of_ble rfl)

/-- Whole frames within the interval's limit join the hold, uncounted. -/
theorem State.outPacket_whole (hj : j < 2) (hb : 0 < s.frameBytes j) (hr : data.length % s.frameBytes j = 0)
    (hn : data.length ≤ s.frameCap * s.frameBytes j) :
    (s.outPacket j data).get (F.USB_AS_COUNT_PARTIAL j) = s.get (F.USB_AS_COUNT_PARTIAL j) ∧
      ((s.outPacket j data).usbOut j).hold.length = (s.usbOut j).hold.length + data.length / s.frameBytes j := by
  have hcap : data.length / s.frameBytes j ≤ s.frameCap := Nat.div_le_of_le_mul (by rwa [Nat.mul_comm] at hn)
  have ho : s.packetOdd j data = false := by rw [s.packetOdd_eq hb, hr]; rfl
  rw [s.outPacket_partial hl ha hv hh, s.outPacket_usbOut hl ha hv hh hj, ho, s.packetFrames_length hb,
    decide_eq_false (Nat.not_lt.2 hcap)]
  exact ⟨rfl, s.packetTaken_hold _ hb hr hn⟩

/-- A packet with a partial frame is counted. -/
theorem State.outPacket_odd (hb : 0 < s.frameBytes j) (hr : data.length % s.frameBytes j ≠ 0) :
    (s.outPacket j data).get (F.USB_AS_COUNT_PARTIAL j) = min (s.get (F.USB_AS_COUNT_PARTIAL j) + 1) 0xFFFF := by
  rw [s.outPacket_partial hl ha hv hh, s.packetOdd_eq hb, decide_eq_true hr, Bool.true_or, if_pos rfl]

theorem State.outPacket_touches :
    Touches [.usb] [] [F.USB_AS_STATUS_ACTIVE j, F.USB_AS_COUNT_PARTIAL j] s (s.outPacket j data) := by
  rw [s.outPacket_taken hl ha hv hh]
  exact (((Touches.refl _ _ _ s).when _ (fun _ => (Touches.refl _ _ _ s).inc (.inr (by simp)))).modOut j _ (by simp)).set _
    (.inr (by simp))

end

/-- A stream that a suspend stopped takes nothing until the host selects it again (R306). -/
theorem State.outPacket_held {j : Nat} {data : List Nat} (h : s.usb.held.testBit j = true) : s.outPacket j data = s := by
  rw [State.outPacket, State.event, h]
  simp

/-! ## USB_PACKET_MISSING (R297) -/

section
variable {j : Nat} (hl : s.usbLive = true) (hs : (s.usbOut j).started = true)
include hl hs

theorem State.outMissing_taken : s.outMissing j = (s.inc (F.USB_AS_COUNT_MISSED j)).modOut j (·.fill s.nominal) := by
  have hc : s.clocked .usb = true := (Bool.and_eq_true_iff.1 hl).2
  rw [State.outMissing, State.event_of _ _ hc (by rw [hl, hs]; rfl)]

theorem State.outMissing_count :
    (s.outMissing j).get (F.USB_AS_COUNT_MISSED j) = min (s.get (F.USB_AS_COUNT_MISSED j) + 1) 0xFFFF := by
  rw [s.outMissing_taken hl hs, State.modOut_get]
  exact State.get_inc_self _ (F.USB_AS_COUNT_MISSED j) (Fld.fits_of_ble rfl)

theorem State.outMissing_hold (hj : j < 2) : ((s.outMissing j).usbOut j).hold.length = (s.usbOut j).hold.length + s.nominal := by
  rw [s.outMissing_taken hl hs, State.usbOut_modOut _ hj, (UsbOut.fill_held _ _).1, State.usbOut, State.inc_usb, State.usbOut]

theorem State.outMissing_touches : Touches [.usb] [] [F.USB_AS_COUNT_MISSED j] s (s.outMissing j) := by
  rw [s.outMissing_taken hl hs]
  exact ((Touches.refl _ _ _ s).inc (.inr (by simp))).modOut j _ (by simp)

/-- The stream's status is another register. -/
theorem State.outMissing_status : (s.outMissing j).reg (A.USB_AS_STATUS j) = s.reg (A.USB_AS_STATUS j) := by
  refine (s.outMissing_touches hl hs).reg_eq List.not_mem_nil ?_
  simp only [List.mem_singleton, forall_eq, F.USB_AS_COUNT_MISSED, A.USB_AS_COUNT, A.USB_AS_STATUS]
  omega

end

/-! ## USB_STREAM_STOP (R297) -/

section
variable {j : Nat} (hs : (s.usbOut j).started = true)
include hs

theorem State.outStop_usbOut (hj : j < 2) : ((s.outStop j).usbOut j).started = false := by
  rw [s.outStop_started hs, State.usbOut, (State.ifaceLanesStop_touches _ j).1 .usb (by simp), State.set_usb, State.set_usb]
  exact congrArg UsbOut.started (s.usbOut_modOut hj _)

/-- The running lanes that the stream feeds ramp to zero and show it. -/
theorem State.outStop_fed {n : Nat} (hn : n < 48) (hr : (s.laneAt n).phase = .running) (hf : (s.laneAt n).fedBy j = true) :
    ((s.outStop j).laneAt n).event.up = false ∧ (s.outStop j).get (F.LANE_FLAGS_STOPPED n) = 1 := by
  rw [s.outStop_started hs]
  exact State.ifaceLanesStop_fed _ j hn hr hf

/-- Every other lane keeps its record. -/
theorem State.outStop_other {n : Nat} (hn : n < 48) (hf : (s.laneAt n).fedBy j = false) : (s.outStop j).laneAt n = s.laneAt n := by
  rw [s.outStop_started hs]
  exact State.ifaceLanesStop_other _ j hn hf

end

theorem Lane.fedBy_of_running {l : Lane} {j : Nat} (hr : l.phase = .running) (hd : l.dir = false) (h1 : 0x2C + 16 * j ≤ l.sid)
    (h2 : l.sid < 0x3C + 16 * j) : l.fedBy j = true := by
  rw [Lane.fedBy, hr, hd, decide_eq_true h1, decide_eq_true h2]
  rfl

theorem Lane.fedBy_of_outside {l : Lane} {j : Nat} (h : l.sid < 0x2C + 16 * j ∨ 0x3C + 16 * j ≤ l.sid) : l.fedBy j = false := by
  rw [Lane.fedBy, Bool.and_assoc, Bool.and_eq_false_iff]
  right
  rcases h with h | h
  · rw [decide_eq_false (Nat.not_le.2 h), Bool.false_and]
  · rw [decide_eq_false (Nat.not_lt.2 h), Bool.and_false]

/-! ## USB_IN_PACKET (R296) -/

/-- An input interface's stream. -/
def State.usbIn (s : State) (j : Nat) : UsbIn := vget s.usb.ins j ⟨Vector.replicate 16 [], [], [], []⟩

theorem subslotBytes_length (alt : Nat) (x : Int) : (subslotBytes (subslot alt) x).length = subslot alt := by
  unfold subslot
  split <;> rfl

/-- The bytes of an interval's frames, of `ch` channels each. -/
theorem frames_bytes_length (ch alt : Nat) (xs : List (List Int)) :
    (xs.flatMap (fun f => (List.range ch).flatMap (fun c => subslotBytes (subslot alt) (f.getD c 0)))).length =
      ch * subslot alt * xs.length := by
  simp only [List.length_flatMap, subslotBytes_length, List.map_const', List.length_range, List.sum_replicate_nat]
  exact Nat.mul_comm _ _

section
variable {j : Nat} (hl : s.usbLive = true) (ha : s.usbAlt (2 + j) ≠ 0) (hv : s.on F.USB_CLOCK_VALID = true)
  (hh : s.usb.held.testBit (2 + j) = false)
include hl ha hv hh

theorem State.inPacket_taken : s.inPacket j = (s.modIn j (fun d => { d with
    sent := d.prev.flatMap (fun f => (List.range (s.usbCh (2 + j))).flatMap (fun c =>
      subslotBytes (subslot (s.usbAlt (2 + j))) (f.getD c 0))), prev := [] })).set (F.USB_AS_STATUS_ACTIVE (2 + j)) 1 := by
  have hc : s.clocked .usb = true := (Bool.and_eq_true_iff.1 hl).2
  rw [State.inPacket, State.event_of _ _ hc (by rw [hl, hv, hh, decide_eq_true ha]; rfl)]

theorem State.inPacket_active : (s.inPacket j).on (F.USB_AS_STATUS_ACTIVE (2 + j)) = true := by
  rw [s.inPacket_taken hl ha hv hh]
  exact State.on_of_get_one _ (State.get_set_self _ (F.USB_AS_STATUS_ACTIVE (2 + j)) 1 (Fld.fits_of_ble rfl))

/-- The previous interval's frames go out whole, and none is left. -/
theorem State.inPacket_usbIn (hj : j < 2) : ((s.inPacket j).usbIn j).sent.length =
    s.usbCh (2 + j) * subslot (s.usbAlt (2 + j)) * (s.usbIn j).prev.length ∧ ((s.inPacket j).usbIn j).prev = [] := by
  rw [s.inPacket_taken hl ha hv hh, State.usbIn, State.set_usb, State.modIn, State.modUsb_usb, vget_vmod_self _ _ _ _ hj]
  exact ⟨frames_bytes_length _ _ _, rfl⟩

theorem State.inPacket_touches : Touches [.usb] [] [F.USB_AS_STATUS_ACTIVE (2 + j)] s (s.inPacket j) := by
  rw [s.inPacket_taken hl ha hv hh]
  exact ((Touches.refl _ _ _ s).modIn j _ (by simp)).set _ (.inr (by simp))

end

/-- Outside a freeze an IN endpoint answers as the function does. -/
theorem State.usbInEnd_thawed (f : State → State) (h : s.frozen = false) : s.usbInEnd f = f s := by
  rw [State.usbInEnd, h]
  rfl

/-! ## USB_FEEDBACK_IN (R24, R295) -/

/-- The nominal feedback value, 16.16 samples a bus interval. -/
def State.fbNominal (s : State) : Nat := (divRne (s.usbHz * 65536) s.busHz).toNat

/-- The most a feedback value moves from one report to the next (R24). -/
def State.fbStep (s : State) : Nat := s.fbNominal * 2 ^ s.get F.CLK_MAINS_CTRL_FB_P / 1000

/-- The value of the next feedback report. -/
def State.fbNext (s : State) (j : Nat) : Nat :=
  let last := s.get (F.USB_FB_VALUE j)
  let m := s.usb.fbCount.getD s.fbNominal
  if s.trkState 2 ≠ 2 then last else if last = 0 then m else max (last - s.fbStep) (min (last + s.fbStep) m)

/-- A word's bytes do not depend on what lies above its 32 bits. -/
theorem wordBytes_mod (v : Nat) : wordBytes (v % 2 ^ 32) = wordBytes v := by
  have h0 : v % 2 ^ 32 % 256 = v % 256 := by omega
  have h1 : v % 2 ^ 32 / 256 % 256 = v / 256 % 256 := by omega
  have h2 : v % 2 ^ 32 / 65536 % 256 = v / 65536 % 256 := by omega
  have h3 : v % 2 ^ 32 / 16777216 % 256 = v / 16777216 % 256 := by omega
  simp only [wordBytes, h0, h1, h2, h3]

/-- Out of LOCKED the last report again. -/
theorem State.fbNext_unlocked {j : Nat} (h : s.trkState 2 ≠ 2) : s.fbNext j = s.get (F.USB_FB_VALUE j) := if_pos h

/-- The first report in LOCKED is the measured value. -/
theorem State.fbNext_first {j : Nat} (h : s.trkState 2 = 2) (h0 : s.get (F.USB_FB_VALUE j) = 0) :
    s.fbNext j = s.usb.fbCount.getD s.fbNominal := by
  unfold State.fbNext
  dsimp only
  rw [if_neg (not_not.2 h), if_pos h0]

/-- A later one rises by at most a step. -/
theorem State.fbNext_le {j : Nat} (h : s.trkState 2 = 2) (h0 : s.get (F.USB_FB_VALUE j) ≠ 0) :
    s.fbNext j ≤ s.get (F.USB_FB_VALUE j) + s.fbStep := by
  unfold State.fbNext
  dsimp only
  rw [if_neg (not_not.2 h), if_neg h0]
  omega

section
variable {j : Nat} (hl : s.usbLive = true) (hm : s.usbAdaptive = false) (ha : s.usbAlt j ≠ 0)
include hl hm ha

theorem State.feedback_taken : s.feedback j = (s.set (F.USB_FB_VALUE j) (s.fbNext j)).usbReply (if s.on F.USB_STATE_HS then
    wordBytes (s.fbNext j) else (wordBytes (divRne (s.fbNext j) 4).toNat).take 3) := by
  have hc : s.clocked .usb = true := (Bool.and_eq_true_iff.1 hl).2
  have hne : (F.USB_FB_VALUE j).addr ≠ F.USB_STATE_HS.addr := by
    simp only [F.USB_FB_VALUE, F.USB_STATE_HS, A.USB_FB, A.USB_STATE]
    omega
  have hs : ∀ v, (s.set (F.USB_FB_VALUE j) v).on F.USB_STATE_HS = s.on F.USB_STATE_HS := fun v =>
    State.on_congr _ (State.get_set_ne _ _ (Fld.fits_of_ble rfl) (.inl hne))
  rw [State.feedback, State.event_of _ _ hc (by rw [hl, hm, decide_eq_true ha]; rfl)]
  dsimp only
  rw [hs]
  rfl

theorem State.feedback_value : (s.feedback j).get (F.USB_FB_VALUE j) = s.fbNext j % 2 ^ 32 := by
  rw [s.feedback_taken hl hm ha, State.usbReply, State.modUsb_get, State.get_set_self _ _ _ (Fld.fits_of_ble rfl)]
  rfl

/-- Four bytes at high speed, three at full. -/
theorem State.feedback_reply : (s.feedback j).usb.reply = if s.on F.USB_STATE_HS then wordBytes (s.fbNext j)
    else (wordBytes (divRne (s.fbNext j) 4).toNat).take 3 := by
  rw [s.feedback_taken hl hm ha]
  rfl

theorem State.feedback_reply_hs (h : s.on F.USB_STATE_HS = true) :
    (s.feedback j).usb.reply = wordBytes ((s.feedback j).get (F.USB_FB_VALUE j)) := by
  rw [s.feedback_reply hl hm ha, s.feedback_value hl hm ha, wordBytes_mod, if_pos h]

theorem State.feedback_reply_fs (h : s.on F.USB_STATE_HS = false) : (s.feedback j).usb.reply.length = 3 := by
  rw [s.feedback_reply hl hm ha, h]
  rfl

theorem State.feedback_unlocked (h : s.trkState 2 ≠ 2) : (s.feedback j).get (F.USB_FB_VALUE j) = s.get (F.USB_FB_VALUE j) := by
  rw [s.feedback_value hl hm ha, s.fbNext_unlocked h]
  exact Nat.mod_eq_of_lt (s.get_lt (F.USB_FB_VALUE j))

theorem State.feedback_first (h : s.trkState 2 = 2) (h0 : s.get (F.USB_FB_VALUE j) = 0) :
    (s.feedback j).get (F.USB_FB_VALUE j) = s.usb.fbCount.getD s.fbNominal % 2 ^ 32 := by
  rw [s.feedback_value hl hm ha, s.fbNext_first h h0]

theorem State.feedback_rise (h : s.trkState 2 = 2) (h0 : s.get (F.USB_FB_VALUE j) ≠ 0) :
    (s.feedback j).get (F.USB_FB_VALUE j) ≤ s.get (F.USB_FB_VALUE j) + s.fbStep := by
  rw [s.feedback_value hl hm ha]
  exact (Nat.mod_le _ _).trans (s.fbNext_le h h0)

theorem State.feedback_touches : Touches [.usb] [] [F.USB_FB_VALUE j] s (s.feedback j) := by
  rw [s.feedback_taken hl hm ha]
  exact ((Touches.refl _ _ _ s).set _ (.inr (by simp))).usbReply _ (by simp)

end

/-! ## wMaxPacketSize (R291) -/

theorem State.wMaxPacket_hs (i alt : Nat) (h : s.on F.USB_STATE_HS = true) :
    s.wMaxPacket i alt = maxPacketField true (packetBytes (s.usbCh i) (subslot alt) s.usbMaxHz 8000) := by
  rw [State.wMaxPacket, State.busHz, h]
  rfl

theorem maxPacketField_single {b : Nat} (h : b ≤ 1024) : maxPacketField true b = b := by
  rw [maxPacketField, decide_eq_false (Nat.not_lt.2 h)]
  rfl

/-- The field of n transactions of q bytes. -/
theorem transactions_field {n q : Nat} (hn : 0 < n) (hq : q < 2048) :
    ((n - 1) * 2048 + q) / 2048 + 1 = n ∧ ((n - 1) * 2048 + q) % 2048 = q := by
  omega

/-- Above 1,024 bytes: two or three equal transactions that hold the packet. -/
theorem maxPacketField_multiple {b : Nat} (h : 1024 < b) (h' : b ≤ 3072) :
    maxPacketField true b / 2048 + 1 = ceilDiv b 1024 ∧ maxPacketField true b % 2048 ≤ 1024 ∧
      b ≤ (maxPacketField true b / 2048 + 1) * (maxPacketField true b % 2048) := by
  have hn : ceilDiv b 1024 = 2 ∧ b ≤ 2048 ∨ ceilDiv b 1024 = 3 := by
    unfold ceilDiv
    omega
  have hq : 0 < ceilDiv b 1024 ∧ ceilDiv b (ceilDiv b 1024) ≤ 1024 ∧ b ≤ ceilDiv b 1024 * ceilDiv b (ceilDiv b 1024) := by
    rcases hn with ⟨hn, hb⟩ | hn
    all_goals
      rw [hn]
      unfold ceilDiv
      omega
  obtain ⟨h0, h1, h2⟩ := hq
  obtain ⟨hd, hr⟩ := transactions_field (q := ceilDiv b (ceilDiv b 1024)) h0 (by omega)
  have he : maxPacketField true b = (ceilDiv b 1024 - 1) * 2048 + ceilDiv b (ceilDiv b 1024) := by
    rw [maxPacketField, decide_eq_true h]
    rfl
  rw [he, hd, hr]
  exact ⟨rfl, h1, h2⟩

end Sys2Proof.Machine
end

section
/-! PROOFS. The USB start of frame (R20, R282, R296): an edge of tracker 0, the feedback measurement, and the end of a bus interval. -/

namespace Sys2Proof.Machine

variable (s : State)

/-! ## The three parts of a start of frame -/

/-- The count of missing starts of frame in a row. -/
def State.sofSeen (s : State) (missing : Bool) : State :=
  s.modUsb (fun u => { u with sofMiss := if missing then u.sofMiss + 1 else 0 })

/-- The tracker's part: an edge, or a stop where the second start of frame in a row is lost. -/
def State.sofTrack (s : State) (lost : Bool) (p : Nat) : State :=
  s.trkEvent 0 true (fun s => if lost then s.trkStop 0 else s.trkEdge 0 p)

/-- The measurement's part. -/
def State.sofMeasure (s : State) (lost : Bool) (p : Nat) : State :=
  if s.usbAdaptive ∨ s.trkState 2 ≠ 2 ∨ lost then s.modUsb (fun u => { u with fbSum := 0, fbN := 0 }) else s.fbMeasure p

/-- An output stream at the end of a bus interval. -/
def UsbOut.intervalEnd (o : UsbOut) : UsbOut :=
  { o with hold := [], mid := o.hold, ready := (o.ready ++ o.mid).reverse.take 1024 |>.reverse }

/-- The streams' part: a bus interval ends. -/
def State.intervalEnd (s : State) : State :=
  (s.forAll 2 (fun s j => s.modOut j UsbOut.intervalEnd)).forAll 2
    (fun s j => s.modIn j (fun d => { d with now := [], prev := d.now }))

/-- Does a start of frame count as the second one lost in a row? -/
def State.sofLost (s : State) (missing : Bool) : Bool := missing && decide (1 ≤ s.usb.sofMiss)

/-- The ticks of the interval: nominal for a predicted start of frame. -/
def State.sofTicks (s : State) (missing : Bool) (period : Nat) : Nat := if missing then trkTicks / s.busHz else period

theorem State.usbSof_live (missing : Bool) (period : Nat) (hl : s.usbLive = true) : s.usbSof missing period =
    (((s.sofSeen missing).sofTrack (s.sofLost missing) (s.sofTicks missing period)).sofMeasure (s.sofLost missing)
      (s.sofTicks missing period)).intervalEnd := by
  have hc : s.clocked .usb = true := (Bool.and_eq_true_iff.1 hl).2
  rw [State.usbSof, State.event_of _ _ hc hl]
  rfl

/-! ## The end of a bus interval -/

theorem State.intervalEnd_touches : Touches [.usb] [] [] s s.intervalEnd :=
  ((Touches.refl _ _ _ s).forAll 2 (fun _ k _ h => h.modOut k _ (by simp))).forAll 2 (fun _ k _ h => h.modIn k _ (by simp))

theorem State.intervalEnd_reg (a : Nat) : s.intervalEnd.reg a = s.reg a :=
  s.intervalEnd_touches.reg_eq List.not_mem_nil (List.forall_mem_nil _)

theorem State.intervalEnd_usbOut {j : Nat} (h : j < 2) : s.intervalEnd.usbOut j = (s.usbOut j).intervalEnd := by
  have hin : s.intervalEnd.usbOut j = (s.forAll 2 (fun s j => s.modOut j UsbOut.intervalEnd)).usbOut j :=
    State.forAll_keeps _ (fun t => t.usbOut j) 2 _ (fun _ _ => rfl)
  obtain ⟨t, ht, he⟩ := s.forAll_at (fun t k => t.usbOut k) (f := fun s j => s.modOut j UsbOut.intervalEnd)
    (fun t k n hne => vget_vmod_ne t.usb.outs _ _ hne) h
  rw [hin, he, State.usbOut_modOut _ h, ht]

/-- What the function counts of starts of frame and measures (R282). -/
def Usb.sofRecord (u : Usb) : Nat × Nat × Nat × Option Nat := (u.sofMiss, u.fbSum, u.fbN, u.fbCount)

theorem State.intervalEnd_record : s.intervalEnd.usb.sofRecord = s.usb.sofRecord := by
  have hout : (s.forAll 2 (fun s j => s.modOut j UsbOut.intervalEnd)).usb.sofRecord = s.usb.sofRecord :=
    s.forAll_keeps (fun t => t.usb.sofRecord) 2 _ (fun _ _ => rfl)
  have hin : s.intervalEnd.usb.sofRecord = (s.forAll 2 (fun s j => s.modOut j UsbOut.intervalEnd)).usb.sofRecord :=
    State.forAll_keeps _ (fun t => t.usb.sofRecord) 2 _ (fun _ _ => rfl)
  exact hin.trans hout

/-! ## The measurement -/

theorem State.sofMeasure_touches (lost : Bool) (p : Nat) : Touches [.usb] [] [] s (s.sofMeasure lost p) := by
  unfold State.sofMeasure State.fbMeasure
  dsimp only
  split
  · exact (Touches.refl _ _ _ s).modUsb _ (by simp)
  · split
    all_goals exact (Touches.refl _ _ _ s).modUsb _ (by simp)

theorem State.sofMeasure_reg (lost : Bool) (p a : Nat) : (s.sofMeasure lost p).reg a = s.reg a :=
  (s.sofMeasure_touches lost p).reg_eq List.not_mem_nil (List.forall_mem_nil _)

/-- It leaves the streams and the count of missing starts of frame. -/
theorem State.sofMeasure_keeps (lost : Bool) (p : Nat) :
    (s.sofMeasure lost p).usb.outs = s.usb.outs ∧ (s.sofMeasure lost p).usb.sofMiss = s.usb.sofMiss := by
  unfold State.sofMeasure State.fbMeasure
  dsimp only
  split
  · exact ⟨rfl, rfl⟩
  · split
    all_goals exact ⟨rfl, rfl⟩

theorem State.sofMeasure_locked {p : Nat} (ha : s.usbAdaptive = false) (ht : s.trkState 2 = 2) :
    s.sofMeasure false p = s.fbMeasure p := by
  unfold State.sofMeasure
  rw [if_neg (by simp [ha, ht])]

/-- An interval joins the running measurement. -/
theorem State.fbMeasure_running {p : Nat} (h : s.usb.fbN + 1 < 2 ^ s.get F.CLK_MAINS_CTRL_FB_P) :
    (s.fbMeasure p).usb.sofRecord = (s.usb.sofMiss, s.usb.fbSum + p, s.usb.fbN + 1, s.usb.fbCount) := by
  unfold State.fbMeasure
  dsimp only
  rw [if_pos h]
  rfl

/-- The last interval of a measurement gives the mean of an interval in 16.16. -/
theorem State.fbMeasure_done {p : Nat} (h : 2 ^ s.get F.CLK_MAINS_CTRL_FB_P ≤ s.usb.fbN + 1) :
    (s.fbMeasure p).usb.sofRecord = (s.usb.sofMiss, 0, 0,
      some (divRne ((s.usb.fbSum + p) * s.usbHz * 65536 : Nat) (trkTicks * (s.usb.fbN + 1))).toNat) := by
  unfold State.fbMeasure
  dsimp only
  rw [if_neg (Nat.not_lt.2 h)]
  push_cast
  rfl

/-! ## The tracker's part -/

/-- The registers a start of frame writes through tracker 0 (R281). -/
def sofFlds : List Fld :=
  [F.CLK_TRK_STATUS_GLITCH 0, F.CLK_TRK_COUNT_GLITCHES 0, F.CLK_TRK_STATUS_STOP 0, F.CLK_TRK_COUNT_STOPS 0] ++ trkFlds 0

theorem State.sofTrack_touches (lost : Bool) (p : Nat) :
    Touches [.trk, .lanes] ((List.range 48).map (· + 0x30)) sofFlds s (s.sofTrack lost p) := by
  have hf : trkFlds 0 ⊆ sofFlds := List.subset_append_right _ _
  refine (Touches.refl _ _ _ s).when _ (fun _ => ?_)
  split
  · exact (Touches.refl _ _ _ s).trkStop_zero hf (by simp) (List.Subset.refl _) (by simp [sofFlds]) (by simp [sofFlds])
  · exact (Touches.refl _ _ _ s).trkEdge_zero hf (by simp) (by simp) (List.Subset.refl _) p (by simp [sofFlds]) (by simp [sofFlds])

theorem State.sofTrack_usb (lost : Bool) (p : Nat) : (s.sofTrack lost p).usb = s.usb :=
  (s.sofTrack_touches lost p).1 .usb (by simp)

/-- It leaves the USB page. -/
theorem State.sofTrack_reg (lost : Bool) (p : Nat) {a : Nat} (h : a / 0x400 = 0x0A) : (s.sofTrack lost p).reg a = s.reg a := by
  have hp : ∀ f ∈ sofFlds, f.addr / 0x400 = 3 := by decide
  refine (s.sofTrack_touches lost p).reg_eq (not_mem_lanePages (by omega)) (fun f hf he => ?_)
  have := hp f hf
  rw [he] at this
  omega

/-- The feedback's period is none of the tracker's registers. -/
theorem State.sofTrack_fbP (lost : Bool) (p : Nat) : (s.sofTrack lost p).get F.CLK_MAINS_CTRL_FB_P = s.get F.CLK_MAINS_CTRL_FB_P :=
  (s.sofTrack_touches lost p).get_eq (not_mem_lanePages (by decide)) (by simp only [Fld.apart]; decide)

section
variable (hl : s.usbLive = true) (hf : s.frozen = false) (hm : s.clocked .mgmt = true)
include hl hf hm

/-- A live function's tracker takes the event outside a freeze. -/
theorem State.sofTrack_taken (lost : Bool) (p : Nat) : s.sofTrack lost p = if lost then s.trkStop 0 else s.trkEdge 0 p := by
  obtain ⟨hcs, hk⟩ := Bool.and_eq_true_iff.1 hl
  have hd : decide (s.domState ≤ 1) = true := (Bool.and_eq_true_iff.1 hk).1
  have hr : s.trkRuns 0 = true := by
    rw [State.trkRuns, hd, if_pos rfl, (Bool.and_eq_true_iff.1 hcs).1]
    rfl
  rw [State.sofTrack, State.trkEvent, hr, hf, hm]
  rfl

end

/-! ## USB_SOF -/

section
variable {missing : Bool} {period : Nat} (hl : s.usbLive = true)
include hl

/-- The registers show the tracker's part alone. -/
theorem State.usbSof_reg (a : Nat) : (s.usbSof missing period).reg a =
    ((s.sofSeen missing).sofTrack (s.sofLost missing) (s.sofTicks missing period)).reg a := by
  rw [s.usbSof_live _ _ hl, State.intervalEnd_reg, State.sofMeasure_reg]

theorem State.usbSof_get (f : Fld) : (s.usbSof missing period).get f =
    ((s.sofSeen missing).sofTrack (s.sofLost missing) (s.sofTicks missing period)).get f := by
  rw [State.get, s.usbSof_reg hl, State.get]

theorem State.usbSof_trkState (dom : Nat) : (s.usbSof missing period).trkState dom =
    ((s.sofSeen missing).sofTrack (s.sofLost missing) (s.sofTicks missing period)).trkState dom := s.usbSof_get hl _

theorem State.usbSof_state : (s.usbSof missing period).reg A.USB_STATE = s.reg A.USB_STATE := by
  rw [s.usbSof_reg hl, State.sofTrack_reg _ _ _ (by decide)]
  rfl

/-- Both output streams end their interval. -/
theorem State.usbSof_usbOut {j : Nat} (hj : j < 2) : (s.usbSof missing period).usbOut j = (s.usbOut j).intervalEnd := by
  rw [s.usbSof_live _ _ hl, State.intervalEnd_usbOut _ hj, State.usbOut, (State.sofMeasure_keeps _ _ _).1, State.sofTrack_usb]
  rfl

theorem State.usbSof_sofMiss : (s.usbSof missing period).usb.sofMiss = if missing then s.usb.sofMiss + 1 else 0 := by
  have hr := congrArg Prod.fst (State.intervalEnd_record (((s.sofSeen missing).sofTrack (s.sofLost missing)
    (s.sofTicks missing period)).sofMeasure (s.sofLost missing) (s.sofTicks missing period)))
  rw [s.usbSof_live _ _ hl]
  refine hr.trans ((State.sofMeasure_keeps _ _ _).2.trans ?_)
  rw [State.sofTrack_usb]
  rfl

theorem State.usbSof_touches : Touches [.usb, .trk, .lanes] ((List.range 48).map (· + 0x30)) sofFlds s (s.usbSof missing period) := by
  have h1 : Touches [.usb, .trk, .lanes] ((List.range 48).map (· + 0x30)) sofFlds s (s.sofSeen missing) :=
    (Touches.refl _ _ _ s).modUsb _ (by simp)
  rw [s.usbSof_live _ _ hl]
  exact ((h1.trans ((State.sofTrack_touches _ _ _).mono (by simp) (List.Subset.refl _) (List.Subset.refl _))).trans
    ((State.sofMeasure_touches _ _ _).mono (by simp) (List.nil_subset _) (List.nil_subset _))).trans
    ((State.intervalEnd_touches _).mono (by simp) (List.nil_subset _) (List.nil_subset _))

section
variable (hf : s.frozen = false) (hm : s.clocked .mgmt = true)
include hf hm

/-- A recovered start of frame ends UNLOCKED. -/
theorem State.usbSof_unlocked (h : s.trkState 2 = 0) : (s.usbSof false period).trkState 2 = 1 := by
  have ht : (s.sofSeen false).sofTrack false period = (s.sofSeen false).trkAcquire 0 :=
    ((s.sofSeen false).sofTrack_taken hl hf hm false period).trans ((s.sofSeen false).trkEdge_zero_unlocked period h)
  rw [s.usbSof_trkState hl]
  exact (congrArg (fun t => State.trkState t 2) ht).trans (State.trkAcquire_zero_state _)

/-- The second one lost in a row stops a locked tracker. -/
theorem State.usbSof_lost (hn : 1 ≤ s.usb.sofMiss) (h : s.trkState 2 = 2) : (s.usbSof true period).trkState 2 = 3 ∧
    (s.usbSof true period).get (F.CLK_TRK_COUNT_STOPS 0) = min (s.get (F.CLK_TRK_COUNT_STOPS 0) + 1) 0xFFFF := by
  have hlost : s.sofLost true = true := by
    rw [State.sofLost, decide_eq_true hn]
    rfl
  have ht : (s.sofSeen true).sofTrack true (s.sofTicks true period) = (s.sofSeen true).trkStop 0 :=
    (s.sofSeen true).sofTrack_taken hl hf hm true _
  rw [s.usbSof_trkState hl, s.usbSof_get hl, hlost, ht]
  exact (s.sofSeen true).trkStop_zero_locked h

end

section
variable (ha : s.usbAdaptive = false) (ht : (s.usbSof false period).trkState 2 = 2)
include ha ht

/-- With the tracker locked, a recovered start of frame is measured in the asynchronous mode. -/
theorem State.usbSof_measured : (s.usbSof false period).usb.sofRecord =
    (((s.sofSeen false).sofTrack false period).fbMeasure period).usb.sofRecord := by
  rw [s.usbSof_trkState hl] at ht
  have hadp : ((s.sofSeen false).sofTrack false period).usbAdaptive = false := by
    rw [State.usbAdaptive, State.on, State.get, State.sofTrack_reg _ _ _ (by decide)]
    exact ha
  have hk : ((s.sofSeen false).sofTrack false period).sofMeasure false period = _ := State.sofMeasure_locked _ hadp ht
  rw [s.usbSof_live _ _ hl, State.intervalEnd_record]
  exact congrArg (fun t => t.usb.sofRecord) hk

theorem State.usbSof_joins (h : s.usb.fbN + 1 < 2 ^ s.get F.CLK_MAINS_CTRL_FB_P) :
    (s.usbSof false period).usb.fbSum = s.usb.fbSum + period ∧ (s.usbSof false period).usb.fbN = s.usb.fbN + 1 ∧
      (s.usbSof false period).usb.fbCount = s.usb.fbCount := by
  have hu := (s.sofSeen false).sofTrack_usb false period
  have hp := (s.sofSeen false).sofTrack_fbP false period
  have hr := (s.usbSof_measured hl ha ht).trans (State.fbMeasure_running _ (by rw [hu, hp]; exact h))
  rw [hu] at hr
  simp only [Usb.sofRecord, Prod.mk.injEq] at hr
  exact hr.2

theorem State.usbSof_completes (h : 2 ^ s.get F.CLK_MAINS_CTRL_FB_P ≤ s.usb.fbN + 1) :
    (s.usbSof false period).usb.fbCount = some (divRne ((s.usb.fbSum + period) * s.usbHz * 65536 : Nat)
      (196608000 * (s.usb.fbN + 1))).toNat ∧ (s.usbSof false period).usb.fbN = 0 := by
  have hu := (s.sofSeen false).sofTrack_usb false period
  have hp := (s.sofSeen false).sofTrack_fbP false period
  have hz : ((s.sofSeen false).sofTrack false period).usbHz = s.usbHz := by
    rw [State.usbHz, State.get, State.sofTrack_reg _ _ _ (by decide)]
    rfl
  have hr := (s.usbSof_measured hl ha ht).trans (State.fbMeasure_done _ (by rw [hu, hp]; exact h))
  rw [hu, hz] at hr
  simp only [Usb.sofRecord, Prod.mk.injEq] at hr
  obtain ⟨-, -, hn, hc⟩ := hr
  exact ⟨hc, hn⟩

end

end

end Sys2Proof.Machine
end

section
/-! PROOFS. O36: the USB audio streams, clause by clause from the requests', the packets' and the start of frame's lemmas. -/

namespace Sys2Proof.Machine

section
variable (s : State) {i alt : Nat} (hc : s.clocked .usb = true) (h1 : s.on F.USB_STATE_CONNECTED = true)
  (h2 : s.on F.USB_STATE_CONFIGURED = true) (ha : alt ≤ 2)
  (hf : s.usbFits (fun k => if k = i then alt else s.usbAlt k) s.usbHz = true)
include hc h1 h2 ha hf

/-- The registers show the stop and the setting. -/
theorem State.setInterface_get (f : Fld) : (s.setInterface i alt).get f = ((s.altStop i).setAlt i alt).get f := by
  rw [s.setInterface_taken hc h1 h2 ha hf, State.usbReply, State.modUsb_get, State.modUsb_get]

/-- What an accepted alternate setting leaves: the setting with its SUBSLOT3, no STALL, and ACTIVE of a stream not yet started. -/
theorem State.setInterface_accepted (hi : i < 4) :
    (s.setInterface i alt).usbAlt i = alt ∧ (s.setInterface i alt).usb.stall = false ∧
      (s.setInterface i alt).on (F.USB_AS_STATUS_SUBSLOT3 i) = decide (alt = 2) ∧
      (s.setInterface i alt).on (F.USB_AS_STATUS_ACTIVE i) =
        (s.on (F.USB_AS_STATUS_ACTIVE i) && decide (i < 2) && !(s.usbOut i).started) := by
  have hget := s.setInterface_get hc h1 h2 ha hf
  refine ⟨(hget _).trans ((s.altStop i).setAlt_usbAlt hi (by omega)), ?_, (State.on_congr _ (hget _)).trans (State.setAlt_subslot _),
    (State.on_congr _ (hget _)).trans ((State.setAlt_active _).trans (s.altStop_active i))⟩
  rw [s.setInterface_taken hc h1 h2 ha hf]
  rfl

/-- A changed alternate setting raises its interrupt. -/
theorem State.setInterface_irq (hne : alt ≠ s.usbAlt i) : (s.setInterface i alt).on (F.PG_IRQ 0x0A 7) = true := by
  have hk : (s.altStop i).usbAlt i ≠ alt := s.altStop_usbAlt i i ▸ hne.symm
  exact (State.on_congr _ (s.setInterface_get hc h1 h2 ha hf _)).trans ((s.altStop i).setAlt_irq hk)

end

/-- What an accepted sampling frequency leaves: the rate, valid, its interrupt, and for a new one its count and the tracker. -/
theorem State.setFreq_accepted (s : State) {hz : Nat} (hc : s.clocked .usb = true) (h1 : s.on F.USB_STATE_CONNECTED = true)
    (h2 : s.on F.USB_STATE_CONFIGURED = true) (h : rateHz (rateCode hz) = hz) (ho : s.usbOffers (rateCode hz) = true)
    (hf : s.usbFits s.usbAlt hz = true) :
    (s.setFreq hz).usb.stall = false ∧ (s.setFreq hz).get F.USB_CLOCK_RATE = rateCode hz ∧
      (s.setFreq hz).on F.USB_CLOCK_VALID = true ∧ (s.setFreq hz).on (F.PG_IRQ 0x0A 8) = true ∧
      (rateCode hz ≠ s.get F.USB_CLOCK_RATE →
        (s.setFreq hz).get F.USB_CLOCK_HOST_SET = min (s.get F.USB_CLOCK_HOST_SET + 1) 0xFFFF ∧
          (s.trkState 2 = 2 → (s.setFreq hz).trkState 2 = 1)) ∧
      (rateCode hz = s.get F.USB_CLOCK_RATE → (s.setFreq hz).get F.USB_CLOCK_HOST_SET = s.get F.USB_CLOCK_HOST_SET) := by
  have hcode : rateCode hz < 16 := by
    simp only [State.usbOffers, Bool.and_eq_true, decide_eq_true_eq] at ho
    omega
  have hstall : (s.freqSet (rateCode hz)).usb.stall = false := rfl
  have hrate := s.freqSet_rate hcode
  have hvalid := s.freqSet_valid (rateCode hz)
  have hirq := s.freqSet_irq (rateCode hz)
  rw [s.setFreq_taken hc h1 h2 h ho hf]
  by_cases hn : rateCode hz = s.get F.USB_CLOCK_RATE
  · rw [decide_eq_false (not_not.2 hn), State.when_false]
    exact ⟨hstall, hrate, hvalid, hirq, fun hne => absurd hn hne, fun _ => s.freqSet_hostSet _⟩
  · rw [decide_eq_true hn, State.when_true]
    refine ⟨by rw [State.freqChanged_usb, hstall], ?_, ?_, ?_, fun _ => ⟨?_, fun ht => ?_⟩, fun he => absurd he hn⟩
    · rw [State.freqChanged_get _ (by decide) (.inr (.inl (by decide))), hrate]
    · rw [State.on_congr _ (State.freqChanged_get _ (by decide) (.inr (.inl (by decide)))), hvalid]
    · rw [State.on_congr _ (State.freqChanged_get _ (by decide) (.inl (by decide))), hirq]
    · rw [State.freqChanged_hostSet, s.freqSet_hostSet]
    · exact State.freqChanged_trkState _ ((s.freqSet_trkState _).trans ht)

/-- What a feature unit's write leaves. -/
theorem State.fuSet_accepted (s : State) {i : Nat} {isMute : Bool} {v : Int} (hc : s.clocked .usb = true)
    (h1 : s.on F.USB_STATE_CONNECTED = true) (h2 : s.on F.USB_STATE_CONFIGURED = true) :
    (s.fuSet i isMute v).reg (A.USB_FU i) = (s.fuHeld i isMute v).reg (A.USB_FU i) ∧
      ((s.fuSet i isMute v).reg (A.USB_FU i) ≠ s.reg (A.USB_FU i) → (s.fuSet i isMute v).on (F.PG_IRQ 0x0A 9) = true) ∧
      (s.fuSet i isMute v).usb.stall = false ∧
      Touches [.usb] [] [F.USB_FU_MUTE i, F.USB_FU_VOL i, F.PG_IRQ 0x0A 9] s (s.fuSet i isMute v) := by
  have hr := s.fuFollow_reg (s.fuHeld i isMute v) i
  rw [s.fuSet_taken hc h1 h2]
  refine ⟨hr, fun hne => s.fuFollow_irq (t := s.fuHeld i isMute v) (fun he => hne (hr.trans he)), rfl, ?_⟩
  exact (((s.fuHeld_touches i isMute v).mono (List.nil_subset _) (List.nil_subset _) (by simp)).trans
    ((s.fuFollow_touches _ i).mono (List.Subset.refl _) (List.nil_subset _) (by simp))).usbReply _ (by simp)

/-- A mute is held beside the volume, a volume clamped beside the mute. -/
theorem State.fuSet_fields (s : State) {i : Nat} {isMute : Bool} {v : Int} (hc : s.clocked .usb = true)
    (h1 : s.on F.USB_STATE_CONNECTED = true) (h2 : s.on F.USB_STATE_CONFIGURED = true) :
    (isMute = true → (s.fuSet i isMute v).on (F.USB_FU_MUTE i) = decide (v ≠ 0) ∧
        (s.fuSet i isMute v).get (F.USB_FU_VOL i) = s.get (F.USB_FU_VOL i)) ∧
      (isMute = false → signed 16 ((s.fuSet i isMute v).get (F.USB_FU_VOL i)) = max (-24576) (min 0 v) ∧
        (s.fuSet i isMute v).on (F.USB_FU_MUTE i) = s.on (F.USB_FU_MUTE i)) := by
  obtain ⟨hr, -⟩ := s.fuSet_accepted (i := i) (isMute := isMute) (v := v) hc h1 h2
  have hm : (s.fuSet i isMute v).get (F.USB_FU_MUTE i) = (s.fuHeld i isMute v).get (F.USB_FU_MUTE i) := congrArg (bits · 16 1) hr
  have hv : (s.fuSet i isMute v).get (F.USB_FU_VOL i) = (s.fuHeld i isMute v).get (F.USB_FU_VOL i) := congrArg (bits · 0 16) hr
  rw [State.on_congr _ hm, hv]
  cases isMute
  · exact ⟨fun h => absurd h Bool.false_ne_true, fun _ => s.fuHeld_vol i v⟩
  · exact ⟨fun _ => s.fuHeld_mute i v, fun h => absurd h.symm Bool.false_ne_true⟩

/-! ## Outside a freeze the packets' commands are the function's -/

section
variable {s : State} (hf : s.frozen = false) (j : Fin 2)
include hf

theorem yields_outPacket (data : List Nat) : Yields (.usbOutPacket j data) s (s.outPacket j data) := by
  have he : exec (.usbOutPacket j data) s = .next (settle (s.when (!s.frozen) (·.outPacket j data))) := rfl
  rw [Yields, he, hf, Bool.not_false, State.when_true]

theorem yields_outPacket_held {data : List Nat} (hh : s.usb.held.testBit j = true) : Yields (.usbOutPacket j data) s s := by
  have hy := yields_outPacket hf j data
  rwa [s.outPacket_held hh] at hy

theorem yields_outMissing : Yields (.usbPacketMissing j) s (s.outMissing j) := by
  have he : exec (.usbPacketMissing j) s = .next (settle (s.when (!s.frozen) (·.outMissing j))) := rfl
  rw [Yields, he, hf, Bool.not_false, State.when_true]

theorem yields_outStop (hc : s.clocked .usb = true) : Yields (.usbStreamStop j) s (s.outStop j) := by
  have he : exec (.usbStreamStop j) s = .next (settle (s.event .usb (!s.frozen) (·.outStop j))) := rfl
  rw [Yields, he, State.event_of _ _ hc (by rw [hf]; rfl)]

theorem yields_inPacket : Yields (.usbInPacket j) s (s.inPacket j) := by
  have he : exec (.usbInPacket j) s = .next (settle (s.usbInEnd (·.inPacket j))) := rfl
  rw [Yields, he, s.usbInEnd_thawed _ hf]

theorem yields_feedback : Yields (.usbFeedbackIn j) s (s.feedback j) := by
  have he : exec (.usbFeedbackIn j) s = .next (settle (s.usbInEnd (·.feedback j))) := rfl
  rw [Yields, he, s.usbInEnd_thawed _ hf]

end

/-- Settles O36: each command's clause is the matching lemma about what the command does to the function, its tracker or its lanes. -/
theorem usbStreams : Obligations.UsbStreams := by
  unfold Obligations.UsbStreams
  refine ⟨fun i alt s hc h1 h2 => ⟨s.setInterface i alt, rfl, fun ha hf => s.setInterface_accepted hc h1 h2 ha hf i.isLt,
      fun ha hf => ?refused, fun ha => ?beyond, fun ha hne hf => s.setInterface_irq hc h1 h2 ha hf hne,
      s.setInterface_touches hc h1 h2 i.isLt⟩,
    fun hz s hc h1 h2 => ⟨s.setFreq hz, rfl, fun h => ?freqStalled, s.setFreq_accepted hc h1 h2, fun h ho hf => ?freqRefused,
      s.setFreq_touches hc h1 h2⟩,
    fun i isMute v s hc h1 h2 => ⟨s.fuSet i isMute v, rfl, (s.fuSet_fields hc h1 h2).1, (s.fuSet_fields hc h1 h2).2,
      (s.fuSet_accepted hc h1 h2).2⟩,
    fun j data s hf hl ha hv hch hh => ?outPacket,
    fun j data s hf hh => ⟨s, yields_outPacket_held hf j hh, rfl, Touches.refl _ _ _ s⟩,
    fun j s hf hl hs => ⟨s.outMissing j, yields_outMissing hf j, s.outMissing_count hl hs, s.outMissing_hold hl hs j.isLt,
      s.outMissing_status hl hs, s.outMissing_touches hl hs⟩,
    fun j s hc hf hs => ?streamStop,
    fun j s hf hl ha hv hh => ⟨s.inPacket j, yields_inPacket hf j, s.inPacket_active hl ha hv hh,
      (s.inPacket_usbIn hl ha hv hh j.isLt).1, (s.inPacket_usbIn hl ha hv hh j.isLt).2, s.inPacket_touches hl ha hv hh⟩,
    fun j s hf hl hm ha => ⟨s.feedback j, yields_feedback hf j, s.feedback_unlocked hl hm ha, s.feedback_reply_hs hl hm ha,
      s.feedback_reply_fs hl hm ha, s.feedback_first hl hm ha, fun h h0 _ => s.feedback_rise hl hm ha h h0,
      s.feedback_touches hl hm ha⟩,
    fun s i alt hs => ?maxPacket,
    fun missing period s hl => ?sof⟩
  case refused =>
    rw [s.setInterface_refused hc h1 h2 ha hf]
    exact ⟨rfl, s.bwRefused_flag, s.bwRefused_irq, s.bwRefused_reg (by decide) (by decide), s.bwRefused_touches.1 .lanes (by simp)⟩
  case beyond =>
    rw [s.setInterface_beyond hc h1 h2 ha]
    exact ⟨rfl, rfl⟩
  case freqStalled =>
    rw [s.setFreq_stalled hc h1 h2 h]
    exact ⟨rfl, rfl, rfl⟩
  case freqRefused =>
    rw [s.setFreq_refused hc h1 h2 h ho hf]
    exact ⟨rfl, s.bwRefused_reg (by decide) (by decide), s.bwRefused_flag⟩
  case outPacket =>
    have hb : 0 < s.frameBytes j := Nat.mul_pos hch (subslot_pos _)
    refine ⟨s.outPacket j data, yields_outPacket hf j data, s.outPacket_active hl ha hv hh, ?_,
      fun h => s.outPacket_whole hl ha hv hh j.isLt hb h.1 h.2, fun h => s.outPacket_odd hl ha hv hh hb h,
      s.outPacket_touches hl ha hv hh⟩
    rw [s.outPacket_usbOut hl ha hv hh j.isLt]
    exact s.packetTaken_started _ _ _
  case streamStop =>
    refine ⟨s.outStop j, yields_outStop hf j hc, s.outStop_usbOut hs j.isLt, ?_, (s.outStop_status j.isLt hs).2, ?_,
      fun n hn ⟨hr, hd, hlo, hhi⟩ => s.outStop_fed hs hn hr (Lane.fedBy_of_running hr hd hlo hhi),
      fun n hn h => s.outStop_other hs hn (Lane.fedBy_of_outside h), s.outStop_touches j⟩
    · rw [State.on, (s.outStop_status j.isLt hs).1]
      rfl
    · have ht := s.altStop_usbAlt j j
      rwa [State.altStop, if_pos j.isLt] at ht
  case maxPacket =>
    simp only [s.wMaxPacket_hs _ _ hs]
    exact ⟨maxPacketField_single, maxPacketField_multiple, fun hch hmax => by rw [hch, hmax]; decide⟩
  case sof =>
    refine ⟨s.usbSof missing period, rfl, fun j hj => ?_, ?_, s.usbSof_sofMiss hl, ?_, ?_, ?_, s.usbSof_state hl, s.usbSof_touches hl⟩
    · rw [s.usbSof_usbOut hl hj]
      exact ⟨rfl, rfl⟩
    · rintro rfl hf h0 hm
      exact s.usbSof_unlocked hl hf hm h0
    · rintro rfl hn hf hm h2
      exact s.usbSof_lost hl hf hm hn h2
    · rintro rfl ha ht hn
      exact s.usbSof_joins hl ha ht hn
    · rintro rfl ha ht hn
      exact s.usbSof_completes hl ha ht hn

end Sys2Proof.Machine
end

section
/-! PROOFS. O27 and O32 do not hold: an engine frame can end the engine's run before it is counted (R275), and a tracker's window can
push a lane out whose waiting commit then clears poison (R182, R193). -/

namespace Sys2Proof.Machine

variable {s u v : State}

/-- A command's answer fixes its successor up to `settle`. -/
theorem Yields.settle_eq {c : Instr} (hu : Yields c s u) (hv : Yields c s v) : settle u = settle v :=
  Host.Outcome.next.inj (Eq.trans (Eq.symm hu) hv)

/-! ## An engine frame that stops the engine -/

theorem yields_engineFrame (inputs : List (Nat × Int)) (residues : List (Nat × Nat × Bool)) (hc : s.clocked .engine = true) :
    Yields (.engineFrame inputs residues) s (s.engineFrame inputs residues) := by
  simp only [Yields, exec_engineFrame, execEngineFrame, State.event, hc, Bool.and_self, State.when_true]

/-- No PLL's status and not SYS_SCRATCH: CHN_FRAME_NOW is the same before and after `settle`. -/
theorem settle_frameNow (s : State) : (settle s).get F.CHN_FRAME_NOW_FRAME = s.get F.CHN_FRAME_NOW_FRAME :=
  settle_get_ne s (by decide) (by decide)

/-- A planned takeover of the running engine's own family, hence a muted one (R275), in the last frame of its RAMP. -/
def mutedRampEnd : State :=
  let s := ((State.reset.pllState 0 2).tkoBegin 0 false).tkoLocked 500
  { s with tko := { s.tko with left := 1 } }

theorem mutedRampEnd_runs : mutedRampEnd.clocked .engine = true ∧ mutedRampEnd.engRuns = true := by decide +kernel

/-- The frame opens the muted window: the engine stops at its boundary (R275 step 3), and CHN_FRAME_NOW does not count. -/
theorem mutedRampEnd_frame : mutedRampEnd.get F.CHN_FRAME_NOW_FRAME = 0 ∧
    (mutedRampEnd.engineFrame [] []).get F.CHN_FRAME_NOW_FRAME = 0 := by decide +kernel

/-- Refutes O27: the engine runs when the frame begins, but the frame ends a muted takeover's RAMP (`mutedRampEnd`), so the engine
stops in it and CHN_FRAME_NOW stays at 0, where the statement wants 1. -/
theorem not_engineFrame : ¬ Obligations.EngineFrame := by
  unfold Obligations.EngineFrame
  rintro ⟨running, -, -⟩
  obtain ⟨hc, hr⟩ := mutedRampEnd_runs
  obtain ⟨h0, h1⟩ := mutedRampEnd_frame
  obtain ⟨u, hy, hcount, -⟩ := running [] [] mutedRampEnd hc hr
  have hstay : u.get F.CHN_FRAME_NOW_FRAME = 0 := by
    rw [← settle_frameNow u, hy.settle_eq (yields_engineFrame [] [] hc), settle_frameNow, h1]
  rw [hcount, h0] at hstay
  exact absurd hstay (by decide)

/-! ## A tracker's window that pushes a lane out -/

/-- Outside a freeze, a window's end of a tracked endpoint is the tracker's alone but for S/PDIF's, which the transmitter follows. -/
theorem yields_trackerWindowEnd {t : Fin 10} (ht : t.val ≠ 1) (hr : s.trkRuns t = true) (hf : s.frozen = false)
    (hm : s.clocked .mgmt = true) : Yields (.trackerWindowEnd t) s (s.trkWindow t) := by
  have he : (s.trkRuns t && !s.frozen && s.clocked .mgmt && true) = true := by rw [hr, hf, hm]; rfl
  rw [Yields, exec_trackerWindowEnd, execTrackerWindowEnd, State.trkEvent, he, State.when_true, decide_eq_false ht, State.when_false]

/-- A running lane fed by slot 0 of the slave port SAP0 at 384 kHz; its COMMIT waits for the next frame boundary (R182). -/
def committingLane : Lane :=
  { Lane.init with
    phase := .running, sid := 0x4C, kind := .tracked, dom := 4, hz := 384000, commit := .atFrame
    eff := { Lane.init.eff with src := 0x4C#32 } }

/-- Fe is 48 kHz; SAP0 is on and its tracker is LOCKED at 384 kHz. The 769 frames of its window are one tick short, so their mean lies
just above 8 Fe. At 8 Fe the 18 lanes that run cost 9,432 MAC of OP0's 9,830, above it 10,584 (R192, R193). Lane 0's active set holds
a poisoned word, of a stage that is not enabled. -/
def crowdedWindow : State :=
  let s := (State.reset.setReg (F.PG_ENABLE 0x21).addr 1#32).setReg (A.CLK_TRK_STATUS 2) 2#32
  let s := (s.setReg (A.CLK_TRK_RATE 2) 38400000#32).modTrk 2 (fun k => { k with
    nomHz := 384000, lockRate := 38400000, locked := true, sum := 769 * 512 - 1, frames := 769 })
  { s with
    lanes := Vector.ofFn (fun n => if n.val < 18 then committingLane else Lane.init)
    poison := [(24 * 16384 + 20, ⟨.coefAct, 20⟩)] }

theorem crowdedWindow_tracked : crowdedWindow.trkRuns 2 = true ∧ crowdedWindow.frozen = false ∧ crowdedWindow.clocked .mgmt = true := by
  decide +kernel

theorem crowdedWindow_measured : (crowdedWindow.trkAt 2).windowDone = true ∧ crowdedWindow.trkMean 2 = 38400098 := by
  decide +kernel

/-- Lane 0 leaves the engine; it no longer runs, so its commit is copied at once, and the copy writes the poisoned word. -/
theorem crowdedWindow_cleansed : (crowdedWindow.trkWindow 2).poison = [] := by decide +kernel

/-- Refutes O32: the frame of TRACKER_WINDOW_END leaves out the poisoned items. In `crowdedWindow` the new rate raises the lanes' cost
beyond the capacity, lane 0 is pushed out, and its waiting commit clears the poison of its active set. -/
theorem not_trackers : ¬ Obligations.Trackers := by
  unfold Obligations.Trackers
  rintro ⟨-, windowEnd, -⟩
  obtain ⟨hr, hf, hm⟩ := crowdedWindow_tracked
  obtain ⟨hd, hmean⟩ := crowdedWindow_measured
  obtain ⟨u, hy, -, -, -, -, -, -, -, -, -, htouch⟩ :=
    windowEnd 2 38400098 crowdedWindow hr hf hm hd hmean.symm (by decide)
  have hkept : u.poison = crowdedWindow.poison := htouch.1 .poison (by decide)
  have hcleansed : u.poison = [] := by
    rw [← settle_poison u, hy.settle_eq (yields_trackerWindowEnd (by decide) hr hf hm), settle_poison]
    exact crowdedWindow_cleansed
  rw [hcleansed] at hkept
  exact List.cons_ne_nil _ _ hkept.symm

end Sys2Proof.Machine
end

section
/-! PROOFS. O54 does not hold: the frame of RESUME with FREEZE low leaves out the SRAM. -/

namespace Sys2Proof.Machine

/-- A resume is the write of DBG_FREEZE with RESUME, the ball's level beside it. -/
theorem yields_dbgFreezeResume {s : State} {ini : Fin 5} {level : Bool} {us : Nat} {w : Word} :
    Yields (.dbgFreezeResume ini level us w) s
      (s.writeOne (some ⟨level, us, (0, 0, 0), 0⟩) ini A.DBG_FREEZE (w ||| 0x2#32)) := rfl

/-- Frozen in IDLE with the management island kept (R462). MB12 holds one word of the voice history (R329), and a privacy assertion
was latched in the freeze (R333). -/
def frozenPrivacy : State :=
  let s := ((State.reset.set F.DBG_FREEZE_STATUS_STATE 2).set F.DBG_FREEZE_STATUS_PRIV_LATCHED 1).set F.DBG_FREEZE_KEEP_MGMT 1
  { s with domState := 1, keptMgmt := true, pins := { s.pins with privacy := true }, sram := [(sramAddr 12 0, 5#32)] }

/-- RESUME with KEEP_MGMT. -/
def resumeWord : Word := 8#32

theorem frozenPrivacy_mayResume :
    frozenPrivacy.mayWrite 0 A.DBG_FREEZE (resumeWord ||| 0x2#32) = true ∧ bits resumeWord 0 1 = 0 ∧
      frozenPrivacy.frozen = true := by decide +kernel

/-- The latched assertion takes hold at the resume and wipes the history. -/
theorem frozenPrivacy_historyWiped :
    (frozenPrivacy.writeOne (some ⟨false, 0, (0, 0, 0), 0⟩) 0 A.DBG_FREEZE (resumeWord ||| 0x2#32)).sram = [] := by
  decide +kernel

/-- Refutes O54: the frame of RESUME with FREEZE low leaves out the SRAM. In `frozenPrivacy` the privacy assertion latched in the
freeze takes hold at the resume, and it zeroes the voice history, which held a word. -/
theorem not_privacyAndFreeze : ¬ Obligations.PrivacyAndFreeze := by
  unfold Obligations.PrivacyAndFreeze
  rintro ⟨-, -, -, -, -, -, -, -, -, -, -, resume, -⟩
  obtain ⟨hmay, hbit, hfrozen⟩ := frozenPrivacy_mayResume
  obtain ⟨u, hy, -, -, -, -, -, -, -, -, -, -, htouch⟩ := resume 0 false 0 resumeWord frozenPrivacy hmay hbit hfrozen rfl
  have hkept : u.sram = frozenPrivacy.sram := htouch.1 .sram (by decide)
  have hwiped : u.sram = [] := by
    rw [← settle_sram u, hy.settle_eq yields_dbgFreezeResume, settle_sram]
    exact frozenPrivacy_historyWiped
  rw [hwiped] at hkept
  exact List.cons_ne_nil _ _ hkept.symm

end Sys2Proof.Machine
end

section
/-! PROOFS. O59 does not hold: the cold start rewrites the regulator link's record (R480 step B2), which its frame leaves out. -/

namespace Sys2Proof.Machine

/-! ## What leaves the regulator link's record alone -/

section
variable {s : State}

theorem State.modSns_pmb (f : Sns → Sns) : (s.modSns f).pmb = s.pmb := rfl
theorem State.modJob_pmb (k : Nat) (f : Job → Job) : (s.modJob k f).pmb = s.pmb := rfl

theorem State.free_pmb {n : Nat} : ({ s with free := n } : State).pmb = s.pmb := rfl

theorem State.when_pmb {b : Bool} {f : State → State} (h : (f s).pmb = s.pmb) : (s.when b f).pmb = s.pmb := by
  cases b
  · rfl
  · exact h

theorem State.modLdr_pmb (f : Loader → Loader) : (s.modLdr f).pmb = s.pmb := rfl

theorem State.snsChoose_pmb : s.snsChoose.pmb = s.pmb := by
  unfold State.snsChoose
  split
  · rfl
  · split
    · split <;> rfl
    · rfl

theorem State.intStart_pmb : s.intStart.pmb = s.pmb := by
  unfold State.intStart State.intWindow
  rw [State.modSns_pmb, State.set_pmb, State.setB_pmb, State.modSns_pmb, State.set_pmb]

theorem State.intRest_pmb : s.intRest.pmb = s.pmb := State.setB_pmb s _ _

theorem State.seqErr_pmb : s.seqErr.pmb = s.pmb := State.set_pmb s _ _

theorem State.snsEnter_pmb (k fuel : Nat) : (s.snsEnter k fuel).pmb = s.pmb := by
  induction fuel generalizing s k with
  | zero => rfl
  | succ fuel ih =>
    unfold State.snsEnter
    split
    · rfl
    · dsimp only
      split
      · rw [ih, State.seqErr_pmb]
      · rw [State.when_pmb State.intStart_pmb, State.modSns_pmb, State.set_pmb]

theorem State.snsStart_pmb : s.snsStart.pmb = s.pmb := by
  unfold State.snsStart
  rw [State.snsEnter_pmb, State.modSns_pmb, State.set_pmb]

theorem State.snsRestart_pmb : s.snsRestart.pmb = s.pmb := by
  unfold State.snsRestart
  dsimp only
  split
  · rw [State.when_pmb (by rw [State.snsStart_pmb, State.set_pmb]), State.snsChoose_pmb, State.intRest_pmb, State.set_pmb,
      State.set_pmb, State.modSns_pmb]
  · rw [State.set_pmb, State.modSns_pmb]

theorem State.dropPost_pmb : s.dropPost.pmb = s.pmb := by
  unfold State.dropPost
  rw [State.irq_pmb, State.inc_pmb]

theorem State.jobIds_pmb {n m : Nat} : ({ s with jobSeq := n, lastJobId := m } : State).pmb = s.pmb := rfl

theorem State.placeJob_pmb (k type target bank : Nat) (fault : Bool) : (s.placeJob k type target bank fault).pmb = s.pmb := by
  unfold State.placeJob
  rw [State.jobIds_pmb, State.modJob_pmb]

theorem State.postJob_pmb (type target : Nat) (fault : Bool) (bank : Nat) : (s.postJob type target fault bank).pmb = s.pmb := by
  unfold State.postJob
  split
  · rw [State.placeJob_pmb]
  · split
    · split
      · rw [State.placeJob_pmb, State.dropPost_pmb, State.irq_pmb, State.inc_pmb, State.modJob_pmb]
      · rw [State.dropPost_pmb]
    · rw [State.dropPost_pmb]

theorem State.pllState_pmb {x v : Nat} : (s.pllState x v).pmb = s.pmb := State.set_pmb s _ _

theorem State.blwCold_pmb : s.blwCold.pmb = s.pmb := rfl

theorem State.blwQueueSync_pmb : s.blwQueueSync.pmb = s.pmb := by
  unfold State.blwQueueSync
  rw [State.set_pmb, State.set_pmb]

theorem State.bootTests_pmb : s.bootTests.pmb = s.pmb := by
  have hposts (n m : Nat) (p : State → Nat → Bool) (t : State) :
      (t.forAll n (fun s k => s.when (p s k) (·.postJob m k false))).pmb = t.pmb :=
    State.forAll_keeps t (fun t : State => t.pmb) n _ (fun _ _ => State.when_pmb (State.postJob_pmb _ _ _ _))
  unfold State.bootTests
  exact State.when_pmb (by rw [State.blwQueueSync_pmb, hposts, hposts])

/-- B3 to B5 of the cold start (R480) write nothing of the link. -/
theorem State.startClocks_pmb (cause : Nat) (pgood : Bool) : (s.startClocks cause pgood).pmb = s.pmb := by
  unfold State.startClocks
  dsimp only
  rw [State.setB_pmb, State.snsRestart_pmb]
  rw [State.free_pmb, State.blwCold_pmb, State.set_pmb, State.pllState_pmb, State.irq_pmb, State.set_pmb, State.set_pmb, State.set_pmb]

/-! ## Step B2 with a blank OTP -/

theorem State.sliceStates_pmb : s.sliceStates.pmb = s.pmb := by
  unfold State.sliceStates
  dsimp only
  rw [State.forAll_keeps _ (fun t : State => t.pmb) 10 _ (fun t k => State.set_pmb t _ _),
    State.forAll_keeps _ (fun t : State => t.pmb) 18 _ (fun t k => by split <;> rw [State.set_pmb])]

theorem State.logUsed_of_blank (ho : s.otp = []) : s.logUsed = 0 := by
  simp only [State.logUsed, State.otpWord, ho]
  decide +kernel

theorem State.identity_of_blank (ho : s.otp = []) : ((List.range 16).map (fun k => s.otpWord (0x100 + k))).all (· == 0) = true := by
  simp only [State.otpWord, ho]
  decide +kernel

theorem State.replayLog_pmb (ho : s.otp = []) : s.replayLog.pmb = s.pmb := by
  unfold State.replayLog
  rw [State.logUsed_of_blank ho, State.sliceStates_pmb]
  exact State.set_pmb s _ _

/-- From a blank OTP step B2 loads PMB_CFG.EN 0, so no link is due (R480). -/
theorem State.loadOtp_blank (ho : s.otp = []) : (s.loadOtp true).pmb.linkDue = false := by
  have hen (x : Word) : bits (setBits x 0 8 0) 7 1 = 0 := by
    have h8 := bits_setBits_self x 0 8 0 (by decide)
    simp only [bits] at h8 ⊢
    omega
  have hlink (t : State) (x : Word) : (t.setReg A.PMB_CFG (setBits x 0 8 0)).on F.PMB_CFG_EN = false := by
    rw [State.on, State.get, show F.PMB_CFG_EN.addr = A.PMB_CFG from rfl, State.reg_setReg_self]
    exact decide_eq_false (not_not.2 (hen _))
  unfold State.loadOtp
  dsimp only
  rw [if_pos (State.identity_of_blank ho)]
  dsimp only
  rw [Bool.not_true, State.when_false]
  refine (congrArg Pmb.linkDue (State.replayLog_pmb ?_)).trans (hlink _ _)
  exact ho

end

/-! ## A cold start that finds the link due -/

/-- The FREEZE ball's and the privacy ball's level low, the optional rails good: what the counterexample's cold start reads first. -/
def coldSensed (s : State) : State :=
  { s with boot := .up, freezeArmed := true
           pins := { s.pins with freeze := false, privacy := false, hpvdd := true, usbvdd := true, pvdd := true } }

/-- With BOOT_SEL at 1, OTP read well and no privacy, the cold start leaves the link as step B2 made it. -/
theorem State.coldStart_pmb {s : State} {cause : Nat} (hb : s.boot = .start cause) (ha : s.pins.aon = true)
    (hc : s.pins.core = true) :
    (s.coldStart 0 1 false true false false true true true true).pmb =
      (((coldSensed s).senseStraps 0 1 false cause).loadOtp true).pmb := by
  unfold State.coldStart
  rw [ha, hc, hb, Bool.not_true, Bool.or_self, if_neg Bool.false_ne_true]
  dsimp only
  rw [if_neg (by decide), State.modLdr_pmb, State.bootTests_pmb, State.when_false, State.startClocks_pmb]
  rfl

theorem yields_coldStart {s : State} {addr boot : Fin 4} {io3 otpOk freeze privacy hpvdd usbvdd pvdd pgood : Bool} :
    Yields (.coldStart addr boot io3 otpOk freeze privacy hpvdd usbvdd pvdd pgood) s
      (s.coldStart addr boot io3 otpOk freeze privacy hpvdd usbvdd pvdd pgood) := rfl

/-- The rails are good after a power-on reset, the OTP is blank, and the regulator link is due. -/
def linkedReset : State :=
  { State.reset with regs := [], domState := 6, boot := .start 0, pmb := { State.reset.pmb with linkDue := true } }

theorem linkedReset_starts : linkedReset.boot = .start 0 ∧ linkedReset.pins.aon = true ∧ linkedReset.pins.core = true := by
  decide

theorem linkedReset_notDue : (((coldSensed linkedReset).senseStraps 0 1 false 0).loadOtp true).pmb.linkDue = false :=
  State.loadOtp_blank rfl

/-- Refutes O59: the frame of COLD_START leaves out the record of the regulator link. In `linkedReset` step B2 finds the identity
region blank and clears the link's due start. -/
theorem not_resetsAndRails : ¬ Obligations.ResetsAndRails := by
  unfold Obligations.ResetsAndRails
  rintro ⟨-, -, -, -, -, -, coldStart, -⟩
  obtain ⟨hb, ha, hc⟩ := linkedReset_starts
  obtain ⟨u, hy, -, -, -, -, -, -, -, -, -, -, -, -, -, -, -, -, -, -, -, -, -, -, -, -, -, htouch⟩ :=
    coldStart 0 1 false true false false true true true true 0 linkedReset hb (by decide) ha hc
  have hkept : u.pmb = linkedReset.pmb := htouch.1 .pmb (by decide)
  have hsame : u.pmb = (linkedReset.coldStart 0 1 false true false false true true true true).pmb :=
    (settle_pmb u).symm.trans ((congrArg State.pmb (hy.settle_eq yields_coldStart)).trans (settle_pmb _))
  have hcleared : u.pmb.linkDue = false :=
    (congrArg Pmb.linkDue (hsame.trans (State.coldStart_pmb hb ha hc))).trans linkedReset_notDue
  rw [hkept] at hcleared
  exact Bool.noConfusion hcleared

end Sys2Proof.Machine
end

section
/-! PROOFS. Words that the life-cycle and reset registers take (R6, R475, R477), and what they ask of the block. -/

namespace Sys2Proof.Machine

variable {s : State}

/-! ## Bits of a word with a command bit set -/

theorem bits_or_const (w x : Word) {lo n : Nat} (h : bits x lo n = 0) : bits (w ||| x) lo n = bits w lo n := by
  apply Nat.eq_of_testBit_eq
  intro j
  have hj := congrArg (Nat.testBit · j) h
  simp only [bits, Nat.testBit_mod_two_pow, Nat.testBit_div_two_pow, Nat.zero_testBit, Bool.and_eq_false_iff,
    decide_eq_false_iff_not] at hj
  simp only [bits, BitVec.toNat_or, Nat.testBit_mod_two_pow, Nat.testBit_div_two_pow, Nat.testBit_or]
  rcases hj with hj | hj <;> simp [hj]

theorem hit_or_const (w x : Word) {i : Nat} (h : bits x i 1 = 1) : hit (w ||| x) i = true := by
  rw [bits_one] at h
  have hx : x.toNat.testBit i = true := Bool.toNat_eq_one.1 h
  rw [hit, bits_one, BitVec.toNat_or, Nat.testBit_or, hx, Bool.or_true]
  rfl

theorem hit_or_clear (w x : Word) {i : Nat} (h : bits x i 1 = 0) (hw : bits w i 1 = 0) : hit (w ||| x) i = false := by
  rw [hit, bits_or_const w x h, hw]
  rfl

/-! ## The write of a register of the system and life-cycle pages -/

/-- The registers of the system and life-cycle pages have no joint reserved values. -/
theorem together_sysLcy {a : Nat} (ha : a / 0x400 = 0 ∨ a / 0x400 = 7) (old w new : Word) : together a old w new = (new, false) := by
  have h1 : ¬ (A.SAP_MCLK 0 ≤ a ∧ a ≤ A.SAP_MCLK 3 ∧ a % 0x400 = A.SAP_MCLK 0 % 0x400) := by simp only [A.SAP_MCLK]; omega
  have h2 : ¬ (A.SNS_SEQ 0 ≤ a ∧ a ≤ A.SNS_SEQ 15) := by simp only [A.SNS_SEQ]; omega
  have h3 : a ≠ A.BLW_SAG := by simp only [A.BLW_SAG]; omega
  have h4 : a ≠ A.BLW_OP_COST := by simp only [A.BLW_OP_COST]; omega
  have h5 : ¬ (A.BLW_TASK_COST 32 ≤ a ∧ a ≤ A.BLW_TASK_COST 63 ∧ (a - A.BLW_TASK_COST 32) % 8 = 0) := by
    simp only [A.BLW_TASK_COST]; omega
  simp only [together, if_neg h1, if_neg h2, if_neg h3, if_neg h4, if_neg h5]

/-- The write of a register of these pages: its fields by their access types, then the block's reaction. -/
theorem State.writeOne_sysLcy {ini a : Nat} {w : Word} {d : RegDef} (ha : a / 0x400 = 0 ∨ a / 0x400 = 7)
    (h : s.mayWrite ini a w = true) (hp : placeOf a = .reg (a / 0x400) (a % 0x400)) (hd : regDefAt a = some d) :
    s.writeOne none ini a w = (s.setReg a (d.take (s.reg a) w).1).regWritten none a (s.reg a) w := by
  rw [s.writeOne_of_mayWrite none ini _ _ h (s.poke_of_mayWrite none ini _ _ h hp),
    State.poke_reg_taken s none _ _ hp hd (.inl (by simp only [A.SNS_URGENT]; omega)), together_sysLcy ha]

/-- A block's word of the life-cycle page goes to the block (R477). -/
theorem State.regWritten_lcy (e : Option Facts) {a : Nat} (hp : a / 0x400 = 7) (ho : 0x40 ≤ a % 0x400) (old w : Word) :
    s.regWritten e a old w = s.lcyWritten a w := by
  unfold State.regWritten
  rw [if_neg (Nat.not_lt.2 ho), hp]
  rfl

/-- A block's word of the system page goes to the block (R475). -/
theorem State.regWritten_sys (e : Option Facts) {a : Nat} (hp : a / 0x400 = 0) (ho : 0x40 ≤ a % 0x400) (old w : Word) :
    s.regWritten e a old w = s.sysWritten a w := by
  unfold State.regWritten
  rw [if_neg (Nat.not_lt.2 ho), hp]
  rfl

/-- The fields of LCY_CTRL (R477). -/
def lcyCtrlDef : RegDef := .mk 0x044 1 4 0 64 0x0 [] false [.mk 16 16 .wo [], .mk 2 2 .rw [], .mk 0 1 .w1s []]

/-- The fields of LCY_CHECK (R477). -/
def lcyCheckDef : RegDef := .mk 0x058 1 4 0 64 0x0 [] false [.mk 1 1 .w1s [], .mk 0 1 .w1s []]

/-- The fields of LCY_OTP_CTRL (R477). -/
def lcyOtpCtrlDef : RegDef := .mk 0x068 1 4 0 64 0x0 [] false [.mk 1 1 .w1s [], .mk 0 1 .w1s []]

theorem regDefAt_lcy : regDefAt A.LCY_CTRL = some lcyCtrlDef ∧ regDefAt A.LCY_CHECK = some lcyCheckDef ∧
    regDefAt A.LCY_OTP_CTRL = some lcyOtpCtrlDef := by decide

theorem lcyCtrlDef_take (old w : Word) :
    (lcyCtrlDef.take old w).1 = setBits (setBits old 16 16 (bits w 16 16)) 2 2 (bits w 2 2) := rfl

theorem lcyCheckDef_take (old w : Word) : (lcyCheckDef.take old w).1 = old := rfl

theorem lcyOtpCtrlDef_take (old w : Word) : (lcyOtpCtrlDef.take old w).1 = old := rfl

theorem State.lcyWritten_ctrl (w : Word) : s.lcyWritten A.LCY_CTRL w = s.when (hit w 0) (·.lcyGo (bits w 16 16)) := by
  unfold State.lcyWritten
  exact if_pos rfl

theorem State.lcyWritten_check (w : Word) :
    s.lcyWritten A.LCY_CHECK w = (s.when (hit w 0) (·.lcyCheck false)).when (hit w 1) (·.lcyCheck true) := by
  unfold State.lcyWritten
  rw [if_neg (by decide), if_pos rfl]

theorem State.lcyWritten_otpCtrl (w : Word) :
    s.lcyWritten A.LCY_OTP_CTRL w = (s.when (hit w 0) (·.otpStart false)).when (hit w 1) (·.otpStart true) := by
  unfold State.lcyWritten
  rw [if_neg (by decide), if_neg (by decide), if_pos rfl]

/-- LCY_CHECK has no stored field: the word stays, and the check starts (R472). -/
theorem State.writeOne_lcyCheck {ini : Nat} {w : Word} (h : s.mayWrite ini A.LCY_CHECK w = true) :
    s.writeOne none ini A.LCY_CHECK w =
      ((s.setReg A.LCY_CHECK (s.reg A.LCY_CHECK)).when (hit w 0) (·.lcyCheck false)).when (hit w 1) (·.lcyCheck true) := by
  rw [State.writeOne_sysLcy (.inr rfl) h rfl regDefAt_lcy.2.1, State.regWritten_lcy none rfl (by decide), lcyCheckDef_take,
    State.lcyWritten_check]

/-- LCY_OTP_CTRL has no stored field: the word stays, and the access starts (R474). -/
theorem State.writeOne_lcyOtpCtrl {ini : Nat} {w : Word} (h : s.mayWrite ini A.LCY_OTP_CTRL w = true) :
    s.writeOne none ini A.LCY_OTP_CTRL w =
      ((s.setReg A.LCY_OTP_CTRL (s.reg A.LCY_OTP_CTRL)).when (hit w 0) (·.otpStart false)).when (hit w 1) (·.otpStart true) := by
  rw [State.writeOne_sysLcy (.inr rfl) h rfl regDefAt_lcy.2.2, State.regWritten_lcy none rfl (by decide), lcyOtpCtrlDef_take,
    State.lcyWritten_otpCtrl]

/-- LCY_CTRL stores KEY and TARGET; GO acts (R473). -/
theorem State.writeOne_lcyCtrl {ini : Nat} {w : Word} (h : s.mayWrite ini A.LCY_CTRL w = true) :
    s.writeOne none ini A.LCY_CTRL w =
      (s.setReg A.LCY_CTRL (setBits (setBits (s.reg A.LCY_CTRL) 16 16 (bits w 16 16)) 2 2 (bits w 2 2))).when (hit w 0)
        (·.lcyGo (bits w 16 16)) := by
  rw [State.writeOne_sysLcy (.inr rfl) h rfl regDefAt_lcy.1, State.regWritten_lcy none rfl (by decide), lcyCtrlDef_take,
    State.lcyWritten_ctrl]

/-- The fields of SYS_SW_RESET (R475). -/
def sysSwResetDef : RegDef := .mk 0x064 1 4 0 64 0x0 [] false [.mk 16 16 .wo [], .mk 0 1 .w1s []]

theorem regDefAt_sysSwReset : regDefAt A.SYS_SW_RESET = some sysSwResetDef := by decide

theorem sysSwResetDef_take (old w : Word) : (sysSwResetDef.take old w).1 = setBits old 16 16 (bits w 16 16) := rfl

/-- SYS_SW_RESET stores KEY; RESET with the key restarts the hub (R475). -/
theorem State.writeOne_sysSwReset {ini : Nat} {w : Word} (h : s.mayWrite ini A.SYS_SW_RESET w = true) :
    s.writeOne none ini A.SYS_SW_RESET w =
      (s.setReg A.SYS_SW_RESET (setBits (s.reg A.SYS_SW_RESET) 16 16 (bits w 16 16))).when
        (hit w 0 && decide (bits w 16 16 = 0x5253)) (·.hardReset 4) := by
  rw [State.writeOne_sysLcy (.inl rfl) h rfl regDefAt_sysSwReset, State.regWritten_sys none rfl (by decide), sysSwResetDef_take]
  unfold State.sysWritten
  rw [decide_eq_true rfl, Bool.true_and]

end Sys2Proof.Machine
end

section
/-! PROOFS. Code checks and OTP access (R472, R474). -/

namespace Sys2Proof.Machine

variable {s : State}

theorem State.lcyPut_reg (x : Lcy) (a : Nat) : ({ s with lcy := x } : State).reg a = s.reg a := rfl

theorem State.lcyPut_get (x : Lcy) (f : Fld) : ({ s with lcy := x } : State).get f = s.get f := rfl

/-! ## The start of a code check -/

/-- The code registers cleared. -/
def State.codesCleared (s : State) : State := s.forAll 4 (fun s k => s.setReg (A.LCY_CODE k) 0)

/-- The status fields and code registers a check writes (R472). -/
def codeCheckFlds : List Fld :=
  [F.LCY_STATUS_CHECK, F.PG_IRQ 0x07 2, F.LCY_STATUS_BUSY, whole (A.LCY_CODE 0), whole (A.LCY_CODE 1), whole (A.LCY_CODE 2),
    whole (A.LCY_CODE 3)]

theorem State.codesCleared_code {k : Nat} (hk : k < 4) : s.codesCleared.reg (A.LCY_CODE k) = 0 := by
  obtain ⟨t, -, ht⟩ := State.forAll_at (s := s) (fun s k => s.reg (A.LCY_CODE k)) (f := fun s k => s.setReg (A.LCY_CODE k) 0)
    (fun t j n hn => t.reg_setReg_ne 0 (by simp only [A.LCY_CODE]; omega)) hk
  exact ht.trans (t.reg_setReg_self _ _)

theorem State.codesCleared_touches : Touches [.lcy] [] codeCheckFlds s s.codesCleared :=
  (Touches.refl _ _ _ s).forAll 4 (fun t k hk ht => ht.setReg 0 (.inr (by
    have h : ∀ k < 4, whole (A.LCY_CODE k) ∈ codeCheckFlds := by decide
    exact h k hk)))

theorem State.codesCleared_keeps {β : Type} (g : State → β) (h : ∀ (s : State) a w, g (s.setReg a w) = g s) :
    g s.codesCleared = g s :=
  s.forAll_keeps g 4 _ (fun _ _ => h _ _ _)

theorem State.codesCleared_lcy : s.codesCleared.lcy = s.lcy := State.codesCleared_keeps State.lcy (fun _ _ _ => rfl)

/-- Is the life-cycle state right for the check (R472)? -/
def State.checkRight (s : State) (unlock : Bool) : Bool := if unlock then decide (2 ≤ s.lcState) else decide (s.lcState = 1)

/-- The digest the codes are held against (R472). -/
def State.checkDigest (s : State) (unlock : Bool) : List Word := s.digest (if unlock then 0x114 else 0x110)

/-- Do the codes' SHA-256 and the digest agree (R472)? -/
def State.codesMatch (s : State) (unlock : Bool) : Bool :=
  decide (shaOtp (((List.range (if unlock then 4 else 2)).map (fun k => s.reg (A.LCY_CODE k))).flatMap (fun c => wordBytes c.toNat)) =
    s.checkDigest unlock)

/-- A refused check shows its code and is raised. -/
def State.checkRefused (s : State) (code : Nat) : State := (s.codesCleared.set F.LCY_STATUS_CHECK code).irq 7 2

/-- A check that runs knows its outcome. -/
def State.checkRuns (s : State) (unlock : Bool) : State :=
  { s.codesCleared.set F.LCY_STATUS_BUSY 1 with lcy := { s.lcy with check := some (unlock, s.codesMatch unlock) } }

theorem State.lcyCheck_eq {unlock : Bool} (hc : s.lcy.check = none) (ht : s.lcy.trans = false) :
    s.lcyCheck unlock =
      if s.on F.LCY_STATUS_LOCKOUT then s.checkRefused 5
      else if !s.checkRight unlock then s.checkRefused 4
      else if blankDigest (s.checkDigest unlock) then s.checkRefused 3
      else s.checkRuns unlock := by
  have hon : s.codesCleared.on F.LCY_STATUS_LOCKOUT = s.on F.LCY_STATUS_LOCKOUT :=
    State.on_congr _ (State.codesCleared_touches.get_eq (by decide) (by unfold Fld.apart; decide))
  have hstate : s.codesCleared.lcState = s.lcState := State.codesCleared_keeps State.lcState (fun _ _ _ => rfl)
  have hdigest (k : Nat) : s.codesCleared.digest k = s.digest k := State.codesCleared_keeps (State.digest · k) (fun _ _ _ => rfl)
  have hlcy : s.codesCleared.lcy = s.lcy := State.codesCleared_lcy
  unfold State.lcyCheck
  rw [hc, ht, Option.isNone_none, Bool.not_false, Bool.and_self, State.when_true]
  unfold State.codesCleared at hon hstate hdigest hlcy
  dsimp only
  rw [hon, hstate, hdigest, hlcy]
  rfl

theorem State.checkRefused_shows {code : Nat} (h : code < 16) : (s.checkRefused code).get F.LCY_STATUS_CHECK = code ∧
    (s.checkRefused code).lcy = s.lcy ∧ (s.checkRefused code).on (F.PG_IRQ 0x07 2) = true := by
  refine ⟨?_, ?_, State.on_of_get_one _ (State.get_irq_self _ 7 2 (by decide))⟩
  · rw [State.checkRefused, State.irq, State.get_set_ne _ _ (Fld.fits_of_ble rfl) (.inl (by decide)),
      State.get_set_self _ _ _ (Fld.fits_of_ble rfl)]
    exact Nat.mod_eq_of_lt h
  · rw [State.checkRefused, State.irq_lcy, State.set_lcy, State.codesCleared_lcy]

theorem State.checkRuns_busy (unlock : Bool) : (s.checkRuns unlock).get F.LCY_STATUS_BUSY = 1 :=
  (State.lcyPut_get _ _).trans (s.codesCleared.get_set_self F.LCY_STATUS_BUSY 1 (Fld.fits_of_ble rfl))

/-- What a start of a code check leaves (R472). -/
structure CodeCheck (unlock : Bool) (s u : State) : Prop where
  codes : ∀ k : Nat, k < 4 → u.reg (A.LCY_CODE k) = 0
  lockedOut : s.on F.LCY_STATUS_LOCKOUT = true →
    u.get F.LCY_STATUS_CHECK = 5 ∧ u.lcy = s.lcy ∧ u.on (F.PG_IRQ 0x07 2) = true
  wrongState : s.on F.LCY_STATUS_LOCKOUT = false → s.checkRight unlock = false →
    u.get F.LCY_STATUS_CHECK = 4 ∧ u.lcy = s.lcy ∧ u.on (F.PG_IRQ 0x07 2) = true
  blank : s.on F.LCY_STATUS_LOCKOUT = false → s.checkRight unlock = true → blankDigest (s.checkDigest unlock) = true →
    u.get F.LCY_STATUS_CHECK = 3 ∧ u.lcy = s.lcy ∧ u.on (F.PG_IRQ 0x07 2) = true
  runs : s.on F.LCY_STATUS_LOCKOUT = false → s.checkRight unlock = true → blankDigest (s.checkDigest unlock) = false →
    u.get F.LCY_STATUS_BUSY = 1 ∧ u.lcy = { s.lcy with check := some (unlock, s.codesMatch unlock) }
  touches : Touches [.lcy] [] codeCheckFlds s u

/-- A refused check leaves the codes cleared, and its code and interrupt. -/
theorem State.checkRefused_leaves (code : Nat) : (∀ k : Nat, k < 4 → (s.checkRefused code).reg (A.LCY_CODE k) = 0) ∧
    Touches [.lcy] [] codeCheckFlds s (s.checkRefused code) := by
  refine ⟨fun k hk => ?_, (State.codesCleared_touches.set _ (.inr (by decide))).irq (.inr (by decide))⟩
  rw [State.checkRefused, State.reg_irq_ne _ _ (by simp only [A.LCY_CODE]; omega),
    State.reg_set_ne _ _ (by simp only [A.LCY_CODE, F.LCY_STATUS_CHECK, A.LCY_STATUS]; omega), State.codesCleared_code hk]

theorem State.checkRuns_leaves (unlock : Bool) : (∀ k : Nat, k < 4 → (s.checkRuns unlock).reg (A.LCY_CODE k) = 0) ∧
    Touches [.lcy] [] codeCheckFlds s (s.checkRuns unlock) := by
  refine ⟨fun k hk => ?_, (State.codesCleared_touches.set _ (.inr (by decide))).put_lcy _ (by decide)⟩
  have hstatus : (s.codesCleared.set F.LCY_STATUS_BUSY 1).reg (A.LCY_CODE k) = s.codesCleared.reg (A.LCY_CODE k) :=
    State.reg_set_ne _ _ (by simp only [A.LCY_CODE, F.LCY_STATUS_BUSY, A.LCY_STATUS]; omega)
  exact (State.lcyPut_reg _ _).trans (hstatus.trans (State.codesCleared_code hk))

theorem State.lcyCheck_codeCheck (unlock : Bool) (hc : s.lcy.check = none) (ht : s.lcy.trans = false) :
    CodeCheck unlock s (s.lcyCheck unlock) := by
  rw [State.lcyCheck_eq hc ht]
  cases hl : s.on F.LCY_STATUS_LOCKOUT
  case true =>
    rw [if_pos rfl]
    obtain ⟨hcodes, htouch⟩ := s.checkRefused_leaves 5
    exact ⟨hcodes, fun _ => State.checkRefused_shows (by decide), by simp [hl], by simp [hl], by simp [hl], htouch⟩
  rw [if_neg Bool.false_ne_true]
  cases hr : s.checkRight unlock
  case false =>
    rw [Bool.not_false, if_pos rfl]
    obtain ⟨hcodes, htouch⟩ := s.checkRefused_leaves 4
    exact ⟨hcodes, by simp [hl], fun _ _ => State.checkRefused_shows (by decide), by simp [hr], by simp [hr], htouch⟩
  rw [Bool.not_true, if_neg Bool.false_ne_true]
  cases hb : blankDigest (s.checkDigest unlock)
  case true =>
    rw [if_pos rfl]
    obtain ⟨hcodes, htouch⟩ := s.checkRefused_leaves 3
    exact ⟨hcodes, by simp [hl], by simp [hr], fun _ _ _ => State.checkRefused_shows (by decide), by simp [hb], htouch⟩
  rw [if_neg Bool.false_ne_true]
  obtain ⟨hcodes, htouch⟩ := s.checkRuns_leaves unlock
  exact ⟨hcodes, by simp [hl], by simp [hr], by simp [hb], fun _ _ _ => ⟨s.checkRuns_busy unlock, rfl⟩, htouch⟩

/-- LCY_CHECK takes its own word first, which changes nothing the check asks. -/
theorem CodeCheck.of_setReg_id {unlock : Bool} {a : Nat} {u : State} (h : CodeCheck unlock (s.setReg a (s.reg a)) u) :
    CodeCheck unlock s u := by
  have hon : (s.setReg a (s.reg a)).on F.LCY_STATUS_LOCKOUT = s.on F.LCY_STATUS_LOCKOUT := State.on_congr _ (s.get_setReg_id a _)
  have hmatch : (s.setReg a (s.reg a)).codesMatch unlock = s.codesMatch unlock := by
    unfold State.codesMatch
    simp only [s.reg_setReg_id]
    rfl
  obtain ⟨hcodes, hlock, hstate, hblank, hruns, htouch⟩ := h
  rw [hon] at hlock hstate hblank hruns
  rw [hmatch] at hruns
  exact ⟨hcodes, hlock, hstate, hblank, hruns, (Touches.setReg_id s _ _ _ a).trans htouch⟩

/-- TOKEN alone starts the token's check. -/
theorem State.lcyCheckToken_codeCheck {ini : Nat} {w : Word} (h : s.mayWrite ini A.LCY_CHECK (w ||| 0x1#32) = true)
    (hw : bits w 1 1 = 0) (hc : s.lcy.check = none) (ht : s.lcy.trans = false) :
    CodeCheck false s (s.writeOne none ini A.LCY_CHECK (w ||| 0x1#32)) := by
  rw [State.writeOne_lcyCheck h, hit_or_const w _ (by decide), hit_or_clear w _ (by decide) hw, State.when_true, State.when_false]
  exact (State.lcyCheck_codeCheck (s := s.setReg _ _) false hc ht).of_setReg_id

/-- UNLOCK alone starts the unlock code's check. -/
theorem State.lcyCheckUnlock_codeCheck {ini : Nat} {w : Word} (h : s.mayWrite ini A.LCY_CHECK (w ||| 0x2#32) = true)
    (hw : bits w 0 1 = 0) (hc : s.lcy.check = none) (ht : s.lcy.trans = false) :
    CodeCheck true s (s.writeOne none ini A.LCY_CHECK (w ||| 0x2#32)) := by
  rw [State.writeOne_lcyCheck h, hit_or_clear w _ (by decide) hw, hit_or_const w _ (by decide), State.when_true, State.when_false]
  exact (State.lcyCheck_codeCheck (s := s.setReg _ _) true hc ht).of_setReg_id

end Sys2Proof.Machine
end

section
/-! PROOFS. The end of a code check (R472), and OTP access (R474). -/

namespace Sys2Proof.Machine

variable {s : State}

/-! ## The end of a code check -/

/-- Fields that a field shares no bit with, by evaluation of their numbers. -/
theorem Fld.apart_of_all {fs : List Fld} {f : Fld}
    (h : fs.all (fun g => decide (g.addr ≠ f.addr) || decide (f.lo + f.w ≤ g.lo) || decide (g.lo + g.w ≤ f.lo)) = true) :
    ∀ g ∈ fs, g.apart f := by
  intro g hg
  have := List.all_eq_true.1 h g hg
  simp only [Bool.or_eq_true, decide_eq_true_eq, or_assoc] at this
  exact this

/-- The common part of a check's end: no check runs, BUSY falls, the interrupt. -/
def State.checkEnded (s : State) : State :=
  ({ s with lcy := { s.lcy with check := none } }.set F.LCY_STATUS_BUSY 0).irq 7 2

theorem State.checkEnded_shows : s.checkEnded.lcy = { s.lcy with check := none } ∧ s.checkEnded.get F.LCY_STATUS_BUSY = 0 ∧
    s.checkEnded.on (F.PG_IRQ 0x07 2) = true := by
  refine ⟨?_, ?_, State.on_of_get_one _ (State.get_irq_self _ 7 2 (by decide))⟩
  · rw [State.checkEnded, State.irq_lcy, State.set_lcy]
  · rw [State.checkEnded, State.irq, State.get_set_ne _ _ (Fld.fits_of_ble rfl) (.inl (by decide)),
      State.get_set_self _ _ _ (Fld.fits_of_ble rfl), Nat.zero_mod]

theorem State.checkEnded_touches : Touches [.lcy] [] [F.LCY_STATUS_BUSY, F.PG_IRQ 0x07 2] s s.checkEnded :=
  (((Touches.refl _ _ _ s).put_lcy _ (by decide)).set _ (.inr (by decide))).irq (.inr (by decide))

/-- What a match gives: an unlock, or debug access. -/
def permissionFld (unlock : Bool) : Fld := if unlock then F.LCY_STATUS_UNLOCKED else F.LCY_STATE_DBG_EN

/-- A match shows CHECK 1 and gives its permission. -/
def State.checkMatched (s : State) (unlock : Bool) : State := (s.set F.LCY_STATUS_CHECK 1).set (permissionFld unlock) 1

/-- A mismatch, and the lockout at the fourth. -/
def State.checkFailed (s : State) : State :=
  let s := ((s.set F.LCY_STATUS_CHECK 2).inc F.LCY_STATUS_FAILS).irq 7 3
  s.when (decide (s.get F.LCY_STATUS_FAILS = 4)) (fun s => (s.set F.LCY_STATUS_LOCKOUT 1).irq 7 4)

theorem State.lcyCheckDone_found {unlock : Bool} (h : s.lcy.check = some (unlock, true)) :
    s.lcyCheckDone = s.checkEnded.checkMatched unlock := by
  unfold State.lcyCheckDone
  rw [h]
  exact if_pos rfl

theorem State.lcyCheckDone_failed {unlock : Bool} (h : s.lcy.check = some (unlock, false)) :
    s.lcyCheckDone = s.checkEnded.checkFailed := by
  unfold State.lcyCheckDone
  rw [h]
  exact if_neg Bool.false_ne_true

theorem State.checkFailed_touches : Touches [] [] [F.LCY_STATUS_CHECK, F.LCY_STATUS_FAILS, F.PG_IRQ 0x07 3, F.LCY_STATUS_LOCKOUT,
    F.PG_IRQ 0x07 4] s s.checkFailed := by
  have h : Touches [] [] [F.LCY_STATUS_CHECK, F.LCY_STATUS_FAILS, F.PG_IRQ 0x07 3, F.LCY_STATUS_LOCKOUT, F.PG_IRQ 0x07 4] s
      (((s.set F.LCY_STATUS_CHECK 2).inc F.LCY_STATUS_FAILS).irq 7 3) :=
    (((Touches.refl _ _ _ s).set _ (.inr (by decide))).inc (.inr (by decide))).irq (.inr (by decide))
  exact h.when _ (fun _ => (h.set _ (.inr (by decide))).irq (.inr (by decide)))

/-- A mismatch shows CHECK 2, is counted and raised. -/
theorem State.checkFailed_shows : s.checkFailed.get F.LCY_STATUS_CHECK = 2 ∧
    s.checkFailed.get F.LCY_STATUS_FAILS = min (s.get F.LCY_STATUS_FAILS + 1) 255 ∧ s.checkFailed.on (F.PG_IRQ 0x07 3) = true := by
  have hlock : Touches [] [] [F.LCY_STATUS_LOCKOUT, F.PG_IRQ 0x07 4] (((s.set F.LCY_STATUS_CHECK 2).inc F.LCY_STATUS_FAILS).irq 7 3)
      s.checkFailed :=
    (Touches.refl _ _ _ _).when _ (fun _ => ((Touches.refl _ _ _ _).set _ (.inr (by decide))).irq (.inr (by decide)))
  refine ⟨?_, ?_, State.on_of_get_one _ ?_⟩
  · rw [hlock.get_eq (by decide) (Fld.apart_of_all (by decide)), State.irq, State.get_set_ne _ _ (Fld.fits_of_ble rfl) (.inl (by decide)),
      State.inc, State.get_set_ne _ _ (Fld.fits_of_ble rfl) (.inr (.inr (by decide))), State.get_set_self _ _ _ (Fld.fits_of_ble rfl)]
    rfl
  · rw [hlock.get_eq (by decide) (Fld.apart_of_all (by decide)), State.irq, State.get_set_ne _ _ (Fld.fits_of_ble rfl) (.inl (by decide)),
      State.get_inc_self _ _ (Fld.fits_of_ble rfl), State.get_set_ne _ _ (Fld.fits_of_ble rfl) (.inr (.inl (by decide)))]
    rfl
  · rw [hlock.get_eq (by decide) (Fld.apart_of_all (by decide)), State.get_irq_self _ _ _ (by decide)]

/-- The fourth mismatch locks out. -/
theorem State.checkFailed_lockout (h : s.get F.LCY_STATUS_FAILS = 3) :
    s.checkFailed.on F.LCY_STATUS_LOCKOUT = true ∧ s.checkFailed.on (F.PG_IRQ 0x07 4) = true := by
  have hfails : (((s.set F.LCY_STATUS_CHECK 2).inc F.LCY_STATUS_FAILS).irq 7 3).get F.LCY_STATUS_FAILS = 4 := by
    rw [State.irq, State.get_set_ne _ _ (Fld.fits_of_ble rfl) (.inl (by decide)), State.get_inc_self _ _ (Fld.fits_of_ble rfl),
      State.get_set_ne _ _ (Fld.fits_of_ble rfl) (.inr (.inl (by decide))), h]
    rfl
  unfold State.checkFailed
  dsimp only
  rw [hfails, decide_eq_true rfl, State.when_true]
  refine ⟨State.on_of_get_one _ ?_, State.on_of_get_one _ (State.get_irq_self _ 7 4 (by decide))⟩
  rw [State.irq, State.get_set_ne _ _ (Fld.fits_of_ble rfl) (.inl (by decide)), State.get_set_self _ _ _ (Fld.fits_of_ble rfl)]
  rfl

theorem State.checkMatched_shows (unlock : Bool) : (s.checkMatched unlock).get F.LCY_STATUS_CHECK = 1 ∧
    (s.checkMatched unlock).on (permissionFld unlock) = true := by
  have hf : (permissionFld unlock).fits := by cases unlock <;> exact Fld.fits_of_ble rfl
  have ha : (permissionFld unlock).apart F.LCY_STATUS_CHECK := by cases unlock <;> (unfold Fld.apart; decide)
  refine ⟨?_, ?_⟩
  · rw [State.checkMatched, State.get_set_ne _ _ hf ha, State.get_set_self _ _ _ (Fld.fits_of_ble rfl)]
    rfl
  · rw [State.checkMatched, State.on_set_self _ _ _ hf]
    cases unlock <;> rfl

theorem State.checkMatched_touches (unlock : Bool) :
    Touches [] [] [F.LCY_STATUS_CHECK, F.LCY_STATUS_UNLOCKED, F.LCY_STATE_DBG_EN] s (s.checkMatched unlock) :=
  ((Touches.refl _ _ _ s).set _ (.inr (by decide))).set _ (.inr (by cases unlock <;> decide))

/-- An unlock leaves debug access as it was. -/
theorem State.checkMatched_debug : (s.checkMatched true).on F.LCY_STATE_DBG_EN = s.on F.LCY_STATE_DBG_EN := by
  rw [State.checkMatched, State.on_set_ne _ _ (Fld.fits_of_ble rfl) (.inl (by decide)),
    State.on_set_ne _ _ (Fld.fits_of_ble rfl) (.inl (by decide))]

/-! ## The start of an OTP access -/

/-- An access that starts: BUSY, its word and its data. -/
def State.otpRuns (s : State) (prog : Bool) (w : Nat) (x : Word) : State :=
  { s.set F.LCY_OTP_STATUS_BUSY 1 with lcy := { s.lcy with op := some ⟨prog, w, x⟩ } }

theorem State.otpRuns_busy (prog : Bool) (w : Nat) (x : Word) : (s.otpRuns prog w x).get F.LCY_OTP_STATUS_BUSY = 1 :=
  (State.lcyPut_get _ _).trans (s.get_set_self F.LCY_OTP_STATUS_BUSY 1 (Fld.fits_of_ble rfl))

/-- LCY_OTP_CTRL takes its own word first, which changes nothing the access asks. -/
theorem State.otpStart_setReg_id (prog : Bool) (a : Nat) :
    (s.setReg a (s.reg a)).otpStart prog =
      if s.lcy.op.isSome then (s.setReg a (s.reg a)).set F.LCY_OTP_STATUS_RESULT 4
      else if prog && !s.otpOpen (s.get F.LCY_OTP_ADDR_WORD) then ((s.setReg a (s.reg a)).set F.LCY_OTP_STATUS_RESULT 1).irq 7 5
      else if prog && s.otpWord (s.get F.LCY_OTP_ADDR_WORD) != 0 then
        ((s.setReg a (s.reg a)).set F.LCY_OTP_STATUS_RESULT 2).irq 7 5
      else (s.setReg a (s.reg a)).otpRuns prog (s.get F.LCY_OTP_ADDR_WORD) (s.reg A.LCY_OTP_DATA) := by
  have hopen (w : Nat) : (s.setReg a (s.reg a)).otpOpen w = s.otpOpen w := rfl
  have hword (w : Nat) : (s.setReg a (s.reg a)).otpWord w = s.otpWord w := rfl
  unfold State.otpStart
  dsimp only
  rw [State.setReg_lcy, s.get_setReg_id, s.reg_setReg_id, hopen, hword]
  rfl

/-- The result a refused access shows. -/
theorem State.otpRefused_shows {code : Nat} (h : code < 16) :
    (s.set F.LCY_OTP_STATUS_RESULT code).get F.LCY_OTP_STATUS_RESULT = code ∧
      ((s.set F.LCY_OTP_STATUS_RESULT code).irq 7 5).get F.LCY_OTP_STATUS_RESULT = code ∧
      ((s.set F.LCY_OTP_STATUS_RESULT code).irq 7 5).on (F.PG_IRQ 0x07 5) = true := by
  have hset : (s.set F.LCY_OTP_STATUS_RESULT code).get F.LCY_OTP_STATUS_RESULT = code := by
    rw [State.get_set_self _ _ _ (Fld.fits_of_ble rfl)]
    exact Nat.mod_eq_of_lt h
  refine ⟨hset, ?_, State.on_of_get_one _ (State.get_irq_self _ 7 5 (by decide))⟩
  rw [State.irq, State.get_set_ne _ _ (Fld.fits_of_ble rfl) (.inl (by decide)), hset]

theorem State.otpRuns_lcy (prog : Bool) (w : Nat) (x : Word) :
    (s.otpRuns prog w x).lcy = { s.lcy with op := some ⟨prog, w, x⟩ } := rfl

section
variable {prog : Bool} {a : Nat}

/-- While one runs another is refused. -/
theorem State.otpStart_busy (h : s.lcy.op.isSome = true) :
    ((s.setReg a (s.reg a)).otpStart prog).get F.LCY_OTP_STATUS_RESULT = 4 ∧ ((s.setReg a (s.reg a)).otpStart prog).lcy = s.lcy := by
  rw [State.otpStart_setReg_id, if_pos h]
  exact ⟨(State.otpRefused_shows (by decide)).1, by rw [State.set_lcy, State.setReg_lcy]⟩

/-- A program access of a closed region is refused and raised. -/
theorem State.otpStart_closed (h : s.lcy.op = none) (ho : s.otpOpen (s.get F.LCY_OTP_ADDR_WORD) = false) :
    ((s.setReg a (s.reg a)).otpStart true).get F.LCY_OTP_STATUS_RESULT = 1 ∧ ((s.setReg a (s.reg a)).otpStart true).lcy = s.lcy ∧
      ((s.setReg a (s.reg a)).otpStart true).on (F.PG_IRQ 0x07 5) = true := by
  obtain ⟨-, hres, hirq⟩ := State.otpRefused_shows (s := s.setReg a (s.reg a)) (code := 1) (by decide)
  rw [State.otpStart_setReg_id, if_neg (by rw [h]; decide), if_pos (by rw [ho]; rfl)]
  exact ⟨hres, by rw [State.irq_lcy, State.set_lcy, State.setReg_lcy], hirq⟩

/-- A program access of a word that is not blank is refused. -/
theorem State.otpStart_written (h : s.lcy.op = none) (ho : s.otpOpen (s.get F.LCY_OTP_ADDR_WORD) = true)
    (hw : s.otpWord (s.get F.LCY_OTP_ADDR_WORD) ≠ 0) :
    ((s.setReg a (s.reg a)).otpStart true).get F.LCY_OTP_STATUS_RESULT = 2 ∧ ((s.setReg a (s.reg a)).otpStart true).lcy = s.lcy := by
  obtain ⟨-, hres, -⟩ := State.otpRefused_shows (s := s.setReg a (s.reg a)) (code := 2) (by decide)
  rw [State.otpStart_setReg_id, if_neg (by rw [h]; decide), if_neg (by rw [ho]; decide),
    if_pos (by rw [Bool.true_and]; exact bne_iff_ne.2 hw)]
  exact ⟨hres, by rw [State.irq_lcy, State.set_lcy, State.setReg_lcy]⟩

/-- An access that may start holds its word and data. -/
theorem State.otpStart_runs (h : s.lcy.op = none)
    (hp : prog = true → s.otpOpen (s.get F.LCY_OTP_ADDR_WORD) = true ∧ s.otpWord (s.get F.LCY_OTP_ADDR_WORD) = 0) :
    ((s.setReg a (s.reg a)).otpStart prog).get F.LCY_OTP_STATUS_BUSY = 1 ∧
      ((s.setReg a (s.reg a)).otpStart prog).lcy =
        { s.lcy with op := some ⟨prog, s.get F.LCY_OTP_ADDR_WORD, s.reg A.LCY_OTP_DATA⟩ } := by
  have hopen : ¬ (prog && !s.otpOpen (s.get F.LCY_OTP_ADDR_WORD)) = true := by
    cases prog
    · exact Bool.false_ne_true
    · rw [(hp rfl).1]; decide
  have hblank : ¬ (prog && s.otpWord (s.get F.LCY_OTP_ADDR_WORD) != 0) = true := by
    cases prog
    · exact Bool.false_ne_true
    · rw [(hp rfl).2]; decide
  rw [State.otpStart_setReg_id, if_neg (by rw [h]; decide), if_neg hopen, if_neg hblank]
  exact ⟨State.otpRuns_busy _ _ _, by rw [State.otpRuns_lcy, State.setReg_lcy]⟩

end

/-- What an access may write as it starts or is refused. -/
theorem State.otpStart_touches (prog : Bool) :
    Touches [.lcy] [] [whole A.LCY_OTP_STATUS, F.PG_IRQ 0x07 5] s (s.otpStart prog) := by
  have hset (f : Fld) (v : Nat) (hf : f.addr = A.LCY_OTP_STATUS) :
      Touches [.lcy] [] [whole A.LCY_OTP_STATUS, F.PG_IRQ 0x07 5] s (s.set f v) :=
    (Touches.refl _ _ _ s).set_whole _ (by rw [hf]; decide)
  unfold State.otpStart
  dsimp only
  split
  · exact hset _ _ rfl
  · split
    · exact (hset _ _ rfl).irq (.inr (by decide))
    · split
      · exact (hset _ _ rfl).irq (.inr (by decide))
      · exact (hset _ _ rfl).put_lcy _ (by decide)

/-- A read is never refused for its word, so it raises nothing. -/
theorem State.otpStart_read_touches : Touches [.lcy] [] [whole A.LCY_OTP_STATUS] s (s.otpStart false) := by
  have hset (f : Fld) (v : Nat) (hf : f.addr = A.LCY_OTP_STATUS) : Touches [.lcy] [] [whole A.LCY_OTP_STATUS] s (s.set f v) :=
    (Touches.refl _ _ _ s).set_whole _ (by rw [hf]; decide)
  unfold State.otpStart
  dsimp only
  rw [Bool.false_and, Bool.false_and, if_neg Bool.false_ne_true, if_neg Bool.false_ne_true]
  split
  · exact hset _ _ rfl
  · exact (hset _ _ rfl).put_lcy _ (by decide)

/-! ## The end of an OTP access -/

/-- The common part of an access's end: none runs, BUSY falls, the interrupt. -/
def State.otpEnded (s : State) : State := ({ s with lcy := { s.lcy with op := none } }.set F.LCY_OTP_STATUS_BUSY 0).irq 7 5

theorem State.otpEnded_shows : s.otpEnded.lcy = { s.lcy with op := none } ∧ s.otpEnded.otp = s.otp ∧
    s.otpEnded.get F.LCY_OTP_STATUS_BUSY = 0 ∧ s.otpEnded.on (F.PG_IRQ 0x07 5) = true := by
  refine ⟨?_, ?_, ?_, State.on_of_get_one _ (State.get_irq_self _ 7 5 (by decide))⟩
  · rw [State.otpEnded, State.irq_lcy, State.set_lcy]
  · rw [State.otpEnded, State.irq_otp, State.set_otp]
  · rw [State.otpEnded, State.irq, State.get_set_ne _ _ (Fld.fits_of_ble rfl) (.inl (by decide)),
      State.get_set_self _ _ _ (Fld.fits_of_ble rfl), Nat.zero_mod]

theorem State.otpEnded_touches : Touches [.lcy] [] [whole A.LCY_OTP_STATUS, F.PG_IRQ 0x07 5] s s.otpEnded :=
  (((Touches.refl _ _ _ s).put_lcy _ (by decide)).set_whole _ (by decide)).irq (.inr (by decide))

/-- The result of an access beside what its end shows. -/
theorem State.otpResult_shows {t : State} {r : Nat} (hr : r < 16) (ho : t.on (F.PG_IRQ 0x07 5) = true)
    (hb : t.get F.LCY_OTP_STATUS_BUSY = 0) :
    (t.set F.LCY_OTP_STATUS_RESULT r).get F.LCY_OTP_STATUS_BUSY = 0 ∧
      (t.set F.LCY_OTP_STATUS_RESULT r).get F.LCY_OTP_STATUS_RESULT = r ∧
      (t.set F.LCY_OTP_STATUS_RESULT r).on (F.PG_IRQ 0x07 5) = true := by
  refine ⟨?_, ?_, ?_⟩
  · rw [State.get_set_ne _ _ (Fld.fits_of_ble rfl) (.inr (.inl (by decide))), hb]
  · rw [State.get_set_self _ _ _ (Fld.fits_of_ble rfl)]
    exact Nat.mod_eq_of_lt hr
  · rw [State.on_set_ne _ _ (Fld.fits_of_ble rfl) (.inl (by decide)), ho]

theorem State.otpDone_prog {verified : Bool} {k : Nat} {x : Word} (h : s.lcy.op = some ⟨true, k, x⟩) :
    s.otpDone verified = (s.otpEnded.otpProgram k x).set F.LCY_OTP_STATUS_RESULT (if verified then 0 else 3) := by
  unfold State.otpDone
  rw [h]
  exact if_neg Bool.false_ne_true

theorem State.otpDone_read {verified : Bool} {k : Nat} {x : Word} (h : s.lcy.op = some ⟨false, k, x⟩) :
    s.otpDone verified = (s.otpEnded.setReg A.LCY_OTP_DATA (s.otpEnded.otpWord k)).set F.LCY_OTP_STATUS_RESULT 0 := by
  unfold State.otpDone
  rw [h]
  exact if_pos rfl

/-- Programming writes the OTP alone. -/
theorem State.otpProgram_reads (k : Nat) (x : Word) : (s.otpProgram k x).otp = store s.otp k (lookup s.otp k 0 ||| x) 0 ∧
    (s.otpProgram k x).lcy = s.lcy ∧ ∀ f : Fld, (s.otpProgram k x).get f = s.get f := ⟨rfl, rfl, fun _ => rfl⟩

/-- What the end of a program access leaves. -/
theorem State.otpDone_prog_leaves (verified : Bool) {k : Nat} {x : Word} (h : s.lcy.op = some ⟨true, k, x⟩) :
    (s.otpDone verified).lcy = { s.lcy with op := none } ∧
      (s.otpDone verified).otp = store s.otp k (lookup s.otp k 0 ||| x) 0 ∧
      ((s.otpDone verified).get F.LCY_OTP_STATUS_BUSY = 0 ∧
        (s.otpDone verified).get F.LCY_OTP_STATUS_RESULT = (if verified then 0 else 3) ∧
        (s.otpDone verified).on (F.PG_IRQ 0x07 5) = true) ∧
      Touches [.lcy, .otp] [] [whole A.LCY_OTP_STATUS, F.PG_IRQ 0x07 5] s (s.otpDone verified) := by
  obtain ⟨hlcy, hotp, hbusy, hirq⟩ := s.otpEnded_shows
  obtain ⟨hprog, hplcy, hget⟩ := State.otpProgram_reads (s := s.otpEnded) k x
  rw [State.otpDone_prog h]
  refine ⟨by rw [State.set_lcy, hplcy, hlcy], by rw [State.set_otp, hprog, hotp],
    State.otpResult_shows (by split <;> decide) ((State.on_congr _ (hget _)).trans hirq) ((hget _).trans hbusy), ?_⟩
  exact ((s.otpEnded_touches.mono (by decide) (by decide) (List.Subset.refl _)).put_otp _ (by decide)).set_whole _ (by decide)

/-- What the end of a read access leaves. -/
theorem State.otpDone_read_leaves (verified : Bool) {k : Nat} {x : Word} (h : s.lcy.op = some ⟨false, k, x⟩) :
    (s.otpDone verified).lcy = { s.lcy with op := none } ∧
      (256 ≤ k → (s.otpDone verified).reg A.LCY_OTP_DATA = lookup s.otp k 0) ∧
      (s.otpDone verified).get F.LCY_OTP_STATUS_BUSY = 0 ∧ (s.otpDone verified).get F.LCY_OTP_STATUS_RESULT = 0 ∧
      (s.otpDone verified).on (F.PG_IRQ 0x07 5) = true ∧
      Touches [.lcy] [] [whole A.LCY_OTP_STATUS, whole A.LCY_OTP_DATA, F.PG_IRQ 0x07 5] s (s.otpDone verified) := by
  obtain ⟨hlcy, hotp, hbusy, hirq⟩ := s.otpEnded_shows
  have hget (f : Fld) (hf : A.LCY_OTP_DATA ≠ f.addr) :
      (s.otpEnded.setReg A.LCY_OTP_DATA (s.otpEnded.otpWord k)).get f = s.otpEnded.get f := State.get_setReg_ne _ _ hf
  obtain ⟨hb, hr, hi⟩ := State.otpResult_shows (t := s.otpEnded.setReg A.LCY_OTP_DATA (s.otpEnded.otpWord k)) (r := 0) (by decide)
    ((State.on_congr _ (hget _ (by decide))).trans hirq) ((hget _ (by decide)).trans hbusy)
  rw [State.otpDone_read h]
  refine ⟨by rw [State.set_lcy, State.setReg_lcy, hlcy], fun hk => ?_, hb, hr, hi, ?_⟩
  · rw [State.reg_set_ne _ _ (by decide), State.reg_setReg_self, State.otpWord, if_neg (Nat.not_lt.2 hk), hotp]
  · exact ((s.otpEnded_touches.mono (List.Subset.refl _) (by decide) (by decide)).setReg _ (.inr (by decide))).set_whole _ (by decide)

end Sys2Proof.Machine
end

section
/-! PROOFS. Life-cycle transitions (R473) up to the outputs, and the restarts they and SYS_SW_RESET end with (R42, R475). -/

namespace Sys2Proof.Machine

variable {s : State}

/-! ## Restarts -/

/-- What every restart leaves (R52): the AON accounting cleared too. -/
structure Restarted (cause : Nat) (s u : State) : Prop where
  boot : u.boot = .start cause
  domState : u.domState = 6
  otp : u.otp = s.otp
  lcy : u.lcy = State.reset.lcy
  regs : u.regs = []
  sram : u.sram = []

theorem State.enterReset_restarted (cause : Nat) : Restarted cause s (s.enterReset true (.start cause)) :=
  ⟨rfl, rfl, rfl, rfl, rfl, rfl⟩

theorem State.hardReset_restarted (cause : Nat) (h : s.boot ≠ .held) : Restarted cause s (s.hardReset cause) := by
  unfold State.hardReset
  split
  · contradiction
  · exact State.enterReset_restarted cause

/-- The accounting's registers read 0 in a cleared register file. -/
theorem Restarted.accounting {cause k : Nat} {u : State} (h : Restarted cause s u) (hk : k < 6) : u.reg (aonRegs.getD k 0) = 0 := by
  have hzero : ∀ k < 6, regReset (aonRegs.getD k 0) = 0 := by decide
  rw [State.reg, h.regs]
  exact hzero k hk

/-! ## Refused transitions -/

theorem State.setReg_lcFuses (s : State) (a : Nat) (w : Word) : (s.setReg a w).lcFuses = s.lcFuses := rfl

theorem State.setReg_digest (s : State) (a : Nat) (w : Word) (k : Nat) : (s.setReg a w).digest k = s.digest k := rfl

/-- LCY_CTRL after a write: KEY and TARGET of the word. -/
def State.lcyCtrlTaken (s : State) (w : Word) : State :=
  s.setReg A.LCY_CTRL (setBits (setBits (s.reg A.LCY_CTRL) 16 16 (bits w 16 16)) 2 2 (bits w 2 2))

/-- TARGET as written; every other field and the OTP as they were. -/
theorem State.lcyCtrlTaken_reads (w : Word) : (s.lcyCtrlTaken w).get F.LCY_CTRL_TARGET = bits w 2 2 ∧
    (∀ f : Fld, A.LCY_CTRL ≠ f.addr → (s.lcyCtrlTaken w).get f = s.get f) := by
  refine ⟨?_, fun f hf => s.get_setReg_ne _ hf⟩
  rw [State.get, State.lcyCtrlTaken, show F.LCY_CTRL_TARGET.addr = A.LCY_CTRL from rfl, State.reg_setReg_self]
  exact (bits_setBits_self _ _ _ _ (by decide)).trans (Nat.mod_eq_of_lt (bits_lt _ _ _))

/-- The refusal of a transition, in what the state before the write shows (R473). -/
theorem State.lcyRefusal_taken (w : Word) (key : Nat) : (s.lcyCtrlTaken w).lcyRefusal key =
    if key ≠ 0x4C43 then 1
    else if 6 ≤ s.lcFuses then 5
    else if bits w 2 2 ≠ lcCode (s.lcFuses + 1) then 2
    else if (s.lcFuses = 0 ∧ blankDigest (s.digest 0x114)) ∨
      ((s.lcFuses = 2 ∨ s.lcFuses = 3 ∨ s.lcFuses = 5) ∧ !s.on F.LCY_STATUS_UNLOCKED) then 3
    else if s.domState ≠ 0 ∨ s.pwrBusy ∨ s.lcy.trans ∨ s.lcy.check.isSome then 4
    else 0 := by
  obtain ⟨htarget, hother⟩ := s.lcyCtrlTaken_reads w
  have hunlocked : (s.lcyCtrlTaken w).on F.LCY_STATUS_UNLOCKED = s.on F.LCY_STATUS_UNLOCKED := State.on_congr _ (hother _ (by decide))
  have hbusy : (s.lcyCtrlTaken w).pwrBusy = s.pwrBusy := State.on_congr _ (hother _ (by decide))
  have hdom : (s.lcyCtrlTaken w).domState = s.domState := s.setReg_domState _ _
  have hlcy : (s.lcyCtrlTaken w).lcy = s.lcy := s.setReg_lcy _ _
  have hfuses : (s.lcyCtrlTaken w).lcFuses = s.lcFuses := s.setReg_lcFuses _ _
  have hdigest : (s.lcyCtrlTaken w).digest 0x114 = s.digest 0x114 := s.setReg_digest _ _ _
  unfold State.lcyRefusal
  dsimp only
  rw [htarget, hunlocked, hbusy, hfuses, hdigest, hdom, hlcy]

/-- A refused transition shows its result and nothing else. -/
theorem State.lcyGo_refused {key : Nat} (h : s.lcyRefusal key ≠ 0) : s.lcyGo key = s.set F.LCY_STATUS_RESULT (s.lcyRefusal key) := by
  unfold State.lcyGo
  exact if_pos h

theorem State.lcyRefusal_lt (key : Nat) : s.lcyRefusal key < 16 := by
  unfold State.lcyRefusal
  dsimp only
  repeat' split
  all_goals decide

/-- GO in the word that is written. -/
theorem State.writeOne_lcyGo {ini : Nat} {w : Word} (h : s.mayWrite ini A.LCY_CTRL (w ||| 0x1#32) = true) :
    s.writeOne none ini A.LCY_CTRL (w ||| 0x1#32) = (s.lcyCtrlTaken w).lcyGo (bits w 16 16) := by
  rw [State.writeOne_lcyCtrl h, hit_or_const w _ (by decide), State.when_true, bits_or_const w (0x1#32) (lo := 16) (by decide),
    bits_or_const w (0x1#32) (lo := 2) (by decide)]
  rfl

theorem State.lcyCtrlTaken_touches (w : Word) {ps : List Part} {gs : List Nat} {fs : List Fld} (h : whole A.LCY_CTRL ∈ fs) :
    Touches ps gs fs s (s.lcyCtrlTaken w) := (Touches.refl _ _ _ s).setReg _ (.inr h)

end Sys2Proof.Machine
end

section
/-! PROOFS. Frames of the DAC channels' and the speakers' sequences (R114 to R119, R125, R154 to R156): their records, and the
registers of the audio pages. -/

namespace Sys2Proof.Machine

/-! ## Pages of the outputs' registers -/

theorem aoutRegs_page : ∀ c < 8, A.AOUT_STATUS c / 0x400 ∈ audioPages ∧ A.AOUT_SLICE c / 0x400 ∈ audioPages := by decide

theorem spkRegs_page : ∀ n < 4, A.SPK_STATUS n / 0x400 ∈ audioPages ∧ A.SPK_FAULT_CNT n / 0x400 ∈ audioPages ∧
    A.SPK_GUARD_STATUS n / 0x400 ∈ audioPages := by decide

variable {ps : List Part} {gs : List Nat} {fs : List Fld} {s t : State}

/-! ## DAC channels -/

section
variable (hp : .aout ∈ ps) (hg : audioPages ⊆ gs) {c : Nat} (hc : c < 8)

include hp

theorem Touches.aoutPress (h : Touches ps gs fs s t) (us : Nat) : Touches ps gs fs s (t.aoutPress c us) := h.modAout c _ hp

theorem Touches.aoutApply (h : Touches ps gs fs s t) : Touches ps gs fs s (t.aoutApply c) := h.modAout c _ hp

include hg hc

theorem Touches.aoutSync (h : Touches ps gs fs s t) (us : Nat) : Touches ps gs fs s (t.aoutSync c us) := by
  have hpage : A.AOUT_STATUS c / 0x400 ∈ gs := hg (aoutRegs_page c hc).1
  unfold State.aoutSync
  extract_lets up s1 a
  have k1 : Touches ps gs fs s s1 := h.modAout c _ hp
  exact (((k1.set _ (.inl hpage)).setB _ (.inl hpage)).setB _ (.inl hpage)).set _ (.inl hpage)

theorem Touches.aoutPhase (h : Touches ps gs fs s t) (p : AoutPhase) (us : Nat) : Touches ps gs fs s (t.aoutPhase c p us) :=
  (h.modAout c _ hp).aoutSync hp hg hc us

theorem Touches.aoutRefill (h : Touches ps gs fs s t) : Touches ps gs fs s (t.aoutRefill c) := by
  unfold State.aoutRefill
  extract_lets s1
  have k1 : Touches ps gs fs s s1 := (h.aoutApply hp).modAout c _ hp
  split
  · exact k1.aoutPhase hp hg hc _ _
  · exact (k1.modAout c _ hp).aoutPhase hp hg hc _ _

theorem Touches.aoutChange (h : Touches ps gs fs s t) : Touches ps gs fs s (t.aoutChange c) := by
  have hstart := (h.aoutApply (c := c) hp).aoutPhase hp hg hc .starting 5000
  have hoff := (h.aoutApply (c := c) hp).aoutSync hp hg hc 5000
  have hmute := h.aoutPhase hp hg hc .recMute 1000
  unfold State.aoutChange
  split
  · exact hmute
  · exact hmute
  · exact hmute
  · exact h.aoutRefill hp hg hc
  · exact hstart
  · exact hstart
  · exact hstart
  · exact hstart
  · exact hstart
  · exact hoff
  · exact hoff
  · exact hoff
  · exact h
  · exact h

theorem Touches.dacHeld (h : Touches ps gs fs s t) : Touches ps gs fs s (t.dacHeld c) :=
  h.when _ (fun _ => (h.set _ (.inl (hg (aoutRegs_page c hc).1))).aoutChange hp hg hc)

theorem Touches.aoutHush (h : Touches ps gs fs s t) : Touches ps gs fs s (t.aoutHush c) := by
  have hramp := ((h.modAout c (fun a => { a with wasOn := true }) hp).aoutPhase hp hg hc .quiesced 150).aoutPress (c := c) hp 150
  have hreconf := (((h.aoutApply (c := c) hp).modAout c (fun a => { a with wasOn := true }) hp).aoutPhase hp hg hc .quiesced
    150).aoutPress (c := c) hp 150
  unfold State.aoutHush
  split
  · exact hramp
  · exact hramp
  · exact hramp
  · exact hreconf
  · exact hreconf
  · exact h

theorem Touches.aoutBegin (h : Touches ps gs fs s t) : Touches ps gs fs s (t.aoutBegin c) :=
  (((h.aoutApply hp).modAout c _ hp).set _ (.inl (hg (aoutRegs_page c hc).1))).aoutPhase hp hg hc _ _

theorem Touches.aoutReturn (h : Touches ps gs fs s t) : Touches ps gs fs s (t.aoutReturn c) := by
  unfold State.aoutReturn
  split
  · exact h
  · split
    · exact h.aoutBegin hp hg hc
    · exact (h.aoutApply hp).aoutPhase hp hg hc _ _

end

section
variable (hp : .aout ∈ ps) (hk : .cpStop ∈ ps) (hg : audioPages ⊆ gs)
include hk hg

theorem Touches.pumpForced (h : Touches ps gs fs s t) : Touches ps gs fs s t.pumpForced :=
  h.when _ (fun _ => h.when _ (fun _ => (h.set _ (.inl (hg (by decide)))).put_cpStop _ hk))

include hp

theorem Touches.aoutIsolate (h : Touches ps gs fs s t) : Touches ps gs fs s t.aoutIsolate :=
  ((h.forAll 8 (fun _ c _ hf => hf.modAout c _ hp)).set _ (.inl (hg (by decide)))).put_cpStop _ hk

theorem Touches.aoutRestart (h : Touches ps gs fs s t) : Touches ps gs fs s t.aoutRestart :=
  (h.forAll 8 (fun _ _ hc hf => hf.aoutReturn hp hg hc)).pumpForced hk hg

end

/-! ## DAC slice substitution -/

/-- A shadow that QUIESCE ends, up to the write it held (R125). -/
def State.dacShadowOff (s : State) (g : Nat) (u : Subst) : State :=
  ((((s.setDsl u.spare u.prev).setDacSub g none).set (F.AOUT_SLICE_SUBST u.unit) 0).set (F.AOUT_SLICE_SHADOW u.unit) 0).dacAborted
    u.unit 3 2

/-- QUIESCE ends a shadow; a crossfade goes on. -/
theorem State.dacAbortShadow_cases (s : State) (g : Nat) : s.dacAbortShadow g 3 = s ∨
    ∃ u, s.dacSub g = some u ∧ s.dacAbortShadow g 3 = (s.dacShadowOff g u).dacHeld u.unit := by
  unfold State.dacAbortShadow State.dacAbort
  cases hsub : s.dacSub g with
  | none => exact .inl rfl
  | some u =>
    dsimp only
    split
    · exact .inl rfl
    · exact .inr ⟨u, rfl, rfl⟩

/-- QUIESCE ends the shadows of pair k's channels. -/
def State.dacShadowsOff (s : State) (k : Nat) : State :=
  s.forAll 2 (fun s g => s.when (match s.dacSub g with | some u => decide (u.unit / 2 = k) | none => false) (·.dacAbortShadow g 3))

theorem State.aoutQuiesce_eq (s : State) (k : Nat) :
    s.aoutQuiesce k = ((s.dacShadowsOff k).aoutHush (2 * k)).aoutHush (2 * k + 1) := rfl

/-- A loop over the groups that acts on the pair's own shadow. -/
theorem State.dacShadowsOff_preserves {P : State → Prop} {k : Nat} {s : State} (h0 : P s)
    (h : ∀ t g u, P t → t.dacSub g = some u → u.unit / 2 = k → P ((t.dacShadowOff g u).dacHeld u.unit)) :
    P (s.dacShadowsOff k) := by
  have hstep (t : State) (g : Nat) (ht : P t) :
      P (t.when (match t.dacSub g with | some u => decide (u.unit / 2 = k) | none => false) (·.dacAbortShadow g 3)) := by
    cases hsub : t.dacSub g with
    | none => exact ht
    | some u =>
      dsimp only
      by_cases hk : u.unit / 2 = k
      · rw [decide_eq_true hk, State.when_true]
        rcases t.dacAbortShadow_cases g with heq | ⟨v, hv, heq⟩
        · rwa [heq]
        · rw [hsub] at hv
          obtain rfl := Option.some.inj hv
          rw [heq]
          exact h t g u ht hsub hk
      · rwa [decide_eq_false hk, State.when_false]
  exact hstep _ 1 (hstep _ 0 h0)

section
variable (ho : .otp ∈ ps) (hm : 0x06 ∈ gs)
include ho hm

theorem Touches.spareLogIf (h : Touches ps gs fs s t) (changed : Bool) (kind a b c : Nat) :
    Touches ps gs fs s (t.spareLogIf changed kind a b c) := by
  refine h.when _ (fun _ => ?_)
  have hlog : A.MNT_LOG / 0x400 ∈ gs := hm
  unfold State.spareLog
  extract_lets used s1
  split
  · exact h
  · have k1 : Touches ps gs fs s s1 := (h.put_otp _ ho).set _ (.inl hlog)
    exact k1.when _ (fun _ => ((k1.set _ (.inl hlog)).fault 1 (.inl hm)).irq (.inl hm))

variable (hg : audioPages ⊆ gs)
include hg

theorem Touches.setDsl (h : Touches ps gs fs s t) (d v : Nat) : Touches ps gs fs s (t.setDsl d v) :=
  (h.spareLogIf ho hm _ _ _ _ _).set _ (.inl (hg (show A.JCK_DSL_STATE / 0x400 ∈ audioPages by decide)))

omit ho hm in
theorem Touches.dacAborted (h : Touches ps gs fs s t) (hj : .jobs ∈ ps) (c cause result : Nat) :
    Touches ps gs fs s (t.dacAborted c cause result) := by
  have hpage : A.JCK_SUBST_STATUS / 0x400 ∈ gs := hg (by decide)
  have hpre := (((h.set (f := F.JCK_SUBST_STATUS_ABORT_CAUSE) cause (.inl hpage)).set (f := F.JCK_SUBST_STATUS_ABORTED) 1
    (.inl hpage)).set (f := F.JCK_SUBST_STATUS_PHASE) 0 (.inl hpage)).irq (page := 0x0D) (i := 10) (.inl (hg (by decide)))
  unfold State.dacAborted State.finishJob
  split
  · exact hpre.modJob _ _ hj
  · exact hpre

variable (hd : .dacSubst ∈ ps) (hj : .jobs ∈ ps)
include hd hj

theorem Touches.dacShadowOff (h : Touches ps gs fs s t) (g : Nat) {u : Subst} (hu : u.unit < 8) :
    Touches ps gs fs s (t.dacShadowOff g u) := by
  have hslice : A.AOUT_SLICE u.unit / 0x400 ∈ gs := hg (aoutRegs_page _ hu).2
  exact ((((h.setDsl ho hm hg _ _).setDacSub _ _ hd).set _ (.inl hslice)).set _ (.inl hslice)).dacAborted hg hj _ _ _

variable (hp : .aout ∈ ps)
include hp

/-- QUIESCE of a pair writes its channels, the aborted substitution and its log record (R119, R125). -/
theorem Touches.aoutQuiesce (h : Touches ps gs fs s t) {k : Nat} (hk : k < 4) : Touches ps gs fs s (t.aoutQuiesce k) := by
  rw [State.aoutQuiesce_eq]
  have hoff : Touches ps gs fs s (t.dacShadowsOff k) := State.dacShadowsOff_preserves h (fun r g u hr _ hu =>
    (hr.dacShadowOff ho hm hg hd hj g (by omega)).dacHeld hp hg (by omega))
  exact (hoff.aoutHush hp hg (by omega)).aoutHush hp hg (by omega)

end

/-! ## Speakers -/

section
variable (hp : .spk ∈ ps) (hg : audioPages ⊆ gs) {n : Nat} (hn : n < 4)
include hp

theorem Touches.spkPress (h : Touches ps gs fs s t) (us : Nat) : Touches ps gs fs s (t.spkPress n us) := h.modSpk n _ hp

theorem Touches.spkApply (h : Touches ps gs fs s t) : Touches ps gs fs s (t.spkApply n) := h.modSpk n _ hp

include hg hn

theorem Touches.spkHiz (h : Touches ps gs fs s t) : Touches ps gs fs s (t.spkHiz n) :=
  (h.modSpk n _ hp).set _ (.inl (hg (spkRegs_page n hn).1))

theorem Touches.spkSync (h : Touches ps gs fs s t) (us : Nat) : Touches ps gs fs s (t.spkSync n us) := by
  have hpage : A.SPK_STATUS n / 0x400 ∈ gs := hg (spkRegs_page n hn).1
  unfold State.spkSync
  extract_lets up s1
  have k1 : Touches ps gs fs s s1 := h.modSpk n _ hp
  exact (k1.set _ (.inl hpage)).set _ (.inl hpage)

theorem Touches.spkPhase (h : Touches ps gs fs s t) (p : SpkPhase) (us : Nat) : Touches ps gs fs s (t.spkPhase n p us) :=
  ((h.when _ (fun _ => h.inc (.inl (hg (spkRegs_page n hn).2.1)))).modSpk n _ hp).spkSync hp hg hn us

theorem Touches.spkDown (h : Touches ps gs fs s t) (p : SpkPhase) (us : Nat) : Touches ps gs fs s (t.spkDown n p us) :=
  (h.spkPhase hp hg hn p us).spkPress hp us

theorem Touches.spkQuiesce (h : Touches ps gs fs s t) : Touches ps gs fs s (t.spkQuiesce n) := by
  have h0 : Touches ps gs fs s (t.set (F.SPK_GUARD_STATUS_PILOT_ON n) 0) := h.set _ (.inl (hg (spkRegs_page n hn).2.2))
  have hdown := h0.spkDown hp hg hn .quiesced 150
  have hreconf := (h0.spkApply (n := n) hp).spkDown hp hg hn .quiesced 150
  have hpress := h0.spkPress (n := n) hp 150
  unfold State.spkQuiesce
  dsimp only
  split
  · exact hdown
  · exact hdown
  · exact hdown
  · exact hdown
  · exact hdown
  · exact hreconf
  · exact hreconf
  · exact hpress
  · exact hpress
  · exact h0
  · exact h0
  · exact h0

theorem Touches.spkBegin (h : Touches ps gs fs s t) : Touches ps gs fs s (t.spkBegin n) :=
  ((h.spkApply hp).modSpk n _ hp).spkPhase hp hg hn _ _

theorem Touches.spkReturn (h : Touches ps gs fs s t) : Touches ps gs fs s (t.spkReturn n) := by
  have hoff := h.spkPhase hp hg hn .off 1000
  unfold State.spkReturn
  dsimp only
  split
  · exact h
  · split
    · exact hoff.spkBegin hp hg hn
    · exact hoff.spkHiz hp hg hn

end

section
variable (hp : .spk ∈ ps) (hg : audioPages ⊆ gs)
include hp hg

theorem Touches.spkIsolate (h : Touches ps gs fs s t) : Touches ps gs fs s t.spkIsolate :=
  h.forAll 4 (fun _ _ hn hf => hf.spkHiz hp hg hn)

theorem Touches.spkRestart (h : Touches ps gs fs s t) : Touches ps gs fs s t.spkRestart :=
  h.forAll 4 (fun _ _ hn hf => hf.spkReturn hp hg hn)

end

end Sys2Proof.Machine
end

section
/-! PROOFS. Where QUIESCE and the return of a domain leave the outputs' channels (R114, R119, R154, R156). -/

namespace Sys2Proof.Machine

variable {s : State} {c d n m k : Nat}

/-! ## Loops over channels -/

/-- `State.forAll_at` where the steps below the bound alone keep to their own index. -/
theorem State.forAll_at_lt {β : Type} (g : State → Nat → β) {N : Nat} {f : State → Nat → State}
    (hne : ∀ t k n, k < N → k ≠ n → g (f t k) n = g t n) (hn : n < N) :
    ∃ t, g t n = g s n ∧ g (s.forAll N f) n = g (f t n) n := by
  have hloop : s.forAll N f = s.forAll N (fun t k => if k < N then f t k else t) :=
    List.foldl_ext _ _ _ (fun t k hk => (if_pos (List.mem_range.1 hk)).symm)
  obtain ⟨t, ht, hg⟩ := State.forAll_at (s := s) g (f := fun t k => if k < N then f t k else t) (fun t k n hkn => by
    by_cases hk : k < N
    · rw [if_pos hk, hne t k n hk hkn]
    · rw [if_neg hk]) hn
  refine ⟨t, ht, ?_⟩
  rw [hloop, hg, if_pos hn]

/-! ## One DAC channel -/

theorem State.aoutSync_aoutAt_ne (us : Nat) (h : c ≠ d) : (s.aoutSync c us).aoutAt d = s.aoutAt d := by
  unfold State.aoutSync
  simp only [State.set_aoutAt, State.setB_aoutAt, s.aoutAt_modAout_ne h]

/-- Status and gain leave the phase. -/
theorem State.aoutSync_phase (us : Nat) (hc : c < 8) : ((s.aoutSync c us).aoutAt c).phase = (s.aoutAt c).phase := by
  unfold State.aoutSync
  simp only [State.set_aoutAt, State.setB_aoutAt, s.aoutAt_modAout_self hc]
  split <;> rfl

theorem State.aoutPhase_aoutAt_ne (p : AoutPhase) (us : Nat) (h : c ≠ d) : (s.aoutPhase c p us).aoutAt d = s.aoutAt d :=
  (State.aoutSync_aoutAt_ne us h).trans (s.aoutAt_modAout_ne h _)

theorem State.aoutPhase_phase (p : AoutPhase) (us : Nat) (hc : c < 8) : ((s.aoutPhase c p us).aoutAt c).phase = p :=
  (State.aoutSync_phase us hc).trans (congrArg Aout.phase (s.aoutAt_modAout_self hc _))

theorem State.aoutPress_phase (us : Nat) (hc : c < 8) : ((s.aoutPress c us).aoutAt c).phase = (s.aoutAt c).phase := by
  rw [State.aoutPress, s.aoutAt_modAout_self hc]
  split <;> rfl

theorem State.aoutApply_aoutAt_ne (h : c ≠ d) : (s.aoutApply c).aoutAt d = s.aoutAt d := s.aoutAt_modAout_ne h _

theorem State.aoutRefill_aoutAt_ne (h : c ≠ d) : (s.aoutRefill c).aoutAt d = s.aoutAt d := by
  unfold State.aoutRefill
  dsimp only
  split
  · rw [State.aoutPhase_aoutAt_ne _ _ h, State.aoutAt_modAout_ne _ h, State.aoutApply_aoutAt_ne h]
  · rw [State.aoutPhase_aoutAt_ne _ _ h, State.aoutAt_modAout_ne _ h, State.aoutAt_modAout_ne _ h, State.aoutApply_aoutAt_ne h]

theorem State.aoutChange_aoutAt_ne (h : c ≠ d) : (s.aoutChange c).aoutAt d = s.aoutAt d := by
  have happly (p : AoutPhase) : ((s.aoutApply c).aoutPhase c p 5000).aoutAt d = s.aoutAt d :=
    (State.aoutPhase_aoutAt_ne p 5000 h).trans (State.aoutApply_aoutAt_ne h)
  have hsync : ((s.aoutApply c).aoutSync c 5000).aoutAt d = s.aoutAt d :=
    (State.aoutSync_aoutAt_ne 5000 h).trans (State.aoutApply_aoutAt_ne h)
  have hmute : (s.aoutPhase c .recMute 1000).aoutAt d = s.aoutAt d := State.aoutPhase_aoutAt_ne _ _ h
  unfold State.aoutChange
  split
  · exact hmute
  · exact hmute
  · exact hmute
  · exact State.aoutRefill_aoutAt_ne h
  · exact happly _
  · exact happly _
  · exact happly _
  · exact happly _
  · exact happly _
  · exact hsync
  · exact hsync
  · exact hsync
  · rfl
  · rfl

theorem State.dacHeld_aoutAt_ne (h : c ≠ d) : (s.dacHeld c).aoutAt d = s.aoutAt d := by
  unfold State.dacHeld
  cases s.on (F.AOUT_STATUS_FMT_PENDING c)
  · rfl
  · exact (State.aoutChange_aoutAt_ne h).trans (State.set_aoutAt ..)

/-- The channel sounds, or mutes for a reconfiguration out of RUNNING: QUIESCE brings either to QUIESCED. -/
def AoutPhase.sounds (p : AoutPhase) : Prop := p = .running ∨ p = .recMute

/-- A held write mutes a running channel at most. -/
theorem State.dacHeld_sounds (hc : c < 8) (h : (s.aoutAt c).phase.sounds) : ((s.dacHeld c).aoutAt c).phase.sounds := by
  unfold State.dacHeld
  cases s.on (F.AOUT_STATUS_FMT_PENDING c)
  · exact h
  · rw [State.when_true]
    unfold State.aoutChange
    rw [State.set_aoutAt]
    rcases h with h | h <;> rw [h]
    · exact .inr (State.aoutPhase_phase _ _ hc)
    · exact .inr h

/-- The end of a shadow, up to the held write, writes no channel. -/
theorem State.dacShadowOff_aoutAt (g : Nat) {u : Subst} (hu : u.unit < 8) : (s.dacShadowOff g u).aoutAt d = s.aoutAt d := by
  have ht : Touches [.otp, .dacSubst, .jobs] (0x06 :: audioPages) [] s (s.dacShadowOff g u) :=
    (Touches.refl _ _ _ s).dacShadowOff (by decide) (by decide) (by simp) (by decide) (by decide) g hu
  rw [State.aoutAt, State.aoutAt, show (s.dacShadowOff g u).aout = s.aout from ht.1 .aout (by decide)]

/-! ## QUIESCE of a pair -/

theorem State.aoutHush_aoutAt_ne (h : c ≠ d) : (s.aoutHush c).aoutAt d = s.aoutAt d := by
  have hramp (t : State) : (((t.modAout c (fun a => { a with wasOn := true })).aoutPhase c .quiesced 150).aoutPress c 150).aoutAt d =
      t.aoutAt d := by
    rw [State.aoutPress, State.aoutAt_modAout_ne _ h, State.aoutPhase_aoutAt_ne _ _ h, State.aoutAt_modAout_ne _ h]
  unfold State.aoutHush
  split
  · exact hramp s
  · exact hramp s
  · exact hramp s
  · exact (hramp _).trans (State.aoutApply_aoutAt_ne h)
  · exact (hramp _).trans (State.aoutApply_aoutAt_ne h)
  · rfl

theorem State.aoutHush_sounds (hc : c < 8) (h : (s.aoutAt c).phase.sounds) : ((s.aoutHush c).aoutAt c).phase = .quiesced := by
  unfold State.aoutHush
  rcases h with h | h <;> rw [h] <;> exact (State.aoutPress_phase _ hc).trans (State.aoutPhase_phase _ _ hc)

theorem State.dacShadowsOff_aoutAt_ne (hk : k < 4) (h : d / 2 ≠ k) : (s.dacShadowsOff k).aoutAt d = s.aoutAt d :=
  State.dacShadowsOff_preserves (P := fun t => t.aoutAt d = s.aoutAt d) rfl (fun t g u ht _ hu => by
    rw [State.dacHeld_aoutAt_ne (by omega), State.dacShadowOff_aoutAt g (by omega), ht])

theorem State.dacShadowsOff_sounds (hk : k < 4) (hc : c < 8) (h : (s.aoutAt c).phase.sounds) :
    ((s.dacShadowsOff k).aoutAt c).phase.sounds :=
  State.dacShadowsOff_preserves (P := fun t => (t.aoutAt c).phase.sounds) h (fun t g u ht _ hu => by
    have hoff : ((t.dacShadowOff g u).aoutAt c).phase.sounds := by rwa [State.dacShadowOff_aoutAt g (by omega)]
    by_cases hcu : u.unit = c
    · rw [hcu]
      exact State.dacHeld_sounds hc hoff
    · rwa [State.dacHeld_aoutAt_ne hcu])

theorem State.aoutQuiesce_aoutAt_ne (hk : k < 4) (h : d / 2 ≠ k) : (s.aoutQuiesce k).aoutAt d = s.aoutAt d := by
  rw [State.aoutQuiesce_eq, State.aoutHush_aoutAt_ne (by omega), State.aoutHush_aoutAt_ne (by omega), State.dacShadowsOff_aoutAt_ne hk h]

/-- QUIESCE brings a running channel of its pair to QUIESCED, also one whose shadow's end lets a held write through. -/
theorem State.aoutQuiesce_running (hc : c < 8) (h : (s.aoutAt c).phase = .running) :
    ((s.aoutQuiesce (c / 2)).aoutAt c).phase = .quiesced := by
  have hoff := State.dacShadowsOff_sounds (k := c / 2) (by omega) hc (.inl h)
  rw [State.aoutQuiesce_eq]
  by_cases hodd : c = 2 * (c / 2)
  · rw [State.aoutHush_aoutAt_ne (by omega), ← hodd]
    exact State.aoutHush_sounds hc hoff
  · have hc' : 2 * (c / 2) + 1 = c := by omega
    rw [hc']
    refine State.aoutHush_sounds hc ?_
    rwa [State.aoutHush_aoutAt_ne (by omega)]

/-! ## One speaker -/

theorem State.spkSync_spkAt_ne (us : Nat) (h : n ≠ m) : (s.spkSync n us).spkAt m = s.spkAt m := by
  unfold State.spkSync
  simp only [State.set_spkAt, s.spkAt_modSpk_ne h]

theorem State.spkSync_phase (us : Nat) (hn : n < 4) : ((s.spkSync n us).spkAt n).phase = (s.spkAt n).phase := by
  unfold State.spkSync
  simp only [State.set_spkAt, s.spkAt_modSpk_self hn]
  split <;> rfl

/-- The fault counter leaves every speaker's record. -/
theorem State.when_inc_spkAt (b : Bool) (f : Fld) (m : Nat) : (s.when b (·.inc f)).spkAt m = s.spkAt m := by
  cases b
  · rfl
  · exact State.inc_spkAt ..

theorem State.spkPhase_spkAt_ne (p : SpkPhase) (us : Nat) (h : n ≠ m) : (s.spkPhase n p us).spkAt m = s.spkAt m :=
  (State.spkSync_spkAt_ne us h).trans ((State.spkAt_modSpk_ne _ h _).trans (State.when_inc_spkAt ..))

theorem State.spkPhase_phase (p : SpkPhase) (us : Nat) (hn : n < 4) : ((s.spkPhase n p us).spkAt n).phase = p :=
  (State.spkSync_phase us hn).trans (congrArg Spk.phase (State.spkAt_modSpk_self _ hn _))

theorem State.spkDown_spkAt_ne (p : SpkPhase) (us : Nat) (h : n ≠ m) : (s.spkDown n p us).spkAt m = s.spkAt m :=
  (State.spkAt_modSpk_ne _ h _).trans (State.spkPhase_spkAt_ne p us h)

theorem State.spkDown_phase (p : SpkPhase) (us : Nat) (hn : n < 4) : ((s.spkDown n p us).spkAt n).phase = p := by
  rw [State.spkDown, State.spkPress, State.spkAt_modSpk_self _ hn]
  split <;> exact State.spkPhase_phase p us hn

theorem State.spkQuiesce_spkAt_ne (h : n ≠ m) : (s.spkQuiesce n).spkAt m = s.spkAt m := by
  have hdown (t : State) (ht : t.spkAt m = s.spkAt m) : (t.spkDown n .quiesced 150).spkAt m = s.spkAt m :=
    (State.spkDown_spkAt_ne _ _ h).trans ht
  have hset : (s.set (F.SPK_GUARD_STATUS_PILOT_ON n) 0).spkAt m = s.spkAt m := State.set_spkAt ..
  have happly : ((s.set (F.SPK_GUARD_STATUS_PILOT_ON n) 0).spkApply n).spkAt m = s.spkAt m := (State.spkAt_modSpk_ne _ h _).trans hset
  have hpress : ((s.set (F.SPK_GUARD_STATUS_PILOT_ON n) 0).spkPress n 150).spkAt m = s.spkAt m := (State.spkAt_modSpk_ne _ h _).trans hset
  unfold State.spkQuiesce
  dsimp only
  split
  · exact hdown _ hset
  · exact hdown _ hset
  · exact hdown _ hset
  · exact hdown _ hset
  · exact hdown _ hset
  · exact hdown _ happly
  · exact hdown _ happly
  · exact hpress
  · exact hpress
  · exact hset
  · exact hset
  · exact hset

/-- QUIESCE brings a running speaker to QUIESCED. -/
theorem State.spkQuiesce_running (hn : n < 4) (h : (s.spkAt n).phase = .running) : ((s.spkQuiesce n).spkAt n).phase = .quiesced := by
  unfold State.spkQuiesce
  dsimp only
  rw [State.set_spkAt, h]
  exact State.spkDown_phase _ _ hn

/-! ## QUIESCE of every output -/

/-- QUIESCE of the four pairs and speakers, as a transition sends it (R473). -/
def State.hushAll (s : State) : State := s.forAll 4 (fun s k => (s.aoutQuiesce k).spkQuiesce k)

theorem State.spkQuiesce_aoutAt (hk : k < 4) : (s.spkQuiesce k).aoutAt d = s.aoutAt d := by
  have ht : Touches [.spk] audioPages [] s (s.spkQuiesce k) :=
    (Touches.refl _ _ _ s).spkQuiesce (by decide) (List.Subset.refl _) hk
  rw [State.aoutAt, State.aoutAt, show (s.spkQuiesce k).aout = s.aout from ht.1 .aout (by decide)]

theorem State.aoutQuiesce_spkAt (hk : k < 4) : (s.aoutQuiesce k).spkAt m = s.spkAt m := by
  have ht : Touches [.otp, .dacSubst, .jobs, .aout] (0x06 :: audioPages) [] s (s.aoutQuiesce k) :=
    (Touches.refl _ _ _ s).aoutQuiesce (by decide) (by decide) (by simp) (by decide) (by decide) (by decide) hk
  rw [State.spkAt, State.spkAt, show (s.aoutQuiesce k).spk = s.spk from ht.1 .spk (by decide)]

theorem State.hushAll_aout_running (hc : c < 8) (h : (s.aoutAt c).phase = .running) : (s.hushAll.aoutAt c).phase = .quiesced := by
  obtain ⟨t, ht, hs⟩ := State.forAll_at_lt (s := s) (n := c / 2) (N := 4) (fun t k => if k = c / 2 then some (t.aoutAt c) else none)
    (f := fun s k => (s.aoutQuiesce k).spkQuiesce k) (fun t k n hk hkn => by
      by_cases hn : n = c / 2
      · rw [if_pos hn, if_pos hn, State.spkQuiesce_aoutAt hk, State.aoutQuiesce_aoutAt_ne hk (by omega)]
      · rw [if_neg hn, if_neg hn]) (by omega)
  rw [if_pos rfl, if_pos rfl, Option.some.injEq] at ht hs
  rw [State.hushAll, hs, State.spkQuiesce_aoutAt (by omega)]
  exact State.aoutQuiesce_running hc (ht ▸ h)

theorem State.hushAll_spk_running (hn : n < 4) (h : (s.spkAt n).phase = .running) : (s.hushAll.spkAt n).phase = .quiesced := by
  obtain ⟨t, ht, hs⟩ := State.forAll_at_lt (s := s) State.spkAt (f := fun s k => (s.aoutQuiesce k).spkQuiesce k)
    (fun t k m hk hkm => (State.spkQuiesce_spkAt_ne hkm).trans (State.aoutQuiesce_spkAt hk)) hn
  rw [State.hushAll, hs]
  refine State.spkQuiesce_running hn ?_
  rw [State.aoutQuiesce_spkAt hn, ht, h]

/-! ## The return of the output domains -/

theorem State.aoutBegin_aoutAt_ne (h : c ≠ d) : (s.aoutBegin c).aoutAt d = s.aoutAt d := by
  rw [State.aoutBegin, State.aoutPhase_aoutAt_ne _ _ h, State.set_aoutAt, State.aoutAt_modAout_ne _ h, State.aoutApply_aoutAt_ne h]

theorem State.aoutReturn_aoutAt_ne (h : c ≠ d) : (s.aoutReturn c).aoutAt d = s.aoutAt d := by
  unfold State.aoutReturn
  split
  · rfl
  · split
    · exact State.aoutBegin_aoutAt_ne h
    · rw [State.aoutPhase_aoutAt_ne _ _ h, State.aoutApply_aoutAt_ne h]

/-- A returning channel is in FAULT, starting or off. -/
theorem State.aoutReturn_not_quiesced (hc : c < 8) : ((s.aoutReturn c).aoutAt c).phase ≠ .quiesced := by
  unfold State.aoutReturn
  split
  · next h => rw [h]; decide
  · split
    · rw [State.aoutBegin, State.aoutPhase_phase _ _ hc]; decide
    · rw [State.aoutPhase_phase _ _ hc]; decide

theorem State.aoutRestart_not_quiesced (hc : c < 8) : (s.aoutRestart.aoutAt c).phase ≠ .quiesced := by
  obtain ⟨t, -, hs⟩ := State.forAll_at (s := s) State.aoutAt (f := fun s c => s.aoutReturn c)
    (fun t k n hkn => State.aoutReturn_aoutAt_ne hkn) hc
  have ht : Touches [.cpStop] audioPages [] (s.forAll 8 (fun s c => s.aoutReturn c)) s.aoutRestart :=
    (Touches.refl _ _ _ _).pumpForced (by decide) (List.Subset.refl _)
  have haout : s.aoutRestart.aout = (s.forAll 8 (fun s c => s.aoutReturn c)).aout := ht.1 .aout (by decide)
  rw [State.aoutAt, haout]
  exact fun h => State.aoutReturn_not_quiesced hc ((congrArg Aout.phase hs).symm.trans h)

theorem State.spkHiz_spkAt_ne (h : n ≠ m) : (s.spkHiz n).spkAt m = s.spkAt m :=
  (State.set_spkAt ..).trans (State.spkAt_modSpk_ne _ h _)

theorem State.spkBegin_spkAt_ne (h : n ≠ m) : (s.spkBegin n).spkAt m = s.spkAt m := by
  unfold State.spkBegin
  dsimp only
  rw [State.spkPhase_spkAt_ne _ _ h, State.spkAt_modSpk_ne _ h, State.spkApply, State.spkAt_modSpk_ne _ h]

theorem State.spkReturn_spkAt_ne (h : n ≠ m) : (s.spkReturn n).spkAt m = s.spkAt m := by
  unfold State.spkReturn
  dsimp only
  split
  · rfl
  · split
    · rw [State.spkBegin_spkAt_ne h, State.spkPhase_spkAt_ne _ _ h]
    · rw [State.spkHiz_spkAt_ne h, State.spkPhase_spkAt_ne _ _ h]

/-- A returning speaker is in FAULT, waiting or off. -/
theorem State.spkReturn_not_quiesced (hn : n < 4) : ((s.spkReturn n).spkAt n).phase ≠ .quiesced := by
  unfold State.spkReturn
  dsimp only
  split
  · next h => rw [h]; decide
  · split
    · rw [State.spkBegin, State.spkPhase_phase _ _ hn]; decide
    · rw [State.spkHiz, State.set_spkAt, State.spkAt_modSpk_self _ hn]
      dsimp only
      rw [State.spkPhase_phase _ _ hn]; decide

theorem State.spkRestart_not_quiesced (hn : n < 4) : (s.spkRestart.spkAt n).phase ≠ .quiesced := by
  obtain ⟨t, -, hs⟩ := State.forAll_at (s := s) State.spkAt (f := fun s n => s.spkReturn n)
    (fun t k n hkn => State.spkReturn_spkAt_ne hkn) hn
  rw [State.spkRestart, hs]
  exact State.spkReturn_not_quiesced hn

end Sys2Proof.Machine
end

section
/-! PROOFS. O56: code checks, life-cycle transitions, OTP access and the software reset. -/

namespace Sys2Proof.Machine

variable {s : State}

/-! ## A transition that starts -/

theorem State.hushAll_touches : Touches [.otp, .dacSubst, .jobs, .aout, .spk] (0x06 :: audioPages) [] s s.hushAll :=
  (Touches.refl _ _ _ s).forAll 4 (fun _ _ hk ht =>
    (ht.aoutQuiesce (by decide) (by decide) (by simp) (by decide) (by decide) (by decide) hk).spkQuiesce (by decide) (by simp) hk)

/-- A transition runs: its result is open. -/
def State.transRuns (s : State) : State :=
  { (s.set F.LCY_STATUS_RESULT 0).set F.LCY_STATUS_BUSY 1 with lcy := { s.lcy with trans := true } }

theorem State.transRuns_shows : s.transRuns.get F.LCY_STATUS_BUSY = 1 ∧ s.transRuns.get F.LCY_STATUS_RESULT = 0 := by
  refine ⟨?_, ?_⟩
  · rw [State.transRuns, State.lcyPut_get, State.get_set_self _ _ _ (Fld.fits_of_ble rfl)]
    rfl
  · rw [State.transRuns, State.lcyPut_get, State.get_set_ne _ _ (Fld.fits_of_ble rfl) (.inr (.inr (by decide))),
      State.get_set_self _ _ _ (Fld.fits_of_ble rfl), Nat.zero_mod]

theorem State.transRuns_lcy : s.transRuns.lcy = { s.lcy with trans := true } := rfl

theorem State.lcyPut_outputs (x : Lcy) (k : Nat) :
    ({ s with lcy := x } : State).aoutAt k = s.aoutAt k ∧ ({ s with lcy := x } : State).spkAt k = s.spkAt k := ⟨rfl, rfl⟩

theorem State.transRuns_aoutAt (c : Nat) : s.transRuns.aoutAt c = s.aoutAt c := by
  rw [State.transRuns, (State.lcyPut_outputs _ c).1, State.set_aoutAt, State.set_aoutAt]

theorem State.transRuns_spkAt (n : Nat) : s.transRuns.spkAt n = s.spkAt n := by
  rw [State.transRuns, (State.lcyPut_outputs _ n).2, State.set_spkAt, State.set_spkAt]

theorem State.transRuns_touches : Touches [.lcy] [] [F.LCY_STATUS_RESULT, F.LCY_STATUS_BUSY] s s.transRuns :=
  (((Touches.refl _ _ _ s).set _ (.inr (by decide))).set _ (.inr (by decide))).put_lcy _ (by decide)

theorem State.hushAll_lcy : s.hushAll.lcy = s.lcy := State.hushAll_touches.1 .lcy (by decide)

/-- QUIESCE writes no register of the life-cycle page. -/
theorem State.hushAll_get {f : Fld} (hf : f.addr / 0x400 = 7) : s.hushAll.get f = s.get f :=
  State.hushAll_touches.get_eq (by rw [hf]; decide) (by simp)

theorem State.lcyGo_starts {key : Nat} (h : s.lcyRefusal key = 0) : s.lcyGo key = s.transRuns.hushAll := by
  unfold State.lcyGo
  exact if_neg (not_not.2 h)

/-- With key, target, unlock, RUN and nothing under way a transition is not refused (R473). -/
theorem State.lcyRefusal_none {w : Word} (hf : s.lcFuses = 1 ∨ s.lcFuses = 4 ∨
      ((s.lcFuses = 2 ∨ s.lcFuses = 3 ∨ s.lcFuses = 5) ∧ s.on F.LCY_STATUS_UNLOCKED = true))
    (ht : bits w 2 2 = lcCode (s.lcFuses + 1)) (hd : s.domState = 0) (hb : s.pwrBusy = false) (htr : s.lcy.trans = false)
    (hc : s.lcy.check = none) : (s.lcyCtrlTaken w).lcyRefusal 0x4C43 = 0 := by
  have hneed : ¬ ((s.lcFuses = 0 ∧ blankDigest (s.digest 0x114) = true) ∨
      ((s.lcFuses = 2 ∨ s.lcFuses = 3 ∨ s.lcFuses = 5) ∧ (!s.on F.LCY_STATUS_UNLOCKED) = true)) := by
    rcases hf with hf | hf | ⟨hf, hu⟩
    · rw [hf]; simp
    · rw [hf]; simp
    · rw [hu]; rcases hf with hf | hf | hf <;> rw [hf] <;> simp
  have hrun : ¬ (s.domState ≠ 0 ∨ s.pwrBusy = true ∨ s.lcy.trans = true ∨ s.lcy.check.isSome = true) := by
    rw [hd, hb, htr, hc]
    decide
  rw [State.lcyRefusal_taken, if_neg (not_not.2 rfl), if_neg (by omega), if_neg (not_not.2 ht), if_neg hneed, if_neg hrun]

/-! ## A fuse that fails -/

/-- The outputs return from behind their clamps. -/
def State.outputsReturn (s : State) : State := s.aoutIsolate.spkIsolate.aoutRestart.spkRestart

theorem State.outputsReturn_touches : Touches [.aout, .cpStop, .spk] audioPages [] s s.outputsReturn :=
  ((((Touches.refl _ _ _ s).aoutIsolate (by decide) (by decide) (List.Subset.refl _)).spkIsolate (by decide) (List.Subset.refl _)
    ).aoutRestart (by decide) (by decide) (List.Subset.refl _)).spkRestart (by decide) (List.Subset.refl _)

theorem State.outputsReturn_lcy : s.outputsReturn.lcy = s.lcy := State.outputsReturn_touches.1 .lcy (by decide)

theorem State.outputsReturn_otp : s.outputsReturn.otp = s.otp := State.outputsReturn_touches.1 .otp (by decide)

/-- The outputs' return writes no register of the life-cycle page. -/
theorem State.outputsReturn_get {f : Fld} (hf : f.addr / 0x400 = 7) : s.outputsReturn.get f = s.get f :=
  State.outputsReturn_touches.get_eq (by rw [hf]; decide) (by simp)

theorem State.outputsReturn_not_quiesced : (∀ c, c < 8 → (s.outputsReturn.aoutAt c).phase ≠ .quiesced) ∧
    (∀ n, n < 4 → (s.outputsReturn.spkAt n).phase ≠ .quiesced) := by
  refine ⟨fun c hc => ?_, fun n hn => State.spkRestart_not_quiesced hn⟩
  have ht : Touches [.spk] audioPages [] s.aoutIsolate.spkIsolate.aoutRestart s.outputsReturn :=
    (Touches.refl _ _ _ _).spkRestart (by decide) (List.Subset.refl _)
  rw [State.aoutAt, show s.outputsReturn.aout = s.aoutIsolate.spkIsolate.aoutRestart.aout from ht.1 .aout (by decide)]
  exact State.aoutRestart_not_quiesced hc

/-- A failed fuse ends the transition with its result and fault. -/
def State.fuseFailed (s : State) : State :=
  (({ s with lcy := { s.lcy with trans := false } }.set F.LCY_STATUS_BUSY 0).set F.LCY_STATUS_RESULT 6).fault 7 1

theorem State.lcyFuseFailed_eq : s.lcyFuseFailed = s.fuseFailed.outputsReturn := rfl

theorem State.fuseFailed_shows : s.fuseFailed.lcy = { s.lcy with trans := false } ∧ s.fuseFailed.get F.LCY_STATUS_RESULT = 6 ∧
    s.fuseFailed.get F.LCY_STATUS_BUSY = 0 ∧ s.fuseFailed.get (F.PG_FAULT 0x07) = 1 := by
  have hstatus (t : State) (f : Fld) (hf : f.addr = A.LCY_STATUS) : (t.fault 7 1).get f = t.get f := by
    rw [State.get, State.get, State.reg_fault_ne _ _ (by rw [hf]; decide) (by rw [hf]; decide)]
  refine ⟨?_, ?_, ?_, State.get_fault_self _ _ _ (by decide)⟩
  · rw [State.fuseFailed, State.fault_lcy, State.set_lcy, State.set_lcy]
  · rw [State.fuseFailed, hstatus _ _ rfl, State.get_set_self _ _ _ (Fld.fits_of_ble rfl)]
    rfl
  · rw [State.fuseFailed, hstatus _ _ rfl, State.get_set_ne _ _ (Fld.fits_of_ble rfl) (.inr (.inl (by decide))),
      State.get_set_self _ _ _ (Fld.fits_of_ble rfl), Nat.zero_mod]

theorem State.fuseFailed_touches :
    Touches [.lcy] [] [F.LCY_STATUS_RESULT, F.LCY_STATUS_BUSY, F.PG_FAULT 0x07, F.PG_IRQ 0x07 1] s s.fuseFailed :=
  ((((Touches.refl _ _ _ s).put_lcy _ (by decide)).set _ (.inr (by decide))).set _ (.inr (by decide))).fault _
    (.inr ⟨by decide, by decide⟩)

/-! ## What the commands do -/

/-- The fields the end of a code check writes (R472). -/
def lcyCheckEndFlds : List Fld :=
  [F.LCY_STATUS_BUSY, F.LCY_STATUS_CHECK, F.LCY_STATUS_UNLOCKED, F.LCY_STATE_DBG_EN, F.LCY_STATUS_FAILS, F.LCY_STATUS_LOCKOUT,
    F.PG_IRQ 0x07 2, F.PG_IRQ 0x07 3, F.PG_IRQ 0x07 4]

/-- GO is the write of LCY_CTRL. -/
theorem yields_lcyTransition {ini : Fin 5} {w : Word} :
    Yields (.lcyTransition ini w) s (s.writeOne none ini A.LCY_CTRL (w ||| 0x1#32)) := rfl

/-- PROG is the write of LCY_OTP_CTRL. -/
theorem yields_lcyOtpProg {ini : Fin 5} {w : Word} :
    Yields (.lcyOtpProg ini w) s (s.writeOne none ini A.LCY_OTP_CTRL (w ||| 0x2#32)) := rfl

/-- READ is the write of LCY_OTP_CTRL. -/
theorem yields_lcyOtpRead {ini : Fin 5} {w : Word} :
    Yields (.lcyOtpRead ini w) s (s.writeOne none ini A.LCY_OTP_CTRL (w ||| 0x1#32)) := rfl

/-- A software reset is the write of SYS_SW_RESET. -/
theorem yields_sysSwReset {ini : Fin 5} {w : Word} :
    Yields (.sysSwReset ini w) s (s.writeOne none ini A.SYS_SW_RESET (w ||| 0x1#32)) := rfl

/-- RESET with the key restarts the hub once its word is stored. -/
theorem State.writeOne_sysSwReset_key {ini : Nat} {w : Word} (h : s.mayWrite ini A.SYS_SW_RESET (w ||| 0x1#32) = true)
    (hk : bits w 16 16 = 0x5253) : ∃ t : State, s.writeOne none ini A.SYS_SW_RESET (w ||| 0x1#32) = t.hardReset 4 ∧ t.otp = s.otp ∧
      t.boot = s.boot := by
  refine ⟨s.setReg A.SYS_SW_RESET (setBits (s.reg A.SYS_SW_RESET) 16 16 0x5253), ?_, s.setReg_otp _ _, s.setReg_boot _ _⟩
  rw [State.writeOne_sysSwReset h, hit_or_const w _ (by decide), bits_or_const w (0x1#32) (lo := 16) (by decide), hk, decide_eq_true rfl,
    Bool.and_self, State.when_true]

/-- RESET without the key stores its word, nothing else. -/
theorem State.writeOne_sysSwReset_noKey {ini : Nat} {w : Word} (h : s.mayWrite ini A.SYS_SW_RESET (w ||| 0x1#32) = true)
    (hk : bits w 16 16 ≠ 0x5253) : Touches [] [] [whole A.SYS_SW_RESET] s (s.writeOne none ini A.SYS_SW_RESET (w ||| 0x1#32)) := by
  rw [State.writeOne_sysSwReset h, bits_or_const w (0x1#32) (lo := 16) (by decide), decide_eq_false hk, Bool.and_false, State.when_false]
  exact (Touches.refl _ _ _ s).setReg _ (.inr (by decide))

/-- The end of a code check, on a clocked management island. -/
theorem yields_lcyCheckDone (h : s.clocked .mgmt = true) : Yields .lcyCheckDone s s.lcyCheckDone := by
  rw [Yields, exec_lcyCheckDone, execLcyCheckDone, State.event_of _ _ h rfl]

/-- The end of an OTP access, on a clocked management island. -/
theorem yields_otpAccessDone {verified : Bool} (h : s.clocked .mgmt = true) :
    Yields (.otpAccessDone verified) s (s.otpDone verified) := by
  rw [Yields, exec_otpAccessDone, execOtpAccessDone, State.event_of _ _ h rfl]

/-- The fuse verified, while the transition runs. -/
theorem yields_lcyFuseDone_verified (ht : s.lcy.trans = true) (hm : s.mgmtRuns = true) :
    Yields (.lcyFuseDone true) s ((s.otpProgram 0x118 (BitVec.ofNat 32 (2 ^ s.lcFuses))).hardReset 3) := by
  rw [Yields, exec_lcyFuseDone, execLcyFuseDone, ht, hm, Bool.and_self, State.when_true, if_pos rfl]

/-- The fuse failed, while the transition runs. -/
theorem yields_lcyFuseDone_failed (ht : s.lcy.trans = true) (hm : s.mgmtRuns = true) :
    Yields (.lcyFuseDone false) s s.lcyFuseFailed := by
  rw [Yields, exec_lcyFuseDone, execLcyFuseDone, ht, hm, Bool.and_self, State.when_true, if_neg Bool.false_ne_true]

/-- GO as written: the refused transition shows its result. -/
theorem State.lcyTransition_refused {ini : Nat} {w : Word} (h : s.mayWrite ini A.LCY_CTRL (w ||| 0x1#32) = true)
    (hr : (s.lcyCtrlTaken w).lcyRefusal (bits w 16 16) ≠ 0) :
    (s.writeOne none ini A.LCY_CTRL (w ||| 0x1#32)).get F.LCY_STATUS_RESULT = (s.lcyCtrlTaken w).lcyRefusal (bits w 16 16) ∧
      Touches [] [] [F.LCY_STATUS_RESULT, whole A.LCY_CTRL] s (s.writeOne none ini A.LCY_CTRL (w ||| 0x1#32)) := by
  rw [State.writeOne_lcyGo h, State.lcyGo_refused hr]
  refine ⟨?_, (s.lcyCtrlTaken_touches w (by decide)).set _ (.inr (by decide))⟩
  rw [State.get_set_self _ _ _ (Fld.fits_of_ble rfl)]
  exact Nat.mod_eq_of_lt (State.lcyRefusal_lt _)

/-- Every condition of R473 that fails refuses the transition. -/
theorem State.lcyRefusal_ne_zero {w : Word}
    (h : bits w 16 16 ≠ 0x4C43 ∨ 6 ≤ s.lcFuses ∨ bits w 2 2 ≠ lcCode (s.lcFuses + 1) ∨
      ((s.lcFuses = 2 ∨ s.lcFuses = 3 ∨ s.lcFuses = 5) ∧ s.on F.LCY_STATUS_UNLOCKED = false) ∨
      (s.lcFuses = 0 ∧ blankDigest (s.digest 0x114) = true) ∨ s.domState ≠ 0 ∨ s.pwrBusy = true) :
    (s.lcyCtrlTaken w).lcyRefusal (bits w 16 16) ≠ 0 := by
  rw [State.lcyRefusal_taken]
  intro hz
  split at hz
  · exact absurd hz (by decide)
  next hkey =>
  split at hz
  · exact absurd hz (by decide)
  next hlast =>
  split at hz
  · exact absurd hz (by decide)
  next htarget =>
  split at hz
  · exact absurd hz (by decide)
  next hneed =>
  split at hz
  · exact absurd hz (by decide)
  next hrun =>
  rcases h with h | h | h | ⟨hf, hu⟩ | h | h | h
  · exact hkey h
  · exact hlast h
  · exact htarget h
  · exact hneed (.inr ⟨hf, by rw [hu]; rfl⟩)
  · exact hneed (.inl h)
  · exact hrun (.inl h)
  · exact hrun (.inr (.inl h))

/-- PROG alone starts a program access. -/
theorem State.writeOne_lcyOtpProg {ini : Nat} {w : Word} (h : s.mayWrite ini A.LCY_OTP_CTRL (w ||| 0x2#32) = true)
    (hw : bits w 0 1 = 0) : s.writeOne none ini A.LCY_OTP_CTRL (w ||| 0x2#32) =
      (s.setReg A.LCY_OTP_CTRL (s.reg A.LCY_OTP_CTRL)).otpStart true := by
  rw [State.writeOne_lcyOtpCtrl h, hit_or_clear w _ (by decide) hw, hit_or_const w _ (by decide), State.when_false, State.when_true]

/-- READ alone starts a read access. -/
theorem State.writeOne_lcyOtpRead {ini : Nat} {w : Word} (h : s.mayWrite ini A.LCY_OTP_CTRL (w ||| 0x1#32) = true)
    (hw : bits w 1 1 = 0) : s.writeOne none ini A.LCY_OTP_CTRL (w ||| 0x1#32) =
      (s.setReg A.LCY_OTP_CTRL (s.reg A.LCY_OTP_CTRL)).otpStart false := by
  rw [State.writeOne_lcyOtpCtrl h, hit_or_const w _ (by decide), hit_or_clear w _ (by decide) hw, State.when_true, State.when_false]

/-! ## The clauses -/

/-- A check that found the code. -/
theorem State.lcyCheckDone_found_leaves {unlock : Bool} (hc : s.lcy.check = some (unlock, true)) :
    s.lcyCheckDone.lcy = { s.lcy with check := none } ∧ s.lcyCheckDone.get F.LCY_STATUS_BUSY = 0 ∧
      s.lcyCheckDone.on (F.PG_IRQ 0x07 2) = true ∧ s.lcyCheckDone.get F.LCY_STATUS_CHECK = 1 ∧
      s.lcyCheckDone.on (permissionFld unlock) = true ∧ s.lcyCheckDone.get F.LCY_STATUS_FAILS = s.get F.LCY_STATUS_FAILS ∧
      (unlock = true → s.lcyCheckDone.on F.LCY_STATE_DBG_EN = s.on F.LCY_STATE_DBG_EN) ∧
      Touches [.lcy] [] lcyCheckEndFlds s s.lcyCheckDone := by
  obtain ⟨hlcy, hbusy, hirq⟩ := s.checkEnded_shows
  obtain ⟨hcheck, hperm⟩ := State.checkMatched_shows (s := s.checkEnded) unlock
  have ht := State.checkMatched_touches (s := s.checkEnded) unlock
  rw [State.lcyCheckDone_found hc]
  refine ⟨(ht.1 .lcy (by decide)).trans hlcy, ?_, ?_, hcheck, hperm, ?_, ?_, ?_⟩
  · rw [ht.get_eq (by decide) (Fld.apart_of_all (by decide)), hbusy]
  · rw [State.on_congr _ (ht.get_eq (by decide) (Fld.apart_of_all (by decide))), hirq]
  · rw [ht.get_eq (by decide) (Fld.apart_of_all (by decide)),
      s.checkEnded_touches.get_eq (by decide) (Fld.apart_of_all (by decide))]
  · rintro rfl
    rw [State.checkMatched_debug, State.on_congr _ (s.checkEnded_touches.get_eq (by decide) (Fld.apart_of_all (by decide)))]
  · exact (s.checkEnded_touches.mono (by decide) (by decide) (by decide)).trans (ht.mono (by decide) (by decide) (by decide))

/-- A check that did not. -/
theorem State.lcyCheckDone_failed_leaves {unlock : Bool} (hc : s.lcy.check = some (unlock, false)) :
    s.lcyCheckDone.lcy = { s.lcy with check := none } ∧ s.lcyCheckDone.get F.LCY_STATUS_BUSY = 0 ∧
      s.lcyCheckDone.on (F.PG_IRQ 0x07 2) = true ∧
      (s.lcyCheckDone.get F.LCY_STATUS_CHECK = 2 ∧ s.lcyCheckDone.get F.LCY_STATUS_FAILS = min (s.get F.LCY_STATUS_FAILS + 1) 255 ∧
        s.lcyCheckDone.on (F.PG_IRQ 0x07 3) = true) ∧
      (s.get F.LCY_STATUS_FAILS = 3 → s.lcyCheckDone.on F.LCY_STATUS_LOCKOUT = true ∧ s.lcyCheckDone.on (F.PG_IRQ 0x07 4) = true) ∧
      Touches [.lcy] [] lcyCheckEndFlds s s.lcyCheckDone := by
  obtain ⟨hlcy, hbusy, hirq⟩ := s.checkEnded_shows
  obtain ⟨hcheck, hfails, hfail⟩ := State.checkFailed_shows (s := s.checkEnded)
  have ht := State.checkFailed_touches (s := s.checkEnded)
  have hbefore : s.checkEnded.get F.LCY_STATUS_FAILS = s.get F.LCY_STATUS_FAILS :=
    s.checkEnded_touches.get_eq (by decide) (Fld.apart_of_all (by decide))
  rw [State.lcyCheckDone_failed hc]
  refine ⟨(ht.1 .lcy (by decide)).trans hlcy, ?_, ?_, ⟨hcheck, hbefore ▸ hfails, hfail⟩,
    fun h3 => State.checkFailed_lockout (hbefore.trans h3), ?_⟩
  · rw [ht.get_eq (by decide) (Fld.apart_of_all (by decide)), hbusy]
  · rw [State.on_congr _ (ht.get_eq (by decide) (Fld.apart_of_all (by decide))), hirq]
  · exact (s.checkEnded_touches.mono (by decide) (by decide) (by decide)).trans (ht.mono (by decide) (by decide) (by decide))

/-- A transition that starts, once LCY_CTRL holds its word. -/
theorem State.transition_leaves (w : Word) :
    (s.lcyCtrlTaken w).transRuns.hushAll.lcy = { s.lcy with trans := true } ∧
      (s.lcyCtrlTaken w).transRuns.hushAll.get F.LCY_STATUS_BUSY = 1 ∧
      (s.lcyCtrlTaken w).transRuns.hushAll.get F.LCY_STATUS_RESULT = 0 ∧
      Touches (audioParts ++ ([.lcy, .jobs, .otp] : List Part)) (audioPages ++ [0x06])
        [F.LCY_STATUS_BUSY, F.LCY_STATUS_RESULT, whole A.LCY_CTRL] s (s.lcyCtrlTaken w).transRuns.hushAll := by
  obtain ⟨hbusy, hres⟩ := State.transRuns_shows (s := s.lcyCtrlTaken w)
  refine ⟨?_, by rw [State.hushAll_get rfl, hbusy], by rw [State.hushAll_get rfl, hres], ?_⟩
  · rw [State.hushAll_lcy, State.transRuns_lcy, State.lcyCtrlTaken, State.setReg_lcy]
  · have htaken : Touches (audioParts ++ ([.lcy, .jobs, .otp] : List Part)) (audioPages ++ [0x06])
        [F.LCY_STATUS_BUSY, F.LCY_STATUS_RESULT, whole A.LCY_CTRL] s (s.lcyCtrlTaken w) := s.lcyCtrlTaken_touches w (by decide)
    exact (htaken.trans (State.transRuns_touches.mono (by decide) (by simp) (by decide))).trans
      (State.hushAll_touches.mono (by decide) (by decide) (by simp))

/-- The channels and speakers that ran as the transition started are quiesced. -/
theorem State.transition_quiesces (w : Word) :
    (∀ c : Nat, c < 8 → (s.aoutAt c).phase = .running → ((s.lcyCtrlTaken w).transRuns.hushAll.aoutAt c).phase = .quiesced) ∧
      (∀ n : Nat, n < 4 → (s.spkAt n).phase = .running → ((s.lcyCtrlTaken w).transRuns.hushAll.spkAt n).phase = .quiesced) := by
  refine ⟨fun c hc h => State.hushAll_aout_running hc ?_, fun n hn h => State.hushAll_spk_running hn ?_⟩
  · rwa [State.transRuns_aoutAt, State.lcyCtrlTaken, State.setReg_aoutAt]
  · rwa [State.transRuns_spkAt, State.lcyCtrlTaken, State.setReg_spkAt]

/-- A fuse that failed. -/
theorem State.lcyFuseFailed_leaves : s.lcyFuseFailed.lcy = { s.lcy with trans := false } ∧
    s.lcyFuseFailed.get F.LCY_STATUS_RESULT = 6 ∧ s.lcyFuseFailed.get F.LCY_STATUS_BUSY = 0 ∧
    s.lcyFuseFailed.get (F.PG_FAULT 0x07) = 1 ∧ s.lcyFuseFailed.otp = s.otp ∧
    (∀ c : Nat, c < 8 → (s.lcyFuseFailed.aoutAt c).phase ≠ .quiesced) ∧
    (∀ n : Nat, n < 4 → (s.lcyFuseFailed.spkAt n).phase ≠ .quiesced) ∧
    Touches (audioParts ++ ([.lcy] : List Part)) audioPages
      [F.LCY_STATUS_RESULT, F.LCY_STATUS_BUSY, F.PG_FAULT 0x07, F.PG_IRQ 0x07 1] s s.lcyFuseFailed := by
  obtain ⟨hlcy, hres, hbusy, hfault⟩ := s.fuseFailed_shows
  obtain ⟨haout, hspk⟩ := s.fuseFailed.outputsReturn_not_quiesced
  have hotp : s.fuseFailed.otp = s.otp := s.fuseFailed_touches.1 .otp (by decide)
  rw [State.lcyFuseFailed_eq]
  refine ⟨by rw [State.outputsReturn_lcy, hlcy], by rw [State.outputsReturn_get rfl, hres],
    by rw [State.outputsReturn_get rfl, hbusy], by rw [State.outputsReturn_get rfl, hfault],
    by rw [State.outputsReturn_otp, hotp], haout, hspk, ?_⟩
  exact (s.fuseFailed_touches.mono (by decide) (by simp) (by decide)).trans
    (State.outputsReturn_touches.mono (by decide) (List.Subset.refl _) (by simp))

/-! ## O56 -/

/-- Settles O56, each clause from its operation's equation: what a check, a transition, an OTP access or a reset leaves. -/
theorem lifeCycle : Obligations.LifeCycle := by
  unfold Obligations.LifeCycle
  refine ⟨?checkToken, ?checkUnlock, ?checkDone, ?transition, ?refused, ?fuseVerified, ?fuseFailed, ?otpProg, ?otpRead, ?progDone,
    ?readDone, ?swReset, ?noKey⟩
  case checkToken =>
    intro ini w s h hw hc ht
    obtain ⟨hcodes, hlock, hstate, hblank, hruns, htouch⟩ := State.lcyCheckToken_codeCheck h hw hc ht
    exact ⟨_, rfl, hcodes, hlock, fun h1 h2 => hstate h1 (decide_eq_false h2), fun h1 h2 => hblank h1 (decide_eq_true h2),
      fun h1 h2 => hruns h1 (decide_eq_true h2), htouch⟩
  case checkUnlock =>
    intro ini w s h hw hc ht
    obtain ⟨hcodes, hlock, hstate, hblank, hruns, htouch⟩ := State.lcyCheckUnlock_codeCheck h hw hc ht
    exact ⟨_, rfl, hcodes, hlock, fun h1 h2 => hstate h1 (decide_eq_false (Nat.not_le.2 h2)),
      fun h1 h2 => hblank h1 (decide_eq_true h2), fun h1 h2 => hruns h1 (decide_eq_true h2), htouch⟩
  case checkDone =>
    intro unlock found s hm hc
    cases found
    case true =>
      obtain ⟨hlcy, hbusy, hirq, hcheck, hperm, hfails, hdebug, htouch⟩ := State.lcyCheckDone_found_leaves hc
      exact ⟨_, yields_lcyCheckDone hm, hlcy, hbusy, hirq, fun _ => ⟨hcheck, hperm, hfails⟩, nofun, nofun, fun _ => hdebug, htouch⟩
    case false =>
      obtain ⟨hlcy, hbusy, hirq, hfail, hlock, htouch⟩ := State.lcyCheckDone_failed_leaves hc
      exact ⟨_, yields_lcyCheckDone hm, hlcy, hbusy, hirq, nofun, fun _ => hfail, fun _ => hlock, nofun, htouch⟩
  case transition =>
    intro ini w s h hkey hf ht hd hb htr hc
    have hr := State.lcyRefusal_none hf ht hd hb htr hc
    have hu : s.writeOne none ini A.LCY_CTRL (w ||| 0x1#32) = (s.lcyCtrlTaken w).transRuns.hushAll := by
      rw [State.writeOne_lcyGo h, hkey, State.lcyGo_starts hr]
    obtain ⟨hlcy, hbusy, hres, htouch⟩ := s.transition_leaves w
    obtain ⟨haout, hspk⟩ := s.transition_quiesces w
    exact ⟨_, hu ▸ yields_lcyTransition, hlcy, hbusy, hres, haout, hspk, htouch⟩
  case refused =>
    intro ini w s h hbad
    have hr := State.lcyRefusal_ne_zero hbad
    obtain ⟨hres, htouch⟩ := State.lcyTransition_refused h hr
    rw [← hres] at hr
    rw [State.lcyRefusal_taken] at hres
    refine ⟨_, rfl, fun hkey => ?_, fun hkey hlast => ?_, fun hkey hmore hne => ?_, fun hkey heq h2 hu => ?_, hr, htouch⟩
    · rw [hres, if_pos hkey]
    · rw [hres, if_neg (not_not.2 hkey), if_pos hlast]
    · rw [hres, if_neg (not_not.2 hkey), if_neg (Nat.not_le.2 hmore), if_pos hne]
    · rw [hres, if_neg (not_not.2 hkey), if_neg (by omega), if_neg (not_not.2 heq), if_pos (.inr ⟨.inl h2, by rw [hu]; rfl⟩)]
  case fuseVerified =>
    rintro verified s ht hm rfl hb
    have hre := State.hardReset_restarted (s := s.otpProgram 0x118 (BitVec.ofNat 32 (2 ^ s.lcFuses))) 3 hb
    exact ⟨_, yields_lcyFuseDone_verified ht hm, hre.boot, hre.domState, hre.otp, by rw [hre.lcy]; rfl, fun k hk => hre.accounting hk,
      hre.sram⟩
  case fuseFailed =>
    rintro verified s ht hm rfl
    exact ⟨_, yields_lcyFuseDone_failed ht hm, State.lcyFuseFailed_leaves⟩
  case otpProg =>
    intro ini w s h hw
    have hu := State.writeOne_lcyOtpProg h hw
    exact ⟨_, hu ▸ yields_lcyOtpProg, State.otpStart_busy, State.otpStart_closed, State.otpStart_written,
      fun hop ho hb => State.otpStart_runs hop (fun _ => ⟨ho, hb⟩),
      (Touches.setReg_id _ _ _ _ _).trans (State.otpStart_touches true)⟩
  case otpRead =>
    intro ini w s h hw
    have hu := State.writeOne_lcyOtpRead h hw
    exact ⟨_, hu ▸ yields_lcyOtpRead, State.otpStart_busy, fun hop => State.otpStart_runs hop nofun,
      (Touches.setReg_id _ _ _ _ _).trans State.otpStart_read_touches⟩
  case progDone =>
    intro verified k x s hm hop
    exact ⟨_, yields_otpAccessDone hm, State.otpDone_prog_leaves verified hop⟩
  case readDone =>
    intro verified k x s hm hop
    exact ⟨_, yields_otpAccessDone hm, State.otpDone_read_leaves verified hop⟩
  case swReset =>
    intro ini w s h hkey hb
    obtain ⟨t, hu, hotp, hboot⟩ := State.writeOne_sysSwReset_key h hkey
    have hre := State.hardReset_restarted (s := t) 4 (by rwa [hboot])
    exact ⟨_, hu ▸ yields_sysSwReset, hre.boot, hre.domState, hre.otp.trans hotp, fun k hk => hre.accounting hk⟩
  case noKey =>
    intro ini w s h hkey
    exact ⟨_, rfl, State.writeOne_sysSwReset_noKey h hkey⟩

end Sys2Proof.Machine
end

section
/-! PROOFS. IRQ_N after every command (R66, R67), and O4. -/

namespace Sys2Proof.Machine

/-- Every command's meaning answers a settled state. -/
theorem exec_settles (c : Instr) (s : State) : ∃ u, exec c s = .next (settle u) := by
  cases c <;> exact ⟨_, rfl⟩

/-- Settling leaves IRQ_N right (R67). -/
theorem irqRight_settle (s : State) : (settle s).irqRight := settle_irq s

theorem irqRight_of_exec {c : Instr} {s t : State} (h : exec c s = .next t) : t.irqRight := by
  obtain ⟨u, hu⟩ := exec_settles c s
  obtain rfl : settle u = t := Host.Outcome.next.inj (hu.symm.trans h)
  exact irqRight_settle u

/-- Settles O4: a command settles the hub, and an idle step leaves IRQ_N as it was. -/
theorem stepDrivesIrq : Obligations.StepDrivesIrq := by
  unfold Obligations.StepDrivesIrq
  refine ⟨fun c s t h => irqRight_of_exec h, fun s t hs h => ?_⟩
  unfold step at h
  split at h
  case h_1 =>
    obtain rfl : s = t := Host.Outcome.next.inj h
    exact hs
  case h_2 => exact irqRight_of_exec h

end Sys2Proof.Machine
end

section
/-! PROOFS. Fields beside a written field, and the Host Notify word under writes that no interrupt shows (R66, R67). -/

namespace Sys2Proof.Machine

variable {s t : State} {f g : Fld}

/-! ## Reads after writes, with conditions that evaluate -/

/-- `f` lies within its word and shares no bit with `g`. -/
abbrev Fld.off (f g : Fld) : Prop := f.lo + f.w ≤ 32 ∧ (f.addr ≠ g.addr ∨ g.lo + g.w ≤ f.lo ∨ f.lo + f.w ≤ g.lo)

theorem State.get_set_off (h : f.off g) (v : Nat) : (s.set f v).get g = s.get g := s.get_set_ne v h.1 h.2

theorem State.get_set_in (h : f.lo + f.w ≤ 32) (v : Nat) : (s.set f v).get f = v % 2 ^ f.w := s.get_set_self f v h

theorem State.get_inc_off (h : f.off g) : (s.inc f).get g = s.get g := State.get_set_off h _

theorem State.get_set_mod {n : Nat} (h : f.lo + f.w ≤ 32 ∧ 2 ^ f.w = n) (v : Nat) : (s.set f v).get f = v % n := by
  rw [State.get_set_in h.1, h.2]

/-- A 16-bit counter stops at its largest value. -/
theorem State.get_inc_wide (h : f.lo + f.w ≤ 32 ∧ f.w = 16) : (s.inc f).get f = min (s.get f + 1) 0xFFFF := by
  rw [State.get_inc_self s f h.1, h.2, show 2 ^ 16 - 1 = 0xFFFF by norm_num]

theorem State.get_irq_off {page i : Nat} (h : (F.PG_IRQ page i).off g) : (s.irq page i).get g = s.get g := State.get_set_off h _

theorem State.get_fault_off {page : Nat} (code : Nat) (h : (F.PG_IRQ page 1).off g ∧ (F.PG_FAULT page).off g) :
    (s.fault page code).get g = s.get g := by
  rw [State.fault, State.get_set_off h.2, State.when]
  split
  · exact State.get_irq_off h.1
  · rfl

theorem State.on_set_off (h : f.off g) (v : Nat) : (s.set f v).on g = s.on g := State.on_congr s (State.get_set_off h v)

theorem State.on_inc_off (h : f.off g) : (s.inc f).on g = s.on g := State.on_set_off h _

theorem State.on_irq_off {page i : Nat} (h : (F.PG_IRQ page i).off g) : (s.irq page i).on g = s.on g := State.on_set_off h _

theorem State.on_irq_in {page i : Nat} (h : i < 32) : (s.irq page i).on (F.PG_IRQ page i) = true :=
  State.on_of_get_one _ (s.get_irq_self page i h)

theorem State.on_fault_off {page : Nat} (code : Nat) (h : (F.PG_IRQ page 1).off g ∧ (F.PG_FAULT page).off g) :
    (s.fault page code).on g = s.on g := State.on_congr s (State.get_fault_off code h)

theorem State.on_set_zero (h : f.lo + f.w ≤ 32) : (s.set f 0).on f = false := by
  rw [State.on, State.get_set_in h, Nat.zero_mod]
  rfl

theorem State.on_set_one (h : f.lo + f.w ≤ 32 ∧ 0 < f.w) : (s.set f 1).on f = true := by
  rw [State.on, State.get_set_in h.1, Nat.mod_eq_of_lt (Nat.one_lt_two_pow h.2.ne')]
  rfl

/-! ## The Host Notify word -/

/-- W is read from PG_IRQ_RAW and PG_IRQ_EN of the pages and from SYS_IRQ_GROUP_EN. -/
def showsInWord (a : Nat) : Bool := decide (a % 0x400 = 0x00C) || decide (a % 0x400 = 0x010) || decide (a = A.SYS_IRQ_GROUP_EN)

theorem showsInWord_raw (p : Nat) : showsInWord (F.PG_IRQ_RAW p).addr = true := by
  have h : (p * 0x400 + 0x00C) % 0x400 = 0x00C := by omega
  simp [showsInWord, F.PG_IRQ_RAW, h]

theorem showsInWord_en (p : Nat) : showsInWord (F.PG_IRQ_EN p).addr = true := by
  have h : (p * 0x400 + 0x010) % 0x400 = 0x010 := by omega
  simp [showsInWord, F.PG_IRQ_EN, h]

theorem State.notifyWord_congr (h : ∀ a, showsInWord a = true → t.reg a = s.reg a) : t.notifyWord = s.notifyWord := by
  have hraw : ∀ p, t.get (F.PG_IRQ_RAW p) = s.get (F.PG_IRQ_RAW p) := fun p => by
    rw [State.get, h _ (showsInWord_raw p), State.get]
  have hen : ∀ p, t.get (F.PG_IRQ_EN p) = s.get (F.PG_IRQ_EN p) := fun p => by
    rw [State.get, h _ (showsInWord_en p), State.get]
  have hgrp : t.get F.SYS_IRQ_GROUP_EN_EN = s.get F.SYS_IRQ_GROUP_EN_EN := by rw [State.get, h _ rfl, State.get]
  have hpage : t.pagePending = s.pagePending := funext fun p => by
    rw [State.pagePending, State.irqOut, hraw, hen, State.pagePending, State.irqOut]
  rw [State.notifyWord, State.irqGroups, hpage, hgrp, State.notifyWord, State.irqGroups]

/-- A change outside those registers leaves W. -/
theorem Touches.notifyWord_eq {ps : List Part} {fs : List Fld} (h : Touches ps [] fs s t)
    (hf : ∀ f ∈ fs, showsInWord f.addr = false) : t.notifyWord = s.notifyWord :=
  State.notifyWord_congr fun _ ha => h.reg_eq (List.not_mem_nil) fun f hm e =>
    Bool.false_ne_true ((hf f hm).symm.trans (e ▸ ha))

theorem State.notifyWord_set (h : showsInWord f.addr = false) (v : Nat) : (s.set f v).notifyWord = s.notifyWord :=
  State.notifyWord_congr fun _ ha => s.reg_set_ne v fun e => Bool.false_ne_true (h.symm.trans (e ▸ ha))

/-! ## Frames -/

section
variable {ps : List Part} {fs : List Fld}

/-- A field that shares no bit with the listed ones reads the same. -/
theorem Touches.get_keeps (h : Touches ps [] fs s t) (hf : ∀ g ∈ fs, g.addr ≠ f.addr ∨ f.lo + f.w ≤ g.lo ∨ g.lo + g.w ≤ f.lo) :
    t.get f = s.get f := h.get_eq List.not_mem_nil hf

theorem Touches.on_keeps (h : Touches ps [] fs s t) (hf : ∀ g ∈ fs, g.addr ≠ f.addr ∨ f.lo + f.w ≤ g.lo ∨ g.lo + g.w ≤ f.lo) :
    t.on f = s.on f := State.on_congr s (h.get_keeps hf)

end

end Sys2Proof.Machine
end

section
/-! PROOFS. Host Notify (R441 to R444): when a word goes out, and what its delivery, loss or refusal leaves. -/

namespace Sys2Proof.Machine

variable {s t : State}

/-- The status fields of a send (R441). -/
def hnSendFlds : List Fld := [F.SMB_HN_STATUS_SENDING, F.SMB_HN_STATUS_PENDING, F.SMB_HN_STATUS_TRY]

/-! ## A word that is over, withdrawn or going out -/

theorem State.hnOver_shows : s.hnOver.on F.SMB_HN_STATUS_PENDING = false ∧ s.hnOver.on F.SMB_HN_STATUS_SENDING = false ∧
    s.hnOver.get F.SMB_HN_STATUS_TRY = 0 ∧ s.hnOver.smb = { s.smb with retry := false } := by
  refine ⟨?_, ?_, ?_, rfl⟩ <;>
    simp (disch := decide) only [State.hnOver, State.modSmb_on, State.modSmb_get, State.on_set_off, State.on_set_zero,
      State.get_set_in, Nat.zero_mod]

section
variable {ps : List Part} {gs : List Nat} {fs : List Fld}

theorem Touches.hnOver (h : Touches ps gs fs s t) (hp : .smb ∈ ps) (hf : hnSendFlds ⊆ fs) : Touches ps gs fs s t.hnOver :=
  (((h.set _ (.inr (hf (by decide)))).set _ (.inr (hf (by decide)))).set _ (.inr (hf (by decide)))).modSmb _ hp

theorem State.hnOver_touches : Touches [.smb] [] hnSendFlds s s.hnOver :=
  (Touches.refl _ _ _ s).hnOver (by decide) (List.Subset.refl _)

/-- The present word goes out (R441). -/
def State.hnPutOut (s : State) : State :=
  (s.set F.SMB_HN_STATUS_SENDING 1).modSmb (fun b => { b with word := s.notifyWord, retry := false })

theorem Touches.hnPutOut (h : Touches ps gs fs s t) (hp : .smb ∈ ps) (hf : F.SMB_HN_STATUS_SENDING ∈ fs) :
    Touches ps gs fs s t.hnPutOut := (h.set _ (.inr hf)).modSmb _ hp

/-- With no word left, LAST_SENT is cleared (R441). -/
def State.hnForget (s : State) : State := s.hnOver.set F.SMB_HN_STATUS_LAST_SENT 0

theorem Touches.hnForget (h : Touches ps gs fs s t) (hp : .smb ∈ ps) (hf : hnSendFlds ⊆ fs)
    (hl : F.SMB_HN_STATUS_LAST_SENT ∈ fs) : Touches ps gs fs s t.hnForget := (h.hnOver hp hf).set _ (.inr hl)

/-- A start of a Host Notify: nothing to tell, a held port, or the word goes out. -/
theorem State.hnStart_cases : s.hnStart = if s.notifyWord = 0 then s.hnForget
    else if s.on F.SMB_REC_SMB_STUCK ∨ s.on F.SMB_REC_SMB_RECOVERING then s else s.hnPutOut := rfl

theorem State.hnStart_sends (hw : s.notifyWord ≠ 0) (hs : s.on F.SMB_REC_SMB_STUCK = false)
    (hr : s.on F.SMB_REC_SMB_RECOVERING = false) : s.hnStart = s.hnPutOut := by
  rw [State.hnStart_cases, if_neg hw, hs, hr, if_neg (by decide)]

theorem Touches.hnStart (h : Touches ps gs fs s t) (hp : .smb ∈ ps) (hf : hnSendFlds ⊆ fs)
    (hl : F.SMB_HN_STATUS_LAST_SENT ∈ fs) : Touches ps gs fs s t.hnStart := by
  rw [State.hnStart_cases]
  split
  · exact h.hnForget hp hf hl
  split
  · exact h
  · exact h.hnPutOut hp (hf (by decide))

end

theorem State.hnPutOut_shows : s.hnPutOut.on F.SMB_HN_STATUS_SENDING = true ∧
    s.hnPutOut.smb = { s.smb with word := s.notifyWord, retry := false } := by
  refine ⟨?_, rfl⟩
  rw [State.hnPutOut, State.modSmb_on, State.on_set_one (by decide)]

theorem State.hnForget_shows : s.hnForget.get F.SMB_HN_STATUS_LAST_SENT = 0 ∧ s.hnForget.on F.SMB_HN_STATUS_PENDING = false := by
  rw [State.hnForget, State.get_set_in (by decide), State.on_set_off (by decide), s.hnOver_shows.1]
  exact ⟨rfl, rfl⟩

/-! ## Evaluations (R441) -/

theorem State.hnEval_zero (idle : Nat) (hv : s.smbServes = true) (he : s.on F.SMB_HN_CFG_EN = true)
    (hs : s.on F.SMB_HN_STATUS_SENDING = false) (hw : s.notifyWord = 0) : s.hnEval idle = s.hnForget := by
  unfold State.hnEval
  rw [hv, he, hs, if_neg (by decide)]
  exact if_pos hw

theorem State.hnEval_off (idle : Nat)
    (h : s.on F.SMB_HN_CFG_EN = false ∨ s.smbServes = false ∨ s.on F.SMB_HN_STATUS_SENDING = true) : s.hnEval idle = s := by
  unfold State.hnEval
  refine if_pos ?_
  rcases h with h | h | h <;> simp [h]

/-- A record of the management bus put back as it was. -/
theorem State.modSmb_id {f : Smb → Smb} (h : f s.smb = s.smb) : s.modSmb f = s := by
  rw [State.modSmb, h]

/-- Nothing failed: a nonzero word with nothing to be retried or pending goes out when it has news and HOLDOFF has passed. -/
theorem State.hnEval_fresh (idle : Nat) (hv : s.smbServes = true) (he : s.on F.SMB_HN_CFG_EN = true)
    (hs : s.on F.SMB_HN_STATUS_SENDING = false) (hw : s.notifyWord ≠ 0) (hp : s.on F.SMB_HN_STATUS_PENDING = false)
    (hf : s.smb.failed = none) : s.hnEval idle =
      if s.smb.retry then s
      else if s.notifyWord &&& s.get F.SMB_HN_STATUS_LAST_SENT = s.notifyWord ∨ idle < s.get F.SMB_HN_CFG_HOLDOFF then s
      else (s.set F.SMB_HN_STATUS_PENDING 1).hnStart := by
  have hid : s.modSmb (fun b => { b with failed := none }) = s := State.modSmb_id (by rw [← hf])
  unfold State.hnEval
  rw [hv, he, hs, hp, hf, if_neg (by decide)]
  simp only [if_neg hw, hid, Bool.false_eq_true, if_false, Bool.not_eq_true', decide_eq_false_iff_not, not_not, ne_eq]

theorem State.hnEval_news {idle : Nat} (hv : s.smbServes = true) (he : s.on F.SMB_HN_CFG_EN = true)
    (hs : s.on F.SMB_HN_STATUS_SENDING = false) (hp : s.on F.SMB_HN_STATUS_PENDING = false) (hr : s.smb.retry = false)
    (hf : s.smb.failed = none) (hn : s.notifyWord &&& s.get F.SMB_HN_STATUS_LAST_SENT ≠ s.notifyWord)
    (hi : s.get F.SMB_HN_CFG_HOLDOFF ≤ idle) (hst : s.on F.SMB_REC_SMB_STUCK = false)
    (hrec : s.on F.SMB_REC_SMB_RECOVERING = false) : s.hnEval idle = (s.set F.SMB_HN_STATUS_PENDING 1).hnPutOut := by
  have hw : s.notifyWord ≠ 0 := fun h => hn (by rw [h, Nat.zero_and])
  rw [State.hnEval_fresh idle hv he hs hw hp hf, hr, if_neg Bool.false_ne_true, if_neg (by omega)]
  exact State.hnStart_sends (by rwa [State.notifyWord_set rfl]) (by rwa [State.on_set_off (by decide)])
    (by rwa [State.on_set_off (by decide)])

theorem State.hnEval_quiet (idle : Nat) (h : s.on F.SMB_HN_CFG_EN = false ∨ s.smbServes = false ∨
      s.on F.SMB_HN_STATUS_SENDING = true ∨ (s.notifyWord ≠ 0 ∧ s.on F.SMB_HN_STATUS_PENDING = false ∧ s.smb.failed = none ∧
        (idle < s.get F.SMB_HN_CFG_HOLDOFF ∨ s.notifyWord &&& s.get F.SMB_HN_STATUS_LAST_SENT = s.notifyWord))) :
    s.hnEval idle = s := by
  by_cases hoff : s.on F.SMB_HN_CFG_EN = false ∨ s.smbServes = false ∨ s.on F.SMB_HN_STATUS_SENDING = true
  · exact State.hnEval_off idle hoff
  · simp only [not_or, Bool.not_eq_false, Bool.not_eq_true] at hoff
    obtain ⟨he, hv, hs⟩ := hoff
    simp only [he, hv, hs, Bool.true_eq_false, Bool.false_eq_true, false_or] at h
    obtain ⟨hw, hp, hf, hq⟩ := h
    rw [State.hnEval_fresh idle hv he hs hw hp hf, if_pos hq.symm, ite_self]

/-! ## The end of a send (R442 to R444) -/

theorem State.hnSending_of (hv : s.smbServes = true) (hs : s.on F.SMB_HN_STATUS_SENDING = true) : s.hnSending = true := by
  rw [State.hnSending, hv, hs]
  rfl

theorem State.hnDone_eq (h : s.hnSending = true) :
    s.hnDone = (s.hnOver.set F.SMB_HN_STATUS_LAST_SENT s.smb.word).inc F.SMB_HN_COUNT_SENT := by
  rw [State.hnDone, h, State.when_true]

theorem State.hnLoss_eq (h : s.hnSending = true) : s.hnLoss =
    (((s.set F.SMB_HN_STATUS_SENDING 0).inc F.SMB_HN_COUNT_ARB_LOSSES).set F.SMB_FLAGS_ARB_LOST 1).irq 8 5 := by
  rw [State.hnLoss, h, State.when_true]

/-- A refused send is counted, and so is its try. -/
def State.hnRefused (s : State) : State :=
  ((s.set F.SMB_HN_STATUS_SENDING 0).set F.SMB_HN_STATUS_TRY (s.get F.SMB_HN_STATUS_TRY + 1)).inc F.SMB_HN_COUNT2_NACKS

/-- The last try failed: the word is given up. -/
def State.hnGivenUp (s : State) : State :=
  (((s.hnOver.modSmb (fun b => { b with failed := some b.word })).set F.SMB_FLAGS_HN_FAIL 1).inc F.SMB_HN_COUNT2_FAILS).irq 8 4

theorem State.hnRefused_get {g : Fld} (h : F.SMB_HN_STATUS_SENDING.off g ∧ F.SMB_HN_STATUS_TRY.off g ∧ F.SMB_HN_COUNT2_NACKS.off g) :
    s.hnRefused.get g = s.get g := by
  rw [State.hnRefused, State.get_inc_off h.2.2, State.get_set_off h.2.1, State.get_set_off h.1]

theorem State.hnRefused_shows : s.hnRefused.on F.SMB_HN_STATUS_SENDING = false ∧
    s.hnRefused.get F.SMB_HN_COUNT2_NACKS = min (s.get F.SMB_HN_COUNT2_NACKS + 1) 0xFFFF ∧
    s.hnRefused.get F.SMB_HN_STATUS_TRY = (s.get F.SMB_HN_STATUS_TRY + 1) % 16 ∧ s.hnRefused.smb = s.smb := by
  refine ⟨?_, ?_, ?_, by rw [State.hnRefused, State.inc_smb, State.set_smb, State.set_smb]⟩
  · rw [State.hnRefused, State.on_inc_off (by decide), State.on_set_off (by decide), State.on_set_zero (by decide)]
  · rw [State.hnRefused, State.get_inc_wide (by decide), State.get_set_off (by decide), State.get_set_off (by decide)]
  · rw [State.hnRefused, State.get_inc_off (by decide)]
    exact State.get_set_mod (by decide) _

theorem State.hnNack_eq (h : s.hnSending = true) : s.hnNack =
    if s.get F.SMB_HN_STATUS_TRY + 1 < s.get F.SMB_HN_CFG_TRIES then s.hnRefused.modSmb (fun b => { b with retry := true })
    else s.hnRefused.hnGivenUp := by
  rw [← State.hnRefused_get (s := s) (g := F.SMB_HN_CFG_TRIES) (by decide), State.hnNack, h, State.when_true]
  rfl

theorem State.hnGivenUp_shows : s.hnGivenUp.on F.SMB_HN_STATUS_SENDING = false ∧ s.hnGivenUp.on F.SMB_HN_STATUS_PENDING = false ∧
    s.hnGivenUp.on F.SMB_FLAGS_HN_FAIL = true ∧ s.hnGivenUp.on (F.PG_IRQ 8 4) = true ∧
    s.hnGivenUp.get F.SMB_HN_COUNT2_FAILS = min (s.get F.SMB_HN_COUNT2_FAILS + 1) 0xFFFF ∧
    s.hnGivenUp.smb = { s.smb with retry := false, failed := some s.smb.word } := by
  obtain ⟨hpend, hsend, -, hsmb⟩ := s.hnOver_shows
  have hsame : s.hnOver.get F.SMB_HN_COUNT2_FAILS = s.get F.SMB_HN_COUNT2_FAILS :=
    State.hnOver_touches.get_keeps (by decide)
  unfold State.hnGivenUp
  refine ⟨?_, ?_, ?_, State.on_irq_in (by decide), ?_, ?_⟩
  · rw [State.on_irq_off (by decide), State.on_inc_off (by decide), State.on_set_off (by decide), State.modSmb_on, hsend]
  · rw [State.on_irq_off (by decide), State.on_inc_off (by decide), State.on_set_off (by decide), State.modSmb_on, hpend]
  · rw [State.on_irq_off (by decide), State.on_inc_off (by decide), State.on_set_one (by decide)]
  · rw [State.get_irq_off (by decide), State.get_inc_wide (by decide), State.get_set_off (by decide), State.modSmb_get, hsame]
  · rw [State.irq_smb, State.inc_smb, State.set_smb, State.modSmb_smb, hsmb]

theorem State.hnGivenUp_get {g : Fld} (h : (∀ f ∈ hnSendFlds, f.addr ≠ g.addr ∨ g.lo + g.w ≤ f.lo ∨ f.lo + f.w ≤ g.lo) ∧
      F.SMB_FLAGS_HN_FAIL.off g ∧ F.SMB_HN_COUNT2_FAILS.off g ∧ (F.PG_IRQ 8 4).off g) : s.hnGivenUp.get g = s.get g := by
  obtain ⟨hover, hfail, hfails, hirq⟩ := h
  rw [State.hnGivenUp, State.get_irq_off hirq, State.get_inc_off hfails, State.get_set_off hfail, State.modSmb_get,
    State.hnOver_touches.get_keeps hover]

/-- The fields of a refused send (R444). -/
def hnRefusedFlds : List Fld :=
  hnSendFlds ++ [F.SMB_HN_COUNT2_NACKS, F.SMB_HN_COUNT2_FAILS, F.SMB_FLAGS_HN_FAIL, F.PG_IRQ 0x08 4]

theorem State.hnRefused_touches : Touches [.smb] [] hnRefusedFlds s s.hnRefused :=
  (((Touches.refl _ _ _ s).set _ (.inr (by decide))).set _ (.inr (by decide))).inc (.inr (by decide))

theorem State.hnGivenUp_touches : Touches [.smb] [] hnRefusedFlds s s.hnGivenUp :=
  (((((Touches.refl _ _ _ s).hnOver (by decide) (by decide)).modSmb _ (by decide)).set _ (.inr (by decide))).inc
    (.inr (by decide))).irq (.inr (by decide))

/-- A NACK with tries left (R444). -/
theorem State.hnNack_waits (h : s.hnSending = true) (ht : s.get F.SMB_HN_STATUS_TRY + 1 < s.get F.SMB_HN_CFG_TRIES) :
    s.hnNack = s.hnRefused.modSmb (fun b => { b with retry := true }) := by
  rw [State.hnNack_eq h, if_pos ht]

/-- A NACK of the last try (R444). -/
theorem State.hnNack_gives_up (h : s.hnSending = true) (ht : s.get F.SMB_HN_CFG_TRIES ≤ s.get F.SMB_HN_STATUS_TRY + 1) :
    s.hnNack = s.hnRefused.hnGivenUp := by
  rw [State.hnNack_eq h, if_neg (Nat.not_lt.2 ht)]

/-- RETRY has passed: the present word goes out (R444). -/
theorem State.hnRetry_sends (hv : s.smbServes = true) (hr : s.smb.retry = true) (he : s.on F.SMB_HN_CFG_EN = true)
    (hw : s.notifyWord ≠ 0) (hs : s.on F.SMB_REC_SMB_STUCK = false) (hrec : s.on F.SMB_REC_SMB_RECOVERING = false) :
    s.hnRetry = (s.modSmb (fun b => { b with retry := false })).hnPutOut := by
  rw [State.hnRetry, hv, hr, he, Bool.and_self, Bool.and_self, State.when_true]
  exact State.hnStart_sends hw hs hrec

end Sys2Proof.Machine
end

section
/-! PROOFS. Stuck buses and their recovery (R446, R447): what STUCK, a recovery and its tries leave. -/

namespace Sys2Proof.Machine

variable {s t : State} {p : Fin 2}

/-! ## A port's fields -/

/-- The status fields of a port (R449). -/
def portFlds (p : Nat) : List Fld := [recStuck p, recRun p, recTries p, recClocks p, recCount p]

theorem recStuck_fin (p : Fin 2) : (if p = 0 then F.SMB_REC_SMB_STUCK else F.SMB_REC_PMB_STUCK) = recStuck p := by
  simp only [recStuck, Fin.val_eq_zero_iff]

theorem recRun_fin (p : Fin 2) : (if p = 0 then F.SMB_REC_SMB_RECOVERING else F.SMB_REC_PMB_RECOVERING) = recRun p := by
  simp only [recRun, Fin.val_eq_zero_iff]

theorem recTries_fin (p : Fin 2) : (if p = 0 then F.SMB_REC_SMB_TRIES else F.SMB_REC_PMB_TRIES) = recTries p := by
  simp only [recTries, Fin.val_eq_zero_iff]

theorem recClocks_fin (p : Fin 2) : (if p = 0 then F.SMB_REC_SMB_CLOCKS else F.SMB_REC_PMB_CLOCKS) = recClocks p := by
  simp only [recClocks, Fin.val_eq_zero_iff]

theorem recCount_fin (p : Fin 2) : (if p = 0 then F.SMB_REC_SMB_RECOVERIES else F.SMB_REC_PMB_RECOVERIES) = recCount p := by
  simp only [recCount, Fin.val_eq_zero_iff]

/-! ## STUCK -/

/-- The fields of a port that enters STUCK (R446). -/
def portStuckFlds (p : Nat) : List Fld := [recRun p, recStuck p, F.PG_IRQ 0x08 1, F.PG_FAULT 0x08, F.PG_IRQ 0x08 6]

theorem Touches.portStuck {ps : List Part} {gs : List Nat} {fs : List Fld} (h : Touches ps gs fs s t) {p : Nat}
    (hf : portStuckFlds p ⊆ fs) : Touches ps gs fs s (t.portStuck p) :=
  (((h.set _ (.inr (hf (by simp [portStuckFlds])))).set _ (.inr (hf (by simp [portStuckFlds])))).fault _
    (.inr ⟨hf (by simp [portStuckFlds]), hf (by simp [portStuckFlds])⟩)).irq (.inr (hf (by simp [portStuckFlds])))

theorem State.portStuck_shows : (s.portStuck p).on (recStuck p) = true ∧ (s.portStuck p).on (recRun p) = false ∧
    (s.portStuck p).get (F.PG_FAULT 0x08) = p.val + 1 ∧ (s.portStuck p).on (F.PG_IRQ 0x08 6) = true := by
  unfold State.portStuck
  refine ⟨?_, ?_, ?_, State.on_irq_in (by decide)⟩
  · rw [State.on_irq_off (by revert p; decide), State.on_fault_off _ (by revert p; decide), State.on_set_one (by revert p; decide)]
  · rw [State.on_irq_off (by revert p; decide), State.on_fault_off _ (by revert p; decide), State.on_set_off (by revert p; decide),
      State.on_set_zero (by revert p; decide)]
  · rw [State.get_irq_off (by decide), State.get_fault_self _ _ _ (by omega)]

theorem Touches.portFree {ps : List Part} {gs : List Nat} {fs : List Fld} (h : Touches ps gs fs s t) {p : Nat}
    (hs : recStuck p ∈ fs) (hf : F.PG_FAULT 0x08 ∈ fs) : Touches ps gs fs s (t.portFree p) :=
  h.when _ fun _ => (h.set _ (.inr hs)).unfault _ (.inr hf)

theorem State.portFree_touches (p : Nat) : Touches [] [] [recStuck p, F.PG_FAULT 0x08] s (s.portFree p) :=
  (Touches.refl _ _ _ s).portFree (by simp) (by simp)

theorem State.get_unfault_off {s : State} {page : Nat} {g : Fld} (code : Nat) (h : (F.PG_FAULT page).off g) :
    (s.unfault page code).get g = s.get g := by
  rw [State.unfault, State.when]
  split
  · exact State.get_set_off h _
  · rfl

theorem State.get_unfault_in {s : State} (page code : Nat) : (s.unfault page code).get (F.PG_FAULT page) =
    if s.get (F.PG_FAULT page) = code then 0 else s.get (F.PG_FAULT page) := by
  rw [State.unfault, State.when]
  by_cases h : s.get (F.PG_FAULT page) = code
  · rw [decide_eq_true h, if_pos rfl, if_pos h, State.get_set_in (by simp [F.PG_FAULT]), Nat.zero_mod]
  · rw [decide_eq_false h, if_neg Bool.false_ne_true, if_neg h]

theorem State.portFree_stuck (h : s.on (recStuck p) = true) : s.portFree p = (s.set (recStuck p) 0).unfault 8 (p + 1) := by
  rw [State.portFree, h, State.when_true]

theorem State.unstuck_shows : ((s.set (recStuck p) 0).unfault 8 (p + 1)).on (recStuck p) = false ∧
    ((s.set (recStuck p) 0).unfault 8 (p + 1)).get (F.PG_FAULT 0x08) =
      if s.get (F.PG_FAULT 0x08) = p + 1 then 0 else s.get (F.PG_FAULT 0x08) := by
  constructor
  · rw [State.on_congr _ (State.get_unfault_off _ (by revert p; decide)), State.on_set_zero (by revert p; decide)]
  · rw [State.get_unfault_in, State.get_set_off (by revert p; decide)]

theorem State.portFree_not_stuck : (s.portFree p).on (recStuck p) = false := by
  cases h : s.on (recStuck p) with
  | false => rw [State.portFree, h, State.when_false, h]
  | true => rw [State.portFree_stuck h, State.unstuck_shows.1]

/-! ## The check before a transaction (R446) -/

/-- A recovery begins (R446). -/
def State.recBegun (s : State) (p : Nat) : State := ((s.set (recRun p) 1).set (recTries p) 0).set (recClocks p) 0

theorem Touches.recBegun {ps : List Part} {gs : List Nat} {fs : List Fld} (h : Touches ps gs fs s t) {p : Nat}
    (hr : recRun p ∈ fs) (ht : recTries p ∈ fs) (hc : recClocks p ∈ fs) : Touches ps gs fs s (t.recBegun p) :=
  ((h.set _ (.inr hr)).set _ (.inr ht)).set _ (.inr hc)

theorem State.recBegun_shows : (s.recBegun p).on (recRun p) = true ∧ (s.recBegun p).get (recTries p) = 0 ∧
    (s.recBegun p).get (recClocks p) = 0 ∧ (s.recBegun p).on (recStuck p) = s.on (recStuck p) := by
  unfold State.recBegun
  refine ⟨?_, ?_, ?_, ?_⟩
  · rw [State.on_set_off (by revert p; decide), State.on_set_off (by revert p; decide), State.on_set_one (by revert p; decide)]
  · rw [State.get_set_off (by revert p; decide), State.get_set_in (by revert p; decide), Nat.zero_mod]
  · rw [State.get_set_in (by revert p; decide), Nat.zero_mod]
  · rw [State.on_set_off (by revert p; decide), State.on_set_off (by revert p; decide), State.on_set_off (by revert p; decide)]

/-- A send that meets a stuck bus is not on it. -/
def State.sendHeld (s : State) (p : Nat) : State := s.when (decide (p = 0)) (·.set F.SMB_HN_STATUS_SENDING 0)

theorem Touches.sendHeld {ps : List Part} {gs : List Nat} {fs : List Fld} (h : Touches ps gs fs s t) {p : Nat}
    (hs : F.SMB_HN_STATUS_SENDING ∈ fs) : Touches ps gs fs s (t.sendHeld p) :=
  h.when _ fun _ => h.set _ (.inr hs)

theorem State.sendHeld_on (p : Nat) {g : Fld} (h : F.SMB_HN_STATUS_SENDING.off g) : (s.sendHeld p).on g = s.on g := by
  rw [State.sendHeld, State.when]
  split
  · exact State.on_set_off h 0
  · rfl

theorem State.sendHeld_on_stuck : (s.sendHeld p).on (recStuck p) = s.on (recStuck p) := s.sendHeld_on p (by revert p; decide)

/-- The check of a wanted port that is neither stuck nor recovering. -/
theorem State.busStuck_eq (scl : Bool) (hb : s.busRuns = true) (hw : s.portWanted p = true) (hs : s.on (recStuck p) = false)
    (hr : s.on (recRun p) = false) (hc : p = 1 ∨ s.on F.SMB_HN_CFG_RECOVER = true) :
    s.busStuck p scl = if scl then (s.sendHeld p).portStuck p else (s.sendHeld p).recBegun p := by
  have hgo : ¬ (p.val = 0 ∧ (!(s.sendHeld p).on F.SMB_HN_CFG_RECOVER) = true) := by
    rw [State.sendHeld_on p (by decide)]
    rcases hc with rfl | hc
    · exact fun h => absurd h.1 (by decide)
    · rw [hc]
      exact fun h => Bool.false_ne_true h.2
  unfold State.busStuck
  rw [hb, hw, hs, hr]
  exact if_neg hgo

/-- Without RECOVER a stuck SMBus port only holds the send (R446). -/
theorem State.busStuck_barred (scl : Bool) (hc : s.on F.SMB_HN_CFG_RECOVER = false) :
    s.busStuck 0 scl = s ∨ s.busStuck 0 scl = s.set F.SMB_HN_STATUS_SENDING 0 := by
  rw [State.busStuck, State.when]
  split
  · refine .inr (if_pos ⟨rfl, ?_⟩)
    rw [decide_eq_true rfl, State.when_true, State.on_set_off (by decide), hc]
    rfl
  · exact .inl rfl

/-! ## Tries (R446) -/

/-- A try is over: its pulses, and both counts. -/
def State.recTried (s : State) (p clocks : Nat) : State :=
  (((s.set (recTries p) (s.get (recTries p) + 1)).set (recClocks p) clocks).inc (recCount p)).modSmb
    (fun b => if p = 0 then { b with single0 := false } else { b with single1 := false })

theorem State.recTried_touches (p clocks : Nat) :
    Touches [.smb] [] [recTries p, recClocks p, recCount p] s (s.recTried p clocks) :=
  ((((Touches.refl _ _ _ s).set _ (.inr (by simp))).set _ (.inr (by simp))).inc (.inr (by simp))).modSmb _ (by simp)

theorem State.recTried_shows {clocks : Nat} (h : clocks < 16) : (s.recTried p clocks).get (recClocks p) = clocks ∧
    (s.recTried p clocks).get (recTries p) = (s.get (recTries p) + 1) % 4 ∧
    (s.recTried p clocks).get (recCount p) = min (s.get (recCount p) + 1) 0xFFFF := by
  unfold State.recTried
  simp only [State.modSmb_get]
  refine ⟨?_, ?_, ?_⟩
  · rw [State.get_inc_off (by revert p; decide), State.get_set_mod (n := 16) (by revert p; decide), Nat.mod_eq_of_lt h]
  · rw [State.get_inc_off (by revert p; decide), State.get_set_off (by revert p; decide)]
    exact State.get_set_mod (by revert p; decide) _
  · rw [State.get_inc_wide (by revert p; decide), State.get_set_off (by revert p; decide), State.get_set_off (by revert p; decide)]

theorem State.recTried_on_run (clocks : Nat) : (s.recTried p clocks).on (recRun p) = s.on (recRun p) :=
  (s.recTried_touches p clocks).on_keeps (by revert p; decide)

/-- The bus is free after a try: the port no longer recovers, nor is it STUCK. -/
def State.recFreed (s : State) (p : Nat) : State := (s.set (recRun p) 0).portFree p

/-- A Host Notify that is due and waits for no retry starts on the SMBus port once it is free. -/
def State.hnResumed (s : State) (p : Nat) : State :=
  s.when (decide (p = 0) && s.on F.SMB_HN_STATUS_PENDING && s.on F.SMB_HN_CFG_EN && !s.smb.retry) State.hnStart

theorem State.busTry_eq {p : Nat} (clocks : Nat) (freed : Bool) (hb : s.busRuns = true) (hr : s.on (recRun p) = true)
    (h0 : s.smb.single0 = false) (h1 : s.smb.single1 = false) : s.busTry p clocks freed =
      if freed then ((s.recTried p clocks).recFreed p).hnResumed p
      else (s.recTried p clocks).when (decide (3 ≤ s.get (recTries p) + 1)) (·.portStuck p) := by
  unfold State.busTry
  rw [hb, hr, Bool.and_self, State.when_true]
  simp only [h0, h1, ite_self, Bool.false_eq_true, if_false]
  rfl

theorem State.recFreed_touches (p : Nat) : Touches [] [] [recRun p, recStuck p, F.PG_FAULT 0x08] s (s.recFreed p) :=
  ((Touches.refl _ _ _ s).set _ (.inr (by simp))).portFree (by simp) (by simp)

theorem State.recFreed_shows : (s.recFreed p).on (recRun p) = false ∧ (s.recFreed p).on (recStuck p) = false := by
  refine ⟨?_, State.portFree_not_stuck⟩
  rw [State.recFreed, (State.portFree_touches p).on_keeps (by revert p; decide), State.on_set_zero (by revert p; decide)]

theorem State.hnResumed_touches (p : Nat) :
    Touches [.smb] [] (F.SMB_HN_STATUS_LAST_SENT :: hnSendFlds) s (s.hnResumed p) :=
  (Touches.refl _ _ _ s).when _ fun _ => (Touches.refl _ _ _ s).hnStart (by decide) (by decide) (by decide)

theorem State.hnResumed_port : (s.hnResumed p).on (recRun p) = s.on (recRun p) ∧ (s.hnResumed p).on (recStuck p) = s.on (recStuck p) :=
  ⟨(s.hnResumed_touches p).on_keeps (by revert p; decide), (s.hnResumed_touches p).on_keeps (by revert p; decide)⟩

/-- On a free SMBus port the word that is due goes out. -/
theorem State.hnResumed_sends (hp : s.on F.SMB_HN_STATUS_PENDING = true) (he : s.on F.SMB_HN_CFG_EN = true)
    (hr : s.smb.retry = false) (hw : s.notifyWord ≠ 0) (hs : s.on (recStuck 0) = false) (hrec : s.on (recRun 0) = false) :
    (s.hnResumed 0).on F.SMB_HN_STATUS_SENDING = true := by
  rw [State.hnResumed, hp, he, hr, decide_eq_true rfl, Bool.and_self, Bool.and_self, Bool.not_false, Bool.and_self,
    State.when_true, State.hnStart_sends hw hs hrec, s.hnPutOut_shows.1]

end Sys2Proof.Machine
end

section
/-! PROOFS. The registers SMB_REC_CTRL and SMB_CNT_CLR (R447, R449): their words start something and are not kept. -/

namespace Sys2Proof.Machine

variable {s : State}

/-- The fields of SMB_REC_CTRL (R449). -/
def smbRecCtrlDef : RegDef := .mk 0x070 1 4 0 64 0x0 [] false [.mk 1 1 .w1s [], .mk 0 1 .w1s []]

/-- The fields of SMB_CNT_CLR (R449). -/
def smbCntClrDef : RegDef := .mk 0x074 1 4 0 64 0x0 [] false [.mk 0 1 .w1s []]

theorem regDefAt_smb : regDefAt A.SMB_REC_CTRL = some smbRecCtrlDef ∧ regDefAt A.SMB_CNT_CLR = some smbCntClrDef := by decide

/-- A block's word of the SMB page goes to the block (R449). -/
theorem State.regWritten_smb (e : Option Facts) {a : Nat} (hp : a / 0x400 = 8) (ho : 0x40 ≤ a % 0x400) (old w : Word) :
    s.regWritten e a old w = s.smbWritten a w := by
  unfold State.regWritten
  rw [if_neg (Nat.not_lt.2 ho), hp]
  rfl

theorem together_smb {a : Nat} (ha : a = A.SMB_REC_CTRL ∨ a = A.SMB_CNT_CLR) (old w new : Word) :
    together a old w new = (new, false) := by
  rcases ha with rfl | rfl <;> rfl

/-- A register of command bits alone holds the word it held; the block acts on the bits. -/
theorem State.writeOne_smb {ini a : Nat} {w : Word} (ha : a = A.SMB_REC_CTRL ∨ a = A.SMB_CNT_CLR)
    (h : s.mayWrite ini a w = true) : s.writeOne none ini a w = (s.setReg a (s.reg a)).smbWritten a w := by
  have hp : placeOf a = .reg (a / 0x400) (a % 0x400) := by rcases ha with rfl | rfl <;> rfl
  obtain ⟨d, hd, htake⟩ : ∃ d, regDefAt a = some d ∧ (d.take (s.reg a) w).1 = s.reg a := by
    rcases ha with rfl | rfl
    · exact ⟨_, regDefAt_smb.1, rfl⟩
    · exact ⟨_, regDefAt_smb.2, rfl⟩
  rw [s.writeOne_of_mayWrite none ini _ _ h (s.poke_of_mayWrite none ini _ _ h hp),
    State.poke_reg_taken s none _ _ hp hd (.inl (by rcases ha with rfl | rfl <;> decide)), together_smb ha, htake,
    State.regWritten_smb none (by rcases ha with rfl | rfl <;> rfl) (by rcases ha with rfl | rfl <;> decide)]

/-! ## SMB_REC_CTRL -/

/-- A single try begins (R447). -/
def State.recSingle (s : State) (p : Nat) : State :=
  (s.recBegun p).modSmb (fun b => if p = 0 then { b with single0 := true } else { b with single1 := true })

theorem State.recRetry_eq {p : Nat} (h : s.on (recRun p) = false) : s.recRetry p = s.recSingle p := by
  rw [State.recRetry, h, Bool.not_false, State.when_true]
  rfl

theorem rec_bit (p : Fin 2) : word (2 ^ p.val) = if p = 0 then 0x1#32 else 0x2#32 := by
  revert p
  decide

/-- The bit of one port alone starts that port's try. -/
theorem State.writeOne_smbRec {ini : Nat} {w : Word} {p : Fin 2}
    (h : s.mayWrite ini A.SMB_REC_CTRL (w ||| word (2 ^ p.val)) = true) (hw : bits w (1 - p.val) 1 = 0) :
    s.writeOne none ini A.SMB_REC_CTRL (w ||| word (2 ^ p.val)) = (s.setReg A.SMB_REC_CTRL (s.reg A.SMB_REC_CTRL)).recRetry p := by
  rw [State.writeOne_smb (.inl rfl) h, State.smbWritten, if_neg (by decide), if_pos rfl]
  match p with
  | 0 =>
    have h0 : hit (w ||| word (2 ^ (0 : Fin 2).val)) 0 = true := hit_or_const w _ (by decide)
    have h1 : hit (w ||| word (2 ^ (0 : Fin 2).val)) 1 = false := hit_or_clear w _ (by decide) hw
    rw [h0, h1, State.when_true, State.when_false]
    rfl
  | 1 =>
    have h0 : hit (w ||| word (2 ^ (1 : Fin 2).val)) 0 = false := hit_or_clear w _ (by decide) hw
    have h1 : hit (w ||| word (2 ^ (1 : Fin 2).val)) 1 = true := hit_or_const w _ (by decide)
    rw [h0, h1, State.when_true, State.when_false]
    rfl

/-! ## SMB_CNT_CLR -/

theorem State.writeOne_smbCntClr {ini : Nat} {w : Word} (h : s.mayWrite ini A.SMB_CNT_CLR (w ||| 0x1#32) = true) :
    s.writeOne none ini A.SMB_CNT_CLR (w ||| 0x1#32) = (s.setReg A.SMB_CNT_CLR (s.reg A.SMB_CNT_CLR)).smbCntClr := by
  rw [State.writeOne_smb (.inr rfl) h, State.smbWritten, if_neg (by decide), if_neg (by decide), hit_or_const w _ (by decide)]
  rfl

/-- The counters that SMB_CNT_CLR clears (R449). -/
def smbCountFlds : List Fld := [whole A.SMB_COUNT, whole A.SMB_COUNT2, whole A.SMB_HN_COUNT, whole A.SMB_HN_COUNT2,
  F.SMB_REC_SMB_RECOVERIES, F.SMB_REC_PMB_RECOVERIES]

theorem State.smbCntClr_eq : s.smbCntClr = (((((s.setReg A.SMB_COUNT 0).setReg A.SMB_COUNT2 0).setReg A.SMB_HN_COUNT 0).setReg
    A.SMB_HN_COUNT2 0).set F.SMB_REC_SMB_RECOVERIES 0).set F.SMB_REC_PMB_RECOVERIES 0 := rfl

theorem State.smbCntClr_shows : s.smbCntClr.reg A.SMB_COUNT = 0 ∧ s.smbCntClr.reg A.SMB_COUNT2 = 0 ∧
    s.smbCntClr.reg A.SMB_HN_COUNT = 0 ∧ s.smbCntClr.reg A.SMB_HN_COUNT2 = 0 ∧
    s.smbCntClr.get F.SMB_REC_SMB_RECOVERIES = 0 ∧ s.smbCntClr.get F.SMB_REC_PMB_RECOVERIES = 0 := by
  rw [State.smbCntClr_eq]
  refine ⟨?_, ?_, ?_, ?_, ?_, ?_⟩
  case refine_5 => rw [State.get_set_off (by decide), State.get_set_in (by decide), Nat.zero_mod]
  case refine_6 => rw [State.get_set_in (by decide), Nat.zero_mod]
  all_goals simp (disch := decide) only [State.reg_set_ne, State.reg_setReg_ne, State.reg_setReg_self]

theorem Touches.smbCntClr {ps : List Part} {gs : List Nat} {t : State} (h : Touches ps gs smbCountFlds s t) :
    Touches ps gs smbCountFlds s t.smbCntClr :=
  (((((h.setReg _ (.inr (by decide))).setReg _ (.inr (by decide))).setReg _ (.inr (by decide))).setReg _ (.inr (by decide))).set _
    (.inr (by decide))).set _ (.inr (by decide))

end Sys2Proof.Machine
end

section
/-! PROOFS. O52: Host Notify and the buses' recovery, clause by clause. -/

namespace Sys2Proof.Machine

variable {s : State}

/-! ## Host Notify -/

theorem State.hnEval_news_leaves : (s.set F.SMB_HN_STATUS_PENDING 1).hnPutOut.on F.SMB_HN_STATUS_SENDING = true ∧
    (s.set F.SMB_HN_STATUS_PENDING 1).hnPutOut.on F.SMB_HN_STATUS_PENDING = true ∧
    (s.set F.SMB_HN_STATUS_PENDING 1).hnPutOut.smb = { s.smb with word := s.notifyWord, retry := false } ∧
    Touches [.smb] [] hnSendFlds s (s.set F.SMB_HN_STATUS_PENDING 1).hnPutOut := by
  obtain ⟨hsend, hsmb⟩ := (s.set F.SMB_HN_STATUS_PENDING 1).hnPutOut_shows
  refine ⟨hsend, ?_, ?_, ((Touches.refl _ _ _ s).set _ (.inr (by decide))).hnPutOut (by decide) (by decide)⟩
  · rw [State.hnPutOut, State.modSmb_on, State.on_set_off (by decide), State.on_set_one (by decide)]
  · rw [hsmb, State.set_smb, State.notifyWord_set rfl]

theorem State.hnDone_leaves (h : s.hnSending = true) : s.hnDone.get F.SMB_HN_STATUS_LAST_SENT = s.smb.word % 2 ^ 16 ∧
    s.hnDone.on F.SMB_HN_STATUS_SENDING = false ∧ s.hnDone.on F.SMB_HN_STATUS_PENDING = false ∧
    s.hnDone.get F.SMB_HN_STATUS_TRY = 0 ∧ s.hnDone.get F.SMB_HN_COUNT_SENT = min (s.get F.SMB_HN_COUNT_SENT + 1) 0xFFFF ∧
    Touches [.smb] [] (hnSendFlds ++ [F.SMB_HN_STATUS_LAST_SENT, F.SMB_HN_COUNT_SENT]) s s.hnDone := by
  obtain ⟨hpend, hsend, htry, -⟩ := s.hnOver_shows
  rw [State.hnDone_eq h]
  refine ⟨?_, ?_, ?_, ?_, ?_, ?_⟩
  · rw [State.get_inc_off (by decide)]
    exact State.get_set_mod (by decide) _
  · rw [State.on_inc_off (by decide), State.on_set_off (by decide), hsend]
  · rw [State.on_inc_off (by decide), State.on_set_off (by decide), hpend]
  · rw [State.get_inc_off (by decide), State.get_set_off (by decide), htry]
  · rw [State.get_inc_wide (by decide), State.get_set_off (by decide), State.hnOver_touches.get_keeps (by decide)]
  · exact (((Touches.refl _ _ _ s).hnOver (by decide) (by decide)).set _ (.inr (by decide))).inc (.inr (by decide))

theorem State.hnLoss_leaves (h : s.hnSending = true) : s.hnLoss.on F.SMB_HN_STATUS_SENDING = false ∧
    s.hnLoss.get F.SMB_HN_COUNT_ARB_LOSSES = min (s.get F.SMB_HN_COUNT_ARB_LOSSES + 1) 0xFFFF ∧
    s.hnLoss.on F.SMB_FLAGS_ARB_LOST = true ∧ s.hnLoss.on (F.PG_IRQ 0x08 5) = true ∧
    Touches [] [] [F.SMB_HN_STATUS_SENDING, F.SMB_HN_COUNT_ARB_LOSSES, F.SMB_FLAGS_ARB_LOST, F.PG_IRQ 0x08 5] s s.hnLoss := by
  rw [State.hnLoss_eq h]
  refine ⟨?_, ?_, ?_, State.on_irq_in (by decide), ?_⟩
  · rw [State.on_irq_off (by decide), State.on_set_off (by decide), State.on_inc_off (by decide), State.on_set_zero (by decide)]
  · rw [State.get_irq_off (by decide), State.get_set_off (by decide), State.get_inc_wide (by decide), State.get_set_off (by decide)]
  · rw [State.on_irq_off (by decide), State.on_set_one (by decide)]
  · exact ((((Touches.refl _ _ _ s).set _ (.inr (by decide))).inc (.inr (by decide))).set _ (.inr (by decide))).irq
      (.inr (by decide))

theorem State.hnNack_leaves (h : s.hnSending = true) : s.hnNack.on F.SMB_HN_STATUS_SENDING = false ∧
    s.hnNack.get F.SMB_HN_COUNT2_NACKS = min (s.get F.SMB_HN_COUNT2_NACKS + 1) 0xFFFF ∧
    Touches [.smb] [] hnRefusedFlds s s.hnNack := by
  obtain ⟨hsend, hnacks, -, -⟩ := s.hnRefused_shows
  rw [State.hnNack_eq h]
  split
  · rw [State.modSmb_on, State.modSmb_get]
    exact ⟨hsend, hnacks, s.hnRefused_touches.modSmb _ (by decide)⟩
  · obtain ⟨hsend', -⟩ := s.hnRefused.hnGivenUp_shows
    refine ⟨hsend', ?_, s.hnRefused_touches.trans State.hnGivenUp_touches⟩
    rw [State.hnGivenUp_get (by decide), hnacks]

theorem State.hnNack_waits_leaves (h : s.hnSending = true) (ht : s.get F.SMB_HN_STATUS_TRY + 1 < s.get F.SMB_HN_CFG_TRIES) :
    s.hnNack.get F.SMB_HN_STATUS_TRY = s.get F.SMB_HN_STATUS_TRY + 1 ∧ s.hnNack.smb = { s.smb with retry := true } ∧
      s.hnNack.on F.SMB_FLAGS_HN_FAIL = s.on F.SMB_FLAGS_HN_FAIL := by
  obtain ⟨-, -, htry, hsmb⟩ := s.hnRefused_shows
  have htries : s.get F.SMB_HN_CFG_TRIES < 16 := s.get_lt _
  rw [State.hnNack_waits h ht]
  rw [State.modSmb_get, htry, Nat.mod_eq_of_lt (by omega), State.modSmb_smb, hsmb, State.modSmb_on]
  exact ⟨rfl, rfl, State.on_congr s (State.hnRefused_get (by decide))⟩

theorem State.hnNack_gives_up_leaves (h : s.hnSending = true)
    (ht : s.get F.SMB_HN_CFG_TRIES ≤ s.get F.SMB_HN_STATUS_TRY + 1) : s.hnNack.on F.SMB_FLAGS_HN_FAIL = true ∧
      s.hnNack.get F.SMB_HN_COUNT2_FAILS = min (s.get F.SMB_HN_COUNT2_FAILS + 1) 0xFFFF ∧ s.hnNack.on (F.PG_IRQ 0x08 4) = true ∧
      s.hnNack.smb = { s.smb with retry := false, failed := some s.smb.word } ∧ s.hnNack.on F.SMB_HN_STATUS_PENDING = false := by
  obtain ⟨-, hpend, hfail, hirq, hfails, hsmb⟩ := s.hnRefused.hnGivenUp_shows
  obtain ⟨-, -, -, hsmb'⟩ := s.hnRefused_shows
  rw [State.hnNack_gives_up h ht]
  exact ⟨hfail, by rw [hfails, State.hnRefused_get (by decide)], hirq, by rw [hsmb, hsmb'], hpend⟩

/-! ## Stuck buses -/

section
variable {p : Fin 2}

/-- The fields that the check of a port writes. -/
def busStuckFlds (p : Nat) : List Fld :=
  F.SMB_HN_STATUS_SENDING :: F.PG_FAULT 0x08 :: F.PG_IRQ 0x08 1 :: F.PG_IRQ 0x08 6 :: portFlds p

theorem State.sendHeld_recBegun_leaves (hs : s.on (recStuck p) = false) :
    ((s.sendHeld p).recBegun p).on (recRun p) = true ∧ ((s.sendHeld p).recBegun p).get (recTries p) = 0 ∧
      ((s.sendHeld p).recBegun p).on (recStuck p) = false ∧ Touches [] [] (busStuckFlds p) s ((s.sendHeld p).recBegun p) := by
  obtain ⟨hrun, htries, -, hstuck⟩ := (s.sendHeld p).recBegun_shows (p := p)
  refine ⟨hrun, htries, ?_, ((Touches.refl _ _ _ s).sendHeld (by simp [busStuckFlds])).recBegun (by simp [busStuckFlds, portFlds])
    (by simp [busStuckFlds, portFlds]) (by simp [busStuckFlds, portFlds])⟩
  rw [hstuck, State.sendHeld_on_stuck, hs]

theorem State.sendHeld_portStuck_touches (p : Nat) : Touches [] [] (busStuckFlds p) s ((s.sendHeld p).portStuck p) :=
  ((Touches.refl _ _ _ s).sendHeld (by simp [busStuckFlds])).portStuck (by simp [portStuckFlds, busStuckFlds, portFlds])

/-- The fields that a recovery try writes. -/
def busTryFlds (p : Nat) : List Fld :=
  F.SMB_HN_STATUS_LAST_SENT :: F.PG_FAULT 0x08 :: F.PG_IRQ 0x08 1 :: F.PG_IRQ 0x08 6 :: hnSendFlds ++ portFlds p

/-- The fields that the outcome of a try writes, once the try is counted. -/
def tryOutcomeFlds (p : Nat) : List Fld :=
  F.SMB_HN_STATUS_LAST_SENT :: hnSendFlds ++ [recRun p, recStuck p, F.PG_FAULT 0x08, F.PG_IRQ 0x08 1, F.PG_IRQ 0x08 6]

theorem tryOutcomeFlds_apart (p : Fin 2) : ∀ f ∈ [recClocks p, recTries p, recCount p], ∀ g ∈ tryOutcomeFlds p,
    g.addr ≠ f.addr ∨ f.lo + f.w ≤ g.lo ∨ g.lo + g.w ≤ f.lo := by
  revert p
  decide

theorem State.busTry_outcome_touches {clocks : Nat} (freed : Bool) (hb : s.busRuns = true) (hr : s.on (recRun p) = true)
    (h0 : s.smb.single0 = false) (h1 : s.smb.single1 = false) :
    Touches [.smb] [] (tryOutcomeFlds p) (s.recTried p clocks) (s.busTry p clocks freed) := by
  rw [State.busTry_eq clocks freed hb hr h0 h1]
  cases freed with
  | true =>
    rw [if_pos rfl]
    exact ((State.recFreed_touches p).mono (by simp) (by simp) (by simp [tryOutcomeFlds])).trans
      ((State.hnResumed_touches p).mono (by simp) (by simp) (by simp [tryOutcomeFlds, hnSendFlds]))
  | false =>
    rw [if_neg Bool.false_ne_true]
    exact (Touches.refl _ _ _ _).when _ fun _ => (Touches.refl _ _ _ _).portStuck (by simp [portStuckFlds, tryOutcomeFlds])

/-- Whatever its outcome, a try shows its pulses and is counted. -/
theorem State.busTry_leaves {clocks : Nat} (freed : Bool) (hb : s.busRuns = true) (hr : s.on (recRun p) = true)
    (h0 : s.smb.single0 = false) (h1 : s.smb.single1 = false) (hc : clocks < 16) :
    (s.busTry p clocks freed).get (recClocks p) = clocks ∧
      (s.busTry p clocks freed).get (recTries p) = (s.get (recTries p) + 1) % 4 ∧
      (s.busTry p clocks freed).get (recCount p) = min (s.get (recCount p) + 1) 0xFFFF ∧
      Touches [.smb] [] (busTryFlds p) s (s.busTry p clocks freed) := by
  obtain ⟨hclocks, htries, hcount⟩ := s.recTried_shows (p := p) hc
  have ht := State.busTry_outcome_touches (clocks := clocks) freed hb hr h0 h1
  have hkeep := tryOutcomeFlds_apart p
  refine ⟨?_, ?_, ?_, ?_⟩
  · rw [ht.get_keeps (hkeep _ (by simp)), hclocks]
  · rw [ht.get_keeps (hkeep _ (by simp)), htries]
  · rw [ht.get_keeps (hkeep _ (by simp)), hcount]
  · exact ((s.recTried_touches p clocks).mono (by simp) (by simp) (by simp [busTryFlds, portFlds])).trans
      (ht.mono (by simp) (by simp) (by simp [tryOutcomeFlds, busTryFlds, hnSendFlds, portFlds]))

/-- A try that frees the bus. -/
theorem State.busTry_freed_leaves {clocks : Nat} (hb : s.busRuns = true) (hr : s.on (recRun p) = true)
    (h0 : s.smb.single0 = false) (h1 : s.smb.single1 = false) :
    (s.busTry p clocks true).on (recRun p) = false ∧ (s.busTry p clocks true).on (recStuck p) = false := by
  rw [State.busTry_eq clocks true hb hr h0 h1, if_pos rfl, State.hnResumed_port.1, State.hnResumed_port.2]
  exact State.recFreed_shows

/-- A freed SMBus port sends the word that is due. -/
theorem State.busTry_freed_sends {clocks : Nat} (hb : s.busRuns = true) (hr : s.on (recRun 0) = true)
    (h0 : s.smb.single0 = false) (h1 : s.smb.single1 = false) (hp : s.on F.SMB_HN_STATUS_PENDING = true)
    (he : s.on F.SMB_HN_CFG_EN = true) (hretry : s.smb.retry = false) (hw : s.notifyWord ≠ 0) :
    (s.busTry 0 clocks true).on F.SMB_HN_STATUS_SENDING = true := by
  have htried := s.recTried_touches 0 clocks
  have hfree := (s.recTried 0 clocks).recFreed_touches 0
  obtain ⟨hrun, hstuck⟩ := (s.recTried 0 clocks).recFreed_shows (p := 0)
  have hsmb : ((s.recTried 0 clocks).recFreed 0).smb = (s.recTried 0 clocks).smb := hfree.1 .smb (by decide)
  rw [State.busTry_eq clocks true hb hr h0 h1, if_pos rfl]
  refine State.hnResumed_sends ?_ ?_ ?_ ?_ hstuck hrun
  · rw [hfree.on_keeps (by decide), htried.on_keeps (by decide), hp]
  · rw [hfree.on_keeps (by decide), htried.on_keeps (by decide), he]
  · rw [hsmb, State.recTried, State.modSmb_smb, State.inc_smb, State.set_smb, State.set_smb]
    exact hretry
  · rwa [hfree.notifyWord_eq (by decide), htried.notifyWord_eq (by decide)]

/-- A try that does not free the bus. -/
theorem State.busTry_held_leaves {clocks : Nat} (hb : s.busRuns = true) (hr : s.on (recRun p) = true)
    (h0 : s.smb.single0 = false) (h1 : s.smb.single1 = false) :
    (s.get (recTries p) < 2 → (s.busTry p clocks false).on (recRun p) = true) ∧
      (2 ≤ s.get (recTries p) → (s.busTry p clocks false).on (recRun p) = false ∧ (s.busTry p clocks false).on (recStuck p) = true ∧
        (s.busTry p clocks false).get (F.PG_FAULT 0x08) = p.val + 1 ∧ (s.busTry p clocks false).on (F.PG_IRQ 0x08 6) = true) := by
  rw [State.busTry_eq clocks false hb hr h0 h1, if_neg Bool.false_ne_true]
  refine ⟨fun h => ?_, fun h => ?_⟩
  · rw [decide_eq_false (by omega), State.when_false, State.recTried_on_run, hr]
  · obtain ⟨hstuck, hrun, hfault, hirq⟩ := (s.recTried p clocks).portStuck_shows (p := p)
    rw [decide_eq_true (by omega), State.when_true]
    exact ⟨hrun, hstuck, hfault, hirq⟩

/-- SMB_REC_CTRL starts one try on the port. -/
theorem State.recSingle_leaves : (s.recSingle p).on (recRun p) = true ∧ (s.recSingle p).get (recTries p) = 0 ∧
    (s.recSingle p).get (recClocks p) = 0 ∧ (p = 0 → (s.recSingle p).smb = { s.smb with single0 := true }) ∧
    (p = 1 → (s.recSingle p).smb = { s.smb with single1 := true }) ∧ Touches [.smb] [] (portFlds p) s (s.recSingle p) := by
  obtain ⟨hrun, htries, hclocks, -⟩ := s.recBegun_shows (p := p)
  have hsmb : (s.recBegun p).smb = s.smb := by rw [State.recBegun, State.set_smb, State.set_smb, State.set_smb]
  unfold State.recSingle
  rw [State.modSmb_on, State.modSmb_get, State.modSmb_get, State.modSmb_smb, hsmb]
  refine ⟨hrun, htries, hclocks, ?_, ?_, ?_⟩
  · rintro rfl
    rfl
  · rintro rfl
    rfl
  · exact ((Touches.refl _ _ _ s).recBegun (by simp [portFlds]) (by simp [portFlds]) (by simp [portFlds])).modSmb _ (by decide)

end

/-! ## O52 -/

/-- Settles O52: each command's meaning by its branch, and what the branch leaves. -/
theorem hostNotify : Obligations.HostNotify := by
  unfold Obligations.HostNotify
  simp only [recStuck_fin, recRun_fin, recTries_fin, recClocks_fin, recCount_fin]
  refine ⟨?news, ?zero, ?quiet, ?done, ?loss, ?nack, ?retry, ?stuck, ?barred, ?tried, ?clear, ?single, ?counts⟩
  case news =>
    intro idle s hv he hs hp hr hf hn hi hst hrec
    obtain ⟨hsend, hpend, hsmb, ht⟩ := s.hnEval_news_leaves
    refine ⟨s.hnEval idle, rfl, ?_⟩
    rw [State.hnEval_news hv he hs hp hr hf hn hi hst hrec]
    exact ⟨hsend, hpend, by rw [hsmb, ← hr], ht⟩
  case zero =>
    intro idle s hv he hs hw
    obtain ⟨hlast, hpend⟩ := s.hnForget_shows
    refine ⟨s.hnEval idle, rfl, ?_⟩
    rw [State.hnEval_zero idle hv he hs hw]
    exact ⟨hlast, hpend, (Touches.refl _ _ _ s).hnForget (by decide) (by decide) (by decide)⟩
  case quiet =>
    intro idle s h
    refine ⟨s.hnEval idle, rfl, ?_⟩
    rw [State.hnEval_quiet idle h]
    exact Touches.refl _ _ _ s
  case done => exact fun s hv hs => ⟨_, rfl, State.hnDone_leaves (State.hnSending_of hv hs)⟩
  case loss => exact fun s hv hs => ⟨_, rfl, State.hnLoss_leaves (State.hnSending_of hv hs)⟩
  case nack =>
    intro s hv hs
    have h := State.hnSending_of hv hs
    obtain ⟨hsend, hnacks, ht⟩ := State.hnNack_leaves h
    exact ⟨_, rfl, hsend, hnacks, State.hnNack_waits_leaves h, State.hnNack_gives_up_leaves h, ht⟩
  case retry =>
    intro s hv hr he hw hst hrec
    obtain ⟨hsend, hsmb⟩ := (s.modSmb (fun b => { b with retry := false })).hnPutOut_shows
    refine ⟨s.hnRetry, rfl, ?_⟩
    rw [State.hnRetry_sends hv hr he hw hst hrec]
    exact ⟨hsend, hsmb, ((Touches.refl _ _ _ s).modSmb _ (by decide)).hnPutOut (by decide) (by decide)⟩
  case stuck =>
    intro port scl s hb hw hs hr hc
    refine ⟨s.busStuck port scl, rfl, ?_⟩
    rw [State.busStuck_eq scl hb hw hs hr hc]
    cases scl with
    | false =>
      obtain ⟨hrun, htries, hstuck, ht⟩ := State.sendHeld_recBegun_leaves hs
      exact ⟨fun _ => ⟨hrun, htries, hstuck⟩, nofun, ht⟩
    | true =>
      obtain ⟨hstuck, -, hfault, hirq⟩ := (s.sendHeld port).portStuck_shows (p := port)
      exact ⟨nofun, fun _ => ⟨hstuck, hfault, hirq⟩, State.sendHeld_portStuck_touches port⟩
  case barred =>
    rintro _ scl s rfl hc hs hr
    refine ⟨s.busStuck 0 scl, rfl, ?_⟩
    rcases State.busStuck_barred scl hc with h | h <;> rw [h]
    · exact ⟨hs, hr, Touches.refl _ _ _ s⟩
    · exact ⟨by rw [State.on_set_off (by decide), hs], by rw [State.on_set_off (by decide), hr],
        (Touches.refl _ _ _ s).set _ (.inr (by decide))⟩
  case tried =>
    intro port clocks freed s hb hr h0 h1
    obtain ⟨hclocks, htries, hcount, ht⟩ := State.busTry_leaves (clocks := clocks) freed hb hr h0 h1 (by omega)
    refine ⟨_, rfl, hclocks, htries, hcount, ?_, ?_, ?_, ?_, ht⟩
    · rintro rfl
      exact State.busTry_freed_leaves hb hr h0 h1
    · rintro rfl
      exact (State.busTry_held_leaves hb hr h0 h1).1
    · rintro rfl
      exact (State.busTry_held_leaves hb hr h0 h1).2
    · rintro rfl rfl hp he hretry hw
      exact State.busTry_freed_sends hb hr h0 h1 hp he hretry hw
  case clear =>
    intro port s hb hs
    obtain ⟨hstuck, hfault⟩ := s.unstuck_shows (p := port)
    refine ⟨s.portFree port, ?_, ?_⟩
    · rw [Yields, exec_busStuckClear, execBusStuckClear, hb, State.when_true]
    · refine ⟨State.portFree_not_stuck, ?_, ?_, s.portFree_touches port⟩
      · rw [State.portFree_stuck hs, hfault]
        exact fun h => if_pos h
      · rw [State.portFree_stuck hs, hfault]
        exact fun h => if_neg h
  case single =>
    intro ini port w s h hw hr
    rw [← rec_bit] at h
    have hr' : (s.setReg A.SMB_REC_CTRL (s.reg A.SMB_REC_CTRL)).on (recRun port) = false :=
      (State.on_congr s (s.get_setReg_id _ _)).trans hr
    obtain ⟨hrun, htries, hclocks, h0, h1, ht⟩ := (s.setReg A.SMB_REC_CTRL (s.reg A.SMB_REC_CTRL)).recSingle_leaves (p := port)
    refine ⟨s.writeOne none ini A.SMB_REC_CTRL (w ||| word (2 ^ port.val)), rfl, ?_⟩
    rw [State.writeOne_smbRec h hw, State.recRetry_eq hr']
    exact ⟨⟨hrun, htries, hclocks⟩, h0, h1, (Touches.setReg_id _ _ _ _ _).trans ht⟩
  case counts =>
    intro ini w s h
    obtain ⟨hcount, hcount2, hhn, hhn2, hsmb, hpmb⟩ := (s.setReg A.SMB_CNT_CLR (s.reg A.SMB_CNT_CLR)).smbCntClr_shows
    refine ⟨s.writeOne none ini A.SMB_CNT_CLR (w ||| 0x1#32), rfl, ?_⟩
    rw [State.writeOne_smbCntClr h]
    exact ⟨hcount, hcount2, hhn, hhn2, hsmb, hpmb, (Touches.setReg_id _ _ _ _ _).smbCntClr⟩

end Sys2Proof.Machine
end

section
/-! PROOFS. O7, O9, O11 and O16 do not hold: a stop ends an overload (R92), a fault job displaces a plain one (R456, R459), and ABORT ends
the shadows of both groups (log 131); the frames leave these out. -/

namespace Sys2Proof.Machine

variable {s u : State}

/-- Outside the PLLs' status and SYS_SCRATCH, two states that a command answers read the same. -/
theorem Yields.get_eq {c : Instr} {v : State} {f : Fld} (hu : Yields c s u) (hv : Yields c s v)
    (hp : ∀ x < 4, A.CLK_PLL_STATUS x ≠ f.addr) (hs : A.SYS_SCRATCH ≠ f.addr) : u.get f = v.get f := by
  rw [← settle_get_ne u hp hs, hu.settle_eq hv, settle_get_ne v hp hs]

/-! ## A stop that ends an overload -/

theorem yields_ainModeWrite {ini : Fin 5} {n : Fin 16} {w : Word} :
    Yields (.ainModeWrite ini n w) s (s.writeOne none ini (A.AIN_CTRL n) w) := rfl

/-- Input 0 starts in MODE 2 and is overloaded before it delivers samples. -/
def overloadedStart : State := (((State.reset.set (F.PG_ENABLE 0x10) 1).set (F.AIN_CTRL_MODE 0) 2).ainBegin 0).ainOverload 0 false

/-- The reset word of AINn_CTRL: MODE 0. -/
def ainOffWord : Word := 0x30#32

theorem overloadedStart_mayStop : overloadedStart.mayWrite 0 (A.AIN_CTRL 0) ainOffWord = true ∧
    (overloadedStart.adcSub 0).all (fun x => decide (x.unit ≠ 0)) = true ∧
    overloadedStart.get (F.AIN_STATUS_OVL_NOW 0) = 1 := by decide +kernel

/-- With MODE 0 the input powers down at once, and its modulator is no longer overloaded. -/
theorem overloadedStart_stopped :
    (overloadedStart.writeOne none 0 (A.AIN_CTRL 0) ainOffWord).get (F.AIN_STATUS_OVL_NOW 0) = 0 := by decide +kernel

/-- Refutes O7: the frame of AIN_MODE_WRITE leaves out OVL_NOW. In `overloadedStart` the input is overloaded while it starts; MODE 0 stops
it before it delivers samples, which clears OVL_NOW. -/
theorem not_analogueInputWrites : ¬ Obligations.AnalogueInputWrites := by
  unfold Obligations.AnalogueInputWrites
  rintro ⟨modeWrite, -⟩
  obtain ⟨hmay, hsub, hovl⟩ := overloadedStart_mayStop
  obtain ⟨u, hy, -, -, -, -, htouch⟩ := modeWrite 0 0 ainOffWord overloadedStart hmay hsub
  have hkept : u.get (F.AIN_STATUS_OVL_NOW 0) = overloadedStart.get (F.AIN_STATUS_OVL_NOW 0) := htouch.get_keeps (by decide)
  have hcleared : u.get (F.AIN_STATUS_OVL_NOW 0) = 0 :=
    (hy.get_eq yields_ainModeWrite (by decide) (by decide)).trans overloadedStart_stopped
  rw [hkept, hovl] at hcleared
  exact absurd hcleared (by decide)

/-! ## A fault job that displaces a plain one -/

theorem yields_sliceStuckBit {n : Fin 16} : Yields (.sliceStuckBit n) s (s.ainStuckBit n) := rfl

/-- Input 0 is RUNNING, and the sixteen job slots hold slice tests: two from the boot and fourteen posted since. -/
def fullQueue : State := (State.reset.ainPhase 0 .running).forAll 14 (fun s k => s.postJob 2 k false)

theorem fullQueue_trips : fullQueue.clocked .ain = true ∧ (fullQueue.ainAt 0).phase ≠ .off ∧
    fullQueue.on (F.AIN_STATUS_OVL_NOW 0) = false ∧ fullQueue.get F.MNT_COUNT_ABORTED = 0 := by decide +kernel

/-- The newest plain job ends with RESULT 5 and is counted. -/
theorem fullQueue_displaced : (fullQueue.ainStuckBit 0).get F.MNT_COUNT_ABORTED = 1 := by decide +kernel

/-- Refutes O9: the frame of SLICE_STUCK_BIT leaves out ABORTED of MNT_COUNT. In `fullQueue` no slot is free, so the fault job displaces the
newest plain job, which is counted as aborted. -/
theorem not_analogueInputOverload : ¬ Obligations.AnalogueInputOverload := by
  unfold Obligations.AnalogueInputOverload
  rintro ⟨-, -, -, stuckBit⟩
  obtain ⟨hclk, hon, hovl, hnone⟩ := fullQueue_trips
  obtain ⟨u, hy, -, -, -, htouch⟩ := stuckBit 0 fullQueue hclk hon hovl
  have hkept : u.get F.MNT_COUNT_ABORTED = fullQueue.get F.MNT_COUNT_ABORTED := htouch.get_keeps (by decide)
  have hcounted : u.get F.MNT_COUNT_ABORTED = 1 :=
    (hy.get_eq yields_sliceStuckBit (by decide) (by decide)).trans fullQueue_displaced
  rw [hkept, hnone] at hcounted
  exact absurd hcounted (by decide)

/-! ## An abort that ends both groups' shadows -/

theorem yields_auxSubstAbort {ini : Fin 5} {w : Word} :
    Yields (.auxSubstAbort ini w) s (s.writeOne none ini A.AUX_SUBST_REQ (w ||| 0x200#32)) := rfl

/-- The substitution of a unit by a spare slice, in shadow. -/
def shadowOf (unit spare : Nat) : Subst := ⟨unit, spare, 0, false, false, 0, 0, 0, 0, 0⟩

/-- Both ADC groups shadow, for inputs 0 and 8; input 8 holds a write back. -/
def shadowedInputs : State :=
  ((State.reset.setAdcSub 0 (some (shadowOf 0 16))).setAdcSub 1 (some (shadowOf 8 17))).set (F.AIN_STATUS_FMT_PENDING 8) 1

theorem shadowedInputs_mayAbort : shadowedInputs.adcSub 0 = some (shadowOf 0 16) ∧
    shadowedInputs.mayWrite 0 A.AUX_SUBST_REQ (0#32 ||| 0x200#32) = true ∧
    shadowedInputs.get (F.AIN_STATUS_FMT_PENDING 8) = 1 := by decide +kernel

/-- ABORT ends the shadow of input 8 too, and the write it held takes effect. -/
theorem shadowedInputs_aborted :
    (shadowedInputs.writeOne none 0 A.AUX_SUBST_REQ (0#32 ||| 0x200#32)).get (F.AIN_STATUS_FMT_PENDING 8) = 0 := by
  decide +kernel

/-- Refutes O11: the frame of AUX_SUBST_ABORT names the held write of one group's input alone. In `shadowedInputs` both groups shadow; ABORT
names no group and ends both, and FMT_PENDING of the other group's input clears. -/
theorem not_adcSubstitution : ¬ Obligations.AdcSubstitution := by
  unfold Obligations.AdcSubstitution
  rintro ⟨-, abort, -⟩
  obtain ⟨hsub, hmay, hpend⟩ := shadowedInputs_mayAbort
  obtain ⟨u, hy, -, -, -, htouch⟩ := abort 0 0#32 0 (shadowOf 0 16) shadowedInputs hsub hmay (by decide)
  have hkept : u.get (F.AIN_STATUS_FMT_PENDING 8) = shadowedInputs.get (F.AIN_STATUS_FMT_PENDING 8) :=
    htouch.get_eq (by decide) (by unfold Fld.apart; decide)
  have hcleared : u.get (F.AIN_STATUS_FMT_PENDING 8) = 0 :=
    (hy.get_eq yields_auxSubstAbort (by decide) (by decide)).trans shadowedInputs_aborted
  rw [hkept, hpend] at hcleared
  exact absurd hcleared (by decide)

theorem yields_jckSubstAbort {ini : Fin 5} {w : Word} :
    Yields (.jckSubstAbort ini w) s (s.writeOne none ini A.JCK_SUBST_REQ (w ||| 0x200#32)) := rfl

/-- Both DAC groups shadow, for channels 0 and 4; channel 4 holds a write back. -/
def shadowedOutputs : State :=
  ((State.reset.setDacSub 0 (some (shadowOf 0 8))).setDacSub 1 (some (shadowOf 4 9))).set (F.AOUT_STATUS_FMT_PENDING 4) 1

theorem shadowedOutputs_mayAbort : shadowedOutputs.dacSub 0 = some (shadowOf 0 8) ∧
    shadowedOutputs.mayWrite 0 A.JCK_SUBST_REQ (0#32 ||| 0x200#32) = true ∧
    shadowedOutputs.on (F.AOUT_STATUS_FMT_PENDING 0) = false ∧
    shadowedOutputs.get (F.AOUT_STATUS_FMT_PENDING 4) = 1 := by decide +kernel

/-- ABORT ends the shadow of channel 4 too, and the write it held takes effect. -/
theorem shadowedOutputs_aborted :
    (shadowedOutputs.writeOne none 0 A.JCK_SUBST_REQ (0#32 ||| 0x200#32)).get (F.AOUT_STATUS_FMT_PENDING 4) = 0 := by
  decide +kernel

/-- Refutes O16: the frame of JCK_SUBST_ABORT names the held write of one group's channel alone. In `shadowedOutputs` both groups
shadow, and the statement asks of the other group nothing; ABORT names no group and ends both shadows, and FMT_PENDING of the other
group's channel clears. -/
theorem not_dacSubstitution : ¬ Obligations.DacSubstitution := by
  unfold Obligations.DacSubstitution
  rintro ⟨-, abort, -⟩
  obtain ⟨hsub, hmay, hfree, hpend⟩ := shadowedOutputs_mayAbort
  obtain ⟨u, hy, -, -, -, htouch⟩ := abort 0 0#32 0 (shadowOf 0 8) shadowedOutputs hsub hmay (by decide)
  rw [show (shadowOf 0 8).unit = 0 from rfl, hfree] at htouch
  have hkept : u.get (F.AOUT_STATUS_FMT_PENDING 4) = shadowedOutputs.get (F.AOUT_STATUS_FMT_PENDING 4) :=
    htouch.get_eq (by decide) (by unfold Fld.apart; decide)
  have hcleared : u.get (F.AOUT_STATUS_FMT_PENDING 4) = 0 :=
    (hy.get_eq yields_jckSubstAbort (by decide) (by decide)).trans shadowedOutputs_aborted
  rw [hkept, hpend] at hcleared
  exact absurd hcleared (by decide)

end Sys2Proof.Machine
end

section
/-! PROOFS. Analogue inputs (R78, R85, R88 to R91, R103): where an input's sequence goes on, what shows in its status, and what it leaves
unchanged. -/

namespace Sys2Proof.Machine

variable {s t : State} {n k : Nat}

/-! ## Fields of one register whose address depends on the input -/

theorem Fld.off_of_bits {f g : Fld} (hf : Nat.ble (f.lo + f.w) 32 = true)
    (h : (Nat.ble (g.lo + g.w) f.lo || Nat.ble (f.lo + f.w) g.lo) = true) : f.off g := by
  simp only [Bool.or_eq_true, Nat.ble_eq] at hf h
  exact ⟨hf, .inr h⟩

theorem Fld.off_of_addr {f g : Fld} (hf : Nat.ble (f.lo + f.w) 32 = true) (h : f.addr ≠ g.addr) : f.off g :=
  ⟨Nat.le_of_ble_eq_true hf, .inl h⟩

/-! ## Status (R103) -/

theorem ainState_lt (p : AinPhase) (reconf muted : Bool) : ainState p reconf muted < 8 := by
  unfold ainState
  split <;> try split
  all_goals decide

@[simp] theorem State.ainSync_ainAt (n k : Nat) : (s.ainSync n).ainAt k = s.ainAt k := by
  simp only [State.ainSync, State.setB_ainAt, State.set_ainAt]

theorem State.ainSync_state : (s.ainSync n).get (F.AIN_STATUS_STATE n) =
    ainState (s.ainAt n).phase (s.ainAt n).reconf (s.on (F.AIN_CTRL_MUTE n)) := by
  unfold State.ainSync State.setB
  rw [State.get_set_off (Fld.off_of_bits rfl rfl), State.get_set_off (Fld.off_of_bits rfl rfl),
    State.get_set_off (Fld.off_of_bits rfl rfl), State.get_set_off (Fld.off_of_bits rfl rfl),
    State.get_set_in (Nat.le_of_ble_eq_true rfl)]
  exact Nat.mod_eq_of_lt (ainState_lt _ _ _)

theorem State.ainPhase_ainAt_ne (p : AinPhase) (h : n ≠ k) : (s.ainPhase n p).ainAt k = s.ainAt k := by
  rw [State.ainPhase, State.ainSync_ainAt, s.ainAt_modAin_ne h]

theorem State.ainPhase_ainAt (p : AinPhase) (hn : n < 16) : (s.ainPhase n p).ainAt n = { s.ainAt n with phase := p } := by
  rw [State.ainPhase, State.ainSync_ainAt, s.ainAt_modAin_self hn]

theorem State.ainPhase_phase (p : AinPhase) (hn : n < 16) : ((s.ainPhase n p).ainAt n).phase = p := by
  rw [State.ainPhase_ainAt p hn]

theorem State.ainPhase_state (p : AinPhase) (hn : n < 16) : (s.ainPhase n p).get (F.AIN_STATUS_STATE n) =
    ainState p (s.ainAt n).reconf (s.on (F.AIN_CTRL_MUTE n)) := by
  rw [State.ainPhase, State.ainSync_state, s.ainAt_modAin_self hn]
  rfl

/-! ## Frames -/

theorem ainStatusFlds_addr {f : Fld} (hf : f ∈ ainStatusFlds n) : f.addr = A.AIN_STATUS n := by
  simp only [ainStatusFlds, List.mem_cons, List.not_mem_nil, or_false] at hf
  rcases hf with rfl | rfl | rfl | rfl | rfl <;> rfl

section
variable {ps : List Part} {gs : List Nat} {fs : List Fld}
  (hp : .ain ∈ ps) (hf : ∀ f ∈ ainStatusFlds n, f.addr / 0x400 ∈ gs ∨ f ∈ fs)
include hf

theorem Touches.ainSync (h : Touches ps gs fs s t) : Touches ps gs fs s (t.ainSync n) := by
  simp only [ainStatusFlds, List.mem_cons, List.not_mem_nil, or_false, forall_eq_or_imp, forall_eq] at hf
  obtain ⟨hstate, hmode, hjack, hdom, hpriv⟩ := hf
  exact ((((h.set _ hstate).set _ hmode).setB _ hjack).set _ hdom).setB _ hpriv

include hp

theorem Touches.ainPhase (h : Touches ps gs fs s t) (p : AinPhase) : Touches ps gs fs s (t.ainPhase n p) :=
  (h.modAin n _ hp).ainSync hf

theorem Touches.ainFill (h : Touches ps gs fs s t) : Touches ps gs fs s (t.ainFill n) := (h.modAin n _ hp).ainPhase hp hf .filling

theorem Touches.ainAfterPower (h : Touches ps gs fs s t) : Touches ps gs fs s (t.ainAfterPower n) := by
  unfold State.ainAfterPower
  dsimp only
  split
  · exact h.ainPhase hp hf _
  · split
    · exact h.ainPhase hp hf _
    · split
      · exact h.ainPhase hp hf _
      · exact h.ainFill hp hf

end

/-! ## The start sequence (R88) -/

theorem State.ainFill_ainAt (hn : n < 16) : (s.ainFill n).ainAt n =
    { s.ainAt n with fill := fillCount (s.ainAt n).filter, fade := .at0, hpX := 0, hpY := 0, phase := .filling } := by
  rw [State.ainFill, State.ainPhase_ainAt _ hn, s.ainAt_modAin_self hn]

theorem State.ainFill_ainAt_ne (h : n ≠ k) : (s.ainFill n).ainAt k = s.ainAt k := by
  rw [State.ainFill, State.ainPhase_ainAt_ne _ h, s.ainAt_modAin_ne h]

theorem State.ainAfterPower_ainAt_ne (h : n ≠ k) : (s.ainAfterPower n).ainAt k = s.ainAt k := by
  unfold State.ainAfterPower
  dsimp only
  split
  · exact State.ainPhase_ainAt_ne _ h
  · split
    · exact State.ainPhase_ainAt_ne _ h
    · split
      · exact State.ainPhase_ainAt_ne _ h
      · exact State.ainFill_ainAt_ne h

/-- A start that is no reconfiguration goes on to its PLL, VREFA, the calibration or the fill, whichever is next. -/
theorem State.ainAfterPower_eq (hr : (s.ainAt n).reconf = false) : s.ainAfterPower n =
    if s.famUp (rateFamily (s.ainAt n).rate) = false then s.ainPhase n .waitClk
    else if s.on F.AUX_VREF_STATUS_VREFA_READY = false then s.ainPhase n .waitVref
    else if s.on (F.AIN_CTRL_CAL_AUTO n) then s.ainPhase n .calibrating
    else s.ainFill n := by
  simp only [State.ainAfterPower, hr, Bool.not_false, Bool.true_or, Bool.and_true, Bool.not_eq_true']

theorem State.ainFill_phase (hn : n < 16) : ((s.ainFill n).ainAt n).phase = .filling := congrArg Ain.phase (State.ainFill_ainAt hn)

theorem State.ainAfterPower_phase (hn : n < 16) (hr : (s.ainAt n).reconf = false) : ((s.ainAfterPower n).ainAt n).phase =
    if s.famUp (rateFamily (s.ainAt n).rate) = false then .waitClk
    else if s.on F.AUX_VREF_STATUS_VREFA_READY = false then .waitVref
    else if s.on (F.AIN_CTRL_CAL_AUTO n) then .calibrating else .filling := by
  have hmoved (p : AinPhase) : ((s.ainPhase n p).ainAt n).phase = p := State.ainPhase_phase p hn
  have hfilled : ((s.ainFill n).ainAt n).phase = .filling := State.ainFill_phase hn
  rw [State.ainAfterPower_eq hr]
  split_ifs
  · exact hmoved _
  · exact hmoved _
  · exact hmoved _
  · exact hfilled

/-- With VREFA charged no start waits for it. -/
theorem State.ainAfterPower_not_waitVref (hn : n < 16) (hv : s.on F.AUX_VREF_STATUS_VREFA_READY = true) :
    ((s.ainAfterPower n).ainAt n).phase ≠ .waitVref := by
  unfold State.ainAfterPower
  rw [hv]
  dsimp only
  split
  · rw [State.ainPhase_phase _ hn]; decide
  · rw [if_neg (by decide)]
    split
    · rw [State.ainPhase_phase _ hn]; decide
    · rw [State.ainFill_phase hn]; decide

end Sys2Proof.Machine
end

section
/-! PROOFS. O8: the events of a starting, calibrating or stopping input. -/

namespace Sys2Proof.Machine

variable {s : State} {n : Nat}

/-! ## The pages of the inputs -/

/-- The registers of an input are past the headers, where its page's interrupts and fault code stand. -/
theorem ainStatus_addr_ne (n : Nat) {a : Nat} (ha : a % 0x400 < 0x40) : A.AIN_STATUS n ≠ a := by
  simp only [A.AIN_STATUS]
  omega

theorem ainCal_addr_ne (n : Nat) {a : Nat} (ha : a % 0x400 < 0x40) : A.AIN_CAL n ≠ a := by
  simp only [A.AIN_CAL]
  omega

/-- A register that is not the input's status stands through what its status alone shows. -/
theorem Touches.ain_reg_eq {ps : List Part} {a : Nat} {t : State} (h : Touches ps [] (ainStatusFlds n) s t)
    (ha : A.AIN_STATUS n ≠ a) : t.reg a = s.reg a :=
  h.reg_eq List.not_mem_nil fun _ hf => ainStatusFlds_addr hf ▸ ha

/-! ## AIN_START (R88 step 2) -/

theorem State.ainStarted_powerUp (hc : s.clocked .ain = true) (hp : (s.ainAt n).phase = .powerUp) :
    s.ainStarted n = s.ainAfterPower n := s.event_of _ hc (by rw [hp]; rfl)

theorem State.ainAfterPower_fill (hn : n < 16) (hr : (s.ainAt n).reconf = false) (hf : s.famUp (rateFamily (s.ainAt n).rate) = true)
    (hv : s.on F.AUX_VREF_STATUS_VREFA_READY = true) (hc : s.on (F.AIN_CTRL_CAL_AUTO n) = false) :
    ((s.ainAfterPower n).ainAt n).fill = fillCount (s.ainAt n).filter := by
  rw [State.ainAfterPower_eq hr, if_neg (by rw [hf]; decide), if_neg (by rw [hv]; decide), if_neg (by rw [hc]; decide),
    State.ainFill_ainAt hn]

/-! ## AIN_RUNNING (R88 step 7) -/

/-- The start gain at its end, no sequence open. -/
def Ain.settled (a : Ain) : Ain := { a with fade := .at1, fill := 0, reconf := false, modeChanged := false }

theorem State.ainRunning_unmuting (hc : s.clocked .ain = true) (hp : (s.ainAt n).phase = .unmuting) :
    s.ainRunning n = ((s.modAin n Ain.settled).ainPhase n .running).irq (pgAIN n) (4 + n % 2) := by
  have hcond : (decide ((s.ainAt n).phase = .unmuting) || decide ((s.ainAt n).phase = .filling)) = true := by rw [hp]; rfl
  have hfill : decide ((s.ainAt n).phase = .filling) = false := by rw [hp]; rfl
  rw [State.ainRunning, s.event_of _ hc hcond]
  dsimp only
  rw [hfill, State.when_false]
  rfl

theorem State.ainRunning_state (hn : n < 16) (hc : s.clocked .ain = true) (hp : (s.ainAt n).phase = .unmuting) :
    (s.ainRunning n).get (F.AIN_STATUS_STATE n) = if s.on (F.AIN_CTRL_MUTE n) then 5 else 4 := by
  rw [State.ainRunning_unmuting hc hp, State.get_irq_off (Fld.off_of_addr (by simp [F.PG_IRQ]; omega)
    (Ne.symm (ainStatus_addr_ne n (by simp only [F.PG_IRQ]; omega)))), State.ainPhase_state _ hn, s.ainAt_modAin_self hn]
  rfl

/-! ## AIN_CAL_DONE (R91) -/

/-- An offset within the limits. -/
def State.calTaken (s : State) (n : Nat) (offset : Int) : State :=
  ((s.setS (F.AIN_CAL_OFFSET n) offset).set (F.AIN_CAL_VALID n) 1).set (F.AIN_CAL_CAL_FAIL n) 0

/-- An offset outside them: the one held before stays, or 0. -/
def State.calRefused (s : State) (n : Nat) : State :=
  (((s.when (!s.on (F.AIN_CAL_VALID n)) (·.set (F.AIN_CAL_OFFSET n) 0)).set (F.AIN_CAL_CAL_FAIL n) 1).fault (pgAIN n) 1).irq (pgAIN n)
    (6 + n % 2)

theorem State.ainCalDone_calibrating {offset : Int} (hc : s.clocked .ain = true) (hp : (s.ainAt n).phase = .calibrating) :
    s.ainCalDone n offset = (if -41943 ≤ offset ∧ offset ≤ 41943 then s.calTaken n offset else s.calRefused n).ainFill n := by
  have hcond : (decide ((s.ainAt n).phase = .calibrating) || decide ((s.ainAt n).phase = .calMeasure)) = true := by rw [hp]; rfl
  rw [State.ainCalDone, s.event_of _ hc hcond]
  dsimp only
  rw [if_neg (by rw [hp]; decide)]
  congr 1
  simp only [Bool.and_eq_true, decide_eq_true_eq]
  rfl

theorem signed_unsigned_24 {x : Int} (h1 : -41943 ≤ x) (h2 : x ≤ 41943) : signed 24 (unsigned 24 (satSigned 24 x) % 2 ^ 24) = x := by
  unfold signed unsigned satSigned
  norm_num
  omega

theorem State.calTaken_shows {offset : Int} (h1 : -41943 ≤ offset) (h2 : offset ≤ 41943) :
    signed 24 ((s.calTaken n offset).get (F.AIN_CAL_OFFSET n)) = offset ∧ (s.calTaken n offset).get (F.AIN_CAL_VALID n) = 1 ∧
      (s.calTaken n offset).get (F.AIN_CAL_CAL_FAIL n) = 0 ∧
      (s.calTaken n offset).get (F.PG_FAULT (pgAIN n)) = s.get (F.PG_FAULT (pgAIN n)) := by
  have hpg : A.AIN_CAL n ≠ (F.PG_FAULT (pgAIN n)).addr := ainCal_addr_ne n (by simp only [F.PG_FAULT]; omega)
  unfold State.calTaken State.setS
  refine ⟨?_, ?_, ?_, ?_⟩
  · rw [State.get_set_off (Fld.off_of_bits rfl rfl), State.get_set_off (Fld.off_of_bits rfl rfl),
      State.get_set_in (Nat.le_of_ble_eq_true rfl)]
    exact signed_unsigned_24 h1 h2
  · rw [State.get_set_off (Fld.off_of_bits rfl rfl), State.get_set_in (Nat.le_of_ble_eq_true rfl)]
    rfl
  · rw [State.get_set_in (Nat.le_of_ble_eq_true rfl)]
    rfl
  · rw [State.get_set_off (Fld.off_of_addr rfl hpg), State.get_set_off (Fld.off_of_addr rfl hpg),
      State.get_set_off (Fld.off_of_addr rfl hpg)]

theorem State.calRefused_shows :
    (s.calRefused n).get (F.AIN_CAL_OFFSET n) = (if s.on (F.AIN_CAL_VALID n) then s.get (F.AIN_CAL_OFFSET n) else 0) ∧
      (s.calRefused n).get (F.AIN_CAL_CAL_FAIL n) = 1 ∧ (s.calRefused n).get (F.PG_FAULT (pgAIN n)) = 1 ∧
      (s.calRefused n).on (F.PG_IRQ (pgAIN n) (6 + n % 2)) = true := by
  have hirq (i : Nat) : (F.PG_IRQ (pgAIN n) i).addr ≠ A.AIN_CAL n := Ne.symm (ainCal_addr_ne n (by simp only [F.PG_IRQ]; omega))
  have hpg : (F.PG_FAULT (pgAIN n)).addr ≠ A.AIN_CAL n := Ne.symm (ainCal_addr_ne n (by simp only [F.PG_FAULT]; omega))
  have hfit : Nat.ble (6 + n % 2 + 1) 32 = true := by rw [Nat.ble_eq]; omega
  unfold State.calRefused
  refine ⟨?_, ?_, ?_, State.on_irq_in (by omega)⟩
  · rw [State.get_irq_off (Fld.off_of_addr hfit (hirq _)),
      State.get_fault_off _ ⟨Fld.off_of_addr rfl (hirq _), Fld.off_of_addr rfl hpg⟩, State.get_set_off (Fld.off_of_bits rfl rfl)]
    cases hv : s.on (F.AIN_CAL_VALID n)
    · rw [Bool.not_false, State.when_true, State.get_set_in (Nat.le_of_ble_eq_true rfl)]
      rfl
    · rw [Bool.not_true, State.when_false, if_pos rfl]
  · rw [State.get_irq_off (Fld.off_of_addr hfit (hirq _)),
      State.get_fault_off _ ⟨Fld.off_of_addr rfl (hirq _), Fld.off_of_addr rfl hpg⟩, State.get_set_in (Nat.le_of_ble_eq_true rfl)]
    rfl
  · rw [State.get_irq_off (Fld.off_of_addr hfit (by simp [F.PG_IRQ, F.PG_FAULT])), State.get_fault_self _ _ _ (by decide)]

section
variable {ps : List Part} {fs : List Fld} {t : State} (hcal : whole (A.AIN_CAL n) ∈ fs)
include hcal

theorem Touches.calTaken (h : Touches ps [] fs s t) (offset : Int) : Touches ps [] fs s (t.calTaken n offset) :=
  ((h.set_whole _ hcal).set_whole _ hcal).set_whole _ hcal

theorem Touches.calRefused (h : Touches ps [] fs s t) (hf : F.PG_IRQ (pgAIN n) 1 ∈ fs ∧ F.PG_FAULT (pgAIN n) ∈ fs)
    (hi : F.PG_IRQ (pgAIN n) (6 + n % 2) ∈ fs) : Touches ps [] fs s (t.calRefused n) :=
  (((h.when _ (fun _ => h.set_whole _ hcal)).set_whole _ hcal).fault 1 (.inr hf)).irq (.inr hi)

end

/-! ## AIN_STOP_DONE (R90) -/

theorem State.ainIdle_keeps {a : Nat} (ha : A.AIN_STATUS n ≠ a) : (s.ainIdle n).reg a = s.reg a := by
  rw [State.ainIdle, State.reg_set_ne _ _ ha, State.reg_set_ne _ _ ha, State.modAin_reg]

/-- With MODE 0 an input that has powered down stays off. -/
theorem State.ainOff_mode0 (hm : s.get (F.AIN_CTRL_MODE n) = 0) : s.ainOff n = (s.ainIdle n).ainPhase n .off := by
  have ha : A.AIN_STATUS n ≠ A.AIN_CTRL n := by simp only [A.AIN_STATUS, A.AIN_CTRL]; omega
  have hkeep : ((s.ainIdle n).ainPhase n .off).reg (A.AIN_CTRL n) = s.reg (A.AIN_CTRL n) :=
    (((Touches.refl [.ain] [] (ainStatusFlds n) _).ainPhase (List.mem_singleton.2 rfl) (fun _ => .inr) .off).ain_reg_eq ha).trans
      (State.ainIdle_keeps ha)
  have hoff : ((s.ainIdle n).ainPhase n .off).on (F.AIN_CTRL_MODE n) = false := by
    rw [State.on, State.get, show (F.AIN_CTRL_MODE n).addr = A.AIN_CTRL n from rfl, hkeep]
    exact decide_eq_false (not_not.2 hm)
  rw [State.ainOff, State.ainTryStart, State.ainAble, hoff, Bool.and_false, Bool.false_and, Bool.false_and, State.when_false]

theorem Touches.ainIdle {ps : List Part} {gs : List Nat} {fs : List Fld} {t : State} (h : Touches ps gs fs s t) (hp : .ain ∈ ps)
    (hf : F.AIN_STATUS_OVL_NOW n ∈ fs ∧ F.AIN_STATUS_RECOVERING n ∈ fs) : Touches ps gs fs s (t.ainIdle n) :=
  ((h.modAin n _ hp).set _ (.inr hf.1)).set _ (.inr hf.2)

theorem State.ainIdle_off_state (hn : n < 16) : ((s.ainIdle n).ainPhase n .off).get (F.AIN_STATUS_STATE n) = 0 :=
  State.ainPhase_state .off hn

/-- The slice map stands on the AUX page. -/
theorem ainStatus_ne_map (n : Nat) : A.AIN_STATUS n ≠ A.AUX_SLICE_MAP (n / 4) := by
  simp only [A.AIN_STATUS, A.AUX_SLICE_MAP]
  omega

theorem State.ainIdle_off_slice : ((s.ainIdle n).ainPhase n .off).ainSlice n = s.ainSlice n := by
  have hmap : ((s.ainIdle n).ainPhase n .off).reg (A.AUX_SLICE_MAP (n / 4)) = s.reg (A.AUX_SLICE_MAP (n / 4)) :=
    (((Touches.refl [.ain] [] (ainStatusFlds n) _).ainPhase (List.mem_singleton.2 rfl) (fun _ => .inr) .off).ain_reg_eq
      (ainStatus_ne_map n)).trans (State.ainIdle_keeps (ainStatus_ne_map n))
  exact congrArg (fun x => bits x (8 * (n % 4) + 0) 5) hmap

theorem State.ainStopDone_silent (hc : s.clocked .ain = true) (hp : (s.ainAt n).phase = .muteToOff) (hs : s.fifSilent n = true)
    (hm : s.get (F.AIN_CTRL_MODE n) = 0) : s.ainStopDone n = (s.ainIdle n).ainPhase n .off := by
  rw [State.ainStopDone, s.event_of _ hc (by rw [hp, hs]; rfl), State.ainOff_mode0 hm]

/-! ## AIN_PGA_STEP (R78) -/

/-- One step of the applied gain towards its goal. -/
def pgaNext (now goal : Nat) : Nat := if now < goal then now + 1 else if goal < now then now - 1 else now

theorem pgaNext_lt {now goal : Nat} (hn : now < 128) (hg : goal < 128) : pgaNext now goal < 128 := by
  unfold pgaNext
  split_ifs <;> omega

theorem State.ainPgaStep_mic (hc : s.clocked .ain = true) (hp : (s.ainAt n).phase ≠ .off) (hm : (s.ainAt n).mode = 1) :
    s.ainPgaStep n = s.set (F.AIN_PGA_GAIN_NOW n) (pgaNext (s.get (F.AIN_PGA_GAIN_NOW n)) (s.get (F.AIN_PGA_GAIN n))) := by
  have hmic : s.ainMode n = 1 := by
    unfold State.ainMode
    rw [hm]
    exact ite_self 1
  exact s.event_of _ hc (by rw [hmic, decide_eq_true hp]; rfl)

theorem State.ainPgaStep_gain (hc : s.clocked .ain = true) (hp : (s.ainAt n).phase ≠ .off) (hm : (s.ainAt n).mode = 1) :
    (s.ainPgaStep n).get (F.AIN_PGA_GAIN_NOW n) = pgaNext (s.get (F.AIN_PGA_GAIN_NOW n)) (s.get (F.AIN_PGA_GAIN n)) := by
  rw [State.ainPgaStep_mic hc hp hm, State.get_set_in (Nat.le_of_ble_eq_true rfl)]
  exact Nat.mod_eq_of_lt (pgaNext_lt (s.get_lt _) (s.get_lt _))

/-! ## O8 -/

/-- Settles O8, each event by the state it leaves. -/
theorem analogueInputEvents : Obligations.AnalogueInputEvents := by
  unfold Obligations.AnalogueInputEvents
  refine ⟨?start, ?running, ?calDone, ?stopDone, ?pgaStep⟩
  case start =>
    intro n s hc hp hr
    refine ⟨s.ainStarted n, rfl, ?_⟩
    rw [State.ainStarted_powerUp hc hp]
    exact ⟨State.ainAfterPower_phase n.isLt hr, State.ainAfterPower_fill n.isLt hr,
      (Touches.refl _ _ _ s).ainAfterPower (by decide) (fun _ => .inr)⟩
  case running =>
    intro n s hc hp
    refine ⟨s.ainRunning n, rfl, ?_, State.ainRunning_state n.isLt hc hp, ?_, ?_⟩
    all_goals rw [State.ainRunning_unmuting hc hp]
    · rw [State.irq_ainAt, State.ainPhase_phase _ n.isLt]
    · exact State.on_irq_in (by omega)
    · exact (((Touches.refl _ _ _ s).modAin n _ (by decide)).ainPhase (by decide) (fun _ hf => .inr (List.mem_cons_of_mem _ hf))
        .running).irq (.inr (List.mem_cons_self ..))
  case calDone =>
    intro n offset s hc hp
    have hfill (t : State) : Touches [.ain] [] (ainStatusFlds n) t (t.ainFill n) :=
      (Touches.refl _ _ _ t).ainFill (by decide) (fun _ => .inr)
    have hcal (t : State) {f : Fld} (hf : f.addr = A.AIN_CAL n) : (t.ainFill n).get f = t.get f := by
      rw [State.get, (hfill t).ain_reg_eq (by rw [hf]; simp only [A.AIN_STATUS, A.AIN_CAL]; omega), State.get]
    have hpage (t : State) {f : Fld} (hf : f.addr % 0x400 < 0x40) : (t.ainFill n).get f = t.get f := by
      rw [State.get, (hfill t).ain_reg_eq (ainStatus_addr_ne n hf), State.get]
    have hcode : (F.PG_FAULT (pgAIN n)).addr % 0x400 < 0x40 := by simp only [F.PG_FAULT]; omega
    have hirq : (F.PG_IRQ (pgAIN n) (6 + n.val % 2)).addr % 0x400 < 0x40 := by simp only [F.PG_IRQ]; omega
    refine ⟨s.ainCalDone n offset, rfl, ?_⟩
    rw [State.ainCalDone_calibrating hc hp]
    refine ⟨fun h1 h2 => ?_, fun h => ?_, State.ainFill_phase n.isLt, ?_⟩
    · rw [if_pos ⟨h1, h2⟩, hcal _ rfl, hcal _ rfl, hcal _ rfl, hpage _ hcode]
      exact State.calTaken_shows h1 h2
    · rw [if_neg (by omega), hcal _ rfl, hcal _ rfl, hpage _ hcode, State.on_congr _ (hpage _ hirq)]
      exact State.calRefused_shows
    · refine Touches.ainFill (by decide) (fun _ hf => .inr (by simp [hf])) ?_
      split
      · exact (Touches.refl _ _ _ s).calTaken (by simp) offset
      · exact (Touches.refl _ _ _ s).calRefused (by simp) (by simp) (by simp)
  case stopDone =>
    intro n s hc hp hs hm
    refine ⟨s.ainStopDone n, rfl, ?_⟩
    rw [State.ainStopDone_silent hc hp hs hm]
    exact ⟨State.ainPhase_phase _ n.isLt, State.ainIdle_off_state n.isLt, State.ainIdle_off_slice,
      ((Touches.refl _ _ _ s).ainIdle (by decide) (by simp)).ainPhase (by decide) (fun _ hf => .inr (by simp [hf])) .off⟩
  case pgaStep =>
    intro n s hc hp hm
    refine ⟨s.ainPgaStep n, rfl, ?_⟩
    rw [State.ainPgaStep_gain hc hp hm, State.ainPgaStep_mic hc hp hm]
    unfold pgaNext
    refine ⟨fun h => if_pos h, fun h => ?_, fun h => ?_, (Touches.refl _ _ _ s).set _ (.inr (List.mem_singleton.2 rfl))⟩
    · rw [if_neg (by omega), if_pos h]
      omega
    · rw [if_neg (by omega), if_neg (by omega)]

end Sys2Proof.Machine
end

section
/-! PROOFS. What a register's fields hold after a write that raises no reserved value (R6, R7), and the registers of the AUX page. -/

namespace Sys2Proof.Machine

variable {s : State}

/-! ## The fields of a written register -/

/-- The fields of a register lie within its word and share no bit. -/
def RegDef.tidy (d : RegDef) : Prop :=
  (∀ f ∈ d.fields, f.lo + f.w ≤ 32) ∧ d.fields.Pairwise (fun f g => f.lo + f.w ≤ g.lo ∨ g.lo + g.w ≤ f.lo)

/-- A field takes its own bits alone. -/
theorem FieldDef.take_ne (f : FieldDef) (old w : Word) (e : Word × Bool) {lo n : Nat} (hf : f.lo + f.w ≤ 32)
    (h : lo + n ≤ f.lo ∨ f.lo + f.w ≤ lo) : bits (f.take old w e).1 lo n = bits e.1 lo n := by
  have hset (v : Nat) : bits (setBits e.1 f.lo f.w v) lo n = bits e.1 lo n := bits_setBits_ne e.1 v hf h
  unfold FieldDef.take
  dsimp only
  split
  · split
    · rfl
    · exact hset _
  · exact hset _
  · exact hset _
  · rfl
  · rfl

/-- A field strikes if the word was struck before it, or it is stored and its code reserved. -/
theorem FieldDef.take_snd (f : FieldDef) (old w : Word) (e : Word × Bool) : (f.take old w e).2 =
    (e.2 || (decide (f.acc = .rw) && f.reserved.any (fun r => decide (r.1 ≤ bits w f.lo f.w) && decide (bits w f.lo f.w ≤ r.2)))) := by
  unfold FieldDef.take
  dsimp only
  cases f.acc <;> simp only [reduceCtorEq, decide_false, decide_true, Bool.false_and, Bool.true_and, Bool.or_false]
  split
  · next h => rw [h, Bool.or_true]
  · next h => rw [Bool.eq_false_of_not_eq_true h, Bool.or_false]

/-- A stored field that does not strike reads what was written. -/
theorem FieldDef.take_rw {f : FieldDef} {old w : Word} {e : Word × Bool} (hf : f.lo + f.w ≤ 32) (ha : f.acc = .rw)
    (hs : (f.take old w e).2 = false) : bits (f.take old w e).1 f.lo f.w = bits w f.lo f.w := by
  rw [FieldDef.take_snd, ha, decide_eq_true rfl, Bool.true_and, Bool.or_eq_false_iff] at hs
  unfold FieldDef.take
  simp only [ha, hs.2, Bool.false_eq_true, if_false]
  rw [bits_setBits_self _ _ _ _ hf]
  exact Nat.mod_eq_of_lt (bits_lt _ _ _)

theorem FieldDef.foldl_take_ne (old w : Word) {lo n : Nat} : ∀ (l : List FieldDef) (e : Word × Bool),
    (∀ f ∈ l, f.lo + f.w ≤ 32 ∧ (lo + n ≤ f.lo ∨ f.lo + f.w ≤ lo)) →
    bits (l.foldl (fun e f => f.take old w e) e).1 lo n = bits e.1 lo n
  | [], _, _ => rfl
  | f :: l, e, h => by
    obtain ⟨hf, hd⟩ := h f (List.mem_cons_self ..)
    rw [List.foldl_cons, FieldDef.foldl_take_ne old w l _ (fun g hg => h g (List.mem_cons_of_mem _ hg)), f.take_ne old w e hf hd]

/-- Fields that follow clear no strike. -/
theorem FieldDef.foldl_take_snd (old w : Word) : ∀ (l : List FieldDef) (e : Word × Bool),
    (l.foldl (fun e f => f.take old w e) e).2 = false → e.2 = false
  | [], _, h => h
  | f :: l, e, h => by
    have hs := FieldDef.foldl_take_snd old w l _ h
    rw [FieldDef.take_snd, Bool.or_eq_false_iff] at hs
    exact hs.1

theorem FieldDef.foldl_take_rw (old w : Word) {f : FieldDef} (ha : f.acc = .rw) : ∀ (l : List FieldDef) (e : Word × Bool),
    (∀ g ∈ l, g.lo + g.w ≤ 32) → l.Pairwise (fun f g => f.lo + f.w ≤ g.lo ∨ g.lo + g.w ≤ f.lo) → f ∈ l →
    (l.foldl (fun e f => f.take old w e) e).2 = false →
    bits (l.foldl (fun e f => f.take old w e) e).1 f.lo f.w = bits w f.lo f.w
  | g :: l, e, hfit, hd, hm, hs => by
    obtain ⟨hg, hl⟩ := List.pairwise_cons.1 hd
    have hfit' : ∀ x ∈ l, x.lo + x.w ≤ 32 := fun x hx => hfit x (List.mem_cons_of_mem _ hx)
    rw [List.foldl_cons] at hs ⊢
    rcases List.mem_cons.1 hm with rfl | hm
    · rw [FieldDef.foldl_take_ne old w l _ (fun x hx => ⟨hfit' x hx, hg x hx⟩)]
      exact FieldDef.take_rw (hfit f (List.mem_cons_self ..)) ha (FieldDef.foldl_take_snd old w l _ hs)
    · exact FieldDef.foldl_take_rw old w ha l _ hfit' hl hm hs

/-- A stored field of a word that raises no reserved value reads what was written (R6, R7). -/
theorem RegDef.take_rw {d : RegDef} {old w : Word} {f : FieldDef} (ht : d.tidy) (hs : (d.take old w).2 = false)
    (hf : f ∈ d.fields) (ha : f.acc = .rw) : bits (d.take old w).1 f.lo f.w = bits w f.lo f.w :=
  FieldDef.foldl_take_rw old w ha d.fields _ ht.1 ht.2 hf hs

/-- A word that may be written raises no reserved value of its register. -/
theorem State.take_of_mayWrite {ini a p o : Nat} {w : Word} {d : RegDef} (h : s.mayWrite ini a w = true) (hp : placeOf a = .reg p o)
    (hd : regDefAt a = some d) : (d.take (s.reg a) w).2 = false := by
  obtain ⟨-, -, hs, -⟩ := s.mayWrite_spec h
  simp only [State.wouldStrike, hp, hd, Bool.or_eq_false_iff] at hs
  exact hs.2.1

theorem State.get_setReg_self {a : Nat} {x : Word} {f : Fld} (h : f.addr = a) : (s.setReg a x).get f = bits x f.lo f.w := by
  rw [State.get, h, State.reg_setReg_self]

/-- The field of a register whose word may be written. -/
theorem State.get_taken {ini a p o : Nat} {w : Word} {d : RegDef} {f : Fld} {r : List (Nat × Nat)} (h : s.mayWrite ini a w = true)
    (hp : placeOf a = .reg p o) (hd : regDefAt a = some d) (ht : d.tidy) (ha : f.addr = a) (hf : ⟨f.lo, f.w, .rw, r⟩ ∈ d.fields) :
    (s.setReg a (d.take (s.reg a) w).1).get f = bits w f.lo f.w := by
  rw [State.get_setReg_self ha]
  exact RegDef.take_rw ht (State.take_of_mayWrite h hp hd) hf rfl

/-! ## The write of a register of the AUX page -/

/-- The registers of the AUX page have no joint reserved values. -/
theorem together_aux {a : Nat} (ha : a / 0x400 = 0x18) (old w new : Word) : together a old w new = (new, false) := by
  have h1 : ¬ (A.SAP_MCLK 0 ≤ a ∧ a ≤ A.SAP_MCLK 3 ∧ a % 0x400 = A.SAP_MCLK 0 % 0x400) := by simp only [A.SAP_MCLK]; omega
  have h2 : ¬ (A.SNS_SEQ 0 ≤ a ∧ a ≤ A.SNS_SEQ 15) := by simp only [A.SNS_SEQ]; omega
  have h3 : a ≠ A.BLW_SAG := by simp only [A.BLW_SAG]; omega
  have h4 : a ≠ A.BLW_OP_COST := by simp only [A.BLW_OP_COST]; omega
  have h5 : ¬ (A.BLW_TASK_COST 32 ≤ a ∧ a ≤ A.BLW_TASK_COST 63 ∧ (a - A.BLW_TASK_COST 32) % 8 = 0) := by
    simp only [A.BLW_TASK_COST]; omega
  simp only [together, if_neg h1, if_neg h2, if_neg h3, if_neg h4, if_neg h5]

/-- The write of a register of this page: its fields by their access types, then the block's reaction. -/
theorem State.writeOne_aux {ini a : Nat} {w : Word} {d : RegDef} (ha : a / 0x400 = 0x18) (ho : 0x40 ≤ a % 0x400)
    (h : s.mayWrite ini a w = true) (hp : placeOf a = .reg (a / 0x400) (a % 0x400)) (hd : regDefAt a = some d) :
    s.writeOne none ini a w = (s.setReg a (d.take (s.reg a) w).1).auxWritten a (s.reg a) w := by
  have hblock (t : State) (old : Word) : t.regWritten none a old w = t.auxWritten a old w := by
    unfold State.regWritten
    rw [if_neg (Nat.not_lt.2 ho), ha]
    rfl
  rw [s.writeOne_of_mayWrite none ini _ _ h (s.poke_of_mayWrite none ini _ _ h hp),
    State.poke_reg_taken s none _ _ hp hd (.inl (by simp only [A.SNS_URGENT]; omega)), together_aux ha, hblock]

end Sys2Proof.Machine
end

section
/-! PROOFS. O10: the mic biases (R79), BEEP (R81), and VREFA's soft-start (R88, R106). -/

namespace Sys2Proof.Machine

variable {s t : State} {m k : Nat}

/-! ## One bias -/

theorem micbiasStatus_ne_ctrl : A.AUX_MICBIAS_STATUS ≠ A.AUX_MICBIAS_CTRL := by decide

theorem ready_off_ready (hk : k < 4) (h : k ≠ m) : (F.AUX_MICBIAS_STATUS_READY k).off (F.AUX_MICBIAS_STATUS_READY m) := by
  simp only [Fld.off, F.AUX_MICBIAS_STATUS_READY]
  omega

/-- READY shares no bit with another register's field. -/
theorem ready_off {f : Fld} (hk : k < 4) (h : A.AUX_MICBIAS_STATUS ≠ f.addr) : (F.AUX_MICBIAS_STATUS_READY k).off f :=
  ⟨by simp only [F.AUX_MICBIAS_STATUS_READY]; omega, .inl h⟩

theorem State.biasPhase_biasAt (p : BiasPhase) (hm : m < 4) : (s.biasPhase m p).biasAt m = p := vget_vmod_self _ _ _ _ hm

theorem State.biasPhase_biasAt_ne (p : BiasPhase) (h : k ≠ m) : (s.biasPhase k p).biasAt m = s.biasAt m := vget_vmod_ne _ _ _ h

theorem State.biasPhase_ready (p : BiasPhase) (hm : m < 4) :
    (s.biasPhase m p).on (F.AUX_MICBIAS_STATUS_READY m) = decide (p = .on) := by
  have hfit : (F.AUX_MICBIAS_STATUS_READY m).fits := by
    simp only [Fld.fits, F.AUX_MICBIAS_STATUS_READY]
    omega
  rw [State.on, State.biasPhase, State.get_setB_self _ _ _ hfit Nat.one_pos]
  cases decide (p = BiasPhase.on) <;> rfl

theorem State.biasPhase_get {f : Fld} (p : BiasPhase) (h : (F.AUX_MICBIAS_STATUS_READY m).off f) :
    (s.biasPhase m p).get f = s.get f := State.get_set_off h _

theorem Touches.biasPhase {ps : List Part} {gs : List Nat} {fs : List Fld} (h : Touches ps gs fs s t) (p : BiasPhase) (hp : .bias ∈ ps)
    (hf : F.AUX_MICBIAS_STATUS_READY m ∈ fs) : Touches ps gs fs s (t.biasPhase m p) :=
  (h.put_bias _ hp).setB _ (.inr hf)

/-- What EN, LEVEL and ENABLE do to a bias: nothing, or a move to a phase (R79). -/
theorem State.biasDrive_cases (level : Bool) : s.biasDrive m level = s ∨ ∃ p, s.biasDrive m level = s.biasPhase m p := by
  have hite {c : Prop} [Decidable c] {t u : State} (ht : t = s ∨ ∃ p, t = s.biasPhase m p) (hu : u = s ∨ ∃ p, u = s.biasPhase m p) :
      (if c then t else u) = s ∨ ∃ p, (if c then t else u) = s.biasPhase m p := by
    split
    · exact ht
    · exact hu
  have hstay : s = s ∨ ∃ p, s = s.biasPhase m p := .inl rfl
  have hmove (p : BiasPhase) : s.biasPhase m p = s ∨ ∃ q, s.biasPhase m p = s.biasPhase m q := .inr ⟨p, rfl⟩
  unfold State.biasDrive
  dsimp only
  split
  · exact hite hstay (hmove _)
  · exact hite (hmove _) hstay
  · exact hite (hmove _) hstay
  · exact hite (hite (hmove _) hstay) (hmove _)
  · exact hite (hite (hmove _) hstay) (hmove _)
  · exact hite (hite (hmove _) hstay) (hmove _)

theorem State.biasDrive_get {f : Fld} (level : Bool) (h : (F.AUX_MICBIAS_STATUS_READY m).off f) :
    (s.biasDrive m level).get f = s.get f := by
  rcases s.biasDrive_cases (m := m) level with e | ⟨p, e⟩ <;> rw [e]
  exact State.biasPhase_get p h

theorem State.biasDrive_biasAt_ne (level : Bool) (h : k ≠ m) : (s.biasDrive k level).biasAt m = s.biasAt m := by
  rcases s.biasDrive_cases (m := k) level with e | ⟨p, e⟩ <;> rw [e]
  exact State.biasPhase_biasAt_ne p h

theorem Touches.biasDrive {ps : List Part} {gs : List Nat} {fs : List Fld} (h : Touches ps gs fs s t) (level : Bool) (hp : .bias ∈ ps)
    (hf : F.AUX_MICBIAS_STATUS_READY m ∈ fs) : Touches ps gs fs s (t.biasDrive m level) := by
  rcases t.biasDrive_cases (m := m) level with e | ⟨p, e⟩ <;> rw [e]
  · exact h
  · exact h.biasPhase p hp hf

theorem State.biasDrive_up {level : Bool} (hp : s.biasAt m = .off) (he : s.on (F.AUX_MICBIAS_CTRL_EN m) = true)
    (hpg : s.on (F.PG_ENABLE 0x18) = true) : s.biasDrive m level = s.biasPhase m .rampUp := by
  unfold State.biasDrive
  rw [hp, he, hpg]
  rfl

theorem State.biasDrive_down {level : Bool} (hp : s.biasAt m = .on) (he : s.on (F.AUX_MICBIAS_CTRL_EN m) = false) :
    s.biasDrive m level = s.biasPhase m .rampDown := by
  unfold State.biasDrive
  rw [hp, he]
  rfl

theorem State.biasDrive_release {level : Bool} (hp : s.biasAt m = .latched) (he : s.on (F.AUX_MICBIAS_CTRL_EN m) = false) :
    s.biasDrive m level = s.biasPhase m .off := by
  unfold State.biasDrive
  rw [hp, he]
  rfl

/-! ## MICBIAS_CTRL_WRITE -/

/-- What drives bias m and what its move shows. -/
structure BiasSeen where
  phase : BiasPhase
  en : Bool
  page : Bool
  ready : Bool

def State.biasSeen (s : State) (m : Nat) : BiasSeen :=
  ⟨s.biasAt m, s.on (F.AUX_MICBIAS_CTRL_EN m), s.on (F.PG_ENABLE 0x18), s.on (F.AUX_MICBIAS_STATUS_READY m)⟩

theorem State.biasDrive_biasSeen_ne (level : Bool) (hk : k < 4) (h : k ≠ m) : (s.biasDrive k level).biasSeen m = s.biasSeen m := by
  have hget {f : Fld} (hf : (F.AUX_MICBIAS_STATUS_READY k).off f) : (s.biasDrive k level).on f = s.on f :=
    State.on_congr s (State.biasDrive_get level hf)
  rw [State.biasSeen, State.biasDrive_biasAt_ne level h, hget (ready_off hk micbiasStatus_ne_ctrl), hget (ready_off hk (by decide)),
    hget (ready_off_ready hk h), State.biasSeen]

/-- The write drives each bias from the phase, EN and ENABLE it reads beside the others' moves. -/
theorem State.biasWritten_biasSeen (old : Word) (hm : m < 4) :
    ∃ (t : State) (level : Bool), t.biasSeen m = s.biasSeen m ∧ (s.biasWritten old).biasSeen m = (t.biasDrive m level).biasSeen m := by
  obtain ⟨t, ht, hs⟩ := State.forAll_at_lt (s := s) State.biasSeen
    (f := fun s m => s.biasDrive m (decide (bits old (4 * m + 1) 2 ≠ s.get (F.AUX_MICBIAS_CTRL_LEVEL m))))
    (fun t k m hk hkm => State.biasDrive_biasSeen_ne _ hk hkm) hm
  exact ⟨t, _, ht, hs⟩

theorem State.biasWritten_up (old : Word) (hm : m < 4) (hp : s.biasAt m = .off) (he : s.on (F.AUX_MICBIAS_CTRL_EN m) = true)
    (hpg : s.on (F.PG_ENABLE 0x18) = true) : (s.biasWritten old).biasAt m = .rampUp := by
  obtain ⟨t, level, ht, hs⟩ := s.biasWritten_biasSeen old hm
  have hdrive : t.biasDrive m level = t.biasPhase m .rampUp :=
    State.biasDrive_up ((congrArg BiasSeen.phase ht).trans hp) ((congrArg BiasSeen.en ht).trans he) ((congrArg BiasSeen.page ht).trans hpg)
  exact (congrArg BiasSeen.phase hs).trans (hdrive ▸ State.biasPhase_biasAt _ hm)

theorem State.biasWritten_down (old : Word) (hm : m < 4) (hp : s.biasAt m = .on) (he : s.on (F.AUX_MICBIAS_CTRL_EN m) = false) :
    (s.biasWritten old).biasAt m = .rampDown ∧ (s.biasWritten old).on (F.AUX_MICBIAS_STATUS_READY m) = false := by
  obtain ⟨t, level, ht, hs⟩ := s.biasWritten_biasSeen old hm
  have hdrive : t.biasDrive m level = t.biasPhase m .rampDown :=
    State.biasDrive_down ((congrArg BiasSeen.phase ht).trans hp) ((congrArg BiasSeen.en ht).trans he)
  exact ⟨(congrArg BiasSeen.phase hs).trans (hdrive ▸ State.biasPhase_biasAt _ hm),
    (congrArg BiasSeen.ready hs).trans (hdrive ▸ State.biasPhase_ready _ hm)⟩

theorem State.biasWritten_release (old : Word) (hm : m < 4) (hp : s.biasAt m = .latched) (he : s.on (F.AUX_MICBIAS_CTRL_EN m) = false) :
    (s.biasWritten old).biasAt m = .off := by
  obtain ⟨t, level, ht, hs⟩ := s.biasWritten_biasSeen old hm
  have hdrive : t.biasDrive m level = t.biasPhase m .off :=
    State.biasDrive_release ((congrArg BiasSeen.phase ht).trans hp) ((congrArg BiasSeen.en ht).trans he)
  exact (congrArg BiasSeen.phase hs).trans (hdrive ▸ State.biasPhase_biasAt _ hm)

theorem Touches.biasWritten {ps : List Part} {gs : List Nat} {fs : List Fld} (h : Touches ps gs fs s t) (old : Word) (hp : .bias ∈ ps)
    (hf : ∀ m < 4, F.AUX_MICBIAS_STATUS_READY m ∈ fs) : Touches ps gs fs s (t.biasWritten old) :=
  h.forAll 4 (fun _ m hm hb => hb.biasDrive _ hp (hf m hm))

/-- The fields of AUX_MICBIAS_CTRL (R105). -/
def micbiasCtrlDef : RegDef := .mk 0x048 1 4 0 64 0x0 [] false [.mk 1 2 .rw [], .mk 5 2 .rw [], .mk 9 2 .rw [], .mk 13 2 .rw [],
  .mk 0 1 .rw [], .mk 4 1 .rw [], .mk 8 1 .rw [], .mk 12 1 .rw []]

/-- The fields of AUX_BEEP_CTRL (R105). -/
def beepCtrlDef : RegDef := .mk 0x040 1 4 0 64 0x60 [] false [.mk 10 1 .rw [], .mk 8 2 .rw [(2, 3)], .mk 4 4 .rw [(11, 15)],
  .mk 1 3 .rw [], .mk 0 1 .rw []]

theorem regDefAt_aux : regDefAt A.AUX_MICBIAS_CTRL = some micbiasCtrlDef ∧ regDefAt A.AUX_BEEP_CTRL = some beepCtrlDef := by decide

theorem auxDefs_tidy : micbiasCtrlDef.tidy ∧ beepCtrlDef.tidy := by
  unfold RegDef.tidy
  decide

/-- AUX_MICBIAS_CTRL holds its word. -/
def State.micbiasHeld (s : State) (w : Word) : State := s.setReg A.AUX_MICBIAS_CTRL (micbiasCtrlDef.take (s.reg A.AUX_MICBIAS_CTRL) w).1

theorem State.writeOne_micbias {ini : Nat} {w : Word} (h : s.mayWrite ini A.AUX_MICBIAS_CTRL w = true) :
    s.writeOne none ini A.AUX_MICBIAS_CTRL w = (s.micbiasHeld w).biasWritten (s.reg A.AUX_MICBIAS_CTRL) := by
  rw [State.writeOne_aux rfl (by decide) h rfl regDefAt_aux.1]
  unfold State.auxWritten
  rw [if_neg (by decide), if_pos rfl]
  rfl

theorem micbiasCtrlDef_fields (m : Nat) (hm : m < 4) :
    .mk (4 * m) 1 .rw [] ∈ micbiasCtrlDef.fields ∧ .mk (4 * m + 1) 2 .rw [] ∈ micbiasCtrlDef.fields := by
  revert m
  decide

theorem State.micbiasHeld_fields {ini : Nat} {w : Word} (h : s.mayWrite ini A.AUX_MICBIAS_CTRL w = true) (hm : m < 4) :
    (s.micbiasHeld w).get (F.AUX_MICBIAS_CTRL_EN m) = bits w (4 * m) 1 ∧
      (s.micbiasHeld w).get (F.AUX_MICBIAS_CTRL_LEVEL m) = bits w (4 * m + 1) 2 := by
  obtain ⟨hen, hlevel⟩ := micbiasCtrlDef_fields m hm
  exact ⟨State.get_taken (f := F.AUX_MICBIAS_CTRL_EN m) h rfl regDefAt_aux.1 auxDefs_tidy.1 rfl hen,
    State.get_taken (f := F.AUX_MICBIAS_CTRL_LEVEL m) h rfl regDefAt_aux.1 auxDefs_tidy.1 rfl hlevel⟩

theorem State.biasWritten_get {f : Fld} (old : Word) (h : A.AUX_MICBIAS_STATUS ≠ f.addr) : (s.biasWritten old).get f = s.get f := by
  have ht : Touches [.bias] [] ((List.range 4).map F.AUX_MICBIAS_STATUS_READY) s (s.biasWritten old) :=
    (Touches.refl _ _ _ s).biasWritten old (by decide) (fun m hm => List.mem_map.2 ⟨m, List.mem_range.2 hm, rfl⟩)
  refine ht.get_keeps fun g hg => .inl ?_
  obtain ⟨j, -, rfl⟩ := List.mem_map.1 hg
  exact h

/-! ## MICBIAS_READY and MICBIAS_OVERCURRENT -/

theorem State.biasReady_up (hc : s.clocked .ain = true) (hp : s.biasAt m = .rampUp ∨ s.biasAt m = .rampLevel) :
    s.biasReady m = s.biasPhase m .on := by
  rw [State.biasReady, s.event_of _ hc rfl]
  rcases hp with hp | hp <;> rw [hp]

theorem State.biasReady_down (hc : s.clocked .ain = true) (hp : s.biasAt m = .rampDown) : s.biasReady m = s.biasPhase m .off := by
  rw [State.biasReady, s.event_of _ hc rfl, hp]

theorem State.biasOvercurrent_on (hc : s.clocked .ain = true) (h1 : s.biasAt m ≠ .off) (h2 : s.biasAt m ≠ .latched) :
    s.biasOvercurrent m = (((s.biasPhase m .latched).set (F.AUX_MICBIAS_STATUS_OVERCURRENT m) 1).fault 0x18 1).irq 0x18 3 :=
  s.event_of _ hc (by rw [decide_eq_true h1, decide_eq_true h2]; rfl)

/-- What the overcurrent of a bias shows (R79). -/
theorem State.biasOvercurrent_shows (m : Fin 4) (hc : s.clocked .ain = true) (h1 : s.biasAt m ≠ .off) (h2 : s.biasAt m ≠ .latched) :
    (s.biasOvercurrent m).biasAt m = .latched ∧ (s.biasOvercurrent m).get (F.AUX_MICBIAS_STATUS_OVERCURRENT m) = 1 ∧
      (s.biasOvercurrent m).get (F.PG_FAULT 0x18) = 1 ∧ (s.biasOvercurrent m).on (F.PG_IRQ 0x18 3) = true ∧
      (s.biasOvercurrent m).on (F.AUX_MICBIAS_STATUS_READY m) = false := by
  have hpage (f : Fld) (hf : f.addr = A.AUX_MICBIAS_STATUS) (t : State) : ((t.fault 0x18 1).irq 0x18 3).get f = t.get f := by
    have hne (x : Fld) (hx : x.addr % 0x400 < 0x40) : x.addr ≠ f.addr := fun e => by
      rw [e, hf] at hx
      exact absurd hx (by decide)
    rw [State.get_irq_off ⟨by decide, .inl (hne _ (by decide))⟩,
      State.get_fault_off _ ⟨⟨by decide, .inl (hne _ (by decide))⟩, ⟨by decide, .inl (hne _ (by decide))⟩⟩]
  have hover : (F.AUX_MICBIAS_STATUS_OVERCURRENT m).off (F.AUX_MICBIAS_STATUS_READY m) := by
    simp only [Fld.off, F.AUX_MICBIAS_STATUS_OVERCURRENT, F.AUX_MICBIAS_STATUS_READY]
    omega
  rw [State.biasOvercurrent_on hc h1 h2]
  refine ⟨?_, ?_, ?_, State.on_irq_in (by decide), ?_⟩
  · rw [State.biasAt, State.irq_bias, State.fault_bias, State.set_bias, ← State.biasAt, State.biasPhase_biasAt _ m.isLt]
  · rw [hpage _ rfl, State.get_set_in hover.1]
    rfl
  · rw [State.get_irq_off (by decide), State.get_fault_self _ _ _ (by decide)]
  · rw [State.on_congr _ (hpage _ rfl _), State.on_set_off hover, State.biasPhase_ready _ m.isLt]
    rfl

/-! ## BEEP_CTRL_WRITE -/

/-- The family PLLs are the CLK page's. -/
theorem State.famUp_congr (h : ∀ a, a / 0x400 = 3 → t.reg a = s.reg a) (fam : Nat) : t.famUp fam = s.famUp fam := by
  have hfam : t.famPll fam = s.famPll fam := by
    unfold State.famPll State.get
    split <;> rw [h _ (by decide)]
  have hlock : t.get (F.CLK_PLL_STATUS_STATE (s.famPll fam)) = s.get (F.CLK_PLL_STATUS_STATE (s.famPll fam)) := by
    have hlt := s.famPll_lt fam
    rw [State.get, h _ (by simp only [F.CLK_PLL_STATUS_STATE, A.CLK_PLL_STATUS]; omega), State.get]
  rw [State.famUp, State.pllLocked, hfam, hlock, State.famUp, State.pllLocked]

theorem Touches.beepPhase {ps : List Part} {gs : List Nat} {fs : List Fld} (h : Touches ps gs fs s t) (p : AinPhase) (hp : .beep ∈ ps)
    (hf : F.AUX_BEEP_STATUS_RUNNING ∈ fs) : Touches ps gs fs s (t.beepPhase p) := (h.put_beep _ hp).setB _ (.inr hf)

theorem Touches.beepAfterPower {ps : List Part} {gs : List Nat} {fs : List Fld} (h : Touches ps gs fs s t) (hp : .beep ∈ ps)
    (hf : F.AUX_BEEP_STATUS_RUNNING ∈ fs) : Touches ps gs fs s t.beepAfterPower := by
  unfold State.beepAfterPower
  split
  · exact h.beepPhase _ hp hf
  · split
    · exact h.beepPhase _ hp hf
    · exact (h.put_beep _ hp).beepPhase _ hp hf

theorem State.beepAfterPower_beep : s.beepAfterPower.beep.rate = s.beep.rate ∧ s.beepAfterPower.beep.filter = s.beep.filter ∧
    s.beepAfterPower.beep.phase = (if s.famUp (rateFamily s.beep.rate) = false then .waitClk
      else if s.on F.AUX_VREF_STATUS_VREFA_READY = false then .waitVref else .filling) := by
  unfold State.beepAfterPower
  cases s.famUp (rateFamily s.beep.rate)
  · exact ⟨rfl, rfl, rfl⟩
  · cases s.on F.AUX_VREF_STATUS_VREFA_READY
    · exact ⟨rfl, rfl, rfl⟩
    · exact ⟨rfl, rfl, rfl⟩

/-- AUX_BEEP_CTRL holds its word. -/
def State.beepHeld (s : State) (w : Word) : State := s.setReg A.AUX_BEEP_CTRL (beepCtrlDef.take (s.reg A.AUX_BEEP_CTRL) w).1

theorem State.beepHeld_fields {ini : Nat} {w : Word} (h : s.mayWrite ini A.AUX_BEEP_CTRL w = true) :
    (s.beepHeld w).get F.AUX_BEEP_CTRL_EN = bits w 0 1 ∧ (s.beepHeld w).get F.AUX_BEEP_CTRL_RATE = bits w 4 4 ∧
      (s.beepHeld w).get F.AUX_BEEP_CTRL_GAIN = bits w 1 3 ∧ (s.beepHeld w).get F.AUX_BEEP_CTRL_FILTER = bits w 8 2 := by
  have hheld (f : Fld) {r : List (Nat × Nat)} (ha : f.addr = A.AUX_BEEP_CTRL) (hf : ⟨f.lo, f.w, .rw, r⟩ ∈ beepCtrlDef.fields) :
      (s.beepHeld w).get f = bits w f.lo f.w := State.get_taken h rfl regDefAt_aux.2 auxDefs_tidy.2 ha hf
  exact ⟨hheld F.AUX_BEEP_CTRL_EN (r := []) rfl (by decide), hheld F.AUX_BEEP_CTRL_RATE (r := [(11, 15)]) rfl (by decide),
    hheld F.AUX_BEEP_CTRL_GAIN (r := []) rfl (by decide), hheld F.AUX_BEEP_CTRL_FILTER (r := [(2, 3)]) rfl (by decide)⟩

theorem State.writeOne_beep {ini : Nat} {w : Word} (h : s.mayWrite ini A.AUX_BEEP_CTRL w = true) :
    s.writeOne none ini A.AUX_BEEP_CTRL w = (s.beepHeld w).beepWritten := by
  rw [State.writeOne_aux rfl (by decide) h rfl regDefAt_aux.2]
  unfold State.auxWritten
  rw [if_pos rfl]
  rfl

/-- BEEP starts from off (log 18). -/
theorem State.beepWritten_off (ha : s.beepAble = true) (hp : s.beep.phase = .off) : s.beepWritten = s.beepApply.beepAfterPower := by
  unfold State.beepWritten
  rw [ha, hp]
  rfl

theorem State.writeOne_beep_starts {ini : Nat} {w : Word} (h : s.mayWrite ini A.AUX_BEEP_CTRL w = true) (hi : s.islandOn .ain = true)
    (hpg : s.on (F.PG_ENABLE 0x18) = true) (hen : bits w 0 1 = 1) (hp : s.beep.phase = .off) :
    s.writeOne none ini A.AUX_BEEP_CTRL w = (s.beepHeld w).beepApply.beepAfterPower := by
  have hon : (s.beepHeld w).on F.AUX_BEEP_CTRL_EN = true := State.on_of_get_one _ ((State.beepHeld_fields h).1.trans hen)
  have hpage : (s.beepHeld w).on (F.PG_ENABLE 0x18) = true := (s.on_setReg_ne _ (by decide)).trans hpg
  have hable : (s.beepHeld w).beepAble = true := by
    rw [State.beepAble, hpage, hon]
    exact hi
  rw [State.writeOne_beep h, State.beepWritten_off hable hp]

/-! ## VREFA_READY -/

/-- What VREFA's readiness does to one input, and that VREFA is still ready for the next. -/
def State.vrefSeen (s : State) (n : Nat) : Ain × Bool := (s.ainAt n, s.on F.AUX_VREF_STATUS_VREFA_READY)

/-- An input that waits for VREFA goes on. -/
def State.vrefWake (s : State) (n : Nat) : State := s.when (decide ((s.ainAt n).phase = .waitVref)) (·.ainAfterPower n)

theorem ainStatusFlds_off_vref {n : Nat} {f : Fld} (hf : f ∈ ainStatusFlds n) : f.addr ≠ A.AUX_VREF_STATUS := by
  rw [ainStatusFlds_addr hf]
  simp only [A.AIN_STATUS, A.AUX_VREF_STATUS]
  omega

theorem State.vrefWake_touches (n : Nat) : Touches [.ain] [] (ainStatusFlds n) s (s.vrefWake n) :=
  (Touches.refl _ _ _ s).when _ (fun _ => (Touches.refl _ _ _ s).ainAfterPower (by decide) (fun _ => .inr))

theorem State.vrefWake_vrefSeen_ne {n k : Nat} (h : k ≠ n) : (s.vrefWake k).vrefSeen n = s.vrefSeen n := by
  have hready : (s.vrefWake k).on F.AUX_VREF_STATUS_VREFA_READY = s.on F.AUX_VREF_STATUS_VREFA_READY :=
    (s.vrefWake_touches k).on_keeps (fun _ hf => .inl (ainStatusFlds_off_vref hf))
  have hain : (s.vrefWake k).ainAt n = s.ainAt n := by
    unfold State.vrefWake
    cases decide ((s.ainAt k).phase = .waitVref)
    · rfl
    · exact State.ainAfterPower_ainAt_ne h
  rw [State.vrefSeen, hready, hain, State.vrefSeen]

/-- With VREFA ready an input leaves its wait for it, and none other moves. -/
theorem State.vrefWakes_ainAt {n : Nat} (hn : n < 16) (hv : s.on F.AUX_VREF_STATUS_VREFA_READY = true) :
    ((s.forAll 16 State.vrefWake).ainAt n).phase ≠ .waitVref ∧
      ((s.ainAt n).phase ≠ .waitVref → (s.forAll 16 State.vrefWake).ainAt n = s.ainAt n) := by
  obtain ⟨t, ht, hs⟩ := State.forAll_at (s := s) State.vrefSeen (f := State.vrefWake) (fun t k n h => State.vrefWake_vrefSeen_ne h) hn
  have hain : t.ainAt n = s.ainAt n := congrArg Prod.fst ht
  have hready : t.on F.AUX_VREF_STATUS_VREFA_READY = true := (congrArg Prod.snd ht).trans hv
  rw [show (s.forAll 16 State.vrefWake).ainAt n = (t.vrefWake n).ainAt n from congrArg Prod.fst hs, State.vrefWake]
  by_cases hw : (t.ainAt n).phase = .waitVref
  · rw [decide_eq_true hw, State.when_true]
    exact ⟨State.ainAfterPower_not_waitVref hn hready, fun h => absurd (hain ▸ hw) h⟩
  · rw [decide_eq_false hw, State.when_false]
    exact ⟨hw, fun _ => hain⟩

/-- The fields that VREFA's readiness writes. -/
def vrefFlds : List Fld := F.AUX_VREF_STATUS_VREFA_READY :: F.AUX_BEEP_STATUS_RUNNING :: (List.range 16).flatMap ainStatusFlds

theorem ainStatusFlds_sub_vrefFlds {n : Nat} (hn : n < 16) : ainStatusFlds n ⊆ vrefFlds := fun _ hf =>
  List.mem_cons_of_mem _ (List.mem_cons_of_mem _ (List.mem_flatMap.2 ⟨n, List.mem_range.2 hn, hf⟩))

/-- BEEP goes on where it waits for VREFA. -/
def State.vrefBeep (s : State) : State := s.when (decide (s.beep.phase = .waitVref)) (·.beepAfterPower)

theorem State.vrefaReady_late (h1 : s.vrefaStarted = true) (h2 : s.on F.AUX_VREF_STATUS_VREFA_READY = false) :
    s.vrefaReady = ((s.set F.AUX_VREF_STATUS_VREFA_READY 1).forAll 16 State.vrefWake).vrefBeep := by
  unfold State.vrefaReady State.vrefBeep State.vrefWake
  rw [h1, h2, Bool.not_false, Bool.and_self, State.when_true]

theorem State.vrefBeep_touches : Touches [.beep] [] [F.AUX_BEEP_STATUS_RUNNING] s s.vrefBeep :=
  (Touches.refl _ _ _ s).when _ (fun _ => (Touches.refl _ _ _ s).beepAfterPower (by decide) (by decide))

theorem State.vrefaReady_vrefa (h1 : s.vrefaStarted = true) (h2 : s.on F.AUX_VREF_STATUS_VREFA_READY = false) :
    s.vrefaReady.get F.AUX_VREF_STATUS_VREFA_READY = 1 := by
  have hbeep (t : State) : t.vrefBeep.get F.AUX_VREF_STATUS_VREFA_READY = t.get F.AUX_VREF_STATUS_VREFA_READY :=
    t.vrefBeep_touches.get_keeps (by decide)
  have hloop (t : State) : (t.forAll 16 State.vrefWake).get F.AUX_VREF_STATUS_VREFA_READY = t.get F.AUX_VREF_STATUS_VREFA_READY :=
    t.forAll_keeps (·.get F.AUX_VREF_STATUS_VREFA_READY) 16 State.vrefWake (fun t n =>
      (t.vrefWake_touches n).get_keeps (fun _ hf => .inl (ainStatusFlds_off_vref hf)))
  rw [State.vrefaReady_late h1 h2, hbeep, hloop, State.get_set_in (by decide)]
  rfl

theorem State.vrefaReady_ainAt {n : Nat} (h1 : s.vrefaStarted = true) (h2 : s.on F.AUX_VREF_STATUS_VREFA_READY = false) (hn : n < 16) :
    (s.vrefaReady.ainAt n).phase ≠ .waitVref ∧ ((s.ainAt n).phase ≠ .waitVref → s.vrefaReady.ainAt n = s.ainAt n) := by
  have hbeep (t : State) : t.vrefBeep.ainAt n = t.ainAt n := congrArg (vget · n Ain.init) (t.vrefBeep_touches.1 .ain (by decide))
  rw [State.vrefaReady_late h1 h2, hbeep]
  exact State.vrefWakes_ainAt hn (State.on_set_one (by decide))

theorem State.vrefaReady_touches (h1 : s.vrefaStarted = true) (h2 : s.on F.AUX_VREF_STATUS_VREFA_READY = false) :
    Touches [.ain, .beep] [] vrefFlds s s.vrefaReady := by
  rw [State.vrefaReady_late h1 h2]
  have hwoken : Touches [.ain, .beep] [] vrefFlds s ((s.set F.AUX_VREF_STATUS_VREFA_READY 1).forAll 16 State.vrefWake) :=
    ((Touches.refl _ _ _ s).set _ (.inr (List.mem_cons_self ..))).forAll 16 (fun t n hn ht =>
      ht.trans ((t.vrefWake_touches n).mono (by decide) (List.Subset.refl _) (ainStatusFlds_sub_vrefFlds hn)))
  exact hwoken.trans (State.vrefBeep_touches.mono (by decide) (List.Subset.refl _) (by simp [vrefFlds]))

/-! ## O10 -/

/-- Settles O10, each command by the state it leaves. -/
theorem micBiasBeepAndVrefa : Obligations.MicBiasBeepAndVrefa := by
  unfold Obligations.MicBiasBeepAndVrefa
  refine ⟨?biasWrite, ?biasUp, ?biasDown, ?overcurrent, ?beepWrite, ?vrefaReady, ?vrefaLate⟩
  case biasWrite =>
    intro ini w s h
    have hbits (m : Nat) (hm : m < 4) : (s.micbiasHeld w).get (F.AUX_MICBIAS_CTRL_EN m) = bits w (4 * m) 1 := (State.micbiasHeld_fields h hm).1
    have hclear (m : Nat) (hm : m < 4) (hw : bits w (4 * m) 1 = 0) : (s.micbiasHeld w).on (F.AUX_MICBIAS_CTRL_EN m) = false :=
      decide_eq_false (not_not.2 ((hbits m hm).trans hw))
    refine ⟨s.writeOne none ini A.AUX_MICBIAS_CTRL w, rfl, ?_⟩
    rw [State.writeOne_micbias h]
    refine ⟨fun m hm => ?_, fun m hm hpg hw hp => ?_, fun m hm hw hp => ?_, fun m hm hw hp => ?_, ?_⟩
    · rw [State.biasWritten_get _ micbiasStatus_ne_ctrl, State.biasWritten_get _ micbiasStatus_ne_ctrl]
      exact State.micbiasHeld_fields h hm
    · exact State.biasWritten_up _ hm hp (State.on_of_get_one _ ((hbits m hm).trans hw)) ((s.on_setReg_ne _ (by decide)).trans hpg)
    · exact State.biasWritten_down _ hm hp (hclear m hm hw)
    · exact State.biasWritten_release _ hm hp (hclear m hm hw)
    · exact ((Touches.refl _ _ _ s).setReg _ (.inr (List.mem_cons_self ..))).biasWritten _ (by decide)
        (fun m hm => List.mem_cons_of_mem _ (List.mem_map.2 ⟨m, List.mem_range.2 hm, rfl⟩))
  case biasUp =>
    intro m s hc hp
    refine ⟨s.biasReady m, rfl, ?_⟩
    rw [State.biasReady_up hc hp]
    exact ⟨State.biasPhase_biasAt _ m.isLt, State.biasPhase_ready _ m.isLt, (Touches.refl _ _ _ s).biasPhase _ (by decide) (by simp)⟩
  case biasDown =>
    intro m s hc hp
    refine ⟨s.biasReady m, rfl, ?_⟩
    rw [State.biasReady_down hc hp]
    exact ⟨State.biasPhase_biasAt _ m.isLt, State.biasPhase_ready _ m.isLt, (Touches.refl _ _ _ s).biasPhase _ (by decide) (by simp)⟩
  case overcurrent =>
    intro m s hc h1 h2
    obtain ⟨hphase, hover, hcode, hirq, hready⟩ := State.biasOvercurrent_shows m hc h1 h2
    refine ⟨s.biasOvercurrent m, rfl, hphase, hover, hcode, hirq, hready, ?_⟩
    rw [State.biasOvercurrent_on hc h1 h2]
    exact ((((Touches.refl _ _ _ s).biasPhase _ (by decide) (by simp)).set _ (.inr (by simp))).fault 1 (.inr (by simp))).irq
      (.inr (by simp))
  case beepWrite =>
    intro ini w s h hi hpg hw hp
    obtain ⟨hen, hrate, hgain, hfilter⟩ := State.beepHeld_fields h
    obtain ⟨hbrate, hbfilter, hphase⟩ := (s.beepHeld w).beepApply.beepAfterPower_beep
    have hrest (t : State) : Touches [.beep] [] [F.AUX_BEEP_STATUS_RUNNING] t t.beepApply.beepAfterPower :=
      ((Touches.refl _ _ _ t).put_beep _ (by decide)).beepAfterPower (by decide) (by decide)
    have hget (f : Fld) (hf : A.AUX_BEEP_STATUS ≠ f.addr) : (s.beepHeld w).beepApply.beepAfterPower.get f = (s.beepHeld w).get f :=
      (hrest _).get_keeps (fun g hg => .inl (by rw [List.mem_singleton.1 hg]; exact hf))
    have hfam (fam : Nat) : (s.beepHeld w).beepApply.famUp fam = s.famUp fam :=
      State.famUp_congr (fun a ha => s.reg_setReg_ne _ (by simp only [A.AUX_BEEP_CTRL]; omega)) fam
    have hvref : (s.beepHeld w).beepApply.on F.AUX_VREF_STATUS_VREFA_READY = s.on F.AUX_VREF_STATUS_VREFA_READY :=
      s.on_setReg_ne _ (by decide)
    have happlied : (s.beepHeld w).beepApply.beep.rate = bits w 4 4 := hrate
    refine ⟨s.writeOne none ini A.AUX_BEEP_CTRL w, rfl, ?_⟩
    rw [State.writeOne_beep_starts h hi hpg hw hp]
    refine ⟨(hget _ (by decide)).trans (hen.trans hw), (hget _ (by decide)).trans hrate, (hget _ (by decide)).trans hgain,
      hbrate.trans hrate, hbfilter.trans hfilter, ?_, ?_⟩
    · rw [hphase, happlied, hfam, hvref]
    · exact ((((Touches.refl _ _ _ s).setReg _ (.inr (by decide))).put_beep _ (by decide)).beepAfterPower (by decide) (by decide))
  case vrefaReady =>
    intro s h1 h2
    exact ⟨s.vrefaReady, rfl, State.vrefaReady_vrefa h1 h2, fun n hn => (State.vrefaReady_ainAt h1 h2 hn).1,
      fun n hn => (State.vrefaReady_ainAt h1 h2 hn).2, State.vrefaReady_touches h1 h2⟩
  case vrefaLate =>
    intro s h1 h2
    have hlate : s.vrefaLate = s.fault 0x18 2 := by
      rw [State.vrefaLate, h1, h2]
      rfl
    refine ⟨s.vrefaLate, rfl, ?_⟩
    rw [hlate]
    refine ⟨s.get_fault_self _ _ (by decide), ?_, (Touches.refl _ _ _ s).fault 2 (.inr (by decide))⟩
    rw [State.get_fault_off _ (by decide)]
    exact not_not.1 (of_decide_eq_false h2)

end Sys2Proof.Machine
end

section
/-! PROOFS. O12, O13, O15 and O48 do not hold: a stop clears the current limit (R116), a fault job displaces a plain one (R456, R459), a
removal lets the charge pump stop (R117, R129), and a collapse carries out a write that an aborted substitution held (R102, R125). -/

namespace Sys2Proof.Machine

variable {s : State}

/-! ## A stop that ends a current limit -/

theorem yields_aoutEnWrite {ini : Fin 5} {c : Fin 8} {w : Word} :
    Yields (.aoutEnWrite ini c false w) s (s.writeOne none ini (A.AOUT_CTRL c) w) := rfl

/-- Channel 0 starts, and its stage is at the current limit. -/
def limitedStart : State := (((State.reset.set (F.PG_ENABLE 0x19) 1).set (F.AOUT_CTRL_EN 0) 1).aoutBegin 0).aoutIlimNow 0 true

theorem limitedStart_mayStop : limitedStart.mayWrite 0 (A.AOUT_CTRL 0) 0#32 = true ∧
    limitedStart.get (F.AOUT_STATUS_ILIM_NOW 0) = 1 := by decide +kernel

/-- With EN 0 the stage goes behind its clamp at once, and its comparator shows no limit. -/
theorem limitedStart_stopped : (limitedStart.writeOne none 0 (A.AOUT_CTRL 0) 0#32).get (F.AOUT_STATUS_ILIM_NOW 0) = 0 := by
  decide +kernel

/-- Refutes O12: the frame of AOUT_EN_WRITE leaves out ILIM_NOW. In `limitedStart` the channel is at its current limit while it starts; EN
0 isolates it at once (R116), which clears ILIM_NOW. -/
theorem not_outputWrites : ¬ Obligations.OutputWrites := by
  unfold Obligations.OutputWrites
  rintro ⟨enWrite, -⟩
  obtain ⟨hmay, hilim⟩ := limitedStart_mayStop
  obtain ⟨u, hy, -, -, -, -, -, htouch⟩ := enWrite 0 0 0#32 limitedStart hmay
  have hkept : u.get (F.AOUT_STATUS_ILIM_NOW 0) = limitedStart.get (F.AOUT_STATUS_ILIM_NOW 0) := htouch.get_keeps (by decide)
  have hcleared : u.get (F.AOUT_STATUS_ILIM_NOW 0) = 0 :=
    (hy.get_eq yields_aoutEnWrite (by decide) (by decide)).trans limitedStart_stopped
  rw [hkept, hilim] at hcleared
  exact absurd hcleared (by decide)

/-! ## A fault job that displaces a plain one -/

theorem yields_dacElementError {c : Fin 8} : Yields (.dacElementError c) s (s.dacElement c) := rfl

/-- Channel 0 is RUNNING, and the sixteen job slots hold plain jobs. -/
def fullQueuePlaying : State := fullQueue.aoutPhase 0 .running 5000

theorem fullQueuePlaying_monitored : fullQueuePlaying.clocked .aout = true ∧ (fullQueuePlaying.aoutAt 0).phase ≠ .off ∧
    fullQueuePlaying.get F.MNT_COUNT_ABORTED = 0 := by decide +kernel

/-- The newest plain job ends with RESULT 5 and is counted. -/
theorem fullQueuePlaying_displaced : (fullQueuePlaying.dacElement 0).get F.MNT_COUNT_ABORTED = 1 := by decide +kernel

/-- Refutes O13: the frame of DAC_ELEMENT_ERROR leaves out ABORTED of MNT_COUNT. In `fullQueuePlaying` no slot is free, so the fault job
displaces the newest plain job, which is counted as aborted. -/
theorem not_outputEvents : ¬ Obligations.OutputEvents := by
  unfold Obligations.OutputEvents
  rintro ⟨-, -, -, -, -, -, elementError⟩
  obtain ⟨hclk, hon, hnone⟩ := fullQueuePlaying_monitored
  obtain ⟨u, hy, -, -, -, htouch⟩ := elementError 0 fullQueuePlaying hclk hon
  have hkept : u.get F.MNT_COUNT_ABORTED = fullQueuePlaying.get F.MNT_COUNT_ABORTED := htouch.get_keeps (by decide)
  have hcounted : u.get F.MNT_COUNT_ABORTED = 1 :=
    (hy.get_eq yields_dacElementError (by decide) (by decide)).trans fullQueuePlaying_displaced
  rw [hkept, hnone] at hcounted
  exact absurd hcounted (by decide)

/-! ## A removal that lets the charge pump stop -/

theorem yields_jackEdge {n : Fin 2} {high : Bool} : Yields (.jackEdge n high) s (s.jackEdgeAll n high) := rfl

/-- Jack 0 in DET_MODE 1 holds a plug, and its load is being measured: the pump supplies the stages, which are off. -/
def measuredPlug : State :=
  ((((State.reset.set (F.PG_ENABLE 0x0D) 1).set (F.JCK_CTRL_DET_MODE 0) 1).modJack 0 (fun j => { j with detHigh := false })).set
    (F.JCK_STATUS_STATE 0) 4).jackMeasureNow 0

theorem measuredPlug_mayLeave : measuredPlug.clocked .aout = true ∧ measuredPlug.on (F.PG_ENABLE 0x0D) = true ∧
    (measuredPlug.jackAt 0).detHigh ≠ true ∧ measuredPlug.get (F.JCK_CTRL_DET_MODE 0) = 1 ∧
    measuredPlug.cpStop = false := by decide +kernel

/-- With the plug gone nothing keeps the pump, and its stop time begins. -/
theorem measuredPlug_left : (measuredPlug.jackEdgeAll 0 true).cpStop = true := by decide +kernel

/-- Refutes O15: the frame of JACK_EDGE leaves out the pump's stop time. In `measuredPlug` an impedance measurement runs with every
headphone off; the removal ends it, so that nothing keeps the pump and its stop time begins (R117). -/
theorem not_headsetJacks : ¬ Obligations.HeadsetJacks := by
  unfold Obligations.HeadsetJacks
  rintro ⟨edge, -⟩
  obtain ⟨hclk, hpage, hlevel, hmode, hpump⟩ := measuredPlug_mayLeave
  obtain ⟨u, hy, -, -, -, -, htouch⟩ := edge 0 true measuredPlug hclk hpage hlevel (.inl hmode)
  have hkept : u.cpStop = measuredPlug.cpStop := htouch.1 .cpStop (by decide)
  have hbegun : u.cpStop = (measuredPlug.jackEdgeAll 0 true).cpStop :=
    (settle_cpStop u).symm.trans ((congrArg State.cpStop (hy.settle_eq yields_jackEdge)).trans (settle_cpStop _))
  rw [hkept, hpump, measuredPlug_left] at hbegun
  exact absurd hbegun (by decide)

/-! ## A collapse that carries out a held write -/

theorem yields_pvddCrit : Yields .pvddCrit s s.pvddCrit := rfl

/-- Channel 0 refills its interpolator with its gain at one, and a spare slice shadows it with a write held back. By the commands a refill
has its gain at zero and a write is held in a crossfade alone (R102, R115); the statement ranges over every state. -/
def shadowedRefill : State :=
  ((State.reset.setDacSub 0 (some (shadowOf 0 8))).set (F.AOUT_STATUS_FMT_PENDING 0) 1).modAout 0
    (fun a => { a with phase := .recFill, pop := .at1 })

theorem shadowedRefill_supplied : shadowedRefill.domState ≤ 1 ∧ shadowedRefill.pins.crit = false ∧
    (shadowedRefill.aoutAt 0).pop.num = 1 := by decide +kernel

/-- The refill begins anew, with the gain at zero at once. -/
theorem shadowedRefill_collapsed : (shadowedRefill.pvddCrit.aoutAt 0).pop.num = 0 := by decide +kernel

/-- Refutes O48: PVDD_CRIT turns a channel's gain and leaves its value, says the statement, and asks nothing of a substitution of the
channel. In `shadowedRefill` the collapse aborts the shadow (R125), the write it held begins the refill anew (R115), and the gain is zero
at once. -/
theorem not_sagAndFloors : ¬ Obligations.SagAndFloors := by
  unfold Obligations.SagAndFloors
  rintro ⟨-, -, -, -, crit, -⟩
  obtain ⟨hdom, hcrit, hfull⟩ := shadowedRefill_supplied
  obtain ⟨u, hy, -, -, -, -, -, -, -, -, hpop, -, -⟩ := crit shadowedRefill hdom hcrit
  have hkept : (u.aoutAt 0).pop.num = (shadowedRefill.aoutAt 0).pop.num := by rw [(hpop 0 (by decide)).1]
  have hend : u.aout = shadowedRefill.pvddCrit.aout :=
    (settle_aout u).symm.trans ((congrArg State.aout (hy.settle_eq yields_pvddCrit)).trans (settle_aout _))
  have hzero : (u.aoutAt 0).pop.num = 0 := by
    rw [State.aoutAt, hend, ← State.aoutAt, shadowedRefill_collapsed]
  rw [hkept, hfull] at hzero
  exact absurd hzero (by decide)

end Sys2Proof.Machine
end

section
/-! PROOFS. Loops that keep an invariant, and the write of a block's register whose word may be written (R69 to R72). -/

namespace Sys2Proof.Machine

variable {s : State}

/-! ## Loops -/

theorem State.forAll_succ (n : Nat) (f : State → Nat → State) : s.forAll (n + 1) f = f (s.forAll n f) n := by
  rw [State.forAll, State.forAll, List.range_succ, List.foldl_append, List.foldl_cons, List.foldl_nil]

/-- What every step keeps true, the loop keeps true. -/
theorem State.forAll_holds (P : State → Prop) {f : State → Nat → State} (hP : ∀ t k, P t → P (f t k)) (h : P s) :
    ∀ n, P (s.forAll n f)
  | 0 => h
  | n + 1 => by
    rw [State.forAll_succ]
    exact hP _ _ (State.forAll_holds P hP h n)

section
variable {β : Type} (P : State → Prop) (g : State → Nat → β) {f : State → Nat → State} (hP : ∀ t k, P t → P (f t k))
  (hne : ∀ t k n, P t → k ≠ n → g (f t k) n = g t n) (h : P s)
include hP hne h

/-- Under an invariant a loop leaves the indices above it. -/
theorem State.forAll_above {n : Nat} : ∀ {N : Nat}, N ≤ n → g (s.forAll N f) n = g s n
  | 0, _ => rfl
  | N + 1, hN => by
    rw [State.forAll_succ, hne _ N n (State.forAll_holds P hP h N) (by omega)]
    exact State.forAll_above (Nat.le_of_succ_le hN)

/-- Under an invariant each index of a loop is changed by its own step, on what it read at the start. -/
theorem State.forAll_at_of {n : Nat} : ∀ {N : Nat}, n < N → ∃ t, P t ∧ g t n = g s n ∧ g (s.forAll N f) n = g (f t n) n
  | N + 1, hn => by
    rw [State.forAll_succ]
    by_cases hN : n = N
    · subst hN
      exact ⟨_, State.forAll_holds P hP h n, State.forAll_above P g hP hne h (Nat.le_refl n), rfl⟩
    · obtain ⟨t, ht, hs, hl⟩ := State.forAll_at_of (Nat.lt_of_le_of_ne (Nat.le_of_lt_succ hn) hN)
      exact ⟨t, ht, hs, (hne _ _ _ (State.forAll_holds P hP h N) (Ne.symm hN)).trans hl⟩

end

/-! ## Block registers -/

/-- A block register that may be written lies on a powered island (R71). -/
theorem State.islandOn_of_mayWrite {ini a p o : Nat} {w : Word} (h : s.mayWrite ini a w = true) (hp : placeOf a = .reg p o)
    (ho : 0x40 ≤ o) : s.islandOn (islandOf p) = true := by
  obtain ⟨-, hr, -, -⟩ := s.mayWrite_spec h
  have hbars : s.offBars true (.reg p o) = false := by
    rw [← hp]
    refine Bool.eq_false_iff.2 (fun hoff => ?_)
    unfold State.refusal at hr
    simp only [hoff] at hr
    split_ifs at hr
  simp only [State.offBars, decide_eq_true ho, Bool.true_and, Bool.or_eq_false_iff, Bool.not_eq_false'] at hbars
  exact hbars.1

/-- The registers of the pages from LST to the speakers have no joint reserved values. -/
theorem together_of_page {a : Nat} (h1 : 0x0C ≤ a / 0x400) (h2 : a / 0x400 ≤ 0x20) (old w new : Word) :
    together a old w new = (new, false) := by
  have hmclk : ¬ (A.SAP_MCLK 0 ≤ a ∧ a ≤ A.SAP_MCLK 3 ∧ a % 0x400 = A.SAP_MCLK 0 % 0x400) := by simp only [A.SAP_MCLK]; omega
  have hseq : ¬ (A.SNS_SEQ 0 ≤ a ∧ a ≤ A.SNS_SEQ 15) := by simp only [A.SNS_SEQ]; omega
  have hsag : a ≠ A.BLW_SAG := by simp only [A.BLW_SAG]; omega
  have hcost : a ≠ A.BLW_OP_COST := by simp only [A.BLW_OP_COST]; omega
  have htask : ¬ (A.BLW_TASK_COST 32 ≤ a ∧ a ≤ A.BLW_TASK_COST 63 ∧ (a - A.BLW_TASK_COST 32) % 8 = 0) := by
    simp only [A.BLW_TASK_COST]; omega
  simp only [together, if_neg hmclk, if_neg hseq, if_neg hsag, if_neg hcost, if_neg htask]

/-- The write of a register of these pages: its fields by their access types, then the block's reaction. -/
theorem State.writeOne_of_page {ini a p o : Nat} {w : Word} {d : RegDef} (h1 : 0x0C ≤ a / 0x400) (h2 : a / 0x400 ≤ 0x20)
    (h : s.mayWrite ini a w = true) (hp : placeOf a = .reg p o) (hd : regDefAt a = some d) :
    s.writeOne none ini a w = (s.setReg a (d.take (s.reg a) w).1).regWritten none a (s.reg a) w := by
  rw [s.writeOne_of_mayWrite none ini _ _ h (s.poke_of_mayWrite none ini _ _ h hp),
    State.poke_reg_taken s none _ _ hp hd (.inl (by simp only [A.SNS_URGENT]; omega)), together_of_page h1 h2]

end Sys2Proof.Machine
end

section
/-! PROOFS. DAC channels and the charge pump (R114, R117, R123): where a channel's start goes on, what shows in its status, and what it
leaves unchanged. -/

namespace Sys2Proof.Machine

variable {s t : State} {c d : Nat}

/-! ## Status (R135) -/

theorem aoutStatusFlds_addr {f : Fld} (hf : f ∈ aoutStatusFlds c) : f.addr = A.AOUT_STATUS c := by
  simp only [aoutStatusFlds, List.mem_cons, List.not_mem_nil, or_false] at hf
  rcases hf with rfl | rfl | rfl | rfl <;> rfl

/-- The channels' status lies above the jack page. -/
theorem aoutStatus_ne_jck {f : Fld} (hf : f.addr / 0x400 = 0x0D) : ∀ g ∈ aoutStatusFlds c, g.addr ≠ f.addr := fun g hg => by
  rw [aoutStatusFlds_addr hg]
  simp only [A.AOUT_STATUS]
  omega

section
variable {ps : List Part} {gs : List Nat} {fs : List Fld}
  (hp : .aout ∈ ps) (hf : ∀ f ∈ aoutStatusFlds c, f.addr / 0x400 ∈ gs ∨ f ∈ fs)
include hp hf

theorem Touches.aoutSync_status (h : Touches ps gs fs s t) (us : Nat) : Touches ps gs fs s (t.aoutSync c us) := by
  simp only [aoutStatusFlds, List.mem_cons, List.not_mem_nil, or_false, forall_eq_or_imp, forall_eq] at hf
  obtain ⟨hstate, hjack, hhold, hdom⟩ := hf
  exact ((((h.modAout c _ hp).set _ hstate).setB _ hjack).setB _ hhold).set _ hdom

theorem Touches.aoutPhase_status (h : Touches ps gs fs s t) (p : AoutPhase) (us : Nat) : Touches ps gs fs s (t.aoutPhase c p us) :=
  (h.modAout c _ hp).aoutSync_status hp hf us

end

/-- The gain moves to where its causes ask. -/
theorem State.aoutSync_pop_up (us : Nat) (hc : c < 8) : ((s.aoutSync c us).aoutAt c).pop.up = s.aoutOpen c := by
  unfold State.aoutSync
  simp only [State.set_aoutAt, State.setB_aoutAt, s.aoutAt_modAout_self hc]
  split
  · next h => exact h
  · rfl

/-! ## The charge pump (R117) -/

theorem State.pumpUp_good (h1 : s.pins.hpvdd = true) (h2 : s.cpFault = false) :
    s.pumpUp = { s.set F.JCK_CP_STATUS_READY 1 with cpStop := false } := by
  rw [State.pumpUp, h1, h2]
  rfl

theorem State.pumpUp_touches : Touches [.cpStop] [] [F.JCK_CP_STATUS_READY] s s.pumpUp :=
  (Touches.refl _ _ _ s).when _ (fun _ => ((Touches.refl _ _ _ s).set _ (.inr (by simp))).put_cpStop _ (by simp))

/-- The pump's supply never ends its readiness. -/
theorem State.pumpUp_ready (h : s.on F.JCK_CP_STATUS_READY = true) : s.pumpUp.on F.JCK_CP_STATUS_READY = true := by
  unfold State.pumpUp
  cases s.pins.hpvdd && !s.cpFault
  · exact h
  · exact State.on_set_one (by decide)

theorem State.pumpUp_ready_of_good (h1 : s.pins.hpvdd = true) (h2 : s.cpFault = false) :
    s.pumpUp.on F.JCK_CP_STATUS_READY = true ∧ s.pumpUp.cpStop = false := by
  rw [State.pumpUp_good h1 h2]
  exact ⟨State.on_set_one (s := s) (by decide), rfl⟩

/-- Every headphone channel is off. -/
theorem State.hpAllOff_of (h : ∀ k, k < 4 → (s.aoutAt k).phase = .off) : s.hpAllOff = true :=
  List.all_eq_true.2 (fun k hk => decide_eq_true (h k (List.mem_range.1 hk)))

theorem State.pumpIdle_unkept (h1 : s.on F.JCK_CP_CTRL_FORCE_ON = false) (h2 : s.on F.JCK_CP_STATUS_READY = true)
    (h3 : s.hpAllOff = true) : s.pumpIdle.cpStop = true := by
  rw [State.pumpIdle, h1, h2, h3]
  rfl

/-- FORCE_ON moves the pump alone. -/
theorem State.cpForceWritten_touches : Touches [.cpStop] [] [F.JCK_CP_STATUS_READY] s s.cpForceWritten := by
  unfold State.cpForceWritten
  split
  · exact (Touches.refl _ _ _ s).when _ (fun _ => State.pumpUp_touches)
  · exact (Touches.refl _ _ _ s).when _ (fun _ => (Touches.refl _ _ _ s).put_cpStop _ (by simp))

/-! ## A start goes on (R114 steps 2 to 7) -/

/-- A start that goes on moves its channel to a phase, with the pump supplied before for a headphone; it waits for the pump or VREFB only
where that is not ready. -/
theorem State.aoutGo_cases (s : State) (c : Nat) : ∃ t p, (t = s ∨ t = s.pumpUp) ∧
    (p = .waitPump → t = s.pumpUp ∧ t.on F.JCK_CP_STATUS_READY = false) ∧ (p = .waitVref → t.on F.JCK_VREFB_STATUS_READY = false) ∧
    (s.aoutGo c = t.aoutPhase c p 5000 ∨ s.aoutGo c = (t.aoutPhase c p 5000).irq (pgAOP c) (2 + c % 2)) := by
  unfold State.aoutGo
  split
  · exact ⟨s, .starting, .inl rfl, nofun, nofun, .inl rfl⟩
  · extract_lets u
    have hu : u = s ∨ u = s.pumpUp := by
      cases hc : isHp c
      · exact .inl (by simp only [u, hc, State.when_false])
      · exact .inr (by simp only [u, hc, State.when_true])
    have hpump : isHp c = true → u = s.pumpUp := fun hc => by simp only [u, hc, State.when_true]
    split
    · next h =>
      simp only [Bool.and_eq_true, Bool.not_eq_true'] at h
      exact ⟨u, .waitPump, hu, fun _ => ⟨hpump h.1, h.2⟩, nofun, .inl rfl⟩
    · split
      · next h => exact ⟨u, .waitVref, hu, nofun, fun _ => by simpa using h, .inl rfl⟩
      · split
        · exact ⟨u, .waitClk, hu, nofun, nofun, .inl rfl⟩
        · split
          · exact ⟨u, .waitVhold, hu, nofun, nofun, .inl rfl⟩
          · split
            · exact ⟨u, .running, hu, nofun, nofun, .inr rfl⟩
            · exact ⟨u, .unmuting, hu, nofun, nofun, .inl rfl⟩

/-- The fields that a channel's start shows in. -/
def aoutGoFlds (c : Nat) : List Fld := F.PG_IRQ (pgAOP c) (2 + c % 2) :: aoutStatusFlds c

theorem aoutGoFlds_ne_jck {f : Fld} (hf : f.addr / 0x400 = 0x0D) : ∀ g ∈ aoutGoFlds c, g.addr ≠ f.addr :=
  List.forall_mem_cons.2 ⟨by simp only [F.PG_IRQ, pgAOP]; omega, aoutStatus_ne_jck hf⟩

/-- Beside the pump, a start that goes on shows in its channel alone. -/
theorem State.aoutGo_moves (s : State) (c : Nat) : ∃ t, (t = s ∨ t = s.pumpUp) ∧ Touches [.aout] [] (aoutGoFlds c) t (s.aoutGo c) := by
  obtain ⟨t, p, ht, -, -, h | h⟩ := s.aoutGo_cases c <;> rw [h]
  · exact ⟨t, ht, (Touches.refl _ _ _ t).aoutPhase_status (by simp) (fun f hf => .inr (List.mem_cons_of_mem _ hf)) p 5000⟩
  · exact ⟨t, ht, ((Touches.refl _ _ _ t).aoutPhase_status (by simp) (fun f hf => .inr (List.mem_cons_of_mem _ hf)) p 5000).irq
      (.inr (List.mem_cons_self ..))⟩

theorem State.aoutGo_touches (s : State) (c : Nat) :
    Touches [.aout, .cpStop] [] (F.JCK_CP_STATUS_READY :: aoutGoFlds c) s (s.aoutGo c) := by
  obtain ⟨t, ht, hmoves⟩ := s.aoutGo_moves c
  have hpump : Touches [.cpStop] [] [F.JCK_CP_STATUS_READY] s t := by
    rcases ht with rfl | rfl
    · exact Touches.refl _ _ _ _
    · exact State.pumpUp_touches
  exact (hpump.mono (by simp) (List.Subset.refl _) (by simp)).trans (hmoves.mono (by simp) (List.Subset.refl _) (by simp))

theorem State.aoutGo_ready (c : Nat) (h : s.on F.JCK_CP_STATUS_READY = true) : (s.aoutGo c).on F.JCK_CP_STATUS_READY = true := by
  obtain ⟨t, ht, hmoves⟩ := s.aoutGo_moves c
  rw [hmoves.on_keeps (fun g hg => .inl (aoutGoFlds_ne_jck (by decide) g hg))]
  rcases ht with rfl | rfl
  · exact h
  · exact State.pumpUp_ready h

theorem State.aoutGo_aoutAt_ne (h : c ≠ d) : (s.aoutGo c).aoutAt d = s.aoutAt d := by
  obtain ⟨t, p, ht, -, -, hgo⟩ := s.aoutGo_cases c
  have hpump : t.aoutAt d = s.aoutAt d := by
    rcases ht with rfl | rfl
    · rfl
    · exact congrArg (vget · d Aout.init) (State.pumpUp_touches.1 .aout (by decide))
  rcases hgo with hgo | hgo <;> rw [hgo]
  · rw [State.aoutPhase_aoutAt_ne _ _ h, hpump]
  · rw [State.irq_aoutAt, State.aoutPhase_aoutAt_ne _ _ h, hpump]

/-- The phase a start goes on to. -/
theorem State.aoutGo_phase (hc : c < 8) : ∃ t p, (t = s ∨ t = s.pumpUp) ∧ ((s.aoutGo c).aoutAt c).phase = p ∧
    (p = .waitPump → t = s.pumpUp ∧ t.on F.JCK_CP_STATUS_READY = false) ∧ (p = .waitVref → t.on F.JCK_VREFB_STATUS_READY = false) := by
  obtain ⟨t, p, ht, hpump, hvref, hgo⟩ := s.aoutGo_cases c
  refine ⟨t, p, ht, ?_, hpump, hvref⟩
  rcases hgo with hgo | hgo <;> rw [hgo]
  · exact State.aoutPhase_phase _ _ hc
  · rw [State.irq_aoutAt, State.aoutPhase_phase _ _ hc]

theorem State.aoutGo_not_waitPump (hc : c < 8) (h : s.on F.JCK_CP_STATUS_READY = true) : ((s.aoutGo c).aoutAt c).phase ≠ .waitPump := by
  obtain ⟨t, p, -, hphase, hpump, -⟩ := s.aoutGo_phase hc
  rw [hphase]
  intro hp
  obtain ⟨rfl, hoff⟩ := hpump hp
  rw [State.pumpUp_ready h] at hoff
  exact Bool.noConfusion hoff

theorem State.pumpUp_vrefb : s.pumpUp.on F.JCK_VREFB_STATUS_READY = s.on F.JCK_VREFB_STATUS_READY :=
  State.pumpUp_touches.on_keeps (by decide)

theorem State.aoutGo_not_waitVref (hc : c < 8) (h : s.on F.JCK_VREFB_STATUS_READY = true) :
    ((s.aoutGo c).aoutAt c).phase ≠ .waitVref := by
  obtain ⟨t, p, ht, hphase, -, hvref⟩ := s.aoutGo_phase hc
  have hready : t.on F.JCK_VREFB_STATUS_READY = true := by
    rcases ht with rfl | rfl
    · exact h
    · rw [State.pumpUp_vrefb, h]
  rw [hphase]
  intro hp
  rw [hvref hp] at hready
  exact Bool.noConfusion hready

end Sys2Proof.Machine
end

section
/-! PROOFS. O14: the charge pump (R117, R123, R137) and VREFB's soft-start (R114, R123, R138). -/

namespace Sys2Proof.Machine

variable {s t : State} {c d : Nat}

/-! ## JCK_CP_CTRL -/

/-- The fields of JCK_CP_CTRL (R137). -/
def jckCpCtrlDef : RegDef := .mk 0x040 1 4 0 64 0x0 [] false [.mk 1 1 .w1s [], .mk 0 1 .rw []]

theorem regDefAt_jckCpCtrl : regDefAt A.JCK_CP_CTRL = some jckCpCtrlDef := by decide

/-- A write of JCK_CP_CTRL holds FORCE_ON, then moves the pump, then RETRY acts. -/
theorem State.writeOne_jckCpCtrl {ini : Nat} {w : Word} (h : s.mayWrite ini A.JCK_CP_CTRL w = true) :
    s.writeOne none ini A.JCK_CP_CTRL w =
      ((s.set F.JCK_CP_CTRL_FORCE_ON (bits w 0 1)).cpForceWritten).when (hit w 1) State.cpRetry := by
  rw [State.writeOne_of_page (by decide) (by decide) h rfl regDefAt_jckCpCtrl]
  rfl

/-- JCK_CP_CTRL that may be written lies on a powered island. -/
theorem State.aoutOn_of_mayWrite {ini : Nat} {w : Word} (h : s.mayWrite ini A.JCK_CP_CTRL w = true) : s.islandOn .aout = true :=
  State.islandOn_of_mayWrite (p := 0x0D) h rfl (by decide)

/-- FORCE_ON written 1 readies the pump where HPVDD is good and no fault is pending (R117). -/
theorem State.cpForceWritten_on (h : s.on F.JCK_CP_CTRL_FORCE_ON = true) (hi : s.islandOn .aout = true) : s.cpForceWritten = s.pumpUp := by
  rw [State.cpForceWritten, if_pos h, State.pumpForced, h, hi]
  rfl

theorem State.cpForceWritten_off (h : s.on F.JCK_CP_CTRL_FORCE_ON = false) : s.cpForceWritten = s.pumpIdle := by
  rw [State.cpForceWritten, if_neg (by rw [h]; decide)]

theorem State.cpForceWritten_force : s.cpForceWritten.get F.JCK_CP_CTRL_FORCE_ON = s.get F.JCK_CP_CTRL_FORCE_ON :=
  State.cpForceWritten_touches.get_keeps (by decide)

/-- FORCE_ON as it is written, and what it moves. -/
theorem State.cpForced_touches (v : Nat) : Touches [.cpStop] [] [F.JCK_CP_CTRL_FORCE_ON, F.JCK_CP_STATUS_READY] s
    (s.set F.JCK_CP_CTRL_FORCE_ON v).cpForceWritten :=
  ((Touches.refl _ _ _ s).set _ (.inr (by simp))).trans
    (State.cpForceWritten_touches.mono (List.Subset.refl _) (List.Subset.refl _) (by simp))

/-! ## RETRY (R123) -/

/-- What RETRY does to one headphone: one that waits for the pump goes on, the others follow their causes. -/
def State.cpResume (s : State) (c : Nat) : State := if (s.aoutAt c).phase = .waitPump then s.aoutGo c else s.aoutSync c 5000

theorem State.cpRetry_pending (h : s.cpFault = true) :
    s.cpRetry = ({ s with cpFault := false } : State).pumpUp.forAll 4 State.cpResume := by
  rw [State.cpRetry, h]
  rfl

theorem State.aoutSync_touches (c us : Nat) : Touches [.aout] [] (aoutStatusFlds c) s (s.aoutSync c us) :=
  (Touches.refl _ _ _ s).aoutSync_status (by simp) (fun _ => .inr) us

theorem State.cpResume_touches (c : Nat) : Touches [.aout, .cpStop] [] (F.JCK_CP_STATUS_READY :: aoutGoFlds c) s (s.cpResume c) := by
  unfold State.cpResume
  split
  · exact s.aoutGo_touches c
  · exact (State.aoutSync_touches c 5000).mono (by simp) (List.Subset.refl _) (fun _ hf => by simp [aoutGoFlds, hf])

theorem State.cpResume_aoutAt_ne (h : c ≠ d) : (s.cpResume c).aoutAt d = s.aoutAt d := by
  unfold State.cpResume
  split
  · exact State.aoutGo_aoutAt_ne h
  · exact State.aoutSync_aoutAt_ne 5000 h

theorem State.cpResume_ready (c : Nat) (h : s.on F.JCK_CP_STATUS_READY = true) : (s.cpResume c).on F.JCK_CP_STATUS_READY = true := by
  unfold State.cpResume
  split
  · exact State.aoutGo_ready c h
  · rw [(State.aoutSync_touches c 5000).on_keeps (fun g hg => .inl (aoutStatus_ne_jck (by decide) g hg)), h]

theorem State.cpResume_not_waitPump (hc : c < 8) (h : s.on F.JCK_CP_STATUS_READY = true) :
    ((s.cpResume c).aoutAt c).phase ≠ .waitPump := by
  unfold State.cpResume
  split
  · exact State.aoutGo_not_waitPump hc h
  · next hp => rwa [State.aoutSync_phase 5000 hc]

theorem State.cpRetry_cpFault (h : s.cpFault = true) : s.cpRetry.cpFault = false := by
  have hloop (t : State) : (t.forAll 4 State.cpResume).cpFault = t.cpFault :=
    t.forAll_keeps (·.cpFault) 4 _ (fun t c => (t.cpResume_touches c).1 .cpFault (by decide))
  rw [State.cpRetry_pending h, hloop]
  exact State.pumpUp_touches.1 .cpFault (by decide)

/-- With HPVDD good RETRY readies the pump, and no headphone waits for it. -/
theorem State.cpRetry_good (h : s.cpFault = true) (hv : s.pins.hpvdd = true) : s.cpRetry.on F.JCK_CP_STATUS_READY = true ∧
    ∀ c, c < 4 → (s.cpRetry.aoutAt c).phase ≠ .waitPump := by
  have hup : ({ s with cpFault := false } : State).pumpUp.on F.JCK_CP_STATUS_READY = true := 
    (State.pumpUp_ready_of_good (s := { s with cpFault := false }) hv rfl).1
  rw [State.cpRetry_pending h]
  refine ⟨State.forAll_holds (·.on F.JCK_CP_STATUS_READY = true) (fun _ c => State.cpResume_ready c) hup 4, fun c hc => ?_⟩
  obtain ⟨t, ht, -, hs⟩ := State.forAll_at_of (·.on F.JCK_CP_STATUS_READY = true) State.aoutAt (f := State.cpResume)
    (fun _ c => State.cpResume_ready c) (fun _ _ _ _ => State.cpResume_aoutAt_ne) hup hc
  rw [hs]
  exact State.cpResume_not_waitPump (by omega) ht

/-- The fields that RETRY writes. -/
def cpRetryFlds : List Fld := F.JCK_CP_CTRL_FORCE_ON :: F.JCK_CP_STATUS_READY :: (List.range 4).flatMap aoutGoFlds

theorem State.cpRetry_touches : Touches [.aout, .cpFault, .cpStop] [] cpRetryFlds s s.cpRetry := by
  refine (Touches.refl _ _ _ s).when _ (fun _ => ?_)
  have hpump : Touches [.aout, .cpFault, .cpStop] [] cpRetryFlds s ({ s with cpFault := false } : State).pumpUp :=
    ((Touches.refl _ _ _ s).put_cpFault false (by simp)).trans
      (State.pumpUp_touches.mono (by simp) (List.Subset.refl _) (by simp [cpRetryFlds]))
  refine hpump.forAll 4 (fun t c hc ht => ht.trans ((t.cpResume_touches c).mono (by simp) (List.Subset.refl _) ?_))
  exact List.cons_subset.2 ⟨by simp [cpRetryFlds], fun f hf => List.mem_cons_of_mem _ (List.mem_cons_of_mem _
    (List.mem_flatMap.2 ⟨c, List.mem_range.2 hc, hf⟩))⟩

/-! ## Pump faults (R123) -/

/-- A failing pump turns one headphone's gain to zero over 150 µs. -/
def State.cpMute (s : State) (c : Nat) : State := (s.aoutSync c 150).aoutPress c 150

theorem State.cpMute_touches (c : Nat) : Touches [.aout] [] (aoutStatusFlds c) s (s.cpMute c) :=
  (State.aoutSync_touches c 150).modAout c _ (by simp)

theorem State.cpMute_aoutAt_ne (h : c ≠ d) : (s.cpMute c).aoutAt d = s.aoutAt d :=
  (State.aoutAt_modAout_ne _ h _).trans (State.aoutSync_aoutAt_ne 150 h)

theorem State.cpMute_phase (hc : c < 8) : ((s.cpMute c).aoutAt c).phase = (s.aoutAt c).phase :=
  (State.aoutPress_phase 150 hc).trans (State.aoutSync_phase 150 hc)

/-- A ramp's time is pressed, not its direction. -/
theorem State.aoutPress_pop (us : Nat) (hc : c < 8) : ((s.aoutPress c us).aoutAt c).pop = (s.aoutAt c).pop := by
  rw [State.aoutPress, s.aoutAt_modAout_self hc]
  split <;> rfl

/-- A pump fault closes the headphones (R123). -/
theorem State.aoutOpen_cpFault (hc : c < 4) (h : s.cpFault = true) : s.aoutOpen c = false := by
  simp only [State.aoutOpen, isHp, decide_eq_true hc, h, Bool.and_self, Bool.not_true, Bool.and_false, Bool.false_and]

theorem State.cpMute_down (hc : c < 4) (h : s.cpFault = true) : ((s.cpMute c).aoutAt c).pop.up = false := by
  rw [State.cpMute, State.aoutPress_pop _ (by omega), State.aoutSync_pop_up _ (by omega), State.aoutOpen_cpFault hc h]

/-- The pump has failed, its headphones not yet turned. -/
def State.cpDown (s : State) : State := { s.set F.JCK_CP_STATUS_READY 0 with cpFault := true, cpStop := false }

theorem State.cpFail_eq (code : Nat) : s.cpFail code = (s.cpDown.forAll 4 State.cpMute).fault 0x0D code := rfl

/-- The headphones turned, READY and the pending fault stand as the failure left them. -/
theorem State.cpMuteAll_pump (t : State) : (t.forAll 4 State.cpMute).on F.JCK_CP_STATUS_READY = t.on F.JCK_CP_STATUS_READY ∧
    (t.forAll 4 State.cpMute).cpFault = t.cpFault :=
  ⟨t.forAll_keeps (·.on F.JCK_CP_STATUS_READY) 4 _ (fun t c =>
      (t.cpMute_touches c).on_keeps (fun g hg => .inl (aoutStatus_ne_jck (by decide) g hg))),
    t.forAll_keeps (·.cpFault) 4 _ (fun t c => (t.cpMute_touches c).1 .cpFault (by decide))⟩

theorem State.cpFail_pump {code : Nat} (hcode : code < 256) : (s.cpFail code).on F.JCK_CP_STATUS_READY = false ∧
    (s.cpFail code).get (F.PG_FAULT 0x0D) = code ∧ (s.cpFail code).cpFault = true := by
  obtain ⟨hready, hfault⟩ := s.cpDown.cpMuteAll_pump
  rw [State.cpFail_eq]
  refine ⟨?_, State.get_fault_self _ _ _ hcode, ?_⟩
  · rw [State.on_fault_off _ (by decide), hready]
    exact State.on_set_zero (s := s) (by decide)
  · rw [State.fault_cpFault, hfault]
    rfl

/-- The headphones' gains turn to zero. -/
theorem State.cpFail_down (code : Nat) (hc : c < 4) : ((s.cpFail code).aoutAt c).pop.up = false := by
  obtain ⟨t, ht, -, hs⟩ := State.forAll_at_of (s := s.cpDown) (·.cpFault = true) State.aoutAt (f := State.cpMute)
    (fun t c h => ((t.cpMute_touches c).1 .cpFault (by decide)).trans h) (fun _ _ _ _ => State.cpMute_aoutAt_ne) rfl hc
  rw [State.cpFail_eq, State.fault_aoutAt, hs]
  exact State.cpMute_down hc ht

/-- A pump fault moves no channel's sequence. -/
theorem State.cpFail_phase (code : Nat) (hc : c < 8) : ((s.cpFail code).aoutAt c).phase = (s.aoutAt c).phase := by
  have hstep (t : State) (k : Nat) : ((t.cpMute k).aoutAt c).phase = (t.aoutAt c).phase := by
    by_cases h : k = c
    · subst h
      exact State.cpMute_phase hc
    · rw [State.cpMute_aoutAt_ne h]
  rw [State.cpFail_eq, State.fault_aoutAt, State.forAll_keeps _ (fun t => (t.aoutAt c).phase) 4 _ hstep]
  rfl

/-- The fields that a pump fault writes beside its flag. -/
def cpFailFlds : List Fld := F.JCK_CP_STATUS_READY :: F.PG_FAULT 0x0D :: F.PG_IRQ 0x0D 1 :: (List.range 4).flatMap aoutStatusFlds

theorem State.cpFail_touches (code : Nat) : Touches [.aout, .cpFault, .cpStop] [] cpFailFlds s (s.cpFail code) := by
  have hdown : Touches [.aout, .cpFault, .cpStop] [] cpFailFlds s s.cpDown :=
    (((Touches.refl _ _ _ s).set _ (.inr (by simp [cpFailFlds]))).put_cpFault true (by simp)).put_cpStop false (by simp)
  refine (hdown.forAll 4 (fun t c hc ht => ht.trans ((t.cpMute_touches c).mono (by simp) (List.Subset.refl _) ?_))).fault code
    (.inr ⟨by simp [cpFailFlds], by simp [cpFailFlds]⟩)
  exact fun f hf => List.mem_cons_of_mem _ (List.mem_cons_of_mem _ (List.mem_cons_of_mem _
    (List.mem_flatMap.2 ⟨c, List.mem_range.2 hc, hf⟩)))

/-- The state a pump fault leaves, with its flag in JCK_CP_STATUS. -/
theorem State.cpFail_shows {f : Fld} {code : Nat} (ha : f.addr = A.JCK_CP_STATUS) (hlo : 1 ≤ f.lo ∧ f.lo < 32) (hw : f.w = 1)
    (hcode : code < 256) : ((s.set f 1).cpFail code).on F.JCK_CP_STATUS_READY = false ∧ ((s.set f 1).cpFail code).get f = 1 ∧
      ((s.set f 1).cpFail code).get (F.PG_FAULT 0x0D) = code ∧ ((s.set f 1).cpFail code).cpFault = true ∧
      (∀ c : Nat, c < 4 → (((s.set f 1).cpFail code).aoutAt c).pop.up = false) ∧
      (∀ c : Nat, c < 8 → (((s.set f 1).cpFail code).aoutAt c).phase = (s.aoutAt c).phase) ∧
      Touches [.aout, .cpFault, .cpStop] [] (F.JCK_CP_STATUS_READY :: f :: F.PG_FAULT 0x0D :: F.PG_IRQ 0x0D 1 ::
        (List.range 4).flatMap aoutStatusFlds) s ((s.set f 1).cpFail code) := by
  obtain ⟨hready, hfault, hpending⟩ := (s.set f 1).cpFail_pump hcode
  refine ⟨hready, ?_, hfault, hpending, fun c hc => State.cpFail_down code hc, fun c hc => State.cpFail_phase code hc, ?_⟩
  · have hkept : ((s.set f 1).cpFail code).get f = (s.set f 1).get f := by
      refine (State.cpFail_touches code).get_keeps (fun g hg => ?_)
      simp only [cpFailFlds, List.mem_cons, List.mem_flatMap] at hg
      rcases hg with rfl | rfl | rfl | ⟨c, -, hg⟩
      · exact .inr (.inr hlo.1)
      · exact .inl (by rw [ha]; decide)
      · exact .inl (by rw [ha]; decide)
      · exact .inl (aoutStatus_ne_jck (by rw [ha]; decide) g hg)
    rw [hkept, State.get_set_in (by omega), hw]
    rfl
  · exact ((Touches.refl _ _ _ s).set _ (.inr (by simp))).trans
      ((State.cpFail_touches code).mono (List.Subset.refl _) (List.Subset.refl _) (by simp [cpFailFlds]))

/-! ## VREFB (R114) -/

/-- A channel that waits for VREFB goes on. -/
def State.vrefbWake (s : State) (c : Nat) : State := s.when (decide ((s.aoutAt c).phase = .waitVref)) (·.aoutGo c)

theorem State.vrefbReady_late (h1 : s.vrefbStarted = true) (h2 : s.on F.JCK_VREFB_STATUS_READY = false) :
    s.vrefbReady = ((s.set F.JCK_VREFB_STATUS_READY 1).unfault 0x0D 4).forAll 8 State.vrefbWake := by
  rw [State.vrefbReady, h1, h2]
  rfl

theorem State.vrefbWake_touches (c : Nat) : Touches [.aout, .cpStop] [] (F.JCK_CP_STATUS_READY :: aoutGoFlds c) s (s.vrefbWake c) :=
  (Touches.refl _ _ _ s).when _ (fun _ => s.aoutGo_touches c)

/-- Of the jack page, a channel that goes on writes the pump's READY alone. -/
theorem State.vrefbWake_get (c : Nat) {f : Fld} (hf : f.addr / 0x400 = 0x0D) (hne : f.addr ≠ A.JCK_CP_STATUS) :
    (s.vrefbWake c).get f = s.get f :=
  (s.vrefbWake_touches c).get_keeps (List.forall_mem_cons.2 ⟨.inl (Ne.symm hne), fun g hg => .inl (aoutGoFlds_ne_jck hf g hg)⟩)

theorem State.vrefbWakes_get {f : Fld} (hf : f.addr / 0x400 = 0x0D) (hne : f.addr ≠ A.JCK_CP_STATUS) (t : State) :
    (t.forAll 8 State.vrefbWake).get f = t.get f :=
  t.forAll_keeps (·.get f) 8 _ (fun _ c => State.vrefbWake_get c hf hne)

theorem State.vrefbWake_aoutAt_ne (h : c ≠ d) : (s.vrefbWake c).aoutAt d = s.aoutAt d := by
  unfold State.vrefbWake
  cases decide ((s.aoutAt c).phase = .waitVref)
  · rfl
  · exact State.aoutGo_aoutAt_ne h

/-- With VREFB ready a channel leaves its wait for it, and none other moves. -/
theorem State.vrefbWakes_aoutAt (hc : c < 8) (hv : s.on F.JCK_VREFB_STATUS_READY = true) :
    ((s.forAll 8 State.vrefbWake).aoutAt c).phase ≠ .waitVref ∧
      ((s.aoutAt c).phase ≠ .waitVref → (s.forAll 8 State.vrefbWake).aoutAt c = s.aoutAt c) := by
  obtain ⟨t, ht, hain, hs⟩ := State.forAll_at_of (·.on F.JCK_VREFB_STATUS_READY = true) State.aoutAt (f := State.vrefbWake)
    (fun t c h => (State.on_congr t (State.vrefbWake_get c (by decide) (by decide))).trans h) (fun _ _ _ _ => State.vrefbWake_aoutAt_ne)
    hv hc
  rw [hs, State.vrefbWake]
  by_cases hw : (t.aoutAt c).phase = .waitVref
  · rw [decide_eq_true hw, State.when_true]
    exact ⟨State.aoutGo_not_waitVref hc ht, fun h => absurd (hain ▸ hw) h⟩
  · rw [decide_eq_false hw, State.when_false]
    exact ⟨hw, fun _ => hain⟩

/-- VREFB is shown ready, and its fault ends. -/
theorem State.vrefbReady_jck (h1 : s.vrefbStarted = true) (h2 : s.on F.JCK_VREFB_STATUS_READY = false) :
    s.vrefbReady.get F.JCK_VREFB_STATUS_READY = 1 ∧ s.vrefbReady.get (F.PG_FAULT 0x0D) =
      if s.get (F.PG_FAULT 0x0D) = 4 then 0 else s.get (F.PG_FAULT 0x0D) := by
  rw [State.vrefbReady_late h1 h2, State.vrefbWakes_get (by decide) (by decide), State.vrefbWakes_get (by decide) (by decide)]
  refine ⟨?_, ?_⟩
  · rw [State.get_unfault_off _ (by decide), State.get_set_in (by decide)]
    rfl
  · rw [State.get_unfault_in, State.get_set_off (by decide)]

theorem State.vrefbReady_aoutAt (h1 : s.vrefbStarted = true) (h2 : s.on F.JCK_VREFB_STATUS_READY = false) (hc : c < 8) :
    (s.vrefbReady.aoutAt c).phase ≠ .waitVref ∧ ((s.aoutAt c).phase ≠ .waitVref → s.vrefbReady.aoutAt c = s.aoutAt c) := by
  have hready : ((s.set F.JCK_VREFB_STATUS_READY 1).unfault 0x0D 4).on F.JCK_VREFB_STATUS_READY = true :=
    (State.on_congr _ (State.get_unfault_off 4 (by decide))).trans (State.on_set_one (by decide))
  have haout : ((s.set F.JCK_VREFB_STATUS_READY 1).unfault 0x0D 4).aoutAt c = s.aoutAt c := State.unfault_aoutAt _ _ _ _
  rw [State.vrefbReady_late h1 h2, ← haout]
  exact State.vrefbWakes_aoutAt hc hready

/-- The fields that VREFB's readiness writes. -/
def vrefbFlds : List Fld :=
  F.JCK_VREFB_STATUS_READY :: F.JCK_CP_STATUS_READY :: F.PG_FAULT 0x0D :: (List.range 8).flatMap aoutGoFlds

theorem State.vrefbReady_touches : Touches [.aout, .cpStop] [] vrefbFlds s s.vrefbReady := by
  have hshown : Touches [.aout, .cpStop] [] vrefbFlds s ((s.set F.JCK_VREFB_STATUS_READY 1).unfault 0x0D 4) :=
    ((Touches.refl _ _ _ s).set _ (.inr (by simp [vrefbFlds]))).unfault 4 (.inr (by simp [vrefbFlds]))
  refine (Touches.refl _ _ _ s).when _ (fun _ => hshown.forAll 8 (fun t c hc ht =>
    ht.trans ((t.vrefbWake_touches c).mono (by simp) (List.Subset.refl _) ?_)))
  exact List.cons_subset.2 ⟨by simp [vrefbFlds], fun f hf => List.mem_cons_of_mem _ (List.mem_cons_of_mem _ (List.mem_cons_of_mem _
    (List.mem_flatMap.2 ⟨c, List.mem_range.2 hc, hf⟩)))⟩

/-! ## The stop time (R117) -/

/-- The stop time ends the pump's supply where nothing keeps it. -/
theorem State.cpStopTimeout_running (h : s.cpStop = true) : s.cpStopTimeout =
    ({ s with cpStop := false } : State).when (!s.on F.JCK_CP_CTRL_FORCE_ON && s.hpAllOff) (·.set F.JCK_CP_STATUS_READY 0) := by
  rw [State.cpStopTimeout, h]
  rfl

/-! ## O14 -/

/-- Settles O14, each command by the state it leaves. -/
theorem chargePumpAndVrefb : Obligations.ChargePumpAndVrefb := by
  unfold Obligations.ChargePumpAndVrefb
  refine ⟨?forceOn, ?retry, ?stopTimeout, ?overcurrent, ?undervoltage, ?vrefbReady, ?vrefbLate⟩
  case forceOn =>
    intro ini w s h hretry
    have hforce : (s.set F.JCK_CP_CTRL_FORCE_ON (bits w 0 1)).get F.JCK_CP_CTRL_FORCE_ON = bits w 0 1 := by
      rw [State.get_set_mod (n := 2) (by decide)]
      exact Nat.mod_eq_of_lt (bits_lt w 0 1)
    refine ⟨s.writeOne none ini A.JCK_CP_CTRL w, rfl, ?_⟩
    rw [State.writeOne_jckCpCtrl h, show hit w 1 = false by rw [hit, hretry]; rfl, State.when_false]
    refine ⟨State.cpForceWritten_force.trans hforce, fun hw hv hf => ?_, fun hw hr hoff => ?_, ?_⟩
    · rw [State.cpForceWritten_on (State.on_of_get_one _ (hforce.trans hw)) (State.aoutOn_of_mayWrite (s := s) h)]
      exact State.pumpUp_ready_of_good hv hf
    · have hclear : (s.set F.JCK_CP_CTRL_FORCE_ON (bits w 0 1)).on F.JCK_CP_CTRL_FORCE_ON = false :=
        decide_eq_false (not_not.2 (hforce.trans hw))
      rw [State.cpForceWritten_off hclear]
      exact State.pumpIdle_unkept hclear ((State.on_set_off (by decide) _).trans hr) (State.hpAllOff_of hoff)
    · exact State.cpForced_touches _
  case retry =>
    intro ini w s h hfault
    have hforced := s.cpForced_touches (bits (w ||| 0x2#32) 0 1)
    have hpending : (s.set F.JCK_CP_CTRL_FORCE_ON (bits (w ||| 0x2#32) 0 1)).cpForceWritten.cpFault = true :=
      (hforced.1 .cpFault (by decide)).trans hfault
    have hpins : (s.set F.JCK_CP_CTRL_FORCE_ON (bits (w ||| 0x2#32) 0 1)).cpForceWritten.pins = s.pins := hforced.1 .pins (by decide)
    refine ⟨s.writeOne none ini A.JCK_CP_CTRL (w ||| 0x2#32), rfl, ?_⟩
    rw [State.writeOne_jckCpCtrl h, hit_or_const w _ (by decide), State.when_true]
    refine ⟨State.cpRetry_cpFault hpending, fun hv => ?_, fun c hc hv => ?_, ?_⟩
    · exact (State.cpRetry_good hpending (hpins ▸ hv)).1
    · exact (State.cpRetry_good hpending (hpins ▸ hv)).2 c hc
    · exact (hforced.mono (by simp) (List.Subset.refl _) (by simp)).trans State.cpRetry_touches
  case stopTimeout =>
    intro s h
    refine ⟨s.cpStopTimeout, rfl, ?_⟩
    rw [State.cpStopTimeout_running h]
    have ht : Touches [.cpStop] [] [F.JCK_CP_STATUS_READY] s ({ s with cpStop := false } : State) :=
      (Touches.refl _ _ _ s).put_cpStop false (by simp)
    refine ⟨?_, fun hf hoff => ?_, fun hf => ?_, ht.when _ (fun _ => ht.set _ (.inr (by simp)))⟩
    · cases !s.on F.JCK_CP_CTRL_FORCE_ON && s.hpAllOff <;> rfl
    · rw [hf, State.hpAllOff_of hoff]
      exact State.on_set_zero (s := { s with cpStop := false }) (by decide)
    · rw [hf]
      rfl
  case overcurrent =>
    intro s hc hr
    have hfail : s.cpOvercurrent = (s.set F.JCK_CP_STATUS_OC 1).cpFail 1 := State.event_of s _ hc hr
    refine ⟨s.cpOvercurrent, rfl, ?_⟩
    rw [hfail]
    exact State.cpFail_shows rfl (by decide) rfl (by decide)
  case undervoltage =>
    intro s hc hr
    have hfail : s.cpUndervoltage = (s.set F.JCK_CP_STATUS_UV 1).cpFail 2 := State.event_of s _ hc hr
    obtain ⟨hready, huv, hcode, hpending, hdown, -, htouch⟩ :=
      State.cpFail_shows (s := s) (f := F.JCK_CP_STATUS_UV) (code := 2) rfl (by decide) rfl (by decide)
    refine ⟨s.cpUndervoltage, rfl, ?_⟩
    rw [hfail]
    exact ⟨hready, huv, hcode, hpending, hdown, htouch⟩
  case vrefbReady =>
    intro s h1 h2
    obtain ⟨hready, hcode⟩ := State.vrefbReady_jck h1 h2
    exact ⟨s.vrefbReady, rfl, hready, hcode, fun c hc => (State.vrefbReady_aoutAt h1 h2 hc).1,
      fun c hc => (State.vrefbReady_aoutAt h1 h2 hc).2, State.vrefbReady_touches⟩
  case vrefbLate =>
    intro s h1 h2
    have hlate : s.vrefbLate = s.fault 0x0D 4 := by
      rw [State.vrefbLate, h1, h2]
      rfl
    refine ⟨s.vrefbLate, rfl, ?_⟩
    rw [hlate]
    exact ⟨s.get_fault_self _ _ (by decide), s.fault_aout _ _, (Touches.refl _ _ _ s).fault 4 (.inr (by simp))⟩

end Sys2Proof.Machine
end

section
/-! PROOFS. O19 does not hold: a recovery under the CRIT hold starts nothing before the hold ends (R157, R160). -/

namespace Sys2Proof.Machine

theorem yields_spkUvRecover {n : Fin 4} {s : State} : Yields (.spkUvRecover n) s (s.spkRecover n 5) := rfl

/-- Channel 0 waits in a start when PVDD collapses; the CRIT hold begins, and the undervoltage stops the start. -/
def saggedStart : State := (((State.reset.set (F.PG_ENABLE 0x1D) 1).set (F.SPK_CTRL_EN 0) 1).spkBegin 0).pvddCrit.spkUv 0

theorem saggedStart_mayRecover : saggedStart.clocked (.spk 0) = true ∧ (saggedStart.spkAt 0).active = [5] ∧
    (saggedStart.spkAt 0).phase = .fault ∧ saggedStart.spkAble 0 = true := by decide +kernel

/-- The recovery leaves the channel OFF: the collapse still holds it off its start. -/
theorem saggedStart_recovered : ((saggedStart.spkRecover 0 5).spkAt 0).phase = .off := by decide +kernel

/-- Refutes O19: SPK_UV_RECOVER does not restart every channel that may run. In `saggedStart` the undervoltage's cause ends while the
CRIT hold is still on, and the start waits for the collapse restart. -/
theorem not_speakerFaults : ¬ Obligations.SpeakerFaults := by
  unfold Obligations.SpeakerFaults
  rintro ⟨-, -, -, -, -, -, -, -, uvRecover, -⟩
  obtain ⟨hclk, hcause, hfault, hable⟩ := saggedStart_mayRecover
  obtain ⟨u, hy, -, hphase, -⟩ := uvRecover 0 saggedStart hclk hcause
  have hwaits : (u.spkAt 0).phase = .waiting := (hphase hfault).trans (if_pos hable)
  have hspk : u.spk = (saggedStart.spkRecover 0 5).spk := by
    rw [← settle_spk u, hy.settle_eq yields_spkUvRecover, settle_spk]
    rfl
  rw [State.spkAt, hspk] at hwaits
  exact absurd (hwaits.symm.trans saggedStart_recovered) (by decide)

end Sys2Proof.Machine
end

section
/-! PROOFS. Speaker channels (R139, R154 to R161): a sequence step's frame, the record and the status it leaves. -/

namespace Sys2Proof.Machine

variable {s t : State} {n : Fin 4} {p : SpkPhase} {us : Nat}

/-- A further step whose fields are listed, or lie in a word listed whole. -/
theorem Touches.step {ps ps' : List Part} {gs : List Nat} {fs fs' : List Fld} {u : State} (h : Touches ps gs fs s t)
    (h' : Touches ps' [] fs' t u) (hp : ps' ⊆ ps) (hf : ∀ f ∈ fs', f ∈ fs ∨ whole f.addr ∈ fs) : Touches ps gs fs s u :=
  h.trans ⟨fun q hq => h'.1 q (fun hm => hq (hp hm)), fun a i hi _ hn => h'.2 a i hi List.not_mem_nil (by
    rintro ⟨f, hm, ha, hlo, hup⟩
    rcases hf f hm with hm | hm
    · exact hn ⟨f, hm, ha, hlo, hup⟩
    · exact hn ⟨_, hm, ha, Nat.zero_le i, by simpa [whole] using hi⟩)⟩

theorem Yields.of_eq {c : Instr} {u : State} (h : Yields c s t) (e : t = u) : Yields c s u := e ▸ h

/-! ## Frames of the sequences -/

theorem State.spkSync_touches : Touches [.spk] [] (spkStatusFlds n) s (s.spkSync n us) :=
  (((Touches.refl _ _ _ s).modSpk n _ (by simp)).set _ (.inr (by simp [spkStatusFlds]))).set _ (.inr (by simp [spkStatusFlds]))

theorem State.spkHiz_touches : Touches [.spk] [] (spkStatusFlds n) s (s.spkHiz n) :=
  ((Touches.refl _ _ _ s).modSpk n _ (by simp)).set _ (.inr (by simp [spkStatusFlds]))

/-- A phase shows in the status; FAULTS counts one that enters FAULT. -/
theorem State.spkPhase_touches_counted : Touches [.spk] [] (F.SPK_FAULT_CNT_FAULTS n :: spkStatusFlds n) s (s.spkPhase n p us) :=
  (((Touches.refl _ _ _ s).when _ (fun _ => (Touches.refl _ _ _ s).inc (.inr (by simp)))).modSpk n _ (by simp)).step
    State.spkSync_touches (by simp) (fun f hf => .inl (List.mem_cons_of_mem _ hf))

/-- Outside FAULT a change of phase is the record's, then the status. -/
theorem State.spkPhase_uncounted (h : p ≠ .fault) :
    s.spkPhase n p us = (s.modSpk n (fun a => { a with phase := p })).spkSync n us := by
  rw [State.spkPhase, decide_eq_false h]
  rfl

theorem State.spkPhase_touches (h : p ≠ .fault) : Touches [.spk] [] (spkStatusFlds n) s (s.spkPhase n p us) := by
  rw [State.spkPhase_uncounted h]
  exact ((Touches.refl _ _ _ s).modSpk n _ (by simp)).trans State.spkSync_touches

theorem State.spkDown_touches (h : p ≠ .fault) : Touches [.spk] [] (spkStatusFlds n) s (s.spkDown n p us) :=
  (State.spkPhase_touches h).spkPress (by simp) us

theorem State.spkBegin_touches : Touches [.spk] [] (spkStatusFlds n) s (s.spkBegin n) :=
  (((Touches.refl _ _ _ s).spkApply (by simp)).modSpk n _ (by simp)).trans (State.spkPhase_touches (by decide))

theorem State.spkTryStart_touches : Touches [.spk] [] (spkStatusFlds n) s (s.spkTryStart n) :=
  (Touches.refl _ _ _ s).when _ (fun _ => State.spkBegin_touches)

theorem State.spkStop_touches : Touches [.spk] [] (spkStatusFlds n) s (s.spkStop n) := by
  have hdown : Touches [.spk] [] (spkStatusFlds n) s (s.spkDown n .stopping 1000) := State.spkDown_touches (by decide)
  have hoff : Touches [.spk] [] (spkStatusFlds n) s ((s.spkHiz n).spkPhase n .off 1000) :=
    State.spkHiz_touches.trans (State.spkPhase_touches (by decide))
  have hnone : Touches [.spk] [] (spkStatusFlds n) s s := Touches.refl _ _ _ s
  unfold State.spkStop
  cases (s.spkAt n).phase
  case off | quiesced | uvRamp => exact hnone
  case waiting | fault => exact hoff
  all_goals exact hdown

theorem State.spkDrive_touches : Touches [.spk] [] (spkStatusFlds n) s (s.spkDrive n) := by
  unfold State.spkDrive
  split
  · exact State.spkTryStart_touches
  · exact State.spkStop_touches

/-! ## The record -/

/-- Status and gain write pop_gain's ramp alone. -/
theorem State.spkSync_spkAt : ∃ pop popUs, (s.spkSync n us).spkAt n = { s.spkAt n with pop := pop, popUs := popUs } := by
  unfold State.spkSync
  simp only [State.set_spkAt, s.spkAt_modSpk_self n.isLt]
  split
  · exact ⟨_, _, rfl⟩
  · exact ⟨_, _, rfl⟩

/-- A change of phase writes the phase and pop_gain's ramp alone. -/
theorem State.spkPhase_spkAt : ∃ pop popUs,
    (s.spkPhase n p us).spkAt n = { s.spkAt n with phase := p, pop := pop, popUs := popUs } := by
  unfold State.spkPhase
  extract_lets s1
  obtain ⟨pop, popUs, h⟩ := (s1.modSpk n (fun a => { a with phase := p })).spkSync_spkAt (n := n) (us := us)
  refine ⟨pop, popUs, ?_⟩
  rw [h, State.spkAt_modSpk_self _ n.isLt, State.when_inc_spkAt]

/-- The gain moves to where its causes ask. -/
theorem State.spkSync_pop_up : ((s.spkSync n us).spkAt n).pop.up = s.spkOpen n := by
  unfold State.spkSync
  simp only [State.set_spkAt, s.spkAt_modSpk_self n.isLt]
  split
  · next h => exact h
  · rfl

/-- A start puts the channel in its wait, with the rate of its registers. -/
theorem State.spkBegin_spkAt : ((s.spkBegin n).spkAt n).phase = .waiting ∧
    ((s.spkBegin n).spkAt n).rate = s.get (F.SPK_FMT_RATE n) := by
  refine ⟨State.spkPhase_phase _ _ n.isLt, ?_⟩
  unfold State.spkBegin
  extract_lets s1
  obtain ⟨pop, popUs, h⟩ := s1.spkPhase_spkAt (n := n) (p := .waiting) (us := 5000)
  rw [h]
  simp only [s1, State.spkApply, State.spkAt_modSpk_self _ n.isLt]

/-! ## The status (R161) -/

/-- SPKn_STATUS.STATE of a phase, whether the PLLs run, and MUTE. -/
def spkShown (p : SpkPhase) (clocks mute : Bool) : Nat :=
  match p with
  | .off => 0
  | .waiting => if clocks then 2 else 1
  | .unmuting => 2
  | .running | .stopping | .faultStop | .uvRamp => if mute then 4 else 3
  | .recMute | .recFill | .recRamp => 5
  | .quiesced => 6
  | .fault => 7

theorem State.spkState_eq : s.spkState n = spkShown (s.spkAt n).phase (s.spkClocks n) (s.on (F.SPK_CTRL_MUTE n)) := by
  unfold State.spkState
  cases (s.spkAt n).phase <;> rfl

theorem spkShown_lt (clocks mute : Bool) : spkShown p clocks mute < 8 := by
  cases p <;> cases clocks <;> cases mute <;> decide

/-- What asks the PLLs alone reads the same beside the clock page. -/
theorem State.spkClocks_congr (hreg : ∀ a, a / 0x400 = 3 → t.reg a = s.reg a) (hrate : (t.spkAt n).rate = (s.spkAt n).rate) :
    t.spkClocks n = s.spkClocks n := by
  rw [State.spkClocks, State.famUp_congr hreg, State.famUp_congr hreg, hrate, State.spkClocks]

theorem State.spkSync_state : (s.spkSync n us).get (F.SPK_STATUS_STATE n) =
    spkShown (s.spkAt n).phase (s.spkClocks n) (s.on (F.SPK_CTRL_MUTE n)) := by
  unfold State.spkSync
  extract_lets up s1
  have hrec : (s1.spkAt n).phase = (s.spkAt n).phase ∧ (s1.spkAt n).rate = (s.spkAt n).rate := by
    simp only [s1, s.spkAt_modSpk_self n.isLt]
    split <;> exact ⟨rfl, rfl⟩
  obtain ⟨hphase, hrate⟩ := hrec
  have hclocks : s1.spkClocks n = s.spkClocks n := State.spkClocks_congr (fun _ _ => rfl) hrate
  rw [State.get_set_off (Fld.off_of_bits rfl rfl), State.get_set_in (Nat.le_of_ble_eq_true rfl), State.spkState_eq, hphase, hclocks]
  exact Nat.mod_eq_of_lt (spkShown_lt _ _)

/-- A counter that may step leaves what shares no bit with it. -/
theorem State.get_when_inc {f g : Fld} (b : Bool) (h : f.off g) : (s.when b (·.inc f)).get g = s.get g := by
  cases b
  · rfl
  · exact State.get_inc_off h

theorem spkFaults_off : (F.SPK_FAULT_CNT_FAULTS n).off (F.SPK_CTRL_MUTE n) ∧ (F.SPK_FAULT_CNT_FAULTS n).off (F.SPK_STATUS_HIZ n) := by
  revert n
  decide

theorem State.spkPhase_state : (s.spkPhase n p us).get (F.SPK_STATUS_STATE n) =
    spkShown p (s.spkClocks n) (s.on (F.SPK_CTRL_MUTE n)) := by
  unfold State.spkPhase
  extract_lets s1
  have hcount : Touches [] [] [F.SPK_FAULT_CNT_FAULTS n] s s1 :=
    (Touches.refl _ _ _ s).when _ (fun _ => (Touches.refl _ _ _ s).inc (.inr (by simp)))
  have hclocks : (s1.modSpk n (fun a => { a with phase := p })).spkClocks n = s.spkClocks n :=
    State.spkClocks_congr (fun a ha => hcount.reg_eq (by simp) (by
      simp only [List.mem_singleton, forall_eq, F.SPK_FAULT_CNT_FAULTS, A.SPK_FAULT_CNT]; omega)) (by
      rw [State.spkAt_modSpk_self _ n.isLt, State.when_inc_spkAt])
  have hmute : s1.on (F.SPK_CTRL_MUTE n) = s.on (F.SPK_CTRL_MUTE n) := State.on_congr s (State.get_when_inc _ spkFaults_off.1)
  rw [State.spkSync_state, hclocks, State.spkAt_modSpk_self _ n.isLt, State.modSpk_on, hmute]

theorem State.spkDown_state : (s.spkDown n p us).get (F.SPK_STATUS_STATE n) =
    spkShown p (s.spkClocks n) (s.on (F.SPK_CTRL_MUTE n)) := State.spkPhase_state

/-- Status and gain leave what shares no bit with STATE and DOMAIN. -/
theorem State.spkSync_get {f : Fld} (hs : (F.SPK_STATUS_STATE n).off f) (hd : (F.SPK_STATUS_DOMAIN n).off f) :
    (s.spkSync n us).get f = s.get f := by
  unfold State.spkSync
  extract_lets up s1
  rw [State.get_set_off hd, State.get_set_off hs, State.modSpk_get]

/-- A change of phase leaves HIZ. -/
theorem State.spkPhase_hiz : (s.spkPhase n p us).get (F.SPK_STATUS_HIZ n) = s.get (F.SPK_STATUS_HIZ n) := by
  unfold State.spkPhase
  extract_lets s1
  rw [State.spkSync_get (Fld.off_of_bits rfl rfl) (Fld.off_of_bits rfl rfl), State.modSpk_get]
  exact State.get_when_inc _ spkFaults_off.2

theorem State.spkHiz_spkAt : (s.spkHiz n).spkAt n = { s.spkAt n with pop := .at0, out := 0, drive := 0, win := [] } := by
  rw [State.spkHiz, State.set_spkAt, s.spkAt_modSpk_self n.isLt]

end Sys2Proof.Machine
end

section
/-! PROOFS. The speaker guard (R147 to R152): what its steps touch, the record they leave, and the zone temperature they read. -/

namespace Sys2Proof.Machine

variable {s t : State} {n : Fin 4}

/-! ## Frames -/

theorem State.spkTemps_touches : Touches [] [] [whole (A.SPK_GUARD_TEMP n)] s (s.spkTemps n) :=
  ((Touches.refl _ _ _ s).set_whole _ (by simp [F.SPK_GUARD_TEMP_T_COIL])).set_whole _ (by simp [F.SPK_GUARD_TEMP_T_MAG])

/-- The fields a seeding shows in (R150). -/
def spkSeedFlds (n : Nat) : List Fld := [F.SPK_GUARD_STATUS_SEEDED n, whole (A.SPK_GUARD_TEMP n)]

theorem State.spkSeed_touches : Touches [.spk] [] (spkSeedFlds n) s (s.spkSeed n) :=
  (((Touches.refl _ _ _ s).modSpk n _ (by simp)).set _ (.inr (by simp [spkSeedFlds]))).step State.spkTemps_touches (by simp)
    (by simp [spkSeedFlds])

theorem State.spkCfgSync_touches : Touches [] [] [F.SPK_GUARD_STATUS_CFG_ERR n] s (s.spkCfgSync n) :=
  (Touches.refl _ _ _ s).setB _ (.inr (by simp))

/-- The protection status of R152 as its fields show it. -/
def State.spkProtShown (s : State) (n gr : Nat) (ceil seed x t : Bool) (eq : Nat) : State :=
  let s := s.when (decide (s.get (F.SPK_PROT_GR n) = 0) && decide (gr ≠ 0)) (·.irq (pgSPK n) 4)
  let s := ((s.set (F.SPK_PROT_GR n) gr).setB (F.SPK_PROT_CEIL_ACT n) ceil).setB (F.SPK_PROT_SEED_CAP n) seed
  ((s.setB (F.SPK_PROT_X_ACT n) x).setB (F.SPK_PROT_T_ACT n) t).set (F.SPK_PROT_GUARD_EQ n) eq

theorem State.spkProt_eq : ∃ gr ceil seed x t eq, s.spkProt n = s.spkProtShown n gr ceil seed x t eq := ⟨_, _, _, _, _, _, rfl⟩

theorem State.spkProtShown_touches {gr eq : Nat} {ceil seed x y : Bool} :
    Touches [] [] (spkProtFlds n) s (s.spkProtShown n gr ceil seed x y eq) := by
  have hirq : F.PG_IRQ (pgSPK n) 4 ∈ spkProtFlds n := by simp [spkProtFlds]
  have h1 : Touches [] [] (spkProtFlds n) s
      (s.when (decide (s.get (F.SPK_PROT_GR n) = 0) && decide (gr ≠ 0)) (·.irq (pgSPK n) 4)) :=
    (Touches.refl _ _ _ s).when _ (fun _ => (Touches.refl _ _ _ s).irq (.inr hirq))
  have h2 := ((h1.set gr (f := F.SPK_PROT_GR n) (.inr (by simp [spkProtFlds]))).setB ceil (f := F.SPK_PROT_CEIL_ACT n)
    (.inr (by simp [spkProtFlds]))).setB seed (f := F.SPK_PROT_SEED_CAP n) (.inr (by simp [spkProtFlds]))
  exact ((h2.setB x (.inr (by simp [spkProtFlds]))).setB y (.inr (by simp [spkProtFlds]))).set eq (.inr (by simp [spkProtFlds]))

theorem State.spkProt_touches : Touches [] [] (spkProtFlds n) s (s.spkProt n) := by
  obtain ⟨gr, ceil, seed, x, y, eq, h⟩ := s.spkProt_eq (n := n)
  rw [h]
  exact State.spkProtShown_touches

/-- The protection status leaves every record. -/
theorem State.spkProt_spk : (s.spkProt n).spk = s.spk := State.spkProt_touches.1 .spk (by simp)

theorem State.spkProt_spkAt (m : Nat) : (s.spkProt n).spkAt m = s.spkAt m := by
  rw [State.spkAt, State.spkProt_spk, ← State.spkAt]

/-! ## The record -/

theorem State.spkTemps_spkAt (m : Nat) : (s.spkTemps n).spkAt m = s.spkAt m := by
  rw [State.spkTemps, State.setS_spkAt, State.setS_spkAt]

/-- The temperature a seeding gives both nodes (R150), in 1/65,536 °C. -/
def State.spkSeedTemp (s : State) (n : Nat) : Int := s.spkTa n + (s.get (F.SPK_GUARD_TL_SEED_MARGIN n) : Int) * 65536

theorem State.spkSeed_spkAt : (s.spkSeed n).spkAt n = { s.spkAt n with
    tc := s.spkSeedTemp n, tm := s.spkSeedTemp n, x1 := 0, x2 := 0, seededOnce := true, invalid := 0 } := by
  unfold State.spkSeed
  rw [State.spkTemps_spkAt, State.set_spkAt, s.spkAt_modSpk_self n.isLt]
  rfl

/-! ## The zone temperature (R148) -/

/-- T_a is read from ZONE and the zone registers of Bellows. -/
theorem State.spkTa_congr (hz : t.get (F.SPK_GUARD_CTRL_ZONE n) = s.get (F.SPK_GUARD_CTRL_ZONE n))
    (hreg : ∀ a, a / 0x400 = 2 → t.reg a = s.reg a) : t.spkTa n = s.spkTa n := by
  have hlt : s.get (F.SPK_GUARD_CTRL_ZONE n) < 8 := s.get_lt _
  have hpage : (F.BLW_ZONE_STATUS_TEMP (s.get (F.SPK_GUARD_CTRL_ZONE n))).addr / 0x400 = 2 := by
    simp only [F.BLW_ZONE_STATUS_TEMP, A.BLW_ZONE_STATUS]
    omega
  rw [State.spkTa, hz, State.get, hreg _ hpage, ← State.get, State.spkTa]

/-- A step beside ZONE and the page of Bellows leaves T_a. -/
theorem Touches.spkTa {ps : List Part} {fs : List Fld} (h : Touches ps [] fs s t)
    (hf : ∀ f ∈ fs, f.addr ≠ A.SPK_GUARD_CTRL n ∧ f.addr / 0x400 ≠ 2) : t.spkTa n = s.spkTa n :=
  State.spkTa_congr (h.get_keeps fun f hm => .inl (hf f hm).1)
    fun _ ha => h.reg_eq List.not_mem_nil fun f hm he => (hf f hm).2 (he ▸ ha)

end Sys2Proof.Machine
end

section
/-! PROOFS. O18: a speaker channel starts, runs and stops (R154, R155, R159). -/

namespace Sys2Proof.Machine

variable {s : State} {n : Fin 4}

/-! ## SPK_START (R154 steps 2 to 6) -/

/-- The stage leaves high impedance, and an enabled guard that never was is seeded. -/
def State.spkPowered (s : State) (n : Nat) : State :=
  (s.set (F.SPK_STATUS_HIZ n) 0).when (s.on (F.SPK_GUARD_CTRL_EN n) && !(s.spkAt n).seededOnce) (·.spkSeed n)

theorem State.spkPowered_touches : Touches [.spk] [] (F.SPK_STATUS_HIZ n :: spkSeedFlds n) s (s.spkPowered n) := by
  have hset : Touches [.spk] [] (F.SPK_STATUS_HIZ n :: spkSeedFlds n) s (s.set (F.SPK_STATUS_HIZ n) 0) :=
    (Touches.refl _ _ _ s).set _ (.inr (by simp))
  exact hset.when _ (fun _ => hset.step State.spkSeed_touches (by simp) (fun f hf => .inl (List.mem_cons_of_mem _ hf)))

/-- A seeding leaves HIZ. -/
theorem State.spkSeed_hiz : (s.spkSeed n).get (F.SPK_STATUS_HIZ n) = s.get (F.SPK_STATUS_HIZ n) :=
  State.spkSeed_touches.get_keeps (by revert n; decide)

theorem State.spkPowered_mute : (s.spkPowered n).on (F.SPK_CTRL_MUTE n) = s.on (F.SPK_CTRL_MUTE n) :=
  State.spkPowered_touches.on_keeps (by revert n; decide)

theorem State.spkPowered_hiz : (s.spkPowered n).get (F.SPK_STATUS_HIZ n) = 0 := by
  have hset : (s.set (F.SPK_STATUS_HIZ n) 0).get (F.SPK_STATUS_HIZ n) = 0 := State.get_set_in (Nat.le_of_ble_eq_true rfl) 0
  unfold State.spkPowered
  cases s.on (F.SPK_GUARD_CTRL_EN n) && !(s.spkAt n).seededOnce
  · exact hset
  · rw [State.when_true, State.spkSeed_hiz, hset]

theorem State.spkPowered_seeded (h : s.on (F.SPK_GUARD_CTRL_EN n) = true) : ((s.spkPowered n).spkAt n).seededOnce = true := by
  unfold State.spkPowered
  rw [h]
  cases hs : (s.spkAt n).seededOnce
  · rw [Bool.not_false, Bool.and_self, State.when_true, State.spkSeed_spkAt]
  · rw [Bool.not_true, Bool.and_false, State.when_false, State.set_spkAt, hs]

theorem State.spkReady_touches : Touches [] [] [F.PG_FAULT (pgSPK n), F.PG_IRQ (pgSPK n) 2] s (s.spkReady n) :=
  ((Touches.refl _ _ _ s).set _ (.inr (by simp))).irq (.inr (by simp))

/-- READY leaves every record. -/
theorem State.spkReady_spkAt (m : Nat) : (s.spkReady n).spkAt m = s.spkAt m := by
  rw [State.spkReady, State.irq_spkAt, State.set_spkAt]

theorem spkReadyFlds_apart : ∀ g ∈ [F.PG_FAULT (pgSPK n), F.PG_IRQ (pgSPK n) 2], g.addr ≠ A.SPK_STATUS n := by
  revert n
  decide

/-- READY leaves the channel's status register. -/
theorem State.spkReady_get {f : Fld} (h : f.addr = A.SPK_STATUS n) : (s.spkReady n).get f = s.get f :=
  State.spkReady_touches.get_keeps fun g hg => .inl (h ▸ spkReadyFlds_apart g hg)

theorem State.spkReady_irq : (s.spkReady n).on (F.PG_IRQ (pgSPK n) 2) = true := State.on_irq_in (by decide)

/-- READY clears FAULT but for a sense fault that still holds (R162). -/
theorem State.spkReady_fault : (s.spkReady n).get (F.PG_FAULT (pgSPK n)) = if (s.spkAt n).active.contains 7 then 7 else 0 := by
  rw [State.spkReady, State.get_irq_off (by revert n; decide), State.get_set_in (Nat.le_of_ble_eq_true rfl)]
  cases (s.spkAt n).active.contains 7 <;> rfl

/-- Step 2 of R154 goes on where PLLs, PVDD, VHOLD and the collapse allow it. -/
theorem State.spkSupplied_iff : s.spkSupplied n = true ↔ s.spkClocks n = true ∧ s.pins.pvdd = true ∧
    (s.get (F.SPK_MEAS_P_PVDD n) = 0 ∨ (440 ≤ s.get (F.SPK_MEAS_P_PVDD n) ∧ s.get (F.SPK_MEAS_P_PVDD n) ≤ 2450)) ∧
    s.on F.JCK_HOLD_STATUS_VHOLD_OK = true ∧ s.collapsed = false := by
  simp only [State.spkSupplied, Bool.and_eq_true, Bool.or_eq_true, decide_eq_true_eq, Bool.not_eq_true', and_assoc]

theorem State.spkGo_supplied (h : s.spkSupplied n = true) : s.spkGo n =
    if s.on (F.SPK_CTRL_MUTE n) then ((s.spkPowered n).spkPhase n .running 5000).spkReady n
    else (s.spkPowered n).spkPhase n .unmuting 5000 := by
  have hpowered : (s.set (F.SPK_STATUS_HIZ n) 0).when
      ((s.set (F.SPK_STATUS_HIZ n) 0).on (F.SPK_GUARD_CTRL_EN n) && !((s.set (F.SPK_STATUS_HIZ n) 0).spkAt n).seededOnce)
      (·.spkSeed n) = s.spkPowered n := by
    have haddr : (F.SPK_STATUS_HIZ n).addr ≠ (F.SPK_GUARD_CTRL_EN n).addr := by
      simp [F.SPK_STATUS_HIZ, F.SPK_GUARD_CTRL_EN, A.SPK_STATUS, A.SPK_GUARD_CTRL]
    rw [State.on_set_off (Fld.off_of_addr rfl haddr), State.set_spkAt, State.spkPowered]
  unfold State.spkGo
  rw [if_pos h]
  dsimp only
  rw [hpowered, State.spkPowered_mute]

/-- The fields that a start shows in. -/
def spkStartFlds (n : Nat) : List Fld :=
  F.PG_FAULT (pgSPK n) :: F.PG_IRQ (pgSPK n) 2 :: F.SPK_GUARD_STATUS_SEEDED n :: whole (A.SPK_GUARD_TEMP n) :: spkStatusFlds n

theorem State.spkGo_supplied_touches (h : s.spkSupplied n = true) : Touches [.spk] [] (spkStartFlds n) s (s.spkGo n) := by
  have hpowered : Touches [.spk] [] (spkStartFlds n) s (s.spkPowered n) :=
    (Touches.refl _ _ _ s).step State.spkPowered_touches (by simp) (by simp [spkStartFlds, spkSeedFlds, spkStatusFlds])
  have hphase (p : SpkPhase) (hp : p ≠ .fault) : Touches [.spk] [] (spkStartFlds n) s ((s.spkPowered n).spkPhase n p 5000) :=
    hpowered.step (State.spkPhase_touches hp) (by simp) (by simp [spkStartFlds, spkStatusFlds])
  rw [State.spkGo_supplied h]
  split
  · exact (hphase .running (by decide)).step State.spkReady_touches (by simp) (by simp [spkStartFlds])
  · exact hphase .unmuting (by decide)

/-- A start that goes on: the stage leaves high impedance; a muted channel runs at once with READY, else pop_gain ramps up. -/
theorem State.spkGo_leaves (h : s.spkSupplied n = true) : (s.spkGo n).on (F.SPK_STATUS_HIZ n) = false ∧
    (s.on (F.SPK_CTRL_MUTE n) = true → ((s.spkGo n).spkAt n).phase = .running ∧ (s.spkGo n).get (F.SPK_STATUS_STATE n) = 4 ∧
      (s.spkGo n).on (F.PG_IRQ (pgSPK n) 2) = true) ∧
    (s.on (F.SPK_CTRL_MUTE n) = false → ((s.spkGo n).spkAt n).phase = .unmuting ∧ (s.spkGo n).get (F.SPK_STATUS_STATE n) = 2) ∧
    (s.on (F.SPK_GUARD_CTRL_EN n) = true → ((s.spkGo n).spkAt n).seededOnce = true) := by
  have hhiz (p : SpkPhase) : ((s.spkPowered n).spkPhase n p 5000).get (F.SPK_STATUS_HIZ n) = 0 :=
    State.spkPhase_hiz.trans State.spkPowered_hiz
  have hphase (p : SpkPhase) : (((s.spkPowered n).spkPhase n p 5000).spkAt n).phase = p := State.spkPhase_phase _ _ n.isLt
  have hseeded (p : SpkPhase) : (((s.spkPowered n).spkPhase n p 5000).spkAt n).seededOnce = ((s.spkPowered n).spkAt n).seededOnce := by
    obtain ⟨pop, popUs, hrec⟩ := (s.spkPowered n).spkPhase_spkAt (n := n) (p := p) (us := 5000)
    rw [hrec]
  rw [State.spkGo_supplied h]
  cases hmute : s.on (F.SPK_CTRL_MUTE n)
  case false =>
    rw [if_neg Bool.false_ne_true]
    refine ⟨by rw [State.on, hhiz]; rfl, nofun, fun _ => ⟨hphase _, State.spkPhase_state⟩, fun he => ?_⟩
    rw [hseeded, State.spkPowered_seeded he]
  case true =>
    rw [if_pos rfl]
    have hkeep : (((s.spkPowered n).spkPhase n .running 5000).spkReady n).get (F.SPK_STATUS_HIZ n) = 0 :=
      (State.spkReady_get rfl).trans (hhiz _)
    have hstate : (((s.spkPowered n).spkPhase n .running 5000).spkReady n).get (F.SPK_STATUS_STATE n) = 4 := by
      rw [State.spkReady_get rfl, State.spkPhase_state, State.spkPowered_mute, hmute]
      rfl
    refine ⟨by rw [State.on, hkeep]; rfl,
      fun _ => ⟨(congrArg Spk.phase (State.spkReady_spkAt _)).trans (hphase _), hstate, State.spkReady_irq⟩, nofun, fun he => ?_⟩
    rw [State.spkReady_spkAt, hseeded, State.spkPowered_seeded he]

theorem State.spkGo_unsupplied (h : s.spkSupplied n = false) : s.spkGo n = s.spkSync n 5000 := if_neg (by rw [h]; nofun)

theorem State.spkStarted_waiting (hc : s.clocked (.spk n) = true) (hp : (s.spkAt n).phase = .waiting) : s.spkStarted n = s.spkGo n :=
  State.event_of _ _ hc (decide_eq_true hp)

/-- A start that misses one of its conditions goes on waiting. -/
theorem State.spkGo_unsupplied_leaves (h : s.spkSupplied n = false) (hp : (s.spkAt n).phase = .waiting) :
    ((s.spkGo n).spkAt n).phase = .waiting ∧ ((s.spkGo n).get (F.SPK_STATUS_STATE n) = if s.spkClocks n then 2 else 1) ∧
    (s.spkGo n).get (F.SPK_STATUS_HIZ n) = s.get (F.SPK_STATUS_HIZ n) ∧ Touches [.spk] [] (spkStatusFlds n) s (s.spkGo n) := by
  rw [State.spkGo_unsupplied h]
  refine ⟨(State.spkSync_phase _ n.isLt).trans hp, ?_, State.spkSync_get (Fld.off_of_bits rfl rfl) (Fld.off_of_bits rfl rfl),
    State.spkSync_touches⟩
  rw [State.spkSync_state, hp]
  rfl

/-! ## SPK_RUNNING (R154 step 7) -/

/-- The end of the start ramp: pop_gain stands at one where nothing mutes it. -/
def State.spkRamped (s : State) (n : Nat) : State := s.modSpk n (fun a => { a with pop := if s.spkOpen n then .at1 else a.pop })

theorem State.spkRunning_unmuting (hc : s.clocked (.spk n) = true) (hp : (s.spkAt n).phase = .unmuting) :
    s.spkRunning n = ((s.spkRamped n).spkPhase n .running 5000).spkReady n :=
  State.event_of _ _ hc (decide_eq_true hp)

/-- The record and the registers at the end of the start ramp. -/
theorem State.spkRamped_running : ∃ r : Spk, r.active = (s.spkAt n).active ∧ r.phase = .running ∧
    ((s.spkRamped n).spkPhase n .running 5000).spkAt n = r := by
  obtain ⟨pop, popUs, hrec⟩ := (s.spkRamped n).spkPhase_spkAt (n := n) (p := .running) (us := 5000)
  refine ⟨_, ?_, ?_, hrec⟩
  · rw [State.spkRamped, State.spkAt_modSpk_self _ n.isLt]
  · rfl

theorem State.spkRamped_state : ((s.spkRamped n).spkPhase n .running 5000).get (F.SPK_STATUS_STATE n) =
    if s.on (F.SPK_CTRL_MUTE n) then 4 else 3 := State.spkPhase_state

theorem State.spkRamped_touches : Touches [.spk] [] (spkStatusFlds n) s ((s.spkRamped n).spkPhase n .running 5000) :=
  ((Touches.refl _ _ _ s).modSpk n _ (by simp)).trans (State.spkPhase_touches (by decide))

/-! ## SPK_STOP_DONE (R155, R157, R159) -/

/-- The phase a stage that has stopped goes to. -/
def State.spkRest (s : State) (n : Nat) : SpkPhase := if s.spkStopped n && s.spkAble n then .fault else .off

theorem State.spkHiz_stopped : (s.spkHiz n).spkStopped n = s.spkStopped n := by
  rw [State.spkStopped, State.spkHiz_spkAt, State.spkStopped]

theorem State.spkAble_congr {t : State} (hen : t.on (F.PG_ENABLE (pgSPK n)) = s.on (F.PG_ENABLE (pgSPK n)))
    (hch : t.on (F.SPK_CTRL_EN n) = s.on (F.SPK_CTRL_EN n)) (hd : t.domState = s.domState) : t.spkAble n = s.spkAble n := by
  have hi : t.islandOn (.spk n) = s.islandOn (.spk n) := congrArg (fun d => decide (d ≤ 1)) hd
  rw [State.spkAble, hen, hch, hi, State.spkAble]

/-- The fields that a stop's end shows in. -/
def spkRestFlds (n : Nat) : List Fld := F.SPK_FAULT_CNT_FAULTS n :: spkStatusFlds n

theorem spkRestFlds_apart : ∀ g ∈ spkRestFlds n, g.addr ≠ (F.PG_ENABLE (pgSPK n)).addr ∧ g.addr ≠ A.SPK_CTRL n ∧
    g.addr ≠ F.JCK_HOLD_STATUS_MUTED.addr := by
  revert n
  decide

/-- A step that shows in the status alone leaves whether the channel may run. -/
theorem Touches.spkAble {t : State} (h : Touches [.spk] [] (spkRestFlds n) s t) : t.spkAble n = s.spkAble n :=
  State.spkAble_congr (h.on_keeps fun g hg => .inl (spkRestFlds_apart g hg).1) (h.on_keeps fun g hg => .inl (spkRestFlds_apart g hg).2.1)
    (h.1 .domState (by simp))

theorem Touches.spkCollapsed {t : State} (h : Touches [.spk] [] (spkRestFlds n) s t) : t.collapsed = s.collapsed := by
  rw [State.collapsed, h.1 .pins (by simp), h.on_keeps (f := F.JCK_HOLD_STATUS_MUTED) fun g hg => .inl (spkRestFlds_apart g hg).2.2,
    State.collapsed]

theorem State.spkOff_eq : s.spkOff n = (s.spkHiz n).spkPhase n (s.spkRest n) 1000 := rfl

theorem State.spkOff_touches : Touches [.spk] [] (spkRestFlds n) s (s.spkOff n) :=
  (State.spkHiz_touches.mono (by simp) (by simp) (by simp [spkRestFlds])).trans State.spkPhase_touches_counted

theorem State.spkOff_hiz : (s.spkOff n).get (F.SPK_STATUS_HIZ n) = 1 := by
  rw [State.spkOff_eq, State.spkPhase_hiz]
  exact State.get_set_in (Nat.le_of_ble_eq_true rfl) 1

theorem State.spkOff_phase : ((s.spkOff n).spkAt n).phase = s.spkRest n := State.spkPhase_phase _ _ n.isLt

/-- The causes that hold the stage are the same once it is off. -/
theorem State.spkOff_stopped : (s.spkOff n).spkStopped n = s.spkStopped n := by
  obtain ⟨pop, popUs, hrec⟩ := (s.spkHiz n).spkPhase_spkAt (n := n) (p := s.spkRest n) (us := 1000)
  rw [State.spkStopped, State.spkOff_eq, hrec, ← State.spkStopped, State.spkHiz_stopped]

/-- A start does not begin where the channel may not run. -/
theorem State.spkTryStart_unable (h : s.spkAble n = false) : s.spkTryStart n = s := by
  rw [State.spkTryStart, State.spkMay, h]
  rfl

/-- Nor does it where a cause holds the stage. -/
theorem State.spkTryStart_stopped (h : s.spkStopped n = true) : s.spkTryStart n = s := by
  rw [State.spkTryStart, State.spkMay, h, Bool.not_true, Bool.and_false, Bool.false_and, Bool.false_and, State.when_false]

theorem State.spkTryStart_begins (hable : s.spkAble n = true) (hoff : (s.spkAt n).phase = .off) (hs : s.spkStopped n = false)
    (hc : s.collapsed = false) (hq : s.isQuiet (14 + n) = false) : s.spkTryStart n = s.spkBegin n := by
  rw [State.spkTryStart, State.spkMay, hable, hoff, hs, hc, hq]
  rfl

/-- A start leaves HIZ. -/
theorem State.spkTryStart_hiz : (s.spkTryStart n).get (F.SPK_STATUS_HIZ n) = s.get (F.SPK_STATUS_HIZ n) := by
  unfold State.spkTryStart
  cases s.spkMay n && !s.isQuiet (14 + n)
  · rfl
  · rw [State.when_true, State.spkBegin, State.spkPhase_hiz, State.modSpk_get, State.spkApply, State.modSpk_get]

theorem State.spkStopDone_ends (hc : s.clocked (.spk n) = true) (h : ((s.spkAt n).phase = .stopping ∧ s.collapsed = false) ∨
    ((s.spkAt n).phase = .faultStop ∧ s.collapsed = false) ∨ (s.spkAt n).phase = .uvRamp) :
    s.spkStopDone n = (s.spkOff n).spkTryStart n := by
  refine State.event_of _ _ hc ?_
  rcases h with ⟨hp, hcol⟩ | ⟨hp, hcol⟩ | hp
  · rw [hp, hcol]
    rfl
  · rw [hp, hcol]
    rfl
  · rw [hp]

/-- Where a stop ends: OFF where the channel may not run, FAULT where a cause holds it, and a new start where nothing does. -/
theorem State.spkOff_leaves : ((s.spkOff n).spkTryStart n).on (F.SPK_STATUS_HIZ n) = true ∧
    (s.spkAble n = false → (((s.spkOff n).spkTryStart n).spkAt n).phase = .off ∧
      ((s.spkOff n).spkTryStart n).get (F.SPK_STATUS_STATE n) = 0) ∧
    (s.spkAble n = true → s.spkStopped n = true → (((s.spkOff n).spkTryStart n).spkAt n).phase = .fault ∧
      ((s.spkOff n).spkTryStart n).get (F.SPK_STATUS_STATE n) = 7) ∧
    (s.spkAble n = true → s.spkStopped n = false → s.collapsed = false → s.isQuiet (14 + n) = false →
      (((s.spkOff n).spkTryStart n).spkAt n).phase = .waiting) := by
  have hable : (s.spkOff n).spkAble n = s.spkAble n := State.spkOff_touches.spkAble
  refine ⟨?_, fun ha => ?_, fun ha hs => ?_, fun ha hs hc hq => ?_⟩
  · rw [State.on, State.spkTryStart_hiz, State.spkOff_hiz]
    rfl
  · have hrest : s.spkRest n = .off := by rw [State.spkRest, ha, Bool.and_false]; rfl
    rw [State.spkTryStart_unable (hable.trans ha), State.spkOff_phase, State.spkOff_eq, State.spkPhase_state, hrest]
    exact ⟨rfl, rfl⟩
  · have hrest : s.spkRest n = .fault := by rw [State.spkRest, ha, hs]; rfl
    rw [State.spkTryStart_stopped (State.spkOff_stopped.trans hs), State.spkOff_phase, State.spkOff_eq, State.spkPhase_state, hrest]
    exact ⟨rfl, rfl⟩
  · have hrest : s.spkRest n = .off := by rw [State.spkRest, hs]; rfl
    have hquiet : (s.spkOff n).isQuiet (14 + n) = false :=
      (congrArg (·.contains (14 + n.val)) (State.spkOff_touches.1 .quiet (by simp))).trans hq
    rw [State.spkTryStart_begins (hable.trans ha) (State.spkOff_phase.trans hrest) (State.spkOff_stopped.trans hs)
      (State.spkOff_touches.spkCollapsed.trans hc) hquiet]
    exact State.spkBegin_spkAt.1

/-- Settles O18, a clause for each of a start that goes on, a start that waits, the ramp's end and the stop's end. -/
theorem speakerStartAndStop : Obligations.SpeakerStartAndStop := by
  unfold Obligations.SpeakerStartAndStop
  refine ⟨fun n s hc hp hclk hpvdd hrange hv hcol => ?_, fun n s hc hp hmiss => ?_, fun n s hc hp => ?_, fun n s hc hp => ?_⟩
  · have hsup : s.spkSupplied n = true := State.spkSupplied_iff.mpr ⟨hclk, hpvdd, hrange, hv, hcol⟩
    obtain ⟨hhiz, hmuted, hopen, hseed⟩ := State.spkGo_leaves hsup
    exact ⟨_, Yields.of_eq rfl (State.spkStarted_waiting hc hp), hhiz, hmuted, hopen, hseed,
      State.spkGo_supplied_touches hsup⟩
  · have hsup : s.spkSupplied n = false := by
      refine Bool.eq_false_iff.mpr fun h => ?_
      obtain ⟨hclk, hpvdd, hrange, hv, hcol⟩ := State.spkSupplied_iff.mp h
      rw [hclk, hpvdd, hv, hcol] at hmiss
      simp only [Bool.true_eq_false, Bool.false_eq_true, false_or, or_false] at hmiss
      omega
    exact ⟨_, Yields.of_eq rfl (State.spkStarted_waiting hc hp), State.spkGo_unsupplied_leaves hsup hp⟩
  · obtain ⟨r, hactive, hrun, hrec⟩ := s.spkRamped_running (n := n)
    refine ⟨_, Yields.of_eq rfl (State.spkRunning_unmuting hc hp), ?_, ?_, State.spkReady_irq, ?_, ?_⟩
    · rw [State.spkReady_spkAt, hrec, hrun]
    · rw [State.spkReady_get rfl, State.spkRamped_state]
    · rw [State.spkReady_fault, hrec, hactive]
    · exact ((Touches.refl _ _ _ s).step State.spkRamped_touches (by simp) (by simp [spkStatusFlds])).step State.spkReady_touches
        (by simp) (by simp)
  · obtain ⟨hhiz, hunable, hstopped, hfree⟩ := s.spkOff_leaves (n := n)
    exact ⟨_, Yields.of_eq rfl (State.spkStopDone_ends hc hp), hhiz, hunable, hstopped, hfree,
      State.spkOff_touches.trans (State.spkTryStart_touches.mono (by simp) (by simp) (by simp [spkRestFlds]))⟩

end Sys2Proof.Machine
end

section
/-! PROOFS. O20: the speaker guard's millisecond update and its resistance block (R144, R147 to R152). -/

namespace Sys2Proof.Machine

variable {s t : State} {n : Fin 4} {pvdd r : Nat} {temp : Int}

/-! ## Values in 16 bits -/

theorem satTo_mod_16 (x : Nat) : satTo 16 x % 2 ^ 16 = min x 0xFFFF := by
  unfold satTo
  split <;> omega

theorem signed_unsigned_16 {x : Int} (h1 : -32768 ≤ x) (h2 : x ≤ 32767) : signed 16 (unsigned 16 (satSigned 16 x) % 2 ^ 16) = x := by
  unfold signed unsigned satSigned
  norm_num
  omega

/-! ## The model registers (R150) -/

/-- The model that the registers of channel `n` give. -/
def State.spkModel (s : State) (n : Nat) : SpkModel where
  re25 := s.get (F.SPK_GUARD_RE_RE25 n)
  alpha := s.get (F.SPK_GUARD_RE_ALPHA n)
  fres := s.get (F.SPK_GUARD_XM_FRES n)
  qts := s.get (F.SPK_GUARD_XM_QTS n)
  xsens := s.get (F.SPK_GUARD_XL_XSENS n)
  xlim := s.get (F.SPK_GUARD_XL_XLIM n)
  rthC := s.get (F.SPK_GUARD_TC_RTH n)
  tauC := s.get (F.SPK_GUARD_TC_TAU n)
  rthM := s.get (F.SPK_GUARD_TM_RTH n)
  tauM := s.get (F.SPK_GUARD_TM_TAU n)

theorem State.spkLatch_eq : s.spkLatch n = s.modSpk n (fun a => { a with par := s.spkModel n }) := rfl

theorem State.spkModel_congr (h : ∀ a ∈ [A.SPK_GUARD_RE n, A.SPK_GUARD_XM n, A.SPK_GUARD_XL n, A.SPK_GUARD_TC n, A.SPK_GUARD_TM n],
    t.reg a = s.reg a) : t.spkModel n = s.spkModel n := by
  have hget (f : Fld) (hf : f.addr ∈ [A.SPK_GUARD_RE n, A.SPK_GUARD_XM n, A.SPK_GUARD_XL n, A.SPK_GUARD_TC n, A.SPK_GUARD_TM n]) :
      t.get f = s.get f := congrArg (bits · f.lo f.w) (h f.addr hf)
  unfold State.spkModel
  congr 1 <;> exact hget _ (by simp [F.SPK_GUARD_RE_RE25, F.SPK_GUARD_RE_ALPHA, F.SPK_GUARD_XM_FRES, F.SPK_GUARD_XM_QTS,
    F.SPK_GUARD_XL_XSENS, F.SPK_GUARD_XL_XLIM, F.SPK_GUARD_TC_RTH, F.SPK_GUARD_TC_TAU, F.SPK_GUARD_TM_RTH, F.SPK_GUARD_TM_TAU])

/-! ## The end of a millisecond: what is measured (R144) -/

/-- The channel with the millisecond's sums held and the overcurrent window one millisecond on. -/
def State.spkTimed (s : State) (n : Nat) : State := (s.modSpk n (fun a => { a with sense := a.sense.ms })).spkOcTime n

theorem State.spkTimed_spkAt : (s.spkTimed n).spkAt n =
    { s.spkAt n with sense := (s.spkAt n).sense.ms, ocMs := (s.spkAt n).ocMs + 1 } := by
  unfold State.spkTimed State.spkOcTime
  extract_lets s1
  have hrec : s1.spkAt n = { s.spkAt n with sense := (s.spkAt n).sense.ms, ocMs := (s.spkAt n).ocMs + 1 } := by
    simp only [s1, State.spkAt_modSpk_self _ n.isLt]
  cases decide (10000 ≤ (s1.spkAt n).ocMs)
  · exact hrec
  · exact hrec

theorem State.spkTimed_touches : Touches [.spk] [] [F.SPK_FAULT_CNT_OC_RETRIES n] s (s.spkTimed n) := by
  have h : Touches [.spk] [] [F.SPK_FAULT_CNT_OC_RETRIES n] s
      ((s.modSpk n (fun a => { a with sense := a.sense.ms })).modSpk n (fun a => { a with ocMs := a.ocMs + 1 })) :=
    ((Touches.refl _ _ _ s).modSpk n _ (by simp)).modSpk n _ (by simp)
  exact h.when _ (fun _ => h.set 0 (.inr (by simp)))

theorem spkModelRegs_apart : ∀ a ∈ [A.SPK_GUARD_RE n, A.SPK_GUARD_XM n, A.SPK_GUARD_XL n, A.SPK_GUARD_TC n, A.SPK_GUARD_TM n],
    A.SPK_FAULT_CNT n ≠ a := by
  revert n
  decide

theorem State.spkTimed_model : (s.spkTimed n).spkModel n = s.spkModel n :=
  State.spkModel_congr fun a ha => State.spkTimed_touches.reg_eq List.not_mem_nil fun f hf => by
    rw [List.mem_singleton.mp hf]
    exact spkModelRegs_apart a ha

/-- The millisecond's measurements shown, and the model registers taken over. -/
def State.spkMeasured (s : State) (n pvdd : Nat) (temp : Int) : State :=
  (((s.spkTimed n).spkLatch n).set (F.SPK_MEAS_P_P n) (satTo 16 (((s.spkTimed n).spkLatch n).spkAt n).sense.power)).set
    (F.SPK_MEAS_P_PVDD n) (satTo 16 pvdd) |>.setS (F.SPK_STAGE_T_TEMP n) temp

theorem State.spkLatched_spkAt : ((s.spkTimed n).spkLatch n).spkAt n =
    { s.spkAt n with sense := (s.spkAt n).sense.ms, ocMs := (s.spkAt n).ocMs + 1, par := s.spkModel n } := by
  rw [State.spkLatch_eq, State.spkAt_modSpk_self _ n.isLt, State.spkTimed_spkAt, State.spkTimed_model]

theorem State.spkMeasured_spkAt : (s.spkMeasured n pvdd temp).spkAt n =
    { s.spkAt n with sense := (s.spkAt n).sense.ms, ocMs := (s.spkAt n).ocMs + 1, par := s.spkModel n } := by
  rw [State.spkMeasured, State.setS_spkAt, State.set_spkAt, State.set_spkAt, State.spkLatched_spkAt]

theorem State.spkMeasured_touches : Touches [.spk] [] [whole (A.SPK_MEAS_P n), whole (A.SPK_STAGE_T n), F.SPK_FAULT_CNT_OC_RETRIES n] s
    (s.spkMeasured n pvdd temp) := by
  have h : Touches [.spk] [] [whole (A.SPK_MEAS_P n), whole (A.SPK_STAGE_T n), F.SPK_FAULT_CNT_OC_RETRIES n] s
      ((s.spkTimed n).spkLatch n) :=
    (State.spkTimed_touches.mono (by simp) (by simp) (by simp)).modSpk n _ (by simp)
  exact ((h.set_whole _ (by simp [F.SPK_MEAS_P_P])).set_whole _ (by simp [F.SPK_MEAS_P_PVDD])).set_whole _
    (by simp [F.SPK_STAGE_T_TEMP])

theorem State.spkMeasured_power :
    (s.spkMeasured n pvdd temp).get (F.SPK_MEAS_P_P n) = min (s.spkAt n).sense.ms.power 0xFFFF := by
  have haddr : (F.SPK_STAGE_T_TEMP n).addr ≠ (F.SPK_MEAS_P_P n).addr := by
    revert n
    decide
  rw [State.spkMeasured, State.setS, State.get_set_off (Fld.off_of_addr rfl haddr), State.get_set_off (Fld.off_of_bits rfl rfl),
    State.get_set_in (Nat.le_of_ble_eq_true rfl), State.spkLatched_spkAt]
  exact satTo_mod_16 _

theorem State.spkMeasured_pvdd : (s.spkMeasured n pvdd temp).get (F.SPK_MEAS_P_PVDD n) = min pvdd 0xFFFF := by
  have haddr : (F.SPK_STAGE_T_TEMP n).addr ≠ (F.SPK_MEAS_P_PVDD n).addr := by
    revert n
    decide
  rw [State.spkMeasured, State.setS, State.get_set_off (Fld.off_of_addr rfl haddr), State.get_set_in (Nat.le_of_ble_eq_true rfl)]
  exact satTo_mod_16 _

theorem State.spkMeasured_temp (h1 : -32768 ≤ temp) (h2 : temp ≤ 32767) :
    signed 16 ((s.spkMeasured n pvdd temp).get (F.SPK_STAGE_T_TEMP n)) = temp := by
  rw [State.spkMeasured, State.setS, State.get_set_in (Nat.le_of_ble_eq_true rfl)]
  exact signed_unsigned_16 h1 h2

/-! ## The models' step (R147, R148) -/

/-- The thermal step reads the model and the zone temperature alone. -/
theorem State.spkThermal_congr (hpar : (t.spkAt n).par = (s.spkAt n).par) (hta : t.spkTa n = s.spkTa n) (rp : Int) (p : Int × Int) :
    t.spkThermal n rp p = s.spkThermal n rp p := by
  unfold State.spkThermal
  rw [hpar, hta]

theorem State.spkCoilRise_congr (hpar : (t.spkAt n).par = (s.spkAt n).par) (i2 : Nat) (tc : Int) :
    t.spkCoilRise n i2 tc = s.spkCoilRise n i2 tc := by
  rw [State.spkCoilRise, hpar, State.spkCoilRise]

/-- Both temperatures after one step at the coil power of the sensed current. -/
def State.spkHeated (s : State) (n : Nat) : Int × Int :=
  s.spkThermal n (s.spkCoilRise n (s.spkAt n).sense.i2 (s.spkAt n).tc) ((s.spkAt n).tc, (s.spkAt n).tm)

theorem State.spkHeat_unsound (h : (s.spkAt n).par.netOk = false) : s.spkHeat n = s := if_neg (by rw [h]; nofun)

theorem State.spkHeat_sound (h : (s.spkAt n).par.netOk = true) : ∃ gTh, s.spkHeat n =
    ((s.modSpk n (fun a => { a with tc := (s.spkHeated n).1, tm := (s.spkHeated n).2 })).spkTemps n).modSpk n
      (fun a => { a with gTh := gTh }) := ⟨_, if_pos h⟩

theorem State.spkHeat_touches : Touches [.spk] [] [whole (A.SPK_GUARD_TEMP n)] s (s.spkHeat n) := by
  cases h : (s.spkAt n).par.netOk
  · rw [State.spkHeat_unsound h]
    exact Touches.refl _ _ _ s
  · obtain ⟨gTh, hheat⟩ := State.spkHeat_sound h
    rw [hheat]
    exact (((Touches.refl _ _ _ s).modSpk n _ (by simp)).step State.spkTemps_touches (by simp) (by simp)).modSpk n _ (by simp)

/-- The thermal step writes the temperatures, where the network's parameters are sound, and g_th. -/
theorem State.spkHeat_spkAt : ∃ tc tm gTh, (s.spkHeat n).spkAt n = { s.spkAt n with tc := tc, tm := tm, gTh := gTh } ∧
    ((s.spkAt n).par.netOk = false → tc = (s.spkAt n).tc ∧ tm = (s.spkAt n).tm) ∧
    ((s.spkAt n).par.netOk = true → (tc, tm) = s.spkHeated n) := by
  cases h : (s.spkAt n).par.netOk
  · rw [State.spkHeat_unsound h]
    exact ⟨_, _, _, rfl, fun _ => ⟨rfl, rfl⟩, nofun⟩
  · obtain ⟨gTh, hheat⟩ := State.spkHeat_sound h
    refine ⟨(s.spkHeated n).1, (s.spkHeated n).2, gTh, ?_, nofun, fun _ => rfl⟩
    rw [hheat, State.spkAt_modSpk_self _ n.isLt, State.spkTemps_spkAt, State.spkAt_modSpk_self _ n.isLt]

/-- The update of an enabled guard: CFG_ERR, the thermal model and the release of g_x. -/
def State.spkGuarded (s : State) (n : Nat) : State :=
  ((s.spkCfgSync n).spkHeat n).modSpk n (fun a => { a with gX := min 0 (a.gX + guardRel (s.get (F.SPK_GUARD_CTRL_REL n))) })

theorem State.spkGuarded_touches : Touches [.spk] [] [F.SPK_GUARD_STATUS_CFG_ERR n, whole (A.SPK_GUARD_TEMP n)] s (s.spkGuarded n) :=
  (((Touches.refl _ _ _ s).step State.spkCfgSync_touches (by simp) (by simp)).step State.spkHeat_touches (by simp) (by simp)).modSpk
    n _ (by simp)

theorem State.spkCfgSync_spkAt (m : Nat) : (s.spkCfgSync n).spkAt m = s.spkAt m := by
  rw [State.spkAt, State.spkCfgSync_touches.1 .spk (by simp), ← State.spkAt]

/-- CFG_ERR leaves what the thermal step reads. -/
theorem State.spkCfgSync_heated : (s.spkCfgSync n).spkHeated n = s.spkHeated n := by
  have hta : (s.spkCfgSync n).spkTa n = s.spkTa n := State.spkCfgSync_touches.spkTa (by
    revert n
    decide)
  unfold State.spkHeated
  rw [State.spkThermal_congr (congrArg Spk.par (State.spkCfgSync_spkAt _)) hta,
    State.spkCoilRise_congr (congrArg Spk.par (State.spkCfgSync_spkAt _)), State.spkCfgSync_spkAt]

theorem State.spkGuarded_spkAt : ∃ tc tm gTh, (s.spkGuarded n).spkAt n = { s.spkAt n with
    tc := tc, tm := tm, gTh := gTh, gX := min 0 ((s.spkAt n).gX + guardRel (s.get (F.SPK_GUARD_CTRL_REL n))) } ∧
    ((s.spkAt n).par.netOk = false → tc = (s.spkAt n).tc ∧ tm = (s.spkAt n).tm) ∧
    ((s.spkAt n).par.netOk = true → (tc, tm) = s.spkHeated n) := by
  obtain ⟨tc, tm, gTh, hrec, hun, hso⟩ := (s.spkCfgSync n).spkHeat_spkAt (n := n)
  rw [State.spkCfgSync_spkAt] at hrec hun hso
  rw [State.spkCfgSync_heated] at hso
  refine ⟨tc, tm, gTh, ?_, hun, hso⟩
  rw [State.spkGuarded, State.spkAt_modSpk_self _ n.isLt, hrec]

/-- A coil parameter of zero shows CFG_ERR while the guard is on (log 181). -/
theorem State.spkGuarded_cfgErr (hen : s.on (F.SPK_GUARD_CTRL_EN n) = true) (h : (s.spkAt n).par.coilOk = false) :
    (s.spkGuarded n).on (F.SPK_GUARD_STATUS_CFG_ERR n) = true := by
  have herr : s.spkCfgErr n = true := by
    rw [State.spkCfgErr, h]
    rfl
  have hheat : ((s.spkCfgSync n).spkHeat n).get (F.SPK_GUARD_STATUS_CFG_ERR n) = (s.spkCfgSync n).get (F.SPK_GUARD_STATUS_CFG_ERR n) :=
    State.spkHeat_touches.get_keeps (by
      clear hen h herr
      revert n
      decide)
  rw [State.spkGuarded, State.modSpk_on, State.on, hheat, State.spkCfgSync, hen, herr,
    State.get_setB_self _ _ _ (Nat.le_of_ble_eq_true rfl) Nat.one_pos]
  rfl

/-! ## The millisecond update -/

/-- The update up to the guard's own step. -/
def State.spkUpdated (s : State) (n pvdd : Nat) (temp : Int) : State :=
  (s.spkMeasured n pvdd temp).when (s.on (F.SPK_GUARD_CTRL_EN n)) (·.spkGuarded n)

theorem spkMeasured_apart : ∀ f ∈ [whole (A.SPK_MEAS_P n), whole (A.SPK_STAGE_T n), F.SPK_FAULT_CNT_OC_RETRIES n],
    f.addr ≠ A.SPK_GUARD_CTRL n ∧ f.addr / 0x400 ≠ 2 := by
  revert n
  decide

/-- The measurements leave the guard's control word. -/
theorem State.spkMeasured_ctrl {f : Fld} (h : f.addr = A.SPK_GUARD_CTRL n) : (s.spkMeasured n pvdd temp).get f = s.get f :=
  State.spkMeasured_touches.get_keeps fun g hg => .inl (h ▸ (spkMeasured_apart g hg).1)

theorem State.spkGuardUpdate_eq (hc : s.clocked (.spk n) = true) :
    s.spkGuardUpdate n pvdd temp = (s.spkUpdated n pvdd temp).spkProt n := by
  have hen : (s.spkMeasured n pvdd temp).on (F.SPK_GUARD_CTRL_EN n) = s.on (F.SPK_GUARD_CTRL_EN n) :=
    State.on_congr s (State.spkMeasured_ctrl rfl)
  rw [State.spkUpdated, ← hen]
  exact State.event_of _ _ hc rfl

theorem State.spkUpdated_off (h : s.on (F.SPK_GUARD_CTRL_EN n) = false) : s.spkUpdated n pvdd temp = s.spkMeasured n pvdd temp := by
  rw [State.spkUpdated, h, State.when_false]

theorem State.spkUpdated_on (h : s.on (F.SPK_GUARD_CTRL_EN n) = true) :
    s.spkUpdated n pvdd temp = (s.spkMeasured n pvdd temp).spkGuarded n := by
  rw [State.spkUpdated, h, State.when_true]

/-- The fields that the models' step shows in. -/
def spkModelFlds (n : Nat) : List Fld := F.SPK_GUARD_STATUS_CFG_ERR n :: whole (A.SPK_GUARD_TEMP n) :: spkProtFlds n

/-- What follows the measurements of an update. -/
theorem State.spkUpdated_touches :
    Touches [.spk] [] (spkModelFlds n) (s.spkMeasured n pvdd temp) ((s.spkUpdated n pvdd temp).spkProt n) := by
  have h : Touches [.spk] [] (spkModelFlds n) (s.spkMeasured n pvdd temp) (s.spkUpdated n pvdd temp) :=
    (Touches.refl _ _ _ _).when _ (fun _ => State.spkGuarded_touches.mono (by simp) (by simp) (by simp [spkModelFlds]))
  exact h.step State.spkProt_touches (by simp) (fun f hf => .inl (by simp [spkModelFlds, hf]))

theorem spkModelFlds_apart : ∀ f ∈ spkModelFlds n, f.addr ≠ A.SPK_MEAS_P n ∧ f.addr ≠ A.SPK_STAGE_T n ∧
    f.addr ≠ A.SPK_GUARD_CTRL n ∧ f.addr / 0x400 ≠ 2 := by
  revert n
  decide

/-- The measurements read the same once the models have stepped. -/
theorem State.spkUpdated_get {f : Fld} (h : f.addr = A.SPK_MEAS_P n ∨ f.addr = A.SPK_STAGE_T n) :
    ((s.spkUpdated n pvdd temp).spkProt n).get f = (s.spkMeasured n pvdd temp).get f :=
  State.spkUpdated_touches.get_keeps fun g hg => .inl (by
    obtain ⟨hp, ht, -, -⟩ := spkModelFlds_apart g hg
    rcases h with h | h
    · exact h ▸ hp
    · exact h ▸ ht)

theorem State.spkUpdated_spkTa : ((s.spkUpdated n pvdd temp).spkProt n).spkTa n = (s.spkMeasured n pvdd temp).spkTa n :=
  State.spkUpdated_touches.spkTa fun f hf => (spkModelFlds_apart f hf).2.2

/-- The record of an update with the guard on. -/
theorem State.spkUpdated_spkAt_on (h : s.on (F.SPK_GUARD_CTRL_EN n) = true) : ∃ tc tm gTh,
    ((s.spkUpdated n pvdd temp).spkProt n).spkAt n = { s.spkAt n with
      sense := (s.spkAt n).sense.ms, ocMs := (s.spkAt n).ocMs + 1, par := s.spkModel n, tc := tc, tm := tm, gTh := gTh
      gX := min 0 ((s.spkAt n).gX + guardRel (s.get (F.SPK_GUARD_CTRL_REL n))) } ∧
    ((s.spkModel n).netOk = false → tc = (s.spkAt n).tc ∧ tm = (s.spkAt n).tm) ∧
    ((s.spkModel n).netOk = true → (tc, tm) = (s.spkMeasured n pvdd temp).spkHeated n) := by
  obtain ⟨tc, tm, gTh, hrec, hun, hso⟩ := (s.spkMeasured n pvdd temp).spkGuarded_spkAt (n := n)
  rw [State.spkMeasured_spkAt] at hrec hun hso
  refine ⟨tc, tm, gTh, ?_, hun, hso⟩
  rw [State.spkProt_spkAt, State.spkUpdated_on h, hrec, State.spkMeasured_ctrl rfl]

theorem State.spkUpdated_spkAt_off (h : s.on (F.SPK_GUARD_CTRL_EN n) = false) : ((s.spkUpdated n pvdd temp).spkProt n).spkAt n =
    { s.spkAt n with sense := (s.spkAt n).sense.ms, ocMs := (s.spkAt n).ocMs + 1, par := s.spkModel n } := by
  rw [State.spkProt_spkAt, State.spkUpdated_off h, State.spkMeasured_spkAt]

/-- Every update takes the model registers over and leaves the millisecond's sums. -/
theorem State.spkUpdated_par : (((s.spkUpdated n pvdd temp).spkProt n).spkAt n).par = s.spkModel n ∧
    (((s.spkUpdated n pvdd temp).spkProt n).spkAt n).sense = (s.spkAt n).sense.ms := by
  cases h : s.on (F.SPK_GUARD_CTRL_EN n)
  · rw [State.spkUpdated_spkAt_off h]
    exact ⟨rfl, rfl⟩
  · obtain ⟨tc, tm, gTh, hrec, -⟩ := State.spkUpdated_spkAt_on (pvdd := pvdd) (temp := temp) h
    rw [hrec]
    exact ⟨rfl, rfl⟩

/-- The step of R148 read in the state that the update leaves. -/
theorem State.spkUpdated_heated : (s.spkMeasured n pvdd temp).spkHeated n =
    ((s.spkUpdated n pvdd temp).spkProt n).spkThermal n (((s.spkUpdated n pvdd temp).spkProt n).spkCoilRise n
      (((s.spkUpdated n pvdd temp).spkProt n).spkAt n).sense.i2 (s.spkAt n).tc) ((s.spkAt n).tc, (s.spkAt n).tm) := by
  obtain ⟨hpar, hsense⟩ := s.spkUpdated_par (n := n) (pvdd := pvdd) (temp := temp)
  have hmodel : (((s.spkUpdated n pvdd temp).spkProt n).spkAt n).par = ((s.spkMeasured n pvdd temp).spkAt n).par := by
    rw [hpar, State.spkMeasured_spkAt]
  rw [State.spkThermal_congr hmodel State.spkUpdated_spkTa, State.spkCoilRise_congr hmodel, hsense, State.spkHeated,
    State.spkMeasured_spkAt]

theorem State.spkUpdated_cfgErr (hen : s.on (F.SPK_GUARD_CTRL_EN n) = true) (h : (s.spkModel n).coilOk = false) :
    ((s.spkUpdated n pvdd temp).spkProt n).on (F.SPK_GUARD_STATUS_CFG_ERR n) = true := by
  have hprot : ((s.spkUpdated n pvdd temp).spkProt n).on (F.SPK_GUARD_STATUS_CFG_ERR n) =
      (s.spkUpdated n pvdd temp).on (F.SPK_GUARD_STATUS_CFG_ERR n) := State.spkProt_touches.on_keeps (by
    clear hen h
    revert n
    decide)
  have hon : (s.spkMeasured n pvdd temp).on (F.SPK_GUARD_CTRL_EN n) = true := (State.on_congr s (State.spkMeasured_ctrl rfl)).trans hen
  rw [hprot, State.spkUpdated_on hen]
  exact State.spkGuarded_cfgErr hon (by rw [State.spkMeasured_spkAt]; exact h)

/-! ## The resistance block (R149) -/

/-- The block's sums and the excursion peak begin anew; X_PEAK shows the old peak. -/
def State.spkBlockEnd (s : State) (n : Nat) : State :=
  ((s.modSpk n (fun a => { a with sense := { a.sense with blockVI := 0, blockII := 0, blockN := 0 } })).set (F.SPK_GUARD_STATUS_X_PEAK n)
    (satTo 16 ((s.modSpk n (fun a => { a with sense := { a.sense with blockVI := 0, blockII := 0, blockN := 0 } })).spkAt n).xPeak)).modSpk
    n (fun a => { a with xPeak := 0 })

theorem State.spkBlock_eq (hc : s.clocked (.spk n) = true) (hen : s.on (F.SPK_GUARD_CTRL_EN n) = true) : s.spkBlock n =
    if (s.spkAt n).sense.valid then (s.spkBlockEnd n).spkResistance n (s.spkAt n).sense.ohm else (s.spkBlockEnd n).spkInvalid n := by
  rw [State.spkBlock, State.event_of _ _ hc rfl]
  dsimp only
  rw [State.modSpk_on, hen, State.when_true]
  rfl

theorem State.spkBlockEnd_spkAt : (s.spkBlockEnd n).spkAt n =
    { s.spkAt n with sense := { (s.spkAt n).sense with blockVI := 0, blockII := 0, blockN := 0 }, xPeak := 0 } := by
  rw [State.spkBlockEnd, State.spkAt_modSpk_self _ n.isLt, State.set_spkAt, State.spkAt_modSpk_self _ n.isLt]

theorem State.spkBlockEnd_touches : Touches [.spk] [] [whole (A.SPK_GUARD_STATUS n)] s (s.spkBlockEnd n) :=
  (((Touches.refl _ _ _ s).modSpk n _ (by simp)).set_whole _ (by simp [F.SPK_GUARD_STATUS_X_PEAK])).modSpk n _ (by simp)

theorem spkGuardStatus_apart : A.SPK_GUARD_STATUS n ≠ A.SPK_GUARD_CTRL n := by
  revert n
  decide

/-! ## An invalid block -/

/-- An invalid block is counted. -/
def State.spkMissed (s : State) (n : Nat) : State := s.modSpk n (fun a => { a with invalid := a.invalid + 1 })

theorem State.spkInvalid_eq : s.spkInvalid n = (s.spkMissed n).when
    (decide (3 ≤ (s.spkAt n).invalid + 1) && s.on (F.SPK_GUARD_CTRL_PILOT_EN n) && !s.on (F.SPK_GUARD_STATUS_PILOT_ON n))
    (fun s => (s.set (F.SPK_GUARD_STATUS_PILOT_ON n) 1).modSpk n (fun a => { a with pilotPos := 0 })) := by
  have hrec : ((s.spkMissed n).spkAt n).invalid = (s.spkAt n).invalid + 1 := by
    rw [State.spkMissed, State.spkAt_modSpk_self _ n.isLt]
  rw [← hrec]
  rfl

theorem State.spkInvalid_touches : Touches [.spk] [] [whole (A.SPK_GUARD_STATUS n)] s (s.spkInvalid n) := by
  have h : Touches [.spk] [] [whole (A.SPK_GUARD_STATUS n)] s (s.spkMissed n) := (Touches.refl _ _ _ s).modSpk n _ (by simp)
  rw [State.spkInvalid_eq]
  exact h.when _ (fun _ => (h.set_whole _ (by simp [F.SPK_GUARD_STATUS_PILOT_ON])).modSpk n _ (by simp))

theorem State.spkInvalid_spkAt : ∃ pilotPos, (s.spkInvalid n).spkAt n =
    { s.spkAt n with invalid := (s.spkAt n).invalid + 1, pilotPos := pilotPos } := by
  have hrec : (s.spkMissed n).spkAt n = { s.spkAt n with invalid := (s.spkAt n).invalid + 1 } := s.spkAt_modSpk_self n.isLt _
  rw [State.spkInvalid_eq]
  cases decide (3 ≤ (s.spkAt n).invalid + 1) && s.on (F.SPK_GUARD_CTRL_PILOT_EN n) && !s.on (F.SPK_GUARD_STATUS_PILOT_ON n)
  · exact ⟨_, hrec⟩
  · rw [State.when_true, State.spkAt_modSpk_self _ n.isLt, State.set_spkAt, hrec]
    exact ⟨0, rfl⟩

/-- The third invalid block in a row leaves the pilot on where PILOT_EN allows it. -/
theorem State.spkInvalid_pilot (h : 2 ≤ (s.spkAt n).invalid) (hp : s.on (F.SPK_GUARD_CTRL_PILOT_EN n) = true) :
    (s.spkInvalid n).on (F.SPK_GUARD_STATUS_PILOT_ON n) = true := by
  rw [State.spkInvalid_eq, hp, decide_eq_true (by omega : 3 ≤ (s.spkAt n).invalid + 1)]
  cases hon : s.on (F.SPK_GUARD_STATUS_PILOT_ON n)
  · exact (State.modSpk_on ..).trans (State.on_set_one ⟨Nat.le_of_ble_eq_true rfl, Nat.one_pos⟩)
  · exact hon

/-! ## A valid block -/

/-- RE and VALID; the pilot ends. -/
def State.spkOhms (s : State) (n r : Nat) : State :=
  ((s.set (F.SPK_MEAS_Z_RE n) (satTo 16 r)).set (F.SPK_MEAS_Z_VALID n) 1).set (F.SPK_GUARD_STATUS_PILOT_ON n) 0

/-- The coil's temperature of a resistance `r` under the model `m` (R149), in 1/65,536 °C. -/
def spkCoilTemp (m : SpkModel) (r : Nat) : Int :=
  25 * 65536 + divRne (((r : Int) - m.re25) * 65536 * 1000000) (m.re25 * m.alpha)

/-- The coil's temperature where its parameters are sound. -/
def State.spkCoil (s : State) (n : Nat) (m : SpkModel) (r : Nat) : State :=
  s.when m.coilOk (fun s => (s.modSpk n (fun a => { a with tc := spkCoilTemp m r })).spkTemps n)

/-- The models count as seeded from the first valid block on. -/
def State.spkSeen (s : State) (n : Nat) : State :=
  s.when (!s.on (F.SPK_GUARD_STATUS_SEEDED n)) (fun s =>
    ((s.set (F.SPK_GUARD_STATUS_SEEDED n) 1).set (F.SPK_GUARD_STATUS_MODEL_FAULT n) 0).irq (pgSPK n) 5)

def State.spkOpenWarn (s : State) (n r : Nat) : State :=
  s.when (decide (64000 < r)) (fun s => (s.set (F.SPK_FLAGS_OPEN_WARN n) 1).irq (pgSPK n) 6)

/-- The measurement of a valid block: RE, the coil's temperature, and the count of invalid blocks at zero. -/
def State.spkRated (s : State) (n r : Nat) : State :=
  ((s.spkOhms n r).spkCoil n (s.spkAt n).par r).modSpk n (fun a => { a with invalid := 0 })

theorem State.spkResistance_eq : s.spkResistance n r = (((s.spkRated n r).spkSeen n).spkOpenWarn n r).spkProt n := rfl

theorem State.spkOhms_touches : Touches [] [] [whole (A.SPK_MEAS_Z n), whole (A.SPK_GUARD_STATUS n)] s (s.spkOhms n r) :=
  (((Touches.refl _ _ _ s).set_whole _ (by simp [F.SPK_MEAS_Z_RE])).set_whole _ (by simp [F.SPK_MEAS_Z_VALID])).set_whole _
    (by simp [F.SPK_GUARD_STATUS_PILOT_ON])

theorem State.spkCoil_touches {m : SpkModel} : Touches [.spk] [] [whole (A.SPK_GUARD_TEMP n)] s (s.spkCoil n m r) :=
  (Touches.refl _ _ _ s).when _ (fun _ => ((Touches.refl _ _ _ s).modSpk n _ (by simp)).step State.spkTemps_touches (by simp) (by simp))

theorem State.spkSeen_touches : Touches [] [] [F.SPK_GUARD_STATUS_SEEDED n, F.SPK_GUARD_STATUS_MODEL_FAULT n, F.PG_IRQ (pgSPK n) 5] s
    (s.spkSeen n) :=
  (Touches.refl _ _ _ s).when _ (fun _ => (((Touches.refl _ _ _ s).set _ (.inr (by simp))).set _ (.inr (by simp))).irq (.inr (by simp)))

theorem State.spkOpenWarn_touches : Touches [] [] [F.SPK_FLAGS_OPEN_WARN n, F.PG_IRQ (pgSPK n) 6] s (s.spkOpenWarn n r) :=
  (Touches.refl _ _ _ s).when _ (fun _ => ((Touches.refl _ _ _ s).set _ (.inr (by simp))).irq (.inr (by simp)))

/-- The fields that a valid block shows in once RE is measured. -/
def spkBlockFlds (n : Nat) : List Fld :=
  whole (A.SPK_GUARD_TEMP n) :: F.SPK_GUARD_STATUS_SEEDED n :: F.SPK_GUARD_STATUS_MODEL_FAULT n :: F.PG_IRQ (pgSPK n) 5 ::
    F.SPK_FLAGS_OPEN_WARN n :: F.PG_IRQ (pgSPK n) 6 :: spkProtFlds n

theorem State.spkRated_touches : Touches [.spk] [] (spkBlockFlds n) (s.spkOhms n r) (s.spkRated n r) :=
  ((Touches.refl _ _ _ _).step State.spkCoil_touches (by simp) (by simp [spkBlockFlds])).modSpk n _ (by simp)

theorem State.spkResistance_tail : Touches [.spk] [] (spkBlockFlds n) (s.spkOhms n r) (s.spkResistance n r) := by
  rw [State.spkResistance_eq]
  exact ((State.spkRated_touches.step State.spkSeen_touches (by simp) (by simp [spkBlockFlds])).step State.spkOpenWarn_touches
    (by simp) (by simp [spkBlockFlds])).step State.spkProt_touches (by simp) (fun f hf => .inl (by simp [spkBlockFlds, hf]))

theorem spkBlockFlds_apart : ∀ g ∈ spkBlockFlds n, ∀ f ∈ [F.SPK_MEAS_Z_RE n, F.SPK_MEAS_Z_VALID n, F.SPK_GUARD_STATUS_PILOT_ON n],
    g.apart f := by
  unfold Fld.apart
  revert n
  decide

/-- What is measured reads the same after the rest of the block. -/
theorem State.spkResistance_get {f : Fld} (hf : f ∈ [F.SPK_MEAS_Z_RE n, F.SPK_MEAS_Z_VALID n, F.SPK_GUARD_STATUS_PILOT_ON n]) :
    (s.spkResistance n r).get f = (s.spkOhms n r).get f :=
  State.spkResistance_tail.get_keeps fun g hg => spkBlockFlds_apart g hg f hf

theorem spkMeasZ_apart : (F.SPK_GUARD_STATUS_PILOT_ON n).addr ≠ A.SPK_MEAS_Z n := by
  revert n
  decide

theorem State.spkOhms_re : (s.spkOhms n r).get (F.SPK_MEAS_Z_RE n) = min r 0xFFFF := by
  rw [State.spkOhms, State.get_set_off (Fld.off_of_addr rfl spkMeasZ_apart), State.get_set_off (Fld.off_of_bits rfl rfl),
    State.get_set_in (Nat.le_of_ble_eq_true rfl)]
  exact satTo_mod_16 _

theorem State.spkOhms_valid : (s.spkOhms n r).get (F.SPK_MEAS_Z_VALID n) = 1 := by
  rw [State.spkOhms, State.get_set_off (Fld.off_of_addr rfl spkMeasZ_apart), State.get_set_in (Nat.le_of_ble_eq_true rfl)]
  rfl

theorem State.spkOhms_pilot : (s.spkOhms n r).get (F.SPK_GUARD_STATUS_PILOT_ON n) = 0 := State.get_set_in (Nat.le_of_ble_eq_true rfl) 0

theorem State.spkOhms_spkAt : (s.spkOhms n r).spkAt n = s.spkAt n := by
  rw [State.spkOhms, State.set_spkAt, State.set_spkAt, State.set_spkAt]

theorem State.spkRated_spkAt : (s.spkRated n r).spkAt n = { s.spkAt n with
    tc := if (s.spkAt n).par.coilOk then spkCoilTemp (s.spkAt n).par r else (s.spkAt n).tc, invalid := 0 } := by
  rw [State.spkRated, State.spkAt_modSpk_self _ n.isLt, State.spkCoil]
  cases (s.spkAt n).par.coilOk
  · rw [State.when_false, State.spkOhms_spkAt]
    rfl
  · rw [State.when_true, State.spkTemps_spkAt, State.spkAt_modSpk_self _ n.isLt, State.spkOhms_spkAt]
    rfl

theorem State.spkResistance_spkAt : (s.spkResistance n r).spkAt n = { s.spkAt n with
    tc := if (s.spkAt n).par.coilOk then spkCoilTemp (s.spkAt n).par r else (s.spkAt n).tc, invalid := 0 } := by
  have hspk : (s.spkResistance n r).spk = (s.spkRated n r).spk := by
    rw [State.spkResistance_eq, State.spkProt_spk, State.spkOpenWarn_touches.1 .spk (by simp), State.spkSeen_touches.1 .spk (by simp)]
  rw [State.spkAt, hspk, ← State.spkAt, State.spkRated_spkAt]

theorem State.spkSeen_seeded : (s.spkSeen n).on (F.SPK_GUARD_STATUS_SEEDED n) = true := by
  have haddr : (F.PG_IRQ (pgSPK n) 5).addr ≠ A.SPK_GUARD_STATUS n := by
    revert n
    decide
  unfold State.spkSeen
  cases h : s.on (F.SPK_GUARD_STATUS_SEEDED n)
  · rw [Bool.not_false, State.when_true, State.on, State.get_irq_off (Fld.off_of_addr rfl haddr),
      State.get_set_off (Fld.off_of_bits rfl rfl)]
    exact State.on_set_one ⟨Nat.le_of_ble_eq_true rfl, Nat.one_pos⟩
  · exact h

theorem spkSeeded_apart : ∀ g ∈ F.SPK_FLAGS_OPEN_WARN n :: F.PG_IRQ (pgSPK n) 6 :: spkProtFlds n,
    g.addr ≠ A.SPK_GUARD_STATUS n := by
  revert n
  decide

/-- A valid block leaves the models seeded. -/
theorem State.spkResistance_seeded : (s.spkResistance n r).on (F.SPK_GUARD_STATUS_SEEDED n) = true := by
  have hafter : Touches [] [] (F.SPK_FLAGS_OPEN_WARN n :: F.PG_IRQ (pgSPK n) 6 :: spkProtFlds n) ((s.spkRated n r).spkSeen n)
      (s.spkResistance n r) := by
    rw [State.spkResistance_eq]
    exact ((Touches.refl _ _ _ _).step State.spkOpenWarn_touches (by simp) (by simp)).step State.spkProt_touches (by simp)
      (fun f hf => .inl (by simp [hf]))
  exact (hafter.on_keeps fun g hg => .inl (spkSeeded_apart g hg)).trans State.spkSeen_seeded

theorem spkOpenWarn_apart : (∀ g ∈ spkProtFlds n, g.apart (F.SPK_FLAGS_OPEN_WARN n) ∧ g.apart (F.PG_IRQ (pgSPK n) 6)) ∧
    (F.PG_IRQ (pgSPK n) 6).addr ≠ A.SPK_FLAGS n := by
  unfold Fld.apart
  revert n
  decide

/-- Above 64 ohms OPEN_WARN stands, with its interrupt. -/
theorem State.spkResistance_openWarn (h : 64000 < r) : (s.spkResistance n r).get (F.SPK_FLAGS_OPEN_WARN n) = 1 ∧
    (s.spkResistance n r).on (F.PG_IRQ (pgSPK n) 6) = true := by
  obtain ⟨hprot, haddr⟩ := spkOpenWarn_apart (n := n)
  rw [State.spkResistance_eq, State.spkProt_touches.get_keeps fun g hg => (hprot g hg).1,
    State.spkProt_touches.on_keeps fun g hg => (hprot g hg).2, State.spkOpenWarn, decide_eq_true h, State.when_true]
  refine ⟨?_, State.on_irq_in (by decide)⟩
  rw [State.get_irq_off (Fld.off_of_addr rfl haddr), State.get_set_in (Nat.le_of_ble_eq_true rfl)]
  rfl

theorem State.spkResistance_touches : Touches [.spk] [] (whole (A.SPK_MEAS_Z n) :: whole (A.SPK_GUARD_STATUS n) ::
    whole (A.SPK_GUARD_TEMP n) :: F.SPK_FLAGS_OPEN_WARN n :: F.PG_IRQ (pgSPK n) 5 :: F.PG_IRQ (pgSPK n) 6 :: spkProtFlds n) s
    (s.spkResistance n r) := by
  refine ((Touches.refl _ _ _ s).step State.spkOhms_touches (by simp) (by simp)).step State.spkResistance_tail (by simp) ?_
  simp only [spkBlockFlds, List.forall_mem_cons]
  exact ⟨.inl (by simp), .inr (by simp [F.SPK_GUARD_STATUS_SEEDED]), .inr (by simp [F.SPK_GUARD_STATUS_MODEL_FAULT]), .inl (by simp),
    .inl (by simp), .inl (by simp), fun f hf => .inl (by simp [hf])⟩

/-! ## The obligation -/

/-- The fields of a millisecond update. -/
def spkUpdateFlds (n : Nat) : List Fld :=
  whole (A.SPK_MEAS_P n) :: whole (A.SPK_STAGE_T n) :: F.SPK_FAULT_CNT_OC_RETRIES n :: spkModelFlds n

theorem State.spkUpdate_touches : Touches [.spk] [] (spkUpdateFlds n) s ((s.spkUpdated n pvdd temp).spkProt n) :=
  (State.spkMeasured_touches.mono (by simp) (by simp) (by simp [spkUpdateFlds])).step State.spkUpdated_touches (by simp)
    (fun f hf => .inl (by simp [spkUpdateFlds, hf]))

/-- Settles O20, a clause for each of the millisecond update, a valid block and an invalid one. -/
theorem speakerGuardMeasures : Obligations.SpeakerGuardMeasures := by
  unfold Obligations.SpeakerGuardMeasures
  refine ⟨fun n pvdd temp s hc h1 h2 => ?_, fun n s hc hen hv => ?_, fun n s hc hen hv => ?_⟩
  · obtain ⟨hpar, -⟩ := s.spkUpdated_par (n := n) (pvdd := pvdd) (temp := temp)
    refine ⟨_, Yields.of_eq rfl (State.spkGuardUpdate_eq hc), (State.spkUpdated_get (.inl rfl)).trans State.spkMeasured_power,
      (State.spkUpdated_get (.inl rfl)).trans State.spkMeasured_pvdd, ?_, congrArg SpkModel.re25 hpar, congrArg SpkModel.alpha hpar,
      congrArg SpkModel.fres hpar, congrArg SpkModel.qts hpar, congrArg SpkModel.xsens hpar, congrArg SpkModel.xlim hpar,
      congrArg SpkModel.rthC hpar, congrArg SpkModel.tauC hpar, congrArg SpkModel.rthM hpar, congrArg SpkModel.tauM hpar,
      fun hoff => ?_, fun hon => ?_, fun hon hcoil => State.spkUpdated_cfgErr hon (hpar ▸ hcoil), fun hon hnet => ?_,
      fun hon hnet => ?_, State.spkUpdate_touches⟩
    · rw [State.spkUpdated_get (.inr rfl)]
      exact State.spkMeasured_temp h1 h2
    · rw [State.spkUpdated_spkAt_off hoff]
      exact ⟨rfl, rfl, rfl, rfl⟩
    all_goals obtain ⟨tc, tm, gTh, hrec, hun, hso⟩ := State.spkUpdated_spkAt_on (pvdd := pvdd) (temp := temp) hon
    · rw [hrec]
    · rw [hpar] at hnet
      rw [hrec]
      exact hun hnet
    · rw [hpar] at hnet
      rw [← State.spkUpdated_heated, ← hso hnet, hrec]
  · have hblock := State.spkBlock_eq hc hen
    rw [hv, if_pos rfl] at hblock
    refine ⟨_, Yields.of_eq rfl hblock, (State.spkResistance_get (by simp)).trans State.spkOhms_re,
      (State.spkResistance_get (by simp)).trans State.spkOhms_valid, State.spkResistance_seeded, ?_, ?_, ?_, ?_, fun hcoil => ?_,
      State.spkResistance_openWarn, ?_⟩
    · rw [State.on, State.spkResistance_get (by simp), State.spkOhms_pilot]
      rfl
    · rw [State.spkResistance_spkAt]
    · rw [State.spkResistance_spkAt, State.spkBlockEnd_spkAt]
    · rw [State.spkResistance_spkAt, State.spkBlockEnd_spkAt]
    · rw [State.spkResistance_spkAt, State.spkBlockEnd_spkAt]
      exact if_pos hcoil
    · exact (State.spkBlockEnd_touches.mono (by simp) (by simp) (by simp)).trans State.spkResistance_touches
  · have hblock := State.spkBlock_eq hc hen
    rw [hv, if_neg Bool.false_ne_true] at hblock
    obtain ⟨pilotPos, hrec⟩ := (s.spkBlockEnd n).spkInvalid_spkAt (n := n)
    rw [State.spkBlockEnd_spkAt] at hrec
    refine ⟨_, Yields.of_eq rfl hblock, ?_, ?_, ?_, fun hi hp => ?_, State.spkBlockEnd_touches.trans State.spkInvalid_touches⟩
    · rw [hrec]
    · rw [hrec]
    · rw [hrec]
    · refine State.spkInvalid_pilot ?_ ?_
      · rw [State.spkBlockEnd_spkAt]
        exact hi
      · rw [← hp]
        exact State.spkBlockEnd_touches.on_keeps fun g hg => .inl (List.mem_singleton.mp hg ▸ spkGuardStatus_apart)

end Sys2Proof.Machine
end

section
/-! PROOFS. The registers of a speaker channel's page (R139 to R150): their definitions, and what a write hands to the channel. -/

namespace Sys2Proof.Machine

variable {s t : State} {n : Fin 4} {ini off : Nat} {w : Word} {d : RegDef}

/-! ## Definitions -/

/-- The fields of SPKn_CTRL (R154). -/
def spkCtrlDef : RegDef :=
  .mk 0x040 1 4 0 64 0x54 [] false [.mk 6 1 .rw [], .mk 4 2 .rw [(3, 3)], .mk 2 1 .rw [], .mk 0 1 .rw []]

/-- The fields of SPKn_FMT (R140, R141). -/
def spkFmtDef : RegDef :=
  .mk 0x044 1 4 0 64 0x206 [] false [.mk 8 3 .rw [(5, 7)], .mk 4 2 .rw [(3, 3)], .mk 0 4 .rw [(11, 15)]]

/-- The fields of SPKn_VOL (R139). -/
def spkVolDef : RegDef := .mk 0x048 1 4 0 64 0xC001C00 [] false [.mk 16 12 .ro [], .mk 12 2 .rw [], .mk 0 12 .rw []]

/-- The fields of SPKn_PWM (R143). -/
def spkPwmDef : RegDef :=
  .mk 0x04C 1 4 0 64 0x1 [0x1, 0x11, 0x21, 0x31] false [.mk 4 2 .rw [], .mk 0 2 .rw [(3, 3)]]

/-- The fields of SPKn_CEIL (R145). -/
def spkCeilDef : RegDef := .mk 0x054 1 4 0 64 0xFF00FF [] false [.mk 16 8 .ro [], .mk 8 8 .rw [(241, 254)], .mk 0 8 .ro []]

/-- The fields of SPKn_GUARD_CTRL (R147, R149, R150). -/
def spkGuardCtrlDef : RegDef :=
  .mk 0x074 1 4 0 64 0x140E [] false [.mk 12 2 .rw [], .mk 8 3 .rw [(6, 7)], .mk 4 1 .w1s [], .mk 3 1 .rw [], .mk 2 1 .rw [],
    .mk 1 1 .rw [], .mk 0 1 .rw []]

/-- The registers whose writes move a channel, by their offsets. -/
def spkDefs : List (Nat × RegDef) :=
  [(0x040, spkCtrlDef), (0x044, spkFmtDef), (0x048, spkVolDef), (0x04C, spkPwmDef), (0x054, spkCeilDef), (0x074, spkGuardCtrlDef)]

theorem spkDefs_served : ∀ x ∈ spkDefs, placeOf (0x07400 + 0x400 * n + x.1) = .reg (pgSPK n) x.1 ∧
    regDefAt (0x07400 + 0x400 * n + x.1) = some x.2 := by
  revert n
  decide

theorem spkDefs_tidy : ∀ x ∈ spkDefs, x.2.tidy := by
  unfold RegDef.tidy
  decide

theorem spkDefs_off : ∀ x ∈ spkDefs, 0x40 ≤ x.1 ∧ x.1 < 0x400 := by decide

/-! ## Writes -/

/-- A block's word of a speaker's page goes to its channel. -/
theorem State.regWritten_spk (e : Option Facts) {a : Nat} (hp : a / 0x400 = pgSPK n) (ho : 0x40 ≤ a % 0x400) (old w : Word) :
    s.regWritten e a old w = s.spkWritten n (a % 0x400) old w := by
  unfold State.regWritten
  rw [if_neg (Nat.not_lt.2 ho), hp]
  match n with
  | 0 => rfl
  | 1 => rfl
  | 2 => rfl
  | 3 => rfl

/-- The write of one of these registers: its fields by their access types, then the channel's reaction. -/
theorem State.writeOne_spk (hd : (off, d) ∈ spkDefs) (h : s.mayWrite ini (0x07400 + 0x400 * n + off) w = true) :
    s.writeOne none ini (0x07400 + 0x400 * n + off) w =
      (s.setReg (0x07400 + 0x400 * n + off) (d.take (s.reg (0x07400 + 0x400 * n + off)) w).1).spkWritten n off
        (s.reg (0x07400 + 0x400 * n + off)) w := by
  obtain ⟨hplace, hdef⟩ := spkDefs_served (n := n) _ hd
  obtain ⟨hlo, hhi⟩ := spkDefs_off _ hd
  have hn := n.isLt
  have hpage : (0x07400 + 0x400 * n.val + off) / 0x400 = pgSPK n := by
    simp only [pgSPK]
    omega
  have hoff : (0x07400 + 0x400 * n.val + off) % 0x400 = off := by omega
  rw [State.writeOne_of_page (by omega) (by omega) h hplace hdef, State.regWritten_spk none hpage (by omega), hoff]

/-- The channel's island is powered where one of these registers may be written. -/
theorem State.spkOn_of_mayWrite (hd : (off, d) ∈ spkDefs) (h : s.mayWrite ini (0x07400 + 0x400 * n + off) w = true) :
    s.islandOn (.spk n) = true := by
  have hisland : islandOf (pgSPK n) = .spk n := by
    clear hd h
    revert n
    decide
  rw [← hisland]
  exact State.islandOn_of_mayWrite h (spkDefs_served _ hd).1 (spkDefs_off _ hd).1

/-- A stored field of one of these registers holds what is written. -/
theorem State.get_spkTaken {f : Fld} {r : List (Nat × Nat)} (hd : (off, d) ∈ spkDefs)
    (h : s.mayWrite ini (0x07400 + 0x400 * n + off) w = true) (ha : f.addr = 0x07400 + 0x400 * n + off)
    (hf : ⟨f.lo, f.w, .rw, r⟩ ∈ d.fields) :
    (s.setReg (0x07400 + 0x400 * n + off) (d.take (s.reg (0x07400 + 0x400 * n + off)) w).1).get f = bits w f.lo f.w := by
  obtain ⟨hplace, hdef⟩ := spkDefs_served (n := n) _ hd
  exact State.get_taken h hplace hdef (spkDefs_tidy _ hd) ha hf

theorem Touches.setReg_spk {a : Nat} {x : Word} {fs : List Fld} (h : whole a ∈ fs) : Touches [.spk] [] fs s (s.setReg a x) :=
  (Touches.refl _ _ _ s).setReg x (.inr h)

end Sys2Proof.Machine
end

section
/-! PROOFS. O17: writes of a speaker channel's registers (R139, R141, R143, R145, R147, R150, R154, R155). -/

namespace Sys2Proof.Machine

variable {s t : State} {n : Fin 4} {us : Nat}

theorem spkStatus_addr : ∀ f ∈ spkStatusFlds n, f.addr = A.SPK_STATUS n := by
  simp [spkStatusFlds, F.SPK_STATUS_STATE, F.SPK_STATUS_DOMAIN, F.SPK_STATUS_HIZ]

/-- A step that shows in the channel's status leaves the other registers. -/
theorem Touches.spkStatus_get {ps : List Part} {f : Fld} (h : Touches ps [] (spkStatusFlds n) s t) (hf : A.SPK_STATUS n ≠ f.addr) :
    t.get f = s.get f :=
  h.get_keeps fun g hg => .inl (spkStatus_addr g hg ▸ hf)

/-! ## EN and ENABLE (R154, R155) -/

theorem State.spkDrive_on (hpg : s.on (F.PG_ENABLE (pgSPK n)) = true) (hen : s.on (F.SPK_CTRL_EN n) = true) :
    s.spkDrive n = s.spkTryStart n := by
  rw [State.spkDrive, hpg, hen]
  rfl

theorem State.spkDrive_off (h : s.on (F.PG_ENABLE (pgSPK n)) = false ∨ s.on (F.SPK_CTRL_EN n) = false) :
    s.spkDrive n = s.spkStop n := by
  rw [State.spkDrive, if_neg]
  rw [Bool.and_eq_true, not_and_or, Bool.not_eq_true, Bool.not_eq_true]
  exact h

/-- A channel past its start begins none. -/
theorem State.spkTryStart_busy (h : (s.spkAt n).phase ≠ .off) : s.spkTryStart n = s := by
  rw [State.spkTryStart, State.spkMay, decide_eq_false h, Bool.and_false, Bool.false_and, Bool.false_and, Bool.false_and,
    State.when_false]

theorem State.spkStop_sounding (h : (s.spkAt n).phase = .running ∨ (s.spkAt n).phase = .unmuting) :
    s.spkStop n = s.spkDown n .stopping 1000 := by
  unfold State.spkStop
  rcases h with h | h <;> rw [h]

theorem State.spkStop_fault (h : (s.spkAt n).phase = .fault) : s.spkStop n = (s.spkHiz n).spkPhase n .off 1000 := by
  unfold State.spkStop
  rw [h]

theorem State.spkRelease_spkAt : (s.spkRelease n).spkAt n =
    { s.spkAt n with active := (s.spkAt n).active.filter (fun c => decide (4 ≤ c)), latched := false } :=
  s.spkAt_modSpk_self n.isLt _

/-- The channel as SPKn_CTRL leaves it: a cleared EN releases the latched causes, then EN and ENABLE drive it. -/
def State.spkDriven (s : State) (n : Nat) : State := (s.when (!s.on (F.SPK_CTRL_EN n)) (·.spkRelease n)).spkDrive n

theorem State.spkCtrlWritten_eq : ∃ us, s.spkCtrlWritten n = (s.spkDriven n).spkSync n us := ⟨_, rfl⟩

theorem State.spkDriven_on (hen : s.on (F.SPK_CTRL_EN n) = true) : s.spkDriven n = s.spkDrive n := by
  rw [State.spkDriven, hen, Bool.not_true, State.when_false]

theorem State.spkDriven_off (hen : s.on (F.SPK_CTRL_EN n) = false) : s.spkDriven n = (s.spkRelease n).spkStop n := by
  have hrel : (s.spkRelease n).on (F.SPK_CTRL_EN n) = false := hen
  rw [State.spkDriven, hen, Bool.not_false, State.when_true, State.spkDrive_off (.inr hrel)]

theorem State.spkCtrlWritten_touches : Touches [.spk] [] (spkStatusFlds n) s (s.spkCtrlWritten n) := by
  obtain ⟨us, hus⟩ := s.spkCtrlWritten_eq (n := n)
  have hrel : Touches [.spk] [] (spkStatusFlds n) s (s.when (!s.on (F.SPK_CTRL_EN n)) (·.spkRelease n)) :=
    (Touches.refl _ _ _ s).when _ (fun _ => (Touches.refl _ _ _ s).modSpk n _ (by simp))
  rw [hus]
  exact (hrel.trans State.spkDrive_touches).trans State.spkSync_touches

theorem State.spkCtrlWritten_phase : ((s.spkCtrlWritten n).spkAt n).phase = ((s.spkDriven n).spkAt n).phase := by
  obtain ⟨us, hus⟩ := s.spkCtrlWritten_eq (n := n)
  rw [hus, State.spkSync_phase us n.isLt]

/-- Status and gain leave whether the PLLs run. -/
theorem State.spkSync_clocks : (s.spkSync n us).spkClocks n = s.spkClocks n := by
  obtain ⟨pop, popUs, hrec⟩ := s.spkSync_spkAt (n := n) (us := us)
  refine State.spkClocks_congr (fun a ha => State.spkSync_touches.reg_eq List.not_mem_nil fun f hf => ?_) (by rw [hrec])
  rw [spkStatus_addr f hf, A.SPK_STATUS]
  omega

theorem State.spkCtrlWritten_state : (s.spkCtrlWritten n).get (F.SPK_STATUS_STATE n) =
    spkShown ((s.spkDriven n).spkAt n).phase ((s.spkCtrlWritten n).spkClocks n) ((s.spkDriven n).on (F.SPK_CTRL_MUTE n)) := by
  obtain ⟨us, hus⟩ := s.spkCtrlWritten_eq (n := n)
  rw [hus, State.spkSync_state, State.spkSync_clocks]

/-- A channel that EN or ENABLE switches on begins its start where nothing holds it off. -/
theorem State.spkDriven_starts (hpg : s.on (F.PG_ENABLE (pgSPK n)) = true) (hen : s.on (F.SPK_CTRL_EN n) = true)
    (hi : s.islandOn (.spk n) = true) (hoff : (s.spkAt n).phase = .off) (ha : (s.spkAt n).active = []) (hc : s.collapsed = false)
    (hq : s.isQuiet (14 + n) = false) : ((s.spkDriven n).spkAt n).phase = .waiting := by
  have hable : s.spkAble n = true := by
    rw [State.spkAble, hpg, hen, hi]
    rfl
  have hstopped : s.spkStopped n = false := by
    rw [State.spkStopped, ha]
    rfl
  rw [State.spkDriven_on hen, State.spkDrive_on hpg hen, State.spkTryStart_begins hable hoff hstopped hc hq]
  exact State.spkBegin_spkAt.1

/-- A channel that is switched off while it sounds ramps down to stop. -/
theorem State.spkDriven_stops (h : s.on (F.PG_ENABLE (pgSPK n)) = false ∨ s.on (F.SPK_CTRL_EN n) = false)
    (hp : (s.spkAt n).phase = .running ∨ (s.spkAt n).phase = .unmuting) : ((s.spkDriven n).spkAt n).phase = .stopping := by
  cases hen : s.on (F.SPK_CTRL_EN n)
  · rw [State.spkDriven_off hen, State.spkStop_sounding (by rw [State.spkRelease_spkAt]; exact hp)]
    exact State.spkDown_phase _ _ n.isLt
  · have hpg := h.resolve_right (by rw [hen]; nofun)
    rw [State.spkDriven_on hen, State.spkDrive_off (.inl hpg), State.spkStop_sounding hp]
    exact State.spkDown_phase _ _ n.isLt

/-- EN 0 takes FAULT to OFF and releases the overcurrent latch. -/
theorem State.spkCtrlWritten_releases (hen : s.on (F.SPK_CTRL_EN n) = false) (hp : (s.spkAt n).phase = .fault) :
    ((s.spkCtrlWritten n).spkAt n).phase = .off ∧ ((s.spkCtrlWritten n).spkAt n).latched = false ∧
    1 ∉ ((s.spkCtrlWritten n).spkAt n).active := by
  have hfault : ((s.spkRelease n).spkAt n).phase = .fault := by
    rw [State.spkRelease_spkAt]
    exact hp
  obtain ⟨us, hus⟩ := s.spkCtrlWritten_eq (n := n)
  obtain ⟨pop1, popUs1, hsync⟩ := (s.spkDriven n).spkSync_spkAt (n := n) (us := us)
  obtain ⟨pop2, popUs2, hphase⟩ := ((s.spkRelease n).spkHiz n).spkPhase_spkAt (n := n) (p := .off) (us := 1000)
  rw [hus, hsync, State.spkDriven_off hen, State.spkStop_fault hfault, hphase, State.spkHiz_spkAt, State.spkRelease_spkAt]
  exact ⟨rfl, rfl, by simp⟩

/-! ## MUTE (R139) -/

/-- A running channel that stays enabled follows MUTE. -/
theorem State.spkCtrlWritten_running (hpg : s.on (F.PG_ENABLE (pgSPK n)) = true) (hen : s.on (F.SPK_CTRL_EN n) = true)
    (hp : (s.spkAt n).phase = .running) : ∃ us, s.spkCtrlWritten n = s.spkSync n us := by
  obtain ⟨us, hus⟩ := s.spkCtrlWritten_eq (n := n)
  exact ⟨us, by rw [hus, State.spkDriven_on hen, State.spkDrive_on hpg hen, State.spkTryStart_busy (by rw [hp]; nofun)]⟩

theorem State.spkOpen_muted (h : s.on (F.SPK_CTRL_MUTE n) = true) : s.spkOpen n = false := by
  rw [State.spkOpen, h, Bool.not_true, Bool.and_false, Bool.false_and, Bool.false_and, Bool.false_and]

/-! ## Format (R141) -/

theorem State.spkApply_touches : Touches [.spk] [] (spkStatusFlds n) s (s.spkApply n) := (Touches.refl _ _ _ s).spkApply (by simp)

theorem State.spkRefill_touches : Touches [.spk] [] (spkStatusFlds n) s (s.spkRefill n) := by
  unfold State.spkRefill
  extract_lets s1
  have h1 : Touches [.spk] [] (spkStatusFlds n) s s1 := State.spkApply_touches.modSpk n _ (by simp)
  split
  · exact h1.trans (State.spkPhase_touches (by decide))
  · exact (h1.trans State.spkHiz_touches).trans (State.spkPhase_touches (by decide))

theorem State.spkFmtWritten_touches {old : Word} : Touches [.spk] [] (spkStatusFlds n) s (s.spkFmtWritten n old) := by
  have hdown : Touches [.spk] [] (spkStatusFlds n) s (s.spkDown n .recMute 1000) := State.spkDown_touches (by decide)
  have happly : Touches [.spk] [] (spkStatusFlds n) s ((s.spkApply n).spkSync n 5000) :=
    State.spkApply_touches.trans State.spkSync_touches
  have hnone : Touches [.spk] [] (spkStatusFlds n) s s := Touches.refl _ _ _ s
  unfold State.spkFmtWritten
  split
  · exact hnone
  · cases (s.spkAt n).phase
    case running | unmuting | recRamp => exact hdown
    case recFill => exact State.spkRefill_touches
    case waiting | off | fault | quiesced => exact happly
    case recMute | stopping | faultStop | uvRamp => exact hnone

/-- Another format starts the reconfiguration of a running channel. -/
theorem State.spkFmtWritten_running {old : Word} (hp : (s.spkAt n).phase = .running)
    (h : ¬ (s.get (F.SPK_FMT_RATE n) = bits old 0 4 ∧ s.get (F.SPK_FMT_FILTER n) = bits old 4 2 ∧
      s.get (F.SPK_FMT_FS n) = bits old 8 3)) :
    s.spkFmtWritten n old = s.spkDown n .recMute 1000 := by
  rw [State.spkFmtWritten, if_neg h, hp]

/-! ## Volume (R139) -/

/-- A move over no samples steps. -/
theorem DbRamp.to_zero (r : DbRamp) (code : Nat) : r.to code 0 = DbRamp.at code := if_pos (Or.inl rfl)

/-- The milliseconds of VRAMP. -/
def vrampMs : Nat → Nat
  | 0 => 0 | 1 => 1 | 2 => 10 | _ => 100

/-- The samples of a volume's ramp. -/
def State.spkVolLen (s : State) (n : Nat) : Nat :=
  if vrampMs (s.get (F.SPK_VOL_VRAMP n)) = 0 then 0 else samplesIn (vrampMs (s.get (F.SPK_VOL_VRAMP n)) * 1000) (feHz s.fe)

/-- The volume's ramp towards GAIN. -/
def State.spkVolTo (s : State) (n : Nat) : State :=
  s.modSpk n (fun a => { a with vol := a.vol.to (s.get (F.SPK_VOL_GAIN n)) (s.spkVolLen n) })

theorem State.spkVolWritten_eq : s.spkVolWritten n = (s.spkVolTo n).when (decide (s.spkVolLen n = 0))
    (fun s => s.set (F.SPK_VOL_GAIN_NOW n) (s.spkAt n).vol.code) := rfl

theorem State.spkVolTo_touches : Touches [.spk] [] [F.SPK_VOL_GAIN_NOW n] s (s.spkVolTo n) := (Touches.refl _ _ _ s).modSpk n _ (by simp)

theorem State.spkVolWritten_touches : Touches [.spk] [] [F.SPK_VOL_GAIN_NOW n] s (s.spkVolWritten n) := by
  rw [State.spkVolWritten_eq]
  exact State.spkVolTo_touches.when _ (fun _ => State.spkVolTo_touches.set _ (.inr (by simp)))

/-- With VRAMP 0 the volume steps. -/
theorem State.spkVolWritten_vol (h : s.get (F.SPK_VOL_VRAMP n) = 0) :
    ((s.spkVolWritten n).spkAt n).vol = DbRamp.at (s.get (F.SPK_VOL_GAIN n)) := by
  have hlen : s.spkVolLen n = 0 := by
    rw [State.spkVolLen, h]
    rfl
  rw [State.spkVolWritten_eq, hlen, decide_eq_true rfl, State.when_true, State.set_spkAt, State.spkVolTo,
    State.spkAt_modSpk_self _ n.isLt, hlen]
  exact (s.spkAt n).vol.to_zero _

theorem State.spkVolWritten_get {f : Fld} (h : (F.SPK_VOL_GAIN_NOW n).off f) : (s.spkVolWritten n).get f = s.get f :=
  State.spkVolWritten_touches.get_keeps fun g hg => by
    rw [List.mem_singleton.mp hg]
    obtain ⟨-, hoff⟩ := h
    exact hoff

/-! ## Carrier (R143) -/

theorem State.spkPwmWritten_off (h : (s.spkAt n).phase = .off) : s.spkPwmWritten n = s.modSpk n (fun a => { a with
    car := { a.car with spread := s.get (F.SPK_PWM_SPREAD n), phase := s.get (F.SPK_PWM_PHASE n) } }) := by
  rw [State.spkPwmWritten, decide_eq_true h, State.when_true]

theorem State.spkPwmWritten_on (h : (s.spkAt n).phase ≠ .off) : s.spkPwmWritten n = s := by
  rw [State.spkPwmWritten, decide_eq_false h, State.when_false]

theorem State.spkPwmWritten_touches {fs : List Fld} : Touches [.spk] [] fs s (s.spkPwmWritten n) :=
  (Touches.refl _ _ _ s).when _ (fun _ => (Touches.refl _ _ _ s).modSpk n _ (by simp))

theorem State.spkPwmWritten_get {f : Fld} : (s.spkPwmWritten n).get f = s.get f :=
  State.spkPwmWritten_touches.get_keeps (fs := []) (by simp)

/-- The carrier of a stopped channel takes SPREAD and PHASE. -/
theorem State.spkPwmWritten_car (h : (s.spkAt n).phase = .off) : ((s.spkPwmWritten n).spkAt n).car.spread = s.get (F.SPK_PWM_SPREAD n) ∧
    ((s.spkPwmWritten n).spkAt n).car.phase = s.get (F.SPK_PWM_PHASE n) := by
  rw [State.spkPwmWritten_off h, State.spkAt_modSpk_self _ n.isLt]
  exact ⟨rfl, rfl⟩

/-! ## Ceiling (R145) -/

/-- Of SPKn_CEIL a word that may be written replaces RATED alone. -/
theorem spkCeilDef_take {old w : Word} (h : (spkCeilDef.take old w).2 = false) :
    (spkCeilDef.take old w).1 = setBits old 8 8 (bits w 8 8) := by
  have htake : spkCeilDef.take old w =
      if [(241, 254)].any (fun r => decide (r.1 ≤ bits w 8 8) && decide (bits w 8 8 ≤ r.2)) then (old, true)
      else (setBits old 8 8 (bits w 8 8), false) := rfl
  rw [htake] at h ⊢
  split at h
  · exact Bool.noConfusion h
  · next hr => rw [if_neg hr]

/-- A write of SPKn_CEIL holds RATED, and the larger code is in force. -/
theorem State.writeOne_spkCeil {ini : Nat} {w : Word} (h : s.mayWrite ini (A.SPK_CEIL n) w = true) :
    s.writeOne none ini (A.SPK_CEIL n) w = (s.set (F.SPK_CEIL_RATED n) (bits w 8 8)).spkCeilSync n := by
  have hd : (0x054, spkCeilDef) ∈ spkDefs := by decide
  obtain ⟨hplace, hdef⟩ := spkDefs_served (n := n) _ hd
  have htake := spkCeilDef_take (State.take_of_mayWrite h hplace hdef)
  exact (State.writeOne_spk hd h).trans (congrArg (fun x => (s.setReg (A.SPK_CEIL n) x).spkCeilSync n) htake)

theorem State.spkCeilRated {v : Nat} (hv : v < 256) : ((s.set (F.SPK_CEIL_RATED n) v).spkCeilSync n).get (F.SPK_CEIL_RATED n) = v ∧
    ((s.set (F.SPK_CEIL_RATED n) v).spkCeilSync n).get (F.SPK_CEIL_EFFECTIVE n) = max (s.get (F.SPK_CEIL_BELLOWS n)) v ∧
    ((s.set (F.SPK_CEIL_RATED n) v).spkCeilSync n).get (F.SPK_CEIL_BELLOWS n) = s.get (F.SPK_CEIL_BELLOWS n) := by
  have hrated : (s.set (F.SPK_CEIL_RATED n) v).get (F.SPK_CEIL_RATED n) = v :=
    (State.get_set_in (Nat.le_of_ble_eq_true rfl) v).trans (Nat.mod_eq_of_lt hv)
  have hbellows : (s.set (F.SPK_CEIL_RATED n) v).get (F.SPK_CEIL_BELLOWS n) = s.get (F.SPK_CEIL_BELLOWS n) :=
    State.get_set_off (Fld.off_of_bits rfl rfl) v
  have hlt : s.get (F.SPK_CEIL_BELLOWS n) < 256 := s.get_lt _
  rw [State.spkCeilSync, hrated, hbellows]
  refine ⟨?_, ?_, ?_⟩
  · rw [State.get_set_off (Fld.off_of_bits rfl rfl), hrated]
  · rw [State.get_set_in (Nat.le_of_ble_eq_true rfl)]
    exact Nat.mod_eq_of_lt (max_lt hlt hv)
  · rw [State.get_set_off (Fld.off_of_bits rfl rfl), hbellows]

/-! ## Guard (R147, R150) -/

/-- Is the guard switched on by this word? -/
def State.spkGuardOn (s : State) (n : Nat) (old : Word) : Bool := s.on (F.SPK_GUARD_CTRL_EN n) && decide (bits old 0 1 = 0)

/-- The models as they are seeded: with the guard's registers where it is switched on. -/
def State.spkSeeded (s : State) (n : Nat) (on : Bool) : State := (s.when on (·.spkLatch n)).spkSeed n

/-- What follows in every write: the pilot ends where it may not run, then CFG_ERR and the protection status. -/
def State.spkGuardShown (s : State) (n : Nat) : State :=
  ((s.when (!s.on (F.SPK_GUARD_CTRL_EN n) || !s.on (F.SPK_GUARD_CTRL_PILOT_EN n)) (·.set (F.SPK_GUARD_STATUS_PILOT_ON n) 0)).spkCfgSync
    n).spkProt n

theorem State.spkGuardWritten_eq {old : Word} {reseed : Bool} : s.spkGuardWritten n old reseed =
    ((s.when (s.spkGuardOn n old) (·.spkLatch n)).when (s.spkGuardOn n old || reseed) (·.spkSeed n)).spkGuardShown n := by
  unfold State.spkGuardWritten State.spkGuardShown State.spkGuardOn
  rfl

theorem State.spkGuardWritten_seeds {old : Word} {reseed : Bool} (h : (s.spkGuardOn n old || reseed) = true) :
    s.spkGuardWritten n old reseed = (s.spkSeeded n (s.spkGuardOn n old)).spkGuardShown n := by
  rw [State.spkGuardWritten_eq, h, State.when_true, State.spkSeeded]

theorem State.spkGuardWritten_keeps {old : Word} (h : s.spkGuardOn n old = false) : s.spkGuardWritten n old false = s.spkGuardShown n := by
  rw [State.spkGuardWritten_eq, h, Bool.or_false, State.when_false, State.when_false]

/-- The fields of the tail. -/
def spkShownFlds (n : Nat) : List Fld := F.SPK_GUARD_STATUS_PILOT_ON n :: F.SPK_GUARD_STATUS_CFG_ERR n :: spkProtFlds n

theorem State.spkGuardShown_touches : Touches [] [] (spkShownFlds n) s (s.spkGuardShown n) := by
  have hpilot : Touches [] [] (spkShownFlds n) s
      (s.when (!s.on (F.SPK_GUARD_CTRL_EN n) || !s.on (F.SPK_GUARD_CTRL_PILOT_EN n)) (·.set (F.SPK_GUARD_STATUS_PILOT_ON n) 0)) :=
    (Touches.refl _ _ _ s).when _ (fun _ => (Touches.refl _ _ _ s).set _ (.inr (by simp [spkShownFlds])))
  exact (hpilot.step State.spkCfgSync_touches (by simp) (by simp [spkShownFlds])).step State.spkProt_touches (by simp)
    (fun f hf => .inl (by simp [spkShownFlds, hf]))

theorem State.spkGuardShown_spkAt (m : Nat) : (s.spkGuardShown n).spkAt m = s.spkAt m := by
  rw [State.spkAt, State.spkGuardShown_touches.1 .spk (by simp), ← State.spkAt]

theorem spkShownFlds_apart : ∀ f ∈ spkShownFlds n, f.apart (F.SPK_GUARD_STATUS_SEEDED n) ∧ f.addr ≠ A.SPK_GUARD_CTRL n ∧
    f.addr / 0x400 ≠ 2 := by
  unfold Fld.apart
  revert n
  decide

theorem State.spkLatched_touches {on : Bool} : Touches [.spk] [] [] s (s.when on (·.spkLatch n)) :=
  (Touches.refl _ _ _ s).when _ (fun _ => (Touches.refl _ _ _ s).modSpk n _ (by simp))

theorem State.spkSeeded_touches {on : Bool} : Touches [.spk] [] (spkSeedFlds n) s (s.spkSeeded n on) :=
  (State.spkLatched_touches.mono (by simp) (by simp) (by simp)).trans State.spkSeed_touches

theorem spkSeedFlds_apart : ∀ f ∈ spkSeedFlds n, f.addr ≠ A.SPK_GUARD_CTRL n ∧ f.addr / 0x400 ≠ 2 := by
  revert n
  decide

theorem State.spkGuardSeeded_spkTa {on : Bool} : ((s.spkSeeded n on).spkGuardShown n).spkTa n = s.spkTa n := by
  rw [State.spkGuardShown_touches.spkTa fun f hf => (spkShownFlds_apart f hf).2, State.spkSeeded_touches.spkTa spkSeedFlds_apart]

theorem spkTemp_apart : A.SPK_GUARD_TEMP n ≠ A.SPK_GUARD_STATUS n := by
  revert n
  decide

theorem State.spkSeed_seeded : (s.spkSeed n).get (F.SPK_GUARD_STATUS_SEEDED n) = 0 := by
  rw [State.spkSeed, State.spkTemps_touches.get_keeps fun g hg => .inl (List.mem_singleton.mp hg ▸ spkTemp_apart),
    State.get_set_in (Nat.le_of_ble_eq_true rfl)]
  rfl

/-- Both nodes at T_a + SEED_MARGIN, the excursion state clear, SEEDED down (R150). -/
theorem State.spkGuardSeeded {on : Bool} :
    (((s.spkSeeded n on).spkGuardShown n).spkAt n).seededOnce = true ∧
    ((s.spkSeeded n on).spkGuardShown n).get (F.SPK_GUARD_STATUS_SEEDED n) = 0 ∧
    (((s.spkSeeded n on).spkGuardShown n).spkAt n).x1 = 0 ∧ (((s.spkSeeded n on).spkGuardShown n).spkAt n).x2 = 0 ∧
    (((s.spkSeeded n on).spkGuardShown n).spkAt n).tc =
      ((s.spkSeeded n on).spkGuardShown n).spkTa n + (s.get (F.SPK_GUARD_TL_SEED_MARGIN n) : Int) * 65536 ∧
    (((s.spkSeeded n on).spkGuardShown n).spkAt n).tm = (((s.spkSeeded n on).spkGuardShown n).spkAt n).tc := by
  have htemp : (s.when on (·.spkLatch n)).spkSeedTemp n = s.spkSeedTemp n := by
    rw [State.spkSeedTemp, State.spkLatched_touches.spkTa (by simp), State.spkLatched_touches.get_keeps (by simp), State.spkSeedTemp]
  have hrec := State.spkSeed_spkAt (s := s.when on (·.spkLatch n)) (n := n)
  rw [htemp, ← State.spkSeeded] at hrec
  rw [State.spkGuardSeeded_spkTa, State.spkGuardShown_spkAt, hrec,
    State.spkGuardShown_touches.get_keeps fun f hf => (spkShownFlds_apart f hf).1]
  exact ⟨rfl, State.spkSeed_seeded, rfl, rfl, rfl, rfl⟩

/-- The fields that a write of SPKn_GUARD_CTRL shows in. -/
def spkGuardFlds (n : Nat) : List Fld :=
  whole (A.SPK_GUARD_CTRL n) :: whole (A.SPK_GUARD_STATUS n) :: whole (A.SPK_GUARD_TEMP n) :: spkProtFlds n

theorem Touches.spkGuardShown (h : Touches [.spk] [] (spkGuardFlds n) s t) : Touches [.spk] [] (spkGuardFlds n) s (t.spkGuardShown n) := by
  refine h.step State.spkGuardShown_touches (by simp) ?_
  simp only [spkShownFlds, List.forall_mem_cons]
  exact ⟨.inr (by simp [spkGuardFlds, F.SPK_GUARD_STATUS_PILOT_ON]), .inr (by simp [spkGuardFlds, F.SPK_GUARD_STATUS_CFG_ERR]),
    fun f hf => .inl (by simp [spkGuardFlds, hf])⟩

theorem Touches.spkSeeded {on : Bool} (h : Touches [.spk] [] (spkGuardFlds n) s t) :
    Touches [.spk] [] (spkGuardFlds n) s (t.spkSeeded n on) := by
  refine h.step State.spkSeeded_touches (by simp) ?_
  simp only [spkSeedFlds, List.forall_mem_cons]
  exact ⟨.inr (by simp [spkGuardFlds, F.SPK_GUARD_STATUS_SEEDED]), .inl (by simp [spkGuardFlds]), nofun⟩

/-! ## PG_CTRL (R60, R154) -/

/-- PG_CTRL of a speaker's page. -/
def spkPageDef : RegDef := .mk 0x004 1 4 0 64 0x0 [] false [.mk 2 1 .w1s [], .mk 0 1 .rw []]

theorem spkPageDef_served : placeOf (pgSPK n * 0x400 + 4) = .reg (pgSPK n) 4 ∧ regDefAt (pgSPK n * 0x400 + 4) = some spkPageDef := by
  revert n
  decide

theorem State.enableWritten_spk : s.enableWritten (pgSPK n) = s.spkCtrlWritten n :=
  match n with
  | 0 => rfl
  | 1 => rfl
  | 2 => rfl
  | 3 => rfl

/-- A word of PG_CTRL that changes ENABLE moves the channel, then ERR_CLR acts. -/
theorem State.writeOne_spkPage {ini : Nat} {w : Word} (h : s.mayWrite ini (pgSPK n * 0x400 + 4) w = true)
    (hne : s.get (F.PG_ENABLE (pgSPK n)) ≠ bits w 0 1) : s.writeOne none ini (pgSPK n * 0x400 + 4) w =
      ((s.set (F.PG_ENABLE (pgSPK n)) (bits w 0 1)).spkCtrlWritten n).when (hit w 2) (·.errClr (pgSPK n)) := by
  obtain ⟨hplace, hdef⟩ := spkPageDef_served (n := n)
  have hn := n.isLt
  have hpg : pgSPK n = 0x1D + n := rfl
  have hpage : (pgSPK n * 0x400 + 4) / 0x400 = pgSPK n := by omega
  have hoff : (pgSPK n * 0x400 + 4) % 0x400 = 4 := by omega
  have henable : (s.set (F.PG_ENABLE (pgSPK n)) (bits w 0 1)).get (F.PG_ENABLE (pgSPK n)) = bits w 0 1 :=
    (State.get_set_in (Nat.le_of_ble_eq_true rfl) _).trans (Nat.mod_eq_of_lt (bits_lt w 0 1))
  have hset : s.setReg (pgSPK n * 0x400 + 4) (spkPageDef.take (s.reg (pgSPK n * 0x400 + 4)) w).1 =
      s.set (F.PG_ENABLE (pgSPK n)) (bits w 0 1) := rfl
  have hchanged : bits (s.reg (pgSPK n * 0x400 + 4)) 0 1 ≠ bits w 0 1 := hne
  rw [State.writeOne_of_page (by omega) (by omega) h hplace hdef, hset, State.regWritten_of_header _ none (by omega), hpage, hoff,
    State.headerWritten, if_pos rfl, henable, decide_eq_true hchanged, State.when_true, State.enableWritten_spk]

theorem State.errClr_touches (p : Nat) :
    Touches [] [] [F.PG_LAST_VIOL p, F.PG_VIOL_COUNT p, F.PG_ERR_ADDR p, F.PG_FAULT p] s (s.errClr p) :=
  (Touches.refl _ _ _ s).errClr p (List.Subset.refl _)

theorem spkPage_apart : A.SPK_STATUS n ≠ (F.PG_ENABLE (pgSPK n)).addr := by
  revert n
  decide

/-- ENABLE as a write holds it, and the channel, which ERR_CLR leaves. -/
theorem State.spkPageWritten {v : Nat} (b : Bool) (hv : v < 2) :
    (((s.set (F.PG_ENABLE (pgSPK n)) v).spkCtrlWritten n).when b (·.errClr (pgSPK n))).get (F.PG_ENABLE (pgSPK n)) = v ∧
    (((s.set (F.PG_ENABLE (pgSPK n)) v).spkCtrlWritten n).when b (·.errClr (pgSPK n))).spkAt n =
      ((s.set (F.PG_ENABLE (pgSPK n)) v).spkCtrlWritten n).spkAt n ∧
    Touches [.spk] [] (F.PG_ENABLE (pgSPK n) :: whole (pgSPK n * 0x400 + 0x018) :: whole (pgSPK n * 0x400 + 0x01C) :: spkStatusFlds n)
      s (((s.set (F.PG_ENABLE (pgSPK n)) v).spkCtrlWritten n).when b (·.errClr (pgSPK n))) := by
  have hclear (t : State) : Touches [] [] [F.PG_LAST_VIOL (pgSPK n), F.PG_VIOL_COUNT (pgSPK n), F.PG_ERR_ADDR (pgSPK n),
      F.PG_FAULT (pgSPK n)] t (t.when b (·.errClr (pgSPK n))) := (Touches.refl _ _ _ t).when b (fun _ => t.errClr_touches _)
  have henable : (s.set (F.PG_ENABLE (pgSPK n)) v).get (F.PG_ENABLE (pgSPK n)) = v :=
    (State.get_set_in (Nat.le_of_ble_eq_true rfl) v).trans (Nat.mod_eq_of_lt hv)
  refine ⟨?_, ?_, ?_⟩
  · rw [(hclear _).get_keeps (by simp [F.PG_LAST_VIOL, F.PG_VIOL_COUNT, F.PG_ERR_ADDR, F.PG_FAULT, F.PG_ENABLE]),
      State.spkCtrlWritten_touches.spkStatus_get spkPage_apart, henable]
  · rw [State.spkAt, (hclear _).1 .spk (by simp), ← State.spkAt]
  · have hset : Touches [.spk] [] (F.PG_ENABLE (pgSPK n) :: whole (pgSPK n * 0x400 + 0x018) :: whole (pgSPK n * 0x400 + 0x01C) ::
        spkStatusFlds n) s (s.set (F.PG_ENABLE (pgSPK n)) v) := (Touches.refl _ _ _ s).set _ (.inr (by simp))
    exact (hset.step State.spkCtrlWritten_touches (by simp) (fun f hf => .inl (by simp [hf]))).step (hclear _) (by simp)
      (by simp [F.PG_LAST_VIOL, F.PG_VIOL_COUNT, F.PG_ERR_ADDR, F.PG_FAULT])

/-! ## The registers as they are written -/

theorem State.collapsed_setReg {a : Nat} {x : Word} (h : a ≠ F.JCK_HOLD_STATUS_MUTED.addr) : (s.setReg a x).collapsed = s.collapsed := by
  rw [State.collapsed, State.on_setReg_ne _ x h, State.collapsed]
  rfl

theorem spkRegs_apart : A.SPK_CTRL n ≠ F.JCK_HOLD_STATUS_MUTED.addr ∧ (F.PG_ENABLE (pgSPK n)).addr ≠ F.JCK_HOLD_STATUS_MUTED.addr ∧
    A.SPK_CTRL n ≠ (F.PG_ENABLE (pgSPK n)).addr ∧ A.SPK_STATUS n ≠ A.SPK_CTRL n ∧ A.SPK_STATUS n ≠ A.SPK_FMT n ∧
    A.SPK_GUARD_CTRL n ≠ A.SPK_GUARD_TL n := by
  revert n
  decide

/-- The state in which SPKn_CTRL holds a word that may be written. -/
def State.spkCtrlHeld (s : State) (n : Nat) (w : Word) : State :=
  s.setReg (A.SPK_CTRL n) (spkCtrlDef.take (s.reg (A.SPK_CTRL n)) w).1

theorem State.writeOne_spkCtrl {ini : Nat} {w : Word} (h : s.mayWrite ini (A.SPK_CTRL n) w = true) :
    s.writeOne none ini (A.SPK_CTRL n) w = (s.spkCtrlHeld n w).spkCtrlWritten n :=
  State.writeOne_spk (d := spkCtrlDef) (by decide) h

/-- EN and MUTE as they are written. -/
theorem State.spkCtrlHeld_get {ini : Nat} {w : Word} (h : s.mayWrite ini (A.SPK_CTRL n) w = true) :
    (s.spkCtrlHeld n w).get (F.SPK_CTRL_EN n) = bits w 0 1 ∧ (s.spkCtrlHeld n w).get (F.SPK_CTRL_MUTE n) = bits w 2 1 :=
  ⟨State.get_spkTaken (d := spkCtrlDef) (r := []) (by decide) h rfl (by simp [spkCtrlDef, F.SPK_CTRL_EN]),
    State.get_spkTaken (d := spkCtrlDef) (r := []) (by decide) h rfl (by simp [spkCtrlDef, F.SPK_CTRL_MUTE])⟩

theorem State.spkCtrlHeld_enable {w : Word} : (s.spkCtrlHeld n w).on (F.PG_ENABLE (pgSPK n)) = s.on (F.PG_ENABLE (pgSPK n)) := by
  obtain ⟨-, -, hpg, -⟩ := spkRegs_apart (n := n)
  exact State.on_setReg_ne _ _ hpg

theorem State.spkCtrlHeld_touches {w : Word} : Touches [.spk] [] (whole (A.SPK_CTRL n) :: spkStatusFlds n) s
    ((s.spkCtrlHeld n w).spkCtrlWritten n) :=
  (Touches.setReg_spk (by simp)).step State.spkCtrlWritten_touches (by simp) (fun f hf => .inl (by simp [hf]))

theorem State.spkCtrlHeld_collapsed {w : Word} : (s.spkCtrlHeld n w).collapsed = s.collapsed := by
  obtain ⟨hctrl, -⟩ := spkRegs_apart (n := n)
  exact State.collapsed_setReg hctrl

/-- SPKn_CTRL reads as it is held once the channel has followed it. -/
theorem State.spkCtrlWritten_get {f : Fld} (h : f.addr = A.SPK_CTRL n) : (s.spkCtrlWritten n).get f = s.get f := by
  obtain ⟨-, -, -, hctrl, -⟩ := spkRegs_apart (n := n)
  exact State.spkCtrlWritten_touches.spkStatus_get (h ▸ hctrl)

/-- ENABLE as it is written leaves what else holds a channel off. -/
theorem State.set_enable {v : Nat} : (s.set (F.PG_ENABLE (pgSPK n)) v).on (F.SPK_CTRL_EN n) = s.on (F.SPK_CTRL_EN n) ∧
    (s.set (F.PG_ENABLE (pgSPK n)) v).collapsed = s.collapsed := by
  obtain ⟨-, hmuted, hpg, -⟩ := spkRegs_apart (n := n)
  exact ⟨State.on_setReg_ne _ _ hpg.symm, State.collapsed_setReg hmuted⟩

/-- The state in which SPKn_GUARD_CTRL holds a word that may be written. -/
def State.spkGuardHeld (s : State) (n : Nat) (w : Word) : State :=
  s.setReg (A.SPK_GUARD_CTRL n) (spkGuardCtrlDef.take (s.reg (A.SPK_GUARD_CTRL n)) w).1

theorem State.writeOne_spkGuard {ini : Nat} {w : Word} (h : s.mayWrite ini (A.SPK_GUARD_CTRL n) w = true) :
    s.writeOne none ini (A.SPK_GUARD_CTRL n) w = (s.spkGuardHeld n w).spkGuardWritten n (s.reg (A.SPK_GUARD_CTRL n)) (hit w 4) :=
  State.writeOne_spk (d := spkGuardCtrlDef) (by decide) h

theorem State.spkGuardHeld_touches {w : Word} : Touches [.spk] [] (spkGuardFlds n) s (s.spkGuardHeld n w) :=
  Touches.setReg_spk (by simp [spkGuardFlds])

/-- EN, ZONE and REL as they are written. -/
theorem State.spkGuardHeld_get {ini : Nat} {w : Word} (h : s.mayWrite ini (A.SPK_GUARD_CTRL n) w = true) :
    (s.spkGuardHeld n w).get (F.SPK_GUARD_CTRL_EN n) = bits w 0 1 ∧ (s.spkGuardHeld n w).get (F.SPK_GUARD_CTRL_ZONE n) = bits w 8 3 ∧
    (s.spkGuardHeld n w).get (F.SPK_GUARD_CTRL_REL n) = bits w 12 2 :=
  ⟨State.get_spkTaken (d := spkGuardCtrlDef) (r := []) (by decide) h rfl (by simp [spkGuardCtrlDef, F.SPK_GUARD_CTRL_EN]),
    State.get_spkTaken (d := spkGuardCtrlDef) (r := [(6, 7)]) (by decide) h rfl (by simp [spkGuardCtrlDef, F.SPK_GUARD_CTRL_ZONE]),
    State.get_spkTaken (d := spkGuardCtrlDef) (r := []) (by decide) h rfl (by simp [spkGuardCtrlDef, F.SPK_GUARD_CTRL_REL])⟩

theorem State.spkGuardHeld_margin {w : Word} :
    (s.spkGuardHeld n w).get (F.SPK_GUARD_TL_SEED_MARGIN n) = s.get (F.SPK_GUARD_TL_SEED_MARGIN n) := by
  obtain ⟨-, -, -, -, -, htl⟩ := spkRegs_apart (n := n)
  exact State.get_setReg_ne _ _ htl

/-- What a write of SPKn_GUARD_CTRL reacts with leaves the register itself. -/
theorem State.spkGuardWritten_get {old : Word} {reseed : Bool} {f : Fld} (h : f.addr = A.SPK_GUARD_CTRL n) :
    (s.spkGuardWritten n old reseed).get f = s.get f := by
  have hshown (t : State) : (t.spkGuardShown n).get f = t.get f :=
    State.spkGuardShown_touches.get_keeps fun g hg => .inl (h ▸ (spkShownFlds_apart g hg).2.1)
  cases hb : s.spkGuardOn n old || reseed
  · obtain ⟨hon, rfl⟩ := Bool.or_eq_false_iff.mp hb
    rw [State.spkGuardWritten_keeps hon, hshown]
  · rw [State.spkGuardWritten_seeds hb, hshown]
    exact State.spkSeeded_touches.get_keeps fun g hg => .inl (h ▸ (spkSeedFlds_apart g hg).1)

theorem State.spkGuardWritten_touches {old w : Word} {reseed : Bool} :
    Touches [.spk] [] (spkGuardFlds n) s ((s.spkGuardHeld n w).spkGuardWritten n old reseed) := by
  cases hb : (s.spkGuardHeld n w).spkGuardOn n old || reseed
  · obtain ⟨hon, rfl⟩ := Bool.or_eq_false_iff.mp hb
    rw [State.spkGuardWritten_keeps hon]
    exact State.spkGuardHeld_touches.spkGuardShown
  · rw [State.spkGuardWritten_seeds hb]
    exact State.spkGuardHeld_touches.spkSeeded.spkGuardShown

/-- The state in which SPKn_FMT holds a word that may be written. -/
def State.spkFmtHeld (s : State) (n : Nat) (w : Word) : State := s.setReg (A.SPK_FMT n) (spkFmtDef.take (s.reg (A.SPK_FMT n)) w).1

theorem State.writeOne_spkFmt {ini : Nat} {w : Word} (h : s.mayWrite ini (A.SPK_FMT n) w = true) :
    s.writeOne none ini (A.SPK_FMT n) w = (s.spkFmtHeld n w).spkFmtWritten n (s.reg (A.SPK_FMT n)) :=
  State.writeOne_spk (d := spkFmtDef) (by decide) h

theorem State.spkFmtHeld_get {ini : Nat} {w : Word} (h : s.mayWrite ini (A.SPK_FMT n) w = true) :
    (s.spkFmtHeld n w).get (F.SPK_FMT_RATE n) = bits w 0 4 ∧ (s.spkFmtHeld n w).get (F.SPK_FMT_FILTER n) = bits w 4 2 ∧
    (s.spkFmtHeld n w).get (F.SPK_FMT_FS n) = bits w 8 3 :=
  ⟨State.get_spkTaken (d := spkFmtDef) (r := [(11, 15)]) (by decide) h rfl (by simp [spkFmtDef, F.SPK_FMT_RATE]),
    State.get_spkTaken (d := spkFmtDef) (r := [(3, 3)]) (by decide) h rfl (by simp [spkFmtDef, F.SPK_FMT_FILTER]),
    State.get_spkTaken (d := spkFmtDef) (r := [(5, 7)]) (by decide) h rfl (by simp [spkFmtDef, F.SPK_FMT_FS])⟩

/-- SPKn_FMT reads as it is held once the channel has followed it. -/
theorem State.spkFmtWritten_get {old : Word} {f : Fld} (h : f.addr = A.SPK_FMT n) : (s.spkFmtWritten n old).get f = s.get f := by
  obtain ⟨-, -, -, -, hfmt, -⟩ := spkRegs_apart (n := n)
  exact State.spkFmtWritten_touches.spkStatus_get (h ▸ hfmt)

/-- The state in which SPKn_VOL holds a word that may be written. -/
def State.spkVolHeld (s : State) (n : Nat) (w : Word) : State := s.setReg (A.SPK_VOL n) (spkVolDef.take (s.reg (A.SPK_VOL n)) w).1

theorem State.writeOne_spkVol {ini : Nat} {w : Word} (h : s.mayWrite ini (A.SPK_VOL n) w = true) :
    s.writeOne none ini (A.SPK_VOL n) w = (s.spkVolHeld n w).spkVolWritten n := State.writeOne_spk (d := spkVolDef) (by decide) h

theorem State.spkVolHeld_get {ini : Nat} {w : Word} (h : s.mayWrite ini (A.SPK_VOL n) w = true) :
    (s.spkVolHeld n w).get (F.SPK_VOL_GAIN n) = bits w 0 12 ∧ (s.spkVolHeld n w).get (F.SPK_VOL_VRAMP n) = bits w 12 2 :=
  ⟨State.get_spkTaken (d := spkVolDef) (r := []) (by decide) h rfl (by simp [spkVolDef, F.SPK_VOL_GAIN]),
    State.get_spkTaken (d := spkVolDef) (r := []) (by decide) h rfl (by simp [spkVolDef, F.SPK_VOL_VRAMP])⟩

/-- The state in which SPKn_PWM holds a word that may be written. -/
def State.spkPwmHeld (s : State) (n : Nat) (w : Word) : State := s.setReg (A.SPK_PWM n) (spkPwmDef.take (s.reg (A.SPK_PWM n)) w).1

theorem State.writeOne_spkPwm {ini : Nat} {w : Word} (h : s.mayWrite ini (A.SPK_PWM n) w = true) :
    s.writeOne none ini (A.SPK_PWM n) w = (s.spkPwmHeld n w).spkPwmWritten n := State.writeOne_spk (d := spkPwmDef) (by decide) h

theorem State.spkPwmHeld_get {ini : Nat} {w : Word} (h : s.mayWrite ini (A.SPK_PWM n) w = true) :
    (s.spkPwmHeld n w).get (F.SPK_PWM_SPREAD n) = bits w 0 2 ∧ (s.spkPwmHeld n w).get (F.SPK_PWM_PHASE n) = bits w 4 2 :=
  ⟨State.get_spkTaken (d := spkPwmDef) (r := [(3, 3)]) (by decide) h rfl (by simp [spkPwmDef, F.SPK_PWM_SPREAD]),
    State.get_spkTaken (d := spkPwmDef) (r := []) (by decide) h rfl (by simp [spkPwmDef, F.SPK_PWM_PHASE])⟩

theorem State.on_eq_get {f : Fld} : s.on f = decide (s.get f ≠ 0) := rfl

/-! ## O17 -/

/-- Settles O17, each write by the register it holds and what it moves. -/
theorem speakerWrites : Obligations.SpeakerWrites := by
  unfold Obligations.SpeakerWrites
  refine ⟨?en, ?page, ?format, ?mute, ?volume, ?carrier, ?ceiling, ?guard, ?reseed⟩
  case en =>
    intro ini n w s h
    obtain ⟨hen, -⟩ := State.spkCtrlHeld_get h
    refine ⟨_, Yields.of_eq rfl (State.writeOne_spkCtrl h), (State.spkCtrlWritten_get rfl).trans hen,
      fun hw hpg hoff ha hc hq => ?_, fun hw hp => ?_, fun hw hp => ?_, State.spkCtrlHeld_touches⟩
    · have hon : (s.spkCtrlHeld n w).on (F.SPK_CTRL_EN n) = true := State.on_of_get_one _ (hen.trans hw)
      have hstart : (((s.spkCtrlHeld n w).spkDriven n).spkAt n).phase = .waiting :=
        State.spkDriven_starts (State.spkCtrlHeld_enable.trans hpg) hon (State.spkOn_of_mayWrite (d := spkCtrlDef) (s := s) (by decide) h)
          hoff ha (State.spkCtrlHeld_collapsed.trans hc) hq
      refine ⟨State.spkCtrlWritten_phase.trans hstart, ?_⟩
      rw [State.spkCtrlWritten_state, hstart]
      rfl
    · have hoff : (s.spkCtrlHeld n w).on (F.SPK_CTRL_EN n) = false := by rw [State.on_eq_get, hen, hw]; rfl
      exact State.spkCtrlWritten_phase.trans (State.spkDriven_stops (.inr hoff) hp)
    · have hoff : (s.spkCtrlHeld n w).on (F.SPK_CTRL_EN n) = false := by rw [State.on_eq_get, hen, hw]; rfl
      exact State.spkCtrlWritten_releases hoff hp
  case page =>
    intro ini n w s h hne
    obtain ⟨hheld, hrec, htouch⟩ := s.spkPageWritten (n := n) (hit w 2) (bits_lt w 0 1)
    obtain ⟨hctrl, hcol⟩ := s.set_enable (n := n) (v := bits w 0 1)
    have henable : (s.set (F.PG_ENABLE (pgSPK n)) (bits w 0 1)).get (F.PG_ENABLE (pgSPK n)) = bits w 0 1 :=
      (State.get_set_in (Nat.le_of_ble_eq_true rfl) _).trans (Nat.mod_eq_of_lt (bits_lt w 0 1))
    refine ⟨_, Yields.of_eq rfl (State.writeOne_spkPage h hne), hheld, fun hw hen hoff ha hi hc hq => ?_, fun hw hp => ?_, htouch⟩
    · rw [hrec, State.spkCtrlWritten_phase]
      exact State.spkDriven_starts (State.on_of_get_one _ (henable.trans hw)) (hctrl.trans hen) hi hoff ha (hcol.trans hc) hq
    · rw [hrec, State.spkCtrlWritten_phase]
      exact State.spkDriven_stops (.inl (by rw [State.on_eq_get, henable, hw]; rfl)) (.inl hp)
  case format =>
    intro ini n w s h hne
    obtain ⟨hrate, hfilter, hfs⟩ := State.spkFmtHeld_get h
    refine ⟨_, Yields.of_eq rfl (State.writeOne_spkFmt h), (State.spkFmtWritten_get rfl).trans hrate,
      (State.spkFmtWritten_get rfl).trans hfilter, (State.spkFmtWritten_get rfl).trans hfs, fun hp => ?_, ?_⟩
    · have hchanged : ¬ ((s.spkFmtHeld n w).get (F.SPK_FMT_RATE n) = s.get (F.SPK_FMT_RATE n) ∧
          (s.spkFmtHeld n w).get (F.SPK_FMT_FILTER n) = s.get (F.SPK_FMT_FILTER n) ∧
          (s.spkFmtHeld n w).get (F.SPK_FMT_FS n) = s.get (F.SPK_FMT_FS n)) := by
        rw [hrate, hfilter, hfs]
        omega
      rw [State.spkFmtWritten_running (s := s.spkFmtHeld n w) (old := s.reg (A.SPK_FMT n)) hp hchanged]
      exact ⟨State.spkDown_phase _ _ n.isLt, State.spkDown_state⟩
    · exact (Touches.setReg_spk (by simp)).step State.spkFmtWritten_touches (by simp) (fun f hf => .inl (by simp [hf]))
  case mute =>
    intro ini n w s h hp hpg hw
    obtain ⟨hen, hmute⟩ := State.spkCtrlHeld_get h
    obtain ⟨us, hsync⟩ := State.spkCtrlWritten_running (State.spkCtrlHeld_enable.trans hpg)
      (State.on_of_get_one (s.spkCtrlHeld n w) (hen.trans hw)) hp
    refine ⟨_, Yields.of_eq rfl (State.writeOne_spkCtrl h), (State.spkCtrlWritten_get rfl).trans hmute, ?_, ?_, fun hm => ?_,
      State.spkCtrlHeld_touches⟩
    · rw [hsync, State.spkSync_phase us n.isLt]
      exact hp
    · rw [hsync, State.spkSync_state, State.on_eq_get, hmute]
      have hphase : ((s.spkCtrlHeld n w).spkAt n).phase = .running := hp
      rw [hphase]
      have hbit : bits w 2 1 = 0 ∨ bits w 2 1 = 1 := by
        have hlt := bits_lt w 2 1
        omega
      rcases hbit with h0 | h1
      · rw [h0]
        rfl
      · rw [h1]
        rfl
    · rw [hsync, State.spkSync_pop_up]
      exact State.spkOpen_muted (State.on_of_get_one _ (hmute.trans hm))
  case volume =>
    intro ini n w s h
    obtain ⟨hgain, hramp⟩ := State.spkVolHeld_get h
    refine ⟨_, Yields.of_eq rfl (State.writeOne_spkVol h), (State.spkVolWritten_get (Fld.off_of_bits rfl rfl)).trans hgain,
      (State.spkVolWritten_get (Fld.off_of_bits rfl rfl)).trans hramp, fun hw => ?_, ?_⟩
    · rw [State.spkVolWritten_vol (hramp.trans hw), hgain]
    · exact (Touches.setReg_spk (by simp)).step State.spkVolWritten_touches (by simp) (by simp [F.SPK_VOL_GAIN_NOW])
  case carrier =>
    intro ini n w s h
    obtain ⟨hspread, hphase⟩ := State.spkPwmHeld_get h
    refine ⟨_, Yields.of_eq rfl (State.writeOne_spkPwm h), State.spkPwmWritten_get.trans hspread, State.spkPwmWritten_get.trans hphase,
      fun hoff => ?_, fun hon => ?_, ?_⟩
    · rw [← hspread, ← hphase]
      exact State.spkPwmWritten_car hoff
    · rw [State.spkPwmWritten_on (s := s.spkPwmHeld n w) hon]
      rfl
    · exact (Touches.setReg_spk (by simp)).trans State.spkPwmWritten_touches
  case ceiling =>
    intro ini n w s h
    obtain ⟨hrated, heff, hbellows⟩ := s.spkCeilRated (n := n) (bits_lt w 8 8)
    exact ⟨_, Yields.of_eq rfl (State.writeOne_spkCeil h), hrated, heff, hbellows,
      ((Touches.refl _ _ _ s).set _ (.inr (by simp))).set _ (.inr (by simp))⟩
  case guard =>
    intro ini n w s h hw4
    obtain ⟨hen, hzone, hrel⟩ := State.spkGuardHeld_get h
    have hreseed : hit w 4 = false := by rw [hit, hw4]; rfl
    refine ⟨_, Yields.of_eq rfl (State.writeOne_spkGuard h), (State.spkGuardWritten_get rfl).trans hen,
      (State.spkGuardWritten_get rfl).trans hzone, (State.spkGuardWritten_get rfl).trans hrel, fun h0 h1 => ?_, fun hsame => ?_,
      State.spkGuardWritten_touches⟩
    · have hon : (s.spkGuardHeld n w).spkGuardOn n (s.reg (A.SPK_GUARD_CTRL n)) = true := by
        rw [State.spkGuardOn, State.on_of_get_one _ (hen.trans h1), Bool.true_and]
        exact decide_eq_true h0
      obtain ⟨honce, hseeded, -, -, htc, htm⟩ := State.spkGuardSeeded (s := s.spkGuardHeld n w) (n := n) (on := true)
      rw [State.spkGuardWritten_seeds (by rw [hon]; rfl), hon, ← s.spkGuardHeld_margin (n := n) (w := w)]
      exact ⟨honce, hseeded, htc, htm⟩
    · have hoff : (s.spkGuardHeld n w).spkGuardOn n (s.reg (A.SPK_GUARD_CTRL n)) = false := by
        have hold : bits (s.reg (A.SPK_GUARD_CTRL n)) 0 1 = bits w 0 1 := hsame
        rw [State.spkGuardOn, State.on_eq_get, hen, hold]
        by_cases hz : bits w 0 1 = 0
        · rw [hz]
          rfl
        · rw [decide_eq_false hz, Bool.and_false]
      rw [hreseed, State.spkGuardWritten_keeps hoff, State.spkGuardShown_touches.1 .spk (by simp)]
      rfl
  case reseed =>
    intro ini n w s h
    have hreseed : hit (w ||| 0x10#32) 4 = true := hit_or_const w _ (by decide)
    obtain ⟨honce, hseeded, hx1, hx2, htc, htm⟩ := State.spkGuardSeeded (s := s.spkGuardHeld n (w ||| 0x10#32)) (n := n)
      (on := (s.spkGuardHeld n (w ||| 0x10#32)).spkGuardOn n (s.reg (A.SPK_GUARD_CTRL n)))
    rw [State.spkGuardHeld_margin] at htc
    refine ⟨_, Yields.of_eq rfl (State.writeOne_spkGuard h), ?_⟩
    rw [hreseed]
    refine ⟨?_, ?_, ?_, ?_, ?_, ?_, State.spkGuardWritten_touches⟩ <;> rw [State.spkGuardWritten_seeds (Bool.or_true _)]
    · exact honce
    · exact hseeded
    · exact hx1
    · exact hx2
    · exact htc
    · exact htm

end Sys2Proof.Machine
end

section
/-! PROOFS. O21, O22 and O24 do not hold: an off lane whose words in effect are not its registers' (R191, R193), a write of LANEn_CTRL that is
refused for capacity (R193), and a lane pushed out at its start whose waiting commit clears poison (R182, R193). -/

namespace Sys2Proof.Machine

variable {s u : State}

/-! ## The stop of an off lane -/

theorem yields_laneEnableWrite {ini : Fin 5} {n : Fin 48} {w : Word} :
    Yields (.laneEnableWrite ini n w) s (s.writeOne none ini (pgLANE n * 0x400 + 4) w) := rfl

/-- Beside the 18 running lanes of `crowdedWindow`, lane 20 is off; its source register names SAP0 too. Bellows grants stop 3, and the
words in effect of lane 20 still make it elastic, which LANE20_CTRL no longer does. -/
def staleStop : State :=
  let s := (crowdedWindow.setReg (A.LANE_SRC 20) 0x4C#32).modLane 20 (fun l => { l with eff := { l.eff with ctl := 0x380#32 } })
  { s with grants := s.grants.setIfInBounds 0 3 }

theorem staleStop_mayEnable : staleStop.mayWrite 0 (pgLANE 20 * 0x400 + 4) 1#32 = true ∧ staleStop.islandOn .engine = true ∧
    staleStop.get (F.PG_ENABLE (pgLANE 20)) = 0 ∧ (staleStop.laneAt 20).phase = .off ∧
    staleStop.laneFits (staleStop.laneStartCost 20 (staleStop.laneStop 20)) = true := by decide +kernel

/-- At stop 0, which its registers give, lane 20 does not fit and waits. -/
theorem staleStop_enabled : ((staleStop.writeOne none 0 (pgLANE 20 * 0x400 + 4) 1#32).laneAt 20).phase = .waitCap := by
  decide +kernel

/-- Refutes O21: it takes an off lane's cost at the stop of its words in effect, where the admission takes that of its registers' words.
In `staleStop` the two differ: at stop 3 the lane would fit, at stop 0 it waits. -/
theorem not_laneStartStopWrites : ¬ Obligations.LaneStartStopWrites := by
  unfold Obligations.LaneStartStopWrites
  rintro ⟨enable, -⟩
  obtain ⟨hmay, hon, hoff, hphase, hfits⟩ := staleStop_mayEnable
  obtain ⟨u, hy, -, hstarts, -⟩ := enable 0 20 1#32 staleStop hmay hon hoff (by decide) hphase
  obtain ⟨halloc, -⟩ := hstarts hfits
  have hlanes : u.lanes = (staleStop.writeOne none 0 (pgLANE 20 * 0x400 + 4) 1#32).lanes := by
    rw [← settle_lanes u, hy.settle_eq yields_laneEnableWrite, settle_lanes]
    rfl
  rw [State.laneAt, hlanes] at halloc
  exact absurd (halloc.symm.trans staleStop_enabled) (by decide)

/-! ## A polarity write that the capacity rule refuses in part -/

theorem yields_laneInvertWrite {ini : Fin 5} {n : Fin 48} {w : Word} :
    Yields (.laneInvertWrite ini n w) s (s.writeOne none ini (A.LANE_CTRL n) w) := rfl

/-- A running lane with its DC block on, fed by slot 0 of the slave port SAP0 at 384 kHz. -/
def blockedLane : Lane :=
  { Lane.init with
    phase := .running, sid := 0x4C, kind := .tracked, dom := 4, hz := 384000
    eff := { Lane.init.eff with src := 0x4C#32, dcb := 1#32 } }

/-- Fe is 176.4 kHz, the operating point is OP3, and SAP0's tracker is LOCKED at 384 kHz. All lanes run; lane 0 alone is elastic, and Bellows
grants it stop 3. They cost 47 · 207 + 63 = 9,792 MAC of 9,830; with lane 0 at stop 0 they would cost 9,936 (R192, R193). -/
def elasticLane : State :=
  let s := (State.reset.setReg (F.PG_ENABLE 0x21).addr 1#32).setReg (A.CLK_TRK_STATUS 2) 2#32
  let s := (s.setReg (A.CLK_TRK_RATE 2) 38400000#32).modTrk 2 (fun k => { k with nomHz := 384000, lockRate := 38400000, locked := true })
  let s := ((s.set F.CLK_ENGINE_FE_NOW 5).set F.CLK_ENGINE_OP_NOW 3).setReg (A.LANE_CTRL 0) 0x390#32
  let s := { s with lanes := Vector.replicate 48 blockedLane, grants := s.grants.setIfInBounds 0 3 }
  s.modLane 0 (fun l => { l with eff := { l.eff with ctl := 0x380#32 } })

/-- INVERT set and ELASTIC cleared. -/
def rigidWord : Word := 0x318#32

theorem elasticLane_mayWrite : elasticLane.mayWrite 0 (A.LANE_CTRL 0) rigidWord = true ∧
    elasticLane.get (F.LANE_CTRL_INVERT 0) ≠ bits rigidWord 3 1 ∧ elasticLane.laneLoad = 9792 ∧ elasticLane.laneRoom = 9830 ∧
    elasticLane.get (F.LANE_FLAGS_CAP_ERR 0) = 0 := by decide +kernel

/-- The inversion goes on, and the write of ELASTIC is refused with CAP_ERR. -/
theorem elasticLane_refused :
    (elasticLane.writeOne none 0 (A.LANE_CTRL 0) rigidWord).get (F.LANE_FLAGS_CAP_ERR 0) = 1 := by decide +kernel

/-- Refutes O22: the frame of LANE_INVERT_WRITE leaves out CAP_ERR. In `elasticLane` the word that sets INVERT also clears ELASTIC, which
would take lane 0 from stop 3 to stop 0, beyond the capacity even at OP3. -/
theorem not_laneProcessingWrites : ¬ Obligations.LaneProcessingWrites := by
  unfold Obligations.LaneProcessingWrites
  rintro ⟨-, invert, -⟩
  obtain ⟨hmay, hchanged, -, -, hclear⟩ := elasticLane_mayWrite
  obtain ⟨u, hy, -, -, -, -, htouch⟩ := invert 0 0 rigidWord elasticLane hmay hchanged
  have hkept : u.get (F.LANE_FLAGS_CAP_ERR 0) = elasticLane.get (F.LANE_FLAGS_CAP_ERR 0) := htouch.get_keeps (by decide)
  have hraised : u.get (F.LANE_FLAGS_CAP_ERR 0) = 1 :=
    (hy.get_eq yields_laneInvertWrite (by decide) (by decide)).trans elasticLane_refused
  rw [hkept, hclear] at hraised
  exact absurd hraised (by decide)

/-! ## A start that does not fit any more -/

theorem yields_laneStart {n : Fin 48} : Yields (.laneStart n) s (s.laneStarted n) := rfl

/-- As `crowdedWindow`, with a nineteenth lane, and lane 0 at the allocation of its buffers: the lanes cost 9,956 MAC of OP0's 9,830. -/
def crowdedStart : State := (crowdedWindow.modLane 18 (fun _ => committingLane)).lanePhase 0 .alloc

theorem crowdedStart_starts : crowdedStart.clocked .engine = true ∧ (crowdedStart.laneAt 0).phase = .alloc ∧
    crowdedStart.laneLoad = 9956 ∧ crowdedStart.laneRoom = 9830 := by decide +kernel

/-- Lane 0 leaves the engine to wait; its commit is copied at once, and the copy writes the poisoned word. -/
theorem crowdedStart_cleansed : (crowdedStart.laneStarted 0).poison = [] := by decide +kernel

/-- Refutes O24: the frame of LANE_START leaves out the poisoned items. In `crowdedStart` the lane no longer fits when its buffers are
allocated, and its waiting commit clears the poison of its active set. -/
theorem not_laneEvents : ¬ Obligations.LaneEvents := by
  unfold Obligations.LaneEvents
  rintro ⟨start, -⟩
  obtain ⟨hclocked, halloc, -, -⟩ := crowdedStart_starts
  obtain ⟨u, hy, -, -, -, htouch⟩ := start 0 crowdedStart hclocked halloc
  have hkept : u.poison = crowdedStart.poison := htouch.1 .poison (by decide)
  have hcleansed : u.poison = [] := by
    rw [← settle_poison u, hy.settle_eq yields_laneStart, settle_poison]
    exact crowdedStart_cleansed
  rw [hcleansed] at hkept
  exact List.cons_ne_nil _ _ hkept.symm

end Sys2Proof.Machine
end

section
/-! PROOFS. The registers of a lane's page whose writes start something (R182, R186, R187, R194): their definitions, and what a write
hands to the lane. -/

namespace Sys2Proof.Machine

variable {s : State} {n : Fin 48} {ini off : Nat} {w : Word} {d : RegDef}

/-! ## Definitions -/

/-- The fields of LANEn_COEF_CTRL (R182). -/
def laneCoefCtrlDef : RegDef := .mk 0x060 1 4 0 64 0x0 [] false [.mk 2 1 .rw [], .mk 0 1 .w1s []]

/-- The fields of LANEn_DELAY (R186). -/
def laneDelayDef : RegDef := .mk 0x080 1 4 0 64 0x0 [] false [.mk 24 8 .ro [], .mk 0 16 .rw [(34304, 65535)]]

/-- The fields of LANEn_METER_CTRL (R187). -/
def laneMeterCtrlDef : RegDef := .mk 0x08C 1 4 0 64 0x2 [] false [.mk 2 1 .w1s [], .mk 0 2 .rw []]

/-- The field of LANEn_CNT_CLR (R194). -/
def laneCntClrDef : RegDef := .mk 0x0B4 1 4 0 64 0x0 [] false [.mk 0 1 .w1s []]

/-- These registers, by their offsets. -/
def laneDefs : List (Nat × RegDef) :=
  [(0x060, laneCoefCtrlDef), (0x080, laneDelayDef), (0x08C, laneMeterCtrlDef), (0x0B4, laneCntClrDef)]

/-- The row of the lanes' pages (R56). -/
theorem pageRow_lane : pageRow (pgLANE n) = some (.mk .lane 0x30 48 0x18 64 true 0) := by
  revert n
  decide

theorem laneDefs_served : ∀ x ∈ laneDefs, placeOf (0x0C000 + 0x400 * n + x.1) = .reg (pgLANE n) x.1 ∧
    regDefAt (0x0C000 + 0x400 * n + x.1) = some x.2 := by
  revert n
  decide +kernel

theorem laneDefs_off : ∀ x ∈ laneDefs, 0x40 ≤ x.1 ∧ x.1 < 0x400 := by decide

/-! ## Writes -/

/-- A block's word of a lane's page goes to its lane. -/
theorem State.regWritten_lane (e : Option Facts) {a : Nat} (hp : a / 0x400 = pgLANE n) (ho : 0x40 ≤ a % 0x400) (old w : Word) :
    s.regWritten e a old w = s.laneWritten n (a % 0x400) old w := by
  have hk : pgLANE n - 0x30 = n := Nat.add_sub_cancel_left 0x30 n
  simp only [State.regWritten, if_neg (Nat.not_lt.2 ho), hp, pageRow_lane, hk]

/-- The registers of the lanes' pages have no joint reserved values. -/
theorem together_lane {a : Nat} (h : 0x30 ≤ a / 0x400) (old w new : Word) : together a old w new = (new, false) := by
  have hmclk : ¬ (A.SAP_MCLK 0 ≤ a ∧ a ≤ A.SAP_MCLK 3 ∧ a % 0x400 = A.SAP_MCLK 0 % 0x400) := by simp only [A.SAP_MCLK]; omega
  have hseq : ¬ (A.SNS_SEQ 0 ≤ a ∧ a ≤ A.SNS_SEQ 15) := by simp only [A.SNS_SEQ]; omega
  have hsag : a ≠ A.BLW_SAG := by simp only [A.BLW_SAG]; omega
  have hcost : a ≠ A.BLW_OP_COST := by simp only [A.BLW_OP_COST]; omega
  have htask : ¬ (A.BLW_TASK_COST 32 ≤ a ∧ a ≤ A.BLW_TASK_COST 63 ∧ (a - A.BLW_TASK_COST 32) % 8 = 0) := by
    simp only [A.BLW_TASK_COST]; omega
  simp only [together, if_neg hmclk, if_neg hseq, if_neg hsag, if_neg hcost, if_neg htask]

/-- The write of one of these registers: its fields by their access types, then the lane's reaction. -/
theorem State.writeOne_lane (hd : (off, d) ∈ laneDefs) (h : s.mayWrite ini (0x0C000 + 0x400 * n + off) w = true) :
    s.writeOne none ini (0x0C000 + 0x400 * n + off) w =
      (s.setReg (0x0C000 + 0x400 * n + off) (d.take (s.reg (0x0C000 + 0x400 * n + off)) w).1).laneWritten n off
        (s.reg (0x0C000 + 0x400 * n + off)) w := by
  obtain ⟨hplace, hdef⟩ := laneDefs_served (n := n) _ hd
  obtain ⟨hlo, hhi⟩ := laneDefs_off _ hd
  have hpage : (0x0C000 + 0x400 * n.val + off) / 0x400 = pgLANE n := laneReg_page hhi
  have hlane : 0x30 ≤ pgLANE n := Nat.le_add_right 0x30 n
  have hoff : (0x0C000 + 0x400 * n.val + off) % 0x400 = off := by omega
  rw [s.writeOne_of_mayWrite none ini _ _ h (s.poke_of_mayWrite none ini _ _ h hplace),
    State.poke_reg_taken s none _ _ hplace hdef (.inl (by simp only [A.SNS_URGENT]; omega)), together_lane (hpage ▸ hlane),
    State.regWritten_lane none hpage (by omega), hoff]

/-- LANEn_COEF_CTRL holds XFADE; COMMIT acts. -/
theorem State.writeOne_laneCoef (h : s.mayWrite ini (A.LANE_COEF_CTRL n) w = true) : s.writeOne none ini (A.LANE_COEF_CTRL n) w =
    (s.set (F.LANE_COEF_CTRL_XFADE n) (bits w 2 1)).laneCoefWritten n (hit w 0) :=
  State.writeOne_lane (d := laneCoefCtrlDef) (by decide) h

/-- Of LANEn_DELAY a word that may be written replaces FRAMES alone. -/
theorem laneDelayDef_take {old : Word} (h : (laneDelayDef.take old w).2 = false) :
    (laneDelayDef.take old w).1 = setBits old 0 16 (bits w 0 16) := by
  have htake : laneDelayDef.take old w =
      if [(34304, 65535)].any (fun r => decide (r.1 ≤ bits w 0 16) && decide (bits w 0 16 ≤ r.2)) then (old, true)
      else (setBits old 0 16 (bits w 0 16), false) := rfl
  rw [htake] at h ⊢
  split at h
  · exact Bool.noConfusion h
  · next hr => rw [if_neg hr]

theorem State.writeOne_laneDelay (h : s.mayWrite ini (A.LANE_DELAY n) w = true) : s.writeOne none ini (A.LANE_DELAY n) w =
    (s.set (F.LANE_DELAY_FRAMES n) (bits w 0 16)).laneDelayWritten n (s.reg (A.LANE_DELAY n)) := by
  have hd : (0x080, laneDelayDef) ∈ laneDefs := by decide
  obtain ⟨hplace, hdef⟩ := laneDefs_served (n := n) _ hd
  have htake := laneDelayDef_take (State.take_of_mayWrite h hplace hdef)
  exact (State.writeOne_lane hd h).trans
    (congrArg (fun x => (s.setReg (A.LANE_DELAY n) x).laneDelayWritten n (s.reg (A.LANE_DELAY n))) htake)

/-- LANEn_METER_CTRL holds WIN; CLR_HOLD sets the held peaks to −150 dBFS. -/
theorem State.writeOne_laneMeter (h : s.mayWrite ini (A.LANE_METER_CTRL n) w = true) : s.writeOne none ini (A.LANE_METER_CTRL n) w =
    (s.set (F.LANE_METER_CTRL_WIN n) (bits w 0 2)).when (hit w 2) (·.setReg (A.LANE_METER_HOLD n) 0xC568C568#32) :=
  State.writeOne_lane (d := laneMeterCtrlDef) (by decide) h

/-- LANEn_CNT_CLR holds nothing; CLR sets the counters to 0. -/
theorem State.writeOne_laneCntClr (h : s.mayWrite ini (A.LANE_CNT_CLR n) w = true) : s.writeOne none ini (A.LANE_CNT_CLR n) w =
    (s.setReg (A.LANE_CNT_CLR n) (s.reg (A.LANE_CNT_CLR n))).when (hit w 0)
      (fun s => (s.setReg (A.LANE_COUNT n) 0).setReg (A.LANE_COUNT2 n) 0) :=
  State.writeOne_lane (d := laneCntClrDef) (by decide) h

end Sys2Proof.Machine
end

section
/-! PROOFS. Lanes (R163, R169, R193, R194): what a lane's status shows, what it leaves unchanged, and what the words of a lane under the
capacity rule do when they take effect. -/

namespace Sys2Proof.Machine

variable {s t : State} {n : Fin 48} {e : LaneEff} {undo : State → State}

/-! ## Status (R194) -/

/-- A field that a lane's status does not show in. -/
def laneAside (n : Nat) (g : Fld) : Prop :=
  ∀ f ∈ laneStatusFlds n, f.addr ≠ g.addr ∨ g.lo + g.w ≤ f.lo ∨ f.lo + f.w ≤ g.lo

/-- Beside BUSY the status lies in four registers of the lane's page. -/
theorem laneStatus_cases : ∀ f ∈ laneStatusFlds n, f = F.LANE_COEF_STATUS_BUSY n ∨
    ∃ off ∈ [0x09C, 0x0A0, 0x0A4, 0x0B8], f.addr = 0x0C000 + 0x400 * n + off := by
  simp [laneStatusFlds, F.LANE_STATUS_STATE, F.LANE_STATUS_DOMAIN, F.LANE_STATUS_RATE, F.LANE_STATUS_STOP_NOW, F.LANE_STATUS_BYPASS,
    F.LANE_STATUS_CHG_WAIT, F.LANE_STATUS_RC_STATE, F.LANE_STATUS_EVENT_RAMP, whole, F.LANE_RATE_MEAS_RATE, F.LANE_COST_STOP0,
    F.LANE_COST_NOW, A.LANE_STATUS, A.LANE_RATIO, A.LANE_RATE_MEAS, A.LANE_COST]

/-- The status leaves the other registers of the page, and of LANEn_COEF_STATUS all but BUSY. -/
theorem laneAside_of_off {g : Fld} (off : Nat) (h : off ∉ [0x09C, 0x0A0, 0x0A4, 0x0B8]) (hg : g.addr = 0x0C000 + 0x400 * n + off)
    (hbusy : off = 0x064 → g.lo + g.w ≤ 1 ∨ 2 ≤ g.lo) : laneAside n g := by
  intro f hf
  rcases laneStatus_cases f hf with rfl | ⟨o, ho, ha⟩
  · by_cases hoff : off = 0x064
    · exact .inr (hbusy hoff)
    · refine .inl fun he => hoff ?_
      simp only [F.LANE_COEF_STATUS_BUSY, A.LANE_COEF_STATUS] at he
      omega
  · refine .inl fun he => h ?_
    have hoff : o = off := by omega
    exact hoff ▸ ho

theorem State.laneSync_touches : Touches [] [] (laneStatusFlds n) s (s.laneSync n) :=
  (Touches.refl _ _ _ s).laneSync fun _ hf => .inr hf

theorem State.laneSync_get {g : Fld} (h : laneAside n g) : (s.laneSync n).get g = s.get g := State.laneSync_touches.get_keeps h

theorem State.laneSync_on {g : Fld} (h : laneAside n g) : (s.laneSync n).on g = s.on g := State.on_congr s (State.laneSync_get h)

/-- BUSY shows a commit under way (R183). -/
theorem State.laneSync_busy : (s.laneSync n).on (F.LANE_COEF_STATUS_BUSY n) = decide ((s.laneAt n).commit ≠ .idle) := by
  have hcost : ∀ f ∈ [F.LANE_COST_STOP0 n, F.LANE_COST_NOW n], f.off (F.LANE_COEF_STATUS_BUSY n) := by
    simp only [List.forall_mem_cons, List.not_mem_nil, false_imp_iff, implies_true, and_true]
    refine ⟨Fld.off_of_addr rfl ?_, Fld.off_of_addr rfl ?_⟩ <;>
      simp only [F.LANE_COST_STOP0, F.LANE_COST_NOW, F.LANE_COEF_STATUS_BUSY, A.LANE_COST, A.LANE_COEF_STATUS] <;> omega
  unfold State.laneSync
  extract_lets l live byp rate s1 s2 s3 s4 s5 s6 s7 s8 s9 s10 s11 s12
  have hbusy : s11.get (F.LANE_COEF_STATUS_BUSY n) = if decide (l.commit ≠ .idle) then 1 else 0 :=
    s10.get_setB_self _ _ (Fld.fits_of_ble rfl) (Nat.one_pos)
  rw [State.on_set_off (hcost _ (by simp)), State.on_set_off (hcost _ (by simp)), State.on, hbusy]
  cases decide (l.commit ≠ .idle) <;> rfl

/-! ## Words under the capacity rule (R193) -/

theorem State.laneIdle_eq : s.laneIdle n = !(s.laneAt n).phase.live := rfl

theorem State.live_of_idle_false (h : s.laneIdle n = false) : (s.laneAt n).phase.live = true := by
  rw [State.laneIdle_eq] at h
  simpa using h

/-- A lane that does not run takes its words. -/
theorem State.laneGuard_idle (h : s.laneIdle n = true) :
    s.laneGuard n e undo = (s.modLane n (fun l => { l with eff := e })).laneSync n := by
  unfold State.laneGuard
  exact if_pos h

/-- A lane takes words that cost no more than those in effect. -/
theorem State.laneGuard_takes (h : s.laneIdle n = false)
    (hc : s.laneCostWith n e (s.effStop e) ≤ s.laneCostWith n (s.laneAt n).eff (s.laneStop n)) :
    s.laneGuard n e undo = s.laneTake n e := by
  have hmore : s.laneCostWith n e (s.effStop e) - s.laneCostWith n (s.laneAt n).eff (s.laneStop n) = 0 := Nat.sub_eq_zero_of_le hc
  unfold State.laneGuard
  dsimp only
  rw [if_neg (by rw [State.live_of_idle_false h]; decide)]
  exact if_pos (.inl hmore)

/-- Where source and notches stay, only a new delay has an effect of its own (R186). -/
theorem State.laneTake_eq (hsrc : e.src = (s.laneAt n).eff.src) (hhum : e.hum = (s.laneAt n).eff.hum) : s.laneTake n e =
    ((s.modLane n (fun l => { l with eff := e })).when (decide (e.delay ≠ (s.laneAt n).eff.delay)) (fun s =>
      (s.modLane n (fun l => { l with tap := l.tap.to (bits e.delay 0 16) (s.frames 10000) })).set
        (F.LANE_DELAY_STATUS_XFADE_NOW n) 1)).laneSync n := by
  unfold State.laneTake
  dsimp only
  rw [if_neg (not_not_intro hhum), if_neg (not_not_intro hsrc)]
  by_cases hd : e.delay = (s.laneAt n).eff.delay
  · rw [if_neg (not_not_intro hd), decide_eq_false (not_not_intro hd), State.when_false]
  · rw [if_pos hd, decide_eq_true hd, State.when_true]

/-- How a lane converts depends on its words' output format alone. -/
theorem State.laneMode_modLane {e e' : LaneEff} (h : e.out = e'.out) (sid : Nat) (dir : Bool) :
    (s.modLane n (fun l => { l with eff := e })).laneMode n sid dir = (s.modLane n (fun l => { l with eff := e' })).laneMode n sid dir := by
  unfold State.laneMode State.laneOutFmt
  simp only [State.laneAt_modLane_self _ n.isLt, h]
  rfl

/-- A delay that adds no stage costs nothing (R192). -/
theorem State.laneCostWith_delay_le {x : Word} {stop : Nat} (h : bits (s.laneAt n).eff.delay 0 16 ≠ 0 ∨ bits x 0 16 = 0) :
    s.laneCostWith n { (s.laneAt n).eff with delay := x } stop ≤ s.laneCostWith n (s.laneAt n).eff stop := by
  have hmode := s.laneMode_modLane (n := n) (e := { (s.laneAt n).eff with delay := x }) (e' := (s.laneAt n).eff) rfl
  unfold State.laneCostWith State.laneCost
  dsimp only
  rw [hmode]
  refine Nat.add_le_add_left ?_ _
  dsimp only
  split
  · exact Nat.zero_le _
  · next hx => rw [if_neg (h.resolve_right hx)]

end Sys2Proof.Machine
end

section
/-! PROOFS. Coefficient commits (R182, R183, R189): how one begins, what the copy and the refusal of a lane that is not running leave. -/

namespace Sys2Proof.Machine

variable {s t : State} {n : Fin 48} {k : Nat}

/-! ## The pending set -/

theorem State.unstableStage_congr (h : t.coefPend = s.coefPend) : t.unstableStage n = s.unstableStage n := by
  unfold State.unstableStage State.coefWord
  rw [h]

theorem State.pendingSet_congr (h : t.coefPend = s.coefPend) : t.pendingSet n = s.pendingSet n := by
  unfold State.pendingSet
  rw [h]

theorem State.poisoned_congr (h : t.poison = s.poison) (i : ItemKind) : t.poisoned i k = s.poisoned i k := by
  unfold State.poisoned
  rw [h]

/-! ## Fields of the header beside the block's -/

/-- An interrupt source and the fault code of a lane's page lie in the header. -/
theorem laneHeader_off {g : Fld} {off i : Nat} (hg : g.addr = 0x0C000 + 0x400 * n + off) (ho : 0x40 ≤ off) (hi : i < 32) :
    (F.PG_IRQ (pgLANE n) i).off g ∧ (F.PG_FAULT (pgLANE n)).off g := by
  simp only [Fld.off, F.PG_IRQ, F.PG_FAULT, pgLANE]
  omega

theorem laneIrq_addr (i : Nat) : (F.PG_IRQ (pgLANE n) i).addr = 0x0C000 + 0x400 * n + 0x00C := by
  simp only [F.PG_IRQ, pgLANE]
  omega

theorem laneAside_irq {i : Nat} : laneAside n (F.PG_IRQ (pgLANE n) i) :=
  laneAside_of_off 0x00C (by decide) (laneIrq_addr i) (fun h => absurd h (by decide))

/-- Of LANEn_COEF_STATUS the lane's status writes BUSY alone. -/
theorem laneAside_coefStatus {g : Fld} (ha : g.addr = A.LANE_COEF_STATUS n) (hg : g.lo + g.w ≤ 1 ∨ 2 ≤ g.lo) : laneAside n g :=
  laneAside_of_off 0x064 (by decide) ha fun _ => hg

/-! ## The end of a commit -/

theorem State.commitDone_laneAt : (s.commitDone n).laneAt n = { s.laneAt n with
    chain := .at (s.laneAt n).chain.new, commit := if (s.laneAt n).held then .atFrame else .idle, held := false } := by
  unfold State.commitDone
  rw [State.laneSync_laneAt, State.irq_laneAt, State.inc_laneAt, s.laneAt_modLane_self n.isLt]

theorem State.commitDone_touches :
    Touches [.lanes] [] (F.LANE_COEF_STATUS_COMMITS n :: F.PG_IRQ (pgLANE n) 6 :: laneStatusFlds n) s (s.commitDone n) :=
  ((((Touches.refl _ _ _ s).modLane n _ (by simp)).inc (.inr (by simp))).irq (.inr (by simp))).step State.laneSync_touches (by simp)
    fun f hf => .inl (by simp [hf])

theorem State.commitDone_commits : (s.commitDone n).get (F.LANE_COEF_STATUS_COMMITS n) =
    min (s.get (F.LANE_COEF_STATUS_COMMITS n) + 1) 0xFFFF := by
  obtain ⟨hirq, -⟩ := laneHeader_off (n := n) (g := F.LANE_COEF_STATUS_COMMITS n) (off := 0x064) (i := 6) rfl (by decide) (by decide)
  unfold State.commitDone
  rw [State.laneSync_get (laneAside_coefStatus rfl (.inr (Nat.le_of_ble_eq_true rfl))), State.get_irq_off hirq,
    State.get_inc_wide ⟨Nat.le_of_ble_eq_true rfl, rfl⟩]
  rfl

theorem State.commitDone_irq : (s.commitDone n).on (F.PG_IRQ (pgLANE n) 6) = true := by
  unfold State.commitDone
  rw [State.laneSync_on laneAside_irq, State.on_irq_in (by decide)]

theorem State.commitDone_busy : (s.commitDone n).on (F.LANE_COEF_STATUS_BUSY n) = (s.laneAt n).held := by
  unfold State.commitDone
  rw [State.laneSync_busy, State.irq_laneAt, State.inc_laneAt, State.laneAt_modLane_self _ n.isLt]
  cases (s.laneAt n).held <;> rfl

/-- The end of a commit leaves the fault flags. -/
theorem State.commitDone_flag {g : Fld} (ha : g.addr = A.LANE_COEF_STATUS n) (hlo : 2 ≤ g.lo) (hhi : g.lo + g.w ≤ 16) :
    (s.commitDone n).on g = s.on g := by
  refine State.commitDone_touches.on_keeps ?_
  simp only [List.forall_mem_cons]
  exact ⟨.inr (.inl hhi), .inl (by simp only [F.PG_IRQ, ha, A.LANE_COEF_STATUS, pgLANE]; omega), laneAside_coefStatus ha (.inr hlo)⟩

/-! ## Recovery (R189) -/

theorem State.coefRecover_laneAt : (s.coefRecover n).laneAt k = s.laneAt k := by
  rw [State.coefRecover, State.unfault_laneAt, State.unfault_laneAt, State.set_laneAt, State.set_laneAt]

theorem State.coefRecover_touches :
    Touches [] [] [F.LANE_COEF_STATUS_POISON n, F.LANE_COEF_STATUS_LOST n, F.PG_FAULT (pgLANE n)] s (s.coefRecover n) :=
  ((((Touches.refl _ _ _ s).set _ (.inr (by simp))).set _ (.inr (by simp))).unfault _ (.inr (by simp))).unfault _ (.inr (by simp))

theorem State.coefRecover_flags : (s.coefRecover n).on (F.LANE_COEF_STATUS_POISON n) = false ∧
    (s.coefRecover n).on (F.LANE_COEF_STATUS_LOST n) = false := by
  have hfault {t : State} {g : Fld} (code : Nat) (ha : g.addr = A.LANE_COEF_STATUS n) : (t.unfault (pgLANE n) code).on g = t.on g :=
    State.on_congr t (State.get_unfault_off code (laneHeader_off (i := 0) ha (by decide) (by decide)).2)
  unfold State.coefRecover
  rw [hfault 2 rfl, hfault 1 rfl, hfault 2 rfl, hfault 1 rfl]
  exact ⟨(State.on_set_off (Fld.off_of_bits rfl rfl) 0).trans (State.on_set_zero (Nat.le_of_ble_eq_true rfl)),
    State.on_set_zero (Nat.le_of_ble_eq_true rfl)⟩

/-! ## A refused commit (R182, R183) -/

/-- The flags of a refusal that is not for capacity. -/
def State.refusalShown (s : State) (n cause stage : Nat) : State :=
  (((s.set (F.LANE_COEF_STATUS_ERR n) 1).set (F.LANE_COEF_STATUS_ERR_CAUSE n) cause).set (F.LANE_COEF_STATUS_ERR_STAGE n) stage).irq
    (pgLANE n) 7

theorem State.commitRefused_unstable (h : (s.laneAt n).held = false) :
    s.commitRefused n 1 k = ((s.refusalShown n 1 k).modLane n (fun l => { l with commit := .idle, held := false })).laneSync n := by
  unfold State.commitRefused
  dsimp only
  rw [State.set_laneAt, State.set_laneAt, State.set_laneAt, h]
  rfl

theorem State.refusalShown_touches {cause : Nat} : Touches [] [] [F.LANE_COEF_STATUS_ERR n, F.LANE_COEF_STATUS_ERR_CAUSE n,
    F.LANE_COEF_STATUS_ERR_STAGE n, F.PG_IRQ (pgLANE n) 7] s (s.refusalShown n cause k) :=
  ((((Touches.refl _ _ _ s).set _ (.inr (by simp))).set _ (.inr (by simp))).set _ (.inr (by simp))).irq (.inr (by simp))

theorem State.refusalShown_shows {cause : Nat} (hc : cause < 16) (hk : k < 16) :
    (s.refusalShown n cause k).get (F.LANE_COEF_STATUS_ERR n) = 1 ∧
    (s.refusalShown n cause k).get (F.LANE_COEF_STATUS_ERR_CAUSE n) = cause ∧
    (s.refusalShown n cause k).get (F.LANE_COEF_STATUS_ERR_STAGE n) = k ∧
    (s.refusalShown n cause k).on (F.PG_IRQ (pgLANE n) 7) = true := by
  have hirq {g : Fld} (ha : g.addr = A.LANE_COEF_STATUS n) : (F.PG_IRQ (pgLANE n) 7).off g :=
    (laneHeader_off ha (by decide) (by decide)).1
  unfold State.refusalShown
  refine ⟨?_, ?_, ?_, State.on_irq_in (by decide)⟩
  · rw [State.get_irq_off (hirq rfl), State.get_set_off (Fld.off_of_bits rfl rfl), State.get_set_off (Fld.off_of_bits rfl rfl),
      State.get_set_in (Nat.le_of_ble_eq_true rfl)]
    rfl
  · rw [State.get_irq_off (hirq rfl), State.get_set_off (Fld.off_of_bits rfl rfl), State.get_set_in (Nat.le_of_ble_eq_true rfl)]
    exact Nat.mod_eq_of_lt hc
  · rw [State.get_irq_off (hirq rfl), State.get_set_in (Nat.le_of_ble_eq_true rfl)]
    exact Nat.mod_eq_of_lt hk

/-! ## The copy of a lane that is not running (R182) -/

/-- The pending set as the active one, its words' poison cleared. -/
def State.setTaken (s : State) (n : Nat) : State :=
  (s.forAll 51 (fun s k => s.cleanse .coefAct (64 * n + k))).modLane n (fun l => { l with
    chain := .at ⟨s.pendingSet n, (s.laneAt n).chain.new.regs⟩ })

theorem State.cleansed_touches : Touches [.poison] [] [] s (s.forAll 51 (fun s k => s.cleanse .coefAct (64 * n + k))) :=
  (Touches.refl _ _ _ s).forAll 51 fun _ _ _ ht => ht.put_poison _ (by simp)

theorem State.setTaken_touches : Touches [.lanes, .poison] [] [] s (s.setTaken n) :=
  (State.cleansed_touches.mono (by simp) (by simp) (by simp)).modLane n _ (by simp)

theorem State.setTaken_laneAt : (s.setTaken n).laneAt n =
    { s.laneAt n with chain := .at ⟨s.pendingSet n, (s.laneAt n).chain.new.regs⟩ } := by
  have hlanes : (s.forAll 51 (fun s k => s.cleanse .coefAct (64 * n + k))).laneAt n = s.laneAt n :=
    congrArg (fun v => vget v n Lane.init) (State.cleansed_touches.1 .lanes (by simp))
  rw [State.setTaken, State.laneAt_modLane_self _ n.isLt, hlanes]

section
variable (hidle : s.laneIdle n = true) (hclean : ∀ k : Nat, k < 51 → s.poisoned .coefPend (64 * n + k) = false)
include hclean

theorem State.pending_clean : (List.range 51).any (fun k => s.poisoned .coefPend (64 * n + k)) = false :=
  List.any_eq_false.2 fun k hk => by simp [hclean k (List.mem_range.1 hk)]

theorem State.commitCopy_unstable (h : s.unstableStage n = some k) : s.commitCopy n = s.commitRefused n 1 k := by
  unfold State.commitCopy
  rw [if_neg (by rw [State.pending_clean hclean]; decide), h]

include hidle

theorem State.commitCopy_stable (h : s.unstableStage n = none) : s.commitCopy n = ((s.setTaken n).coefRecover n).commitDone n := by
  have hlive : (s.laneAt n).phase.live = false := by simpa [State.laneIdle_eq] using hidle
  unfold State.commitCopy
  rw [if_neg (by rw [State.pending_clean hclean]; decide), h]
  simp only [hlive, Bool.false_and, Bool.false_eq_true, if_false]
  rfl

end

end Sys2Proof.Machine
end

section
/-! PROOFS. COMMIT of a lane's coefficients (R182, R183): what it does on a lane that is not running and on one that is. -/

namespace Sys2Proof.Machine

variable {s c : State} {n : Fin 48} {k : Nat} {e : LaneEff}

/-! ## The three ways of a COMMIT (R182, R183) -/

/-- A commit waits for its copy. -/
def State.commitBegun (s : State) (n : Nat) : State := s.modLane n (fun l => { l with commit := .atFrame })

theorem State.commitBegun_laneAt : (s.commitBegun n).laneAt n = { s.laneAt n with commit := .atFrame } :=
  s.laneAt_modLane_self n.isLt _

theorem State.laneCommit_holds (h : (s.laneAt n).commit ≠ .idle) : s.laneCommit n = s.modLane n (fun l => { l with held := true }) := by
  unfold State.laneCommit
  exact if_pos h

theorem State.laneCommit_waits (h : (s.laneAt n).commit = .idle) (hlive : (s.laneAt n).phase.live = true) :
    s.laneCommit n = (s.commitBegun n).laneSync n := by
  unfold State.laneCommit
  dsimp only
  rw [if_neg (not_not_intro h), if_pos hlive]
  rfl

theorem State.laneCommit_copies (h : (s.laneAt n).commit = .idle) (hidle : s.laneIdle n = true) :
    s.laneCommit n = (s.commitBegun n).commitCopy n := by
  have hlive : (s.laneAt n).phase.live = false := by simpa [State.laneIdle_eq] using hidle
  unfold State.laneCommit
  dsimp only
  rw [if_neg (not_not_intro h), if_neg (by rw [hlive]; decide)]
  rfl

/-! ## The copy of a lane that is not running -/

/-- The fields that a copy of such a lane writes. -/
def copyFlds (n : Nat) : List Fld :=
  whole (A.LANE_COEF_STATUS n) :: F.PG_IRQ (pgLANE n) 6 :: F.PG_IRQ (pgLANE n) 7 :: F.PG_FAULT (pgLANE n) :: laneStatusFlds n

theorem copyFlds_status : laneStatusFlds n ⊆ copyFlds n := fun f hf => by simp [copyFlds, hf]

/-- A field of LANEn_COEF_STATUS is covered. -/
theorem copyFlds_listed : ∀ f ∈ [F.LANE_COEF_STATUS_POISON n, F.LANE_COEF_STATUS_LOST n, F.PG_FAULT (pgLANE n),
    F.LANE_COEF_STATUS_ERR n, F.LANE_COEF_STATUS_ERR_CAUSE n, F.LANE_COEF_STATUS_ERR_STAGE n, F.PG_IRQ (pgLANE n) 7,
    F.LANE_COEF_STATUS_COMMITS n, F.PG_IRQ (pgLANE n) 6], f ∈ copyFlds n ∨ whole f.addr ∈ copyFlds n := by
  simp [copyFlds, F.LANE_COEF_STATUS_POISON, F.LANE_COEF_STATUS_LOST, F.LANE_COEF_STATUS_ERR, F.LANE_COEF_STATUS_ERR_CAUSE,
    F.LANE_COEF_STATUS_ERR_STAGE, F.LANE_COEF_STATUS_COMMITS]

theorem copyFlds_covers {fs : List Fld} (h : fs ⊆ [F.LANE_COEF_STATUS_POISON n, F.LANE_COEF_STATUS_LOST n, F.PG_FAULT (pgLANE n),
    F.LANE_COEF_STATUS_ERR n, F.LANE_COEF_STATUS_ERR_CAUSE n, F.LANE_COEF_STATUS_ERR_STAGE n, F.PG_IRQ (pgLANE n) 7,
    F.LANE_COEF_STATUS_COMMITS n, F.PG_IRQ (pgLANE n) 6]) : ∀ f ∈ fs, f ∈ copyFlds n ∨ whole f.addr ∈ copyFlds n :=
  fun f hf => copyFlds_listed f (h hf)

/-- A stable set sounds: COMMITS, COMMIT_DONE, the fault flags clear (R182, R189). -/
theorem State.commitTaken (hheld : (c.laneAt n).held = false) :
    (((c.setTaken n).coefRecover n).commitDone n).laneAt n = { c.laneAt n with
      chain := .at ⟨c.pendingSet n, (c.laneAt n).chain.new.regs⟩, commit := .idle, held := false } ∧
    (((c.setTaken n).coefRecover n).commitDone n).on (F.LANE_COEF_STATUS_BUSY n) = false ∧
    (((c.setTaken n).coefRecover n).commitDone n).get (F.LANE_COEF_STATUS_COMMITS n) =
      min (c.get (F.LANE_COEF_STATUS_COMMITS n) + 1) 0xFFFF ∧
    (((c.setTaken n).coefRecover n).commitDone n).on (F.LANE_COEF_STATUS_POISON n) = false ∧
    (((c.setTaken n).coefRecover n).commitDone n).on (F.LANE_COEF_STATUS_LOST n) = false ∧
    Touches [.lanes, .poison] [] (copyFlds n) c (((c.setTaken n).coefRecover n).commitDone n) := by
  obtain ⟨hpoison, hlost⟩ := State.coefRecover_flags (s := c.setTaken n) (n := n)
  have hcount : ((c.setTaken n).coefRecover n).get (F.LANE_COEF_STATUS_COMMITS n) = c.get (F.LANE_COEF_STATUS_COMMITS n) := by
    refine (State.coefRecover_touches.get_keeps ?_).trans (State.setTaken_touches.get_keeps (List.forall_mem_nil _))
    simp only [List.forall_mem_cons, List.not_mem_nil, false_imp_iff, implies_true, and_true]
    exact ⟨.inr (.inr (Nat.le_of_ble_eq_true rfl)), .inr (.inr (Nat.le_of_ble_eq_true rfl)),
      .inl (by simp only [F.PG_FAULT, F.LANE_COEF_STATUS_COMMITS, A.LANE_COEF_STATUS, pgLANE]; omega)⟩
  refine ⟨?_, ?_, ?_, ?_, ?_, ?_⟩
  · rw [State.commitDone_laneAt, State.coefRecover_laneAt, State.setTaken_laneAt, hheld]
    rfl
  · rw [State.commitDone_busy, State.coefRecover_laneAt, State.setTaken_laneAt]
    exact hheld
  · rw [State.commitDone_commits, hcount]
  · rw [State.commitDone_flag rfl (Nat.le_of_ble_eq_true rfl) (Nat.le_of_ble_eq_true rfl), hpoison]
  · rw [State.commitDone_flag rfl (Nat.le_of_ble_eq_true rfl) (Nat.le_of_ble_eq_true rfl), hlost]
  · refine (((Touches.refl _ _ _ c).step State.setTaken_touches (by simp) (List.forall_mem_nil _)).step State.coefRecover_touches
      (by simp) (copyFlds_covers (by simp))).step State.commitDone_touches (by simp) ?_
    exact List.forall_mem_cons.2 ⟨copyFlds_listed _ (by simp), List.forall_mem_cons.2 ⟨copyFlds_listed _ (by simp),
      fun f hf => .inl (copyFlds_status hf)⟩⟩

/-- An unstable stage is named, the chain stays (R182). -/
theorem State.commitUnstable (hheld : (c.laneAt n).held = false) :
    (c.commitRefused n 1 k).laneAt n = { c.laneAt n with commit := .idle, held := false } ∧
    (c.commitRefused n 1 k).on (F.LANE_COEF_STATUS_BUSY n) = false ∧
    (k < 10 → (c.commitRefused n 1 k).get (F.LANE_COEF_STATUS_ERR n) = 1 ∧
      (c.commitRefused n 1 k).get (F.LANE_COEF_STATUS_ERR_CAUSE n) = 1 ∧
      (c.commitRefused n 1 k).get (F.LANE_COEF_STATUS_ERR_STAGE n) = k ∧
      (c.commitRefused n 1 k).on (F.PG_IRQ (pgLANE n) 7) = true) ∧
    Touches [.lanes] [] (copyFlds n) c (c.commitRefused n 1 k) := by
  have hlanes : (c.refusalShown n 1 k).laneAt n = c.laneAt n :=
    congrArg (fun v => vget v n Lane.init) (State.refusalShown_touches.1 .lanes (by simp))
  rw [State.commitRefused_unstable hheld]
  refine ⟨?_, ?_, fun hk => ?_, ?_⟩
  · rw [State.laneSync_laneAt, State.laneAt_modLane_self _ n.isLt, hlanes]
  · rw [State.laneSync_busy, State.laneAt_modLane_self _ n.isLt]
    rfl
  · obtain ⟨herr, hcause, hstage, hirq⟩ := State.refusalShown_shows (s := c) (n := n) (cause := 1) (by decide) (Nat.lt_trans hk (by decide))
    rw [State.laneSync_get (laneAside_coefStatus rfl (.inl (Nat.le_of_ble_eq_true rfl))),
      State.laneSync_get (laneAside_coefStatus rfl (.inr (Nat.le_of_ble_eq_true rfl))),
      State.laneSync_get (laneAside_coefStatus rfl (.inr (Nat.le_of_ble_eq_true rfl))), State.laneSync_on laneAside_irq, State.modLane_get,
      State.modLane_get, State.modLane_get, State.modLane_on]
    exact ⟨herr, hcause, hstage, hirq⟩
  · exact (((Touches.refl _ _ _ c).step State.refusalShown_touches (by simp) (copyFlds_covers (by simp))).modLane n _ (by simp)).step
      State.laneSync_touches (by simp) (fun f hf => .inl (copyFlds_status hf))

/-! ## The word of LANEn_COEF_CTRL -/

/-- The lane has taken a word. -/
def State.wordTaken (s : State) (n : Nat) (e : LaneEff) : State := (s.modLane n (fun l => { l with eff := e })).laneSync n

theorem State.wordTaken_laneAt : (s.wordTaken n e).laneAt n = { s.laneAt n with eff := e } := by
  rw [State.wordTaken, State.laneSync_laneAt, State.laneAt_modLane_self _ n.isLt]

theorem State.wordTaken_touches : Touches [.lanes] [] (laneStatusFlds n) s (s.wordTaken n e) :=
  ((Touches.refl _ _ _ s).modLane n _ (by simp)).step State.laneSync_touches (by simp) (fun _ hf => .inl hf)

/-- On a lane that is not running a COMMIT starts the copy. -/
theorem State.laneCoefWritten_copies (hidle : s.laneIdle n = true) (hcommit : (s.laneAt n).commit = .idle) :
    ∃ e, s.laneCoefWritten n true = ((s.wordTaken n e).commitBegun n).commitCopy n := by
  unfold State.laneCoefWritten
  dsimp only
  rw [State.when_true, State.laneGuard_idle hidle]
  refine ⟨_, State.laneCommit_copies (s := s.wordTaken n _) ?_ ?_⟩
  · rw [State.wordTaken_laneAt]
    exact hcommit
  · rw [State.laneIdle_eq, State.wordTaken_laneAt]
    exact hidle

/-- On a running lane whose XFADE stays, COMMIT alone acts. -/
theorem State.laneCoefWritten_live (hlive : s.laneIdle n = false) (heff : (s.laneAt n).eff.coef = s.reg (A.LANE_COEF_CTRL n) &&& 4#32) :
    s.laneCoefWritten n true = (s.wordTaken n (s.laneAt n).eff).laneCommit n := by
  unfold State.laneCoefWritten
  dsimp only
  rw [State.when_true, ← heff, State.laneGuard_takes hlive (Nat.le_refl _), State.laneTake_eq rfl rfl, decide_eq_false (not_not_intro rfl),
    State.when_false]
  rfl

end Sys2Proof.Machine
end

section
/-! PROOFS. COMMIT as a word of LANEn_COEF_CTRL (R182, R183). -/

namespace Sys2Proof.Machine

variable {s c : State} {n : Fin 48} {k ini : Nat} {w : Word} {e : LaneEff}

/-! ## A field written with its own value -/

theorem setBits_bits_self (x : Word) {lo w : Nat} (h : lo + w ≤ 32) : setBits x lo w (bits x lo w) = x := by
  apply BitVec.eq_of_toNat_eq
  rw [setBits_toNat x lo w _ h]
  have hlow := Nat.div_add_mod x.toNat (2 ^ lo)
  have hhigh := Nat.div_add_mod (x.toNat / 2 ^ lo) (2 ^ w)
  rw [bits, Nat.mod_mod, Nat.pow_add, ← Nat.div_div_eq_div_mul]
  calc _ = 2 ^ lo * (2 ^ w * (x.toNat / 2 ^ lo / 2 ^ w) + x.toNat / 2 ^ lo % 2 ^ w) + x.toNat % 2 ^ lo := by ring
    _ = x.toNat := by rw [hhigh, hlow]

theorem State.set_same_reg {f : Fld} (h : f.lo + f.w ≤ 32) (a : Nat) : (s.set f (s.get f)).reg a = s.reg a := by
  rw [State.set, State.get, setBits_bits_self _ h, State.reg_setReg_id]

theorem Touches.set_same {f : Fld} (h : f.lo + f.w ≤ 32) : Touches [] [] [] s (s.set f (s.get f)) :=
  ⟨fun p _ => by cases p <;> rfl, fun a i _ _ _ => by rw [State.set_same_reg h]⟩

/-! ## On a lane that is not running -/

theorem laneAside_xfade : laneAside n (F.LANE_COEF_CTRL_XFADE n) :=
  laneAside_of_off 0x060 (by decide) rfl (fun h => absurd h (by decide))

theorem copyFlds_xfade : ∀ f ∈ copyFlds n, f.addr ≠ A.LANE_COEF_CTRL n ∨ 3 ≤ f.lo ∨ f.lo + f.w ≤ 2 := by
  simp only [copyFlds, List.forall_mem_cons]
  refine ⟨.inl ?_, .inl ?_, .inl ?_, .inl ?_, laneAside_xfade⟩ <;>
    simp only [whole, F.PG_IRQ, F.PG_FAULT, A.LANE_COEF_STATUS, A.LANE_COEF_CTRL, pgLANE] <;> omega

/-- The commit of a state whose set is not poisoned. -/
theorem State.commitCopied (hidle : c.laneIdle n = true) (hheld : (c.laneAt n).held = false)
    (hclean : ∀ k : Nat, k < 51 → c.poisoned .coefPend (64 * n + k) = false) :
    ((c.commitCopy n).laneAt n).commit = .idle ∧
    (c.commitCopy n).on (F.LANE_COEF_STATUS_BUSY n) = false ∧
    (c.unstableStage n = none →
      ((c.commitCopy n).laneAt n).chain.new.words = c.pendingSet n ∧ ((c.commitCopy n).laneAt n).chain.len = 0 ∧
      (c.commitCopy n).get (F.LANE_COEF_STATUS_COMMITS n) = min (c.get (F.LANE_COEF_STATUS_COMMITS n) + 1) 0xFFFF ∧
      (c.commitCopy n).on (F.PG_IRQ (pgLANE n) 6) = true ∧
      (c.commitCopy n).on (F.LANE_COEF_STATUS_POISON n) = false ∧ (c.commitCopy n).on (F.LANE_COEF_STATUS_LOST n) = false) ∧
    (∀ k : Nat, k < 10 → c.unstableStage n = some k →
      (c.commitCopy n).get (F.LANE_COEF_STATUS_ERR n) = 1 ∧ (c.commitCopy n).get (F.LANE_COEF_STATUS_ERR_CAUSE n) = 1 ∧
      (c.commitCopy n).get (F.LANE_COEF_STATUS_ERR_STAGE n) = k ∧ (c.commitCopy n).on (F.PG_IRQ (pgLANE n) 7) = true ∧
      ((c.commitCopy n).laneAt n).chain = (c.laneAt n).chain) ∧
    Touches [.lanes, .poison] [] (copyFlds n) c (c.commitCopy n) := by
  cases hstage : c.unstableStage n with
  | none =>
    rw [State.commitCopy_stable hidle hclean hstage]
    obtain ⟨hlane, hbusy, hcommits, hpoison, hlost, htouch⟩ := State.commitTaken hheld
    rw [hlane]
    exact ⟨rfl, hbusy, fun _ => ⟨rfl, rfl, hcommits, State.commitDone_irq, hpoison, hlost⟩, nofun, htouch⟩
  | some j =>
    rw [State.commitCopy_unstable hclean hstage]
    obtain ⟨hlane, hbusy, hshown, htouch⟩ := State.commitUnstable (k := j) hheld
    rw [hlane]
    refine ⟨rfl, hbusy, nofun, fun k hk hj => ?_, htouch.mono (by simp) (List.Subset.refl _) (List.Subset.refl _)⟩
    obtain rfl := Option.some.inj hj
    obtain ⟨herr, hcause, hshow, hirq⟩ := hshown hk
    exact ⟨herr, hcause, hshow, hirq, rfl⟩

/-! ## On a lane that runs -/

theorem State.laneCommit_live (hlive : s.laneIdle n = false) :
    ((s.laneAt n).commit = .idle → ((s.laneCommit n).laneAt n).commit = .atFrame ∧
      (s.laneCommit n).on (F.LANE_COEF_STATUS_BUSY n) = true) ∧
    ((s.laneAt n).commit ≠ .idle → ((s.laneCommit n).laneAt n).commit = (s.laneAt n).commit ∧ ((s.laneCommit n).laneAt n).held = true) ∧
    ((s.laneCommit n).laneAt n).chain = (s.laneAt n).chain ∧
    Touches [.lanes] [] (laneStatusFlds n) s (s.laneCommit n) := by
  by_cases hc : (s.laneAt n).commit = .idle
  · rw [State.laneCommit_waits hc (State.live_of_idle_false hlive)]
    refine ⟨fun _ => ⟨?_, ?_⟩, fun h => absurd hc h, ?_, ?_⟩
    · rw [State.laneSync_laneAt, State.commitBegun_laneAt]
    · rw [State.laneSync_busy, State.commitBegun_laneAt]
      rfl
    · rw [State.laneSync_laneAt, State.commitBegun_laneAt]
    · exact ((Touches.refl _ _ _ s).modLane n _ (by simp)).step State.laneSync_touches (by simp) (fun _ hf => .inl hf)
  · rw [State.laneCommit_holds hc, State.laneAt_modLane_self _ n.isLt]
    exact ⟨fun h => absurd h hc, fun _ => ⟨rfl, rfl⟩, rfl, (Touches.refl _ _ _ s).modLane n _ (by simp)⟩

/-! ## The state a copy starts from -/

/-- A COMMIT on a lane that is not running: XFADE held, its words in effect, the commit begun. -/
def State.commitReady (s : State) (n x : Nat) (e : LaneEff) : State := ((s.set (F.LANE_COEF_CTRL_XFADE n) x).wordTaken n e).commitBegun n

theorem State.commitReady_laneAt {x : Nat} : (s.commitReady n x e).laneAt n = { s.laneAt n with eff := e, commit := .atFrame } := by
  rw [State.commitReady, State.commitBegun_laneAt, State.wordTaken_laneAt, State.set_laneAt]

theorem State.commitReady_touches {x : Nat} :
    Touches [.lanes] [] (F.LANE_COEF_CTRL_XFADE n :: laneStatusFlds n) s (s.commitReady n x e) :=
  (((Touches.refl _ _ _ s).set _ (.inr (by simp))).step State.wordTaken_touches (by simp) (fun _ hf => .inl (by simp [hf]))).modLane n _
    (by simp)

theorem State.commitReady_xfade {x : Nat} : (s.commitReady n x e).get (F.LANE_COEF_CTRL_XFADE n) = x % 2 := by
  rw [State.commitReady, State.commitBegun, State.modLane_get, State.wordTaken, State.laneSync_get laneAside_xfade, State.modLane_get,
    State.get_set_in (Nat.le_of_ble_eq_true rfl)]
  rfl

theorem State.commitReady_commits {x : Nat} :
    (s.commitReady n x e).get (F.LANE_COEF_STATUS_COMMITS n) = s.get (F.LANE_COEF_STATUS_COMMITS n) := by
  have hstatus : laneAside n (F.LANE_COEF_STATUS_COMMITS n) := laneAside_coefStatus rfl (.inr (Nat.le_of_ble_eq_true rfl))
  refine State.commitReady_touches.get_keeps (List.forall_mem_cons.2 ⟨.inl ?_, hstatus⟩)
  simp only [F.LANE_COEF_CTRL_XFADE, F.LANE_COEF_STATUS_COMMITS, A.LANE_COEF_CTRL, A.LANE_COEF_STATUS]
  omega

/-! ## The words -/

theorem State.writeOne_laneCommit (h : s.mayWrite ini (A.LANE_COEF_CTRL n) (w ||| 0x1#32) = true) :
    s.writeOne none ini (A.LANE_COEF_CTRL n) (w ||| 0x1#32) = (s.set (F.LANE_COEF_CTRL_XFADE n) (bits w 2 1)).laneCoefWritten n true := by
  rw [State.writeOne_laneCoef h, hit_or_const w _ (by decide), bits_or_const w (0x1#32) (lo := 2) (by decide)]

theorem State.writeOne_laneCommit_idle (h : s.mayWrite ini (A.LANE_COEF_CTRL n) (w ||| 0x1#32) = true) (hidle : s.laneIdle n = true)
    (hcommit : (s.laneAt n).commit = .idle) : ∃ e, s.writeOne none ini (A.LANE_COEF_CTRL n) (w ||| 0x1#32) =
      (s.commitReady n (bits w 2 1) e).commitCopy n := by
  obtain ⟨e, he⟩ := State.laneCoefWritten_copies (s := s.set (F.LANE_COEF_CTRL_XFADE n) (bits w 2 1)) (n := n)
    (by rw [State.laneIdle_eq, State.set_laneAt]; exact hidle) (by rw [State.set_laneAt]; exact hcommit)
  exact ⟨e, (State.writeOne_laneCommit h).trans he⟩

/-- A running lane whose XFADE stays takes the COMMIT from a state that differs in its status alone. -/
theorem State.writeOne_laneCommit_live (h : s.mayWrite ini (A.LANE_COEF_CTRL n) (w ||| 0x1#32) = true) (hlive : s.laneIdle n = false)
    (hx : s.get (F.LANE_COEF_CTRL_XFADE n) = bits w 2 1) (heff : (s.laneAt n).eff.coef = s.reg (A.LANE_COEF_CTRL n) &&& 4#32) :
    ∃ t, s.writeOne none ini (A.LANE_COEF_CTRL n) (w ||| 0x1#32) = t.laneCommit n ∧ t.laneAt n = s.laneAt n ∧
      Touches [.lanes] [] (laneStatusFlds n) s t := by
  have hsame : Touches [] [] [] s (s.set (F.LANE_COEF_CTRL_XFADE n) (bits w 2 1)) := hx ▸ Touches.set_same (Nat.le_of_ble_eq_true rfl)
  refine ⟨_, (State.writeOne_laneCommit h).trans (State.laneCoefWritten_live ?_ ?_), ?_, ?_⟩
  · rw [State.laneIdle_eq, State.set_laneAt]
    exact hlive
  · rw [State.set_laneAt, heff, hsame.reg_eq List.not_mem_nil (List.forall_mem_nil _)]
  · rw [State.wordTaken_laneAt, State.set_laneAt]
  · exact (hsame.mono (by simp) (by simp) (by simp)).trans State.wordTaken_touches

end Sys2Proof.Machine
end

section
/-! PROOFS. The extended pool (R176, R186): what a lane that takes blocks again writes, and what it leaves to the lanes. -/

namespace Sys2Proof.Machine

variable {s t u : State} {n : Fin 48} {k want : Nat} {fs : List Fld}

/-! ## Blocks -/

/-- The delay's blocks are set. -/
def State.delayTaken (s : State) (n want : Nat) : State :=
  ({ s with poolFree := s.poolFree + s.get (F.LANE_DELAY_EXT_BLOCKS n) - want }).set (F.LANE_DELAY_EXT_BLOCKS n) want

theorem State.takeDelay_fits (h : want ≤ s.get (F.LANE_DELAY_EXT_BLOCKS k) + s.poolFree) :
    s.takeDelay k want = some (s.delayTaken k want) := by
  unfold State.takeDelay
  exact if_pos h

theorem State.takeDelay_refused (h : s.get (F.LANE_DELAY_EXT_BLOCKS k) + s.poolFree < want) : s.takeDelay k want = none := by
  unfold State.takeDelay
  exact if_neg (Nat.not_le.2 h)

theorem State.delayTaken_laneAt {j : Nat} : (s.delayTaken k want).laneAt j = s.laneAt j := by
  rw [State.delayTaken, State.set_laneAt]
  rfl

theorem State.delayTaken_touches : Touches [.poolFree] [] [F.LANE_DELAY_EXT_BLOCKS k] s (s.delayTaken k want) :=
  ((Touches.refl _ _ _ s).put_poolFree _ (by simp)).set _ (.inr (by simp))

/-- Delay blocks are taken or they are not. -/
theorem State.takeDelay_cases (s : State) (k want : Nat) : s.takeDelay k want = none ∨ s.takeDelay k want = some (s.delayTaken k want) :=
  (Nat.lt_or_ge _ _).elim (fun h => .inl (State.takeDelay_refused h)) (fun h => .inr (State.takeDelay_fits h))

/-- The converter's blocks are set. -/
def State.rcTaken (s : State) (n want : Nat) : State :=
  ({ s with poolFree := s.poolFree + s.get (F.LANE_POOL_RC_BLOCKS n) - want }).set (F.LANE_POOL_RC_BLOCKS n) want

theorem State.takeRc_cases (s : State) (k want : Nat) : s.takeRc k want = none ∨ s.takeRc k want = some (s.rcTaken k want) := by
  unfold State.takeRc
  exact (em _).elim (fun h => .inr (if_pos h)) (fun h => .inl (if_neg h))

theorem State.rcTaken_laneAt {j : Nat} : (s.rcTaken k want).laneAt j = s.laneAt j := by
  rw [State.rcTaken, State.set_laneAt]
  rfl

theorem State.rcTaken_touches : Touches [.poolFree] [] [F.LANE_POOL_RC_BLOCKS k] s (s.rcTaken k want) :=
  ((Touches.refl _ _ _ s).put_poolFree _ (by simp)).set _ (.inr (by simp))

/-! ## The frame of an allocation -/

/-- The fields that the allocation of a lane's blocks writes. -/
def laneAllocFlds (n : Nat) : List Fld :=
  F.LANE_DELAY_EXT_BLOCKS n :: F.LANE_POOL_RC_BLOCKS n :: F.LANE_FLAGS_POOL_ERR n :: F.LANE_FLAGS_RATIO_ERR n ::
    F.LANE_STATUS_RC_MARGIN_NOW n :: F.PG_IRQ (pgLANE n) 1 :: F.PG_FAULT (pgLANE n) :: laneStatusFlds n

theorem laneAllocFlds_status : ∀ f ∈ laneStatusFlds k, f.addr / 0x400 ∈ ([] : List Nat) ∨ f ∈ laneAllocFlds k :=
  fun f hf => .inr (by simp [laneAllocFlds, hf])

section
variable (h : Touches [.lanes, .poolFree] [] (laneAllocFlds k) s t)
include h

theorem Touches.allocPhase (p : LanePhase) : Touches [.lanes, .poolFree] [] (laneAllocFlds k) s (t.lanePhase k p) :=
  h.lanePhase p (by simp) laneAllocFlds_status

theorem Touches.lanePoolErr : Touches [.lanes, .poolFree] [] (laneAllocFlds k) s (t.lanePoolErr k) :=
  ((h.modLane k _ (by simp)).set _ (.inr (by simp [laneAllocFlds]))).fault 3 (.inr (by simp [laneAllocFlds]))

theorem Touches.laneRatioErr : Touches [.lanes, .poolFree] [] (laneAllocFlds k) s (t.laneRatioErr k) :=
  ((h.modLane k _ (by simp)).set _ (.inr (by simp [laneAllocFlds]))).fault 4 (.inr (by simp [laneAllocFlds]))

theorem Touches.poolUnfault (code : Nat) : Touches [.lanes, .poolFree] [] (laneAllocFlds k) s (t.unfault (pgLANE k) code) :=
  h.unfault code (.inr (by simp [laneAllocFlds]))

theorem Touches.rcTaken : Touches [.lanes, .poolFree] [] (laneAllocFlds k) s (t.rcTaken k want) :=
  h.step State.rcTaken_touches (by simp) (by simp [laneAllocFlds])

theorem Touches.delayTaken : Touches [.lanes, .poolFree] [] (laneAllocFlds k) s (t.delayTaken k want) :=
  h.step State.delayTaken_touches (by simp) (by simp [laneAllocFlds])

theorem Touches.laneFill : Touches [.lanes, .poolFree] [] (laneAllocFlds k) s (t.laneFill k) := by
  unfold State.laneFill
  dsimp only
  split
  · exact (h.when _ fun _ => h.laneRatioErr).allocPhase _
  · have hm := h.set (f := F.LANE_STATUS_RC_MARGIN_NOW k) (t.get (F.LANE_RC_MARGIN k)) (.inr (by simp [laneAllocFlds]))
    rcases State.takeRc_cases (t.set (F.LANE_STATUS_RC_MARGIN_NOW k) (t.get (F.LANE_RC_MARGIN k))) k _ with hr | hr <;> rw [hr]
    · exact hm.lanePoolErr.allocPhase _
    · exact (((((hm.rcTaken.poolUnfault 3).modLane k _ (by simp)).poolUnfault 4).modLane k _ (by simp)).modLane k _
        (by simp)).allocPhase _

end

theorem State.laneAlloc_touches : Touches [.lanes, .poolFree] [] (laneAllocFlds k) s (s.laneAlloc k) := by
  have h := Touches.refl [.lanes, .poolFree] [] (laneAllocFlds k) s
  unfold State.laneAlloc
  dsimp only
  rcases State.takeDelay_cases s k (delayBlocks (bits (s.laneAt k).eff.delay 0 16)) with hd | hd <;> rw [hd]
  · exact h.lanePoolErr.allocPhase _
  · dsimp only [Option.bind_some]
    rcases State.takeRc_cases (s.delayTaken k (delayBlocks (bits (s.laneAt k).eff.delay 0 16))) k _ with hr | hr <;> rw [hr]
    · exact h.lanePoolErr.allocPhase _
    · exact ((h.delayTaken.rcTaken).poolUnfault 3).laneFill

/-! ## What an allocation leaves to the lanes -/

/-- The words in effect stay, and a lane that is live stays so. -/
def Lane.Keeps (l l' : Lane) : Prop := l'.eff = l.eff ∧ (l.phase.live = true → l'.phase.live = true)

theorem Lane.Keeps.refl (l : Lane) : Lane.Keeps l l := ⟨rfl, id⟩

theorem Lane.Keeps.trans {a b c : Lane} (h : Lane.Keeps a b) (h' : Lane.Keeps b c) : Lane.Keeps a c :=
  ⟨h'.1.trans h.1, fun ha => h'.2 (h.2 ha)⟩

section
variable (h : Lane.Keeps (s.laneAt n) (t.laneAt n))
include h

theorem Lane.Keeps.modLane {f : Lane → Lane} (hf : ∀ l, Lane.Keeps l (f l)) : Lane.Keeps (s.laneAt n) ((t.modLane k f).laneAt n) := by
  by_cases hk : k = n
  · subst hk
    rw [State.laneAt_modLane_self _ n.isLt]
    exact h.trans (hf _)
  · rwa [State.laneAt_modLane_ne _ hk]

theorem Lane.Keeps.lanePhase {p : LanePhase} (hp : p.live = true) : Lane.Keeps (s.laneAt n) ((t.lanePhase k p).laneAt n) := by
  rw [State.lanePhase, State.laneSync_laneAt]
  exact h.modLane fun _ => ⟨rfl, fun _ => hp⟩

theorem Lane.Keeps.lanePoolErr : Lane.Keeps (s.laneAt n) ((t.lanePoolErr k).laneAt n) := by
  rw [State.lanePoolErr, State.fault_laneAt, State.set_laneAt]
  exact h.modLane fun _ => ⟨rfl, id⟩

theorem Lane.Keeps.laneRatioErr : Lane.Keeps (s.laneAt n) ((t.laneRatioErr k).laneAt n) := by
  rw [State.laneRatioErr, State.fault_laneAt, State.set_laneAt]
  exact h.modLane fun _ => ⟨rfl, id⟩

theorem Lane.Keeps.unfault (p code : Nat) : Lane.Keeps (s.laneAt n) ((t.unfault p code).laneAt n) := by
  rwa [State.unfault_laneAt]

theorem Lane.Keeps.laneRatioOk : Lane.Keeps (s.laneAt n) ((t.laneRatioOk k).laneAt n) := by
  rw [State.laneRatioOk, State.unfault_laneAt]
  exact h.modLane fun _ => ⟨rfl, id⟩

theorem Lane.Keeps.loopSeed : Lane.Keeps (s.laneAt n) ((t.loopSeed k).laneAt n) := h.modLane fun _ => ⟨rfl, id⟩

theorem Lane.Keeps.set (f : Fld) (v : Nat) : Lane.Keeps (s.laneAt n) ((t.set f v).laneAt n) := by
  rwa [State.set_laneAt]

theorem Lane.Keeps.rcTaken : Lane.Keeps (s.laneAt n) ((t.rcTaken k want).laneAt n) := by
  rwa [State.rcTaken_laneAt]

theorem Lane.Keeps.delayTaken : Lane.Keeps (s.laneAt n) ((t.delayTaken k want).laneAt n) := by
  rwa [State.delayTaken_laneAt]

theorem Lane.Keeps.laneFill : Lane.Keeps (s.laneAt n) ((t.laneFill k).laneAt n) := by
  unfold State.laneFill
  dsimp only
  split
  · cases decide ((t.laneAt k).kind = .tracked) && decide (t.trkState (t.laneAt k).dom = 2)
    · exact h.lanePhase rfl
    · exact h.laneRatioErr.lanePhase rfl
  · have hm := h.set (F.LANE_STATUS_RC_MARGIN_NOW k) (t.get (F.LANE_RC_MARGIN k))
    rcases State.takeRc_cases (t.set (F.LANE_STATUS_RC_MARGIN_NOW k) (t.get (F.LANE_RC_MARGIN k))) k _ with hr | hr <;> rw [hr]
    · exact hm.lanePoolErr.lanePhase rfl
    · dsimp only
      refine Lane.Keeps.lanePhase ?_ rfl
      refine Lane.Keeps.modLane ?_ fun _ => ⟨rfl, id⟩
      refine Lane.Keeps.loopSeed ?_
      refine Lane.Keeps.laneRatioOk ?_
      exact Lane.Keeps.unfault (Lane.Keeps.rcTaken hm) _ _

end

theorem State.laneAlloc_keeps : Lane.Keeps (s.laneAt n) ((s.laneAlloc k).laneAt n) := by
  have h := Lane.Keeps.refl (s.laneAt n)
  unfold State.laneAlloc
  dsimp only
  rcases State.takeDelay_cases s k (delayBlocks (bits (s.laneAt k).eff.delay 0 16)) with hd | hd <;> rw [hd]
  · exact h.lanePoolErr.lanePhase rfl
  · dsimp only [Option.bind_some]
    rcases State.takeRc_cases (s.delayTaken k (delayBlocks (bits (s.laneAt k).eff.delay 0 16))) k _ with hr | hr <;> rw [hr]
    · exact h.lanePoolErr.lanePhase rfl
    · exact ((h.delayTaken.rcTaken).unfault _ 3).laneFill

end Sys2Proof.Machine
end

section
/-! PROOFS. Blocks released and taken: the lanes that wait for some (R176), and FRAMES on a running lane (R186). -/

namespace Sys2Proof.Machine

variable {s t b : State} {n : Fin 48} {k want : Nat}

/-! ## Lanes that wait for blocks -/

/-- No lane waits for blocks. -/
def State.noneWaits (s : State) : Prop := ∀ k : Nat, k < 48 → (s.laneAt k).phase ≠ .poolWait

/-- A lane that waits for blocks tries again. -/
def State.retryOne (s : State) (n : Nat) : State :=
  s.when (decide ((s.laneAt n).phase = .poolWait) && decide (0 < s.poolFree)) (·.laneAlloc n)

theorem State.poolRetry_eq : s.poolRetry b = s.when (decide (b.poolFree < s.poolFree)) (·.forAll 48 State.retryOne) := rfl

/-- What an allocation keeps, the retries keep. -/
theorem State.poolRetry_holds (P : State → Prop) (hP : ∀ t k, P t → P (t.laneAlloc k)) (h : P s) : P (s.poolRetry b) := by
  have hone : ∀ t k, P t → P (t.retryOne k) := fun t k ht => by
    unfold State.retryOne
    cases decide ((t.laneAt k).phase = .poolWait) && decide (0 < t.poolFree)
    · exact ht
    · exact hP t k ht
  rw [State.poolRetry_eq]
  cases decide (b.poolFree < s.poolFree)
  · exact h
  · exact State.forAll_holds P hone h 48

theorem State.poolRetry_keeps : Lane.Keeps (s.laneAt n) ((s.poolRetry b).laneAt n) :=
  State.poolRetry_holds (fun t => Lane.Keeps (s.laneAt n) (t.laneAt n)) (fun _ _ ht => ht.trans State.laneAlloc_keeps)
    (Lane.Keeps.refl _)

/-- FRAMES lies beside the fields of every lane's allocation. -/
theorem laneAllocFlds_frames : ∀ f ∈ laneAllocFlds k, f.addr ≠ A.LANE_DELAY n ∨ 16 ≤ f.lo := by
  have hstatus : ∀ f ∈ laneStatusFlds k, f.addr ≠ A.LANE_DELAY n := by
    simp only [laneStatusFlds, List.forall_mem_cons, List.not_mem_nil, false_imp_iff, implies_true, and_true]
    simp only [F.LANE_STATUS_STATE, F.LANE_STATUS_DOMAIN, F.LANE_STATUS_RATE, F.LANE_STATUS_STOP_NOW, F.LANE_STATUS_BYPASS,
      F.LANE_STATUS_CHG_WAIT, F.LANE_STATUS_RC_STATE, F.LANE_STATUS_EVENT_RAMP, whole, F.LANE_RATE_MEAS_RATE, F.LANE_COST_STOP0,
      F.LANE_COST_NOW, F.LANE_COEF_STATUS_BUSY, A.LANE_STATUS, A.LANE_RATIO, A.LANE_RATE_MEAS, A.LANE_COST, A.LANE_COEF_STATUS,
      A.LANE_DELAY]
    omega
  simp only [laneAllocFlds, List.forall_mem_cons]
  refine ⟨.inr (Nat.le_of_ble_eq_true rfl), .inl ?_, .inl ?_, .inl ?_, .inl ?_, .inl ?_, .inl ?_, fun f hf => .inl (hstatus f hf)⟩ <;>
    simp only [F.LANE_POOL_RC_BLOCKS, F.LANE_FLAGS_POOL_ERR, F.LANE_FLAGS_RATIO_ERR, F.LANE_STATUS_RC_MARGIN_NOW, F.PG_IRQ, F.PG_FAULT,
      A.LANE_POOL, A.LANE_FLAGS, A.LANE_STATUS, A.LANE_DELAY, pgLANE] <;> omega

theorem State.poolRetry_frames : (s.poolRetry b).get (F.LANE_DELAY_FRAMES n) = s.get (F.LANE_DELAY_FRAMES n) :=
  State.poolRetry_holds (fun t => t.get (F.LANE_DELAY_FRAMES n) = s.get (F.LANE_DELAY_FRAMES n))
    (fun _ _ ht => (State.laneAlloc_touches.get_keeps fun f hf => (laneAllocFlds_frames f hf).imp_right .inl).trans ht) rfl

theorem laneAllocFlds_page : ∀ f ∈ laneAllocFlds k, f.addr / 0x400 = pgLANE k := by
  simp only [laneAllocFlds, List.forall_mem_cons]
  refine ⟨laneReg_page (by decide), laneReg_page (by decide), laneReg_page (by decide), laneReg_page (by decide),
    laneReg_page (by decide), ?_, ?_, laneStatusFlds_page k⟩ <;> simp only [F.PG_IRQ, F.PG_FAULT] <;> omega

/-- The retries stay on the lanes' pages. -/
theorem State.poolRetry_touches : Touches [.lanes, .poolFree] ((List.range 48).map (· + 0x30)) [] s (s.poolRetry b) := by
  unfold State.poolRetry
  refine (Touches.refl _ _ _ s).when _ fun _ => (Touches.refl _ _ _ s).forAll 48 fun t k hk ht => ht.when _ fun _ => ht.trans ?_
  exact State.laneAlloc_touches.pages (List.nil_subset _) fun f hf => .inl (laneAllocFlds_page f hf ▸ mem_lanePages hk)

/-- Where no lane waits for blocks, nothing happens. -/
theorem State.poolRetry_none (h : s.noneWaits) : s.poolRetry b = s := by
  have hloop : ∀ N ≤ 48, s.forAll N State.retryOne = s := by
    intro N
    induction N with
    | zero => exact fun _ => rfl
    | succ N ih =>
      intro hN
      rw [State.forAll_succ, ih (by omega), State.retryOne, decide_eq_false (h N (by omega)), Bool.false_and, State.when_false]
  rw [State.poolRetry_eq]
  cases decide (b.poolFree < s.poolFree)
  · rfl
  · exact hloop 48 (Nat.le_refl _)

end Sys2Proof.Machine
end

section
/-! PROOFS. LANEn_DELAY (R186): FRAMES on a lane that is not running, on a running one, and beyond the pool. -/

namespace Sys2Proof.Machine

variable {s t b : State} {n : Fin 48} {k v want ini : Nat} {old w x : Word}

/-! ## The three outcomes -/

/-- Refused: FRAMES as before, POOL_ERR. -/
def State.delayRefused (s : State) (n : Nat) (old : Word) : State :=
  (s.set (F.LANE_DELAY_FRAMES n) (bits old 0 16)).set (F.LANE_FLAGS_POOL_ERR n) 1

/-- The words in effect with another delay. -/
def State.delayEff (s : State) (n : Nat) (x : Word) : LaneEff := { (s.laneAt n).eff with delay := x }

/-- The blocks of the taps that play. -/
def State.delayUsed (s : State) (n : Nat) : Nat :=
  if (s.laneAt n).phase = .alloc ∨ (s.laneAt n).phase = .poolWait then 0 else ((s.laneAt n).tap.sides.map delayBlocks).foldl max 0

section
variable (hidle : s.laneIdle n = true)
include hidle

theorem State.laneDelayWritten_idle
    (h : delayBlocks (s.get (F.LANE_DELAY_FRAMES n)) ≤ s.get (F.LANE_DELAY_EXT_BLOCKS n) + s.poolFree) : s.laneDelayWritten n old =
      (s.wordTaken n (s.delayEff n (BitVec.ofNat 32 (s.get (F.LANE_DELAY_FRAMES n))))).set (F.LANE_DELAY_STATUS_FRAMES_NOW n)
        (s.get (F.LANE_DELAY_FRAMES n)) := by
  unfold State.laneDelayWritten
  dsimp only
  rw [← State.laneIdle_eq, if_pos hidle, if_pos h, State.laneGuard_idle hidle]
  rfl

theorem State.laneDelayWritten_idle_refused
    (h : s.get (F.LANE_DELAY_EXT_BLOCKS n) + s.poolFree < delayBlocks (s.get (F.LANE_DELAY_FRAMES n))) :
    s.laneDelayWritten n old = s.delayRefused n old := by
  unfold State.laneDelayWritten
  dsimp only
  rw [← State.laneIdle_eq, if_pos hidle, if_neg (Nat.not_le.2 h)]
  rfl

end

/-- The pool after a running lane has taken its delay's blocks and the lanes that wait have tried again. -/
def State.delayPooled (s : State) (n want : Nat) : State := (s.delayTaken n want).poolRetry s

theorem State.delayPooled_keeps : Lane.Keeps (s.laneAt n) ((s.delayPooled k want).laneAt n) :=
  (Lane.Keeps.refl _).delayTaken.trans State.poolRetry_keeps

section
variable (hlive : s.laneIdle n = false)
include hlive

theorem State.laneDelayWritten_live_refused (h : s.get (F.LANE_DELAY_EXT_BLOCKS n) + s.poolFree <
    max (delayBlocks (s.get (F.LANE_DELAY_FRAMES n))) (s.delayUsed n)) : s.laneDelayWritten n old = s.delayRefused n old := by
  unfold State.laneDelayWritten
  dsimp only
  rw [if_neg (by rw [State.live_of_idle_false hlive]; decide)]
  have hnone := State.takeDelay_refused h
  unfold State.delayUsed at hnone
  rw [hnone]
  rfl

theorem State.laneDelayWritten_live
    (h : max (delayBlocks (s.get (F.LANE_DELAY_FRAMES n))) (s.delayUsed n) ≤ s.get (F.LANE_DELAY_EXT_BLOCKS n) + s.poolFree)
    (hstage : bits (s.laneAt n).eff.delay 0 16 ≠ 0 ∨ bits (BitVec.ofNat 32 (s.get (F.LANE_DELAY_FRAMES n))) 0 16 = 0) :
    s.laneDelayWritten n old = (s.delayPooled n (max (delayBlocks (s.get (F.LANE_DELAY_FRAMES n))) (s.delayUsed n))).laneTake n
      (s.delayEff n (BitVec.ofNat 32 (s.get (F.LANE_DELAY_FRAMES n)))) := by
  obtain ⟨heff, hphase⟩ := State.delayPooled_keeps (s := s) (n := n) (k := n)
    (want := max (delayBlocks (s.get (F.LANE_DELAY_FRAMES n))) (s.delayUsed n))
  have hsome := State.takeDelay_fits h
  have hidle : (s.delayPooled n (max (delayBlocks (s.get (F.LANE_DELAY_FRAMES n))) (s.delayUsed n))).laneIdle n = false := by
    rw [State.laneIdle_eq, hphase (State.live_of_idle_false hlive)]
    rfl
  have htakes (undo : State → State) := State.laneGuard_takes (undo := undo)
    (e := s.delayEff n (BitVec.ofNat 32 (s.get (F.LANE_DELAY_FRAMES n)))) hidle (by
      rw [State.delayEff, ← heff]
      exact State.laneCostWith_delay_le (by rwa [heff]))
  unfold State.laneDelayWritten
  dsimp only
  rw [if_neg (by rw [State.live_of_idle_false hlive]; decide)]
  unfold State.delayUsed at hsome htakes ⊢
  rw [hsome]
  exact htakes _

end

/-! ## The crossfade to a new delay (R186) -/

theorem Blend.to_new {α : Type} (b : Blend α) (x : α) (len : Nat) : (b.to x len).new = x := by
  unfold Blend.to
  split
  · rfl
  · split <;> rfl

theorem Blend.to_len {α : Type} (b : Blend α) (x : α) (len : Nat) : (b.to x len).len = len := by
  unfold Blend.to
  split
  · next h => exact h.symm
  · split <;> rfl

/-- The crossfade begins. -/
def State.delayFaded (s : State) (n : Nat) (x : Word) : State :=
  (s.modLane n (fun l => { l with tap := l.tap.to (bits x 0 16) (s.frames 10000) })).set (F.LANE_DELAY_STATUS_XFADE_NOW n) 1

theorem State.delayFaded_laneAt : (s.delayFaded n x).laneAt n =
    { s.laneAt n with tap := (s.laneAt n).tap.to (bits x 0 16) (s.frames 10000) } := by
  rw [State.delayFaded, State.set_laneAt, State.laneAt_modLane_self _ n.isLt]

section
variable {e : LaneEff} (hsrc : e.src = (t.laneAt n).eff.src) (hhum : e.hum = (t.laneAt n).eff.hum)
include hsrc hhum

theorem State.laneTake_same (h : e.delay = (t.laneAt n).eff.delay) : t.laneTake n e = t.wordTaken n e := by
  rw [State.laneTake_eq hsrc hhum, decide_eq_false (not_not_intro h), State.when_false]
  rfl

theorem State.laneTake_fades (h : e.delay ≠ (t.laneAt n).eff.delay) :
    t.laneTake n e = ((t.modLane n (fun l => { l with eff := e })).delayFaded n e.delay).laneSync n := by
  rw [State.laneTake_eq hsrc hhum, decide_eq_true h, State.when_true]
  rfl

theorem State.laneTake_eff : ((t.laneTake n e).laneAt n).eff = e := by
  by_cases h : e.delay = (t.laneAt n).eff.delay
  · rw [State.laneTake_same hsrc hhum h, State.wordTaken_laneAt]
  · rw [State.laneTake_fades hsrc hhum h, State.laneSync_laneAt, State.delayFaded_laneAt, State.laneAt_modLane_self _ n.isLt]

theorem State.laneTake_touches :
    Touches [.lanes] [] (F.LANE_DELAY_STATUS_XFADE_NOW n :: laneStatusFlds n) t (t.laneTake n e) := by
  by_cases h : e.delay = (t.laneAt n).eff.delay
  · rw [State.laneTake_same hsrc hhum h]
    exact State.wordTaken_touches.mono (by simp) (by simp) (by simp)
  · rw [State.laneTake_fades hsrc hhum h]
    exact ((((Touches.refl _ _ _ t).modLane n _ (by simp)).modLane n _ (by simp)).set _ (.inr (by simp))).step State.laneSync_touches
      (by simp) (fun _ hf => .inl (by simp [hf]))

theorem State.laneTake_xfade (h : e.delay ≠ (t.laneAt n).eff.delay) : (t.laneTake n e).on (F.LANE_DELAY_STATUS_XFADE_NOW n) = true ∧
    ((t.laneTake n e).laneAt n).tap.new = bits e.delay 0 16 ∧ ((t.laneTake n e).laneAt n).tap.len = t.frames 10000 := by
  have haside : laneAside n (F.LANE_DELAY_STATUS_XFADE_NOW n) := laneAside_of_off 0x084 (by decide) rfl (fun h => absurd h (by decide))
  rw [State.laneTake_fades hsrc hhum h, State.laneSync_laneAt, State.delayFaded_laneAt, State.laneAt_modLane_self _ n.isLt,
    State.laneSync_on haside]
  exact ⟨State.on_set_one ⟨Nat.le_of_ble_eq_true rfl, Nat.one_pos⟩, Blend.to_new _ _ _, Blend.to_len _ _ _⟩

end

/-! ## Frames -/

/-- Larger lists, or a field's word listed whole. -/
theorem Touches.widen {ps ps' : List Part} {gs gs' : List Nat} {fs fs' : List Fld} (h : Touches ps gs fs s t) (hp : ps ⊆ ps')
    (hg : gs ⊆ gs') (hf : ∀ f ∈ fs, f ∈ fs' ∨ whole f.addr ∈ fs') : Touches ps' gs' fs' s t :=
  ⟨fun p hn => h.1 p fun hm => hn (hp hm), fun a i hi ha hn => h.2 a i hi (fun hm => ha (hg hm)) fun ⟨f, hm, he, hlo, hup⟩ =>
    (hf f hm).elim (fun hm' => hn ⟨f, hm', he, hlo, hup⟩)
      (fun hm' => hn ⟨_, hm', he, Nat.zero_le i, by rw [whole]; omega⟩)⟩

/-- Whether some lane waits for blocks. -/
def State.someWaits (s : State) : Bool := (List.range 48).any (fun k => decide ((s.laneAt k).phase = .poolWait))

theorem State.noneWaits_of_someWaits (h : s.someWaits = false) : s.noneWaits := fun k hk => by
  simpa using List.any_eq_false.1 h k (List.mem_range.2 hk)

/-- The pages that the retries of waiting lanes may write. -/
def State.waitPages (s : State) : List Nat := if s.someWaits then (List.range 48).map (· + 0x30) else []

theorem State.delayPooled_touches :
    Touches [.lanes, .poolFree] s.waitPages [F.LANE_DELAY_EXT_BLOCKS k] s (s.delayPooled k want) := by
  have htaken : Touches [.lanes, .poolFree] s.waitPages [F.LANE_DELAY_EXT_BLOCKS k] s (s.delayTaken k want) :=
    State.delayTaken_touches.mono (by simp) (by simp) (by simp)
  have hwaits : (s.delayTaken k want).someWaits = s.someWaits := by simp only [State.someWaits, State.delayTaken_laneAt]
  unfold State.delayPooled
  cases h : s.someWaits with
  | false => rwa [State.poolRetry_none (State.noneWaits_of_someWaits (hwaits.trans h))]
  | true =>
    refine htaken.trans (State.poolRetry_touches.mono (by simp) ?_ (by simp))
    rw [State.waitPages, h, if_pos rfl]
    exact List.Subset.refl _

/-- The engine's frame clock is not on a lane's page. -/
theorem State.delayPooled_clock {us : Nat} : (s.delayPooled k want).frames us = s.frames us := by
  have hpages : s.waitPages ⊆ (List.range 48).map (· + 0x30) := by
    unfold State.waitPages
    split
    · exact List.Subset.refl _
    · exact List.nil_subset _
  have hreg : (s.delayPooled k want).reg A.CLK_ENGINE = s.reg A.CLK_ENGINE := by
    refine State.delayPooled_touches.reg_eq (fun hm => not_mem_lanePages (by decide) (hpages hm)) ?_
    simp only [List.forall_mem_cons, List.not_mem_nil, false_imp_iff, implies_true, and_true]
    simp only [F.LANE_DELAY_EXT_BLOCKS, A.LANE_DELAY, A.CLK_ENGINE]
    omega
  simp only [State.frames, State.fe, State.get, F.CLK_ENGINE_FE_NOW, hreg]

/-! ## The word written -/

/-- The written delay is in the register. -/
def State.delayHeld (s : State) (n : Nat) (w : Word) : State := s.set (F.LANE_DELAY_FRAMES n) (bits w 0 16)

theorem State.delayHeld_frames : (s.delayHeld n w).get (F.LANE_DELAY_FRAMES n) = bits w 0 16 :=
  (State.get_set_in (Nat.le_of_ble_eq_true rfl) _).trans (Nat.mod_eq_of_lt (bits_lt w 0 16))

theorem State.delayHeld_blocks : (s.delayHeld n w).get (F.LANE_DELAY_EXT_BLOCKS n) = s.get (F.LANE_DELAY_EXT_BLOCKS n) :=
  State.get_set_off (Fld.off_of_bits rfl rfl) _

theorem State.delayHeld_poolFree : (s.delayHeld n w).poolFree = s.poolFree := rfl

theorem State.delayHeld_laneAt : (s.delayHeld n w).laneAt k = s.laneAt k := State.set_laneAt _ _ _ _

theorem State.delayHeld_used : (s.delayHeld n w).delayUsed n = s.delayUsed n := by simp only [State.delayUsed, State.delayHeld_laneAt]

theorem bits_ofNat_bits : bits (BitVec.ofNat 32 (bits w 0 16)) 0 16 = bits w 0 16 := by
  have h := bits_lt w 0 16
  generalize bits w 0 16 = v at h ⊢
  simp only [bits, BitVec.toNat_ofNat]
  omega

/-- A refused word leaves FRAMES and raises POOL_ERR. -/
theorem State.delayRefused_held : ((s.delayHeld n w).delayRefused n (s.reg (A.LANE_DELAY n))).get (F.LANE_DELAY_FRAMES n) =
      s.get (F.LANE_DELAY_FRAMES n) ∧
    ((s.delayHeld n w).delayRefused n (s.reg (A.LANE_DELAY n))).get (F.LANE_FLAGS_POOL_ERR n) = 1 ∧
    Touches [] [] [F.LANE_DELAY_FRAMES n, F.LANE_FLAGS_POOL_ERR n] s ((s.delayHeld n w).delayRefused n (s.reg (A.LANE_DELAY n))) := by
  have hoff : (F.LANE_FLAGS_POOL_ERR n).off (F.LANE_DELAY_FRAMES n) :=
    Fld.off_of_addr rfl (by simp only [F.LANE_FLAGS_POOL_ERR, F.LANE_DELAY_FRAMES, A.LANE_FLAGS, A.LANE_DELAY]; omega)
  refine ⟨?_, ?_, ?_⟩
  · rw [State.delayRefused, State.get_set_off hoff, State.get_set_in (Nat.le_of_ble_eq_true rfl)]
    exact Nat.mod_eq_of_lt (bits_lt _ 0 16)
  · rw [State.delayRefused, State.get_set_in (Nat.le_of_ble_eq_true rfl)]
    rfl
  · exact (((Touches.refl _ _ _ s).set _ (.inr (by simp))).set _ (.inr (by simp))).set _ (.inr (by simp))

/-! ## On a lane that is not running -/

theorem laneAside_frames : laneAside n (F.LANE_DELAY_FRAMES n) := laneAside_of_off 0x080 (by decide) rfl (fun h => absurd h (by decide))

theorem State.delayWritten_idle (hidle : s.laneIdle n = true) (hold : old = s.reg (A.LANE_DELAY n)) :
    (delayBlocks (bits w 0 16) ≤ s.get (F.LANE_DELAY_EXT_BLOCKS n) + s.poolFree →
      ((s.delayHeld n w).laneDelayWritten n old).get (F.LANE_DELAY_FRAMES n) = bits w 0 16 ∧
      ((s.delayHeld n w).laneDelayWritten n old).get (F.LANE_DELAY_STATUS_FRAMES_NOW n) = bits w 0 16 ∧
      bits (((s.delayHeld n w).laneDelayWritten n old).laneAt n).eff.delay 0 16 = bits w 0 16) ∧
    (s.get (F.LANE_DELAY_EXT_BLOCKS n) + s.poolFree < delayBlocks (bits w 0 16) →
      ((s.delayHeld n w).laneDelayWritten n old).get (F.LANE_DELAY_FRAMES n) = s.get (F.LANE_DELAY_FRAMES n) ∧
      ((s.delayHeld n w).laneDelayWritten n old).get (F.LANE_FLAGS_POOL_ERR n) = 1) ∧
    Touches [.lanes] [] (F.LANE_DELAY_FRAMES n :: F.LANE_DELAY_STATUS_FRAMES_NOW n :: F.LANE_FLAGS_POOL_ERR n :: laneStatusFlds n) s
      ((s.delayHeld n w).laneDelayWritten n old) := by
  subst hold
  have hidle' : (s.delayHeld n w).laneIdle n = true := by rwa [State.laneIdle_eq, State.delayHeld_laneAt]
  rcases Nat.lt_or_ge (s.get (F.LANE_DELAY_EXT_BLOCKS n) + s.poolFree) (delayBlocks (bits w 0 16)) with hfit | hfit
  · have hwhole := State.laneDelayWritten_idle_refused (old := s.reg (A.LANE_DELAY n)) hidle'
      (by rwa [State.delayHeld_frames, State.delayHeld_blocks, State.delayHeld_poolFree])
    obtain ⟨hframes, herr, htouch⟩ := State.delayRefused_held (s := s) (n := n) (w := w)
    rw [hwhole]
    exact ⟨fun h => absurd hfit (Nat.not_lt.2 h), fun _ => ⟨hframes, herr⟩, htouch.mono (by simp) (by simp) (by simp)⟩
  · have hwhole := State.laneDelayWritten_idle (old := s.reg (A.LANE_DELAY n)) hidle'
      (by rwa [State.delayHeld_frames, State.delayHeld_blocks, State.delayHeld_poolFree])
    have hoff : (F.LANE_DELAY_STATUS_FRAMES_NOW n).off (F.LANE_DELAY_FRAMES n) :=
      Fld.off_of_addr rfl (by simp only [F.LANE_DELAY_STATUS_FRAMES_NOW, F.LANE_DELAY_FRAMES, A.LANE_DELAY_STATUS, A.LANE_DELAY]; omega)
    rw [hwhole, State.delayHeld_frames]
    refine ⟨fun _ => ⟨?_, ?_, ?_⟩, fun h => absurd h (Nat.not_lt.2 hfit), ?_⟩
    · rw [State.get_set_off hoff, State.wordTaken, State.laneSync_get laneAside_frames, State.modLane_get, State.delayHeld_frames]
    · rw [State.get_set_in (Nat.le_of_ble_eq_true rfl)]
      exact Nat.mod_eq_of_lt (bits_lt w 0 16)
    · rw [State.set_laneAt, State.wordTaken_laneAt]
      exact bits_ofNat_bits
    · exact ((((Touches.refl _ _ _ s).set _ (.inr (by simp))).step State.wordTaken_touches (by simp) (fun _ hf => .inl (by simp [hf]))).set _
        (.inr (by simp)))

/-! ## On a running lane -/

/-- The pool's blocks that a delay takes on a running lane. -/
def State.delayWant (s : State) (n : Nat) (w : Word) : Nat := max (delayBlocks (bits w 0 16)) (s.delayUsed n)

/-- What FRAMES in the pool's reach does there. -/
theorem State.delayWritten_live (hlive : s.laneIdle n = false) (hstage : bits (s.laneAt n).eff.delay 0 16 ≠ 0 ∨ bits w 0 16 = 0)
    (hfit : s.delayWant n w ≤ s.get (F.LANE_DELAY_EXT_BLOCKS n) + s.poolFree) : (s.delayHeld n w).laneDelayWritten n old =
      ((s.delayHeld n w).delayPooled n (s.delayWant n w)).laneTake n (s.delayEff n (BitVec.ofNat 32 (bits w 0 16))) := by
  have heff : (s.delayHeld n w).delayEff n (BitVec.ofNat 32 (bits w 0 16)) = s.delayEff n (BitVec.ofNat 32 (bits w 0 16)) := by
    simp only [State.delayEff, State.delayHeld_laneAt]
  have h := State.laneDelayWritten_live (s := s.delayHeld n w) (old := old) (by rwa [State.laneIdle_eq, State.delayHeld_laneAt])
    (by rwa [State.delayHeld_frames, State.delayHeld_blocks, State.delayHeld_poolFree, State.delayHeld_used])
    (by rwa [State.delayHeld_laneAt, State.delayHeld_frames, bits_ofNat_bits])
  rwa [State.delayHeld_frames, State.delayHeld_used, heff] at h

/-- The lane's words in effect at the end of the retries. -/
theorem State.delayPooled_eff : (((s.delayHeld n w).delayPooled n want).laneAt n).eff = (s.laneAt n).eff :=
  State.delayPooled_keeps.1.trans (congrArg Lane.eff State.delayHeld_laneAt)

theorem State.delayPooled_frames : ((s.delayHeld n w).delayPooled n want).get (F.LANE_DELAY_FRAMES n) = bits w 0 16 := by
  refine State.poolRetry_frames.trans (Eq.trans ?_ (State.delayHeld_frames (s := s) (n := n)))
  exact State.delayTaken_touches.get_keeps (List.forall_mem_singleton.2 (.inr (.inl (Nat.le_of_ble_eq_true rfl))))

theorem State.delayPooled_none (h : s.noneWaits) : (s.delayHeld n w).delayPooled n want = (s.delayHeld n w).delayTaken n want :=
  State.poolRetry_none fun k hk => by
    rw [State.delayTaken_laneAt, State.delayHeld_laneAt]
    exact h k hk

/-- The frame of the crossfade beside a field of LANEn_DELAY. -/
theorem xfadeFlds_delay {g : Fld} (ha : g.addr = A.LANE_DELAY n) :
    ∀ f ∈ F.LANE_DELAY_STATUS_XFADE_NOW n :: laneStatusFlds n, f.addr ≠ g.addr ∨ g.lo + g.w ≤ f.lo ∨ f.lo + f.w ≤ g.lo := by
  have haside : laneAside n g := laneAside_of_off 0x080 (by decide) ha (fun h => absurd h (by decide))
  refine List.forall_mem_cons.2 ⟨.inl ?_, haside⟩
  simp only [ha, F.LANE_DELAY_STATUS_XFADE_NOW, A.LANE_DELAY_STATUS, A.LANE_DELAY]
  omega

section
variable (hlive : s.laneIdle n = false) (hstage : bits (s.laneAt n).eff.delay 0 16 ≠ 0 ∨ bits w 0 16 = 0)
  (hfit : s.delayWant n w ≤ s.get (F.LANE_DELAY_EXT_BLOCKS n) + s.poolFree)
include hlive hstage hfit

/-- FRAMES in the pool's reach is in effect (R186). -/
theorem State.delayWritten_effect : ((s.delayHeld n w).laneDelayWritten n old).get (F.LANE_DELAY_FRAMES n) = bits w 0 16 ∧
    bits (((s.delayHeld n w).laneDelayWritten n old).laneAt n).eff.delay 0 16 = bits w 0 16 := by
  have heff := State.delayPooled_eff (s := s) (n := n) (w := w) (want := s.delayWant n w)
  rw [State.delayWritten_live hlive hstage hfit]
  refine ⟨?_, ?_⟩
  · exact ((State.laneTake_touches (by rw [heff]; rfl) (by rw [heff]; rfl)).get_keeps (xfadeFlds_delay rfl)).trans State.delayPooled_frames
  · rw [State.laneTake_eff (by rw [heff]; rfl) (by rw [heff]; rfl)]
    exact bits_ofNat_bits

/-- It crossfades to a new delay over 10 ms (R186). -/
theorem State.delayWritten_xfade (hnew : (s.laneAt n).eff.delay ≠ BitVec.ofNat 32 (bits w 0 16)) :
    ((s.delayHeld n w).laneDelayWritten n old).on (F.LANE_DELAY_STATUS_XFADE_NOW n) = true ∧
    (((s.delayHeld n w).laneDelayWritten n old).laneAt n).tap.new = bits w 0 16 ∧
    (((s.delayHeld n w).laneDelayWritten n old).laneAt n).tap.len = s.frames 10000 := by
  have heff := State.delayPooled_eff (s := s) (n := n) (w := w) (want := s.delayWant n w)
  have hclock : (s.delayHeld n w).frames 10000 = s.frames 10000 := by
    have hreg : (s.delayHeld n w).reg A.CLK_ENGINE = s.reg A.CLK_ENGINE :=
      s.reg_set_ne _ (by simp only [F.LANE_DELAY_FRAMES, A.LANE_DELAY, A.CLK_ENGINE]; omega)
    simp only [State.frames, State.fe, State.get, F.CLK_ENGINE_FE_NOW, hreg]
  obtain ⟨hon, hnext, hlen⟩ := State.laneTake_xfade (t := (s.delayHeld n w).delayPooled n (s.delayWant n w)) (n := n)
    (e := s.delayEff n (BitVec.ofNat 32 (bits w 0 16))) (by rw [heff]; rfl) (by rw [heff]; rfl) (by rw [heff]; exact hnew.symm)
  rw [State.delayWritten_live hlive hstage hfit]
  exact ⟨hon, hnext.trans bits_ofNat_bits, hlen.trans (State.delayPooled_clock.trans hclock)⟩

/-- Where no lane waits, it holds these blocks and the pool the others (R186). -/
theorem State.delayWritten_blocks (hnone : s.noneWaits) :
    ((s.delayHeld n w).laneDelayWritten n old).get (F.LANE_DELAY_EXT_BLOCKS n) = s.delayWant n w % 256 ∧
    ((s.delayHeld n w).laneDelayWritten n old).poolFree + s.delayWant n w = s.poolFree + s.get (F.LANE_DELAY_EXT_BLOCKS n) := by
  have heff := State.delayPooled_eff (s := s) (n := n) (w := w) (want := s.delayWant n w)
  have htake := State.laneTake_touches (t := (s.delayHeld n w).delayPooled n (s.delayWant n w)) (n := n)
    (e := s.delayEff n (BitVec.ofNat 32 (bits w 0 16))) (by rw [heff]; rfl) (by rw [heff]; rfl)
  rw [State.delayWritten_live hlive hstage hfit]
  rw [State.delayPooled_none hnone] at htake ⊢
  have hpool : (((s.delayHeld n w).delayTaken n (s.delayWant n w)).laneTake n
      (s.delayEff n (BitVec.ofNat 32 (bits w 0 16)))).poolFree = ((s.delayHeld n w).delayTaken n (s.delayWant n w)).poolFree :=
    htake.1 .poolFree (by simp)
  refine ⟨?_, ?_⟩
  · rw [htake.get_keeps (xfadeFlds_delay rfl), State.delayTaken, State.get_set_in (Nat.le_of_ble_eq_true rfl)]
    rfl
  · rw [hpool, State.delayTaken, State.set_poolFree, State.delayHeld_blocks, State.delayHeld_poolFree]
    dsimp only
    omega

end

/-- A delay beyond the pool is refused (R186). -/
theorem State.delayWritten_refused (hlive : s.laneIdle n = false)
    (h : s.get (F.LANE_DELAY_EXT_BLOCKS n) + s.poolFree < s.delayWant n w) :
    (s.delayHeld n w).laneDelayWritten n old = (s.delayHeld n w).delayRefused n old :=
  State.laneDelayWritten_live_refused (by rwa [State.laneIdle_eq, State.delayHeld_laneAt])
    (by rwa [State.delayHeld_frames, State.delayHeld_blocks, State.delayHeld_poolFree, State.delayHeld_used])

/-- The fields of a word of LANEn_DELAY on a running lane. -/
def delayFlds (n : Nat) : List Fld :=
  whole (A.LANE_DELAY n) :: F.LANE_DELAY_STATUS_XFADE_NOW n :: F.LANE_FLAGS_POOL_ERR n :: laneStatusFlds n

/-- The frame of a word of LANEn_DELAY on a running lane. -/
theorem State.delayWritten_touches (hlive : s.laneIdle n = false)
    (hstage : bits (s.laneAt n).eff.delay 0 16 ≠ 0 ∨ bits w 0 16 = 0) (hold : old = s.reg (A.LANE_DELAY n)) :
    Touches [.lanes, .poolFree] s.waitPages (delayFlds n) s ((s.delayHeld n w).laneDelayWritten n old) := by
  rcases Nat.lt_or_ge (s.get (F.LANE_DELAY_EXT_BLOCKS n) + s.poolFree) (s.delayWant n w) with hfit | hfit
  · rw [State.delayWritten_refused hlive hfit, hold]
    obtain ⟨-, -, htouch⟩ := State.delayRefused_held (s := s) (n := n) (w := w)
    exact htouch.widen (by simp) (by simp) (by simp [delayFlds, F.LANE_DELAY_FRAMES])
  · have heff := State.delayPooled_eff (s := s) (n := n) (w := w) (want := s.delayWant n w)
    have hsome : (s.delayHeld n w).someWaits = s.someWaits := by simp only [State.someWaits, State.delayHeld_laneAt]
    have hwaits : (s.delayHeld n w).waitPages = s.waitPages := by rw [State.waitPages, hsome, State.waitPages]
    have hheld : Touches [] [] [F.LANE_DELAY_FRAMES n] s (s.delayHeld n w) := (Touches.refl _ _ _ s).set _ (.inr (by simp))
    have hpool := State.delayPooled_touches (s := s.delayHeld n w) (k := n) (want := s.delayWant n w)
    rw [hwaits] at hpool
    rw [State.delayWritten_live hlive hstage hfit]
    refine (hheld.widen (by simp) (by simp) (by simp [delayFlds, F.LANE_DELAY_FRAMES])).trans
      ((hpool.widen (by simp) (by simp) (by simp [delayFlds, F.LANE_DELAY_EXT_BLOCKS])).trans
        ((State.laneTake_touches (by rw [heff]; rfl) (by rw [heff]; rfl)).widen (by simp) (by simp) ?_))
    exact List.forall_mem_cons.2 ⟨.inl (by simp [delayFlds]), fun f hf => .inl (by simp [delayFlds, hf])⟩

end Sys2Proof.Machine
end

section
/-! PROOFS. The meter's and the counters' words (R187, R194), and O23. -/

namespace Sys2Proof.Machine

variable {s : State} {n : Fin 48}

/-- The held peaks of the word that CLR_HOLD writes, −150 dBFS (R187). -/
theorem State.clearedPeaks (s : State) :
    signed 16 ((s.setReg (A.LANE_METER_HOLD n) 0xC568C568#32).get (F.LANE_METER_HOLD_PEAK_IN n)) = -15000 ∧
    signed 16 ((s.setReg (A.LANE_METER_HOLD n) 0xC568C568#32).get (F.LANE_METER_HOLD_PEAK_OUT n)) = -15000 := by
  have hword {f : Fld} (h : f.addr = A.LANE_METER_HOLD n) : (s.setReg (A.LANE_METER_HOLD n) 0xC568C568#32).get f =
      bits 0xC568C568#32 f.lo f.w := State.get_setReg_self h
  have hlow : signed 16 (bits 0xC568C568#32 0 16) = -15000 := by decide
  have hhigh : signed 16 (bits 0xC568C568#32 16 16) = -15000 := by decide
  rw [hword rfl, hword rfl]
  exact ⟨hlow, hhigh⟩

/-- The counters that CLR clears read 0 (R194). -/
theorem State.clearedCount {a : Nat} {f : Fld} (h : f.addr = a) : (s.setReg a 0).get f = 0 := by
  rw [State.get_setReg_self h]
  simp [bits]

/-! ## O23 -/

/-- Settles O23: the copy of a COMMIT by what its checks find, the words of LANEn_DELAY by the pool's reach, and the meter's and
counters' words by the registers they set. -/
theorem laneCommitDelayMeterWrites : Obligations.LaneCommitDelayMeterWrites := by
  unfold Obligations.LaneCommitDelayMeterWrites
  refine ⟨?commitIdle, ?commitLive, ?delayIdle, ?delayLive, ?window, ?hold, ?counters⟩
  case commitIdle =>
    intro ini n w s h hidle hcommit hheld hclean
    obtain ⟨e, he⟩ := State.writeOne_laneCommit_idle h hidle hcommit
    have htouch := State.commitReady_touches (s := s) (n := n) (e := e) (x := bits w 2 1)
    have hpend := htouch.1 .coefPend (by simp)
    obtain ⟨hdone, hbusy, hstable, hunstable, hcopy⟩ := State.commitCopied (n := n) (c := s.commitReady n (bits w 2 1) e)
      (by rw [State.laneIdle_eq, State.commitReady_laneAt]; exact hidle) (by rw [State.commitReady_laneAt]; exact hheld)
      (fun k hk => (State.poisoned_congr (htouch.1 .poison (by simp)) _).trans (hclean k hk))
    rw [State.unstableStage_congr hpend, State.pendingSet_congr hpend, State.commitReady_commits] at hstable
    rw [State.unstableStage_congr hpend, State.commitReady_laneAt] at hunstable
    refine ⟨_, Yields.of_eq rfl he, ?_, hdone, hbusy, hstable, hunstable, ?_⟩
    · exact (hcopy.get_keeps copyFlds_xfade).trans (State.commitReady_xfade.trans (Nat.mod_eq_of_lt (bits_lt w 2 1)))
    · exact (htouch.mono (by simp) (by simp) (List.cons_subset_cons _ copyFlds_status)).trans
        (hcopy.mono (by simp) (by simp) (List.subset_cons_self _ _))
  case commitLive =>
    intro ini n w s h hphase _ hx heff
    have hlive : s.laneIdle n = false := by rw [State.laneIdle_eq, hphase]; rfl
    obtain ⟨t, ht, hlane, htouch⟩ := State.writeOne_laneCommit_live h hlive hx heff
    obtain ⟨hbegins, hholds, hchain, hcommit⟩ := State.laneCommit_live (s := t) (n := n) (by rwa [State.laneIdle_eq, hlane])
    rw [hlane] at hbegins hholds hchain
    exact ⟨_, Yields.of_eq rfl ht, hbegins, hholds, hchain, htouch.trans hcommit⟩
  case delayIdle =>
    intro ini n w s h hidle
    exact ⟨_, Yields.of_eq rfl (State.writeOne_laneDelay h), State.delayWritten_idle hidle rfl⟩
  case delayLive =>
    intro ini n w s h hlive hstage
    refine ⟨_, Yields.of_eq rfl (State.writeOne_laneDelay h), fun hfit => State.delayWritten_effect hlive hstage hfit,
      fun hnone hfit => State.delayWritten_blocks hlive hstage hfit hnone,
      fun hfit hnew => State.delayWritten_xfade hlive hstage hfit hnew, fun hfit => ?_, State.delayWritten_touches hlive hstage rfl⟩
    have hrefused := State.delayWritten_refused (old := s.reg (A.LANE_DELAY n)) hlive (Nat.lt_of_lt_of_le hfit (Nat.le_max_left _ _))
    obtain ⟨hframes, herr, htouch⟩ := State.delayRefused_held (s := s) (n := n) (w := w)
    exact hrefused ▸ ⟨hframes, herr, htouch.1 .lanes (by simp)⟩
  case window =>
    intro ini n w s h hw
    have hclear : hit w 2 = false := by rw [hit, hw]; rfl
    refine ⟨_, Yields.of_eq rfl (State.writeOne_laneMeter h), ?_⟩
    rw [hclear, State.when_false]
    exact ⟨(State.get_set_in (Nat.le_of_ble_eq_true rfl) _).trans (Nat.mod_eq_of_lt (bits_lt w 0 2)),
      (Touches.refl _ _ _ s).set _ (.inr (by simp))⟩
  case hold =>
    intro ini n w s h
    refine ⟨_, Yields.of_eq rfl (State.writeOne_laneMeter h), ?_⟩
    rw [hit_or_const w _ (by decide), State.when_true]
    obtain ⟨hin, hout⟩ := State.clearedPeaks (n := n) (s.set (F.LANE_METER_CTRL_WIN n) (bits (w ||| 0x4#32) 0 2))
    exact ⟨hin, hout, ((Touches.refl _ _ _ s).set _ (.inr (by simp))).setReg _ (.inr (by simp))⟩
  case counters =>
    intro ini n w s h
    have hne : A.LANE_COUNT2 n ≠ A.LANE_COUNT n := by simp only [A.LANE_COUNT2, A.LANE_COUNT]; omega
    refine ⟨_, Yields.of_eq rfl (State.writeOne_laneCntClr h), ?_⟩
    rw [hit_or_const w _ (by decide), State.when_true]
    exact ⟨(State.get_setReg_ne _ _ hne).trans (State.clearedCount rfl), (State.get_setReg_ne _ _ hne).trans (State.clearedCount rfl),
      State.clearedCount rfl, State.clearedCount rfl, ((Touches.setReg_id _ _ _ _ _).setReg _ (.inr (by simp))).setReg _ (.inr (by simp))⟩

end Sys2Proof.Machine
end
section
/-! PROOFS. FIF_CTRL and CHN_CTRL (R200, R203, R216, R221): what a word that may be written hands to the Fife path and to the Churn. -/

namespace Sys2Proof.Machine

variable {s : State} {ini : Nat} {w : Word}

/-- A single word that may be written is performed without a violation. -/
theorem State.putWords_of_mayWrite {a p o : Nat} (h : s.mayWrite ini a w = true) (hp : placeOf a = .reg p o) :
    s.putWords none ini a [w] ⟨0, 0⟩ = (s.writeOne none ini a w, ⟨0, 1⟩) := by
  obtain ⟨ho, hr, -, hw⟩ := s.mayWrite_spec h
  rw [s.writeOne_of_mayWrite none ini a w h (s.poke_of_mayWrite none ini a w h hp), State.putWords_cons, ho, hw, hr,
    s.poke_of_mayWrite none ini a w h hp]
  rfl

/-! ## FIF_CTRL -/

/-- The fields of FIF_CTRL (R216). -/
def fifCtrlDef : RegDef := .mk 0x040 1 4 0 64 0x10 [] false [.mk 4 2 .rw [(3, 3)], .mk 0 1 .w1s []]

theorem fifCtrl_served : placeOf A.FIF_CTRL = .reg 0x0E 0x040 ∧ regDefAt A.FIF_CTRL = some fifCtrlDef := by decide +kernel

/-- Of FIF_CTRL a word that may be written replaces STEP alone. -/
theorem fifCtrlDef_take {old : Word} (h : (fifCtrlDef.take old w).2 = false) :
    (fifCtrlDef.take old w).1 = setBits old 4 2 (bits w 4 2) := by
  have htake : fifCtrlDef.take old w =
      if [(3, 3)].any (fun r => decide (r.1 ≤ bits w 4 2) && decide (bits w 4 2 ≤ r.2)) then (old, true)
      else (setBits old 4 2 (bits w 4 2), false) := rfl
  rw [htake] at h ⊢
  split at h
  · exact Bool.noConfusion h
  · next hr => rw [if_neg hr]

/-- FIF_CTRL holds STEP; COMMIT acts. -/
theorem State.writeOne_fifCtrl (h : s.mayWrite ini A.FIF_CTRL w = true) :
    s.writeOne none ini A.FIF_CTRL w = (s.set F.FIF_CTRL_STEP (bits w 4 2)).when (hit w 0) State.fifCommit := by
  obtain ⟨hplace, hdef⟩ := fifCtrl_served
  rw [State.writeOne_of_page (by decide) (by decide) h hplace hdef, fifCtrlDef_take (State.take_of_mayWrite h hplace hdef)]
  rfl

/-! ## CHN_CTRL -/

/-- The fields of CHN_CTRL (R200, R203, R221). -/
def chnCtrlDef : RegDef := .mk 0x040 1 4 0 64 0x0 [] false [.mk 2 1 .w1s [], .mk 1 1 .w1s [], .mk 0 1 .w1s []]

theorem chnCtrl_served : placeOf A.CHN_CTRL = .reg 0x0F 0x040 ∧ regDefAt A.CHN_CTRL = some chnCtrlDef := by decide +kernel

/-- CHN_CTRL holds nothing; its bits act. -/
theorem State.writeOne_chnCtrl (h : s.mayWrite ini A.CHN_CTRL w = true) : s.writeOne none ini A.CHN_CTRL w =
    (s.setReg A.CHN_CTRL (s.reg A.CHN_CTRL)).chnCtrlWritten (hit w 0) (hit w 1) (hit w 2) := by
  obtain ⟨hplace, hdef⟩ := chnCtrl_served
  rw [State.writeOne_of_page (by decide) (by decide) h hplace hdef]
  rfl

end Sys2Proof.Machine
end

section
/-! PROOFS. O26: the Fife path's commit and one step of its gains (R215 to R217, R223). -/

namespace Sys2Proof.Machine

variable {s t : State} {c n ini : Nat} {w : Word}

/-! ## What follows the routes (R217, R223) -/

/-- The status and the interrupts of the Fife path. -/
def fifFlds : List Fld := [whole A.FIF_STATUS, whole A.FIF_SRC_LIVE, F.PG_IRQ 0x0E 2, F.PG_IRQ 0x0E 3]

theorem State.fifSync_touches : Touches [] [] fifFlds s s.fifSync := by
  have hstatus : whole A.FIF_STATUS ∈ fifFlds := by simp [fifFlds]
  have hlive : whole A.FIF_SRC_LIVE ∈ fifFlds := by simp [fifFlds]
  unfold State.fifSync
  extract_lets cs ns mis ramping s1 s2 s3 s4
  have h1 : Touches [] [] fifFlds s s1 :=
    (Touches.refl _ _ _ s).when _ fun _ => (Touches.refl _ _ _ s).irq (.inr (by simp [fifFlds]))
  have h2 : Touches [] [] fifFlds s s2 := h1.when _ fun _ => h1.irq (.inr (by simp [fifFlds]))
  have h3 : Touches [] [] fifFlds s s3 := (h2.set_whole _ hstatus).set_whole _ hstatus
  have h4 : Touches [] [] fifFlds s s4 := h3.set_whole _ hstatus
  exact h4.set_whole _ hlive

/-- The applied codes lie in their own registers, past those of the status. -/
theorem Touches.fifNow_keeps {ps : List Part} (h : Touches ps [] fifFlds s t) : t.fifNow c n = s.fifNow c n := by
  refine h.get_keeps fun g hg => .inl ?_
  simp only [fifFlds, List.mem_cons, List.not_mem_nil, or_false] at hg
  rcases hg with rfl | rfl | rfl | rfl <;>
    simp only [whole, F.PG_IRQ, F.FIF_GAIN_NOW_G, A.FIF_STATUS, A.FIF_SRC_LIVE, A.FIF_GAIN_NOW] <;> omega

/-- The code a route moves to is read from ENABLE of the page, the targets and the channels' records. -/
theorem State.fifWant_congr {fs : List Fld} (h : Touches [] [] fs s t) (hf : ∀ f ∈ fs, f.addr ≠ (F.PG_ENABLE 0x0E).addr) (c n : Nat) :
    t.fifWant c n = s.fifWant c n := by
  have hen : t.on (F.PG_ENABLE 0x0E) = s.on (F.PG_ENABLE 0x0E) := h.on_keeps fun f hm => .inl (hf f hm)
  have hain : t.ain = s.ain := h.1 .ain List.not_mem_nil
  have haout : t.aout = s.aout := h.1 .aout List.not_mem_nil
  have htarget : t.fifTarget = s.fifTarget := h.1 .fifTarget List.not_mem_nil
  have hphase : t.ainAt n = s.ainAt n := by rw [State.ainAt, hain, State.ainAt]
  have htakes : t.fifTakes c = s.fifTakes c := by
    simp only [State.fifTakes, State.bridgedOdd, State.bridged, State.aoutAt, haout]
  have hfamily : t.fifFamily c n = s.fifFamily c n := by simp only [State.fifFamily, hphase, haout]
  have hmay : t.fifMay c n = s.fifMay c n := by
    unfold State.fifMay
    rw [hen, hphase, htakes, hfamily]
  rw [State.fifWant, hmay, State.fifGoal, htarget, State.fifWant, State.fifGoal]

theorem State.fifSync_fifWant : s.fifSync.fifWant c n = s.fifWant c n :=
  State.fifWant_congr State.fifSync_touches (by decide) c n

/-! ## FIF_COMMIT (R216) -/

theorem State.fifCommit_touches : Touches [.fifTarget] [] fifFlds s s.fifCommit :=
  ((Touches.refl _ _ _ s).put_fifTarget _ (by simp)).step State.fifSync_touches (by simp) fun _ hf => .inl hf

/-- Every route's target is its pending gain. -/
theorem State.fifCommit_fifGoal (hc : c < 8) (hn : n < 16) :
    s.fifCommit.fifGoal c n = s.get (F.FIF_GAIN_G (4 * c + n / 4) (n % 4)) := by
  have hi : 16 * c + n < 128 := by omega
  rw [State.fifGoal, State.fifCommit, State.fifSync_touches.1 .fifTarget List.not_mem_nil, vget, Vector.getElem?_eq_getElem hi,
    Option.getD_some, Vector.getElem_ofFn]
  have hword : 4 * ((16 * c + n) / 16) + (16 * c + n) % 16 / 4 = 4 * c + n / 4 := by omega
  have hbyte : (16 * c + n) % 4 = n % 4 := by omega
  simp only [hword, hbyte]

/-- COMMIT as a word of FIF_CTRL. -/
theorem State.writeOne_fifCommit (h : s.mayWrite ini A.FIF_CTRL (w ||| 0x1#32) = true) :
    s.writeOne none ini A.FIF_CTRL (w ||| 0x1#32) = (s.set F.FIF_CTRL_STEP (bits w 4 2)).fifCommit := by
  rw [State.writeOne_fifCtrl h, hit_or_const w _ (by decide), bits_or_const w (0x1#32) (lo := 4) (by decide), State.when_true]

/-! ## FIF_GAIN_STEP (R216) -/

/-- A code one step nearer to the code it moves to. -/
def fifMoved (now want : Nat) : Nat := if now < want then now + 1 else if want < now then now - 1 else now

/-- One route's part of a STEP interval. -/
def State.fifMove (s : State) (c n : Nat) : State :=
  if s.fifNow c n < s.fifWant c n then s.set (F.FIF_GAIN_NOW_G (4 * c + n / 4) (n % 4)) (s.fifNow c n + 1)
  else if s.fifWant c n < s.fifNow c n then s.set (F.FIF_GAIN_NOW_G (4 * c + n / 4) (n % 4)) (s.fifNow c n - 1)
  else s

theorem State.fifStep_eq : s.fifStep = (s.fifSync.forAll 8 fun t c => t.forAll 16 fun t n => t.fifMove c n).fifSync := rfl

/-- A route's move is a write of its own code, or nothing. -/
theorem State.fifMove_eq : s.fifMove c n = s.set (F.FIF_GAIN_NOW_G (4 * c + n / 4) (n % 4)) (fifMoved (s.fifNow c n) (s.fifWant c n)) ∨
    (s.fifMove c n = s ∧ fifMoved (s.fifNow c n) (s.fifWant c n) = s.fifNow c n) := by
  unfold State.fifMove fifMoved
  split
  · exact .inl rfl
  · split
    · exact .inl rfl
    · exact .inr ⟨rfl, rfl⟩

theorem State.fifMove_touches : Touches [] [] [F.FIF_GAIN_NOW_G (4 * c + n / 4) (n % 4)] s (s.fifMove c n) := by
  rcases s.fifMove_eq (c := c) (n := n) with h | ⟨h, -⟩ <;> rw [h]
  · exact (Touches.refl _ _ _ s).set _ (.inr (by simp))
  · exact Touches.refl _ _ _ s

theorem State.fifMove_fifWant (k m : Nat) : (s.fifMove k m).fifWant c n = s.fifWant c n := by
  refine State.fifWant_congr State.fifMove_touches (fun f hf => ?_) c n
  rw [List.mem_singleton.1 hf]
  simp only [F.FIF_GAIN_NOW_G, F.PG_ENABLE, A.FIF_GAIN_NOW]
  omega

theorem State.fifMove_fifNow : (s.fifMove c n).fifNow c n = fifMoved (s.fifNow c n) (s.fifWant c n) % 64 := by
  rcases s.fifMove_eq (c := c) (n := n) with h | ⟨h, hm⟩ <;> rw [h]
  · refine State.get_set_in ?_ _
    simp only [F.FIF_GAIN_NOW_G]
    omega
  · rw [hm]
    exact (Nat.mod_eq_of_lt (s.get_lt _)).symm

/-- Another route of the channel keeps its code. -/
theorem State.fifMove_fifNow_ne {m : Nat} (h : m ≠ n) : (s.fifMove c m).fifNow c n = s.fifNow c n := by
  refine State.fifMove_touches.get_keeps fun g hg => ?_
  rw [List.mem_singleton.1 hg]
  simp only [F.FIF_GAIN_NOW_G, A.FIF_GAIN_NOW]
  omega

/-- The registers that hold a channel's codes. -/
def fifNowWords (c : Nat) : List Fld := (List.range 4).map fun k => whole (A.FIF_GAIN_NOW (4 * c + k))

/-- The moves of a channel's routes. -/
theorem State.fifMoves_touches : Touches [] [] (fifNowWords c) s (s.forAll 16 fun t n => t.fifMove c n) := by
  refine (Touches.refl _ _ _ s).forAll 16 fun t n hn ht => ht.step State.fifMove_touches (by simp) fun f hf => .inr ?_
  rw [List.mem_singleton.1 hf]
  exact List.mem_map_of_mem (List.mem_range.2 (by omega))

/-- Another channel's codes stay. -/
theorem State.fifMoves_fifNow_ne {k : Nat} (hn : n < 16) (h : k ≠ c) : (s.forAll 16 fun t n => t.fifMove k n).fifNow c n = s.fifNow c n := by
  refine State.fifMoves_touches.get_keeps fun g hg => .inl ?_
  obtain ⟨j, hj, rfl⟩ := List.mem_map.1 hg
  rw [List.mem_range] at hj
  simp only [whole, F.FIF_GAIN_NOW_G, A.FIF_GAIN_NOW]
  omega

theorem State.fifMoves_fifWant (k : Nat) : (s.forAll 16 fun t n => t.fifMove k n).fifWant c n = s.fifWant c n :=
  s.forAll_keeps (·.fifWant c n) 16 _ fun _ m => State.fifMove_fifWant k m

/-- In a channel's moves each route moves by its own. -/
theorem State.fifMoves_fifNow (hn : n < 16) :
    (s.forAll 16 fun t n => t.fifMove c n).fifNow c n = fifMoved (s.fifNow c n) (s.fifWant c n) % 64 := by
  obtain ⟨t, hwant, hnow, hmove⟩ := State.forAll_at_of (s := s) (fun t => t.fifWant c n = s.fifWant c n) (fun t n => t.fifNow c n)
    (f := fun t n => t.fifMove c n) (fun _ m ht => (State.fifMove_fifWant c m).trans ht)
    (fun _ _ _ _ hm => State.fifMove_fifNow_ne hm) rfl hn
  rw [hmove, State.fifMove_fifNow, hnow, hwant]

/-- One STEP interval moves every applied code by one towards its goal. -/
theorem State.fifStep_fifNow (hc : c < 8) (hn : n < 16) : s.fifStep.fifNow c n = fifMoved (s.fifNow c n) (s.fifWant c n) % 64 := by
  obtain ⟨t, hwant, hnow, hmove⟩ := State.forAll_at_of (s := s.fifSync) (fun t => t.fifWant c n = s.fifWant c n)
    (fun t c => t.fifNow c n) (f := fun t c => t.forAll 16 fun t n => t.fifMove c n)
    (fun _ k ht => (State.fifMoves_fifWant k).trans ht) (fun _ _ _ _ hk => State.fifMoves_fifNow_ne hn hk)
    State.fifSync_fifWant hc
  rw [State.fifStep_eq, State.fifSync_touches.fifNow_keeps, hmove, State.fifMoves_fifNow hn, hnow, State.fifSync_touches.fifNow_keeps, hwant]

/-- The fields that a STEP interval may write. -/
def fifStepFlds : List Fld := fifFlds ++ (List.range 32).map fun k => whole (A.FIF_GAIN_NOW k)

theorem State.fifStep_touches : Touches [] [] fifStepFlds s s.fifStep := by
  have hsync : ∀ f ∈ fifFlds, f ∈ fifStepFlds ∨ whole f.addr ∈ fifStepFlds := fun f hf => .inl (List.mem_append_left _ hf)
  have hwords : ∀ c < 8, ∀ f ∈ fifNowWords c, f ∈ fifStepFlds ∨ whole f.addr ∈ fifStepFlds := by
    intro c hc f hf
    obtain ⟨k, hk, rfl⟩ := List.mem_map.1 hf
    rw [List.mem_range] at hk
    exact .inl (List.mem_append_right _ (List.mem_map_of_mem (List.mem_range.2 (by omega))))
  rw [State.fifStep_eq]
  have hmoves := ((Touches.refl [] [] fifStepFlds s).step State.fifSync_touches (by simp) hsync).forAll 8
    (f := fun t c => t.forAll 16 fun t n => t.fifMove c n)
    fun t c hc ht => ht.step State.fifMoves_touches (by simp) (hwords c hc)
  exact hmoves.step State.fifSync_touches (by simp) hsync

/-! ## O26 -/

/-- Settles O26: a commit writes the targets alone, and in a STEP interval each route's code moves by its own step. -/
theorem fifePath : Obligations.FifePath := by
  unfold Obligations.FifePath
  refine ⟨?commit, ?step⟩
  case commit =>
    intro ini w s h
    have hstep : Touches [] [] [F.FIF_CTRL_STEP] s (s.set F.FIF_CTRL_STEP (bits w 4 2)) :=
      (Touches.refl _ _ _ s).set _ (.inr (by simp))
    refine ⟨_, Yields.of_eq rfl (State.writeOne_fifCommit h), ?_, fun c hc n hn => ?_, fun c _ n _ => ?_, ?_⟩
    · rw [State.fifCommit_touches.get_keeps (f := F.FIF_CTRL_STEP) (by decide)]
      exact (State.get_set_in (Nat.le_of_ble_eq_true rfl) _).trans (Nat.mod_eq_of_lt (bits_lt w 4 2))
    · rw [State.fifCommit_fifGoal hc hn]
      refine hstep.get_keeps fun g hg => .inl ?_
      rw [List.mem_singleton.1 hg]
      simp only [F.FIF_CTRL_STEP, F.FIF_GAIN_G, A.FIF_CTRL, A.FIF_GAIN]
      omega
    · rw [State.fifCommit_touches.fifNow_keeps]
      refine hstep.get_keeps fun g hg => .inl ?_
      rw [List.mem_singleton.1 hg]
      simp only [F.FIF_CTRL_STEP, F.FIF_GAIN_NOW_G, A.FIF_CTRL, A.FIF_GAIN_NOW]
      omega
    · exact (hstep.mono (by simp) (by simp) (by simp)).trans (State.fifCommit_touches.mono (by simp) (by simp) (by simp [fifFlds]))
  case step =>
    intro s hclk
    have hnow : ∀ c n, s.fifNow c n < 64 := fun c n => s.get_lt _
    refine ⟨_, Yields.of_eq rfl (s.event_of _ hclk rfl), fun c hc n hn hlt hwant => ?_, fun c hc n hn hlt => ?_,
      fun c hc n hn heq => ?_, State.fifStep_touches⟩
    · rw [State.fifStep_fifNow hc hn, fifMoved, if_pos hlt]
      exact Nat.mod_eq_of_lt (by omega)
    · rw [State.fifStep_fifNow hc hn, fifMoved, if_neg (Nat.not_lt.2 hlt.le), if_pos hlt]
      have := hnow c n
      omega
    · rw [State.fifStep_fifNow hc hn, fifMoved, if_neg (Nat.not_lt.2 heq.ge), if_neg (Nat.not_lt.2 heq.le)]
      exact Nat.mod_eq_of_lt (hnow c n)

end Sys2Proof.Machine
end
section
/-! PROOFS. COMMIT of the Churn and its counters' clear (R200, R202, R205, R221). -/

namespace Sys2Proof.Machine

variable {s t : State} {ini : Nat} {w : Word}

theorem State.on_setB_in {f : Fld} (h : f.lo + f.w ≤ 32 ∧ 0 < f.w) (b : Bool) : (s.setB f b).on f = b := by
  rw [State.on, s.get_setB_self f b h.1 h.2]
  cases b <;> rfl

/-! ## The engine's state beside the Churn's page -/

/-- Does a waiting commit cost more than a running engine can give (R205)? -/
def State.chnOver (s : State) : Bool := s.engRuns && decide (s.chnCap s.opNow < s.chnCostNew)

section
variable {fs : List Fld} (h : Touches [] [] fs s t) (hf : ∀ f ∈ fs, f.addr / 0x400 = 0x0F)
include h hf

/-- Another page's registers read the same. -/
theorem Touches.reg_beside_chn {a : Nat} (ha : a / 0x400 ≠ 0x0F) : t.reg a = s.reg a :=
  h.reg_eq List.not_mem_nil fun f hm e => ha (e ▸ hf f hm)

theorem Touches.get_beside_chn {f : Fld} (ha : f.addr / 0x400 ≠ 0x0F) : t.get f = s.get f := by
  rw [State.get, h.reg_beside_chn hf ha, State.get]

theorem Touches.frozen_beside_chn : t.frozen = s.frozen := by
  rw [State.frozen, h.get_beside_chn hf (by decide), State.frozen]

theorem Touches.fe_beside_chn : t.fe = s.fe := by
  rw [State.fe, h.get_beside_chn hf (by decide), State.fe]

theorem Touches.opNow_beside_chn : t.opNow = s.opNow := by
  rw [State.opNow, h.get_beside_chn hf (by decide), State.opNow]

theorem Touches.engRuns_beside_chn : t.engRuns = s.engRuns := by
  have hdom : t.domState = s.domState := h.1 .domState List.not_mem_nil
  have hgated : t.gated = s.gated := h.1 .gated List.not_mem_nil
  have hstop : t.engStop = s.engStop := h.1 .engStop List.not_mem_nil
  have hfam := State.famUp_congr (s := s) (t := t) fun a ha => h.reg_beside_chn hf (by omega)
  simp only [State.engRuns, State.clocked, hdom, hgated, hstop, hfam, h.frozen_beside_chn hf, h.fe_beside_chn hf]

theorem Touches.chnOver_beside_chn : t.chnOver = s.chnOver := by
  have hact : t.xpAct = s.xpAct := h.1 .xpAct List.not_mem_nil
  have hramp : t.xpRamp = s.xpRamp := h.1 .xpRamp List.not_mem_nil
  have hpend : t.xpPend = s.xpPend := h.1 .xpPend List.not_mem_nil
  have hpoison : t.poison = s.poison := h.1 .poison List.not_mem_nil
  have hlive : t.xpLive = s.xpLive := by simp only [State.xpLive, State.xpActAt, hact, hramp]
  have hcost : t.chnCostNew = s.chnCostNew := by
    simp only [State.chnCostNew, State.chnCost, State.poisoned, hlive, hpend, hpoison]
  rw [State.chnOver, State.chnCap, hcost, h.engRuns_beside_chn hf, h.fe_beside_chn hf, h.opNow_beside_chn hf, State.chnOver, State.chnCap]

end

/-! ## CAP_WAIT (R205) -/

theorem State.chnCapacity_eq : s.chnCapacity =
    (s.when ((s.on F.CHN_STATUS_BUSY && s.engRuns && decide (s.chnCap s.opNow < s.chnCostNew)) && !s.on F.CHN_STATUS_CAP_WAIT)
      (·.irq 0x0F 7)).setB F.CHN_STATUS_CAP_WAIT
      (s.on F.CHN_STATUS_BUSY && s.engRuns && decide (s.chnCap s.opNow < s.chnCostNew)) := rfl

theorem State.chnCapacity_touches : Touches [] [] [F.CHN_STATUS_CAP_WAIT, F.PG_IRQ 0x0F 7] s s.chnCapacity := by
  rw [State.chnCapacity_eq]
  exact ((Touches.refl _ _ _ s).when _ fun _ => (Touches.refl _ _ _ s).irq (.inr (by simp))).setB _ (.inr (by simp))

/-- CAP_WAIT shows whether the waiting commit is too costly. -/
theorem State.chnCapacity_capWait : s.chnCapacity.on F.CHN_STATUS_CAP_WAIT = (s.on F.CHN_STATUS_BUSY && s.chnOver) := by
  rw [State.chnCapacity_eq, State.on_setB_in (by decide), Bool.and_assoc, State.chnOver]

/-- Its interrupt is raised as it rises. -/
theorem State.chnCapacity_irq (hwait : s.chnCapacity.on F.CHN_STATUS_CAP_WAIT = true) (hold : s.on F.CHN_STATUS_CAP_WAIT = false) :
    s.chnCapacity.on (F.PG_IRQ 0x0F 7) = true := by
  rw [State.chnCapacity_eq, State.on_setB_in (by decide)] at hwait
  rw [State.chnCapacity_eq, hwait, hold]
  exact (State.on_set_off (by decide) _).trans (State.on_irq_in (by decide))

/-! ## COMMIT (R200, R202) -/

/-- The fields that COMMIT may write. -/
def chnCommitFlds : List Fld := [F.CHN_STATUS_BUSY, F.CHN_STATUS_HELD, F.CHN_STATUS_CAP_WAIT, F.PG_IRQ 0x0F 7]

/-- A COMMIT under way, before the capacity is asked. -/
def State.chnBegun (s : State) : State := (s.set F.CHN_STATUS_BUSY 1).setB F.CHN_STATUS_HELD (!s.engRuns)

theorem State.chnCommit_eq : s.chnCommit = s.chnBegun.chnCapacity := rfl

theorem State.chnBegun_touches : Touches [] [] [F.CHN_STATUS_BUSY, F.CHN_STATUS_HELD] s s.chnBegun :=
  ((Touches.refl _ _ _ s).set _ (.inr (by simp))).setB _ (.inr (by simp))

theorem State.chnBegun_busy : s.chnBegun.on F.CHN_STATUS_BUSY = true :=
  (State.on_set_off (by decide) _).trans (State.on_set_one (by decide))

theorem State.chnBegun_held : s.chnBegun.on F.CHN_STATUS_HELD = !s.engRuns := State.on_setB_in (by decide) _

theorem State.chnCommit_touches : Touches [] [] chnCommitFlds s s.chnCommit :=
  (State.chnBegun_touches.mono (by simp) (by simp) (by simp [chnCommitFlds])).trans
    (State.chnCapacity_touches.mono (by simp) (by simp) (by simp [chnCommitFlds]))

theorem State.chnCommit_busy : s.chnCommit.on F.CHN_STATUS_BUSY = true := by
  rw [State.chnCommit_eq, State.chnCapacity_touches.on_keeps (by decide), State.chnBegun_busy]

theorem State.chnCommit_held : s.chnCommit.on F.CHN_STATUS_HELD = !s.engRuns := by
  rw [State.chnCommit_eq, State.chnCapacity_touches.on_keeps (by decide), State.chnBegun_held]

theorem State.chnCommit_capWait : s.chnCommit.on F.CHN_STATUS_CAP_WAIT = s.chnOver := by
  rw [State.chnCommit_eq, State.chnCapacity_capWait, State.chnBegun_busy, Bool.true_and,
    State.chnBegun_touches.chnOver_beside_chn (by decide)]

theorem State.chnCommit_irq (hwait : s.chnCommit.on F.CHN_STATUS_CAP_WAIT = true) (hold : s.on F.CHN_STATUS_CAP_WAIT = false) :
    s.chnCommit.on (F.PG_IRQ 0x0F 7) = true :=
  State.chnCapacity_irq hwait ((State.chnBegun_touches.on_keeps (by decide)).trans hold)

/-! ## The words of CHN_CTRL -/

/-- CHN_CTRL before its bits act: it holds its own word. -/
def State.chnCtrlHeld (s : State) : State := s.setReg A.CHN_CTRL (s.reg A.CHN_CTRL)

theorem State.chnCtrlHeld_touches : Touches [] [] [] s s.chnCtrlHeld := Touches.setReg_id _ _ _ _ _

theorem State.chnClrCounts_touches : Touches [] [] [F.CHN_SAT_COUNT_COUNT, F.CHN_POISON_COUNT] s s.chnClrCounts :=
  ((Touches.refl _ _ _ s).set _ (.inr (by simp))).set _ (.inr (by simp))

theorem State.writeOne_chnCommit (h : s.mayWrite ini A.CHN_CTRL (w ||| 0x1#32) = true) :
    s.writeOne none ini A.CHN_CTRL (w ||| 0x1#32) =
      (s.chnCtrlHeld.when (hit (w ||| 0x1#32) 2) State.chnClrCounts).chnCommit := by
  rw [State.writeOne_chnCtrl h, hit_or_const w _ (by decide)]
  rfl

theorem State.writeOne_chnRevert (h : s.mayWrite ini A.CHN_CTRL (w ||| 0x2#32) = true) (hcommit : bits w 0 1 = 0)
    (hclear : bits w 2 1 = 0) : s.writeOne none ini A.CHN_CTRL (w ||| 0x2#32) = s.chnCtrlHeld.chnRevert := by
  rw [State.writeOne_chnCtrl h, hit_or_clear w _ (by decide) hcommit, hit_or_const w _ (by decide), hit_or_clear w _ (by decide) hclear]
  rfl

theorem State.writeOne_chnClrCounts (h : s.mayWrite ini A.CHN_CTRL (w ||| 0x4#32) = true) (hcommit : bits w 0 1 = 0)
    (hrevert : bits w 1 1 = 0) : s.writeOne none ini A.CHN_CTRL (w ||| 0x4#32) = s.chnCtrlHeld.chnClrCounts := by
  rw [State.writeOne_chnCtrl h, hit_or_clear w _ (by decide) hcommit, hit_or_clear w _ (by decide) hrevert, hit_or_const w _ (by decide)]
  rfl

end Sys2Proof.Machine
end

section
/-! PROOFS. The copy of the crosspoints (R200, R201, R204): each takes its pending word, at once where no frames run. -/

namespace Sys2Proof.Machine

variable {s t : State} {i j cls : Nat} {now : Bool} {w : Word} {x : Xp}

/-! ## Sparse tables -/

theorem lookup_of_notMem {α : Type} {d : α} : ∀ {l : List (Nat × α)}, i ∉ l.map (·.1) → lookup l i d = d
  | [], _ => rfl
  | (k, v) :: l, h => by
    rw [List.map_cons, List.mem_cons, not_or] at h
    rw [lookup, if_neg (Ne.symm h.1), lookup_of_notMem h.2]

theorem mem_keysOf {α β : Type} {a : List (Nat × α)} {b : List (Nat × β)} : i ∈ keysOf a b ↔ i ∈ a.map (·.1) ∨ i ∈ b.map (·.1) := by
  by_cases h : i ∈ a.map (·.1) <;> simp [keysOf, h]

/-! ## One crosspoint -/

/-- A crosspoint at rest on a word. -/
def Xp.onWord (w : Word) : Xp := ⟨DbRamp.at (xpCode w), xpInv w, none⟩

/-- Crosspoint i takes a word, its gain as given. -/
def State.xpTaken (s : State) (i : Nat) (w : Word) (x : Xp) : State := ({ s with xpAct := store s.xpAct i w 0 }).setXp i x

theorem State.xpTaken_touches : Touches [.xpAct, .xpRamp] [] [] s (s.xpTaken i w x) :=
  ((Touches.refl _ _ _ s).put_xpAct _ (by simp)).put_xpRamp _ (by simp)

theorem State.xpTaken_actAt : (s.xpTaken i w x).xpActAt i = w := lookup_store_self _ _ _ _

theorem State.xpTaken_actAt_ne (h : i ≠ j) : (s.xpTaken i w x).xpActAt j = s.xpActAt j := lookup_store_ne _ _ _ _ h

theorem State.xpTaken_now_ne (h : i ≠ j) : (s.xpTaken i w x).xpNow j = s.xpNow j := by
  have hramp : ∀ d, lookup (s.xpTaken i w x).xpRamp j d = lookup s.xpRamp j d := by
    intro d
    have he : lookup (erase s.xpRamp i) j d = lookup s.xpRamp j d := lookup_erase_ne _ d h
    show lookup (if x.rest then erase s.xpRamp i else insertAt (erase s.xpRamp i) i x) j d = _
    split
    · exact he
    · exact (lookup_insertAt_ne _ _ _ h).trans he
  rw [State.xpNow, hramp, State.xpTaken_actAt_ne h, State.xpNow]

theorem Xp.onWord_rest : (Xp.onWord w).rest = true := by
  simp [Xp.rest, Xp.onWord, DbRamp.done, DbRamp.at]

/-- A crosspoint that takes its word at rest needs no record. -/
theorem State.xpTaken_now : (s.xpTaken i w (Xp.onWord w)).xpNow i = Xp.onWord w := by
  have hramp : (s.xpTaken i w (Xp.onWord w)).xpRamp = erase s.xpRamp i := by
    rw [State.xpTaken, State.setXp, Xp.onWord_rest]
    rfl
  rw [State.xpNow, hramp, lookup_erase_self, State.xpTaken_actAt]
  rfl

/-- A changed word is taken with some gain, at rest where no frames run. -/
theorem State.xpRetarget_eq : ∃ x, s.xpRetarget i w cls now = s.xpTaken i w x ∧ (now = true → x = Xp.onWord w) := by
  unfold State.xpRetarget
  dsimp only
  split
  · exact ⟨_, rfl, fun _ => rfl⟩
  · next h =>
    have hn : now ≠ true := fun hn => h (by rw [hn]; rfl)
    split
    · exact ⟨_, rfl, fun h => absurd h hn⟩
    · split
      · exact ⟨_, rfl, fun h => absurd h hn⟩
      · exact ⟨_, rfl, fun h => absurd h hn⟩

/-! ## Every crosspoint -/

/-- No pending entry is poisoned. -/
def State.xpClean (s : State) : Prop := ∀ i, s.poisoned .xpPend i = false

/-- The copy of a crosspoint: nothing where its word stays, else it takes its pending word. -/
theorem State.copyXp_eq (hclean : s.xpClean) :
    (s.copyXp now i = s ∧ s.xpActAt i = s.xpPendAt i) ∨
    ∃ x, s.copyXp now i = s.xpTaken i (s.xpPendAt i) x ∧ (now = true → x = Xp.onWord (s.xpPendAt i)) := by
  rw [State.copyXp, if_neg (by rw [hclean i]; exact Bool.false_ne_true)]
  split
  · next h => exact .inl ⟨rfl, h.symm⟩
  · exact .inr State.xpRetarget_eq

theorem State.copyXp_touches (hclean : s.xpClean) : Touches [.xpAct, .xpRamp] [] [] s (s.copyXp now i) := by
  rcases State.copyXp_eq (now := now) (i := i) hclean with ⟨h, -⟩ | ⟨x, h, -⟩ <;> rw [h]
  · exact Touches.refl _ _ _ s
  · exact State.xpTaken_touches

theorem State.copyXp_actAt (hclean : s.xpClean) : (s.copyXp now i).xpActAt i = s.xpPendAt i := by
  rcases State.copyXp_eq (now := now) (i := i) hclean with ⟨h, ha⟩ | ⟨x, h, -⟩ <;> rw [h]
  · exact ha
  · exact State.xpTaken_actAt

theorem State.copyXp_ne (hclean : s.xpClean) (h : i ≠ j) :
    (s.copyXp now i).xpActAt j = s.xpActAt j ∧ (s.copyXp now i).xpNow j = s.xpNow j := by
  rcases State.copyXp_eq (now := now) (i := i) hclean with ⟨he, -⟩ | ⟨x, he, -⟩ <;> rw [he]
  · exact ⟨rfl, rfl⟩
  · exact ⟨State.xpTaken_actAt_ne h, State.xpTaken_now_ne h⟩

/-- Where no frames run a changed crosspoint stands at its new gain at once (R202). -/
theorem State.copyXp_now (hclean : s.xpClean) (h : s.xpPendAt i ≠ s.xpActAt i) :
    (s.copyXp true i).xpNow i = Xp.onWord (s.xpPendAt i) := by
  rcases State.copyXp_eq (now := true) (i := i) hclean with ⟨-, ha⟩ | ⟨x, he, hx⟩
  · exact absurd ha.symm h
  · rw [he, hx rfl]
    exact State.xpTaken_now

/-- The copy of the crosspoints of a list. -/
def State.copyXps (s : State) (now : Bool) (keys : List Nat) : State := keys.foldl (fun s i => s.copyXp now i) s

theorem State.xpClean_congr (h : t.poison = s.poison) (hclean : s.xpClean) : t.xpClean := fun i =>
  (State.poisoned_congr h _).trans (hclean i)

theorem State.xpPendAt_congr (h : t.xpPend = s.xpPend) : t.xpPendAt i = s.xpPendAt i := by rw [State.xpPendAt, h, State.xpPendAt]

theorem State.xpActAt_congr (h : t.xpAct = s.xpAct) : t.xpActAt i = s.xpActAt i := by rw [State.xpActAt, h, State.xpActAt]

theorem State.xpNow_congr (h : t.xpRamp = s.xpRamp) (ha : t.xpAct = s.xpAct) : t.xpNow i = s.xpNow i := by
  rw [State.xpNow, h, State.xpActAt_congr ha, State.xpNow]

theorem State.copyXps_touches : ∀ {keys : List Nat} {s : State}, s.xpClean → Touches [.xpAct, .xpRamp] [] [] s (s.copyXps now keys)
  | [], _, _ => Touches.refl _ _ _ _
  | _ :: _, _, hclean =>
    have hstep := State.copyXp_touches hclean
    hstep.trans (State.copyXps_touches (State.xpClean_congr (hstep.1 .poison (by simp)) hclean))

/-- After the copy a listed crosspoint has its pending word, and so has one that had it before. -/
theorem State.copyXps_actAt : ∀ {keys : List Nat} {s : State}, s.xpClean → (i ∈ keys ∨ s.xpActAt i = s.xpPendAt i) →
    (s.copyXps now keys).xpActAt i = s.xpPendAt i
  | [], _, _, h => h.resolve_left List.not_mem_nil
  | k :: keys, s, hclean, h => by
    have hstep := State.copyXp_touches (now := now) (i := k) hclean
    have hact : i ∈ keys ∨ (s.copyXp now k).xpActAt i = (s.copyXp now k).xpPendAt i := by
      rw [State.xpPendAt_congr (hstep.1 .xpPend (by simp))]
      by_cases hk : k = i
      · exact .inr (hk ▸ State.copyXp_actAt hclean)
      · rw [(State.copyXp_ne hclean hk).1]
        exact h.imp_left fun hm => (List.mem_cons.1 hm).resolve_left (Ne.symm hk)
    exact (State.copyXps_actAt (State.xpClean_congr (hstep.1 .poison (by simp)) hclean) hact).trans (State.xpPendAt_congr (hstep.1 .xpPend (by simp)))

/-- Where no frames run the copy leaves a listed crosspoint that changes at rest on its new word, and one that is there already. -/
theorem State.copyXps_now : ∀ {keys : List Nat} {s : State}, s.xpClean →
    (i ∈ keys ∧ s.xpPendAt i ≠ s.xpActAt i) ∨ (s.xpActAt i = s.xpPendAt i ∧ s.xpNow i = Xp.onWord (s.xpPendAt i)) →
    (s.copyXps true keys).xpNow i = Xp.onWord (s.xpPendAt i)
  | [], _, _, h => (h.resolve_left fun hm => List.not_mem_nil hm.1).2
  | k :: keys, s, hclean, h => by
    have hstep := State.copyXp_touches (now := true) (i := k) hclean
    have hpend := State.xpPendAt_congr (i := i) (hstep.1 .xpPend (by simp))
    refine (State.copyXps_now (State.xpClean_congr (hstep.1 .poison (by simp)) hclean) ?_).trans (congrArg Xp.onWord hpend)
    rw [hpend]
    by_cases hk : k = i
    · subst hk
      refine .inr ⟨State.copyXp_actAt hclean, ?_⟩
      rcases h with ⟨-, hne⟩ | ⟨hact, hrest⟩
      · exact State.copyXp_now hclean hne
      · rcases State.copyXp_eq (now := true) (i := k) hclean with ⟨he, -⟩ | ⟨x, he, hx⟩
        · rw [he, hrest]
        · rw [he, hx rfl, State.xpTaken_now]
    · obtain ⟨hact, hnow⟩ := State.copyXp_ne (now := true) hclean hk
      rw [hact, hnow]
      exact h.imp_left fun hm => ⟨(List.mem_cons.1 hm.1).resolve_left (Ne.symm hk), hm.2⟩

end Sys2Proof.Machine
end
section
/-! PROOFS. The copy of the sinks and taps and the end of a commit (R200, R206, R207, R209). -/

namespace Sys2Proof.Machine

variable {s t : State} {i j : Nat} {now : Bool}

/-! ## Sinks (R209) -/

/-- Sink i takes an entry and its crossfade. -/
def State.sinkTaken (s : State) (i : Nat) (w : Word) (fades : List (Nat × Blend Word)) : State :=
  { { s with sinkAct := store s.sinkAct i w sinkReset } with sinkFade := fades }

/-- The copy of a sink: nothing where its entry stays, else it takes its register. -/
theorem State.copySink_eq : (s.copySink now i = s ∧ s.sinkAt i = s.reg (A.CHN_SINK i)) ∨
    ∃ fades, s.copySink now i = s.sinkTaken i (s.reg (A.CHN_SINK i)) fades := by
  unfold State.copySink
  dsimp only
  split
  · next h => exact .inl ⟨rfl, h.symm⟩
  · exact .inr ⟨_, rfl⟩

theorem State.copySink_touches : Touches [.sinkAct, .sinkFade] [] [] s (s.copySink now i) := by
  rcases State.copySink_eq (s := s) (now := now) (i := i) with ⟨h, -⟩ | ⟨fades, h⟩ <;> rw [h]
  · exact Touches.refl _ _ _ s
  · exact ((Touches.refl _ _ _ s).put_sinkAct (store s.sinkAct i (s.reg (A.CHN_SINK i)) sinkReset) (by simp)).put_sinkFade fades (by simp)

/-- The active entry becomes the sink's register. -/
theorem State.copySink_sinkAt : (s.copySink now i).sinkAt i = s.reg (A.CHN_SINK i) := by
  rcases State.copySink_eq (s := s) (now := now) (i := i) with ⟨h, hsame⟩ | ⟨fades, h⟩ <;> rw [h]
  · exact hsame
  · exact lookup_store_self _ _ _ _

theorem State.copySink_sinkAt_ne (h : i ≠ j) : (s.copySink now i).sinkAt j = s.sinkAt j := by
  rcases State.copySink_eq (s := s) (now := now) (i := i) with ⟨he, -⟩ | ⟨fades, he⟩ <;> rw [he]
  exact lookup_store_ne _ _ _ _ h

theorem State.sinkAt_congr (h : t.sinkAct = s.sinkAct) : t.sinkAt i = s.sinkAt i := by rw [State.sinkAt, h, State.sinkAt]

/-- The copy of every sink. -/
def State.copySinks (s : State) (now : Bool) : State := s.forAll 174 fun s i => s.copySink now i

theorem State.copySinks_touches : Touches [.sinkAct, .sinkFade] [] [] s (s.copySinks now) :=
  (Touches.refl _ _ _ s).forAll 174 fun _ _ _ ht => ht.trans State.copySink_touches

theorem State.copySinks_sinkAt (hi : i < 174) : (s.copySinks now).sinkAt i = s.reg (A.CHN_SINK i) := by
  obtain ⟨t, hreg, -, hcopy⟩ := State.forAll_at_of (s := s) (fun t => t.reg (A.CHN_SINK i) = s.reg (A.CHN_SINK i)) State.sinkAt
    (f := fun t i => t.copySink now i)
    (fun _ _ ht => (State.copySink_touches.reg_eq List.not_mem_nil (List.forall_mem_nil _)).trans ht)
    (fun _ _ _ _ h => State.copySink_sinkAt_ne h) rfl hi
  rw [State.copySinks, hcopy, State.copySink_sinkAt, hreg]

/-! ## Taps (R206) -/

theorem State.setTap_touches {b : Blend Nat} : Touches [.tapFade] [] [] s (s.setTap i b) := (Touches.refl _ _ _ s).put_tapFade _ (by simp)

/-- The copy of a tap: nothing where its source stays, else it takes the one its field names. -/
theorem State.copyTap_eq : (s.copyTap now i = s ∧ s.tapAt i = s.get (F.CHN_TAP_TAP (i / 4) (i % 4))) ∨
    ∃ b, s.copyTap now i = (s.set (F.CHN_TAP_ACTIVE_TAP (i / 4) (i % 4)) (s.get (F.CHN_TAP_TAP (i / 4) (i % 4)))).setTap i b := by
  unfold State.copyTap
  dsimp only
  split
  · next h => exact .inl ⟨rfl, h.symm⟩
  · exact .inr ⟨_, rfl⟩

theorem State.copyTap_touches : Touches [.tapFade] [] [F.CHN_TAP_ACTIVE_TAP (i / 4) (i % 4)] s (s.copyTap now i) := by
  rcases State.copyTap_eq (s := s) (now := now) (i := i) with ⟨h, -⟩ | ⟨b, h⟩ <;> rw [h]
  · exact Touches.refl _ _ _ s
  · exact ((Touches.refl _ _ _ s).set _ (.inr (by simp))).trans (State.setTap_touches.mono (by simp) (by simp) (by simp))

/-- The active source becomes the one the tap's field names. -/
theorem State.copyTap_tapAt : (s.copyTap now i).tapAt i = s.get (F.CHN_TAP_TAP (i / 4) (i % 4)) := by
  rcases State.copyTap_eq (s := s) (now := now) (i := i) with ⟨h, hsame⟩ | ⟨b, h⟩ <;> rw [h]
  · exact hsame
  · have hfits : (F.CHN_TAP_ACTIVE_TAP (i / 4) (i % 4)).lo + (F.CHN_TAP_ACTIVE_TAP (i / 4) (i % 4)).w ≤ 32 := by
      simp only [F.CHN_TAP_ACTIVE_TAP]
      omega
    rw [State.tapAt, State.setTap_touches.get_keeps (List.forall_mem_nil _), State.get_set_in hfits]
    exact Nat.mod_eq_of_lt (s.get_lt _)

theorem State.copyTap_tapAt_ne (h : i ≠ j) : (s.copyTap now i).tapAt j = s.tapAt j := by
  refine State.copyTap_touches.get_keeps fun g hg => ?_
  rw [List.mem_singleton.1 hg]
  simp only [F.CHN_TAP_ACTIVE_TAP, A.CHN_TAP_ACTIVE]
  omega

/-- The copy of every tap. -/
def State.copyTaps (s : State) (now : Bool) : State := s.forAll 16 fun s t => s.copyTap now t

/-- The registers of the active taps. -/
def tapActiveWords : List Fld := (List.range 4).map fun k => whole (A.CHN_TAP_ACTIVE k)

theorem State.copyTaps_touches : Touches [.tapFade] [] tapActiveWords s (s.copyTaps now) := by
  refine (Touches.refl _ _ _ s).forAll 16 fun t i hi ht => ht.step State.copyTap_touches (by simp) fun f hf => .inr ?_
  rw [List.mem_singleton.1 hf]
  exact List.mem_map_of_mem (List.mem_range.2 (by omega))

theorem State.copyTaps_tapAt (hi : i < 16) : (s.copyTaps now).tapAt i = s.get (F.CHN_TAP_TAP (i / 4) (i % 4)) := by
  have hkeep : ∀ (t : State) (k : Nat), (t.copyTap now k).get (F.CHN_TAP_TAP (i / 4) (i % 4)) = t.get (F.CHN_TAP_TAP (i / 4) (i % 4)) := by
    intro t k
    refine State.copyTap_touches.get_keeps fun g hg => .inl ?_
    rw [List.mem_singleton.1 hg]
    simp only [F.CHN_TAP_ACTIVE_TAP, F.CHN_TAP_TAP, A.CHN_TAP_ACTIVE, A.CHN_TAP]
    omega
  obtain ⟨t, hsel, -, hcopy⟩ := State.forAll_at_of (s := s)
    (fun t => t.get (F.CHN_TAP_TAP (i / 4) (i % 4)) = s.get (F.CHN_TAP_TAP (i / 4) (i % 4))) State.tapAt
    (f := fun t k => t.copyTap now k) (fun t k ht => (hkeep t k).trans ht) (fun _ _ _ _ h => State.copyTap_tapAt_ne h) rfl hi
  rw [State.copyTaps, hcopy, State.copyTap_tapAt, hsel]

/-! ## The status (R221) -/

theorem State.chnSync_touches : Touches [] [] [F.CHN_STATUS_RAMPING, whole A.CHN_LOAD] s s.chnSync :=
  (((Touches.refl _ _ _ s).setB _ (.inr (by simp))).set_whole _ (by simp [F.CHN_LOAD_COST])).set_whole _ (by simp [F.CHN_LOAD_CAP])

theorem State.chnFadeSync_touches : Touches [] [] [F.CHN_STATUS_SINK_XFADE] s s.chnFadeSync :=
  (Touches.refl _ _ _ s).setB _ (.inr (by simp))

/-- The commit is over, its flags clear. -/
def State.chnIdle (s : State) : State :=
  ((s.set F.CHN_STATUS_BUSY 0).set F.CHN_STATUS_HELD 0).set F.CHN_STATUS_CAP_WAIT 0

/-- The commit is counted at this frame and shown. -/
def State.chnCounted (s : State) : State :=
  ((s.inc F.CHN_STATUS_COMMITS).set F.CHN_COMMIT_FRAME_FRAME (s.get F.CHN_FRAME_NOW_FRAME)).irq 0x0F 2

theorem State.chnIdle_touches : Touches [] [] [F.CHN_STATUS_BUSY, F.CHN_STATUS_HELD, F.CHN_STATUS_CAP_WAIT] s s.chnIdle :=
  (((Touches.refl _ _ _ s).set _ (.inr (by simp))).set _ (.inr (by simp))).set _ (.inr (by simp))

theorem State.chnIdle_flags : s.chnIdle.on F.CHN_STATUS_BUSY = false ∧ s.chnIdle.on F.CHN_STATUS_HELD = false ∧
    s.chnIdle.on F.CHN_STATUS_CAP_WAIT = false :=
  ⟨(State.on_set_off (by decide) _).trans ((State.on_set_off (by decide) _).trans (State.on_set_zero (by decide))),
    (State.on_set_off (by decide) _).trans (State.on_set_zero (by decide)), State.on_set_zero (by decide)⟩

theorem State.chnCounted_touches :
    Touches [] [] [F.CHN_STATUS_COMMITS, whole A.CHN_COMMIT_FRAME, F.PG_IRQ 0x0F 2] s s.chnCounted :=
  (((Touches.refl _ _ _ s).inc (.inr (by simp))).set_whole _ (by simp [F.CHN_COMMIT_FRAME_FRAME])).irq (.inr (by simp))

theorem State.chnCounted_shows : s.chnCounted.get F.CHN_STATUS_COMMITS = min (s.get F.CHN_STATUS_COMMITS + 1) 0xFFFF ∧
    s.chnCounted.get F.CHN_COMMIT_FRAME_FRAME = s.get F.CHN_FRAME_NOW_FRAME ∧ s.chnCounted.on (F.PG_IRQ 0x0F 2) = true := by
  refine ⟨?_, ?_, State.on_irq_in (by decide)⟩
  · rw [State.chnCounted, State.get_irq_off (by decide), State.get_set_off (by decide), State.get_inc_wide (by decide)]
  · rw [State.chnCounted, State.get_irq_off (by decide), State.get_set_in (by decide)]
    exact Nat.mod_eq_of_lt (s.get_lt _)

/-- The end of a commit's copy. -/
def State.chnDone (s : State) : State := s.chnIdle.chnCounted.chnSync.chnFadeSync

/-- The fields that the end of a copy may write. -/
def chnDoneFlds : List Fld :=
  [F.CHN_STATUS_BUSY, F.CHN_STATUS_HELD, F.CHN_STATUS_CAP_WAIT, F.CHN_STATUS_COMMITS, F.CHN_STATUS_RAMPING, F.CHN_STATUS_SINK_XFADE,
    whole A.CHN_COMMIT_FRAME, whole A.CHN_LOAD, F.PG_IRQ 0x0F 2]

/-- What follows the count leaves the commit's fields. -/
theorem State.chnShown_touches :
    Touches [] [] [F.CHN_STATUS_RAMPING, whole A.CHN_LOAD, F.CHN_STATUS_SINK_XFADE] s s.chnSync.chnFadeSync :=
  (State.chnSync_touches.mono (by simp) (by simp) (by simp)).trans (State.chnFadeSync_touches.mono (by simp) (by simp) (by simp))

theorem State.chnDone_touches : Touches [] [] chnDoneFlds s s.chnDone :=
  ((State.chnIdle_touches.mono (by simp) (by simp) (by simp [chnDoneFlds])).trans
    (State.chnCounted_touches.mono (by simp) (by simp) (by simp [chnDoneFlds]))).trans
    (State.chnShown_touches.mono (by simp) (by simp) (by simp [chnDoneFlds]))

theorem State.chnDone_flags : s.chnDone.on F.CHN_STATUS_BUSY = false ∧ s.chnDone.on F.CHN_STATUS_HELD = false ∧
    s.chnDone.on F.CHN_STATUS_CAP_WAIT = false := by
  obtain ⟨hbusy, hheld, hcap⟩ := s.chnIdle_flags
  have htouch := State.chnCounted_touches (s := s.chnIdle)
  refine ⟨?_, ?_, ?_⟩
  · rw [State.chnDone, State.chnShown_touches.on_keeps (by decide), htouch.on_keeps (by decide), hbusy]
  · rw [State.chnDone, State.chnShown_touches.on_keeps (by decide), htouch.on_keeps (by decide), hheld]
  · rw [State.chnDone, State.chnShown_touches.on_keeps (by decide), htouch.on_keeps (by decide), hcap]

theorem State.chnDone_shows : s.chnDone.get F.CHN_STATUS_COMMITS = min (s.get F.CHN_STATUS_COMMITS + 1) 0xFFFF ∧
    s.chnDone.get F.CHN_COMMIT_FRAME_FRAME = s.get F.CHN_FRAME_NOW_FRAME ∧ s.chnDone.on (F.PG_IRQ 0x0F 2) = true := by
  obtain ⟨hcommits, hframe, hirq⟩ := s.chnIdle.chnCounted_shows
  refine ⟨?_, ?_, ?_⟩
  · rw [State.chnDone, State.chnShown_touches.get_keeps (by decide), hcommits, State.chnIdle_touches.get_keeps (by decide)]
  · rw [State.chnDone, State.chnShown_touches.get_keeps (by decide), hframe, State.chnIdle_touches.get_keeps (by decide)]
  · rw [State.chnDone, State.chnShown_touches.on_keeps (by decide), hirq]

end Sys2Proof.Machine
end

section
/-! PROOFS. CHN_COMMIT_COPY (R200, R202, R205): the copy of a commit that fits. -/

namespace Sys2Proof.Machine

variable {s t : State} {i : Nat} {now : Bool}

/-- The crosspoints a commit looks at: every listed word, pending or active, and every poisoned pending entry. -/
def State.chnKeys (s : State) : List Nat :=
  keysOf s.xpPend s.xpAct ++ (s.poison.filter (fun e => decide (e.2.kind = .xpPend)
    && !(keysOf s.xpPend s.xpAct).contains e.2.idx)).map (·.2.idx)

/-- A copy begins with no fault code shown (R204). -/
def State.chnUnfaulted (s : State) : State := s.set (F.PG_FAULT 0x0F) 0

theorem State.chnUnfaulted_touches : Touches [] [] [F.PG_FAULT 0x0F] s s.chnUnfaulted := (Touches.refl _ _ _ s).set 0 (.inr (by simp))

theorem State.chnUnfaulted_xpClean (hclean : s.xpClean) : s.chnUnfaulted.xpClean :=
  State.xpClean_congr (State.chnUnfaulted_touches.1 .poison List.not_mem_nil) hclean

theorem State.chnUnfaulted_xpPendAt : s.chnUnfaulted.xpPendAt i = s.xpPendAt i :=
  State.xpPendAt_congr (State.chnUnfaulted_touches.1 .xpPend List.not_mem_nil)

theorem State.chnUnfaulted_xpActAt : s.chnUnfaulted.xpActAt i = s.xpActAt i :=
  State.xpActAt_congr (State.chnUnfaulted_touches.1 .xpAct List.not_mem_nil)

/-- The crosspoints' copy, with FAULT cleared before and the active table's poison gone after. -/
def State.chnXpsCopied (s : State) (now : Bool) : State :=
  { s.chnUnfaulted.copyXps now s.chnUnfaulted.chnKeys with
    poison := (s.chnUnfaulted.copyXps now s.chnUnfaulted.chnKeys).poison.filter (fun e => decide (e.2.kind ≠ .xpAct)) }

theorem State.chnCopy_eq : s.chnCopy now = (((s.chnXpsCopied now).copySinks now).copyTaps now).chnDone := rfl

/-- A crosspoint that neither table lists has the same word in both. -/
theorem State.mem_chnKeys_or (s : State) (i : Nat) : i ∈ s.chnKeys ∨ s.xpActAt i = s.xpPendAt i := by
  by_cases h : i ∈ keysOf s.xpPend s.xpAct
  · exact .inl (List.mem_append_left _ h)
  · rw [mem_keysOf, not_or] at h
    refine .inr ?_
    rw [State.xpActAt, State.xpPendAt, lookup_of_notMem h.1, lookup_of_notMem h.2]

theorem State.xpClean_of_poison (h : ∀ e ∈ s.poison, e.2.kind ≠ .xpPend) : s.xpClean := by
  refine fun i => List.any_eq_false.2 fun e he hi => h e he ?_
  rw [of_decide_eq_true hi]

theorem State.chnXpsCopied_touches (hclean : s.xpClean) :
    Touches [.xpAct, .xpRamp, .poison] [] [F.PG_FAULT 0x0F] s (s.chnXpsCopied now) :=
  ((State.chnUnfaulted_touches.mono (by simp) (by simp) (by simp)).trans
    ((State.copyXps_touches (State.chnUnfaulted_xpClean hclean)).mono (by simp) (by simp) (by simp))).put_poison _ (by simp)

/-- A commit's copy without its status: the tables, sinks and taps. -/
def State.chnTables (s : State) (now : Bool) : State := ((s.chnXpsCopied now).copySinks now).copyTaps now

theorem State.chnTables_xpAct : (s.chnTables now).xpAct = (s.chnUnfaulted.copyXps now s.chnUnfaulted.chnKeys).xpAct :=
  (State.copyTaps_touches.1 .xpAct (by simp)).trans (State.copySinks_touches.1 .xpAct (by simp))

theorem State.chnTables_xpRamp : (s.chnTables now).xpRamp = (s.chnUnfaulted.copyXps now s.chnUnfaulted.chnKeys).xpRamp :=
  (State.copyTaps_touches.1 .xpRamp (by simp)).trans (State.copySinks_touches.1 .xpRamp (by simp))

theorem State.chnTables_touches (hclean : s.xpClean) :
    Touches [.xpAct, .xpRamp, .sinkAct, .sinkFade, .tapFade, .poison] [] (F.PG_FAULT 0x0F :: tapActiveWords) s (s.chnTables now) :=
  (((State.chnXpsCopied_touches hclean).mono (by simp) (by simp) (by simp)).trans
    (State.copySinks_touches.mono (by simp) (by simp) (by simp))).trans (State.copyTaps_touches.mono (by simp) (by simp) (by simp))

/-- Every crosspoint has its pending word. -/
theorem State.chnTables_xpActAt (hclean : s.xpClean) : (s.chnTables now).xpActAt i = s.xpPendAt i := by
  rw [State.xpActAt_congr State.chnTables_xpAct,
    State.copyXps_actAt (State.chnUnfaulted_xpClean hclean) (s.chnUnfaulted.mem_chnKeys_or i), State.chnUnfaulted_xpPendAt]

/-- Where no frames run a changed crosspoint stands at its new gain. -/
theorem State.chnTables_xpNow (hclean : s.xpClean) (h : s.xpPendAt i ≠ s.xpActAt i) :
    (s.chnTables true).xpNow i = Xp.onWord (s.xpPendAt i) := by
  have hkeys : i ∈ s.chnUnfaulted.chnKeys ∧ s.chnUnfaulted.xpPendAt i ≠ s.chnUnfaulted.xpActAt i := by
    have hne : s.chnUnfaulted.xpPendAt i ≠ s.chnUnfaulted.xpActAt i := by
      rwa [State.chnUnfaulted_xpActAt, State.chnUnfaulted_xpPendAt]
    exact ⟨(s.chnUnfaulted.mem_chnKeys_or i).resolve_right hne.symm, hne⟩
  rw [State.xpNow_congr State.chnTables_xpRamp State.chnTables_xpAct,
    State.copyXps_now (State.chnUnfaulted_xpClean hclean) (.inl hkeys), State.chnUnfaulted_xpPendAt]

theorem State.chnTables_sinkAt (hclean : s.xpClean) (hi : i < 174) : (s.chnTables now).sinkAt i = s.reg (A.CHN_SINK i) := by
  rw [State.chnTables, State.sinkAt_congr (State.copyTaps_touches.1 .sinkAct (by simp)), State.copySinks_sinkAt hi]
  refine ((State.chnXpsCopied_touches hclean).reg_eq List.not_mem_nil fun f hf => ?_)
  rw [List.mem_singleton.1 hf]
  simp only [F.PG_FAULT, A.CHN_SINK]
  omega

theorem State.chnTables_tapAt (hclean : s.xpClean) (hi : i < 16) :
    (s.chnTables now).tapAt i = s.get (F.CHN_TAP_TAP (i / 4) (i % 4)) := by
  refine (State.copyTaps_tapAt hi).trans ((State.copySinks_touches.get_keeps (List.forall_mem_nil _)).trans
    ((State.chnXpsCopied_touches hclean).get_keeps fun g hg => .inl ?_))
  rw [List.mem_singleton.1 hg]
  simp only [F.PG_FAULT, F.CHN_TAP_TAP, A.CHN_TAP]
  omega

theorem State.chnTables_fault (hclean : s.xpClean) : (s.chnTables now).get (F.PG_FAULT 0x0F) = 0 := by
  have hxps : (s.chnXpsCopied now).get (F.PG_FAULT 0x0F) = 0 := by
    have hxp := (State.copyXps_touches (now := now) (keys := s.chnUnfaulted.chnKeys) (State.chnUnfaulted_xpClean hclean)).mono
      (ps' := [.xpAct, .xpRamp, .poison]) (by simp) (List.Subset.refl _) (List.Subset.refl _)
    refine ((hxp.put_poison _ (by simp)).get_keeps (List.forall_mem_nil _)).trans ?_
    exact State.get_set_in (by decide) 0
  rw [State.chnTables, State.copyTaps_touches.get_keeps (by decide), State.copySinks_touches.get_keeps (List.forall_mem_nil _), hxps]

/-- A commit that fits, copied. -/
def State.chnFitted (s : State) : State := (s.chnCapacity.chnTables (!s.engRuns)).chnDone

/-- The boundary of a commit that fits is its copy (R200). -/
theorem State.chnBoundary_fits (hbusy : s.on F.CHN_STATUS_BUSY = true) (hthaw : s.frozen = false) (hon : s.islandOn .engine = true)
    (hfits : s.chnOver = false) : s.chnBoundary = s.chnFitted := by
  have hwait : s.chnCapacity.on F.CHN_STATUS_CAP_WAIT = false := by rw [State.chnCapacity_capWait, hfits, Bool.and_false]
  have hdue : (s.on F.CHN_STATUS_BUSY && !s.frozen && s.islandOn .engine) = true := by rw [hbusy, hthaw, hon]; rfl
  rw [State.chnBoundary, hdue, State.when_true]
  dsimp only
  rw [hwait, Bool.not_false, State.when_true, State.chnCapacity_touches.engRuns_beside_chn (by decide), State.chnCopy_eq,
    State.chnFitted, State.chnTables]

/-! ## What the copy leaves -/

theorem State.chnCapacity_xpPendAt : s.chnCapacity.xpPendAt i = s.xpPendAt i :=
  State.xpPendAt_congr (State.chnCapacity_touches.1 .xpPend List.not_mem_nil)

theorem State.chnCapacity_xpActAt : s.chnCapacity.xpActAt i = s.xpActAt i :=
  State.xpActAt_congr (State.chnCapacity_touches.1 .xpAct List.not_mem_nil)

section
variable (hclean : s.xpClean)
include hclean

theorem State.chnCapacity_xpClean : s.chnCapacity.xpClean :=
  State.xpClean_congr (State.chnCapacity_touches.1 .poison List.not_mem_nil) hclean

theorem State.chnFitted_touches : Touches [.xpAct, .xpRamp, .sinkAct, .sinkFade, .tapFade, .poison] []
    ([F.CHN_STATUS_BUSY, F.CHN_STATUS_HELD, F.CHN_STATUS_CAP_WAIT, F.CHN_STATUS_COMMITS, F.CHN_STATUS_RAMPING,
      F.CHN_STATUS_SINK_XFADE, whole A.CHN_COMMIT_FRAME, whole A.CHN_LOAD, F.PG_FAULT 0x0F, F.PG_IRQ 0x0F 2, F.PG_IRQ 0x0F 7] ++
      tapActiveWords) s s.chnFitted :=
  ((State.chnCapacity_touches.mono (by simp) (by simp) (by simp)).trans
    ((State.chnTables_touches (State.chnCapacity_xpClean hclean)).mono (by simp) (by simp) fun f hf =>
      (List.mem_cons.1 hf).elim (fun h => by simp [h]) fun h => List.mem_append_right _ h)).trans
    (State.chnDone_touches.mono (by simp) (by simp) (List.subset_append_of_subset_left _ (by simp [chnDoneFlds])))

theorem State.chnFitted_xpActAt : s.chnFitted.xpActAt i = s.xpPendAt i := by
  rw [State.chnFitted, State.xpActAt_congr (State.chnDone_touches.1 .xpAct List.not_mem_nil),
    State.chnTables_xpActAt (State.chnCapacity_xpClean hclean), State.chnCapacity_xpPendAt]

theorem State.chnFitted_xpNow (hstop : s.engRuns = false) (hne : s.xpPendAt i ≠ s.xpActAt i) :
    s.chnFitted.xpNow i = Xp.onWord (s.xpPendAt i) := by
  rw [State.chnFitted, hstop, State.xpNow_congr (State.chnDone_touches.1 .xpRamp List.not_mem_nil)
      (State.chnDone_touches.1 .xpAct List.not_mem_nil), Bool.not_false, State.chnTables_xpNow (State.chnCapacity_xpClean hclean)
      (by rwa [State.chnCapacity_xpPendAt, State.chnCapacity_xpActAt]), State.chnCapacity_xpPendAt]

theorem State.chnFitted_sinkAt (hi : i < 174) : s.chnFitted.sinkAt i = s.reg (A.CHN_SINK i) := by
  have hreg : s.chnCapacity.reg (A.CHN_SINK i) = s.reg (A.CHN_SINK i) := by
    refine State.chnCapacity_touches.reg_eq List.not_mem_nil ?_
    simp only [List.forall_mem_cons, F.CHN_STATUS_CAP_WAIT, F.PG_IRQ, A.CHN_STATUS, A.CHN_SINK]
    exact ⟨by omega, by omega, List.forall_mem_nil _⟩
  rw [State.chnFitted, State.sinkAt_congr (State.chnDone_touches.1 .sinkAct List.not_mem_nil),
    State.chnTables_sinkAt (State.chnCapacity_xpClean hclean) hi, hreg]

theorem State.chnFitted_tapAt (hi : i < 16) : s.chnFitted.tapAt i = s.get (F.CHN_TAP_TAP (i / 4) (i % 4)) := by
  have hdone : s.chnFitted.tapAt i = (s.chnCapacity.chnTables (!s.engRuns)).tapAt i := by
    refine State.chnDone_touches.get_keeps fun g hg => .inl ?_
    simp only [chnDoneFlds, List.mem_cons, List.not_mem_nil, or_false] at hg
    rcases hg with rfl | rfl | rfl | rfl | rfl | rfl | rfl | rfl | rfl <;>
      simp only [F.CHN_STATUS_BUSY, F.CHN_STATUS_HELD, F.CHN_STATUS_CAP_WAIT, F.CHN_STATUS_COMMITS, F.CHN_STATUS_RAMPING,
        F.CHN_STATUS_SINK_XFADE, whole, F.PG_IRQ, F.CHN_TAP_ACTIVE_TAP, A.CHN_STATUS, A.CHN_COMMIT_FRAME, A.CHN_LOAD,
        A.CHN_TAP_ACTIVE] <;> omega
  have hsel : s.chnCapacity.get (F.CHN_TAP_TAP (i / 4) (i % 4)) = s.get (F.CHN_TAP_TAP (i / 4) (i % 4)) := by
    refine State.chnCapacity_touches.get_keeps fun g hg => .inl ?_
    simp only [List.mem_cons, List.not_mem_nil, or_false] at hg
    rcases hg with rfl | rfl <;> simp only [F.CHN_STATUS_CAP_WAIT, F.PG_IRQ, F.CHN_TAP_TAP, A.CHN_STATUS, A.CHN_TAP] <;> omega
  rw [hdone, State.chnTables_tapAt (State.chnCapacity_xpClean hclean) hi, hsel]

/-- The commit is over, counted at this frame and shown. -/
theorem State.chnFitted_shows : s.chnFitted.get F.CHN_STATUS_COMMITS = min (s.get F.CHN_STATUS_COMMITS + 1) 0xFFFF ∧
    s.chnFitted.get F.CHN_COMMIT_FRAME_FRAME = s.get F.CHN_FRAME_NOW_FRAME ∧ s.chnFitted.get (F.PG_FAULT 0x0F) = 0 ∧
    s.chnFitted.on (F.PG_IRQ 0x0F 2) = true := by
  have htables := State.chnTables_touches (now := !s.engRuns) (State.chnCapacity_xpClean hclean)
  obtain ⟨hcommits, hframe, hirq⟩ := (s.chnCapacity.chnTables (!s.engRuns)).chnDone_shows
  refine ⟨?_, ?_, ?_, hirq⟩
  · rw [State.chnFitted, hcommits, htables.get_keeps (by decide), State.chnCapacity_touches.get_keeps (by decide)]
  · rw [State.chnFitted, hframe, htables.get_keeps (by decide), State.chnCapacity_touches.get_keeps (by decide)]
  · rw [State.chnFitted, State.chnDone_touches.get_keeps (by decide), State.chnTables_fault (State.chnCapacity_xpClean hclean)]

end

end Sys2Proof.Machine
end
section
/-! PROOFS. REVERT (R203, R204): the pending tables become the active ones. -/

namespace Sys2Proof.Machine

variable {s t : State} {i : Nat}

/-- A step that every element of a list takes within a frame, the fold takes within it. -/
theorem Touches.foldl {α : Type} {ps : List Part} {gs : List Nat} {fs : List Fld} {f : State → α → State}
    (hf : ∀ t x, Touches ps gs fs t (f t x)) : ∀ (l : List α) (s : State), Touches ps gs fs s (l.foldl f s)
  | [], s => Touches.refl _ _ _ s
  | x :: l, s => (hf s x).trans (Touches.foldl hf l (f s x))

/-! ## Poisoned active words (R204) -/

/-- The poison record of the Churn, its fault and interrupts. -/
def chnPoisonFlds : List Fld :=
  [F.CHN_POISON_COUNT, F.CHN_POISON_LAST_ENTRY, F.PG_FAULT 0x0F, F.PG_IRQ 0x0F 1, F.PG_IRQ 0x0F 6]

theorem State.xpPoison_touches : Touches [.xpAct, .xpRamp] [] chnPoisonFlds s (s.xpPoison i) := by
  have hcount : F.CHN_POISON_COUNT ∈ chnPoisonFlds := by simp [chnPoisonFlds]
  have hlast : F.CHN_POISON_LAST_ENTRY ∈ chnPoisonFlds := by simp [chnPoisonFlds]
  have hfault : F.PG_IRQ 0x0F 1 ∈ chnPoisonFlds ∧ F.PG_FAULT 0x0F ∈ chnPoisonFlds := by simp [chnPoisonFlds]
  have hirq : F.PG_IRQ 0x0F 6 ∈ chnPoisonFlds := by simp [chnPoisonFlds]
  unfold State.xpPoison
  extract_lets u
  have hu : Touches [.xpAct, .xpRamp] [] chnPoisonFlds s u :=
    ((((Touches.refl _ _ _ s).inc (.inr hcount)).set _ (.inr hlast)).fault 1 (.inr hfault)).irq (.inr hirq)
  split
  · exact hu.trans (State.xpTaken_touches.mono (by simp) (by simp) (by simp))
  · exact hu.put_xpAct _ (by simp)

/-! ## The parts of a REVERT -/

/-- The crosspoints whose active word is poisoned. -/
def State.xpBad (s : State) : List Nat := (s.poison.filter (fun e => decide (e.2.kind = .xpAct))).map (·.2.idx)

/-- The pending crosspoints take the active words, the poisoned ones as zero. -/
def State.xpReverted (s : State) : State :=
  { s.xpBad.foldl State.xpPoison s with
    xpPend := (s.xpBad.foldl State.xpPoison s).xpAct.filter (fun e => !s.xpBad.contains e.1),
    poison := (s.xpBad.foldl State.xpPoison s).poison.filter (fun e => decide (e.2.kind ≠ .xpPend)) }

/-- The sinks' registers take their active entries. -/
def State.sinksReverted (s : State) : State := s.forAll 174 fun s i => s.setReg (A.CHN_SINK i) (s.sinkAt i)

/-- The taps' registers take their active sources. -/
def State.tapsReverted (s : State) : State := s.forAll 4 fun s k => s.setReg (A.CHN_TAP k) (s.reg (A.CHN_TAP_ACTIVE k))

theorem State.chnRevert_idle (h : s.on F.CHN_STATUS_BUSY = false) :
    s.chnRevert = s.xpReverted.sinksReverted.tapsReverted.chnSync := by
  rw [State.chnRevert, h, Bool.not_false, State.when_true]
  rfl

theorem State.chnRevert_busy (h : s.on F.CHN_STATUS_BUSY = true) : s.chnRevert = s := by
  rw [State.chnRevert, h, Bool.not_true, State.when_false]

theorem State.xpBads_touches : Touches [.xpAct, .xpRamp] [] chnPoisonFlds s (s.xpBad.foldl State.xpPoison s) :=
  Touches.foldl (fun _ _ => State.xpPoison_touches) _ s

theorem State.xpReverted_touches : Touches [.xpPend, .xpAct, .xpRamp, .poison] [] chnPoisonFlds s s.xpReverted := by
  have hbad := (State.xpBads_touches (s := s)).mono (ps' := [.xpPend, .xpAct, .xpRamp, .poison]) (by simp) (List.Subset.refl _) (List.Subset.refl _)
  exact (hbad.put_xpPend ((s.xpBad.foldl State.xpPoison s).xpAct.filter (fun e => !s.xpBad.contains e.1)) (by simp)).put_poison
    ((s.xpBad.foldl State.xpPoison s).poison.filter (fun e => decide (e.2.kind ≠ .xpPend))) (by simp)

/-- With no poisoned active word the pending table is the active one. -/
theorem State.xpReverted_pend (h : ∀ e ∈ s.poison, e.2.kind ≠ .xpAct) : s.xpReverted.xpPend = s.xpAct := by
  have hnone : s.poison.filter (fun e => decide (e.2.kind = .xpAct)) = [] :=
    List.filter_eq_nil_iff.2 fun e he hk => h e he (of_decide_eq_true hk)
  have hbad : s.xpBad = [] := by rw [State.xpBad, hnone, List.map_nil]
  show (s.xpBad.foldl State.xpPoison s).xpAct.filter (fun e => !s.xpBad.contains e.1) = s.xpAct
  rw [hbad]
  exact List.filter_eq_self.2 fun _ _ => rfl

/-- The registers of the sinks. -/
def sinkWords : List Fld := (List.range 174).map fun i => whole (A.CHN_SINK i)

/-- The registers of the taps. -/
def tapWords : List Fld := (List.range 4).map fun k => whole (A.CHN_TAP k)

theorem State.sinksReverted_touches : Touches [] [] sinkWords s s.sinksReverted :=
  (Touches.refl _ _ _ s).forAll 174 fun _ _ hi ht => ht.setReg _ (.inr (List.mem_map_of_mem (List.mem_range.2 hi)))

theorem State.tapsReverted_touches : Touches [] [] tapWords s s.tapsReverted :=
  (Touches.refl _ _ _ s).forAll 4 fun _ _ hk ht => ht.setReg _ (.inr (List.mem_map_of_mem (List.mem_range.2 hk)))

theorem State.sinksReverted_reg (hi : i < 174) : s.sinksReverted.reg (A.CHN_SINK i) = s.sinkAt i := by
  obtain ⟨t, hact, -, hcopy⟩ := State.forAll_at_of (s := s) (fun t => t.sinkAct = s.sinkAct) (fun t i => t.reg (A.CHN_SINK i))
    (f := fun t i => t.setReg (A.CHN_SINK i) (t.sinkAt i)) (fun _ _ ht => ht)
    (fun t k n _ h => t.reg_setReg_ne _ (by simp only [A.CHN_SINK]; omega)) rfl hi
  rw [State.sinksReverted, hcopy, State.reg_setReg_self, State.sinkAt_congr hact]

theorem State.tapsReverted_reg (hi : i < 4) : s.tapsReverted.reg (A.CHN_TAP i) = s.reg (A.CHN_TAP_ACTIVE i) := by
  obtain ⟨t, hread, hcopy⟩ := State.forAll_at_lt (s := s) (fun t k => (t.reg (A.CHN_TAP k), t.reg (A.CHN_TAP_ACTIVE k)))
    (f := fun t k => t.setReg (A.CHN_TAP k) (t.reg (A.CHN_TAP_ACTIVE k)))
    (fun t k n hk h => by
      rw [t.reg_setReg_ne _ (by simp only [A.CHN_TAP]; omega), t.reg_setReg_ne _ (by simp only [A.CHN_TAP, A.CHN_TAP_ACTIVE]; omega)]) hi
  simp only [Prod.mk.injEq] at hread hcopy
  rw [State.tapsReverted, hcopy.1, State.reg_setReg_self, hread.2]

/-! ## What a REVERT leaves -/

/-- The fields that a REVERT may write, all on the Churn's page. -/
def chnRevertFlds : List Fld := chnPoisonFlds ++ sinkWords ++ tapWords ++ [F.CHN_STATUS_RAMPING, whole A.CHN_LOAD]

theorem chnRevertFlds_page : ∀ f ∈ chnRevertFlds, f.addr / 0x400 = 0x0F := by decide +kernel

theorem State.chnReverted_touches :
    Touches [.xpPend, .xpAct, .xpRamp, .poison] [] chnRevertFlds s s.xpReverted.sinksReverted.tapsReverted.chnSync :=
  (((State.xpReverted_touches.mono (by simp) (by simp) fun _ h => by simp [chnRevertFlds, h]).trans
    (State.sinksReverted_touches.mono (by simp) (by simp) fun _ h => by simp [chnRevertFlds, h])).trans
    (State.tapsReverted_touches.mono (by simp) (by simp) fun _ h => by simp [chnRevertFlds, h])).trans
    (State.chnSync_touches.mono (by simp) (by simp) fun _ h => List.mem_append_right _ h)

theorem State.chnReverted_pend (h : ∀ e ∈ s.poison, e.2.kind ≠ .xpAct) :
    s.xpReverted.sinksReverted.tapsReverted.chnSync.xpPend = s.xpAct := by
  rw [State.chnSync_touches.1 .xpPend (by simp), State.tapsReverted_touches.1 .xpPend (by simp),
    State.sinksReverted_touches.1 .xpPend (by simp), State.xpReverted_pend h]

theorem State.chnReverted_sink (hi : i < 174) :
    s.xpReverted.sinksReverted.tapsReverted.chnSync.reg (A.CHN_SINK i) = s.sinkAt i := by
  have hsync : ∀ f ∈ [F.CHN_STATUS_RAMPING, whole A.CHN_LOAD], f.addr ≠ A.CHN_SINK i := by
    simp only [List.forall_mem_cons, whole, F.CHN_STATUS_RAMPING, A.CHN_STATUS, A.CHN_LOAD, A.CHN_SINK]
    exact ⟨by omega, by omega, List.forall_mem_nil _⟩
  have htaps : ∀ f ∈ tapWords, f.addr ≠ A.CHN_SINK i := by
    intro f hf
    obtain ⟨k, hk, rfl⟩ := List.mem_map.1 hf
    rw [List.mem_range] at hk
    simp only [whole, A.CHN_TAP, A.CHN_SINK]
    omega
  rw [State.chnSync_touches.reg_eq List.not_mem_nil hsync, State.tapsReverted_touches.reg_eq List.not_mem_nil htaps,
    State.sinksReverted_reg hi, State.sinkAt_congr (State.xpReverted_touches.1 .sinkAct (by simp))]

theorem State.chnReverted_tap (hi : i < 16) :
    s.xpReverted.sinksReverted.tapsReverted.chnSync.get (F.CHN_TAP_TAP (i / 4) (i % 4)) = s.tapAt i := by
  have hk : i / 4 < 4 := by omega
  have hsync : ∀ f ∈ [F.CHN_STATUS_RAMPING, whole A.CHN_LOAD], f.addr ≠ A.CHN_TAP (i / 4) := by
    simp only [List.forall_mem_cons, whole, F.CHN_STATUS_RAMPING, A.CHN_STATUS, A.CHN_LOAD, A.CHN_TAP]
    exact ⟨by omega, by omega, List.forall_mem_nil _⟩
  have hsinks : ∀ f ∈ sinkWords, f.addr ≠ A.CHN_TAP_ACTIVE (i / 4) := by
    intro f hf
    obtain ⟨j, -, rfl⟩ := List.mem_map.1 hf
    simp only [whole, A.CHN_SINK, A.CHN_TAP_ACTIVE]
    omega
  have hpoison : ∀ f ∈ chnPoisonFlds, f.addr ≠ A.CHN_TAP_ACTIVE (i / 4) := by
    simp only [chnPoisonFlds, List.forall_mem_cons, F.CHN_POISON_COUNT, F.CHN_POISON_LAST_ENTRY, F.PG_FAULT, F.PG_IRQ, A.CHN_POISON,
      A.CHN_TAP_ACTIVE]
    exact ⟨by omega, by omega, by omega, by omega, by omega, List.forall_mem_nil _⟩
  have hreg : s.xpReverted.sinksReverted.tapsReverted.chnSync.reg (A.CHN_TAP (i / 4)) = s.reg (A.CHN_TAP_ACTIVE (i / 4)) := by
    rw [State.chnSync_touches.reg_eq List.not_mem_nil hsync, State.tapsReverted_reg hk,
      State.sinksReverted_touches.reg_eq List.not_mem_nil hsinks, State.xpReverted_touches.reg_eq List.not_mem_nil hpoison]
  exact congrArg (fun x => bits x (8 * (i % 4) + 0) 8) hreg

end Sys2Proof.Machine
end

section
/-! PROOFS. O25: the Churn's tables, clause by clause. -/

namespace Sys2Proof.Machine

variable {s : State} {i : Nat}

/-- A field of two clear bits has both clear. -/
theorem bits_pair_zero {w : Word} {lo : Nat} (h : bits w lo 2 = 0) : bits w lo 1 = 0 ∧ bits w (lo + 1) 1 = 0 := by
  simp only [bits] at h ⊢
  rw [Nat.pow_succ 2 lo, ← Nat.div_div_eq_div_mul]
  omega

/-- What CHN_CTRL's own word leaves as it was. -/
theorem State.chnCtrlHeld_on {f : Fld} : s.chnCtrlHeld.on f = s.on f := State.on_congr s (s.get_setReg_id _ f)

/-- Settles O25: a commit shows how the engine stands, its copy takes every pending entry, and a REVERT takes every active one. -/
theorem churnTables : Obligations.ChurnTables := by
  unfold Obligations.ChurnTables
  refine ⟨?commit, ?copy, ?revert, ?clear⟩
  case commit =>
    intro ini w s h
    have hheld : Touches [] [] [F.CHN_SAT_COUNT_COUNT, F.CHN_POISON_COUNT] s
        (s.chnCtrlHeld.when (hit (w ||| 0x1#32) 2) State.chnClrCounts) :=
      (State.chnCtrlHeld_touches.mono (by simp) (by simp) (by simp)).trans
        ((Touches.refl _ _ _ _).when _ fun _ => State.chnClrCounts_touches)
    refine ⟨_, Yields.of_eq rfl (State.writeOne_chnCommit h), State.chnCommit_busy, ?_, ?_, fun hwait hold => ?_, ?_⟩
    · rw [State.chnCommit_held, hheld.engRuns_beside_chn (by decide)]
    · rw [State.chnCommit_capWait, hheld.chnOver_beside_chn (by decide), State.chnOver]
    · exact State.chnCommit_irq hwait ((hheld.on_keeps (by decide)).trans hold)
    · exact (hheld.mono (by simp) (by simp) (by simp)).trans (State.chnCommit_touches.mono (by simp) (by simp) (by simp [chnCommitFlds]))
  case copy =>
    intro s hbusy hthaw hon hfits hpoison
    have hover : s.chnOver = false := by
      rw [State.chnOver]
      rcases hfits with hstop | hle
      · rw [hstop, Bool.false_and]
      · rw [decide_eq_false (Nat.not_lt.2 hle), Bool.and_false]
    have hclean : s.xpClean := State.xpClean_of_poison hpoison
    obtain ⟨hidle, hheld, hwait⟩ := (s.chnCapacity.chnTables (!s.engRuns)).chnDone_flags
    obtain ⟨hcommits, hframe, hfault, hirq⟩ := State.chnFitted_shows hclean
    exact ⟨_, Yields.of_eq rfl (State.chnBoundary_fits hbusy hthaw hon hover), fun _ _ => State.chnFitted_xpActAt hclean,
      fun _ hi => State.chnFitted_sinkAt hclean hi, fun _ hi => State.chnFitted_tapAt hclean hi,
      (State.chnFitted_touches hclean).1 .xpPend (by simp), hidle, hheld, hwait, hcommits, hframe, hfault, hirq,
      fun hstop _ _ hne => State.chnFitted_xpNow hclean hstop hne, State.chnFitted_touches hclean⟩
  case revert =>
    intro ini w s h hcommit hclear
    refine ⟨_, Yields.of_eq rfl (State.writeOne_chnRevert h hcommit hclear), ?_⟩
    have hown : Touches [.xpPend, .xpAct, .xpRamp, .poison] [0x0F] [] s s.chnCtrlHeld :=
      State.chnCtrlHeld_touches.mono (by simp) (by simp) (by simp)
    have hon := State.chnCtrlHeld_on (s := s) (f := F.CHN_STATUS_BUSY)
    cases hbusy : s.on F.CHN_STATUS_BUSY with
    | true =>
      rw [State.chnRevert_busy (hon.trans hbusy)]
      exact ⟨fun _ => rfl, nofun, nofun, nofun, fun _ _ => rfl, hown⟩
    | false =>
      have htouch := State.chnReverted_touches (s := s.chnCtrlHeld)
      rw [State.chnRevert_idle (hon.trans hbusy)]
      refine ⟨nofun, fun _ hclean => State.chnReverted_pend hclean, fun _ _ hi => State.chnReverted_sink hi,
        fun _ i hi => (State.chnReverted_tap hi).trans (s.get_setReg_id _ _), fun i _ => ?_,
        hown.trans (htouch.pages (by simp) fun f hf => .inl (by rw [chnRevertFlds_page f hf]; simp))⟩
      exact State.sinkAt_congr ((htouch.1 .sinkAct (by simp)).trans (State.chnCtrlHeld_touches.1 .sinkAct List.not_mem_nil))
  case clear =>
    intro ini w s h hw
    obtain ⟨hcommit, hrevert⟩ := bits_pair_zero hw
    refine ⟨_, Yields.of_eq rfl (State.writeOne_chnClrCounts h hcommit hrevert), ?_, State.get_set_in (by decide) 0, ?_, ?_⟩
    · exact (State.get_set_off (by decide) _).trans (State.get_set_in (by decide) 0)
    · rw [State.chnClrCounts_touches.get_keeps (by decide), State.chnCtrlHeld_touches.get_keeps (List.forall_mem_nil _)]
    · exact (State.chnCtrlHeld_touches.mono (by simp) (by simp) (by simp)).trans State.chnClrCounts_touches

end Sys2Proof.Machine
end
section
/-! PROOFS. The record in force of a boot image (R487), the end of a load (R490, R491), and a violation inside a record. -/

namespace Sys2Proof.Machine

variable {s t : State}

/-- A choice of two steps changes what either may change. -/
theorem Touches.ite {ps : List Part} {gs : List Nat} {fs : List Fld} {u : State} {c : Prop} [Decidable c] (ht : Touches ps gs fs s t)
    (hu : Touches ps gs fs s u) : Touches ps gs fs s (if c then t else u) := by
  split
  · exact ht
  · exact hu

/-! ## The record in force -/

theorem State.stageWord_congr (hsram : t.sram = s.sram) (hpoison : t.poison = s.poison) (k : Nat) : t.stageWord k = s.stageWord k := by
  have hbad : t.wordPoisoned (sramAddr 26 k) = s.wordPoisoned (sramAddr 26 k) := by
    rw [State.wordPoisoned, hpoison, State.wordPoisoned]
  rw [State.stageWord, State.sramWord, hbad, hsram, State.stageWord, State.sramWord]

@[simp] theorem State.recordWord_setReg (a : Nat) (w : Word) (k : Nat) : (s.setReg a w).recordWord k = s.recordWord k :=
  State.stageWord_congr rfl rfl _

/-- A record is its words. -/
theorem State.record_eq {n : Nat} (h : recordWords (s.recordWord 0) = some n) : s.record = (List.range n).map s.recordWord := by
  have h0 : recordWords (s.stageWord (s.ldr.pos / 4)) = some n := h
  unfold State.record
  dsimp only
  rw [h0]
  rfl

/-- The next record follows the words of this one. -/
theorem State.recordNext_ldr {n : Nat} (h : recordWords (s.recordWord 0) = some n) :
    s.recordNext.ldr = { s.ldr with st := .run, pos := s.ldr.pos + 4 * n, waited := 0, lanes := [] } := by
  rw [State.recordNext, State.modLdr_ldr, State.record_eq h, List.length_map, List.length_range]

theorem State.recordNext_touches : Touches [.ldr] [] [] s s.recordNext := (Touches.refl _ _ _ s).modLdr _ (by simp)

/-- A record of its type is performed. -/
theorem State.recordTake_of {type : Nat} (ho : s.pathOpen 2 = true) (hst : s.ldr.st = .run)
    (ht : bits (s.recordWord 0) 0 8 = type) (f : State → State) : s.recordTake type f = f s := by
  rw [State.recordTake, ho, decide_eq_true hst, decide_eq_true ht]
  rfl

/-- A record that waits goes on. -/
theorem State.recordWait_of {st : LoadState} (ho : s.pathOpen 2 = true) (hst : s.ldr.st = st) (f : State → State) :
    s.recordWait st f = f s := by
  rw [State.recordWait, ho, decide_eq_true hst]
  rfl

/-! ## The end of a load (R491) -/

/-- A load that has ended with this result. -/
def State.ldrEnded (s : State) (w : Word) (offset : Nat) : State :=
  ((s.modLdr (fun l => { l with st := .idle, slots := [] })).modUsb (fun u => { u with imgRx := false })).ldrReport w offset

theorem State.ldrEnded_shows (s : State) (w : Word) (offset : Nat) :
    (s.ldrEnded w offset).ldr.st = .idle ∧ (s.ldrEnded w offset).ldr.result = w ∧ (s.ldrEnded w offset).reg A.SYS_SCRATCH = w ∧
      (s.ldrEnded w offset).ldr.offset = offset ∧ (s.ldrEnded w offset).usb.imgRx = false :=
  ⟨rfl, rfl, State.reg_setReg_self _ _ _, rfl, rfl⟩

theorem State.ldrReport_touches (w : Word) (offset : Nat) : Touches [.ldr, .usb] [] [whole A.SYS_SCRATCH] s (s.ldrReport w offset) := by
  have hreg : Touches [.ldr, .usb] [] [whole A.SYS_SCRATCH] s (s.setReg A.SYS_SCRATCH w) :=
    (Touches.refl _ _ _ s).setReg _ (.inr (by simp))
  exact hreg.put_ldr _ (by simp)

theorem State.ldrEnded_touches (w : Word) (offset : Nat) : Touches [.ldr, .usb] [] [whole A.SYS_SCRATCH] s (s.ldrEnded w offset) :=
  (((Touches.refl _ _ _ s).modLdr _ (by simp)).modUsb _ (by simp)).trans (State.ldrReport_touches w offset)

/-- A load over USB, or one of a hub without a VID, starts no host boot as it ends (R483, R485). -/
theorem State.ldrEnd_eq {error : Nat} (detail offset : Nat) (h : error = 0 ∨ s.ldr.source = 3 ∨ s.get F.USB_ID_VID = 0) :
    s.ldrEnd error detail offset =
      s.ldrEnded (resultWord (if error = 0 then 2 else 3) s.ldr.source error detail) offset := by
  have hend : s.ldrEnd error detail offset =
      (s.ldrEnded (resultWord (if error = 0 then 2 else 3) s.ldr.source error detail) offset).when
        (decide (error ≠ 0) && decide (s.ldr.source ≤ 2)) State.hostBoot := rfl
  rw [hend]
  rcases h with h | h | h
  · simp [h]
  · simp [h]
  · have hvid : (s.ldrEnded (resultWord (if error = 0 then 2 else 3) s.ldr.source error detail) offset).get F.USB_ID_VID = 0 :=
      ((State.ldrEnded_touches _ _).get_keeps (by decide)).trans h
    have hboot : ∀ u : State, u.get F.USB_ID_VID = 0 → u.hostBoot = u := fun u hu => by simp [State.hostBoot, hu]
    cases decide (error ≠ 0) && decide (s.ldr.source ≤ 2)
    · rw [State.when_false]
    · rw [State.when_true, hboot _ hvid]

/-- A record that fails ends the load at its offset. -/
theorem State.recordFail_eq {error : Nat} (detail : Nat) (he : error ≠ 0) (h : s.ldr.source = 3 ∨ s.get F.USB_ID_VID = 0) :
    s.recordFail error detail = s.ldrEnded (resultWord 3 s.ldr.source error detail) s.ldr.pos := by
  rw [State.recordFail, State.ldrEnd_eq _ _ (.inr h), if_neg he]

/-! ## What a violation leaves (R74) -/

section
variable (s) (ini code full : Nat) (write : Bool)

/-- A violation is logged, then recorded on the page of its address, if there is one. -/
theorem State.violation_eq : s.violation ini code write (some full) =
    (s.violLog (violInfo s ini code (if write then 1 else 0)) (BitVec.ofNat 32 (full % 2 ^ 18))).when
      (decide (full < 2 ^ 18) && (pageRow (full / 0x400)).isSome)
      (·.violPage (full / 0x400) code ((if write then 1 else 0) * 2 ^ 21 + ini * 2 ^ 18 + full)) := rfl

theorem State.violLog_touches (info addr : Word) : Touches [] [] (violFlds (full / 0x400)) s (s.violLog info addr) := by
  have hlast : Touches [] [] (violFlds (full / 0x400)) s ((s.setReg A.DBG_VIOL_LAST_ADDR addr).setReg A.DBG_VIOL_LAST_INFO info) :=
    ((Touches.refl _ _ _ s).setReg _ (.inr (by simp [violFlds]))).setReg _ (.inr (by simp [violFlds]))
  exact (hlast.when _ fun _ => (hlast.setReg _ (.inr (by simp [violFlds]))).setReg _ (.inr (by simp [violFlds]))).inc
    (.inr (by simp [violFlds]))

theorem State.violPage_touches (p addr : Nat) : Touches [] [] (violFlds p) s (s.violPage p code addr) :=
  ((((Touches.refl _ _ _ s).set_whole _ (by simp [violFlds, F.PG_LAST_VIOL])).set_whole _ (by simp [violFlds, F.PG_VIOL_COUNT])).set_whole
    _ (by simp [violFlds, F.PG_ERR_ADDR])).irq (.inr (by simp [violFlds]))

/-- A violation, of a read too, writes its log words and its page's record only. -/
theorem State.violation_touches : Touches [] [] (violFlds (full / 0x400)) s (s.violation ini code write (some full)) := by
  rw [State.violation_eq]
  exact Touches.when (s.violLog_touches full _ _) _ fun _ => (s.violLog_touches full _ _).trans (State.violPage_touches _ _ _ _)

variable {s ini code full write}

/-- A register beside the headers and the log reads the same after a violation. -/
theorem State.violation_reg {a : Nat} (ho : 0x40 ≤ a % 0x400)
    (hlog : a ∉ [A.DBG_VIOL_LAST_ADDR, A.DBG_VIOL_LAST_INFO, A.DBG_VIOL_FIRST_ADDR, A.DBG_VIOL_FIRST_INFO, A.DBG_VIOL_COUNT]) :
    (s.violation ini code write (some full)).reg a = s.reg a := by
  simp only [List.mem_cons, List.not_mem_nil, or_false, not_or] at hlog
  obtain ⟨hla, hli, hfa, hfi, hc⟩ := hlog
  refine (s.violation_touches ini code full write).reg_eq List.not_mem_nil ?_
  simp only [violFlds, List.mem_cons, List.not_mem_nil, or_false, forall_eq_or_imp, forall_eq]
  exact ⟨Ne.symm hla, Ne.symm hli, Ne.symm hfa, Ne.symm hfi, Ne.symm hc, by simp only [F.PG_IRQ]; omega,
    by simp only [whole]; omega, by simp only [whole]; omega⟩

theorem State.violation_get {f : Fld} (ho : 0x40 ≤ f.addr % 0x400)
    (hlog : f.addr ∉ [A.DBG_VIOL_LAST_ADDR, A.DBG_VIOL_LAST_INFO, A.DBG_VIOL_FIRST_ADDR, A.DBG_VIOL_FIRST_INFO, A.DBG_VIOL_COUNT]) :
    (s.violation ini code write (some full)).get f = s.get f := by
  rw [State.get, State.violation_reg ho hlog, State.get]

/-- A violation closes no path (R463). -/
theorem State.violation_pathOpen (i : Nat) : (s.violation ini code write (some full)).pathOpen i = s.pathOpen i := by
  have hfrozen : (s.violation ini code write (some full)).frozen = s.frozen := by
    rw [State.frozen, State.violation_get (by decide) (by decide), State.frozen]
  have hdom := (s.violation_touches ini code full write).1 .domState List.not_mem_nil
  have hkept := (s.violation_touches ini code full write).1 .keptMgmt List.not_mem_nil
  simp only [Part.same] at hdom hkept
  simp only [State.pathOpen, State.mgmtRuns, hfrozen, hdom, hkept]

end

/-! ## A violation inside a record (R490) -/

/-- A load that a violation of the record in force has ended. -/
def State.recordStruck (s : State) (code : Nat) (write : Bool) (a : Nat) : State :=
  (s.violation 2 code write (some a)).ldrEnded (resultWord 3 s.ldr.source 7 code) s.ldr.pos

variable {code a : Nat} {write : Bool}

/-- A load without a host boot ends at a violation. -/
theorem State.recordFail_violation (h : s.ldr.source = 3 ∨ s.get F.USB_ID_VID = 0) :
    (s.violation 2 code write (some a)).recordFail 7 code = s.recordStruck code write a := by
  have hldr : (s.violation 2 code write (some a)).ldr = s.ldr := (s.violation_touches 2 code a write).1 .ldr List.not_mem_nil
  have hvid : (s.violation 2 code write (some a)).get F.USB_ID_VID = s.get F.USB_ID_VID := State.violation_get (by decide) (by decide)
  rw [State.recordFail_eq _ (by decide) (by rwa [hldr, hvid]), hldr, State.recordStruck]

theorem State.recordStruck_shows (s : State) (code : Nat) (write : Bool) (a : Nat) :
    (s.recordStruck code write a).ldr.st = .idle ∧
      (s.recordStruck code write a).ldr.result = resultWord 3 s.ldr.source 7 code ∧
      (s.recordStruck code write a).reg A.SYS_SCRATCH = resultWord 3 s.ldr.source 7 code ∧
      (s.recordStruck code write a).ldr.offset = s.ldr.pos ∧ (s.recordStruck code write a).usb.imgRx = false :=
  State.ldrEnded_shows _ _ _

theorem State.recordStruck_touches : Touches [.ldr, .usb] [] [whole A.DBG_VIOL_LAST_ADDR, whole A.DBG_VIOL_LAST_INFO,
    whole A.DBG_VIOL_FIRST_ADDR, whole A.DBG_VIOL_FIRST_INFO, F.DBG_VIOL_COUNT_COUNT, F.PG_IRQ (a / 0x400) 0,
    whole (a / 0x400 * 0x400 + 0x18), whole (a / 0x400 * 0x400 + 0x1C), whole A.SYS_SCRATCH] s (s.recordStruck code write a) :=
  ((s.violation_touches 2 code a write).mono (List.nil_subset _) (List.Subset.refl _) (by simp [violFlds])).trans
    ((State.ldrEnded_touches _ _).mono (List.Subset.refl _) (List.Subset.refl _) (by simp))

/-- The log shows the loader's violation (R74). -/
theorem State.recordStruck_lastInfo (hc : code < 16) :
    bits ((s.recordStruck code true a).reg A.DBG_VIOL_LAST_INFO) 0 4 = code ∧
      bits ((s.recordStruck code true a).reg A.DBG_VIOL_LAST_INFO) 4 3 = 2 := by
  obtain ⟨-, hini, -, hcode⟩ := s.violation_shows (ini := 2) a (by decide) hc
  have hreg : (s.recordStruck code true a).reg A.DBG_VIOL_LAST_INFO =
      (s.violation 2 code true (some a)).reg A.DBG_VIOL_LAST_INFO :=
    (State.ldrEnded_touches _ _).reg_eq List.not_mem_nil (by decide)
  rw [hreg]
  exact ⟨hcode, hini⟩

/-! ## The end of a record's transfer (R490, R492) -/

theorem State.recordEnd_next {n : Nat} (ho : s.pathOpen 2 = true) : State.recordEnd (s, ⟨0, n⟩) = s.recordNext := by
  rw [State.recordEnd, ho]
  rfl

theorem State.recordEnd_violation {n : Nat} (ho : s.pathOpen 2 = true) (hc : code ≠ 0)
    (h : s.ldr.source = 3 ∨ s.get F.USB_ID_VID = 0) :
    State.recordEnd (s.violation 2 code write (some a), ⟨code, n⟩) = s.recordStruck code write a := by
  rw [State.recordEnd, State.violation_pathOpen, ho, Bool.true_or, State.when_true, if_pos hc]
  exact State.recordFail_violation h

end Sys2Proof.Machine
end
section
/-! PROOFS. The records of an image (R487): WRITE, RMW, WAIT, DELAY, COMMIT and END, and O58. -/

namespace Sys2Proof.Machine

variable {s t : State} {a : Nat} {w : Word}

/-! ## WRITE -/

/-- A WRITE hands the words after its address to one transfer. -/
theorem State.imgWrite_eq {c : Nat} {ws : List Word} (ho : s.pathOpen 2 = true) (hst : s.ldr.st = .run)
    (ht : bits (s.recordWord 0) 0 8 = 0x01) (hn : recordWords (s.recordWord 0) = some c)
    (hws : ((List.range c).map s.recordWord).drop 2 = ws) :
    s.imgWrite = State.recordEnd (s.writeTransfer 2 (s.recordWord 1).toNat ws) := by
  rw [State.imgWrite, State.recordTake_of ho hst ht, State.record_eq hn, hws]

/-- One held word, then the next record. -/
theorem State.write_held (ha : heldReg a = true) (h : s.mayWrite 2 a w = true) :
    State.recordEnd (s.writeTransfer 2 a [w]) = (s.setReg a (s.taken a w)).recordNext := by
  have ho := (s.mayWrite_spec h).1
  rw [s.writeTransfer_words ho (List.cons_ne_nil _ _) (by simp), State.putWords_held _ _ ha h, State.putWords_nil]
  exact State.recordEnd_next ((s.pathOpen_setReg_held ha _ _).trans ho)

/-- Two held words, then the next record. -/
theorem State.write_heldPair {v : Word} (ha : heldReg a = true) (hb : heldReg (a + 4) = true) (hw : s.mayWrite 2 a w = true)
    (hv : s.mayWrite 2 (a + 4) v = true) : State.recordEnd (s.writeTransfer 2 a [w, v]) =
      ((s.setReg a (s.taken a w)).setReg (a + 4) (s.taken (a + 4) v)).recordNext := by
  have ho := (s.mayWrite_spec hw).1
  have hab : a ≠ a + 4 := by omega
  rw [s.writeTransfer_words ho (List.cons_ne_nil _ _) (by simp), State.putWords_held _ _ ha hw,
    State.putWords_held _ _ hb ((s.mayWrite_setReg_held ha hb hab _ _ _).trans hv), State.putWords_nil, s.taken_setReg_ne hab]
  exact State.recordEnd_next ((State.pathOpen_setReg_held _ hb _ _).trans ((s.pathOpen_setReg_held ha _ _).trans ho))

/-- A refused word ends the load. -/
theorem State.write_refused (ho : s.pathOpen 2 = true) (hr : s.refusal 2 true a w ≠ 0)
    (hend : s.ldr.source = 3 ∨ s.get F.USB_ID_VID = 0) :
    State.recordEnd (s.writeTransfer 2 a [w]) = s.recordStruck (s.refusal 2 true a w) true a := by
  have hput : s.putWords none 2 a [w] ⟨0, 0⟩ = (s.violation 2 (s.refusal 2 true a w) true (some a), ⟨s.refusal 2 true a w, 0⟩) := by
    rw [State.putWords_cons, if_neg (by rw [ho]; decide), if_neg (by simp [State.mustWait]), if_pos hr]
    rfl
  rw [s.writeTransfer_words ho (List.cons_ne_nil _ _) (by simp), hput, State.recordEnd_violation ho hr hend]

/-! ## RMW -/

theorem State.imgRmw_eq (ho : s.pathOpen 2 = true) (hst : s.ldr.st = .run) (h0 : s.recordWord 0 = 2#32) :
    s.imgRmw = State.recordEnd (s.rmw 2 (s.recordWord 1).toNat (s.recordWord 2) (s.recordWord 3)) := by
  rw [State.imgRmw, State.recordTake_of ho hst (by rw [h0]; rfl)]

variable {mask value : Word}

/-- A read-modify-write of a held register is the write of its word. -/
theorem State.rmw_held (ha : heldReg a = true) (hm : mask ≠ 0) (h : s.mayWrite 2 a (s.rmwWord a mask value) = true) :
    State.recordEnd (s.rmw 2 a mask value) = (s.setReg a (s.taken a (s.rmwWord a mask value))).recordNext := by
  obtain ⟨ho, hr, -, hw⟩ := s.mayWrite_spec h
  have hpeek : (s.peek a).2 = false := by rw [State.peek, s.placeOf_held ha hr]
  have hrmw : s.rmw 2 a mask value = s.putWords none 2 a [s.rmwWord a mask value] ⟨0, 0⟩ := by
    unfold State.rmw
    dsimp only
    rw [ho, hw, hr, hpeek, if_neg (by decide), if_neg hm, if_neg (by decide), if_neg (by decide), if_neg (by decide)]
  rw [hrmw, State.putWords_held _ _ ha h, State.putWords_nil]
  exact State.recordEnd_next ((s.pathOpen_setReg_held ha _ _).trans ho)

theorem State.rmw_refused (ho : s.pathOpen 2 = true) (hm : mask ≠ 0)
    (hr : s.refusal 2 true a (s.rmwWord a mask value) ≠ 0) (hend : s.ldr.source = 3 ∨ s.get F.USB_ID_VID = 0) :
    State.recordEnd (s.rmw 2 a mask value) = s.recordStruck (s.refusal 2 true a (s.rmwWord a mask value)) true a := by
  have hrmw : s.rmw 2 a mask value = (s.violation 2 (s.refusal 2 true a (s.rmwWord a mask value)) true (some a),
      ⟨s.refusal 2 true a (s.rmwWord a mask value), 0⟩) := by
    unfold State.rmw
    dsimp only
    rw [ho, if_neg (by decide), if_neg hm, if_neg (by simp [State.mustWait]), if_pos hr]
    rfl
  rw [hrmw, State.recordEnd_violation ho hr hend]

/-! ## WAIT -/

/-- No refusal is the code of a poisoned word (R72). -/
theorem State.refusal_ne_poison (ini : Nat) (write : Bool) (a : Nat) (w : Word) : s.refusal ini write a w ≠ 10 := by
  simp only [State.refusal]
  repeat' split
  all_goals omega

/-- A read of one register word that nothing hinders changes nothing. -/
theorem State.getWords_clean (ho : s.pathOpen 2 = true) (hr : s.refusal 2 false a 0 = 0) (hp : (s.peek a).2 = false)
    (hsns : a ≠ A.SNS_RESULT) : s.getWords 2 1 a ⟨0, 0⟩ = (s, [(s.peek a).1], ⟨0, 1⟩) := by
  have hdone : s.readDone a = s := by rw [State.readDone, decide_eq_false hsns, Bool.false_and, State.when_false]
  unfold State.getWords
  dsimp only
  rw [ho, if_neg (by decide), if_neg (by simp [State.mustWait]), hr, hp, if_neg (by decide), hdone]
  rfl

/-- A refused read is a violation (R71). -/
theorem State.getWords_refused (ho : s.pathOpen 2 = true) (hr : s.refusal 2 false a 0 ≠ 0) : s.getWords 2 1 a ⟨0, 0⟩ =
    (s.violation 2 (s.refusal 2 false a 0) false (some a), [0], ⟨s.refusal 2 false a 0, 0⟩) := by
  have hcode : ¬ (s.refusal 2 false a 0 = 0 ∧ (s.peek a).2 = true) := fun h => hr h.1
  unfold State.getWords
  dsimp only
  rw [ho, if_neg (by decide), if_neg (by simp [State.mustWait]), if_neg hcode, if_pos hr, decide_eq_false (s.refusal_ne_poison 2 false a 0)]
  rfl

/-- What a poll that reads a word makes of it. -/
theorem State.imgPoll_read (ho : s.pathOpen 2 = true) (hst : s.ldr.st = .poll) (hr : s.refusal 2 false (s.recordWord 1).toNat 0 = 0)
    (hp : (s.peek (s.recordWord 1).toNat).2 = false) (hsns : (s.recordWord 1).toNat ≠ A.SNS_RESULT) :
    s.imgPoll = if (s.peek (s.recordWord 1).toNat).1 &&& s.recordWord 2 = s.recordWord 3 then s.recordNext
      else if (s.recordWord 4).toNat ≤ s.ldr.waited then s.recordFail 8 0
      else s.modLdr (fun l => { l with waited := l.waited + 10 }) := by
  rw [State.imgPoll, State.recordWait_of ho hst]
  dsimp only
  rw [State.getWords_clean ho hr hp hsns]
  rfl

theorem State.imgPoll_refused (ho : s.pathOpen 2 = true) (hst : s.ldr.st = .poll)
    (hr : s.refusal 2 false (s.recordWord 1).toNat 0 ≠ 0) (hend : s.ldr.source = 3 ∨ s.get F.USB_ID_VID = 0) :
    s.imgPoll = s.recordStruck (s.refusal 2 false (s.recordWord 1).toNat 0) false (s.recordWord 1).toNat := by
  rw [State.imgPoll, State.recordWait_of ho hst]
  dsimp only
  rw [State.getWords_refused ho hr, if_pos hr, State.recordFail_violation hend]

/-! ## COMMIT -/

/-- A COMMIT record waits, its lanes listed. -/
def State.commitAwaited (s : State) : State := s.modLdr (fun l => { l with st := .commit, lanes := s.commitLanes })

theorem State.commitAwaited_touches : Touches [.ldr] [] [] s s.commitAwaited := (Touches.refl _ _ _ s).modLdr _ (by simp)

theorem State.commitAwaited_mayWrite : s.commitAwaited.mayWrite 2 a (s.commitAwaited.reg a ||| w) = s.mayWrite 2 a (s.reg a ||| w) := rfl

theorem State.commitAwaited_engRuns : s.commitAwaited.engRuns = s.engRuns := rfl

/-- A COMMIT bit that may be written is written with its register's own word. -/
theorem State.commitWrite_eq {p o : Nat} (hp : placeOf a = .reg p o) (h : s.mayWrite 2 a (s.reg a ||| 1#32) = true) :
    s.commitWrite a = s.writeOne none 2 a (s.reg a ||| 1#32) := by
  rw [State.commitWrite, State.putWords_of_mayWrite h hp]
  exact State.when_false _ _

/-- COMMIT of the crosspoint or of Fife. -/
theorem State.imgCommit_table {n : Nat} (ho : s.pathOpen 2 = true) (hst : s.ldr.st = .run) (ht : bits (s.recordWord 0) 0 8 = 5)
    (h1 : (s.recordWord 1).toNat = n) (hn : n ≠ 2) :
    s.imgCommit = s.commitAwaited.commitWrite (if n = 0 then A.CHN_CTRL else A.FIF_CTRL) := by
  rw [State.imgCommit, State.recordTake_of ho hst ht]
  dsimp only
  rw [h1, if_neg hn, State.commitAwaited]

/-- COMMIT of lanes. -/
theorem State.imgCommit_lanes (ho : s.pathOpen 2 = true) (hst : s.ldr.st = .run) (h0 : s.recordWord 0 = 5#32)
    (h1 : s.recordWord 1 = 2#32) : s.imgCommit = s.commitAwaited.commitFirst := by
  have htarget : (s.recordWord 1).toNat = 2 := by rw [h1]; rfl
  rw [State.imgCommit, State.recordTake_of ho hst (by rw [h0]; rfl)]
  dsimp only
  rw [if_pos htarget, State.commitAwaited]

theorem State.commitFirst_nil (h : s.ldr.lanes = []) : s.commitFirst = s.recordNext := by rw [State.commitFirst, h]

theorem State.commitFirst_cons {n : Nat} {l : List Nat} (h : s.ldr.lanes = n :: l) :
    s.commitFirst = s.commitWrite (A.LANE_COEF_CTRL n) := by
  rw [State.commitFirst, h]

/-- The crosspoint's COMMIT with REVERT and CLR_COUNTS clear begins a commit. -/
theorem State.imgCommit_chn (ho : s.pathOpen 2 = true) (hst : s.ldr.st = .run) (ht : bits (s.recordWord 0) 0 8 = 5)
    (h1 : s.recordWord 1 = 0#32) (hmay : s.mayWrite 2 A.CHN_CTRL (s.reg A.CHN_CTRL ||| 1#32) = true)
    (hclear : s.get F.CHN_CTRL_CLR_COUNTS = 0) : s.imgCommit = s.commitAwaited.chnCtrlHeld.chnCommit := by
  have hw : s.commitAwaited.mayWrite 2 A.CHN_CTRL (s.commitAwaited.reg A.CHN_CTRL ||| 1#32) = true :=
    State.commitAwaited_mayWrite.trans hmay
  have hhit : hit (s.commitAwaited.reg A.CHN_CTRL ||| 1#32) 2 = false := hit_or_clear _ _ (by decide) hclear
  rw [State.imgCommit_table (n := 0) ho hst ht (by rw [h1]; rfl) (by decide), if_pos rfl,
    State.commitWrite_eq chnCtrl_served.1 hw, State.writeOne_chnCommit hw, hhit, State.when_false]

/-- Fife's COMMIT, its STEP kept. -/
theorem State.imgCommit_fif (ho : s.pathOpen 2 = true) (hst : s.ldr.st = .run) (ht : bits (s.recordWord 0) 0 8 = 5)
    (h1 : s.recordWord 1 = 1#32) (hmay : s.mayWrite 2 A.FIF_CTRL (s.reg A.FIF_CTRL ||| 1#32) = true) :
    s.imgCommit = (s.commitAwaited.set F.FIF_CTRL_STEP (s.commitAwaited.get F.FIF_CTRL_STEP)).fifCommit := by
  have hw : s.commitAwaited.mayWrite 2 A.FIF_CTRL (s.commitAwaited.reg A.FIF_CTRL ||| 1#32) = true :=
    State.commitAwaited_mayWrite.trans hmay
  rw [State.imgCommit_table (n := 1) ho hst ht (by rw [h1]; rfl) (by decide), if_neg (by decide),
    State.commitWrite_eq fifCtrl_served.1 hw, State.writeOne_fifCommit hw]
  rfl

/-! ## The end of a COMMIT's wait -/

/-- The wait's next step, as the commit's condition stands. -/
theorem State.imgCommitDone_eq (timeout : Bool) (ho : s.pathOpen 2 = true) (hst : s.ldr.st = .commit) :
    s.imgCommitDone timeout =
      if s.commitState.2 then s.recordFail 9 (s.recordWord 1).toNat
      else if s.commitState.1 then
        if (s.recordWord 1).toNat = 2 then (s.modLdr (fun l => { l with lanes := l.lanes.drop 1 })).commitFirst else s.recordNext
      else if timeout then s.recordFail 9 (s.recordWord 1).toNat
      else s := by
  rw [State.imgCommitDone, State.recordWait_of ho hst]

theorem State.commitState_table (h : s.recordWord 1 = 0#32 ∨ s.recordWord 1 = 1#32) :
    s.commitState = (!(if s.recordWord 1 = 0#32 then s.on F.CHN_STATUS_BUSY else s.on F.FIF_STATUS_RAMPING), false) := by
  rcases h with h | h <;> rw [State.commitState, h] <;> rfl

theorem State.commitState_lane {n : Nat} {l : List Nat} (h : s.recordWord 1 = 2#32) (hl : s.ldr.lanes = n :: l) :
    s.commitState = (!s.on (F.LANE_COEF_STATUS_BUSY n), s.on (F.LANE_COEF_STATUS_ERR n)) := by
  rw [State.commitState, h, hl]
  rfl

/-- A commit of a table that is over leads on; one that is not waits on until its bound. -/
theorem State.imgCommitDone_table (timeout : Bool) (ho : s.pathOpen 2 = true) (hst : s.ldr.st = .commit)
    (h1 : s.recordWord 1 = 0#32 ∨ s.recordWord 1 = 1#32) : s.imgCommitDone timeout =
      if (if s.recordWord 1 = 0#32 then s.on F.CHN_STATUS_BUSY else s.on F.FIF_STATUS_RAMPING) then
        (if timeout then s.recordFail 9 (s.recordWord 1).toNat else s)
      else s.recordNext := by
  have hne : (s.recordWord 1).toNat ≠ 2 := by rcases h1 with h | h <;> rw [h] <;> decide
  rw [State.imgCommitDone_eq timeout ho hst, State.commitState_table h1]
  dsimp only
  rw [if_neg Bool.false_ne_true, if_neg hne]
  generalize (if s.recordWord 1 = 0#32 then s.on F.CHN_STATUS_BUSY else s.on F.FIF_STATUS_RAMPING) = busy
  cases busy <;> rfl

/-- The commit of the last lane: an error or the bound ends the load. -/
theorem State.imgCommitDone_lane {n : Nat} (timeout : Bool) (ho : s.pathOpen 2 = true) (hst : s.ldr.st = .commit)
    (h1 : s.recordWord 1 = 2#32) (hl : s.ldr.lanes = [n]) : s.imgCommitDone timeout =
      if s.on (F.LANE_COEF_STATUS_ERR n) then s.recordFail 9 2
      else if s.on (F.LANE_COEF_STATUS_BUSY n) then (if timeout then s.recordFail 9 2 else s)
      else (s.modLdr (fun l => { l with lanes := l.lanes.drop 1 })).recordNext := by
  have htarget : (s.recordWord 1).toNat = 2 := by rw [h1]; rfl
  have hnone : (s.modLdr (fun l => { l with lanes := l.lanes.drop 1 })).ldr.lanes = [] := congrArg (List.drop 1) hl
  rw [State.imgCommitDone_eq timeout ho hst, State.commitState_lane h1 hl, htarget]
  dsimp only
  rw [if_pos rfl, State.commitFirst_nil hnone]
  cases s.on (F.LANE_COEF_STATUS_BUSY n) <;> rfl

/-! ## O58 -/

/-- Settles O58: each record is its transfer, its wait or its commit, and then the next record or the end of the load. -/
theorem imageRecords : Obligations.ImageRecords := by
  unfold Obligations.ImageRecords
  refine ⟨?write, ?writePair, ?writeRefused, ?rmw, ?rmwRefused, ?wait, ?poll, ?pollRefused, ?delay, ?delayOver, ?commitChn, ?commitFif,
    ?commitNone, ?commitLane, ?doneTable, ?doneLane, ?imageEnd⟩
  case write =>
    intro s ho hst h0 ha h
    have hn : recordWords (s.recordWord 0) = some 3 := by rw [h0]; rfl
    refine ⟨_, Yields.of_eq rfl ((State.imgWrite_eq ho hst (by rw [h0]; rfl) hn rfl).trans (State.write_held ha h)), ?_, ?_, ?_⟩
    · exact State.reg_setReg_self _ _ _
    · exact State.recordNext_ldr ((congrArg recordWords (State.recordWord_setReg _ _ _)).trans hn)
    · exact ((Touches.refl _ _ _ s).setReg _ (.inr (by simp))).trans (State.recordNext_touches.mono (by simp) (by simp) (by simp))
  case writePair =>
    intro s ho hst h0 ha hb hw hv
    have hn : recordWords (s.recordWord 0) = some 4 := by rw [h0]; rfl
    refine ⟨_, Yields.of_eq rfl ((State.imgWrite_eq ho hst (by rw [h0]; rfl) hn rfl).trans (State.write_heldPair ha hb hw hv)), ?_, ?_,
      ?_, ?_⟩
    · exact (State.reg_setReg_ne _ _ (by omega)).trans (State.reg_setReg_self _ _ _)
    · exact State.reg_setReg_self _ _ _
    · exact State.recordNext_ldr (n := 4) (by rw [State.recordWord_setReg, State.recordWord_setReg, hn])
    · exact (((Touches.refl _ _ _ s).setReg _ (.inr (by simp))).setReg _ (.inr (by simp))).trans
        (State.recordNext_touches.mono (by simp) (by simp) (by simp))
  case writeRefused =>
    intro s ho hst h0 hr hend
    have hn : recordWords (s.recordWord 0) = some 3 := by rw [h0]; rfl
    obtain ⟨hidle, hresult, hscratch, hoffset, hrx⟩ := s.recordStruck_shows _ true (s.recordWord 1).toNat
    obtain ⟨hcode, hini⟩ := State.recordStruck_lastInfo (s := s) (a := (s.recordWord 1).toNat)
      (s.refusal_lt 2 true (s.recordWord 1).toNat (s.recordWord 2))
    exact ⟨_, Yields.of_eq rfl ((State.imgWrite_eq ho hst (by rw [h0]; rfl) hn rfl).trans (State.write_refused ho hr hend)),
      hidle, hresult, hscratch, hoffset, hrx, hcode, hini, State.recordStruck_touches⟩
  case rmw =>
    intro s ho hst h0 hm ha h
    have hn : recordWords (s.recordWord 0) = some 4 := by rw [h0]; rfl
    refine ⟨_, Yields.of_eq rfl ((State.imgRmw_eq ho hst h0).trans (State.rmw_held ha hm h)), ?_, ?_, ?_⟩
    · exact State.reg_setReg_self _ _ _
    · exact State.recordNext_ldr ((congrArg recordWords (State.recordWord_setReg _ _ _)).trans hn)
    · exact ((Touches.refl _ _ _ s).setReg _ (.inr (by simp))).trans (State.recordNext_touches.mono (by simp) (by simp) (by simp))
  case rmwRefused =>
    intro s ho hst h0 hm hend hr
    obtain ⟨hidle, hresult, hscratch, hoffset, hrx⟩ := s.recordStruck_shows _ true (s.recordWord 1).toNat
    exact ⟨_, Yields.of_eq rfl ((State.imgRmw_eq ho hst h0).trans (State.rmw_refused ho hm hr hend)),
      hidle, hresult, hscratch, hoffset, hrx, State.recordStruck_touches⟩
  case wait =>
    intro s ho hst ht
    exact ⟨_, Yields.of_eq rfl (State.recordTake_of ho hst ht _), rfl, (Touches.refl _ _ _ s).modLdr _ (by simp)⟩
  case poll =>
    intro s ho hst h0 hr hp hsns hend
    have hn : recordWords (s.recordWord 0) = some 5 := by rw [h0]; rfl
    have hfail := s.recordFail_eq 0 (error := 8) (by decide) hend
    refine ⟨_, Yields.of_eq rfl (State.imgPoll_read ho hst hr hp hsns), fun hmatch => ?_, fun hno hlate => ?_, fun hno hearly => ?_, ?_⟩
    · rw [if_pos hmatch]
      exact ⟨State.recordNext_ldr hn, rfl⟩
    · rw [if_neg hno, if_pos hlate, hfail]
      exact State.ldrEnded_shows _ _ _
    · rw [if_neg hno, if_neg (Nat.not_le.2 hearly)]
      exact ⟨rfl, rfl⟩
    · rw [hfail]
      exact (State.recordNext_touches.mono (by simp) (by simp) (by simp)).ite
        ((State.ldrEnded_touches _ _).ite ((Touches.refl _ _ _ s).modLdr _ (by simp)))
  case pollRefused =>
    intro s ho hst _ hr hend
    obtain ⟨hidle, hresult, hscratch, hoffset, hrx⟩ := s.recordStruck_shows _ false (s.recordWord 1).toNat
    exact ⟨_, Yields.of_eq rfl (State.imgPoll_refused ho hst hr hend), hidle, hresult, hscratch, hoffset, hrx,
      State.recordStruck_touches⟩
  case delay =>
    intro s ho hst ht
    exact ⟨_, Yields.of_eq rfl (State.recordTake_of ho hst ht _), rfl, (Touches.refl _ _ _ s).modLdr _ (by simp)⟩
  case delayOver =>
    intro s ho hst h0
    have hn : recordWords (s.recordWord 0) = some 2 := by rw [h0]; rfl
    exact ⟨_, Yields.of_eq rfl (State.recordWait_of ho hst _), State.recordNext_ldr hn, State.recordNext_touches⟩
  case commitChn =>
    intro s ho hst ht h1 hmay _ hclear
    have htouch : Touches [.ldr] [] [] s s.commitAwaited.chnCtrlHeld :=
      State.commitAwaited_touches.trans (State.chnCtrlHeld_touches.mono (by simp) (by simp) (by simp))
    refine ⟨_, Yields.of_eq rfl (State.imgCommit_chn ho hst ht h1 hmay hclear), ?_, State.chnCommit_busy, ?_, ?_⟩
    · exact State.chnCommit_touches.1 .ldr List.not_mem_nil
    · rw [State.chnCommit_held, State.chnCtrlHeld_touches.engRuns_beside_chn (List.forall_mem_nil _), State.commitAwaited_engRuns]
    · exact (htouch.mono (by simp) (by simp) (by simp)).trans
        (State.chnCommit_touches.mono (by simp) (by simp) (by simp [chnCommitFlds]))
  case commitFif =>
    intro s ho hst ht h1 hmay
    have hstep : Touches [] [] [] s.commitAwaited (s.commitAwaited.set F.FIF_CTRL_STEP (s.commitAwaited.get F.FIF_CTRL_STEP)) :=
      Touches.set_same (by decide)
    refine ⟨_, Yields.of_eq rfl (State.imgCommit_fif ho hst ht h1 hmay), ?_, fun c hc n hn => ?_, ?_⟩
    · exact State.fifCommit_touches.1 .ldr (by simp)
    · rw [State.fifCommit_fifGoal hc hn, hstep.get_keeps (List.forall_mem_nil _)]
      exact State.commitAwaited_touches.get_keeps (List.forall_mem_nil _)
    · exact ((State.commitAwaited_touches.mono (by simp) (by simp) (by simp)).trans (hstep.mono (by simp) (by simp) (by simp))).trans
        (State.fifCommit_touches.mono (by simp) (by simp) (by simp [fifFlds]))
  case commitNone =>
    intro s ho hst h0 h1 hnone
    have hn : recordWords (s.commitAwaited.recordWord 0) = some 4 := (congrArg recordWords h0).trans rfl
    exact ⟨_, Yields.of_eq rfl ((State.imgCommit_lanes ho hst h0 h1).trans (State.commitFirst_nil hnone)),
      State.recordNext_ldr hn, State.commitAwaited_touches.trans State.recordNext_touches⟩
  case commitLane =>
    intro n s ho hst h0 h1 hlanes hmay hrun _ hidle hcoef
    have hw : s.commitAwaited.mayWrite 2 (A.LANE_COEF_CTRL n) (s.commitAwaited.reg (A.LANE_COEF_CTRL n) ||| 1#32) = true :=
      State.commitAwaited_mayWrite.trans hmay
    have hlive : s.commitAwaited.laneIdle n = false := by
      have hphase : (s.commitAwaited.laneAt n).phase = .running := hrun
      rw [State.laneIdle_eq, hphase]
      rfl
    obtain ⟨t, ht, hlane, htouch⟩ := State.writeOne_laneCommit_live hw hlive rfl hcoef
    have hidleT : t.laneIdle n = false := by rw [State.laneIdle_eq, hlane, ← State.laneIdle_eq, hlive]
    obtain ⟨hwait, -, -, hcommit⟩ := State.laneCommit_live hidleT
    obtain ⟨hframe, hbusy⟩ := hwait (hlane ▸ hidle)
    have hplace : placeOf (A.LANE_COEF_CTRL n) = .reg (pgLANE n) 0x060 :=
      (laneDefs_served (n := n) (0x060, laneCoefCtrlDef) List.mem_cons_self).1
    have hfirst : s.commitAwaited.ldr.lanes = [n.val] := hlanes
    have hldr : s.commitAwaited.ldr = { s.ldr with st := .commit, lanes := [n.val] } := by
      rw [State.commitAwaited, State.modLdr_ldr, hlanes]
    have himg : s.imgCommit = t.laneCommit n := by
      rw [State.imgCommit_lanes ho hst h0 h1, State.commitFirst_cons hfirst, State.commitWrite_eq hplace hw, ht]
    refine ⟨_, Yields.of_eq rfl himg, ?_, hframe, hbusy, ?_⟩
    · exact (hcommit.1 .ldr (by simp)).trans ((htouch.1 .ldr (by simp)).trans hldr)
    · exact ((State.commitAwaited_touches.mono (by simp) (by simp) (by simp)).trans (htouch.mono (by simp) (by simp) (by simp))).trans
        (hcommit.mono (by simp) (by simp) (by simp))
  case doneTable =>
    intro timeout s ho hst h0 h1 hend
    have hn : recordWords (s.recordWord 0) = some 4 := by rw [h0]; rfl
    have hfail := s.recordFail_eq (s.recordWord 1).toNat (error := 9) (by decide) hend
    refine ⟨_, Yields.of_eq rfl (State.imgCommitDone_table timeout ho hst h1), fun hdone => ?_, fun hbusy hbound => ?_,
      fun hbusy hearly => ?_, ?_⟩
    · rw [hdone]
      exact ⟨State.recordNext_ldr hn, rfl⟩
    · rw [hbusy, if_pos rfl, if_pos hbound, hfail]
      exact State.ldrEnded_shows _ _ _
    · rw [hbusy, if_pos rfl, hearly]
      exact ⟨rfl, rfl, rfl⟩
    · rw [hfail]
      exact ((State.ldrEnded_touches _ _).ite (Touches.refl _ _ _ s)).ite (State.recordNext_touches.mono (by simp) (by simp) (by simp))
  case doneLane =>
    intro timeout n s ho hst h0 h1 hlanes hend
    have hn : recordWords ((s.modLdr (fun l => { l with lanes := l.lanes.drop 1 })).recordWord 0) = some 4 :=
      (congrArg recordWords h0).trans rfl
    have hfail := s.recordFail_eq 2 (error := 9) (by decide) hend
    refine ⟨_, Yields.of_eq rfl (State.imgCommitDone_lane timeout ho hst h1 hlanes), fun hok hdone => ?_, fun hbad => ?_,
      fun hok hbusy hearly => ?_, ?_⟩
    · rw [hok, hdone]
      exact ⟨State.recordNext_ldr hn, rfl⟩
    · rw [hfail]
      rcases hbad with herr | ⟨hbusy, hbound⟩
      · rw [if_pos herr]
        exact State.ldrEnded_shows _ _ _
      · rw [if_pos hbusy, if_pos hbound, ite_self]
        exact State.ldrEnded_shows _ _ _
    · rw [hok, hbusy, hearly]
      exact ⟨rfl, rfl⟩
    · rw [hfail]
      exact (State.ldrEnded_touches _ _).ite (((State.ldrEnded_touches _ _).ite (Touches.refl _ _ _ s)).ite
        (((Touches.refl _ _ _ s).modLdr _ (by simp)).trans (State.recordNext_touches.mono (by simp) (by simp) (by simp))))
  case imageEnd =>
    intro s ho hst ht
    obtain ⟨hidle, hresult, hscratch, hoffset, -⟩ := s.ldrEnded_shows (resultWord 2 s.ldr.source 0 0) (s.stageWord 2).toNat
    exact ⟨_, Yields.of_eq rfl ((State.recordTake_of ho hst ht _).trans (State.ldrEnd_eq 0 _ (.inl rfl))), hidle, hresult, hscratch,
      hoffset, rfl, State.ldrEnded_touches _ _⟩

end Sys2Proof.Machine
end
